-- ==== Sys2Proof/Word.lean ====
section
/-! DEFINITION. The word types of the device and their plainest arithmetic: bytes, 32- and 64-bit register words, and the little-endian byte order of R7. -/

namespace Sys2Proof

/-- One byte of host memory, of a tier, or of a record. -/
abbrev Byte := BitVec 8

/-- A 32-bit word: an FP32 pattern, a token id, a journal entry. -/
abbrev Word32 := BitVec 32

/-- A 64-bit register value (R10). -/
abbrev Word64 := BitVec 64

/-- Bits `[lo + wd − 1 : lo]` of a natural number. -/
def bitsOf (v lo wd : Nat) : Nat := (v / 2 ^ lo) % 2 ^ wd

/-- Bit `n` of a natural number. -/
def bitAt (v n : Nat) : Bool := bitsOf v n 1 == 1

/-- A Bool as a one-bit number. -/
def ofBool (b : Bool) : Nat := if b then 1 else 0

/-- The signed value of the low `wd` bits of `v`, in two's complement. -/
def signedOf (wd v : Nat) : Int :=
  let x := v % 2 ^ wd
  if 2 * x < 2 ^ wd then Int.ofNat x else Int.ofNat x - Int.ofNat (2 ^ wd)

/-- The `wd`-bit two's-complement pattern of an integer. -/
def patternOf (wd : Nat) (v : Int) : Nat := (v % Int.ofNat (2 ^ wd)).toNat

/-- The `n` bytes of `v`, least significant first (R7: every multi-byte field is little-endian). -/
def leBytes (n v : Nat) : List Byte :=
  (List.range n).map fun i => BitVec.ofNat 8 (v / 2 ^ (8 * i))

/-- The number that a little-endian byte string spells (R7). -/
def leNat : List Byte → Nat
  | [] => 0
  | b :: bs => b.toNat + 256 * leNat bs

/-- The `n` bytes at offset `o` of a byte string, as a number (bytes past its end read 0). -/
def leAt (bs : List Byte) (o n : Nat) : Nat := leNat ((bs.drop o).take n)

end Sys2Proof
end

