-- ==== Sys2Proof/Formats.lean ====
section
/-! DEFINITION. The layouts of the records that reach the row: strike descriptors (R44), load manifests (R202 to R206), and what the porter reads of them. Each parser reads the little-endian bytes of the spec's own table. -/

namespace Sys2Proof

/-- A strike descriptor (R44). `rsvd` holds the reserved bits, which R45 requires to be 0. -/
structure Desc where
  group  : Nat
  stock  : Bool
  fresh  : Bool
  wide   : Bool
  trans  : Bool
  replay : Bool
  mask   : Nat
  range  : Nat
  frange : Nat
  slot   : Nat
  fslot  : Nat
  ftag   : Nat
  tag    : Nat
  rsvd   : Nat
  part   : Nat              -- no bits of the word: the strike of its vector that a fresh descriptor makes, as its feed's group less 4
deriving DecidableEq, Repr

/-- The descriptor that a 128-bit word spells (R44). -/
def Desc.ofNat (w : Nat) : Desc :=
  { group := bitsOf w 0 2, stock := bitAt w 2, fresh := bitAt w 3, wide := bitAt w 4, trans := bitAt w 5,
    replay := bitAt w 6, mask := bitsOf w 8 8, range := bitsOf w 16 4, frange := bitsOf w 20 4,
    slot := bitsOf w 24 2, fslot := bitsOf w 28 4, ftag := bitsOf w 32 16, tag := bitsOf w 64 64,
    rsvd := bitsOf w 7 1 + bitsOf w 26 2 + bitsOf w 48 16, part := 0 }

/-- The input vector formats of R110. -/
inductive VecFmt where
  | fp32 | bf16 | e4m3 | e5m2 | e2m3 | e3m2 | e2m1 | int8
deriving DecidableEq, Repr

/-- The weight formats of R30, by their FMT code. -/
structure WFmt where
  levels : Nat
  zero   : Nat
  pz     : Nat
  shift  : Nat
deriving DecidableEq, Repr

/-- The format table of R30: 0 W4, 1 W3, 2 W2, 3 W1.6. -/
def WFmt.ofCode : Nat → WFmt
  | 0 => ⟨16, 8, 8, 0⟩
  | 1 => ⟨8, 4, 9, 1⟩
  | 2 => ⟨4, 2, 10, 2⟩
  | _ => ⟨3, 1, 8, 2⟩

/-- The grid position of a level code of a format (R30): L, 2L + 1, 4L + 2, 4L + 4. -/
def gridPos (fmt l : Nat) : Nat :=
  match fmt with
  | 0 => l
  | 1 => 2 * l + 1
  | 2 => 4 * l + 2
  | _ => 4 * l + 4

/-- A pitch map entry (R203). -/
structure Pitch where
  tileId : Nat
  stall  : Nat
  group  : Nat
  flags  : Nat
  range  : Nat
  mask   : Nat
  fmt    : Nat
  ndesig : Nat
  shard  : Nat
  offset : Nat
  coltab : Nat
  permShard  : Nat
  permOffset : Nat
  desig  : List Nat
  rsvd   : Nat
deriving DecidableEq, Repr

/-- The pitch map entry that 128 bytes spell (R203). -/
def Pitch.ofBytes (b : List Byte) : Pitch :=
  { tileId := leAt b 0 4, stall := leAt b 4 2, group := leAt b 6 1, flags := leAt b 7 1, range := leAt b 8 1,
    mask := leAt b 9 1, fmt := leAt b 0xA 1, ndesig := leAt b 0xB 1, shard := leAt b 0xC 4, offset := leAt b 0x10 8,
    coltab := leAt b 0x18 4, permShard := leAt b 0x1C 4, permOffset := leAt b 0x20 8,
    desig := (List.range 32).map fun i => leAt b (0x28 + 2 * i) 2, rsvd := leAt b 0x68 24 }

/-- The designated channels of the entry (R94): the first NDESIG indices. -/
def Pitch.channels (p : Pitch) : List Nat := p.desig.take p.ndesig

/-- Bit 0 of FLAGS: carried residuals (R118). -/
def Pitch.carry (p : Pitch) : Bool := bitAt p.flags 0
/-- Bit 1 of FLAGS: always wide (R125). -/
def Pitch.wide (p : Pitch) : Bool := bitAt p.flags 1
/-- Bit 2 of FLAGS: paired (R193). -/
def Pitch.paired (p : Pitch) : Bool := bitAt p.flags 2

/-- A stream entry (R204). -/
structure Stream where
  shard  : Nat
  fmt    : Nat
  flags  : Nat
  frange : Nat
  offset : Nat
  inRows : Nat
  outCols : Nat
  stride : Nat
  tileId : Nat
  coltab : Nat
  rsvd   : Nat
deriving DecidableEq, Repr

/-- The stream entry that 32 bytes spell (R204). -/
def Stream.ofBytes (b : List Byte) : Stream :=
  { shard := leAt b 0 4, fmt := leAt b 4 1, flags := leAt b 5 1, frange := leAt b 6 1, offset := leAt b 8 8,
    inRows := leAt b 0x10 2, outCols := leAt b 0x12 2, stride := leAt b 0x14 4, tileId := leAt b 0x18 4,
    coltab := leAt b 0x1C 4, rsvd := leAt b 7 1 }

/-- A shard table entry (R205). -/
structure ShardEntry where
  size   : Nat
  kind   : Nat
  tier   : Nat
  flags  : Nat
  heat   : Nat
  expert : Nat
  digest : Nat
  iv     : Nat
  gcmTag : Nat
  rsvd   : Nat
deriving DecidableEq, Repr

/-- The shard table entry that 128 bytes spell (R205). -/
def ShardEntry.ofBytes (b : List Byte) : ShardEntry :=
  { size := leAt b 0 8, kind := leAt b 8 1, tier := leAt b 9 1, flags := leAt b 0xA 2, heat := leAt b 0xC 4,
    expert := leAt b 0x10 4, digest := leAt b 0x20 64, iv := leAt b 0x60 12, gcmTag := leAt b 0x6C 16,
    rsvd := leAt b 0x14 12 + leAt b 0x7C 4 }

/-- The shard is kept encrypted in tier 2 (R201). -/
def ShardEntry.enc (e : ShardEntry) : Bool := bitAt e.flags 0
/-- The shard's expert may be fenced (R216). -/
def ShardEntry.fenceable (e : ShardEntry) : Bool := bitAt e.flags 1
/-- The shard is dense: its loss puts the slot in HELD (R225). -/
def ShardEntry.dense (e : ShardEntry) : Bool := bitAt e.flags 2
/-- The EXPERT field names an expert. -/
def ShardEntry.hasExpert (e : ShardEntry) : Bool := e.expert != 0xFFFFFFFF

/-- A contribution record of the reduction table (R206). -/
structure Contrib where
  source  : Nat
  eighth  : Nat
  ordinal : Nat
  rsvd    : Nat
deriving DecidableEq, Repr

/-- SOURCE of a digital partial (R206). -/
def digitalSource : Nat := 0xFFFFFFFE

/-- A reduction record (R206). -/
structure RedRec where
  id      : Nat
  xfer    : Nat
  partRow : List Nat
  partDev : List Nat
  outRow  : Nat
  outDev  : Nat
  contribs : List Contrib
  rsvd    : Nat
deriving DecidableEq, Repr

/-- The contribution record that 8 bytes spell. -/
def Contrib.ofBytes (b : List Byte) : Contrib := ⟨leAt b 0 4, leAt b 4 1, leAt b 6 2, leAt b 5 1⟩

/-- One reduction record at the front of the table, and how many bytes it takes. -/
def RedRec.ofBytes (b : List Byte) : RedRec × Nat :=
  let n := leAt b 4 2
  ({ id := leAt b 0 4, xfer := leAt b 6 1, partRow := (List.range 8).map fun i => leAt b (8 + i) 1,
     partDev := (List.range 8).map fun i => leAt b (0x10 + i) 1, outRow := leAt b 0x18 1, outDev := leAt b 0x19 1,
     contribs := (List.range n).map fun i => Contrib.ofBytes ((b.drop (32 + 8 * i)).take 8),
     rsvd := leAt b 7 1 + leAt b 0x1A 6 }, 32 + 8 * n)

/-- `n` reduction records of a table. -/
def RedRec.table : Nat → List Byte → List RedRec
  | 0, _ => []
  | n + 1, b => let (r, k) := RedRec.ofBytes b; r :: RedRec.table n (b.drop k)

/-- A load manifest (R202): its header, and the sections read by their own layouts. -/
structure Manifest where
  modelId    : Nat
  version    : Nat
  flags      : Nat
  imageId    : Nat
  generation : Nat
  seed       : Nat
  epsilon    : Nat
  kvPages    : Nat
  keyIndex   : Nat
  types      : List Nat          -- TYPE of each section table entry
  offsets    : List Nat          -- OFFSET of each section table entry
  sizes      : List Nat          -- SIZE of each section table entry
  counts     : List Nat          -- COUNT of each section table entry
  pitch      : List Pitch
  streams    : List Stream
  shards     : List ShardEntry
  columns    : List (List Nat)   -- 1,024 BF16 scales each
  reductions : List RedRec
  rsvd       : Nat               -- every reserved byte of the header, added up
  digest     : Nat               -- BODY_DIGEST
  sigR       : Nat               -- SIG_R
  sigS       : Nat               -- SIG_S
deriving DecidableEq, Repr

/-- The manifest that bears nothing: what an empty slot holds. -/
def Manifest.empty : Manifest :=
  ⟨0, 0, 0, 0, 0, 0, 0, 0, 0, [], [], [], [], [], [], [], [], [], 0, 0, 0, 0⟩

/-- FLAGS bit 0: canonical reductions. -/
def Manifest.canon (m : Manifest) : Bool := bitAt m.flags 0
/-- FLAGS bit 1: expert fencing allowed. -/
def Manifest.fence (m : Manifest) : Bool := bitAt m.flags 1
/-- FLAGS bit 2: KV_STRICT (R245). -/
def Manifest.kvStrict (m : Manifest) : Bool := bitAt m.flags 2

/-- The big-endian number of the n bytes at an offset (FIPS 186-5). -/
def beAt (b : List Byte) (off n : Nat) : Nat := leAt (((b.drop off).take n).reverse) 0 n

/-- The records of a section of `size`-byte entries. -/
def entriesOf (size count off : Nat) (b : List Byte) : List (List Byte) :=
  (List.range count).map fun i => (b.drop (off + size * i)).take size

/-- The manifest that a byte string spells (R202 to R206). -/
def Manifest.ofBytes (b : List Byte) : Manifest :=
  let n := leAt b 0x1C 4
  let sects := (List.range (min n 5)).map fun i =>
    let e := b.drop (0x140 + 24 * i)
    (leAt e 0 4, leAt e 4 4, leAt e 8 8, leAt e 16 8)
  let sect (t : Nat) : Nat × Nat := match sects.find? (fun x => x.1 == t) with
    | .some (_, c, o, _) => (c, o)
    | .none => (0, 0)
  let recs (t size : Nat) : List (List Byte) := entriesOf size (sect t).1 (sect t).2 b
  { modelId := leAt b 0 8, version := leAt b 8 4, flags := leAt b 0xC 4, imageId := leAt b 0x10 8,
    generation := leAt b 0x18 4, seed := leAt b 0x20 8, epsilon := leAt b 0x28 4, kvPages := leAt b 0x2C 4,
    keyIndex := leAt b 0x30 4, types := sects.map (·.1), counts := sects.map (·.2.1), offsets := sects.map (·.2.2.1),
    sizes := sects.map (·.2.2.2),
    pitch := (recs 1 128).map Pitch.ofBytes, streams := (recs 2 32).map Stream.ofBytes,
    shards := (recs 3 128).map ShardEntry.ofBytes,
    columns := (recs 4 2048).map fun c => (List.range 1024).map fun i => leAt c (2 * i) 2,
    reductions := if (sect 5).1 = 0 then [] else RedRec.table (sect 5).1 (b.drop (sect 5).2),
    rsvd := leAt b 0x34 12 + leAt b 0x104 60 + (leAt b 0xC 4) / 8 + (if n = 0 ∨ n > 5 then 1 else 0),
    digest := leAt b 0x40 64, sigR := beAt b 0x80 66, sigS := beAt b 0xC2 66 }

/-- The header of a stocking image (R171). -/
structure ImageHdr where
  imageId   : Nat
  version   : Nat
  count     : Nat
  recOffset : Nat
  keyIndex  : Nat
  digest    : Nat
  sigR      : Nat
  sigS      : Nat
  rsvd      : Nat
deriving DecidableEq, Repr

/-- The header that 320 bytes spell (R171). -/
def ImageHdr.ofBytes (b : List Byte) : ImageHdr :=
  { imageId := leAt b 0 8, version := leAt b 8 4, count := leAt b 0xC 4, recOffset := leAt b 0x10 8,
    keyIndex := leAt b 0x18 4, digest := leAt b 0x40 64, sigR := beAt b 0x80 66, sigS := beAt b 0xC2 66,
    rsvd := leAt b 0x1C 36 + leAt b 0x104 60 }

/-- A crate record of a stocking image (R172). -/
structure CrateRec where
  index   : Nat
  fmt     : Nat
  flags   : Nat
  partner : Nat
  offset  : Nat
  digest  : Nat
  rsvd    : Nat
deriving DecidableEq, Repr

/-- The record that 96 bytes spell (R172). -/
def CrateRec.ofBytes (b : List Byte) : CrateRec :=
  { index := leAt b 0 4, fmt := leAt b 4 1, flags := leAt b 5 1, partner := leAt b 8 4, offset := leAt b 0x10 8,
    digest := leAt b 0x20 64, rsvd := leAt b 6 2 + leAt b 0xC 4 + leAt b 0x18 8 + leAt b 5 1 / 2 }

/-- Bit 0 of FLAGS. -/
def CrateRec.paired (r : CrateRec) : Bool := bitAt r.flags 0

/-- The level code for row i and column j of a crate's level data (R172). -/
def levelCode (b : List Byte) (i j : Nat) : Nat :=
  let byte := ((b[(i * 1024 + j) / 2]?).getD 0#8).toNat
  if j % 2 = 0 then byte % 16 else byte / 16

end Sys2Proof
end

