-- ==== Sys2Proof/Operand.lean ====
section
/-! DEFINITION. The operands of the commands that are records: who makes an access, what the converters deliver, what an input vector carries. -/

namespace Sys2Proof

/-- Who makes a register access (R572, R576): a PCIe function, a clerk, or the I3C management interface. -/
inductive Who where
  | func (f : Nat)
  | clerk (k : Nat)
  | i3c
deriving DecidableEq, Repr

/-- What reaches the tally engine from one strike (R51, R57, R61), with the verdicts of the memories the check lane reads. -/
structure Codes where
  stock    : List Nat      -- stock codes of an A4 strike, of the high-nibble strike of a pair, or the row codes of a transpose strike
  low      : List Nat      -- codes of the low-nibble strike of a pair
  fresh    : List Nat      -- codes of the fresh strike
  refs     : List Nat      -- REF_Z, REF_LO, REF_HI, REF_PAT of the stock strike (of the high-nibble strike of a pair)
  refsLow  : List Nat      -- the same of the low-nibble strike of a pair
  suspect  : Bool          -- a code of the stock strike carries the suspect flag (R55)
  suspectF : Bool          -- a code of the fresh strike does
  osramPar : List Nat      -- outlier SRAM rows that met a parity error (R96)
  csumCorr : Nat           -- checksum entries corrected (R363)
  csumBad  : Bool          -- an uncorrectable checksum entry (R363)
  lane     : List (Nat × Nat × Word32)  -- designated channel, channel group, and the outlier lane's FP32 sum of its 128 products in the stock strike, where it is not what the ledger gives (R367)
  laneF    : List (Nat × Nat × Word32)  -- the same of the fresh strike
deriving DecidableEq, Repr

/-- What the tally engine does with a vector before it keeps it: nothing; the statistics of the whole vector of which it is a part (R158); normalisation by the sum of squares of the whole vector with the gains of this part (R159); the scaling of a query head to a block of fresh attention, in the drive group of its KV head (R256); or the probabilities of one half of a block, formed from the results of a K strike of the row, named by its stall and vector (R257). -/
inductive Prep where
  | plain
  | variance (whole : List Word32)
  | sumSq (whole gains : List Word32)
  | query (seq layer block kv : Nat)
  | probs (stall tag half : Nat)
deriving DecidableEq, Repr

/-- An input vector as it reaches a row (R110): its name, its stall, its format, its elements and scale bytes, and the tiles it feeds. -/
structure VecIn where
  tag    : Nat
  stall  : Nat
  trans  : Bool
  fmt    : VecFmt
  elems  : List Nat
  scales : List Nat
  feeds  : List (Nat × Nat × Nat × Nat)   -- output group (4 + k + 16m = the m-th fresh matrix that takes slice k of 512 inputs), model slot, generation, SOURCE
  seq    : Nat                             -- the sequence, 0xFFFF = none
  residue : Bool                           -- an adapter lane of this vector met a residue mismatch (R316)
  prep   : Prep                            -- what the tally engine does with it first (R158, R159, R256)
deriving DecidableEq, Repr

/-- What a fresh plane is loaded with: a stream entry of a model (R218), or a block of a layer of a sequence for fresh attention, in the place K0, K1, V0 or V1 (0 to 3) of its group (R254). -/
inductive PlaneSrc where
  | stream (slot gen idx : Nat)
  | attn (seq layer block which : Nat)
deriving DecidableEq, Repr

/-- Who a plane is loaded for: a generation of a model, or a layer of a sequence. -/
inductive PlaneOwner where
  | model (slot gen : Nat)
  | seq (q layer : Nat)
deriving DecidableEq, Repr

/-- The request that names an entry of its owner: a stream entry of a model, or place `which` of a sequence's block. -/
def PlaneOwner.src (o : PlaneOwner) (idx which : Nat) : PlaneSrc :=
  match o with
  | .model slot gen => .stream slot gen idx
  | .seq q layer => .attn q layer idx which

/-- A change of a page's REF or PIN (R239): a sequence gains or gives up a reference to it, or a read takes or drops a pin. -/
inductive PageChange where
  | refUp (seq : Nat)
  | refDown (seq : Nat)
  | pinUp
  | pinDown
deriving DecidableEq, Repr

/-- What the tally engines hold of one layer of one position of a tuning sequence (R320): the normalised attention input before gain, the normalised feed-forward input before gain, the gate and up outputs, and the two values rs of R159. -/
structure SaveIn where
  layer : Nat
  pos   : Nat
  attn  : List Word32
  ff    : List Word32
  gate  : List Word32
  up    : List Word32
  rsA   : Word32
  rsF   : Word32
deriving DecidableEq, Repr

/-- What a position brings beside its tokens: the key blocks that its weigh house attended, the disagreements of its two rails in the sampling sums of R287 (R379), and, in a tuning sequence, what it saves (R320). -/
structure EndIn where
  blocks : Nat
  norms  : Nat
  saved  : List SaveIn
deriving DecidableEq, Repr

/-- How far the load of an adapter image has come (R328): its bytes are being read, it is being checked, or both have ended. -/
inductive LoadStage where
  | fetching
  | checking
  | done
deriving DecidableEq, Repr

/-- An entry of a sample table (R317). -/
structure Sample where
  addr : Nat
  len  : Nat
  from' : Nat
deriving DecidableEq, Repr

/-- What a TUNE slip finds beside its fields: the stocked pitch map entries that lie between the embedding and the adapter's targets in the model's graph, which is the model's own (R318), and the entries of the sample table read first. -/
structure TuneIn where
  between : List Nat
  samples : List Sample
deriving DecidableEq, Repr

/-- The gradient dy of the output of one target matrix at one position of a tuning sequence (R321): the vector that fed the matrix in the forward pass, and the target's place in the adapter's image. -/
structure GradIn where
  pos    : Nat
  tag    : Nat
  target : Nat
  dy     : List Word32
deriving DecidableEq, Repr

/-- The main model's part of a verify pass: its logits for positions p to p + L, and the rail disagreements in the sampling sums (R287, R290, R379). -/
structure PassIn where
  main  : List (List Word32)
  norms : Nat
deriving DecidableEq, Repr

/-- What a read of the memory tiers meets (R397): the granules in which errors were corrected, and one that met an uncorrectable error. -/
structure MemErr where
  ce : List Nat
  ue : Option Nat
deriving DecidableEq, Repr

/-- A read that meets no error. -/
def MemErr.none : MemErr := ⟨[], .none⟩

/-- How an overflow pass ends (R98, R367): what its fetch meets, and its FP32 sums of 128 products, by channel group, where they are not what the ledger gives. -/
structure PassEnd where
  err  : MemErr
  lane : List (Nat × Word32)
deriving DecidableEq, Repr

/-- One fetch of a crate's level data (R174): the bytes and what the read met. -/
structure Fetch where
  data : List Byte
  err  : MemErr
deriving DecidableEq, Repr

/-- What every Cartway frame received carries (R333, R335): the symbols corrected in its codeword, ACK, and CR0 to CR3. -/
structure FrameIn where
  corr : Nat
  ack  : Nat
  crs  : List Nat
deriving DecidableEq, Repr

/-- What the receiver of a port reports at the end of a training trial (R332, R336): the symbols received in the window of step 5, the 544 symbols of an alignment block as it came, and the lane-to-lane skew in nanoseconds. -/
structure LockIn where
  sym   : Nat
  block : List Nat
  skew  : Nat
deriving DecidableEq, Repr

/-- What a weigh house meets beside its operands while it attends one layer of one position: the memory errors in the pages it reads (R397), the flags of its own checks in order (1 parity, 2 normaliser; R379), the functions that the isolation circuits derived, when they disagree (R418), and, in a backward pass, the gradient of the attention output (R321). -/
structure AttnIn where
  err   : MemErr
  flags : List Nat
  iso   : List Nat
  back  : Option (List Word32)
deriving DecidableEq, Repr

/-- An uncorrectable memory error met while a ledger shard is read (R397): model slot, generation, shard, granule. -/
structure LedgerUE where
  slot  : Nat
  gen   : Nat
  shard : Nat
  gran  : Nat
deriving DecidableEq, Repr

/-- What a line of memory holds (R397). -/
inductive Content where
  | free                                  -- nothing live
  | shard (slot gen shard : Nat)          -- a ledger shard
  | image                                 -- a stocking image
  | page (id : Nat)                       -- a KV page or scale strip
  | owned (seq : Nat)                     -- a page table or save area of a sequence
  | gradient (func : Nat)                 -- a gradient accumulator of a function's tuning job
  | adapter (number : Nat)                -- the adapter pool, by the adapter whose current version lies there
  | priv                                  -- another device-private structure
deriving DecidableEq, Repr

/-- What a failed host read was for (R419). -/
inductive ReadKind where
  | prompt (seq : Nat)
  | frame (stream no : Nat)
  | ridx (func ticket : Nat)
  | store (seq : Nat)
  | manifest (slot : Nat)
  | shard (slot gen shard : Nat)
  | stockImage
  | homeTable
  | adapterImage (adapter : Nat)
deriving DecidableEq, Repr

/-- What a calibration run measured on one column (R463): the gain and offset of its target, in the units of a trim entry and not yet held to its fields; DROP; its residual RMS in units of 0.001 % of full scale. -/
structure ColFit where
  gain   : Int
  offset : Int
  drop   : Nat
  resid  : Nat
deriving DecidableEq, Repr

/-- What a calibration run measured on one output group (R462 to R466), its slots struck and its replays ended. -/
structure CalFit where
  cols     : List ColFit             -- the 1,024 columns
  spares   : List ColFit             -- the 32 spare columns
  sigma    : Nat                     -- SIGMA of R463, in units of 0.001 %
  sigmas   : List (Nat × Nat)        -- the same at each RANGE of 0 to 2 and 13 to 15 (R82)
  probe    : List (Int × Int)        -- E_j as mantissa and binary exponent
  slices   : List (List (List Nat))  -- per channel and slice, the codes of its 64 held values (R465)
  sliceTrims : List (Int × Int)      -- gain and offset trim of each slice, by 5 × channel + slice
  fresh    : List ColFit             -- the fresh columns, where the run measured them (R466)
  rows     : List (Int × Int)        -- gain and offset of the 64 row-sense converters, where measured
  sigmaT   : Nat                     -- the transpose σ, in units of 0.001 %, where measured
deriving DecidableEq, Repr

/-- A cell of a group as the crate line test reads it (R474): crate and row of it, column, and the code. -/
structure LineCell where
  group : Nat
  crate : Nat
  row   : Nat
  col   : Nat
  code  : Nat
deriving DecidableEq, Repr

/-- What a self-test found (R472 to R474). -/
structure TestOut where
  misr    : Nat
  memOk   : Bool                     -- every memory passed
  convOk  : Bool                     -- every row-sense converter passed
  slices  : List (Nat × Nat)         -- slices with a missing code or a step error: channel and slice
  cells   : List LineCell            -- the line test: cells whose code is not the ideal one
deriving DecidableEq, Repr

/-- A unit that sleeps (R486): a stall by row and physical position, a row, a quarter. -/
inductive SleepUnit where
  | stall (row pos : Nat)
  | row (row : Nat)
  | quarter (q : Nat)
deriving DecidableEq, Repr

/-- One regulator's poll (R501): whether READ_VOUT, READ_IOUT and STATUS_WORD succeeded, and what they read, in mV, 0.1 A and the word. -/
structure Poll where
  vr     : Nat
  okV    : Bool
  okI    : Bool
  okS    : Bool
  vout   : Nat
  iout   : Nat
  status : Nat
deriving DecidableEq, Repr

/-- What a slow round reads (R489 to R491, R400, R501): per sensor its temperature in units of 0.1 °C and whether its word arrived with good parity; per stack its temperature; the tier-2 channels whose part reports above 85 °C; the polls. -/
structure RoundIn where
  temps  : List (Int × Bool)
  stackTemps : List Int
  hot    : List Nat
  polls  : List Poll
deriving DecidableEq, Repr

/-- What memory training met on a tier-2 channel (R386, R389): its kind (2 LPDDR5X, 3 LPDDR5), the raw capacity of its parts in bytes, and whether the parts are not of one kind and density. -/
structure ChanIn where
  chan  : Nat
  kind  : Nat
  raw   : Nat
  mixed : Bool
deriving DecidableEq, Repr

/-- What memory training found at start-up (R401): the failed trainings of each unit 0–35 that failed one, and the channels fitted. -/
structure TrainIn where
  fails : List (Nat × Nat)
  chans : List ChanIn
deriving DecidableEq, Repr

end Sys2Proof
end

