-- ==== Sys2Proof/Syntax.lean ====
section
/-! DEFINITION. The commands of the block: one constructor per row of the opcode table, with the operands the row needs. -/

namespace Sys2Proof

/-- A command: one row of the opcode table each. -/
inductive Instr where
  /-- REGISTER_WRITE (R8): A write to a register or field that has no row of its own takes effect under its access code. -/
  | registerWrite (who : Who) (bar off size val : Nat)
  /-- LOW_HALF_READ (R11): A read of the low half of a 64-bit register latches the high half for the next high-half read from the same function. -/
  | lowHalfRead (who : Who) (bar off size : Nat)
  /-- STL_CLIP_CNT_READ (R50): A read of STL_CLIP_CNT returns the count and clears it in the same access. -/
  | stlClipCntRead (who : Who) (row stall : Nat)
  /-- STL_REFUSED_CNT_READ (R46): A read of STL_REFUSED_CNT returns the count and clears it in the same access. -/
  | stlRefusedCntRead (who : Who) (row stall : Nat)
  /-- WDN_MON_DATA_READ (R506): A read of WDN_MON_DATA returns the latest monitor result and clears VALID. -/
  | wdnMonDataRead (who : Who)
  /-- WAKE_REQUEST (R24): The warden latches a wake request for a sleeping stall, row or quarter and starts its wake. -/
  | wakeRequest (u : SleepUnit)
  /-- WAKE_COMPLETE (R488): A waking unit reaches RUN and issues the work that waited for it. -/
  | wakeComplete (u : SleepUnit)
  /-- CLOCK_GATED_ENTRY (R487): An idle stall, row or quarter enters clock-gated after its idle time. -/
  | clockGatedEntry (u : SleepUnit)
  /-- BIAS_OFF_ENTRY (R487): A clock-gated and drained unit enters bias-off after BIAS_IDLE, losing fresh SRAM and staging buffer. -/
  | biasOffEntry (u : SleepUnit)
  /-- DESCRIPTOR_ARRIVAL (R43): The row switch delivers a strike descriptor into a stall queue, or holds it while STL_CTL.EN is 0. -/
  | descriptorArrival (row stall : Nat) (waiting : List (Nat × Nat))
  /-- STL_CTL_WRITE (R70): A write of STL_CTL sets the enables; EN = 1 lets held descriptors into the queue. -/
  | stlCtlWrite (who : Who) (row stall val : Nat)
  /-- STRIKE_ISSUE (R47): At a strike edge the sequencer takes the head descriptor, latches drive codes and starts a stock and/or fresh strike. -/
  | strikeIssue (row stall edges : Nat)
  /-- WIDENED_PAIR_ISSUE (R57): The sequencer issues an A8 widened pair, high-nibble strike first. -/
  | widenedPairIssue (row stall edges : Nat)
  /-- TRANSPOSE_STRIKE_ISSUE (R61): The sequencer starts a transpose strike at an edge with no forward conversion in progress. -/
  | transposeStrikeIssue (row stall edges : Nat)
  /-- STAGING_BANK_WRITE (R40): The row switch writes a held vector into a staging bank once it is released. -/
  | stagingBankWrite (row stall tag bank : Nat)
  /-- STRIKE_CODES_RECEIVED (R92): The tally engine takes a strike's codes and corrects each by offset, gain, drift, drop and format shift. -/
  | strikeCodesReceived (row stall : Nat) (c : Codes)
  /-- SLICE_SUBSTITUTION (R56): At the next strike edge the channel's spare slice replaces an out-of-limit slice, or the stall faults if none is free. -/
  | sliceSubstitution (row stall chan slice : Nat) (diffs : List Int)
  /-- STL_SLICE_MAP_WRITE (R75): A write of STL_SLICE_MAP reads back at once and takes effect at the next strike edge. -/
  | stlSliceMapWrite (who : Who) (row stall val : Nat)
  /-- PLANE_SWAP (R64): At a strike edge the READY loading plane becomes COMPUTING and the old computing plane EMPTY. -/
  | planeSwap (row stall : Nat)
  /-- TRIM_DATA_WRITE (R93): A clerk write of TAL_TRIM_DATA sets a column's target trim, reached in graduated steps. -/
  | trimDataWrite (who : Who) (row val : Nat)
  /-- TRIM_STEP (R467): After 16 strike edges of the group the next of 16 graduated trim steps takes effect. -/
  | trimStep (row stall group : Nat)
  /-- OVERFLOW_PASS_END (R98): An overflow pass ends after its ledger row fetch and adds its exact products into the dynamic sum. -/
  | overflowPassEnd (row stall : Nat) (ended : PassEnd)
  /-- LEDGER_ROW_RETRY (R102): When the porter reports the shard valid again, the tally engine retries a failed ledger row fetch. -/
  | ledgerRowRetry (row stall : Nat)
  /-- STRIKE_RELEASE (R99): Once the last code has arrived, the last pass has ended and every check has passed, the strike's values are released to accumulation. -/
  | strikeRelease (row stall no : Nat) (fresh : Bool)
  /-- VECTOR_ARRIVAL (R110): An input vector reaches the tally engine and is decoded to FP32 into a source buffer. -/
  | vectorArrival (row buf : Nat) (v : VecIn)
  /-- QUANTISE_VECTOR (R115): When a narrow-store entry is free, the tally engine quantises a vector to A4 or A8 with group exponents and carried residuals. -/
  | quantiseVector (row buf : Nat)
  /-- CLIP_REPLAY (R122): After the bank is rewritten from the narrow record, a clipped strike is struck again at a higher RANGE. -/
  | clipReplay (row stall no : Nat) (fresh : Bool)
  /-- CLIP_SPLIT (R122): After two clipped replays, the strike is split over two halves of its mask. -/
  | clipSplit (row stall no : Nat) (fresh : Bool)
  /-- TILE_FORCE_WIDE (R139): TAL_TILE_CMD OP 1 forces a tile wide and sets its hold at the next step marker. -/
  | tileForceWide (who : Who) (row stall group : Nat)
  /-- TILE_RELEASE_FORCE (R139): TAL_TILE_CMD OP 2 releases a forced-wide tile at the next step marker. -/
  | tileReleaseForce (who : Who) (row stall group : Nat)
  /-- TILE_SET_HOLD (R139): TAL_TILE_CMD OP 3 sets the hold of a wide tile to HOLD at the next step marker. -/
  | tileSetHold (who : Who) (row stall group : Nat)
  /-- STEP_MARKER (R127): A row receives a step marker, advances TAL_STEP_CNT and decrements the holds of quiet wide tiles. -/
  | stepMarker (row : Nat)
  /-- HOLD_EXPIRY (R127): A wide tile's hold reaches 0 at a step marker and the tile returns to A4. -/
  | holdExpiry (row stall group : Nat)
  /-- WIDE_STORM_EVALUATION (R130): At a window boundary the tally engine evaluates each stall for a WIDE_STORM and queues stormy stalls for calibration. -/
  | wideStormEvaluation (row : Nat)
  /-- REFUSAL_MARKER (R157): A refusal marker reaches the tally engine, which discards the instance's partials and hands it to the inspector. -/
  | refusalMarker (row stall : Nat)
  /-- REDUCTION_OUTPUT (R149): With all eighths complete, the canonical tree forms the reduction's output. -/
  | reductionOutput (row red tag : Nat)
  /-- DRAIN_REQUEST (R168): TAL_DRAIN_CMD with RELEASE = 0 requests a drain of a stall or of the row. -/
  | drainRequest (who : Who) (row target : Nat)
  /-- DRAIN_RELEASE (R168): TAL_DRAIN_CMD with RELEASE = 1 releases a drain it requested, so held descriptors resume. -/
  | drainRelease (who : Who) (row target : Nat)
  /-- DRAIN_COMPLETE (R162): The DRAIN marker leaves output staging; DRAIN_BUSY clears and the event source is raised. -/
  | drainComplete (row stall : Nat)
  /-- STOCKING_JOB_START (R184): STK_CMD OP 1 checks an image and starts a stocking job. -/
  | stockingJobStart (who : Who) (hdr table : List Byte) (hdrErr tableErr : MemErr)
  /-- TOUCHUP_RESTOCK (R188): STK_CMD OP 2 runs a touch-up restock on the group holding INDEX. -/
  | touchupRestock (who : Who) (index : Nat)
  /-- STOCKING_ABORT (R186): STK_CMD OP 3 aborts the job after the crates in progress finish their step. -/
  | stockingAbort (who : Who)
  /-- SCRUB_CRATE_NOW (R191): STK_CMD OP 4 scrubs crate INDEX now. -/
  | scrubCrateNow (who : Who) (index : Nat)
  /-- CRATE_PROGRAM_START (R175): Within the concurrency limits, the stocking engine takes a crate, checks its level data and starts program-and-verify. -/
  | crateProgramStart (fetched : List Fetch)
  /-- CRATE_PROGRAM_END (R175): A crate's program ends and its journal entry is written PROGRAMMED or FAILED. -/
  | crateProgramEnd (index : Nat) (cellsOk : Bool)
  /-- SETTLE_PAUSE_END (R184): The 58,594-round settle pause ends and touch-up passes may start. -/
  | settlePauseEnd
  /-- TOUCHUP_PASS_START (R185): A touch-up pass on a crate starts and its entry is written TOUCHING. -/
  | touchupPassStart
  /-- TOUCHUP_PASS_END (R185): A touch-up pass ends with VERIFIED or FAILED and STL_GRP_CFG.VERIFIED is updated. -/
  | touchupPassEnd (index : Nat) (cellsOk : Bool)
  /-- SCRUB_DUE (R191): The scrub period of a VERIFIED crate falls due and its scrub starts in idle strike edges. -/
  | scrubDue
  /-- SCRUB_CRATE_DONE (R192): A crate scrub ends; a digest mismatch makes the crate UNSETTLED. -/
  | scrubCrateDone (codes : List Byte) (marginal : Nat)
  /-- MODEL_LOAD (R208): PRT_CMD OP 1 reads and checks a manifest, places the model and starts fetching its shards. -/
  | modelLoad (who : Who) (slot : Nat) (hdr sects body : List Byte)
  /-- MODEL_UNLOAD (R210): PRT_CMD OP 2 puts the slot in RETIRING and cancels its sequences. -/
  | modelUnload (who : Who) (slot : Nat)
  /-- SHARD_REFETCH (R217): PRT_CMD OP 3 refetches one shard with up to 3 attempts. -/
  | shardRefetch (who : Who) (slot shard : Nat)
  /-- RELEASE_HELD (R217): PRT_CMD OP 4 releases a HELD slot once every shard is valid. -/
  | releaseHeld (who : Who) (slot : Nat)
  /-- SHARD_ARRIVAL (R215): A shard arrives and is checked against its digest; failures refetch, then fence or HELD. -/
  | shardArrival (slot gen shard : Nat) (addr : Option Nat) (data : List Byte) (readable ats : Bool)
  /-- SLOT_READY (R208): Once shards are valid and named groups VERIFIED, the slot enters READY. -/
  | slotReady (slot : Nat)
  /-- SLOT_RETIRED (R210): When no bound sequence remains, a RETIRING slot frees its storage and becomes EMPTY. -/
  | slotRetired (slot : Nat)
  /-- SHARD_SCRUB_DUE (R213): A shard's scrub period expires and it is checked again against its digest. -/
  | shardScrubDue (slot gen shard : Nat) (read : List Byte) (err : MemErr)
  /-- PLANE_LOAD_REQUEST (R218): The row scheduler asks the porter for a stream entry for a stall. -/
  | planeLoadRequest (row stall : Nat) (owner : PlaneOwner) (idx which : Nat)
  /-- PLANE_LOAD_START (R218): With an EMPTY plane and a queued request, the porter starts loading the plane. -/
  | planeLoadStart (row stall : Nat) (err : MemErr)
  /-- PLANE_LOAD_DONE (R218): The last byte is written, the plane is marked READY with its content tag and the scheduler notified. -/
  | planeLoadDone (row stall plane : Nat)
  /-- DECODE_ATTENTION (R230): A weigh house attends one layer-position over the sequence's pages. -/
  | decodeAttention (seq layer pos : Nat) (query key value : List Word32) (a : AttnIn)
  /-- FRESH_BLOCK_MERGE (R258): A fresh attention block result reaches the weigh house and is merged into the query state. -/
  | freshBlockMerge (seq layer pos head kv block row : Nat) (k : Nat × Nat) (v : (Nat × Nat) × Nat × Nat)
  /-- PAGE_MANAGER_CHANGE (R239): A REF or PIN change reaches a page's page manager and is applied in arrival order. -/
  | pageManagerChange (page : Nat) (change : PageChange)
  /-- PARK_SEQUENCE (R251): A victim sequence stops at its boundary and its pages are copied to the store room. -/
  | parkSequence (seq : Nat)
  /-- RESUME_SEQUENCE (R253): When free pages cover it, a parked sequence is copied back and becomes active. -/
  | resumeSequence (seq : Nat) (readOk digestOk : Bool)
  /-- KV_SLOT_CFG_WRITE (R264): A write of KV_SLOT_CFG is accepted only while the slot is EMPTY, LOADING or WAIT_STOCK. -/
  | kvSlotCfgWrite (who : Who) (val : Nat)
  /-- SLIP_SEAL (R268): A seal write with 0xA5 passes a slip to the device and raises the function's seal source. -/
  | slipSeal (func slot val : Nat)
  /-- GENERATE (R273): A GENERATE slip is checked and admitted or refused. -/
  | generate (func slot vocab crierVocab : Nat)
  /-- CANCEL (R275): A CANCEL slip ends its target request at its next position boundary. -/
  | cancel (func slot : Nat)
  /-- STREAM_OPEN (R294): A STREAM_OPEN slip opens a paced stream and reserves its stalls. -/
  | streamOpen (func slot : Nat)
  /-- FRAME (R296): A FRAME slip queues a frame of a paced stream. -/
  | frame (func slot : Nat)
  /-- STREAM_CLOSE (R298): A STREAM_CLOSE slip finishes queued frames, writes the END record and releases stalls. -/
  | streamClose (func slot : Nat)
  /-- TUNE (R317): A TUNE slip opens a tuning job for an adapter. -/
  | tune (func slot : Nat) (t : TuneIn)
  /-- SEQUENCE_ACTIVATE (R279): A parked admitted sequence becomes active once limits and pages allow. -/
  | sequenceActivate (seq : Nat)
  /-- STEP_START (R282): The scheduler starts a step, advances SRV_STEP_CNT and sends step markers. -/
  | stepStart
  /-- STEP_END (R280): A step ends; the scheduler adjusts D and the chunk size from its duration. -/
  | stepEnd
  /-- EMPTY_STEP (R282): With no sequence able to take part, an empty step starts TARGET_US after the last step. -/
  | emptyStep
  /-- STORM_CEILING_LOWER (R281): On a WIDE_STORM the scheduler halves CUR of affected functions. -/
  | stormCeilingLower (row : Nat)
  /-- STORM_CEILING_RESTORE (R281): After 1,024 storm-free steps an affected CUR doubles towards BASE. -/
  | stormCeilingRestore (slot : Nat)
  /-- POSITION_START (R285): A sequence whose previous position is committed starts its next position or chunk. -/
  | positionStart (seq : Nat) (toks : List Nat) (vocab save : Nat) (routes : List (Nat × Nat × List Word32))
  /-- POSITION_END (R224): A position's arithmetic ends at a position boundary, where cancels, parks, roll holds and ROLL moves take effect. -/
  | positionEnd (seq : Nat) (logits : List Word32) (kv : List (Nat × Nat × List Word32 × List Word32)) (e : EndIn)
  /-- POSITION_COMMIT (R22): Once every check and pending pair has cleared, KV entries and till records of the position are committed. -/
  | positionCommit (seq : Nat) (iso : List Nat)
  /-- MSI_MODERATION_TIMEOUT (R303): MOD_US passes since the first unsignalled record and the request's MSI-X vector is raised. -/
  | msiModerationTimeout (func ticket : Nat)
  /-- ROLL_RIDX_POLL (R302): While a roll is full the device reads RIDX every 1,000 CLK_AO cycles. -/
  | rollRidxPoll (func ticket ridx : Nat)
  /-- VERIFY_PASS (R290): A speculative verify pass evaluates crier drafts and emits accepted tokens plus one. -/
  | verifyPass (seq : Nat) (crier : List (List Word32)) (main : PassIn)
  /-- SPEC_PAUSE_END (R292): After SPEC_PAUSE steps without the crier, the sequence runs one pass with L = 1. -/
  | specPauseEnd (seq : Nat)
  /-- FRAME_IN_EDGE (R295): A rising edge of FRAME_IN adds a frame tick to streams with CLOCK = 0. -/
  | frameInEdge
  /-- FRAME_PERIOD_TICK (R295): PERIOD_US elapses and a frame tick is counted for a stream with CLOCK = 1. -/
  | framePeriodTick (stream : Nat)
  /-- FRAME_COMPLETE (R297): A paced frame completes; its output and record are written, flagged LATE if past deadline. -/
  | frameComplete (stream : Nat) (output : List Byte)
  /-- FUNC_CEIL_WRITE (R309): A write of SRV_FUNC_CEIL sets ceilings; a write of BASE also sets CUR. -/
  | funcCeilWrite (who : Who) (val : Nat)
  /-- ADAPTER_LOAD (R311): SRV_ADP_CMD OP 1 checks and loads an adapter image as a new version. -/
  | adapterLoad (who : Who) (slot : Nat) (image : List Byte) (stage : LoadStage)
  /-- ADAPTER_UNLOAD (R314): SRV_ADP_CMD OP 2 ends the current version's currency. -/
  | adapterUnload (who : Who) (adapter : Nat)
  /-- ROUND_END (R324): At the end of a round, once RIDX allows, the gradient, round record and WIDX are written. -/
  | roundEnd (func : Nat) (done : List (Nat × List GradIn)) (next : List Sample)
  /-- PORT_ENABLE (R336): CW_PORT_CTL.EN = 1 starts training of a Cartway port. -/
  | portEnable (who : Who) (val : Nat)
  /-- PORT_RETRAIN (R336): Setting CW_PORT_CTL.RETRAIN starts a new training of the port. -/
  | portRetrain (who : Who) (val : Nat)
  /-- TRAINING_TRIAL_FAIL (R336): A training trial not complete in 50 ms fails and the next trial starts. -/
  | trainingTrialFail (port : Nat)
  /-- HELLO (R336): A HELLO message is received and checked for version, domain and device number. -/
  | hello (port : Nat) (h : FrameIn) (version role dev nport domain : Nat) (bufs : List Nat)
  /-- HELLO_TIMER (R336): Every 250 cycles during bring-up the port sends a HELLO. -/
  | helloTimer (port : Nat)
  /-- IDLE_FRAME (R336): An IDLE frame received after a valid HELLO brings the port UP. -/
  | idleFrame (port : Nat) (h : FrameIn)
  /-- REACH (R347): A REACH message replaces the port's mask and updates the partner set. -/
  | reach (port : Nat) (h : FrameIn) (mask : Nat)
  /-- REACH_TIMER (R347): Every 1 ms the device sends its REACH on each UP port. -/
  | reachTimer
  /-- NAK (R338): A NAK is received and the sender resends from EXPECT. -/
  | nak (port : Nat) (h : FrameIn) (expect : Nat)
  /-- DOWN (R340): A DOWN message takes the port out of UP and requeues unacknowledged carts on other ports. -/
  | down (port : Nat) (h : FrameIn)
  /-- DATA_FRAME (R338): A DATA frame is received, accepted in sequence or discarded, and its carts and credits taken. -/
  | dataFrame (port : Nat) (h : FrameIn) (vc seq : Nat) (body : List Byte)
  /-- UNCORRECTABLE_CODEWORD (R333): A codeword that cannot be corrected, or a frame failing CRC, is discarded with its frame. -/
  | uncorrectableCodeword (port : Nat)
  /-- ACK_TIMEOUT (R338): ACK has not advanced for 20 µs and the sender resends from the oldest unacknowledged frame. -/
  | ackTimeout (port : Nat)
  /-- CART_SEND (R339): A waiting cart is sent in DATA frames when its VC has credit. -/
  | cartSend (port vc : Nat)
  /-- DISPATCH (R352): A home receives a DISPATCH, runs the expert and answers with a RETURN. -/
  | dispatch (port idx hidden : Nat) (out : List Word32)
  /-- RETURN (R351): The origin receives an expert's RETURN and uses it, or reroutes a REFUSED one. -/
  | returnCart (port idx : Nat) (routes : List (Nat × Nat × List Word32))
  /-- PART (R151): A PART cart delivers FP32 eighths of a reduction to the combining device. -/
  | part (port idx : Nat)
  /-- RECEIPT (R357): A RECEIPT arrives and clears its pending pair once CARTS early carts are held. -/
  | receipt (port idx : Nat)
  /-- RETRACT (R357): A RETRACT retracts its pending pair at once. -/
  | retract (port idx : Nat)
  /-- FENCE (R354): A FENCE cart makes the origin mask an expert from its next step marker. -/
  | fence (port idx : Nat)
  /-- UNFENCE (R354): An UNFENCE cart lifts the expert mask at the next step marker. -/
  | unfence (port idx : Nat)
  /-- HOME_TABLE_LOAD (R349): CW_HOME_CMD OP 1 loads a home table that takes effect at the next step marker. -/
  | homeTableLoad (who : Who) (slot : Nat) (table : Option (List Byte))
  /-- HOME_TABLE_CLEAR (R362): CW_HOME_CMD OP 2 clears a slot's home table at the next step marker. -/
  | homeTableClear (who : Who) (slot : Nat)
  /-- HOME_WAIT_TIMEOUT (R353): No home becomes reachable within HOME_WAIT ms and the sequence ends FAULT_MODEL. -/
  | homeWaitTimeout (seq : Nat)
  /-- RECEIPT_SEND (R356): Once a step's early results pass all checks, the sender sends one RECEIPT per destination. -/
  | receiptSend (step dst : Nat)
  /-- PENDING_TIMEOUT (R357): A pending pair not cleared 2 ms after its first early cart counts as retracted. -/
  | pendingTimeout (src step : Nat)
  /-- PROBE_STRIKE (R370): After 2^PROBE strike edges of a group the sequencer inserts a probe strike. -/
  | probeStrike (row stall edges : Nat)
  /-- PAIR_COMPARE (R374): A paired copy's values reach the primary row and are compared column by column. -/
  | pairCompare (row stall no row2 stall2 no2 : Nat)
  /-- INSPECTOR_JOB_START (R375): A free inspector engine takes the next queued job and starts a replay. -/
  | inspectorJobStart (ue : Option LedgerUE)
  /-- INSPECTOR_VERDICT (R376): A replay ends and the inspector decides the dispute or delivers the exact output. -/
  | inspectorVerdict (job : Nat) (passed : Bool)
  /-- DISPUTE_DEADLINE (R376): A class-0 job's deadline passes and its position is retracted and replayed. -/
  | disputeDeadline (job : Nat)
  /-- CHECKSUM_RELOAD_DONE (R376): The checksum SRAM reload ends and the lane's return probes begin. -/
  | checksumReloadDone (row stall : Nat)
  /-- GRANULE_RETIRE (R398): A granule is retired, its live content copied first, and recorded in the retire list. -/
  | granuleRetire (gran : Nat)
  /-- PATROL_SCRUB (R399): The patrol scrub reads a line in a free slot and writes back corrected data. -/
  | patrolScrub (unit : Nat) (corrected ue : Bool) (content : Content)
  /-- SCRUB_PERIOD_END (R399): A patrol period ends with under 90 % read and SCRUB_LATE is set. -/
  | scrubPeriodEnd (unit : Nat)
  /-- T2_SELF_REFRESH_ENTRY (R400): An idle tier-2 channel enters self-refresh after SR_IDLE µs. -/
  | t2SelfRefreshEntry (chan : Nat)
  /-- PERIODIC_RETRAIN (R401): A periodic strobe tracking or data retraining of a memory unit falls due. -/
  | periodicRetrain (unit : Nat)
  /-- LINK_TRAINING_DONE (R407): The host link trains to the highest common generation and width. -/
  | linkTrainingDone (gens widths : List Nat)
  /-- POWER_STATE_WRITE (R410): A write moves a function between D0 and D3hot, holding or resuming its sequences. -/
  | powerStateWrite (func : Nat) (d3 : Bool)
  /-- MSIX_UNMASK (R415): Unmasking a vector with its pending bit set sends one message. -/
  | msixUnmask (func vector : Nat)
  /-- INVALIDATION_REQUEST (R416): An ATS invalidation is completed after using requests are issued, within 50 µs. -/
  | invalidationRequest (func page tag : Nat) (late : Bool)
  /-- HOST_READ_FAILURE (R419): A host read fails and the device retries or ends the request by read kind. -/
  | hostReadFailure (kind : ReadKind) (ats : Bool)
  /-- QUOTA_WRITE (R420): TEN_ADM_QUOTA sets a function's KV quota and raises HOST_FN_EVT.QUOTA. -/
  | quotaWrite (who : Who) (val : Nat)
  /-- STORE_REGISTER (R421): TEN_STORE_CMD OP 1 registers the function's store room. -/
  | storeRegister (func : Nat)
  /-- STORE_WITHDRAW (R421): TEN_STORE_CMD OP 2 withdraws the store room unless a sequence is parked. -/
  | storeWithdraw (func : Nat)
  /-- FUNCTION_LEVEL_RESET (R424): Initiate FLR abandons a function's requests and returns its registers to reset. -/
  | functionLevelReset (func : Nat)
  /-- PF_FUNCTION_LEVEL_RESET (R425): FLR of the physical function clears VF Enable and resets every function. -/
  | pfFunctionLevelReset
  /-- FLR_COMPLETE (R424): 2 ms after FLR the function accepts BAR requests and slips again. -/
  | flrComplete (func : Nat)
  /-- NUMVFS_WRITE (R409): A write of NumVFs or VF Enable creates or removes virtual functions. -/
  | numvfsWrite (vfEnable ari : Bool) (num : Nat)
  /-- LINK_RESET (R529): A hot reset, secondary bus reset or DL_Down resets every function. -/
  | linkReset (dlDown : Bool)
  /-- DOE_DISCOVERY (R426): A DOE Discovery object is answered. -/
  | doeDiscovery (func index : Nat)
  /-- DOE_ABORT (R427): DOE Abort discards a partial object and clears the mailbox. -/
  | doeAbort (func : Nat)
  /-- HANDLER_ENTRY (R444): A routed event makes a clerk save its context frame and enter the handler. -/
  | handlerEntry
  /-- HANDLER_EXIT (R446): A handler executes MRET and the clerk restores its frame. -/
  | handlerExit (k : Nat)
  /-- CLERK_WFI (R436): A clerk with no work executes WFI. -/
  | clerkWfi (k : Nat)
  /-- CLERK_CLOCK_GATE (R436): After 1,200 clerk cycles in WFI the clerk's clock is gated. -/
  | clerkClockGate (k : Nat)
  /-- SQUARE_PLL_STOP (R436): With every clerk gated and the Square idle, the warden stops the Square PLL. -/
  | squarePllStop
  /-- SQUARE_PLL_RESTART (R436): A wake request restarts the Square PLL within 50 CLK_AO cycles. -/
  | squarePllRestart
  /-- SOFTWARE_EVENT_SET (R457): EVC_SW_SET raises a software event source. -/
  | softwareEventSet (who : Who) (source : Nat)
  /-- CLERK_TIMER_EXPIRY (R457): EVC_TIMER reaches EVC_TMR_CMP and the clerk's timer source is raised. -/
  | clerkTimerExpiry (k : Nat)
  /-- EVENT_NOROUTE_TIMEOUT (R443): A pending event without a candidate clerk for 1 ms sets NOROUTE. -/
  | eventNorouteTimeout (source : Nat)
  /-- MODE_CHANGE (R450): MODE_CMD OP 1 checks a mode record and begins closing the scope. -/
  | modeChange (who : Who) (scope : Nat) (record : List Byte)
  /-- MODE_ABORT (R451): MODE_CMD OP 2 aborts a mode change before its commit. -/
  | modeAbort (who : Who)
  /-- BARRIER (R447): MODE_CMD OP 3 places barrier markers in every bridge direction. -/
  | barrier (who : Who)
  /-- BARRIER_COMPLETE (R447): Every barrier marker has left its bridge and the barrier completes. -/
  | barrierComplete
  /-- MODE_CLOSE_COMPLETE (R450): Every unit of the scope has drained and staging entries are sent. -/
  | modeCloseComplete
  /-- MODE_OPEN (R450): All units acknowledge staging; CUR advances and OPEN is sent as the commit. -/
  | modeOpen (late : List (Nat × Nat))
  /-- MODE_CLOSE_TIMEOUT (R451): Close exceeds CLOSE_TO and the change aborts. -/
  | modeCloseTimeout
  /-- MODE_STAGE_TIMEOUT (R451): A stage acknowledgement misses ACK_TO and the change aborts. -/
  | modeStageTimeout (cls idx : Nat)
  /-- MODE_OPEN_RESEND (R452): A lagging unit's OPEN is resent each ACK_TO, and it faults after RETRY resends. -/
  | modeOpenResend (cls idx : Nat) (acked : Bool)
  /-- UNIT_CATCHUP (R453): A unit returning to service with an old MODE_GEN is brought level before work. -/
  | unitCatchup (cls idx : Nat)
  /-- CALIBRATION_QUEUE (R460): CAL_CMD OP 1 queues a calibration run for a stall. -/
  | calibrationQueue (who : Who) (row stall : Nat)
  /-- REFERENCE_REESTIMATE (R469): CAL_CMD OP 2 orders a reference re-estimate of a row. -/
  | referenceReestimate (who : Who) (row : Nat)
  /-- SPARE_STALL_SUBSTITUTE (R479): CAL_CMD OP 3 substitutes the row's spare stall for a physical stall. -/
  | spareStallSubstitute (who : Who) (row stall : Nat)
  /-- CALIBRATION_WITHDRAW (R482): CAL_CMD OP 4 withdraws a queued calibration run. -/
  | calibrationWithdraw (who : Who) (row stall : Nat)
  /-- CALIBRATION_RUN_START (R460): The controller starts a queued run when its row has none running. -/
  | calibrationRunStart
  /-- BLOCK_MODE_SWITCH (R461): After GAP_LIMIT a run switches to BLOCK mode at the next step marker. -/
  | blockModeSwitch (row stall : Nat)
  /-- CALIBRATION_FIT (R463): After a group's last replay the tally engine fits target trims and measures σ. -/
  | calibrationFit (row stall group : Nat) (fit : CalFit)
  /-- PERIODIC_CALIBRATION (R482): A stall's calibration PERIOD expires and a run is queued. -/
  | periodicCalibration (row stall : Nat)
  /-- REPAIR_ASSIGN (R478): A CAL_REPAIR_DATA write assigns a spare row or column and unsettles the spanned crates. -/
  | repairAssign (who : Who) (val : Nat)
  /-- SELF_TEST_LOGIC (R472): BST_CMD TEST 1 requests logic self-test of a unit. -/
  | selfTestLogic (who : Who) (unit index stall : Nat)
  /-- SELF_TEST_MEMORY (R473): BST_CMD TEST 2 requests memory self-test of a unit. -/
  | selfTestMemory (who : Who) (unit index stall : Nat)
  /-- SELF_TEST_CONVERTER (R473): BST_CMD TEST 3 requests converter self-test of a unit. -/
  | selfTestConverter (who : Who) (unit index stall : Nat)
  /-- CRATE_LINE_TEST (R474): BST_CMD TEST 4 requests the crate line test, run in idle strike edges. -/
  | crateLineTest (who : Who) (unit index stall : Nat)
  /-- SELF_TEST_ALL (R484): BST_CMD TEST 5 requests tests 1 to 3 of a unit. -/
  | selfTestAll (who : Who) (unit index stall : Nat)
  /-- SELF_TEST_WITHDRAW (R475): BST_CMD WITHDRAW withdraws a deferred test request. -/
  | selfTestWithdraw (who : Who) (unit index stall : Nat)
  /-- SELF_TEST_DEFERRED_START (R475): A deferred test runs once no READY slot names the unit. -/
  | selfTestDeferredStart
  /-- SELF_TEST_DONE (R476): A test ends; a pass restores the unit to RUN, a failure leaves it in FAULT. -/
  | selfTestDone (o : TestOut)
  /-- FUSE_BURN (R477): BST_FUSE_CMD GO burns every soft repair of the selected stall into fuses. -/
  | fuseBurn (who : Who)
  /-- SHUT_WAIT_TIMEOUT (R471): With INSPECT_SERVE = 0 a tile not back within SHUT_WAIT ends waiting sequences FAULT_CHECK. -/
  | shutWaitTimeout (row : Nat)
  /-- WARDEN_ROUND (R489): A slow housekeeping round reads sensors, evaluates levels and duties, polls PMBus and raises source 220. -/
  | wardenRound (r : RoundIn)
  /-- ORDERLY_STOP_COMPLETE (R495): At s0 + 125,000 THERM becomes STOPPED, or trip logic asserts THERMTRIP_N. -/
  | orderlyStopComplete (acked : Bool)
  /-- RESTART (R498): WDN_CMD OP 1 restarts a STOPPED device when RESTART_OK is 1. -/
  | restart (who : Who)
  /-- RESTART_RAIL_TIMEOUT (R561): A rail not within tolerance 20 ms after its restart command is treated as faulted. -/
  | restartRailTimeout
  /-- VSET_WRITE (R502): A write of WDN_VR_VSET sends VOUT_COMMAND within the next round, if within VMIN to VMAX. -/
  | vsetWrite (who : Who) (val : Nat)
  /-- MONITOR_PASS_START (R503): WDN_MON_CMD GO starts a monitor converter pass when TRIG = 2. -/
  | monitorPassStart (who : Who)
  /-- MONITOR_RESULT (R506): A monitor conversion completes into the result file and WDN_MON_DATA. -/
  | monitorResult (code code2 : Nat) (inTol : Bool × Bool)
  /-- TRIP_COUNTER_EXPIRY (R542): Four rounds pass without a chain read and trip logic asserts THERMTRIP_N. -/
  | tripCounterExpiry
  /-- CLK_AO_LOSS (R564): Trip logic sees no CLK_AO edge for 20 µs and asserts FAULT_N and THERMTRIP_N. -/
  | clkAoLoss
  /-- SVN_COMMIT (R516): SEC_CMD OP 1 burns the fused SVNs up to those now running. -/
  | svnCommit (who : Who)
  /-- KEY_DATA_WRITE (R522): A write of SEC_KEY_DATA0 to 3 stages key words when KEY_HOST = 1. -/
  | keyDataWrite (who : Who) (idx val : Nat)
  /-- TENANT_KEY_INSTALL (R522): SEC_CMD OP 2 installs a tenant key and closes the function's session. -/
  | tenantKeyInstall (who : Who) (f : Nat)
  /-- MODEL_KEY_INSTALL (R522): SEC_CMD OP 3 installs a model key while the slot is EMPTY. -/
  | modelKeyInstall (who : Who) (slot : Nat)
  /-- TENANT_KEY_CLEAR (R522): SEC_CMD OP 4 clears a tenant key and closes the session. -/
  | tenantKeyClear (who : Who) (f : Nat)
  /-- MODEL_KEY_CLEAR (R522): SEC_CMD OP 5 clears a model key while the slot is EMPTY. -/
  | modelKeyClear (who : Who) (slot : Nat)
  /-- GET_VERSION (R519): An SPDM GET_VERSION request is answered. -/
  | getVersion (port : Nat)
  /-- GET_CAPABILITIES (R519): An SPDM GET_CAPABILITIES request is answered. -/
  | getCapabilities (port : Nat)
  /-- NEGOTIATE_ALGORITHMS (R519): An SPDM NEGOTIATE_ALGORITHMS request is answered. -/
  | negotiateAlgorithms (port : Nat) (p521 hash512 dhe521 gcm256 : Bool)
  /-- GET_DIGESTS (R519): An SPDM GET_DIGESTS request is answered. -/
  | getDigests (port : Nat)
  /-- GET_CERTIFICATE (R519): An SPDM GET_CERTIFICATE request returns a certificate chain. -/
  | getCertificate (port slot off len : Nat)
  /-- CHALLENGE (R519): An SPDM CHALLENGE is answered with an alias-key signature. -/
  | challenge (port slot : Nat)
  /-- GET_MEASUREMENTS (R520): An SPDM GET_MEASUREMENTS request returns the measurement blocks. -/
  | getMeasurements (port index : Nat) (signed : Bool)
  /-- KEY_EXCHANGE (R519): An SPDM KEY_EXCHANGE opens a secured session, up to four. -/
  | keyExchange (port slot : Nat)
  /-- FINISH (R519): An SPDM FINISH completes a secured session handshake. -/
  | finish (port id : Nat) (verified : Bool)
  /-- HEARTBEAT (R519): An SPDM HEARTBEAT is answered. -/
  | heartbeat (port id : Nat)
  /-- KEY_UPDATE (R519): An SPDM KEY_UPDATE updates session keys. -/
  | keyUpdate (port id op : Nat)
  /-- END_SESSION (R519): An SPDM END_SESSION closes a secured session. -/
  | endSession (port id : Nat)
  /-- GET_CSR (R519): An SPDM GET_CSR returns a CSR for the identity key. -/
  | getCsr (port : Nat)
  /-- SET_CERTIFICATE (R519): An SPDM SET_CERTIFICATE installs a chain in slot 1 to 3. -/
  | setCertificate (port slot : Nat) (chain : List Byte)
  /-- SET_TENANT_KEY (R521): The vendor SPDM request installs a tenant key inside a secured session. -/
  | setTenantKey (port id f key : Nat)
  /-- SET_MODEL_KEY (R521): The vendor SPDM request installs a model key while the slot is EMPTY. -/
  | setModelKey (port id slot key : Nat)
  /-- GET_NONCE (R525): A tenant-session GET_NONCE returns a fresh nonce, NO_KEY or BACKOFF. -/
  | getNonce (f : Nat)
  /-- OPEN (R525): A tenant-session OPEN with a good MAC opens a new session number. -/
  | openSession (f : Nat) (nonceT mac : List Byte)
  /-- CLOSE (R525): A tenant-session CLOSE closes the function's session under R277. -/
  | closeSession (f : Nat)
  /-- COLD_POWER_ON (R529): VDD_AO rising resets everything volatile, the warden domain included. -/
  | coldPowerOn
  /-- PERST_N_FALL (R529): PERST_N going low enters device reset. -/
  | perstNFall
  /-- PWR_OK_FALL (R532): PWR_OK falling enters device reset within one CLK_AO cycle with no orderly stop. -/
  | pwrOkFall
  /-- DEVICE_RESET (R529): WDN_RST_CMD OP 1 resets every domain except the warden. -/
  | deviceReset (who : Who)
  /-- QUARTER_RESET (R531): WDN_RST_CMD OP 2 closes and resets one quarter, keeping retained state. -/
  | quarterReset (who : Who) (q : Nat)
  /-- ROW_RESET (R531): WDN_RST_CMD OP 3 closes and resets one row, keeping retained state. -/
  | rowReset (who : Who) (row : Nat)
  /-- STALL_RESET (R531): WDN_RST_CMD OP 4 drains and resets one stall, keeping retained state. -/
  | stallReset (who : Who) (row stall : Nat)
  /-- START_UP (R534): At r0 the device samples straps, applies fuses and starts link training, charter read and memory training. -/
  | startUp (a b c : Nat) (fitted : List Nat)
  /-- START_UP_READY (R534): Charter, training and journal rebuild end; parameters apply, LOCK sets, Eweovin starts, device READY. -/
  | startUpReady (t : TrainIn) (bad : List Nat) (copyA copyB : List Byte)
  /-- RECOVERY_BEGIN (R538): A recovery BEGIN object starts a charter transfer of SIZE bytes. -/
  | recoveryBegin (size : Nat)
  /-- RECOVERY_DATA (R538): A recovery DATA object appends bytes at OFFSET. -/
  | recoveryData (offset : Nat) (data : List Byte)
  /-- RECOVERY_END (R538): A recovery END checks the copy and resumes start-up at step 4 if accepted. -/
  | recoveryEnd (copyErr fwErr : MemErr)
  /-- WATCHDOG_KICK (R543): Writing WDN_WDOG.KICK restarts the watchdog count. -/
  | watchdogKick (who : Who) (val : Nat)
  /-- WATCHDOG_EXPIRY (R543): PERIOD rounds pass without a kick and the device enters device FAULT. -/
  | watchdogExpiry
  /-- BRIDGE_FLIT_FAILURE (R545): A bridge flit failing its CRC is resent; after 8 resends the device faults. -/
  | bridgeFlitFailure (resends : Nat)
  /-- TRAINING_TRIAL_PASS (R336): At t0 + 752,500 a Cartway training trial whose corrected-symbol ratio passed moves the port from TRAINING to sending HELLOs. -/
  | trainingTrialPass (port corr : Nat) (lock : LockIn) (uncorr : Nat)
  /-- STOPPING_CHAIN_READ (R495): During STOPPING both sensor chains read back to back every 3,328 CLK_AO cycles, and trip logic evaluates R496's STOPPING conditions at the end of each read. -/
  | stoppingChainRead (temps : List (Int × Bool))
  /-- CLK_AO_RETURN (R564): CLK_AO edges resume after a loss, and fault code 2 is written to the fault log. -/
  | clkAoReturn
  /-- VDD_AO_LOSS (R496): VDD_AO is removed, which releases THERMTRIP_N and ends every state, TRIPPED included, until the next cold power-on. -/
  | vddAoLoss
  /-- DOE_OBJECT_ERROR (R427): A DOE object that exceeds its type's limit or is of an unsupported type sets DOE Error and is discarded. -/
  | doeObjectError (func vendor typ len : Nat)
  /-- MCTP_CONTROL_MESSAGE (R535): An MCTP control message on the I3C management interface is answered from step 2 of start-up on. -/
  | mctpControlMessage (command : Nat)
deriving DecidableEq, Repr

end Sys2Proof
end

