-- ==== Sys2Proof/Decode.lean ====
section
/-! DEFINITION. The command that a word of the opcode table spells: the table gives no row any bits, so no word spells one. -/

namespace Sys2Proof

/-- The command whose table bits are `w`: the opcode table gives no row any bits, so there is none. -/
def decodeTableWord (_nbits _w : Nat) : Option Instr := none

end Sys2Proof
end

