-- ==== Sys2Proof/Machine/MemMap.lean ====
section
/-! DEFINITION. The decode of device addresses and the capacity of the two memory tiers (R386, R391 to R394). -/

namespace Sys2Proof.Machine

/-! ### Capacity (R386) -/

/-- Raw bytes of a stack. -/
def stackRaw : Nat := 85899345920
/-- Data capacity of a stack: 80 GB. -/
def stackData : Nat := 80000000000
/-- Check bytes of a stack: 4 for each 64 data bytes. -/
def stackCheck : Nat := stackData / 64 * 4
/-- What remains of a stack, for page tables and training results: 899,345,920 bytes. -/
def stackPrivate : Nat := stackRaw - stackData - stackCheck
/-- The most raw bytes of a channel: 128 GB of parts (log entry 102). -/
def channelMax : Nat := 137438953472
/-- Data granules of a channel of so many raw bytes: 32/33 of them, the check bytes in the top 1/33. -/
def channelGrans (raw : Nat) : Nat := 32 * min raw channelMax / 33 / 65536

/-! ### Addresses (R391 to R393) -/

/-- The device address at which tier 2 starts (R391). -/
def tier2Base : Nat := 0x100000000000

/-- Where a byte lies (R392, R393): its unit, the granule there, and the channel and pseudo-channel of the stack, or the 16-bit channel of the tier-2 channel. -/
structure MemPlace where
  unit   : Nat
  gran   : Nat
  chan   : Nat
  pseudo : Nat
deriving DecidableEq, Repr

/-- A tier-1 address (R392): granule G in stack G mod 20, striped in 256-byte chunks over the 64 pseudo-channels. -/
def tier1Place (a : Nat) : MemPlace :=
  let n := a % 65536 / 256
  ⟨a / 65536 % 20, a / 65536 / 20, n % 64 / 2, n % 2⟩

/-- A tier-2 address (R393): granule G in the (G mod N)-th channel of the interleave, its 64-byte lines over the four 16-bit channels. -/
def tier2Place (up : List Nat) (a : Nat) : MemPlace :=
  let g := (a - tier2Base) / 65536
  ⟨20 + up.getD (g % max 1 up.length) 0, g / max 1 up.length, a % 65536 / 64 % 4, 0⟩

/-- The key of the granule of a device address: that of tier 1 is its number, one of tier 2 is 2⁴⁰ more. -/
def granOf (a : Nat) : Nat := if a < tier2Base then a / 65536 else 2 ^ 40 + (a - tier2Base) / 65536

/-- The first device address of a granule. -/
def granAddr (g : Nat) : Nat := if g < 2 ^ 40 then 65536 * g else tier2Base + 65536 * (g - 2 ^ 40)

/-! ### Allocation (R394) -/

/-- The i-th granule of some stacks in ascending order; past their data capacity, of some others. -/
def stackGran (ss os : List Nat) (i : Nat) : Nat :=
  let cap := stackData / 65536 * ss.length
  if i < cap then 20 * (i / ss.length) + ss.getD (i % ss.length) 0
  else 20 * ((i - cap) / max 1 os.length) + os.getD ((i - cap) % max 1 os.length) 0

/-- The first n granules of an ascending row that are not taken, within `fuel` trials. -/
def takeGrans (row : Nat → Nat) (taken : List Nat) : Nat → Nat → Nat → List Nat
  | 0, _, _ => []
  | fuel + 1, i, n =>
    if n = 0 then []
    else if taken.contains (row i) then takeGrans row taken fuel (i + 1) n
    else row i :: takeGrans row taken fuel (i + 1) (n - 1)

end Sys2Proof.Machine
end

