-- ==== Sys2Proof/Machine/Reg.lean ====
section
/-! DEFINITION. What a register is: its block and offset (R571 to R574), its fields with their access codes (R8), reset values and the write filters that the field tables state. -/

namespace Sys2Proof.Machine

/-- The register blocks of the address map (R412, R572, R573). -/
inductive Block where
  | fnHost | fnTen | devHost | srv | kv | prt | stk | chk | mem | cw | evc | mode | cal | bst | wdn | sec | wh | tal | stl
deriving DecidableEq, Repr

/-- The number of a block, used only to key the register file. -/
def Block.code : Block → Nat
  | .fnHost => 0 | .fnTen => 1 | .devHost => 2 | .srv => 3 | .kv => 4 | .prt => 5 | .stk => 6 | .chk => 7
  | .mem => 8 | .cw => 9 | .evc => 10 | .mode => 11 | .cal => 12 | .bst => 13 | .wdn => 14 | .sec => 15
  | .wh => 16 | .tal => 17 | .stl => 18

/-- A register: its block and its offset in the block. -/
structure Reg where
  blk : Block
  off : Nat
deriving DecidableEq, Repr

/-- The access codes of R8. -/
inductive Access where
  | ro | rw | wo | w1c | w1s | rc | rl
deriving DecidableEq, Repr

/-- What a field's own table says of the values a write may set. -/
inductive WriteFilter where
  | any
  | nonzero                       -- "a write of 0 leaves the field unchanged"
  | range (lo hi : Nat)           -- "a write outside leaves the field unchanged"
  | cap (hi : Nat)                -- "a write above N sets N"
  | oneOf (vs : List Nat)         -- "any other write leaves the field unchanged"
  | multOf (m least : Nat)        -- "a write below N or not a multiple of M leaves the field unchanged"
  | lowZero (n : Nat)             -- "bits [n−1:0] read as zero; writes to them are ignored"
deriving DecidableEq, Repr

/-- One field of a register. -/
structure RField where
  reg : Reg
  lo  : Nat
  wd  : Nat
  acc : Access
  rst : Nat
  flt : WriteFilter
deriving DecidableEq, Repr

/-- A register with its fields; `wide` when a field lies above bit 31, so that R11 governs its halves. -/
structure RegInfo where
  reg    : Reg
  wide   : Bool
  fields : List RField
deriving DecidableEq, Repr

/-- The value a write of `new` leaves in a field that held `old`. -/
def WriteFilter.apply (old new : Nat) : WriteFilter → Nat
  | .any => new
  | .nonzero => if new = 0 then old else new
  | .range lo hi => if lo ≤ new ∧ new ≤ hi then new else old
  | .cap hi => min new hi
  | .oneOf vs => if new ∈ vs then new else old
  | .multOf m least => if least ≤ new ∧ new % m = 0 then new else old
  | .lowZero n => new / 2 ^ n * 2 ^ n

/-- A field's value in a register word. -/
def RField.of (f : RField) (w : Word64) : Nat := bitsOf w.toNat f.lo f.wd

/-- A register word with one field replaced (the value is cut to the field's width). -/
def RField.put (f : RField) (w : Word64) (v : Nat) : Word64 :=
  BitVec.ofNat 64 (w.toNat - f.of w * 2 ^ f.lo + (v % 2 ^ f.wd) * 2 ^ f.lo)

/-- A register's reset value, from its fields'. -/
def RegInfo.reset (r : RegInfo) : Word64 :=
  BitVec.ofNat 64 ((r.fields.map fun f => f.rst * 2 ^ f.lo).sum)

/-- What a write of `v` does to one field under its access code (R8); `locked` is the charter's lock (R517). -/
def RField.write (locked : Bool) (v : Nat) (w : Word64) (f : RField) : Word64 :=
  let new := bitsOf v f.lo f.wd
  match f.acc with
  | .ro | .rc | .wo => w
  | .rw => f.put w (f.flt.apply (f.of w) new)
  | .rl => if locked then w else f.put w (f.flt.apply (f.of w) new)
  | .w1c => f.put w (f.of w - (Nat.land (f.of w) new))
  | .w1s => f.put w (Nat.lor (f.of w) new)

/-- A write of a whole register: every field under its own access code; reserved bits are ignored (R9). -/
def RegInfo.write (r : RegInfo) (locked : Bool) (v : Nat) (w : Word64) : Word64 :=
  r.fields.foldl (RField.write locked v) w

/-- What a read leaves: RC fields return to their reset value in the same access (R8). -/
def RegInfo.afterRead (r : RegInfo) (w : Word64) : Word64 :=
  r.fields.foldl (fun w f => if f.acc = .rc then f.put w f.rst else w) w

/-- What a field holds after the device's own change `dev` of the word and an access of the host in the same cycle (R12): a bit that the device sets under a W1C write stays set, and an event beside an RC read is held for the next; a W1S or RW write acts on top of the device's change. -/
def RField.sameCycle (locked : Bool) (v : Nat) (dev : Word64 → Word64) (w : Word64) (f : RField) : Nat :=
  match f.acc with
  | .w1c => f.of (dev (RField.write locked v w f))
  | .rc => f.of (dev (f.put w f.rst))
  | .ro | .wo | .rw | .rl | .w1s => f.of (RField.write locked v (dev w) f)

/-- What a read returns: WO fields read as zero (R8), reserved bits read as zero (R9). -/
def RegInfo.readValue (r : RegInfo) (w : Word64) : Word64 :=
  r.fields.foldl (fun acc f => if f.acc = .wo then acc else f.put acc (f.of w)) 0

end Sys2Proof.Machine
end

