-- ==== Sys2Proof/Machine/RegsControl.lean ====
section
/-! DEFINITION. The registers of the functions, the device host block, the event and mode controllers, calibration, self-test, the warden, reset and security, written from the register tables of chapters 14 to 19 (R429 to R434, R456 to R459, R481 to R484, R509, R510, R527, R528, R549, R550). -/

namespace Sys2Proof.Machine

/-- R429, R431, R433: Function number. -/
def HOST_FN_ID : Reg := ⟨.fnHost, 0x0⟩
def HOST_FN_ID.FUNC : RField := ⟨HOST_FN_ID, 0, 6, .ro, 0, .any⟩
def HOST_FN_ID.info : RegInfo := ⟨HOST_FN_ID, false, [ HOST_FN_ID.FUNC]⟩
/-- R429, R431, R433: Power state, enables, fence. -/
def HOST_FN_STAT : Reg := ⟨.fnHost, 0x8⟩
def HOST_FN_STAT.D3 : RField := ⟨HOST_FN_STAT, 0, 1, .ro, 0, .any⟩
def HOST_FN_STAT.ATS_EN : RField := ⟨HOST_FN_STAT, 1, 1, .ro, 0, .any⟩
def HOST_FN_STAT.MSIX_EN : RField := ⟨HOST_FN_STAT, 2, 1, .ro, 0, .any⟩
def HOST_FN_STAT.FENCED : RField := ⟨HOST_FN_STAT, 3, 1, .ro, 0, .any⟩
def HOST_FN_STAT.info : RegInfo := ⟨HOST_FN_STAT, false, [ HOST_FN_STAT.D3, HOST_FN_STAT.ATS_EN, HOST_FN_STAT.MSIX_EN, HOST_FN_STAT.FENCED]⟩
/-- R429, R431, R433: Function events (R414). -/
def HOST_FN_EVT : Reg := ⟨.fnHost, 0x10⟩
def HOST_FN_EVT.SESSION : RField := ⟨HOST_FN_EVT, 0, 1, .w1c, 0, .any⟩
def HOST_FN_EVT.FAULT : RField := ⟨HOST_FN_EVT, 1, 1, .w1c, 0, .any⟩
def HOST_FN_EVT.STORE : RField := ⟨HOST_FN_EVT, 2, 1, .w1c, 0, .any⟩
def HOST_FN_EVT.QUOTA : RField := ⟨HOST_FN_EVT, 3, 1, .w1c, 0, .any⟩
def HOST_FN_EVT.CPER : RField := ⟨HOST_FN_EVT, 4, 1, .w1c, 0, .any⟩
def HOST_FN_EVT.DEV : RField := ⟨HOST_FN_EVT, 5, 1, .w1c, 0, .any⟩
def HOST_FN_EVT.info : RegInfo := ⟨HOST_FN_EVT, false, [ HOST_FN_EVT.SESSION, HOST_FN_EVT.FAULT, HOST_FN_EVT.STORE, HOST_FN_EVT.QUOTA, HOST_FN_EVT.CPER, HOST_FN_EVT.DEV]⟩
/-- R429, R431, R433: Event enables for vector 0. -/
def HOST_FN_EVT_EN : Reg := ⟨.fnHost, 0x18⟩
def HOST_FN_EVT_EN.EN : RField := ⟨HOST_FN_EVT_EN, 0, 6, .rw, 15, .any⟩
def HOST_FN_EVT_EN.info : RegInfo := ⟨HOST_FN_EVT_EN, false, [ HOST_FN_EVT_EN.EN]⟩

/-- R429, R431, R433: Session number and state. -/
def TEN_SESSION : Reg := ⟨.fnTen, 0x0⟩
def TEN_SESSION.NUM : RField := ⟨TEN_SESSION, 0, 16, .ro, 0, .any⟩
def TEN_SESSION.OPEN : RField := ⟨TEN_SESSION, 16, 1, .ro, 0, .any⟩
def TEN_SESSION.info : RegInfo := ⟨TEN_SESSION, false, [ TEN_SESSION.NUM, TEN_SESSION.OPEN]⟩
/-- R429, R431, R433: KV quota in granules (R420). -/
def TEN_QUOTA : Reg := ⟨.fnTen, 0x8⟩
def TEN_QUOTA.KV_QUOTA : RField := ⟨TEN_QUOTA, 0, 32, .ro, 4294967295, .any⟩
def TEN_QUOTA.info : RegInfo := ⟨TEN_QUOTA, false, [ TEN_QUOTA.KV_QUOTA]⟩
/-- R429, R431, R433: KV use and parked sequences. -/
def TEN_USE : Reg := ⟨.fnTen, 0x10⟩
def TEN_USE.KV_USED : RField := ⟨TEN_USE, 0, 32, .ro, 0, .any⟩
def TEN_USE.PARKED : RField := ⟨TEN_USE, 32, 13, .ro, 0, .any⟩
def TEN_USE.info : RegInfo := ⟨TEN_USE, true, [ TEN_USE.KV_USED, TEN_USE.PARKED]⟩
/-- R429, R431, R433: Store-room host address. -/
def TEN_STORE_BASE : Reg := ⟨.fnTen, 0x18⟩
def TEN_STORE_BASE.BASE : RField := ⟨TEN_STORE_BASE, 0, 64, .rw, 0, .lowZero 16⟩
def TEN_STORE_BASE.info : RegInfo := ⟨TEN_STORE_BASE, true, [ TEN_STORE_BASE.BASE]⟩
/-- R429, R431, R433: Store-room size in granules. -/
def TEN_STORE_SIZE : Reg := ⟨.fnTen, 0x20⟩
def TEN_STORE_SIZE.GRAN : RField := ⟨TEN_STORE_SIZE, 0, 24, .rw, 0, .any⟩
def TEN_STORE_SIZE.info : RegInfo := ⟨TEN_STORE_SIZE, false, [ TEN_STORE_SIZE.GRAN]⟩
/-- R429, R431, R433: Register or withdraw (R421). -/
def TEN_STORE_CMD : Reg := ⟨.fnTen, 0x28⟩
def TEN_STORE_CMD.OP : RField := ⟨TEN_STORE_CMD, 0, 2, .wo, 0, .any⟩
def TEN_STORE_CMD.info : RegInfo := ⟨TEN_STORE_CMD, false, [ TEN_STORE_CMD.OP]⟩
/-- R429, R431, R433: Registration state and use. -/
def TEN_STORE_STAT : Reg := ⟨.fnTen, 0x30⟩
def TEN_STORE_STAT.STATE : RField := ⟨TEN_STORE_STAT, 0, 2, .ro, 0, .any⟩
def TEN_STORE_STAT.USED : RField := ⟨TEN_STORE_STAT, 32, 32, .ro, 0, .any⟩
def TEN_STORE_STAT.info : RegInfo := ⟨TEN_STORE_STAT, true, [ TEN_STORE_STAT.STATE, TEN_STORE_STAT.USED]⟩
/-- R429, R431, R433: Fault flags (R423). -/
def TEN_FAULT : Reg := ⟨.fnTen, 0x38⟩
def TEN_FAULT.ACCESS : RField := ⟨TEN_FAULT, 0, 1, .w1c, 0, .any⟩
def TEN_FAULT.DMA : RField := ⟨TEN_FAULT, 1, 1, .w1c, 0, .any⟩
def TEN_FAULT.ATS : RField := ⟨TEN_FAULT, 2, 1, .w1c, 0, .any⟩
def TEN_FAULT.ISO : RField := ⟨TEN_FAULT, 3, 1, .w1c, 0, .any⟩
def TEN_FAULT.STORE : RField := ⟨TEN_FAULT, 4, 1, .w1c, 0, .any⟩
def TEN_FAULT.info : RegInfo := ⟨TEN_FAULT, false, [ TEN_FAULT.ACCESS, TEN_FAULT.DMA, TEN_FAULT.ATS, TEN_FAULT.ISO, TEN_FAULT.STORE]⟩
/-- R429, R431, R433: Latest access error. -/
def TEN_FAULT_INFO : Reg := ⟨.fnTen, 0x40⟩
def TEN_FAULT_INFO.OFFSET : RField := ⟨TEN_FAULT_INFO, 0, 26, .ro, 0, .any⟩
def TEN_FAULT_INFO.BAR : RField := ⟨TEN_FAULT_INFO, 26, 2, .ro, 0, .any⟩
def TEN_FAULT_INFO.WRITE : RField := ⟨TEN_FAULT_INFO, 28, 1, .ro, 0, .any⟩
def TEN_FAULT_INFO.info : RegInfo := ⟨TEN_FAULT_INFO, false, [ TEN_FAULT_INFO.OFFSET, TEN_FAULT_INFO.BAR, TEN_FAULT_INFO.WRITE]⟩
/-- R429, R431, R433: Access errors. -/
def TEN_ACCESS_ERR_CNT : Reg := ⟨.fnTen, 0x48⟩
def TEN_ACCESS_ERR_CNT.V : RField := ⟨TEN_ACCESS_ERR_CNT, 0, 64, .ro, 0, .any⟩
def TEN_ACCESS_ERR_CNT.info : RegInfo := ⟨TEN_ACCESS_ERR_CNT, true, [ TEN_ACCESS_ERR_CNT.V]⟩
/-- R429, R431, R433: Failed host reads (R419). -/
def TEN_DMA_FAIL_CNT : Reg := ⟨.fnTen, 0x50⟩
def TEN_DMA_FAIL_CNT.V : RField := ⟨TEN_DMA_FAIL_CNT, 0, 64, .ro, 0, .any⟩
def TEN_DMA_FAIL_CNT.info : RegInfo := ⟨TEN_DMA_FAIL_CNT, true, [ TEN_DMA_FAIL_CNT.V]⟩

/-- R429, R431, R433: Link state. -/
def HOST_LINK_STAT : Reg := ⟨.devHost, 0x0⟩
def HOST_LINK_STAT.GEN : RField := ⟨HOST_LINK_STAT, 0, 3, .ro, 0, .any⟩
def HOST_LINK_STAT.WIDTH : RField := ⟨HOST_LINK_STAT, 3, 5, .ro, 0, .any⟩
def HOST_LINK_STAT.info : RegInfo := ⟨HOST_LINK_STAT, false, [ HOST_LINK_STAT.GEN, HOST_LINK_STAT.WIDTH]⟩
/-- R429, R431, R433: Host-side error flags. -/
def HOST_ERR : Reg := ⟨.devHost, 0x8⟩
def HOST_ERR.ISO : RField := ⟨HOST_ERR, 0, 1, .w1c, 0, .any⟩
def HOST_ERR.ATS_INV : RField := ⟨HOST_ERR, 1, 1, .w1c, 0, .any⟩
def HOST_ERR.DMA : RField := ⟨HOST_ERR, 2, 1, .w1c, 0, .any⟩
def HOST_ERR.FUNC : RField := ⟨HOST_ERR, 16, 6, .ro, 0, .any⟩
def HOST_ERR.info : RegInfo := ⟨HOST_ERR, false, [ HOST_ERR.ISO, HOST_ERR.ATS_INV, HOST_ERR.DMA, HOST_ERR.FUNC]⟩
/-- R429, R431, R433: Function selected. -/
def TEN_ADM_SEL : Reg := ⟨.devHost, 0x10⟩
def TEN_ADM_SEL.FUNC : RField := ⟨TEN_ADM_SEL, 0, 6, .rw, 0, .any⟩
def TEN_ADM_SEL.info : RegInfo := ⟨TEN_ADM_SEL, false, [ TEN_ADM_SEL.FUNC]⟩
/-- R429, R431, R433: KV quota of the selected function (R420). -/
def TEN_ADM_QUOTA : Reg := ⟨.devHost, 0x18⟩
def TEN_ADM_QUOTA.KV_QUOTA : RField := ⟨TEN_ADM_QUOTA, 0, 32, .rw, 4294967295, .any⟩
def TEN_ADM_QUOTA.info : RegInfo := ⟨TEN_ADM_QUOTA, false, [ TEN_ADM_QUOTA.KV_QUOTA]⟩
/-- R429, R431, R433: TEN_FAULT of the selected function. -/
def TEN_ADM_FAULT : Reg := ⟨.devHost, 0x20⟩
def TEN_ADM_FAULT.FAULT : RField := ⟨TEN_ADM_FAULT, 0, 32, .ro, 0, .any⟩
def TEN_ADM_FAULT.info : RegInfo := ⟨TEN_ADM_FAULT, false, [ TEN_ADM_FAULT.FAULT]⟩
/-- R429, R431, R433: Link retrainings since device reset. -/
def HOST_RETRAIN_CNT : Reg := ⟨.devHost, 0x28⟩
def HOST_RETRAIN_CNT.V : RField := ⟨HOST_RETRAIN_CNT, 0, 64, .ro, 0, .any⟩
def HOST_RETRAIN_CNT.info : RegInfo := ⟨HOST_RETRAIN_CNT, true, [ HOST_RETRAIN_CNT.V]⟩

/-- R456, R458: Split, enable, PLL stop. -/
def EVC_CTL : Reg := ⟨.evc, 0x0⟩
def EVC_CTL.SPLIT : RField := ⟨EVC_CTL, 0, 3, .rw, 4, .any⟩
def EVC_CTL.EN : RField := ⟨EVC_CTL, 3, 1, .rw, 0, .any⟩
def EVC_CTL.PLL_STOP : RField := ⟨EVC_CTL, 4, 1, .rw, 0, .any⟩
def EVC_CTL.info : RegInfo := ⟨EVC_CTL, false, [ EVC_CTL.SPLIT, EVC_CTL.EN, EVC_CTL.PLL_STOP]⟩
/-- R456, R458: Clerks awake and busy, pending sources. -/
def EVC_STAT : Reg := ⟨.evc, 0x8⟩
def EVC_STAT.AWAKE : RField := ⟨EVC_STAT, 0, 8, .ro, 0, .any⟩
def EVC_STAT.BUSY : RField := ⟨EVC_STAT, 8, 8, .ro, 0, .any⟩
def EVC_STAT.PENDING : RField := ⟨EVC_STAT, 16, 10, .ro, 0, .any⟩
def EVC_STAT.info : RegInfo := ⟨EVC_STAT, false, [ EVC_STAT.AWAKE, EVC_STAT.BUSY, EVC_STAT.PENDING]⟩
/-- R456, R458: Error flags. -/
def EVC_ERR : Reg := ⟨.evc, 0x10⟩
def EVC_ERR.OVERFLOW : RField := ⟨EVC_ERR, 0, 1, .w1c, 0, .any⟩
def EVC_ERR.NOROUTE : RField := ⟨EVC_ERR, 1, 1, .w1c, 0, .any⟩
def EVC_ERR.DEPTH : RField := ⟨EVC_ERR, 2, 1, .w1c, 0, .any⟩
def EVC_ERR.SOURCE : RField := ⟨EVC_ERR, 16, 9, .ro, 0, .any⟩
def EVC_ERR.info : RegInfo := ⟨EVC_ERR, false, [ EVC_ERR.OVERFLOW, EVC_ERR.NOROUTE, EVC_ERR.DEPTH, EVC_ERR.SOURCE]⟩
/-- R456, R458: Vector table address. -/
def EVC_VEC_BASE : Reg := ⟨.evc, 0x18⟩
def EVC_VEC_BASE.BASE : RField := ⟨EVC_VEC_BASE, 0, 64, .rw, 0, .lowZero 12⟩
def EVC_VEC_BASE.info : RegInfo := ⟨EVC_VEC_BASE, true, [ EVC_VEC_BASE.BASE]⟩
/-- R456, R458: Raise a software source. -/
def EVC_SW_SET : Reg := ⟨.evc, 0x20⟩
def EVC_SW_SET.SOURCE : RField := ⟨EVC_SW_SET, 0, 9, .wo, 0, .any⟩
def EVC_SW_SET.info : RegInfo := ⟨EVC_SW_SET, false, [ EVC_SW_SET.SOURCE]⟩
/-- R456, R458: CLK_AO cycles since device reset; local to the Square. -/
def EVC_TIMER : Reg := ⟨.evc, 0x28⟩
def EVC_TIMER.V : RField := ⟨EVC_TIMER, 0, 64, .ro, 0, .any⟩
def EVC_TIMER.info : RegInfo := ⟨EVC_TIMER, true, [ EVC_TIMER.V]⟩
/-- R456, R458: Row selected for EVC_ROW_SUM. -/
def EVC_ROW_SEL : Reg := ⟨.evc, 0x30⟩
def EVC_ROW_SEL.ROW : RField := ⟨EVC_ROW_SEL, 0, 8, .rw, 0, .range 0 191⟩
def EVC_ROW_SEL.info : RegInfo := ⟨EVC_ROW_SEL, false, [ EVC_ROW_SEL.ROW]⟩
/-- R456, R458: Row summary (R438). -/
def EVC_ROW_SUM : Reg := ⟨.evc, 0x38⟩
def EVC_ROW_SUM.STALLS : RField := ⟨EVC_ROW_SUM, 0, 33, .ro, 0, .any⟩
def EVC_ROW_SUM.TALLY : RField := ⟨EVC_ROW_SUM, 33, 1, .ro, 0, .any⟩
def EVC_ROW_SUM.info : RegInfo := ⟨EVC_ROW_SUM, true, [ EVC_ROW_SUM.STALLS, EVC_ROW_SUM.TALLY]⟩
/-- R456, R458: Handler entries, including chained ones. -/
def EVC_ENTRY_CNT : Reg := ⟨.evc, 0x40⟩
def EVC_ENTRY_CNT.V : RField := ⟨EVC_ENTRY_CNT, 0, 64, .ro, 0, .any⟩
def EVC_ENTRY_CNT.info : RegInfo := ⟨EVC_ENTRY_CNT, true, [ EVC_ENTRY_CNT.V]⟩
/-- R456, R458: Tail-chains (R446). -/
def EVC_TAIL_CNT : Reg := ⟨.evc, 0x48⟩
def EVC_TAIL_CNT.V : RField := ⟨EVC_TAIL_CNT, 0, 64, .ro, 0, .any⟩
def EVC_TAIL_CNT.info : RegInfo := ⟨EVC_TAIL_CNT, true, [ EVC_TAIL_CNT.V]⟩
/-- R456, R458: Late arrivals (R445). -/
def EVC_LATE_CNT : Reg := ⟨.evc, 0x50⟩
def EVC_LATE_CNT.V : RField := ⟨EVC_LATE_CNT, 0, 64, .ro, 0, .any⟩
def EVC_LATE_CNT.info : RegInfo := ⟨EVC_LATE_CNT, true, [ EVC_LATE_CNT.V]⟩
/-- R456, R458: Clerk k enable and floor, k = 0–7. -/
def EVC_CLK_CTL : Reg := ⟨.evc, 0x100⟩
def EVC_CLK_CTL.EN : RField := ⟨EVC_CLK_CTL, 0, 1, .rw, 0, .any⟩
def EVC_CLK_CTL.FLOOR : RField := ⟨EVC_CLK_CTL, 16, 9, .rw, 256, .range 0 256⟩
def EVC_CLK_CTL.info : RegInfo := ⟨EVC_CLK_CTL, false, [ EVC_CLK_CTL.EN, EVC_CLK_CTL.FLOOR]⟩
/-- R456, R458: Clerk k state. -/
def EVC_CLK_STAT : Reg := ⟨.evc, 0x140⟩
def EVC_CLK_STAT.LEVEL : RField := ⟨EVC_CLK_STAT, 0, 9, .ro, 256, .any⟩
def EVC_CLK_STAT.ACTIVE : RField := ⟨EVC_CLK_STAT, 9, 9, .ro, 0, .any⟩
def EVC_CLK_STAT.DEPTH : RField := ⟨EVC_CLK_STAT, 18, 4, .ro, 0, .any⟩
def EVC_CLK_STAT.STATE : RField := ⟨EVC_CLK_STAT, 22, 3, .ro, 0, .any⟩
def EVC_CLK_STAT.info : RegInfo := ⟨EVC_CLK_STAT, false, [ EVC_CLK_STAT.LEVEL, EVC_CLK_STAT.ACTIVE, EVC_CLK_STAT.DEPTH, EVC_CLK_STAT.STATE]⟩
/-- R456, R458: Clerk k timer compare. -/
def EVC_TMR_CMP : Reg := ⟨.evc, 0x180⟩
def EVC_TMR_CMP.CMP : RField := ⟨EVC_TMR_CMP, 0, 64, .rw, 0, .any⟩
def EVC_TMR_CMP.info : RegInfo := ⟨EVC_TMR_CMP, true, [ EVC_TMR_CMP.CMP]⟩
/-- R456, R458: Source n, n = 0–511. -/
def EVC_SRC : Reg := ⟨.evc, 0x1000⟩
def EVC_SRC.PRIO : RField := ⟨EVC_SRC, 0, 8, .rw, 255, .any⟩
def EVC_SRC.EN : RField := ⟨EVC_SRC, 8, 1, .rw, 0, .any⟩
def EVC_SRC.AFFINITY : RField := ⟨EVC_SRC, 16, 8, .rw, 255, .any⟩
def EVC_SRC.COUNT : RField := ⟨EVC_SRC, 24, 4, .ro, 0, .any⟩
def EVC_SRC.OVF : RField := ⟨EVC_SRC, 28, 1, .w1c, 0, .any⟩
def EVC_SRC.LATCH : RField := ⟨EVC_SRC, 29, 1, .ro, 0, .any⟩
def EVC_SRC.ACTIVE : RField := ⟨EVC_SRC, 30, 1, .ro, 0, .any⟩
def EVC_SRC.info : RegInfo := ⟨EVC_SRC, false, [ EVC_SRC.PRIO, EVC_SRC.EN, EVC_SRC.AFFINITY, EVC_SRC.COUNT, EVC_SRC.OVF, EVC_SRC.LATCH, EVC_SRC.ACTIVE]⟩

/-- R456, R458: Close and acknowledge limits, retries. -/
def MODE_CTL : Reg := ⟨.mode, 0x0⟩
def MODE_CTL.CLOSE_TO : RField := ⟨MODE_CTL, 0, 16, .rw, 50, .nonzero⟩
def MODE_CTL.ACK_TO : RField := ⟨MODE_CTL, 16, 12, .rw, 100, .range 10 4000⟩
def MODE_CTL.RETRY : RField := ⟨MODE_CTL, 28, 4, .rw, 3, .any⟩
def MODE_CTL.info : RegInfo := ⟨MODE_CTL, false, [ MODE_CTL.CLOSE_TO, MODE_CTL.ACK_TO, MODE_CTL.RETRY]⟩
/-- R456, R458: Phase, barrier, scope, lagging units. -/
def MODE_STAT : Reg := ⟨.mode, 0x8⟩
def MODE_STAT.PHASE : RField := ⟨MODE_STAT, 0, 3, .ro, 0, .any⟩
def MODE_STAT.BARRIER_BUSY : RField := ⟨MODE_STAT, 3, 1, .ro, 0, .any⟩
def MODE_STAT.SCOPE : RField := ⟨MODE_STAT, 4, 3, .ro, 0, .any⟩
def MODE_STAT.LAGGING : RField := ⟨MODE_STAT, 16, 13, .ro, 0, .any⟩
def MODE_STAT.info : RegInfo := ⟨MODE_STAT, false, [ MODE_STAT.PHASE, MODE_STAT.BARRIER_BUSY, MODE_STAT.SCOPE, MODE_STAT.LAGGING]⟩
/-- R456, R458: Error flags. -/
def MODE_ERR : Reg := ⟨.mode, 0x10⟩
def MODE_ERR.CLOSE_TO : RField := ⟨MODE_ERR, 0, 1, .w1c, 0, .any⟩
def MODE_ERR.STAGE_FAIL : RField := ⟨MODE_ERR, 1, 1, .w1c, 0, .any⟩
def MODE_ERR.STAGE_TO : RField := ⟨MODE_ERR, 2, 1, .w1c, 0, .any⟩
def MODE_ERR.MISSED : RField := ⟨MODE_ERR, 3, 1, .w1c, 0, .any⟩
def MODE_ERR.BUSY : RField := ⟨MODE_ERR, 4, 1, .w1c, 0, .any⟩
def MODE_ERR.RECORD : RField := ⟨MODE_ERR, 5, 1, .w1c, 0, .any⟩
def MODE_ERR.CLASS : RField := ⟨MODE_ERR, 16, 2, .ro, 0, .any⟩
def MODE_ERR.INDEX : RField := ⟨MODE_ERR, 18, 13, .ro, 0, .any⟩
def MODE_ERR.info : RegInfo := ⟨MODE_ERR, false, [ MODE_ERR.CLOSE_TO, MODE_ERR.STAGE_FAIL, MODE_ERR.STAGE_TO, MODE_ERR.MISSED, MODE_ERR.BUSY, MODE_ERR.RECORD, MODE_ERR.CLASS, MODE_ERR.INDEX]⟩
/-- R456, R458: Current and staged generation. -/
def MODE_GEN : Reg := ⟨.mode, 0x18⟩
def MODE_GEN.CUR : RField := ⟨MODE_GEN, 0, 16, .ro, 1, .any⟩
def MODE_GEN.STAGED : RField := ⟨MODE_GEN, 16, 16, .ro, 0, .any⟩
def MODE_GEN.info : RegInfo := ⟨MODE_GEN, false, [ MODE_GEN.CUR, MODE_GEN.STAGED]⟩
/-- R456, R458: Device address of the mode record. -/
def MODE_REC_ADDR : Reg := ⟨.mode, 0x20⟩
def MODE_REC_ADDR.ADDR : RField := ⟨MODE_REC_ADDR, 0, 64, .rw, 0, .lowZero 6⟩
def MODE_REC_ADDR.info : RegInfo := ⟨MODE_REC_ADDR, true, [ MODE_REC_ADDR.ADDR]⟩
/-- R456, R458: Change, abort, barrier. -/
def MODE_CMD : Reg := ⟨.mode, 0x28⟩
def MODE_CMD.OP : RField := ⟨MODE_CMD, 0, 2, .wo, 0, .any⟩
def MODE_CMD.SCOPE : RField := ⟨MODE_CMD, 2, 3, .wo, 0, .any⟩
def MODE_CMD.info : RegInfo := ⟨MODE_CMD, false, [ MODE_CMD.OP, MODE_CMD.SCOPE]⟩
/-- R456, R458: Unit selected. -/
def MODE_UNIT_SEL : Reg := ⟨.mode, 0x30⟩
def MODE_UNIT_SEL.CLASS : RField := ⟨MODE_UNIT_SEL, 0, 2, .rw, 1, .nonzero⟩
def MODE_UNIT_SEL.INDEX : RField := ⟨MODE_UNIT_SEL, 3, 13, .rw, 0, .any⟩
def MODE_UNIT_SEL.info : RegInfo := ⟨MODE_UNIT_SEL, false, [ MODE_UNIT_SEL.CLASS, MODE_UNIT_SEL.INDEX]⟩
/-- R456, R458: MODE_GEN of the selected unit. -/
def MODE_UNIT_STAT : Reg := ⟨.mode, 0x38⟩
def MODE_UNIT_STAT.GEN : RField := ⟨MODE_UNIT_STAT, 0, 16, .ro, 0, .any⟩
def MODE_UNIT_STAT.STATE : RField := ⟨MODE_UNIT_STAT, 16, 2, .ro, 0, .any⟩
def MODE_UNIT_STAT.info : RegInfo := ⟨MODE_UNIT_STAT, false, [ MODE_UNIT_STAT.GEN, MODE_UNIT_STAT.STATE]⟩
/-- R456, R458: Changes committed (R450). -/
def MODE_CHANGE_CNT : Reg := ⟨.mode, 0x40⟩
def MODE_CHANGE_CNT.V : RField := ⟨MODE_CHANGE_CNT, 0, 64, .ro, 0, .any⟩
def MODE_CHANGE_CNT.info : RegInfo := ⟨MODE_CHANGE_CNT, true, [ MODE_CHANGE_CNT.V]⟩
/-- R456, R458: Changes aborted (R451). -/
def MODE_ABORT_CNT : Reg := ⟨.mode, 0x48⟩
def MODE_ABORT_CNT.V : RField := ⟨MODE_ABORT_CNT, 0, 64, .ro, 0, .any⟩
def MODE_ABORT_CNT.info : RegInfo := ⟨MODE_ABORT_CNT, true, [ MODE_ABORT_CNT.V]⟩
/-- R456, R458: Catch-ups (R453). -/
def MODE_CATCHUP_CNT : Reg := ⟨.mode, 0x50⟩
def MODE_CATCHUP_CNT.V : RField := ⟨MODE_CATCHUP_CNT, 0, 64, .ro, 0, .any⟩
def MODE_CATCHUP_CNT.info : RegInfo := ⟨MODE_CATCHUP_CNT, true, [ MODE_CATCHUP_CNT.V]⟩
/-- R456, R458: Barriers completed (R447). -/
def MODE_BARRIER_CNT : Reg := ⟨.mode, 0x58⟩
def MODE_BARRIER_CNT.V : RField := ⟨MODE_BARRIER_CNT, 0, 64, .ro, 0, .any⟩
def MODE_BARRIER_CNT.info : RegInfo := ⟨MODE_BARRIER_CNT, true, [ MODE_BARRIER_CNT.V]⟩

/-- R481, R483: Thresholds, limits, period, enables. -/
def CAL_CTL : Reg := ⟨.cal, 0x0⟩
def CAL_CTL.TSTEP : RField := ⟨CAL_CTL, 0, 8, .rw, 16, .nonzero⟩
def CAL_CTL.TRUN : RField := ⟨CAL_CTL, 8, 8, .rw, 15, .any⟩
def CAL_CTL.GAP_LIMIT : RField := ⟨CAL_CTL, 16, 8, .rw, 200, .nonzero⟩
def CAL_CTL.COL_MAX : RField := ⟨CAL_CTL, 24, 4, .rw, 3, .nonzero⟩
def CAL_CTL.AUTO_SPARE_COL : RField := ⟨CAL_CTL, 28, 1, .rw, 1, .any⟩
def CAL_CTL.PERIOD : RField := ⟨CAL_CTL, 32, 16, .rw, 168, .any⟩
def CAL_CTL.info : RegInfo := ⟨CAL_CTL, true, [ CAL_CTL.TSTEP, CAL_CTL.TRUN, CAL_CTL.GAP_LIMIT, CAL_CTL.COL_MAX, CAL_CTL.AUTO_SPARE_COL, CAL_CTL.PERIOD]⟩
/-- R481, R483: Runs queued and active. -/
def CAL_STAT : Reg := ⟨.cal, 0x8⟩
def CAL_STAT.QUEUED : RField := ⟨CAL_STAT, 0, 13, .ro, 0, .any⟩
def CAL_STAT.ACTIVE : RField := ⟨CAL_STAT, 16, 8, .ro, 0, .any⟩
def CAL_STAT.info : RegInfo := ⟨CAL_STAT, false, [ CAL_STAT.QUEUED, CAL_STAT.ACTIVE]⟩
/-- R481, R483: Error flags. -/
def CAL_ERR : Reg := ⟨.cal, 0x10⟩
def CAL_ERR.REPAIR_NEED : RField := ⟨CAL_ERR, 0, 1, .w1c, 0, .any⟩
def CAL_ERR.SPARE_COL_OUT : RField := ⟨CAL_ERR, 1, 1, .w1c, 0, .any⟩
def CAL_ERR.SPARE_ROW_OUT : RField := ⟨CAL_ERR, 2, 1, .w1c, 0, .any⟩
def CAL_ERR.INSPECT : RField := ⟨CAL_ERR, 3, 1, .w1c, 0, .any⟩
def CAL_ERR.LOG_FULL : RField := ⟨CAL_ERR, 4, 1, .w1c, 0, .any⟩
def CAL_ERR.NO_SPARE_STALL : RField := ⟨CAL_ERR, 5, 1, .w1c, 0, .any⟩
def CAL_ERR.ROW : RField := ⟨CAL_ERR, 16, 8, .ro, 0, .any⟩
def CAL_ERR.STALL : RField := ⟨CAL_ERR, 24, 6, .ro, 0, .any⟩
def CAL_ERR.info : RegInfo := ⟨CAL_ERR, false, [ CAL_ERR.REPAIR_NEED, CAL_ERR.SPARE_COL_OUT, CAL_ERR.SPARE_ROW_OUT, CAL_ERR.INSPECT, CAL_ERR.LOG_FULL, CAL_ERR.NO_SPARE_STALL, CAL_ERR.ROW, CAL_ERR.STALL]⟩
/-- R481, R483: Host stamp (R468). -/
def CAL_HOST_STAMP : Reg := ⟨.cal, 0x18⟩
def CAL_HOST_STAMP.STAMP : RField := ⟨CAL_HOST_STAMP, 0, 64, .rw, 0, .any⟩
def CAL_HOST_STAMP.info : RegInfo := ⟨CAL_HOST_STAMP, true, [ CAL_HOST_STAMP.STAMP]⟩
/-- R481, R483: Queue, re-estimate, substitute, withdraw. -/
def CAL_CMD : Reg := ⟨.cal, 0x20⟩
def CAL_CMD.OP : RField := ⟨CAL_CMD, 0, 3, .wo, 0, .any⟩
def CAL_CMD.ROW : RField := ⟨CAL_CMD, 3, 8, .wo, 0, .any⟩
def CAL_CMD.STALL : RField := ⟨CAL_CMD, 11, 6, .wo, 0, .any⟩
def CAL_CMD.info : RegInfo := ⟨CAL_CMD, false, [ CAL_CMD.OP, CAL_CMD.ROW, CAL_CMD.STALL]⟩
/-- R481, R483: Stall selected. -/
def CAL_SEL : Reg := ⟨.cal, 0x28⟩
def CAL_SEL.ROW : RField := ⟨CAL_SEL, 0, 8, .rw, 0, .range 0 191⟩
def CAL_SEL.STALL : RField := ⟨CAL_SEL, 8, 6, .rw, 0, .range 0 32⟩
def CAL_SEL.info : RegInfo := ⟨CAL_SEL, false, [ CAL_SEL.ROW, CAL_SEL.STALL]⟩
/-- R481, R483: Count and run state of the selected stall. -/
def CAL_STALL_STAT : Reg := ⟨.cal, 0x30⟩
def CAL_STALL_STAT.COUNT : RField := ⟨CAL_STALL_STAT, 0, 32, .ro, 0, .any⟩
def CAL_STALL_STAT.RUN : RField := ⟨CAL_STALL_STAT, 32, 3, .ro, 0, .any⟩
def CAL_STALL_STAT.STEP : RField := ⟨CAL_STALL_STAT, 40, 5, .ro, 0, .any⟩
def CAL_STALL_STAT.info : RegInfo := ⟨CAL_STALL_STAT, true, [ CAL_STALL_STAT.COUNT, CAL_STALL_STAT.RUN, CAL_STALL_STAT.STEP]⟩
/-- R481, R483: Stamp recorded at the last commit. -/
def CAL_STALL_STAMP : Reg := ⟨.cal, 0x38⟩
def CAL_STALL_STAMP.STAMP : RField := ⟨CAL_STALL_STAMP, 0, 64, .ro, 0, .any⟩
def CAL_STALL_STAMP.info : RegInfo := ⟨CAL_STALL_STAMP, true, [ CAL_STALL_STAMP.STAMP]⟩
/-- R481, R483: Rounds after the stamp, and age. -/
def CAL_STALL_ROUNDS : Reg := ⟨.cal, 0x40⟩
def CAL_STALL_ROUNDS.AFTER : RField := ⟨CAL_STALL_ROUNDS, 0, 32, .ro, 0, .any⟩
def CAL_STALL_ROUNDS.AGE : RField := ⟨CAL_STALL_ROUNDS, 32, 32, .ro, 0, .any⟩
def CAL_STALL_ROUNDS.info : RegInfo := ⟨CAL_STALL_ROUNDS, true, [ CAL_STALL_ROUNDS.AFTER, CAL_STALL_ROUNDS.AGE]⟩
/-- R481, R483: Temperatures of the selected stall's row. -/
def CAL_ROW_TEMP : Reg := ⟨.cal, 0x48⟩
def CAL_ROW_TEMP.REF : RField := ⟨CAL_ROW_TEMP, 0, 16, .ro, 0, .any⟩
def CAL_ROW_TEMP.A : RField := ⟨CAL_ROW_TEMP, 16, 16, .ro, 0, .any⟩
def CAL_ROW_TEMP.B : RField := ⟨CAL_ROW_TEMP, 32, 16, .ro, 0, .any⟩
def CAL_ROW_TEMP.info : RegInfo := ⟨CAL_ROW_TEMP, true, [ CAL_ROW_TEMP.REF, CAL_ROW_TEMP.A, CAL_ROW_TEMP.B]⟩
/-- R481, R483: Repair entry selected. -/
def CAL_REPAIR_SEL : Reg := ⟨.cal, 0x50⟩
def CAL_REPAIR_SEL.ROW : RField := ⟨CAL_REPAIR_SEL, 0, 8, .rw, 0, .any⟩
def CAL_REPAIR_SEL.STALL : RField := ⟨CAL_REPAIR_SEL, 8, 6, .rw, 0, .any⟩
def CAL_REPAIR_SEL.GROUP : RField := ⟨CAL_REPAIR_SEL, 14, 2, .rw, 0, .any⟩
def CAL_REPAIR_SEL.CRATE : RField := ⟨CAL_REPAIR_SEL, 16, 3, .rw, 0, .any⟩
def CAL_REPAIR_SEL.KIND : RField := ⟨CAL_REPAIR_SEL, 19, 1, .rw, 0, .any⟩
def CAL_REPAIR_SEL.ENTRY : RField := ⟨CAL_REPAIR_SEL, 20, 5, .rw, 0, .any⟩
def CAL_REPAIR_SEL.info : RegInfo := ⟨CAL_REPAIR_SEL, false, [ CAL_REPAIR_SEL.ROW, CAL_REPAIR_SEL.STALL, CAL_REPAIR_SEL.GROUP, CAL_REPAIR_SEL.CRATE, CAL_REPAIR_SEL.KIND, CAL_REPAIR_SEL.ENTRY]⟩
/-- R481, R483: Selected repair entry (R478). -/
def CAL_REPAIR_DATA : Reg := ⟨.cal, 0x58⟩
def CAL_REPAIR_DATA.LOGICAL : RField := ⟨CAL_REPAIR_DATA, 0, 10, .rw, 0, .any⟩
def CAL_REPAIR_DATA.VALID : RField := ⟨CAL_REPAIR_DATA, 10, 1, .rw, 0, .any⟩
def CAL_REPAIR_DATA.FUSED : RField := ⟨CAL_REPAIR_DATA, 11, 1, .ro, 0, .any⟩
def CAL_REPAIR_DATA.PENDING : RField := ⟨CAL_REPAIR_DATA, 12, 1, .ro, 0, .any⟩
def CAL_REPAIR_DATA.info : RegInfo := ⟨CAL_REPAIR_DATA, false, [ CAL_REPAIR_DATA.LOGICAL, CAL_REPAIR_DATA.VALID, CAL_REPAIR_DATA.FUSED, CAL_REPAIR_DATA.PENDING]⟩
/-- R481, R483: Runs committed. -/
def CAL_RUN_CNT : Reg := ⟨.cal, 0x60⟩
def CAL_RUN_CNT.V : RField := ⟨CAL_RUN_CNT, 0, 64, .ro, 0, .any⟩
def CAL_RUN_CNT.info : RegInfo := ⟨CAL_RUN_CNT, true, [ CAL_RUN_CNT.V]⟩
/-- R481, R483: Re-estimates (R469). -/
def CAL_REEST_CNT : Reg := ⟨.cal, 0x68⟩
def CAL_REEST_CNT.V : RField := ⟨CAL_REEST_CNT, 0, 64, .ro, 0, .any⟩
def CAL_REEST_CNT.info : RegInfo := ⟨CAL_REEST_CNT, true, [ CAL_REEST_CNT.V]⟩
/-- R481, R483: Spare columns assigned. -/
def CAL_SPARE_COL_CNT : Reg := ⟨.cal, 0x70⟩
def CAL_SPARE_COL_CNT.V : RField := ⟨CAL_SPARE_COL_CNT, 0, 64, .ro, 0, .any⟩
def CAL_SPARE_COL_CNT.info : RegInfo := ⟨CAL_SPARE_COL_CNT, true, [ CAL_SPARE_COL_CNT.V]⟩
/-- R481, R483: Spare rows assigned. -/
def CAL_SPARE_ROW_CNT : Reg := ⟨.cal, 0x78⟩
def CAL_SPARE_ROW_CNT.V : RField := ⟨CAL_SPARE_ROW_CNT, 0, 64, .ro, 0, .any⟩
def CAL_SPARE_ROW_CNT.info : RegInfo := ⟨CAL_SPARE_ROW_CNT, true, [ CAL_SPARE_ROW_CNT.V]⟩
/-- R481, R483: Stall substitutions (R479). -/
def CAL_SUBST_CNT : Reg := ⟨.cal, 0x80⟩
def CAL_SUBST_CNT.V : RField := ⟨CAL_SUBST_CNT, 0, 64, .ro, 0, .any⟩
def CAL_SUBST_CNT.info : RegInfo := ⟨CAL_SUBST_CNT, true, [ CAL_SUBST_CNT.V]⟩
/-- R481, R483: Inspector jobs for shuttered tiles (R470). -/
def CAL_SHUT_JOB_CNT : Reg := ⟨.cal, 0x88⟩
def CAL_SHUT_JOB_CNT.V : RField := ⟨CAL_SHUT_JOB_CNT, 0, 64, .ro, 0, .any⟩
def CAL_SHUT_JOB_CNT.info : RegInfo := ⟨CAL_SHUT_JOB_CNT, true, [ CAL_SHUT_JOB_CNT.V]⟩

/-- R481, R483: State and queue. -/
def BST_STAT : Reg := ⟨.bst, 0x0⟩
def BST_STAT.STATE : RField := ⟨BST_STAT, 0, 3, .ro, 0, .any⟩
def BST_STAT.QUEUED : RField := ⟨BST_STAT, 8, 8, .ro, 0, .any⟩
def BST_STAT.info : RegInfo := ⟨BST_STAT, false, [ BST_STAT.STATE, BST_STAT.QUEUED]⟩
/-- R481, R483: Error flags. -/
def BST_ERR : Reg := ⟨.bst, 0x8⟩
def BST_ERR.FAIL : RField := ⟨BST_ERR, 0, 1, .w1c, 0, .any⟩
def BST_ERR.DEFER : RField := ⟨BST_ERR, 1, 1, .w1c, 0, .any⟩
def BST_ERR.FUSE : RField := ⟨BST_ERR, 2, 1, .w1c, 0, .any⟩
def BST_ERR.ROW : RField := ⟨BST_ERR, 16, 8, .ro, 0, .any⟩
def BST_ERR.STALL : RField := ⟨BST_ERR, 24, 6, .ro, 0, .any⟩
def BST_ERR.UNIT : RField := ⟨BST_ERR, 30, 2, .ro, 0, .any⟩
def BST_ERR.info : RegInfo := ⟨BST_ERR, false, [ BST_ERR.FAIL, BST_ERR.DEFER, BST_ERR.FUSE, BST_ERR.ROW, BST_ERR.STALL, BST_ERR.UNIT]⟩
/-- R481, R483: Request or withdraw a test. -/
def BST_CMD : Reg := ⟨.bst, 0x10⟩
def BST_CMD.TEST : RField := ⟨BST_CMD, 0, 3, .wo, 0, .any⟩
def BST_CMD.UNIT : RField := ⟨BST_CMD, 3, 2, .wo, 0, .any⟩
def BST_CMD.INDEX : RField := ⟨BST_CMD, 5, 8, .wo, 0, .any⟩
def BST_CMD.STALL : RField := ⟨BST_CMD, 13, 6, .wo, 0, .any⟩
def BST_CMD.WITHDRAW : RField := ⟨BST_CMD, 19, 1, .wo, 0, .any⟩
def BST_CMD.info : RegInfo := ⟨BST_CMD, false, [ BST_CMD.TEST, BST_CMD.UNIT, BST_CMD.INDEX, BST_CMD.STALL, BST_CMD.WITHDRAW]⟩
/-- R481, R483: MISR of the last logic test. -/
def BST_RESULT : Reg := ⟨.bst, 0x18⟩
def BST_RESULT.MISR : RField := ⟨BST_RESULT, 0, 64, .ro, 0, .any⟩
def BST_RESULT.info : RegInfo := ⟨BST_RESULT, true, [ BST_RESULT.MISR]⟩
/-- R481, R483: Inspector service, fuses, wait limit. -/
def BST_POLICY : Reg := ⟨.bst, 0x20⟩
def BST_POLICY.INSPECT_SERVE : RField := ⟨BST_POLICY, 0, 1, .rl, 1, .any⟩
def BST_POLICY.FUSE_EN : RField := ⟨BST_POLICY, 1, 1, .rl, 0, .any⟩
def BST_POLICY.SHUT_WAIT : RField := ⟨BST_POLICY, 16, 16, .rl, 500, .any⟩
def BST_POLICY.info : RegInfo := ⟨BST_POLICY, false, [ BST_POLICY.INSPECT_SERVE, BST_POLICY.FUSE_EN, BST_POLICY.SHUT_WAIT]⟩
/-- R481, R483: Burn soft repairs (R477). -/
def BST_FUSE_CMD : Reg := ⟨.bst, 0x28⟩
def BST_FUSE_CMD.GO : RField := ⟨BST_FUSE_CMD, 0, 1, .wo, 0, .any⟩
def BST_FUSE_CMD.info : RegInfo := ⟨BST_FUSE_CMD, false, [ BST_FUSE_CMD.GO]⟩
/-- R481, R483: Tests completed. -/
def BST_RUN_CNT : Reg := ⟨.bst, 0x30⟩
def BST_RUN_CNT.V : RField := ⟨BST_RUN_CNT, 0, 64, .ro, 0, .any⟩
def BST_RUN_CNT.info : RegInfo := ⟨BST_RUN_CNT, true, [ BST_RUN_CNT.V]⟩
/-- R481, R483: Tests failed (R476). -/
def BST_FAIL_CNT : Reg := ⟨.bst, 0x38⟩
def BST_FAIL_CNT.V : RField := ⟨BST_FAIL_CNT, 0, 64, .ro, 0, .any⟩
def BST_FAIL_CNT.info : RegInfo := ⟨BST_FAIL_CNT, true, [ BST_FAIL_CNT.V]⟩
/-- R481, R483: Requests deferred (R475). -/
def BST_DEFER_CNT : Reg := ⟨.bst, 0x40⟩
def BST_DEFER_CNT.V : RField := ⟨BST_DEFER_CNT, 0, 64, .ro, 0, .any⟩
def BST_DEFER_CNT.info : RegInfo := ⟨BST_DEFER_CNT, true, [ BST_DEFER_CNT.V]⟩
/-- R481, R483: Repairs burned. -/
def BST_FUSE_CNT : Reg := ⟨.bst, 0x48⟩
def BST_FUSE_CNT.V : RField := ⟨BST_FUSE_CNT, 0, 64, .ro, 0, .any⟩
def BST_FUSE_CNT.info : RegInfo := ⟨BST_FUSE_CNT, true, [ BST_FUSE_CNT.V]⟩

/-- R509: Sleep, cap and throttle enables. -/
def WDN_CTL : Reg := ⟨.wdn, 0x0⟩
def WDN_CTL.SLEEP_EN : RField := ⟨WDN_CTL, 0, 1, .rw, 1, .any⟩
def WDN_CTL.PCAP_EN : RField := ⟨WDN_CTL, 1, 1, .rw, 1, .any⟩
def WDN_CTL.THR_EN : RField := ⟨WDN_CTL, 2, 1, .rw, 1, .any⟩
def WDN_CTL.info : RegInfo := ⟨WDN_CTL, false, [ WDN_CTL.SLEEP_EN, WDN_CTL.PCAP_EN, WDN_CTL.THR_EN]⟩
/-- R509: Thermal state, duties, power. -/
def WDN_STAT : Reg := ⟨.wdn, 0x8⟩
def WDN_STAT.THERM : RField := ⟨WDN_STAT, 0, 3, .ro, 0, .any⟩
def WDN_STAT.RESTART_OK : RField := ⟨WDN_STAT, 3, 1, .ro, 0, .any⟩
def WDN_STAT.PDUTY : RField := ⟨WDN_STAT, 4, 4, .ro, 0, .any⟩
def WDN_STAT.SDUTY : RField := ⟨WDN_STAT, 8, 4, .ro, 0, .any⟩
def WDN_STAT.MON_LP : RField := ⟨WDN_STAT, 12, 1, .ro, 0, .any⟩
def WDN_STAT.POWER : RField := ⟨WDN_STAT, 32, 16, .ro, 0, .any⟩
def WDN_STAT.info : RegInfo := ⟨WDN_STAT, true, [ WDN_STAT.THERM, WDN_STAT.RESTART_OK, WDN_STAT.PDUTY, WDN_STAT.SDUTY, WDN_STAT.MON_LP, WDN_STAT.POWER]⟩
/-- R509: Error flags. -/
def WDN_ERR : Reg := ⟨.wdn, 0x10⟩
def WDN_ERR.CHAIN : RField := ⟨WDN_ERR, 0, 1, .w1c, 0, .any⟩
def WDN_ERR.SENSOR : RField := ⟨WDN_ERR, 1, 1, .w1c, 0, .any⟩
def WDN_ERR.VR : RField := ⟨WDN_ERR, 2, 1, .w1c, 0, .any⟩
def WDN_ERR.PMB : RField := ⟨WDN_ERR, 3, 1, .w1c, 0, .any⟩
def WDN_ERR.MON_OVR : RField := ⟨WDN_ERR, 4, 1, .w1c, 0, .any⟩
def WDN_ERR.SEQ : RField := ⟨WDN_ERR, 5, 1, .w1c, 0, .any⟩
def WDN_ERR.RESTART : RField := ⟨WDN_ERR, 6, 1, .w1c, 0, .any⟩
def WDN_ERR.VSET : RField := ⟨WDN_ERR, 7, 1, .w1c, 0, .any⟩
def WDN_ERR.SENSOR_NO : RField := ⟨WDN_ERR, 16, 9, .ro, 0, .any⟩
def WDN_ERR.VR_NO : RField := ⟨WDN_ERR, 25, 4, .ro, 0, .any⟩
def WDN_ERR.info : RegInfo := ⟨WDN_ERR, false, [ WDN_ERR.CHAIN, WDN_ERR.SENSOR, WDN_ERR.VR, WDN_ERR.PMB, WDN_ERR.MON_OVR, WDN_ERR.SEQ, WDN_ERR.RESTART, WDN_ERR.VSET, WDN_ERR.SENSOR_NO, WDN_ERR.VR_NO]⟩
/-- R509: Round counter (R489). -/
def WDN_ROUND : Reg := ⟨.wdn, 0x18⟩
def WDN_ROUND.V : RField := ⟨WDN_ROUND, 0, 64, .ro, 0, .any⟩
def WDN_ROUND.info : RegInfo := ⟨WDN_ROUND, true, [ WDN_ROUND.V]⟩
/-- R509: Restart. -/
def WDN_CMD : Reg := ⟨.wdn, 0x20⟩
def WDN_CMD.OP : RField := ⟨WDN_CMD, 0, 2, .wo, 0, .any⟩
def WDN_CMD.info : RegInfo := ⟨WDN_CMD, false, [ WDN_CMD.OP]⟩
/-- R509: Sleep idle times. -/
def WDN_SLEEP_CTL : Reg := ⟨.wdn, 0x28⟩
def WDN_SLEEP_CTL.GATE_IDLE : RField := ⟨WDN_SLEEP_CTL, 0, 8, .rw, 8, .nonzero⟩
def WDN_SLEEP_CTL.BIAS_IDLE : RField := ⟨WDN_SLEEP_CTL, 8, 16, .rw, 20, .nonzero⟩
def WDN_SLEEP_CTL.info : RegInfo := ⟨WDN_SLEEP_CTL, false, [ WDN_SLEEP_CTL.GATE_IDLE, WDN_SLEEP_CTL.BIAS_IDLE]⟩
/-- R509: Power cap and hysteresis. -/
def WDN_PCAP : Reg := ⟨.wdn, 0x30⟩
def WDN_PCAP.CAP : RField := ⟨WDN_PCAP, 0, 11, .rl, 1500, .range 100 1500⟩
def WDN_PCAP.HYST : RField := ⟨WDN_PCAP, 16, 8, .rl, 25, .any⟩
def WDN_PCAP.info : RegInfo := ⟨WDN_PCAP, false, [ WDN_PCAP.CAP, WDN_PCAP.HYST]⟩
/-- R509: Sensor selected. -/
def WDN_THERM_SEL : Reg := ⟨.wdn, 0x38⟩
def WDN_THERM_SEL.SENSOR : RField := ⟨WDN_THERM_SEL, 0, 9, .rw, 0, .range 0 399⟩
def WDN_THERM_SEL.info : RegInfo := ⟨WDN_THERM_SEL, false, [ WDN_THERM_SEL.SENSOR]⟩
/-- R509: Selected sensor. -/
def WDN_THERM_DATA : Reg := ⟨.wdn, 0x40⟩
def WDN_THERM_DATA.TEMP : RField := ⟨WDN_THERM_DATA, 0, 16, .ro, 0, .any⟩
def WDN_THERM_DATA.LEVEL : RField := ⟨WDN_THERM_DATA, 16, 2, .ro, 0, .any⟩
def WDN_THERM_DATA.VALID : RField := ⟨WDN_THERM_DATA, 18, 1, .ro, 0, .any⟩
def WDN_THERM_DATA.FAILED : RField := ⟨WDN_THERM_DATA, 19, 1, .ro, 0, .any⟩
def WDN_THERM_DATA.DUTY : RField := ⟨WDN_THERM_DATA, 20, 4, .ro, 0, .any⟩
def WDN_THERM_DATA.info : RegInfo := ⟨WDN_THERM_DATA, false, [ WDN_THERM_DATA.TEMP, WDN_THERM_DATA.LEVEL, WDN_THERM_DATA.VALID, WDN_THERM_DATA.FAILED, WDN_THERM_DATA.DUTY]⟩
/-- R509: Hottest valid sensor. -/
def WDN_THERM_MAX : Reg := ⟨.wdn, 0x48⟩
def WDN_THERM_MAX.TEMP : RField := ⟨WDN_THERM_MAX, 0, 16, .ro, 0, .any⟩
def WDN_THERM_MAX.SENSOR : RField := ⟨WDN_THERM_MAX, 16, 9, .ro, 0, .any⟩
def WDN_THERM_MAX.info : RegInfo := ⟨WDN_THERM_MAX, false, [ WDN_THERM_MAX.TEMP, WDN_THERM_MAX.SENSOR]⟩
/-- R509: Monitor path, trigger, length. -/
def WDN_MON_CTL : Reg := ⟨.wdn, 0x50⟩
def WDN_MON_CTL.MODE : RField := ⟨WDN_MON_CTL, 0, 1, .rw, 1, .any⟩
def WDN_MON_CTL.LP : RField := ⟨WDN_MON_CTL, 1, 1, .rw, 0, .any⟩
def WDN_MON_CTL.TRIG : RField := ⟨WDN_MON_CTL, 2, 2, .rw, 0, .range 0 2⟩
def WDN_MON_CTL.LEN : RField := ⟨WDN_MON_CTL, 4, 5, .rw, 0, .range 0 16⟩
def WDN_MON_CTL.info : RegInfo := ⟨WDN_MON_CTL, false, [ WDN_MON_CTL.MODE, WDN_MON_CTL.LP, WDN_MON_CTL.TRIG, WDN_MON_CTL.LEN]⟩
/-- R509: Start a pass. -/
def WDN_MON_CMD : Reg := ⟨.wdn, 0x58⟩
def WDN_MON_CMD.GO : RField := ⟨WDN_MON_CMD, 0, 1, .wo, 0, .any⟩
def WDN_MON_CMD.info : RegInfo := ⟨WDN_MON_CMD, false, [ WDN_MON_CMD.GO]⟩
/-- R509: Latest result (R506). -/
def WDN_MON_DATA : Reg := ⟨.wdn, 0x60⟩
def WDN_MON_DATA.CODE : RField := ⟨WDN_MON_DATA, 0, 12, .rc, 0, .any⟩
def WDN_MON_DATA.CH : RField := ⟨WDN_MON_DATA, 12, 6, .rc, 0, .any⟩
def WDN_MON_DATA.SLICE : RField := ⟨WDN_MON_DATA, 18, 1, .rc, 0, .any⟩
def WDN_MON_DATA.ENTRY : RField := ⟨WDN_MON_DATA, 19, 4, .rc, 0, .any⟩
def WDN_MON_DATA.SIM : RField := ⟨WDN_MON_DATA, 23, 1, .rc, 0, .any⟩
def WDN_MON_DATA.CODE2 : RField := ⟨WDN_MON_DATA, 24, 12, .rc, 0, .any⟩
def WDN_MON_DATA.CH2 : RField := ⟨WDN_MON_DATA, 36, 6, .rc, 0, .any⟩
def WDN_MON_DATA.VALID : RField := ⟨WDN_MON_DATA, 63, 1, .rc, 0, .any⟩
def WDN_MON_DATA.info : RegInfo := ⟨WDN_MON_DATA, true, [ WDN_MON_DATA.CODE, WDN_MON_DATA.CH, WDN_MON_DATA.SLICE, WDN_MON_DATA.ENTRY, WDN_MON_DATA.SIM, WDN_MON_DATA.CODE2, WDN_MON_DATA.CH2, WDN_MON_DATA.VALID]⟩
/-- R509: Channel selected. -/
def WDN_MON_SEL : Reg := ⟨.wdn, 0x68⟩
def WDN_MON_SEL.CH : RField := ⟨WDN_MON_SEL, 0, 6, .rw, 0, .any⟩
def WDN_MON_SEL.info : RegInfo := ⟨WDN_MON_SEL, false, [ WDN_MON_SEL.CH]⟩
/-- R509: Result file entry of the selected channel. -/
def WDN_MON_CH : Reg := ⟨.wdn, 0x70⟩
def WDN_MON_CH.CODE : RField := ⟨WDN_MON_CH, 0, 12, .ro, 0, .any⟩
def WDN_MON_CH.VALID : RField := ⟨WDN_MON_CH, 31, 1, .ro, 0, .any⟩
def WDN_MON_CH.info : RegInfo := ⟨WDN_MON_CH, false, [ WDN_MON_CH.CODE, WDN_MON_CH.VALID]⟩
/-- R509: Scan mask (R504). -/
def WDN_MON_SCAN : Reg := ⟨.wdn, 0x78⟩
def WDN_MON_SCAN.MASK : RField := ⟨WDN_MON_SCAN, 0, 64, .rw, 16777215, .any⟩
def WDN_MON_SCAN.info : RegInfo := ⟨WDN_MON_SCAN, true, [ WDN_MON_SCAN.MASK]⟩
/-- R509: Regulator selected. -/
def WDN_VR_SEL : Reg := ⟨.wdn, 0x80⟩
def WDN_VR_SEL.VR : RField := ⟨WDN_VR_SEL, 0, 4, .rw, 0, .any⟩
def WDN_VR_SEL.info : RegInfo := ⟨WDN_VR_SEL, false, [ WDN_VR_SEL.VR]⟩
/-- R509: Configuration of the selected regulator. -/
def WDN_VR_CFG : Reg := ⟨.wdn, 0x88⟩
def WDN_VR_CFG.ADDR : RField := ⟨WDN_VR_CFG, 0, 7, .rl, 0, .any⟩
def WDN_VR_CFG.EN : RField := ⟨WDN_VR_CFG, 7, 1, .rl, 0, .any⟩
def WDN_VR_CFG.RAIL : RField := ⟨WDN_VR_CFG, 8, 4, .rl, 0, .any⟩
def WDN_VR_CFG.PAGE : RField := ⟨WDN_VR_CFG, 12, 4, .rl, 0, .any⟩
def WDN_VR_CFG.VMIN : RField := ⟨WDN_VR_CFG, 32, 16, .rl, 0, .any⟩
def WDN_VR_CFG.VMAX : RField := ⟨WDN_VR_CFG, 48, 16, .rl, 0, .any⟩
def WDN_VR_CFG.info : RegInfo := ⟨WDN_VR_CFG, true, [ WDN_VR_CFG.ADDR, WDN_VR_CFG.EN, WDN_VR_CFG.RAIL, WDN_VR_CFG.PAGE, WDN_VR_CFG.VMIN, WDN_VR_CFG.VMAX]⟩
/-- R509: Telemetry of the selected regulator. -/
def WDN_VR_STAT : Reg := ⟨.wdn, 0x90⟩
def WDN_VR_STAT.VOUT : RField := ⟨WDN_VR_STAT, 0, 16, .ro, 0, .any⟩
def WDN_VR_STAT.IOUT : RField := ⟨WDN_VR_STAT, 16, 16, .ro, 0, .any⟩
def WDN_VR_STAT.STATUS : RField := ⟨WDN_VR_STAT, 32, 16, .ro, 0, .any⟩
def WDN_VR_STAT.FAULT : RField := ⟨WDN_VR_STAT, 48, 1, .ro, 0, .any⟩
def WDN_VR_STAT.info : RegInfo := ⟨WDN_VR_STAT, true, [ WDN_VR_STAT.VOUT, WDN_VR_STAT.IOUT, WDN_VR_STAT.STATUS, WDN_VR_STAT.FAULT]⟩
/-- R509: Set-point of the selected regulator (R502). -/
def WDN_VR_VSET : Reg := ⟨.wdn, 0x98⟩
def WDN_VR_VSET.MV : RField := ⟨WDN_VR_VSET, 0, 16, .rw, 0, .any⟩
def WDN_VR_VSET.info : RegInfo := ⟨WDN_VR_VSET, false, [ WDN_VR_VSET.MV]⟩
/-- R509: Pause edges over all rows (R494). -/
def WDN_PAUSE_CNT : Reg := ⟨.wdn, 0xA0⟩
def WDN_PAUSE_CNT.V : RField := ⟨WDN_PAUSE_CNT, 0, 64, .ro, 0, .any⟩
def WDN_PAUSE_CNT.info : RegInfo := ⟨WDN_PAUSE_CNT, true, [ WDN_PAUSE_CNT.V]⟩
/-- R509: Wakes (R488). -/
def WDN_WAKE_CNT : Reg := ⟨.wdn, 0xA8⟩
def WDN_WAKE_CNT.V : RField := ⟨WDN_WAKE_CNT, 0, 64, .ro, 0, .any⟩
def WDN_WAKE_CNT.info : RegInfo := ⟨WDN_WAKE_CNT, true, [ WDN_WAKE_CNT.V]⟩
/-- R509: Failed PMBus transactions (R501). -/
def WDN_PMB_ERR_CNT : Reg := ⟨.wdn, 0xB0⟩
def WDN_PMB_ERR_CNT.V : RField := ⟨WDN_PMB_ERR_CNT, 0, 64, .ro, 0, .any⟩
def WDN_PMB_ERR_CNT.info : RegInfo := ⟨WDN_PMB_ERR_CNT, true, [ WDN_PMB_ERR_CNT.V]⟩
/-- R509: Overruns (R506). -/
def WDN_MON_OVR_CNT : Reg := ⟨.wdn, 0xB8⟩
def WDN_MON_OVR_CNT.V : RField := ⟨WDN_MON_OVR_CNT, 0, 64, .ro, 0, .any⟩
def WDN_MON_OVR_CNT.info : RegInfo := ⟨WDN_MON_OVR_CNT, true, [ WDN_MON_OVR_CNT.V]⟩
/-- R509: Orderly stops (R495). -/
def WDN_STOP_CNT : Reg := ⟨.wdn, 0xC0⟩
def WDN_STOP_CNT.V : RField := ⟨WDN_STOP_CNT, 0, 64, .ro, 0, .any⟩
def WDN_STOP_CNT.info : RegInfo := ⟨WDN_STOP_CNT, true, [ WDN_STOP_CNT.V]⟩
/-- R509: Sequence entry k, k = 0–15. -/
def WDN_SEQ : Reg := ⟨.wdn, 0x100⟩
def WDN_SEQ.CH : RField := ⟨WDN_SEQ, 0, 6, .rw, 0, .any⟩
def WDN_SEQ.SAMP : RField := ⟨WDN_SEQ, 6, 2, .rw, 0, .any⟩
def WDN_SEQ.GAIN : RField := ⟨WDN_SEQ, 8, 2, .rw, 0, .any⟩
def WDN_SEQ.SIM : RField := ⟨WDN_SEQ, 10, 1, .rw, 0, .any⟩
def WDN_SEQ.CH2 : RField := ⟨WDN_SEQ, 12, 6, .rw, 0, .any⟩
def WDN_SEQ.info : RegInfo := ⟨WDN_SEQ, false, [ WDN_SEQ.CH, WDN_SEQ.SAMP, WDN_SEQ.GAIN, WDN_SEQ.SIM, WDN_SEQ.CH2]⟩
/-- R549: Reset a scope. -/
def WDN_RST_CMD : Reg := ⟨.wdn, 0x200⟩
def WDN_RST_CMD.OP : RField := ⟨WDN_RST_CMD, 0, 3, .wo, 0, .any⟩
def WDN_RST_CMD.QUARTER : RField := ⟨WDN_RST_CMD, 3, 2, .wo, 0, .any⟩
def WDN_RST_CMD.ROW : RField := ⟨WDN_RST_CMD, 5, 8, .wo, 0, .any⟩
def WDN_RST_CMD.STALL : RField := ⟨WDN_RST_CMD, 13, 6, .wo, 0, .any⟩
def WDN_RST_CMD.info : RegInfo := ⟨WDN_RST_CMD, false, [ WDN_RST_CMD.OP, WDN_RST_CMD.QUARTER, WDN_RST_CMD.ROW, WDN_RST_CMD.STALL]⟩
/-- R549: Cause of the last device reset, start-up state. -/
def WDN_RST_CAUSE : Reg := ⟨.wdn, 0x208⟩
def WDN_RST_CAUSE.CAUSE : RField := ⟨WDN_RST_CAUSE, 0, 3, .ro, 0, .any⟩
def WDN_RST_CAUSE.STATE : RField := ⟨WDN_RST_CAUSE, 3, 3, .ro, 0, .any⟩
def WDN_RST_CAUSE.BOOT_SEL : RField := ⟨WDN_RST_CAUSE, 6, 2, .ro, 0, .any⟩
def WDN_RST_CAUSE.RESETS : RField := ⟨WDN_RST_CAUSE, 32, 32, .ro, 0, .any⟩
def WDN_RST_CAUSE.info : RegInfo := ⟨WDN_RST_CAUSE, true, [ WDN_RST_CAUSE.CAUSE, WDN_RST_CAUSE.STATE, WDN_RST_CAUSE.BOOT_SEL, WDN_RST_CAUSE.RESETS]⟩
/-- R549: Watchdog period and kick. -/
def WDN_WDOG : Reg := ⟨.wdn, 0x210⟩
def WDN_WDOG.PERIOD : RField := ⟨WDN_WDOG, 0, 8, .rw, 250, .any⟩
def WDN_WDOG.KICK : RField := ⟨WDN_WDOG, 31, 1, .wo, 0, .any⟩
def WDN_WDOG.info : RegInfo := ⟨WDN_WDOG, false, [ WDN_WDOG.PERIOD, WDN_WDOG.KICK]⟩
/-- R549: Fault log entry selected. -/
def WDN_FLOG_SEL : Reg := ⟨.wdn, 0x218⟩
def WDN_FLOG_SEL.INDEX : RField := ⟨WDN_FLOG_SEL, 0, 10, .rw, 0, .any⟩
def WDN_FLOG_SEL.info : RegInfo := ⟨WDN_FLOG_SEL, false, [ WDN_FLOG_SEL.INDEX]⟩
/-- R549: Selected entry. -/
def WDN_FLOG_DATA : Reg := ⟨.wdn, 0x220⟩
def WDN_FLOG_DATA.CODE : RField := ⟨WDN_FLOG_DATA, 0, 8, .ro, 0, .any⟩
def WDN_FLOG_DATA.UNIT : RField := ⟨WDN_FLOG_DATA, 8, 3, .ro, 0, .any⟩
def WDN_FLOG_DATA.QUARTER : RField := ⟨WDN_FLOG_DATA, 11, 2, .ro, 0, .any⟩
def WDN_FLOG_DATA.ROW : RField := ⟨WDN_FLOG_DATA, 13, 8, .ro, 0, .any⟩
def WDN_FLOG_DATA.STALL : RField := ⟨WDN_FLOG_DATA, 21, 6, .ro, 0, .any⟩
def WDN_FLOG_DATA.COLD : RField := ⟨WDN_FLOG_DATA, 32, 16, .ro, 0, .any⟩
def WDN_FLOG_DATA.info : RegInfo := ⟨WDN_FLOG_DATA, true, [ WDN_FLOG_DATA.CODE, WDN_FLOG_DATA.UNIT, WDN_FLOG_DATA.QUARTER, WDN_FLOG_DATA.ROW, WDN_FLOG_DATA.STALL, WDN_FLOG_DATA.COLD]⟩
/-- R549: Next entry and entries written. -/
def WDN_FLOG_HEAD : Reg := ⟨.wdn, 0x228⟩
def WDN_FLOG_HEAD.NEXT : RField := ⟨WDN_FLOG_HEAD, 0, 10, .ro, 0, .any⟩
def WDN_FLOG_HEAD.TOTAL : RField := ⟨WDN_FLOG_HEAD, 32, 32, .ro, 0, .any⟩
def WDN_FLOG_HEAD.info : RegInfo := ⟨WDN_FLOG_HEAD, true, [ WDN_FLOG_HEAD.NEXT, WDN_FLOG_HEAD.TOTAL]⟩
/-- R549: Cold power-ons since manufacture. -/
def WDN_COLD_CNT : Reg := ⟨.wdn, 0x230⟩
def WDN_COLD_CNT.COUNT : RField := ⟨WDN_COLD_CNT, 0, 32, .ro, 0, .any⟩
def WDN_COLD_CNT.info : RegInfo := ⟨WDN_COLD_CNT, false, [ WDN_COLD_CNT.COUNT]⟩

/-- R527: Lock, charter copy, straps, SVNs. -/
def SEC_STAT : Reg := ⟨.sec, 0x0⟩
def SEC_STAT.LOCK : RField := ⟨SEC_STAT, 0, 1, .ro, 0, .any⟩
def SEC_STAT.COPY : RField := ⟨SEC_STAT, 1, 2, .ro, 0, .any⟩
def SEC_STAT.BOOT_SEL : RField := ⟨SEC_STAT, 3, 2, .ro, 0, .any⟩
def SEC_STAT.OWNED : RField := ⟨SEC_STAT, 5, 1, .ro, 0, .any⟩
def SEC_STAT.CH_SVN : RField := ⟨SEC_STAT, 16, 7, .ro, 0, .any⟩
def SEC_STAT.FW_SVN : RField := ⟨SEC_STAT, 24, 7, .ro, 0, .any⟩
def SEC_STAT.info : RegInfo := ⟨SEC_STAT, false, [ SEC_STAT.LOCK, SEC_STAT.COPY, SEC_STAT.BOOT_SEL, SEC_STAT.OWNED, SEC_STAT.CH_SVN, SEC_STAT.FW_SVN]⟩
/-- R527: Error flags. -/
def SEC_ERR : Reg := ⟨.sec, 0x8⟩
def SEC_ERR.RL_WRITE : RField := ⟨SEC_ERR, 0, 1, .w1c, 0, .any⟩
def SEC_ERR.SESSION : RField := ⟨SEC_ERR, 1, 1, .w1c, 0, .any⟩
def SEC_ERR.KEY : RField := ⟨SEC_ERR, 2, 1, .w1c, 0, .any⟩
def SEC_ERR.SPDM : RField := ⟨SEC_ERR, 3, 1, .w1c, 0, .any⟩
def SEC_ERR.SVN : RField := ⟨SEC_ERR, 4, 1, .w1c, 0, .any⟩
def SEC_ERR.FUNC : RField := ⟨SEC_ERR, 16, 6, .ro, 0, .any⟩
def SEC_ERR.info : RegInfo := ⟨SEC_ERR, false, [ SEC_ERR.RL_WRITE, SEC_ERR.SESSION, SEC_ERR.KEY, SEC_ERR.SPDM, SEC_ERR.SVN, SEC_ERR.FUNC]⟩
/-- R527: SVN commit, key install and clear. -/
def SEC_CMD : Reg := ⟨.sec, 0x10⟩
def SEC_CMD.OP : RField := ⟨SEC_CMD, 0, 3, .wo, 0, .any⟩
def SEC_CMD.FUNC : RField := ⟨SEC_CMD, 3, 6, .wo, 0, .any⟩
def SEC_CMD.SLOT : RField := ⟨SEC_CMD, 9, 4, .wo, 0, .any⟩
def SEC_CMD.info : RegInfo := ⟨SEC_CMD, false, [ SEC_CMD.OP, SEC_CMD.FUNC, SEC_CMD.SLOT]⟩
/-- R527: Key words (R522). -/
def SEC_KEY_DATA0 : Reg := ⟨.sec, 0x18⟩
def SEC_KEY_DATA0.V : RField := ⟨SEC_KEY_DATA0, 0, 64, .wo, 0, .any⟩
def SEC_KEY_DATA0.info : RegInfo := ⟨SEC_KEY_DATA0, true, [ SEC_KEY_DATA0.V]⟩
/-- R527: Key words (R522). -/
def SEC_KEY_DATA1 : Reg := ⟨.sec, 0x20⟩
def SEC_KEY_DATA1.V : RField := ⟨SEC_KEY_DATA1, 0, 64, .wo, 0, .any⟩
def SEC_KEY_DATA1.info : RegInfo := ⟨SEC_KEY_DATA1, true, [ SEC_KEY_DATA1.V]⟩
/-- R527: Key words (R522). -/
def SEC_KEY_DATA2 : Reg := ⟨.sec, 0x28⟩
def SEC_KEY_DATA2.V : RField := ⟨SEC_KEY_DATA2, 0, 64, .wo, 0, .any⟩
def SEC_KEY_DATA2.info : RegInfo := ⟨SEC_KEY_DATA2, true, [ SEC_KEY_DATA2.V]⟩
/-- R527: Key words (R522). -/
def SEC_KEY_DATA3 : Reg := ⟨.sec, 0x30⟩
def SEC_KEY_DATA3.V : RField := ⟨SEC_KEY_DATA3, 0, 64, .wo, 0, .any⟩
def SEC_KEY_DATA3.info : RegInfo := ⟨SEC_KEY_DATA3, true, [ SEC_KEY_DATA3.V]⟩
/-- R527: Bit f = 1 while function f has a tenant key. -/
def SEC_TKEY_STAT : Reg := ⟨.sec, 0x38⟩
def SEC_TKEY_STAT.V : RField := ⟨SEC_TKEY_STAT, 0, 64, .ro, 0, .any⟩
def SEC_TKEY_STAT.info : RegInfo := ⟨SEC_TKEY_STAT, true, [ SEC_TKEY_STAT.V]⟩
/-- R527: Bit s = 1 while slot s has a model key. -/
def SEC_MKEY_STAT : Reg := ⟨.sec, 0x40⟩
def SEC_MKEY_STAT.V : RField := ⟨SEC_MKEY_STAT, 0, 64, .ro, 0, .any⟩
def SEC_MKEY_STAT.info : RegInfo := ⟨SEC_MKEY_STAT, true, [ SEC_MKEY_STAT.V]⟩
/-- R527: RL writes ignored (R517). -/
def SEC_RL_CNT : Reg := ⟨.sec, 0x48⟩
def SEC_RL_CNT.V : RField := ⟨SEC_RL_CNT, 0, 64, .ro, 0, .any⟩
def SEC_RL_CNT.info : RegInfo := ⟨SEC_RL_CNT, true, [ SEC_RL_CNT.V]⟩
/-- R527: Sessions opened (R525). -/
def SEC_OPEN_CNT : Reg := ⟨.sec, 0x50⟩
def SEC_OPEN_CNT.V : RField := ⟨SEC_OPEN_CNT, 0, 64, .ro, 0, .any⟩
def SEC_OPEN_CNT.info : RegInfo := ⟨SEC_OPEN_CNT, true, [ SEC_OPEN_CNT.V]⟩
/-- R527: OPENs failed (R525). -/
def SEC_OPEN_FAIL_CNT : Reg := ⟨.sec, 0x58⟩
def SEC_OPEN_FAIL_CNT.V : RField := ⟨SEC_OPEN_FAIL_CNT, 0, 64, .ro, 0, .any⟩
def SEC_OPEN_FAIL_CNT.info : RegInfo := ⟨SEC_OPEN_FAIL_CNT, true, [ SEC_OPEN_FAIL_CNT.V]⟩
/-- R527: SPDM secured sessions established. -/
def SEC_SPDM_SESS_CNT : Reg := ⟨.sec, 0x60⟩
def SEC_SPDM_SESS_CNT.V : RField := ⟨SEC_SPDM_SESS_CNT, 0, 64, .ro, 0, .any⟩
def SEC_SPDM_SESS_CNT.info : RegInfo := ⟨SEC_SPDM_SESS_CNT, true, [ SEC_SPDM_SESS_CNT.V]⟩

/-- Every register of the block, in address order. -/
def regs_fnHost : List RegInfo :=
  [ HOST_FN_ID.info, HOST_FN_STAT.info, HOST_FN_EVT.info, HOST_FN_EVT_EN.info]

/-- Every register of the block, in address order. -/
def regs_fnTen : List RegInfo :=
  [ TEN_SESSION.info, TEN_QUOTA.info, TEN_USE.info, TEN_STORE_BASE.info, TEN_STORE_SIZE.info, TEN_STORE_CMD.info, TEN_STORE_STAT.info, TEN_FAULT.info, TEN_FAULT_INFO.info, TEN_ACCESS_ERR_CNT.info, TEN_DMA_FAIL_CNT.info]

/-- Every register of the block, in address order. -/
def regs_devHost : List RegInfo :=
  [ HOST_LINK_STAT.info, HOST_ERR.info, TEN_ADM_SEL.info, TEN_ADM_QUOTA.info, TEN_ADM_FAULT.info, HOST_RETRAIN_CNT.info]

/-- Every register of the block, in address order. -/
def regs_evc : List RegInfo :=
  [ EVC_CTL.info, EVC_STAT.info, EVC_ERR.info, EVC_VEC_BASE.info, EVC_SW_SET.info, EVC_TIMER.info, EVC_ROW_SEL.info, EVC_ROW_SUM.info, EVC_ENTRY_CNT.info, EVC_TAIL_CNT.info, EVC_LATE_CNT.info, EVC_CLK_CTL.info, EVC_CLK_STAT.info, EVC_TMR_CMP.info, EVC_SRC.info]

/-- Every register of the block, in address order. -/
def regs_mode : List RegInfo :=
  [ MODE_CTL.info, MODE_STAT.info, MODE_ERR.info, MODE_GEN.info, MODE_REC_ADDR.info, MODE_CMD.info, MODE_UNIT_SEL.info, MODE_UNIT_STAT.info, MODE_CHANGE_CNT.info, MODE_ABORT_CNT.info, MODE_CATCHUP_CNT.info, MODE_BARRIER_CNT.info]

/-- Every register of the block, in address order. -/
def regs_cal : List RegInfo :=
  [ CAL_CTL.info, CAL_STAT.info, CAL_ERR.info, CAL_HOST_STAMP.info, CAL_CMD.info, CAL_SEL.info, CAL_STALL_STAT.info, CAL_STALL_STAMP.info, CAL_STALL_ROUNDS.info, CAL_ROW_TEMP.info, CAL_REPAIR_SEL.info, CAL_REPAIR_DATA.info, CAL_RUN_CNT.info, CAL_REEST_CNT.info, CAL_SPARE_COL_CNT.info, CAL_SPARE_ROW_CNT.info, CAL_SUBST_CNT.info, CAL_SHUT_JOB_CNT.info]

/-- Every register of the block, in address order. -/
def regs_bst : List RegInfo :=
  [ BST_STAT.info, BST_ERR.info, BST_CMD.info, BST_RESULT.info, BST_POLICY.info, BST_FUSE_CMD.info, BST_RUN_CNT.info, BST_FAIL_CNT.info, BST_DEFER_CNT.info, BST_FUSE_CNT.info]

/-- Every register of the block, in address order. -/
def regs_wdn : List RegInfo :=
  [ WDN_CTL.info, WDN_STAT.info, WDN_ERR.info, WDN_ROUND.info, WDN_CMD.info, WDN_SLEEP_CTL.info, WDN_PCAP.info, WDN_THERM_SEL.info, WDN_THERM_DATA.info, WDN_THERM_MAX.info, WDN_MON_CTL.info, WDN_MON_CMD.info, WDN_MON_DATA.info, WDN_MON_SEL.info, WDN_MON_CH.info, WDN_MON_SCAN.info, WDN_VR_SEL.info, WDN_VR_CFG.info, WDN_VR_STAT.info, WDN_VR_VSET.info, WDN_PAUSE_CNT.info, WDN_WAKE_CNT.info, WDN_PMB_ERR_CNT.info, WDN_MON_OVR_CNT.info, WDN_STOP_CNT.info, WDN_SEQ.info, WDN_RST_CMD.info, WDN_RST_CAUSE.info, WDN_WDOG.info, WDN_FLOG_SEL.info, WDN_FLOG_DATA.info, WDN_FLOG_HEAD.info, WDN_COLD_CNT.info]

/-- Every register of the block, in address order. -/
def regs_sec : List RegInfo :=
  [ SEC_STAT.info, SEC_ERR.info, SEC_CMD.info, SEC_KEY_DATA0.info, SEC_KEY_DATA1.info, SEC_KEY_DATA2.info, SEC_KEY_DATA3.info, SEC_TKEY_STAT.info, SEC_MKEY_STAT.info, SEC_RL_CNT.info, SEC_OPEN_CNT.info, SEC_OPEN_FAIL_CNT.info, SEC_SPDM_SESS_CNT.info]

end Sys2Proof.Machine
end

