-- ==== Sys2Proof/Machine/RegsRow.lean ====
section
/-! DEFINITION. The registers of the row and stall blocks and of the weigh houses, written from the register tables of chapters 2, 3, 4, 5, 8 and 21 (R68 to R78, R104 to R108, R134 to R140, R164 to R168, R265, R574). -/

namespace Sys2Proof.Machine

/-- R574: MODE_GEN held by the row (R448). -/
def TAL_MODE_GEN : Reg := ⟨.tal, 0x0⟩
def TAL_MODE_GEN.GEN : RField := ⟨TAL_MODE_GEN, 0, 16, .ro, 0, .any⟩
def TAL_MODE_GEN.info : RegInfo := ⟨TAL_MODE_GEN, false, [ TAL_MODE_GEN.GEN]⟩
/-- R104: Correction enables, DYN_MAX, S_MIN. -/
def TAL_COR_CTL : Reg := ⟨.tal, 0x200⟩
def TAL_COR_CTL.DRIFT_EN : RField := ⟨TAL_COR_CTL, 0, 1, .rw, 1, .any⟩
def TAL_COR_CTL.DROP_EN : RField := ⟨TAL_COR_CTL, 1, 1, .rw, 1, .any⟩
def TAL_COR_CTL.OUT_EN : RField := ⟨TAL_COR_CTL, 2, 1, .rw, 1, .any⟩
def TAL_COR_CTL.DYN_EN : RField := ⟨TAL_COR_CTL, 3, 1, .rw, 1, .any⟩
def TAL_COR_CTL.DYN_MAX : RField := ⟨TAL_COR_CTL, 4, 6, .rw, 32, .cap 32⟩
def TAL_COR_CTL.S_MIN : RField := ⟨TAL_COR_CTL, 16, 8, .rw, 16, .any⟩
def TAL_COR_CTL.info : RegInfo := ⟨TAL_COR_CTL, false, [ TAL_COR_CTL.DRIFT_EN, TAL_COR_CTL.DROP_EN, TAL_COR_CTL.OUT_EN, TAL_COR_CTL.DYN_EN, TAL_COR_CTL.DYN_MAX, TAL_COR_CTL.S_MIN]⟩
/-- R104: Correction error flags. -/
def TAL_COR_ERR : Reg := ⟨.tal, 0x208⟩
def TAL_COR_ERR.DRIFT_LIMIT : RField := ⟨TAL_COR_ERR, 0, 1, .w1c, 0, .any⟩
def TAL_COR_ERR.REF_PAT : RField := ⟨TAL_COR_ERR, 1, 1, .w1c, 0, .any⟩
def TAL_COR_ERR.REF_Z : RField := ⟨TAL_COR_ERR, 2, 1, .w1c, 0, .any⟩
def TAL_COR_ERR.OSRAM_PAR : RField := ⟨TAL_COR_ERR, 3, 1, .w1c, 0, .any⟩
def TAL_COR_ERR.LEDGER_ROW : RField := ⟨TAL_COR_ERR, 4, 1, .w1c, 0, .any⟩
def TAL_COR_ERR.SIGMA_OVER : RField := ⟨TAL_COR_ERR, 5, 1, .w1c, 0, .any⟩
def TAL_COR_ERR.STALL : RField := ⟨TAL_COR_ERR, 16, 6, .ro, 0, .any⟩
def TAL_COR_ERR.GROUP : RField := ⟨TAL_COR_ERR, 22, 2, .ro, 0, .any⟩
def TAL_COR_ERR.info : RegInfo := ⟨TAL_COR_ERR, false, [ TAL_COR_ERR.DRIFT_LIMIT, TAL_COR_ERR.REF_PAT, TAL_COR_ERR.REF_Z, TAL_COR_ERR.OSRAM_PAR, TAL_COR_ERR.LEDGER_ROW, TAL_COR_ERR.SIGMA_OVER, TAL_COR_ERR.STALL, TAL_COR_ERR.GROUP]⟩
/-- R104: Stall and group selected for TAL_DRIFT_VAL and TAL_SIGMA. -/
def TAL_COR_SEL : Reg := ⟨.tal, 0x210⟩
def TAL_COR_SEL.STALL : RField := ⟨TAL_COR_SEL, 0, 6, .rw, 0, .range 0 32⟩
def TAL_COR_SEL.GROUP : RField := ⟨TAL_COR_SEL, 6, 2, .rw, 0, .any⟩
def TAL_COR_SEL.info : RegInfo := ⟨TAL_COR_SEL, false, [ TAL_COR_SEL.STALL, TAL_COR_SEL.GROUP]⟩
/-- R104: Drift estimate of the selected group. -/
def TAL_DRIFT_VAL : Reg := ⟨.tal, 0x218⟩
def TAL_DRIFT_VAL.GAIN : RField := ⟨TAL_DRIFT_VAL, 0, 16, .ro, 0, .any⟩
def TAL_DRIFT_VAL.ZETA : RField := ⟨TAL_DRIFT_VAL, 16, 16, .ro, 0, .any⟩
def TAL_DRIFT_VAL.QUAL : RField := ⟨TAL_DRIFT_VAL, 32, 16, .ro, 0, .any⟩
def TAL_DRIFT_VAL.FAST : RField := ⟨TAL_DRIFT_VAL, 48, 1, .ro, 0, .any⟩
def TAL_DRIFT_VAL.info : RegInfo := ⟨TAL_DRIFT_VAL, true, [ TAL_DRIFT_VAL.GAIN, TAL_DRIFT_VAL.ZETA, TAL_DRIFT_VAL.QUAL, TAL_DRIFT_VAL.FAST]⟩
/-- R104: Measured σ of the selected group. -/
def TAL_SIGMA : Reg := ⟨.tal, 0x220⟩
def TAL_SIGMA.SIGMA : RField := ⟨TAL_SIGMA, 0, 16, .ro, 0, .any⟩
def TAL_SIGMA.OVER : RField := ⟨TAL_SIGMA, 16, 1, .ro, 0, .any⟩
def TAL_SIGMA.RUNS : RField := ⟨TAL_SIGMA, 32, 16, .ro, 0, .any⟩
def TAL_SIGMA.info : RegInfo := ⟨TAL_SIGMA, true, [ TAL_SIGMA.SIGMA, TAL_SIGMA.OVER, TAL_SIGMA.RUNS]⟩
/-- R104: Trim entry selected. DESIGN CHOICE (log entry 82): STALL takes any value written; an entry of a stall that does not exist reads back and corrects nothing. -/
def TAL_TRIM_SEL : Reg := ⟨.tal, 0x228⟩
def TAL_TRIM_SEL.COLUMN : RField := ⟨TAL_TRIM_SEL, 0, 13, .rw, 0, .range 0 5119⟩
def TAL_TRIM_SEL.STALL : RField := ⟨TAL_TRIM_SEL, 16, 6, .rw, 0, .any⟩
def TAL_TRIM_SEL.info : RegInfo := ⟨TAL_TRIM_SEL, false, [ TAL_TRIM_SEL.COLUMN, TAL_TRIM_SEL.STALL]⟩
/-- R104: Target value of the selected trim entry (R91). -/
def TAL_TRIM_DATA : Reg := ⟨.tal, 0x230⟩
def TAL_TRIM_DATA.GAIN : RField := ⟨TAL_TRIM_DATA, 0, 12, .rw, 0, .any⟩
def TAL_TRIM_DATA.OFFSET : RField := ⟨TAL_TRIM_DATA, 12, 10, .rw, 0, .any⟩
def TAL_TRIM_DATA.DROP : RField := ⟨TAL_TRIM_DATA, 22, 8, .rw, 0, .any⟩
def TAL_TRIM_DATA.info : RegInfo := ⟨TAL_TRIM_DATA, false, [ TAL_TRIM_DATA.GAIN, TAL_TRIM_DATA.OFFSET, TAL_TRIM_DATA.DROP]⟩
/-- R104: Dynamic outliers taken. -/
def TAL_OUT_DYN_CNT : Reg := ⟨.tal, 0x238⟩
def TAL_OUT_DYN_CNT.V : RField := ⟨TAL_OUT_DYN_CNT, 0, 64, .ro, 0, .any⟩
def TAL_OUT_DYN_CNT.info : RegInfo := ⟨TAL_OUT_DYN_CNT, true, [ TAL_OUT_DYN_CNT.V]⟩
/-- R104: Overflow passes run, cached or fetched. -/
def TAL_OUT_PASS_CNT : Reg := ⟨.tal, 0x240⟩
def TAL_OUT_PASS_CNT.V : RField := ⟨TAL_OUT_PASS_CNT, 0, 64, .ro, 0, .any⟩
def TAL_OUT_PASS_CNT.info : RegInfo := ⟨TAL_OUT_PASS_CNT, true, [ TAL_OUT_PASS_CNT.V]⟩
/-- R104: Ledger rows fetched for passes. -/
def TAL_OUT_FETCH_CNT : Reg := ⟨.tal, 0x248⟩
def TAL_OUT_FETCH_CNT.V : RField := ⟨TAL_OUT_FETCH_CNT, 0, 64, .ro, 0, .any⟩
def TAL_OUT_FETCH_CNT.info : RegInfo := ⟨TAL_OUT_FETCH_CNT, true, [ TAL_OUT_FETCH_CNT.V]⟩
/-- R104: Requantisations (R101 step 1). -/
def TAL_OUT_REQUANT_CNT : Reg := ⟨.tal, 0x250⟩
def TAL_OUT_REQUANT_CNT.V : RField := ⟨TAL_OUT_REQUANT_CNT, 0, 64, .ro, 0, .any⟩
def TAL_OUT_REQUANT_CNT.info : RegInfo := ⟨TAL_OUT_REQUANT_CNT, true, [ TAL_OUT_REQUANT_CNT.V]⟩
/-- R104: Strike-level widenings (R101 step 3). -/
def TAL_OUT_WIDEN_CNT : Reg := ⟨.tal, 0x258⟩
def TAL_OUT_WIDEN_CNT.V : RField := ⟨TAL_OUT_WIDEN_CNT, 0, 64, .ro, 0, .any⟩
def TAL_OUT_WIDEN_CNT.info : RegInfo := ⟨TAL_OUT_WIDEN_CNT, true, [ TAL_OUT_WIDEN_CNT.V]⟩
/-- R104: Passes beyond DYN_MAX in A8 vectors (R101). -/
def TAL_OUT_WIDE_OVF_CNT : Reg := ⟨.tal, 0x260⟩
def TAL_OUT_WIDE_OVF_CNT.V : RField := ⟨TAL_OUT_WIDE_OVF_CNT, 0, 64, .ro, 0, .any⟩
def TAL_OUT_WIDE_OVF_CNT.info : RegInfo := ⟨TAL_OUT_WIDE_OVF_CNT, true, [ TAL_OUT_WIDE_OVF_CNT.V]⟩
/-- R104: Strike edges held by a full overflow queue. -/
def TAL_OUT_WAIT_CNT : Reg := ⟨.tal, 0x268⟩
def TAL_OUT_WAIT_CNT.V : RField := ⟨TAL_OUT_WAIT_CNT, 0, 64, .ro, 0, .any⟩
def TAL_OUT_WAIT_CNT.info : RegInfo := ⟨TAL_OUT_WAIT_CNT, true, [ TAL_OUT_WAIT_CNT.V]⟩
/-- R104: Clipped reference codes. -/
def TAL_REF_CLIP_CNT : Reg := ⟨.tal, 0x270⟩
def TAL_REF_CLIP_CNT.V : RField := ⟨TAL_REF_CLIP_CNT, 0, 64, .ro, 0, .any⟩
def TAL_REF_CLIP_CNT.info : RegInfo := ⟨TAL_REF_CLIP_CNT, true, [ TAL_REF_CLIP_CNT.V]⟩
/-- R134: Carry, low-group policy, range control, widening, GRP_DYN, ETA_MAX, HOLD. -/
def TAL_NQ_CTL : Reg := ⟨.tal, 0x300⟩
def TAL_NQ_CTL.CARRY_EN : RField := ⟨TAL_NQ_CTL, 0, 1, .rw, 1, .any⟩
def TAL_NQ_CTL.LOWGRP : RField := ⟨TAL_NQ_CTL, 1, 1, .rw, 0, .any⟩
def TAL_NQ_CTL.RANGE_AUTO : RField := ⟨TAL_NQ_CTL, 2, 1, .rw, 1, .any⟩
def TAL_NQ_CTL.WIDEN_EN : RField := ⟨TAL_NQ_CTL, 3, 1, .rw, 1, .any⟩
def TAL_NQ_CTL.GRP_DYN : RField := ⟨TAL_NQ_CTL, 8, 4, .rw, 2, .any⟩
def TAL_NQ_CTL.ETA_MAX : RField := ⟨TAL_NQ_CTL, 16, 8, .rw, 48, .nonzero⟩
def TAL_NQ_CTL.HOLD : RField := ⟨TAL_NQ_CTL, 24, 8, .rw, 64, .nonzero⟩
def TAL_NQ_CTL.info : RegInfo := ⟨TAL_NQ_CTL, false, [ TAL_NQ_CTL.CARRY_EN, TAL_NQ_CTL.LOWGRP, TAL_NQ_CTL.RANGE_AUTO, TAL_NQ_CTL.WIDEN_EN, TAL_NQ_CTL.GRP_DYN, TAL_NQ_CTL.ETA_MAX, TAL_NQ_CTL.HOLD]⟩
/-- R134: WIDE_STORM window and threshold. -/
def TAL_NQ_STORM : Reg := ⟨.tal, 0x308⟩
def TAL_NQ_STORM.WINDOW : RField := ⟨TAL_NQ_STORM, 0, 16, .rw, 1024, .nonzero⟩
def TAL_NQ_STORM.PCT : RField := ⟨TAL_NQ_STORM, 16, 7, .rw, 50, .range 1 99⟩
def TAL_NQ_STORM.info : RegInfo := ⟨TAL_NQ_STORM, false, [ TAL_NQ_STORM.WINDOW, TAL_NQ_STORM.PCT]⟩
/-- R134: Narrow arithmetic error flags. -/
def TAL_NQ_ERR : Reg := ⟨.tal, 0x310⟩
def TAL_NQ_ERR.NONFINITE : RField := ⟨TAL_NQ_ERR, 0, 1, .w1c, 0, .any⟩
def TAL_NQ_ERR.CLIP_FAIL : RField := ⟨TAL_NQ_ERR, 1, 1, .w1c, 0, .any⟩
def TAL_NQ_ERR.WIDE_STORM : RField := ⟨TAL_NQ_ERR, 2, 1, .w1c, 0, .any⟩
def TAL_NQ_ERR.RANGE_LIMIT : RField := ⟨TAL_NQ_ERR, 3, 1, .w1c, 0, .any⟩
def TAL_NQ_ERR.STALL : RField := ⟨TAL_NQ_ERR, 16, 6, .ro, 0, .any⟩
def TAL_NQ_ERR.GROUP : RField := ⟨TAL_NQ_ERR, 22, 2, .ro, 0, .any⟩
def TAL_NQ_ERR.info : RegInfo := ⟨TAL_NQ_ERR, false, [ TAL_NQ_ERR.NONFINITE, TAL_NQ_ERR.CLIP_FAIL, TAL_NQ_ERR.WIDE_STORM, TAL_NQ_ERR.RANGE_LIMIT, TAL_NQ_ERR.STALL, TAL_NQ_ERR.GROUP]⟩
/-- R134: Tile selected for TAL_TILE_STAT. -/
def TAL_TILE_SEL : Reg := ⟨.tal, 0x318⟩
def TAL_TILE_SEL.STALL : RField := ⟨TAL_TILE_SEL, 0, 6, .rw, 0, .range 0 32⟩
def TAL_TILE_SEL.GROUP : RField := ⟨TAL_TILE_SEL, 6, 2, .rw, 0, .any⟩
def TAL_TILE_SEL.info : RegInfo := ⟨TAL_TILE_SEL, false, [ TAL_TILE_SEL.STALL, TAL_TILE_SEL.GROUP]⟩
/-- R134: RANGE, wide state, hold, η and σ_P of the selected tile. -/
def TAL_TILE_STAT : Reg := ⟨.tal, 0x320⟩
def TAL_TILE_STAT.RANGE : RField := ⟨TAL_TILE_STAT, 0, 4, .ro, 0, .any⟩
def TAL_TILE_STAT.WIDE : RField := ⟨TAL_TILE_STAT, 4, 1, .ro, 0, .any⟩
def TAL_TILE_STAT.FORCED : RField := ⟨TAL_TILE_STAT, 5, 1, .ro, 0, .any⟩
def TAL_TILE_STAT.STATIC : RField := ⟨TAL_TILE_STAT, 6, 1, .ro, 0, .any⟩
def TAL_TILE_STAT.CARRY : RField := ⟨TAL_TILE_STAT, 7, 1, .ro, 0, .any⟩
def TAL_TILE_STAT.HOLD_LEFT : RField := ⟨TAL_TILE_STAT, 8, 8, .ro, 0, .any⟩
def TAL_TILE_STAT.ETA : RField := ⟨TAL_TILE_STAT, 16, 8, .ro, 0, .any⟩
def TAL_TILE_STAT.RMS_P : RField := ⟨TAL_TILE_STAT, 32, 32, .ro, 0, .any⟩
def TAL_TILE_STAT.info : RegInfo := ⟨TAL_TILE_STAT, true, [ TAL_TILE_STAT.RANGE, TAL_TILE_STAT.WIDE, TAL_TILE_STAT.FORCED, TAL_TILE_STAT.STATIC, TAL_TILE_STAT.CARRY, TAL_TILE_STAT.HOLD_LEFT, TAL_TILE_STAT.ETA, TAL_TILE_STAT.RMS_P]⟩
/-- R134: Force or release widening. -/
def TAL_TILE_CMD : Reg := ⟨.tal, 0x328⟩
def TAL_TILE_CMD.STALL : RField := ⟨TAL_TILE_CMD, 0, 6, .wo, 0, .any⟩
def TAL_TILE_CMD.GROUP : RField := ⟨TAL_TILE_CMD, 6, 2, .wo, 0, .any⟩
def TAL_TILE_CMD.OP : RField := ⟨TAL_TILE_CMD, 8, 2, .wo, 0, .any⟩
def TAL_TILE_CMD.info : RegInfo := ⟨TAL_TILE_CMD, false, [ TAL_TILE_CMD.STALL, TAL_TILE_CMD.GROUP, TAL_TILE_CMD.OP]⟩
/-- R134: Stalls with a storm in the last window. -/
def TAL_STORM_MAP : Reg := ⟨.tal, 0x330⟩
def TAL_STORM_MAP.STALLS : RField := ⟨TAL_STORM_MAP, 0, 33, .ro, 0, .any⟩
def TAL_STORM_MAP.WINDOW_NO : RField := ⟨TAL_STORM_MAP, 48, 16, .ro, 0, .any⟩
def TAL_STORM_MAP.info : RegInfo := ⟨TAL_STORM_MAP, true, [ TAL_STORM_MAP.STALLS, TAL_STORM_MAP.WINDOW_NO]⟩
/-- R134: Step markers received. -/
def TAL_STEP_CNT : Reg := ⟨.tal, 0x338⟩
def TAL_STEP_CNT.V : RField := ⟨TAL_STEP_CNT, 0, 64, .ro, 0, .any⟩
def TAL_STEP_CNT.info : RegInfo := ⟨TAL_STEP_CNT, true, [ TAL_STEP_CNT.V]⟩
/-- R134: Vectors quantised. -/
def TAL_NQ_VEC_CNT : Reg := ⟨.tal, 0x340⟩
def TAL_NQ_VEC_CNT.V : RField := ⟨TAL_NQ_VEC_CNT, 0, 64, .ro, 0, .any⟩
def TAL_NQ_VEC_CNT.info : RegInfo := ⟨TAL_NQ_VEC_CNT, true, [ TAL_NQ_VEC_CNT.V]⟩
/-- R134: Groups lifted (R117). -/
def TAL_NQ_LIFT_CNT : Reg := ⟨.tal, 0x348⟩
def TAL_NQ_LIFT_CNT.V : RField := ⟨TAL_NQ_LIFT_CNT, 0, 64, .ro, 0, .any⟩
def TAL_NQ_LIFT_CNT.info : RegInfo := ⟨TAL_NQ_LIFT_CNT, true, [ TAL_NQ_LIFT_CNT.V]⟩
/-- R134: Groups driven off (R117). -/
def TAL_NQ_OFF_CNT : Reg := ⟨.tal, 0x350⟩
def TAL_NQ_OFF_CNT.V : RField := ⟨TAL_NQ_OFF_CNT, 0, 64, .ro, 0, .any⟩
def TAL_NQ_OFF_CNT.info : RegInfo := ⟨TAL_NQ_OFF_CNT, true, [ TAL_NQ_OFF_CNT.V]⟩
/-- R134: Clamped codes (R118). -/
def TAL_NQ_CARRY_SAT_CNT : Reg := ⟨.tal, 0x358⟩
def TAL_NQ_CARRY_SAT_CNT.V : RField := ⟨TAL_NQ_CARRY_SAT_CNT, 0, 64, .ro, 0, .any⟩
def TAL_NQ_CARRY_SAT_CNT.info : RegInfo := ⟨TAL_NQ_CARRY_SAT_CNT, true, [ TAL_NQ_CARRY_SAT_CNT.V]⟩
/-- R134: Vectors with η above ETA_MAX (R119). -/
def TAL_NQ_ETA_CNT : Reg := ⟨.tal, 0x360⟩
def TAL_NQ_ETA_CNT.V : RField := ⟨TAL_NQ_ETA_CNT, 0, 64, .ro, 0, .any⟩
def TAL_NQ_ETA_CNT.info : RegInfo := ⟨TAL_NQ_ETA_CNT, true, [ TAL_NQ_ETA_CNT.V]⟩
/-- R134: Clip replays (R122). -/
def TAL_NQ_CLIP_REPLAY_CNT : Reg := ⟨.tal, 0x368⟩
def TAL_NQ_CLIP_REPLAY_CNT.V : RField := ⟨TAL_NQ_CLIP_REPLAY_CNT, 0, 64, .ro, 0, .any⟩
def TAL_NQ_CLIP_REPLAY_CNT.info : RegInfo := ⟨TAL_NQ_CLIP_REPLAY_CNT, true, [ TAL_NQ_CLIP_REPLAY_CNT.V]⟩
/-- R134: Splits (R122). -/
def TAL_NQ_SPLIT_CNT : Reg := ⟨.tal, 0x370⟩
def TAL_NQ_SPLIT_CNT.V : RField := ⟨TAL_NQ_SPLIT_CNT, 0, 64, .ro, 0, .any⟩
def TAL_NQ_SPLIT_CNT.info : RegInfo := ⟨TAL_NQ_SPLIT_CNT, true, [ TAL_NQ_SPLIT_CNT.V]⟩
/-- R134: Outputs handed to the inspector after clipping. -/
def TAL_NQ_CLIP_FAIL_CNT : Reg := ⟨.tal, 0x378⟩
def TAL_NQ_CLIP_FAIL_CNT.V : RField := ⟨TAL_NQ_CLIP_FAIL_CNT, 0, 64, .ro, 0, .any⟩
def TAL_NQ_CLIP_FAIL_CNT.info : RegInfo := ⟨TAL_NQ_CLIP_FAIL_CNT, true, [ TAL_NQ_CLIP_FAIL_CNT.V]⟩
/-- R134: RANGE changes by the range controller (R120). -/
def TAL_NQ_RANGE_CHG_CNT : Reg := ⟨.tal, 0x380⟩
def TAL_NQ_RANGE_CHG_CNT.V : RField := ⟨TAL_NQ_RANGE_CHG_CNT, 0, 64, .ro, 0, .any⟩
def TAL_NQ_RANGE_CHG_CNT.info : RegInfo := ⟨TAL_NQ_RANGE_CHG_CNT, true, [ TAL_NQ_RANGE_CHG_CNT.V]⟩
/-- R134: Non-finite input vectors (R112). -/
def TAL_NQ_NONFINITE_CNT : Reg := ⟨.tal, 0x388⟩
def TAL_NQ_NONFINITE_CNT.V : RField := ⟨TAL_NQ_NONFINITE_CNT, 0, 64, .ro, 0, .any⟩
def TAL_NQ_NONFINITE_CNT.info : RegInfo := ⟨TAL_NQ_NONFINITE_CNT, true, [ TAL_NQ_NONFINITE_CNT.V]⟩
/-- R134: Strike edges waited for a narrow-store entry (R115). -/
def TAL_NQ_STORE_WAIT_CNT : Reg := ⟨.tal, 0x390⟩
def TAL_NQ_STORE_WAIT_CNT.V : RField := ⟨TAL_NQ_STORE_WAIT_CNT, 0, 64, .ro, 0, .any⟩
def TAL_NQ_STORE_WAIT_CNT.info : RegInfo := ⟨TAL_NQ_STORE_WAIT_CNT, true, [ TAL_NQ_STORE_WAIT_CNT.V]⟩
/-- R134: Tile entries into the wide state (R125). -/
def TAL_WIDE_START_CNT : Reg := ⟨.tal, 0x398⟩
def TAL_WIDE_START_CNT.V : RField := ⟨TAL_WIDE_START_CNT, 0, 64, .ro, 0, .any⟩
def TAL_WIDE_START_CNT.info : RegInfo := ⟨TAL_WIDE_START_CNT, true, [ TAL_WIDE_START_CNT.V]⟩
/-- R134: Storms raised (R130). -/
def TAL_WIDE_STORM_CNT : Reg := ⟨.tal, 0x3A0⟩
def TAL_WIDE_STORM_CNT.V : RField := ⟨TAL_WIDE_STORM_CNT, 0, 64, .ro, 0, .any⟩
def TAL_WIDE_STORM_CNT.info : RegInfo := ⟨TAL_WIDE_STORM_CNT, true, [ TAL_WIDE_STORM_CNT.V]⟩
/-- R164: Mode override and rounding. -/
def TAL_ACC_CTL : Reg := ⟨.tal, 0x400⟩
def TAL_ACC_CTL.OVR : RField := ⟨TAL_ACC_CTL, 0, 1, .rw, 0, .any⟩
def TAL_ACC_CTL.MODE : RField := ⟨TAL_ACC_CTL, 1, 1, .rw, 0, .any⟩
def TAL_ACC_CTL.SR_EN : RField := ⟨TAL_ACC_CTL, 2, 1, .rw, 1, .any⟩
def TAL_ACC_CTL.info : RegInfo := ⟨TAL_ACC_CTL, false, [ TAL_ACC_CTL.OVR, TAL_ACC_CTL.MODE, TAL_ACC_CTL.SR_EN]⟩
/-- R164: Device seed XORed with each model seed (R147). -/
def TAL_ACC_SEED : Reg := ⟨.tal, 0x408⟩
def TAL_ACC_SEED.V : RField := ⟨TAL_ACC_SEED, 0, 64, .rw, 0, .any⟩
def TAL_ACC_SEED.info : RegInfo := ⟨TAL_ACC_SEED, true, [ TAL_ACC_SEED.V]⟩
/-- R164: Accumulation error flags. -/
def TAL_ACC_ERR : Reg := ⟨.tal, 0x410⟩
def TAL_ACC_ERR.INF : RField := ⟨TAL_ACC_ERR, 0, 1, .w1c, 0, .any⟩
def TAL_ACC_ERR.NAN : RField := ⟨TAL_ACC_ERR, 1, 1, .w1c, 0, .any⟩
def TAL_ACC_ERR.REFUSED : RField := ⟨TAL_ACC_ERR, 2, 1, .w1c, 0, .any⟩
def TAL_ACC_ERR.NONFIN_OUT : RField := ⟨TAL_ACC_ERR, 3, 1, .w1c, 0, .any⟩
def TAL_ACC_ERR.PLAN : RField := ⟨TAL_ACC_ERR, 4, 1, .w1c, 0, .any⟩
def TAL_ACC_ERR.STALL : RField := ⟨TAL_ACC_ERR, 16, 6, .ro, 0, .any⟩
def TAL_ACC_ERR.info : RegInfo := ⟨TAL_ACC_ERR, false, [ TAL_ACC_ERR.INF, TAL_ACC_ERR.NAN, TAL_ACC_ERR.REFUSED, TAL_ACC_ERR.NONFIN_OUT, TAL_ACC_ERR.PLAN, TAL_ACC_ERR.STALL]⟩
/-- R164: Drains in progress, reorder store use. -/
def TAL_ACC_STAT : Reg := ⟨.tal, 0x418⟩
def TAL_ACC_STAT.DRAIN_BUSY : RField := ⟨TAL_ACC_STAT, 0, 33, .ro, 0, .any⟩
def TAL_ACC_STAT.REORDER_USED : RField := ⟨TAL_ACC_STAT, 40, 8, .ro, 0, .any⟩
def TAL_ACC_STAT.info : RegInfo := ⟨TAL_ACC_STAT, true, [ TAL_ACC_STAT.DRAIN_BUSY, TAL_ACC_STAT.REORDER_USED]⟩
/-- R164: Request a drain. -/
def TAL_DRAIN_CMD : Reg := ⟨.tal, 0x420⟩
def TAL_DRAIN_CMD.TARGET : RField := ⟨TAL_DRAIN_CMD, 0, 6, .wo, 0, .any⟩
def TAL_DRAIN_CMD.RELEASE : RField := ⟨TAL_DRAIN_CMD, 6, 1, .wo, 0, .any⟩
def TAL_DRAIN_CMD.info : RegInfo := ⟨TAL_DRAIN_CMD, false, [ TAL_DRAIN_CMD.TARGET, TAL_DRAIN_CMD.RELEASE]⟩
/-- R164: Runs promoted, counted per column: one for each column's run (R144); lone promotions are not counted. -/
def TAL_ACC_RUN_CNT : Reg := ⟨.tal, 0x428⟩
def TAL_ACC_RUN_CNT.V : RField := ⟨TAL_ACC_RUN_CNT, 0, 64, .ro, 0, .any⟩
def TAL_ACC_RUN_CNT.info : RegInfo := ⟨TAL_ACC_RUN_CNT, true, [ TAL_ACC_RUN_CNT.V]⟩
/-- R164: Oversize partials (R142). -/
def TAL_ACC_OVERSIZE_CNT : Reg := ⟨.tal, 0x430⟩
def TAL_ACC_OVERSIZE_CNT.V : RField := ⟨TAL_ACC_OVERSIZE_CNT, 0, 64, .ro, 0, .any⟩
def TAL_ACC_OVERSIZE_CNT.info : RegInfo := ⟨TAL_ACC_OVERSIZE_CNT, true, [ TAL_ACC_OVERSIZE_CNT.V]⟩
/-- R164: Infinities created (R154). -/
def TAL_ACC_INF_CNT : Reg := ⟨.tal, 0x438⟩
def TAL_ACC_INF_CNT.V : RField := ⟨TAL_ACC_INF_CNT, 0, 64, .ro, 0, .any⟩
def TAL_ACC_INF_CNT.info : RegInfo := ⟨TAL_ACC_INF_CNT, true, [ TAL_ACC_INF_CNT.V]⟩
/-- R164: NaNs created (R154). -/
def TAL_ACC_NAN_CNT : Reg := ⟨.tal, 0x440⟩
def TAL_ACC_NAN_CNT.V : RField := ⟨TAL_ACC_NAN_CNT, 0, 64, .ro, 0, .any⟩
def TAL_ACC_NAN_CNT.info : RegInfo := ⟨TAL_ACC_NAN_CNT, true, [ TAL_ACC_NAN_CNT.V]⟩
/-- R164: Non-finite output columns (R155). -/
def TAL_ACC_NONFIN_OUT_CNT : Reg := ⟨.tal, 0x448⟩
def TAL_ACC_NONFIN_OUT_CNT.V : RField := ⟨TAL_ACC_NONFIN_OUT_CNT, 0, 64, .ro, 0, .any⟩
def TAL_ACC_NONFIN_OUT_CNT.info : RegInfo := ⟨TAL_ACC_NONFIN_OUT_CNT, true, [ TAL_ACC_NONFIN_OUT_CNT.V]⟩
/-- R164: Reductions sent to the inspector after a refusal (R157). -/
def TAL_ACC_REFUSED_CNT : Reg := ⟨.tal, 0x450⟩
def TAL_ACC_REFUSED_CNT.V : RField := ⟨TAL_ACC_REFUSED_CNT, 0, 64, .ro, 0, .any⟩
def TAL_ACC_REFUSED_CNT.info : RegInfo := ⟨TAL_ACC_REFUSED_CNT, true, [ TAL_ACC_REFUSED_CNT.V]⟩
/-- R164: Strike edges held for a reorder entry (R150). -/
def TAL_ACC_REORDER_WAIT_CNT : Reg := ⟨.tal, 0x458⟩
def TAL_ACC_REORDER_WAIT_CNT.V : RField := ⟨TAL_ACC_REORDER_WAIT_CNT, 0, 64, .ro, 0, .any⟩
def TAL_ACC_REORDER_WAIT_CNT.info : RegInfo := ⟨TAL_ACC_REORDER_WAIT_CNT, true, [ TAL_ACC_REORDER_WAIT_CNT.V]⟩
/-- R164: Drains completed (R162). -/
def TAL_ACC_DRAIN_CNT : Reg := ⟨.tal, 0x460⟩
def TAL_ACC_DRAIN_CNT.V : RField := ⟨TAL_ACC_DRAIN_CNT, 0, 64, .ro, 0, .any⟩
def TAL_ACC_DRAIN_CNT.info : RegInfo := ⟨TAL_ACC_DRAIN_CNT, true, [ TAL_ACC_DRAIN_CNT.V]⟩

/-- R68: Physical and logical identity. -/
def STL_ID : Reg := ⟨.stl, 0x0⟩
def STL_ID.QUARTER : RField := ⟨STL_ID, 0, 2, .ro, 0, .any⟩
def STL_ID.ROW : RField := ⟨STL_ID, 2, 6, .ro, 0, .any⟩
def STL_ID.STALL : RField := ⟨STL_ID, 8, 6, .ro, 0, .any⟩
def STL_ID.LOGICAL : RField := ⟨STL_ID, 16, 6, .ro, 0, .any⟩
def STL_ID.info : RegInfo := ⟨STL_ID, false, [ STL_ID.QUARTER, STL_ID.ROW, STL_ID.STALL, STL_ID.LOGICAL]⟩
/-- R68: Enables. -/
def STL_CTL : Reg := ⟨.stl, 0x8⟩
def STL_CTL.EN : RField := ⟨STL_CTL, 0, 1, .rw, 0, .any⟩
def STL_CTL.FRESH_EN : RField := ⟨STL_CTL, 1, 1, .rw, 0, .any⟩
def STL_CTL.TRANS_EN : RField := ⟨STL_CTL, 2, 1, .rw, 0, .any⟩
def STL_CTL.AUTO_SPARE : RField := ⟨STL_CTL, 3, 1, .rw, 0, .any⟩
def STL_CTL.SHADOW_EN : RField := ⟨STL_CTL, 4, 1, .rw, 1, .any⟩
def STL_CTL.info : RegInfo := ⟨STL_CTL, false, [ STL_CTL.EN, STL_CTL.FRESH_EN, STL_CTL.TRANS_EN, STL_CTL.AUTO_SPARE, STL_CTL.SHADOW_EN]⟩
/-- R68: State, direction, MODE_GEN held. -/
def STL_STAT : Reg := ⟨.stl, 0x10⟩
def STL_STAT.STATE : RField := ⟨STL_STAT, 0, 3, .ro, 0, .any⟩
def STL_STAT.TRANS_MODE : RField := ⟨STL_STAT, 3, 1, .ro, 0, .any⟩
def STL_STAT.HOLD_SET : RField := ⟨STL_STAT, 4, 1, .ro, 0, .any⟩
def STL_STAT.MODE_GEN : RField := ⟨STL_STAT, 16, 16, .ro, 0, .any⟩
def STL_STAT.info : RegInfo := ⟨STL_STAT, false, [ STL_STAT.STATE, STL_STAT.TRANS_MODE, STL_STAT.HOLD_SET, STL_STAT.MODE_GEN]⟩
/-- R68: Error flags; each set bit raises the stall's event source. -/
def STL_ERR : Reg := ⟨.stl, 0x18⟩
def STL_ERR.DESC : RField := ⟨STL_ERR, 0, 1, .w1c, 0, .any⟩
def STL_ERR.SLICE : RField := ⟨STL_ERR, 1, 1, .w1c, 0, .any⟩
def STL_ERR.SPARE_EXHAUSTED : RField := ⟨STL_ERR, 2, 1, .w1c, 0, .any⟩
def STL_ERR.REF_LOST : RField := ⟨STL_ERR, 3, 1, .w1c, 0, .any⟩
def STL_ERR.PORTER_WR : RField := ⟨STL_ERR, 4, 1, .w1c, 0, .any⟩
def STL_ERR.SUSPECT : RField := ⟨STL_ERR, 5, 1, .w1c, 0, .any⟩
def STL_ERR.info : RegInfo := ⟨STL_ERR, false, [ STL_ERR.DESC, STL_ERR.SLICE, STL_ERR.SPARE_EXHAUSTED, STL_ERR.REF_LOST, STL_ERR.PORTER_WR, STL_ERR.SUSPECT]⟩
/-- R68: Per output group format and verification, written by the stocking engine. -/
def STL_GRP_CFG : Reg := ⟨.stl, 0x20⟩
def STL_GRP_CFG.FMT0 : RField := ⟨STL_GRP_CFG, 0, 2, .ro, 0, .any⟩
def STL_GRP_CFG.VERIFIED0 : RField := ⟨STL_GRP_CFG, 2, 1, .ro, 0, .any⟩
def STL_GRP_CFG.PAIRED0 : RField := ⟨STL_GRP_CFG, 3, 1, .ro, 0, .any⟩
def STL_GRP_CFG.FMT1 : RField := ⟨STL_GRP_CFG, 8, 2, .ro, 0, .any⟩
def STL_GRP_CFG.VERIFIED1 : RField := ⟨STL_GRP_CFG, 10, 1, .ro, 0, .any⟩
def STL_GRP_CFG.PAIRED1 : RField := ⟨STL_GRP_CFG, 11, 1, .ro, 0, .any⟩
def STL_GRP_CFG.FMT2 : RField := ⟨STL_GRP_CFG, 16, 2, .ro, 0, .any⟩
def STL_GRP_CFG.VERIFIED2 : RField := ⟨STL_GRP_CFG, 18, 1, .ro, 0, .any⟩
def STL_GRP_CFG.PAIRED2 : RField := ⟨STL_GRP_CFG, 19, 1, .ro, 0, .any⟩
def STL_GRP_CFG.FMT3 : RField := ⟨STL_GRP_CFG, 24, 2, .ro, 0, .any⟩
def STL_GRP_CFG.VERIFIED3 : RField := ⟨STL_GRP_CFG, 26, 1, .ro, 0, .any⟩
def STL_GRP_CFG.PAIRED3 : RField := ⟨STL_GRP_CFG, 27, 1, .ro, 0, .any⟩
def STL_GRP_CFG.info : RegInfo := ⟨STL_GRP_CFG, false, [ STL_GRP_CFG.FMT0, STL_GRP_CFG.VERIFIED0, STL_GRP_CFG.PAIRED0, STL_GRP_CFG.FMT1, STL_GRP_CFG.VERIFIED1, STL_GRP_CFG.PAIRED1, STL_GRP_CFG.FMT2, STL_GRP_CFG.VERIFIED2, STL_GRP_CFG.PAIRED2, STL_GRP_CFG.FMT3, STL_GRP_CFG.VERIFIED3, STL_GRP_CFG.PAIRED3]⟩
/-- R68: Fresh plane states and tags. -/
def STL_PLANE : Reg := ⟨.stl, 0x28⟩
def STL_PLANE.COMP : RField := ⟨STL_PLANE, 0, 1, .ro, 0, .any⟩
def STL_PLANE.P0_STATE : RField := ⟨STL_PLANE, 1, 2, .ro, 0, .any⟩
def STL_PLANE.P1_STATE : RField := ⟨STL_PLANE, 3, 2, .ro, 0, .any⟩
def STL_PLANE.P0_TAG : RField := ⟨STL_PLANE, 16, 16, .ro, 0, .any⟩
def STL_PLANE.P1_TAG : RField := ⟨STL_PLANE, 32, 16, .ro, 0, .any⟩
def STL_PLANE.info : RegInfo := ⟨STL_PLANE, true, [ STL_PLANE.COMP, STL_PLANE.P0_STATE, STL_PLANE.P1_STATE, STL_PLANE.P0_TAG, STL_PLANE.P1_TAG]⟩
/-- R68: Spare slice substitutions. -/
def STL_SLICE_MAP : Reg := ⟨.stl, 0x30⟩
def STL_SLICE_MAP.SUB0 : RField := ⟨STL_SLICE_MAP, 0, 3, .rw, 4, .range 0 4⟩
def STL_SLICE_MAP.SUB1 : RField := ⟨STL_SLICE_MAP, 3, 3, .rw, 4, .range 0 4⟩
def STL_SLICE_MAP.SUB2 : RField := ⟨STL_SLICE_MAP, 6, 3, .rw, 4, .range 0 4⟩
def STL_SLICE_MAP.SUB3 : RField := ⟨STL_SLICE_MAP, 9, 3, .rw, 4, .range 0 4⟩
def STL_SLICE_MAP.SUB4 : RField := ⟨STL_SLICE_MAP, 12, 3, .rw, 4, .range 0 4⟩
def STL_SLICE_MAP.SUB5 : RField := ⟨STL_SLICE_MAP, 15, 3, .rw, 4, .range 0 4⟩
def STL_SLICE_MAP.SUB6 : RField := ⟨STL_SLICE_MAP, 18, 3, .rw, 4, .range 0 4⟩
def STL_SLICE_MAP.SUB7 : RField := ⟨STL_SLICE_MAP, 21, 3, .rw, 4, .range 0 4⟩
def STL_SLICE_MAP.info : RegInfo := ⟨STL_SLICE_MAP, false, [ STL_SLICE_MAP.SUB0, STL_SLICE_MAP.SUB1, STL_SLICE_MAP.SUB2, STL_SLICE_MAP.SUB3, STL_SLICE_MAP.SUB4, STL_SLICE_MAP.SUB5, STL_SLICE_MAP.SUB6, STL_SLICE_MAP.SUB7]⟩
/-- R68: Out-of-limit flags per slice. -/
def STL_SLICE_HEALTH : Reg := ⟨.stl, 0x38⟩
def STL_SLICE_HEALTH.V : RField := ⟨STL_SLICE_HEALTH, 0, 64, .ro, 0, .any⟩
def STL_SLICE_HEALTH.info : RegInfo := ⟨STL_SLICE_HEALTH, true, [ STL_SLICE_HEALTH.V]⟩
/-- R68: The sequencer's strike counter: stock strike edges, each strike of a pair and each transpose strike counted once. -/
def STL_STRIKES : Reg := ⟨.stl, 0x40⟩
def STL_STRIKES.V : RField := ⟨STL_STRIKES, 0, 64, .ro, 0, .any⟩
def STL_STRIKES.info : RegInfo := ⟨STL_STRIKES, true, [ STL_STRIKES.V]⟩
/-- R68: Fresh strikes. -/
def STL_FRESH_STRIKES : Reg := ⟨.stl, 0x48⟩
def STL_FRESH_STRIKES.V : RField := ⟨STL_FRESH_STRIKES, 0, 64, .ro, 0, .any⟩
def STL_FRESH_STRIKES.info : RegInfo := ⟨STL_FRESH_STRIKES, true, [ STL_FRESH_STRIKES.V]⟩
/-- R68: Widened pairs issued with REPLAY = 0 (R59). -/
def STL_WIDE_PAIRS : Reg := ⟨.stl, 0x50⟩
def STL_WIDE_PAIRS.V : RField := ⟨STL_WIDE_PAIRS, 0, 64, .ro, 0, .any⟩
def STL_WIDE_PAIRS.info : RegInfo := ⟨STL_WIDE_PAIRS, true, [ STL_WIDE_PAIRS.V]⟩
/-- R68: Transpose strikes. -/
def STL_TRANS_STRIKES : Reg := ⟨.stl, 0x58⟩
def STL_TRANS_STRIKES.V : RField := ⟨STL_TRANS_STRIKES, 0, 64, .ro, 0, .any⟩
def STL_TRANS_STRIKES.info : RegInfo := ⟨STL_TRANS_STRIKES, true, [ STL_TRANS_STRIKES.V]⟩
/-- R68: Clip codes converted, data and reference columns (R50). -/
def STL_CLIP_CNT : Reg := ⟨.stl, 0x60⟩
def STL_CLIP_CNT.V : RField := ⟨STL_CLIP_CNT, 0, 64, .rc, 0, .any⟩
def STL_CLIP_CNT.info : RegInfo := ⟨STL_CLIP_CNT, true, [ STL_CLIP_CNT.V]⟩
/-- R68: Refused descriptors. -/
def STL_REFUSED_CNT : Reg := ⟨.stl, 0x68⟩
def STL_REFUSED_CNT.V : RField := ⟨STL_REFUSED_CNT, 0, 64, .rc, 0, .any⟩
def STL_REFUSED_CNT.info : RegInfo := ⟨STL_REFUSED_CNT, true, [ STL_REFUSED_CNT.V]⟩
/-- R68: Reference codes of the latest stock strike. -/
def STL_REF_CODES : Reg := ⟨.stl, 0x70⟩
def STL_REF_CODES.Z : RField := ⟨STL_REF_CODES, 0, 8, .ro, 0, .any⟩
def STL_REF_CODES.LO : RField := ⟨STL_REF_CODES, 8, 8, .ro, 0, .any⟩
def STL_REF_CODES.HI : RField := ⟨STL_REF_CODES, 16, 8, .ro, 0, .any⟩
def STL_REF_CODES.PAT : RField := ⟨STL_REF_CODES, 24, 8, .ro, 0, .any⟩
def STL_REF_CODES.GROUP : RField := ⟨STL_REF_CODES, 32, 2, .ro, 0, .any⟩
def STL_REF_CODES.STRIKE_LO : RField := ⟨STL_REF_CODES, 48, 16, .ro, 0, .any⟩
def STL_REF_CODES.info : RegInfo := ⟨STL_REF_CODES, true, [ STL_REF_CODES.Z, STL_REF_CODES.LO, STL_REF_CODES.HI, STL_REF_CODES.PAT, STL_REF_CODES.GROUP, STL_REF_CODES.STRIKE_LO]⟩
/-- R68: Queue depth and bank use. -/
def STL_QUEUE : Reg := ⟨.stl, 0x78⟩
def STL_QUEUE.DEPTH : RField := ⟨STL_QUEUE, 0, 5, .ro, 0, .any⟩
def STL_QUEUE.BANK_BUSY : RField := ⟨STL_QUEUE, 8, 4, .ro, 0, .any⟩
def STL_QUEUE.FSLOT_BUSY : RField := ⟨STL_QUEUE, 16, 16, .ro, 0, .any⟩
def STL_QUEUE.info : RegInfo := ⟨STL_QUEUE, false, [ STL_QUEUE.DEPTH, STL_QUEUE.BANK_BUSY, STL_QUEUE.FSLOT_BUSY]⟩

/-- R263, R265: Enables. -/
def WH_CTL : Reg := ⟨.wh, 0x0⟩
def WH_CTL.EN : RField := ⟨WH_CTL, 0, 1, .rw, 1, .any⟩
def WH_CTL.DEC_ONLY : RField := ⟨WH_CTL, 1, 1, .rw, 0, .any⟩
def WH_CTL.info : RegInfo := ⟨WH_CTL, false, [ WH_CTL.EN, WH_CTL.DEC_ONLY]⟩
/-- R263, R265: State, sequences, MODE_GEN. -/
def WH_STAT : Reg := ⟨.wh, 0x8⟩
def WH_STAT.STATE : RField := ⟨WH_STAT, 0, 2, .ro, 0, .any⟩
def WH_STAT.SEQS : RField := ⟨WH_STAT, 16, 10, .ro, 0, .any⟩
def WH_STAT.MODE_GEN : RField := ⟨WH_STAT, 48, 16, .ro, 0, .any⟩
def WH_STAT.info : RegInfo := ⟨WH_STAT, true, [ WH_STAT.STATE, WH_STAT.SEQS, WH_STAT.MODE_GEN]⟩
/-- R263, R265: Error flags. -/
def WH_ERR : Reg := ⟨.wh, 0x10⟩
def WH_ERR.PARITY : RField := ⟨WH_ERR, 0, 1, .w1c, 0, .any⟩
def WH_ERR.NORM : RField := ⟨WH_ERR, 1, 1, .w1c, 0, .any⟩
def WH_ERR.FORMAT : RField := ⟨WH_ERR, 2, 1, .w1c, 0, .any⟩
def WH_ERR.NONFIN : RField := ⟨WH_ERR, 3, 1, .w1c, 0, .any⟩
def WH_ERR.SEQ : RField := ⟨WH_ERR, 16, 12, .ro, 0, .any⟩
def WH_ERR.info : RegInfo := ⟨WH_ERR, false, [ WH_ERR.PARITY, WH_ERR.NORM, WH_ERR.FORMAT, WH_ERR.NONFIN, WH_ERR.SEQ]⟩
/-- R263, R265: Decode layer-positions attended. -/
def WH_DEC_CNT : Reg := ⟨.wh, 0x18⟩
def WH_DEC_CNT.V : RField := ⟨WH_DEC_CNT, 0, 64, .ro, 0, .any⟩
def WH_DEC_CNT.info : RegInfo := ⟨WH_DEC_CNT, true, [ WH_DEC_CNT.V]⟩
/-- R263, R265: Prefill key blocks attended. -/
def WH_PRE_BLK_CNT : Reg := ⟨.wh, 0x20⟩
def WH_PRE_BLK_CNT.V : RField := ⟨WH_PRE_BLK_CNT, 0, 64, .ro, 0, .any⟩
def WH_PRE_BLK_CNT.info : RegInfo := ⟨WH_PRE_BLK_CNT, true, [ WH_PRE_BLK_CNT.V]⟩
/-- R263, R265: Page reads, whole or head part. -/
def WH_PAGE_READ_CNT : Reg := ⟨.wh, 0x28⟩
def WH_PAGE_READ_CNT.V : RField := ⟨WH_PAGE_READ_CNT, 0, 64, .ro, 0, .any⟩
def WH_PAGE_READ_CNT.info : RegInfo := ⟨WH_PAGE_READ_CNT, true, [ WH_PAGE_READ_CNT.V]⟩
/-- R263, R265: Fresh block results merged (R258). -/
def WH_MERGE_CNT : Reg := ⟨.wh, 0x30⟩
def WH_MERGE_CNT.V : RField := ⟨WH_MERGE_CNT, 0, 64, .ro, 0, .any⟩
def WH_MERGE_CNT.info : RegInfo := ⟨WH_MERGE_CNT, true, [ WH_MERGE_CNT.V]⟩
/-- R263, R265: Row statistics saved (R261). -/
def WH_STATS_SAVE_CNT : Reg := ⟨.wh, 0x38⟩
def WH_STATS_SAVE_CNT.V : RField := ⟨WH_STATS_SAVE_CNT, 0, 64, .ro, 0, .any⟩
def WH_STATS_SAVE_CNT.info : RegInfo := ⟨WH_STATS_SAVE_CNT, true, [ WH_STATS_SAVE_CNT.V]⟩
/-- R263, R265: Page bounds formed (R247). -/
def WH_BOUND_CNT : Reg := ⟨.wh, 0x40⟩
def WH_BOUND_CNT.V : RField := ⟨WH_BOUND_CNT, 0, 64, .ro, 0, .any⟩
def WH_BOUND_CNT.info : RegInfo := ⟨WH_BOUND_CNT, true, [ WH_BOUND_CNT.V]⟩

/-- Every register of the block, in address order. -/
def regs_tal : List RegInfo :=
  [ TAL_MODE_GEN.info, TAL_COR_CTL.info, TAL_COR_ERR.info, TAL_COR_SEL.info, TAL_DRIFT_VAL.info, TAL_SIGMA.info, TAL_TRIM_SEL.info, TAL_TRIM_DATA.info, TAL_OUT_DYN_CNT.info, TAL_OUT_PASS_CNT.info, TAL_OUT_FETCH_CNT.info, TAL_OUT_REQUANT_CNT.info, TAL_OUT_WIDEN_CNT.info, TAL_OUT_WIDE_OVF_CNT.info, TAL_OUT_WAIT_CNT.info, TAL_REF_CLIP_CNT.info, TAL_NQ_CTL.info, TAL_NQ_STORM.info, TAL_NQ_ERR.info, TAL_TILE_SEL.info, TAL_TILE_STAT.info, TAL_TILE_CMD.info, TAL_STORM_MAP.info, TAL_STEP_CNT.info, TAL_NQ_VEC_CNT.info, TAL_NQ_LIFT_CNT.info, TAL_NQ_OFF_CNT.info, TAL_NQ_CARRY_SAT_CNT.info, TAL_NQ_ETA_CNT.info, TAL_NQ_CLIP_REPLAY_CNT.info, TAL_NQ_SPLIT_CNT.info, TAL_NQ_CLIP_FAIL_CNT.info, TAL_NQ_RANGE_CHG_CNT.info, TAL_NQ_NONFINITE_CNT.info, TAL_NQ_STORE_WAIT_CNT.info, TAL_WIDE_START_CNT.info, TAL_WIDE_STORM_CNT.info, TAL_ACC_CTL.info, TAL_ACC_SEED.info, TAL_ACC_ERR.info, TAL_ACC_STAT.info, TAL_DRAIN_CMD.info, TAL_ACC_RUN_CNT.info, TAL_ACC_OVERSIZE_CNT.info, TAL_ACC_INF_CNT.info, TAL_ACC_NAN_CNT.info, TAL_ACC_NONFIN_OUT_CNT.info, TAL_ACC_REFUSED_CNT.info, TAL_ACC_REORDER_WAIT_CNT.info, TAL_ACC_DRAIN_CNT.info]

/-- Every register of the block, in address order. -/
def regs_stl : List RegInfo :=
  [ STL_ID.info, STL_CTL.info, STL_STAT.info, STL_ERR.info, STL_GRP_CFG.info, STL_PLANE.info, STL_SLICE_MAP.info, STL_SLICE_HEALTH.info, STL_STRIKES.info, STL_FRESH_STRIKES.info, STL_WIDE_PAIRS.info, STL_TRANS_STRIKES.info, STL_CLIP_CNT.info, STL_REFUSED_CNT.info, STL_REF_CODES.info, STL_QUEUE.info]

/-- Every register of the block, in address order. -/
def regs_wh : List RegInfo :=
  [ WH_CTL.info, WH_STAT.info, WH_ERR.info, WH_DEC_CNT.info, WH_PRE_BLK_CNT.info, WH_PAGE_READ_CNT.info, WH_MERGE_CNT.info, WH_STATS_SAVE_CNT.info, WH_BOUND_CNT.info]

end Sys2Proof.Machine
end

