-- ==== Sys2Proof/Machine/RegsWork.lean ====
section
/-! DEFINITION. The registers of serving, adapters, KV, porter, stocking, checking, memory and Cartway, written from the register tables of chapters 6 to 13 (R195, R226, R263, R308, R327, R361, R384, R405). -/

namespace Sys2Proof.Machine

/-- R308: Chunk size, speculation pause, replay limit. -/
def SRV_CTL : Reg := ⟨.srv, 0x0⟩
def SRV_CTL.CHUNK : RField := ⟨SRV_CTL, 0, 10, .rw, 512, .oneOf [64, 128, 256, 512]⟩
def SRV_CTL.SPEC_PAUSE : RField := ⟨SRV_CTL, 16, 8, .rw, 64, .nonzero⟩
def SRV_CTL.REPLAY_MAX : RField := ⟨SRV_CTL, 24, 4, .rw, 3, .any⟩
def SRV_CTL.info : RegInfo := ⟨SRV_CTL, false, [ SRV_CTL.CHUNK, SRV_CTL.SPEC_PAUSE, SRV_CTL.REPLAY_MAX]⟩
/-- R308: Active and admitted counts, D, chunk size. -/
def SRV_STAT : Reg := ⟨.srv, 0x8⟩
def SRV_STAT.ACTIVE : RField := ⟨SRV_STAT, 0, 10, .ro, 0, .any⟩
def SRV_STAT.ADMITTED : RField := ⟨SRV_STAT, 16, 13, .ro, 0, .any⟩
def SRV_STAT.CEIL : RField := ⟨SRV_STAT, 32, 10, .ro, 512, .any⟩
def SRV_STAT.CUR_CHUNK : RField := ⟨SRV_STAT, 48, 10, .ro, 512, .any⟩
def SRV_STAT.info : RegInfo := ⟨SRV_STAT, true, [ SRV_STAT.ACTIVE, SRV_STAT.ADMITTED, SRV_STAT.CEIL, SRV_STAT.CUR_CHUNK]⟩
/-- R308: Error flags. -/
def SRV_ERR : Reg := ⟨.srv, 0x10⟩
def SRV_ERR.STORM_CEIL : RField := ⟨SRV_ERR, 0, 1, .w1c, 0, .any⟩
def SRV_ERR.LATE : RField := ⟨SRV_ERR, 1, 1, .w1c, 0, .any⟩
def SRV_ERR.REPLAY : RField := ⟨SRV_ERR, 2, 1, .w1c, 0, .any⟩
def SRV_ERR.NONFIN : RField := ⟨SRV_ERR, 3, 1, .w1c, 0, .any⟩
def SRV_ERR.SLIP : RField := ⟨SRV_ERR, 4, 1, .w1c, 0, .any⟩
def SRV_ERR.FUNC : RField := ⟨SRV_ERR, 16, 6, .ro, 0, .any⟩
def SRV_ERR.info : RegInfo := ⟨SRV_ERR, false, [ SRV_ERR.STORM_CEIL, SRV_ERR.LATE, SRV_ERR.REPLAY, SRV_ERR.NONFIN, SRV_ERR.SLIP, SRV_ERR.FUNC]⟩
/-- R308: Step target and lowest D. -/
def SRV_STEP_TARGET : Reg := ⟨.srv, 0x18⟩
def SRV_STEP_TARGET.TARGET_US : RField := ⟨SRV_STEP_TARGET, 0, 16, .rw, 20000, .nonzero⟩
def SRV_STEP_TARGET.MIN_CEIL : RField := ⟨SRV_STEP_TARGET, 16, 10, .rw, 16, .range 1 512⟩
def SRV_STEP_TARGET.info : RegInfo := ⟨SRV_STEP_TARGET, false, [ SRV_STEP_TARGET.TARGET_US, SRV_STEP_TARGET.MIN_CEIL]⟩
/-- R308: The device's step counter. -/
def SRV_STEP_CNT : Reg := ⟨.srv, 0x20⟩
def SRV_STEP_CNT.V : RField := ⟨SRV_STEP_CNT, 0, 64, .ro, 0, .any⟩
def SRV_STEP_CNT.info : RegInfo := ⟨SRV_STEP_CNT, true, [ SRV_STEP_CNT.V]⟩
/-- R308: Duration of the last step, CLK_AO cycles. -/
def SRV_STEP_LAST : Reg := ⟨.srv, 0x28⟩
def SRV_STEP_LAST.V : RField := ⟨SRV_STEP_LAST, 0, 64, .ro, 0, .any⟩
def SRV_STEP_LAST.info : RegInfo := ⟨SRV_STEP_LAST, true, [ SRV_STEP_LAST.V]⟩
/-- R308: Function selected. -/
def SRV_FUNC_SEL : Reg := ⟨.srv, 0x30⟩
def SRV_FUNC_SEL.FUNC : RField := ⟨SRV_FUNC_SEL, 0, 6, .rw, 0, .any⟩
def SRV_FUNC_SEL.info : RegInfo := ⟨SRV_FUNC_SEL, false, [ SRV_FUNC_SEL.FUNC]⟩
/-- R308: Ceilings of the selected function. -/
def SRV_FUNC_CEIL : Reg := ⟨.srv, 0x38⟩
def SRV_FUNC_CEIL.BASE : RField := ⟨SRV_FUNC_CEIL, 0, 10, .rw, 512, .range 1 512⟩
def SRV_FUNC_CEIL.ADMIT : RField := ⟨SRV_FUNC_CEIL, 16, 13, .rw, 4096, .range 1 4096⟩
def SRV_FUNC_CEIL.CUR : RField := ⟨SRV_FUNC_CEIL, 32, 10, .ro, 512, .any⟩
def SRV_FUNC_CEIL.info : RegInfo := ⟨SRV_FUNC_CEIL, true, [ SRV_FUNC_CEIL.BASE, SRV_FUNC_CEIL.ADMIT, SRV_FUNC_CEIL.CUR]⟩
/-- R308: Counts of the selected function. -/
def SRV_FUNC_STAT : Reg := ⟨.srv, 0x40⟩
def SRV_FUNC_STAT.ACTIVE : RField := ⟨SRV_FUNC_STAT, 0, 10, .ro, 0, .any⟩
def SRV_FUNC_STAT.ADMITTED : RField := ⟨SRV_FUNC_STAT, 16, 13, .ro, 0, .any⟩
def SRV_FUNC_STAT.QUIET : RField := ⟨SRV_FUNC_STAT, 32, 16, .ro, 0, .any⟩
def SRV_FUNC_STAT.info : RegInfo := ⟨SRV_FUNC_STAT, true, [ SRV_FUNC_STAT.ACTIVE, SRV_FUNC_STAT.ADMITTED, SRV_FUNC_STAT.QUIET]⟩
/-- R308: Stream selected. -/
def SRV_PACE_SEL : Reg := ⟨.srv, 0x48⟩
def SRV_PACE_SEL.STREAM : RField := ⟨SRV_PACE_SEL, 0, 4, .rw, 0, .any⟩
def SRV_PACE_SEL.info : RegInfo := ⟨SRV_PACE_SEL, false, [ SRV_PACE_SEL.STREAM]⟩
/-- R308: State of the selected stream. -/
def SRV_PACE_STAT : Reg := ⟨.srv, 0x50⟩
def SRV_PACE_STAT.STATE : RField := ⟨SRV_PACE_STAT, 0, 2, .ro, 0, .any⟩
def SRV_PACE_STAT.CLOCK : RField := ⟨SRV_PACE_STAT, 2, 1, .ro, 0, .any⟩
def SRV_PACE_STAT.QUEUED : RField := ⟨SRV_PACE_STAT, 8, 4, .ro, 0, .any⟩
def SRV_PACE_STAT.SLOT : RField := ⟨SRV_PACE_STAT, 12, 4, .ro, 0, .any⟩
def SRV_PACE_STAT.STALLS : RField := ⟨SRV_PACE_STAT, 16, 16, .ro, 0, .any⟩
def SRV_PACE_STAT.TICKS : RField := ⟨SRV_PACE_STAT, 32, 32, .ro, 0, .any⟩
def SRV_PACE_STAT.info : RegInfo := ⟨SRV_PACE_STAT, true, [ SRV_PACE_STAT.STATE, SRV_PACE_STAT.CLOCK, SRV_PACE_STAT.QUEUED, SRV_PACE_STAT.SLOT, SRV_PACE_STAT.STALLS, SRV_PACE_STAT.TICKS]⟩
/-- R308: Paced reservation limit. -/
def SRV_PACE_MAX : Reg := ⟨.srv, 0x58⟩
def SRV_PACE_MAX.PCT : RField := ⟨SRV_PACE_MAX, 0, 5, .rl, 25, .range 0 25⟩
def SRV_PACE_MAX.info : RegInfo := ⟨SRV_PACE_MAX, false, [ SRV_PACE_MAX.PCT]⟩
/-- R308: Slips taken. -/
def SRV_SLIP_CNT : Reg := ⟨.srv, 0x60⟩
def SRV_SLIP_CNT.V : RField := ⟨SRV_SLIP_CNT, 0, 64, .ro, 0, .any⟩
def SRV_SLIP_CNT.info : RegInfo := ⟨SRV_SLIP_CNT, true, [ SRV_SLIP_CNT.V]⟩
/-- R308: Slips refused. -/
def SRV_REFUSED_CNT : Reg := ⟨.srv, 0x68⟩
def SRV_REFUSED_CNT.V : RField := ⟨SRV_REFUSED_CNT, 0, 64, .ro, 0, .any⟩
def SRV_REFUSED_CNT.info : RegInfo := ⟨SRV_REFUSED_CNT, true, [ SRV_REFUSED_CNT.V]⟩
/-- R308: Token records written. -/
def SRV_TOKEN_CNT : Reg := ⟨.srv, 0x70⟩
def SRV_TOKEN_CNT.V : RField := ⟨SRV_TOKEN_CNT, 0, 64, .ro, 0, .any⟩
def SRV_TOKEN_CNT.info : RegInfo := ⟨SRV_TOKEN_CNT, true, [ SRV_TOKEN_CNT.V]⟩
/-- R308: Crier tokens proposed. -/
def SRV_DRAFT_CNT : Reg := ⟨.srv, 0x78⟩
def SRV_DRAFT_CNT.V : RField := ⟨SRV_DRAFT_CNT, 0, 64, .ro, 0, .any⟩
def SRV_DRAFT_CNT.info : RegInfo := ⟨SRV_DRAFT_CNT, true, [ SRV_DRAFT_CNT.V]⟩
/-- R308: Crier tokens accepted. -/
def SRV_ACCEPT_CNT : Reg := ⟨.srv, 0x80⟩
def SRV_ACCEPT_CNT.V : RField := ⟨SRV_ACCEPT_CNT, 0, 64, .ro, 0, .any⟩
def SRV_ACCEPT_CNT.info : RegInfo := ⟨SRV_ACCEPT_CNT, true, [ SRV_ACCEPT_CNT.V]⟩
/-- R308: Total rejections (R292). -/
def SRV_TOTAL_REJ_CNT : Reg := ⟨.srv, 0x88⟩
def SRV_TOTAL_REJ_CNT.V : RField := ⟨SRV_TOTAL_REJ_CNT, 0, 64, .ro, 0, .any⟩
def SRV_TOTAL_REJ_CNT.info : RegInfo := ⟨SRV_TOTAL_REJ_CNT, true, [ SRV_TOTAL_REJ_CNT.V]⟩
/-- R308: Speculation pauses (R292). -/
def SRV_SPEC_PAUSE_CNT : Reg := ⟨.srv, 0x90⟩
def SRV_SPEC_PAUSE_CNT.V : RField := ⟨SRV_SPEC_PAUSE_CNT, 0, 64, .ro, 0, .any⟩
def SRV_SPEC_PAUSE_CNT.info : RegInfo := ⟨SRV_SPEC_PAUSE_CNT, true, [ SRV_SPEC_PAUSE_CNT.V]⟩
/-- R308: Late frames (R297). -/
def SRV_LATE_CNT : Reg := ⟨.srv, 0x98⟩
def SRV_LATE_CNT.V : RField := ⟨SRV_LATE_CNT, 0, 64, .ro, 0, .any⟩
def SRV_LATE_CNT.info : RegInfo := ⟨SRV_LATE_CNT, true, [ SRV_LATE_CNT.V]⟩
/-- R308: Steps sat out (R285). -/
def SRV_SKIP_CNT : Reg := ⟨.srv, 0xA0⟩
def SRV_SKIP_CNT.V : RField := ⟨SRV_SKIP_CNT, 0, 64, .ro, 0, .any⟩
def SRV_SKIP_CNT.info : RegInfo := ⟨SRV_SKIP_CNT, true, [ SRV_SKIP_CNT.V]⟩
/-- R308: Holds on a full till roll (R302). -/
def SRV_ROLL_FULL_CNT : Reg := ⟨.srv, 0xA8⟩
def SRV_ROLL_FULL_CNT.V : RField := ⟨SRV_ROLL_FULL_CNT, 0, 64, .ro, 0, .any⟩
def SRV_ROLL_FULL_CNT.info : RegInfo := ⟨SRV_ROLL_FULL_CNT, true, [ SRV_ROLL_FULL_CNT.V]⟩
/-- R308: Chunk halvings (R284). -/
def SRV_CHUNK_SHRINK_CNT : Reg := ⟨.srv, 0xB0⟩
def SRV_CHUNK_SHRINK_CNT.V : RField := ⟨SRV_CHUNK_SHRINK_CNT, 0, 64, .ro, 0, .any⟩
def SRV_CHUNK_SHRINK_CNT.info : RegInfo := ⟨SRV_CHUNK_SHRINK_CNT, true, [ SRV_CHUNK_SHRINK_CNT.V]⟩
/-- R308: Ceiling halvings (R281). -/
def SRV_STORM_CEIL_CNT : Reg := ⟨.srv, 0xB8⟩
def SRV_STORM_CEIL_CNT.V : RField := ⟨SRV_STORM_CEIL_CNT, 0, 64, .ro, 0, .any⟩
def SRV_STORM_CEIL_CNT.info : RegInfo := ⟨SRV_STORM_CEIL_CNT, true, [ SRV_STORM_CEIL_CNT.V]⟩
/-- R308: Till roll messages (R303). -/
def SRV_MSI_CNT : Reg := ⟨.srv, 0xC0⟩
def SRV_MSI_CNT.V : RField := ⟨SRV_MSI_CNT, 0, 64, .ro, 0, .any⟩
def SRV_MSI_CNT.info : RegInfo := ⟨SRV_MSI_CNT, true, [ SRV_MSI_CNT.V]⟩
/-- R327: Host address of the adapter image, 4,096-byte aligned. -/
def SRV_ADP_ADDR : Reg := ⟨.srv, 0x100⟩
def SRV_ADP_ADDR.V : RField := ⟨SRV_ADP_ADDR, 0, 64, .rw, 0, .any⟩
def SRV_ADP_ADDR.info : RegInfo := ⟨SRV_ADP_ADDR, true, [ SRV_ADP_ADDR.V]⟩
/-- R327: Load or unload. -/
def SRV_ADP_CMD : Reg := ⟨.srv, 0x108⟩
def SRV_ADP_CMD.OP : RField := ⟨SRV_ADP_CMD, 0, 2, .wo, 0, .any⟩
def SRV_ADP_CMD.ADAPTER : RField := ⟨SRV_ADP_CMD, 2, 10, .wo, 0, .any⟩
def SRV_ADP_CMD.SLOT : RField := ⟨SRV_ADP_CMD, 12, 4, .wo, 0, .any⟩
def SRV_ADP_CMD.info : RegInfo := ⟨SRV_ADP_CMD, false, [ SRV_ADP_CMD.OP, SRV_ADP_CMD.ADAPTER, SRV_ADP_CMD.SLOT]⟩
/-- R327: Load state, live versions, pool use. -/
def SRV_ADP_STAT : Reg := ⟨.srv, 0x110⟩
def SRV_ADP_STAT.LOAD : RField := ⟨SRV_ADP_STAT, 0, 3, .ro, 0, .any⟩
def SRV_ADP_STAT.VERSIONS : RField := ⟨SRV_ADP_STAT, 16, 11, .ro, 0, .any⟩
def SRV_ADP_STAT.USED : RField := ⟨SRV_ADP_STAT, 32, 32, .ro, 0, .any⟩
def SRV_ADP_STAT.info : RegInfo := ⟨SRV_ADP_STAT, true, [ SRV_ADP_STAT.LOAD, SRV_ADP_STAT.VERSIONS, SRV_ADP_STAT.USED]⟩
/-- R327: Error flags. -/
def SRV_ADP_ERR : Reg := ⟨.srv, 0x118⟩
def SRV_ADP_ERR.DIGEST : RField := ⟨SRV_ADP_ERR, 0, 1, .w1c, 0, .any⟩
def SRV_ADP_ERR.FORMAT : RField := ⟨SRV_ADP_ERR, 1, 1, .w1c, 0, .any⟩
def SRV_ADP_ERR.TARGET : RField := ⟨SRV_ADP_ERR, 2, 1, .w1c, 0, .any⟩
def SRV_ADP_ERR.SPACE : RField := ⟨SRV_ADP_ERR, 3, 1, .w1c, 0, .any⟩
def SRV_ADP_ERR.BUSY : RField := ⟨SRV_ADP_ERR, 4, 1, .w1c, 0, .any⟩
def SRV_ADP_ERR.RESIDUE : RField := ⟨SRV_ADP_ERR, 5, 1, .w1c, 0, .any⟩
def SRV_ADP_ERR.ADAPTER : RField := ⟨SRV_ADP_ERR, 16, 10, .ro, 0, .any⟩
def SRV_ADP_ERR.info : RegInfo := ⟨SRV_ADP_ERR, false, [ SRV_ADP_ERR.DIGEST, SRV_ADP_ERR.FORMAT, SRV_ADP_ERR.TARGET, SRV_ADP_ERR.SPACE, SRV_ADP_ERR.BUSY, SRV_ADP_ERR.RESIDUE, SRV_ADP_ERR.ADAPTER]⟩
/-- R327: Adapter selected. -/
def SRV_ADP_SEL : Reg := ⟨.srv, 0x120⟩
def SRV_ADP_SEL.ADAPTER : RField := ⟨SRV_ADP_SEL, 0, 10, .rw, 0, .any⟩
def SRV_ADP_SEL.info : RegInfo := ⟨SRV_ADP_SEL, false, [ SRV_ADP_SEL.ADAPTER]⟩
/-- R327: Versions and references of the selected adapter. -/
def SRV_ADP_INFO : Reg := ⟨.srv, 0x128⟩
def SRV_ADP_INFO.CUR : RField := ⟨SRV_ADP_INFO, 0, 16, .ro, 0, .any⟩
def SRV_ADP_INFO.OLD : RField := ⟨SRV_ADP_INFO, 16, 16, .ro, 0, .any⟩
def SRV_ADP_INFO.REF_CUR : RField := ⟨SRV_ADP_INFO, 32, 16, .ro, 0, .any⟩
def SRV_ADP_INFO.REF_OLD : RField := ⟨SRV_ADP_INFO, 48, 16, .ro, 0, .any⟩
def SRV_ADP_INFO.info : RegInfo := ⟨SRV_ADP_INFO, true, [ SRV_ADP_INFO.CUR, SRV_ADP_INFO.OLD, SRV_ADP_INFO.REF_CUR, SRV_ADP_INFO.REF_OLD]⟩
/-- R327: Adapter pool in granules. -/
def SRV_ADP_POOL : Reg := ⟨.srv, 0x130⟩
def SRV_ADP_POOL.GRANULES : RField := ⟨SRV_ADP_POOL, 0, 32, .rl, 65536, .any⟩
def SRV_ADP_POOL.info : RegInfo := ⟨SRV_ADP_POOL, false, [ SRV_ADP_POOL.GRANULES]⟩
/-- R327: Tuning jobs and sequences. -/
def SRV_TUNE_STAT : Reg := ⟨.srv, 0x138⟩
def SRV_TUNE_STAT.JOBS : RField := ⟨SRV_TUNE_STAT, 0, 7, .ro, 0, .any⟩
def SRV_TUNE_STAT.SEQS : RField := ⟨SRV_TUNE_STAT, 16, 13, .ro, 0, .any⟩
def SRV_TUNE_STAT.info : RegInfo := ⟨SRV_TUNE_STAT, false, [ SRV_TUNE_STAT.JOBS, SRV_TUNE_STAT.SEQS]⟩
/-- R327: Versions loaded (R312). -/
def SRV_ADP_LOAD_CNT : Reg := ⟨.srv, 0x140⟩
def SRV_ADP_LOAD_CNT.V : RField := ⟨SRV_ADP_LOAD_CNT, 0, 64, .ro, 0, .any⟩
def SRV_ADP_LOAD_CNT.info : RegInfo := ⟨SRV_ADP_LOAD_CNT, true, [ SRV_ADP_LOAD_CNT.V]⟩
/-- R327: Versions retired (R314). -/
def SRV_ADP_RETIRE_CNT : Reg := ⟨.srv, 0x148⟩
def SRV_ADP_RETIRE_CNT.V : RField := ⟨SRV_ADP_RETIRE_CNT, 0, 64, .ro, 0, .any⟩
def SRV_ADP_RETIRE_CNT.info : RegInfo := ⟨SRV_ADP_RETIRE_CNT, true, [ SRV_ADP_RETIRE_CNT.V]⟩
/-- R327: Gradient rounds written (R324). -/
def SRV_TUNE_ROUND_CNT : Reg := ⟨.srv, 0x150⟩
def SRV_TUNE_ROUND_CNT.V : RField := ⟨SRV_TUNE_ROUND_CNT, 0, 64, .ro, 0, .any⟩
def SRV_TUNE_ROUND_CNT.info : RegInfo := ⟨SRV_TUNE_ROUND_CNT, true, [ SRV_TUNE_ROUND_CNT.V]⟩
/-- R327: Transpose clip replays (R322). -/
def SRV_TUNE_TCLIP_CNT : Reg := ⟨.srv, 0x158⟩
def SRV_TUNE_TCLIP_CNT.V : RField := ⟨SRV_TUNE_TCLIP_CNT, 0, 64, .ro, 0, .any⟩
def SRV_TUNE_TCLIP_CNT.info : RegInfo := ⟨SRV_TUNE_TCLIP_CNT, true, [ SRV_TUNE_TCLIP_CNT.V]⟩

/-- R263, R265: Index, parking, fresh attention, KV4 headroom, TOP_P, LONG_THRESHOLD. -/
def KV_CTL : Reg := ⟨.kv, 0x0⟩
def KV_CTL.INDEX_EN : RField := ⟨KV_CTL, 0, 1, .rw, 1, .any⟩
def KV_CTL.PARK_NARROW : RField := ⟨KV_CTL, 1, 1, .rw, 0, .any⟩
def KV_CTL.FRESH_ATTN_EN : RField := ⟨KV_CTL, 2, 1, .rw, 1, .any⟩
def KV_CTL.KV4_HEAD : RField := ⟨KV_CTL, 4, 2, .rw, 1, .any⟩
def KV_CTL.TOP_P : RField := ⟨KV_CTL, 8, 9, .rw, 256, .range 1 256⟩
def KV_CTL.LONG_THRESHOLD : RField := ⟨KV_CTL, 32, 32, .rw, 65536, .multOf 64 2048⟩
def KV_CTL.info : RegInfo := ⟨KV_CTL, true, [ KV_CTL.INDEX_EN, KV_CTL.PARK_NARROW, KV_CTL.FRESH_ATTN_EN, KV_CTL.KV4_HEAD, KV_CTL.TOP_P, KV_CTL.LONG_THRESHOLD]⟩
/-- R263, R265: Error flags. -/
def KV_ERR : Reg := ⟨.kv, 0x8⟩
def KV_ERR.STRICT : RField := ⟨KV_ERR, 0, 1, .w1c, 0, .any⟩
def KV_ERR.PAGES : RField := ⟨KV_ERR, 1, 1, .w1c, 0, .any⟩
def KV_ERR.PARK_FAIL : RField := ⟨KV_ERR, 2, 1, .w1c, 0, .any⟩
def KV_ERR.REF_SAT : RField := ⟨KV_ERR, 3, 1, .w1c, 0, .any⟩
def KV_ERR.PIN_SAT : RField := ⟨KV_ERR, 4, 1, .w1c, 0, .any⟩
def KV_ERR.SEQ : RField := ⟨KV_ERR, 16, 12, .ro, 0, .any⟩
def KV_ERR.SLOT : RField := ⟨KV_ERR, 28, 4, .ro, 0, .any⟩
def KV_ERR.info : RegInfo := ⟨KV_ERR, false, [ KV_ERR.STRICT, KV_ERR.PAGES, KV_ERR.PARK_FAIL, KV_ERR.REF_SAT, KV_ERR.PIN_SAT, KV_ERR.SEQ, KV_ERR.SLOT]⟩
/-- R263, R265: Slot for KV_SLOT_CFG and KV_POOL_STAT. -/
def KV_SLOT_SEL : Reg := ⟨.kv, 0x10⟩
def KV_SLOT_SEL.SLOT : RField := ⟨KV_SLOT_SEL, 0, 4, .rw, 0, .any⟩
def KV_SLOT_SEL.info : RegInfo := ⟨KV_SLOT_SEL, false, [ KV_SLOT_SEL.SLOT]⟩
/-- R263, R265: Formats and shape of the selected slot. -/
def KV_SLOT_CFG : Reg := ⟨.kv, 0x18⟩
def KV_SLOT_CFG.QFMT : RField := ⟨KV_SLOT_CFG, 0, 3, .rw, 1, .range 0 2⟩
def KV_SLOT_CFG.KVFMT : RField := ⟨KV_SLOT_CFG, 4, 3, .rw, 5, .any⟩
def KV_SLOT_CFG.FRESH_ATTN : RField := ⟨KV_SLOT_CFG, 8, 1, .rw, 0, .any⟩
def KV_SLOT_CFG.INDEX : RField := ⟨KV_SLOT_CFG, 9, 1, .rw, 1, .any⟩
def KV_SLOT_CFG.KVH_M1 : RField := ⟨KV_SLOT_CFG, 16, 4, .rw, 7, .any⟩
def KV_SLOT_CFG.LAYERS : RField := ⟨KV_SLOT_CFG, 24, 8, .rw, 0, .any⟩
def KV_SLOT_CFG.info : RegInfo := ⟨KV_SLOT_CFG, false, [ KV_SLOT_CFG.QFMT, KV_SLOT_CFG.KVFMT, KV_SLOT_CFG.FRESH_ATTN, KV_SLOT_CFG.INDEX, KV_SLOT_CFG.KVH_M1, KV_SLOT_CFG.LAYERS]⟩
/-- R263, R265: Pool state of the selected slot. -/
def KV_POOL_STAT : Reg := ⟨.kv, 0x20⟩
def KV_POOL_STAT.FREE : RField := ⟨KV_POOL_STAT, 0, 32, .ro, 0, .any⟩
def KV_POOL_STAT.SHARED : RField := ⟨KV_POOL_STAT, 32, 32, .ro, 0, .any⟩
def KV_POOL_STAT.info : RegInfo := ⟨KV_POOL_STAT, true, [ KV_POOL_STAT.FREE, KV_POOL_STAT.SHARED]⟩
/-- R263, R265: Narrow page reads (R245). -/
def KV_NARROW_READ_CNT : Reg := ⟨.kv, 0x28⟩
def KV_NARROW_READ_CNT.V : RField := ⟨KV_NARROW_READ_CNT, 0, 64, .ro, 0, .any⟩
def KV_NARROW_READ_CNT.info : RegInfo := ⟨KV_NARROW_READ_CNT, true, [ KV_NARROW_READ_CNT.V]⟩
/-- R263, R265: Copies on write (R240). -/
def KV_COW_CNT : Reg := ⟨.kv, 0x30⟩
def KV_COW_CNT.V : RField := ⟨KV_COW_CNT, 0, 64, .ro, 0, .any⟩
def KV_COW_CNT.info : RegInfo := ⟨KV_COW_CNT, true, [ KV_COW_CNT.V]⟩
/-- R263, R265: Pages released (R241). -/
def KV_RELEASE_CNT : Reg := ⟨.kv, 0x38⟩
def KV_RELEASE_CNT.V : RField := ⟨KV_RELEASE_CNT, 0, 64, .ro, 0, .any⟩
def KV_RELEASE_CNT.info : RegInfo := ⟨KV_RELEASE_CNT, true, [ KV_RELEASE_CNT.V]⟩
/-- R263, R265: Sequences parked (R251). -/
def KV_PARK_CNT : Reg := ⟨.kv, 0x40⟩
def KV_PARK_CNT.V : RField := ⟨KV_PARK_CNT, 0, 64, .ro, 0, .any⟩
def KV_PARK_CNT.info : RegInfo := ⟨KV_PARK_CNT, true, [ KV_PARK_CNT.V]⟩
/-- R263, R265: Sequences resumed (R253). -/
def KV_RESUME_CNT : Reg := ⟨.kv, 0x48⟩
def KV_RESUME_CNT.V : RField := ⟨KV_RESUME_CNT, 0, 64, .ro, 0, .any⟩
def KV_RESUME_CNT.info : RegInfo := ⟨KV_RESUME_CNT, true, [ KV_RESUME_CNT.V]⟩
/-- R263, R265: Index selections (R247). -/
def KV_INDEX_SEL_CNT : Reg := ⟨.kv, 0x50⟩
def KV_INDEX_SEL_CNT.V : RField := ⟨KV_INDEX_SEL_CNT, 0, 64, .ro, 0, .any⟩
def KV_INDEX_SEL_CNT.info : RegInfo := ⟨KV_INDEX_SEL_CNT, true, [ KV_INDEX_SEL_CNT.V]⟩
/-- R263, R265: Saturated KV4 elements (R237). -/
def KV_KV4_SAT_CNT : Reg := ⟨.kv, 0x58⟩
def KV_KV4_SAT_CNT.V : RField := ⟨KV_KV4_SAT_CNT, 0, 64, .ro, 0, .any⟩
def KV_KV4_SAT_CNT.info : RegInfo := ⟨KV_KV4_SAT_CNT, true, [ KV_KV4_SAT_CNT.V]⟩
/-- R263, R265: Pages from another quarter's share (R229). -/
def KV_REMOTE_ALLOC_CNT : Reg := ⟨.kv, 0x60⟩
def KV_REMOTE_ALLOC_CNT.V : RField := ⟨KV_REMOTE_ALLOC_CNT, 0, 64, .ro, 0, .any⟩
def KV_REMOTE_ALLOC_CNT.info : RegInfo := ⟨KV_REMOTE_ALLOC_CNT, true, [ KV_REMOTE_ALLOC_CNT.V]⟩

/-- R226: Fresh bandwidth share, scrub enable. -/
def PRT_CTL : Reg := ⟨.prt, 0x0⟩
def PRT_CTL.FRESH_PCT : RField := ⟨PRT_CTL, 0, 8, .rw, 75, .range 10 100⟩
def PRT_CTL.SCRUB_EN : RField := ⟨PRT_CTL, 8, 1, .rw, 1, .any⟩
def PRT_CTL.info : RegInfo := ⟨PRT_CTL, false, [ PRT_CTL.FRESH_PCT, PRT_CTL.SCRUB_EN]⟩
/-- R226: Load progress. -/
def PRT_STAT : Reg := ⟨.prt, 0x8⟩
def PRT_STAT.LOAD : RField := ⟨PRT_STAT, 0, 3, .ro, 0, .any⟩
def PRT_STAT.SLOT : RField := ⟨PRT_STAT, 8, 4, .ro, 0, .any⟩
def PRT_STAT.LEFT : RField := ⟨PRT_STAT, 32, 32, .ro, 0, .any⟩
def PRT_STAT.info : RegInfo := ⟨PRT_STAT, true, [ PRT_STAT.LOAD, PRT_STAT.SLOT, PRT_STAT.LEFT]⟩
/-- R226: Error flags. -/
def PRT_ERR : Reg := ⟨.prt, 0x10⟩
def PRT_ERR.SIG : RField := ⟨PRT_ERR, 0, 1, .w1c, 0, .any⟩
def PRT_ERR.FORMAT : RField := ⟨PRT_ERR, 1, 1, .w1c, 0, .any⟩
def PRT_ERR.FIT : RField := ⟨PRT_ERR, 2, 1, .w1c, 0, .any⟩
def PRT_ERR.DIGEST : RField := ⟨PRT_ERR, 3, 1, .w1c, 0, .any⟩
def PRT_ERR.GEN : RField := ⟨PRT_ERR, 4, 1, .w1c, 0, .any⟩
def PRT_ERR.BUSY : RField := ⟨PRT_ERR, 5, 1, .w1c, 0, .any⟩
def PRT_ERR.SHARD : RField := ⟨PRT_ERR, 32, 24, .ro, 0, .any⟩
def PRT_ERR.ESLOT : RField := ⟨PRT_ERR, 56, 4, .ro, 0, .any⟩
def PRT_ERR.info : RegInfo := ⟨PRT_ERR, true, [ PRT_ERR.SIG, PRT_ERR.FORMAT, PRT_ERR.FIT, PRT_ERR.DIGEST, PRT_ERR.GEN, PRT_ERR.BUSY, PRT_ERR.SHARD, PRT_ERR.ESLOT]⟩
/-- R226: Host address of the manifest, 4,096-byte aligned. -/
def PRT_MAN_ADDR : Reg := ⟨.prt, 0x18⟩
def PRT_MAN_ADDR.V : RField := ⟨PRT_MAN_ADDR, 0, 64, .rw, 0, .any⟩
def PRT_MAN_ADDR.info : RegInfo := ⟨PRT_MAN_ADDR, true, [ PRT_MAN_ADDR.V]⟩
/-- R226: Host address of the source table, 8-byte aligned. -/
def PRT_SRC_ADDR : Reg := ⟨.prt, 0x20⟩
def PRT_SRC_ADDR.V : RField := ⟨PRT_SRC_ADDR, 0, 64, .rw, 0, .any⟩
def PRT_SRC_ADDR.info : RegInfo := ⟨PRT_SRC_ADDR, true, [ PRT_SRC_ADDR.V]⟩
/-- R226: Load, unload, refetch, release. -/
def PRT_CMD : Reg := ⟨.prt, 0x28⟩
def PRT_CMD.OP : RField := ⟨PRT_CMD, 0, 3, .wo, 0, .any⟩
def PRT_CMD.SLOT : RField := ⟨PRT_CMD, 4, 4, .wo, 0, .any⟩
def PRT_CMD.SHARD : RField := ⟨PRT_CMD, 8, 24, .wo, 0, .any⟩
def PRT_CMD.info : RegInfo := ⟨PRT_CMD, false, [ PRT_CMD.OP, PRT_CMD.SLOT, PRT_CMD.SHARD]⟩
/-- R226: Slot selected for PRT_MODEL_STAT. -/
def PRT_MODEL_SEL : Reg := ⟨.prt, 0x30⟩
def PRT_MODEL_SEL.SLOT : RField := ⟨PRT_MODEL_SEL, 0, 4, .rw, 0, .any⟩
def PRT_MODEL_SEL.info : RegInfo := ⟨PRT_MODEL_SEL, false, [ PRT_MODEL_SEL.SLOT]⟩
/-- R226: State of the selected slot. -/
def PRT_MODEL_STAT : Reg := ⟨.prt, 0x38⟩
def PRT_MODEL_STAT.STATE : RField := ⟨PRT_MODEL_STAT, 0, 3, .ro, 0, .any⟩
def PRT_MODEL_STAT.PREV : RField := ⟨PRT_MODEL_STAT, 3, 1, .ro, 0, .any⟩
def PRT_MODEL_STAT.FENCED : RField := ⟨PRT_MODEL_STAT, 4, 12, .ro, 0, .any⟩
def PRT_MODEL_STAT.OLD_BOUND : RField := ⟨PRT_MODEL_STAT, 16, 16, .ro, 0, .any⟩
def PRT_MODEL_STAT.KV_PAGES : RField := ⟨PRT_MODEL_STAT, 32, 32, .ro, 0, .any⟩
def PRT_MODEL_STAT.info : RegInfo := ⟨PRT_MODEL_STAT, true, [ PRT_MODEL_STAT.STATE, PRT_MODEL_STAT.PREV, PRT_MODEL_STAT.FENCED, PRT_MODEL_STAT.OLD_BOUND, PRT_MODEL_STAT.KV_PAGES]⟩
/-- R226: Tier-1 shortfall of the last refused load, bytes (R211). -/
def PRT_SHORT1 : Reg := ⟨.prt, 0x40⟩
def PRT_SHORT1.V : RField := ⟨PRT_SHORT1, 0, 64, .ro, 0, .any⟩
def PRT_SHORT1.info : RegInfo := ⟨PRT_SHORT1, true, [ PRT_SHORT1.V]⟩
/-- R226: Tier-2 shortfall of the last refused load, bytes. -/
def PRT_SHORT2 : Reg := ⟨.prt, 0x48⟩
def PRT_SHORT2.V : RField := ⟨PRT_SHORT2, 0, 64, .ro, 0, .any⟩
def PRT_SHORT2.info : RegInfo := ⟨PRT_SHORT2, true, [ PRT_SHORT2.V]⟩
/-- R226: Scrub period and cap. -/
def PRT_SCRUB_CTL : Reg := ⟨.prt, 0x50⟩
def PRT_SCRUB_CTL.PERIOD : RField := ⟨PRT_SCRUB_CTL, 0, 16, .rw, 60, .nonzero⟩
def PRT_SCRUB_CTL.CAP : RField := ⟨PRT_SCRUB_CTL, 16, 8, .rw, 16, .range 1 128⟩
def PRT_SCRUB_CTL.info : RegInfo := ⟨PRT_SCRUB_CTL, false, [ PRT_SCRUB_CTL.PERIOD, PRT_SCRUB_CTL.CAP]⟩
/-- R226: Refetches (R215). -/
def PRT_REFETCH_CNT : Reg := ⟨.prt, 0x58⟩
def PRT_REFETCH_CNT.V : RField := ⟨PRT_REFETCH_CNT, 0, 64, .ro, 0, .any⟩
def PRT_REFETCH_CNT.info : RegInfo := ⟨PRT_REFETCH_CNT, true, [ PRT_REFETCH_CNT.V]⟩
/-- R226: Experts fenced (R216). -/
def PRT_FENCE_CNT : Reg := ⟨.prt, 0x60⟩
def PRT_FENCE_CNT.V : RField := ⟨PRT_FENCE_CNT, 0, 64, .ro, 0, .any⟩
def PRT_FENCE_CNT.info : RegInfo := ⟨PRT_FENCE_CNT, true, [ PRT_FENCE_CNT.V]⟩
/-- R226: Plane loads completed (R218). -/
def PRT_PLANE_LOAD_CNT : Reg := ⟨.prt, 0x68⟩
def PRT_PLANE_LOAD_CNT.V : RField := ⟨PRT_PLANE_LOAD_CNT, 0, 64, .ro, 0, .any⟩
def PRT_PLANE_LOAD_CNT.info : RegInfo := ⟨PRT_PLANE_LOAD_CNT, true, [ PRT_PLANE_LOAD_CNT.V]⟩
/-- R226: Strike edges lost waiting for a plane (R220). -/
def PRT_FRESH_WAIT_CNT : Reg := ⟨.prt, 0x70⟩
def PRT_FRESH_WAIT_CNT.V : RField := ⟨PRT_FRESH_WAIT_CNT, 0, 64, .ro, 0, .any⟩
def PRT_FRESH_WAIT_CNT.info : RegInfo := ⟨PRT_FRESH_WAIT_CNT, true, [ PRT_FRESH_WAIT_CNT.V]⟩
/-- R226: Bytes checked by scrub (R213). -/
def PRT_SCRUB_BYTES : Reg := ⟨.prt, 0x78⟩
def PRT_SCRUB_BYTES.V : RField := ⟨PRT_SCRUB_BYTES, 0, 64, .ro, 0, .any⟩
def PRT_SCRUB_BYTES.info : RegInfo := ⟨PRT_SCRUB_BYTES, true, [ PRT_SCRUB_BYTES.V]⟩

/-- R195: Concurrency, scrub enable. -/
def STK_CTL : Reg := ⟨.stk, 0x0⟩
def STK_CTL.CONC : RField := ⟨STK_CTL, 0, 6, .rw, 48, .range 1 48⟩
def STK_CTL.SCRUB_EN : RField := ⟨STK_CTL, 6, 1, .rw, 1, .any⟩
def STK_CTL.info : RegInfo := ⟨STK_CTL, false, [ STK_CTL.CONC, STK_CTL.SCRUB_EN]⟩
/-- R195: Job state and progress. -/
def STK_STAT : Reg := ⟨.stk, 0x8⟩
def STK_STAT.JOB : RField := ⟨STK_STAT, 0, 3, .ro, 0, .any⟩
def STK_STAT.ACTIVE : RField := ⟨STK_STAT, 3, 6, .ro, 0, .any⟩
def STK_STAT.SETTLE_LEFT : RField := ⟨STK_STAT, 16, 16, .ro, 0, .any⟩
def STK_STAT.LEFT : RField := ⟨STK_STAT, 32, 32, .ro, 0, .any⟩
def STK_STAT.info : RegInfo := ⟨STK_STAT, true, [ STK_STAT.JOB, STK_STAT.ACTIVE, STK_STAT.SETTLE_LEFT, STK_STAT.LEFT]⟩
/-- R195: Error flags. -/
def STK_ERR : Reg := ⟨.stk, 0x10⟩
def STK_ERR.SIG : RField := ⟨STK_ERR, 0, 1, .w1c, 0, .any⟩
def STK_ERR.DIGEST : RField := ⟨STK_ERR, 1, 1, .w1c, 0, .any⟩
def STK_ERR.FAIL : RField := ⟨STK_ERR, 2, 1, .w1c, 0, .any⟩
def STK_ERR.RAIL : RField := ⟨STK_ERR, 3, 1, .w1c, 0, .any⟩
def STK_ERR.WEAR : RField := ⟨STK_ERR, 4, 1, .w1c, 0, .any⟩
def STK_ERR.WORN : RField := ⟨STK_ERR, 5, 1, .w1c, 0, .any⟩
def STK_ERR.MISMATCH : RField := ⟨STK_ERR, 6, 1, .w1c, 0, .any⟩
def STK_ERR.TOUCHUP_DUE : RField := ⟨STK_ERR, 7, 1, .w1c, 0, .any⟩
def STK_ERR.MIXED_FMT : RField := ⟨STK_ERR, 8, 1, .w1c, 0, .any⟩
def STK_ERR.PAIR : RField := ⟨STK_ERR, 9, 1, .w1c, 0, .any⟩
def STK_ERR.TEMP : RField := ⟨STK_ERR, 10, 1, .w1c, 0, .any⟩
def STK_ERR.BUSY : RField := ⟨STK_ERR, 11, 1, .w1c, 0, .any⟩
def STK_ERR.INDEX : RField := ⟨STK_ERR, 32, 18, .ro, 0, .any⟩
def STK_ERR.info : RegInfo := ⟨STK_ERR, true, [ STK_ERR.SIG, STK_ERR.DIGEST, STK_ERR.FAIL, STK_ERR.RAIL, STK_ERR.WEAR, STK_ERR.WORN, STK_ERR.MISMATCH, STK_ERR.TOUCHUP_DUE, STK_ERR.MIXED_FMT, STK_ERR.PAIR, STK_ERR.TEMP, STK_ERR.BUSY, STK_ERR.INDEX]⟩
/-- R195: Device address of the image, 4,096-byte aligned. -/
def STK_IMG_ADDR : Reg := ⟨.stk, 0x18⟩
def STK_IMG_ADDR.V : RField := ⟨STK_IMG_ADDR, 0, 64, .rw, 0, .any⟩
def STK_IMG_ADDR.info : RegInfo := ⟨STK_IMG_ADDR, true, [ STK_IMG_ADDR.V]⟩
/-- R195: Job, touch-up, abort. -/
def STK_CMD : Reg := ⟨.stk, 0x20⟩
def STK_CMD.OP : RField := ⟨STK_CMD, 0, 3, .wo, 0, .any⟩
def STK_CMD.INDEX : RField := ⟨STK_CMD, 3, 18, .wo, 0, .any⟩
def STK_CMD.info : RegInfo := ⟨STK_CMD, false, [ STK_CMD.OP, STK_CMD.INDEX]⟩
/-- R195: Journal entry selected. -/
def STK_JRN_SEL : Reg := ⟨.stk, 0x28⟩
def STK_JRN_SEL.INDEX : RField := ⟨STK_JRN_SEL, 0, 18, .rw, 0, .range 0 202751⟩
def STK_JRN_SEL.info : RegInfo := ⟨STK_JRN_SEL, false, [ STK_JRN_SEL.INDEX]⟩
/-- R195: Selected journal entry. -/
def STK_JRN_DATA : Reg := ⟨.stk, 0x30⟩
def STK_JRN_DATA.STATE : RField := ⟨STK_JRN_DATA, 0, 3, .ro, 0, .any⟩
def STK_JRN_DATA.COUNT : RField := ⟨STK_JRN_DATA, 3, 14, .ro, 0, .any⟩
def STK_JRN_DATA.IMAGE : RField := ⟨STK_JRN_DATA, 17, 8, .ro, 0, .any⟩
def STK_JRN_DATA.FMT : RField := ⟨STK_JRN_DATA, 25, 2, .ro, 0, .any⟩
def STK_JRN_DATA.PAIRED : RField := ⟨STK_JRN_DATA, 27, 1, .ro, 0, .any⟩
def STK_JRN_DATA.info : RegInfo := ⟨STK_JRN_DATA, false, [ STK_JRN_DATA.STATE, STK_JRN_DATA.COUNT, STK_JRN_DATA.IMAGE, STK_JRN_DATA.FMT, STK_JRN_DATA.PAIRED]⟩
/-- R195: Scrub period and marginal limit. -/
def STK_SCRUB_CTL : Reg := ⟨.stk, 0x38⟩
def STK_SCRUB_CTL.PERIOD : RField := ⟨STK_SCRUB_CTL, 0, 16, .rw, 1440, .nonzero⟩
def STK_SCRUB_CTL.MARG_MAX : RField := ⟨STK_SCRUB_CTL, 16, 12, .rw, 256, .any⟩
def STK_SCRUB_CTL.info : RegInfo := ⟨STK_SCRUB_CTL, false, [ STK_SCRUB_CTL.PERIOD, STK_SCRUB_CTL.MARG_MAX]⟩
/-- R195: Scrub position and last result. -/
def STK_SCRUB_STAT : Reg := ⟨.stk, 0x40⟩
def STK_SCRUB_STAT.NEXT : RField := ⟨STK_SCRUB_STAT, 0, 18, .ro, 0, .any⟩
def STK_SCRUB_STAT.MATCH : RField := ⟨STK_SCRUB_STAT, 18, 1, .ro, 0, .any⟩
def STK_SCRUB_STAT.MARGINAL : RField := ⟨STK_SCRUB_STAT, 32, 32, .ro, 0, .any⟩
def STK_SCRUB_STAT.info : RegInfo := ⟨STK_SCRUB_STAT, true, [ STK_SCRUB_STAT.NEXT, STK_SCRUB_STAT.MATCH, STK_SCRUB_STAT.MARGINAL]⟩
/-- R195: Crates programmed (R175). -/
def STK_PROG_CNT : Reg := ⟨.stk, 0x48⟩
def STK_PROG_CNT.V : RField := ⟨STK_PROG_CNT, 0, 64, .ro, 0, .any⟩
def STK_PROG_CNT.info : RegInfo := ⟨STK_PROG_CNT, true, [ STK_PROG_CNT.V]⟩
/-- R195: Touch-up passes (R185). -/
def STK_TOUCH_CNT : Reg := ⟨.stk, 0x50⟩
def STK_TOUCH_CNT.V : RField := ⟨STK_TOUCH_CNT, 0, 64, .ro, 0, .any⟩
def STK_TOUCH_CNT.info : RegInfo := ⟨STK_TOUCH_CNT, true, [ STK_TOUCH_CNT.V]⟩
/-- R195: Crates failed. -/
def STK_FAIL_CNT : Reg := ⟨.stk, 0x58⟩
def STK_FAIL_CNT.V : RField := ⟨STK_FAIL_CNT, 0, 64, .ro, 0, .any⟩
def STK_FAIL_CNT.info : RegInfo := ⟨STK_FAIL_CNT, true, [ STK_FAIL_CNT.V]⟩
/-- R195: Crates scrubbed. -/
def STK_SCRUB_CNT : Reg := ⟨.stk, 0x60⟩
def STK_SCRUB_CNT.V : RField := ⟨STK_SCRUB_CNT, 0, 64, .ro, 0, .any⟩
def STK_SCRUB_CNT.info : RegInfo := ⟨STK_SCRUB_CNT, true, [ STK_SCRUB_CNT.V]⟩
/-- R195: Scrub mismatches (R192). -/
def STK_MISMATCH_CNT : Reg := ⟨.stk, 0x68⟩
def STK_MISMATCH_CNT.V : RField := ⟨STK_MISMATCH_CNT, 0, 64, .ro, 0, .any⟩
def STK_MISMATCH_CNT.info : RegInfo := ⟨STK_MISMATCH_CNT, true, [ STK_MISMATCH_CNT.V]⟩
/-- R195: Level data refetches (R174). -/
def STK_REFETCH_CNT : Reg := ⟨.stk, 0x70⟩
def STK_REFETCH_CNT.V : RField := ⟨STK_REFETCH_CNT, 0, 64, .ro, 0, .any⟩
def STK_REFETCH_CNT.info : RegInfo := ⟨STK_REFETCH_CNT, true, [ STK_REFETCH_CNT.V]⟩

/-- R384: Threshold, probe period, deadline, enables. -/
def CHK_CTL : Reg := ⟨.chk, 0x0⟩
def CHK_CTL.THRESH : RField := ⟨CHK_CTL, 0, 8, .rw, 128, .range 96 192⟩
def CHK_CTL.PROBE : RField := ⟨CHK_CTL, 8, 4, .rw, 8, .range 6 10⟩
def CHK_CTL.DEADLINE : RField := ⟨CHK_CTL, 16, 12, .rw, 200, .range 50 2000⟩
def CHK_CTL.PAIR_EN : RField := ⟨CHK_CTL, 28, 1, .rw, 1, .any⟩
def CHK_CTL.CANARY_EN : RField := ⟨CHK_CTL, 29, 1, .rw, 1, .any⟩
def CHK_CTL.info : RegInfo := ⟨CHK_CTL, false, [ CHK_CTL.THRESH, CHK_CTL.PROBE, CHK_CTL.DEADLINE, CHK_CTL.PAIR_EN, CHK_CTL.CANARY_EN]⟩
/-- R384: Inspector queue and open disputes. -/
def CHK_STAT : Reg := ⟨.chk, 0x8⟩
def CHK_STAT.QUEUE : RField := ⟨CHK_STAT, 0, 12, .ro, 0, .any⟩
def CHK_STAT.BUSY : RField := ⟨CHK_STAT, 12, 2, .ro, 0, .any⟩
def CHK_STAT.OPEN : RField := ⟨CHK_STAT, 16, 16, .ro, 0, .any⟩
def CHK_STAT.info : RegInfo := ⟨CHK_STAT, false, [ CHK_STAT.QUEUE, CHK_STAT.BUSY, CHK_STAT.OPEN]⟩
/-- R384: Error flags. -/
def CHK_ERR : Reg := ⟨.chk, 0x10⟩
def CHK_ERR.CHECK_FAIL : RField := ⟨CHK_ERR, 0, 1, .w1c, 0, .any⟩
def CHK_ERR.PROBE_FAIL : RField := ⟨CHK_ERR, 1, 1, .w1c, 0, .any⟩
def CHK_ERR.PAIR_MISMATCH : RField := ⟨CHK_ERR, 2, 1, .w1c, 0, .any⟩
def CHK_ERR.RESULT_WRONG : RField := ⟨CHK_ERR, 3, 1, .w1c, 0, .any⟩
def CHK_ERR.CHECKER_WRONG : RField := ⟨CHK_ERR, 4, 1, .w1c, 0, .any⟩
def CHK_ERR.DEADLINE : RField := ⟨CHK_ERR, 5, 1, .w1c, 0, .any⟩
def CHK_ERR.CANARY : RField := ⟨CHK_ERR, 6, 1, .w1c, 0, .any⟩
def CHK_ERR.CSUM_UNCORR : RField := ⟨CHK_ERR, 7, 1, .w1c, 0, .any⟩
def CHK_ERR.RESIDUE : RField := ⟨CHK_ERR, 8, 1, .w1c, 0, .any⟩
def CHK_ERR.LANE_RETIRED : RField := ⟨CHK_ERR, 9, 1, .w1c, 0, .any⟩
def CHK_ERR.CPER_LOST : RField := ⟨CHK_ERR, 10, 1, .w1c, 0, .any⟩
def CHK_ERR.QUARTER : RField := ⟨CHK_ERR, 32, 2, .ro, 0, .any⟩
def CHK_ERR.ROW : RField := ⟨CHK_ERR, 34, 6, .ro, 0, .any⟩
def CHK_ERR.STALL : RField := ⟨CHK_ERR, 40, 6, .ro, 0, .any⟩
def CHK_ERR.info : RegInfo := ⟨CHK_ERR, true, [ CHK_ERR.CHECK_FAIL, CHK_ERR.PROBE_FAIL, CHK_ERR.PAIR_MISMATCH, CHK_ERR.RESULT_WRONG, CHK_ERR.CHECKER_WRONG, CHK_ERR.DEADLINE, CHK_ERR.CANARY, CHK_ERR.CSUM_UNCORR, CHK_ERR.RESIDUE, CHK_ERR.LANE_RETIRED, CHK_ERR.CPER_LOST, CHK_ERR.QUARTER, CHK_ERR.ROW, CHK_ERR.STALL]⟩
/-- R384: Stall selected. -/
def CHK_STALL_SEL : Reg := ⟨.chk, 0x18⟩
def CHK_STALL_SEL.QUARTER : RField := ⟨CHK_STALL_SEL, 0, 2, .rw, 0, .any⟩
def CHK_STALL_SEL.ROW : RField := ⟨CHK_STALL_SEL, 2, 6, .rw, 0, .range 0 47⟩
def CHK_STALL_SEL.STALL : RField := ⟨CHK_STALL_SEL, 8, 6, .rw, 0, .range 0 32⟩
def CHK_STALL_SEL.info : RegInfo := ⟨CHK_STALL_SEL, false, [ CHK_STALL_SEL.QUARTER, CHK_STALL_SEL.ROW, CHK_STALL_SEL.STALL]⟩
/-- R384: Check state of the selected stall. -/
def CHK_STALL_STAT : Reg := ⟨.chk, 0x20⟩
def CHK_STALL_STAT.LANE : RField := ⟨CHK_STALL_STAT, 0, 2, .ro, 0, .any⟩
def CHK_STALL_STAT.WITHDRAWN : RField := ⟨CHK_STALL_STAT, 2, 4, .ro, 0, .any⟩
def CHK_STALL_STAT.OPEN : RField := ⟨CHK_STALL_STAT, 8, 8, .ro, 0, .any⟩
def CHK_STALL_STAT.RECENT : RField := ⟨CHK_STALL_STAT, 16, 2, .ro, 0, .any⟩
def CHK_STALL_STAT.info : RegInfo := ⟨CHK_STALL_STAT, false, [ CHK_STALL_STAT.LANE, CHK_STALL_STAT.WITHDRAWN, CHK_STALL_STAT.OPEN, CHK_STALL_STAT.RECENT]⟩
/-- R384: Host address of the CPER ring, 4,096-byte aligned. -/
def CHK_CPER_ADDR : Reg := ⟨.chk, 0x28⟩
def CHK_CPER_ADDR.V : RField := ⟨CHK_CPER_ADDR, 0, 64, .rw, 0, .any⟩
def CHK_CPER_ADDR.info : RegInfo := ⟨CHK_CPER_ADDR, true, [ CHK_CPER_ADDR.V]⟩
/-- R384: Ring enable and length. -/
def CHK_CPER_CTL : Reg := ⟨.chk, 0x30⟩
def CHK_CPER_CTL.EN : RField := ⟨CHK_CPER_CTL, 0, 1, .rw, 0, .any⟩
def CHK_CPER_CTL.LEN : RField := ⟨CHK_CPER_CTL, 16, 5, .rw, 8, .range 4 16⟩
def CHK_CPER_CTL.info : RegInfo := ⟨CHK_CPER_CTL, false, [ CHK_CPER_CTL.EN, CHK_CPER_CTL.LEN]⟩
/-- R384: Records written (R380). -/
def CHK_CPER_WIDX : Reg := ⟨.chk, 0x38⟩
def CHK_CPER_WIDX.V : RField := ⟨CHK_CPER_WIDX, 0, 64, .ro, 0, .any⟩
def CHK_CPER_WIDX.info : RegInfo := ⟨CHK_CPER_WIDX, true, [ CHK_CPER_WIDX.V]⟩
/-- R384: Records consumed, written by host software. -/
def CHK_CPER_RIDX : Reg := ⟨.chk, 0x40⟩
def CHK_CPER_RIDX.V : RField := ⟨CHK_CPER_RIDX, 0, 64, .rw, 0, .any⟩
def CHK_CPER_RIDX.info : RegInfo := ⟨CHK_CPER_RIDX, true, [ CHK_CPER_RIDX.V]⟩
/-- R384: Strikes checked. -/
def CHK_STRIKE_CNT : Reg := ⟨.chk, 0x48⟩
def CHK_STRIKE_CNT.V : RField := ⟨CHK_STRIKE_CNT, 0, 64, .ro, 0, .any⟩
def CHK_STRIKE_CNT.info : RegInfo := ⟨CHK_STRIKE_CNT, true, [ CHK_STRIKE_CNT.V]⟩
/-- R384: Failed checks (R368). -/
def CHK_FAIL_CNT : Reg := ⟨.chk, 0x50⟩
def CHK_FAIL_CNT.V : RField := ⟨CHK_FAIL_CNT, 0, 64, .ro, 0, .any⟩
def CHK_FAIL_CNT.info : RegInfo := ⟨CHK_FAIL_CNT, true, [ CHK_FAIL_CNT.V]⟩
/-- R384: Probe strikes (R370). -/
def CHK_PROBE_CNT : Reg := ⟨.chk, 0x58⟩
def CHK_PROBE_CNT.V : RField := ⟨CHK_PROBE_CNT, 0, 64, .ro, 0, .any⟩
def CHK_PROBE_CNT.info : RegInfo := ⟨CHK_PROBE_CNT, true, [ CHK_PROBE_CNT.V]⟩
/-- R384: Failed probes (R371). -/
def CHK_PROBE_FAIL_CNT : Reg := ⟨.chk, 0x60⟩
def CHK_PROBE_FAIL_CNT.V : RField := ⟨CHK_PROBE_FAIL_CNT, 0, 64, .ro, 0, .any⟩
def CHK_PROBE_FAIL_CNT.info : RegInfo := ⟨CHK_PROBE_FAIL_CNT, true, [ CHK_PROBE_FAIL_CNT.V]⟩
/-- R384: Pair mismatches (R374). -/
def CHK_PAIR_MISMATCH_CNT : Reg := ⟨.chk, 0x68⟩
def CHK_PAIR_MISMATCH_CNT.V : RField := ⟨CHK_PAIR_MISMATCH_CNT, 0, 64, .ro, 0, .any⟩
def CHK_PAIR_MISMATCH_CNT.info : RegInfo := ⟨CHK_PAIR_MISMATCH_CNT, true, [ CHK_PAIR_MISMATCH_CNT.V]⟩
/-- R384: Inspector jobs completed (R375). -/
def CHK_INSPECT_CNT : Reg := ⟨.chk, 0x70⟩
def CHK_INSPECT_CNT.V : RField := ⟨CHK_INSPECT_CNT, 0, 64, .ro, 0, .any⟩
def CHK_INSPECT_CNT.info : RegInfo := ⟨CHK_INSPECT_CNT, true, [ CHK_INSPECT_CNT.V]⟩
/-- R384: Checker-wrong verdicts (R376). -/
def CHK_CHECKER_WRONG_CNT : Reg := ⟨.chk, 0x78⟩
def CHK_CHECKER_WRONG_CNT.V : RField := ⟨CHK_CHECKER_WRONG_CNT, 0, 64, .ro, 0, .any⟩
def CHK_CHECKER_WRONG_CNT.info : RegInfo := ⟨CHK_CHECKER_WRONG_CNT, true, [ CHK_CHECKER_WRONG_CNT.V]⟩
/-- R384: Result-wrong verdicts (R376). -/
def CHK_RESULT_WRONG_CNT : Reg := ⟨.chk, 0x80⟩
def CHK_RESULT_WRONG_CNT.V : RField := ⟨CHK_RESULT_WRONG_CNT, 0, 64, .ro, 0, .any⟩
def CHK_RESULT_WRONG_CNT.info : RegInfo := ⟨CHK_RESULT_WRONG_CNT, true, [ CHK_RESULT_WRONG_CNT.V]⟩
/-- R384: Deadlines passed (R376). -/
def CHK_DEADLINE_CNT : Reg := ⟨.chk, 0x88⟩
def CHK_DEADLINE_CNT.V : RField := ⟨CHK_DEADLINE_CNT, 0, 64, .ro, 0, .any⟩
def CHK_DEADLINE_CNT.info : RegInfo := ⟨CHK_DEADLINE_CNT, true, [ CHK_DEADLINE_CNT.V]⟩
/-- R384: Corrected checksum SRAM errors (R363). -/
def CHK_CSUM_CORR_CNT : Reg := ⟨.chk, 0x90⟩
def CHK_CSUM_CORR_CNT.V : RField := ⟨CHK_CSUM_CORR_CNT, 0, 64, .ro, 0, .any⟩
def CHK_CSUM_CORR_CNT.info : RegInfo := ⟨CHK_CSUM_CORR_CNT, true, [ CHK_CSUM_CORR_CNT.V]⟩
/-- R384: Positions retracted (R378). -/
def CHK_RETRACT_POS_CNT : Reg := ⟨.chk, 0x98⟩
def CHK_RETRACT_POS_CNT.V : RField := ⟨CHK_RETRACT_POS_CNT, 0, 64, .ro, 0, .any⟩
def CHK_RETRACT_POS_CNT.info : RegInfo := ⟨CHK_RETRACT_POS_CNT, true, [ CHK_RETRACT_POS_CNT.V]⟩
/-- R384: RETRACT carts sent (R378). -/
def CHK_RETRACT_SENT_CNT : Reg := ⟨.chk, 0xA0⟩
def CHK_RETRACT_SENT_CNT.V : RField := ⟨CHK_RETRACT_SENT_CNT, 0, 64, .ro, 0, .any⟩
def CHK_RETRACT_SENT_CNT.info : RegInfo := ⟨CHK_RETRACT_SENT_CNT, true, [ CHK_RETRACT_SENT_CNT.V]⟩
/-- R384: CPER records dropped (R380). -/
def CHK_CPER_DROP_CNT : Reg := ⟨.chk, 0xA8⟩
def CHK_CPER_DROP_CNT.V : RField := ⟨CHK_CPER_DROP_CNT, 0, 64, .ro, 0, .any⟩
def CHK_CPER_DROP_CNT.info : RegInfo := ⟨CHK_CPER_DROP_CNT, true, [ CHK_CPER_DROP_CNT.V]⟩

/-- R405: Scrub and self-refresh enables, idle time. -/
def MEM_CTL : Reg := ⟨.mem, 0x0⟩
def MEM_CTL.SCRUB_EN : RField := ⟨MEM_CTL, 0, 1, .rw, 1, .any⟩
def MEM_CTL.T2_SR_EN : RField := ⟨MEM_CTL, 1, 1, .rw, 1, .any⟩
def MEM_CTL.SR_IDLE : RField := ⟨MEM_CTL, 16, 16, .rw, 1000, .nonzero⟩
def MEM_CTL.info : RegInfo := ⟨MEM_CTL, false, [ MEM_CTL.SCRUB_EN, MEM_CTL.T2_SR_EN, MEM_CTL.SR_IDLE]⟩
/-- R405: Units up. -/
def MEM_STAT : Reg := ⟨.mem, 0x8⟩
def MEM_STAT.T1_UP : RField := ⟨MEM_STAT, 0, 20, .ro, 0, .any⟩
def MEM_STAT.T2_UP : RField := ⟨MEM_STAT, 20, 16, .ro, 0, .any⟩
def MEM_STAT.N : RField := ⟨MEM_STAT, 36, 5, .ro, 0, .any⟩
def MEM_STAT.info : RegInfo := ⟨MEM_STAT, true, [ MEM_STAT.T1_UP, MEM_STAT.T2_UP, MEM_STAT.N]⟩
/-- R405: Error flags. -/
def MEM_ERR : Reg := ⟨.mem, 0x10⟩
def MEM_ERR.UE : RField := ⟨MEM_ERR, 0, 1, .w1c, 0, .any⟩
def MEM_ERR.RETIRE_FULL : RField := ⟨MEM_ERR, 1, 1, .w1c, 0, .any⟩
def MEM_ERR.TRAIN : RField := ⟨MEM_ERR, 2, 1, .w1c, 0, .any⟩
def MEM_ERR.SCRUB_LATE : RField := ⟨MEM_ERR, 3, 1, .w1c, 0, .any⟩
def MEM_ERR.HOT : RField := ⟨MEM_ERR, 4, 1, .w1c, 0, .any⟩
def MEM_ERR.RANGE : RField := ⟨MEM_ERR, 5, 1, .w1c, 0, .any⟩
def MEM_ERR.UNIT : RField := ⟨MEM_ERR, 16, 6, .ro, 0, .any⟩
def MEM_ERR.info : RegInfo := ⟨MEM_ERR, false, [ MEM_ERR.UE, MEM_ERR.RETIRE_FULL, MEM_ERR.TRAIN, MEM_ERR.SCRUB_LATE, MEM_ERR.HOT, MEM_ERR.RANGE, MEM_ERR.UNIT]⟩
/-- R405: Unit selected. -/
def MEM_SEL : Reg := ⟨.mem, 0x18⟩
def MEM_SEL.UNIT : RField := ⟨MEM_SEL, 0, 6, .rw, 0, .range 0 35⟩
def MEM_SEL.info : RegInfo := ⟨MEM_SEL, false, [ MEM_SEL.UNIT]⟩
/-- R405: State of the selected unit. -/
def MEM_UNIT_STAT : Reg := ⟨.mem, 0x20⟩
def MEM_UNIT_STAT.STATE : RField := ⟨MEM_UNIT_STAT, 0, 3, .ro, 0, .any⟩
def MEM_UNIT_STAT.KIND : RField := ⟨MEM_UNIT_STAT, 3, 2, .ro, 0, .any⟩
def MEM_UNIT_STAT.TEMP : RField := ⟨MEM_UNIT_STAT, 16, 16, .ro, 0, .any⟩
def MEM_UNIT_STAT.RETIRED : RField := ⟨MEM_UNIT_STAT, 32, 16, .ro, 0, .any⟩
def MEM_UNIT_STAT.IDLE_GRAN : RField := ⟨MEM_UNIT_STAT, 48, 16, .ro, 0, .any⟩
def MEM_UNIT_STAT.info : RegInfo := ⟨MEM_UNIT_STAT, true, [ MEM_UNIT_STAT.STATE, MEM_UNIT_STAT.KIND, MEM_UNIT_STAT.TEMP, MEM_UNIT_STAT.RETIRED, MEM_UNIT_STAT.IDLE_GRAN]⟩
/-- R405: Patrol scrub period. -/
def MEM_SCRUB_CTL : Reg := ⟨.mem, 0x28⟩
def MEM_SCRUB_CTL.PERIOD : RField := ⟨MEM_SCRUB_CTL, 0, 16, .rw, 24, .nonzero⟩
def MEM_SCRUB_CTL.info : RegInfo := ⟨MEM_SCRUB_CTL, false, [ MEM_SCRUB_CTL.PERIOD]⟩
/-- R405: Corrected errors (R397). -/
def MEM_CE_CNT : Reg := ⟨.mem, 0x30⟩
def MEM_CE_CNT.V : RField := ⟨MEM_CE_CNT, 0, 64, .ro, 0, .any⟩
def MEM_CE_CNT.info : RegInfo := ⟨MEM_CE_CNT, true, [ MEM_CE_CNT.V]⟩
/-- R405: Uncorrectable errors (R397). -/
def MEM_UE_CNT : Reg := ⟨.mem, 0x38⟩
def MEM_UE_CNT.V : RField := ⟨MEM_UE_CNT, 0, 64, .ro, 0, .any⟩
def MEM_UE_CNT.info : RegInfo := ⟨MEM_UE_CNT, true, [ MEM_UE_CNT.V]⟩
/-- R405: Lines corrected by patrol scrub (R399). -/
def MEM_SCRUB_CE_CNT : Reg := ⟨.mem, 0x40⟩
def MEM_SCRUB_CE_CNT.V : RField := ⟨MEM_SCRUB_CE_CNT, 0, 64, .ro, 0, .any⟩
def MEM_SCRUB_CE_CNT.info : RegInfo := ⟨MEM_SCRUB_CE_CNT, true, [ MEM_SCRUB_CE_CNT.V]⟩
/-- R405: Granules retired (R398). -/
def MEM_RETIRE_CNT : Reg := ⟨.mem, 0x48⟩
def MEM_RETIRE_CNT.V : RField := ⟨MEM_RETIRE_CNT, 0, 64, .ro, 0, .any⟩
def MEM_RETIRE_CNT.info : RegInfo := ⟨MEM_RETIRE_CNT, true, [ MEM_RETIRE_CNT.V]⟩
/-- R405: Trainings and retrainings (R401). -/
def MEM_TRAIN_CNT : Reg := ⟨.mem, 0x50⟩
def MEM_TRAIN_CNT.V : RField := ⟨MEM_TRAIN_CNT, 0, 64, .ro, 0, .any⟩
def MEM_TRAIN_CNT.info : RegInfo := ⟨MEM_TRAIN_CNT, true, [ MEM_TRAIN_CNT.V]⟩

/-- R361: Enables and home wait. -/
def CW_CTL : Reg := ⟨.cw, 0x0⟩
def CW_CTL.EN : RField := ⟨CW_CTL, 0, 1, .rw, 0, .any⟩
def CW_CTL.EARLY_EN : RField := ⟨CW_CTL, 1, 1, .rw, 1, .any⟩
def CW_CTL.HOME_WAIT : RField := ⟨CW_CTL, 8, 8, .rw, 20, .nonzero⟩
def CW_CTL.info : RegInfo := ⟨CW_CTL, false, [ CW_CTL.EN, CW_CTL.EARLY_EN, CW_CTL.HOME_WAIT]⟩
/-- R361: Ports up, partners, pending pairs. -/
def CW_STAT : Reg := ⟨.cw, 0x8⟩
def CW_STAT.UP : RField := ⟨CW_STAT, 0, 8, .ro, 0, .any⟩
def CW_STAT.PARTNERS : RField := ⟨CW_STAT, 16, 7, .ro, 0, .any⟩
def CW_STAT.PENDING : RField := ⟨CW_STAT, 32, 13, .ro, 0, .any⟩
def CW_STAT.info : RegInfo := ⟨CW_STAT, true, [ CW_STAT.UP, CW_STAT.PARTNERS, CW_STAT.PENDING]⟩
/-- R361: Error flags. -/
def CW_ERR : Reg := ⟨.cw, 0x10⟩
def CW_ERR.DOMAIN : RField := ⟨CW_ERR, 0, 1, .w1c, 0, .any⟩
def CW_ERR.DUP : RField := ⟨CW_ERR, 1, 1, .w1c, 0, .any⟩
def CW_ERR.TRAIN : RField := ⟨CW_ERR, 2, 1, .w1c, 0, .any⟩
def CW_ERR.DOWN : RField := ⟨CW_ERR, 3, 1, .w1c, 0, .any⟩
def CW_ERR.TIMEOUT : RField := ⟨CW_ERR, 4, 1, .w1c, 0, .any⟩
def CW_ERR.DISCARD : RField := ⟨CW_ERR, 5, 1, .w1c, 0, .any⟩
def CW_ERR.HOME : RField := ⟨CW_ERR, 6, 1, .w1c, 0, .any⟩
def CW_ERR.PEND_FULL : RField := ⟨CW_ERR, 7, 1, .w1c, 0, .any⟩
def CW_ERR.PORT : RField := ⟨CW_ERR, 16, 3, .ro, 0, .any⟩
def CW_ERR.DEV : RField := ⟨CW_ERR, 24, 7, .ro, 0, .any⟩
def CW_ERR.info : RegInfo := ⟨CW_ERR, false, [ CW_ERR.DOMAIN, CW_ERR.DUP, CW_ERR.TRAIN, CW_ERR.DOWN, CW_ERR.TIMEOUT, CW_ERR.DISCARD, CW_ERR.HOME, CW_ERR.PEND_FULL, CW_ERR.PORT, CW_ERR.DEV]⟩
/-- R361: This device's number. -/
def CW_DEV : Reg := ⟨.cw, 0x18⟩
def CW_DEV.NUM : RField := ⟨CW_DEV, 0, 7, .rl, 0, .any⟩
def CW_DEV.info : RegInfo := ⟨CW_DEV, false, [ CW_DEV.NUM]⟩
/-- R361: Domain identity. -/
def CW_DOMAIN : Reg := ⟨.cw, 0x20⟩
def CW_DOMAIN.DOMAIN : RField := ⟨CW_DOMAIN, 0, 64, .rl, 0, .any⟩
def CW_DOMAIN.info : RegInfo := ⟨CW_DOMAIN, true, [ CW_DOMAIN.DOMAIN]⟩
/-- R361: Port selected. -/
def CW_PORT_SEL : Reg := ⟨.cw, 0x28⟩
def CW_PORT_SEL.PORT : RField := ⟨CW_PORT_SEL, 0, 3, .rw, 0, .any⟩
def CW_PORT_SEL.info : RegInfo := ⟨CW_PORT_SEL, false, [ CW_PORT_SEL.PORT]⟩
/-- R361: Control of the selected port. -/
def CW_PORT_CTL : Reg := ⟨.cw, 0x30⟩
def CW_PORT_CTL.EN : RField := ⟨CW_PORT_CTL, 0, 1, .rw, 0, .any⟩
def CW_PORT_CTL.RATE : RField := ⟨CW_PORT_CTL, 1, 2, .rw, 2, .range 0 2⟩
def CW_PORT_CTL.FALLBACK : RField := ⟨CW_PORT_CTL, 3, 1, .rw, 1, .any⟩
def CW_PORT_CTL.PRESET : RField := ⟨CW_PORT_CTL, 4, 3, .rw, 0, .any⟩
def CW_PORT_CTL.RETRAIN : RField := ⟨CW_PORT_CTL, 7, 1, .w1s, 0, .any⟩
def CW_PORT_CTL.info : RegInfo := ⟨CW_PORT_CTL, false, [ CW_PORT_CTL.EN, CW_PORT_CTL.RATE, CW_PORT_CTL.FALLBACK, CW_PORT_CTL.PRESET, CW_PORT_CTL.RETRAIN]⟩
/-- R361: State of the selected port. -/
def CW_PORT_STAT : Reg := ⟨.cw, 0x38⟩
def CW_PORT_STAT.STATE : RField := ⟨CW_PORT_STAT, 0, 3, .ro, 0, .any⟩
def CW_PORT_STAT.RATE : RField := ⟨CW_PORT_STAT, 3, 2, .ro, 0, .any⟩
def CW_PORT_STAT.SWITCH : RField := ⟨CW_PORT_STAT, 5, 1, .ro, 0, .any⟩
def CW_PORT_STAT.NBR_DEV : RField := ⟨CW_PORT_STAT, 8, 8, .ro, 0, .any⟩
def CW_PORT_STAT.NBR_PORT : RField := ⟨CW_PORT_STAT, 16, 8, .ro, 0, .any⟩
def CW_PORT_STAT.info : RegInfo := ⟨CW_PORT_STAT, false, [ CW_PORT_STAT.STATE, CW_PORT_STAT.RATE, CW_PORT_STAT.SWITCH, CW_PORT_STAT.NBR_DEV, CW_PORT_STAT.NBR_PORT]⟩
/-- R361: REACH mask of the selected port, devices 0–63. -/
def CW_PORT_REACH_LO : Reg := ⟨.cw, 0x40⟩
def CW_PORT_REACH_LO.V : RField := ⟨CW_PORT_REACH_LO, 0, 64, .ro, 0, .any⟩
def CW_PORT_REACH_LO.info : RegInfo := ⟨CW_PORT_REACH_LO, true, [ CW_PORT_REACH_LO.V]⟩
/-- R361: Devices 64–127. -/
def CW_PORT_REACH_HI : Reg := ⟨.cw, 0x48⟩
def CW_PORT_REACH_HI.V : RField := ⟨CW_PORT_REACH_HI, 0, 64, .ro, 0, .any⟩
def CW_PORT_REACH_HI.info : RegInfo := ⟨CW_PORT_REACH_HI, true, [ CW_PORT_REACH_HI.V]⟩
/-- R361: Partner set, devices 0–63 (R346). -/
def CW_PARTNERS_LO : Reg := ⟨.cw, 0x50⟩
def CW_PARTNERS_LO.V : RField := ⟨CW_PARTNERS_LO, 0, 64, .ro, 0, .any⟩
def CW_PARTNERS_LO.info : RegInfo := ⟨CW_PARTNERS_LO, true, [ CW_PARTNERS_LO.V]⟩
/-- R361: Devices 64–127. -/
def CW_PARTNERS_HI : Reg := ⟨.cw, 0x58⟩
def CW_PARTNERS_HI.V : RField := ⟨CW_PARTNERS_HI, 0, 64, .ro, 0, .any⟩
def CW_PARTNERS_HI.info : RegInfo := ⟨CW_PARTNERS_HI, true, [ CW_PARTNERS_HI.V]⟩
/-- R361: Host address of a home table, 64-byte aligned. -/
def CW_HOME_ADDR : Reg := ⟨.cw, 0x60⟩
def CW_HOME_ADDR.V : RField := ⟨CW_HOME_ADDR, 0, 64, .rw, 0, .any⟩
def CW_HOME_ADDR.info : RegInfo := ⟨CW_HOME_ADDR, true, [ CW_HOME_ADDR.V]⟩
/-- R361: Load or clear a home table. -/
def CW_HOME_CMD : Reg := ⟨.cw, 0x68⟩
def CW_HOME_CMD.OP : RField := ⟨CW_HOME_CMD, 0, 2, .wo, 0, .any⟩
def CW_HOME_CMD.SLOT : RField := ⟨CW_HOME_CMD, 2, 4, .wo, 0, .any⟩
def CW_HOME_CMD.info : RegInfo := ⟨CW_HOME_CMD, false, [ CW_HOME_CMD.OP, CW_HOME_CMD.SLOT]⟩
/-- R361: Home table load state. -/
def CW_HOME_STAT : Reg := ⟨.cw, 0x70⟩
def CW_HOME_STAT.STATE : RField := ⟨CW_HOME_STAT, 0, 3, .ro, 0, .any⟩
def CW_HOME_STAT.SLOT : RField := ⟨CW_HOME_STAT, 8, 4, .ro, 0, .any⟩
def CW_HOME_STAT.ENTRIES : RField := ⟨CW_HOME_STAT, 32, 32, .ro, 0, .any⟩
def CW_HOME_STAT.info : RegInfo := ⟨CW_HOME_STAT, true, [ CW_HOME_STAT.STATE, CW_HOME_STAT.SLOT, CW_HOME_STAT.ENTRIES]⟩
/-- R361: Carts sent. -/
def CW_TX_CART_CNT : Reg := ⟨.cw, 0x78⟩
def CW_TX_CART_CNT.V : RField := ⟨CW_TX_CART_CNT, 0, 64, .ro, 0, .any⟩
def CW_TX_CART_CNT.info : RegInfo := ⟨CW_TX_CART_CNT, true, [ CW_TX_CART_CNT.V]⟩
/-- R361: Carts accepted. -/
def CW_RX_CART_CNT : Reg := ⟨.cw, 0x80⟩
def CW_RX_CART_CNT.V : RField := ⟨CW_RX_CART_CNT, 0, 64, .ro, 0, .any⟩
def CW_RX_CART_CNT.info : RegInfo := ⟨CW_RX_CART_CNT, true, [ CW_RX_CART_CNT.V]⟩
/-- R361: Symbols corrected (R333). -/
def CW_FEC_CORR_CNT : Reg := ⟨.cw, 0x88⟩
def CW_FEC_CORR_CNT.V : RField := ⟨CW_FEC_CORR_CNT, 0, 64, .ro, 0, .any⟩
def CW_FEC_CORR_CNT.info : RegInfo := ⟨CW_FEC_CORR_CNT, true, [ CW_FEC_CORR_CNT.V]⟩
/-- R361: Frames lost to uncorrectable codewords or CRC (R333, R334). -/
def CW_FEC_UNCORR_CNT : Reg := ⟨.cw, 0x90⟩
def CW_FEC_UNCORR_CNT.V : RField := ⟨CW_FEC_UNCORR_CNT, 0, 64, .ro, 0, .any⟩
def CW_FEC_UNCORR_CNT.info : RegInfo := ⟨CW_FEC_UNCORR_CNT, true, [ CW_FEC_UNCORR_CNT.V]⟩
/-- R361: Resends (R338). -/
def CW_REPLAY_CNT : Reg := ⟨.cw, 0x98⟩
def CW_REPLAY_CNT.V : RField := ⟨CW_REPLAY_CNT, 0, 64, .ro, 0, .any⟩
def CW_REPLAY_CNT.info : RegInfo := ⟨CW_REPLAY_CNT, true, [ CW_REPLAY_CNT.V]⟩
/-- R361: Training trials (R336). -/
def CW_RETRAIN_CNT : Reg := ⟨.cw, 0xA0⟩
def CW_RETRAIN_CNT.V : RField := ⟨CW_RETRAIN_CNT, 0, 64, .ro, 0, .any⟩
def CW_RETRAIN_CNT.info : RegInfo := ⟨CW_RETRAIN_CNT, true, [ CW_RETRAIN_CNT.V]⟩
/-- R361: Codeword slots waiting for credit (R339). -/
def CW_CREDIT_WAIT_CNT : Reg := ⟨.cw, 0xA8⟩
def CW_CREDIT_WAIT_CNT.V : RField := ⟨CW_CREDIT_WAIT_CNT, 0, 64, .ro, 0, .any⟩
def CW_CREDIT_WAIT_CNT.info : RegInfo := ⟨CW_CREDIT_WAIT_CNT, true, [ CW_CREDIT_WAIT_CNT.V]⟩
/-- R361: Carts and receipts discarded (R344, R348, R357). -/
def CW_DISCARD_CNT : Reg := ⟨.cw, 0xB0⟩
def CW_DISCARD_CNT.V : RField := ⟨CW_DISCARD_CNT, 0, 64, .ro, 0, .any⟩
def CW_DISCARD_CNT.info : RegInfo := ⟨CW_DISCARD_CNT, true, [ CW_DISCARD_CNT.V]⟩
/-- R361: Pairs cleared (R357). -/
def CW_RCPT_CNT : Reg := ⟨.cw, 0xB8⟩
def CW_RCPT_CNT.V : RField := ⟨CW_RCPT_CNT, 0, 64, .ro, 0, .any⟩
def CW_RCPT_CNT.info : RegInfo := ⟨CW_RCPT_CNT, true, [ CW_RCPT_CNT.V]⟩
/-- R361: Retractions received (R357). -/
def CW_RETRACT_CNT : Reg := ⟨.cw, 0xC0⟩
def CW_RETRACT_CNT.V : RField := ⟨CW_RETRACT_CNT, 0, 64, .ro, 0, .any⟩
def CW_RETRACT_CNT.info : RegInfo := ⟨CW_RETRACT_CNT, true, [ CW_RETRACT_CNT.V]⟩
/-- R361: Pairs timed out (R357). -/
def CW_TIMEOUT_CNT : Reg := ⟨.cw, 0xC8⟩
def CW_TIMEOUT_CNT.V : RField := ⟨CW_TIMEOUT_CNT, 0, 64, .ro, 0, .any⟩
def CW_TIMEOUT_CNT.info : RegInfo := ⟨CW_TIMEOUT_CNT, true, [ CW_TIMEOUT_CNT.V]⟩
/-- R361: REFUSED or FENCED returns (R352). -/
def CW_REFUSED_CNT : Reg := ⟨.cw, 0xD0⟩
def CW_REFUSED_CNT.V : RField := ⟨CW_REFUSED_CNT, 0, 64, .ro, 0, .any⟩
def CW_REFUSED_CNT.info : RegInfo := ⟨CW_REFUSED_CNT, true, [ CW_REFUSED_CNT.V]⟩

/-- Every register of the block, in address order. -/
def regs_srv : List RegInfo :=
  [ SRV_CTL.info, SRV_STAT.info, SRV_ERR.info, SRV_STEP_TARGET.info, SRV_STEP_CNT.info, SRV_STEP_LAST.info, SRV_FUNC_SEL.info, SRV_FUNC_CEIL.info, SRV_FUNC_STAT.info, SRV_PACE_SEL.info, SRV_PACE_STAT.info, SRV_PACE_MAX.info, SRV_SLIP_CNT.info, SRV_REFUSED_CNT.info, SRV_TOKEN_CNT.info, SRV_DRAFT_CNT.info, SRV_ACCEPT_CNT.info, SRV_TOTAL_REJ_CNT.info, SRV_SPEC_PAUSE_CNT.info, SRV_LATE_CNT.info, SRV_SKIP_CNT.info, SRV_ROLL_FULL_CNT.info, SRV_CHUNK_SHRINK_CNT.info, SRV_STORM_CEIL_CNT.info, SRV_MSI_CNT.info, SRV_ADP_ADDR.info, SRV_ADP_CMD.info, SRV_ADP_STAT.info, SRV_ADP_ERR.info, SRV_ADP_SEL.info, SRV_ADP_INFO.info, SRV_ADP_POOL.info, SRV_TUNE_STAT.info, SRV_ADP_LOAD_CNT.info, SRV_ADP_RETIRE_CNT.info, SRV_TUNE_ROUND_CNT.info, SRV_TUNE_TCLIP_CNT.info]

/-- Every register of the block, in address order. -/
def regs_kv : List RegInfo :=
  [ KV_CTL.info, KV_ERR.info, KV_SLOT_SEL.info, KV_SLOT_CFG.info, KV_POOL_STAT.info, KV_NARROW_READ_CNT.info, KV_COW_CNT.info, KV_RELEASE_CNT.info, KV_PARK_CNT.info, KV_RESUME_CNT.info, KV_INDEX_SEL_CNT.info, KV_KV4_SAT_CNT.info, KV_REMOTE_ALLOC_CNT.info]

/-- Every register of the block, in address order. -/
def regs_prt : List RegInfo :=
  [ PRT_CTL.info, PRT_STAT.info, PRT_ERR.info, PRT_MAN_ADDR.info, PRT_SRC_ADDR.info, PRT_CMD.info, PRT_MODEL_SEL.info, PRT_MODEL_STAT.info, PRT_SHORT1.info, PRT_SHORT2.info, PRT_SCRUB_CTL.info, PRT_REFETCH_CNT.info, PRT_FENCE_CNT.info, PRT_PLANE_LOAD_CNT.info, PRT_FRESH_WAIT_CNT.info, PRT_SCRUB_BYTES.info]

/-- Every register of the block, in address order. -/
def regs_stk : List RegInfo :=
  [ STK_CTL.info, STK_STAT.info, STK_ERR.info, STK_IMG_ADDR.info, STK_CMD.info, STK_JRN_SEL.info, STK_JRN_DATA.info, STK_SCRUB_CTL.info, STK_SCRUB_STAT.info, STK_PROG_CNT.info, STK_TOUCH_CNT.info, STK_FAIL_CNT.info, STK_SCRUB_CNT.info, STK_MISMATCH_CNT.info, STK_REFETCH_CNT.info]

/-- Every register of the block, in address order. -/
def regs_chk : List RegInfo :=
  [ CHK_CTL.info, CHK_STAT.info, CHK_ERR.info, CHK_STALL_SEL.info, CHK_STALL_STAT.info, CHK_CPER_ADDR.info, CHK_CPER_CTL.info, CHK_CPER_WIDX.info, CHK_CPER_RIDX.info, CHK_STRIKE_CNT.info, CHK_FAIL_CNT.info, CHK_PROBE_CNT.info, CHK_PROBE_FAIL_CNT.info, CHK_PAIR_MISMATCH_CNT.info, CHK_INSPECT_CNT.info, CHK_CHECKER_WRONG_CNT.info, CHK_RESULT_WRONG_CNT.info, CHK_DEADLINE_CNT.info, CHK_CSUM_CORR_CNT.info, CHK_RETRACT_POS_CNT.info, CHK_RETRACT_SENT_CNT.info, CHK_CPER_DROP_CNT.info]

/-- Every register of the block, in address order. -/
def regs_mem : List RegInfo :=
  [ MEM_CTL.info, MEM_STAT.info, MEM_ERR.info, MEM_SEL.info, MEM_UNIT_STAT.info, MEM_SCRUB_CTL.info, MEM_CE_CNT.info, MEM_UE_CNT.info, MEM_SCRUB_CE_CNT.info, MEM_RETIRE_CNT.info, MEM_TRAIN_CNT.info]

/-- Every register of the block, in address order. -/
def regs_cw : List RegInfo :=
  [ CW_CTL.info, CW_STAT.info, CW_ERR.info, CW_DEV.info, CW_DOMAIN.info, CW_PORT_SEL.info, CW_PORT_CTL.info, CW_PORT_STAT.info, CW_PORT_REACH_LO.info, CW_PORT_REACH_HI.info, CW_PARTNERS_LO.info, CW_PARTNERS_HI.info, CW_HOME_ADDR.info, CW_HOME_CMD.info, CW_HOME_STAT.info, CW_TX_CART_CNT.info, CW_RX_CART_CNT.info, CW_FEC_CORR_CNT.info, CW_FEC_UNCORR_CNT.info, CW_REPLAY_CNT.info, CW_RETRAIN_CNT.info, CW_CREDIT_WAIT_CNT.info, CW_DISCARD_CNT.info, CW_RCPT_CNT.info, CW_RETRACT_CNT.info, CW_TIMEOUT_CNT.info, CW_REFUSED_CNT.info]

end Sys2Proof.Machine
end

