-- ==== Sys2Proof/Config.lean ====
section
/-! DEFINITION. What one implementation fixes and the spec leaves open. Each free value is a constant with no body: no proof can see what it is. -/

namespace Sys2Proof

/-- A value that the spec leaves open, fresh at each use: the step reads and advances the counter `State.free` and takes this value at it. DESIGN CHOICE, log entry 3. -/
opaque Config.freeValue : Nat → Nat

/-- e^x rounded to FP32 as this device rounds it: the spec names the exponential of its softmax without bounding its rounding. DESIGN CHOICE, log entry 4. -/
opaque Config.expF32 : Word32 → Word32

/-- The natural logarithm rounded to FP32 as this device rounds it: the spec names the log-softmax of its sampling without bounding its rounding. DESIGN CHOICE, log entry 4. -/
opaque Config.lnF32 : Word32 → Word32

/-- Which of the FP32 values within one unit in the last place of 1 / sqrt((hi + lo) / n + ε) this device gives: R159 bounds it and does not say. DESIGN CHOICE, log entry 4. -/
opaque Config.rsqrtNear : Word32 → Word32 → Nat → Word32 → Nat

/-- The quotient of a corrected value by a drift gain of exactly zero: the spec's correction divides by the gain and states no result for zero. DESIGN CHOICE, log entry 12. -/
opaque Config.zeroGain : Word32 → Word32

/-- What a 16-bit entry of the column-sum file holds for a sum that 16 bits do not hold: R364 gives the entry's width and no such case. DESIGN CHOICE, log entry 107. -/
opaque Config.wideColSum : Int → BitVec 16

/-- The MISR signature fused for a unit (R472): fixed at manufacture, not stated by the spec. -/
opaque Config.misrSignature : Nat → Nat

/-- The value of the device's Vendor ID register, which the spec does not give (R426). DESIGN CHOICE, log entry 21. -/
opaque Config.vendorId : Nat

/-- The digest of the boot ROM of this device (R520): not stated by the spec. -/
opaque Config.bootRomDigest : Nat

/-- SHA-512 of Brynnov's charter public key, held in the boot ROM (R511): not stated by the spec. -/
opaque Config.charterRoot : List Byte

/-- SHA-512 of Brynnov's firmware public key, held in the boot ROM (R511): not stated by the spec. -/
opaque Config.firmwareRoot : List Byte

/-- SHA-512 of the owner's charter public key, where OWNER is fused (R511): not stated by the spec. -/
opaque Config.ownerRoot : List Byte

/-- The certificate chain of slot 0 (R519), whose alias certificate follows from the digest of the firmware code and charter header (R518). DESIGN CHOICE, log entry 24. -/
opaque Config.slot0Chain : Nat → List Byte

/-- The device address of a page's scale strip (R236). DESIGN CHOICE, log entry 84. -/
opaque Config.stripAddr : Nat → Nat

/-- The device address of a page's coarse index entry (R236). DESIGN CHOICE, log entry 84. -/
opaque Config.indexAddr : Nat → Nat

end Sys2Proof
end

