-- ==== Sys2Proof/Machine/FMap.lean ====
section
/-! DEFINITION. Finite maps keyed by a number: a list of (key, value) pairs with strictly rising keys that lists no entry equal to what an unlisted key reads as, so that equal maps are equal lists. -/

namespace Sys2Proof.Machine

/-- Insert before the first element that does not come strictly earlier. -/
def insertBy {α : Type} (le : α → α → Bool) (x : α) : List α → List α
  | [] => [x]
  | y :: ys => if le x y then x :: y :: ys else y :: insertBy le x ys

/-- Sort by an order; elements that compare equal keep their order. -/
def sortBy {α : Type} (le : α → α → Bool) : List α → List α
  | [] => []
  | x :: xs => insertBy le x (sortBy le xs)

/-- A sparse map. -/
abbrev FMap (α : Type) := List (Nat × α)

/-- The value at a key; `d` is what an unlisted key reads as. -/
def FMap.get {α : Type} (d : α) : FMap α → Nat → α
  | [], _ => d
  | (k, v) :: m, x => if x = k then v else FMap.get d m x

/-- Remove every entry of a key. -/
def FMap.del {α : Type} : FMap α → Nat → FMap α
  | [], _ => []
  | (k, v) :: m, x => if x = k then FMap.del m x else (k, v) :: FMap.del m x

/-- Insert in key order, replacing the entry of the same key. -/
def FMap.put {α : Type} : FMap α → Nat → α → FMap α
  | [], x, w => [(x, w)]
  | (k, v) :: m, x, w =>
    if x = k then (x, w) :: m
    else if x < k then (x, w) :: (k, v) :: m
    else (k, v) :: FMap.put m x w

/-- Set a key. Writing what an unlisted key reads as removes the entry. -/
def FMap.set {α : Type} [DecidableEq α] (d : α) (m : FMap α) (x : Nat) (w : α) : FMap α :=
  if w = d then m.del x else m.put x w

/-- Keys rise strictly and lie above `lo`. -/
def FMap.sortedAbove {α : Type} : Nat → FMap α → Bool
  | _, [] => true
  | lo, (k, _) :: m => decide (lo < k) && FMap.sortedAbove k m

/-- Keys rise strictly. -/
def FMap.sorted {α : Type} : FMap α → Bool
  | [] => true
  | (k, _) :: m => FMap.sortedAbove k m

/-- The canonical form: keys rise strictly and no entry equals what its key reads as when unlisted. -/
def FMap.wf {α : Type} [DecidableEq α] (d : Nat → α) (m : FMap α) : Bool :=
  m.sorted && m.all fun e => decide (e.2 ≠ d e.1)

/-- Apply a function to the value at a key. -/
def FMap.modify {α : Type} [DecidableEq α] (d : α) (m : FMap α) (x : Nat) (f : α → α) : FMap α :=
  m.set d x (f (m.get d x))

/-- The keys whose value satisfies `p`, in rising order. -/
def FMap.keysWhere {α : Type} (m : FMap α) (p : Nat → α → Bool) : List Nat :=
  (m.filter fun e => p e.1 e.2).map (·.1)

/-- How many entries satisfy `p`. -/
def FMap.countWhere {α : Type} (m : FMap α) (p : Nat → α → Bool) : Nat :=
  (m.filter fun e => p e.1 e.2).length

/-- The lowest key in `[lo, lo + n)` that is not listed. -/
def FMap.freshKey {α : Type} (m : FMap α) (lo n : Nat) : Option Nat :=
  ((List.range n).map (· + lo)).find? fun k => !(m.any fun e => e.1 == k)

end Sys2Proof.Machine
end

