-- ==== Sys2Proof/Machine/PartsCart.lean ====
section
/-! DEFINITION. The state of Cartway beyond its registers: ports with their link layer, carts that wait or stand in a receive buffer, dispatches, home tables, the pending set and early sends (chapter 11). -/

namespace Sys2Proof.Machine

/-- A cart (R342). -/
structure Cart where
  typ     : Nat
  flags   : Nat
  src     : Nat
  dst     : Nat
  cseq    : Nat
  step    : Nat
  arg0    : Nat
  arg1    : Nat
  payload : List Byte
deriving DecidableEq, Repr

/-- A cart to be sent. -/
structure TxCart where
  cart  : Cart
  port  : Nat
  seq   : Nat                      -- the sequence whose results it carries; 0xFFFF for a home's results
  pairs : List (Nat × Nat)         -- pending pairs that a home's result depends on
  again : Bool                     -- sent before: its CSEQ and FLAGS stand (R340)
deriving DecidableEq, Repr

/-- A cart in a receive buffer: its channel, and the SEQs of the frames that carried it since the port came UP. -/
structure RxCart where
  vc     : Nat
  frames : List Nat
  cart  : Cart
deriving DecidableEq, Repr

/-- A DATA frame not yet acknowledged (R338). -/
structure TxFrame where
  seq   : Nat
  vc    : Nat
  first : Nat
  body  : List Byte
deriving DecidableEq, Repr

/-- A port beyond CW_PORT_CTL, CW_PORT_STAT and its REACH mask (R336 to R340). -/
structure Port where
  trainAt : Nat                    -- CLK_AO time of t0
  hello   : Bool                   -- a valid HELLO has been received
  toSend  : Nat                    -- HELLOs still to be sent after it
  helloAt : Nat                    -- time of the last HELLO sent
  reachAt : Nat                    -- time of the last REACH sent
  txSeq   : Nat
  rxSeq   : Nat                    -- the SEQ it expects
  ackAt   : Nat                    -- when ACK last advanced, or the oldest frame was sent
  nakAt   : Option Nat             -- when it last sent a NAK
  resent  : Nat                    -- resends of the oldest frame without progress
  credit  : FMap Nat               -- frames it may send, by channel
  lastCr  : FMap Nat               -- last CRn received
  freed   : FMap Nat               -- CRn it sends
  unacked : List TxFrame
  kept    : List (TxCart × Option Nat)  -- carts not acknowledged whole, with the SEQ of their last frame once sent
  txRest  : FMap (List Byte)       -- bytes of the cart being sent, by channel
  rxPart  : FMap (List Byte)       -- bytes of the cart being received, by channel
  rxFrames : FMap (List Nat)       -- SEQs of the frames that carried those bytes
  rx      : List RxCart
deriving DecidableEq, Repr

/-- A port that has not trained. -/
def Port.init : Port := ⟨0, false, 0, 0, 0, 0, 0, 0, none, 0, [], [], [], [], [], [], [], [], []⟩

/-- A pending pair (R355, R377). -/
structure Pair where
  src     : Nat
  step    : Nat
  at'     : Nat                    -- CLK_AO time of its first early cart
  got     : Nat                    -- early carts received
  receipt : Option Nat             -- CARTS of its RECEIPT
  sent    : List (Nat × Nat)       -- steps and destinations of early carts that depend on it
deriving DecidableEq, Repr

/-- The early carts of one step to one destination (R356). -/
structure Early where
  step  : Nat
  dst   : Nat
  count : Nat
  seqs  : List Nat                 -- sequences whose unchecked strikes they depend on
  pairs : List (Nat × Nat)         -- pending pairs they depend on
  done  : Bool                     -- their RECEIPT or RETRACT has been sent
deriving DecidableEq, Repr

/-- A dispatch in flight, or one that waits for a home (R351, R353). -/
structure Disp where
  seq     : Nat
  slot    : Nat
  gen     : Nat
  layer   : Nat
  expert  : Nat
  tag     : Nat
  dst     : Nat
  payload : List Byte
  tried   : List Nat               -- devices that answered REFUSED
  since   : Nat                    -- CLK_AO time at which its wait began
deriving DecidableEq, Repr

/-- A home table (R349). -/
structure HomeTable where
  layers  : Nat
  experts : Nat
  entries : List Nat
deriving DecidableEq, Repr

/-- Cartway. -/
structure Cartway where
  ports  : FMap Port
  queue  : List TxCart             -- carts that wait, in order
  robin  : FMap Nat                -- round-robin counter of each destination (R346)
  cseq   : FMap Nat                -- carts sent towards each device (R342)
  seen   : FMap (List Nat)         -- the last 4,096 CSEQs received from each device (R344)
  pend   : List Pair
  dead   : List (Nat × Nat)        -- pairs retracted or timed out
  notes  : List (Nat × Nat × Nat)  -- RECEIPTs that came before any early cart of their pair: source, step, CARTS (R360)
  early  : List Early
  disps  : List Disp
  waits  : List Disp
  nextTag : Nat
  parts  : List (Nat × Nat × Nat)  -- pending pairs of PART carts of a home's vectors: TAG, source, step
  homes  : FMap HomeTable          -- by model slot
  change : List (Nat × Option HomeTable)  -- tables that take effect at the next step marker (R350)
deriving DecidableEq, Repr

/-- An empty home table: no expert is given a home, so this device runs them all. -/
def HomeTable.init : HomeTable := ⟨0, 0, []⟩

/-- Cartway as reset leaves it. -/
def Cartway.init : Cartway := ⟨[], [], [], [], [], [], [], [], [], [], [], 0, [], [], []⟩

end Sys2Proof.Machine
end

