-- ==== Sys2Proof/Machine/Num.lean ====
section
/-! DEFINITION. Exact binary numbers and IEEE 754 binary32: every FP32 result of the manual is an exact dyadic value rounded once, to nearest, ties to even, unless a rule says otherwise. -/

namespace Sys2Proof.Machine

/-- The exact number `m × 2^e`. -/
structure Dy where
  m : Int
  e : Int
deriving DecidableEq, Repr

/-- Zero. -/
def Dy.zero : Dy := ⟨0, 0⟩

/-- An integer as an exact number. -/
def Dy.ofInt (n : Int) : Dy := ⟨n, 0⟩

/-- `n × 2^e`. -/
def Dy.scaled (n e : Int) : Dy := ⟨n, e⟩

/-- The mantissa of `a` when written with exponent `e ≤ a.e`. -/
def Dy.mantAt (a : Dy) (e : Int) : Int := a.m * (2 : Int) ^ (a.e - e).toNat

/-- Exact sum. -/
def Dy.add (a b : Dy) : Dy :=
  let e := min a.e b.e
  ⟨a.mantAt e + b.mantAt e, e⟩

/-- Exact negation. -/
def Dy.neg (a : Dy) : Dy := ⟨-a.m, a.e⟩

/-- Exact difference. -/
def Dy.sub (a b : Dy) : Dy := a.add b.neg

/-- Exact product. -/
def Dy.mul (a b : Dy) : Dy := ⟨a.m * b.m, a.e + b.e⟩

/-- Exact absolute value. -/
def Dy.abs (a : Dy) : Dy := ⟨Int.ofNat a.m.natAbs, a.e⟩

/-- `a < b`, exactly. -/
def Dy.lt (a b : Dy) : Bool := decide ((a.sub b).m < 0)

/-- `a ≤ b`, exactly. -/
def Dy.le (a b : Dy) : Bool := decide ((a.sub b).m ≤ 0)

/-- The sum of a list, exactly. -/
def Dy.sum (xs : List Dy) : Dy := xs.foldl Dy.add Dy.zero

/-- `⌊m / 2^k⌋` rounded to nearest, ties to even. -/
def rneShift (m k : Nat) : Nat :=
  let q := m / 2 ^ k
  let r := m % 2 ^ k
  if 2 * r > 2 ^ k then q + 1
  else if 2 * r = 2 ^ k ∧ k ≠ 0 then q + q % 2
  else q

/-- `n / d` rounded to nearest, ties to even. -/
def rneDiv (n d : Nat) : Nat :=
  let q := n / d
  let r := n % d
  if 2 * r > d then q + 1 else if 2 * r = d then q + q % 2 else q

/-- The largest `k` with `2^k ≤ |a|`, for `a ≠ 0`. -/
def Dy.ilog2 (a : Dy) : Int := Int.ofNat (Nat.log2 a.m.natAbs) + a.e

/-- An exact number rounded to an integer, to nearest, ties to even. -/
def Dy.rne (a : Dy) : Int :=
  let mag : Nat := if a.e ≥ 0 then a.m.natAbs * 2 ^ a.e.toNat else rneShift a.m.natAbs (-a.e).toNat
  if a.m < 0 then -(Int.ofNat mag) else Int.ofNat mag

/-- `⌊a⌋`. -/
def Dy.floor (a : Dy) : Int :=
  if a.e ≥ 0 then a.m * (2 : Int) ^ a.e.toNat else a.m / (2 : Int) ^ (-a.e).toNat

/-- `⌈a⌉`. -/
def Dy.ceil (a : Dy) : Int := -(Dy.floor a.neg)

/-- The FP32 pattern of `|m × 2^e|`, to nearest, ties to even; overflow gives infinity (IEEE 754). -/
def f32Mag (m : Nat) (e : Int) : Nat :=
  if m = 0 then 0 else
    let top := Int.ofNat (Nat.log2 m) + e
    let q := max (top - 23) (-149)
    let n := if q ≤ e then m * 2 ^ (e - q).toNat else rneShift m (q - e).toNat
    let p := (q + 149).toNat * 2 ^ 23 + n
    min p 0x7F800000

/-- An exact number rounded to FP32. -/
def F32.ofDy (a : Dy) : Word32 :=
  let p := f32Mag a.m.natAbs a.e
  BitVec.ofNat 32 (if a.m < 0 then 2 ^ 31 + p else p)

/-- The quiet NaN the model writes where an FP32 result is a NaN. -/
def F32.nan : Word32 := 0x7FC00000#32

/-- Positive infinity. -/
def F32.inf : Word32 := 0x7F800000#32

/-- The sign bit. -/
def F32.sign (x : Word32) : Bool := x.toNat ≥ 2 ^ 31

/-- The 8-bit exponent field. -/
def F32.expo (x : Word32) : Nat := x.toNat / 2 ^ 23 % 256

/-- The 23-bit fraction field. -/
def F32.frac (x : Word32) : Nat := x.toNat % 2 ^ 23

/-- Neither infinity nor NaN. -/
def F32.finite (x : Word32) : Bool := F32.expo x ≠ 255

/-- A NaN of either kind. -/
def F32.isNan (x : Word32) : Bool := F32.expo x = 255 && F32.frac x ≠ 0

/-- An infinity of either sign. -/
def F32.isInf (x : Word32) : Bool := F32.expo x = 255 && F32.frac x = 0

/-- The exact value of a finite FP32 pattern (0 for a non-finite one). -/
def F32.toDy (x : Word32) : Dy :=
  let m : Nat := if F32.expo x = 0 then F32.frac x else 2 ^ 23 + F32.frac x
  let e : Int := Int.ofNat (max (F32.expo x) 1) - 150
  if F32.expo x = 255 then Dy.zero
  else ⟨if F32.sign x then -(Int.ofNat m) else Int.ofNat m, e⟩

/-- The FP32 of a number whose exact value is zero keeps a positive sign unless both terms are negative zeros. -/
def F32.zeroSum (x y : Word32) : Word32 := if F32.sign x && F32.sign y then 0x80000000#32 else 0#32

/-- FP32 sum, to nearest, ties to even. -/
def F32.add (x y : Word32) : Word32 :=
  if F32.isNan x || F32.isNan y then F32.nan
  else if F32.isInf x then (if F32.isInf y && F32.sign x != F32.sign y then F32.nan else x)
  else if F32.isInf y then y
  else
    let s := (F32.toDy x).add (F32.toDy y)
    if s.m = 0 then F32.zeroSum x y else F32.ofDy s

/-- FP32 negation. -/
def F32.neg (x : Word32) : Word32 := x ^^^ 0x80000000#32

/-- FP32 difference. -/
def F32.sub (x y : Word32) : Word32 := F32.add x (F32.neg y)

/-- A signed pattern with the sign of a product. -/
def F32.signed (neg : Bool) (p : Word32) : Word32 := if neg then p ||| 0x80000000#32 else p

/-- FP32 product, to nearest, ties to even. -/
def F32.mul (x y : Word32) : Word32 :=
  let neg := F32.sign x != F32.sign y
  if F32.isNan x || F32.isNan y then F32.nan
  else if F32.isInf x || F32.isInf y then
    (if (F32.toDy x).m = 0 && !F32.isInf x || (F32.toDy y).m = 0 && !F32.isInf y then F32.nan else F32.signed neg F32.inf)
  else F32.signed neg (BitVec.ofNat 32 (F32.ofDy ((F32.toDy x).mul (F32.toDy y))).toNat &&& 0x7FFFFFFF#32)

/-- The quotient of two exact numbers, `b ≠ 0`, as a number that rounds as the exact quotient does (the last bit is sticky). -/
def Dy.quot (a b : Dy) : Dy :=
  let k := 64 + Nat.log2 b.m.natAbs
  let n := a.m.natAbs * 2 ^ k
  let q := n / b.m.natAbs
  let s := if n % b.m.natAbs = 0 then 0 else 1
  let m : Int := Int.ofNat (2 * q + s)
  ⟨if decide (a.m < 0) != decide (b.m < 0) then -m else m, a.e - b.e - Int.ofNat k - 1⟩

/-- FP32 quotient. -/
def F32.div (x y : Word32) : Word32 :=
  let neg := F32.sign x != F32.sign y
  if F32.isNan x || F32.isNan y then F32.nan
  else if F32.isInf x then (if F32.isInf y then F32.nan else F32.signed neg F32.inf)
  else if F32.isInf y then F32.signed neg 0#32
  else if (F32.toDy y).m = 0 then (if (F32.toDy x).m = 0 then F32.nan else F32.signed neg F32.inf)
  else if (F32.toDy x).m = 0 then F32.signed neg 0#32
  else F32.ofDy ((F32.toDy x).quot (F32.toDy y))

/-- `⌊√n⌋`, bit by bit from bit `k` down. -/
def isqrtFrom (n : Nat) : Nat → Nat → Nat
  | 0, r => r
  | k + 1, r => isqrtFrom n k (if (r + 2 ^ k) * (r + 2 ^ k) ≤ n then r + 2 ^ k else r)

/-- `⌊√n⌋`. -/
def isqrt (n : Nat) : Nat := isqrtFrom n (Nat.log2 n / 2 + 1) 0

/-- The square root of a non-negative exact number, as a number that rounds as the exact root does. -/
def Dy.sqrt (a : Dy) : Dy :=
  let odd := a.e % 2 ≠ 0
  let m := if odd then a.m.natAbs * 2 else a.m.natAbs
  let e := if odd then a.e - 1 else a.e
  let n := m * 2 ^ 80
  let r := isqrt n
  let s := if r * r = n then 0 else 1
  ⟨Int.ofNat (2 * r + s), e / 2 - 41⟩

/-- FP32 of an exact square root. -/
def F32.sqrtDy (a : Dy) : Word32 := if a.m ≤ 0 then 0#32 else F32.ofDy a.sqrt

/-- FP32 `x < y`: no NaN compares, −∞ lies below every other number and +∞ above. -/
def F32.lt (x y : Word32) : Bool :=
  if F32.isNan x || F32.isNan y then false
  else if F32.isInf x then F32.sign x && !(F32.isInf y && F32.sign y)
  else if F32.isInf y then !F32.sign y
  else (F32.toDy x).lt (F32.toDy y)

/-- `⌊a / b⌋` of positive exact numbers. -/
def Dy.divFloor (a b : Dy) : Int :=
  let e := min a.e b.e
  a.mantAt e / b.mantAt e

/-- A minifloat of `eb` exponent and `mb` mantissa bits and the given bias, as an exact number (sign in the top bit). -/
def miniToDy (eb mb : Nat) (bias : Int) (v : Nat) : Dy :=
  let s := bitsOf v (eb + mb) 1
  let x := bitsOf v mb eb
  let f := bitsOf v 0 mb
  let m : Nat := if x = 0 then f else 2 ^ mb + f
  let e : Int := Int.ofNat (max x 1) - bias - Int.ofNat mb
  ⟨if s = 1 then -(Int.ofNat m) else Int.ofNat m, e⟩

/-- The minifloat magnitude of `|a|`, to nearest, ties to even, saturating at the pattern `top`. -/
def miniOfDy (eb mb : Nat) (bias : Int) (top : Nat) (a : Dy) : Nat :=
  let neg := if a.m < 0 then 2 ^ (eb + mb) else 0
  if a.m = 0 then 0 else
    let qmin : Int := 1 - bias - Int.ofNat mb
    let q := max (a.ilog2 - Int.ofNat mb) qmin
    let n := if q ≤ a.e then a.m.natAbs * 2 ^ (a.e - q).toNat else rneShift a.m.natAbs (q - a.e).toNat
    neg + min ((q - qmin).toNat * 2 ^ mb + n) top

/-- BF16 to an exact number: the upper half of an FP32 pattern. -/
def BF16.toF32 (v : Nat) : Word32 := BitVec.ofNat 32 (v % 2 ^ 16 * 2 ^ 16)

/-- An exact number to BF16, to nearest, ties to even; magnitudes beyond the format become infinite. -/
def BF16.ofDy (a : Dy) : Nat := miniOfDy 8 7 127 0x7F80 a

/-- FP32 to BF16, to nearest, ties to even; NaN stays NaN. -/
def BF16.ofF32 (x : Word32) : Nat :=
  if F32.isNan x then 0x7FC0 + (if F32.sign x then 0x8000 else 0) else rneShift x.toNat 16 % 2 ^ 16

end Sys2Proof.Machine
end

