-- ==== Sys2Proof/Machine/Elements.lean ====
section
/-! DEFINITION. The element formats of vectors and key-value pages (R110, R111, R234), and the arithmetic of decode attention (R230, R244, R247). -/

namespace Sys2Proof.Machine

/-! ### Elements (R110, R111) -/

/-- One element with its block's scale byte, as an exact number; `none` for a NaN or an infinity. -/
def decodeElem (f : VecFmt) (v scale : Nat) : Option Dy :=
  let sc (a : Dy) : Dy := a.mul ⟨1, Int.ofNat scale - 127⟩
  match f with
  | .fp32 => if F32.finite (BitVec.ofNat 32 v) then some (F32.toDy (BitVec.ofNat 32 v)) else none
  | .bf16 => if F32.finite (BF16.toF32 v) then some (F32.toDy (BF16.toF32 v)) else none
  | .e4m3 => if bitsOf v 0 7 = 0x7F then none else some (sc (miniToDy 4 3 7 v))
  | .e5m2 => if bitsOf v 2 5 = 31 then none else some (sc (miniToDy 5 2 15 v))
  | .e2m3 => some (sc (miniToDy 2 3 1 v))
  | .e3m2 => some (sc (miniToDy 3 2 3 v))
  | .e2m1 => some (sc (miniToDy 2 1 1 v))
  | .int8 => some (sc ⟨signedOf 8 v, -6⟩)

/-- The format carries one E8M0 scale byte per block of 32. -/
def fmtScaled : VecFmt → Bool
  | .fp32 | .bf16 => false
  | _ => true

/-- The largest element exponent of an MX format (R110). -/
def emaxOf : VecFmt → Int
  | .e4m3 => 8 | .e5m2 => 15 | .e2m3 => 2 | .e3m2 => 4 | .e2m1 => 2 | _ => 0

/-- One element of an MX block rounded to nearest even at a scale exponent, saturated at the largest finite magnitude (R111). -/
def encodeElem (f : VecFmt) (x : Int) (a : Dy) : Nat :=
  let y := a.mul ⟨1, -x⟩
  match f with
  | .e4m3 => miniOfDy 4 3 7 0x7E y
  | .e5m2 => miniOfDy 5 2 15 0x7B y
  | .e2m3 => miniOfDy 2 3 1 0x1F y
  | .e3m2 => miniOfDy 3 2 3 0x1F y
  | .e2m1 => miniOfDy 2 1 1 7 y
  | .int8 => patternOf 8 (max (-127) (min 127 (y.mul ⟨1, 6⟩).rne))
  | .bf16 => BF16.ofF32 (F32.ofDy a)
  | .fp32 => (F32.ofDy a).toNat

/-- The largest magnitude of a block. -/
def maxAbs (xs : List Dy) : Dy := xs.foldl (fun m x => if m.lt x.abs then x.abs else m) Dy.zero

/-- The scale byte of a block of 32 (R111). -/
def scaleByte (f : VecFmt) (xs : List Dy) : Nat :=
  let m := maxAbs xs
  if m.m = 0 then 0 else (max 0 (min 254 (m.ilog2 - emaxOf f + 127))).toNat

/-- A block of 32 encoded in an MX format: its scale byte and its elements (R111). -/
def encodeBlock (f : VecFmt) (xs : List Dy) : Nat × List Nat :=
  let b := scaleByte f xs
  (b, xs.map (encodeElem f (Int.ofNat b - 127)))

/-- A block rounded to a format: what reading its encoding gives (R111, R244). -/
def roundBlock (f : VecFmt) (xs : List Dy) : List Dy :=
  if fmtScaled f then
    let (b, es) := encodeBlock f xs
    es.map fun e => (decodeElem f e b).getD Dy.zero
  else xs.map fun x => (decodeElem f (encodeElem f 0 x) 127).getD Dy.zero

/-- Consecutive pieces of `n` elements. -/
def blocksOf {α : Type} (n : Nat) (xs : List α) : List (List α) :=
  (List.range ((xs.length + n - 1) / n)).map fun i => (xs.drop (n * i)).take n

/-- A vector rounded to a format, in blocks of 32. -/
def roundVec (f : VecFmt) (xs : List Dy) : List Dy := ((blocksOf 32 xs).map (roundBlock f)).flatten

/-! ### Pages (R234 to R237) -/

/-- QFMT of KV_SLOT_CFG. -/
def queryFmt : Nat → VecFmt
  | 0 => .bf16
  | 1 => .e4m3
  | _ => .e5m2

/-- The element width of a page format code (R234). -/
def pageBits (code : Nat) : Nat := if code = 0 then 16 else if code ≤ 3 then 8 else 4

/-- The element width of QFMT. -/
def queryBits (q : Nat) : Nat := if q = 0 then 16 else 8

/-- The element format of a page format code, KV4 apart. -/
def pageFmt : Nat → VecFmt
  | 0 => .bf16 | 1 => .e4m3 | 2 => .e5m2 | 3 => .int8 | _ => .e2m1

/-- Codes 0x6 to 0xF are invalid (R234). -/
def pageCodeOk (code : Nat) : Bool := decide (code ≤ 5)

/-- The scale strip is present for codes 0x1 to 0x4 (R234, R236). -/
def hasStrip (code : Nat) : Bool := decide (1 ≤ code) && decide (code ≤ 4)

/-- The smallest power of two that is at least `n` and at least 8,192 (R233). -/
def footprint (n : Nat) : Nat := if n ≤ 8192 then 8192 else 2 ^ (Nat.log2 (n - 1) + 1)

/-- Bytes of a page of H heads: its footprint and its scale strip (R233, R234). -/
def pageCost (code h : Nat) : Nat := footprint (2048 * h * pageBits code) + (if hasStrip code then 512 * h else 0)

/-- A value rounds into the KV4 range at a scale exponent. -/
def kv4Fits (x : Int) (a : Dy) : Bool := let q := (a.mul ⟨1, -x⟩).rne; decide (-8 ≤ q) && decide (q ≤ 7)

/-- The KV4 scale byte that the first token of a page sets for a block (R237): the smallest at which its values fit, raised by KV4_HEAD. -/
def kv4Scale (head : Nat) (xs : List Dy) : Nat :=
  let m := maxAbs xs
  let base : Nat := if m.m = 0 then 0 else (max 0 (min 254 (m.ilog2 - 3 + 127))).toNat
  let up := ((List.range 3).map (· + base)).find? fun b => xs.all (kv4Fits (Int.ofNat b - 127))
  min 254 ((up.getD (base + 2)) + head)

/-- One KV4 element at a scale byte: its pattern, and whether it saturated (R237). -/
def kv4Elem (b : Nat) (a : Dy) : Nat × Bool :=
  let q := (a.mul ⟨1, 127 - Int.ofNat b⟩).rne
  (patternOf 4 (max (-8) (min 7 q)), !(decide (-8 ≤ q) && decide (q ≤ 7)))

/-! ### Decode attention (R230, R244) -/

/-- Minus infinity. -/
def F32.negInf : Word32 := 0xFF800000#32

/-- e^x, 0 at minus infinity. -/
def expF (x : Word32) : Word32 := if x = F32.negInf then 0#32 else Config.expF32 x

/-- The larger of two numbers. -/
def F32.max (x y : Word32) : Word32 := if F32.lt x y then y else x

/-- A fixed pairwise tree over a list, each sum in FP32 (R230). -/
def pairTree : Nat → List Word32 → Word32
  | 0, xs => xs.headD 0#32
  | _, [] => 0#32
  | _, [x] => x
  | n + 1, xs => pairTree n ((blocksOf 2 xs).map fun p => match p with
      | [a, b] => F32.add a b
      | _ => p.headD 0#32)

/-- Exact products accumulated in FP32: a pairwise tree in each block of 32, the blocks in ascending order (R230). -/
def blockDot (xs ys : List Dy) : Word32 :=
  (blocksOf 32 (List.zipWith Dy.mul xs ys)).foldl (fun a b => F32.add a (pairTree 6 (b.map F32.ofDy))) 0#32

/-- The state of one query head: m, l and o (R230). -/
structure AttnState where
  m : Word32
  l : Word32
  o : List Word32
deriving DecidableEq, Repr

/-- The start (−∞, 0, 0). -/
def AttnState.start : AttnState := ⟨F32.negInf, 0#32, List.replicate 128 0#32⟩

/-- The state of a row with a non-finite score: quiet NaNs (R155, R262). -/
def AttnState.nan : AttnState := ⟨0x7FC00000#32, 0x7FC00000#32, List.replicate 128 0x7FC00000#32⟩

/-- The combining step of R230: a block's (m_b, l_b, o_b) joins the state; a NaN stays (R262). -/
def AttnState.merge (a b : AttnState) : AttnState :=
  if F32.isNan a.m || F32.isNan b.m then .nan else
  let mn := F32.max a.m b.m
  let ea := expF (F32.sub a.m mn)
  let eb := expF (F32.sub b.m mn)
  ⟨mn, F32.add (F32.mul a.l ea) (F32.mul b.l eb), List.zipWith (fun x y => F32.add (F32.mul x ea) (F32.mul y eb)) a.o b.o⟩

/-- The attention scale 2^(−3.5) in FP32. -/
def attnScale : Word32 := 0x3DB504F3#32

/-- One page: keys and values by token, as rounded for the product, against a rounded query (R230); a non-finite score makes the row NaN (R262). -/
def pageBlock (q : List Dy) (ks vs : List (List Dy)) : AttnState :=
  let s := ks.map fun k => F32.mul (blockDot q k) attnScale
  if s.any fun x => !F32.finite x then .nan else
  let mb := s.foldl F32.max F32.negInf
  let p := roundVec .e4m3 (s.map fun x => F32.toDy (expF (F32.sub x mb)))
  let lb := blockDot p (p.map fun _ => Dy.ofInt 1)
  ⟨mb, lb, (List.range 128).map fun c => blockDot p (vs.map fun v => v.getD c Dy.zero)⟩

/-- out[c] = o[c] / l, in BF16 (R230). -/
def AttnState.out (a : AttnState) : List Nat := a.o.map fun x => BF16.ofF32 (F32.div x a.l)

/-- The state holds a non-finite number (R262); the start's −∞ apart. -/
def AttnState.bad (a : AttnState) : Bool := !F32.finite a.m || !F32.finite a.l || a.o.any fun x => !F32.finite x

/-- The bound of a page for one query head (R247). -/
def pageBound (q lo hi : List Dy) : Word32 :=
  let t := (List.range 128).map fun c =>
    let a := (q.getD c Dy.zero).mul (lo.getD c Dy.zero)
    let b := (q.getD c Dy.zero).mul (hi.getD c Dy.zero)
    F32.ofDy (if a.lt b then b else a)
  F32.mul ((blocksOf 32 t).foldl (fun a b => F32.add a (pairTree 6 b)) 0#32) attnScale

/-- BF16 rounded down or up, for the coarse index (R246). -/
def bf16Toward (up : Bool) (a : Dy) : Nat :=
  let v := BF16.ofF32 (F32.ofDy a)
  let x := F32.toDy (BF16.toF32 v)
  if (up && x.lt a) || (!up && a.lt x) then
    -- one step towards the wanted side: away from zero when the magnitude must grow
    let grow := if up then decide (0 ≤ a.m) else decide (a.m ≤ 0)
    if grow then (if v % 0x8000 = 0 then (if up then 1 else 0x8001) else v + 1) else v - 1
  else v

end Sys2Proof.Machine
end

