-- ==== Sys2Proof/Machine/PartsServe.lean ====
section
/-! DEFINITION. The state of serving beyond its registers: pages, sequences, till rolls, order-counter slots, paced streams, the scheduler, adapters and tuning jobs (chapters 8 to 10). -/

namespace Sys2Proof.Machine

/-- A page of the key-value cache: 64 positions of one layer (R233, R236). -/
structure Page where
  live    : Bool
  home    : Nat                  -- quarter whose page manager keeps it
  share   : Nat                  -- quarter share of the pool it was taken from (R229)
  place   : Nat                  -- where its data begins in the share, in units of 8,192 bytes (R233)
  grans   : List Nat             -- the granules that its data lies in (R233, R394)
  slot    : Nat
  func    : Nat
  layer   : Nat
  format  : Nat                  -- code of R234
  kvh     : Nat                  -- H − 1
  tokens  : Nat                  -- positions written, 0–64
  narrowed : Bool                -- FLAGS bit 0
  indexed : Bool                 -- FLAGS bit 1
  ref     : Nat
  pin     : Nat
  pinWait : Nat                  -- pins that wait until one drops (R242)
  bad     : List Nat             -- granules that met an uncorrectable error: retired when it is released (R397)
  data    : FMap Nat             -- elements by the index of R235
  strip   : FMap Nat             -- MX scale bytes by the byte of R235
  kv4     : FMap Nat             -- KV4_SCALE bytes
  index   : FMap (Nat × Nat)     -- coarse index: minimum and maximum in BF16 by h × 128 + c (R246)
deriving DecidableEq, Repr

/-- No page. -/
def Page.init : Page :=
  { live := false, home := 0, share := 0, place := 0, grans := [], slot := 0, func := 0, layer := 0, format := 0, kvh := 0, tokens := 0, narrowed := false,
    indexed := false, ref := 0, pin := 0, pinWait := 0, bad := [], data := [], strip := [], kv4 := [], index := [] }

/-- The key and value of one position and layer, H × 128 numbers each, not yet committed (R22, R230). -/
structure KvTok where
  layer : Nat
  pos   : Nat
  k     : List Word32
  v     : List Word32
deriving DecidableEq, Repr

/-- A till record before its index is known (R299). -/
structure TillRec where
  token    : Nat
  position : Nat
  logprob  : Nat
  flags    : Nat                 -- the bits of R300 other than END and PHASE
  last     : Bool
  counts   : Bool                -- a token record, counted in SRV_TOKEN_CNT
  status   : Nat
  gen      : Nat
deriving DecidableEq, Repr

/-- The till roll of a request (R301 to R305), keyed by its function and TICKET. Listed while the request is live. -/
structure Roll where
  func     : Nat
  ticket   : Nat
  addr     : Nat
  len      : Nat
  widx     : Nat                 -- WIDX_ADDR
  vector   : Nat
  modCount : Nat
  modUs    : Nat
  written  : Nat                 -- WIDX
  ridx     : Nat                 -- RIDX as last read
  unsig    : Nat                 -- records since the last message
  since    : Nat                 -- CLK_AO time of the first record not yet signalled
  backlog  : List TillRec        -- records waiting for room
  full     : Bool                -- a read of RIDX has shown the roll full
  pollAt   : Nat                 -- CLK_AO time at which RIDX is read again
deriving DecidableEq, Repr

/-- No roll. -/
def Roll.init : Roll := ⟨0, 0, 0, 0, 0, 0, 0, 0, 0, 0, 0, 0, [], false, 0⟩

/-- The key of a request: its function and TICKET. -/
def reqKey (func ticket : Nat) : Nat := func * 2 ^ 32 + ticket

/-- Where a sequence stands in its present position, chunk or pass. -/
inductive Phase where
  | idle        -- between two positions, the last of which is committed
  | running     -- in a step
  | ended       -- its arithmetic has ended; not yet committed (R22, R285)
deriving DecidableEq, Repr

/-- What a tuning sequence saves of one layer of one position, in BF16 but for the two values rs (R320). -/
structure Saved where
  layer : Nat
  pos   : Nat
  attn  : List Nat               -- normalised attention input before gain
  ff    : List Nat               -- normalised feed-forward input before gain
  gate  : List Nat
  up    : List Nat
  rsA   : Word32
  rsF   : Word32
deriving DecidableEq, Repr

/-- What a sequence of a tuning job holds beside the rest (R317, R320, R321). -/
structure TuneSeq where
  sample  : Nat                  -- its sample's index
  lossFrom : Nat
  batch   : Nat                  -- its batch in the round
  place   : Nat                  -- its place in the batch
  toks    : List Nat             -- the sample's token ids, as far as they are read
  losses  : List (Nat × Word32)  -- log-probability of the next token at each loss position
  dLogits : List (Nat × List Word32)   -- the gradient of the logits at each loss position
  saved   : List Saved
  heads   : List (Nat × Nat × List Nat × List Nat)  -- Q and the attention output: layer, position
  inputs  : List (Nat × Nat × List Nat)   -- the input of each target matrix, as R315 rounds it: REDUCTION_FIRST, vector
deriving DecidableEq, Repr

/-- Nothing held. -/
def TuneSeq.init : TuneSeq := ⟨0, 0, 0, 0, [], [], [], [], [], []⟩

/-- A sequence (R273, R275). -/
structure Seq where
  live     : Bool
  func     : Nat
  ticket   : Nat
  slot     : Nat
  gen      : Nat                 -- GENERATION it is bound to (R223)
  job      : Option Nat          -- its tuning job
  walkup   : Bool
  rollOn   : Bool                -- ROLL flag
  spec     : Bool
  reject   : Bool
  adapter  : Option (Nat × Nat)  -- adapter number and version (R313)
  promptLen : Nat
  promptAddr : Nat
  maxNew   : Nat
  crier    : Nat
  maxDraft : Nat
  temp     : Word32
  topP     : Word32
  topK     : Nat
  seed     : Nat
  stops    : List Nat
  order    : Nat                 -- admission order
  active   : Bool
  home     : Nat                 -- home quarter
  wh       : Nat                 -- weigh house 0–15
  pos      : Nat                 -- position counter: positions whose KV entries are committed
  phase    : Phase
  inStep   : Bool
  first    : Nat                 -- first position of the present position, chunk or pass
  width    : Nat                 -- positions in it
  prefill  : Bool                -- it is a prefill chunk
  drafts   : Nat                 -- draft length of the present pass, 0 = no pass
  keep     : Nat                 -- positions of it whose KV entries commit (R291, R293)
  generated : Nat                -- tokens generated
  lists    : List (List Nat)     -- page list of each layer (R236)
  staged   : List KvTok          -- entries of the present position, not committed
  recs     : List TillRec        -- records of the present position, not committed
  endAs    : Option Nat          -- status it ends with once the present position is committed
  parkDue  : Bool                -- chosen as a victim: it parks at its next boundary (R251)
  image    : Option (List (List Page) × Nat)   -- parked pages by layer, and the store-room granules they take (R422)
  imageAt  : List Nat            -- which granules of the store room those are (R422)
  waking   : Bool                -- resumed: active at the next step marker (R253)
  retries  : Nat                 -- failed reads of its store room (R419)
  promptFails : Nat              -- failed reads of its prompt (R419)
  resumed  : Bool                -- its next record carries RESUMED
  fenced   : Bool                -- the router mask applied to the present position (R216)
  narrow   : Bool                -- a narrow key was widened in the present position
  inspected : Bool               -- an exact result stands on the present position's path
  retracts : Nat                 -- retractions of the present position (R286)
  draft    : Nat                 -- draft length L (R292)
  pauseTo  : Nat                 -- SRV_STEP_CNT at which its speculation pause ends, 0 = none
  pairs    : List (Nat × Nat)    -- pending pairs its uncommitted results depend on: device and step (R377)
  merges   : List (Nat × Nat × Nat × Nat × AttnState)   -- fresh blocks merged: layer, position, head, block (R258)
  stats    : List (Nat × Nat × Nat × Word32 × Word32)   -- row statistics of a tuning job: layer, position, head, m, ln l + m (R261)
  save     : Nat                 -- granules of its save area (R320)
  tune     : TuneSeq             -- what its save area and its sample hold (R317, R320)
  chose    : List (Nat × Nat)    -- experts that the routers of the present position chose: layer, expert (R216)
  masks    : List (Nat × Nat)    -- experts masked for the present position alone (R353)
  redoFrom : Option Nat          -- the layer from which the present position is formed again (R216, R378)
  pairAt   : List ((Nat × Nat) × Nat)   -- the layer into which the input of each pending pair entered (R378)
  crierPos : Nat                 -- positions whose crier KV entries are committed (R291)
  crierTo  : Nat                 -- positions whose crier KV entries are formed; those past crierPos are uncommitted (R291)
deriving DecidableEq, Repr

/-- An unused sequence number. -/
def Seq.init : Seq :=
  { live := false, func := 0, ticket := 0, slot := 0, gen := 0, job := none, walkup := false, rollOn := false, spec := false,
    reject := false, adapter := none, promptLen := 0, promptAddr := 0, maxNew := 0, crier := 0, maxDraft := 0, temp := 0#32,
    topP := 0#32, topK := 0, seed := 0, stops := [], order := 0, active := false, home := 0, wh := 0, pos := 0, phase := .idle,
    inStep := false, first := 0, width := 0, prefill := false, drafts := 0, keep := 0, generated := 0, lists := [], staged := [], recs := [], endAs := none,
    parkDue := false, image := none, imageAt := [], waking := false, retries := 0, promptFails := 0, resumed := false, fenced := false, narrow := false,
    inspected := false, retracts := 0, draft := 0, pauseTo := 0, pairs := [], merges := [], stats := [], save := 0, tune := .init, chose := [], masks := [], redoFrom := none, pairAt := [], crierPos := 0, crierTo := 0 }

/-- One slot of a function's order counter (R267 to R271). -/
structure OSlot where
  body   : FMap Nat              -- the 248 bytes of the slip body
  ticket : Nat
  state  : Nat                   -- 0 FREE, 1 TAKEN, 2 ACCEPTED, 3 REFUSED
  status : Nat
  reason : Nat
  badSeal : Bool                 -- a reserved bit of the seal was set
  order  : Nat                   -- arrival number of its seal at the host port (R270)
deriving DecidableEq, Repr

/-- A free slot. -/
def OSlot.init : OSlot := ⟨[], 0, 0, 0, 0, false, 0⟩

/-- A frame of a paced stream (R296, R297). -/
structure PFrame where
  no      : Nat
  input   : Nat
  output  : Nat
  fmt     : Nat
  release : Nat                  -- release tick
  fails   : Nat                  -- failed reads of its input (R419)
deriving DecidableEq, Repr

/-- A paced stream beyond SRV_PACE_STAT (R294 to R298). -/
structure Pace where
  func     : Nat
  ticket   : Nat
  period   : Nat                 -- CLK_AO cycles, 0 with CLOCK = 0
  openAt   : Nat                 -- CLK_AO time of acceptance
  deadline : Nat
  ticks    : Nat                 -- tick counter
  frames   : List PFrame         -- taken and not complete, in the order taken
  stalls   : List Nat            -- logical stalls reserved
  endAs    : Nat                 -- status of its END record once its frames are done
  pairs    : List (Nat × Nat)    -- pending pairs that its frame's results depend on: device and step (R22, R377)
  tickAt   : Nat                 -- CLK_AO time of its last tick (R296)
deriving DecidableEq, Repr

/-- A closed stream. -/
def Pace.init : Pace := ⟨0, 0, 0, 0, 0, 0, [], [], 0, [], 0⟩

/-- The scheduler beyond its registers (R280 to R284). -/
structure Sched where
  running  : Bool                -- a step is in progress
  startAt  : Nat                 -- CLK_AO time at which the last step, or empty step, started
  prefill  : Bool                -- the step holds a prefill chunk
  good     : Nat                 -- consecutive steps within the target
  orders   : Nat                 -- admissions so far
  seals    : Nat                 -- seals so far
  slotStorm : FMap Nat           -- per slot: SRV_STEP_CNT of the last storm, or of the last doubling (R281)
  lowered  : List (Nat × Nat)    -- functions whose CUR a slot's storm lowered
  lowAt    : FMap Nat            -- per function: SRV_STEP_CNT + 1 of its last storm lowering
  whPos    : FMap Nat            -- per weigh house: positions since its last PARITY or NORM flag, plus 1 (R379)
  arrivals : FMap Nat            -- per quarter: the arrival counter of its page manager (R239)
deriving DecidableEq, Repr

/-- The scheduler at reset. -/
def Sched.init : Sched := ⟨false, 0, false, 0, 0, 0, [], [], [], [], []⟩

/-- A target matrix of an adapter (R310). -/
structure AdpTarget where
  first : Nat                    -- REDUCTION_FIRST
  count : Nat
  dIn   : Nat
  dOut  : Nat
  a     : List Nat               -- A, r × D_IN BF16
  b     : List Nat               -- B, D_OUT × r BF16
deriving DecidableEq, Repr

/-- A live version of an adapter (R312). -/
structure AdpVer where
  no      : Nat
  slot    : Nat
  modelId : Nat
  owner   : Nat
  rank    : Nat
  alpha   : Word32
  targets : List AdpTarget
  grans   : List Nat             -- the granules of the adapter pool that it takes (R311)
deriving DecidableEq, Repr

/-- An adapter number: its versions and its version count. -/
structure Adapter where
  count : Nat
  cur   : Option AdpVer
  old   : List AdpVer            -- versions without currency that are still referenced, oldest first
  next  : List AdpVer            -- loaded, current at the next step marker, in that order
deriving DecidableEq, Repr

/-- An adapter number never loaded. -/
def Adapter.init : Adapter := ⟨0, none, [], []⟩

/-- Live versions of an adapter number (R312). -/
def Adapter.live (a : Adapter) : List AdpVer := a.cur.toList ++ a.old ++ a.next

/-- What one position brings to a stretch of a round's gradient (R321, R323): its batch, sequence and position, and the elements from `off` on. -/
structure GradPart where
  batch : Nat
  place : Nat
  pos   : Nat
  off   : Nat
  vals  : List Word32
deriving DecidableEq, Repr

/-- A tuning job (R317 to R325). -/
structure TuneJob where
  live    : Bool
  func    : Nat
  ticket  : Nat
  slot    : Nat
  adapter : Nat
  samples : Nat
  batch   : Nat
  accum   : Nat
  dataAddr : Nat
  scale   : Word32
  gradAddr : Nat
  maxLen  : Nat
  queue   : List Sample          -- sample table entries read and not yet opened
  taken   : Nat                  -- samples opened
  inBatch : Bool                 -- a batch is open
  done    : Nat                  -- samples completed
  batches : Nat                  -- batches of the round completed
  round   : Nat                  -- rounds written
  bound   : Option Nat           -- version the round is bound to, none before its first batch begins (R324)
  parts   : List GradPart        -- the round's accumulator in tier 1, by contribution (R323)
  lossPos : Nat                  -- loss positions of the round
  lossSum : Word32               -- sum of their log-probabilities
  recAt   : List Nat             -- record index of each round written
  endAs   : Option Nat           -- status it ends with at its next boundary
deriving DecidableEq, Repr

/-- No job. -/
def TuneJob.init : TuneJob :=
  { live := false, func := 0, ticket := 0, slot := 0, adapter := 0, samples := 0, batch := 0, accum := 0, dataAddr := 0, scale := 0#32, gradAddr := 0,
    maxLen := 0, queue := [], taken := 0, inBatch := false, done := 0, batches := 0, round := 0, bound := none, parts := [], lossPos := 0, lossSum := 0#32,
    recAt := [], endAs := none }

end Sys2Proof.Machine
end

