-- ==== Sys2Proof/Machine/PartsHost.lean ====
section
/-! DEFINITION. The state of the functions, the event controller, the clerks and the mode controller beyond their registers (chapters 14 and 15), and what the device sends to the outside. -/

namespace Sys2Proof.Machine

/-- One MSI-X table entry (R412, R413). -/
structure MsixEntry where
  addr : Nat
  data : Nat
  masked : Bool
deriving DecidableEq, Repr

/-- A table entry as PCIe resets it: masked. -/
def MsixEntry.init : MsixEntry := ⟨0, 0, true⟩

/-- A function beyond its registers (R409 to R427). -/
structure Func where
  table    : FMap MsixEntry
  funcMask : Bool
  pend     : List Nat          -- vectors whose pending bit is set, rising
  flrAt    : Option Nat        -- CLK_AO time of the function-level reset in progress (R424)
  cache    : List Nat          -- 4 KiB pages held in the translation cache (R416)
  doeError : Bool              -- DOE Error stands in its mailbox (R427)
  slots    : FMap OSlot        -- the order counter (R267)
  room     : Option (Nat × Nat) -- its registered store room: base and size in granules (R421)
deriving DecidableEq, Repr

/-- A function as reset leaves it. -/
def Func.init : Func := ⟨[], false, [], none, [], false, [], none⟩

/-- A context frame in a clerk's frame slot (R444): the 18 saved words (x1, x5 to x7, x10 to x17, x28 to x31, mepc, mstatus), the level before entry, the source number, and the PRIO at which its handler was entered. -/
structure Frame where
  words  : List Word64
  level  : Nat
  source : Nat
  prio   : Nat
deriving DecidableEq, Repr

/-- A clerk beyond EVC_CLK_CTL and EVC_CLK_STAT. -/
structure Clerk where
  frames : List Frame          -- occupied frame slots, slot 0 first (R444)
  regs   : List Word64         -- the live values of the 18 words a frame saves
  wfi    : Option Nat          -- CLK_AO time at which the clerk executed WFI (R436)
  armed  : Bool                -- EVC_TIMER has still to reach EVC_TMR_CMP (R457)
deriving DecidableEq, Repr

/-- A clerk as reset leaves it. -/
def Clerk.init : Clerk := ⟨[], [], none, false⟩

/-- One entry of a mode record (R449). -/
structure ModeEntry where
  cls    : Nat
  offset : Nat
  mask   : Nat
  value  : Nat
deriving DecidableEq, Repr

/-- The mode controller beyond its registers (R447 to R454). -/
structure ModeCtl where
  entries : List ModeEntry     -- entries of the change in progress
  at0     : Nat                -- CLK_AO time of u0, then of the current phase
  barrier : Nat                -- barrier markers still in a bridge
  openWait : FMap Nat          -- per unit that has not acknowledged OPEN: resends made + 1
  image   : FMap (Nat × Nat)   -- class × 65,536 + offset ↦ bits written through a record, and their values (R453)
deriving DecidableEq, Repr

/-- The mode controller as reset leaves it. -/
def ModeCtl.init : ModeCtl := ⟨[], 0, 0, [], []⟩

/-- A 32-bit half of a 64-bit register that R11 keeps between two accesses of one accessor. -/
structure Half where
  off   : Nat                  -- byte offset of the register plus 2²⁸ × its BAR, plus 1 (0 = none)
  write : Bool                 -- a staged low half of a write, or the latched high half of a read
  value : Nat
deriving DecidableEq, Repr

/-- No half kept. -/
def Half.none : Half := ⟨0, false, 0⟩

/-- What the device sends out: data returned to an accessor, host memory writes, messages, vectors, carts and responses, in order. -/
inductive Out where
  | readData (who value : Nat)
  | hostWrite (func addr : Nat) (bytes : List Byte)
  | hostRead (func addr len : Nat)
  | msix (func vector addr data : Nat)
  | vector (row red tag : Nat) (vals : List Word32)
  | variance (row tag : Nat) (mean var : Word32)
  | frame (port vc first seq ack : Nat) (crs : List Nat) (body : List Byte)
  | control (port msg ack : Nat) (crs fields : List Nat)
  | doe (func : Nat) (bytes : List Byte)
  | spdm (code : Nat) (fields : List Nat)
  | tenant (func code : Nat) (fields : List Nat)
  | i3c (command answer : Nat)
  | pmbus (vr command value : Nat)
  | marker (step : Nat)
  | attention (wh seq layer pos : Nat) (vals : List Nat)
  | attnGrad (wh seq layer pos : Nat) (dq : List Word32) (dkv : List (List Word32 × List Word32))
  | inputGrad (seq tag : Nat) (dx : List Word32)
  | storeRoom (func seq : Nat) (granules : List Nat) (write : Bool)
  | ats (func tag : Nat)
  | aer (func code : Nat)
deriving DecidableEq, Repr

end Sys2Proof.Machine
end

