-- ==== Sys2Proof/Machine/PartsModel.lean ====
section
/-! DEFINITION. The state of the stocking engine and of the porter beyond their registers: the stocking journal, the image table, the running job, model slots with their generations and shards (chapters 6 and 7). -/

namespace Sys2Proof.Machine

/-- The states of a journal entry (R182), in the order of their codes. -/
inductive JState where
  | empty | programming | programmed | touching | verified | unsettled | failed
deriving DecidableEq, Repr

/-- The STATE code of R182. -/
def JState.code : JState → Nat
  | .empty => 0 | .programming => 1 | .programmed => 2 | .touching => 3 | .verified => 4 | .unsettled => 5 | .failed => 6

/-- A journal entry (R196, STK_JRN_DATA), with the times the engine needs for R191 and R192. -/
structure JEntry where
  state  : JState
  count  : Nat
  image  : Nat
  fmt    : Nat
  paired : Bool
deriving DecidableEq, Repr

/-- The entry of a crate that has never been stocked (R3). -/
def JEntry.init : JEntry := ⟨.empty, 0, 0, 0, false⟩

/-- A crate a job, a touch-up restock or a scrub has in hand. -/
structure CrateWork where
  index : Nat            -- physical journal index
  touch : Bool           -- touch-up pass (R185) rather than a program (R175)
  since : Nat            -- the CLK_AO cycle on which the engine took the crate (t0 of R175)
deriving DecidableEq, Repr

/-- A stocking job or a touch-up restock (R184, R188). -/
structure StockJob where
  slot    : Nat                  -- image table slot
  recs    : List (Nat × CrateRec)  -- physical journal index and record of every crate named, in index order
  todo    : List Nat             -- crates still to be programmed
  touch   : List Nat             -- crates still to take a touch-up pass
  restock : Bool                 -- OP 2 rather than OP 1
  abort   : Bool                 -- OP 3 has been written (R186)
  failing : Bool                 -- ends FAILED after the crates in progress (R174, R190)
  settleAt : Nat                 -- WDN_ROUND at which the settle pause ends
  abortAt : Nat                  -- the CLK_AO cycle of the abort (R186)
  addr    : Nat                  -- device address of the image (R170)
deriving DecidableEq, Repr

/-- What a crate was last programmed with: DATA_DIGEST and the level data (R172, R191). -/
structure CrateData where
  digest : Nat
  levels : List Byte
deriving DecidableEq, Repr

/-- A crate that holds no level data. -/
def CrateData.init : CrateData := ⟨0, []⟩

/-- A scrub of one crate (R191). -/
structure Scrub where
  next   : Nat                   -- next crate in index order
  busy   : Option Nat            -- crate being scrubbed
  dueAt  : Nat                   -- WDN_ROUND at which the next slot falls due
  left   : Nat                   -- slots that the crate being scrubbed has still to take, of 65 (R191)
deriving DecidableEq, Repr

/-- A shard of a live generation (R205, R214). -/
structure Shard where
  valid    : Bool
  tier     : Nat                 -- 0 tier 1, 1 tier 2 (where R211 placed it)
  tries    : Nat                 -- refetches made since it was last valid (R215)
  data     : List Byte           -- the plaintext: what tier 1 holds, and what decryption gives of an ENC shard in tier 2
  cipher   : List Byte           -- what tier 2 holds of an ENC shard: its ciphertext (R201)
  scrubAt  : Nat                 -- WDN_ROUND at which it is checked again (R213)
  dropped  : Bool                -- dropped with its fenced expert (R216)
  grans    : List Nat            -- the granules that it takes (R212, R394)
deriving DecidableEq, Repr

/-- A shard that has not arrived. -/
def Shard.init : Shard := ⟨false, 0, 0, [], [], 0, false, []⟩

/-- One weight generation of a model slot (R221). -/
structure Gen where
  man     : Manifest
  shards  : FMap Shard
  kvPages : Nat                  -- KV pool granted (R211)
  srcAddr : Nat                  -- PRT_SRC_ADDR of its load
  pool    : List (List Nat)      -- the granules of each quarter's share of the KV pool (R229, R394)
deriving DecidableEq, Repr

/-- A model slot (R209). Its STATE is PRT_MODEL_STAT.STATE. -/
structure ModelSlot where
  cur     : Option Gen
  prev    : Option Gen
  next    : Option Gen           -- a generation being loaded beside CURRENT
  ready   : Bool                 -- `next` is READY and becomes CURRENT at the next step marker (R223)
  started : Bool                 -- the slot serves: a step marker has passed since READY (R208 step 6)
  fenced  : List Nat             -- EXPERT values masked by the router (R216)
  lifting : List Nat             -- experts whose mask lifts at the next step marker (R217)
  remote  : List Nat             -- experts masked by FENCE carts (R354)
  remoteP : List (Nat × Bool)    -- FENCE (true) and UNFENCE (false) carts waiting for the marker (R354)
deriving DecidableEq, Repr

/-- An empty model slot. -/
def ModelSlot.init : ModelSlot := ⟨none, none, none, false, false, [], [], [], []⟩

end Sys2Proof.Machine
end

