-- ==== Sys2Proof/Machine/PageData.lean ====
section
/-! DEFINITION. What a page of the key-value cache holds: its elements and scales, its index entry, its bytes and its descriptor, and the planes of fresh attention that are formed from pages (R235 to R237, R244, R246, R254, R255). -/

namespace Sys2Proof.Machine

/-! ### Elements (R235, R237, R244, R246) -/

/-- The index of an element in a page's data (R235). -/
def elemIndex (h k head tok c : Nat) : Nat := ((k * h + head) * 64 + tok) * 128 + c
/-- The byte of an MX scale in a strip (R235). -/
def stripIndex (h k head tok c : Nat) : Nat := ((k * h + head) * 64 + tok) * 4 + c / 32
/-- The byte of a KV4 scale (R236). -/
def kv4Index (h k head c : Nat) : Nat := (k * h + head) * 4 + c / 32

/-- Write one 32-channel block of a token; answers how many elements saturated. DESIGN CHOICE (log entry 101): a block with a non-finite number takes scale byte 0xFF and zero elements in an MX format, keeps its BF16 patterns in BF16, and saturates like any number in KV4. -/
def Page.writeBlock (p : Page) (kv4Head k head tok b : Nat) (ws : List Word32) : Page × Nat :=
  let h := p.kvh + 1
  let xs := ws.map F32.toDy
  let put (p : Page) (es : List Nat) : Page :=
    { p with data := (es.zipIdx).foldl (fun m (e, i) => FMap.set 0 m (elemIndex h k head tok (32 * b + i)) e) p.data }
  if p.format = 5 then
    let i := kv4Index h k head (32 * b)
    let sc := if p.tokens = 0 then kv4Scale kv4Head xs else FMap.get 0 p.kv4 i
    let es := xs.map (kv4Elem sc)
    (put { p with kv4 := FMap.set 0 p.kv4 i sc } (es.map (·.1)), (es.filter (·.2)).length)
  else if p.format = 0 then (put p (ws.map BF16.ofF32), 0)
  else if ws.any fun w => !F32.finite w then
    (put { p with strip := FMap.set 0 p.strip (stripIndex h k head tok (32 * b)) 255 } (ws.map fun _ => 0), 0)
  else
    let (sc, es) := encodeBlock (pageFmt p.format) xs
    (put { p with strip := FMap.set 0 p.strip (stripIndex h k head tok (32 * b)) sc } es, 0)

/-- The block of a key or value vector. -/
def blockAt (v : List Word32) (head b : Nat) : List Word32 :=
  (List.range 32).map fun i => v.getD (head * 128 + 32 * b + i) 0#32

/-- Write the key and value of the page's next position. -/
def Page.append (p : Page) (kv4Head : Nat) (t : KvTok) : Page × Nat :=
  let tok := p.tokens
  let (q, n) := (List.range ((p.kvh + 1) * 4)).foldl (fun (x : Page × Nat) j =>
    let (a, i) := x.1.writeBlock kv4Head 0 (j / 4) tok (j % 4) (blockAt t.k (j / 4) (j % 4))
    let (b, k) := a.writeBlock kv4Head 1 (j / 4) tok (j % 4) (blockAt t.v (j / 4) (j % 4))
    (b, x.2 + i + k)) (p, 0)
  ({ q with tokens := tok + 1 }, n)

/-- The value of an element, as element × scale (R244). -/
def Page.elem (p : Page) (k head tok c : Nat) : Dy :=
  let h := p.kvh + 1
  let e := FMap.get 0 p.data (elemIndex h k head tok c)
  if p.format = 5 then ⟨signedOf 4 e, Int.ofNat (FMap.get 0 p.kv4 (kv4Index h k head c)) - 127⟩
  else if p.format = 0 then (decodeElem .bf16 e 127).getD Dy.zero
  else (decodeElem (pageFmt p.format) e (FMap.get 0 p.strip (stripIndex h k head tok c))).getD Dy.zero

/-- An element is a finite number: its pattern is, and its block's scale byte is not 0xFF (R112). -/
def Page.elemFinite (p : Page) (k head tok c : Nat) : Bool :=
  let h := p.kvh + 1
  let e := FMap.get 0 p.data (elemIndex h k head tok c)
  if p.format = 5 then true
  else if p.format = 0 then (decodeElem .bf16 e 127).isSome
  else FMap.get 0 p.strip (stripIndex h k head tok c) != 255 && (decodeElem (pageFmt p.format) e 127).isSome

/-- Every key and value of a head that the page holds is finite. -/
def Page.headFinite (p : Page) (head : Nat) : Bool :=
  (List.range p.tokens).all fun t => (List.range 128).all fun c => p.elemFinite 0 head t c && p.elemFinite 1 head t c

/-- One key or value of a head as the product sees it: widened to QFMT when the page's format differs and is no wider (R244). -/
def Page.widened (p : Page) (qfmt k head tok : Nat) : List Dy :=
  let xs := (List.range 128).map (p.elem k head tok)
  if pageBits p.format ≤ queryBits qfmt && pageFmt p.format != queryFmt qfmt then roundVec (queryFmt qfmt) xs
  else if p.format = 5 then roundVec (queryFmt qfmt) xs else xs

/-- The coarse index entry of a full page: per head and channel the minimum rounded down and the maximum rounded up to BF16 (R246). -/
def Page.makeIndex (p : Page) (qfmt : Nat) : Page :=
  let h := p.kvh + 1
  let keys := (List.range h).map fun hd => (List.range 64).map fun t => p.widened qfmt 0 hd t
  let lo (xs : List Dy) : Dy := xs.foldl (fun m x => if x.lt m then x else m) (xs.headD Dy.zero)
  let hi (xs : List Dy) : Dy := xs.foldl (fun m x => if m.lt x then x else m) (xs.headD Dy.zero)
  { p with
    indexed := true,
    index := (List.range (128 * h)).foldl (fun m i =>
      let col := (keys.getD (i / 128) []).map fun v => v.getD (i % 128) Dy.zero
      FMap.set (0, 0) m i (bf16Toward false (lo col), bf16Toward true (hi col))) [] }

/-- A page rewritten as KV4 (R251, R237). -/
def Page.toKv4 (p : Page) (kv4Head : Nat) : Page × Nat :=
  if pageBits p.format ≤ 4 then (p, 0) else
    let h := p.kvh + 1
    let vec (k tok : Nat) : List Word32 := ((List.range h).map fun hd => (List.range 128).map fun c => F32.ofDy (p.elem k hd tok c)).flatten
    (List.range p.tokens).foldl (fun (x : Page × Nat) t =>
      let (q, n) := x.1.append kv4Head ⟨p.layer, t, vec 0 t, vec 1 t⟩
      (q, x.2 + n)) ({ p with format := 5, tokens := 0, narrowed := true, data := [], strip := [], kv4 := [] }, 0)

/-! ### Bytes of a page (R235, R236) -/

/-- Byte i of the element data: elements in the order of their index, 4-bit elements two to a byte with the even index in bits [3:0], wider ones little-endian (R235). -/
def Page.dataByte (p : Page) (i : Nat) : Byte :=
  let e (j : Nat) : Nat := FMap.get 0 p.data j
  BitVec.ofNat 8 (match pageBits p.format with
    | 4 => e (2 * i) % 16 + 16 * (e (2 * i + 1) % 16)
    | 8 => e i
    | _ => if i % 2 = 0 then e (i / 2) % 256 else e (i / 2) / 256)

/-- Byte i of the scale strip (R235). -/
def Page.stripByte (p : Page) (i : Nat) : Byte := BitVec.ofNat 8 (FMap.get 0 p.strip i)

/-- Byte i of the coarse index entry: minimum, then maximum, in BF16 for each head and channel (R246). -/
def Page.indexByte (p : Page) (i : Nat) : Byte :=
  let w := FMap.get (0, 0) p.index (i / 4)
  let v := if i % 4 < 2 then w.1 else w.2
  BitVec.ofNat 8 (if i % 2 = 0 then v % 256 else v / 256)

/-- The device address of a page's element data: in its first granule, which smaller pages share (R233, R236). -/
def Page.dataAddr (p : Page) : Nat := granAddr (p.grans.headD 0) + 8192 * (p.place % 8)

/-- The 256-byte descriptor of a page (R236); where its strip and its index entry lie, the spec leaves to the device (log entry 84). -/
def Page.descriptor (p : Page) (id : Nat) : List Byte :=
  leBytes 8 p.dataAddr ++ leBytes 1 p.format ++ leBytes 1 p.tokens ++ leBytes 1 p.kvh ++ leBytes 1 (ofBool p.narrowed + 2 * ofBool p.indexed)
    ++ leBytes 2 p.ref ++ leBytes 2 p.pin ++ leBytes 2 p.layer ++ leBytes 1 p.slot ++ leBytes 1 p.func ++ leBytes 4 0
    ++ leBytes 8 (if hasStrip p.format then Config.stripAddr id else 0) ++ leBytes 8 (if p.indexed then Config.indexAddr id else 0) ++ leBytes 24 0
    ++ (List.range 128).map (fun i => BitVec.ofNat 8 (if p.format = 5 then FMap.get 0 p.kv4 i else 0)) ++ leBytes 64 0

/-! ### Planes of fresh attention (R254, R255) -/

/-- S of a 32-channel block: the largest KV4 scale byte among the pages (R255); `k` 0 for keys, 1 for values. -/
def planeScale (ps : List Page) (k head c : Nat) : Nat := (ps.map fun p => FMap.get 0 p.kv4 (kv4Index (p.kvh + 1) k head c)).foldl max 0

/-- An element aligned to S: shifted right by the exponent difference, half rounded to even, saturated (R255). -/
def alignedElem (p : Page) (sc k head tok c : Nat) : Int :=
  let e := signedOf 4 (FMap.get 0 p.data (elemIndex (p.kvh + 1) k head tok c))
  max (-8) (min 7 (Dy.scaled e (Int.ofNat (FMap.get 0 p.kv4 (kv4Index (p.kvh + 1) k head c)) - Int.ofNat sc)).rne)

/-- Σv of one column of a V plane over its 512 rows: the positions of 8 pages (R255). -/
def planeSum (ps : List Page) (half head c : Nat) : Int :=
  let sc := planeScale ps 1 head c
  (((ps.drop (8 * half)).take 8).map fun p => ((List.range 64).map fun t => alignedElem p sc 1 head t c).foldl (· + ·) 0).foldl (· + ·) 0

/-- The signed weight of row i and column c in the plane of a fresh attention stall (R254): `which` is 0 for K0, 1 for K1, 2 for V0, 3 for V1. Missing heads and positions are zero. -/
def attnQ (ps : List Page) (which i c : Nat) : Int :=
  let at' (k head pos ch : Nat) : Int :=
    match ps[pos / 64]? with
    | some p => if head ≤ p.kvh ∧ pos % 64 < p.tokens then alignedElem p (planeScale ps k head ch) k head (pos % 64) ch else 0
    | none => 0
  if which < 2 then at' 0 (4 * which + i / 128) c (i % 128) else at' 1 (c / 128) (512 * (which - 2) + i) (c % 128)

end Sys2Proof.Machine
end

