-- ==== Sys2Proof/Machine/PartsRow.lean ====
section
/-! DEFINITION. The state of stalls, rows and the inspector beyond their registers: queues, staging banks, strikes in flight, narrow records, overflow units, tiles, reductions and disputes (chapters 2 to 5 and 12). -/

namespace Sys2Proof.Machine

/-- Who holds a drain (R162). -/
inductive Requester where
  | mode | cal | bst | rst | cmd | heat
deriving DecidableEq, Repr

/-- A staging bank: nibbles and drive-scale codes; a missing nibble is 0, a missing scale entry 15 (R39, R40). -/
structure Bank where
  nibbles : List Nat
  scales  : List Nat
deriving DecidableEq, Repr

/-- The bank as a reset leaves it: every nibble 0, every scale entry 15 (R40). -/
def Bank.empty : Bank := ⟨[], []⟩

/-- What the weight SRAM of a fresh plane holds (R35): the bytes of a stream entry that the porter read (R218), or what it formed for fresh attention from the 16 pages of a block (R254, R255). -/
inductive PlaneRam where
  | empty
  | stream (t : Stream) (bytes : List Byte)
  | attention (ps : List Page) (which : Nat)
deriving DecidableEq, Repr

/-- What the checksum SRAM of an output group was formed from (R363): the bytes of the STOCKED shard and the tile's offset in them. -/
structure Ledger where
  bytes  : List Byte
  offset : Nat
deriving DecidableEq, Repr

/-- No ledger rows. -/
def Ledger.none : Ledger := ⟨[], 0⟩

/-- How far a strike has come. -/
inductive Stage where
  | issued          -- codes not yet at the tally engine
  | corrected       -- every code corrected and every check passed; waits for its passes (R99)
  | clipped         -- a stock or fresh data column clipped: discarded, to be struck again (R122)
  | replaying       -- discarded, and its replay or split descriptors have been written (R122)
  | disputed        -- failed its check: held for the inspector (R368)
  | exact           -- to be filled by the inspector's exact value (R584)
  | released        -- its values are in accumulation; kept until its pair comparison ends (R374)
deriving DecidableEq, Repr

/-- Why a strike was made. -/
inductive StrikeKind where
  | work | probe
deriving DecidableEq, Repr

/-- One strike (or widened pair, or transpose strike) from issue to release. -/
structure Strike where
  no      : Nat            -- STL_STRIKES once its edges are counted
  edge    : Nat            -- the row's strike edge it issued at
  desc    : Desc
  kind    : StrikeKind
  stage   : Stage
  drive   : List Int       -- signed drive codes latched at t0 (high nibbles of a pair)
  low     : List Int       -- the pair's low nibbles
  scales  : List Nat       -- drive-scale codes latched at t0
  fdrive  : List Int       -- fresh slot codes latched at t0
  fscales : List Nat
  xs      : List Dy        -- corrected stock values before outlier_sum (pair: 16 x_h + x_l), R92, R128; of a probe in conversion, the E_j it is compared with (R371)
  xh      : List Dy        -- the pair's high-nibble values, kept for the verdict (R376)
  xl      : List Dy        -- the pair's low-nibble values
  fxs     : List Dy        -- corrected fresh values
  clips   : Nat            -- how many strikes of this vector and group clipped before this one (R122)
  half    : Nat            -- 0 whole, 1 first half of a split, 2 second half, 3 its values are not wanted
  origMask  : Nat          -- the original descriptor's MASK and RANGE (R122)
  origRange : Nat
  entry   : Bool           -- holds a reorder store entry (R150)
  job     : Nat            -- the inspector job of a disputed strike, 0 = none
  suspect : List Nat       -- slices (4 × channel + slice) whose codes carry the suspect flag (R55)
  trims   : FMap Nat       -- the stall's trim entries in effect at its edge (R93)
  plane   : PlaneRam       -- the plane that its fresh part strikes
  chanmap : Nat            -- channel groups that failed (R381)
  pairOpen : Bool          -- a paired comparison has not ended (R374)
  diffs    : List Int      -- the eight d_k of its check, in units of 0.001 % of full scale (R381)
  red      : Nat           -- reduction and sequence of a released strike whose pair comparison is open
  seq      : Nat
  goals    : FMap Nat       -- the stall's target trim entries at its edge (R93, R467)
  idle     : Bool          -- a probe of a returning lane, struck at an idle edge (R376)
  isExact  : Bool          -- its values are the inspector's, after a verdict of result wrong (R376, R584)
deriving DecidableEq, Repr

/-- What the row scheduler names for a vector: the tile (or stream entry) it feeds and the model it belongs to. -/
structure Feed where
  group : Nat              -- output group, or 4 + k + 16m for the m-th fresh matrix that takes the vector's inputs 512k to 512k + 511
  slot  : Nat              -- model slot
  gen   : Nat              -- its GENERATION (R221)
  src   : Nat              -- SOURCE of R206: pitch map index, or stream index + 0x8000_0000
  trans : Bool             -- a transpose strike, which feeds the entry's transpose reduction (R319)
deriving DecidableEq, Repr

/-- An overflow pass (R98): its vector, output group and channel, and the tile whose row it needs. -/
structure Pass where
  tag   : Nat
  group : Nat
  chan  : Nat
  failed : Bool            -- its ledger row could not be read (R102)
  beyond : Bool            -- a pass of an A8 vector beyond DYN_MAX (R101)
  feed  : Feed
deriving DecidableEq, Repr

/-- A ledger row in the cache of an overflow unit: the tile as its ledger copy stands (the weight generation, its shard and the offset there), and the channel (R98, R203). -/
structure RowKey where
  slot   : Nat
  gen    : Nat
  shard  : Nat
  offset : Nat
  chan   : Nat
deriving DecidableEq, Repr

/-- A vector in one of the row's source buffers (R114). -/
structure Vec where
  tag    : Nat
  stall  : Nat             -- physical stall
  trans  : Bool            -- a transpose input y (R60)
  vals   : List Word32     -- FP32, after the decoding of R110
  done   : Bool            -- quantised; kept until every strike has issued (R114)
  left   : List Nat        -- feeds (by group) whose strike has not issued
  feeds  : List Feed
  seq    : Nat             -- the sequence it belongs to, 0xFFFF = none
  probs  : Bool            -- the numbers 15p − 8 of fresh attention, driven at exponent 0 (R257)
  redo   : List Word32     -- its elements, when a residue mismatch has discarded its adapter partials; else empty (R316)
deriving DecidableEq, Repr

/-- The narrow record of a vector (R114). -/
structure Narrow where
  tag    : Nat
  a8     : Bool
  fresh  : Bool
  trans  : Bool
  codes  : List Int
  scales : List Nat
  kmax   : Int
  kgs    : List Int
  desig  : List (Nat × Nat)      -- designated channels with their BF16 values (R95)
  dyn    : List (Nat × Nat)      -- dynamic outliers with their BF16 values (R97, R98)
  feeds  : List Feed
  left   : List Nat              -- feeds (by group) whose strike has not been released
  seq    : Nat                   -- the sequence it belongs to, 0xFFFF = none
  void   : List Nat              -- feeds (by group) whose values are discarded on release (R157)
  banked : Bool                  -- its stock vector stands in a staging bank
  slots  : List (Nat × Nat)      -- fresh slots that hold slices of it, newest first: slot and slice
  redo   : List Word32           -- the vector's elements, when its adapter partials are to be formed again; else empty (R316)
  badLane : List Nat             -- feeds (by group) an overflow pass of which met a residue mismatch (R367)
deriving DecidableEq, Repr

/-- A stall beyond its registers. -/
structure Stall where
  queue    : List Desc           -- at most 16 (R42), arrival order
  held     : List Desc           -- held in the row switch: EN = 0, queue full, or a drain (R70, R162)
  banks    : List Bank           -- four staging banks (R39)
  pair23   : Bool                -- pair 2–3 holds an A8 vector (R41)
  pairHold : Option (Nat × Nat)  -- the low-nibble edge of the last widened pair, and its SLOT (R40)
  freshEdge : Nat                -- the row edge after the last one at which a fresh strike issued; 0 when none has
  mapEff   : Nat                 -- the slice map in effect (R66, R75)
  busyTo   : Nat                 -- first row edge at which the next descriptor may strike
  convTo   : Nat                 -- first row edge with no forward conversion in progress (R62)
  transTo  : Nat                 -- first row edge at which a forward strike may follow a transpose strike (R62)
  drains   : List Requester      -- requesters that hold the stall drained (R162)
  drained  : Bool                -- the drain has completed
  early    : List Requester      -- releases that arrived before completion (R162)
  calBlock : Bool                -- a BLOCK run holds the descriptors (R461)
  lastUsed : Nat                 -- CLK_AO time of the last work, for the idle rules (R487)
  inflight : List Strike         -- issued, not yet released, in issue order (R14)
  markers  : List Desc           -- refused descriptors whose refusal markers have not reached the tally engine (R46)
  narrow   : List Narrow         -- at most two narrow-store entries (R114)
  waiting  : List Narrow         -- staged vectors whose bank write the row switch holds (R40)
  passes   : List Pass           -- overflow passes, the first 16 in the unit's queue (R100)
  cache    : List RowKey         -- last 8 ledger rows fetched, newest first (R98)
  planeCnt : Nat                 -- plane load count, source of content tags (R219)
  planeReq : List PlaneSrc       -- porter requests, at most 4
  reloads  : List (Nat × Option PlaneSrc × PlaneRam)   -- planes lost in bias-off that the porter loads again: tag, entry, content (R25)
  plane0   : Option PlaneSrc     -- what plane 0 holds or is loading
  plane1   : Option PlaneSrc
  tag0     : Nat                 -- the content tag that the load of plane 0 will carry (R219)
  tag1     : Nat
  ram0     : PlaneRam            -- weight SRAM of plane 0
  ram1     : PlaneRam
  csum     : FMap Ledger         -- checksum SRAM, by output group (R363)
  osram    : FMap (List Byte)    -- outlier SRAM: 32 rows of 4,096 columns × 4 bits (R94)
  osramBad : List Nat            -- outlier SRAM rows awaiting reload after a parity error (R96)
  offLimit : List Nat            -- slices (4 × channel + slice, a spare 32 + channel) out of limit since their last good window (R55)
  trimsNow : FMap Nat            -- trim entries in effect, by column (R91, R467)
  trimsTo  : FMap Nat            -- target trims, by column (R93)
  trimsFrom : FMap Nat           -- entries in effect when the steps in progress began (R467)
  trimStep : FMap (Nat × Nat)    -- per group (4 = fresh): next step 1–16, 0 when none, and the group's strike edges since the last (R467)
  sliceTrim : FMap (Int × Int)   -- slice gain and offset trims in effect, by 5 × channel + slice: 2⁻¹⁴, and 1/128 code (R52)
  sliceTo  : FMap (Int × Int)    -- their targets, in the fields of R52: 2⁻¹⁴, and 1/8 code
  lines    : FMap Nat            -- the stall's repair entries in effect since its last strike edge (R32, R478)
  rowTrim : FMap (Int × Int)     -- row-sense gain and offset trims, by converter 0–63 (R466)
  desig    : List Nat            -- index list beside the outlier SRAM (R94)
  perms    : FMap (List Nat)     -- input permutation of each output group's tile: 8,192 source indices, none when empty (R203, R208)
  stormAt  : Nat × Nat × Nat     -- STL_STRIKES, STL_TRANS_STRIKES, STL_WIDE_PAIRS at the window start (R130)
  probeRot : Nat                 -- next channel group for the canary (R369)
  laneGrp  : Nat                 -- the group from which the rotation of the lane's return probes goes on (R376)
  lane     : Nat                 -- probes passed since the checksum reload ended (R376)
  laneCan  : Nat                 -- canary evaluations that failed as required in that time
  recents  : List Nat            -- steps of the lane's checker-wrong verdicts (R376)
  idleProbe : Bool               -- checksum reload has ended: probe at idle edges (R376)
deriving DecidableEq, Repr

/-- A stall as reset leaves it. -/
def Stall.init : Stall :=
  { queue := [], held := [], banks := [Bank.empty, Bank.empty, Bank.empty, Bank.empty], pair23 := false, pairHold := none, freshEdge := 0,
    mapEff := 0x924924, busyTo := 0, convTo := 0, transTo := 0, drains := [], drained := false, early := [],
    calBlock := false, lastUsed := 0, inflight := [], markers := [], narrow := [], waiting := [], passes := [], cache := [],
    planeCnt := 0, planeReq := [], reloads := [], plane0 := none, plane1 := none, tag0 := 0, tag1 := 0, ram0 := .empty, ram1 := .empty,
    csum := [], osram := [], osramBad := [], offLimit := [], trimsNow := [], trimsTo := [],
    trimsFrom := [], trimStep := [], sliceTrim := [], sliceTo := [], lines := [], rowTrim := [], desig := [], perms := [], stormAt := (0, 0, 0), probeRot := 0, laneGrp := 0, lane := 0, laneCan := 0,
    recents := [], idleProbe := false }

/-- Per stall and stock output group: what the registers of R107 and R138 do not hold. -/
structure Group where
  gamma  : Word32                -- γ̂ in FP32 (R86)
  zeta   : Word32                -- ζ̂ in FP32
  fastLeft : Nat                 -- qualifying strikes left in fast mode (R87)
  refZ   : Word32                -- moving mean of the REF_Z code (R90; its start at 128 and its keeping per group, log entry 30)
  beyond : Bool                  -- the drift estimate passed its limit since the last calibration run (R88)
  msq    : Dy                    -- m of R120
  hasMsq : Bool                  -- m has been started from the manifest's RANGE
  tmsq   : Dy                    -- m of the group's transpose strikes (R322)
  trange : Nat                   -- its transpose RANGE
  struck : Bool                  -- struck in the current step (R127)
  fired  : Bool                  -- a widening trigger fired in the current step (R127)
  probeCnt : Nat                 -- stock strike edges since the last probe (R370)
  probeDue : Bool
  probeE : List Dy               -- E_j of the probe table (R371); empty = none recorded
  probeR : Nat                   -- RANGE recorded with E_j
  overRuns : Nat                 -- consecutive runs that measured above σ_B (R84)
  sigmaR : FMap Nat              -- σ measured at RANGE 0–2 and 13–15 (R82)
  withdrawn : Bool               -- CHK_STALL_STAT.WITHDRAWN (R371, R376)
  scrubBad : Bool                -- a scrub mismatch: served as for a shuttered stall until restocked (R192)
  sigmaT : Nat                   -- measured transpose σ in units of 0.001 %, 0 = none (R366, R466)
deriving DecidableEq, Repr

/-- A group after cold power-on or a device reset: the pair is (1, 0), the group is in fast mode (R86), and it is withdrawn (R536). -/
def Group.init : Group :=
  { gamma := 0x3F800000#32, zeta := 0#32, fastLeft := 64, refZ := 0x43000000#32, beyond := false, msq := Dy.zero, hasMsq := false, tmsq := Dy.zero, trange := 0,
    struck := false, fired := false, probeCnt := 0, probeDue := false, probeE := [], probeR := 0, overRuns := 0,
    sigmaR := [], withdrawn := true, scrubBad := false, sigmaT := 0 }

/-- One column of one eighth (R144, R146). -/
structure Col where
  acc  : Word32                          -- FP32 wide accumulator
  run  : Option (Nat × Int × Int × Nat)  -- open run: w_c, k_max + E, Σp, count
  no   : Nat                             -- runs and lone promotions closed so far (R145)
deriving DecidableEq, Repr

/-- An accumulator that opens (R146). -/
def Col.init : Col := ⟨0#32, none, 0⟩

/-- One part of what a position brings to accumulation (R141 to R143, R584). -/
inductive PVec where
  | analog (coltab : Nat) (kmax e : Int) (xs : List Dy)
  | lone (coltab : Nat) (kmax : Int) (xs : List Dy)
  | digital (vals : List Word32)
deriving DecidableEq, Repr

/-- A released position: a split brings two parts, lower crates first (R122). -/
structure Release where
  eighth  : Nat
  ordinal : Nat
  parts   : List PVec
  entry   : Bool                 -- holds a reorder store entry (R150)
  cols    : List Nat             -- the columns that its elements belong to, in order; empty: column i for element i (R319)
deriving DecidableEq, Repr

/-- One instance of a reduction (R583). -/
structure Inst where
  red    : Nat                   -- reduction identity
  tag    : Nat                   -- the vector
  slot   : Nat
  gen    : Nat
  canon  : Bool
  seed   : Nat                   -- seed it opened with (R148)
  eighths : List (List Col)      -- eight lists of columns; free mode uses the first
  taken  : List (Nat × Nat)      -- positions taken
  waiting : List Release         -- released, waiting for a lower ordinal (R150)
  remote : List Nat              -- eighths received in PART carts (R151)
  seen   : List (Nat × Nat × Narrow × Feed × Nat)  -- the positions released so far, each with its narrow record, feed and stall (R162, R584)
  handed : Bool                  -- handed to the inspector as a whole (R157)
  whole  : Bool                  -- after a handover: every eighth of this device is formed here (R584)
  pieces : List (Nat × List Word32)  -- input slices, by SOURCE, that an adapter's product waits for (R315)
  digitals : List Release        -- digital partials kept for re-forming (R584)
  seq    : Nat                   -- the sequence it belongs to, 0xFFFF = none
deriving DecidableEq, Repr

/-- A strike of a shuttered tile whose position waits (R471): its stall, descriptor, reduction, sequence, and the time it began to wait. -/
structure ShutWait where
  stall : Nat
  desc  : Desc
  red   : Nat
  seq   : Nat
  since : Nat
deriving DecidableEq, Repr

/-- The values that a fresh attention strike brought (R256, R258): its stall, its vector, and the 1,024 results in FP32. -/
structure AttnRes where
  stall : Nat
  tag   : Nat
  vals  : List Word32
deriving DecidableEq, Repr

/-- A descriptor that waits at its row scheduler (R283). -/
structure RowDesc where
  stall : Nat                    -- physical stall
  cls   : Nat                    -- 0 decode and verify, 1 paced frames, 2 prefill
  desc  : Nat                    -- its 128 bits
  no    : Nat                    -- its count on the arrival counter
deriving DecidableEq, Repr

/-- A row beyond its registers. -/
structure Row where
  edge    : Nat                  -- strike edges of the row's strike clock (R28)
  bufs    : FMap Vec             -- source buffers 0–7 (R114)
  cmds    : List (Nat × Nat × Nat)  -- TAL_TILE_CMD writes waiting for the step marker: stall, group, OP (R139)
  seed    : Nat                  -- TAL_ACC_SEED in effect (R148)
  insts   : List Inst            -- open reduction instances
  subst   : Option Nat           -- the physical stall the spare serves for (R479)
  tref    : Int                  -- T_ref in units of 0.1 °C (R469)
  steps   : Nat                  -- step markers since reset, for idle work
  stkHot : Bool                  -- above 85 °C: no crate starts until 80 °C (R180)
  stormStep : Nat                -- TAL_STEP_CNT of the last WIDE_STORM evaluation (R130)
  stormNew : Bool                -- the scheduler has not yet taken the last storm map (R131)
  shutFor : List ShutWait        -- strikes of shuttered tiles that wait (R471)
  vecWait : List (Nat × VecIn)   -- vectors that arrived, for a source buffer, while the row slept (R26)
  attn    : List AttnRes         -- results of fresh attention strikes not yet merged (R258)
  waiting : List RowDesc         -- descriptors that its row scheduler received and has not sent (R283)
  arrived : Nat                  -- the row scheduler's arrival counter (R283)
deriving DecidableEq, Repr

/-- The vector of an unused source buffer. -/
def Vec.none : Vec := ⟨0, 0, false, [], false, [], [], 0xFFFF, false, []⟩

/-- A row as reset leaves it. -/
def Row.init : Row :=
  { edge := 0, bufs := [], cmds := [], seed := 0, insts := [], subst := .none, tref := 0, steps := 0, stkHot := false, stormStep := 0, stormNew := false, shutFor := [], vecWait := [], attn := [], waiting := [], arrived := 0 }

/-- What an inspector job is for (R375). -/
inductive JobKind where
  | dispute (strike : Nat)                          -- a failed check (R368)
  | paired (strike stall2 strike2 : Nat)            -- a pair mismatch (R374)
  | strike (desc : Desc)                            -- one strike handed over, or shuttered service (R122, R470)
  | cal (group vec : Nat)                           -- a replay of a calibration run: its group, and which vector (R462)
  | whole                                           -- a whole instance (R157, R584)
deriving DecidableEq, Repr

/-- An inspector job (R375). -/
structure Job where
  id     : Nat
  cls    : Nat                   -- 0 disputes and handovers, 1 shuttered service and calibration replays
  kind   : JobKind
  stall  : Nat                   -- global stall: row × 64 + physical stall
  group  : Nat                   -- output group, or the fresh feed's group
  tag    : Nat                   -- the vector
  red    : Nat                   -- reduction identity
  seq    : Nat                   -- the sequence of its vector, 0xFFFF = none
  queued : Nat                   -- CLK_AO time of queueing
  held   : Bool                  -- held at its tally engine: 4,095 jobs are queued (R383)
  late   : Bool                  -- its deadline has passed (R376)
  again  : Bool                  -- a class-1 replay being run once more (R375)
  running : Bool
deriving DecidableEq, Repr

/-- The job is a replay of a calibration run (R462). -/
def Job.ofRun (j : Job) : Bool := match j.kind with
  | .cal _ _ => true
  | _ => false

/-- The job judges a pair mismatch (R374). -/
def Job.ofPair (j : Job) : Bool := match j.kind with
  | .paired _ _ _ => true
  | _ => false

end Sys2Proof.Machine
end

