-- ==== Sys2Proof/Machine/PartsSec.lean ====
section
/-! DEFINITION. The state of the memory tiers, of the charter, of keys and sessions, of the fault log and of start-up, beyond their registers (chapters 13, 18 and 19). -/

namespace Sys2Proof.Machine

/-- The memory tiers beyond their registers (R390 to R401). A granule of tier 1 has its number of R392 as its key, one of tier 2 that of R393 plus 2⁴⁰. -/
structure MemState where
  dataGran : FMap Nat            -- data-capacity granules that the parts of channel 0–15 give
  retired  : List Nat            -- the non-volatile retire lists
  extra    : List Nat            -- granules retired until the next reset, the list being full
  due      : List Nat            -- granules that met an uncorrectable error and are not yet retired (R398)
  ces      : List (Nat × Nat)    -- corrected errors: granule and WDN_ROUND
  access   : FMap Nat            -- CLK_AO time of the last access of each channel
  passEnd  : FMap Nat            -- WDN_ROUND at which the patrol pass of each unit ends
  linesRead : FMap Nat           -- lines that each unit's pass has read
  passLate : FMap Nat            -- 1 while a unit's pass runs on after its period
  retrainAt : FMap Nat           -- WDN_ROUND of each unit's last periodic retraining
deriving DecidableEq, Repr

/-- The tiers before their first training. -/
def MemState.init : MemState := ⟨[], [], [], [], [], [], [], [], [], []⟩

/-- What the accepted charter gives beyond registers (R512, R514). -/
structure Charter where
  keys     : List (List Byte)    -- the uncompressed public key of each key slot
  svn      : Nat
  fwSvn    : Nat
  kvMin    : Nat
  t1Reserve : Nat
  keyHost  : Bool
  pmbusSlow : Bool
  digest   : Nat                 -- SHA-512 of the charter header and body in use
  fwDigest : Nat                 -- SHA-512 of the Eweovin code
deriving DecidableEq, Repr

/-- No charter. -/
def Charter.init : Charter := ⟨[], 0, 0, 0, 0, false, false, 0, 0⟩

end Sys2Proof.Machine
end

