-- ==== Sys2Proof/Machine/PartsWarden.lean ====
section
/-! DEFINITION. The state of the host port's link, of the warden, of start-up, of calibration and self-test, and of the security block, beyond their registers (chapters 14 and 16 to 20). -/

namespace Sys2Proof.Machine

/-- The host port's SR-IOV controls and its link's history (R407, R409, R433). -/
structure HostPort where
  vfEnable : Bool
  numVfs   : Nat
  ari      : Bool                -- ARI Capable Hierarchy
  linked   : Bool                -- the link has trained since the device reset
deriving DecidableEq, Repr

/-- The host port after a device reset. -/
def HostPort.init : HostPort := ⟨false, 0, false, false⟩

/-- A conversion that a monitor pass has still to make (R504, R505). -/
structure MonConv where
  ch    : Nat
  slice : Nat
  entry : Nat
  sim   : Option Nat             -- CH2 of a SIM entry, on slice 1
deriving DecidableEq, Repr

/-- The warden beyond its registers (R485 to R508, R542, R561, R564). -/
structure Warden where
  roundAt  : Nat                 -- CLK_AO time at which the present round started
  bad      : FMap Nat            -- consecutive invalid readings of each sensor (R491)
  apart    : FMap Nat            -- consecutive rounds in which a row's or Square pair's (192 + k) two valid sensors differ by more than 8 °C
  good     : FMap Nat            -- consecutive rounds in which a row out of service has read well
  outRows  : List Nat            -- rows out of service under R491
  stopAt   : Option Nat          -- s0 of the orderly stop in progress (R495)
  stopTemps : FMap Int           -- each sensor's reading at s0 (R496)
  chainAt  : Nat                 -- CLK_AO time at which the last chain read started (R542)
  pmbFails : FMap Nat            -- consecutive failed transactions of each regulator (R501)
  kickRound : Nat                -- WDN_ROUND at the last kick (R543)
  offQuarters : List Nat         -- quarters stopped by a faulted rail (R501)
  vset     : List (Nat × Nat)    -- VOUT_COMMANDs to be sent in the next round: regulator and mV (R502)
  pass     : List MonConv        -- conversions left of the monitor pass in progress (R503)
  rails    : List Nat            -- regulators still to be turned on by a restart; the first has been commanded (R561)
  railAt   : Nat                 -- CLK_AO time of that command
  pllOff   : Bool                -- the Square PLL is stopped (R436)
  pllWake  : Option Nat          -- CLK_AO time at which the warden latched its wake
  trip     : Bool                -- THERMTRIP_N is asserted (R496)
  clkLost  : Bool                -- CLK_AO has been lost (R564)
  stkOut   : Bool                -- VDD_STK was out of its tolerance when last converted (R179)
  clkFault : Bool                -- FAULT_N asserted by the trip logic (R564), until the next device reset
  errAt    : FMap Nat            -- per bit of WDN_ERR: CLK_AO time + 1 at which the device last set it (R12)
  monAt    : Nat                 -- CLK_AO time + 1 of the last result in WDN_MON_DATA (R12)
  monPrev  : Word64              -- what WDN_MON_DATA held before the results of that cycle
deriving DecidableEq, Repr

/-- The warden when VDD_AO comes up. -/
def Warden.init : Warden :=
  { roundAt := 0, bad := [], apart := [], good := [], outRows := [], stopAt := none, stopTemps := [], chainAt := 0, pmbFails := [],
    kickRound := 0, offQuarters := [], vset := [], pass := [], rails := [], railAt := 0, pllOff := false, pllWake := none, trip := false,
    clkLost := false, stkOut := false, clkFault := false, errAt := [], monAt := 0, monPrev := 0 }

/-- A reset of a quarter, row or stall that waits for its units to close (R531): its scope as WDN_RST_CMD.OP, and the stalls that must drain. -/
structure UnitReset where
  op     : Nat
  index  : Nat                   -- quarter, row or global stall
deriving DecidableEq, Repr

/-- Start-up and resets (R529 to R548). -/
structure Boot where
  powered : Bool                 -- VDD_AO is present
  held    : Bool                 -- in device reset: PERST_N or PWR_OK low, or r0 not yet come
  r0      : Nat                  -- CLK_AO time of r0
  begun   : Bool                 -- r0 has passed: straps sampled, step 2 done
  xfer    : Option (Nat × List Byte)   -- charter recovery: SIZE and the bytes received (R538)
  reset   : Option UnitReset     -- a quarter, row or stall reset that waits for its units to close
  inReset : List Nat             -- stalls (by number) and rows (12,288 + R) that a reset has not yet returned to RUN (R577)
deriving DecidableEq, Repr

/-- Before the first r0. -/
def Boot.init : Boot := ⟨true, true, 0, false, none, none, []⟩

/-- What a group's fit left for the commit (R463, R467). -/
structure GroupFit where
  group  : Nat
  trims  : List Nat              -- target trim entry of each of 1,024 columns
  probeE : List Dy               -- E_j of the probe
  probeR : Nat                   -- its RANGE
deriving DecidableEq, Repr

/-- A calibration run in progress (R461). -/
structure CalRun where
  startAt : Nat                  -- CLK_AO time of its start
  fits    : List GroupFit        -- groups fitted
  lost    : List Nat                -- groups that need a repair and have no spare (R464)
  slots   : Nat                     -- slots taken, 256 for each stock group (R461, R462)
  block   : Bool                    -- it ran in BLOCK mode
deriving DecidableEq, Repr

/-- No run. -/
def CalRun.init : CalRun := ⟨0, [], [], 0, false⟩

/-- A repair (R477): a spare row or column by its CAL_REPAIR_SEL and the logical index it serves; a converter slice of a channel that its spare replaces; a stall of a row that the spare stall replaces. -/
inductive Repair where
  | spare (sel logical : Nat)
  | slice (stall chan slice : Nat)
  | stall (row pos : Nat)
deriving DecidableEq, Repr

/-- A self-test request (R475, R484): its test, unit kind, and unit. -/
structure TestReq where
  test  : Nat
  kind  : Nat
  index : Nat                    -- row or weigh house
  stall : Nat                    -- physical stall of a stall test
deriving DecidableEq, Repr

/-- Calibration, repair and self-test beyond their registers (R460 to R484). -/
structure CalState where
  queue    : List Nat            -- stalls queued, in arrival order (R460)
  runs     : FMap CalRun         -- runs in progress, by stall
  stampAt  : Nat                 -- WDN_ROUND at the last write of CAL_HOST_STAMP (R468)
  stampNow : Nat                 -- CLK_AO time + 1 of that write (R480)
  stampOld : Nat × Nat           -- CAL_HOST_STAMP before it, and WDN_ROUND at the write before it (R480)
  commitAt : FMap Nat            -- WDN_ROUND + 1 of each stall's last commit
  commitT  : FMap Int            -- the row's temperature then, in units of 0.1 °C (R469)
  repairs  : FMap Nat            -- CAL_REPAIR_DATA by CAL_REPAIR_SEL (R477, R482)
  log      : List Repair         -- the non-volatile repair log: soft repairs (R477)
  fuses    : List Repair         -- repairs burned into fuses (R477)
  waiting  : List TestReq        -- requests queued
  deferred : List TestReq        -- requests deferred (R475)
  testing  : Option TestReq      -- the request that drains or runs
  saved    : Nat                 -- BST_STAT.STATE when it was taken
  passed   : List (Nat × Nat)    -- spare stalls and the tests 1–3 each has passed since its last reset (R479)
deriving DecidableEq, Repr

/-- Calibration and self-test after a cold power-on of a device never repaired. -/
def CalState.init : CalState := ⟨[], [], 0, 0, (0, 0), [], [], [], [], [], [], [], none, 0, []⟩

/-- A nonce of a function, outstanding (R525). -/
structure Nonce where
  value : Nat
  time  : Nat                    -- CLK_AO time of its response
deriving DecidableEq, Repr

/-- A secured SPDM session (R519). -/
structure SpdmSess where
  id    : Nat
  port  : Nat                    -- transport: 0 DOE, 1 MCTP
  live  : Bool                   -- FINISH has completed the handshake
  keys  : Nat                    -- key updates made
deriving DecidableEq, Repr

/-- The security block beyond its registers (R511 to R526). -/
structure SecState where
  data   : List Nat              -- SEC_KEY_DATA0–3
  tkeys  : FMap Nat              -- tenant keys; SEC_TKEY_STAT says which are installed
  mkeys  : FMap Nat              -- model keys
  nonces : FMap Nonce            -- outstanding nonces, by function
  fails  : FMap Nat              -- consecutive failed OPENs, by function
  failAt : FMap Nat              -- CLK_AO time of each function's last failed OPEN
  stage  : FMap Nat              -- SPDM negotiation by transport: 1 version, 2 capabilities, 3 algorithms
  sess   : List SpdmSess
  nextSess : Nat
  certs  : FMap (List Byte)      -- certificate slots 1–3, non-volatile
deriving DecidableEq, Repr

/-- An unused nonce slot. -/
def Nonce.init : Nonce := ⟨0, 0⟩

/-- The security block of a device whose owner has installed nothing. -/
def SecState.init : SecState := ⟨[0, 0, 0, 0], [], [], [], [], [], [], [], 1, []⟩

end Sys2Proof.Machine
end

