-- ==== Sys2Proof/Machine/State.lean ====
section
/-! DEFINITION. The state of the device: its register file, every queue, buffer, counter and store behind it, the commands that wait, and what it has sent out. -/

namespace Sys2Proof.Machine

/-- Why the device would stop with a fault: it never does. Every command of the table has an effect in every state, so no constructor is needed. -/
inductive Fault where
deriving DecidableEq, Repr

/-- Why the model gives a command no meaning. -/
inductive Refusal where
  /-- A command whose meaning has not been written; raised by its arm of `exec` alone. Safe: the model stops. -/
  | notModelled (mnemonic : String)
deriving DecidableEq, Repr

/-- The device. -/
structure State where
  pending : List Instr           -- commands waiting, first in, first out
  now     : Nat                  -- CLK_AO cycles since VDD_AO came up
  free    : Nat                  -- the model's own: which free value comes next
  regs    : FMap Word64          -- the register file, by register and instance; unlisted = reset value
  halves  : FMap Half            -- halves (R11): 2 × accessor for the staged low half of a write, the next key for the latched high half of a read
  outbox  : List Out             -- what has left the device, in order
  stalls  : FMap Stall           -- by row × 64 + physical stall
  groups  : FMap Group           -- by stall × 4 + output group
  rows    : FMap Row             -- by row 0–191
  jobs    : List Job             -- inspector jobs, in the order of its arrival counter (R375)
  nextJob : Nat                  -- the inspector's arrival counter
  cperLost : Nat                 -- records dropped since the last one written (R380)
  journal : FMap JEntry          -- the stocking journal, by physical crate (R181)
  digests : FMap CrateData       -- DATA_DIGEST and level data that each crate was last programmed with (R172, R191)
  restocked : FMap Nat           -- WDN_ROUND + 1 of a restock that followed a scrub mismatch (R192)
  images  : FMap (Nat × Nat)     -- the image table: IMAGE_ID and TABLE_DIGEST (R184)
  stock   : Option StockJob      -- the running stocking job or restock
  working : List CrateWork       -- crates in progress (R178)
  scrub   : Scrub                -- the level-readback scrub (R191)
  slots   : FMap ModelSlot       -- model slots 0–15
  seqs    : FMap Seq             -- sequences 0–4095 (R279)
  pages   : FMap Page            -- pages of the key-value cache, by number
  nextPage : Nat
  rolls   : FMap Roll            -- till rolls of live requests, by function and TICKET
  paces   : FMap Pace            -- paced streams 0–15
  sched   : Sched
  adapters : FMap Adapter        -- adapters 0–1023
  tunes   : FMap TuneJob         -- tuning jobs, by function
  cart    : Cartway
  mem     : MemState
  charter : Charter
  funcs   : FMap Func            -- functions 0–63
  clerks  : FMap Clerk           -- clerks 0–7
  pendAt  : FMap Nat             -- CLK_AO time + 1 since which each event source has been pending (R443); 0 once NOROUTE was flagged
  modeCtl : ModeCtl
  sleep   : FMap Nat             -- sleep state of row R (key R) and quarter q (key 192 + q): 0 bias-off, 1 gated, 2 waking, 3 running (R486)
  gatedAt : FMap Nat             -- CLK_AO time + 1 at which a stall (key its number), row (12,288 + R) or quarter (12,480 + q) was gated (R487)
  wakeAt  : FMap Nat             -- CLK_AO time at which a waking stall, row or quarter reaches RUN, by the same keys (R488)
  port0   : HostPort
  warden  : Warden
  boot    : Boot
  cal     : CalState
  sec     : SecState
  duty    : FMap Nat             -- thermal duty of each row (R493)
  level   : FMap Nat             -- thermal level of each row, and of the Square at key 192 (R492)
deriving DecidableEq, Repr

/-- The device at a cold power-on. -/
def State.reset : State :=
  { pending := [], now := 0, free := 0, regs := [], halves := [], outbox := [], stalls := [], groups := [], rows := [],
    jobs := [], nextJob := 1, cperLost := 0, journal := [], digests := [], restocked := [], images := [], stock := none,
    working := [], scrub := ⟨0, none, 0, 0⟩, slots := [], seqs := [], pages := [], nextPage := 1, rolls := [], paces := [], sched := Sched.init, adapters := [], tunes := [], cart := Cartway.init, mem := MemState.init, charter := Charter.init, funcs := [], clerks := [], pendAt := [], modeCtl := ModeCtl.init, sleep := [], gatedAt := [], wakeAt := [], port0 := HostPort.init, warden := Warden.init, boot := Boot.init, cal := CalState.init, sec := SecState.init, duty := [], level := [] }

end Sys2Proof.Machine
end

