-- ==== Sys2Proof/Machine/Ops.lean ====
section
/-! DEFINITION. The named operations over the state: the register file, event sources, function events and MSI-X, fault records, and the accessors of stalls, groups and rows. -/

namespace Sys2Proof.Machine

/-- What a meaning answers. -/
abbrev Result := Host.Outcome State Fault Refusal

/-! ### The register file -/

/-- The registers of a block. -/
def Block.regs : Block → List RegInfo
  | .fnHost => regs_fnHost | .fnTen => regs_fnTen | .devHost => regs_devHost | .srv => regs_srv | .kv => regs_kv
  | .prt => regs_prt | .stk => regs_stk | .chk => regs_chk | .mem => regs_mem | .cw => regs_cw | .evc => regs_evc
  | .mode => regs_mode | .cal => regs_cal | .bst => regs_bst | .wdn => regs_wdn | .sec => regs_sec | .wh => regs_wh
  | .tal => regs_tal | .stl => regs_stl

/-- The table entry of a register. -/
def Reg.info (r : Reg) : Option RegInfo := r.blk.regs.find? fun i => i.reg.off == r.off

/-- The reset value of a register. -/
def Reg.reset (r : Reg) : Word64 := match r.info with
  | some i => i.reset
  | none => 0

/-- The key of instance `i` of a register: block, offset, instance. -/
def Reg.key (r : Reg) (i : Nat) : Nat := (r.blk.code * 2 ^ 13 + r.off % 2 ^ 13) * 2 ^ 16 + i % 2 ^ 16

/-- The block with a number. -/
def Block.ofCode : Nat → Block
  | 0 => .fnHost | 1 => .fnTen | 2 => .devHost | 3 => .srv | 4 => .kv | 5 => .prt | 6 => .stk | 7 => .chk
  | 8 => .mem | 9 => .cw | 10 => .evc | 11 => .mode | 12 => .cal | 13 => .bst | 14 => .wdn | 15 => .sec
  | 16 => .wh | 17 => .tal | _ => .stl

/-- What an unlisted key of the register file reads as: the reset value of its register. -/
def keyReset (k : Nat) : Word64 := Reg.reset ⟨Block.ofCode (k / 2 ^ 29), k / 2 ^ 16 % 2 ^ 13⟩

/-- The value of instance `i` of a register. -/
def State.getReg (s : State) (r : Reg) (i : Nat) : Word64 := FMap.get (keyReset (r.key i)) s.regs (r.key i)

/-- Replace the value of instance `i` of a register. -/
def State.setReg (s : State) (r : Reg) (i : Nat) (v : Word64) : State :=
  { s with regs := FMap.set (keyReset (r.key i)) s.regs (r.key i) v }

/-- Read a field. -/
def State.rd (s : State) (f : RField) (i : Nat := 0) : Nat := f.of (s.getReg f.reg i)

/-- Write a field, whatever its access code: the device's own change. -/
def State.wr (s : State) (f : RField) (i v : Nat) : State := s.setReg f.reg i (f.put (s.getReg f.reg i) v)

/-- Add to a field, wrapping at its width (the counters wrap at 2⁶⁴). -/
def State.bump (s : State) (f : RField) (i : Nat := 0) (n : Nat := 1) : State := s.wr f i (s.rd f i + n)

/-- Add to a field, saturating at its width. -/
def State.bumpSat (s : State) (f : RField) (i : Nat := 0) (n : Nat := 1) : State :=
  s.wr f i (min (s.rd f i + n) (2 ^ f.wd - 1))

/-- A one-bit field as a Bool. -/
def State.on (s : State) (f : RField) (i : Nat := 0) : Bool := s.rd f i == 1

/-- Return instance `i` of every register of a list to its reset value. -/
def State.resetRegs (s : State) (rs : List Reg) (i : Nat) : State :=
  rs.foldl (fun s r => s.setReg r i r.reset) s

/-- The next free value, and the state with the counter advanced (log entry 3). -/
def State.takeFree (s : State) : Nat × State := (Config.freeValue s.free, { s with free := s.free + 1 })

/-- A host access of a function with ATS enabled asks for the translation of its page and keeps it, while the translation cache has room (R416; log entry 20). -/
def State.translate (s : State) (f addr : Nat) : State :=
  let fn := FMap.get Func.init s.funcs f
  if s.on HOST_FN_STAT.ATS_EN f && !fn.cache.contains (addr / 4096) && decide (((s.funcs.map fun e => e.2.cache.length).sum) < 8192) then
    { s with funcs := FMap.set Func.init s.funcs f { fn with cache := fn.cache ++ [addr / 4096] } }
  else s

/-- Send something out. -/
def State.send (s : State) (o : Out) : State :=
  let s1 := match o with
    | .hostWrite f a _ => s.translate f a
    | .hostRead f a _ => s.translate f a
    | _ => s
  { s1 with outbox := s1.outbox ++ [o] }

/-! ### Stalls, groups, rows, slots -/

/-- The global number of a physical stall: row × 64 + position. -/
def stallId (row stall : Nat) : Nat := row * 64 + stall
/-- The row of a global stall. -/
def rowOf (sid : Nat) : Nat := sid / 64
/-- The physical position of a global stall. -/
def posOf (sid : Nat) : Nat := sid % 64
/-- The number of an output group of a stall. -/
def groupId (sid g : Nat) : Nat := sid * 4 + g
/-- The quarter of a row. -/
def quarterOf (row : Nat) : Nat := row / 48

/-- The stall. -/
def State.stall (s : State) (sid : Nat) : Stall := FMap.get Stall.init s.stalls sid
/-- Replace the stall. -/
def State.setStall (s : State) (sid : Nat) (v : Stall) : State := { s with stalls := FMap.set Stall.init s.stalls sid v }
/-- Change the stall. -/
def State.modStall (s : State) (sid : Nat) (f : Stall → Stall) : State := s.setStall sid (f (s.stall sid))
/-- The output group. -/
def State.group (s : State) (gid : Nat) : Group := FMap.get Group.init s.groups gid
/-- Replace the output group. -/
def State.setGroup (s : State) (gid : Nat) (v : Group) : State := { s with groups := FMap.set Group.init s.groups gid v }
/-- Change the output group. -/
def State.modGroup (s : State) (gid : Nat) (f : Group → Group) : State := s.setGroup gid (f (s.group gid))
/-- The row. -/
def State.row (s : State) (r : Nat) : Row := FMap.get Row.init s.rows r
/-- Replace the row. -/
def State.setRow (s : State) (r : Nat) (v : Row) : State := { s with rows := FMap.set Row.init s.rows r v }
/-- Change the row. -/
def State.modRow (s : State) (r : Nat) (f : Row → Row) : State := s.setRow r (f (s.row r))
/-- The model slot. -/
def State.slot (s : State) (m : Nat) : ModelSlot := FMap.get ModelSlot.init s.slots m
/-- Replace the model slot. -/
def State.setSlot (s : State) (m : Nat) (v : ModelSlot) : State := { s with slots := FMap.set ModelSlot.init s.slots m v }
/-- Change the model slot. -/
def State.modSlot (s : State) (m : Nat) (f : ModelSlot → ModelSlot) : State := s.setSlot m (f (s.slot m))
/-- The function. -/
def State.func (s : State) (f : Nat) : Func := FMap.get Func.init s.funcs f
/-- Replace the function. -/
def State.setFunc (s : State) (f : Nat) (v : Func) : State := { s with funcs := FMap.set Func.init s.funcs f v }
/-- Change the function. -/
def State.modFunc (s : State) (f : Nat) (g : Func → Func) : State := s.setFunc f (g (s.func f))
/-- The clerk. -/
def State.clerk (s : State) (k : Nat) : Clerk := FMap.get Clerk.init s.clerks k
/-- Replace the clerk. -/
def State.setClerk (s : State) (k : Nat) (v : Clerk) : State := { s with clerks := FMap.set Clerk.init s.clerks k v }
/-- The journal entry of a physical crate. -/
def State.jrn (s : State) (i : Nat) : JEntry := FMap.get JEntry.init s.journal i
/-- Write a journal entry, atomically (R181). -/
def State.setJrn (s : State) (i : Nat) (e : JEntry) : State := { s with journal := FMap.set JEntry.init s.journal i e }

/-- The logical stall that a physical position serves, 63 when none (STL_ID.LOGICAL, R479). -/
def State.logicalAt (s : State) (sid : Nat) : Nat :=
  match (s.row (rowOf sid)).subst with
  | some p => if posOf sid = p then 63 else if posOf sid = 32 then p else posOf sid
  | none => if posOf sid < 32 then posOf sid else 63

/-- The physical position that serves a logical stall of a row. -/
def State.physOf (s : State) (row logical : Nat) : Nat :=
  match (s.row row).subst with
  | some p => if logical = p then 32 else logical
  | none => logical

/-- The global logical stall number of R203. -/
def State.logicalNo (s : State) (sid : Nat) : Nat := rowOf sid * 32 + s.logicalAt sid

/-- The row exists. -/
def rowOk (row : Nat) : Bool := decide (row < 192)
/-- The physical stall exists. -/
def stallOk (row stall : Nat) : Bool := decide (row < 192) && decide (stall < 33)

/-- The states of STL_STAT.STATE (R71). -/
def stBiasOff : Nat := 0
/-- GATED. -/
def stGated : Nat := 1
/-- WAKING. -/
def stWaking : Nat := 2
/-- RUN. -/
def stRun : Nat := 3
/-- DRAINING. -/
def stDraining : Nat := 4
/-- SHUTTERED. -/
def stShuttered : Nat := 5
/-- SPARE_IDLE. -/
def stSpareIdle : Nat := 6
/-- FAULT. -/
def stFault : Nat := 7

/-- STL_STAT.STATE of a stall. -/
def State.stState (s : State) (sid : Nat) : Nat := s.rd STL_STAT.STATE sid
/-- Set STL_STAT.STATE. -/
def State.setStState (s : State) (sid st : Nat) : State := s.wr STL_STAT.STATE sid st

/-- The stall does not serve: it is SHUTTERED, in FAULT, or drained for a test (R475), its check lane is out of service, or its row or quarter is stopped (R470, R491, R501). -/
def State.stallShut (s : State) (sid : Nat) : Bool :=
  s.stState sid == stShuttered || s.stState sid == stFault || decide (s.rd CHK_STALL_STAT.LANE sid ≠ 0)
    || (s.stall sid).drains.contains .bst || s.warden.outRows.contains (rowOf sid) || s.warden.offQuarters.contains (quarterOf (rowOf sid))

/-! ### Events (R437 to R440) -/

/-- The sources the table of R437 lists: 222–231 and 432–447 are never raised. -/
def sourceOk (n : Nat) : Bool := decide (n < 222) || (decide (232 ≤ n) && decide (n < 432)) || (decide (448 ≤ n) && decide (n < 512))

/-- A clerk that is awake: its EVC_CLK_STAT.STATE is neither GATED nor WAKING. -/
def State.awake (s : State) (k : Nat) : Bool := decide (2 ≤ s.rd EVC_CLK_STAT.STATE k)

/-- Some clerk may take the source and is awake (R440). -/
def State.eligibleAwake (s : State) (n : Nat) : Bool :=
  (List.range 8).any fun k => bitAt (s.rd EVC_SRC.AFFINITY n) k && s.on EVC_CLK_CTL.EN k && s.awake k

/-- A source that becomes pending is timed from now on (R443). -/
def State.timePending (s : State) (n : Nat) : State :=
  if s.rd EVC_SRC.COUNT n = 0 then { s with pendAt := FMap.set 0 s.pendAt n (s.now + 1) } else s

/-- The event count of a source rises by one, saturating at 15 with the sticky flags of R439. -/
def State.countEvent (s : State) (n : Nat) : State :=
  if s.rd EVC_SRC.COUNT n < 15 then (s.timePending n).wr EVC_SRC.COUNT n (s.rd EVC_SRC.COUNT n + 1)
  else ((s.wr EVC_SRC.OVF n 1).wr EVC_ERR.OVERFLOW 0 1).wr EVC_ERR.SOURCE 0 n

/-- Raise a source: it counts; the edge latch holds it when no eligible clerk is awake (R440). -/
def State.raise (s : State) (n : Nat) : State :=
  if sourceOk n then
    (if (s.countEvent n).eligibleAwake n then s.countEvent n else (s.countEvent n).wr EVC_SRC.LATCH n 1)
  else s

/-- A job of the assay unit ends: source 217 (R437). DESIGN CHOICE (log entry 114): the checks that the spec places in the unit are its jobs, one for each command that makes them. -/
def State.assayDone (s : State) : State := s.raise 217

/-- A result came to WDN_MON_DATA in the present cycle of CLK_AO, the clock of the warden's registers (R581): a read of that cycle samples what the register held before, and leaves the result (R12). -/
def State.sameCycle (s : State) (r : Reg) : Bool := r == WDN_MON_DATA && s.warden.monAt == s.now + 1

/-- What a read samples of a register with RC fields (R12). -/
def State.sample (s : State) (r : Reg) (i : Nat) : Word64 := if s.sameCycle r then s.warden.monPrev else s.getReg r i

/-- What the read clears (R12). -/
def State.clearSample (s : State) (r : Reg) (i : Nat) (f : Word64 → Word64) : State :=
  if s.sameCycle r then { s with warden := { s.warden with monPrev := f s.warden.monPrev } } else s.setReg r i (f (s.getReg r i))

/-- One bit of a stall's row summary: a flag of STL_ERR is set (R438). -/
def State.stallFlags (s : State) (sid : Nat) : Bool := bitsOf (s.getReg STL_ERR sid).toNat 0 6 != 0

/-- The tally engine's bit of the row summary (R438). -/
def State.tallyFlags (s : State) (row : Nat) : Bool :=
  bitsOf (s.getReg TAL_COR_ERR row).toNat 0 6 != 0 || bitsOf (s.getReg TAL_NQ_ERR row).toNat 0 4 != 0
    || bitsOf (s.getReg TAL_ACC_ERR row).toNat 0 5 != 0

/-! ### Function events and MSI-X (R414, R415) -/

/-- The function raises messages: MSI-X is enabled, and it is in D0 (R410, R413). -/
def State.msiOn (s : State) (f : Nat) : Bool := s.on HOST_FN_STAT.MSIX_EN f && !s.on HOST_FN_STAT.D3 f

/-- Send or hold a message of a vector. -/
def State.msi (s : State) (f v : Nat) : State :=
  if s.msiOn f then
    let fn := s.func f
    let e := FMap.get MsixEntry.init fn.table v
    if e.masked || fn.funcMask then
      s.setFunc f { fn with pend := if v ∈ fn.pend then fn.pend else sortBy (fun a b => decide (a ≤ b)) (fn.pend ++ [v]) }
    else s.send (.msix f v e.addr e.data)
  else s

/-- Set a bit of HOST_FN_EVT; on its 0 to 1 change, raise vector 0 when it is enabled (R414; bits 4 and 5 of a virtual function are ignored, R430). -/
def State.fnEvent (s : State) (f bit : Nat) : State :=
  let w := (s.getReg HOST_FN_EVT f).toNat
  if bitAt w bit then s else
    let s1 := s.setReg HOST_FN_EVT f (BitVec.ofNat 64 (w + 2 ^ bit))
    if bitAt (s.rd HOST_FN_EVT_EN.EN f) bit && (decide (bit < 4) || f == 0) then s1.msi f 0 else s1

/-! ### Error flags -/

/-- What follows when a flag of a register goes from 0 to 1: the event source of its block (R437), the row summary (R438), the function event of a fault record or of HOST_ERR (R414). `quiet` says whether the row summary bit was already 1. -/
def State.flagEvent (s : State) (r : Reg) (i : Nat) (quiet : Bool) : State :=
  match r.blk with
  | .stl => if quiet then s else s.raise (rowOf i)
  | .tal => if quiet then s else s.raise i
  | .wh => s.raise (192 + i)
  | .prt => s.raise 208
  | .stk => s.raise 209
  | .chk => s.raise 210
  | .cw => s.raise 212
  | .mem => s.raise 213
  | .srv => s.raise 214
  | .kv => s.raise 215
  | .devHost => (s.raise 216).fnEvent 0 5
  | .fnTen => s.fnEvent i 1
  | .mode => s.raise 221
  | .cal => s
  | .bst => s
  | .sec => s
  | .wdn => s
  | .evc => s
  | .fnHost => s

/-- The row summary bit that a register's flags feed. -/
def State.summaryBit (s : State) (r : Reg) (i : Nat) : Bool :=
  match r.blk with
  | .stl => s.stallFlags i
  | .tal => s.tallyFlags i
  | _ => false

/-- Set a flag; on its 0 to 1 change raise what follows from it. -/
def State.flag (s : State) (f : RField) (i : Nat := 0) : State :=
  if s.on f i then s
  else
    let quiet := s.summaryBit f.reg i
    (s.wr f i 1).flagEvent f.reg i quiet

/-- Set a flag and the fields that name its latest cause. -/
def State.flagAt (s : State) (f : RField) (i : Nat) (at' : List (RField × Nat)) : State :=
  (at'.foldl (fun s p => s.wr p.1 i p.2) s).flag f i

/-- A tally correction flag with its stall and group (R106). -/
def State.corFlag (s : State) (f : RField) (row stall group : Nat) : State :=
  s.flagAt f row [(TAL_COR_ERR.STALL, stall), (TAL_COR_ERR.GROUP, group)]
/-- A narrow arithmetic flag with its stall and group (R137). -/
def State.nqFlag (s : State) (f : RField) (row stall group : Nat) : State :=
  s.flagAt f row [(TAL_NQ_ERR.STALL, stall), (TAL_NQ_ERR.GROUP, group)]
/-- An accumulation flag with its stall (R166). -/
def State.accFlag (s : State) (f : RField) (row stall : Nat) : State :=
  s.flagAt f row [(TAL_ACC_ERR.STALL, stall)]
/-- A checking flag with its stall (R384). -/
def State.chkFlag (s : State) (f : RField) (sid : Nat) : State :=
  s.flagAt f 0 [(CHK_ERR.QUARTER, quarterOf (rowOf sid)), (CHK_ERR.ROW, rowOf sid % 48), (CHK_ERR.STALL, posOf sid)]

/-! ### Fault records (R423) -/

/-- Set a flag of a function's fault record. -/
def State.tenFault (s : State) (f : RField) (fn : Nat) : State := s.flag f fn

/-- An access error in the fault record of the function that made it; a clerk or the I3C interface has no fault record (log entry 8). -/
def State.accessError (s : State) (who : Who) (bar off : Nat) (write : Bool) : State :=
  match who with
  | .func f =>
    let s1 := s.bump TEN_ACCESS_ERR_CNT.V f
    let s2 := ((s1.wr TEN_FAULT_INFO.OFFSET f off).wr TEN_FAULT_INFO.BAR f (bar / 2)).wr TEN_FAULT_INFO.WRITE f (ofBool write)
    s2.tenFault TEN_FAULT.ACCESS f
  | _ => s

/-- The BAR0 offset of a device block (R572); row regions and weigh houses add their own unit offset (R573). -/
def Block.base : Block → Nat
  | .devHost => 0x1000000 | .srv => 0x1001000 | .kv => 0x1002000 | .prt => 0x1003000 | .stk => 0x1004000 | .chk => 0x1005000
  | .mem => 0x1006000 | .cw => 0x1007000 | .evc => 0x1008000 | .mode => 0x100A000 | .cal => 0x100B000 | .bst => 0x100C000
  | .wdn => 0x100D000 | .sec => 0x100E000 | .wh => 0x1010000 | .tal => 0x1100000 | .stl => 0x1101000 | .fnHost => 0 | .fnTen => 0

/-- A function exists: the physical one, or a virtual one while VF Enable is 1 and its number is at most NumVFs (R409). -/
def State.exists (s : State) (f : Nat) : Bool := f == 0 || (s.port0.vfEnable && decide (f ≤ s.port0.numVfs))

/-- The device serves: READY, and neither stopping, stopped nor tripped (R495, R535, R544). -/
def State.takesWork (s : State) : Bool := s.rd WDN_RST_CAUSE.STATE == 1 && decide (s.rd WDN_STAT.THERM < 3)

/-- A memory request of the accessor is not answered as Unsupported Request: start-up has ended (R535), and the function exists (R409) and is in no function-level reset (R424). A clerk and the I3C interface have other ways in. -/
def State.memOpen (s : State) (who : Who) : Bool :=
  match who with
  | .func f => s.rd WDN_RST_CAUSE.STATE != 0 && s.exists f && (s.func f).flrAt.isNone
  | _ => true

/-- The physical function or a clerk: the writers of the Square's device blocks. -/
def whoAdmin : Who → Bool
  | .func f => f == 0
  | .clerk _ => true
  | .i3c => false

/-- A clerk. -/
def whoClerk : Who → Bool
  | .clerk _ => true
  | _ => false

/-- A number for the accessor, to key its halves (R11). -/
def whoCode : Who → Nat
  | .func f => f
  | .clerk k => 64 + k
  | .i3c => 72

/-- An access discards what R11 keeps for its accessor: the staged low half of a write (key 2 × its number) and the latched high half of a read (the next key). -/
def State.dropHalves (s : State) (who : Who) : State :=
  { s with halves := FMap.del (FMap.del s.halves (2 * whoCode who)) (2 * whoCode who + 1) }

/-- The name of a register among those R11 keeps halves of: its byte offset plus 2²⁸ × its BAR, plus 1. -/
def halfName (bar off : Nat) : Nat := bar * 2 ^ 28 + off / 8 * 8 + 1

/-- An access to a register discards the halves that its accessor left of any other (R11). -/
def State.keepHalves (s : State) (who : Who) (name : Nat) : State :=
  let keep (m : FMap Half) (k : Nat) : FMap Half := if (FMap.get Half.none m k).off = name then m else FMap.del m k
  { s with halves := keep (keep s.halves (2 * whoCode who)) (2 * whoCode who + 1) }

/-- The states of EVC_CLK_STAT.STATE: GATED. -/
def ckGated : Nat := 0
/-- WAKING. -/
def ckWaking : Nat := 1
/-- IDLE. -/
def ckIdle : Nat := 2

/-- The clerks that waited for the Square PLL are awake. -/
def State.clerksWake (s : State) : State :=
  (List.range 8).foldl (fun s k => if s.rd EVC_CLK_STAT.STATE k = ckWaking then s.wr EVC_CLK_STAT.STATE k ckIdle else s) s

/-- A wake request reaches the Square (R436): a stopped PLL restarts, and what arrived waits for it. The restart takes none of its 50 CLK_AO cycles (log entry 66). -/
def State.squareRuns (s : State) : State :=
  if s.warden.pllOff then { s with warden := { s.warden with pllOff := false, pllWake := none } }.clerksWake else s

/-- An access to the register at a BAR0 offset arrives: the Square runs for it (R436, R581), and the halves that its accessor left of any other register are discarded (R11). -/
def State.accessed (s : State) (who : Who) (off : Nat) : State := s.squareRuns.keepHalves who (halfName 0 off)

/-- A write of a register of a Square block: from the physical function or a clerk it acts; from a virtual function it is dropped and counted as an access error. -/
def State.adminWrite (s : State) (who : Who) (r : Reg) (f : State → State) : State :=
  if !s.memOpen who then s
  else if whoAdmin who then f (s.accessed who (r.blk.base + r.off)) else (s.accessed who (r.blk.base + r.off)).accessError who 0 (r.blk.base + r.off) true

/-! ### The fault log (R547) -/

/-- One entry of the non-volatile fault log, written atomically: its code, and the unit as UNIT, QUARTER, ROW, STALL. -/
def State.faultLog (s : State) (code unit quarter row stall : Nat) : State :=
  let i := s.rd WDN_FLOG_HEAD.NEXT
  let s1 := ((((((s.wr WDN_FLOG_DATA.CODE i code).wr WDN_FLOG_DATA.UNIT i unit).wr WDN_FLOG_DATA.QUARTER i quarter).wr WDN_FLOG_DATA.ROW i row).wr
    WDN_FLOG_DATA.STALL i stall).wr WDN_FLOG_DATA.COLD i (s.rd WDN_COLD_CNT.COUNT))
  (s1.wr WDN_FLOG_HEAD.NEXT 0 (i + 1)).bumpSat WDN_FLOG_HEAD.TOTAL

/-- A stall enters FAULT (R71, R547). -/
def State.stallFault (s : State) (sid : Nat) : State :=
  if s.stState sid = stFault then s
  else (s.setStState sid stFault).faultLog 10 3 (quarterOf (rowOf sid)) (rowOf sid) (posOf sid)

/-- A row enters FAULT as a unit: its stalls stop, and one entry is written (R452, R476, R547). -/
def State.rowFault (s : State) (row : Nat) : State :=
  if (List.range 33).all fun p => s.stState (stallId row p) == stFault then s
  else ((List.range 33).foldl (fun s p => s.setStState (stallId row p) stFault) s).faultLog 10 2 (quarterOf row) row 63

/-! ### Failed host reads, uncorrectable memory errors (R397, R419) -/

/-- A host read made for a function fails (R419); `ats` when a translation granted no access (R416). -/
def State.dmaFail (s : State) (f : Nat) (ats : Bool) : State :=
  let s1 := (s.bump TEN_DMA_FAIL_CNT.V f).tenFault TEN_FAULT.DMA f
  let s2 := if ats then s1.tenFault TEN_FAULT.ATS f else s1
  s2.flagAt HOST_ERR.DMA 0 [(HOST_ERR.FUNC, f)]

/-- A MEM_ERR flag with its unit. -/
def State.memFlag (s : State) (f : RField) (unit : Nat) : State := s.flagAt f 0 [(MEM_ERR.UNIT, unit)]

/-- The channels of the tier-2 interleave, in ascending number (R390). -/
def State.tier2Up (s : State) : List Nat :=
  (List.range 16).filter fun c => s.rd MEM_UNIT_STAT.STATE (20 + c) == 2 || s.rd MEM_UNIT_STAT.STATE (20 + c) == 3

/-- The place of a device address. -/
def State.memPlace (s : State) (a : Nat) : MemPlace := if a < tier2Base then tier1Place a else tier2Place s.tier2Up a

/-- The unit that holds a granule: stack G mod 20 (R392), or the (G mod N)-th channel that is UP (R393). -/
def State.unitOf (s : State) (g : Nat) : Nat := (s.memPlace (granAddr g)).unit

/-- MEM_UNIT_STAT.STATE of a unit, with its bit of MEM_STAT (R406). -/
def State.setMemUnit (s : State) (u st : Nat) : State :=
  let s1 := s.wr MEM_UNIT_STAT.STATE u st
  let f := if u < 20 then MEM_STAT.T1_UP else MEM_STAT.T2_UP
  let k := if u < 20 then u else u - 20
  let w := s1.rd f
  s1.wr f 0 ((if bitAt w k then w - 2 ^ k else w) + (if st = 2 then 2 ^ k else 0))

/-- An access to a tier-2 channel, which wakes from self-refresh for it (R400). -/
def State.touchChan (s : State) (c : Nat) : State :=
  let s1 := if s.rd MEM_UNIT_STAT.STATE (20 + c) = 3 then s.setMemUnit (20 + c) 2 else s
  { s1 with mem := { s1.mem with access := FMap.set 0 s1.mem.access c s.now } }

/-- An access to granules: the channels that hold those of tier 2 are accessed (R393, R400). -/
def State.touchGrans (s : State) (gs : List Nat) : State :=
  let us := (gs.filter fun g => decide (2 ^ 40 ≤ g)).map s.unitOf
  (s.tier2Up.filter fun c => us.contains (20 + c)).foldl State.touchChan s

/-- An access to a span of device addresses. -/
def State.touchSpan (s : State) (a n : Nat) : State :=
  s.touchGrans ((List.range ((a % 65536 + n + 65535) / 65536)).map fun k => granOf a + k)

/-- An uncorrectable error in a granule (R397): no data is delivered, and the channel retrains (R401). -/
def State.countUE (s : State) (g : Nat) : State :=
  ((s.bump MEM_UE_CNT.V).memFlag MEM_ERR.UE (s.unitOf g)).bump MEM_TRAIN_CNT.V

/-- The granule falls due for retirement (R398). -/
def State.dueGran (s : State) (g : Nat) : State :=
  { s with mem := { s.mem with due := if s.mem.due.contains g then s.mem.due else s.mem.due ++ [g] } }

/-- An uncorrectable error whose granule is retired at once. -/
def State.memUE (s : State) (g : Nat) : State := (s.countUE g).dueGran g

/-- A corrected error in a granule (R397, R398): more than 16 within 42,187,500 warden rounds make it due for retirement. -/
def State.memCE (s : State) (gran : Nat) : State :=
  let now := s.rd WDN_ROUND.V
  let ces := (s.mem.ces.filter fun e => decide (now < e.2 + 42187500)) ++ [(gran, now)]
  let s1 := ({ s with mem := { s.mem with ces := ces } } : State).bump MEM_CE_CNT.V
  if 16 < (ces.filter fun e => e.1 == gran).length then s1.dueGran gran else s1

/-- The corrected errors of a read (R397). -/
def State.corrected (s : State) (e : MemErr) : State := e.ce.foldl State.memCE s

/-- A read that delivers no data for an uncorrectable error, or delivers it, corrected errors counted (R397). -/
def State.readMem (s : State) (e : MemErr) : State := e.ue.elim (s.corrected e) (s.corrected e).memUE

/-! ### Calibration queue and shared status -/

/-- Queue a stall for calibration, behind those already queued; a trigger for a stall that is queued adds nothing (R460). -/
def State.queueCal (s : State) (sid : Nat) : State :=
  if s.cal.queue.contains sid then s
  else
    let s1 := { s.bump CAL_STAT.QUEUED with cal := { s.cal with queue := s.cal.queue ++ [sid] } }
    if s1.rd CAL_STALL_STAT.RUN sid = 0 then s1.wr CAL_STALL_STAT.RUN sid 1 else s1

/-- Warden rounds since a stall's last commit, saturating (R482): 0 before the first. -/
def State.calAge (s : State) (sid : Nat) : Nat :=
  let c := FMap.get 0 s.cal.commitAt sid
  if c = 0 then 0 else min (s.rd WDN_ROUND.V + 1 - c) (2 ^ 32 - 1)

/-- A CAL_ERR flag with its stall. -/
def State.calFlag (s : State) (f : RField) (sid : Nat) : State := s.flagAt f 0 [(CAL_ERR.ROW, rowOf sid), (CAL_ERR.STALL, posOf sid)]

/-- A soft repair enters the repair log of 4,096 entries (R477); with the log full it holds until the next reset. -/
def State.logRepair (s : State) (sid : Nat) (r : Repair) : State :=
  if s.cal.log.contains r || s.cal.fuses.contains r then s
  else if s.cal.log.length < 4096 then { s with cal := { s.cal with log := s.cal.log ++ [r] } }
  else s.calFlag CAL_ERR.LOG_FULL sid

/-- A repair leaves the repair log. -/
def State.unlogRepair (s : State) (r : Repair) : State := { s with cal := { s.cal with log := s.cal.log.erase r } }

/-- The slice map of a stall follows what STL_SLICE_MAP now says: the log holds its substitutions and no other (R477). -/
def State.logSlices (s : State) (sid map : Nat) : State :=
  (List.range 8).foldl (fun s k =>
    let j := bitsOf map (3 * k) 3
    let keep (r : Repair) : Bool := match r with
      | .slice a c b => !(a == sid && c == k && b != j)
      | _ => true
    let s1 := { s with cal := { s.cal with log := s.cal.log.filter keep } }
    if j = 4 then s1 else s1.logRepair sid (.slice sid k j)) s

/-- The stalls that a test shutters (R472): one stall, the 33 stalls of a row, none for a weigh house. -/
def TestReq.stalls (t : TestReq) : List Nat :=
  if t.kind = 0 then [stallId t.index t.stall] else if t.kind = 1 then (List.range 33).map (stallId t.index) else []

/-- A reset of a quarter, row or stall takes in the stall. -/
def UnitReset.covers (u : UnitReset) (sid : Nat) : Bool :=
  if u.op = 2 then quarterOf (rowOf sid) == u.index else if u.op = 3 then rowOf sid == u.index else sid == u.index

/-- A mode change that is closing or staging takes in the quarter (R448, R450). -/
def State.modeClosing (s : State) (q : Nat) : Bool :=
  (s.rd MODE_STAT.PHASE == 1 || s.rd MODE_STAT.PHASE == 2) && (s.rd MODE_STAT.SCOPE == 0 || s.rd MODE_STAT.SCOPE == q + 1)

/-- The stall closes for a mode change or a reset, so no calibration, scrub or self-test starts new work on it (R450 step 2, R531). -/
def State.closingStall (s : State) (sid : Nat) : Bool :=
  s.modeClosing (quarterOf (rowOf sid)) || s.boot.inReset.contains sid || s.boot.reset.any fun u => u.covers sid

/-- The same of the unit of a self-test. -/
def State.closingTest (s : State) (t : TestReq) : Bool :=
  if t.kind = 2 then s.modeClosing (t.index / 4) || s.boot.reset.any (fun u => u.op == 2 && u.index == t.index / 4)
  else if t.kind = 1 then (List.range 33).any fun p => s.closingStall (stallId t.index p)
  else s.closingStall (stallId t.index t.stall)

/-- A calibration run of the stall is in its slots. -/
def State.calActive (s : State) (sid : Nat) : Bool := decide (2 ≤ s.rd CAL_STALL_STAT.RUN sid) && decide (s.rd CAL_STALL_STAT.RUN sid ≤ 4)

/-- The unit under test has drained: its stalls are SHUTTERED, and the test runs (R475). -/
def State.testDrained (s : State) : State :=
  match s.cal.testing with
  | some t => if s.rd BST_STAT.STATE = 1 ∧ t.stalls.all (fun sid => s.stState sid == stShuttered) then s.wr BST_STAT.STATE 0 2 else s
  | none => s

/-! ### Strike edges and pauses (R494) -/

/-- Edge e is a pause edge under duty n (R494). -/
def pauseEdge (e n : Nat) : Bool := decide ((e % 16 + 1) * n / 16 > (e % 16) * n / 16)

/-- The duty of a row: the largest of its own thermal duty, the Square's and the power duty (R494). -/
def State.rowDuty (s : State) (row : Nat) : Nat :=
  max (FMap.get 0 s.duty row) (max (s.rd WDN_STAT.SDUTY) (s.rd WDN_STAT.PDUTY))

/-- `k` strike edges of a row pass; each pause edge among them adds one to WDN_PAUSE_CNT (R494). -/
def State.passEdges (s : State) (row k : Nat) : State :=
  let e := (s.row row).edge
  let n := s.rowDuty row
  let paused := ((List.range k).filter fun i => pauseEdge (e + 1 + i) n).length
  (s.modRow row fun r => { r with edge := e + k }).bump WDN_PAUSE_CNT.V 0 paused

/-- Nothing issues at edge e of the row: it is a pause edge, the device is stopped (R495, R544), or the row's quarter is (R501). -/
def State.pausedAt (s : State) (row e : Nat) : Bool :=
  pauseEdge e (s.rowDuty row) || decide (3 ≤ s.rd WDN_STAT.THERM) || s.rd WDN_RST_CAUSE.STATE == 5
    || s.warden.offQuarters.contains (quarterOf row)

/-- Nothing issues at the row's present edge. -/
def State.paused (s : State) (row : Nat) : Bool := s.pausedAt row (s.row row).edge

/-! ### The mixing steps of R147 -/

/-- The 64-bit result of the mixing steps (R147, R370). -/
def mix64 (z0 seed : Nat) : Nat :=
  let w := 2 ^ 64
  let z := (z0 + seed * 0x9E3779B97F4A7C15) % w
  let z := (Nat.xor z (z / 2 ^ 30) * 0xBF58476D1CE4E5B9) % w
  let z := (Nat.xor z (z / 2 ^ 27) * 0x94D049BB133111EB) % w
  Nat.xor z (z / 2 ^ 31)

/-! ### Temperatures (R469, R490, R492) -/

/-- The latest valid reading of a sensor, in units of 0.1 °C. -/
def State.sensorTemp (s : State) (n : Nat) : Int := signedOf 16 (s.rd WDN_THERM_DATA.TEMP n)

/-- A row's temperature: the higher valid reading of its two sensors (R492). -/
def State.rowTemp (s : State) (row : Nat) : Int :=
  if !s.on WDN_THERM_DATA.VALID (2 * row + 1) then s.sensorTemp (2 * row)
  else if !s.on WDN_THERM_DATA.VALID (2 * row) then s.sensorTemp (2 * row + 1)
  else max (s.sensorTemp (2 * row)) (s.sensorTemp (2 * row + 1))

/-! ### Drift estimates (R87) -/

/-- A group enters fast mode: the next 64 qualifying strikes move its estimates by 1/8 (R86, R87). -/
def State.fastMode (s : State) (gid : Nat) : State :=
  (s.modGroup gid fun x => { x with fastLeft := 64 }).wr TAL_DRIFT_VAL.QUAL gid 0

/-! ### Sleep of rows and quarters (R486) -/

/-- A unit of a mode change, as `class × 65,536 + index` (R448): class 1 logical stalls, 2 rows, 3 weigh houses. -/
def unitId (cls idx : Nat) : Nat := cls * 65536 + idx

/-- The unit is lagging: it has not acknowledged OPEN within ACK_TO (R452). -/
def State.lagging (s : State) (unit : Nat) : Bool := decide (2 ≤ FMap.get 0 s.modeCtl.openWait unit)

/-- How long a unit's wake takes, in CLK_AO cycles, by what it wakes from (R488): 5 with the PLL running, 50 with it stopped, 1,000 from bias-off. -/
def wakeTime (biasOff pllStopped : Bool) : Nat := if biasOff then 1000 else if pllStopped then 50 else 5

/-- The warden latches a wake request of a row or quarter (R488): key `u` of the sleep states. -/
def State.wakeUnit (s : State) (u : Nat) : State :=
  let x := FMap.get 0 s.sleep u
  if x < 2 then
    { s with sleep := FMap.set 0 s.sleep u 2, gatedAt := FMap.set 0 s.gatedAt (12288 + u) 0,
             wakeAt := FMap.set 0 s.wakeAt (12288 + u) (s.now + wakeTime (x == 0) true) }.bump WDN_WAKE_CNT.V
  else s

/-- The quarter of a weigh house does not run: work for the house waits until it has woken (R26). -/
def State.houseAsleep (s : State) (h : Nat) : Bool := FMap.get 0 s.sleep (192 + h / 4) != 3

/-- The stacks of a quarter leave self-refresh, or end their retraining after a reset (R488, R531). -/
def State.stacksUp (s : State) (q : Nat) : State :=
  (List.range 5).foldl (fun s k => if s.rd MEM_UNIT_STAT.STATE (5 * q + k) = 3 ∨ s.rd MEM_UNIT_STAT.STATE (5 * q + k) = 1 then s.setMemUnit (5 * q + k) 2 else s) s

/-- The weigh houses of a quarter in one state enter another (R266): GATED and RUN follow the quarter's sleep. -/
def State.setHouses (s : State) (q old new : Nat) : State :=
  (List.range 4).foldl (fun s h => if s.rd WH_STAT.STATE (4 * q + h) = old then s.wr WH_STAT.STATE (4 * q + h) new else s) s

/-- A waking row or quarter reaches RUN; a quarter's stacks have left self-refresh. -/
def State.unitRuns (s : State) (u : Nat) : State :=
  if FMap.get 0 s.sleep u = 2 then
    let s1 := if 192 ≤ u then (s.stacksUp (u - 192)).setHouses (u - 192) 0 1 else s
    { s1 with sleep := FMap.set 0 s1.sleep u 3, wakeAt := FMap.set 0 s1.wakeAt (12288 + u) 0,
              boot := { s1.boot with inReset := s1.boot.inReset.erase (12288 + u) } }
  else s

/-- A wake request of a row; a wake of a row also wakes its quarter (R488). -/
def State.wakeRowReq (s : State) (row : Nat) : State := (s.wakeUnit row).wakeUnit (192 + quarterOf row)

/-- The state a stall runs in: SPARE_IDLE when it serves no logical stall, else RUN, or DRAINING while a drain holds it (R71). -/
def State.serveState (s : State) (sid : Nat) : Nat :=
  if s.logicalAt sid = 63 then stSpareIdle else if (s.stall sid).drains.isEmpty then stRun else stDraining

/-- A wake request of a sleeping stall, with its row and quarter (R24, R488). -/
def State.wakeStallReq (s : State) (sid : Nat) : State :=
  let x := s.stState sid
  if x < stWaking then
    let pll := FMap.get 0 s.sleep (rowOf sid) == 3
    let s1 := { s with gatedAt := FMap.set 0 s.gatedAt sid 0, wakeAt := FMap.set 0 s.wakeAt sid (s.now + wakeTime (x == stBiasOff) (!pll)) }
    ((s1.setStState sid stWaking).bump WDN_WAKE_CNT.V).wakeRowReq (rowOf sid)
  else s.wakeRowReq (rowOf sid)

/-- A waking stall reaches RUN. -/
def State.stallRuns (s : State) (sid : Nat) : State :=
  if s.stState sid = stWaking then
    { s.setStState sid (s.serveState sid) with
      wakeAt := FMap.set 0 s.wakeAt sid 0, boot := { s.boot with inReset := s.boot.inReset.erase sid } }
  else s

/-- The row's units do not wake: the device is stopping or in FAULT, or the row or its quarter is out of service (R491, R495, R501). -/
def State.noWake (s : State) (row : Nat) : Bool :=
  decide (3 ≤ s.rd WDN_STAT.THERM) || s.rd WDN_RST_CAUSE.STATE == 5 || s.warden.outRows.contains row
    || s.warden.offQuarters.contains (quarterOf row)

/-- The whole wake of a stall, for an access that waits for it (R24, R577). -/
def State.wakeStall (s : State) (sid : Nat) : State :=
  if s.stState sid ≤ stWaking && !s.noWake (rowOf sid) then
    (((s.wakeStallReq sid).stallRuns sid).unitRuns (rowOf sid)).unitRuns (192 + quarterOf (rowOf sid))
  else s

/-- The whole wake of a row. -/
def State.wakeRow (s : State) (row : Nat) : State :=
  if s.noWake row then s else ((s.wakeRowReq row).unitRuns row).unitRuns (192 + quarterOf row)

end Sys2Proof.Machine
end

