-- ==== Sys2Proof/Machine/Operands.lean ====
section
/-! DEFINITION. What the operands of the row's commands name: tiles and their manifest entries, ledger rows and exact products, staging banks, descriptors' banks and slots. -/

namespace Sys2Proof.Machine

/-! ### Generations and ledger rows (R199, R200) -/

/-- The live generation of a slot whose GENERATION is `gen` (R221). -/
def ModelSlot.gen (m : ModelSlot) (gen : Nat) : Option Gen :=
  [m.cur, m.prev, m.next].findSome? fun o => o.bind fun g => if g.man.generation = gen then some g else none

/-- A generation of a slot. -/
def State.genOf (s : State) (slot gen : Nat) : Option Gen := (s.slot slot).gen gen

/-- The shard of a generation. -/
def Gen.shard (g : Gen) (i : Nat) : Shard := FMap.get Shard.init g.shards i

/-- A byte of a list of bytes; 0 beyond its end. -/
def byteOf (bs : List Byte) (off : Nat) : Nat := ((bs[off]?).getD 0#8).toNat

/-- The signed nibble of column c in a packed row, even column in bits [3:0] (R199). -/
def nibbleQ (b c : Nat) : Int := signedOf 4 (if c % 2 = 0 then b % 16 else b / 16)

/-- The signed weight q of row i, column c (0–4,095) of ledger rows (R199). -/
def Ledger.q (l : Ledger) (i c : Nat) : Int := nibbleQ (byteOf l.bytes (l.offset + 2048 * i + c / 2)) c

/-- The ledger rows of a stocked tile. -/
def Gen.ledger (g : Gen) (p : Pitch) : Ledger := ⟨(g.shard p.shard).data, p.offset⟩

/-- The signed weight q of row i, column c (0–4,095) of a stocked tile (R199). -/
def Gen.stockQ (g : Gen) (p : Pitch) (i c : Nat) : Int := (g.ledger p).q i c

/-- The signed weight of row i, column c of a stream entry held in some bytes, unpacked to four bits; rows and columns beyond the valid ones are zero (R200, R218). -/
def streamQ (t : Stream) (bytes : List Byte) (i c : Nat) : Int :=
  if t.inRows ≤ i ∨ t.outCols ≤ c then 0 else
    let at' (k : Nat) : Nat := byteOf bytes (t.offset + t.stride * i + k)
    match t.fmt with
    | 0 => signedOf 4 (if c % 2 = 0 then at' (c / 2) % 16 else at' (c / 2) / 16)
    | 1 =>
      let w := at' (c / 8 * 3) + 256 * at' (c / 8 * 3 + 1) + 65536 * at' (c / 8 * 3 + 2)
      Int.ofNat (bitsOf w (3 * (c % 8)) 3) - 4
    | 2 => Int.ofNat (bitsOf (at' (c / 4)) (2 * (c % 4)) 2) - 2
    | _ => Int.ofNat (at' (c / 5) / 3 ^ (c % 5) % 3) - 1

/-- The same of a stream entry in the ledger. -/
def Gen.streamQ (g : Gen) (t : Stream) (i c : Nat) : Int := Sys2Proof.Machine.streamQ t (g.shard t.shard).data i c

/-- The weight of row i and column c in the SRAM of a fresh plane. -/
def PlaneRam.q (r : PlaneRam) (i c : Nat) : Int :=
  match r with
  | .empty => 0
  | .stream t bytes => streamQ t bytes i c
  | .attention ps which => attnQ ps which i c

/-- A pitch map entry of a generation. -/
def Gen.pitch (g : Gen) (i : Nat) : Option Pitch := g.man.pitch[i]?

/-- The BF16 column scale w_c of a column table (R113). -/
def Gen.scale (g : Gen) (coltab c : Nat) : Nat := ((g.man.columns[coltab]?).getD []).getD c 0

/-- The first feed of a vector for an output group. -/
def Narrow.feed (n : Narrow) (group : Nat) : Option Feed := n.feeds.find? fun f => f.group == group

/-- The narrow record of a vector at a stall. -/
def Stall.record (st : Stall) (tag : Nat) : Option Narrow := st.narrow.find? fun n => n.tag == tag

/-- The generation and pitch map entry of a feed that names a stocked tile. -/
def State.tileOf (s : State) (f : Feed) : Option (Gen × Pitch) :=
  match s.genOf f.slot f.gen with
  | some g => (g.pitch f.src).map fun p => (g, p)
  | none => none

/-- The generation and stream entry of a feed that names a fresh matrix. -/
def State.streamOf (s : State) (f : Feed) : Option (Gen × Stream) :=
  match s.genOf f.slot f.gen with
  | some g => (g.man.streams[f.src - 0x80000000]?).map fun t => (g, t)
  | none => none

/-- SOURCE of a feed that drives a plane of fresh attention: no manifest entry, and no position of a reduction (R254, R258). The model's own number (log entry 86). -/
def attnSource : Nat := 0xFFFFFFFD

/-- The slice of 512 inputs of its vector that a fresh feed takes (R34, R144). -/
def Feed.slice (f : Feed) : Nat := (f.group - 4) % 16

/-- The feed names what a fresh plane holds. -/
def Feed.names (f : Feed) : PlaneSrc → Bool
  | .stream slot gen idx => f.slot == slot && f.gen == gen && f.src == 0x80000000 + idx
  | .attn .. => f.src == attnSource

/-- The fresh slices of a vector, and those that stand in no fresh slot. -/
def Narrow.slices (n : Narrow) : List Nat := ((n.feeds.filter fun f => decide (4 ≤ f.group)).map Feed.slice).eraseDups

/-- What of a vector is still to be staged: its stock vector (`some none`), then its fresh slices in ascending order; `none` when all stands in banks and slots. -/
def Narrow.toStage (n : Narrow) : Option (Option Nat) :=
  if !n.fresh && !n.banked then some none
  else ((sortBy (fun a b => decide (a ≤ b)) n.slices).find? fun k => !n.slots.any fun p => p.2 == k).map some

/-- The record after a part of its vector is written into bank or slot b. -/
def Narrow.staged (n : Narrow) (part : Option Nat) (b : Nat) : Narrow :=
  match part with
  | none => { n with banked := true }
  | some k => { n with slots := (b, k) :: n.slots.filter fun p => p.1 != b && p.2 != k }

/-- What a strike takes of its vector's record: all of it, or of a fresh strike the 512 inputs of its slice. -/
def Narrow.part (n : Narrow) (d : Desc) : Narrow :=
  if d.stock then n else
    let k := d.part % 16
    let cut (xs : List (Nat × Nat)) : List (Nat × Nat) := (xs.filter fun ch => ch.1 / 512 == k).map fun ch => (ch.1 % 512, ch.2)
    { n with codes := (n.codes.drop (512 * k)).take 512, scales := (n.scales.drop (4 * k)).take 4, desig := cut n.desig, dyn := cut n.dyn }

/-- The feed drives a plane of fresh attention. -/
def Feed.attn (f : Feed) : Bool := f.src == attnSource

/-- The weight of input i and output column c of the matrix that a feed names. -/
def State.feedQ (s : State) (f : Feed) (i c : Nat) : Int :=
  if f.src < 0x80000000 then
    match s.tileOf f with
    | some (g, p) => g.stockQ p i (p.group * 1024 + c)
    | none => 0
  else
    match s.streamOf f with
    | some (g, t) => g.streamQ t i c
    | none => 0

/-- The transpose reduction that names a pitch map entry (R319); a number that no reduction has, when none does. -/
def Gen.transRed (g : Gen) (src : Nat) : Nat :=
  ((g.man.reductions.find? fun r => decide (0x80000000 ≤ r.id) && r.contribs.any fun c => c.source == src).map (·.id)).getD (2 ^ 32)

/-- The reduction identity of a feed, that of its entry's transpose reduction for a transpose strike; one of fresh attention feeds none, and answers a number that no reduction has. -/
def State.feedRed (s : State) (f : Feed) : Nat :=
  if f.attn then 2 ^ 32
  else if f.trans then ((s.genOf f.slot f.gen).map fun g => g.transRed f.src).getD (2 ^ 32)
  else if f.src < 0x80000000 then
    match s.tileOf f with
    | some (_, p) => p.tileId
    | none => 0
  else
    match s.streamOf f with
    | some (_, t) => t.tileId
    | none => 0

/-- The column table index of a feed. -/
def State.feedCol (s : State) (f : Feed) : Nat :=
  if f.src < 0x80000000 then
    match s.tileOf f with
    | some (_, p) => p.coltab
    | none => 0
  else
    match s.streamOf f with
    | some (_, t) => t.coltab
    | none => 0

/-- The reduction record of an identity. -/
def Gen.red (g : Gen) (id : Nat) : Option RedRec := g.man.reductions.find? fun r => r.id == id

/-- The columns of its reduction that a feed's strikes bring: those of a transpose strike are the matrix inputs that the tile's rows take, by its input permutation (R203, R319). DEDUCED (log entry 103). -/
def State.feedCols (s : State) (sid : Nat) (f : Feed) : List Nat := if f.trans then FMap.get [] (s.stall sid).perms f.group else []

/-- The position (eighth, ordinal) that a feed's strikes fill (R141, R206). -/
def State.feedPos (s : State) (f : Feed) : Option (Nat × Nat) :=
  match s.genOf f.slot f.gen with
  | some g =>
    match g.red (s.feedRed f) with
    | some r => (r.contribs.find? fun c => c.source == f.src).map fun c => (c.eighth, c.ordinal)
    | none => none
  | none => none

/-! ### Wide tiles (R125 to R127) -/

/-- The row runs: its supply and its clock are up (R486). -/
def State.rowAwake (s : State) (row : Nat) : Bool := FMap.get 0 s.sleep row == 3

/-- The tile is wide for vectors whose quantisation begins now (R126, R127). -/
def State.tileWide (s : State) (gid : Nat) : Bool :=
  s.on TAL_TILE_STAT.STATIC gid || s.on TAL_TILE_STAT.FORCED gid || (s.on TAL_TILE_STAT.WIDE gid && decide (s.rd TAL_TILE_STAT.HOLD_LEFT gid ≠ 0))

/-- A trigger places a tile in the wide state, an entry that is counted, or restarts the hold of one that is wide (R125, R127). -/
def State.widen (s : State) (gid : Nat) : State :=
  let row := rowOf (gid / 4)
  let s1 := if s.tileWide gid then s else s.bump TAL_WIDE_START_CNT.V row
  ((s1.wr TAL_TILE_STAT.WIDE gid 1).wr TAL_TILE_STAT.HOLD_LEFT gid (s.rd TAL_NQ_CTL.HOLD row)).modGroup gid fun x => { x with fired := true }

/-- An output group that holds no tile of a loaded model any more is not wide, and its range control stands still (R120, R125). -/
def State.endTile (s : State) (gid : Nat) : State :=
  (((s.wr TAL_TILE_STAT.STATIC gid 0).wr TAL_TILE_STAT.WIDE gid 0).wr TAL_TILE_STAT.HOLD_LEFT gid 0).modGroup gid fun x => { x with hasMsq := false }

/-! ### Spare lines (R32, R478) -/

/-- The stall of a selector. -/
def selStall (sel : Nat) : Nat := stallId (bitsOf sel 0 8) (bitsOf sel 8 6)

/-! ### Drive codes -/

/-- The format of an output group (R30, R73). -/
def State.groupFmt (s : State) (sid g : Nat) : WFmt :=
  WFmt.ofCode (bitsOf (s.getReg STL_GRP_CFG sid).toNat (8 * g) 2)

/-- STL_GRP_CFG.VERIFIED of an output group. -/
def State.verified (s : State) (sid g : Nat) : Bool := bitAt (s.getReg STL_GRP_CFG sid).toNat (8 * g + 2)

/-- STL_GRP_CFG.PAIRED of an output group. -/
def State.pairedGrp (s : State) (sid g : Nat) : Bool := bitAt (s.getReg STL_GRP_CFG sid).toNat (8 * g + 3)

/-- A nibble as a signed drive code (R38). -/
def signedNib (n : Nat) : Int := signedOf 4 n

/-- Entry `i` of a scale file (R37, R40: 15 where nothing has been written). -/
def scaleAt (scales : List Nat) (i : Nat) : Nat := scales.getD i 15

/-- The drive of row i under a mask and a scale file: 0 for a crate whose mask bit is 0 (R15) or a group driven off (R37), else a × 2^(−d). -/
def driveAt (mask : Nat) (scales : List Nat) (a : Int) (i : Nat) : Dy :=
  if bitAt mask (i / 1024) && decide (scaleAt scales (i / 128) ≤ 7) then ⟨a, -(Int.ofNat (scaleAt scales (i / 128)))⟩ else Dy.zero

/-- Sum over the driven rows of a function of the row and its code. -/
def driveSum (mask : Nat) (scales : List Nat) (drive : List Int) (w : Nat → Int → Int) : Dy :=
  Dy.sum ((drive.zipIdx).map fun (a, i) => driveAt mask scales (w i a) i)

/-- S of R85. -/
def driveS (mask : Nat) (scales : List Nat) (drive : List Int) : Dy := driveSum mask scales drive fun _ a => a
/-- L of R85, the drive load. -/
def driveL (mask : Nat) (scales : List Nat) (drive : List Int) : Dy :=
  driveSum mask scales drive fun _ a => Int.ofNat a.natAbs
/-- S restricted to even rows (R89). -/
def driveEven (mask : Nat) (scales : List Nat) (drive : List Int) : Dy :=
  driveSum mask scales drive fun i a => if i % 2 = 0 then a else 0
/-- S restricted to odd rows (R89). -/
def driveOdd (mask : Nat) (scales : List Nat) (drive : List Int) : Dy :=
  driveSum mask scales drive fun i a => if i % 2 = 1 then a else 0

/-! ### Staging banks (R39 to R41) -/

/-- Bank b of a stall. -/
def Stall.bank (st : Stall) (b : Nat) : Bank := (st.banks[b]?).getD Bank.empty

/-- The feed of a strike, by its group: the output group, or the fresh feed. -/
def outOf (d : Desc) : Nat := if d.stock then d.group else 4 + d.part

/-- A descriptor strikes for the feed of group g. -/
def strikesOut (d : Desc) (g : Nat) : Bool := if 4 ≤ g then d.fresh && 4 + d.part == g else d.stock && d.group == g

/-- The banks that a descriptor's stock strike names: SLOT, and its upper neighbour for a pair (R39). -/
def stockBanks (d : Desc) : List Nat := if d.stock then (if d.wide then [d.slot, d.slot + 1] else [d.slot]) else []

/-- Two descriptors name the same staging bank, fresh slot or output group (R43; a fresh-only descriptor names no output group, log entry 11). -/
def descClash (a b : Desc) : Bool :=
  (a.stock && b.stock && a.group == b.group) || (a.fresh && b.fresh && a.fslot == b.fslot)
    || (stockBanks a).any fun x => (stockBanks b).contains x

/-- The banks of the last widened pair whose low nibbles are not latched before edge e (R40). -/
def Stall.pairBanks (st : Stall) (e : Nat) : List Nat :=
  match st.pairHold with
  | some (low, b) => if e < low then [b, b + 1] else []
  | none => []

/-- At row edge e the bank is not released (R40, R78): a queued strike names it, or the low nibbles of a pair in it are still to strike. -/
def Stall.bankBusy (st : Stall) (e b : Nat) : Bool :=
  (st.queue.any fun d => (stockBanks d).contains b || (d.fresh && b == 3)) || (st.pairBanks e).contains b

/-- The fresh slot is not released: a queued fresh strike names it, or a stock strike the bank it lies in. -/
def Stall.fslotBusy (st : Stall) (e n : Nat) : Bool :=
  (st.queue.any fun d => (d.fresh && d.fslot == n) || (stockBanks d).contains 3) || (st.pairBanks e).contains 3

/-- All sixteen fresh slots are released (R41). -/
def Stall.fslotsFree (st : Stall) : Bool := st.queue.all fun d => !d.fresh

/-- The nibbles of fresh slot n: 512 of bank 3 (R39). -/
def Stall.fslotNibbles (st : Stall) (n : Nat) : List Nat := ((st.bank 3).nibbles.drop (512 * n)).take 512

/-- The four drive-scale codes of fresh slot n. -/
def Stall.fslotScales (st : Stall) (n : Nat) : List Nat := (List.range 4).map fun i => scaleAt (st.bank 3).scales (4 * n + i)

/-- Replace bank b. -/
def Stall.setBank (st : Stall) (b : Nat) (v : Bank) : Stall := { st with banks := st.banks.set b v }

/-- A list cut or padded with `d` to `n` elements. -/
def padTo {α : Type} (n : Nat) (d : α) (xs : List α) : List α := (xs ++ List.replicate (n - xs.length) d).take n

/-- Overwrite `ys` into `xs` at position `at'`, padding with `d`. -/
def splice {α : Type} (d : α) (xs : List α) (at' : Nat) (ys : List α) : List α :=
  padTo at' d xs ++ ys ++ xs.drop (at' + ys.length)

/-- The four-bit pattern of a code (R39). -/
def nibOf (a : Int) : Nat := patternOf 4 a

/-- The staging banks after a part of a narrow record is written: a fresh slice into its slot of bank 3, an A4 vector into one bank, an A8 vector into a pair with the high nibbles and scales in the lower bank (R38, R39). DESIGN CHOICE (log entry 97): the 1,024 signed bytes of a transpose input y (R60) stand in their bank as its first 1,024 entries, of eight bits each. -/
def Stall.stage (st : Stall) (n : Narrow) (part : Option Nat) (b : Nat) : Stall :=
  match part with
  | some k =>
    st.setBank 3 ⟨splice 0 (st.bank 3).nibbles (512 * b) (padTo 512 0 (((n.codes.drop (512 * k)).take 512).map nibOf)),
      splice 15 (st.bank 3).scales (4 * b) (padTo 4 15 ((n.scales.drop (4 * k)).take 4))⟩
  | none =>
  if n.a8 && !n.trans then
    let hi := n.codes.map fun v => patternOf 4 (v / 16)
    let lo := n.codes.map fun v => (v % 16).toNat
    { ((st.setBank b ⟨hi, n.scales⟩).setBank (b + 1) ⟨lo, (st.bank (b + 1)).scales⟩) with
      pair23 := if b = 2 then true else st.pair23 }
  else { (st.setBank b ⟨n.codes.map fun v => patternOf (if n.trans then 8 else 4) v, n.scales⟩) with
         pair23 := if b = 2 then false else st.pair23 }

end Sys2Proof.Machine
end

