-- ==== Sys2Proof/Machine/Cper.lean ====
section
/-! DEFINITION. CPER records and their ring (R380 to R382). -/

namespace Sys2Proof.Machine

/-- What a CPER record says (R381). Fields that hold a "none" value stand at it. -/
structure Cper where
  kind : Nat
  severity : Nat
  verdict : Nat
  flags : Nat
  stall : Option Nat       -- global physical stall
  group : Nat
  chanmap : Nat
  range : Nat
  slot : Nat
  func : Nat
  strike : Nat
  step : Nat
  tag : Nat
  red : Nat
  seq : Nat
  partner : Nat
  wh : Nat
  sigma : Nat
  cyc : Nat
  diffs : List Int
  maxcol : Nat
  colsOver : Nat
  maxdev : Int
deriving DecidableEq, Repr

/-- A record that concerns no unit. -/
def Cper.none (kind severity : Nat) : Cper :=
  ⟨kind, severity, 0, 0, .none, 0xFF, 0, 0, 0xFF, 0xFF, 0, 0, 0, 0, 0xFFFF, 0xFF, 0xFF, 0, 0, [], 0xFFFF, 0, 0⟩

/-- The ASCII bytes of a string. -/
def asciiOf (t : String) : List Byte := t.toList.map fun c => BitVec.ofNat 8 c.toNat

/-- A number in `n` decimal digits, zero-padded. -/
def decimal (n v : Nat) : List Byte := ((List.range n).map fun i => BitVec.ofNat 8 (48 + v / 10 ^ i % 10)).reverse

/-- The FRU text of R380, padded with NUL; a record with no row reads "WSA20". -/
def fruText (c : Cper) : List Byte :=
  padTo 20 0#8 (asciiOf "WSA20" ++ match c.stall with
    | some sid => asciiOf " Q" ++ decimal 1 (quarterOf (rowOf sid)) ++ asciiOf " R" ++ decimal 2 (rowOf sid % 48)
                    ++ asciiOf " S" ++ decimal 2 (posOf sid)
    | .none => [])

/-- A GUID as UEFI lays it out: the first three fields little-endian, the rest in order. -/
def guid (a b c d e : Nat) : List Byte := leBytes 4 a ++ leBytes 2 b ++ leBytes 2 c ++ (leBytes 2 d).reverse ++ (leBytes 6 e).reverse

/-- The notification type of a severity (R380): the UEFI GUIDs for PCI Express errors and for corrected platform errors (log entry 14). -/
def notifyType (severity : Nat) : List Byte :=
  if severity < 2 then guid 0xCF93C01F 0x1A16 0x4DFC 0xB8BC 0x9C4DAF67C104
  else guid 0x4E292F96 0xD843 0x4A55 0xA8C2 0xD481F27EBEEE

/-- The vendor section (R381). -/
def State.cperSection (s : State) (c : Cper) : List Byte :=
  let none8 (f : Nat → Nat) : Nat := match c.stall with
    | some sid => f sid
    | .none => 0xFF
  let row := c.stall.map rowOf
  let temp (f : RField) : Nat := match row with
    | some r => s.rd f r
    | .none => 0x8000
  leBytes 2 1 ++ leBytes 2 c.kind ++ leBytes 1 c.verdict ++ leBytes 1 c.flags ++ leBytes 2 (min s.cperLost 0xFFFF)
    ++ leBytes 1 (if c.wh = 0xFF then none8 fun sid => quarterOf (rowOf sid) else c.wh / 4) ++ leBytes 1 (none8 fun sid => rowOf sid % 48) ++ leBytes 1 (none8 posOf)
    ++ leBytes 1 c.group ++ leBytes 1 c.chanmap ++ leBytes 1 c.range ++ leBytes 1 c.slot ++ leBytes 1 c.func
    ++ leBytes 8 c.strike ++ leBytes 8 c.step ++ leBytes 8 c.tag ++ leBytes 4 c.red ++ leBytes 2 (min c.seq 0xFFFF) ++ leBytes 1 c.partner
    ++ leBytes 1 c.wh ++ leBytes 2 (s.rd CHK_CTL.THRESH) ++ leBytes 2 c.sigma ++ leBytes 4 c.cyc
    ++ ((padTo 8 0 c.diffs).map fun d => leBytes 4 (patternOf 32 d)).flatten
    ++ leBytes 2 c.maxcol ++ leBytes 2 c.colsOver ++ leBytes 4 (patternOf 32 c.maxdev) ++ leBytes 8 (s.rd WDN_ROUND.V)
    ++ leBytes 2 (temp CAL_ROW_TEMP.A) ++ leBytes 2 (temp CAL_ROW_TEMP.B)
    ++ leBytes 4 (match c.stall with | some sid => s.calAge sid | .none => 0)
    ++ leBytes 8 (match c.stall with | some sid => s.rd CAL_STALL_STAMP.STAMP sid | .none => 0) ++ leBytes 8 0

/-- The 328 bytes of a record (R380). -/
def State.cperBytes (s : State) (c : Cper) : List Byte :=
  asciiOf "CPER" ++ leBytes 2 0x0101 ++ leBytes 4 0xFFFFFFFF ++ leBytes 2 1 ++ leBytes 4 c.severity ++ leBytes 4 0 ++ leBytes 4 328
    ++ leBytes 8 0 ++ leBytes 16 0 ++ leBytes 16 0 ++ guid 0xA17C39E0 0x4B52 0x4E8D 0x9C61 0x0F2B7D5E8A94 ++ notifyType c.severity
    ++ leBytes 8 (s.rd CHK_CPER_WIDX.V) ++ leBytes 4 0 ++ leBytes 8 0 ++ leBytes 12 0
    ++ leBytes 4 200 ++ leBytes 4 128 ++ leBytes 2 0x0100 ++ leBytes 1 2 ++ leBytes 1 0 ++ leBytes 4 1
    ++ guid 0x5B7E1C42 0x93A6 0x4D0F 0xB2E8 0x61C0A9D4F317 ++ leBytes 16 0 ++ leBytes 4 c.severity ++ fruText c
    ++ s.cperSection c

/-- The ring is full (R380). -/
def State.cperFull (s : State) : Bool :=
  let w := s.rd CHK_CPER_WIDX.V
  let r := s.rd CHK_CPER_RIDX.V
  decide (w < r) || decide (2 ^ s.rd CHK_CPER_CTL.LEN ≤ w - r)

/-- Write a record into the next slot of the ring and then the count; a record that finds the ring full is dropped (R380). -/
def State.cper (s : State) (c : Cper) : State :=
  if s.on CHK_CPER_CTL.EN then
    if s.cperFull then
      { (s.bump CHK_CPER_DROP_CNT.V).flag CHK_ERR.CPER_LOST with cperLost := s.cperLost + 1 }
    else
      let base := s.rd CHK_CPER_ADDR.V
      let slots := 2 ^ s.rd CHK_CPER_CTL.LEN
      let w := s.rd CHK_CPER_WIDX.V
      let s1 := s.send (.hostWrite 0 (base + 512 * (w % slots)) (s.cperBytes c))
      let s2 := (s1.bump CHK_CPER_WIDX.V).send (.hostWrite 0 (base + 512 * slots) (leBytes 8 (w + 1)))
      { s2.fnEvent 0 4 with cperLost := 0 }
  else s

end Sys2Proof.Machine
end

