-- ==== Sys2Proof/Machine/Discard.lean ====
section
/-! DEFINITION. Strikes whose values are not wanted: a strike leaves the strikes in flight, its reorder store entry and its narrow record are freed, and the late values of an instance that is complete or given up are discarded (R102, R114, R150, R157). -/

namespace Sys2Proof.Machine

/-- Remove a strike in flight. -/
def State.dropStrike (s : State) (sid : Nat) (x : Strike) : State :=
  s.modStall sid fun st => { st with inflight := st.inflight.erase x }

/-- Free reorder store entries. -/
def State.freeEntries (s : State) (row k : Nat) : State :=
  s.wr TAL_ACC_STAT.REORDER_USED row (s.rd TAL_ACC_STAT.REORDER_USED row - k)

/-- Close an instance. -/
def State.closeInst (s : State) (row red tag : Nat) : State :=
  s.modRow row fun x => { x with insts := x.insts.filter fun i => !(i.red == red && i.tag == tag) }

/-- A vector's record gives up the strike of a group (R114); a record with none left is free. -/
def Stall.giveUp (st : Stall) (tag g : Nat) : Stall :=
  { st with narrow := (st.narrow.map fun x => if x.tag = tag then { x with left := x.left.erase g } else x).filter fun x => !x.left.isEmpty }

/-- Something of the strike of a vector for a group is still to come: a strike in flight, or a descriptor (a replay, or a half of a split). -/
def Stall.partOut (st : Stall) (tag g : Nat) : Bool :=
  (st.inflight.any fun x => x.kind == .work && x.stage != .released && x.desc.tag == tag && strikesOut x.desc g) || (st.queue ++ st.held).any fun d => d.tag == tag && strikesOut d g

/-- The record gives up a strike of which nothing is still to come. -/
def State.giveUp (s : State) (sid tag g : Nat) : State :=
  s.modStall sid fun st => if st.partOut tag g then st else st.giveUp tag g

/-- A strike in flight is discarded: its reorder store entry is free, and its record gives it up. -/
def State.discardStrike (s : State) (sid : Nat) (x : Strike) : State :=
  ((s.dropStrike sid x).freeEntries (rowOf sid) (ofBool x.entry)).giveUp sid x.desc.tag (outOf x.desc)

/-- Whatever a vector's strike for a group still brings is discarded. -/
def Stall.markVoid (st : Stall) (tag : Nat) (p : Feed → Bool) : Stall :=
  { st with narrow := st.narrow.map fun n => if n.tag = tag then { n with void := n.void ++ (n.feeds.filter p).map (·.group) } else n }

/-- The values that strikes still in flight bring to an instance are discarded on release: the instance is complete by exact values, or given up (R157). -/
def State.voidInst (s : State) (red tag : Nat) : State :=
  s.stalls.foldl (fun s e =>
    if e.2.narrow.any (fun n => n.tag == tag) then s.modStall e.1 fun st => st.markVoid tag fun f => s.feedRed f == red else s) s

/-- A row closes an instance with the partials that wait in it, whose reorder store entries are free (R150). -/
def State.closeRow (s : State) (row red tag : Nat) : State :=
  let ws := ((s.row row).insts.filter fun i => i.red == red && i.tag == tag).flatMap (·.waiting)
  (s.closeInst row red tag).freeEntries row (ws.filter fun w => w.entry).length

/-- An instance is given up at every row that holds it: its position is retracted, or its sequence has ended. -/
def State.giveUpInst (s : State) (red tag : Nat) : State :=
  (s.rows.foldl (fun s e => if e.2.insts.any fun i => i.red == red && i.tag == tag then s.closeRow e.1 red tag else s) s).voidInst red tag

end Sys2Proof.Machine
end

