-- ==== Sys2Proof/Machine/Flags.lean ====
section
/-! DEFINITION. The flag computations of the row: clip codes (R50, R58, R60), the correction of one code (R49, R91, R92, R128), the reference checks (R85 to R90) and the verdicts of the check lane, of probes and of pairs (R365 to R371, R374, R376). -/

namespace Sys2Proof.Machine

/-! ### Journal indices and the touch-up event (R181, R189) -/

/-- The journal index of a crate of a physical stall (R181). -/
def jrnIndex (sid k : Nat) : Nat := (rowOf sid * 33 + posOf sid) * 32 + k
/-- The physical stall of a journal index. -/
def jrnStall (i : Nat) : Nat := stallId (i / 1056) (i / 32 % 33)
/-- The output group of a journal index. -/
def jrnGroup (i : Nat) : Nat := i % 32 / 8
/-- The number of physical stock crates. -/
def jrnCount : Nat := 202752
/-- The journal indices of the eight crates of a group. -/
def groupCrates (sid g : Nat) : List Nat := (List.range 8).map fun k => jrnIndex sid (8 * g + k)

/-- A stocking flag with the physical journal index of its cause (R196). -/
def State.stkFlag (s : State) (f : RField) (i : Nat) : State := s.flagAt f 0 [(STK_ERR.INDEX, i)]

/-- The TOUCHUP_DUE event (R189): the flag, and source 209 even where it stood. -/
def State.touchupDue (s : State) (i : Nat) : State :=
  let s1 := s.stkFlag STK_ERR.TOUCHUP_DUE i
  if s.on STK_ERR.TOUCHUP_DUE then s1.raise 209 else s1

/-! ### Codes -/

/-- A clip code: an end of the code's span (R50, R58, R60). -/
def clipCode (top code : Nat) : Bool := code == 0 || decide (top ≤ code)

/-- The highest code of a stock strike: 255, 4,095 for a pair, 63 for a transpose strike. -/
def topCode (d : Desc) : Nat := if d.trans then 63 else if d.wide then 4095 else 255

/-- A stock code in Δ-units (R49, R58, R60). -/
def stockValue (d : Desc) (code : Nat) : Dy :=
  if d.trans then ⟨Int.ofNat code - 32, Int.ofNat d.range + 1⟩
  else if d.wide then ⟨Int.ofNat code - 2048, Int.ofNat d.range - 3⟩
  else ⟨Int.ofNat code - 128, Int.ofNat d.range + 1⟩

/-- A fresh code in Δ-units (R49). -/
def freshValue (d : Desc) (code : Nat) : Dy := ⟨Int.ofNat code - 128, Int.ofNat d.frange + 1⟩

/-- A reference code in Δ-units: the 8-bit transfer at 1/8 gain (R49, R85). -/
def refValue (r code : Nat) : Dy := ⟨(Int.ofNat code - 128) * 8, Int.ofNat r + 1⟩

/-- An exact column or row value as a whole number of code steps of 2^k Δ-units, rounded to nearest (DESIGN CHOICE, log entry 76: a tie to the even code), about a zero code and within the codes of the span. -/
def idealAt (k : Int) (mid top : Nat) (P : Dy) : Nat := (max 0 (min ((P.mul ⟨1, -k⟩).rne + Int.ofNat mid) (Int.ofNat top))).toNat

/-- The ideal transfer of a strike: an 8-bit code at RANGE r, a 12-bit code of a pair, a 6-bit row code of a transpose strike (R49, R58, R60). -/
def idealCode (d : Desc) (P : Dy) : Nat :=
  if d.trans then idealAt (Int.ofNat d.range + 1) 32 63 P
  else if d.wide then idealAt (Int.ofNat d.range - 3) 2048 4095 P
  else idealAt (Int.ofNat d.range + 1) 128 255 P

/-- The ideal transfer of a fresh column: the 8-bit code at FRANGE (R49). -/
def idealFresh (d : Desc) (P : Dy) : Nat := idealAt (Int.ofNat d.frange + 1) 128 255 P

/-- The 12-bit code of a coarse and a fine code (R58). -/
def code12 (c f : Nat) : Nat := min (16 * c + f - 8) 4095

/-! ### Trim entries (R91) -/

/-- GAIN of a trim entry, signed. -/
def trimGain (e : Nat) : Int := signedOf 12 (bitsOf e 0 12)
/-- OFFSET of a trim entry, signed, in sixteenths of a code step. -/
def trimOffset (e : Nat) : Int := signedOf 10 (bitsOf e 12 10)
/-- DROP of a trim entry. -/
def trimDrop (e : Nat) : Nat := bitsOf e 22 8
/-- The trim range used by a group reaches 75 %: the largest |g| of its columns is 1,536 of 2,048 or more (R91, R189). -/
def trimsWide (trims : FMap Nat) (g : Nat) : Bool := trims.any fun p => p.1 / 1024 == g && decide (1536 ≤ (trimGain p.2).natAbs)

/-- A trim entry from its fields. -/
def trimOf (g o : Int) (k : Nat) : Nat := patternOf 12 g + 2 ^ 12 * patternOf 10 o + 2 ^ 22 * (k % 256)

/-- Column offset and gain on a value in Δ-units (R92): the offset counts 8-bit code steps at range r. -/
def offsetGain (e r : Nat) (x : Dy) : Dy :=
  (x.sub ⟨trimOffset e, Int.ofNat r + 1 - 4⟩).mul ⟨2 ^ 14 + trimGain e, -14⟩

/-- Division by a drift gain, rounded to FP32 (log entry 12 for a gain of zero). -/
def divGain (x γ : Word32) : Word32 := if (F32.toDy γ).m = 0 then Config.zeroGain x else F32.div x γ

/-- The drift correction (R86, R92): the product, the difference and the quotient each round to FP32; the value corrected enters exactly (log entry 13). -/
def driftCorrect (γ ζ : Word32) (S x : Dy) : Dy :=
  F32.toDy (divGain (F32.ofDy (x.sub (F32.toDy (F32.mul ζ (F32.ofDy S))))) γ)

/-- The supply-line drop correction (R92). -/
def dropCorrect (e : Nat) (L x : Dy) : Dy := x.mul ((Dy.ofInt 1).add ((Dy.ofInt (Int.ofNat (trimDrop e))).mul (L.mul ⟨1, -24⟩)))

/-- The drift estimate of a group as correction uses it: (1, 0) with DRIFT_EN = 0 (R89, R105). -/
def State.driftPair (s : State) (sid g : Nat) : Option (Word32 × Word32) :=
  if s.on TAL_COR_CTL.DRIFT_EN (rowOf sid) then
    let x := s.group (groupId sid g)
    some (x.gamma, x.zeta)
  else none

/-- The value of one stock column before outlier_sum (R92), from its value in Δ-units, under the trim entries of its strike's edge (R93). -/
def State.correctStock (s : State) (sid : Nat) (trims : FMap Nat) (d : Desc) (c : Nat) (S L x : Dy) : Dy :=
  let e := FMap.get 0 trims (d.group * 1024 + c)
  let x1 := offsetGain e d.range x
  let x2 := match s.driftPair sid d.group with
    | some (γ, ζ) => driftCorrect γ ζ S x1
    | none => x1
  let x3 := if s.on TAL_COR_CTL.DROP_EN (rowOf sid) then dropCorrect e L x2 else x2
  x3.mul ⟨1, -(Int.ofNat (s.groupFmt sid d.group).shift)⟩

/-- The value of one fresh column before outlier_sum (R92 with s = 0). -/
def correctFresh (trims : FMap Nat) (d : Desc) (c : Nat) (x : Dy) : Dy :=
  offsetGain (FMap.get 0 trims (4096 + c)) d.frange x

/-- The value of one row of a transpose strike (R321): row-sense trims of its converter, the group's γ̂, the format shift. -/
def State.correctRow (s : State) (sid : Nat) (d : Desc) (i : Nat) (x : Dy) : Dy :=
  let t := FMap.get (0, 0) (s.stall sid).rowTrim (i / 128)
  let x1 := (x.sub ⟨t.2, Int.ofNat d.range + 1 - 4⟩).mul ⟨2 ^ 14 + t.1, -14⟩
  let x2 := match s.driftPair sid d.group with
    | some (γ, _) => F32.toDy (divGain (F32.ofDy x1) γ)
    | none => x1
  x2.mul ⟨1, -(Int.ofNat (s.groupFmt sid d.group).shift)⟩

/-! ### Reference columns (R85 to R90) -/

/-- The least size of |S| that qualifies (R86). -/
def qualifies (sMin : Nat) (S : Dy) (lo hi : Nat) : Bool :=
  S.m != 0 && (Dy.ofInt (Int.ofNat (16 * sMin))).le S.abs && !clipCode 255 lo && !clipCode 255 hi

/-- FP32 of an integer. -/
def f32i (n : Int) : Word32 := F32.ofDy (Dy.ofInt n)

/-- γ of one strike (R85), every operation rounded to FP32 (R86). -/
def strikeGamma (mLo mHi S : Word32) : Word32 := F32.div (F32.sub mHi mLo) (F32.mul (f32i 15) S)

/-- ζ of one strike (R85). -/
def strikeZeta (pz : Nat) (mLo mHi S γ : Word32) : Word32 :=
  F32.sub (F32.div (F32.add mHi mLo) (F32.mul (f32i 2) S)) (F32.div (F32.mul γ (f32i (15 - 2 * Int.ofNat pz))) (f32i 2))

/-- One update of an estimate: 1/64 of the difference, 1/8 in fast mode (R86). -/
def stepTo (fast : Bool) (old new : Word32) : Word32 :=
  F32.add old (F32.mul (F32.ofDy ⟨1, if fast then -3 else -6⟩) (F32.sub new old))

/-- An estimate shown in a register field: rounded to the step, saturated (R86). -/
def showField (wd : Nat) (step : Int) (x : Dy) : Nat :=
  let v := (x.mul ⟨1, -step⟩).rne
  patternOf wd (max (-(2 ^ (wd - 1) : Int)) (min v (2 ^ (wd - 1) - 1)))

/-- REF_PAT disagrees with the drive (R89): `m` formed from the code, `e` exact, `limit` in Δ-units. -/
def refPatBad (code : Nat) (m e limit : Dy) : Bool :=
  if code = 0 then limit.lt (e.sub m)
  else if 255 ≤ code then limit.lt (m.sub e)
  else limit.lt (m.sub e).abs

/-- The limit of R89: 8 × σ_B × column full scale, σ_B = 0.75 % (log entry 13). -/
def refPatLimit (r : Nat) : Dy := (Dy.ofInt (6 * 2 ^ (r + 9))).quot (Dy.ofInt 100)

/-- The exact REF_PAT value of a drive: (15 − p_z) × S_even − p_z × S_odd (R89). -/
def refPatExact (pz mask : Nat) (scales : List Nat) (drive : List Int) : Dy :=
  ((Dy.ofInt (15 - Int.ofNat pz)).mul (driveEven mask scales drive)).sub
    ((Dy.ofInt (Int.ofNat pz)).mul (driveOdd mask scales drive))

/-- REF_PAT of one strike of a group disagrees (R89). -/
def State.refPatFails (s : State) (sid : Nat) (d : Desc) (scales : List Nat) (drive : List Int) (code : Nat) : Bool :=
  let S := driveS d.mask scales drive
  let x := refValue d.range code
  let m := match s.driftPair sid d.group with
    | some (γ, ζ) => driftCorrect γ ζ S x
    | none => x
  refPatBad code m (refPatExact (s.groupFmt sid d.group).pz d.mask scales drive) (refPatLimit d.range)

/-! ### Exact sums (R199, R363) -/

/-- The live generation and pitch map entry of the tile stocked at a group of a stall. -/
def State.tileAt (s : State) (sid g : Nat) : Option (Gen × Pitch) :=
  if s.logicalAt sid = 63 then none
  else s.slots.findSome? fun e =>
    [e.2.cur, e.2.prev, e.2.next].findSome? fun o => o.bind fun gen =>
      (gen.man.pitch.find? fun p => p.stall == s.logicalNo sid && p.group == g).map fun p => (gen, p)

/-- The other copy of a paired tile: its global logical stall (R193, R374). -/
def State.partner (s : State) (sid g : Nat) : Option Nat :=
  match s.tileAt sid g with
  | some (gen, p) =>
    if p.paired then
      (gen.man.pitch.find? fun q => q.paired && q.stall != p.stall && q.group == p.group && q.shard == p.shard && q.offset == p.offset).map (·.stall)
    else none
  | none => none

/-! ### The memories of the lanes (R94, R363) -/

/-- The 1,024 columns of an output group in ledger row i, as 512 bytes (R199). -/
def Ledger.groupRow (l : Ledger) (g i : Nat) : List Byte := (l.bytes.drop (l.offset + 2048 * i + 512 * g)).take 512

/-- The 8,192 source indices of a pitch map entry's input permutation; none without one (R203). -/
def Gen.perm (g : Gen) (p : Pitch) : List Nat :=
  if p.permShard = 0xFFFFFFFF then []
  else (List.range 8192).map fun i => leAt (g.shard p.permShard).data (p.permOffset + 2 * i) 2

/-- The porter loads a tile's checksums, the rows of its designated channels with the index list beside them, and its input permutation (R94, R203, R208 step 4, R363). -/
def Stall.loadSram (st : Stall) (gen : Gen) (p : Pitch) : Stall :=
  let l := gen.ledger p
  { st with desig := p.channels, perms := FMap.set [] st.perms p.group (gen.perm p), csum := FMap.set Ledger.none st.csum p.group l,
            osram := (p.channels.zipIdx).foldl (fun m (c, k) =>
              FMap.set [] m k (splice 0#8 (FMap.get [] m k) (512 * p.group) (l.groupRow p.group c))) st.osram }

/-- The porter loads the memories of a stall's lanes again, from the ledger rows of the tiles that it holds (R96, R376, R473). -/
def State.reloadSram (s : State) (sid : Nat) : State :=
  (List.range 4).foldl (fun s g =>
    match s.tileAt sid g with
    | some (gen, p) => s.modStall sid fun st => st.loadSram gen p
    | none => s) (s.modStall sid fun st => { st with osramBad := [] })

/-- The ledger rows of the tile of a group can be read: it has none, or its shard is valid (R214). -/
def State.tileValid (s : State) (sid g : Nat) : Bool :=
  match s.tileAt sid g with
  | some (gen, p) => (gen.shard p.shard).valid
  | none => true

/-- Every tile that the stall holds has a valid ledger shard to load from (R96, R214). -/
def State.ledgerReady (s : State) (sid : Nat) : Bool := (List.range 4).all (s.tileValid sid)

/-- The weight of a designated channel and column c that the outlier SRAM holds (R94). -/
def Stall.desigQ (st : Stall) (chan c : Nat) : Int :=
  match st.desig.findIdx? (· == chan) with
  | some k => nibbleQ (byteOf (FMap.get [] st.osram k) (c / 2)) c
  | none => 0

/-- The signed weight of row i and column c of the tile stocked at a group; 0 with no tile. -/
def State.tileQ (s : State) (sid g i c : Nat) : Int :=
  match s.tileAt sid g with
  | some (gen, p) => gen.stockQ p i (g * 1024 + c)
  | none => 0

/-- The exact column value of a drive on a stocked group. -/
def State.exactCol (s : State) (sid : Nat) (d : Desc) (scales : List Nat) (drive : List Int) (c : Nat) : Dy :=
  driveSum d.mask scales drive fun i a => a * s.tileQ sid d.group i c

/-- P of R49 in Δ-units: 2^s × the exact column value of a drive, s the shift of the group's format (R30). -/
def State.columnP (s : State) (sid : Nat) (d : Desc) (scales : List Nat) (drive : List Int) (c : Nat) : Dy :=
  (s.exactCol sid d scales drive c).mul ⟨1, Int.ofNat (s.groupFmt sid d.group).shift⟩

/-- The ideal code of a stock column (R49, R58), and of a column of a fresh plane, whose format shift is 0. -/
def State.stockIdeal (s : State) (sid : Nat) (d : Desc) (scales : List Nat) (drive : List Int) (c : Nat) : Nat := idealCode d (s.columnP sid d scales drive c)

/-- The column value that the check lane forms from the group's checksum SRAM (R363, R365). -/
def State.laneCol (s : State) (sid : Nat) (d : Desc) (scales : List Nat) (drive : List Int) (c : Nat) : Dy :=
  let l := FMap.get Ledger.none (s.stall sid).csum d.group
  driveSum d.mask scales drive fun i a => a * l.q i (d.group * 1024 + c)

/-- The checksum c(g, k, i) of R363. -/
def Ledger.checksum (l : Ledger) (g k i : Nat) : Int := ((List.range 128).map fun j => l.q i (1024 * g + 128 * k + j)).sum

/-- The column sum C(g, j) of R364. -/
def Ledger.colSum (l : Ledger) (g j : Nat) : Int := ((List.range 8192).map fun i => l.q i (1024 * g + j)).sum

/-- The 16-bit entry of the column-sum file for a column sum (R364). -/
def entry16 (v : Int) : Int := if -(2 ^ 15) ≤ v ∧ v < 2 ^ 15 then v else (Config.wideColSum v).toInt

/-- The sum over all rows that the check lane forms for a transpose strike from the column-sum file (R364, R366). -/
def State.laneRows (s : State) (sid : Nat) (d : Desc) (scales : List Nat) (drive : List Int) : Dy :=
  let l := FMap.get Ledger.none (s.stall sid).csum d.group
  driveSum 0xFF scales drive fun j a => a * entry16 (l.colSum d.group j)

/-- The exact column value of a fresh drive on a plane: 512 rows, four scale codes. -/
def PlaneRam.exact (r : PlaneRam) (scales : List Nat) (drive : List Int) (c : Nat) : Dy :=
  driveSum 1 scales drive fun i a => a * r.q i c

/-- The ideal code of a column of a fresh drive (R49). -/
def PlaneRam.ideal (r : PlaneRam) (d : Desc) (scales : List Nat) (drive : List Int) (c : Nat) : Nat := idealFresh d (r.exact scales drive c)

/-- The checksum vector of channel group k of a fresh plane: the sum of its 128 columns at row i (R255, R363). -/
def PlaneRam.checksum (r : PlaneRam) (k i : Nat) : Int := ((List.range 128).map fun j => r.q i (128 * k + j)).sum

/-- The exact sum of channel group k of a fresh drive, from the checksum vector (R365). -/
def PlaneRam.laneSum (r : PlaneRam) (scales : List Nat) (drive : List Int) (k : Nat) : Dy :=
  driveSum 1 scales drive fun i a => a * r.checksum k i

/-- The outlier lane's sum `w` of 128 products of a channel with BF16 value x differs from x × 2^(−k_max) × c by more than 2⁻¹⁶ × |x| × 2^(−k_max) × 1,024 (R367); a sum that is not finite differs. -/
def residueOff (x : Nat) (kmax c : Int) (w : Word32) : Bool :=
  let v := F32.toDy (BF16.toF32 x)
  !F32.finite w || (v.abs.mul ⟨1, -6 - kmax⟩).lt ((F32.toDy w).sub (v.mul ⟨c, -kmax⟩)).abs

/-- The exact row value of a transpose drive: Σ over columns j of 2^(−d_k) y_j q_ij (R60). -/
def State.exactRow (s : State) (sid : Nat) (d : Desc) (scales : List Nat) (drive : List Int) (i : Nat) : Dy :=
  driveSum 0xFF scales drive fun j a => a * s.tileQ sid d.group i j

/-- The exact sum of channel k (R365): Σ of 128 columns. -/
def sumOf128 (col : Nat → Dy) (k : Nat) : Dy := Dy.sum ((List.range 128).map fun j => col (128 * k + j))

/-! ### The group-sum check (R365, R366) -/

/-- σ_e of a group at RANGE r, in units of 0.001 % of full scale (R365, R105); at RANGE 0 to 2 and 13 to 15 the figure measured for the group and range takes the place of σ_B (R82). A group whose drift estimate has passed its limit is checked at the measured figure alone until the next run (R88). -/
def State.sigmaE (s : State) (sid g r : Nat) : Nat :=
  let m := s.rd TAL_SIGMA.SIGMA (groupId sid g)
  let b := FMap.get 750 (s.group (groupId sid g)).sigmaR r
  if bitsOf (s.getReg TAL_COR_CTL (rowOf sid)).toNat 0 4 = 15 && !(s.group (groupId sid g)).beyond then max b m
  else if s.rd TAL_SIGMA.RUNS (groupId sid g) = 0 then b else m

/-- σ given in units of 0.001 %, as an FP32 fraction. -/
def sigmaF32 (σ : Nat) : Word32 := F32.div (f32i (Int.ofNat σ)) (f32i 100000)

/-- K of CHK_CTL.THRESH as an exact number. -/
def State.kThresh (s : State) : Dy := ⟨Int.ofNat (s.rd CHK_CTL.THRESH), -4⟩

/-- T of R365, multiplied in the order R365 states; `scale` is the exponent of full scale, `n` what the root is taken of. -/
def threshold (K : Dy) (σ : Nat) (scale : Int) (n : Nat) : Word32 :=
  F32.mul (F32.mul (F32.mul (F32.ofDy K) (sigmaF32 σ)) (F32.ofDy ⟨1, scale⟩)) (F32.sqrtDy (Dy.ofInt (Int.ofNat n)))

/-- The FP32 sum of values in ascending order from +0 (R365). -/
def f32Sum (xs : List Dy) : Word32 := xs.foldl (fun a x => F32.add a (F32.ofDy x)) 0#32

/-- d_k of R365. -/
def diffOf (ys : List Dy) (x : Dy) : Word32 := F32.sub (f32Sum ys) (F32.ofDy x)

/-- |d| > T; a difference that is not finite exceeds it. -/
def exceeds (d T : Word32) : Bool := !F32.finite d || (F32.toDy T).lt (F32.toDy d).abs

/-- A difference in units of 0.001 % of full scale (R381), full scale 2^scale. -/
def inPpm (d : Word32) (scale : Int) : Int := ((F32.toDy d).mul ⟨100000, -scale⟩).rne

/-- The eight d_k of a strike of 1,024 columns (R365). -/
def groupDiffs (xs : List Dy) (exact : Nat → Dy) : List Word32 :=
  (List.range 8).map fun k => diffOf ((xs.drop (128 * k)).take 128) (sumOf128 exact k)

/-- The bits of the channel groups that fail. -/
def chanMap (ds : List Word32) (T : Word32) : Nat :=
  ((ds.zipIdx).map fun (d, k) => if exceeds d T then 2 ^ k else 0).sum

/-! ### Probes, canaries and pairs (R369, R371, R374, R376) -/

/-- A tolerance of (K + 1) × σ × 2^scale, σ in units of 0.001 % of full scale. -/
def tolerance (K : Dy) (σ : Dy) (scale : Int) : Dy :=
  ((K.add (Dy.ofInt 1)).mul (σ.mul ⟨1, scale⟩)).quot (Dy.ofInt 100000)

/-- σ_p of R371 in units of 0.001 %: 0.474 % × max(1, σ / σ_B). -/
def sigmaP (σ : Nat) : Dy := if σ ≤ 750 then Dy.ofInt 474 else (Dy.ofInt (474 * Int.ofNat σ)).quot (Dy.ofInt 750)

/-- The column tolerance of R374 for one strike, with √2 for a pair of copies and 1 for the inspector (R376). -/
def State.columnTol (s : State) (sid g r : Nat) (scale : Int) (root2 : Bool) : Dy :=
  let t := tolerance s.kThresh (Dy.ofInt (Int.ofNat (s.sigmaE sid g r))) scale
  if root2 then t.mul (Dy.sqrt (Dy.ofInt 2)) else t

/-- The columns whose values differ by more than a tolerance. -/
def colsOver (xs ys : List Dy) (tol : Dy) : List Nat :=
  ((List.zip xs ys).zipIdx).filterMap fun ((x, y), c) => if tol.lt (x.sub y).abs then some c else none

/-- The column with the largest deviation, and that deviation. -/
def maxDev (xs ys : List Dy) : Nat × Dy :=
  ((List.zip xs ys).zipIdx).foldl (fun best ((x, y), c) =>
    if best.1 = 0xFFFF || best.2.abs.lt (x.sub y).abs then (c, x.sub y) else best) (0xFFFF, Dy.zero)

/-- The exponent of column full scale after the format shift: 2^(r+9−s). -/
def fullScale (r shift : Nat) : Int := Int.ofNat r + 9 - Int.ofNat shift

end Sys2Proof.Machine
end

