-- ==== Sys2Proof/Machine/KvOps.lean ====
section
/-! DEFINITION. Pages, their references and pins, and the page pool of a slot (R229, R233 to R246). -/

namespace Sys2Proof.Machine

/-! ### Shape of a slot's pages (R264) -/

/-- KVH_M1 + 1. -/
def State.kvHeads (s : State) (slot : Nat) : Nat := s.rd KV_SLOT_CFG.KVH_M1 slot + 1
/-- LAYERS. -/
def State.kvLayers (s : State) (slot : Nat) : Nat := s.rd KV_SLOT_CFG.LAYERS slot
/-- KVFMT. -/
def State.kvFmt (s : State) (slot : Nat) : Nat := s.rd KV_SLOT_CFG.KVFMT slot
/-- Fresh attention serves a sequence (R228, R254): its slot has FRESH_ATTN = 1, KVFMT = KV4 and H ≤ 8, the device allows it, and the sequence is in no tuning job. -/
def State.freshAttn (s : State) (x : Seq) : Bool :=
  s.on KV_SLOT_CFG.FRESH_ATTN x.slot && s.on KV_CTL.FRESH_ATTN_EN && s.kvFmt x.slot == 5 && decide (s.kvHeads x.slot ≤ 8) && x.job.isNone
/-- Bytes of the pool that a new page of the slot takes. -/
def State.newCost (s : State) (slot : Nat) : Nat := pageCost (s.kvFmt slot) (s.kvHeads slot)

/-- The page. -/
def State.page (s : State) (id : Nat) : Page := FMap.get Page.init s.pages id
/-- Replace a page. -/
def State.setPage (s : State) (id : Nat) (p : Page) : State := { s with pages := FMap.set Page.init s.pages id p }

/-- Bytes of the pool that a page takes. -/
def Page.cost (p : Page) : Nat := pageCost p.format (p.kvh + 1)

/-! ### The pool (R229) -/

/-- The pool of a slot in pages of 65,536 bytes: that of its live generations' grant (R212). -/
def State.poolPages (s : State) (slot : Nat) : Nat :=
  let m := s.slot slot
  match m.cur with
  | some g => g.kvPages
  | none => (m.next.map (·.kvPages)).getD 0

/-- A quarter's share: ⌊KV_PAGES / 4⌋ pages, the remainder to Q0. -/
def State.sharePages (s : State) (slot q : Nat) : Nat :=
  let n := s.poolPages slot
  n / 4 + (if q = 0 then n % 4 else 0)

/-- The granules of a quarter's share, in order (R394). -/
def State.sharePool (s : State) (slot q : Nat) : List Nat :=
  let m := s.slot slot
  ((m.cur.or m.next).map fun g => g.pool.getD q []).getD []

/-- Granules that are retired, or are due to be (R398). -/
def State.deadGrans (s : State) : List Nat := s.mem.retired ++ s.mem.extra ++ s.mem.due

/-- The live pages of a share. -/
def State.sharedPages (s : State) (slot q : Nat) : List Page :=
  (s.pages.map (·.2)).filter fun p => p.live && p.slot == slot && p.share == q

/-- The granules of a share that no page holds and that no page may take, with their places (R398). -/
def State.lostGrans (s : State) (slot q : Nat) : List (Nat × Nat) :=
  (s.sharePool slot q).zipIdx.filter fun g => s.deadGrans.contains g.1 && !(s.sharedPages slot q).any fun p => p.grans.contains g.1

/-- Save-area granules that the sequences of a share hold (R320). -/
def State.saveOf (s : State) (slot q : Nat) : Nat :=
  ((s.seqs.filter fun e => e.2.slot == slot && e.2.home == q).map fun e => e.2.save).sum

/-- Bytes of a share in use, or lost. -/
def State.shareUsed (s : State) (slot q : Nat) : Nat :=
  ((s.sharedPages slot q).map Page.cost).sum + 65536 * (s.saveOf slot q + (s.lostGrans slot q).length)

/-- Units of 8,192 bytes that the data of a page takes (R233). -/
def Page.units (p : Page) : Nat := footprint (2048 * (p.kvh + 1) * pageBits p.format) / 8192

/-- The same of a new page of the slot. -/
def State.newUnits (s : State) (slot : Nat) : Nat := footprint (2048 * s.kvHeads slot * pageBits (s.kvFmt slot)) / 8192

/-- The stretches that a sorted list of taken ones leaves free before `stop`. -/
def gapsFrom (stop : Nat) : Nat → List (Nat × Nat) → List (Nat × Nat)
  | lo, [] => [(lo, stop)]
  | lo, t :: ts => (lo, t.1) :: gapsFrom stop (max lo t.2) ts

/-- The free stretches of a share, in units: between the pages that it holds and the granules that are lost to it, and after the last (R233, R398). -/
def State.shareGaps (s : State) (slot q : Nat) : List (Nat × Nat) :=
  gapsFrom (8 * s.sharePages slot q) 0 (sortBy (fun a b => decide (a.1 ≤ b.1))
    ((s.sharedPages slot q).map (fun p => (p.place, p.place + p.units)) ++ (s.lostGrans slot q).map fun g => (8 * g.2, 8 * g.2 + 8)))

/-- The first place in a stretch for a page of u units: whole granules of 8 units, or, for a smaller page, aligned to its size within a granule (R233). -/
def firstIn (u lo : Nat) : Nat := (lo + min u 8 - 1) / min u 8 * min u 8

/-- How many pages of u units a stretch takes. -/
def placesIn (u : Nat) (g : Nat × Nat) : Nat := (g.2 - firstIn u g.1) / u

/-- The places of a share for a new page of the slot (R233). -/
def State.sharePlaces (s : State) (slot q : Nat) : Nat := ((s.shareGaps slot q).map (placesIn (s.newUnits slot))).sum

/-- Where a new page of the slot goes in a share: the lowest place (DESIGN CHOICE, log entry 84). -/
def State.freePlace (s : State) (slot q : Nat) : Nat :=
  (((s.shareGaps slot q).find? fun g => decide (0 < placesIn (s.newUnits slot) g)).map fun g => firstIn (s.newUnits slot) g.1).getD 0

/-- Free pages of a share: new pages of the slot that fit in it, by its bytes and by its places. -/
def State.shareFree (s : State) (slot q : Nat) : Nat :=
  min ((65536 * s.sharePages slot q - s.shareUsed slot q) / s.newCost slot) (s.sharePlaces slot q)

/-- Free pages of the slot. -/
def State.poolFree (s : State) (slot : Nat) : Nat := ((List.range 4).map (s.shareFree slot)).sum

/-- The quarter shares in the order a sequence takes pages from them: its home share, then the others in ascending order (R229). -/
def shareOrder (home : Nat) : List Nat := home :: (List.range 4).filter (· != home)

/-- The quarter whose share has the most free pages, the lowest on a tie (R229). -/
def State.homeQuarter (s : State) (slot : Nat) : Nat :=
  (List.range 4).foldl (fun best q => if s.shareFree slot best < s.shareFree slot q then q else best) 0

/-- Tier-1 granules counted against a function (R420). -/
def State.kvUsed (s : State) (f : Nat) : Nat :=
  (((s.pages.filter fun e => e.2.live && e.2.func == f).map fun e => e.2.cost).sum + 65535) / 65536
    + ((s.seqs.filter fun e => e.2.func == f).map fun e => e.2.save).sum

/-- The function's quota covers `n` more pages of the slot (R420). -/
def State.quotaCovers (s : State) (f slot n : Nat) : Bool :=
  let q := s.rd TEN_QUOTA.KV_QUOTA f
  q == 0xFFFFFFFF || decide (s.kvUsed f + (n * s.newCost slot + 65535) / 65536 ≤ q)

/-! ### Allocation, release, copies (R238 to R243) -/

/-- A new page from the first share of the order that has room. -/
def State.newPage (s : State) (func slot layer home : Nat) : Option (Nat × State) :=
  match (shareOrder home).find? fun q => decide (0 < s.shareFree slot q) with
  | none => none
  | some q =>
    let id := s.nextPage
    let at' := s.freePlace slot q
    let p : Page := { Page.init with
      live := true, home := home, share := q, place := at', grans := ((s.sharePool slot q).drop (at' / 8)).take ((s.newUnits slot + 7) / 8), slot := slot, func := func, layer := layer, format := s.kvFmt slot,
      kvh := s.rd KV_SLOT_CFG.KVH_M1 slot, ref := 1 }
    let s1 := { s with nextPage := id + 1 }.setPage id p
    some (id, if q = home then s1 else s1.bump KV_REMOTE_ALLOC_CNT.V)

/-- One page per layer, all or none (R238). -/
def State.newLayers (s : State) (func slot home : Nat) : Option (List Nat × State) :=
  (List.range (s.kvLayers slot)).foldl (fun acc l =>
    match acc with
    | none => none
    | some (ids, s) => match s.newPage func slot l home with
      | none => none
      | some (id, s1) => some (ids ++ [id], s1)) (some ([], s))

/-- A page whose REF and PIN are both zero is released, with its strip and index entry (R241); one that met an uncorrectable error is retired with its granules, which fall due (R397). -/
def State.sweepPage (s : State) (id : Nat) : State :=
  let p := s.page id
  if p.live && p.ref == 0 && p.pin == 0 then
    { (s.setPage id Page.init).bump KV_RELEASE_CNT.V with mem := { s.mem with due := s.mem.due ++ (if p.bad.isEmpty then [] else p.bad ++ p.grans).eraseDups.filter fun g => !s.mem.due.contains g } }
  else s

/-- The 16 pages of a block of one layer of a sequence (R254). -/
def State.blockIds (s : State) (q layer block : Nat) : List Nat := (((FMap.get Seq.init s.seqs q).lists.getD layer []).drop (16 * block)).take 16
/-- What they hold. -/
def State.blockPages (s : State) (q layer block : Nat) : List Page := (s.blockIds q layer block).map s.page

/-- A KV_ERR flag with its sequence and slot. -/
def State.kvFlag (s : State) (f : RField) (seq slot : Nat) : State :=
  s.flagAt f 0 [(KV_ERR.SEQ, seq), (KV_ERR.SLOT, slot)]

/-- A change of REF or PIN reaches the page manager of the page's home quarter, which applies it next by its arrival counter (R239). -/
def State.pageArrival (s : State) (id : Nat) : State :=
  { s with sched := { s.sched with arrivals := FMap.modify 0 s.sched.arrivals (s.page id).home (· + 1) } }

/-- Change a page as its page manager applies it, and release it when neither REF nor PIN holds it. -/
def State.pageChange (s : State) (id : Nat) (f : Page → Page) : State :=
  (((s.pageArrival id).setPage id (f (s.page id))).sweepPage id)

/-- A reference rises. -/
def State.refUp (s : State) (id : Nat) : State := s.pageChange id fun p => { p with ref := p.ref + 1 }

/-- A reference falls. -/
def State.refDown (s : State) (id : Nat) : State := s.pageChange id fun p => { p with ref := p.ref - 1 }

/-- A pin is taken; past 65,535 it waits until one drops (R242). -/
def State.pinUp (s : State) (id : Nat) : State :=
  s.pageChange id fun p => if p.pin < 65535 then { p with pin := p.pin + 1 } else { p with pinWait := p.pinWait + 1 }

/-- A pin drops; one that waited takes its place (R242). -/
def State.pinDown (s : State) (id : Nat) : State :=
  s.pageChange id fun p => if p.pinWait = 0 then { p with pin := p.pin - 1 } else { p with pinWait := p.pinWait - 1 }

/-- A private copy of a page (R240, R242): the positions written, with their scales; each copy counts. -/
def State.copyPage (s : State) (id func home : Nat) : Option (Nat × State) :=
  let p := s.page id
  match s.newPage func p.slot p.layer home with
  | none => none
  | some (n, s1) => some (n, (s1.setPage n { p with
      home := home, share := (s1.page n).share, place := (s1.page n).place, grans := (s1.page n).grans, func := func, ref := 1, pin := 0, pinWait := 0, bad := [] }).bump KV_COW_CNT.V)

end Sys2Proof.Machine
end

