-- ==== Sys2Proof/Machine/CartOps.lean ====
section
/-! DEFINITION. The operations of Cartway that other units call: partners, carts to be sent, early sends and their receipts or retractions, the routes of experts (R340 to R358, R377, R378). -/

namespace Sys2Proof.Machine

/-! ### Ports and partners -/

/-- A port. -/
def State.port (s : State) (p : Nat) : Port := FMap.get Port.init s.cart.ports p
/-- Replace a port. -/
def State.setPort (s : State) (p : Nat) (x : Port) : State :=
  { s with cart := { s.cart with ports := FMap.set Port.init s.cart.ports p x } }
/-- Change a port. -/
def State.modPort (s : State) (p : Nat) (f : Port → Port) : State := s.setPort p (f (s.port p))
/-- A Cartway flag with its port and partner (R362). -/
def State.cwFlag (s : State) (f : RField) (port dev : Nat) : State := s.flagAt f 0 [(CW_ERR.PORT, port), (CW_ERR.DEV, dev)]
/-- CW_PORT_STAT.STATE = UP. -/
def State.portUp (s : State) (p : Nat) : Bool := s.rd CW_PORT_STAT.STATE p == 3
/-- The REACH mask of a port. -/
def State.reach (s : State) (p : Nat) : Nat := s.rd CW_PORT_REACH_LO.V p + 2 ^ 64 * s.rd CW_PORT_REACH_HI.V p
/-- The partner set (R346), as a mask. -/
def State.partners (s : State) : Nat := s.rd CW_PARTNERS_LO.V + 2 ^ 64 * s.rd CW_PARTNERS_HI.V
/-- A device is a partner. -/
def State.isPartner (s : State) (d : Nat) : Bool := bitAt s.partners d
/-- The UP ports that reach a device. -/
def State.portsTo (s : State) (d : Nat) : List Nat := (List.range 8).filter fun p => s.portUp p && bitAt (s.reach p) d
/-- This device's number. -/
def State.devNo (s : State) : Nat := s.rd CW_DEV.NUM
/-- Change Cartway. -/
def State.modCart (s : State) (f : Cartway → Cartway) : State := { s with cart := f s.cart }
/-- Replace the pending set, and CW_STAT.PENDING with it. -/
def State.setPend (s : State) (ps : List Pair) : State :=
  ({ s with cart := { s.cart with pend := ps } } : State).wr CW_STAT.PENDING 0 ps.length

/-! ### Carts (R341 to R344) -/

/-- The channel of a cart type (R343). -/
def cartVc (typ : Nat) : Nat := if typ = 1 then 1 else if typ = 2 then 2 else if typ = 3 then 3 else 0

/-- The bytes of a cart (R342). -/
def Cart.bytes (c : Cart) : List Byte :=
  leBytes 1 c.typ ++ leBytes 1 c.flags ++ leBytes 1 c.src ++ leBytes 1 c.dst ++ leBytes 2 c.payload.length ++ leBytes 2 c.cseq
    ++ leBytes 8 c.step ++ leBytes 8 c.arg0 ++ leBytes 8 c.arg1 ++ c.payload

/-- EARLY of a cart. -/
def Cart.early (c : Cart) : Bool := bitAt c.flags 0

/-- An expert word (R342). -/
def expertWord (layer expert gen tag : Nat) : Nat := layer % 256 + 256 * (expert % 1024) + 2 ^ 24 * (gen % 256) + 2 ^ 32 * (tag % 2 ^ 32)

/-- A vector payload (R342): MXFP8 E4M3 elements, their scale bytes, zero-padded to a multiple of 16. -/
def vectorPayload (v : List Word32) : List Byte :=
  let bs := (blocksOf 32 v).map fun b => encodeBlock .e4m3 (b.map F32.toDy)
  let raw := (bs.map (·.2)).flatten ++ bs.map (·.1)
  padTo ((raw.length + 15) / 16 * 16) 0#8 (raw.map (BitVec.ofNat 8))

/-- A cart is dropped (R344, R348, R357). -/
def State.cartLost (s : State) : State := s.bump CW_DISCARD_CNT.V

/-- Queue a cart for its destination, on the next of the UP ports that reach it (R346); with none it is discarded (R348). -/
def State.queueCart (s : State) (c : TxCart) : State :=
  match s.portsTo c.cart.dst with
  | [] => s.cartLost
  | ps =>
    let n := FMap.get 0 s.cart.robin c.cart.dst
    let p := ps.getD (n % ps.length) 0
    s.modCart fun w => { w with queue := w.queue ++ [{ c with port := p }], robin := FMap.set 0 w.robin c.cart.dst (n + 1) }

/-- A cart without a payload on channel 0. -/
def State.queueNote (s : State) (typ dst step arg0 arg1 : Nat) : State :=
  s.queueCart ⟨⟨typ, 0, s.devNo, dst, 0, step, arg0, arg1, []⟩, 0, 0xFFFF, [], false⟩

/-- Send a cart without a payload to every partner. -/
def State.tellPartners (s : State) (typ arg0 arg1 : Nat) : State :=
  ((List.range 128).filter s.isPartner).foldl (fun s d => s.queueNote typ d (s.rd SRV_STEP_CNT.V) arg0 arg1) s

/-! ### What a result depends on (R355, R377) -/

/-- A pair comparison or a dispute of a sequence's strikes is open (R377); 0xFFFF stands for work done as a home. -/
def State.strikesOpen (s : State) (q : Nat) : Bool :=
  s.jobs.any (fun j => j.seq == q && !j.late && !j.ofRun) || s.stalls.any fun e => e.2.inflight.any fun x => x.pairOpen && x.seq == q

/-- The paced stream that a vector's sequence number names: 0x1_0000 + k stands for stream k, whose frames belong to no sequence (R22, R296). -/
def pacedOf (q : Nat) : Option Nat := if 0x10000 ≤ q then some (q - 0x10000) else none

/-- The pending pairs that the uncommitted results of a sequence, or of a paced stream, depend on (R377). -/
def State.pairsOf (s : State) (q : Nat) : List (Nat × Nat) :=
  match pacedOf q with
  | some k => (FMap.get Pace.init s.paces k).pairs
  | none => (FMap.get Seq.init s.seqs q).pairs

/-- The pending pairs that a cart's result depends on. -/
def State.cartPairs (s : State) (c : TxCart) : List (Nat × Nat) := if c.seq = 0xFFFF then c.pairs else s.pairsOf c.seq

/-- The pending pairs and unchecked strikes that the uncommitted results of a sequence depend on (R377). -/
def State.openCount (s : State) (q : Nat) : Nat :=
  (s.pairsOf q).length + (s.jobs.filter fun j => j.seq == q && !j.late && !j.ofRun && !j.ofPair).length
    + ((s.stalls.map fun e => (e.2.inflight.filter fun x => x.pairOpen && x.seq == q).length).sum)

/-- A cart's result is unchecked: it may leave only with EARLY = 1 (R355, R377). -/
def State.uncheckedCart (s : State) (c : TxCart) : Bool :=
  decide (1 ≤ c.cart.typ) && decide (c.cart.typ ≤ 3) && (!(s.cartPairs c).isEmpty || s.strikesOpen c.seq)

/-- An early cart is sent: the step and destination it belongs to owe a RECEIPT or a RETRACT, and the pairs it depends on remember it (R356, R377). Steps that have had theirs are forgotten once no cart of them waits. -/
def State.noteEarly (s : State) (c : TxCart) : State :=
  let ps := s.cartPairs c
  let qs := if s.strikesOpen c.seq then [c.seq] else []
  let at' := (c.cart.step, c.cart.dst)
  let w := s.cart
  let old := w.early.filter fun e => !(e.done && decide (e.step < s.rd SRV_STEP_CNT.V) && !w.queue.any fun t => t.cart.step == e.step && t.cart.dst == e.dst)
  let early := if old.any fun e => e.step == c.cart.step && e.dst == c.cart.dst
    then old.map fun e => if e.step = c.cart.step ∧ e.dst = c.cart.dst then
      { e with count := e.count + 1, seqs := (e.seqs ++ qs).eraseDups, pairs := (e.pairs ++ ps).eraseDups } else e
    else old ++ [⟨c.cart.step, c.cart.dst, 1, qs, ps, false⟩]
  { s with cart := { w with early := early,
                            pend := w.pend.map fun p => if ps.contains (p.src, p.step) && !p.sent.contains at' then { p with sent := p.sent ++ [at'] } else p } }

/-- The RECEIPT or RETRACT of a step and destination is sent: there is no other (R356). -/
def State.endEarly (s : State) (step dst : Nat) : State :=
  s.modCart fun w => { w with early := w.early.map fun e => if e.step = step ∧ e.dst = dst then { e with done := true } else e }

/-- The step has had its RECEIPT or RETRACT for this destination: a cart of it may no longer leave early. -/
def State.earlyDone (s : State) (c : Cart) : Bool := s.cart.early.any fun e => e.done && e.step == c.step && e.dst == c.dst

/-- A step already sent is retracted at one destination, in place of its RECEIPT (R356, R378). -/
def State.sendRetract (s : State) (step dst : Nat) : State :=
  if s.cart.early.any fun e => e.step == step && e.dst == dst && !e.done then
    let s1 := s.endEarly step dst
    let s2 := (s1.queueNote 5 dst step 0 0).bump CHK_RETRACT_SENT_CNT.V
    s2.cper { Cper.none 8 0 with step := step, partner := dst }
  else s

/-- A sequence's own results turned out wrong after an early send (R378): its early steps are retracted. -/
def State.retractEarly (s : State) (q : Nat) : State :=
  (s.cart.early.filter fun e => e.seqs.contains q && !e.done).foldl (fun s e => s.sendRetract e.step e.dst) s

/-- Forget the dispatches, the waits and the carts not yet sent of a sequence whose position is dropped. -/
def State.dropDispatches (s : State) (q : Nat) : State :=
  s.modCart fun w => { w with disps := w.disps.filter (fun d => d.seq != q), waits := w.waits.filter (fun d => d.seq != q),
                              queue := w.queue.filter fun c => c.seq != q || c.again || q == 0xFFFF }

/-- Nothing of a sequence's position is under way at another device. -/
def State.dispatchesDone (s : State) (q : Nat) : Bool :=
  (s.cart.disps.all fun d => d.seq != q) && s.cart.waits.all fun d => d.seq != q

/-! ### Routes of experts (R349 to R353) -/

/-- The home table entry of an expert; a slot with no table runs every expert here. -/
def State.homeEntry (s : State) (slot layer expert : Nat) : Nat :=
  let t := FMap.get HomeTable.init s.cart.homes slot
  if t.entries.isEmpty then 128 + s.devNo
  else if layer < t.layers ∧ expert < t.experts then t.entries.getD (layer * t.experts + expert) 0 else 0

/-- Send one DISPATCH (R351). -/
def State.sendDispatch (s : State) (d : Disp) (dst : Nat) : State :=
  let m := FMap.get ModelSlot.init s.slots d.slot
  let id := (m.gen d.gen).map fun g => g.man.modelId
  let tag := s.cart.nextTag % 2 ^ 32
  let s1 := s.modCart fun w => { w with nextTag := w.nextTag + 1, disps := w.disps ++ [{ d with tag := tag, dst := dst }] }
  s1.queueCart ⟨⟨1, 0, s.devNo, dst, 0, s.rd SRV_STEP_CNT.V, id.getD 0, expertWord d.layer d.expert d.gen tag, d.payload⟩, 0, d.seq, [], false⟩

/-- An expert that a position's router chose is masked for that position, which is recomputed from the expert's layer with the mask (R216, R353): what it formed in later layers and what their routers chose is discarded, its dispatches to that expert and to later layers fall away, and records formed of it are formed again. None of it was committed (R22). -/
def State.maskFor (s : State) (q layer expert : Nat) : State :=
  let stale (d : Disp) : Bool := d.seq == q && (decide (layer < d.layer) || (d.layer == layer && d.expert == expert))
  let s1 : State := { s with seqs := FMap.modify Seq.init s.seqs q fun (x : Seq) =>
    { x with staged := x.staged.filter fun k => decide (k.layer ≤ layer), merges := x.merges.filter fun m => decide (m.1 ≤ layer),
             chose := x.chose.filter fun c => decide (c.1 ≤ layer) && c != (layer, expert), masks := (layer, expert) :: x.masks.erase (layer, expert),
             fenced := true, recs := [], phase := if x.phase = .ended then .running else x.phase, inStep := x.inStep || decide (x.phase = .ended),
             redoFrom := some (min layer (x.redoFrom.getD layer)) } }
  s1.modCart fun w => { w with disps := w.disps.filter (fun d => !stale d), waits := w.waits.filter (fun d => !stale d),
                               queue := w.queue.filter fun c => !(c.seq == q && c.cart.typ == 1 && !c.again && (decide (layer < bitsOf c.cart.arg1 0 8) || (bitsOf c.cart.arg1 0 8 == layer && bitsOf c.cart.arg1 8 10 == expert))) }

/-- Where an expert of a position runs (R351, R353): at its home, at its alternative, here, masked, or it waits until a home becomes reachable. -/
def State.route (s : State) (d : Disp) : State :=
  let e := s.homeEntry d.slot d.layer d.expert
  let home := e % 128
  let alt := bitsOf e 8 7
  let me := s.devNo
  let m := FMap.get ModelSlot.init s.slots d.slot
  if bitAt e 7 && home == me then s
  else if bitAt e 7 && s.isPartner home && !d.tried.contains home then s.sendDispatch d home
  else if bitAt e 15 && alt == me then s
  else if bitAt e 15 && s.isPartner alt && !d.tried.contains alt then s.sendDispatch d alt
  else if (m.gen d.gen).any fun g => g.man.fence then
    s.maskFor d.seq d.layer d.expert
  else s.modCart fun w => { w with waits := w.waits ++ [d] }

/-- The router of a slot masks an expert (R216, R354). -/
def State.expertMasked (s : State) (slot layer expert : Nat) : Bool :=
  let m := FMap.get ModelSlot.init s.slots slot
  (m.fenced ++ m.remote).contains (layer * 65536 + expert)

/-- The experts that a layer's router chose for a position, in ascending number (R351). The router chooses no expert that the slot masks, or that is masked for the position (R216, R353); one chosen before, whose dispatch stands, is not sent again. -/
def State.routeAll (s : State) (q : Nat) (routes : List (Nat × Nat × List Word32)) : State :=
  let x := FMap.get Seq.init s.seqs q
  let free := sortBy (fun a b => decide (a.1 * 65536 + a.2.1 ≤ b.1 * 65536 + b.2.1)) (routes.filter fun r => !s.expertMasked x.slot r.1 r.2.1 && !x.masks.contains (r.1, r.2.1) && !x.chose.contains (r.1, r.2.1))
  let s1 := { s with seqs := FMap.modify Seq.init s.seqs q fun y => { y with chose := y.chose ++ free.map fun r => (r.1, r.2.1) } }
  free.foldl (fun s r => s.route ⟨q, x.slot, x.gen, r.1, r.2.1, 0, 0, vectorPayload r.2.2, [], s.now⟩) s1

/-- The routers of a position have chosen, from the layer on from which it is recomputed (R216, R378). -/
def State.rechoose (s : State) (q : Nat) (routes : List (Nat × Nat × List Word32)) : State :=
  ({ s with seqs := FMap.modify Seq.init s.seqs q fun x => { x with redoFrom := none } } : State).routeAll q routes

/-- Dispatches that wait for a home are routed again. -/
def State.rerouteWaits (s : State) : State :=
  let ws := s.cart.waits
  ws.foldl (fun s d => s.route { d with tried := [] }) (s.modCart fun w => { w with waits := [] })

/-- Home tables at a step marker (R350): the loaded ones take effect, the cleared ones go. -/
def State.markHomes (s : State) : State :=
  if s.cart.change.isEmpty then s else
    let homes := s.cart.change.foldl (fun h c => FMap.set HomeTable.init h c.1 (c.2.getD HomeTable.init)) s.cart.homes
    let s1 := s.modCart fun w => { w with homes := homes, change := [] }
    (if s1.rd CW_HOME_STAT.STATE = 2 then s1.wr CW_HOME_STAT.STATE 0 3 else s1).rerouteWaits

end Sys2Proof.Machine
end

