-- ==== Sys2Proof/Machine/ServeOps.lean ====
section
/-! DEFINITION. The operations of serving that several units share: till rolls, the end of a request, adapters' references, parking, retraction and position boundaries (R250 to R253, R277, R286, R299 to R305, R314). -/

namespace Sys2Proof.Machine

/-! ### Sequences -/

/-- The sequence. -/
def State.seq (s : State) (q : Nat) : Seq := FMap.get Seq.init s.seqs q
/-- Replace a sequence. -/
def State.setSeq (s : State) (q : Nat) (x : Seq) : State := { s with seqs := FMap.set Seq.init s.seqs q x }
/-- Change a sequence. -/
def State.modSeq (s : State) (q : Nat) (f : Seq → Seq) : State := s.setSeq q (f (s.seq q))

/-- The function of a sequence or paced stream, 0xFF for none (R381). -/
def State.seqFunc (s : State) (q : Nat) : Nat :=
  if q = 0xFFFF then 0xFF else match pacedOf q with
    | some k => (FMap.get Pace.init s.paces k).func
    | none => (s.seq q).func

/-- The till records of the position carry FLAGS.INSPECTED (R300, R376, R470). -/
def State.markInspected (s : State) (q : Nat) : State :=
  if (s.seq q).live then s.modSeq q fun x => { x with inspected := true } else s

/-- Every check of the sequence's present position has passed: no dispute, handover or pair comparison is open, and no pending pair stands (R22, R377). -/
def State.checked (s : State) (q : Nat) : Bool :=
  (s.seq q).pairs.isEmpty && !s.strikesOpen q

/-- How many sequences satisfy a condition. -/
def State.countSeqs (s : State) (p : Seq → Bool) : Nat := FMap.countWhere s.seqs fun _ x => x.live && p x

/-- A serving flag with its function (R309). -/
def State.srvFlag (s : State) (f : RField) (fn : Nat) : State := s.flagAt f 0 [(SRV_ERR.FUNC, fn)]

/-! ### Weigh houses (R229) -/

/-- Sequences assigned to a weigh house. -/
def State.whSeqs (s : State) (h : Nat) : Nat := s.countSeqs fun x => x.wh == h

/-- The weigh house of a quarter that takes the next sequence: enabled, not in FAULT, the fewest assigned, the lowest on a tie. -/
def State.pickHouse (s : State) (q : Nat) : Nat :=
  let ok := ((List.range 4).map (4 * q + ·)).filter fun h => s.on WH_CTL.EN h && s.rd WH_STAT.STATE h != 3 && !s.lagging (unitId 3 h)
    && !(s.cal.testing.any fun t => t.kind == 2 && t.index == h)
  ok.foldl (fun best h => if s.whSeqs h < s.whSeqs best then h else best) (ok.headD (4 * q))

/-- The weigh house that attends a sequence's prefill blocks: its own, or with WH_CTL.DEC_ONLY the lowest-numbered other of the quarter (R266). -/
def State.preHouse (s : State) (h : Nat) : Nat :=
  if s.on WH_CTL.DEC_ONLY h then (if h % 4 = 0 then h + 1 else h / 4 * 4) else h

/-- A weigh house enters FAULT (R379, R452, R547): its sequences are reassigned among the others of its quarter (R229). -/
def State.houseFault (s : State) (h : Nat) : State :=
  if s.rd WH_STAT.STATE h = 3 then s else
    let s1 := (s.wr WH_STAT.STATE h 3).faultLog 10 4 (h / 4) h 63
    (FMap.keysWhere s1.seqs fun _ x => x.live && x.wh == h).foldl (fun s q => s.modSeq q fun x => { x with wh := s.pickHouse (h / 4) }) s1

/-! ### Till rolls (R299 to R303) -/

/-- The roll of a request. -/
def State.roll (s : State) (key : Nat) : Roll := FMap.get Roll.init s.rolls key
/-- Replace a roll. -/
def State.setRoll (s : State) (key : Nat) (r : Roll) : State := { s with rolls := FMap.set Roll.init s.rolls key r }

/-- By the last value of RIDX, the roll has room for a record; RIDX > WIDX counts as full (R302). -/
def Roll.room (r : Roll) : Bool := decide (r.ridx ≤ r.written) && decide (r.written - r.ridx < r.len)

/-- The 16 bytes of a record at index `i` (R299, R300). -/
def Roll.bytes (r : Roll) (i : Nat) (t : TillRec) : List Byte :=
  let flags := t.flags + ofBool t.last + 2 * (i / r.len % 2)
  leBytes 4 t.token ++ leBytes 4 t.position ++ leBytes 2 t.logprob ++ leBytes 2 flags ++ leBytes 1 t.status ++ leBytes 1 t.gen
    ++ leBytes 2 r.ticket

/-- Sequences whose records a roll takes. -/
def State.rollSeqs (s : State) (key : Nat) : Nat := s.countSeqs fun x => x.job.isNone && reqKey x.func x.ticket == key

/-- The message of a roll (R303); a function that raises no message keeps its records unsignalled (R410, R413). -/
def State.rollMsg (s : State) (key : Nat) : State :=
  let r := s.roll key
  if s.msiOn r.func then ((s.setRoll key { r with unsig := 0 }).bump SRV_MSI_CNT.V).msi r.func r.vector else s

/-- Write one record, then WIDX, then raise the message when it is called for (R301, R303). -/
def State.rollWrite (s : State) (key : Nat) (t : TillRec) : State :=
  let r := s.roll key
  let s1 := s.send (.hostWrite r.func (r.addr + 16 * (r.written % r.len)) (r.bytes r.written t))
  let s2 := s1.send (.hostWrite r.func r.widx (leBytes 8 (r.written + 1)))
  let s3 := s2.setRoll key { r with written := r.written + 1, unsig := r.unsig + 1, since := if r.unsig = 0 then s.now else r.since }
  let s4 := if t.counts then s3.bump SRV_TOKEN_CNT.V else s3
  let s5 := if t.last || decide (r.modCount ≤ r.unsig + 1) then s4.rollMsg key else s4
  if t.last then s5.setRoll key Roll.init else s5

/-- A record of a request: none is written by a device that is stopping or in FAULT (R495, R544); else it is written at once where there is room, else kept until a read of RIDX shows room (R302). -/
def State.rollPut (s : State) (key : Nat) (t : TillRec) : State :=
  let r := s.roll key
  if r.len = 0 || !s.takesWork then s
  else if r.backlog.isEmpty && r.room then s.rollWrite key t
  else
    let s1 := s.setRoll key { r with backlog := r.backlog ++ [t], pollAt := if r.backlog.isEmpty then s.now else r.pollAt }
    if r.backlog.isEmpty then s1.send (.hostRead r.func (r.widx + 8) 8) else s1

/-- Write as many waiting records as there is room for. -/
def State.rollFlush (s : State) (key : Nat) : Nat → State
  | 0 => s
  | n + 1 =>
    let r := s.roll key
    match r.backlog with
    | [] => s
    | t :: ts => if r.room then ((s.setRoll key { r with backlog := ts }).rollWrite key t).rollFlush key n else s

/-- The END record of a request that ends without a token (R305); the spec gives its POSITION no value (log entry 17). -/
def State.putEnd (s : State) (key status gen flags : Nat) : State :=
  let (p, s1) := s.takeFree
  s1.rollPut key ⟨0xFFFFFFFF, p % 2 ^ 32, 0, flags, true, false, status, gen % 256⟩

/-! ### Adapters (R312 to R314) -/

/-- An adapter number. -/
def State.adapter (s : State) (a : Nat) : Adapter := FMap.get Adapter.init s.adapters a
/-- Replace an adapter number. -/
def State.setAdapter (s : State) (a : Nat) (x : Adapter) : State := { s with adapters := FMap.set Adapter.init s.adapters a x }

/-- REF of a version: the sequences and tuning rounds bound to it (R312). -/
def State.adpRef (s : State) (a v : Nat) : Nat :=
  s.countSeqs (fun x => x.adapter == some (a, v) && x.job.isNone)
    + FMap.countWhere s.tunes fun _ j => j.live && j.adapter == a && j.bound == some v

/-- A slot is unloaded (R314): the versions of an adapter that belong to it, current or still to become so, lose their currency. -/
def State.unloadAdapter (s : State) (a slot : Nat) : State :=
  let x := s.adapter a
  let gone (v : AdpVer) : Bool := v.slot == slot
  (s.setAdapter a { x with cur := x.cur.filter (!gone ·), old := x.old ++ x.cur.toList.filter gone ++ x.next.filter gone, next := x.next.filter (!gone ·) })

/-- Old versions whose REF is 0 retire: their pool granules are freed (R314). -/
def State.sweepAdapter (s : State) (a : Nat) : State :=
  let x := s.adapter a
  let keep := x.old.filter fun v => s.adpRef a v.no ≠ 0
  (s.setAdapter a { x with old := keep }).bump SRV_ADP_RETIRE_CNT.V 0 (x.old.length - keep.length)

/-- The current version's currency ends (R314): bound sequences go on, and it retires when its REF is 0. -/
def State.endCurrency (s : State) (a : Nat) : State :=
  let x := s.adapter a
  match x.cur with
  | some v => (s.setAdapter a { x with cur := none, old := x.old ++ [v] }).sweepAdapter a
  | none => s

/-! ### Generations (R224) -/

/-- Sequences bound to a generation of a slot. -/
def State.boundTo (s : State) (slot gen : Nat) : Nat := s.countSeqs fun x => x.slot == slot && x.gen == gen

/-- A live generation holds a tile at the group of a pitch map entry. -/
def State.tileHeld (s : State) (p : Pitch) : Bool :=
  s.slots.any fun e => [e.2.cur, e.2.prev, e.2.next].any fun o => match o with
    | some g => g.man.pitch.any fun q => q.stall == p.stall && q.group == p.group
    | none => false

/-- The tiles of a generation that is gone end, those apart that a live generation holds (R125). -/
def State.endTiles (s : State) (g : Gen) : State :=
  (g.man.pitch.filter fun p => !s.tileHeld p).foldl
    (fun s p => s.endTile (groupId (stallId (p.stall / 32) (s.physOf (p.stall / 32) (p.stall % 32))) p.group)) s

/-- The live generations of a slot. -/
def ModelSlot.gens (m : ModelSlot) : List Gen := [m.cur, m.prev, m.next].filterMap id

/-- A fenced expert whose shards are valid in every live generation: its mask lifts at the next step marker (R217). -/
def State.unfence (s : State) (slot expert : Nat) : State :=
  if (s.slot slot).fenced.contains expert
      && (s.slot slot).gens.all fun g => (g.man.shards.zipIdx).all fun (e, i) => e.expert != expert || (g.shard i).valid then
    s.modSlot slot fun m => { m with lifting := if m.lifting.contains expert then m.lifting else m.lifting ++ [expert] }
  else s

/-- PREVIOUS ceases to exist when nothing is bound to it (R224); an expert that it alone kept fenced may then return (R217). -/
def State.sweepGen (s : State) (slot : Nat) : State :=
  let m := s.slot slot
  match m.prev with
  | some g => if s.boundTo slot g.man.generation = 0 then m.fenced.foldl (fun s e => s.unfence slot e) ((s.setSlot slot { m with prev := none }).endTiles g) else s
  | none => s

/-! ### The end of a request (R304, R305) -/

/-- A sequence gives up its page references, its save area and its store-room image. -/
def State.dropPages (s : State) (q : Nat) : State :=
  let x := s.seq q
  let s1 := match x.image with
    | some (_, g) => s.wr TEN_STORE_STAT.USED x.func (s.rd TEN_STORE_STAT.USED x.func - g)
    | none => s
  x.lists.flatten.foldl State.refDown (s1.setSeq q { x with lists := [], image := none, imageAt := [], save := 0 })

/-- A sequence number becomes unused; what it was bound to is swept. -/
def State.freeSeq (s : State) (q : Nat) : State :=
  let x := s.seq q
  let s1 := ((s.dropPages q).dropDispatches q).setSeq q Seq.init
  let s2 := match x.adapter with
    | some (a, _) => s1.sweepAdapter a
    | none => s1
  s2.sweepGen x.slot

/-- The flag RESUMED of a sequence's next record (R300). -/
def Seq.resumeFlag (x : Seq) : Nat := 64 * ofBool x.resumed

/-- A stop of a tuning job: its sequences go, and its END record is written (R325). -/
def State.endTune (s : State) (f status : Nat) : State :=
  let j := FMap.get TuneJob.init s.tunes f
  if !j.live then s else
    let qs := FMap.keysWhere s.seqs fun _ x => x.live && x.job == some f
    let s1 := qs.foldl State.freeSeq s
    let s2 := { s1 with tunes := FMap.set TuneJob.init s1.tunes f TuneJob.init }
    (s2.putEnd (reqKey f j.ticket) status (((s2.slot j.slot).cur.map fun g => g.man.generation).getD 0) 0).sweepAdapter j.adapter

/-- A sequence ends without a token: its END record, RESUMED when it is the first since the sequence resumed, and its pages (R300, R305). With a sequence of a tuning job its job ends: DESIGN CHOICE (log entry 40). -/
def State.endSeq (s : State) (q status : Nat) : State :=
  let x := s.seq q
  if !x.live then s else
    match x.job with
    | some f => s.endTune f status
    | none => (s.putEnd (reqKey x.func x.ticket) status x.gen x.resumeFlag).freeSeq q

/-- The paced stream. -/
def State.pace (s : State) (k : Nat) : Pace := FMap.get Pace.init s.paces k
/-- Replace a paced stream. -/
def State.setPace (s : State) (k : Nat) (p : Pace) : State := { s with paces := FMap.set Pace.init s.paces k p }

/-- A stream is closed and its stalls released (R298); with `record` its END record is written. -/
def State.endPace (s : State) (k status : Nat) (record : Bool) : State :=
  let p := s.pace k
  if s.rd SRV_PACE_STAT.STATE k = 0 then s else
    let g := (((s.slot (s.rd SRV_PACE_STAT.SLOT k)).cur).map fun g => g.man.generation).getD 0
    let s1 := if record then s.putEnd (reqKey p.func p.ticket) status g 0 else s
    (s1.setReg SRV_PACE_STAT k 0).setPace k Pace.init

/-- A stream that is to end with a status: at once with no frame queued; else its oldest frame, the one in flight, completes first and the others are dropped (R210, R277, R307). -/
def State.cancelPace (s : State) (k status : Nat) : State :=
  let p := s.pace k
  match p.frames with
  | [] => s.endPace k status true
  | fr :: _ => ((s.setPace k { p with frames := [fr], endAs := status }).wr SRV_PACE_STAT.STATE k 2).wr SRV_PACE_STAT.QUEUED k 1

/-- A sequence that is to end with a status: at once when it is parked or stands at a boundary, else once its present position is committed (R210, R275, R277). -/
def State.cancelSeq (s : State) (q status : Nat) : State :=
  let x := s.seq q
  if !x.live then s
  else if !x.active || (x.phase == .idle && x.recs.isEmpty) then s.endSeq q status
  else s.setSeq q { x with endAs := match x.endAs with
    | some e => some e
    | none => some status }

/-- A sequence that a fault ends at that position: its uncommitted results are discarded (R245, R288, R397). -/
def State.faultSeq (s : State) (q status : Nat) : State :=
  if (s.seq q).live then (s.modSeq q fun x => { x with recs := [], staged := [], phase := .idle }).endSeq q status else s

/-! ### Parking (R250 to R252, R422) -/

/-- Store-room granules that a parked sequence takes (R422): its records and its data. -/
def parkGranules (h : Nat) (pages : List Page) : Nat :=
  let strips := (pages.filter fun p => hasStrip p.format).length
  let data := (pages.map fun p => footprint (2048 * (p.kvh + 1) * pageBits p.format)).sum
  (4096 + 256 * pages.length + 512 * h * strips + 65535) / 65536 + (data + 65535) / 65536

/-! ### Pages that meet an error (R397) -/

/-- A page meets an uncorrectable error: it is retired with its granules once it is released (R397). -/
def State.markPage (s : State) (id gran : Nat) : State :=
  let s1 := s.countUE gran
  let p := s1.page id
  s1.setPage id { p with bad := if p.bad.contains gran then p.bad else p.bad ++ [gran] }

/-- An uncorrectable error in a page (R397): the sequence that reads it ends FAULT_CHECK at that read. -/
def State.pageUE (s : State) (q id gran : Nat) : State := (s.markPage id gran).faultSeq q 6

/-- The page of a list that holds a granule. -/
def State.pageWith (s : State) (ids : List Nat) (gran : Nat) : Option Nat := ids.find? fun id => (s.page id).grans.contains gran

/-- The corrected errors that a read of pages meets (R397). -/
def State.pageErrs (s : State) (ids : List Nat) (err : MemErr) : State :=
  s.corrected ⟨err.ce.filter fun g => (s.pageWith ids g).isSome, .none⟩

/-- A page of a list that has met an uncorrectable error before: this read of it fails too. -/
def State.badPage (s : State) (ids : List Nat) : Option (Nat × Nat) := ids.findSome? fun id => ((s.page id).bad.head?).map fun g => (id, g)

/-! ### Parking (R251, R252) -/

/-- Granules of a function's store room that hold parked sequences. -/
def State.roomTaken (s : State) (f : Nat) : List Nat := (s.seqs.filter fun e => e.2.live && e.2.func == f && e.2.image.isSome).flatMap fun e => e.2.imageAt

/-- First-fit granules for an image in the store room that a function has registered; none where the room lacks them (R252, R421, R422). -/
def State.roomFit (s : State) (f need : Nat) : Option (List Nat) :=
  match (s.func f).room with
  | none => none
  | some (_, size) =>
    let gs := takeGrans id (s.roomTaken f) (need + (s.roomTaken f).length) 0 need
    if gs.length = need ∧ gs.all (fun g => decide (g < size)) then some gs else none

/-- The host addresses of granules of a function's store room. -/
def State.roomAddrs (s : State) (f : Nat) (gs : List Nat) : List Nat := gs.map fun g => (((s.func f).room.map (·.1)).getD 0) + 65536 * g

/-- Park a sequence that stands at a boundary (R251); without room in the store room it ends PREEMPTED (R252), and with a page that has met an uncorrectable error FAULT_CHECK (R397). -/
def State.park (s : State) (q : Nat) : State :=
  let x := s.seq q
  match s.badPage x.lists.flatten with
  | some (id, g) => s.pageUE q id g
  | none =>
  let head := s.rd KV_CTL.KV4_HEAD
  let both := x.lists.map fun l => l.map fun id => if s.on KV_CTL.PARK_NARROW then (s.page id).toKv4 head else (s.page id, 0)
  let pages := both.map fun l => l.map (·.1)
  let sat := ((both.flatten).map (·.2)).sum
  let need := parkGranules (s.kvHeads x.slot) pages.flatten
  match s.roomFit x.func need with
  | some gs =>
    let s1 := (s.bump KV_PARK_CNT.V).bump KV_KV4_SAT_CNT.V 0 sat
    let s2 := x.lists.flatten.foldl State.refDown s1
    let s3 := s2.wr TEN_STORE_STAT.USED x.func (s2.rd TEN_STORE_STAT.USED x.func + need)
    (s3.setSeq q { x with active := false, lists := [], image := some (pages, need), imageAt := gs, parkDue := false, inStep := false }).send
      (.storeRoom x.func q (s.roomAddrs x.func gs) true)
  | none => (s.kvFlag KV_ERR.PARK_FAIL q x.slot).endSeq q 3

/-- The tuning job of a function. -/
def State.tune (s : State) (f : Nat) : TuneJob := FMap.get TuneJob.init s.tunes f
/-- Replace it. -/
def State.setTune (s : State) (f : Nat) (j : TuneJob) : State := { s with tunes := FMap.set TuneJob.init s.tunes f j }

/-- A job that is to end ends once every sequence of it stands at a boundary (R325). -/
def State.tuneBoundary (s : State) (f : Nat) : State :=
  match (s.tune f).endAs with
  | some e => if (s.tune f).live && s.countSeqs (fun x => x.job == some f && x.phase != .idle) == 0 then s.endTune f e else s
  | none => s

/-- The requests of a function end with a status at their next position boundary (R277, R418). -/
def State.endFunction (s : State) (f status : Nat) : State :=
  let qs := FMap.keysWhere s.seqs fun _ x => x.live && x.func == f && x.job.isNone
  let s1 := qs.foldl (fun s q => s.cancelSeq q status) s
  let s2 := if (s1.tune f).live then (s1.setTune f { s1.tune f with endAs := some status }).tuneBoundary f else s1
  (List.range 16).foldl (fun s k => if s.rd SRV_PACE_STAT.STATE k != 0 && (s.pace k).func == f then s.cancelPace k status else s) s2

/-- The two isolation circuits disagree (R418): every function that either names is fenced, its requests end FAULT_CHECK at their next boundary, and the host port signals an Uncorrectable Internal Error. -/
def State.isolate (s : State) (fs : List Nat) : State :=
  let s1 := fs.eraseDups.foldl (fun s f =>
    let s1 := ((s.wr HOST_FN_STAT.FENCED f 1).tenFault TEN_FAULT.ISO f).flagAt HOST_ERR.ISO 0 [(HOST_ERR.FUNC, f)]
    (s1.faultLog 8 5 0 0 f).endFunction f 6) s
  if fs.isEmpty then s1 else s1.send (.aer 0 1)

/-- What takes effect at a position boundary whose position is committed: an end that waited, a park (R210, R251, R277). -/
def State.boundary (s : State) (q : Nat) : State :=
  let x := s.seq q
  if !x.live then s
  else if (x.job.any fun f => (s.tune f).endAs.isSome) then s.tuneBoundary (x.job.getD 0)
  else match x.endAs with
    | some e => s.endSeq q e
    | none => if x.parkDue then s.park q else s

/-- Pages that a sequence holds. -/
def Seq.pageCount (x : Seq) : Nat := x.lists.flatten.length

/-- The best victim of a slot (R250): a standing sequence, of the function when its quota is the limit, with the most pages, the latest admitted on a tie; never the requester. -/
def State.victim (s : State) (q : Nat) (byQuota : Bool) : Option Nat :=
  let r := s.seq q
  let cands := s.seqs.filter fun e => e.2.live && e.2.active && !e.2.walkup && !e.2.parkDue && e.1 != q && e.2.slot == r.slot
    && (!byQuota || e.2.func == r.func)
  (cands.foldl (fun (best : Option (Nat × Seq)) e =>
    match best with
    | none => some e
    | some b => if b.2.pageCount < e.2.pageCount || (b.2.pageCount == e.2.pageCount && decide (b.2.order < e.2.order)) then some e else some b)
    none).map (·.1)

/-- Pages of a slot's sequences already chosen to park. -/
def State.pagesDue (s : State) (slot : Nat) (f : Option Nat) : Nat :=
  ((s.seqs.filter fun e => e.2.live && e.2.parkDue && e.2.slot == slot && (match f with
    | some f => e.2.func == f
    | none => true)).map fun e => e.2.pageCount).sum

/-- An allocation of `n` pages for a sequence cannot be met: victims are chosen until it will fit; with none left, the requester parks or ends (R250). -/
def State.pressure (s : State) (q n : Nat) : Nat → State
  | 0 => s
  | k + 1 =>
    let x := s.seq q
    let quotaShort := !s.quotaCovers x.func x.slot n
    let quotaFixed := s.quotaCovers x.func x.slot (n - s.pagesDue x.slot (some x.func))
    let poolFixed := decide (n ≤ s.poolFree x.slot + s.pagesDue x.slot none)
    if (quotaShort && !quotaFixed) || !poolFixed then
      match s.victim q (quotaShort && !quotaFixed) with
      | some v =>
        let s1 := s.modSeq v fun y => { y with parkDue := true }
        let y := s.seq v
        (if y.phase == .idle && y.recs.isEmpty && !y.inStep then s1.park v else s1).pressure q n k
      | none =>
        if x.walkup then (s.kvFlag KV_ERR.PAGES q x.slot).endSeq q 4
        else s.park q
    else s

/-! ### Slips of the order counters (R267 to R272) -/

/-- The slot of a function's order counter. -/
def State.oslot (s : State) (f n : Nat) : OSlot := FMap.get OSlot.init (s.func f).slots n
/-- Replace a slot. -/
def State.setOslot (s : State) (f n : Nat) (x : OSlot) : State :=
  s.modFunc f fun g => { g with slots := FMap.set OSlot.init g.slots n x }

/-- The slip body as it stands: 248 bytes. -/
def OSlot.bytes (o : OSlot) : List Byte := (List.range 248).map fun i => BitVec.ofNat 8 (FMap.get 0 o.body i)

/-- The OP of the slip is one that R273 and R275 define. -/
def OSlot.opKnown (o : OSlot) : Bool := decide (1 ≤ leAt o.bytes 0 1) && decide (leAt o.bytes 0 1 ≤ 6)

/-- The session of the slip is that of its function (R276). -/
def State.sessionOk (s : State) (f : Nat) (b : List Byte) : Bool := s.on TEN_SESSION.OPEN f && leAt b 4 2 == s.rd TEN_SESSION.NUM f

/-- One slip is refused: the slot status, the counter, and SRV_ERR.SLIP for reasons 1 to 8 (R271, R272). -/
def State.refuseAt (s : State) (f n reason : Nat) : State :=
  let o := s.oslot f n
  let status := if reason ≤ 8 then 7 else if reason ≤ 13 then 2 else 1
  let s1 := (s.setOslot f n { o with state := 3, status := status, reason := reason }).bump SRV_REFUSED_CNT.V
  if reason ≤ 8 then s1.srvFlag SRV_ERR.SLIP f else s1

/-- The slips still TAKEN: function, slot, and the arrival number of the seal (R270). -/
def State.takenSlips (s : State) : List (Nat × Nat × Nat) :=
  s.funcs.flatMap fun e => (e.2.slots.filter fun x => x.2.state == 1).map fun x => (e.1, x.1, x.2.order)

/-- The slip that the device takes next: the one TAKEN whose seal arrived first (R270). -/
def State.firstTaken (s : State) : Option (Nat × Nat) :=
  (s.takenSlips.foldl (fun (best : Option (Nat × Nat × Nat)) e => match best with
    | none => some e
    | some b => if e.2.2 < b.2.2 then some e else some b) none).map fun e => (e.1, e.2.1)

/-- While the slip next to be taken has no defined OP, it is refused: REASON 1, or 14 without its session (R270, R272, R276, R278). -/
def State.sweepBad (s : State) : Nat → State
  | 0 => s
  | k + 1 =>
    match s.firstTaken with
    | some (f, n) =>
      let o := s.oslot f n
      if o.opKnown then s else (s.refuseAt f n (if s.sessionOk f o.bytes then 1 else 14)).sweepBad k
    | none => s

/-- Every slip with no defined OP that is next to be taken is refused. -/
def State.takeBad (s : State) : State := s.sweepBad s.takenSlips.length

/-! ### Sessions (R277) -/

/-- A session closes (R277): its slips still TAKEN are refused with REASON 14, its requests end CANCELLED. -/
def State.closeSession (s : State) (f : Nat) : State :=
  if s.on TEN_SESSION.OPEN f then
    let taken := ((s.func f).slots.filter fun e => e.2.state == 1).map (·.1)
    let s1 := taken.foldl (fun s n => s.refuseAt f n 14) s
    (((s1.endFunction f 8).wr TEN_SESSION.OPEN f 0).fnEvent f 0).takeBad
  else s

/-! ### Retraction (R286, R378) -/

/-- Retract the position of a sequence from a layer on: its uncommitted results are discarded and it is replayed from there in the sequence's next step, with what it formed before that layer kept; too many retractions end it with FAULT_CHECK. -/
def State.retractFrom (s : State) (layer q : Nat) : State :=
  let x := s.seq q
  if !x.live then s else
    let s1 := (s.dropDispatches q).bump CHK_RETRACT_POS_CNT.V
    let n := x.retracts + 1
    if s.rd SRV_CTL.REPLAY_MAX < n then
      (s1.srvFlag SRV_ERR.REPLAY x.func).faultSeq q 6
    else
      let l := min layer (x.redoFrom.getD layer)
      let later (k : Nat × Nat) : Bool := decide (l ≤ ((x.pairAt.find? fun e => e.1 == k).map (·.2)).getD 0)
      s1.setSeq q { x with
        retracts := n, phase := .idle, recs := [], inStep := false, redoFrom := if l = 0 then none else some l,
        staged := x.staged.filter fun k => decide (k.layer < l), merges := x.merges.filter fun m => decide (m.1 < l),
        chose := x.chose.filter fun c => decide (c.1 < l), masks := x.masks.filter fun c => decide (c.1 < l),
        pairs := x.pairs.filter fun k => !later k, pairAt := x.pairAt.filter fun e => !later e.1,
        fenced := x.fenced && decide (0 < l), narrow := x.narrow && decide (0 < l), inspected := x.inspected && decide (0 < l) }

/-- Retract the whole position of a sequence. -/
def State.retractSeq (s : State) (q : Nat) : State := s.retractFrom 0 q

/-- A result of this device for a sequence turned out wrong (R378): its early steps are retracted at the partners, and its position is replayed whole: the layer that a strike belongs to is not in its reduction's entry (DESIGN CHOICE, log entry 40). -/
def State.wrongSeq (s : State) (q : Nat) : State := (s.retractEarly q).retractSeq q

/-- A pending pair counts as retracted (R348, R357, R378): dependent positions are replayed from the layer into which its input entered, steps in which dependent early carts were sent are retracted, carts not yet sent that depend on it are dropped. -/
def State.retractPair (s : State) (src step : Nat) : State :=
  match s.cart.pend.find? fun p => p.src == src && p.step == step with
  | none => s
  | some p =>
    let s1 := s.setPend (s.cart.pend.filter fun x => !(x.src == src && x.step == step))
    let s2 := s1.modCart fun w => { w with
      dead := w.dead ++ [(src, step)], parts := w.parts.filter (fun x => x.2 != (src, step)),
      queue := w.queue.filter fun c => !(c.seq == 0xFFFF && c.pairs.contains (src, step)) }
    let qs := FMap.keysWhere s.seqs fun _ x => x.live && x.pairs.contains (src, step)
    let s2 := { s2 with paces := s2.paces.map fun (e : Nat × Pace) => (e.1, { e.2 with pairs := e.2.pairs.erase (src, step) }) }
    p.sent.foldl (fun s e => s.sendRetract e.1 e.2)
      (qs.foldl (fun s q => s.retractFrom ((((s.seq q).pairAt.find? fun e => e.1 == (src, step)).map (·.2)).getD 0) q) s2)

/-- A pair clears (R357): nothing depends on it any longer. -/
def State.clearPair (s : State) (src step : Nat) : State :=
  let k := (src, step)
  let s1 := (s.setPend (s.cart.pend.filter fun x => !(x.src == src && x.step == step))).bump CW_RCPT_CNT.V
  let s2 := s1.modCart fun w => { w with
    early := w.early.map (fun e => { e with pairs := e.pairs.erase k }), parts := w.parts.filter (fun x => x.2 != k),
    queue := w.queue.map fun c => { c with pairs := c.pairs.erase k } }
  { s2 with seqs := s2.seqs.map (fun (e : Nat × Seq) => if e.2.pairs.contains k then (e.1, { e.2 with pairs := e.2.pairs.erase k }) else e),
            paces := s2.paces.map fun (e : Nat × Pace) => (e.1, { e.2 with pairs := e.2.pairs.erase k }) }

/-- A pair that holds its RECEIPT and as many early carts as the RECEIPT names clears (R357). -/
def State.tryClear (s : State) (src step : Nat) : State :=
  match s.cart.pend.find? fun p => p.src == src && p.step == step with
  | some p => if p.receipt = some p.got then s.clearPair src step else s
  | none => s

end Sys2Proof.Machine
end

