-- ==== Sys2Proof/Machine/Stall.lean ====
section
/-! DEFINITION. The stall: descriptors, strikes, slices and fresh planes (chapter 2). -/

namespace Sys2Proof.Machine

/-! ### The queue (R42 to R46, R70, R162) -/

/-- Descriptors held in the row switch enter the queue while it takes them: replays and splits whenever there is room, the others with EN = 1 and no drain or BLOCK run (R70, R162, R461). -/
def Stall.refill (en : Bool) (st : Stall) : Stall :=
  let room := 16 - st.queue.length
  let again := st.held.filter fun d => d.replay
  let first := st.held.filter fun d => !d.replay
  let k := if en && st.drains.isEmpty && !st.calBlock then room - again.length else 0
  { st with queue := st.queue ++ again.take room ++ first.take k, held := again.drop room ++ first.drop k }

/-- Refill the queue of a stall. -/
def State.refill (s : State) (sid : Nat) : State := s.modStall sid (Stall.refill (s.on STL_CTL.EN sid))

/-- A descriptor enters the queue, or the row switch holds it (R26, R42, R70, R162). A replay or split waits for room alone. -/
def State.pushDesc (s : State) (sid : Nat) (d : Desc) : State :=
  let st := s.stall sid
  let hold := decide (16 ≤ st.queue.length) ||
    (!d.replay && (!s.on STL_CTL.EN sid || !st.drains.isEmpty || st.calBlock || !st.held.isEmpty))
  s.setStall sid (if hold then { st with held := st.held ++ [d] }
    else { st with queue := st.queue ++ [d], lastUsed := s.now })

/-- The substituting spare of a row has a tile to take over whose crates are not all VERIFIED (R17). -/
def State.spareUnready (s : State) (sid : Nat) : Bool :=
  posOf sid == 32 && (s.row (rowOf sid)).subst.isSome && (List.range 4).any fun g => (s.tileAt sid g).isSome && !s.verified sid g

/-- A repair of the group waits for the restock that puts its spare in place: PENDING (R478). -/
def State.repairOpen (s : State) (sid g : Nat) : Bool :=
  s.cal.repairs.any fun e => bitsOf e.1 0 8 == rowOf sid && bitsOf e.1 8 6 == posOf sid && bitsOf e.1 14 2 == g && bitAt e.2 12

/-- The partner of a paired tile is not VERIFIED (R193). -/
def State.partnerOut (s : State) (sid g : Nat) : Bool :=
  match s.partner sid g with
  | some q => s.pairedGrp sid g && !s.verified (stallId (q / 32) (s.physOf (q / 32) (q % 32))) g
  | none => false

/-- Shuttered service of a tile (R470): its stall does not serve, or its group is withdrawn or failed its scrub (R192), has a repair that waits for its restock (R478), or lies in a spare stall that takes over a crate not yet VERIFIED (R17). DEDUCED (log entry 77): a paired tile whose partner is not VERIFIED, which R193 keeps from serving, is served so too. -/
def State.servedShut (s : State) (sid g : Nat) : Bool :=
  s.stallShut sid || (s.group (groupId sid g)).withdrawn || (s.group (groupId sid g)).scrubBad || s.repairOpen sid g || s.spareUnready sid || s.partnerOut sid g

/-- The fresh strikes of a stall are served as for a shuttered stall: it does not serve, or is a spare that does not serve its logical stall yet (R17, R470). -/
def State.freshShut (s : State) (sid : Nat) : Bool := s.stallShut sid || s.spareUnready sid

/-- A waiting strike's tile is served as for a shuttered stall. -/
def State.stillShut (s : State) (w : ShutWait) : Bool :=
  if w.desc.stock then s.servedShut w.stall w.desc.group else s.freshShut w.stall

/-- The strikes that waited for tiles of a stall are issued to it once their tiles are back in service (R471). -/
def State.unshut (s : State) (sid : Nat) : State :=
  let back := (s.row (rowOf sid)).shutFor.filter fun w => w.stall == sid && !s.stillShut w
  if back.isEmpty then s
  else back.foldl (fun s w => s.pushDesc sid w.desc)
    (s.modRow (rowOf sid) fun r => { r with shutFor := r.shutFor.filter fun w => w.stall != sid || s.stillShut w })

/-- An access to a stall block (R577): a sleeping stall wakes for it; in a reset it is dropped; a request that is not the physical function's or a clerk's is an access error. -/
def State.stlAccess (s : State) (who : Who) (sid off : Nat) (write : Bool) (f : State → State) : State :=
  let at' := 0x1100000 + 0x4000 * rowOf sid + 0x1000 + 0x100 * posOf sid + off
  if !s.memOpen who then s
  else if !whoAdmin who then (s.accessed who at').accessError who 0 at' write
  else if s.boot.inReset.contains sid then s.accessed who at'
  else f ((s.accessed who at').wakeStall sid)

/-- Write one register under its access codes (R8, R9, R517 for the lock). -/
def State.writeReg (s : State) (r : Reg) (i v : Nat) : State :=
  match r.info with
  | some info => s.setReg r i (info.write (s.on SEC_STAT.LOCK) v (s.getReg r i))
  | none => s

/-- STL_CTL_WRITE (R70): the enables take effect; EN = 1 lets held descriptors into the queue. -/
def execStlCtlWrite (who : Who) (row stall val : Nat) (s : State) : Result :=
  if !stallOk row stall then .next s
  else
    let sid := stallId row stall
    .next (s.stlAccess who sid 0x008 true fun s => (s.writeReg STL_CTL sid val).refill sid)

/-! ### Refusal (R45, R46) -/

/-- Some group with a set mask bit has a drive-scale code of 8 to 14 (R37, R45). -/
def badScale (mask : Nat) (scales : List Nat) : Bool :=
  (List.range 64).any fun g => bitAt mask (g / 8) && decide (8 ≤ scaleAt scales g) && decide (scaleAt scales g ≤ 14)

/-- The stall sequencer refuses the descriptor (R45). -/
def State.refuses (s : State) (sid : Nat) (d : Desc) : Bool :=
  let st := s.stall sid
  d.rsvd != 0
    || (!d.stock && !d.fresh)
    || (d.trans && (d.fresh || d.wide || !s.on STL_CTL.TRANS_EN sid))
    || (d.wide && (d.fresh || d.slot == 1 || d.slot == 3))
    || (d.stock && !d.wide && !d.trans && d.slot == 3)
    || (d.stock && d.mask == 0)
    || (d.stock && !s.verified sid d.group)
    || (d.fresh && !s.on STL_CTL.FRESH_EN sid)
    || (d.stock && !d.trans && badScale d.mask (st.bank d.slot).scales)
    || (d.stock && d.trans && (List.range 8).any fun k =>
          decide (8 ≤ scaleAt (st.bank d.slot).scales k) && decide (scaleAt (st.bank d.slot).scales k ≤ 14))
    || (d.fresh && (st.fslotScales d.fslot).any fun x => decide (8 ≤ x) && decide (x ≤ 14))
    || decide (stShuttered ≤ s.stState sid)

/-- The state of plane p (R74). -/
def State.planeState (s : State) (sid p : Nat) : Nat :=
  if p = 0 then s.rd STL_PLANE.P0_STATE sid else s.rd STL_PLANE.P1_STATE sid

/-- The content tag of plane p. -/
def State.planeTag (s : State) (sid p : Nat) : Nat :=
  if p = 0 then s.rd STL_PLANE.P0_TAG sid else s.rd STL_PLANE.P1_TAG sid

/-- Set the state and tag of plane p. -/
def State.setPlane (s : State) (sid p st tag : Nat) : State :=
  if p = 0 then (s.wr STL_PLANE.P0_STATE sid st).wr STL_PLANE.P0_TAG sid tag
  else (s.wr STL_PLANE.P1_STATE sid st).wr STL_PLANE.P1_TAG sid tag

/-- Some plane carries a tag and is READY or COMPUTING (R220). -/
def State.planeLoaded (s : State) (sid tag : Nat) : Bool :=
  [0, 1].any fun p => decide (2 ≤ s.planeState sid p) && s.planeTag sid p == tag

/-- The computing plane carries the descriptor's tag (R65). -/
def State.planeReady (s : State) (sid : Nat) (d : Desc) : Bool :=
  let c := s.rd STL_PLANE.COMP sid
  s.planeState sid c == 3 && s.planeTag sid c == d.ftag

/-- What the plane that carries a content tag, or is to carry it, holds (R219). -/
def State.tagEntry (s : State) (sid tag : Nat) : Option PlaneSrc :=
  let st := s.stall sid
  let has (p t : Nat) : Bool := if s.planeState sid p = 1 then t == tag else decide (2 ≤ s.planeState sid p) && s.planeTag sid p == tag
  if has 0 st.tag0 then st.plane0 else if has 1 st.tag1 then st.plane1 else none

/-- The fresh strike of its vector that a descriptor makes: of the feeds whose matrix the plane of its FTAG holds, and of those whose slice stands in its slot, as far as either is known, the first whose strike has not been released (R34, R144, R583). DEDUCED (log entry 112). -/
def State.freshPart (s : State) (sid : Nat) (n : Narrow) (d : Desc) : Nat :=
  let keep (p : Feed → Bool) (fs : List Feed) : List Feed := if fs.any p then fs.filter p else fs
  let fs := n.feeds.filter fun f => decide (4 ≤ f.group)
  let named := keep (fun f => (s.tagEntry sid d.ftag).any f.names) fs
  let here := keep (fun f => n.slots.contains (d.fslot, f.slice)) named
  (((keep (fun f => n.left.contains f.group) here).head?).map fun f => f.group - 4).getD 0

/-- A descriptor with the fresh strike that it makes; a replay or split keeps the one that it repeats. -/
def State.resolve (s : State) (sid : Nat) (d : Desc) : Desc :=
  if d.fresh && !d.replay then (match (s.stall sid).record d.tag with
    | some n => { d with part := s.freshPart sid n d }
    | none => d)
  else d

/-- The instance of a strike: its reduction and the record of its open instance. -/
def State.instOf (s : State) (row red tag : Nat) : Option Inst :=
  (s.row row).insts.find? fun i => i.red == red && i.tag == tag

/-- The positions of an eighth that lie below an ordinal. -/
def redBelow (r : RedRec) (e o : Nat) : List (Nat × Nat) :=
  (r.contribs.filter fun c => c.eighth == e && decide (c.ordinal < o)).map fun c => (c.eighth, c.ordinal)

/-- The strike for a feed, by its group, needs a reorder store entry: canonical mode, and a lower ordinal of its eighth has not been taken (R150). -/
def State.needsEntryFor (s : State) (sid tag g : Nat) : Bool :=
  match (s.stall sid).record tag with
  | none => false
  | some n =>
    match n.feed g with
    | none => false
    | some f =>
      match s.genOf f.slot f.gen, s.feedPos f with
      | some g, some (e, o) =>
        let canon := if s.on TAL_ACC_CTL.OVR (rowOf sid) then s.rd TAL_ACC_CTL.MODE (rowOf sid) == 0 else g.man.canon
        let canon := match s.instOf (rowOf sid) (s.feedRed f) tag with
          | some i => i.canon
          | none => canon
        let taken := match s.instOf (rowOf sid) (s.feedRed f) tag with
          | some i => i.taken
          | none => []
        canon && (match g.red (s.feedRed f) with
          | some r => (redBelow r e o).any fun p => !taken.contains p
          | none => false)
      | _, _ => false

/-- How many reorder store entries a descriptor's strikes need. -/
def State.entriesFor (s : State) (sid : Nat) (d : Desc) : Nat :=
  if d.replay then 0 else
    ofBool (d.stock && s.needsEntryFor sid d.tag d.group) + ofBool (d.fresh && s.needsEntryFor sid d.tag (4 + d.part))

/-- The reorder store has fewer entries free than a descriptor needs (R150). -/
def State.reorderFull (s : State) (sid : Nat) (d : Desc) : Bool :=
  decide (128 < s.rd TAL_ACC_STAT.REORDER_USED (rowOf sid) + s.entriesFor sid d)

/-- The descriptor waits and later ones may pass it: a fresh strike while pair 2–3 holds an A8 vector (R41) or without its plane (R65); a strike that needs a reorder entry while none is free, which lets those that need none issue (R150). DESIGN CHOICE (log entry 97): so does a strike with a fresh part only in transpose mode, which R62 keeps from issuing without saying what may pass it. -/
def State.waits (s : State) (sid : Nat) (d : Desc) : Bool :=
  (d.fresh && ((s.stall sid).pair23 || !s.planeReady sid d || (!d.stock && s.on STL_STAT.TRANS_MODE sid))) || s.reorderFull sid d

/-- The descriptor waits and none passes it (R43): a strike whose passes have not all entered the overflow queue (R100); a forward stock strike while rows of the outlier SRAM wait for a valid shard to be loaded from (R96). -/
def State.blocks (s : State) (sid : Nat) (d : Desc) : Bool :=
  let st := s.stall sid
  (d.stock && !d.trans && !st.osramBad.isEmpty && !s.ledgerReady sid) || ((st.passes.drop 16).any fun p => p.tag == d.tag)

/-- What the sequencer does at a strike edge. -/
inductive Pick where
  | idle
  | refuse (i : Nat) (d : Desc)
  | issue (i : Nat) (d : Desc)
deriving DecidableEq, Repr

/-- The first descriptor that need not wait and passes none that names the same bank, slot or group (R43). -/
def State.pickFrom (s : State) (sid : Nat) : List Desc → List Desc → Nat → Pick
  | [], _, _ => .idle
  | d :: ds, passed, i =>
    if passed.any fun p => descClash p d then s.pickFrom sid ds (passed ++ [d]) (i + 1)
    else if s.refuses sid d then .refuse i d
    else if s.waits sid d then s.pickFrom sid ds (passed ++ [d]) (i + 1)
    else if s.blocks sid d then .idle
    else .issue i d

/-- What the sequencer does with its queue. -/
def State.pick (s : State) (sid : Nat) : Pick := s.pickFrom sid ((s.stall sid).queue.map (s.resolve sid)) [] 0

/-- The descriptor at place `i` leaves the queue; pair 2–3 holds its A8 vector until no queued pair names it (R40, R41). -/
def Stall.unqueue (st : Stall) (i : Nat) (d : Desc) : Stall :=
  let q := st.queue.eraseIdx i
  { st with queue := q, pair23 := st.pair23 && (!(d.wide && d.slot == 2) || q.any fun x => x.wide && x.slot == 2) }

/-- Refuse a descriptor: STL_ERR.DESC, STL_REFUSED_CNT and the refusal marker; the strike counter stands (R46). -/
def State.refuse (s : State) (sid i : Nat) (d : Desc) : State :=
  let s1 := s.modStall sid fun st => { st.unqueue i d with markers := st.markers ++ [d] }
  ((s1.bump STL_REFUSED_CNT.V sid).flag STL_ERR.DESC sid).refill sid

/-- Refuse descriptors until the sequencer would issue one or idle; `n` bounds how many. -/
def State.refuseAll (s : State) (sid : Nat) : Nat → State
  | 0 => s
  | n + 1 => match s.pick sid with
    | .refuse i d => (s.refuse sid i d).refuseAll sid n
    | _ => s

/-! ### Strikes (R47, R57, R61) -/

/-- What the spare slice of a channel converts in one slice period (R53, R54). -/
inductive SpareUse where
  | working (slice : Nat)     -- it substitutes for a working slice
  | reference (k : Nat)       -- REF_Z, REF_LO, REF_HI or REF_PAT, k = 0 to 3
  | shadow (slice : Nat)      -- the value that a working slice converts
deriving DecidableEq, Repr

/-- The spare of a channel under a slice map, in slice period n of a conversion period (R53, R54). A spare of channels 0 to 3 converts the reference of its channel in period 0; where it substitutes, the spare four channels up does. DESIGN CHOICE (log entry 68): the cycle over the working slices takes slice n mod 4 in period n. -/
def spareUse (map chan n : Nat) : SpareUse :=
  if bitsOf map (3 * chan) 3 ≠ 4 then .working (bitsOf map (3 * chan) 3)
  else if n = 0 ∧ chan < 4 then .reference chan
  else if n = 0 ∧ bitsOf map (3 * (chan - 4)) 3 ≠ 4 then .reference (chan - 4)
  else .shadow (n % 4)

/-- Under the slice map, some reference column is converted by no spare (R54). -/
def refLost (map : Nat) : Bool :=
  (List.range 4).any fun k => (List.range 8).all fun chan => spareUse map chan 0 != .reference k

/-- A value moves towards its goal by at most n. -/
def moveTo (n : Nat) (old goal : Int) : Int := max (old - Int.ofNat n) (min goal (old + Int.ofNat n))

/-- The slice trims in effect move towards their targets over k strike edges (R52). At one edge the gain moves by 2⁻¹⁴, at most 1/128 code in a code of 128 steps from zero, and the offset by 1/128 code: 1/64 code together. -/
def Stall.moveTrims (st : Stall) (k : Nat) : Stall :=
  { st with sliceTrim := st.sliceTo.foldl (fun m e =>
      let old := FMap.get (0, 0) m e.1
      FMap.set (0, 0) m e.1 (moveTo k old.1 e.2.1, moveTo k old.2 (16 * e.2.2))) st.sliceTrim }

/-- What takes effect at a strike edge of a stall: the slice map (R66, R75), the spare rows and columns (R32), and k edges of its slice trims (R52). When the spares of channels k and k + 4 both substitute, the reference columns cannot be converted and the stall faults (R54). A stall whose clock is stopped has no strike edge. -/
def State.applyMap (s : State) (sid k : Nat) : State :=
  let m := (s.getReg STL_SLICE_MAP sid).toNat
  if s.stState sid < stRun then s
  else
    let lines := s.cal.repairs.filter fun e => selStall e.1 == sid
    let s1 := if (s.stall sid).mapEff = m && (s.stall sid).lines == lines && (s.stall sid).sliceTo.isEmpty then s
      else s.modStall sid fun st => { st with mapEff := m, lines := lines }.moveTrims k
    if refLost m && s.stState sid ≠ stFault then (s1.flag STL_ERR.REF_LOST sid).stallFault sid else s1

/-- Stock strike edges of a group are counted for probes (R370) and for the trim steps in progress (R467). -/
def State.countEdges (s : State) (sid g k : Nat) : State :=
  let period := 2 ^ s.rd CHK_CTL.PROBE
  let s1 := s.modGroup (groupId sid g) fun x =>
    if x.probeCnt + k ≥ period then
      { x with struck := true, probeCnt := x.probeCnt + k - period, probeDue := x.probeDue || !x.probeE.isEmpty }
    else { x with struck := true, probeCnt := x.probeCnt + k }
  s1.modStall sid fun st =>
    let e := FMap.get (0, 0) st.trimStep g
    if e.1 = 0 then st else { st with trimStep := FMap.set (0, 0) st.trimStep g (e.1, e.2 + k) }

/-- The stall may issue at the row's present edge: RUN or DRAINING, past the last strike, and not at a pause edge (R45, R494). -/
def State.mayIssue (s : State) (sid : Nat) : Bool :=
  (s.stState sid == stRun || s.stState sid == stDraining) && !s.paused (rowOf sid)
    && decide ((s.stall sid).busyTo ≤ (s.row (rowOf sid)).edge)

/-- The direction rule of R62: a transpose strike starts with no forward conversion in progress, a forward strike with no column drive in progress and one idle period between. -/
def State.directionOk (s : State) (sid : Nat) (trans : Bool) : Bool :=
  let e := (s.row (rowOf sid)).edge
  if trans then decide ((s.stall sid).convTo ≤ e) else decide ((s.stall sid).transTo ≤ e)

/-- The lowest group with a probe due that no pending replay of the group precedes (R370, R383). No probe issues during a drain (R162). -/
def State.probeGroup (s : State) (sid : Nat) : Option Nat :=
  if s.stState sid = stRun && !(s.stall sid).calBlock then
    (List.range 4).find? fun g =>
      (s.group (groupId sid g)).probeDue && s.verified sid g && !(s.group (groupId sid g)).probeE.isEmpty
        && !((s.stall sid).queue.any fun d => d.stock && d.replay && d.group == g)
        && !((s.stall sid).inflight.any fun x => (x.stage == .clipped || x.stage == .replaying) && x.desc.stock && x.desc.group == g)
  else none

/-- The column that working slice j of channel k converts in place n of a conversion period, n = 0 to 31 (R51). -/
def sliceColumn (k j n : Nat) : Nat := 128 * k + 4 * n + j

/-- The channel and working slice that convert a column, as 4 × channel + slice (R51). -/
def columnSlice (c : Nat) : Nat := 4 * (c / 128) + c % 4

/-- The working slices whose codes are converted by a slice out of limit, their own or the spare that substitutes for it: those codes carry the suspect flag (R55). -/
def Stall.suspects (st : Stall) : List Nat :=
  (st.offLimit.filter fun k => decide (k < 32) && bitsOf st.mapEff (3 * (k / 4)) 3 != k % 4)
    ++ ((st.offLimit.filter fun k => decide (32 ≤ k) && decide (bitsOf st.mapEff (3 * (k - 32)) 3 < 4)).map fun k => 4 * (k - 32) + bitsOf st.mapEff (3 * (k - 32)) 3)

/-- The content of the plane that computes. -/
def State.computing (s : State) (sid : Nat) : PlaneRam :=
  if s.rd STL_PLANE.COMP sid = 0 then (s.stall sid).ram0 else (s.stall sid).ram1

/-- A strike of a descriptor, with the codes, trims and plane that it takes at its edge (R47 step 1, R93). -/
def State.mkStrike (s : State) (sid : Nat) (d : Desc) (no : Nat) : Strike :=
  let st := s.stall sid
  let b := st.bank d.slot
  { no := no, edge := (s.row (rowOf sid)).edge, desc := d, kind := .work, stage := .issued,
    drive := if d.stock then (b.nibbles.map fun n => if d.trans then signedOf 8 n else signedNib n) else [],
    low := if d.wide then ((st.bank (d.slot + 1)).nibbles.map fun n => Int.ofNat n) else [],
    scales := if d.stock then b.scales else [],
    fdrive := if d.fresh then (st.fslotNibbles d.fslot).map signedNib else [],
    fscales := if d.fresh then st.fslotScales d.fslot else [],
    xs := [], xh := [], xl := [], fxs := [], clips := 0, half := 0, origMask := d.mask, origRange := d.range,
    entry := false, job := 0, suspect := if d.trans then [] else st.suspects, trims := st.trimsNow, goals := st.trimsTo, idle := false,
    plane := if d.fresh then s.computing sid else .empty, chanmap := 0, pairOpen := false, diffs := [], red := 0, seq := 0xFFFF, isExact := false }

/-- The crates of a mask, lowest first, and the mask of the first ⌈n/2⌉ of them (R122 step 3). -/
def lowHalf (mask : Nat) : Nat :=
  let cs := (List.range 8).filter fun i => bitAt mask i
  ((cs.take ((cs.length + 1) / 2)).map fun i => 2 ^ i).sum

/-- A replay strike takes over the clip history of the discarded strike of its vector and group (R122), and its reorder store entry. -/
def Strike.takeOver (y x : Strike) : Strike :=
  { x with clips := y.clips + 1, origMask := y.origMask, origRange := y.origRange, entry := y.entry,
           half := if x.desc.mask = y.origMask then 0 else if x.desc.mask = lowHalf y.origMask then 1 else 2 }

/-- The discarded strike that a replay descriptor strikes again. -/
def Stall.replayed (st : Stall) (d : Desc) : Option Strike :=
  if d.replay then
    st.inflight.find? fun y => y.stage == .replaying && y.desc.tag == d.tag && y.desc.stock == d.stock && outOf y.desc == outOf d
  else none

/-- A new strike enters the list of strikes in flight; the discarded strike leaves once its replay, or the second half of its split, has issued. A replay whose output has gone to the inspector meanwhile strikes for nothing (half 3). -/
def Stall.fly (st : Stall) (x : Strike) : Stall :=
  match st.replayed x.desc with
  | some y =>
    let z := y.takeOver x
    { st with inflight := (if z.half = 1 then st.inflight.map (fun w => if w = y then { y with entry := false } else w) else st.inflight.erase y) ++ [z] }
  | none => { st with inflight := st.inflight ++ [if x.desc.replay then { x with half := 3 } else x] }

/-- Once every strike of a quantised vector has issued, its source buffer is free (R114). -/
def Row.freeBufs (stall : Nat) (d : Desc) (r : Row) : Row :=
  let struck (v : Vec) : Vec :=
    if v.tag = d.tag ∧ v.stall = stall then { v with left := v.left.filter fun g => !((d.stock && g == d.group) || (d.fresh && g == 4 + d.part)) } else v
  { r with bufs := (r.bufs.map fun b => (b.1, struck b.2)).filter fun b => !(b.2.done && b.2.left.isEmpty) }

/-- n/16 of the way from one field to another, rounded to nearest, ties to even (R467). -/
def trimAt (n : Nat) (old goal : Int) : Int := old + (⟨Int.ofNat n * (goal - old), -4⟩ : Dy).rne

/-- The entry in effect at step n, field by field (R467). -/
def trimStepEntry (n old goal : Nat) : Nat :=
  trimOf (trimAt n (trimGain old) (trimGain goal)) (trimAt n (trimOffset old) (trimOffset goal))
    (trimAt n (Int.ofNat (trimDrop old)) (Int.ofNat (trimDrop goal))).toNat

/-- The step of a group's trims (4 = the fresh columns) that is due: step 1 at its first strike edge, each later one after 16 of its strike edges (R467). -/
def Stall.trimDue (st : Stall) (g : Nat) : Option Nat :=
  let t := FMap.get (0, 0) st.trimStep g
  if t.1 ≠ 0 ∧ (if t.1 = 1 then 0 else 16) ≤ t.2 then some t.1 else none

/-- Step n of a group's trims takes effect (R467). -/
def Stall.stepTrims (st : Stall) (g n : Nat) : Stall :=
  let cols := (((st.trimsTo ++ st.trimsFrom).map (·.1)).filter fun c => c / 1024 == g).eraseDups
  { st with trimsNow := cols.foldl (fun m c => FMap.set 0 m c (trimStepEntry n (FMap.get 0 st.trimsFrom c) (FMap.get 0 st.trimsTo c))) st.trimsNow,
            trimStep := FMap.set (0, 0) st.trimStep g (if n = 16 then (0, 0) else (n + 1, 0)) }

/-- The trim step that is due at a strike edge of the group takes effect (R93, R467), so that no strike is corrected with two entries. A stock group whose trim range used reaches 75 % is due a touch-up (R189); with the last step of every group the run of the stall ends. -/
def State.trimStep (s : State) (sid g : Nat) : State :=
  let st := s.stall sid
  match st.trimDue g with
  | none => s
  | some n =>
    let st1 := st.stepTrims g n
    let s0 := (s.setStall sid st1).wr CAL_STALL_STAT.STEP sid n
    let s1 := if g < 4 && trimsWide st1.trimsNow g && !trimsWide st.trimsNow g then s0.touchupDue (jrnIndex sid (8 * g)) else s0
    if s1.rd CAL_STALL_STAT.RUN sid = 5 ∧ (List.range 5).all (fun g => (FMap.get (0, 0) st1.trimStep g).1 == 0) then
      s1.wr CAL_STALL_STAT.RUN sid (ofBool (s1.cal.queue.contains sid))
    else s1

/-- Issue the descriptor at place `i` of the queue: counters, hold sets, latched codes and the times the next strike must keep; the trim steps that fall due at its edge come first (R93, R103). Rows of the outlier SRAM that failed parity are loaded again before a strike that uses them (R96). DESIGN CHOICE (log entry 78): every strike edge with a strike flips HOLD_SET, a transpose strike's too; (log entry 97) with HOLD_SET at its reset value 0 for A, the first strike after a reset takes B. -/
def State.issue (s : State) (sid i : Nat) (d : Desc) : State :=
  let s := if d.stock then s.trimStep sid d.group else s
  let s := if d.fresh then s.trimStep sid 4 else s
  let s := if d.stock && !d.trans && !(s.stall sid).osramBad.isEmpty then s.reloadSram sid else s
  let row := rowOf sid
  let e := (s.row row).edge
  let k := if d.stock then (if d.wide then 2 else 1) else 0
  let s2 := ((s.bump STL_STRIKES.V sid k).bump STL_FRESH_STRIKES.V sid (ofBool d.fresh)).bump STL_TRANS_STRIKES.V sid (ofBool d.trans)
  let s3 := s2.bump STL_WIDE_PAIRS.V sid (ofBool (d.wide && !d.replay))
  let hold := (s3.rd STL_STAT.HOLD_SET sid + (if d.wide then 2 else 1)) % 2
  let s4 := s3.wr STL_STAT.HOLD_SET sid hold
  let s5 := if d.stock then s4.wr STL_STAT.TRANS_MODE sid (ofBool d.trans) else s4
  let x := s.mkStrike sid d (s5.rd STL_STRIKES.V sid)
  let xs := (if d.stock then [{ x with desc := { d with fresh := false }, entry := !d.replay && s.needsEntryFor sid d.tag d.group, fdrive := [], fscales := [] }] else [])
    ++ (if d.fresh then [{ x with desc := { d with stock := false }, origRange := d.frange, entry := !d.replay && s.needsEntryFor sid d.tag (4 + d.part), drive := [], low := [], scales := [] }] else [])
  let s6 := s5.wr TAL_ACC_STAT.REORDER_USED row (s5.rd TAL_ACC_STAT.REORDER_USED row + s.entriesFor sid d)
  let s7 := s6.modStall sid fun st =>
    { (xs.foldl Stall.fly st).unqueue i d with
      lastUsed := s.now,
      busyTo := e + (if d.wide || d.trans then 2 else 1),
      convTo := if d.trans then st.convTo else e + (if d.wide then 3 else 2),
      transTo := if d.trans then e + 3 else st.transTo,
      freshEdge := if d.fresh then e + 1 else st.freshEdge,
      pairHold := if d.wide then some (e + 1, d.slot) else st.pairHold }
  let s7 := s7.modRow row (Row.freeBufs (posOf sid) d)
  let s8 := if d.stock then s7.countEdges sid d.group k else s7
  (if d.fresh then s8.modStall sid fun st =>
      let t := FMap.get (0, 0) st.trimStep 4
      if t.1 = 0 then st else { st with trimStep := FMap.set (0, 0) st.trimStep 4 (t.1, t.2 + 1) }
    else s8).refill sid

/-- The fresh descriptor at the head of the queue's fresh part waits for a plane that is not READY, and the stall strikes nothing fresh at row edge e for that reason (R65, R220). -/
def State.freshLost (s : State) (sid e : Nat) : Bool :=
  let st := s.stall sid
  (match st.queue.find? fun d => d.fresh with
    | some d => !s.planeLoaded sid d.ftag
    | none => false)
  && st.freshEdge != e + 1 && decide (st.busyTo ≤ e + 1) && !s.on STL_STAT.TRANS_MODE sid
  && (match st.pairHold with
    | some (low, _) => decide (low < e)
    | none => true)

/-- A vector of the stall waits in its source buffer for a narrow-store entry (R115). DESIGN CHOICE (log entry 98): a stall counts once at an edge, whatever the number of vectors that wait there. -/
def State.storeLost (s : State) (sid : Nat) : Bool :=
  decide (2 ≤ (s.stall sid).narrow.length) && (s.row (rowOf sid)).bufs.any fun b => b.2.stall == posOf sid && !b.2.done

/-- The stall could have issued at row edge e, it issued nothing, and nothing in its queue may issue. -/
def State.idleAt (s : State) (sid e : Nat) : Bool :=
  decide ((s.stall sid).busyTo ≤ e) && (s.probeGroup sid).isNone && s.pick sid == .idle

/-! ### Drain requests (R162) and calibration slots (R461) -/

/-- The bit of a stall in TAL_ACC_STAT.DRAIN_BUSY. -/
def State.setBusy (s : State) (sid : Nat) (b : Bool) : State :=
  let w := s.rd TAL_ACC_STAT.DRAIN_BUSY (rowOf sid)
  let off := w - (if bitAt w (posOf sid) then 2 ^ posOf sid else 0)
  s.wr TAL_ACC_STAT.DRAIN_BUSY (rowOf sid) (if b then off + 2 ^ posOf sid else off)

/-- A requester asks for a drain (R162): one marker serves a drain in progress. -/
def State.drainReq (s : State) (sid : Nat) (who : Requester) : State :=
  let s1 := s.modStall sid fun st =>
    { st with drains := if st.drains.contains who then st.drains else st.drains ++ [who], drained := false, early := st.early.erase who }
  let s2 := s1.setBusy sid true
  if s2.stState sid = stRun then s2.setStState sid stDraining else s2

/-- A requester releases its drain; before completion the release waits for it (R162). -/
def State.drainRel (s : State) (sid : Nat) (who : Requester) : State :=
  let st := s.stall sid
  if !st.drains.contains who then s
  else if st.drained then
    let s1 := s.setStall sid { st with drains := st.drains.erase who, drained := decide ((st.drains.erase who) ≠ []) }
    if (st.drains.erase who).isEmpty then
      (if s1.stState sid = stDraining then s1.setStState sid stRun else s1).refill sid
    else s1
  else s.setStall sid { st with early := if st.early.contains who then st.early else st.early ++ [who] }

/-- Descriptors resume. -/
def State.calBlockOff (s : State) (sid : Nat) : State :=
  ((s.modStall sid fun st => { st with calBlock := false }).drainRel sid .cal).refill sid

/-- The strike edges that a calibration run takes for each stock group: 256 slots, and with TRANS_EN 64 transpose strikes of two edges each (R461, R462, R466). -/
def State.calNeed (s : State) (sid : Nat) : Nat := if s.on STL_CTL.TRANS_EN sid then 384 else 256

/-- A calibration run takes edge e for a slot (R461): in GAP mode an edge at which the stall has nothing to issue, unless a mode change or a reset closes it (R480); in BLOCK mode every edge once the stall has drained. With the last slot of the four groups the run is fitting, and descriptors resume. -/
def State.calSlot (s : State) (sid e : Nat) : State :=
  let run := s.rd CAL_STALL_STAT.RUN sid
  let st := s.stState sid
  let gap := run == 2 && (st == stRun || st == stSpareIdle) && !s.closingStall sid && s.idleAt sid e
  if (gap || (run == 3 && (s.stall sid).drained)) && !s.pausedAt (rowOf sid) e then
    let r := FMap.get CalRun.init s.cal.runs sid
    let s1 := { s with cal := { s.cal with runs := FMap.set CalRun.init s.cal.runs sid { r with slots := r.slots + 1 } } }
    if 4 * s.calNeed sid ≤ r.slots + 1 then (s1.wr CAL_STALL_STAT.RUN sid 4).calBlockOff sid else s1
  else s

/-- Row edge e is a slot of the scrub of a crate of the stall (R191): an edge at which the stall issues nothing and the crate's group has no descriptor to issue. -/
def State.scrubSlot (s : State) (sid e : Nat) : State :=
  match s.scrub.busy with
  | some i =>
    let st := s.stState sid
    if jrnStall i = sid ∧ 0 < s.scrub.left ∧ stRun ≤ st ∧ st ≠ stFault ∧ (s.stall sid).busyTo ≤ e ∧ !s.pausedAt (rowOf sid) e
        ∧ !(s.stall sid).queue.any (fun d => d.stock && d.group == jrnGroup i) then
      { s with scrub := { s.scrub with left := s.scrub.left - 1 } }
    else s
  | none => s

/-- Row edge e of a stall ends: what it lost there is counted, for a fresh descriptor without its plane (R220), a full overflow queue (R100), a full reorder store (R150), a vector without a narrow-store entry (R115); a calibration run or a scrub takes it for a slot (R191, R461). -/
def State.closeEdge (s : State) (sid e : Nat) : State :=
  let s := (s.calSlot sid e).scrubSlot sid e
  let st := s.stall sid
  let row := rowOf sid
  let s0 := if s.storeLost sid then s.bump TAL_NQ_STORE_WAIT_CNT.V row else s
  if st.queue.isEmpty || !(s.stState sid == stRun || s.stState sid == stDraining) || s.pausedAt row e then s0 else
    let s1 := if s.freshLost sid e then s0.bump PRT_FRESH_WAIT_CNT.V else s0
    let idle := s.idleAt sid e
    let s2 := if idle && st.queue.any fun d => (st.passes.drop 16).any fun p => p.tag == d.tag then s1.bump TAL_OUT_WAIT_CNT.V row else s1
    if idle && st.queue.any fun d => s.reorderFull sid d then s2.bump TAL_ACC_REORDER_WAIT_CNT.V row else s2

/-- Every stall of a row ends row edge e. -/
def State.closeEdges (s : State) (row e : Nat) : State :=
  (List.range 33).foldl (fun s p => s.closeEdge (stallId row p) e) s

/-- `k` strike edges of a row pass: the present edge and those between end, and the slice maps take effect. -/
def State.edgesPass (s : State) (row k : Nat) : State :=
  let e := (s.row row).edge
  match k with
  | 0 => s
  | k + 1 =>
    let s1 := (List.range 33).foldl (fun s p => s.applyMap (stallId row p) (k + 1)) (s.closeEdges row e)
    ((List.range k).foldl (fun s i => s.closeEdges row (e + 1 + i)) s1).passEdges row (k + 1)

/-- At a strike edge, the sequencer refuses what it must refuse and issues the picked descriptor when it is of the wanted kind. A stall in SHUTTERED, SPARE_IDLE or FAULT refuses every descriptor that reaches the head of its queue (R45, R54, R56). -/
def State.strikeEdge (s0 : State) (sid : Nat) (kind : Desc → Bool) : State :=
  let s := s0.unshut sid
  if s.mayIssue sid && (s.probeGroup sid).isNone then
    let s1 := s.refuseAll sid 17
    match s1.pick sid with
    | .issue i d => if kind d && s1.directionOk sid d.trans then s1.issue sid i d else s1
    | _ => s1
  else if decide (stShuttered ≤ s.stState sid) && !s.paused (rowOf sid) then s.refuseAll sid 17
  else s

/-- STRIKE_ISSUE (R47): at the last of `edges` strike edges of the row, the stall's sequencer strikes its next descriptor, or refuses it (R46). -/
def execStrikeIssue (row stall edges : Nat) (s : State) : Result :=
  if stallOk row stall then
    .next ((s.edgesPass row edges).strikeEdge (stallId row stall) fun d => !d.wide && !d.trans)
  else .next s

/-- WIDENED_PAIR_ISSUE (R57, R59): the same for an A8 pair, which takes two strike edges. -/
def execWidenedPairIssue (row stall edges : Nat) (s : State) : Result :=
  if stallOk row stall then
    .next ((s.edgesPass row edges).strikeEdge (stallId row stall) fun d => d.wide)
  else .next s

/-- TRANSPOSE_STRIKE_ISSUE (R61, R62): the same for a transpose strike. -/
def execTransposeStrikeIssue (row stall edges : Nat) (s : State) : Result :=
  if stallOk row stall then
    .next ((s.edgesPass row edges).strikeEdge (stallId row stall) fun d => d.trans)
  else .next s

/-! ### Probe strikes (R370) -/

/-- The probe vector of a group: row i takes one nibble of the mixing result of its sixteen rows (R370). -/
def probeVector (logical g count : Nat) : List Int :=
  (List.range 8192).map fun i =>
    signedNib (bitsOf (mix64 (logical * 2 ^ 32 + g * 2 ^ 16 + i / 16) count) (4 * (i % 16)) 4)

/-- Calibration vector v of a group (R462): the codes of R370's vector from another mixing input, on the first ⌈8,192 (v + 1)/32⌉ rows, and code 0 on the others. -/
def calVector (logical g count v : Nat) : List Int :=
  (List.range 8192).map fun i =>
    if i < 256 * (v + 1) then signedNib (bitsOf (mix64 (logical * 2 ^ 32 + g * 2 ^ 16 + (v + 1) * 2 ^ 9 + i / 16) count) (4 * (i % 16)) 4) else 0

/-- The global logical stall number whose low 32 bits key the probe vector (R370, R374). -/
def State.probeKey (s : State) (sid : Nat) : Nat := s.logicalNo sid

/-- The drive of slot vector v of a run (R462): calibration vectors 0 to 31, then the probe vector, by the count that the run's commit leaves. -/
def State.calDrive (s : State) (sid g v : Nat) : List Int :=
  if v < 32 then calVector (s.probeKey sid) g (s.rd CAL_STALL_STAT.COUNT sid + 1) v else probeVector (s.probeKey sid) g (s.rd CAL_STALL_STAT.COUNT sid + 1)

/-- The descriptor of a probe: all rows, at the RANGE recorded with E_j (R370, R371). -/
def probeDesc (g r : Nat) : Desc :=
  { group := g, stock := true, fresh := false, wide := false, trans := false, replay := false, mask := 0xFF, range := r,
    frange := 0, slot := 0, fslot := 0, ftag := 0, tag := 0, rsvd := 0, part := 0 }

/-- Strike a probe of group g at the row's present edge, one that is due or one of a returning lane (R370, R376). -/
def State.issueProbe (s : State) (sid g : Nat) (idle : Bool) : State :=
  let e := (s.row (rowOf sid)).edge
  let d := probeDesc g (s.group (groupId sid g)).probeR
  let s1 := s.bump STL_STRIKES.V sid
  let s2 := s1.wr STL_STAT.HOLD_SET sid ((s1.rd STL_STAT.HOLD_SET sid + 1) % 2)
  let s3 := s2.wr STL_STAT.TRANS_MODE sid 0
  let x : Strike := { s.mkStrike sid d (s3.rd STL_STRIKES.V sid) with
    kind := .probe, idle := idle, drive := probeVector (s.probeKey sid) g (s.rd CAL_STALL_STAT.COUNT sid),
    scales := List.replicate 64 0, entry := false, xs := (s.group (groupId sid g)).probeE }
  (s3.modStall sid fun st => { st with inflight := st.inflight ++ [x], busyTo := e + 1, convTo := e + 2, lastUsed := s.now, laneGrp := if idle then g + 1 else st.laneGrp }).modGroup
    (groupId sid g) fun x => { x with probeDue := x.probeDue && idle }

/-- The group an idle-edge probe of the lane's return strikes next (R376): in rotation over the groups that hold tiles. -/
def State.laneGroup (s : State) (sid : Nat) : Option Nat :=
  let st := s.stall sid
  if st.idleProbe && st.queue.isEmpty && s.stState sid == stRun && !st.calBlock then
    ((List.range 4).map fun k => (st.laneGrp + k) % 4).find? fun g =>
      s.verified sid g && !(s.group (groupId sid g)).probeE.isEmpty
  else none

/-- PROBE_STRIKE (R370, R376): a probe that is due takes the strike edge; with none due, a returning lane probes at an idle edge. -/
def execProbeStrike (row stall edges : Nat) (s : State) : Result :=
  if !stallOk row stall then .next s else
    let sid := stallId row stall
    let s1 := s.edgesPass row edges
    if s1.mayIssue sid && s1.directionOk sid false then
      match s1.probeGroup sid, s1.laneGroup sid with
      | some g, _ => .next (s1.issueProbe sid g false)
      | none, some g => .next (s1.issueProbe sid g true)
      | none, none => .next s1
    else .next s1

/-! ### Staging banks (R39 to R41) -/

/-- At row edge e the destination of a part of a vector, its stock vector or one fresh slice, is released: the bank, the pair with every fresh slot for pair 2–3, or the fresh slot (R40, R41). -/
def Stall.released (st : Stall) (e : Nat) (n : Narrow) (part : Option Nat) (b : Nat) : Bool :=
  if part.isSome then !st.fslotBusy e b && !st.pair23
  else if n.a8 && !n.trans then !st.bankBusy e b && !st.bankBusy e (b + 1) && (b == 0 || st.fslotsFree)
  else !st.bankBusy e b

/-- The destination is released at the row's present edge. -/
def State.bankFree (s : State) (sid : Nat) (n : Narrow) (part : Option Nat) (b : Nat) : Bool := (s.stall sid).released (s.row (rowOf sid)).edge n part b

/-- The bank numbers a part of a record may be staged in: a fresh slot 0–15, pair 0 or 2, or bank 0, 1 or 2 (R39); y in any bank its descriptor may name (R60). -/
def Narrow.bankOk (n : Narrow) (part : Option Nat) (b : Nat) : Bool :=
  if part.isSome then decide (b < 16)
  else if n.trans then decide (b < 4)
  else if n.a8 then b == 0 || b == 2
  else decide (b < 3)

/-- The records of a stall after a part of the vector `n` is written into bank or slot b; a vector of which nothing is left to stage leaves the row switch. -/
def Stall.markStaged (st : Stall) (n : Narrow) (part : Option Nat) (b : Nat) : Stall :=
  let up (x : Narrow) : Narrow := if x.tag = n.tag then x.staged part b else x
  { st with narrow := st.narrow.map up, waiting := (st.waiting.map up).filter fun x => x.tag != n.tag || x.toStage.isSome }

/-- STAGING_BANK_WRITE (R26, R40): the next part of a held vector, its stock vector or one fresh slice, is written into its bank or slot once the stall is awake and its sequencer has released it; otherwise the row switch goes on holding it. -/
def execStagingBankWrite (row stall tag bank : Nat) (s : State) : Result :=
  if !stallOk row stall then .next s else
    let sid := stallId row stall
    let st := s.stall sid
    match (st.waiting.find? fun n => n.tag == tag).bind fun n => n.toStage.map fun k => (n, k) with
    | some (n, part) =>
      if n.bankOk part bank && s.bankFree sid n part bank && decide (stRun ≤ s.stState sid) then
        .next (s.setStall sid { (st.stage n part bank).markStaged n part bank with lastUsed := s.now })
      else .next s
    | none => .next s

/-! ### Slices (R53 to R56, R75) -/

/-- The substitution field of channel k (R75). -/
def subField (k : Nat) : RField := ⟨STL_SLICE_MAP, 3 * k, 3, .rw, 4, .range 0 4⟩

/-- Eight of 64 consecutive shadow comparisons differ by more than 4 codes (R55). -/
def outOfLimit (diffs : List Int) : Bool :=
  decide (8 ≤ ((diffs.take 64).filter fun d => decide (4 < d.natAbs)).length)

/-- The codes of working slice k (4 × channel + slice) of forward strikes in conversion carry the suspect flag (R55); the working slices drive a transpose strike and convert none of its codes (R61). -/
def Stall.suspectCodes (st : Stall) (k : Nat) : Stall :=
  { st with inflight := st.inflight.map fun x =>
              if x.stage == .issued && !x.desc.trans then { x with suspect := (x.suspect ++ [k]).eraseDups } else x }

/-- A working slice is out of limit, and the codes that it has converted are suspect (R55). -/
def Stall.suspectSlice (st : Stall) (chan slice : Nat) : Stall :=
  { st.suspectCodes (4 * chan + slice) with offLimit := (st.offLimit ++ [4 * chan + slice]).eraseDups }

/-- The spare slice of a channel goes out of limit (R55, R56, R76): it is flagged; one that substitutes has left its codes suspect, and with AUTO_SPARE the channel has no spare left and the stall faults. -/
def State.spareBad (s : State) (sid chan : Nat) : State :=
  let s1 := (s.setReg STL_SLICE_HEALTH sid (BitVec.ofNat 64 (Nat.lor (s.getReg STL_SLICE_HEALTH sid).toNat (2 ^ (5 * chan + 4))))).flag STL_ERR.SLICE sid
  let j := bitsOf (s.stall sid).mapEff (3 * chan) 3
  let s2 := s1.modStall sid fun st => { st with offLimit := (st.offLimit ++ [32 + chan]).eraseDups }
  if j < 4 then
    let s3 := (s2.flag STL_ERR.SUSPECT sid).modStall sid fun st => st.suspectCodes (4 * chan + j)
    if s.on STL_CTL.AUTO_SPARE sid then (s3.flag STL_ERR.SPARE_EXHAUSTED sid).stallFault sid else s3
  else s2

/-- A slice is found in limit: its bit clears (R76), and its codes are good again (R55). -/
def State.sliceGood (s : State) (sid chan slice : Nat) : State :=
  let h := (s.getReg STL_SLICE_HEALTH sid).toNat
  let b := 5 * chan + slice
  let s1 := if bitAt h b then s.setReg STL_SLICE_HEALTH sid (BitVec.ofNat 64 (h - 2 ^ b)) else s
  s1.modStall sid fun st => { st with offLimit := st.offLimit.erase (if slice = 4 then 32 + chan else 4 * chan + slice) }

/-- A slice goes out of limit (R55, R56): it is flagged, its codes since the last good window are suspect, and with AUTO_SPARE the channel's spare replaces it from the next strike edge; with no spare free the stall faults. -/
def State.sliceBad (s : State) (sid chan slice : Nat) : State :=
  let h := (s.getReg STL_SLICE_HEALTH sid).toNat
  let s1 := s.setReg STL_SLICE_HEALTH sid (BitVec.ofNat 64 (Nat.lor h (2 ^ (5 * chan + slice))))
  let s2 := (s1.flag STL_ERR.SLICE sid).flag STL_ERR.SUSPECT sid
  let s3 := s2.modStall sid fun st => st.suspectSlice chan slice
  if s.on STL_CTL.AUTO_SPARE sid then
    if s.rd (subField chan) sid = 4 then (s3.wr (subField chan) sid slice).logRepair sid (.slice sid chan slice)
    else (s3.flag STL_ERR.SPARE_EXHAUSTED sid).stallFault sid
  else s3

/-- Shadow conversions of the slice run: SHADOW_EN, and the channel's spare, under the map in effect, takes its value in some slice period (R53). -/
def State.shadowed (s : State) (sid chan slice : Nat) : Bool :=
  s.on STL_CTL.SHADOW_EN sid && (List.range 64).any fun n => spareUse (s.stall sid).mapEff chan n == .shadow slice

/-- A slice's gain and offset trims within their fields of 10 and 6 bits (R52). -/
def sliceFields (t : Int × Int) : Int × Int := (max (-512) (min t.1 511), max (-32) (min t.2 31))

/-- Eweovin sets a slice's trims anew from its shadow conversions (R52, R53): the spec does not say to what, so the new target is a free value (log entry 81). -/
def State.retrimSlice (s : State) (sid chan slice : Nat) : State :=
  let (v, s1) := s.takeFree
  s1.modStall sid fun st => { st with sliceTo := FMap.set (0, 0) st.sliceTo (5 * chan + slice) (signedOf 10 (v % 1024), signedOf 6 (v / 1024 % 64)) }

/-- SLICE_SUBSTITUTION (R52, R53, R55, R56): a window of a slice's shadow comparisons puts it out of limit, or finds it in limit again and updates its trims. -/
def execSliceSubstitution (row stall chan slice : Nat) (diffs : List Int) (s : State) : Result :=
  if stallOk row stall && decide (chan < 8) && decide (slice < 4) && s.shadowed (stallId row stall) chan slice then
    .next (if outOfLimit diffs then s.sliceBad (stallId row stall) chan slice
      else (s.modStall (stallId row stall) fun st => { st with offLimit := st.offLimit.erase (4 * chan + slice) }).retrimSlice (stallId row stall) chan slice)
  else .next s

/-- STL_SLICE_MAP_WRITE (R75, R66): reads back at once; in effect from the next strike edge. -/
def execStlSliceMapWrite (who : Who) (row stall val : Nat) (s : State) : Result :=
  if !stallOk row stall then .next s
  else
    let sid := stallId row stall
    .next (s.stlAccess who sid 0x030 true fun s =>
      let s1 := s.writeReg STL_SLICE_MAP sid val
      s1.logSlices sid (s1.getReg STL_SLICE_MAP sid).toNat)

/-! ### Fresh planes (R63 to R65) -/

/-- The three conditions of R64 for plane p: it is READY, no queued fresh descriptor names the tag of a plane that computes, and the head of the queue's fresh part names p's tag. The swap comes at a strike edge of a stall whose clock runs, and after the edge of the old plane's last strike (R66). -/
def State.maySwap (s : State) (sid p : Nat) : Bool :=
  let fresh := (s.stall sid).queue.filter fun d => d.fresh
  decide (stRun ≤ s.stState sid) && (s.stall sid).freshEdge != (s.row (rowOf sid)).edge + 1
    && s.planeState sid p == 2
    && !(s.planeState sid (1 - p) == 3 && fresh.any fun d => d.ftag == s.planeTag sid (1 - p))
    && (match fresh.head? with
        | some d => d.ftag == s.planeTag sid p
        | none => false)

/-- The content of plane p, and the entry it holds. -/
def Stall.setRam (st : Stall) (p : Nat) (e : Option PlaneSrc) (r : PlaneRam) : Stall :=
  if p = 0 then { st with plane0 := e, ram0 := r } else { st with plane1 := e, ram1 := r }

/-- What the porter loads again of plane p when its SRAM is lost: the content tag that it carries or is to carry, its entry and its content (R25). -/
def State.planeLost (s : State) (sid p : Nat) : List (Nat × Option PlaneSrc × PlaneRam) :=
  let st := s.stall sid
  let tag := if s.planeState sid p = 1 then (if p = 0 then st.tag0 else st.tag1) else s.planeTag sid p
  if s.planeState sid p = 0 then [] else [if p = 0 then (tag, st.plane0, st.ram0) else (tag, st.plane1, st.ram1)]

/-- The staging banks and scale files are empty, and the fresh weight SRAM holds nothing (R40). -/
def Stall.cleared (st : Stall) : Stall :=
  { st with banks := [Bank.empty, Bank.empty, Bank.empty, Bank.empty], pair23 := false, plane0 := none, plane1 := none, ram0 := .empty, ram1 := .empty }

/-- A stall loses its staging buffer and both fresh planes; the porter loads the planes again before the next fresh strike (R25, R476), the computing one first. DEDUCED (log entry 70): each keeps the tag that queued and held descriptors name. -/
def State.loseSram (s : State) (sid : Nat) : State :=
  let c := s.rd STL_PLANE.COMP sid
  let lost := s.planeLost sid c ++ s.planeLost sid (1 - c)
  let s1 := s.modStall sid fun st => { st.cleared with reloads := lost ++ st.reloads }
  (s1.setPlane sid 0 0 (s1.planeTag sid 0)).setPlane sid 1 0 (s1.planeTag sid 1)

/-- The plane that computes becomes EMPTY. -/
def State.endPlane (s : State) (sid p : Nat) : State :=
  if s.planeState sid p = 3 then (s.setPlane sid p 0 (s.planeTag sid p)).modStall sid fun st => st.setRam p none .empty else s

/-- PLANE_SWAP (R64): the READY plane becomes COMPUTING and the old computing plane EMPTY. -/
def execPlaneSwap (row stall : Nat) (s : State) : Result :=
  let sid := stallId row stall
  if !stallOk row stall then .next s else
    match [0, 1].find? fun p => s.maySwap sid p with
    | some p => .next (((s.endPlane sid (1 - p)).setPlane sid p 3 (s.planeTag sid p)).wr STL_PLANE.COMP sid p)
    | none => .next s

/-! ### Read-and-clear counters (R46, R50) -/

/-- Read a register whose RC fields the read clears (R8), and answer the accessor. -/
def State.readClear (s : State) (who : Who) (r : Reg) (i : Nat) : State :=
  match r.info with
  | some info =>
    (s.clearSample r i info.afterRead).send (.readData (whoCode who) (info.readValue (s.sample r i)).toNat)
  | none => s

/-- STL_CLIP_CNT_READ (R50, R8): the count is returned and cleared in the same access. -/
def execStlClipCntRead (who : Who) (row stall : Nat) (s : State) : Result :=
  if stallOk row stall then
    .next (s.stlAccess who (stallId row stall) STL_CLIP_CNT.off false fun s => s.readClear who STL_CLIP_CNT (stallId row stall))
  else .next s

/-- STL_REFUSED_CNT_READ (R46, R8). -/
def execStlRefusedCntRead (who : Who) (row stall : Nat) (s : State) : Result :=
  if stallOk row stall then
    .next (s.stlAccess who (stallId row stall) STL_REFUSED_CNT.off false fun s => s.readClear who STL_REFUSED_CNT (stallId row stall))
  else .next s

end Sys2Proof.Machine
end

