-- ==== Sys2Proof/Machine/Inspect.lean ====
section
/-! DEFINITION. The inspector's queue (R375, R383), CPER records about a strike (R381), and the exact value of one strike from its narrow record and the ledger (R584). -/

namespace Sys2Proof.Machine

/-! ### CPER records about a strike -/

/-- The FLAGS of a record about a strike (R381). -/
def strikeFlags (x : Strike) (early paired : Bool) : Nat :=
  ofBool early + 2 * ofBool paired + 4 * ofBool x.desc.wide + 8 * ofBool x.desc.fresh + 16 * ofBool x.desc.trans + 32 * ofBool (!x.suspect.isEmpty)

/-- Results of a sequence have left early and their steps have neither RECEIPT nor RETRACT (R356, R378). -/
def State.earlySent (s : State) (q : Nat) : Bool := s.cart.early.any fun e => !e.done && e.seqs.contains q

/-- σ_e of a strike's check, in units of 0.001 % of full scale (R365, R366). -/
def State.sigmaOf (s : State) (sid : Nat) (d : Desc) : Nat :=
  if !d.stock then 750 else if d.trans then max 600 (s.group (groupId sid d.group)).sigmaT else s.sigmaE sid d.group d.range

/-- A record about a strike (R381). A probe belongs to no vector. -/
def State.strikeCper (s : State) (kind severity verdict sid : Nat) (x : Strike) (paired : Bool) : Cper :=
  let n := if x.kind == .probe then none else (s.stall sid).record x.desc.tag
  let f := n.bind fun n => n.feed (outOf x.desc)
  let seq := (n.map (·.seq)).getD 0xFFFF
  { Cper.none kind severity with
    verdict := verdict, flags := strikeFlags x (s.earlySent seq) paired, stall := some sid, group := if x.desc.stock then x.desc.group else 0xFF,
    chanmap := x.chanmap, range := if x.desc.stock then x.desc.range else x.desc.frange,
    slot := (f.map (·.slot)).getD 0xFF, func := s.seqFunc seq, strike := x.no, step := s.rd SRV_STEP_CNT.V, tag := x.desc.tag,
    red := (f.map s.feedRed).getD 0, seq := seq, sigma := s.sigmaOf sid x.desc, diffs := x.diffs }

/-! ### The queue (R375, R383) -/

/-- Jobs in the queue: neither running nor held at a tally engine. -/
def State.jobsQueued (s : State) : Nat := (s.jobs.filter fun j => !j.running && !j.held).length

/-- Queue a job. With 4,095 jobs queued, a class-0 job is held at its tally engine and its deadline has not begun (R383). -/
def State.queueJob (s : State) (cls : Nat) (kind : JobKind) (sid g tag red seq : Nat) : State :=
  let j : Job := { id := s.nextJob, cls := cls, kind := kind, stall := sid, group := g, tag := tag, red := red, seq := seq, queued := s.now,
                   held := decide (4095 ≤ s.jobsQueued), late := false, again := false, running := false }
  { s with jobs := s.jobs ++ [j], nextJob := s.nextJob + 1 }

/-- As places in the queue free, held jobs enter it and their deadlines begin (R383). -/
def State.admitJobs (s : State) : State :=
  if s.jobsQueued < 4095 then
    match s.jobs.find? fun j => j.held with
    | some j => { s with jobs := s.jobs.map fun x => if x.id = j.id then { x with held := false, queued := s.now } else x }
    | none => s
  else s

/-- Remove a job. -/
def State.dropJob (s : State) (id : Nat) : State := { s with jobs := s.jobs.filter fun j => j.id != id }

/-- A strike of a shuttered tile (R470): a class-1 job with INSPECT_SERVE = 1, else its sequence begins to wait (R471). -/
def State.shutStrike (s : State) (sid : Nat) (d : Desc) (red seq : Nat) : State :=
  if s.on BST_POLICY.INSPECT_SERVE then
    (s.queueJob 1 (.strike d) sid (outOf d) d.tag red seq).bump CAL_SHUT_JOB_CNT.V
  else s.modRow (rowOf sid) fun r =>
    { r with shutFor := r.shutFor ++ [(⟨sid, d, red, seq, s.now⟩ : ShutWait)] }

/-! ### Outlier sums (R95, R98) -/

/-- The FP32 sum over channels, in ascending order, of value × 2^(−k_max) × q (R95, R98); only channels in driven crates take part (log entry 15). -/
def outlierTerms (mask : Nat) (kmax : Int) (chans : List (Nat × Nat)) (q : Nat → Int) : Word32 :=
  (chans.filter fun ch => bitAt mask (ch.1 / 1024)).foldl (fun a ch =>
    F32.add a (F32.ofDy ((F32.toDy (BF16.toF32 ch.2)).mul ⟨q ch.1, -kmax⟩))) 0#32

/-- outlier_sum of a column (R98): D + Y in FP32, from the weights of the designated and of the dynamic channels. -/
def outlierSum (n : Narrow) (mask : Nat) (qD qY : Nat → Int) : Dy :=
  F32.toDy (F32.add (outlierTerms mask n.kmax n.desig qD) (outlierTerms mask n.kmax n.dyn qY))

/-- outlier_sum of output column c of a stall's strike fed by `f`: designated rows of a stock strike from the outlier SRAM, the other channels from the ledger (R94, R98). -/
def State.outlier (s : State) (sid : Nat) (n : Narrow) (f : Feed) (d : Desc) (c : Nat) : Dy :=
  outlierSum (n.part d) (if d.stock then d.mask else 1) (fun i => if d.stock then (s.stall sid).desigQ i (d.group * 1024 + c) else s.feedQ f i c) fun i => s.feedQ f i c

/-! ### Exact values (R584) -/

/-- The exact values of one strike in drive units, from the narrow record and the ledger: 1,024 columns, or 8,192 rows of a transpose strike. -/
def State.exactStrike (s : State) (n : Narrow) (f : Feed) (d : Desc) : List Dy :=
  if d.trans then (List.range 8192).map fun i => driveSum 0xFF n.scales n.codes fun j a => a * s.feedQ f i j
  else
    let mask := if d.stock then d.mask else 1
    let n := n.part d
    (List.range 1024).map fun c => (driveSum mask n.scales n.codes fun i a => a * s.feedQ f i c).add
      (outlierSum n mask (fun i => s.feedQ f i c) fun i => s.feedQ f i c)

end Sys2Proof.Machine
end

