-- ==== Sys2Proof/Machine/Accum.lean ====
section
/-! DEFINITION. Accumulation and reduction (chapter 5): partials, runs, promotion with stochastic rounding, the canonical tree, the handover of an instance to the inspector, and draining. -/

namespace Sys2Proof.Machine

/-! ### Promotion (R144 to R147, R154) -/

/-- What accumulation counts: runs promoted, oversize partials, infinities and NaNs created. -/
structure AccCnt where
  runs : Nat
  large : Nat
  inf  : Nat
  nan  : Nat
deriving DecidableEq, Repr

/-- Nothing counted. -/
def AccCnt.zero : AccCnt := ⟨0, 0, 0, 0⟩
/-- Counts added. -/
def AccCnt.add (a b : AccCnt) : AccCnt := ⟨a.runs + b.runs, a.large + b.large, a.inf + b.inf, a.nan + b.nan⟩

/-- r16 of R147. -/
def r16 (red col run seed : Nat) : Nat := mix64 (Nat.lor (Nat.lor (red * 2 ^ 32) (col * 2 ^ 16)) run) seed / 2 ^ 48

/-- A magnitude of 2^128 or more. -/
def tooBig (x : Dy) : Bool := (⟨1, 128⟩ : Dy).le x.abs

/-- Round an exact sum to FP32 at promotion (R146): `r` is r16 with stochastic rounding, none for nearest, ties to even. -/
def roundSum (r : Option Nat) (x : Dy) : Word32 :=
  match r with
  | none => F32.ofDy x
  | some r =>
    if x.m = 0 then 0#32
    else if tooBig x then (if x.m < 0 then F32.neg F32.inf else F32.inf) else
      let q := max (x.ilog2 - 23) (-149)
      let y : Dy := x.mul ⟨1, -q⟩
      let lo := y.floor
      let t := ((y.sub (Dy.ofInt lo)).mul ⟨1, 16⟩).floor
      let n : Dy := ⟨if Int.ofNat r < t then lo + 1 else lo, q⟩
      if tooBig n then (if x.m < 0 then F32.neg F32.inf else F32.inf) else F32.ofDy n

/-- Promote an exact value into a wide accumulator (R146, R154): the new accumulator, and what was created. -/
def promote (r : Option Nat) (A : Word32) (v : Dy) : Word32 × AccCnt :=
  if F32.finite A then
    let y := roundSum r ((F32.toDy A).add v)
    (y, if F32.finite y then AccCnt.zero else { AccCnt.zero with inf := 1 })
  else (A, AccCnt.zero)

/-- Promote an FP32 value: infinities and NaNs spread by IEEE 754, and infinities of opposite sign make a NaN (R154). -/
def promoteF32 (r : Option Nat) (A y : Word32) : Word32 × AccCnt :=
  if F32.isNan A || F32.isNan y then (F32.nan, AccCnt.zero)
  else if F32.isInf y then
    if F32.isInf A && F32.sign A != F32.sign y then (F32.nan, { AccCnt.zero with nan := 1 }) else (y, AccCnt.zero)
  else promote r A (F32.toDy y)

/-- What promotion needs to know of one column: reduction identity, column, eighth, seed, SR_EN. -/
structure Site where
  red  : Nat
  col  : Nat
  eighth : Nat
  seed : Nat
  sr   : Bool
deriving DecidableEq, Repr

/-- The rounding value of the next run or lone promotion of a column (R145, R147). -/
def Site.round (x : Site) (no : Nat) : Option Nat := if x.sr then some (r16 x.red x.col (4096 * x.eighth + no) x.seed) else none

/-- Close the open run: its value w_c × Σp × 2^(k_max + E), promoted exactly (R146). -/
def Col.close (x : Site) (c : Col) : Col × AccCnt :=
  match c.run with
  | none => (c, AccCnt.zero)
  | some (w, sc, sum, _) =>
    let v := (F32.toDy (BF16.toF32 w)).mul ⟨sum, sc⟩
    let (a, n) := promote (x.round c.no) c.acc v
    (⟨a, none, c.no + 1⟩, n.add { AccCnt.zero with runs := 1 })

/-- Promote a value on its own, after closing the open run (R142, R143). -/
def Col.lone (x : Site) (c : Col) (y : Word32) : Col × AccCnt :=
  let (c1, n1) := c.close x
  let (a, n2) := promoteF32 (x.round c1.no) c1.acc y
  (⟨a, none, c1.no + 1⟩, n1.add n2)

/-- w_c × 2^(k_max) × x in FP32 (R113). -/
def scaled (w : Nat) (kmax : Int) (x : Dy) : Word32 := F32.ofDy (((F32.toDy (BF16.toF32 w)).mul x).mul ⟨1, kmax⟩)

/-- The product of R113 promoted on its own; a product that overflows FP32 creates an infinity (R154). -/
def Col.loneX (x : Site) (c : Col) (w : Nat) (kmax : Int) (v : Dy) : Col × AccCnt :=
  let y := scaled w kmax v
  let (c1, n) := c.lone x y
  (c1, if F32.finite y then n else n.add { AccCnt.zero with inf := 1 })

/-- One analogue partial (R141, R142, R144). -/
def Col.partial' (x : Site) (c : Col) (w : Nat) (kmax e : Int) (v : Dy) : Col × AccCnt :=
  let p := (v.mul ⟨1, -e⟩).rne
  if 2 ^ 17 - 1 < p.natAbs then
    let (c1, n) := c.loneX x w kmax v
    (c1, n.add { AccCnt.zero with large := 1 })
  else
    match c.run with
    | some (w', sc, sum, k) =>
      if w' = w ∧ sc = kmax + e ∧ k < 64 then ({ c with run := some (w, sc, sum + p, k + 1) }, AccCnt.zero)
      else
        let (c1, n) := c.close x
        ({ c1 with run := some (w, kmax + e, p, 1) }, n)
    | none => ({ c with run := some (w, kmax + e, p, 1) }, AccCnt.zero)

/-! ### Instances (R583, R144, R150) -/

/-- The eighths that a row forms on this device (R206). -/
def localEighths (r : RedRec) (row : Nat) : List Nat :=
  (List.range 8).filter fun e => r.partRow.getD e 0 == row && r.partDev.getD e 0 == 0xFF

/-- The eighths that this device forms (R206). -/
def deviceEighths (r : RedRec) : List Nat := (List.range 8).filter fun e => r.partDev.getD e 0 == 0xFF

/-- The eighths that an instance forms at a row: the row's own, or, once it has been handed to the inspector, all that the device forms (R206, R584). -/
def Inst.forms (i : Inst) (r : RedRec) (row : Nat) : List Nat := if i.whole then deviceEighths r else localEighths r row

/-- The accumulator list that a position of an eighth feeds: its own eighth in canonical mode, the row's one accumulator in free mode. -/
def Inst.home (i : Inst) (r : RedRec) (row e : Nat) : Nat := if i.canon then e else (i.forms r row).headD 0

/-- The positions whose partials enter accumulator list e at a row. -/
def Inst.feeding (i : Inst) (r : RedRec) (row e : Nat) : List Contrib :=
  r.contribs.filter fun c => (i.forms r row).contains c.eighth && i.home r row c.eighth == e

/-- The columns of accumulator list e. -/
def Inst.cols (i : Inst) (e : Nat) : List Col := i.eighths.getD e []

/-- Replace the columns of list e. -/
def Inst.setCols (i : Inst) (e : Nat) (cs : List Col) : Inst := { i with eighths := (padTo 8 [] i.eighths).set e cs }

/-- The weight scale of a column: 1 for a transpose reduction (R319). -/
def State.weightOf (s : State) (i : Inst) (coltab c : Nat) : Nat :=
  if 0x80000000 ≤ i.red then 0x3F80 else
    match s.genOf i.slot i.gen with
    | some g => g.scale coltab c
    | none => 0

/-- What promotion into column c of accumulator list e needs; the run index counts from 0 in free mode, where it is the arrival ordinal (R145, chapter 5). -/
def Inst.site (i : Inst) (sr : Bool) (e c : Nat) : Site := ⟨i.red, c, if i.canon then e else 0, i.seed, sr⟩

/-- The element that column c takes of n that belong to the columns `dest`. -/
def elementOf (dest : List Nat) (n c : Nat) : Option Nat :=
  if dest.isEmpty then (if c < n then some c else none) else dest.findIdx? fun x => x == c

/-- Apply one part to accumulator list e: each element to its column. -/
def State.stepPart (s : State) (sr : Bool) (i : Inst) (e : Nat) (dest : List Nat) (p : PVec) : Inst × AccCnt :=
  let site (c : Nat) : Site := i.site sr e c
  let run (n : Nat) (f : Nat → Nat → Col → Col × AccCnt) : Inst × AccCnt :=
    let cs := padTo (dest.foldl (fun m c => max m (c + 1)) (max (if dest.isEmpty then n else 0) (i.cols e).length)) Col.init (i.cols e)
    let out := (cs.zipIdx).map fun (c, j) => match elementOf dest n j with
      | some k => f j k c
      | none => (c, AccCnt.zero)
    (i.setCols e (out.map (·.1)), (out.map (·.2)).foldl AccCnt.add AccCnt.zero)
  match p with
  | .analog ct kmax ex xs => run xs.length fun j k c => c.partial' (site j) (s.weightOf i ct j) kmax ex (xs.getD k Dy.zero)
  | .lone ct kmax xs => run xs.length fun j k c => c.loneX (site j) (s.weightOf i ct j) kmax (xs.getD k Dy.zero)
  | .digital vs => run vs.length fun j k c => c.lone (site j) (vs.getD k 0#32)

/-- Apply the parts of a release. -/
def State.stepRelease (s : State) (sr : Bool) (e : Nat) (dest : List Nat) : Inst → List PVec → Inst × AccCnt
  | i, [] => (i, AccCnt.zero)
  | i, p :: ps =>
    let (i1, n1) := s.stepPart sr i e dest p
    let (i2, n2) := s.stepRelease sr e dest i1 ps
    (i2, n1.add n2)

/-- Close the runs of accumulator list e when its last position has been taken (R144). -/
def Inst.finish (i : Inst) (sr : Bool) (r : RedRec) (row e : Nat) : Inst × AccCnt :=
  if (i.feeding r row e).all fun c => i.taken.contains (c.eighth, c.ordinal) then
    let out := ((i.cols e).zipIdx).map fun (c, k) => c.close (i.site sr e k)
    (i.setCols e (out.map (·.1)), (out.map (·.2)).foldl AccCnt.add AccCnt.zero)
  else (i, AccCnt.zero)

/-- The next release that may be taken: in canonical mode one with no lower ordinal of its eighth missing (R150). -/
def Inst.ready (i : Inst) (r : RedRec) : Option Release :=
  i.waiting.find? fun w => !i.canon || (redBelow r w.eighth w.ordinal).all fun p => i.taken.contains p

/-- Take releases as far as they go; answers how many reorder entries were freed. -/
def State.takeAll (s : State) (sr : Bool) (r : RedRec) (row : Nat) : Nat → Inst → Inst × AccCnt × Nat
  | 0, i => (i, AccCnt.zero, 0)
  | n + 1, i =>
    match i.ready r with
    | none => (i, AccCnt.zero, 0)
    | some w =>
      let e := i.home r row w.eighth
      let (i1, c1) := s.stepRelease sr e w.cols i w.parts
      let i2 := { i1 with taken := i1.taken ++ [(w.eighth, w.ordinal)], waiting := i1.waiting.erase w }
      let (i3, c2) := i2.finish sr r row e
      let (i4, c3, k) := s.takeAll sr r row n i3
      (i4, (c1.add c2).add c3, k + ofBool w.entry)

/-- Count what accumulation created (R142, R144, R154). -/
def State.countAcc (s : State) (row stall : Nat) (n : AccCnt) : State :=
  let s1 := (s.bump TAL_ACC_RUN_CNT.V row n.runs).bump TAL_ACC_OVERSIZE_CNT.V row n.large
  let s2 := (s1.bump TAL_ACC_INF_CNT.V row n.inf).bump TAL_ACC_NAN_CNT.V row n.nan
  let s3 := if n.inf = 0 then s2 else s2.accFlag TAL_ACC_ERR.INF row stall
  if n.nan = 0 then s3 else s3.accFlag TAL_ACC_ERR.NAN row stall

/-- Replace the open instance of the same reduction and vector. -/
def State.setInst (s : State) (row : Nat) (i : Inst) : State :=
  s.modRow row fun x => { x with insts := x.insts.filter (fun y => !(y.red == i.red && y.tag == i.tag)) ++ [i] }

/-- The instance that contributions to a reduction of one vector go to, opened when there is none (R148, R165, R583). -/
def State.openInst (s : State) (row red slot gen tag seq : Nat) (g : Gen) : Inst :=
  match s.instOf row red tag with
  | some i => i
  | none =>
    { red := red, tag := tag, slot := slot, gen := gen,
      canon := if s.on TAL_ACC_CTL.OVR row then s.rd TAL_ACC_CTL.MODE row == 0 else g.man.canon,
      seed := Nat.xor g.man.seed (s.row row).seed, eighths := [], taken := [], waiting := [], remote := [], handed := false, whole := false,
      digitals := [], pieces := [], seq := seq, seen := [] }

/-- The rows that hold an instance of a reduction and vector, with what each holds (R583). -/
def State.instsOf (s : State) (red tag : Nat) : List (Nat × Inst) :=
  s.rows.flatMap fun e => (e.2.insts.filter fun i => i.red == red && i.tag == tag).map fun i => (e.1, i)

/-- The row that forms an instance as a whole, after a handover; else the row given. -/
def State.seat (s : State) (row red tag : Nat) : Nat :=
  (((s.instsOf red tag).find? fun p => p.2.whole).map (·.1)).getD row

/-- A received part of eighth e comes from another device: no handover here takes it back. -/
def Inst.foreign (i : Inst) (r : RedRec) (e : Nat) : Bool := r.partDev.getD e 0 != 0xFF && i.remote.contains e

/-- What the rows of the device hold of one instance, merged for the inspector (R157, R584): the analogue partials are discarded; the digital ones, the narrow records and the parts of other devices are kept. -/
def Inst.merge (i : Inst) (r : RedRec) (tree : Inst) (all : List Inst) : Inst :=
  { i with handed := true, whole := true, waiting := [], taken := [],
           eighths := (List.range 8).map fun e => if tree.foreign r e then tree.cols e else [],
           remote := (List.range 8).filter fun e => tree.foreign r e,
           seen := all.flatMap (·.seen), digitals := all.flatMap (·.digitals), pieces := all.flatMap (·.pieces) }

/-- Hand an instance to the inspector as a whole (R157): its analogue partials at every row of the device are discarded, its digital ones kept. It is formed afresh at the row that forms the tree, or, for a tree on another device, at the row of the handover. -/
def State.handInst (s : State) (row sid : Nat) (i : Inst) : State :=
  if i.handed then s else
    let all : List (Nat × Inst) := (s.instsOf i.red i.tag).filter (fun p => p.1 != row) ++ [(row, i)]
    let s1 := all.foldl (fun s p => (s.closeInst p.1 i.red i.tag).freeEntries p.1 (p.2.waiting.filter fun w => w.entry).length) s
    let s2 := match (s.genOf i.slot i.gen).bind fun g => g.red i.red with
      | some r =>
        let at' := if r.outDev = 0xFF then r.outRow else row
        let tree : Inst := ((all.find? fun (p : Nat × Inst) => p.1 == at').map Prod.snd).getD i
        s1.setInst at' (i.merge r tree (all.map Prod.snd))
      | none => s1.setInst row { i with handed := true, eighths := [], waiting := [], taken := [] }
    (s2.queueJob 0 .whole sid 0 i.tag i.red i.seq).cper
      { Cper.none 14 3 with stall := some sid, slot := i.slot, func := s.seqFunc i.seq, step := s.rd SRV_STEP_CNT.V, tag := i.tag,
                            red := i.red, seq := i.seq }

/-- A release of position (eighth, ordinal) of an instance enters accumulation (R144, R150, R157). -/
def State.release (s : State) (row sid : Nat) (i : Inst) (r : RedRec) (w : Release) : State :=
  let named := r.contribs.any fun c => c.eighth == w.eighth && c.ordinal == w.ordinal
  let filled := i.taken.contains (w.eighth, w.ordinal) || i.waiting.any fun x => x.eighth == w.eighth && x.ordinal == w.ordinal
  let digital := w.parts.all fun p => match p with
    | .digital _ => true
    | _ => false
  let i0 := if digital then { i with digitals := i.digitals ++ [w] } else i
  if i.handed then (s.setInst row i0).freeEntries row (ofBool w.entry)
  else if !named || filled then
    ((s.accFlag TAL_ACC_ERR.PLAN row (posOf sid)).freeEntries row (ofBool w.entry)).handInst row sid i
  else
    let (i1, n, k) := s.takeAll (s.on TAL_ACC_CTL.SR_EN row) r row (i0.waiting.length + 1) { i0 with waiting := i0.waiting ++ [w] }
    ((s.setInst row i1).countAcc row (posOf sid) n).freeEntries row k

/-- The released values of a strike of vector `n` at stall sid, fed by `f`, enter accumulation at the feed's position, unless they are discarded; then the vector's record gives up that strike (R114). -/
def State.deliver (s : State) (sid : Nat) (n : Narrow) (f : Feed) (parts : List PVec) (entry : Bool) : State :=
  let own := rowOf sid
  let row := s.seat own (s.feedRed f) n.tag
  let s1 := if n.void.contains f.group then s.freeEntries own (ofBool entry) else match s.genOf f.slot f.gen with
    | none => s.freeEntries own (ofBool entry)
    | some g =>
      match g.red (s.feedRed f), s.feedPos f with
      | some r, some (e, o) =>
        let i := s.openInst row (s.feedRed f) f.slot f.gen n.tag n.seq g
        let j := { i with seen := i.seen ++ [(e, o, n, f, sid)] }
        if row = own then s.release row sid j r ⟨e, o, parts, entry, s.feedCols sid f⟩
        else (s.freeEntries own (ofBool entry)).release row sid j r ⟨e, o, parts, false, s.feedCols sid f⟩
      | some _, none =>
        ((s.accFlag TAL_ACC_ERR.PLAN own (posOf sid)).freeEntries own (ofBool entry)).handInst row sid (s.openInst row (s.feedRed f) f.slot f.gen n.tag n.seq g)
      | none, _ => (s.accFlag TAL_ACC_ERR.PLAN own (posOf sid)).freeEntries own (ofBool entry)
  s1.modStall sid fun st => st.giveUp n.tag f.group

/-- The exact values of one strike enter at its position as a lone promotion (R584). -/
def State.deliverExact (s : State) (sid : Nat) (n : Narrow) (f : Feed) (d : Desc) (entry : Bool) : State :=
  s.deliver sid n f [.lone (s.feedCol f) n.kmax (s.exactStrike n f d)] entry

/-- The results of a fresh attention strike stay with their row, for the probabilities or the merge of its block (R256, R258). -/
def State.putAttn (s : State) (row : Nat) (r : AttnRes) : State :=
  s.modRow row fun w => { w with attn := (w.attn.filter fun y => !(y.stall == r.stall && y.tag == r.tag)) ++ [r] }

/-! ### Completing a handed instance (R584) -/

/-- The narrow record, feed and stall that position (e, o) of an instance was, or is to be, struck from. -/
def State.sourceOf (s : State) (i : Inst) (c : Contrib) : Option (Narrow × Feed × Nat) :=
  match i.seen.find? fun x => x.1 == c.eighth && x.2.1 == c.ordinal with
  | some (_, _, x) => some x
  | none => s.stalls.findSome? fun e =>
      match e.2.record i.tag with
      | some n => (n.feeds.find? fun f => f.src == c.source && f.trans == decide (0x80000000 ≤ i.red)).map fun f => (n, f, e.1)
      | none => none

/-- The descriptor of the whole strike that a feed asks for: its stocked tile's MASK, or the fresh plane. -/
def State.feedDesc (s : State) (f : Feed) (trans : Bool) : Desc :=
  let mask := match s.tileOf f with
    | some (_, p) => p.mask
    | none => 0xFF
  { group := f.group % 4, stock := decide (f.group < 4), fresh := decide (4 ≤ f.group), wide := false, trans := trans, replay := false,
    mask := mask, range := 0, frange := 0, slot := 0, fslot := 0, ftag := 0, tag := 0, rsvd := 0, part := f.group - 4 }

/-- The release that fills a position of a handed instance: the digital partial as formed, an adapter's or the NaN of a non-finite vector (R112, R143), or the exact value. -/
def State.exactRelease (s : State) (i : Inst) (c : Contrib) : Option Release :=
  match i.digitals.find? fun w => w.eighth == c.eighth && w.ordinal == c.ordinal with
  | some w => some w
  | none => if c.source = digitalSource then none else match s.sourceOf i c with
    | some (n, f, sid) => some ⟨c.eighth, c.ordinal, [.lone (s.feedCol f) n.kmax (s.exactStrike n f (s.feedDesc f n.trans))], false, s.feedCols sid f⟩
    | none => none

/-- Form a handed instance afresh from +0 once every position's value is to hand; `none` while one is missing. What its strikes still bring is discarded (R157). -/
def State.reform (s : State) (row sid : Nat) (i : Inst) : Option State :=
  match (s.genOf i.slot i.gen).bind fun g => g.red i.red with
  | none => some s
  | some r =>
    let mine := r.contribs.filter fun c => (i.forms r row).contains c.eighth
    let ws := mine.filterMap (s.exactRelease i)
    if ws.length = mine.length then
      let fresh := { i with handed := false, eighths := i.eighths, taken := [], waiting := ws }
      let (i1, n, _) := s.takeAll (s.on TAL_ACC_CTL.SR_EN row) r row (ws.length + 1) fresh
      some (((s.setInst row i1).countAcc row (posOf sid) n).voidInst i.red i.tag)
    else none

/-! ### Output (R149, R151, R154, R155) -/

/-- One addition of the tree, with what it creates. -/
def treeAdd (x y : Word32 × AccCnt) : Word32 × AccCnt :=
  let z := F32.add x.1 y.1
  let n := x.2.add y.2
  (z, if F32.finite x.1 && F32.finite y.1 && !F32.finite z then n.add { AccCnt.zero with inf := 1 }
      else if F32.isNan z && !F32.isNan x.1 && !F32.isNan y.1 then n.add { AccCnt.zero with nan := 1 } else n)

/-- The subtree of 2ⁿ values from the f-th (R149, R151). -/
def spanTree (e : Nat → Word32) : Nat → Nat → Word32 × AccCnt
  | 0, f => (e f, AccCnt.zero)
  | n + 1, f => treeAdd (spanTree e n f) (spanTree e n (f + 2 ^ n))

/-- The canonical tree of eight values (R149). -/
def tree (e : Nat → Word32) : Word32 × AccCnt := spanTree e 3 0

/-- The eighths, pairs, halves and wholes, aligned to the tree, that make up a set of eighths, as (first, log₂ of their number) (R151, R152). -/
def spansOf (ls : List Nat) : Nat → Nat → List (Nat × Nat)
  | 0, f => if ls.contains f then [(f, 0)] else []
  | n + 1, f => if (List.range (2 ^ (n + 1))).all fun i => ls.contains (f + i) then [(f, n + 1)] else spansOf ls n f ++ spansOf ls n (f + 2 ^ n)

/-- A NaN leaves as the quiet NaN 0x7FC0_0000 (R155). -/
def canonNan (x : Word32) : Word32 := if F32.isNan x then F32.nan else x

/-- Every local position of an instance has been taken. -/
def Inst.localDone (i : Inst) (r : RedRec) (row : Nat) : Bool :=
  !i.handed && r.contribs.all fun c =>
    i.taken.contains (c.eighth, c.ordinal) || !(i.forms r row).contains c.eighth

/-- Every eighth formed elsewhere that has contributions has arrived. -/
def Inst.remoteDone (i : Inst) (r : RedRec) (row : Nat) : Bool :=
  r.contribs.all fun c => i.remote.contains c.eighth || (i.forms r row).contains c.eighth

/-- The part that a span of eighths forms: the subtree over their accumulators, in FP32, narrowed to BF16 for a transfer whose XFER is 1 (R151, R206). -/
def Inst.spanPart (i : Inst) (xfer : Nat) (sp : Nat × Nat) : List (Word32 × AccCnt) :=
  let n := ((List.range 8).map fun e => (i.cols e).length).foldl max 0
  (List.range n).map fun c =>
    let v := spanTree (fun e => ((i.cols e).getD c Col.init).acc) sp.2 sp.1
    (if xfer = 1 then BF16.toF32 (BF16.ofF32 v.1) else v.1, v.2)

/-- A part received from another row or device joins an instance (R151): its first eighth takes the part, the others of its span −0, which leaves every sum as it is. -/
def State.joinPart (s : State) (row red slot gen tag seq : Nat) (g : Gen) (sp : Nat × Nat) (vals : List Word32) : State :=
  let i := s.openInst row red slot gen tag seq g
  let zeros : List Word32 := vals.map fun _ => 0x80000000#32
  s.setInst row ((List.range (2 ^ sp.2)).foldl (fun i k =>
    let e := sp.1 + k
    { i.setCols e ((if k = 0 then vals else zeros).map fun a => ⟨a, none, 0⟩) with remote := if i.remote.contains e then i.remote else i.remote ++ [e] }) i)

/-- The narrow records and digital partials of the parts that a row has sent stay with the instance, for a handover (R584). -/
def State.keepSeen (s : State) (row : Nat) (i : Inst) : State :=
  match s.instOf row i.red i.tag with
  | some j => s.setInst row { j with seen := j.seen ++ i.seen, digitals := j.digitals ++ i.digitals }
  | none => s

/-- REDUCTION_OUTPUT (R149, R151): at the row that forms the tree, with all eighths complete, the output leaves the row; a row that forms parts for another sends them in FP32. DESIGN CHOICE (log entry 98): a flag of the tree or of an output, which no one stall raises, leaves TAL_ACC_ERR.STALL as it stands. -/
def execReductionOutput (row red tag : Nat) (s : State) : Result :=
  match s.instOf row red tag with
  | none => .next s
  | some i =>
    match s.genOf i.slot i.gen with
    | none => .next s
    | some g =>
      match g.red red with
      | none => .next s
      | some r =>
        if !i.localDone r row then .next s
        else if r.outDev = 0xFF && r.outRow = row then
          if i.remoteDone r row then
            let n := ((List.range 8).map fun e => (i.cols e).length).foldl max 0
            let cols := (List.range n).map fun c => tree fun e => ((i.cols e).getD c Col.init).acc
            let vals := cols.map fun c => canonNan c.1
            let bad := (vals.filter fun v => !F32.finite v).length
            let s1 := (s.countAcc row (s.rd TAL_ACC_ERR.STALL row) ((cols.map (·.2)).foldl AccCnt.add AccCnt.zero)).bump TAL_ACC_NONFIN_OUT_CNT.V row bad
            let s2 := if bad = 0 then s1 else s1.accFlag TAL_ACC_ERR.NONFIN_OUT row (s1.rd TAL_ACC_ERR.STALL row)
            .next ((s2.send (.vector row red tag vals)).closeInst row red tag)
          else .next s
        else
          let parts := (spansOf (i.forms r row) 3 0).map fun sp => (sp, i.spanPart r.xfer sp)
          let cnt := ((parts.map fun p => p.2.map (·.2)).flatten).foldl AccCnt.add AccCnt.zero
          let s1 := (s.countAcc row (s.rd TAL_ACC_ERR.STALL row) cnt).closeInst row red tag
          if r.outDev = 0xFF then
            .next ((parts.foldl (fun s p => s.joinPart r.outRow red i.slot i.gen tag i.seq g p.1 (p.2.map (·.1))) s1).keepSeen r.outRow i)
          else .next (parts.foldl (fun s p => s.queueCart ⟨⟨3, 0, s.devNo, r.outDev, 0, s.rd SRV_STEP_CNT.V, red + 2 ^ 32 * p.1.1 + 2 ^ 35 * p.1.2, tag % 2 ^ 32,
                                 (p.2.map fun v => leBytes 4 v.1.toNat).flatten⟩, 0, i.seq, [], false⟩) s1)

/-! ### Refusal markers (R46, R157) -/

/-- The strike of a refused descriptor for group g is given up, with the discarded strike that it was to replay; values that another part of it brings are discarded. -/
def State.dropRefused (s : State) (sid tag g : Nat) : State :=
  let xs := (s.stall sid).inflight.filter fun x => x.stage == .replaying && x.desc.tag == tag && strikesOut x.desc g
  (xs.foldl (fun s x => s.discardStrike sid x) (s.modStall sid fun st => st.markVoid tag fun f => f.group == g)).giveUp sid tag g

/-- The instance of a strike that will not be made goes to the inspector, which takes the vector's narrow record with it (R157, R584); a fresh attention strike has none, and its weigh house reads the block (R259, R584). After a refusal marker REFUSED is set and counted. -/
def State.handPart (s : State) (sid tag g : Nat) (marker : Bool) : State :=
  match ((s.stall sid).record tag).bind fun n => (n.feed g).map fun f => (n, f) with
  | some (n, f) =>
    match s.genOf f.slot f.gen with
    | some gen =>
      let row := s.seat (rowOf sid) (s.feedRed f) tag
      let s1 := if marker then (s.bump TAL_ACC_REFUSED_CNT.V (rowOf sid)).accFlag TAL_ACC_ERR.REFUSED (rowOf sid) (posOf sid) else s
      let i := s1.openInst row (s1.feedRed f) f.slot f.gen tag n.seq gen
      let i1 := match s1.feedPos f with
        | some (e, o) => { i with seen := i.seen ++ [(e, o, n, f, sid)] }
        | none => i
      (if f.attn then s1 else if i.handed then s1.setInst row i1 else s1.handInst row sid i1).dropRefused sid tag g
    | none => s.dropRefused sid tag g
  | none => s.dropRefused sid tag g

/-- The strikes that a stall reset loses: those of its queue and of its hold sets. Their instances go to the inspector, without REFUSED (R531). -/
def State.loseStrikes (s : State) (sid : Nat) : State :=
  let st := s.stall sid
  let lost := st.inflight.filter fun x => x.stage == .issued || x.stage == .replaying
  let work := st.queue ++ st.held.filter (fun d => d.replay) ++ (lost.filter fun x => x.kind == .work).map (·.desc)
  let parts := (work.flatMap fun d => (if d.stock then [(d.tag, d.group)] else []) ++ (if d.fresh then [(d.tag, 4 + d.part)] else [])).eraseDups
  let s1 := parts.foldl (fun s k => s.handPart sid k.1 k.2 false) (s.setStall sid { st with queue := [], held := st.held.filter fun d => !d.replay })
  lost.foldl (fun s x => if x.kind == .work then s.discardStrike sid x else s.dropStrike sid x) s1

/-- REFUSAL_MARKER (R157): the marker's instance goes to the inspector as a whole; TAL_ACC_ERR.REFUSED and its counter. -/
def execRefusalMarker (row stall : Nat) (s : State) : Result :=
  if !stallOk row stall then .next s else
    let sid := stallId row stall
    match (s.stall sid).markers with
    | [] => .next s
    | d :: ds =>
      let s1 := s.modStall sid fun st => { st with markers := ds }
      let s2 := if d.stock then s1.handPart sid d.tag d.group true else s1
      .next (if d.fresh then s2.handPart sid d.tag (4 + d.part) true else s2)

/-! ### Draining (R162, R168) -/

/-- The unit under test is shuttered (R475), once no calibration run is in its slots (R480): its stalls drain. -/
def State.testShut (s : State) : State :=
  match s.cal.testing with
  | some t =>
    if s.rd BST_STAT.STATE = 1 ∧ t.stalls.all (fun sid => !s.calActive sid && !(s.stall sid).drains.contains .bst) then
      (t.stalls.foldl (fun s sid => (s.wakeStall sid).drainReq sid .bst) s).testDrained
    else s
  | none => s

/-- A strike of the stall belongs to an instance whose exact values have not yet filled its positions (R162, R584). -/
def State.exactOpen (s : State) (sid : Nat) : Bool :=
  s.rows.any fun e => e.2.insts.any fun i => i.handed && i.seen.any fun x => x.2.2.2.2 == sid

/-- Nothing of the stall is left ahead of the DRAIN marker (R162 steps 1 and 2). -/
def State.drainDue (s : State) (sid : Nat) : Bool :=
  let st := s.stall sid
  !st.drains.isEmpty && !st.drained && st.queue.isEmpty && st.markers.isEmpty && st.passes.isEmpty
    && st.inflight.all (fun x => x.stage == .released) && st.held.all (fun d => !d.replay)
    && s.jobs.all (fun j => j.stall != sid || j.cls != 0) && !s.exactOpen sid

/-- The drain of a stall completes (R162 step 3); one for a test leaves it SHUTTERED (R475); and releases that came early take effect. -/
def State.drainDone (s : State) (sid : Nat) : State :=
  let s1 := ((s.setBusy sid false).bump TAL_ACC_DRAIN_CNT.V (rowOf sid)).raise (rowOf sid)
  let early := (s1.stall sid).early
  let s2 := s1.modStall sid fun st => { st with drained := true, early := [] }
  let s3 := if (s.stall sid).drains.contains .bst then (s2.setStState sid stShuttered).testDrained else s2
  early.foldl (fun s who => s.drainRel sid who) s3

/-- The stalls a TAL_DRAIN_CMD target names. -/
def drainTargets (row target : Nat) : List Nat :=
  if target = 63 then (List.range 33).map (stallId row) else if target < 33 then [stallId row target] else []

/-- A tally engine register is written by the clerks alone (R93); a sleeping row wakes for it, and in a reset it is dropped (R577). -/
def State.talWrite (s : State) (who : Who) (row off : Nat) (f : State → State) : State :=
  if row < 192 ∧ s.memOpen who then
    let at' := 0x1100000 + 0x4000 * row + off
    (if whoClerk who then (if s.boot.inReset.contains (12288 + row) then s.accessed who at' else f ((s.accessed who at').wakeRow row))
     else (s.accessed who at').accessError who 0 at' true)
  else s

/-- DRAIN_REQUEST (R168): TAL_DRAIN_CMD with RELEASE = 0. -/
def execDrainRequest (who : Who) (row target : Nat) (s : State) : Result :=
  .next (s.talWrite who row 0x420 fun s => (drainTargets row target).foldl (fun s sid => s.drainReq sid .cmd) s)

/-- DRAIN_RELEASE (R168): TAL_DRAIN_CMD with RELEASE = 1. -/
def execDrainRelease (who : Who) (row target : Nat) (s : State) : Result :=
  .next (s.talWrite who row 0x420 fun s => (drainTargets row target).foldl (fun s sid => s.drainRel sid .cmd) s)

end Sys2Proof.Machine
end

