-- ==== Sys2Proof/Machine/AdapterPart.lean ====
section
/-! DEFINITION. Digital partials of adapters (R143, R315, R316): at a contribution with SOURCE 0xFFFF_FFFE the row that forms its eighth enters α × B × A × x, or +0 for a sequence with no adapter. -/

namespace Sys2Proof.Machine

/-- One FP32 accumulation of an exact BF16 product; infinities and NaNs spread. -/
def mac (acc : Word32) (a b : Nat) : Word32 :=
  if !(F32.finite acc && F32.finite (BF16.toF32 a) && F32.finite (BF16.toF32 b)) then F32.add acc (F32.mul (BF16.toF32 a) (BF16.toF32 b))
  else F32.ofDy ((F32.toDy acc).add ((F32.toDy (BF16.toF32 a)).mul (F32.toDy (BF16.toF32 b))))

/-- A dot product of two BF16 vectors in ascending order. -/
def bfDot (xs ys : List Nat) : Word32 := (List.zip xs ys).foldl (fun a p => mac a p.1 p.2) 0#32

/-- The product of two FP32 numbers rounded once to BF16 (R315 step 2). -/
def mulToBf16 (x y : Word32) : Nat :=
  let p := (F32.toDy x).mul (F32.toDy y)
  if F32.finite x && F32.finite y then (if p.m = 0 then 0x8000 * ofBool (F32.sign x != F32.sign y) else BF16.ofDy p)
  else BF16.ofF32 (F32.mul x y)

/-- The input of a target as the adapter takes it: rounded to BF16 (R315 step 1). -/
def AdpTarget.input (t : AdpTarget) (x : List Word32) : List Nat := (x.take t.dIn).map BF16.ofF32

/-- h of a target (R315 steps 1 and 2), from its input in BF16. -/
def AdpVer.hidden (v : AdpVer) (t : AdpTarget) (xb : List Nat) : List Nat :=
  (List.range v.rank).map fun r => mulToBf16 (bfDot ((t.a.drop (r * t.dIn)).take t.dIn) xb) v.alpha

/-- The columns of one reduction of a target (R315 steps 1 to 3): `k` is the reduction's number within the target. -/
def adapterCols (v : AdpVer) (t : AdpTarget) (k : Nat) (x : List Word32) : List Word32 :=
  let h := v.hidden t (t.input x)
  (List.range (min 1024 (t.dOut - 1024 * k))).map fun c => bfDot ((t.b.drop ((1024 * k + c) * v.rank)).take v.rank) h

/-- One FP32 accumulation of an exact FP32 × BF16 product (R321 step 4); infinities and NaNs spread. -/
def macF (acc x : Word32) (b : Nat) : Word32 :=
  if !(F32.finite acc && F32.finite x && F32.finite (BF16.toF32 b)) then F32.add acc (F32.mul x (BF16.toF32 b))
  else F32.ofDy ((F32.toDy acc).add ((F32.toDy x).mul (F32.toDy (BF16.toF32 b))))

/-- Bᵀ × dy of a target, in ascending output order. -/
def AdpTarget.back (t : AdpTarget) (rank : Nat) (dy : List Word32) : List Word32 :=
  (List.range rank).map fun r => ((dy.take t.dOut).zipIdx).foldl (fun a p => macF a p.1 (t.b.getD (p.2 * rank + r) 0)) 0#32

/-- The gradient of a target's matrices at one position (R321 step 4), in the layout of R324: dA = (Bᵀ × dy) × xᵀ, then dB = dy × hᵀ. -/
def AdpVer.gradient (v : AdpVer) (t : AdpTarget) (xb : List Nat) (dy : List Word32) : List Word32 :=
  let h := v.hidden t xb
  ((t.back v.rank dy).map fun g => xb.map fun x => macF 0#32 g x).flatten ++ ((List.range t.dOut).map fun c => h.map fun k => macF 0#32 (dy.getD c 0#32) k).flatten

/-- What an adapter contributes to dx at one position (R321 step 4): Aᵀ × (α Bᵀ × dy). -/
def AdpVer.inputGrad (v : AdpVer) (t : AdpTarget) (dy : List Word32) : List Word32 :=
  let g := (t.back v.rank dy).map fun y => F32.mul v.alpha y
  (List.range t.dIn).map fun i => (g.zipIdx).foldl (fun a p => macF a p.1 (t.a.getD (p.2 * t.dIn + i) 0)) 0#32

/-- Where the gradient of a target begins in a round's gradient (R324): A, then B, per target in target order. -/
def AdpVer.offsetOf (v : AdpVer) (i : Nat) : Nat := ((v.targets.take i).map fun t => v.rank * (t.dIn + t.dOut)).sum

/-- The live version a sequence is bound to. -/
def State.boundVer (s : State) (q : Nat) : Option AdpVer :=
  match (s.seq q).adapter with
  | some (a, n) => ((s.adapter a).cur.toList ++ (s.adapter a).old).find? fun v => v.no == n
  | none => none

/-- A tuning sequence keeps the input of a target matrix for the backward pass (R320, R321). -/
def State.saveInput (s : State) (q first tag : Nat) (xb : List Nat) : State :=
  if (s.seq q).job.isNone then s
  else s.modSeq q fun x => { x with tune := { x.tune with inputs := (x.tune.inputs.filter fun i => !(i.1 == first && i.2.1 == tag)) ++ [(first, tag, xb)] } }

/-- The part of a digital contribution that a vector's feed brings; it enters once every input slice is to hand. DESIGN CHOICE (log entry 98): a flag that the partial raises names stall 0 of the row. -/
def State.adapterFeed (s : State) (tag seq : Nat) (xs : List Word32) (f : Feed) : State :=
  match s.genOf f.slot f.gen with
  | none => s
  | some g =>
    match g.red (s.feedRed f) with
    | none => s
    | some r =>
      match r.contribs.find? fun c => c.source == digitalSource with
      | none => s
      | some c =>
        if r.partDev.getD c.eighth 0 ≠ 0xFF ∨ 0x80000000 ≤ r.id then s else
          let row := s.seat (r.partRow.getD c.eighth 0) r.id tag
          let i := s.openInst row r.id f.slot f.gen tag seq g
          if i.digitals.any fun w => w.eighth == c.eighth && w.ordinal == c.ordinal then s
          else
            let give (s : State) (vals : List Word32) (i : Inst) : State := s.release row (stallId row 0) i r ⟨c.eighth, c.ordinal, [.digital vals], false, []⟩
            match (s.boundVer seq).bind fun v => (v.targets.find? fun t => decide (t.first ≤ r.id) && decide (r.id < t.first + t.count)).map fun t => (v, t) with
            | none => give s (List.replicate 1024 0#32) i
            | some (v, t) =>
              let piece := if f.group < 4 then xs else (xs.drop (512 * f.slice)).take (((s.streamOf f).map fun t => t.2.inRows).getD 512)
              let ps := sortBy (fun a b => decide (a.1 ≤ b.1)) ((i.pieces.filter fun p => p.1 != f.src) ++ [(f.src, piece)])
              let x := (ps.map (·.2)).flatten
              let i1 := { i with pieces := ps }
              if t.dIn ≤ x.length then give (s.saveInput seq t.first tag (t.input x)) (adapterCols v t (r.id - t.first) x) { i1 with pieces := [] } else s.setInst row i1

/-- The adapter partials of a vector; a residue mismatch discards them, and the vector's strikes fail their check (R316, R368). -/
def State.adapterPart (s : State) (v : VecIn) (xs : List Word32) : State :=
  if v.trans then s
  else if v.residue then
    let a := (((s.seq v.seq).adapter).map (·.1)).getD 0
    s.flagAt SRV_ADP_ERR.RESIDUE 0 [(SRV_ADP_ERR.ADAPTER, a)]
  else (v.feeds.map fun f => (⟨f.1, f.2.1, f.2.2.1, f.2.2.2, false⟩ : Feed)).foldl (fun s f => s.adapterFeed v.tag v.seq xs f) s

/-- The inspector's verdict on a strike of a vector whose adapter partials a residue mismatch discarded: those of the strike's feed are formed again. DESIGN CHOICE (log entry 104). -/
def State.redoAdapter (s : State) (n : Narrow) (f : Feed) : State := if n.redo.isEmpty then s else s.adapterFeed n.tag n.seq n.redo f

end Sys2Proof.Machine
end

