-- ==== Sys2Proof/Machine/Aes.lean ====
section
/-! DEFINITION. AES-256-GCM (FIPS 197, SP 800-38D), as the assay unit opens encrypted shards (R201, R523). -/

namespace Sys2Proof.Machine

/-! ### The block cipher -/

/-- The substitution table, sixteen bytes to a number, lowest index in the most significant byte. -/
def sboxRows : List Nat :=
  [0x637C777BF26B6FC53001672BFED7AB76, 0xCA82C97DFA5947F0ADD4A2AF9CA472C0, 0xB7FD9326363FF7CC34A5E5F171D83115, 0x04C723C31896059A071280E2EB27B275,
   0x09832C1A1B6E5AA0523BD6B329E32F84, 0x53D100ED20FCB15B6ACBBE394A4C58CF, 0xD0EFAAFB434D338545F9027F503C9FA8, 0x51A3408F929D38F5BCB6DA2110FFF3D2,
   0xCD0C13EC5F974417C4A77E3D645D1973, 0x60814FDC222A908846EEB814DE5E0BDB, 0xE0323A0A4906245CC2D3AC629195E479, 0xE7C8376D8DD54EA96C56F4EA657AAE08,
   0xBA78252E1CA6B4C6E8DD741F4BBD8B8A, 0x703EB5664803F60E613557B986C11D9E, 0xE1F8981169D98E949B1E87E9CE5528DF, 0x8CA1890DBFE6426841992D0FB054BB16]

/-- A byte through the substitution table. -/
def subByte (b : Byte) : Byte := BitVec.ofNat 8 ((sboxRows.getD (b.toNat / 16) 0) >>> (8 * (15 - b.toNat % 16)))

/-- Twice a byte in the field of AES. -/
def xtime (b : Byte) : Byte := (b <<< 1) ^^^ (if b.toNat < 128 then 0#8 else 0x1B#8)

/-- Byte by byte exclusive or. -/
def xorBytes (xs ys : List Byte) : List Byte := List.zipWith (· ^^^ ·) xs ys

/-- The next eight words of the key schedule from the last eight. -/
def nextKey (k : List (List Byte)) (rcon : Byte) : List (List Byte) :=
  match k with
  | [w0, w1, w2, w3, w4, w5, w6, w7] =>
    let rot := (w7.drop 1 ++ w7.take 1).map subByte
    let v0 := xorBytes (xorBytes w0 rot) [rcon, 0#8, 0#8, 0#8]
    let v1 := xorBytes w1 v0
    let v2 := xorBytes w2 v1
    let v3 := xorBytes w3 v2
    let v4 := xorBytes w4 (v3.map subByte)
    let v5 := xorBytes w5 v4
    let v6 := xorBytes w6 v5
    [v0, v1, v2, v3, v4, v5, v6, xorBytes w7 v6]
  | _ => k

/-- The fifteen round keys of a 32-byte key, sixteen bytes each. -/
def roundKeys (key : List Byte) : List (List Byte) :=
  let w0 := (List.range 8).map fun i => (key.drop (4 * i)).take 4
  let ws := (List.range 7).foldl (fun (p : List (List Byte) × List (List Byte) × Byte) _ =>
    let k := nextKey p.2.1 p.2.2
    (p.1 ++ k, k, xtime p.2.2)) (w0, w0, 1#8)
  (List.range 15).map fun r => ((ws.1.drop (4 * r)).take 4).flatten

/-- The row shift: byte r of column c comes from column c + r. -/
def shiftRows (b : List Byte) : List Byte := (List.range 16).map fun i => b.getD ((i + 4 * (i % 4)) % 16) 0#8

/-- The mix of one column. -/
def mixColumn (c : List Byte) : List Byte :=
  (List.range 4).map fun r =>
    let x := c.getD r 0#8
    let y := c.getD ((r + 1) % 4) 0#8
    xtime x ^^^ xtime y ^^^ y ^^^ c.getD ((r + 2) % 4) 0#8 ^^^ c.getD ((r + 3) % 4) 0#8

/-- The mix of all four columns. -/
def mixColumns (b : List Byte) : List Byte := ((List.range 4).map fun c => mixColumn ((b.drop (4 * c)).take 4)).flatten

/-- One block under the round keys. -/
def aesBlock (ks : List (List Byte)) (b : List Byte) : List Byte :=
  let b1 := ((ks.drop 1).take 13).foldl (fun b k => xorBytes (mixColumns (shiftRows (b.map subByte))) k) (xorBytes b (ks.headD []))
  xorBytes (shiftRows (b1.map subByte)) (ks.getLastD [])

/-! ### Galois/counter mode -/

/-- The number that bytes spell, the first the most significant. -/
def bigNat (b : List Byte) : Nat := b.foldl (fun n x => 256 * n + x.toNat) 0

/-- The product of two blocks in the field of GHASH, bit 0 the most significant. -/
def gmul (x y : BitVec 128) : BitVec 128 :=
  ((List.range 128).foldl (fun (p : BitVec 128 × BitVec 128) i =>
    let z := if x.getLsbD (127 - i) then p.1 ^^^ p.2 else p.1
    (z, (p.2 >>> 1) ^^^ (if p.2.getLsbD 0 then 0xE1000000000000000000000000000000#128 else 0#128))) (0#128, y)).1

/-- Bytes with zeros to a multiple of sixteen. -/
def pad16 (b : List Byte) : List Byte := b ++ List.replicate ((16 - b.length % 16) % 16) 0#8

/-- GHASH of whole blocks. -/
def ghash (h : BitVec 128) (b : List Byte) : BitVec 128 :=
  (List.range (b.length / 16)).foldl (fun y i => gmul (y ^^^ BitVec.ofNat 128 (bigNat ((b.drop (16 * i)).take 16))) h) 0#128

/-- Sixteen bytes of a number, the most significant first. -/
def blockOf (n : Nat) : List Byte := (leBytes 16 n).reverse

/-- The counter block number i of a 12-byte IV. -/
def counterBlock (iv : List Byte) (i : Nat) : List Byte := iv ++ ((leBytes 4 i).reverse)

/-- Counter mode over some bytes: ciphertext from plaintext, and back. -/
def gcmCrypt (key iv text : List Byte) : List Byte :=
  let ks := roundKeys key
  ((List.range ((text.length + 15) / 16)).map fun i => xorBytes ((text.drop (16 * i)).take 16) (aesBlock ks (counterBlock iv (i + 2)))).flatten

/-- The tag of a ciphertext and its additional authenticated data. -/
def gcmTagOf (key iv aad cipher : List Byte) : List Byte :=
  let ks := roundKeys key
  let h := BitVec.ofNat 128 (bigNat (aesBlock ks (List.replicate 16 0#8)))
  let g := ghash h (pad16 aad ++ pad16 cipher ++ blockOf (2 ^ 64 * (8 * aad.length) + 8 * cipher.length))
  xorBytes (blockOf g.toNat) (aesBlock ks (counterBlock iv 1))

/-- The plaintext of a ciphertext; none when the tag does not match. -/
def gcmOpen (key iv aad cipher tag : List Byte) : Option (List Byte) :=
  if gcmTagOf key iv aad cipher = tag then some (gcmCrypt key iv cipher) else none

end Sys2Proof.Machine
end

