-- ==== Sys2Proof/Machine/Hash.lean ====
section
/-! DEFINITION. SHA-512 (FIPS 180-4) and HMAC-SHA-512, as the assay unit forms them (R511 to R525). -/

namespace Sys2Proof.Machine

/-- Round constants 0 to 19 of SHA-512. -/
def sha512K0 : List Word64 :=
  [0x428A2F98D728AE22#64, 0x7137449123EF65CD#64, 0xB5C0FBCFEC4D3B2F#64, 0xE9B5DBA58189DBBC#64, 0x3956C25BF348B538#64,
   0x59F111F1B605D019#64, 0x923F82A4AF194F9B#64, 0xAB1C5ED5DA6D8118#64, 0xD807AA98A3030242#64, 0x12835B0145706FBE#64,
   0x243185BE4EE4B28C#64, 0x550C7DC3D5FFB4E2#64, 0x72BE5D74F27B896F#64, 0x80DEB1FE3B1696B1#64, 0x9BDC06A725C71235#64,
   0xC19BF174CF692694#64, 0xE49B69C19EF14AD2#64, 0xEFBE4786384F25E3#64, 0x0FC19DC68B8CD5B5#64, 0x240CA1CC77AC9C65#64]

/-- Round constants 20 to 39 of SHA-512. -/
def sha512K1 : List Word64 :=
  [0x2DE92C6F592B0275#64, 0x4A7484AA6EA6E483#64, 0x5CB0A9DCBD41FBD4#64, 0x76F988DA831153B5#64, 0x983E5152EE66DFAB#64,
   0xA831C66D2DB43210#64, 0xB00327C898FB213F#64, 0xBF597FC7BEEF0EE4#64, 0xC6E00BF33DA88FC2#64, 0xD5A79147930AA725#64,
   0x06CA6351E003826F#64, 0x142929670A0E6E70#64, 0x27B70A8546D22FFC#64, 0x2E1B21385C26C926#64, 0x4D2C6DFC5AC42AED#64,
   0x53380D139D95B3DF#64, 0x650A73548BAF63DE#64, 0x766A0ABB3C77B2A8#64, 0x81C2C92E47EDAEE6#64, 0x92722C851482353B#64]

/-- Round constants 40 to 59 of SHA-512. -/
def sha512K2 : List Word64 :=
  [0xA2BFE8A14CF10364#64, 0xA81A664BBC423001#64, 0xC24B8B70D0F89791#64, 0xC76C51A30654BE30#64, 0xD192E819D6EF5218#64,
   0xD69906245565A910#64, 0xF40E35855771202A#64, 0x106AA07032BBD1B8#64, 0x19A4C116B8D2D0C8#64, 0x1E376C085141AB53#64,
   0x2748774CDF8EEB99#64, 0x34B0BCB5E19B48A8#64, 0x391C0CB3C5C95A63#64, 0x4ED8AA4AE3418ACB#64, 0x5B9CCA4F7763E373#64,
   0x682E6FF3D6B2B8A3#64, 0x748F82EE5DEFB2FC#64, 0x78A5636F43172F60#64, 0x84C87814A1F0AB72#64, 0x8CC702081A6439EC#64]

/-- Round constants 60 to 79 of SHA-512. -/
def sha512K3 : List Word64 :=
  [0x90BEFFFA23631E28#64, 0xA4506CEBDE82BDE9#64, 0xBEF9A3F7B2C67915#64, 0xC67178F2E372532B#64, 0xCA273ECEEA26619C#64,
   0xD186B8C721C0C207#64, 0xEADA7DD6CDE0EB1E#64, 0xF57D4F7FEE6ED178#64, 0x06F067AA72176FBA#64, 0x0A637DC5A2C898A6#64,
   0x113F9804BEF90DAE#64, 0x1B710B35131C471B#64, 0x28DB77F523047D84#64, 0x32CAAB7B40C72493#64, 0x3C9EBE0A15C9BEBC#64,
   0x431D67C49C100D4C#64, 0x4CC5D4BECB3E42B6#64, 0x597F299CFC657E2A#64, 0x5FCB6FAB3AD6FAEC#64, 0x6C44198C4A475817#64]

/-- The initial hash value of SHA-512. -/
def sha512Init : List Word64 :=
  [0x6A09E667F3BCC908#64, 0xBB67AE8584CAA73B#64, 0x3C6EF372FE94F82B#64, 0xA54FF53A5F1D36F1#64,
   0x510E527FADE682D1#64, 0x9B05688C2B3E6C1F#64, 0x1F83D9ABFB41BD6B#64, 0x5BE0CD19137E2179#64]

/-- The round constants. -/
def sha512K : List Word64 := sha512K0 ++ sha512K1 ++ sha512K2 ++ sha512K3

/-- The number that a big-endian byte string spells. -/
def beNat (bs : List Byte) : Nat := bs.foldl (fun n b => 256 * n + b.toNat) 0

/-- The `n` bytes of `v`, most significant first. -/
def beBytes (n v : Nat) : List Byte := (leBytes n v).reverse

/-- The message with its padding: 0x80, zeros, and the length in bits over 16 bytes, to a multiple of 128 bytes. -/
def sha512Pad (m : List Byte) : List Byte :=
  m ++ [0x80#8] ++ List.replicate ((239 - m.length % 128) % 128) 0#8 ++ beBytes 16 (8 * m.length)

/-- The message schedule, newest word first. -/
def sha512Schedule (block : List Byte) : List Word64 :=
  let first : List Word64 := (List.range 16).foldl (fun ws t => BitVec.ofNat 64 (beNat ((block.drop (8 * t)).take 8)) :: ws) []
  (List.range 64).foldl (fun ws _ =>
    let w2 := ws.getD 1 0#64
    let w7 := ws.getD 6 0#64
    let w15 := ws.getD 14 0#64
    let w16 := ws.getD 15 0#64
    let g1 := w2.rotateRight 19 ^^^ w2.rotateRight 61 ^^^ (w2 >>> 6)
    let g0 := w15.rotateRight 1 ^^^ w15.rotateRight 8 ^^^ (w15 >>> 7)
    (g1 + w7 + g0 + w16) :: ws) first

/-- One round on the eight working variables. -/
def sha512Round (v : List Word64) (k w : Word64) : List Word64 :=
  match v with
  | [a, b, c, d, e, f, g, h] =>
    let t1 := h + (e.rotateRight 14 ^^^ e.rotateRight 18 ^^^ e.rotateRight 41) + ((e &&& f) ^^^ (~~~e &&& g)) + k + w
    let t2 := (a.rotateRight 28 ^^^ a.rotateRight 34 ^^^ a.rotateRight 39) + ((a &&& b) ^^^ (a &&& c) ^^^ (b &&& c))
    [t1 + t2, a, b, c, d + t1, e, f, g]
  | _ => v

/-- One block. -/
def sha512Block (h : List Word64) (block : List Byte) : List Word64 :=
  let v := (sha512K.zip (sha512Schedule block).reverse).foldl (fun v (p : Word64 × Word64) => sha512Round v p.1 p.2) h
  (h.zip v).map fun (p : Word64 × Word64) => p.1 + p.2

/-- SHA-512 of a byte string. -/
def sha512 (m : List Byte) : List Byte :=
  let p := sha512Pad m
  let h := (List.range (p.length / 128)).foldl (fun h i => sha512Block h ((p.drop (128 * i)).take 128)) sha512Init
  h.flatMap fun w => beBytes 8 w.toNat

/-- HMAC-SHA-512 under a key of at most 128 bytes. -/
def hmacSha512 (key msg : List Byte) : List Byte :=
  let k := key ++ List.replicate (128 - key.length) 0#8
  sha512 (k.map (· ^^^ 0x5C#8) ++ sha512 (k.map (· ^^^ 0x36#8) ++ msg))

/-- The bytes of an ASCII label. -/
def asciiBytes (t : String) : List Byte := t.toList.map fun c => BitVec.ofNat 8 c.toNat

end Sys2Proof.Machine
end

