-- ==== Sys2Proof/Machine/Ecdsa.lean ====
section
/-! DEFINITION. ECDSA over P-521 with SHA-512 (FIPS 186-5), as the assay unit verifies the signatures of stocking images, manifests and charter copies (R173, R207, R513, R515). -/

namespace Sys2Proof.Machine

/-- The prime of P-521. -/
def p521 : Nat := 2 ^ 521 - 1

/-- The order of P-521. -/
def n521 : Nat :=
  0x1FFFFFFFFFFFFFFFFFFFFFFFFFFFFFFFFFFFFFFFFFFFFFFFFFFFFFFFFFFFFFFFFFA51868783BF2F966B7FCC0148F709A5D03BB5C9B8899C47AEBB6FB71E91386409

/-- The coefficient b of P-521. -/
def b521 : Nat :=
  0x051953EB9618E1C9A1F929A21A0B68540EEA2DA725B99B315F3B8B489918EF109E156193951EC7E937B1652C0BD3BB1BF073573DF883D2C34F1EF451FD46B503F00

/-- A point in Jacobian coordinates: (X / Z², Y / Z³), the point at infinity with Z = 0. -/
structure Jac where
  x : Nat
  y : Nat
  z : Nat
deriving DecidableEq, Repr

/-- The point at infinity. -/
def Jac.zero : Jac := ⟨1, 1, 0⟩

/-- The base point of P-521. -/
def Jac.base : Jac :=
  ⟨0xC6858E06B70404E9CD9E3ECB662395B4429C648139053FB521F828AF606B4D3DBAA14B5E77EFE75928FE1DC127A2FFA8DE3348B3C1856A429BF97E7E31C2E5BD66,
   0x11839296A789A3BC0045C8A5FB42C7D1BD998F54449579B446817AFBD17273E662C97EE72995EF42640C550B9013FAD0761353C7086A272C24088BE94769FD16650, 1⟩

/-- The difference of two residues. -/
def sub521 (a b : Nat) : Nat := (a + (p521 - b)) % p521

/-- Twice a point. -/
def Jac.double (a : Jac) : Jac :=
  let d := a.z * a.z % p521
  let g := a.y * a.y % p521
  let m := 3 * (sub521 a.x d * ((a.x + d) % p521)) % p521
  let s := 4 * (a.x * g) % p521
  let x := sub521 (m * m % p521) (2 * s % p521)
  ⟨x, sub521 (m * sub521 s x % p521) (8 * (g * g) % p521), 2 * (a.y * a.z) % p521⟩

/-- The sum of two points. -/
def Jac.add (a b : Jac) : Jac :=
  if a.z = 0 then b
  else if b.z = 0 then a
  else
    let za := a.z * a.z % p521
    let zb := b.z * b.z % p521
    let u := a.x * zb % p521
    let v := b.x * za % p521
    let s := a.y * (zb * b.z % p521) % p521
    let t := b.y * (za * a.z % p521) % p521
    if u = v then (if s = t then a.double else .zero)
    else
      let h := sub521 v u
      let r := sub521 t s
      let hh := h * h % p521
      let k := h * hh % p521
      let w := u * hh % p521
      let x := sub521 (sub521 (r * r % p521) k) (2 * w % p521)
      ⟨x, sub521 (r * sub521 w x % p521) (s * k % p521), h * (a.z * b.z % p521) % p521⟩

/-- The leading `i` bits of a 521-bit number times a point. -/
def Jac.times (k : Nat) (a : Jac) : Nat → Jac
  | 0 => .zero
  | i + 1 =>
    let d := (times k a i).double
    if bitAt k (520 - i) then d.add a else d

/-- a to the power given by the leading `i` bits of a 521-bit number, modulo the order. -/
def pow521 (a k : Nat) : Nat → Nat
  | 0 => 1
  | i + 1 =>
    let d := pow521 a k i
    if bitAt k (520 - i) then d * d % n521 * a % n521 else d * d % n521

/-- The point of an uncompressed public key: 0x04 and two big-endian coordinates of 66 bytes; none when it is no point of the curve. -/
def publicKey (key : List Byte) : Option Jac :=
  let x := beNat ((key.drop 1).take 66)
  let y := beNat ((key.drop 67).take 66)
  if key.length = 133 ∧ key.head? = some 4#8 ∧ x < p521 ∧ y < p521 ∧ y * y % p521 = (x * x % p521 * x + (p521 - 3) * x + b521) % p521
  then some ⟨x, y, 1⟩ else none

/-- The signature (r, s) of a message verifies under a public key. -/
def ecdsaOk (key msg : List Byte) (r s : Nat) : Bool :=
  match publicKey key with
  | none => false
  | some q =>
    if 1 ≤ r ∧ r < n521 ∧ 1 ≤ s ∧ s < n521 then
      let w := pow521 s (n521 - 2) 521
      let u := beNat (sha512 msg) * w % n521
      let v := r * w % n521
      let a := (Jac.base.times u 521).add (q.times v 521)
      let zz := a.z * a.z % p521
      a.z != 0 && (r * zz % p521 == a.x || (decide (r + n521 < p521) && (r + n521) * zz % p521 == a.x))
    else false

end Sys2Proof.Machine
end

