-- ==== Sys2Proof/Machine/PorterOps.lean ====
section
/-! DEFINITION. The operations of the porter that other units call: free space of the tiers, shards that fail, fences, HELD slots and what a step marker does to model slots (R211 to R217, R223). -/

namespace Sys2Proof.Machine

/-- The states of a model slot (R209). -/
def slEmpty : Nat := 0
/-- LOADING. -/
def slLoading : Nat := 1
/-- WAIT_STOCK. -/
def slWait : Nat := 2
/-- READY. -/
def slReady : Nat := 3
/-- HELD. -/
def slHeld : Nat := 4
/-- RETIRING. -/
def slRetiring : Nat := 5

/-- PRT_MODEL_STAT.STATE of a slot. -/
def State.slState (s : State) (m : Nat) : Nat := s.rd PRT_MODEL_STAT.STATE m
/-- Set it. -/
def State.setSlState (s : State) (m st : Nat) : State := s.wr PRT_MODEL_STAT.STATE m st

/-- A PRT_ERR flag with its slot and shard. -/
def State.prtFlag (s : State) (f : RField) (slot shard : Nat) : State :=
  s.flagAt f 0 [(PRT_ERR.SHARD, shard), (PRT_ERR.ESLOT, slot)]

/-- The signature of a manifest or a stocking image, over its header's bytes 0x000–0x07F, verifies in the assay unit under the key slot of the charter that KEY_INDEX names (R171, R173, R202, R207, R512). -/
def State.signed (s : State) (keyIndex : Nat) (b : List Byte) (r t : Nat) : Bool :=
  match s.charter.keys[keyIndex]? with
  | some key => ecdsaOk key (b.take 0x80) r t
  | none => false

/-! ### Space (R211, R386, R398) -/

/-- Bytes of tier 1 that can be allocated: 80 GB a stack, less failed stacks and retired granules (R386, R398). -/
def State.tier1Size (s : State) : Nat :=
  let failed := (List.range 20).filter fun u => s.rd MEM_UNIT_STAT.STATE u == 4
  let gone := (s.mem.retired ++ s.mem.extra).filter fun g => decide (g < 2 ^ 40) && !failed.contains (g % 20)
  20 * stackData - stackData * failed.length - 65536 * gone.length

/-- The data capacity of tier 2: N times the smallest channel (R386, R390). -/
def State.tier2Span (s : State) : Nat :=
  let up := s.tier2Up
  65536 * (up.length * (up.map fun c => FMap.get 0 s.mem.dataGran c).min?.getD 0)

/-- Bytes of tier 2 that can be allocated: its data capacity less retired granules (R398). -/
def State.tier2Size (s : State) : Nat :=
  s.tier2Span - 65536 * ((s.mem.retired ++ s.mem.extra).filter fun g => decide (2 ^ 40 ≤ g)).length

/-- A device address lies in one of the tiers (R391). -/
def State.addressOk (s : State) (a : Nat) : Bool :=
  decide (a < 20 * stackData) || (decide (tier2Base ≤ a) && decide (a < tier2Base + s.tier2Span))

/-- A span of bytes lies in one of the tiers (R391). -/
def State.spanOk (s : State) (a n : Nat) : Bool := s.addressOk a && s.addressOk (a + n - 1)

/-- Bytes of a tier that a generation holds. -/
def Gen.holds (g : Gen) (tier : Nat) : Nat :=
  ((g.man.shards.zipIdx).map fun (e, i) => if (g.shard i).tier = tier && !(g.shard i).dropped then e.size else 0).sum
    + (if tier = 0 then 65536 * g.kvPages else 0)

/-- Bytes of a tier that every live generation holds. -/
def State.held (s : State) (tier : Nat) : Nat :=
  (s.slots.map fun e => ([e.2.cur, e.2.prev, e.2.next].filterMap id).map (·.holds tier) |>.sum).sum

/-- A1 of R211: the charter reserves T1_RESERVE granules and the adapter pool (R311, R514). -/
def State.free1 (s : State) : Nat := s.tier1Size - s.held 0 - 65536 * (s.charter.t1Reserve + s.rd SRV_ADP_POOL.GRANULES)
/-- A2 of R211. -/
def State.free2 (s : State) : Nat := s.tier2Size - s.held 1

/-! ### Granules (R212, R229, R394, R398) -/

/-- Every granule that is taken: by shards, pool shares and adapter versions, and those that are retired or due. -/
def State.takenGrans (s : State) : List Nat :=
  (s.slots.map fun e => ([e.2.cur, e.2.prev, e.2.next].filterMap id).flatMap fun g => (g.shards.map fun x => x.2.grans).flatten ++ g.pool.flatten).flatten
    ++ (s.adapters.map fun e => e.2.live.flatMap (·.grans)).flatten ++ s.deadGrans

/-- n free granules of tier 1, from the stacks of some quarters where they have room, or n of tier 2 (R394). -/
def State.takeFrom (s : State) (tier : Nat) (quarters : List Nat) (taken : List Nat) (n : Nat) : List Nat :=
  let up := (List.range 20).filter fun u => s.rd MEM_UNIT_STAT.STATE u != 4
  let row (i : Nat) : Nat := if tier = 1 then 2 ^ 40 + i
    else stackGran (up.filter fun u => quarters.contains (u / 5)) (up.filter fun u => !quarters.contains (u / 5)) i
  takeGrans row taken (n + taken.length) 0 n

/-- The quarters whose stacks a shard lies in (R212): those that own its tiles' stalls for a STOCKED one, every one for another. -/
def shardQuarters (m : Manifest) (i : Nat) : List Nat :=
  if (m.shards[i]?).any fun e => e.kind == 0 then ((m.pitch.filter fun p => p.shard == i).map fun p => quarterOf (p.stall / 32)).eraseDups
  else List.range 4

/-- The granules of a manifest's shards, in index order, in the tiers where R211 placed them. -/
def State.placeShards (s : State) (m : Manifest) (tiers : List Nat) (taken : List Nat) : List (List Nat) :=
  (tiers.zipIdx.foldl (fun (acc : List (List Nat) × List Nat) t =>
    let gs := s.takeFrom t.1 (shardQuarters m t.2) acc.2 (((m.shards[t.2]?).map (·.size)).getD 0 / 65536)
    (acc.1 ++ [gs], acc.2 ++ gs)) ([], taken)).1

/-- The granules of the four shares of a KV pool of n pages (R229, R394). -/
def State.placePool (s : State) (n : Nat) (taken : List Nat) : List (List Nat) :=
  (List.range 4).map fun q => s.takeFrom 0 [q] taken (n / 4 + (if q = 0 then n % 4 else 0))

/-- Another granule takes the place of one in everything that holds it (R398). -/
def State.moveGran (s : State) (old new : Nat) : State :=
  let u (l : List Nat) : List Nat := l.map fun g => if g = old then new else g
  let gen (g : Gen) : Gen := { g with shards := g.shards.map fun x => (x.1, { x.2 with grans := u x.2.grans }), pool := g.pool.map u }
  let ver (v : AdpVer) : AdpVer := { v with grans := u v.grans }
  { s with
    slots := s.slots.map fun (e : Nat × ModelSlot) => (e.1, { e.2 with cur := e.2.cur.map gen, prev := e.2.prev.map gen, next := e.2.next.map gen })
    pages := s.pages.map fun (e : Nat × Page) => (e.1, { e.2 with grans := u e.2.grans })
    adapters := s.adapters.map fun (e : Nat × Adapter) => (e.1, { e.2 with cur := e.2.cur.map ver, old := e.2.old.map ver, next := e.2.next.map ver }) }

/-- The content that the state records in a granule: a shard of a live generation, a page, an adapter version. -/
def State.contentOf (s : State) (gran : Nat) : Option Content :=
  let shards := s.slots.flatMap fun e => ([e.2.cur, e.2.prev, e.2.next].filterMap id).flatMap fun g =>
    (g.shards.filter fun x => x.2.grans.contains gran && !x.2.dropped).map fun x => Content.shard e.1 g.man.generation x.1
  let pages := (s.pages.filter fun e => e.2.live && e.2.grans.contains gran).map fun e => Content.page e.1
  let vers := (s.adapters.filter fun e => e.2.live.any fun v => v.grans.contains gran).map fun e => Content.adapter e.1
  (shards ++ pages ++ vers).head?

/-! ### Generations in place -/

/-- Change a live generation. -/
def ModelSlot.modGen (m : ModelSlot) (gen : Nat) (f : Gen → Gen) : ModelSlot :=
  let u (o : Option Gen) : Option Gen := o.map fun g => if g.man.generation = gen then f g else g
  { m with cur := u m.cur, prev := u m.prev, next := u m.next }

/-- Change a shard of a live generation. -/
def State.modShard (s : State) (slot gen i : Nat) (f : Shard → Shard) : State :=
  s.modSlot slot fun m => m.modGen gen fun g => { g with shards := FMap.modify Shard.init g.shards i f }

/-- Shards of a generation that are neither valid nor dropped. -/
def Gen.missing (g : Gen) : Nat :=
  ((List.range g.man.shards.length).filter fun i => !(g.shard i).valid && !(g.shard i).dropped).length

/-- PRT_STAT.LEFT follows the shards of the slot that it names: those of the generation being loaded, or of CURRENT (R227). -/
def State.showLeft (s : State) (slot : Nat) : State :=
  let m := s.slot slot
  match m.next <|> m.cur with
  | some g => if s.rd PRT_STAT.SLOT = slot then s.wr PRT_STAT.LEFT 0 g.missing else s
  | none => s

/-- Every shard of a slot's live generations is valid, dropped ones apart. -/
def State.shardsValid (s : State) (slot : Nat) : Bool :=
  (s.slot slot).gens.all fun g => g.missing == 0

/-- Logical stalls that a slot's pitch map names. -/
def State.slotStalls (s : State) (slot : Nat) : List Nat :=
  match (s.slot slot).cur with
  | some g => (g.man.pitch.map (·.stall)).eraseDups
  | none => []

/-! ### Fences and HELD (R215 to R217) -/

/-- Logical stalls reserved by open streams. -/
def State.reserved (s : State) : List Nat := (s.paces.map fun e => e.2.stalls).flatten.eraseDups

/-- Ask for a shard: the porter reads its entry of the source table (R208). -/
def State.askShard (s : State) (g : Gen) (i : Nat) : State := s.send (.hostRead 0 (g.srcAddr + 8 * i) 8)

/-- Every active sequence of a slot ends with a status at once, and tuning jobs with them. -/
def State.faultSlot (s : State) (slot status : Nat) : State :=
  let qs := FMap.keysWhere s.seqs fun _ x => x.live && x.active && x.slot == slot
  let js := FMap.keysWhere s.tunes fun _ j => j.live && j.slot == slot
  js.foldl (fun s f => s.endTune f status) (qs.foldl (fun s q => s.faultSeq q status) s)

/-- One strike that waits for a ledger row is discarded with its passes, and its instance given up (R102). -/
def State.dropPass (s : State) (sid tag g : Nat) (f : Feed) : State :=
  let s1 := s.modStall sid fun st => { st with passes := st.passes.filter fun p => !(p.tag == tag && p.group == g) }
  let s2 := s1.giveUpInst (s1.feedRed f) tag
  (((s2.stall sid).inflight.filter fun x => x.kind == .work && x.stage != .released && x.desc.tag == tag && strikesOut x.desc g).foldl
    (fun s x => s.discardStrike sid x) s2).giveUp sid tag g

/-- Strikes of a slot that wait for a ledger row are discarded (R102). -/
def State.dropPasses (s : State) (slot : Nat) : State :=
  s.stalls.foldl (fun s e =>
    (((e.2.passes.filter fun p => p.feed.slot == slot).map fun p => (p.tag, p.group, p.feed)).eraseDups).foldl
      (fun s k => s.dropPass e.1 k.1 k.2.1 k.2.2) s) s

/-- A slot enters HELD (R215). -/
def State.holdSlot (s : State) (slot : Nat) : State :=
  let s1 := s.setSlState slot slHeld
  (s1.faultSlot slot 7).dropPasses slot

/-- A FENCE or UNFENCE cart to every partner (R354). -/
def State.tellFence (s : State) (typ slot expert : Nat) : State :=
  let m := (s.slot slot).cur.map fun g => (g.man.modelId, g.man.generation)
  s.tellPartners typ ((m.map (·.1)).getD 0) (expertWord (expert / 65536) (expert % 65536) ((m.map (·.2)).getD 0) 0)

/-- Fence an expert of a slot (R216): its shards are dropped, the router masks it, positions not yet committed carry the mask, and those that had chosen the expert are recomputed from its layer. -/
def State.fenceExpert (s : State) (slot expert : Nat) : State :=
  let drop (g : Gen) : Gen :=
    (g.man.shards.zipIdx).foldl (fun g (e, i) =>
      if e.expert = expert then { g with shards := FMap.modify Shard.init g.shards i fun x => { x with dropped := true, valid := false } } else g) g
  let m := s.slot slot
  let s1 := s.setSlot slot { m with
    cur := m.cur.map drop, prev := m.prev.map drop, next := m.next.map drop,
    fenced := if m.fenced.contains expert then m.fenced else m.fenced ++ [expert], lifting := m.lifting.erase expert }
  let s2 := (s1.showLeft slot).bump PRT_FENCE_CNT.V
  let s3 := { s2 with seqs := s2.seqs.map fun (e : Nat × Seq) => if e.2.live && e.2.slot == slot && e.2.phase != Phase.idle then (e.1, { e.2 with fenced := true }) else e }
  let at' := (expert / 65536, expert % 65536)
  let s4 := (FMap.keysWhere s3.seqs fun _ x => x.live && x.slot == slot && (x.phase != .idle || x.redoFrom.isSome) && x.chose.contains at').foldl
    (fun s q => s.maskFor q at'.1 at'.2) s3
  s4.tellFence 6 slot expert

/-- A shard failed its check or could not be read (R215): refetched up to 3 times, then its expert is fenced or the slot is HELD. -/
def State.shardFailed (s : State) (slot : Nat) (g : Gen) (i : Nat) : State :=
  let gen := g.man.generation
  let e := (g.man.shards[i]?).getD (ShardEntry.ofBytes [])
  let s1 := (s.modShard slot gen i fun x => { x with valid := false }).showLeft slot
  if (g.shard i).tries < 3 then
    ((s1.modShard slot gen i fun x => { x with tries := x.tries + 1 }).bump PRT_REFETCH_CNT.V).askShard g i
  else
    let s2 := s1.prtFlag PRT_ERR.DIGEST slot i
    if e.fenceable && g.man.fence then s2.fenceExpert slot e.expert else s2.holdSlot slot

/-- An uncorrectable error that a read of a shard meets: one in a granule that holds it. -/
def State.ueIn (s : State) (slot gen shard : Nat) (ue : Option Nat) : Option Nat :=
  match s.genOf slot gen with
  | some g => ue.filter fun x => (g.shard shard).grans.contains x
  | none => none

/-- A read of a shard: its channels of tier 2 are accessed, and the corrected errors in its granules count (R393, R397, R400). -/
def State.shardRead (s : State) (slot gen shard : Nat) (err : MemErr) : State :=
  match s.genOf slot gen with
  | some g => (s.touchGrans (g.shard shard).grans).corrected ⟨err.ce.filter fun x => (g.shard shard).grans.contains x, .none⟩
  | none => s

/-- An uncorrectable error while a ledger shard is read (R397): the shard is marked invalid and refetched. -/
def State.ledgerUE (s : State) (slot gen shard gran : Nat) : State :=
  let s1 := s.memUE gran
  match s1.genOf slot gen with
  | some g => if (g.shard shard).valid then s1.shardFailed slot g shard else s1
  | none => s1

/-! ### What a shard's bytes must be (R200, R201, R213, R523) -/

/-- The plaintext of an ENC shard's bytes under the slot's model key, with MODEL_ID and the shard's index as additional authenticated data (R523); none when its GCM tag fails. -/
def State.openShard (s : State) (slot : Nat) (g : Gen) (i : Nat) (e : ShardEntry) (b : List Byte) : Option (List Byte) :=
  gcmOpen (leBytes 32 (FMap.get 0 s.sec.mkeys slot)) (leBytes 12 e.iv) (leBytes 8 g.man.modelId ++ leBytes 4 i) b (leBytes 16 e.gcmTag)

/-- Bytes that a row of a stream takes (R200). -/
def rowBytes (fmt cols : Nat) : Nat :=
  match fmt with
  | 0 => (cols + 1) / 2
  | 1 => 3 * ((cols + 7) / 8)
  | 2 => (cols + 3) / 4
  | _ => (cols + 4) / 5

/-- A W1.6 byte of the shard is 243 or above: a format fault (R200). -/
def formatFault (m : Manifest) (i : Nat) (data : List Byte) : Bool :=
  m.streams.any fun t => t.shard == i && t.fmt == 3 && (List.range t.inRows).any fun r =>
    ((data.drop (t.offset + r * t.stride)).take (rowBytes 3 t.outCols)).any fun b => decide (243 ≤ b.toNat)

/-- The plaintext of bytes read for a shard, `sealed` when they stand encrypted; none when the GCM tag fails, the digest differs, or a format fault shows (R200, R201, R213, R215). -/
def State.goodShard (s : State) (slot : Nat) (g : Gen) (i : Nat) (e : ShardEntry) (sealed : Bool) (b : List Byte) : Option (List Byte) :=
  (if sealed then s.openShard slot g i e b else some b).filter fun d => leAt (sha512 d) 0 64 == e.digest && !formatFault g.man i d

/-- What the porter reads of a shard: its bytes as tier 1 holds them, or opened by the assay unit where tier 2 holds them encrypted; none when the GCM tag fails (R201). -/
def State.readShard (s : State) (slot : Nat) (g : Gen) (i : Nat) : Option (List Byte) :=
  let x := g.shard i
  match g.man.shards[i]? with
  | some e => if e.enc && x.tier == 1 then s.openShard slot g i e x.cipher else some x.data
  | none => some x.data

/-- A GCM tag that fails at a read of a valid shard is a failed arrival (R201, R215). -/
def State.reopen (s : State) (slot gen i : Nat) : State :=
  match s.genOf slot gen with
  | some g => if (s.readShard slot g i).isSome then s else s.shardFailed slot g i
  | none => s

/-- The shard that holds the weights a feed names. -/
def State.feedShard (s : State) (f : Feed) : Nat :=
  if f.src < 0x80000000 then ((s.tileOf f).map fun x => x.2.shard).getD 0 else ((s.streamOf f).map fun x => x.2.shard).getD 0

/-- The ledger row of a channel of a feed's tile; the four output groups of a stall tile share it (R98, R203, R204). -/
def State.rowKey (s : State) (f : Feed) (chan : Nat) : RowKey :=
  ⟨f.slot, f.gen, s.feedShard f,
    if f.src < 0x80000000 then ((s.tileOf f).map fun x => x.2.offset).getD 0 else ((s.streamOf f).map fun x => x.2.offset).getD 0, chan⟩

/-! ### Step markers (R208, R217, R223, R312, R354) -/

/-- A slot at a step marker: a READY generation becomes CURRENT, the first one starts to serve, and masks lift or fall as asked. -/
def State.markSlot (s : State) (slot : Nat) : State :=
  let m := s.slot slot
  let m1 := { m with started := m.started || s.slState slot == slReady,
                     fenced := m.fenced.filter (fun e => !m.lifting.contains e), lifting := [],
                     remote := m.remoteP.foldl (fun r (c : Nat × Bool) => if c.2 then (if r.contains c.1 then r else r ++ [c.1]) else r.erase c.1) m.remote,
                     remoteP := [] }
  let m2 := if m1.ready then { m1 with prev := m1.cur, cur := m1.next, next := none, ready := false } else m1
  let s1 := (s.setSlot slot m2).sweepGen slot
  (m.fenced.filter fun e => m.lifting.contains e).foldl (fun s e => s.tellFence 7 slot e) s1

/-- An adapter number at a step marker: loaded versions become current, each in place of the one before (R312). -/
def State.markAdapter (s : State) (a : Nat) : State :=
  let x := s.adapter a
  (s.setAdapter a (x.next.foldl (fun (x : Adapter) v => { x with cur := some v, old := x.old ++ x.cur.toList }) { x with next := [] })).sweepAdapter a

end Sys2Proof.Machine
end

