-- ==== Sys2Proof/Machine/Orders.lean ====
section
/-! DEFINITION. The order counter: slots, seals, the checks of a slip, refusals and admissions (R267 to R279). -/

namespace Sys2Proof.Machine

/-! ### Seals (R268 to R271) -/

/-- Refuse a slip; those with no defined OP that its answer lets come first follow (R270). -/
def State.refuseSlip (s : State) (f n reason : Nat) : State := (s.refuseAt f n reason).takeBad

/-- Accept a slip; those with no defined OP that its answer lets come first follow (R270). -/
def State.acceptSlip (s : State) (f n : Nat) : State :=
  (s.setOslot f n { s.oslot f n with state := 2, status := 0, reason := 0 }).takeBad

/-- A write completes the seal word of a slot (R268, R269, R270): a slip passes to the device, and one whose OP is not defined is refused in its turn. -/
def State.seal (s : State) (f n v : Nat) : State :=
  let o := s.oslot f n
  if !s.memOpen (.func f) then s
  else
  let s := s.squareRuns
  if o.state = 1 then (s.dropHalves (.func f)).accessError (.func f) 2 (0x100 * n + 0xF8) true
  else if bitsOf v 56 8 ≠ 0xA5 ∨ !s.takesWork ∨ s.on HOST_FN_STAT.FENCED f ∨ s.on HOST_FN_STAT.D3 f then s
  else
    let s1 := (s.setOslot f n { o with ticket := bitsOf v 0 32, state := 1, status := 0, reason := 0, badSeal := bitsOf v 32 24 != 0, order := s.sched.seals }).bump SRV_SLIP_CNT.V
    let s2 := { s1 with sched := { s1.sched with seals := s1.sched.seals + 1 } }.raise (232 + f)
    s2.takeBad

/-- SLIP_SEAL (R268): one aligned write of the seal word of slot `n` of function `f`. -/
def execSlipSeal (f n val : Nat) (s : State) : Result :=
  if f < 64 ∧ n < 256 then .next (s.seal f n (val % 2 ^ 64)) else .next s

/-- The body of a TAKEN slip with this OP that no earlier seal precedes (R270). -/
def State.taken (s : State) (f n op : Nat) : Option (List Byte) :=
  let o := s.oslot f n
  if f < 64 ∧ n < 256 ∧ s.firstTaken = some (f, n) ∧ leAt o.bytes 0 1 = op then some o.bytes else none

/-! ### Checks shared by the operations (R273, R275) -/

/-- Every byte from `a` to `b − 1` is zero. -/
def zeroBytes (body : List Byte) (a b : Nat) : Bool := ((body.drop a).take (b - a)).all (· == 0#8)

/-- A power of two from 64 to 1,048,576. -/
def rollLenOk (n : Nat) : Bool := (List.range 15).any fun k => n == 2 ^ (k + 6)

/-- The till roll fields are valid: address, length, index pair, vector (REASON 3). -/
def rollOk (addr widx len vector : Nat) : Bool :=
  addr % 4096 == 0 && widx % 64 == 0 && rollLenOk len && decide (1 ≤ vector) && decide (vector ≤ 63)

/-- The roll that a slip's fields at 0x18 to 0x33 name. -/
def rollOf (f ticket : Nat) (b : List Byte) : Roll :=
  { Roll.init with func := f, ticket := ticket, addr := leAt b 0x18 8, widx := leAt b 0x20 8, len := leAt b 0x28 4,
                   vector := leAt b 0x2C 1, modCount := leAt b 0x30 2, modUs := leAt b 0x32 2 }

/-- The TICKET is that of a live request of the function. -/
def State.liveTicket (s : State) (f t : Nat) : Bool := decide ((s.roll (reqKey f t)).len ≠ 0)

/-- The first failing check among pairs of a condition that must hold and its REASON. -/
def firstReason (cs : List (Bool × Nat)) : Nat := ((cs.find? fun c => !c.1).map (·.2)).getD 0

/-- The checks of session, seal and TICKET that every operation shares. -/
def State.sealChecks (s : State) (f n : Nat) (b : List Byte) : List (Bool × Nat) :=
  let o := s.oslot f n
  [(s.sessionOk f b, 14), (o.ticket != 0 && !o.badSeal, 2)]

/-- A refusal with a reason from 9 to 12 is also written to the slip's own till roll (R272). -/
def State.refuseRoll (s : State) (f n reason : Nat) (r : Roll) (gen : Nat) : State :=
  let s1 := s.refuseSlip f n reason
  let key := reqKey f r.ticket
  ((s1.setRoll key r).putEnd key 2 gen 0)

/-! ### Limits (R279) -/

/-- CUR of a function. -/
def State.cur (s : State) (f : Nat) : Nat := s.rd SRV_FUNC_CEIL.CUR f
/-- D. -/
def State.ceilD (s : State) : Nat := s.rd SRV_STAT.CEIL

/-- Active sequences, those that become active at the next marker among them. -/
def State.activeCount (s : State) : Nat := s.countSeqs fun x => x.active || x.waking
/-- Active sequences of a function. -/
def State.funcActive (s : State) (f : Nat) : Nat := s.countSeqs fun x => (x.active || x.waking) && x.func == f
/-- Admitted sequences. -/
def State.admittedCount (s : State) : Nat := s.countSeqs fun _ => true
/-- Admitted sequences of a function. -/
def State.funcAdmitted (s : State) (f : Nat) : Nat := s.countSeqs fun x => x.func == f

/-- `n` more sequences of a function may be active (R279). -/
def State.mayActivate (s : State) (f n : Nat) : Bool :=
  decide (s.activeCount + n ≤ min 512 s.ceilD) && decide (s.funcActive f + n ≤ s.cur f)
/-- `n` more standing sequences of a function may be admitted. -/
def State.mayAdmit (s : State) (f n : Nat) : Bool :=
  decide (s.admittedCount + n ≤ 4096) && decide (s.funcAdmitted f + n ≤ s.rd SRV_FUNC_CEIL.ADMIT f)

/-- No older parked sequence may become active first: one whose function is below its limit (R279). -/
def State.oldestParked (s : State) (x : Seq) : Bool :=
  s.seqs.all fun e => !(e.2.live && !e.2.active && !e.2.waking && decide (e.2.order < x.order) && decide (s.funcActive e.2.func < s.cur e.2.func))

/-- The need of a slip: the pages of its prompt plus one page per layer. -/
def State.needPages (s : State) (slot len : Nat) : Nat := s.kvLayers slot * ((len + 63) / 64 + 1)

/-- The need fits the free pages and the function's quota (R249). -/
def State.needFits (s : State) (f slot n : Nat) : Bool := decide (n ≤ s.poolFree slot) && s.quotaCovers f slot n

/-! ### GENERATE (R273, R274, R278, R279) -/

/-- FLAGS bit. -/
def slipFlag (b : List Byte) (i : Nat) : Bool := bitAt (leAt b 2 2) i

/-- The FP32 value is finite and at least 0. -/
def nonneg (x : Word32) : Bool := F32.finite x && (!F32.sign x || x.toNat % 2 ^ 31 == 0)

/-- The field ranges of R273 that refuse with REASON 2. -/
def genFields (b : List Byte) (vocab : Nat) : Bool :=
  let plen := leAt b 8 4
  let w (o : Nat) : Word32 := BitVec.ofNat 32 (leAt b o 4)
  decide (leAt b 1 1 < 16) && leAt b 2 2 / 32 == 0 && (leAt b 6 2 == 0xFFFF || decide (leAt b 6 2 < 1024))
    && decide (1 ≤ plen) && decide (plen ≤ 1048575) && decide (1 ≤ leAt b 0xC 4) && decide (leAt b 0xC 4 + plen ≤ 1048576)
    && leAt b 0x10 8 % 4 == 0 && leAt b 0x2F 1 == 0 && nonneg (w 0x34)
    && F32.finite (w 0x38) && F32.lt 0#32 (w 0x38) && !F32.lt 0x3F800000#32 (w 0x38) && decide (leAt b 0x3C 4 ≤ vocab)
    && (!slipFlag b 2 || (decide (leAt b 0x2D 1 < 16) && decide (1 ≤ leAt b 0x2E 1) && decide (leAt b 0x2E 1 ≤ 8)))
    && (!slipFlag b 4 || (leAt b 0x4C 4 % 64 == 0 && decide (leAt b 0x4C 4 < plen))) && zeroBytes b 0x70 0xF8

/-- The live sequence of a function's TICKET. -/
def State.seqOf (s : State) (f t : Nat) : Option Nat :=
  (FMap.keysWhere s.seqs fun _ x => x.live && x.func == f && x.ticket == t && x.job.isNone).head?

/-- The adapter conditions of R313. -/
def State.adapterOk (s : State) (f slot a : Nat) : Bool :=
  a == 0xFFFF || (match (s.adapter a).cur, (s.slot slot).cur with
    | some v, some g => v.modelId == g.man.modelId && (v.owner == f || v.owner == 0xFF)
    | _, _ => false)

/-- The checks of a GENERATE slip, in the order of R278. -/
def State.genReason (s : State) (f n : Nat) (b : List Byte) (vocab crierVocab : Nat) : Nat :=
  let o := s.oslot f n
  let slot := leAt b 1 1
  let share := slipFlag b 4
  let src := s.seqOf f (leAt b 0x48 4)
  firstReason (s.sealChecks f n b ++
    [(genFields b vocab, 2),
     (rollOk (leAt b 0x18 8) (leAt b 0x20 8) (leAt b 0x28 4) (leAt b 0x2C 1), 3),
     (!s.liveTicket f o.ticket && (!share || src.isSome), 7),
     (!share || (match src with
        | some q => decide (leAt b 0x4C 4 ≤ (s.seq q).pos) && (s.seq q).slot == slot && (s.seq q).image.isNone
        | none => false), 2),
     (s.slState slot == slReady && s.kvLayers slot != 0, 4),
     (s.adapterOk f slot (leAt b 6 2), 5),
     (!slipFlag b 2 || (s.slState (leAt b 0x2D 1) == slReady && crierVocab == vocab), 6)])

/-- One page of a shared prefix gains a reference; past the limit of 65,535 a private copy serves (R239, R242, R274). None when no page is free for the copy. -/
def State.sharePage (s : State) (q id : Nat) : Option (Nat × State) :=
  let x := s.seq q
  if (s.page id).ref < 65535 then some (id, s.refUp id)
  else (s.kvFlag KV_ERR.REF_SAT q x.slot).copyPage id x.func x.home

/-- The pages of a list in order, each shared. -/
def State.shareList (s : State) (q : Nat) : List Nat → Option (List Nat × State)
  | [] => some ([], s)
  | id :: ids => (s.sharePage q id).bind fun a => (a.2.shareList q ids).map fun b => (a.1 :: b.1, b.2)

/-- The page lists of all layers, each shared. -/
def State.shareLists (s : State) (q : Nat) : List (List Nat) → Option (List (List Nat) × State)
  | [] => some ([], s)
  | l :: ls => (s.shareList q l).bind fun a => (a.2.shareLists q ls).map fun b => (a.1 :: b.1, b.2)

/-- Admit a GENERATE slip: the sequence, its roll, its home (R229, R223, R313). A prefix for whose private copies no page is free is not shared: the sequence forms it itself (DESIGN CHOICE, log entry 85). -/
def State.admitSlip (s : State) (f n : Nat) (b : List Byte) : State :=
  let o := s.oslot f n
  let slot := leAt b 1 1
  let w (o : Nat) : Word32 := BitVec.ofNat 32 (leAt b o 4)
  match FMap.freshKey s.seqs 0 4096 with
  | none => s
  | some q =>
    let home := s.homeQuarter slot
    let a := leAt b 6 2
    let x : Seq := { Seq.init with
      live := true, func := f, ticket := o.ticket, slot := slot,
      gen := (((s.slot slot).cur).map fun g => g.man.generation).getD 0,
      walkup := slipFlag b 0, rollOn := slipFlag b 1, spec := slipFlag b 2, reject := slipFlag b 3,
      adapter := if a = 0xFFFF then none else ((s.adapter a).cur).map fun v => (a, v.no),
      promptLen := leAt b 8 4, promptAddr := leAt b 0x10 8, maxNew := leAt b 0xC 4, crier := leAt b 0x2D 1, maxDraft := leAt b 0x2E 1,
      temp := w 0x34, topP := w 0x38, topK := leAt b 0x3C 4, seed := leAt b 0x40 8,
      stops := ((List.range 8).map fun i => leAt b (0x50 + 4 * i) 4).filter (· != 0xFFFFFFFF),
      order := s.sched.orders, active := slipFlag b 0, home := home, wh := s.pickHouse home, draft := leAt b 0x2E 1 }
    let s1 := { s with sched := { s.sched with orders := s.sched.orders + 1 } }.setSeq q x
    let s2 := (s1.setRoll (reqKey f o.ticket) (rollOf f o.ticket b)).acceptSlip f n
    if slipFlag b 4 then
      match s.seqOf f (leAt b 0x48 4) with
      | some src =>
        let len := leAt b 0x4C 4
        match s2.shareLists q ((s.seq src).lists.map fun l => l.take (len / 64)) with
        | some (ls, s3) => s3.modSeq q fun y => { y with lists := ls, pos := len }
        | none => s2.kvFlag KV_ERR.REF_SAT q slot
      | none => s2
    else s2

/-- GENERATE (R273 to R279): the next sealed slip is checked and admitted or refused. DESIGN CHOICE (log entry 99): a walk-up slip that finds all 4,096 sequence numbers in use meets the device's admitted limit, REASON 11. The vocabulary sizes of the slot and of the crier are the models' own. -/
def execGenerate (f n vocab crierVocab : Nat) (s : State) : Result :=
  match s.taken f n 1 with
  | none => .next s
  | some b =>
    let slot := leAt b 1 1
    let gen := (((s.slot slot).cur).map fun g => g.man.generation).getD 0
    let reason := s.genReason f n b vocab crierVocab
    if reason ≠ 0 then .next (s.refuseSlip f n reason)
    else
      let r := rollOf f (s.oslot f n).ticket b
      if slipFlag b 0 then
        if !s.mayActivate f 1 then .next (s.refuseRoll f n 9 r gen)
        else if !s.needFits f slot (s.needPages slot (leAt b 8 4)) then .next (s.refuseRoll f n 10 r gen)
        else if s.admittedCount < 4096 then .next (s.admitSlip f n b)
        else .next (s.refuseRoll f n 11 r gen)
      else if s.mayAdmit f 1 then .next (s.admitSlip f n b)
      else .next (s.refuseRoll f n 11 r gen)

/-! ### CANCEL (R275) -/

/-- CANCEL: the target ends with CANCELLED at its next position boundary; an unknown or ended one is refused with REASON 7. -/
def execCancel (f n : Nat) (s : State) : Result :=
  match s.taken f n 2 with
  | none => .next s
  | some b =>
    let t := leAt b 8 4
    let job := FMap.get TuneJob.init s.tunes f
    let strm := (List.range 16).find? fun k => s.rd SRV_PACE_STAT.STATE k != 0 && (s.pace k).func == f && (s.pace k).ticket == t
    let reason := firstReason (s.sealChecks f n b ++
      [(zeroBytes b 1 4 && zeroBytes b 6 8 && zeroBytes b 0xC 0xF8, 2),
       (!s.liveTicket f (s.oslot f n).ticket && ((s.seqOf f t).isSome || (job.live && job.ticket == t) || strm.isSome), 7)])
    if reason ≠ 0 then .next (s.refuseSlip f n reason)
    else
      let s1 := s.acceptSlip f n
      match s.seqOf f t with
      | some q => .next (s1.cancelSeq q 8)
      | none =>
        if job.live && job.ticket == t then .next ((s1.setTune f { job with endAs := some 8 }).tuneBoundary f)
        else match strm with
          | some k => .next (s1.cancelPace k 8)
          | none => .next s1

/-! ### Paced streams (R294 to R298) -/

/-- STREAM_OPEN: opens a paced stream and reserves its stalls. -/
def execStreamOpen (f n : Nat) (s : State) : Result :=
  match s.taken f n 3 with
  | none => .next s
  | some b =>
    let o := s.oslot f n
    let slot := leAt b 1 1
    let k := leAt b 8 1
    let clk := leAt b 9 1
    let per := leAt b 0xC 4
    let reason := firstReason (s.sealChecks f n b ++
      [(decide (slot < 16) && decide (k < 16) && decide (clk < 2) && decide (1 ≤ leAt b 0xA 1) && decide (leAt b 0xA 1 ≤ 16)
          && (clk == 0 || (decide (1000 ≤ per) && decide (per ≤ 1000000)))
          && zeroBytes b 2 4 && zeroBytes b 6 8 && zeroBytes b 0xB 0xC && zeroBytes b 0x10 0x18 && zeroBytes b 0x2D 0x30 && zeroBytes b 0x34 0xF8, 2),
       (rollOk (leAt b 0x18 8) (leAt b 0x20 8) (leAt b 0x28 4) (leAt b 0x2C 1), 3),
       (!s.liveTicket f o.ticket, 7),
       (s.slState slot == slReady, 4),
       (s.rd SRV_PACE_STAT.STATE k == 0 && (List.range 16).all fun j => s.rd SRV_PACE_STAT.STATE j == 0 || s.rd SRV_PACE_STAT.SLOT j != slot, 8)])
    if reason ≠ 0 then .next (s.refuseSlip f n reason)
    else
      let mine := s.slotStalls slot
      let all := (s.reserved ++ mine).eraseDups
      if 6144 * s.rd SRV_PACE_MAX.PCT < 100 * all.length then
        .next (s.refuseRoll f n 12 (rollOf f o.ticket b) ((((s.slot slot).cur).map fun g => g.man.generation).getD 0))
      else
        let s1 := (s.setRoll (reqKey f o.ticket) (rollOf f o.ticket b)).acceptSlip f n
        let s2 := s1.setPace k { Pace.init with func := f, ticket := o.ticket, period := if clk = 1 then 25 * per else 0, openAt := s.now,
                                                deadline := leAt b 0xA 1, stalls := mine }
        let s3 := (s2.setReg SRV_PACE_STAT k 0).wr SRV_PACE_STAT.STATE k 1
        .next (((s3.wr SRV_PACE_STAT.CLOCK k clk).wr SRV_PACE_STAT.SLOT k slot).wr SRV_PACE_STAT.STALLS k mine.length)

/-- An open stream of the function. -/
def State.streamOpen (s : State) (f k : Nat) : Bool := decide (k < 16) && s.rd SRV_PACE_STAT.STATE k == 1 && (s.pace k).func == f

/-- FRAME (R215, R296, R297): queues a frame; its release tick is the next one counted. A stream of a slot that is not READY takes none. -/
def execFrame (f n : Nat) (s : State) : Result :=
  match s.taken f n 4 with
  | none => .next s
  | some b =>
    let k := leAt b 8 1
    let p := s.pace k
    let reason := firstReason (s.sealChecks f n b ++
      [(decide (k < 16) && decide (leAt b 9 1 < 2) && leAt b 0x10 8 % 64 == 0 && leAt b 0x18 8 % 64 == 0
          && zeroBytes b 1 4 && zeroBytes b 6 8 && zeroBytes b 0xA 0xC && zeroBytes b 0x20 0xF8, 2),
       (!s.liveTicket f (s.oslot f n).ticket, 7), (!s.streamOpen f k || s.slState (s.rd SRV_PACE_STAT.SLOT k) == slReady, 4),
       (s.streamOpen f k, 8), (decide (p.frames.length < 8), 13)])
    if reason ≠ 0 then .next (s.refuseSlip f n reason)
    else
      let fr : PFrame := ⟨leAt b 0xC 4, leAt b 0x10 8, leAt b 0x18 8, leAt b 9 1, p.ticks + 1, 0⟩
      .next ((((s.acceptSlip f n).setPace k { p with frames := p.frames ++ [fr] }).wr SRV_PACE_STAT.QUEUED k (p.frames.length + 1)).send
        (.hostRead f fr.input 0))

/-- A stream that is closing and has no frame left ends (R298). -/
def State.paceDone (s : State) (k : Nat) : State :=
  if s.rd SRV_PACE_STAT.STATE k = 2 ∧ (s.pace k).frames = [] then s.endPace k (s.pace k).endAs true else s

/-- STREAM_CLOSE (R298): the queued frames finish, then the END record with DONE. -/
def execStreamClose (f n : Nat) (s : State) : Result :=
  match s.taken f n 5 with
  | none => .next s
  | some b =>
    let k := leAt b 8 1
    let reason := firstReason (s.sealChecks f n b ++
      [(decide (k < 16) && zeroBytes b 1 4 && zeroBytes b 6 8 && zeroBytes b 9 0xF8, 2),
       (!s.liveTicket f (s.oslot f n).ticket, 7), (s.streamOpen f k, 8)])
    if reason ≠ 0 then .next (s.refuseSlip f n reason)
    else .next (((s.acceptSlip f n).wr SRV_PACE_STAT.STATE k 2).paceDone k)

/-- A frame tick of a stream at a CLK_AO time (R295). -/
def State.paceTick (s : State) (k at' : Nat) : State :=
  let p := s.pace k
  (s.setPace k { p with ticks := p.ticks + 1, tickAt := at' }).wr SRV_PACE_STAT.TICKS k (p.ticks + 1)

/-- FRAME_IN_EDGE (R295): a rising edge of FRAME_IN. -/
def execFrameInEdge (s : State) : Result :=
  .next ((List.range 16).foldl (fun s k => if s.rd SRV_PACE_STAT.STATE k ≠ 0 ∧ s.rd SRV_PACE_STAT.CLOCK k = 0 then s.paceTick k s.now else s) s)

/-- FRAME_PERIOD_TICK (R295): PERIOD_US has passed, on CLK_AO from the acceptance of STREAM_OPEN. -/
def execFramePeriodTick (k : Nat) (s : State) : Result :=
  let p := s.pace k
  if k < 16 ∧ s.rd SRV_PACE_STAT.STATE k ≠ 0 ∧ s.rd SRV_PACE_STAT.CLOCK k = 1 ∧ p.openAt + p.period * (p.ticks + 1) ≤ s.now then .next (s.paceTick k (p.openAt + p.period * (p.ticks + 1)))
  else .next s

/-- Every check of a stream's oldest frame has passed, and no pending pair that it depends on stands (R22). -/
def State.frameChecked (s : State) (k : Nat) : Bool := (s.pace k).pairs.isEmpty && !s.strikesOpen (0x10000 + k)

/-- The oldest frame of a stream that may complete: its function is in D0 (R410), its slot serves or retires (R209), its checks have passed (R22), and the device is not stopping (R495). -/
def State.frameReady (s : State) (k : Nat) : Option PFrame :=
  let slot := s.rd SRV_PACE_STAT.SLOT k
  if s.on HOST_FN_STAT.D3 (s.pace k).func || !(s.slState slot == slReady || s.slState slot == slRetiring) || !s.frameChecked k || !s.takesWork then none
  else (s.pace k).frames.head?

/-- Ticks of a stream's own counter left before the deadline of its oldest frame that may complete. -/
def State.frameSlack (s : State) (k : Nat) : Option Int :=
  (s.frameReady k).map fun fr => Int.ofNat (fr.release + (s.pace k).deadline) - Int.ofNat (s.pace k).ticks

/-- A stream's frame runs next: no other stream has an earlier deadline, a tie going to the lower stream number (R296). DESIGN CHOICE (log entry 100): deadlines on the separate tick counters are compared by the ticks left. -/
def State.frameFirst (s : State) (k : Nat) : Bool :=
  match s.frameSlack k with
  | none => false
  | some d => (List.range 16).all fun j => match s.frameSlack j with
    | some e => decide (d < e) || (decide (d = e) && decide (k ≤ j))
    | none => true

/-- The ticks of a stream counted before this CLK_AO edge: a completion on the edge of a tick counts first (R296). -/
def Pace.ticksBefore (p : Pace) (now : Nat) : Nat := if p.tickAt = now then p.ticks - 1 else p.ticks

/-- FRAME_COMPLETE (R22, R296, R297, R301): the oldest checked frame of the stream with the earliest deadline completes; its output is written, then its record, flagged LATE past its deadline tick. -/
def execFrameComplete (k : Nat) (output : List Byte) (s : State) : Result :=
  let p := s.pace k
  match p.frames with
  | [] => .next s
  | fr :: frs =>
    if !s.frameFirst k then .next s else
      let late := decide (fr.release + p.deadline ≤ p.ticksBefore s.now)
      let g := (((s.slot (s.rd SRV_PACE_STAT.SLOT k)).cur).map fun g => g.man.generation).getD 0
      let s1 := (s.setPace k { p with frames := frs }).wr SRV_PACE_STAT.QUEUED k frs.length
      let s2 := s1.send (.hostWrite p.func fr.output output)
      let s3 := if late then (s2.bump SRV_LATE_CNT.V).srvFlag SRV_ERR.LATE p.func else s2
      let rec' : TillRec := ⟨fr.no, fr.release % 2 ^ 32, 0, 16 + (if late then 32 else 0), false, false, 0, g % 256⟩
      .next ((s3.rollPut (reqKey p.func p.ticket) rec').paceDone k)

end Sys2Proof.Machine
end

