-- ==== Sys2Proof/Machine/Sampling.lean ====
section
/-! DEFINITION. Sampling and crier speculation: logits to tokens (R287, R288), log-probabilities (R299) and the acceptance of drafts (R290). -/

namespace Sys2Proof.Machine

/-- FP32 to FP16, to nearest, ties to even; magnitudes beyond the format become infinite. -/
def FP16.ofF32 (x : Word32) : Nat :=
  let sgn := if F32.sign x then 0x8000 else 0
  if F32.isNan x then 0x7E00 + sgn
  else if F32.isInf x then 0x7C00 + sgn
  else sgn + miniOfDy 5 10 15 0x7C00 (F32.toDy x).abs % 0x8000

/-- The logits end the sequence: a NaN, a +∞, or every one −∞ (R288). -/
def logitsBad (ls : List Word32) : Bool :=
  ls.any (fun x => F32.isNan x || x == F32.inf) || ls.all fun x => x == F32.negInf

/-- The largest logit and the lowest token id that has it. -/
def argmax (ls : List Word32) : Nat :=
  ((ls.zipIdx).foldl (fun (best : Word32 × Nat) p => if F32.lt best.1 p.1 then p else best) (ls.headD 0#32, 0)).2

/-- The log-softmax of one token at temperature 1 (R287 step 1). -/
def logProb (ls : List Word32) (t : Nat) : Word32 :=
  let m := ls.getD (argmax ls) 0#32
  let z := ls.foldl (fun a x => F32.add a (expF (F32.sub x m))) 0#32
  F32.sub (F32.sub (ls.getD t F32.negInf) m) (Config.lnF32 z)

/-- What a slip asks of sampling (R273). -/
structure SampleCfg where
  temp : Word32
  topP : Word32
  topK : Nat
  seed : Nat
deriving DecidableEq, Repr

/-- TEMPERATURE = 0. -/
def SampleCfg.greedy (c : SampleCfg) : Bool := c.temp.toNat % 2 ^ 31 == 0

/-- u of R287 for a position and a draw: the top 24 bits of the mixing result over 2²⁴. -/
def drawU (c : SampleCfg) (pos draw : Nat) : Word32 := F32.ofDy ⟨Int.ofNat (mix64 (pos * 256 + draw) c.seed / 2 ^ 40), -24⟩

/-- The tokens kept by TOP_K, by descending value, ties to the lower id, with their unnormalised probabilities (R287 step 3). -/
def topTokens (c : SampleCfg) (ls : List Word32) : List (Nat × Word32) :=
  let xs := (ls.map fun x => F32.div x c.temp).zipIdx
  let ord := sortBy (fun a b => F32.lt b.1 a.1 || (!F32.lt a.1 b.1 && decide (a.2 ≤ b.2))) xs
  let kept := if c.topK = 0 then ord else ord.take c.topK
  let m := (kept.headD (0#32, 0)).1
  kept.map fun p => (p.2, expF (F32.sub p.1 m))

/-- The sum of a list of probabilities. -/
def probSum (ps : List (Nat × Word32)) : Word32 := ps.foldl (fun a p => F32.add a p.2) 0#32

/-- The smallest prefix whose probability reaches TOP_P (R287 step 4). -/
def nucleus (total topP : Word32) : Word32 → List (Nat × Word32) → List (Nat × Word32)
  | _, [] => []
  | acc, p :: ps =>
    let a := F32.add acc p.2
    if F32.lt a (F32.mul topP total) then p :: nucleus total topP a ps else [p]

/-- The first token at which the running sum exceeds a threshold; the last one when none does (R287 step 5). -/
def pickFrom (thr : Word32) : Word32 → Nat → List (Nat × Word32) → Nat
  | _, last, [] => last
  | acc, _, p :: ps =>
    let a := F32.add acc p.2
    if F32.lt thr a then p.1 else pickFrom thr a p.1 ps

/-- The distribution that sampling draws from: token and unnormalised probability, in descending order. -/
def distribution (c : SampleCfg) (ls : List Word32) : List (Nat × Word32) :=
  let ps := topTokens c ls
  nucleus (probSum ps) c.topP 0#32 ps

/-- Draw from a distribution. -/
def drawToken (c : SampleCfg) (pos draw : Nat) (ps : List (Nat × Word32)) : Nat :=
  pickFrom (F32.mul (drawU c pos draw) (probSum ps)) 0#32 (ps.headD (0, 0#32)).1 ps

/-- The token chosen for a position (R287). -/
def chooseToken (c : SampleCfg) (pos draw : Nat) (ls : List Word32) : Nat :=
  if c.greedy then argmax ls else drawToken c pos draw (distribution c ls)

/-- The normalised probability of a token in a distribution. -/
def probOf (ps : List (Nat × Word32)) (t : Nat) : Word32 :=
  match ps.find? fun p => p.1 == t with
  | some p => F32.div p.2 (probSum ps)
  | none => 0#32

/-- The distribution of a model for the acceptance test; greedy sampling puts all weight on the greedy choice. -/
def testDist (c : SampleCfg) (ls : List Word32) : List (Nat × Word32) :=
  if c.greedy then [(argmax ls, 0x3F800000#32)] else distribution c ls

/-- max(0, P_main − P_crier) over the tokens of the main distribution (R290 step 4). -/
def residual (pm pc : List (Nat × Word32)) : List (Nat × Word32) :=
  pm.filterMap fun p =>
    let d := F32.sub (probOf pm p.1) (probOf pc p.1)
    if F32.lt 0#32 d then some (p.1, d) else none

/-- What a verify pass emits: accepted tokens, then one further token of the main model; with the logits each was decided by (R290). `i` counts from 1. -/
def verifyFrom (c : SampleCfg) (reject : Bool) (pos : Nat) : Nat → List (List Word32) → List (List Word32) → List (Nat × Bool × List Word32)
  | i, cl :: cs, ml :: ms =>
    let d := chooseToken (if reject then c else { c with temp := 0#32 }) (pos + i) (8 + i) cl
    if reject then
      let pm := testDist c ml
      let pc := testDist c cl
      let ratio := F32.div (probOf pm d) (probOf pc d)
      if F32.lt (drawU c (pos + i) i) (if F32.lt ratio 0x3F800000#32 then ratio else 0x3F800000#32) then
        (d, true, ml) :: verifyFrom c reject pos (i + 1) cs ms
      else
        let r := residual pm pc
        [(drawToken c (pos + i) 17 (if r.isEmpty then pm else r), false, ml)]
    else if d = argmax ml then (d, true, ml) :: verifyFrom c reject pos (i + 1) cs ms
    else [(argmax ml, false, ml)]
  | i, [], ml :: _ => [(chooseToken c (pos + i) 0 ml, false, ml)]
  | _, _, [] => []

end Sys2Proof.Machine
end

