-- ==== Sys2Proof/Machine/Stats.lean ====
section
/-! DEFINITION. Normalisation statistics of a vector: mean and variance, and the sum of squares with its reciprocal root, over the canonical eighths and tree (R158 to R160). -/

namespace Sys2Proof.Machine

/-- What forming a statistic created (R154): roundings to infinity, and NaNs from infinities of opposite sign. -/
structure Events where
  inf : Nat
  nan : Nat
deriving DecidableEq, Repr

/-- Nothing. -/
def Events.none : Events := ⟨0, 0⟩
/-- Both. -/
def Events.add (a b : Events) : Events := ⟨a.inf + b.inf, a.nan + b.nan⟩
/-- What an operation on x and y with result z created. -/
def Events.of (x y z : Word32) : Events :=
  ⟨ofBool (F32.finite x && F32.finite y && F32.isInf z), ofBool (F32.isNan z && !F32.isNan x && !F32.isNan y)⟩

/-- An FP32 compensated pair, with what forming it created. -/
structure Comp where
  hi : Word32
  lo : Word32
  ev : Events
deriving DecidableEq, Repr

/-- The error-free sum of two FP32 numbers: their rounded sum and what it leaves, nothing of a sum that is not finite (R154). -/
def twoSum (a b : Word32) : Word32 × Word32 :=
  let s := F32.add a b
  let t := F32.sub s a
  (s, if F32.finite s then F32.add (F32.sub a (F32.sub s t)) (F32.sub b t) else 0#32)

/-- The empty sum. -/
def Comp.zero : Comp := ⟨0#32, 0#32, Events.none⟩
/-- One number. -/
def Comp.of (x : Word32) : Comp := ⟨x, 0#32, Events.none⟩
/-- A rounded product. -/
def Comp.prod (x y : Word32) : Comp := ⟨F32.mul x y, 0#32, Events.of x y (F32.mul x y)⟩
/-- Two pairs added: a two-sum of the high parts, whose low part is carried. -/
def Comp.add (p q : Comp) : Comp :=
  let (s, e) := twoSum p.hi q.hi
  ⟨s, if F32.finite s then F32.add (F32.add p.lo q.lo) e else 0#32, (p.ev.add q.ev).add (Events.of p.hi q.hi s)⟩
/-- One number added to a pair. -/
def Comp.push (p : Comp) (x : Word32) : Comp := p.add (Comp.of x)
/-- The pair as one number. -/
def Comp.val (p : Comp) : Word32 := F32.add p.hi p.lo
/-- The pair rounded to one number, which may create an infinity. -/
def Comp.round (p : Comp) : Comp := ⟨p.val, 0#32, p.ev.add (Events.of p.hi p.lo p.val)⟩
/-- The pair divided by a count. -/
def Comp.over (p : Comp) (n : Nat) : Comp := ⟨F32.div p.hi (F32.ofDy (Dy.ofInt n)), F32.div p.lo (F32.ofDy (Dy.ofInt n)), p.ev⟩
/-- The negated pair. -/
def Comp.neg (p : Comp) : Comp := ⟨F32.neg p.hi, F32.neg p.lo, p.ev⟩
/-- The pair with what formed it counted elsewhere. -/
def Comp.counted (p : Comp) : Comp := { p with ev := Events.none }
/-- The compensated sum of pairs, in their order. -/
def Comp.total (ps : List Comp) : Comp := ps.foldl Comp.add Comp.zero
/-- The compensated sum of a list, in its order. -/
def Comp.sum (xs : List Word32) : Comp := Comp.total (xs.map Comp.of)

/-- Count, mean and M2 of a part of a vector (R158). -/
structure Stat where
  n    : Nat
  mean : Comp
  m2   : Comp
deriving DecidableEq, Repr

/-- The identity of the combining rule (R160). -/
def Stat.none : Stat := ⟨0, Comp.zero, Comp.zero⟩

/-- The square of a pair's value. -/
def Comp.square (p : Comp) : Comp := { Comp.prod p.val p.val with ev := p.ev.add (Events.of p.val p.val (F32.mul p.val p.val)) }

/-- A block of 32 elements. -/
def Stat.block (xs : List Word32) : Stat :=
  let mean := (Comp.sum xs).over xs.length
  ⟨xs.length, mean, Comp.total (xs.map fun x => ((Comp.of x).add (Comp.of (F32.neg mean.val))).round.square)⟩

/-- The combining rule of R158. -/
def Stat.combine (a b : Stat) : Stat :=
  if a.n = 0 then b else if b.n = 0 then a else
    let n := a.n + b.n
    let ratio (k : Nat) : Word32 := F32.div (F32.ofDy (Dy.ofInt k)) (F32.ofDy (Dy.ofInt n))
    let dl := b.mean.counted.add a.mean.counted.neg
    let sq := dl.square
    let step := Comp.prod dl.val (ratio b.n)
    ⟨n, a.mean.add { step with ev := step.ev.add b.mean.ev },
      (a.m2.add b.m2).add { Comp.prod sq.hi (ratio (a.n * b.n)) with ev := sq.ev.add (Events.of sq.hi (ratio (a.n * b.n)) (F32.mul sq.hi (ratio (a.n * b.n)))) }⟩

/-- Elements of an eighth: ⌈n / 8⌉ rounded up to a multiple of 32. -/
def eighthLen (n : Nat) : Nat := ((n + 7) / 8 + 31) / 32 * 32
/-- The blocks of an eighth of a vector. -/
def eighthBlocks (xs : List Word32) (i : Nat) : List (List Word32) :=
  blocksOf 32 ((xs.drop (i * eighthLen xs.length)).take (eighthLen xs.length))
/-- The canonical tree of R149 over eight parts. -/
def treeOf {α : Type} (f : α → α → α) (e : Nat → α) : α := f (f (f (e 0) (e 1)) (f (e 2) (e 3))) (f (f (e 4) (e 5)) (f (e 6) (e 7)))

/-- Mean and M2 of a vector: the blocks of an eighth in ascending order, then the eighths by the tree (R158, R160). -/
def vecStat (xs : List Word32) : Stat := treeOf Stat.combine fun i => ((eighthBlocks xs i).map Stat.block).foldl Stat.combine Stat.none
/-- The variance returned is M2 / n. -/
def variance (xs : List Word32) : Comp := ((vecStat xs).m2.over xs.length).round

/-- The sum of squares in the same block, eighth and tree order (R159). -/
def sumSquares (xs : List Word32) : Comp :=
  treeOf Comp.add fun i => ((eighthBlocks xs i).map fun b => Comp.total (b.map fun x => Comp.prod x x)).foldl Comp.add Comp.zero

/-- The largest FP32 pattern whose square times A is at most n, and whether the two agree exactly, for A > 0: the lower neighbour of sqrt(n / A). -/
def rootBelow (A : Dy) (n : Nat) : Nat × Bool :=
  let num := n * 2 ^ (320 - A.e).toNat
  let r := isqrt (num / A.m.natAbs)
  let d := Nat.log2 r - 23
  let p := r / 2 ^ d
  ((Nat.log2 r - 34) * 2 ^ 23 + p, p * 2 ^ d * (p * 2 ^ d) * A.m.natAbs == num)

/-- rs = 1 / sqrt(Σx² / n + ε) to within one unit in the last place (R159): of an inexact value a neighbour, of an exact one it or a neighbour; which one is open (log entry 4). -/
def rmsScale (xs : List Word32) (eps : Word32) : Word32 :=
  let q := sumSquares xs
  let A := ((F32.toDy q.hi).add (F32.toDy q.lo)).add ((F32.toDy eps).mul (Dy.ofInt xs.length))
  let k := Config.rsqrtNear q.hi q.lo xs.length eps
  if F32.isNan q.hi then F32.nan
  else if F32.isInf q.hi then 0#32
  else if A.m = 0 then F32.inf
  else if A.m < 0 then F32.nan
  else
    let (p, exact) := rootBelow A xs.length
    BitVec.ofNat 32 (if exact then p + k % 3 - 1 else p + k % 2)

/-- The normalised elements x × rs × g (R159). -/
def normalised (rs : Word32) (xs gains : List Word32) : List Word32 := List.zipWith (fun x g => F32.mul (F32.mul x rs) g) xs gains

end Sys2Proof.Machine
end

