-- ==== Sys2Proof/Machine/Adapters.lean ====
section
/-! DEFINITION. Adapters and tuning jobs as commands (R310 to R325). -/

namespace Sys2Proof.Machine

/-- An SRV_ADP_ERR flag with its adapter. -/
def State.adpFlag (s : State) (f : RField) (a : Nat) : State := s.flagAt f 0 [(SRV_ADP_ERR.ADAPTER, a)]

/-! ### Adapter images (R310, R311) -/

/-- The BF16 elements at an offset of an image. -/
def bf16s (b : List Byte) (off n : Nat) : List Nat := (List.range n).map fun i => leAt b (off + 2 * i) 2

/-- The target entry at index `i`. -/
def targetAt (b : List Byte) (rank i : Nat) : AdpTarget :=
  let e := b.drop (128 + 32 * i)
  let dIn := leAt e 8 4
  let dOut := leAt e 0xC 4
  { first := leAt e 0 4, count := leAt e 4 2, dIn := dIn, dOut := dOut,
    a := bf16s b (leAt e 0x10 8) (rank * dIn), b := bf16s b (leAt e 0x18 8) (dOut * rank) }

/-- A target entry lies in range, and its matrices lie in the image and are finite. -/
def targetOk (b : List Byte) (rank size i : Nat) : Bool :=
  let e := b.drop (128 + 32 * i)
  let t := targetAt b rank i
  leAt e 6 2 == 0 && decide (1 ≤ t.dIn) && decide (t.dIn ≤ 65536) && decide (1 ≤ t.dOut) && decide (t.dOut ≤ 262144)
    && t.count == (t.dOut + 1023) / 1024 && leAt e 0x10 8 % 64 == 0 && leAt e 0x18 8 % 64 == 0
    && decide (leAt e 0x10 8 + 2 * rank * t.dIn ≤ size) && decide (leAt e 0x18 8 + 2 * rank * t.dOut ≤ size)
    && (t.a ++ t.b).all fun w => F32.finite (BF16.toF32 w)

/-- The FORMAT checks of R311. -/
def adpFormat (b : List Byte) (modelId : Option Nat) : Bool :=
  let n := leAt b 0xC 2
  let rank := leAt b 0xB 1
  let owner := leAt b 0xA 1
  leAt b 0xE 2 == 0 && leAt b 0x14 4 == 0 && leAt b 0x60 32 == 0 && decide (leAt b 8 2 < 1024) && (decide (owner < 64) || owner == 0xFF)
    && decide (1 ≤ rank) && decide (rank ≤ 64) && decide (1 ≤ n) && decide (n ≤ 1024) && F32.finite (BitVec.ofNat 32 (leAt b 0x10 4))
    && leAt b 0x18 8 == b.length && modelId == some (leAt b 0 8) && (List.range n).all (targetOk b rank b.length)

/-- A named reduction exists and has exactly one digital contribution. -/
def redUsable (m : Manifest) (id : Nat) : Bool :=
  match m.reductions.find? fun r => r.id == id with
  | some r => (r.contribs.filter fun c => c.source == digitalSource).length == 1
  | none => false

/-- Live versions of the device. -/
def State.versions (s : State) : Nat := (s.adapters.map fun e => e.2.live.length).sum
/-- Pool granules in use. -/
def State.poolUsed (s : State) : Nat := (s.adapters.map fun e => (e.2.live.map (·.grans.length)).sum).sum

/-- The digest of an adapter image: SHA-512 of bytes 0x80 to SIZE − 1 (R310). -/
def adpDigest (b : List Byte) : Bool := sha512 ((b.take (leAt b 0x18 8)).drop 0x80) == (b.drop 0x20).take 64

/-- ADAPTER_LOAD (R310 to R312, R328): SRV_ADP_CMD OP 1; the image at SRV_ADP_ADDR, and how far the load has come: while it is fetched, and while it is checked, SRV_ADP_STAT.LOAD says so. DESIGN CHOICE (log entry 105). -/
def execAdapterLoad (who : Who) (slot : Nat) (image : List Byte) (stage : LoadStage) (s : State) : Result :=
  .next (s.adminWrite who SRV_ADP_CMD fun s =>
    if stage = .fetching then (s.send (.hostRead 0 (s.rd SRV_ADP_ADDR.V) image.length)).wr SRV_ADP_STAT.LOAD 0 2
    else if stage = .checking then s.wr SRV_ADP_STAT.LOAD 0 1 else
    let s := s.send (.hostRead 0 (s.rd SRV_ADP_ADDR.V) image.length)
    let a := leAt image 8 2
    let n := leAt image 0xC 2
    let rank := leAt image 0xB 1
    let man := ((s.slot slot).cur.map (·.man)).getD Manifest.empty
    let gran := (image.length - 128 - 32 * n + 65535) / 65536
    let refuse (f : RField) : State := (s.adpFlag f a).wr SRV_ADP_STAT.LOAD 0 4
    State.assayDone <| if !adpDigest image then refuse SRV_ADP_ERR.DIGEST
    else if !adpFormat image ((s.slot slot).cur.map (·.man.modelId)) then refuse SRV_ADP_ERR.FORMAT
    else
      let ts := (List.range n).map (targetAt image rank)
      if !(ts.all fun t => (List.range t.count).all fun k => redUsable man (t.first + k)) then refuse SRV_ADP_ERR.TARGET
      else if s.rd SRV_ADP_POOL.GRANULES < s.poolUsed + gran ∨ 1024 ≤ s.versions then refuse SRV_ADP_ERR.SPACE
      else
        let x := s.adapter a
        if 2 ≤ x.live.length then refuse SRV_ADP_ERR.BUSY
        else
          let no := (x.count + 1) % 65536
          let v : AdpVer := ⟨no, slot, man.modelId, leAt image 0xA 1, rank, BitVec.ofNat 32 (leAt image 0x10 4), ts, s.takeFrom 0 (List.range 4) s.takenGrans gran⟩
          ((s.setAdapter a { x with count := no, next := x.next ++ [v] }).wr SRV_ADP_STAT.LOAD 0 3).bump SRV_ADP_LOAD_CNT.V)

/-- ADAPTER_UNLOAD (R314): SRV_ADP_CMD OP 2 ends the current version's currency. -/
def execAdapterUnload (who : Who) (adapter : Nat) (s : State) : Result :=
  .next (s.adminWrite who SRV_ADP_CMD fun s => s.endCurrency (adapter % 1024))

/-! ### Tuning (R317, R318, R324, R325) -/

/-- The field ranges of a TUNE slip. -/
def tuneFields (b : List Byte) : Bool :=
  let x : Word32 := BitVec.ofNat 32 (leAt b 0x34 4)
  decide (leAt b 1 1 < 16) && decide (leAt b 6 2 < 1024) && decide (1 ≤ leAt b 8 4) && decide (leAt b 8 4 ≤ 16777216)
    && decide (1 ≤ leAt b 0xC 2) && decide (leAt b 0xC 2 ≤ 64) && decide (1 ≤ leAt b 0xE 2) && leAt b 0x10 8 % 64 == 0
    && F32.finite x && F32.lt 0#32 x && leAt b 0x38 8 % 4096 == 0 && decide (2 ≤ leAt b 0x40 4) && decide (leAt b 0x40 4 ≤ 65536)
    && zeroBytes b 2 4 && zeroBytes b 0x2D 0x30 && zeroBytes b 0x44 0xF8

/-- Open the sequences of a job's next batch, each with its entry of the sample table, as standing sequences that are bound when the batch begins (R317, R318, R324). -/
def State.openSeqs (s : State) (f place : Nat) : List Sample → State
  | [] => s
  | e :: es =>
    match FMap.freshKey s.seqs 0 4096 with
    | none => s
    | some q =>
      let j := s.tune f
      let home := s.homeQuarter j.slot
      let x : Seq := { Seq.init with
        live := true, func := f, ticket := j.ticket, slot := j.slot, job := some f, promptLen := e.len, promptAddr := e.addr,
        gen := (((s.slot j.slot).cur).map fun g => g.man.generation).getD 0, order := s.sched.orders, home := home, wh := s.pickHouse home,
        tune := { TuneSeq.init with sample := j.taken, lossFrom := e.from', batch := j.batches, place := place } }
      let s1 := { s with sched := { s.sched with orders := s.sched.orders + 1 } }
      ((s1.setSeq q x).setTune f { j with taken := j.taken + 1 }).openSeqs f (place + 1) es

/-- A sample table entry meets its rules: LEN 2 to MAX_LEN, LOSS_FROM below LEN − 1 (R317). -/
def Sample.ok (maxLen : Nat) (e : Sample) : Bool := decide (2 ≤ e.len) && decide (e.len ≤ maxLen) && decide (e.from' + 1 < e.len)

/-- A job with no batch open opens the next one once its entries have been read (R317, R324). DESIGN CHOICE (log entry 106): an entry that breaks its rules ends the job with FAULT_MODEL. -/
def State.openBatch (s : State) (f : Nat) : State :=
  let j := s.tune f
  let n := min j.batch (j.samples - j.taken)
  if !j.live || j.inBatch || j.endAs.isSome || n == 0 || decide (j.queue.length < n) then s
  else if (j.queue.take n).all (Sample.ok j.maxLen) then
    (s.setTune f { j with inBatch := true, queue := j.queue.drop n }).openSeqs f 0 (j.queue.take n)
  else s.endTune f 7

/-- Every stocked matrix between the embedding and the adapter's targets has a transpose reduction (R318, R319). -/
def transposesOk (m : Manifest) (between : List Nat) : Bool :=
  between.all fun p => m.reductions.any fun r => decide (0x80000000 ≤ r.id) && r.contribs.any fun c => c.source == p

/-- TUNE (R317, R318): opens a tuning job, and its first batch with the entries of the sample table read so far. -/
def execTune (f n : Nat) (t : TuneIn) (s : State) : Result :=
  match s.taken f n 6 with
  | none => .next s
  | some b =>
    let o := s.oslot f n
    let slot := leAt b 1 1
    let a := leAt b 6 2
    let man := ((s.slot slot).cur.map (·.man)).getD Manifest.empty
    let owned := match (s.adapter a).cur with
      | some v => v.owner == f
      | none => false
    let reason := firstReason (s.sealChecks f n b ++
      [(tuneFields b, 2),
       (rollOk (leAt b 0x18 8) (leAt b 0x20 8) (leAt b 0x28 4) (leAt b 0x2C 1), 3),
       (!s.liveTicket f o.ticket, 7),
       (s.slState slot == slReady && s.kvLayers slot != 0, 4),
       (s.adapterOk f slot a && owned, 5),
       (man.shards.all (fun e => !e.hasExpert) && man.reductions.all (fun r => r.outDev == 0xFF && r.partDev.all (· == 0xFF))
          && transposesOk man t.between && !(s.tune f).live, 2)])
    if reason ≠ 0 then .next (s.refuseSlip f n reason)
    else if !s.mayAdmit f (leAt b 0xC 2) then
      .next (s.refuseRoll f n 11 (rollOf f o.ticket b) ((((s.slot slot).cur).map fun g => g.man.generation).getD 0))
    else
      let j : TuneJob := { TuneJob.init with
        live := true, func := f, ticket := o.ticket, slot := slot, adapter := a, samples := leAt b 8 4, batch := leAt b 0xC 2, accum := leAt b 0xE 2,
        dataAddr := leAt b 0x10 8, scale := BitVec.ofNat 32 (leAt b 0x34 4), gradAddr := leAt b 0x38 8, maxLen := leAt b 0x40 4, queue := t.samples }
      let s1 := ((s.setRoll (reqKey f o.ticket) (rollOf f o.ticket b)).acceptSlip f n).setTune f j
      .next ((s1.send (.hostRead f j.dataAddr (16 * t.samples.length))).openBatch f)

/-- The elements of an adapter version. -/
def AdpVer.elements (v : AdpVer) : Nat := (v.targets.map fun t => v.rank * (t.dIn + t.dOut)).sum

/-- Elements of the gradient of a round: those of the bound version (R324). -/
def State.gradElems (s : State) (j : TuneJob) : Nat :=
  (((s.adapter j.adapter).live.find? fun v => v.no == j.bound.getD 0).map (·.elements)).getD 0

/-- The order in which a round's contributions are added: batch, sequence within the batch, position (R323). -/
def GradPart.key (p : GradPart) : Nat := (p.batch * 64 + p.place) * 65536 + p.pos

/-- The round's accumulator (R323): each contribution added as an FP32 compensated pair, in ascending order of batch, sequence within the batch and position, whatever the order of arrival. -/
def gradSum (n : Nat) (parts : List GradPart) : List Word32 :=
  let ps := sortBy (fun a b => decide (a.key ≤ b.key)) parts
  (List.range n).map fun i =>
    (Comp.sum (ps.filterMap fun p => if p.off ≤ i ∧ i < p.off + p.vals.length then p.vals[i - p.off]? else none)).val

/-- A sum divided by a count, rounded to FP32 and then to FP16; 0 of no positions. -/
def meanFp16 (sum : Word32) (n : Nat) : Nat :=
  if n = 0 then 0 else FP16.ofF32 (F32.div sum (F32.ofDy (Dy.ofInt (Int.ofNat n))))

/-- What the gradient dy of one target at one position of a sequence brings to the round (R321, R323), from the input that the forward pass saved. -/
def TuneSeq.part (x : TuneSeq) (v : AdpVer) (g : GradIn) : Option GradPart :=
  (v.targets[g.target]?).bind fun t => (x.inputs.find? fun i => i.1 == t.first && i.2.1 == g.tag).map fun i =>
    ⟨x.batch, x.place, g.pos, v.offsetOf g.target, v.gradient t i.2.2 g.dy⟩

/-- The sum of the log-probabilities of a sample's loss positions, in ascending order. -/
def TuneSeq.lossSum (x : TuneSeq) : Word32 := (sortBy (fun a b => decide (a.1 ≤ b.1)) x.losses).foldl (fun a p => F32.add a p.2) 0#32

/-- A sequence of a job has finished both its passes (R320, R321, R325): its gradients join the round, its sample's record is written, and it goes. The adapter's contributions to dx, which the backward pass took on, leave with their sums. -/
def State.finishSample (s : State) (f : Nat) (d : Nat × List GradIn) : State :=
  let j := s.tune f
  let x := s.seq d.1
  if !(x.live && x.job == some f && x.phase == .idle && decide (x.promptLen ≤ x.pos) && s.checked d.1) then s else
    match (s.adapter j.adapter).live.find? fun v => some v.no == j.bound with
    | none => s
    | some v =>
      let n := x.tune.losses.length
      let parts := d.2.filterMap (x.tune.part v)
      let dx := d.2.filterMap fun g => (v.targets[g.target]?).map fun t => (g.tag, v.inputGrad t g.dy)
      let g := (((s.slot j.slot).cur).map fun g => g.man.generation).getD 0
      let s1 := s.setTune f { j with parts := j.parts ++ parts, done := j.done + 1, lossPos := j.lossPos + n, lossSum := F32.add j.lossSum x.tune.lossSum }
      let s2 := dx.foldl (fun s p => s.send (.inputGrad d.1 p.1 p.2)) s1
      (s2.rollPut (reqKey f j.ticket) ⟨x.tune.sample, n, meanFp16 x.tune.lossSum n, 0, false, false, 0, g % 256⟩).freeSeq d.1

/-- The round is complete: ACCUM batches, or the last sample (R324, R325). -/
def TuneJob.roundDue (j : TuneJob) : Bool := !j.inBatch && decide (0 < j.batches) && (decide (j.accum ≤ j.batches) || decide (j.samples ≤ j.done))

/-- A complete round is written (R324): the gradient, the round's record, WIDX. -/
def State.writeRound (s : State) (f : Nat) : State :=
  let j := s.tune f
  let key := reqKey f j.ticket
  let k := j.round
  let size := s.gradElems j
  let g := (((s.slot j.slot).cur).map fun g => g.man.generation).getD 0
  let s1 := s.send (.hostWrite f (j.gradAddr + (k % 2) * 4 * size) (((gradSum size j.parts).map fun w => leBytes 4 w.toNat).flatten))
  let at' := (s1.roll key).written + (s1.roll key).backlog.length
  let s2 := (s1.rollPut key ⟨0x80000000 + j.bound.getD 0, k, meanFp16 j.lossSum j.lossPos, 0, false, false, 0, g % 256⟩).bump SRV_TUNE_ROUND_CNT.V
  (s2.setTune f { j with batches := 0, round := k + 1, recAt := j.recAt ++ [at'], bound := none, parts := [], lossPos := 0, lossSum := 0#32 }).sweepAdapter j.adapter

/-- The record of round k − 2 has been consumed (R324). -/
def State.roundRead (s : State) (j : TuneJob) : Bool :=
  decide (j.round < 2) || decide (j.recAt.getD (j.round - 2) 0 < (s.roll (reqKey j.func j.ticket)).ridx)

/-- What a job does at a batch boundary (R324, R325): a batch with no sequence left has ended; a round that is complete is written, unless the record of the round before the last stands unread, for which the job waits; after the last sample the job ends; else the next batch opens. -/
def State.batchEnd (s : State) (f : Nat) : State :=
  let j := s.tune f
  let drained := j.inBatch && s.countSeqs (fun x => x.job == some f) == 0
  let s1 := if drained then s.setTune f { j with inBatch := false, batches := j.batches + 1 } else s
  let j1 := s1.tune f
  if j1.roundDue then
    if s1.roundRead j1 then
      let s2 := s1.writeRound f
      if j1.samples ≤ j1.done then s2.endTune f 0 else s2.openBatch f
    else s1.send (.hostRead f ((s1.roll (reqKey f j1.ticket)).widx + 8) 8)
  else s1.openBatch f

/-- ROUND_END (R321, R323 to R325): what brings a tuning job to the end of its round: the sequences whose backward pass has ended, each with the gradients dy of its target matrices, and the entries of the sample table read meanwhile. DESIGN CHOICE (log entry 106): the table of commands has no row for the end of a sample or of a batch, so this one carries them. -/
def execRoundEnd (f : Nat) (done : List (Nat × List GradIn)) (next : List Sample) (s : State) : Result :=
  let j := s.tune f
  if !j.live then .next s
  else if j.endAs.isSome then .next (s.tuneBoundary f)
  else
    let s1 := if next.isEmpty then s else
      (s.send (.hostRead f (j.dataAddr + 16 * (j.taken + j.queue.length)) (16 * next.length))).setTune f { j with queue := j.queue ++ next }
    .next ((done.foldl (fun s d => s.finishSample f d) s1).batchEnd f)

end Sys2Proof.Machine
end

