-- ==== Sys2Proof/Machine/Wire.lean ====
section
/-! DEFINITION. What a Cartway port puts on its lanes for a frame that it sends: the 642 bytes of the frame, the codeword that carries it, and the symbols and levels of each lane (R330 to R337). The outbox holds the fields of the frames; these functions say which bytes and symbols they are. -/

namespace Sys2Proof.Machine

/-! ### Frames (R334, R335, R337) -/

/-- One byte of the CRC-32 of IEEE 802.3, least significant bit first. -/
def crcByte (c : Nat) (b : Byte) : Nat :=
  (List.range 8).foldl (fun c _ => if c % 2 = 1 then Nat.xor (c / 2) 0xEDB88320 else c / 2) (Nat.xor c b.toNat)

/-- The CRC-32 of IEEE 802.3 as the Ethernet frame check sequence forms it. -/
def crc32 (bs : List Byte) : Nat := Nat.xor (bs.foldl crcByte 0xFFFFFFFF) 0xFFFFFFFF

/-- The 12 header bytes (R335). -/
def frameHeader (vc first seq ack : Nat) (crs : List Nat) : List Byte :=
  leBytes 4 (vc % 4 + 256 * (first % 1024)) ++ leBytes 2 seq ++ leBytes 2 ack ++ ((padTo 4 0 crs).map (leBytes 1)).flatten

/-- The 642 bytes of a frame: header, body, CRC (R334). -/
def frameBytes (vc first seq ack : Nat) (crs : List Nat) (body : List Byte) : List Byte :=
  let b := frameHeader vc first seq ack crs ++ padTo 626 0#8 body
  b ++ leBytes 4 (crc32 b)

/-- The body of a control message (R337). -/
def controlBody (msg : Nat) (fields : List Nat) : List Byte :=
  let f (i : Nat) : Nat := fields.getD i 0
  let b (i : Nat) : List Byte := leBytes 1 (f i)
  padTo 626 0#8 (leBytes 1 msg ++
    match msg with
    | 1 => b 0 ++ b 1 ++ b 2 ++ b 3 ++ b 4 ++ [0#8, 0#8] ++ leBytes 8 (f 5) ++ b 6 ++ b 7 ++ b 8 ++ b 9 ++ leBytes 2 (f 10)
    | 2 => List.replicate 7 0#8 ++ leBytes 16 (f 0)
    | 3 => [0#8] ++ leBytes 2 (f 0)
    | _ => [])

/-- KIND of the codeword and the bytes of the frame that an output sends: DATA is KIND 1, CONTROL is KIND 2 (R331). A control frame carries VC 0, SEQ 0 and no FIRST. -/
def Out.wire : Out → Option (Nat × List Byte)
  | .frame _ vc first seq ack crs body => some (1, frameBytes vc first seq ack crs body)
  | .control _ msg ack crs fields => some (2, frameBytes 0 0 0 ack crs (controlBody msg fields))
  | _ => none

/-- The frame of an IDLE codeword (KIND 0): its body is zero (R334). -/
def idleFrame (ack : Nat) (crs : List Nat) : List Byte := frameBytes 0 0 0 ack crs []

/-! ### Codewords (R330, R331) -/

/-- The bits of a number, least significant first. -/
def bitsLE (n v : Nat) : List Bool := (List.range n).map (bitAt v)
/-- The number that bits spell, least significant first. -/
def ofBits (bs : List Bool) : Nat := bs.foldr (fun b n => ofBool b + 2 * n) 0

/-- The 5,140 bits of a message: KIND, then each frame byte least significant bit first. -/
def messageBits (kind : Nat) (frame : List Byte) : List Bool := bitsLE 4 kind ++ (frame.map fun b => bitsLE 8 b.toNat).flatten

/-- The self-synchronous scrambler 1 + x³⁹ + x⁵⁸: `reg` holds the last 58 bits sent, the latest first; the bits sent and the new register. -/
def scramble : List Bool → List Bool → List Bool × List Bool
  | reg, [] => ([], reg)
  | reg, b :: bs =>
    let o := (b != reg.getD 38 false) != reg.getD 57 false
    let (os, r) := scramble ((o :: reg).take 58) bs
    (o :: os, r)

/-- The receiver's descrambler, which takes the register from the bits received. -/
def descramble : List Bool → List Bool → List Bool
  | _, [] => []
  | reg, b :: bs => ((b != reg.getD 38 false) != reg.getD 57 false) :: descramble ((b :: reg).take 58) bs

/-- Ten bits at a time. -/
def symbolsOf : Nat → List Bool → List Nat
  | 0, _ => []
  | n + 1, bs => ofBits (bs.take 10) :: symbolsOf n (bs.drop 10)

/-- Multiplication by x in GF(2¹⁰) of Clause 91, modulo x¹⁰ + x³ + 1. -/
def gfDouble (a : Nat) : Nat := if a < 512 then 2 * a else Nat.xor (2 * a) 0x409
/-- Multiplication in GF(2¹⁰). -/
def gfMul (a b : Nat) : Nat :=
  ((List.range 10).foldl (fun (acc : Nat × Nat) i => (if bitAt b i then Nat.xor acc.1 acc.2 else acc.1, gfDouble acc.2)) (0, a)).1
/-- α to the power `n`. -/
def gfPow (n : Nat) : Nat := (List.range n).foldl (fun a _ => gfDouble a) 1

/-- The generator of Clause 91 for 30 parity symbols, ∏ (x − αʲ) for j = 0 to 29, its 30 lower coefficients from x²⁹ down; the leading one is 1. -/
def rsGenerator : List Nat :=
  ((List.range 30).foldl (fun g j =>
    List.zipWith Nat.xor (g ++ [0]) (0 :: g.map (gfMul (gfPow j)))) [1]).drop 1

/-- The 30 parity symbols of a message of 514 symbols: the remainder of its division by the generator, symbol 0 first (R330). -/
def rsParity (msg : List Nat) : List Nat :=
  msg.foldl (fun rem m =>
    let f := Nat.xor m (rem.headD 0)
    List.zipWith Nat.xor (rem.drop 1 ++ [0]) (rsGenerator.map (gfMul f))) (List.replicate 30 0)

/-- The 544 symbols of a codeword, and the scrambler's register after it (R330). -/
def codeword (reg : List Bool) (kind : Nat) (frame : List Byte) : List Nat × List Bool :=
  let (bs, r) := scramble reg (messageBits kind frame)
  let msg := symbolsOf 514 bs
  (msg ++ rsParity msg, r)

/-- The symbols that a lane carries: symbol k goes on lane k mod 4 (R330). -/
def laneSymbols (lane : Nat) (cw : List Nat) : List Nat := (cw.zipIdx.filter fun e => e.2 % 4 == lane).map (·.1)

/-- The Gray code of a bit pair as a PAM4 level: 00, 01, 11 and 10 are levels 0 to 3 (R330). -/
def pam4 (pair : Nat) : Nat := if pair = 2 then 3 else if pair = 3 then 2 else pair

/-- The five levels of a symbol, least significant bit pair first. -/
def symbolLevels (x : Nat) : List Nat := (List.range 5).map fun i => pam4 (bitsOf x (2 * i) 2)

/-- The symbol that every place of an alignment block holds on a lane (R332). -/
def alignSymbol (lane : Nat) : Nat := 0x0D3 + 0x100 * lane

/-- A receiver accepts an alignment block with at most 8 wrong symbols on each lane (R332). -/
def alignOk (block : List Nat) : Bool :=
  block.length == 544 && (List.range 4).all fun lane => decide (((laneSymbols lane block).filter fun x => x != alignSymbol lane).length ≤ 8)

/-- The codeword slot with this number, counted from the start of transmission, holds an alignment block: one follows every 4,095 codewords (R332). -/
def alignSlot (n : Nat) : Bool := n % 4096 == 4095

/-- The taps c−1 and c+1 of the transmit equaliser that a PRESET selects, in hundredths of the full swing (R565). -/
def presetTaps (preset : Nat) : Int × Int :=
  [(0, 0), (-5, 0), (-10, 0), (0, -10), (-5, -10), (-10, -10), (-15, -10), (-10, -20)].getD preset (0, 0)

/-- The main tap c0, which leaves the full swing its whole (R565). -/
def mainTap (preset : Nat) : Int := 100 - (presetTaps preset).1.natAbs - (presetTaps preset).2.natAbs

/-- A receiver treats a codeword of this KIND as uncorrectable (R331). -/
def kindBad (kind : Nat) : Bool := decide (3 ≤ kind)

end Sys2Proof.Machine
end

