-- ==== Sys2Proof/Machine/Links.lean ====
section
/-! DEFINITION. The ports of Cartway: training, HELLO and REACH, the link layer and the partner set (R329 to R348). -/

namespace Sys2Proof.Machine

/-! ### Partners (R346, R348) -/

/-- A dispatch whose home left or cannot be reached: handled under R353. -/
def State.rerouteTo (s : State) (dst : Nat) : State :=
  let ds := s.cart.disps.filter fun d => d.dst == dst
  let s1 := s.modCart fun w => { w with disps := w.disps.filter (fun d => d.dst != dst),
                                        queue := w.queue.filter fun c => !(c.cart.dst == dst && c.cart.typ == 1) }
  ds.foldl (fun s d => s.route { d with since := s.now }) s1

/-- A device leaves the partner set (R348): its pending pairs are retracted, its dispatches rerouted, the other carts queued for it discarded. -/
def State.partnerLeaves (s : State) (d : Nat) : State :=
  let s1 := (s.cart.pend.filter fun p => p.src == d).foldl (fun s p => s.retractPair p.src p.step) (s.raise 212)
  let lost := (s1.cart.queue.filter fun c => c.cart.dst == d && c.cart.typ != 1).length
  ((s1.modCart fun w => { w with queue := w.queue.filter fun c => !(c.cart.dst == d && c.cart.typ != 1) }).bump CW_DISCARD_CNT.V 0 lost).rerouteTo d

/-- Form the partner set again from the masks of the UP ports (R346). -/
def State.formPartners (s : State) : State :=
  let old := s.partners
  let union := ((List.range 8).filter s.portUp).foldl (fun m p => Nat.lor m (s.reach p)) 0
  let new := if bitAt union s.devNo then union - 2 ^ s.devNo else union
  let count := ((List.range 128).filter fun d => bitAt new d).length
  let s1 := ((s.wr CW_PARTNERS_LO.V 0 new).wr CW_PARTNERS_HI.V 0 (new / 2 ^ 64)).wr CW_STAT.PARTNERS 0 count
  let left := (List.range 128).filter fun d => bitAt old d && !bitAt new d
  let came := (List.range 128).filter fun d => !bitAt old d && bitAt new d
  let s2 := came.foldl (fun s _ => s.raise 212) (left.foldl State.partnerLeaves s1)
  if came.isEmpty then s2 else s2.rerouteWaits

/-- Replace the REACH mask of a port. -/
def State.setReach (s : State) (p mask : Nat) : State := ((s.wr CW_PORT_REACH_LO.V p mask).wr CW_PORT_REACH_HI.V p (mask / 2 ^ 64)).formPartners

/-- A cart that its port can no longer carry: requeued whole on another UP port (R340), else handled as for a departed partner. -/
def State.requeue (s : State) (c : TxCart) : State :=
  if (s.portsTo c.cart.dst).isEmpty && c.cart.typ == 1 then s.rerouteTo c.cart.dst else s.queueCart c

/-- A port leaves UP (R340): partly received carts are discarded, carts not acknowledged whole are requeued. Other states only take the new state. -/
def State.leaveUp (s : State) (p st : Nat) : State :=
  let x := s.port p
  let s0 := s.wr CW_PORT_STAT.STATE p st
  if !s.portUp p then s0 else
    let up := s.rd CW_STAT.UP
    let s1 := (s0.wr CW_STAT.UP 0 (if bitAt up p then up - 2 ^ p else up)).setPort p
      { x with kept := [], unacked := [], txRest := [], rxPart := [], rxFrames := [], hello := false, toSend := 0 }
    let own := s1.cart.queue.filter fun c => c.port == p
    let s2 := (s1.modCart fun w => { w with queue := w.queue.filter fun c => c.port != p }).setReach p 0
    (((x.kept.map (·.1)) ++ own).foldl State.requeue s2).cwFlag CW_ERR.DOWN p 0

/-! ### Sending control frames (R337) -/

/-- CR0 to CR3 as the device sends them. -/
def Port.crs (x : Port) : List Nat := (List.range 4).map fun v => FMap.get 0 x.freed v % 256

/-- A control message on a port. -/
def State.sendControl (s : State) (p msg : Nat) (fields : List Nat) : State :=
  let x := s.port p
  s.send (.control p msg ((x.rxSeq + 65535) % 65536) x.crs fields)

/-- REACH with this device's own number (R347). -/
def State.sendReach (s : State) (p : Nat) : State :=
  (s.sendControl p 2 [2 ^ s.devNo]).modPort p fun x => { x with reachAt := s.now }

/-! ### Training (R336) -/

/-- A training trial starts at a rate. -/
def State.startTrial (s : State) (p rate : Nat) : State :=
  let s1 := ((s.wr CW_PORT_STAT.STATE p 1).wr CW_PORT_STAT.RATE p rate).bump CW_RETRAIN_CNT.V
  s1.modPort p fun x => { x with trainAt := s.now, hello := false, toSend := 0 }

/-- Training starts; an UP port leaves UP first. -/
def State.startTraining (s : State) (p : Nat) : State :=
  ((s.leaveUp p 1).wr CW_PORT_CTL.RETRAIN p 0).startTrial p (s.rd CW_PORT_CTL.RATE p)

/-- A write of CW_PORT_CTL: EN rising or RETRAIN starts training, EN falling disables the port. -/
def State.writePortCtl (s : State) (val : Nat) : State :=
  let p := s.rd CW_PORT_SEL.PORT
  let was := s.on CW_PORT_CTL.EN p
  let s1 := s.setReg CW_PORT_CTL p (CW_PORT_CTL.info.write false val (s.getReg CW_PORT_CTL p))
  let is := s1.on CW_PORT_CTL.EN p
  if is && (!was || s1.on CW_PORT_CTL.RETRAIN p) then s1.startTraining p
  else if was && !is then s1.leaveUp p 0
  else s1

/-- PORT_ENABLE (R336): EN of CW_PORT_CTL becomes 1 on the selected port. -/
def execPortEnable (who : Who) (val : Nat) (s : State) : Result :=
  .next (s.adminWrite who CW_PORT_CTL fun s => s.writePortCtl val)

/-- PORT_RETRAIN (R336): RETRAIN is set. -/
def execPortRetrain (who : Who) (val : Nat) (s : State) : Result :=
  .next (s.adminWrite who CW_PORT_CTL fun s => s.writePortCtl val)

/-- TRAINING_TRIAL_FAIL (R336): steps 2 to 5 have not completed 50 ms after t0. -/
def execTrainingTrialFail (port : Nat) (s : State) : Result :=
  if port < 8 ∧ s.rd CW_PORT_STAT.STATE port = 1 ∧ (s.port port).trainAt + 1250000 ≤ s.now then
    let r := s.rd CW_PORT_STAT.RATE port
    let next := if s.on CW_PORT_CTL.FALLBACK port then (if r = 0 then s.rd CW_PORT_CTL.RATE port else r - 1) else r
    .next ((s.cwFlag CW_ERR.TRAIN port 0).startTrial port next)
  else .next s

/-- TRAINING_TRIAL_PASS (R332, R336): the window of step 5 ends; with alignment reached at step 4, a ratio of corrected symbols of at most 2.4 × 10⁻⁴ and no uncorrectable codeword, the port goes on to HELLO. -/
def execTrainingTrialPass (port corr : Nat) (lock : LockIn) (uncorr : Nat) (s : State) : Result :=
  let t := (s.port port).trainAt
  if port < 8 ∧ s.rd CW_PORT_STAT.STATE port = 1 ∧ t + 752500 ≤ s.now ∧ s.now < t + 1250000 then
    let s1 := (s.bump CW_FEC_CORR_CNT.V 0 corr).bump CW_FEC_UNCORR_CNT.V 0 uncorr
    if alignOk lock.block ∧ lock.skew ≤ 64 ∧ corr * 100000 ≤ 24 * lock.sym ∧ uncorr = 0 then
      .next ((s1.wr CW_PORT_STAT.STATE port 2).modPort port fun x => { x with helloAt := s.now, hello := false, toSend := 0 })
    else .next s1
  else .next s

/-! ### Frames received (R335, R338, R339) -/

/-- Frames acknowledged by ACK: they and the carts they carried whole are forgotten. -/
def Port.acked (x : Port) (ack now : Nat) : Port :=
  if x.unacked.any fun f => f.seq == ack then
    let keep := ((x.unacked.dropWhile fun f => f.seq != ack).drop 1)
    let gone := (x.unacked.takeWhile fun f => f.seq != ack).map (·.seq) ++ [ack]
    { x with unacked := keep, ackAt := now, resent := 0,
             kept := x.kept.filter fun c => match c.2 with
               | some q => !gone.contains q
               | none => true }
  else x

/-- Credits returned by CR0 to CR3, modulo 256 (R339). -/
def Port.credited (x : Port) (crs : List Nat) : Port :=
  (crs.zipIdx.take 4).foldl (fun x (c, v) =>
    let d := (c % 256 + 256 - FMap.get 0 x.lastCr v % 256) % 256
    { x with credit := FMap.set 0 x.credit v (FMap.get 0 x.credit v + d), lastCr := FMap.set 0 x.lastCr v (c % 256) }) x

/-- What every frame received brings: corrected symbols, ACK and credits. -/
def State.frameIn (s : State) (p : Nat) (h : FrameIn) : State :=
  let s1 := s.bump CW_FEC_CORR_CNT.V 0 h.corr
  if s.portUp p then s1.modPort p fun x => (x.acked (h.ack % 65536) s.now).credited h.crs else s1

/-- A port enters UP (R336, R347): SEQ starts at 0 in each direction and a REACH goes out at once. Carts received whole before it left UP stay in its receive buffer (R340); their frames came before, and return no credit (DESIGN CHOICE, log entry 110). -/
def State.enterUp (s : State) (p : Nat) : State :=
  let s1 := (s.wr CW_PORT_STAT.STATE p 3).wr CW_STAT.UP 0 (Nat.lor (s.rd CW_STAT.UP) (2 ^ p))
  (s1.modPort p fun x => { x with txSeq := 0, rxSeq := 0, resent := 0, nakAt := none, lastCr := [], freed := [], unacked := [], kept := [],
                                  txRest := [], rxPart := [], rxFrames := [], rx := x.rx.map fun r => { r with frames := [] } }).sendReach p

/-- A frame of IDLE or DATA after a valid HELLO brings the port UP (R336). -/
def State.maybeUp (s : State) (p : Nat) : State :=
  if s.rd CW_PORT_STAT.STATE p = 2 && (s.port p).hello then s.enterUp p else s

/-- HELLO (R336, R337): version, domain and device number are checked; a valid one names the neighbour and its buffers. -/
def execHello (port : Nat) (h : FrameIn) (version role dev nport domain : Nat) (bufs : List Nat) (s : State) : Result :=
  if !(decide (port < 8) && s.rd CW_PORT_STAT.STATE port == 2) then .next (s.bump CW_FEC_CORR_CNT.V 0 h.corr) else
    let s1 := s.bump CW_FEC_CORR_CNT.V 0 h.corr
    if version ≠ 1 ∨ domain ≠ s.rd CW_DOMAIN.DOMAIN then .next (s1.cwFlag CW_ERR.DOMAIN port dev)
    else if role = 0 ∧ (127 < dev ∨ dev = s.devNo) then .next (s1.cwFlag CW_ERR.DUP port dev)
    else if (s.port port).hello then .next s1
    else
      let s2 := ((s1.wr CW_PORT_STAT.SWITCH port (ofBool (role == 1))).wr CW_PORT_STAT.NBR_DEV port dev).wr CW_PORT_STAT.NBR_PORT port nport
      .next (s2.modPort port fun x => { x with hello := true, toSend := 8,
                                               credit := (bufs.zipIdx.take 4).foldl (fun m (b, v) => FMap.set 0 m v (b % 256)) [] })

/-- HELLO_TIMER (R336, R337): a HELLO every 250 cycles until a valid one has come, and 8 more after it. -/
def execHelloTimer (port : Nat) (s : State) : Result :=
  let x := s.port port
  let st := s.rd CW_PORT_STAT.STATE port
  if port < 8 ∧ ((st = 2 ∧ (!x.hello ∨ x.toSend ≠ 0)) ∨ (st = 3 ∧ x.toSend ≠ 0)) ∧ x.helloAt + 250 ≤ s.now then
    .next ((s.sendControl port 1 [1, 0, s.devNo, port, 7, s.rd CW_DOMAIN.DOMAIN, 32, 192, 192, 96, 1024]).modPort port fun y =>
      { y with helloAt := s.now, toSend := y.toSend - 1 })
  else .next s

/-- IDLE_FRAME (R336). -/
def execIdleFrame (port : Nat) (h : FrameIn) (s : State) : Result :=
  if port < 8 then .next ((s.maybeUp port).frameIn port h) else .next s

/-- REACH (R347): the port's mask is replaced and the partner set formed again. -/
def execReach (port : Nat) (h : FrameIn) (mask : Nat) (s : State) : Result :=
  if port < 8 then
    let s1 := s.frameIn port h
    .next (if s.portUp port then s1.setReach port (mask % 2 ^ 128) else s1)
  else .next s

/-- REACH_TIMER (R347): once every 25,000 CLK_AO cycles on each UP port. -/
def execReachTimer (s : State) : Result :=
  .next (((List.range 8).filter fun p => s.portUp p && decide ((s.port p).reachAt + 25000 ≤ s.now)).foldl State.sendReach s)

/-- Send the unacknowledged frames again from one of them; after 8 resends without progress the port retrains (R338). -/
def State.resend (s : State) (p from' : Nat) : State :=
  let x := s.port p
  if x.resent = 8 then s.startTraining p else
    let fs := x.unacked.dropWhile fun f => f.seq != from'
    let s1 := fs.foldl (fun s f => s.send (.frame p f.vc f.first f.seq ((x.rxSeq + 65535) % 65536) x.crs f.body)) s
    (s1.bump CW_REPLAY_CNT.V).modPort p fun x => { x with resent := x.resent + 1, ackAt := s.now }

/-- NAK (R338): the sender resends from EXPECT. -/
def execNak (port : Nat) (h : FrameIn) (expect : Nat) (s : State) : Result :=
  let s1 := s.frameIn port h
  if port < 8 ∧ s.portUp port ∧ (s1.port port).unacked.any fun f => f.seq == expect then .next (s1.resend port expect) else .next s1

/-- ACK_TIMEOUT (R338): ACK has not advanced for 20 µs while frames are outstanding. -/
def execAckTimeout (port : Nat) (s : State) : Result :=
  let x := s.port port
  match x.unacked with
  | f :: _ => if port < 8 ∧ s.portUp port ∧ x.ackAt + 500 ≤ s.now then .next (s.resend port f.seq) else .next s
  | [] => .next s

/-- DOWN (R337, R340): the port leaves UP. -/
def execDown (port : Nat) (h : FrameIn) (s : State) : Result :=
  if port < 8 ∧ s.portUp port then .next ((s.frameIn port h).leaveUp port 4) else .next (s.bump CW_FEC_CORR_CNT.V 0 h.corr)

/-- UNCORRECTABLE_CODEWORD (R331, R333, R334): the codeword, or the frame whose CRC fails, is discarded. -/
def execUncorrectableCodeword (port : Nat) (s : State) : Result :=
  if port < 8 then .next (s.bump CW_FEC_UNCORR_CNT.V) else .next s

/-! ### DATA frames (R338, R341, R344) -/

/-- The whole carts at the front of a byte stream, and the bytes of the one that follows (R341); a TYPE of 0 marks the rest as padding. -/
def takeCarts : Nat → List Byte → List Cart × List Byte
  | 0, b => ([], b)
  | n + 1, b =>
    if b.isEmpty || leAt b 0 1 == 0 then ([], [])
    else if b.length < 32 then ([], b)
    else
      let len := leAt b 4 2
      if b.length < 32 + len then ([], b)
      else
        let c : Cart := ⟨leAt b 0 1, leAt b 1 1, leAt b 2 1, leAt b 3 1, leAt b 6 2, leAt b 8 8, leAt b 16 8, leAt b 24 8, (b.drop 32).take len⟩
        let (cs, rest) := takeCarts n (b.drop (32 + len))
        (c :: cs, rest)

/-- A cart breaks a rule of R344. -/
def State.cartBad (s : State) (vc : Nat) (c : Cart) : Bool :=
  decide (7 < c.typ) || cartVc c.typ != vc || c.dst != s.devNo || !s.isPartner c.src || (FMap.get [] s.cart.seen c.src).contains c.cseq

/-- A cart is accepted into the receive buffer, or discarded. -/
def State.acceptCart (s : State) (p vc : Nat) (frames : List Nat) (c : Cart) : State :=
  if s.cartBad vc c then s.cartLost.cwFlag CW_ERR.DISCARD p c.src else
    let s1 := s.modCart fun w => { w with seen := FMap.set [] w.seen c.src ((c.cseq :: FMap.get [] w.seen c.src).take 4096) }
    (s1.bump CW_RX_CART_CNT.V).modPort p fun x => { x with rx := x.rx ++ [⟨vc, frames, c⟩] }

/-- A frame is freed once no cart in the buffer, and none still arriving, has bytes in it (R339, R358). -/
def State.freeFrame (s : State) (p vc frame : Nat) : State :=
  s.modPort p fun x => if (x.rx.any fun r => r.vc == vc && r.frames.contains frame) || (FMap.get [] x.rxFrames vc).contains frame then x
    else { x with freed := FMap.set 0 x.freed vc ((FMap.get 0 x.freed vc + 1) % 256) }

/-- DATA_FRAME (R338): accepted when its SEQ is the one expected, else discarded, with a NAK at most once per µs while frames are missing. -/
def execDataFrame (port : Nat) (h : FrameIn) (vc seq : Nat) (body : List Byte) (s : State) : Result :=
  let s0 := if port < 8 then (s.maybeUp port).frameIn port h else s
  if !(decide (port < 8) && s0.portUp port && decide (vc < 4)) then .next s0 else
    let x := s0.port port
    if seq % 65536 = x.rxSeq then
      let (cs, rest) := takeCarts 64 (FMap.get [] x.rxPart vc ++ body.take 626)
      let no := seq % 65536
      let held := FMap.get [] x.rxFrames vc ++ [no]
      let s1 := s0.setPort port { x with
        rxSeq := (x.rxSeq + 1) % 65536, rxPart := FMap.set [] x.rxPart vc rest,
        rxFrames := FMap.set [] x.rxFrames vc (if rest.isEmpty then [] else if cs.isEmpty then held else [no]) }
      let s2 := (cs.zipIdx).foldl (fun s (c : Cart × Nat) => s.acceptCart port vc (if c.2 = 0 then held else [no]) c.1) s1
      .next (held.foldl (fun s f => s.freeFrame port vc f) s2)
    else
      let missing := decide ((seq % 65536 + 65536 - x.rxSeq) % 65536 < 32768)
      let due := match x.nakAt with
        | some t => decide (t + 25 ≤ s.now)
        | none => true
      if missing && due then .next ((s0.sendControl port 3 [x.rxSeq]).modPort port fun y => { y with nakAt := some s.now }) else .next s0

/-! ### Sending carts (R339, R341, R355) -/

/-- Send frames of a channel's cart while credit and the window of 1,024 last. -/
def State.sendFrames (s : State) (p vc : Nat) (start : Bool) : Nat → State
  | 0 => s
  | n + 1 =>
    let x := s.port p
    let rest := FMap.get [] x.txRest vc
    if rest.isEmpty then s
    else if FMap.get 0 x.credit vc = 0 then s.bump CW_CREDIT_WAIT_CNT.V
    else if 1024 ≤ x.unacked.length then s
    else
      let body := padTo 626 0#8 (rest.take 626)
      let first := if start then 0 else 0x3FF
      let left := rest.drop 626
      let f : TxFrame := ⟨x.txSeq, vc, first, body⟩
      let y := { x with
        txSeq := (x.txSeq + 1) % 65536, credit := FMap.set 0 x.credit vc (FMap.get 0 x.credit vc - 1), txRest := FMap.set [] x.txRest vc left,
        ackAt := if x.unacked.isEmpty then s.now else x.ackAt, unacked := x.unacked ++ [f],
        kept := if left.isEmpty then x.kept.map fun c => if c.2.isNone && cartVc c.1.cart.typ == vc then (c.1, some x.txSeq) else c else x.kept }
      let s1 := (s.setPort p y).send (.frame p vc first x.txSeq ((x.rxSeq + 65535) % 65536) x.crs body)
      (if left.isEmpty then s1.bump CW_TX_CART_CNT.V else s1).sendFrames p vc false n

/-- The cart in progress on a channel of a port has not begun: no frame of it has been sent. -/
def Port.unbegun (x : Port) (vc : Nat) : Bool :=
  x.kept.any fun c => c.2.isNone && cartVc c.1.cart.typ == vc && c.1.cart.bytes.length == (FMap.get [] x.txRest vc).length

/-- A cart of the queue may go now: with EARLY_EN = 0, or once its step has had its RECEIPT or RETRACT, an unchecked result waits (R356, R377). -/
def State.mayLeave (s : State) (p vc : Nat) (c : TxCart) : Bool :=
  c.port == p && cartVc c.cart.typ == vc && (c.again || (s.on CW_CTL.EARLY_EN && !s.earlyDone c.cart) || !s.uncheckedCart c)

/-- CART_SEND (R339): the cart in progress on a channel of a port, else its first waiting cart, goes out in DATA frames. -/
def execCartSend (port vc : Nat) (s : State) : Result :=
  if !(decide (port < 8) && decide (vc < 4) && s.portUp port && s.on CW_CTL.EN && (s.port port).toSend == 0) then .next s
  else if !(FMap.get [] (s.port port).txRest vc).isEmpty then .next (s.sendFrames port vc ((s.port port).unbegun vc) 128)
  else
    match s.cart.queue.find? (s.mayLeave port vc) with
    | none => .next s
    | some c =>
      let early := !c.again && s.uncheckedCart c
      let n := FMap.get 0 s.cart.cseq c.cart.dst
      let cart := if c.again then c.cart else { c.cart with cseq := n % 65536, flags := c.cart.flags + ofBool early }
      let s1 := if early then s.noteEarly c else s
      let s2 := s1.modCart fun w => { w with queue := w.queue.erase c, cseq := if c.again then w.cseq else FMap.set 0 w.cseq c.cart.dst (n + 1) }
      let s3 := s2.modPort port fun x => { x with txRest := FMap.set [] x.txRest vc cart.bytes, kept := x.kept ++ [({ c with cart := cart, again := true }, none)] }
      .next (s3.sendFrames port vc true 128)

end Sys2Proof.Machine
end

