-- ==== Sys2Proof/Machine/ModeOps.lean ====
section
/-! DEFINITION. The operations of the mode controller that other units call: units and their generations, staging, catch-up and aborts (R448 to R453). -/

namespace Sys2Proof.Machine

/-! ### Units (R448) -/

/-- The physical stall that serves a logical stall 0–6,143. -/
def State.physStall (s : State) (l : Nat) : Nat := stallId (l / 32) (s.physOf (l / 32) (l % 32))

/-- The units of a scope as class and index: 0 the device, 1–4 a quarter. -/
def scopeUnits (scope : Nat) : List (Nat × Nat) :=
  let part (n : Nat) : List Nat := if scope = 0 then List.range n else (List.range (n / 4)).map fun i => i + (scope - 1) * (n / 4)
  (part 6144).map (fun i => (1, i)) ++ (part 192).map (fun i => (2, i)) ++ (part 16).map fun i => (3, i)

/-- A unit takes no part in staging: a stall in SHUTTERED, FAULT or SPARE_IDLE, a weigh house in FAULT, a unit in reset (R448). -/
def State.excluded (s : State) (u : Nat × Nat) : Bool :=
  match u.1 with
  | 1 =>
    let sid := s.physStall u.2
    decide (stShuttered ≤ s.stState sid) || s.boot.inReset.contains sid
  | 2 => s.boot.inReset.contains (12288 + u.2)
  | _ => s.rd WH_STAT.STATE u.2 == 3 || s.boot.inReset.contains (12480 + u.2 / 4)

/-- MODE_GEN of a unit. -/
def State.unitGen (s : State) (u : Nat × Nat) : Nat :=
  match u.1 with
  | 1 => s.rd STL_STAT.MODE_GEN (s.physStall u.2)
  | 2 => s.rd TAL_MODE_GEN.GEN u.2
  | _ => s.rd WH_STAT.MODE_GEN u.2

/-- Set it. -/
def State.setUnitGen (s : State) (u : Nat × Nat) (g : Nat) : State :=
  match u.1 with
  | 1 => s.wr STL_STAT.MODE_GEN (s.physStall u.2) g
  | 2 => s.wr TAL_MODE_GEN.GEN u.2 g
  | _ => s.wr WH_STAT.MODE_GEN u.2 g

/-- The block of a class, and the instance of its registers that a unit has. -/
def State.unitBlock (s : State) (u : Nat × Nat) : Block × Nat :=
  match u.1 with
  | 1 => (.stl, s.physStall u.2)
  | 2 => (.tal, u.2)
  | _ => (.wh, u.2)

/-! ### Entries (R449, R450) -/

/-- A register word with the masked bits replaced. -/
def masked (old mask value : Nat) : Nat := Nat.lor (Nat.land old (Nat.xor mask (2 ^ 64 - 1))) (Nat.land value mask)

/-- A unit fails an entry (R450): OFFSET names no RW register of its block, a masked bit is not RW, or an ordinary write would leave the value unchanged. -/
def State.entryFails (s : State) (u : Nat × Nat) (e : ModeEntry) : Bool :=
  let (b, i) := s.unitBlock u
  match b.regs.find? fun r => r.reg.off == e.offset with
  | none => true
  | some r =>
    let old := (s.getReg r.reg i).toNat
    let new := masked old e.mask e.value
    let rw := r.fields.filter fun f => f.acc == .rw
    let bits := (rw.map fun f => (2 ^ f.wd - 1) * 2 ^ f.lo).foldl Nat.lor 0
    rw.isEmpty || Nat.lor e.mask bits != bits
      || rw.any fun f => f.flt.apply (bitsOf old f.lo f.wd) (bitsOf new f.lo f.wd) != bitsOf new f.lo f.wd

/-- A unit applies one value: the masked bits of the register at OFFSET; STL_CTL.EN = 1 lets held descriptors in (R70). -/
def State.applyBits (s : State) (u : Nat × Nat) (off mask value : Nat) : State :=
  let (b, i) := s.unitBlock u
  let r : Reg := ⟨b, off⟩
  let s1 := s.setReg r i (BitVec.ofNat 64 (masked (s.getReg r i).toNat mask value))
  if u.1 = 1 then s1.refill i else s1

/-- A unit applies its staging copy and sets its MODE_GEN to CUR (R450 step 4). -/
def State.applyStaged (s : State) (u : Nat × Nat) : State :=
  let s1 := (s.modeCtl.entries.filter fun e => e.cls == u.1).foldl (fun s e => s.applyBits u e.offset e.mask e.value) s
  s1.setUnitGen u (s1.rd MODE_GEN.CUR)

/-- The last VALUE written through a mode record for every bit (R453). -/
def State.noteImage (s : State) (e : ModeEntry) : State :=
  let k := e.cls * 65536 + e.offset
  let (m, v) := FMap.get (0, 0) s.modeCtl.image k
  { s with modeCtl := { s.modeCtl with image := FMap.set (0, 0) s.modeCtl.image k (Nat.lor m e.mask, masked v e.mask e.value) } }

/-- A unit is brought level (R453). -/
def State.catchUp (s : State) (u : Nat × Nat) : State :=
  if s.unitGen u = s.rd MODE_GEN.CUR then s else
    let s1 := (s.modeCtl.image.filter fun e => e.1 / 65536 == u.1).foldl (fun s e => s.applyBits u (e.1 % 65536) e.2.1 e.2.2) s
    (s1.setUnitGen u (s1.rd MODE_GEN.CUR)).bump MODE_CATCHUP_CNT.V

/-! ### Phases (R450, R451) -/

/-- The stalls of a reset's scope (R529). -/
def UnitReset.stalls (u : UnitReset) : List Nat :=
  if u.op = 2 then (List.range 48).flatMap fun r => (List.range 33).map (stallId (48 * u.index + r))
  else if u.op = 3 then (List.range 33).map (stallId u.index) else [u.index]

/-- Its rows. -/
def UnitReset.rows (u : UnitReset) : List Nat :=
  if u.op = 2 then (List.range 48).map fun r => 48 * u.index + r else if u.op = 3 then [u.index] else []

/-- Its weigh houses. -/
def UnitReset.houses (u : UnitReset) : List Nat := if u.op = 2 then (List.range 4).map fun h => 4 * u.index + h else []

/-- The scope of a waiting reset closes (R531) unless a mode change is closing, staging or opening (R548): its stalls drain, its weigh houses take no new work. -/
def State.resetDrains (s : State) : State :=
  match s.boot.reset with
  | some u =>
    if 1 ≤ s.rd MODE_STAT.PHASE ∧ s.rd MODE_STAT.PHASE ≤ 3 then s
    else
      let s1 := u.stalls.foldl (fun s sid =>
        if s.stState sid = stShuttered ∨ s.stState sid = stFault ∨ (s.stall sid).drains.contains .rst then s else s.drainReq sid .rst) s
      u.houses.foldl (fun s h => if s.rd WH_STAT.STATE h = 1 then s.wr WH_STAT.STATE h 2 else s) s1
  | none => s

/-- A phase change raises source 221 (R437); a reset that waited for the change begins to close its scope. -/
def State.modePhase (s : State) (p : Nat) : State :=
  let s1 := (s.wr MODE_STAT.PHASE 0 p).raise 221
  if p = 4 ∨ p = 5 then s1.resetDrains else s1

/-- A MODE_ERR flag with its unit. -/
def State.modeFlag (s : State) (f : RField) (u : Nat × Nat) : State := s.flagAt f 0 [(MODE_ERR.CLASS, u.1), (MODE_ERR.INDEX, u.2)]

/-- The scope reopens: the drains that the change asked for end, and its weigh houses serve again. -/
def State.modeReopen (s : State) : State :=
  (scopeUnits (s.rd MODE_STAT.SCOPE)).foldl (fun s u =>
    match u.1 with
    | 1 => s.drainRel (s.physStall u.2) .mode
    | 2 => s
    | _ => if s.rd WH_STAT.STATE u.2 = 2 then s.wr WH_STAT.STATE u.2 1 else s) s

/-- Abort the change (R451): staging copies are discarded, CUR does not change. -/
def State.modeAbort (s : State) : State :=
  let ph := s.rd MODE_STAT.PHASE
  if ph = 1 ∨ ph = 2 then
    let s1 := ({ s with modeCtl := { s.modeCtl with entries := [] } } : State).modeReopen
    ((s1.wr MODE_GEN.STAGED 0 0).bump MODE_ABORT_CNT.V).modePhase 4
  else s

end Sys2Proof.Machine
end

