-- ==== Sys2Proof/Machine/Stocking.lean ====
section
/-! DEFINITION. The stocking engine (chapter 6): images, jobs, program and touch-up of crates, the journal, restocks and the level-readback scrub. -/

namespace Sys2Proof.Machine

/-! ### Indices and groups -/

/-- The journal index of a record's crate: that of the physical stall that serves its logical stall (R172, R184). -/
def State.physCrate (s : State) (index : Nat) : Nat :=
  jrnIndex (stallId (index / 1024) (s.physOf (index / 1024) (index / 32 % 32))) (index % 32)

/-- Field of STL_GRP_CFG for group g: FMT at 0, VERIFIED at 2, PAIRED at 3. -/
def grpField (g lo wd : Nat) : RField := ⟨STL_GRP_CFG, 8 * g + lo, wd, .ro, 0, .any⟩

/-- A touch-up restock of the group has passes to come: the group is out of service until its last pass ends (R188). -/
def State.restocking (s : State) (sid g : Nat) : Bool :=
  match s.stock with
  | some j => j.restock && !j.touch.isEmpty && j.recs.any fun r => jrnStall r.1 == sid && jrnGroup r.1 == g
  | none => false

/-- STL_GRP_CFG of a group follows from its journal entries (R31, R183, R188, R193). -/
def State.regroup (s : State) (sid g : Nat) : State :=
  let es := (groupCrates sid g).map s.jrn
  let ok := !s.restocking sid g && es.all fun e => e.state == .verified && e.image == (es.headD JEntry.init).image
  let fmt := ((es.find? fun e => e.state != .empty).map (·.fmt)).getD 0
  let s1 := ((s.wr (grpField g 0 2) sid fmt).wr (grpField g 2 1) sid (ofBool ok)).wr (grpField g 3 1) sid (ofBool (es.all fun e => e.paired))
  if ok then s1.modGroup (groupId sid g) fun x => { x with scrubBad := false } else s1

/-- Write a journal entry and what follows from it. -/
def State.journalWrite (s : State) (i : Nat) (e : JEntry) : State := (s.setJrn i e).regroup (jrnStall i) (jrnGroup i)

/-- The CAL_REPAIR_SEL of a spare: kind 0 a spare row of a crate, 1 a spare column. -/
def repairSel (sid g crate kind entry : Nat) : Nat :=
  rowOf sid + 2 ^ 8 * posOf sid + 2 ^ 14 * g + 2 ^ 16 * (if kind = 1 then 0 else crate) + 2 ^ 19 * kind + 2 ^ 20 * entry

/-- CAL_REPAIR_DATA of a spare, FUSED aside. -/
def State.repairAt (s : State) (sel : Nat) : Nat := FMap.get 0 s.cal.repairs sel

/-- Two selectors name spares of the same kind over the same crates. -/
def sameSpan (a b : Nat) : Bool := a % 2 ^ 20 == b % 2 ^ 20

/-- The crates that a spare row or column spans, by CAL_REPAIR_SEL (R478). -/
def spanned (sel : Nat) : List Nat :=
  let sid := stallId (bitsOf sel 0 8) (bitsOf sel 8 6)
  let g := bitsOf sel 14 2
  if bitAt sel 19 then groupCrates sid g else [jrnIndex sid (8 * g + bitsOf sel 16 3)]

/-! ### Cells (R29 to R33, R172) -/

/-- The spare of a span that replaces a logical row or column in the strikes of its stall, if one does: an entry in effect since the last strike edge (R32, R478); `sel` names any spare of the span. -/
def State.spareFor (s : State) (sel logical : Nat) : Option Nat :=
  ((s.stall (selStall sel)).lines.find? fun e => sameSpan e.1 sel && bitAt e.2 10 && bitsOf e.2 0 10 == logical).map fun e => bitsOf e.1 20 5

/-- The row line of a crate that the driver of a logical row drives: rows 0 to 1,023, then the 16 spare rows (R32). -/
def State.rowLine (s : State) (i row : Nat) : Nat :=
  match s.spareFor (repairSel (jrnStall i) (jrnGroup i) (i % 8) 0 0) row with
  | some k => 1024 + k
  | none => row

/-- The column line of an output group that the converter bank reads for a logical column: columns 0 to 1,023, then the 32 spare columns (R32). -/
def State.colLine (s : State) (sid g col : Nat) : Nat :=
  match s.spareFor (repairSel sid g 0 1 0) col with
  | some k => 1024 + k
  | none => col

/-- The logical row or column that a line carries: its own, or the one its spare replaces; none for an unused spare. -/
def State.lineHolds (s : State) (sid g crate kind line : Nat) : Option Nat :=
  if line < 1024 then some line
  else
    let e := s.repairAt (repairSel sid g crate kind (line - 1024))
    if bitAt e 10 then some (bitsOf e 0 10) else none

/-- The target grid position of the cell at a row line and a column line of a crate as it was last programmed: the logical weights, those that spares replace, the reference columns REF_Z, REF_LO, REF_HI and REF_PAT at lines 1,056 to 1,059, and the zero point in an unused spare (R30, R32, R33, R172). -/
def State.cellTarget (s : State) (i row line : Nat) : Nat :=
  let fmt := (s.jrn i).fmt
  let r := s.lineHolds (jrnStall i) (jrnGroup i) (i % 8) 0 row
  if line = 1056 then (WFmt.ofCode fmt).pz
  else if line = 1057 then 0
  else if line = 1058 then 15
  else if line = 1059 then (if (r.getD row) % 2 = 0 then 15 else 0)
  else match r, s.lineHolds (jrnStall i) (jrnGroup i) 0 1 line with
    | some r, some c => gridPos fmt (levelCode (FMap.get CrateData.init s.digests i).levels r c)
    | _, _ => (WFmt.ofCode fmt).pz

/-- Every level code lies within its format (R30, R174). -/
def levelsOk (fmt : Nat) (b : List Byte) : Bool :=
  b.all fun x => decide (x.toNat % 16 < (WFmt.ofCode fmt).levels) && decide (x.toNat / 16 < (WFmt.ofCode fmt).levels)

/-! ### Repairs and flags -/

/-- PENDING of a repair clears once every crate that it spans has been restocked (R478). -/
def State.settleRepairs (s : State) : State :=
  s.cal.repairs.foldl (fun s e =>
    if bitAt e.2 12 && (spanned e.1).all (fun i => (s.jrn i).state == .verified) then
      { s with cal := { s.cal with repairs := FMap.set 0 s.cal.repairs e.1 (e.2 - 2 ^ 12) } }
    else s) s

/-- A stocking flag whose cause is no crate: STK_ERR.INDEX takes a free value (R196 gives none). -/
def State.stkFlagFree (s : State) (f : RField) : State :=
  let (v, s1) := s.takeFree
  s1.stkFlag f (v % 2 ^ 18)

/-- A stocking flag whose cause is the first of some crates, if there is one. -/
def State.stkFlagOf (s : State) (f : RField) (is : List Nat) : State :=
  match is.head? with
  | some i => s.stkFlag f i
  | none => s.stkFlagFree f

/-! ### Jobs -/

/-- The states of STK_STAT.JOB (R196). -/
def jobProgramming : Nat := 2
/-- SETTLING. -/
def jobSettling : Nat := 3
/-- TOUCHING. -/
def jobTouching : Nat := 4

/-- The groups that the job's crates belong to. -/
def State.jobGroups (s : State) : List (Nat × Nat) :=
  match s.stock with
  | some j => (j.recs.map fun r => (jrnStall r.1, jrnGroup r.1)).eraseDups
  | none => []

/-- End the job: STK_STAT.JOB and source 209; a group whose crates are all VERIFIED is in service (R183). -/
def State.endJob (s : State) (st : Nat) : State :=
  ((s.jobGroups.foldl (fun s g => State.regroup s g.1 g.2) ({ s with stock := none } : State)).wr STK_STAT.JOB 0 st |>.wr STK_STAT.LEFT 0 0 |>.wr STK_STAT.SETTLE_LEFT 0 0).raise 209

/-- STK_STAT shows how many crates are in progress and not yet programmed. -/
def State.showJob (s : State) : State :=
  let left := match s.stock with
    | some j => if j.restock then 0 else j.todo.length + (s.working.filter fun w => !w.touch).length
    | none => 0
  (s.wr STK_STAT.ACTIVE 0 s.working.length).wr STK_STAT.LEFT 0 left

/-- What follows when no crate is in progress: an aborted or failing job ends; a programmed one settles; a touched one ends (R184, R186, R188). -/
def State.jobNext (s : State) : State :=
  match s.stock with
  | none => s.showJob
  | some j =>
    if !s.working.isEmpty then s.showJob
    else if j.abort then s.showJob.endJob 7
    else if j.failing then s.showJob.endJob 6
    else if s.rd STK_STAT.JOB = jobProgramming ∧ j.todo.isEmpty then
      ({ s with stock := some { j with settleAt := s.rd WDN_ROUND.V + 58594 } }.wr STK_STAT.JOB 0 jobSettling |>.wr STK_STAT.SETTLE_LEFT 0 58594).showJob
    else if s.rd STK_STAT.JOB = jobTouching ∧ j.touch.isEmpty then
      let ok := j.recs.all fun r => (s.jrn r.1).state == .verified
      let s1 := if j.restock && ok then
          match j.recs.head? with
          | some r => s.fastMode (groupId (jrnStall r.1) (jrnGroup r.1))
          | none => s
        else s
      s1.showJob.endJob (if ok then 5 else 6)
    else s.showJob

/-! ### Image checks (R170 to R173) -/

/-- The first two checks of R173: the header's signature under charter key KEY_INDEX (R512), TABLE_DIGEST against the record table, the header's fields (R171), and every record's fields with each INDEX in range and once (R172). -/
def State.imageOk (s : State) (hdr : List Byte) (h : ImageHdr) (recs : List CrateRec) (table : List Byte) : Bool :=
  s.signed h.keyIndex hdr h.sigR h.sigS && leAt (sha512 (table.take (96 * h.count))) 0 64 == h.digest
    && h.imageId != 0 && h.version == 1 && decide (1 ≤ h.count) && decide (h.count ≤ 196608) && h.recOffset % 64 == 0 && h.rsvd == 0
    && recs.all (fun r => decide (r.index < 196608) && r.rsvd == 0 && decide (r.fmt < 4) && r.offset % 4096 == 0)
    && decide ((recs.map (·.index)).Nodup)

/-- A record's output group holds one FMT, the journal's counted for its crates not in the image (R31, R173). DESIGN CHOICE (log entry 97): the FMT of a crate that is EMPTY counts too. -/
def State.fmtOk (s : State) (recs : List (Nat × CrateRec)) (r : Nat × CrateRec) : Bool :=
  (groupCrates (jrnStall r.1) (jrnGroup r.1)).all fun i =>
    match recs.find? fun x => x.1 == i with
    | some x => x.2.fmt == r.2.fmt
    | none => (s.jrn i).fmt == r.2.fmt

/-- A record follows R193. -/
def pairOk (recs : List (Nat × CrateRec)) (r : Nat × CrateRec) : Bool :=
  !r.2.paired ||
    match recs.find? fun x => x.2.index == r.2.partner with
    | some (_, x) => x.paired && x.partner == r.2.index && x.fmt == r.2.fmt && x.digest == r.2.digest
        && x.index % 32 == r.2.index % 32 && x.index / 1024 != r.2.index / 1024
    | none => false

/-- The image table slot for an image: the one that already holds the pair, else the first that no journal entry names (R184 step 1). -/
def State.imageSlot (s : State) (id digest : Nat) : Option Nat :=
  match s.images.find? fun e => e.2 == (id, digest) with
  | some e => some e.1
  | none => (List.range 256).find? fun k => !(s.journal.any fun e => e.2.state != .empty && e.2.image == k)

/-- A job is running (R194). -/
def State.jobRunning (s : State) : Bool := s.stock.isSome

/-- VDD_STK is not there: it was last read out of its tolerance (R179), its regulator is faulted (R501), or the device stops or has stopped for heat (R495). -/
def State.stkRailOff (s : State) : Bool :=
  s.warden.stkOut || decide (3 ≤ s.rd WDN_STAT.THERM) ||
    (List.range 16).any fun v => s.on WDN_VR_CFG.EN v && s.rd WDN_VR_CFG.RAIL v == 9 && s.on WDN_VR_STAT.FAULT v

/-- A refused job; `is` are the crates that caused it. -/
def State.refuseJob (s : State) (f : RField) (is : List Nat) : State := ((s.stkFlagOf f is).wr STK_STAT.JOB 0 6).raise 209

/-- A scrub of a crate that a job names is abandoned (R194). -/
def State.dropScrub (s : State) (is : List Nat) : State :=
  if s.scrub.busy.any fun i => is.contains i then { s with scrub := { s.scrub with busy := none } } else s

/-- The crate keeps its state in a job (R184 step 2): VERIFIED or PROGRAMMED, with the job's slot and the record's FMT. -/
def State.keptCrate (s : State) (slot : Nat) (r : Nat × CrateRec) : Bool :=
  let e := s.jrn r.1
  (e.state == .verified || e.state == .programmed) && e.image == slot && e.fmt == r.2.fmt

/-- STOCKING_JOB_START (R184): STK_CMD with OP = 1. The image's header and record table are read through the porter at STK_IMG_ADDR (R170, R391). A read of them that meets an uncorrectable error is made again (R397). -/
def execStockingJobStart (who : Who) (hdr table : List Byte) (hdrErr tableErr : MemErr) (s : State) : Result :=
  .next (s.adminWrite who STK_CMD fun s =>
    if s.jobRunning then s.stkFlagFree STK_ERR.BUSY
    else if s.stkRailOff then s.refuseJob STK_ERR.RAIL []
    else
      let at' := s.rd STK_IMG_ADDR.V
      let h := ImageHdr.ofBytes hdr
      if !(s.spanOk at' 320 && s.spanOk (at' + h.recOffset) (96 * h.count)) then (s.memFlag MEM_ERR.RANGE 0).refuseJob STK_ERR.SIG []
      else
        let s := (((s.touchSpan at' 320).touchSpan (at' + h.recOffset) (96 * h.count)).readMem hdrErr).readMem tableErr
        let recs := (entriesOf 96 h.count 0 table).map CrateRec.ofBytes
        State.assayDone <| if !s.imageOk hdr h recs table then s.refuseJob STK_ERR.SIG []
        else
          let rs := sortBy (fun a b => decide (a.1 ≤ b.1)) (recs.map fun r => (s.physCrate r.index, r))
          match rs.find? fun r => !s.fmtOk rs r with
          | some r => s.refuseJob STK_ERR.MIXED_FMT [r.1]
          | none => match rs.find? fun r => !pairOk rs r with
            | some r => s.refuseJob STK_ERR.PAIR [r.1]
            | none => match s.imageSlot h.imageId h.digest with
              | none => s.refuseJob STK_ERR.SIG []
              | some k =>
                let j : StockJob := { slot := k, recs := rs, todo := (rs.filter fun r => !s.keptCrate k r).map (·.1), touch := [], restock := false,
                                      abort := false, failing := false, settleAt := 0, abortAt := 0, addr := at' }
                let s1 := s.dropScrub (rs.map (·.1))
                ({ s1 with images := FMap.set (0, 0) s1.images k (h.imageId, h.digest), stock := some j }.wr STK_STAT.JOB 0 jobProgramming).jobNext)

/-- TOUCHUP_RESTOCK (R188): STK_CMD with OP = 2, on the group that holds crate INDEX, each crate VERIFIED. -/
def execTouchupRestock (who : Who) (index : Nat) (s : State) : Result :=
  .next (s.adminWrite who STK_CMD fun s =>
    if s.jobRunning then s.stkFlag STK_ERR.BUSY index
    else if s.stkRailOff then s.stkFlag STK_ERR.RAIL index
    else
      let is := groupCrates (jrnStall index) (jrnGroup index)
      if index < jrnCount ∧ is.all (fun i => (s.jrn i).state == .verified) then
        let j : StockJob := { slot := (s.jrn index).image, recs := is.map fun i => (i, ⟨0, (s.jrn i).fmt, 0, 0, 0, 0, 0⟩), todo := [], touch := is,
                              restock := true, abort := false, failing := false, settleAt := 0, abortAt := 0, addr := 0 }
        ({ s with stock := some j }.wr STK_STAT.JOB 0 jobTouching).showJob
      else s)

/-- STOCKING_ABORT (R186): STK_CMD with OP = 3. -/
def execStockingAbort (who : Who) (s : State) : Result :=
  .next (s.adminWrite who STK_CMD fun s =>
    match s.stock with
    | some j => { s with stock := some { j with abort := true, abortAt := if j.abort then j.abortAt else s.now } }.jobNext
    | none => s)

/-- The scrub of a crate begins: 65 slots of its group, for which its stall wakes (R191, R487). -/
def State.startScrub (s : State) (i : Nat) : State :=
  ({ s with scrub := { s.scrub with busy := some i, left := 65 } } : State).wakeStall (jrnStall i)

/-- SCRUB_CRATE_NOW (R196): STK_CMD with OP = 4, on a VERIFIED crate. -/
def execScrubCrateNow (who : Who) (index : Nat) (s : State) : Result :=
  .next (s.adminWrite who STK_CMD fun s =>
    if index < jrnCount ∧ (s.jrn index).state = .verified ∧ s.scrub.busy = none then s.startScrub index else s)

/-! ### Crates (R175 to R180, R185, R190) -/

/-- The rows of waiting crates that hold stocking back: above 85 °C, until 80 °C (R180). -/
def State.hotRows (s : State) (is : List Nat) : State :=
  ((is.map fun i => rowOf (jrnStall i)).eraseDups).foldl (fun s r =>
    let t := s.rowTemp r
    if 850 < t then
      let s1 := s.modRow r fun x => { x with stkHot := true }
      if (s.row r).stkHot then s1 else s1.stkFlagOf STK_ERR.TEMP (sortBy (fun a b => decide (a ≤ b)) (is.filter fun i => rowOf (jrnStall i) == r))
    else if t ≤ 800 then s.modRow r fun x => { x with stkHot := false }
    else s) s

/-- The crates that the job's present phase has still to take. -/
def StockJob.waiting (j : StockJob) (phase : Nat) : List Nat :=
  if phase = jobProgramming then j.todo else if phase = jobTouching then j.touch else []

/-- The rows' temperatures have been read anew (R180, R194): rows with waiting crates are held back or resume, another row holds nothing. -/
def State.judgeStock (s : State) : State :=
  let is := (s.stock.map fun j => j.waiting (s.rd STK_STAT.JOB)).getD []
  let rows := is.map fun i => rowOf (jrnStall i)
  let idle := (s.rows.filter fun e => e.2.stkHot && !rows.contains e.1).map (·.1)
  (idle.foldl (fun s r => s.modRow r fun x => { x with stkHot := false }) s).hotRows is

/-- The next crate that the limits of R178 and R180 allow. -/
def State.nextCrate (s : State) (is : List Nat) : Option Nat :=
  if s.working.length < s.rd STK_CTL.CONC then
    (sortBy (fun a b => decide (a ≤ b)) is).find? fun i =>
      !(s.working.any fun w => jrnStall w.index == jrnStall i)
        && decide ((s.working.filter fun w => quarterOf (rowOf (jrnStall w.index)) == quarterOf (rowOf (jrnStall i))).length < 12)
        && !(s.row (rowOf (jrnStall i))).stkHot
  else none

/-- No strike of the crate's group is integrating or converting (R177). -/
def State.groupQuiet (s : State) (i : Nat) : Bool :=
  (s.stall (jrnStall i)).inflight.all fun x => !(x.stage == .issued && x.desc.stock && x.desc.group == jrnGroup i)

/-- The warning and refusal of R190, for a step that would raise COUNT to n. -/
def State.wear (s : State) (i n : Nat) : State := if 9000 ≤ n then s.stkFlag STK_ERR.WEAR i else s

/-- The job ends FAILED after the crates in progress. -/
def State.failJob (s : State) : State :=
  match s.stock with
  | some j => { s with stock := some { j with failing := true } }.jobNext
  | none => s

/-- How many refetches brought level data that matches DATA_DIGEST with every code within FMT; none within three. A fetch that meets an uncorrectable error brings no data (R174, R397). -/
def refetches (r : CrateRec) (fetched : List Fetch) : Option Nat :=
  ((fetched.take 4).zipIdx.find? fun f => f.1.err.ue.isNone && leAt (sha512 f.1.data) 0 64 == r.digest && levelsOk r.fmt f.1.data).map (·.2)

/-- The record of a crate of a job. -/
def StockJob.recOf (j : StockJob) (i : Nat) : CrateRec := ((j.recs.find? fun x => x.1 == i).map (·.2)).getD (CrateRec.ofBytes [])

/-- CRATE_PROGRAM_START (R174, R175, R177): `fetched` is the next crate's level data as the first fetch and any refetches brought it. Data that passes R174 goes on: its group leaves service, and once no strike of the group is in hand the engine takes the crate. Four fetches that fail end the job; fewer do nothing yet. -/
def execCrateProgramStart (fetched : List Fetch) (s : State) : Result :=
  match s.stock with
  | none => .next s
  | some j =>
    if s.rd STK_STAT.JOB ≠ jobProgramming ∨ j.abort ∨ j.failing then .next s else
      let s0 := s.hotRows j.todo
      match s0.nextCrate j.todo with
      | none => .next s0
      | some i =>
        let e := s0.jrn i
        let r := j.recOf i
        if 10000 ≤ e.count then .next ((s0.stkFlag STK_ERR.WORN i).failJob)
        else if !s0.spanOk (j.addr + r.offset) 524288 then
          .next ((((s0.memFlag MEM_ERR.RANGE 0).bump STK_REFETCH_CNT.V 0 3).stkFlag STK_ERR.DIGEST i).failJob)
        else
          let n := refetches r fetched
          let used := fetched.take ((n.getD 3) + 1)
          let s0 := used.foldl (fun s f => s.readMem f.err) (s0.touchSpan (j.addr + r.offset) 524288)
          match n with
          | none => .next (if 4 ≤ fetched.length then ((s0.bump STK_REFETCH_CNT.V 0 3).stkFlag STK_ERR.DIGEST i).failJob else s0)
          | some n =>
            let s1 := (s0.bump STK_REFETCH_CNT.V 0 n).wr (grpField (jrnGroup i) 2 1) (jrnStall i) 0
            if !s1.groupQuiet i then .next s1
            else
              let s2 := (((s1.dropScrub [i]).wear i (e.count + 1)).journalWrite i ⟨.programming, e.count + 1, j.slot, r.fmt, r.paired⟩)
              .next ({ s2 with working := s2.working ++ [(⟨i, false, s.now⟩ : CrateWork)], stock := some { j with todo := j.todo.erase i },
                               digests := FMap.set CrateData.init s2.digests i ⟨r.digest, (fetched.getD n ⟨[], .none⟩).data⟩ } : State).showJob

/-- The crate's work in progress. -/
def State.workOn (s : State) (i : Nat) (touch : Bool) : Option CrateWork := s.working.find? fun w => w.index == i && w.touch == touch

/-- The crate is no longer in progress. -/
def State.workDone (s : State) (i : Nat) : State := { s with working := s.working.filter fun w => w.index != i }

/-- The offsets from t0 at which the steps of R175 end. -/
def programSteps : List Nat := [1250, 50000, 1350000, 1373750, 1375000]

/-- The offset at which a program ends: after its last step, or after the step that an abort found it in (R175, R186). -/
def StockJob.lastStep (j : StockJob) (w : CrateWork) : Nat :=
  if j.abort then (programSteps.find? fun e => decide (j.abortAt < w.since + e)).getD 1375000 else 1375000

/-- CRATE_PROGRAM_END (R175 step 5, R176): PROGRAMMED, or FAILED when a cell lies outside its window. A program that an abort cut short ends with the step it was in, its entry still PROGRAMMING (R186). -/
def execCrateProgramEnd (index : Nat) (cellsOk : Bool) (s : State) : Result :=
  match s.workOn index false, s.stock with
  | some w, some j =>
    let last := j.lastStep w
    if s.now < w.since + last then .next s
    else if last < 1375000 then .next (s.workDone index).jobNext
    else
      let e := s.jrn index
      let s1 := (s.workDone index).bump STK_PROG_CNT.V
      if cellsOk then .next (s1.journalWrite index { e with state := .programmed }).jobNext
      else .next ((((s1.bump STK_FAIL_CNT.V).stkFlag STK_ERR.FAIL index).journalWrite index { e with state := .failed }).jobNext)
  | _, _ => .next s

/-- SETTLE_PAUSE_END (R184 steps 3 and 4): 58,594 warden rounds have passed; the job's PROGRAMMED crates take their touch-up passes. -/
def execSettlePauseEnd (s : State) : Result :=
  match s.stock with
  | some j =>
    if s.rd STK_STAT.JOB = jobSettling ∧ j.settleAt ≤ s.rd WDN_ROUND.V then
      let touch := (j.recs.filter fun r => (s.jrn r.1).state == .programmed).map (·.1)
      .next (({ s with stock := some { j with touch := touch } }.wr STK_STAT.JOB 0 jobTouching |>.wr STK_STAT.SETTLE_LEFT 0 0).jobNext)
    else .next s
  | none => .next s

/-- TOUCHUP_PASS_START (R185, R188, R190): the next crate takes its pass; in a restock its COUNT rises by one. -/
def execTouchupPassStart (s : State) : Result :=
  match s.stock with
  | none => .next s
  | some j =>
    if s.rd STK_STAT.JOB ≠ jobTouching ∨ j.abort ∨ j.failing then .next s else
      let s0 := s.hotRows j.touch
      match s0.nextCrate j.touch with
      | none => .next s0
      | some i =>
        let e := s0.jrn i
        if j.restock ∧ 10000 ≤ e.count then .next ((s0.stkFlag STK_ERR.WORN i).failJob)
        else
          let s1 := if j.restock then s0.wear i (e.count + 1) else s0
          let s2 := (s1.dropScrub [i]).journalWrite i { e with state := .touching, count := if j.restock then e.count + 1 else e.count }
          .next ({ s2 with working := s2.working ++ [(⟨i, true, s.now⟩ : CrateWork)], stock := some { j with touch := j.touch.erase i } } : State).showJob

/-- The entry of a touched crate is written: VERIFIED, or FAILED when a cell is still outside (R185). -/
def State.touched (s : State) (index : Nat) (cellsOk : Bool) : State :=
  let e := s.jrn index
  let s1 := (s.workDone index).bump STK_TOUCH_CNT.V
  if cellsOk then
    let s2 := (s1.journalWrite index { e with state := .verified }).settleRepairs
    (if FMap.get 0 s.restocked index = 1 then { s2 with restocked := FMap.set 0 s2.restocked index (s.rd WDN_ROUND.V + 2) } else s2).jobNext
  else (((s1.bump STK_FAIL_CNT.V).stkFlag STK_ERR.FAIL index).journalWrite index { e with state := .failed }).jobNext

/-- TOUCHUP_PASS_END (R185). A pass that an abort cut short ends with the step it was in, its entry still TOUCHING unless that was the last: the spec times no step of a pass, so a free value says which (R186). -/
def execTouchupPassEnd (index : Nat) (cellsOk : Bool) (s : State) : Result :=
  match s.workOn index true, s.stock with
  | some _, some j =>
    if !j.abort then .next (s.touched index cellsOk)
    else
      let (v, s1) := s.takeFree
      .next (if v % 2 = 0 then (s1.workDone index).jobNext else s1.touched index cellsOk)
  | _, _ => .next s

/-- The crates in progress. -/
def State.inHand (s : State) : List Nat := s.working.map fun w => w.index

/-- The crates that the job has yet to take. -/
def State.waitingCrates (s : State) : List Nat :=
  match s.stock with
  | some j => j.todo ++ j.touch
  | none => []

/-- The stocking engine stops (R179, R495): pulses stop, entries in progress are written, the flag of the cause is set, and a job ends FAILED. -/
def State.stockHalt (s : State) (f : RField) : State :=
  let s1 := s.working.foldl (fun s w => s.journalWrite w.index { s.jrn w.index with state := if w.touch then .programmed else .unsettled }) s
  let s2 := { s1 with working := [] }.stkFlagOf f (s.inHand ++ s.waitingCrates)
  if s.stock.isSome then (s2.showJob).endJob 6 else s2.showJob

/-- It loses its rail (R179). -/
def State.stockRail (s : State) : State := s.stockHalt STK_ERR.RAIL

/-- Start-up of the stocking engine (R187): half-written entries are settled and STL_GRP_CFG is rebuilt from the journal. -/
def State.stockStart (s : State) : State :=
  let s1 := s.journal.foldl (fun s e => match e.2.state with
    | .programming => s.setJrn e.1 { e.2 with state := .unsettled }
    | .touching => s.setJrn e.1 { e.2 with state := .programmed }
    | _ => s) s
  let gs := (s1.journal.map fun e => (jrnStall e.1, jrnGroup e.1)).eraseDups
  gs.foldl (fun s g => s.regroup g.1 g.2) { s1 with stock := none, working := [] }

/-! ### The level-readback scrub (R191, R192) -/

/-- PERIOD in warden rounds: 29,297 to the minute (R191). -/
def State.scrubPeriod (s : State) : Nat := 29297 * s.rd STK_SCRUB_CTL.PERIOD

/-- SCRUB_DUE (R191): the next VERIFIED crate in index order, of a stall that is not in FAULT, is taken while its stall is not closing (R450); its slots wait for idle edges of its group. A scan begins a PERIOD after the last one began. -/
def execScrubDue (s : State) : Result :=
  if s.on STK_CTL.SCRUB_EN && s.scrub.busy.isNone then
    match s.journal.find? fun e => e.2.state == .verified && decide (s.scrub.next ≤ e.1) && s.stState (jrnStall e.1) != stFault with
    | some (i, _) =>
      if s.closingStall (jrnStall i) then .next s
      else
        let due := if s.scrub.next = 0 then s.rd WDN_ROUND.V + s.scrubPeriod else s.scrub.dueAt
        .next (({ s with scrub := { s.scrub with next := i + 1, dueAt := due } }.wr STK_SCRUB_STAT.NEXT 0 ((i + 1) % jrnCount)).startScrub i)
    | none =>
      if s.scrub.dueAt ≤ s.rd WDN_ROUND.V then
        .next ({ s with scrub := { s.scrub with next := 0 } }.wr STK_SCRUB_STAT.NEXT 0 0)
      else .next s
  else .next s

/-- SCRUB_CRATE_DONE (R191, R192): the crate has had its 65 slots: the SHA-512 of the codes decided for its logical weights, in the layout of R172, against DATA_DIGEST, and the marginal count. -/
def execScrubCrateDone (codes : List Byte) (marginal : Nat) (s : State) : Result :=
  match s.scrub.busy with
  | none => .next s
  | some i =>
    if s.scrub.left ≠ 0 then .next s else
    let ok := leAt (sha512 codes) 0 64 == (FMap.get CrateData.init s.digests i).digest
    let s1 := (({ s with scrub := { s.scrub with busy := none } }.bump STK_SCRUB_CNT.V).wr STK_SCRUB_STAT.MARGINAL 0 marginal).wr
      STK_SCRUB_STAT.MATCH 0 (ofBool ok)
    let s2 := if s.rd STK_SCRUB_CTL.MARG_MAX < marginal then s1.touchupDue i else s1
    if ok then .next s2.assayDone
    else
      let at' := FMap.get 0 s.restocked i
      let again := decide (2 ≤ at') && decide (s.rd WDN_ROUND.V ≤ at' - 2 + s.scrubPeriod)
      let s3 := (s2.bump STK_MISMATCH_CNT.V).stkFlag STK_ERR.MISMATCH i
      let s4 := s3.journalWrite i { s3.jrn i with state := if again then .failed else .unsettled }
      .next (({ s4 with restocked := FMap.set 0 s4.restocked i 1 }.modGroup (groupId (jrnStall i) (jrnGroup i)) fun x => { x with scrubBad := true }).assayDone)

/-! ### The content at shipment (R1 to R4) -/

/-- The journal entry of a crate of a WSA20-K as it ships (R2). -/
def shippedEntry (r : CrateRec) : JEntry := ⟨.verified, 1, 0, r.fmt, r.paired⟩

/-- A WSA20-K as it ships (R1, R2): a WSA20-U but for the content of its stock crates and its stocking journal. Every crate that the image named on the order holds is VERIFIED with count 1, its level data in place; the image stands in slot 0 of the image table (log entry 29). -/
def State.shippedK (image : Nat × Nat) (recs : List (CrateRec × List Byte)) : State :=
  let at' (r : CrateRec) : Nat := State.reset.physCrate r.index
  { State.reset with
    journal := recs.foldl (fun m r => FMap.set JEntry.init m (at' r.1) (shippedEntry r.1)) [],
    digests := recs.foldl (fun m r => FMap.set CrateData.init m (at' r.1) ⟨r.1.digest, r.2⟩) [],
    images := FMap.set (0, 0) [] 0 image }

end Sys2Proof.Machine
end

