-- ==== Sys2Proof/Machine/FaultOps.lean ====
section
/-! DEFINITION. What a fault does to the whole device: bias-off of its units, orderly stop and trip, faulted rails, device FAULT (R25, R495, R496, R501, R544). -/

namespace Sys2Proof.Machine

/-! ### Warden flags and regulators -/

/-- The device sets a flag of WDN_ERR in the present cycle of CLK_AO: a write of the same cycle does not clear it (R12). -/
def State.wdnMark (s : State) (f : RField) : State :=
  { s with warden := { s.warden with errAt := FMap.set 0 s.warden.errAt f.lo (s.now + 1) } }

/-- A WDN_ERR flag; on its 0 to 1 change its source is raised: 218 for sensors and restart, 219 for power, monitor and PMBus (R437). -/
def State.wdnFlag (s : State) (f : RField) : State :=
  let s := s.wdnMark f
  if s.on f then s
  else (s.wr f 0 1).raise (if f == WDN_ERR.CHAIN || f == WDN_ERR.SENSOR || f == WDN_ERR.RESTART then 218 else 219)

/-- A PMBus command to a regulator (R500): OPERATION 0x01, VOUT_COMMAND 0x21. -/
def State.pmbus (s : State) (vr cmd value : Nat) : State := s.send (.pmbus vr cmd value)

/-- The enabled regulators whose rail is one of a list, in ascending number. -/
def State.regsOf (s : State) (rails : List Nat) : List Nat :=
  (List.range 16).filter fun v => s.on WDN_VR_CFG.EN v && rails.contains (s.rd WDN_VR_CFG.RAIL v)

/-! ### Bias-off (R25, R486) -/

/-- A stall enters bias-off (R25): fresh planes and staging buffer are lost. A stall in FAULT or SHUTTERED keeps that state. -/
def State.stallBiasOff (s : State) (sid : Nat) : State :=
  let s2 := s.loseSram sid
  let s3 := { s2 with gatedAt := FMap.set 0 s2.gatedAt sid 0, wakeAt := FMap.set 0 s2.wakeAt sid 0 }
  if s3.stState sid = stShuttered ∨ s3.stState sid = stFault then s3 else s3.setStState sid stBiasOff

/-- A row enters bias-off. -/
def State.rowBiasOff (s : State) (row : Nat) : State :=
  { s with sleep := FMap.set 0 s.sleep row 0, gatedAt := FMap.set 0 s.gatedAt (12288 + row) 0, wakeAt := FMap.set 0 s.wakeAt (12288 + row) 0 }

/-- A quarter enters bias-off, and its stacks self-refresh (R400, R487). -/
def State.quarterBiasOff (s : State) (q : Nat) : State :=
  let s1 := (List.range 5).foldl (fun s k => if s.rd MEM_UNIT_STAT.STATE (5 * q + k) = 2 then s.setMemUnit (5 * q + k) 3 else s) s
  { s1.setHouses q 1 0 with sleep := FMap.set 0 s1.sleep (192 + q) 0, gatedAt := FMap.set 0 s1.gatedAt (12480 + q) 0, wakeAt := FMap.set 0 s1.wakeAt (12480 + q) 0 }

/-- A stall that stops before it has drained: the strikes in flight have ended, and what has not struck goes to the inspector with them (R495 steps 2 and 3, R501). -/
def State.stallDown (s : State) (sid : Nat) : State :=
  let st := s.stall sid
  let s1 := if (st.queue ++ st.held).isEmpty && st.inflight.isEmpty then s
    else (s.setStall sid { st with queue := st.queue ++ st.held, held := [] }).loseStrikes sid
  s1.stallBiasOff sid

/-- Every stall and row of a quarter, and the quarter, enter bias-off (R495 step 4). -/
def State.quarterDown (s : State) (q : Nat) : State :=
  ((List.range 48).foldl (fun s r =>
    ((List.range 33).foldl (fun s p => s.stallDown (stallId (48 * q + r) p)) s).rowBiasOff (48 * q + r)) s).quarterBiasOff q

/-! ### Orderly stop and trip (R495, R496) -/

/-- An orderly stop starts at s0 (R495 steps 1 and 2, R508). -/
def State.orderlyStop (s : State) : State :=
  if 3 ≤ s.rd WDN_STAT.THERM then s else
    let temps := (List.range 400).foldl (fun m k => FMap.set 0 m k (s.sensorTemp k)) ([] : FMap Int)
    let s1 := ((s.wr WDN_STAT.THERM 0 3).raise 218).bump WDN_STOP_CNT.V
    let s2 := { s1.faultLog 1 0 0 0 63 with warden := { s1.warden with stopAt := some s.now, stopTemps := temps } }
    (s2.stockHalt STK_ERR.TEMP).modeAbort

/-- Trip logic asserts THERMTRIP_N (R496): THERM is TRIPPED and every regulator is sent OPERATION off. -/
def State.thermTrip (s : State) : State :=
  if s.warden.trip then s else
    let s1 := (s.wr WDN_STAT.THERM 0 5).faultLog 2 0 0 0 63
    let s2 := { s1 with warden := { s1.warden with trip := true, stopAt := none } }
    (s2.regsOf (List.range 16)).foldl (fun s v => s.pmbus v 1 0) s2

/-! ### Faulted rails (R501) -/

/-- The quarter other than those stopped whose share of the slot's pool has the most free pages (R229). -/
def State.otherQuarter (s : State) (slot : Nat) : Nat :=
  let ok := (List.range 4).filter fun q => !s.warden.offQuarters.contains q
  ok.foldl (fun best q => if s.shareFree slot best < s.shareFree slot q then q else best) (ok.headD 0)

/-- A quarter stops as in steps 2 to 4 of R495: its units go to bias-off, its tiles are served under R470, and its weigh houses' sequences are reassigned (R501). -/
def State.stopQuarter (s : State) (q : Nat) : State :=
  if s.warden.offQuarters.contains q then s else
    let s1 := { s with warden := { s.warden with offQuarters := s.warden.offQuarters ++ [q] } }
    let s2 := (FMap.keysWhere s1.seqs fun _ x => x.live && x.wh / 4 == q).foldl (fun s k =>
      s.modSeq k fun x => { x with wh := s.pickHouse (s.otherQuarter x.slot) }) s1
    s2.quarterDown q

/-- A regulator is faulted (R501, R547); the device acts by its rail. -/
def State.railFault (s : State) (v : Nat) : State :=
  if s.on WDN_VR_STAT.FAULT v then s else
    let rail := s.rd WDN_VR_CFG.RAIL v
    let s1 := (((s.wr WDN_VR_STAT.FAULT v 1).wr WDN_ERR.VR_NO 0 v).wr WDN_ERR.VR 0 1).wdnMark WDN_ERR.VR
    let s2 := (s1.raise 219).faultLog 3 (if rail < 8 then 1 else 0) (if rail < 8 then rail % 4 else 0) 0 63
    if rail < 8 then s2.stopQuarter (rail % 4)
    else if rail = 9 then s2.stockRail
    else if rail < 15 then s2.orderlyStop
    else s2

/-! ### Device FAULT (R544) -/

/-- Device FAULT with a fault code (R544): nothing is committed from here on, every Cartway port sends DOWN, the host port signals an Uncorrectable Internal Error, and the fault log takes an entry. -/
def State.deviceFault (s : State) (code : Nat) : State :=
  if s.rd WDN_RST_CAUSE.STATE = 5 then s else
    let s1 := (s.wr WDN_RST_CAUSE.STATE 0 5).stockHalt STK_ERR.TEMP
    let s2 := (List.range 8).foldl (fun s p => if s.portUp p then (s.sendControl p 4 []).leaveUp p 4 else s) s1
    (s2.send (.aer 0 1)).faultLog code 0 0 0 63

/-! ### Pins derived from the state (R497, R546, R564) -/

/-- FAULT_N is asserted: FAULT or RECOVERY (R537), device FAULT (R544), TRIPPED (R546), or CLK_AO lost (R564). -/
def State.faultN (s : State) : Bool :=
  let st := s.rd WDN_RST_CAUSE.STATE
  !s.boot.held && (st == 2 || st == 4 || st == 5 || s.rd WDN_STAT.THERM == 5 || s.warden.clkFault)

/-- THERMTRIP_N is asserted (R496, R564). -/
def State.thermtripN (s : State) : Bool := s.warden.trip

/-- ALERT_N is asserted (R497). -/
def State.alertN (s : State) : Bool :=
  s.level.any (fun e => decide (1 ≤ e.2)) || decide (3 ≤ s.rd WDN_STAT.THERM) || s.on WDN_ERR.VR

end Sys2Proof.Machine
end

