-- ==== Sys2Proof/Machine/Tally.lean ====
section
/-! DEFINITION. The tally engine's correction path: descriptors of shuttered tiles, the codes of a strike, trims, overflow passes, clips and release (chapters 2, 3, 4 and 12). -/

namespace Sys2Proof.Machine

/-! ### Descriptors (R43, R70, R470) -/

/-- The part of a descriptor that is not served as for a shuttered stall; `none` when nothing is left to strike. -/
def State.shutParts (s : State) (sid : Nat) (d : Desc) : State × Option Desc :=
  let st := s.stall sid
  let red (g : Nat) : Nat := ((st.record d.tag).bind fun n => (n.feed g).map s.feedRed).getD 0
  let shut := s.freshShut sid
  let seq := ((st.record d.tag).map (·.seq)).getD 0xFFFF
  let s1 := if d.stock && s.servedShut sid d.group then s.shutStrike sid { d with fresh := false } (red d.group) seq else s
  let s2 := if d.fresh && shut then s1.shutStrike sid { d with stock := false } (red (4 + d.part)) seq else s1
  let d2 := { d with stock := d.stock && !s.servedShut sid d.group, fresh := d.fresh && !shut }
  (s2, if (d.stock || d.fresh) && !(d2.stock || d2.fresh) then none else some d2)

/-- The descriptor that the row scheduler sends next to a stall, of those that wait for it (classes 0 decode and verify, 1 paced frames, 2 prefill): by class, paced frames first on a reserved stall, and within a class in the order received (R283). -/
def State.pickDesc (s : State) (sid : Nat) : Option RowDesc :=
  (if s.reserved.contains (s.logicalNo sid) then [1, 0, 2] else [0, 1, 2]).findSome? fun c =>
    (s.row (rowOf sid)).waiting.find? fun w => w.stall == posOf sid && w.cls == c

/-- A descriptor that the row scheduler sends reaches its stall; the strikes of a shuttered tile go to the inspector (R470). -/
def State.arrive (s : State) (sid : Nat) (d : Desc) : State :=
  match s.shutParts sid d with
  | (s1, some d) => s1.pushDesc sid d
  | (s1, none) => s1

/-- The descriptor as it is written for a vector's strike (R121, R126): with its tile's RANGE as it stands, and as a widened pair for an A8 vector; a fresh one for the strike of its vector that it makes. A replay or split keeps what it repeats. -/
def State.writeDesc (s : State) (sid : Nat) (d0 : Desc) : Desc :=
  let d := s.resolve sid d0
  match (s.stall sid).record d.tag with
  | some n =>
    let gid := groupId sid d.group
    if d.replay || !d.stock then d
    else { d with wide := n.a8 && !n.trans,
                  range := if !(s.group gid).hasMsq then d.range else if d.trans then (s.group gid).trange else s.rd TAL_TILE_STAT.RANGE gid }
  | none => d

/-- The row scheduler receives descriptors for one stall, each with its class, in order on its arrival counter (R283). -/
def State.receive (s : State) (row stall : Nat) (new : List (Nat × Nat)) : State :=
  s.modRow row fun r => { r with
    waiting := r.waiting ++ (new.zipIdx).map fun (d, i) => ⟨stall, d.1, d.2, r.arrived + i⟩, arrived := r.arrived + new.length }

/-- A stall is sent a descriptor: it has room for it, and neither it nor its row lags (R41, R452). -/
def State.mayReceive (s : State) (sid : Nat) : Bool :=
  decide ((s.stall sid).queue.length + (s.stall sid).held.length < 16) && !s.lagging (unitId 1 (s.logicalNo sid)) && !s.lagging (unitId 2 (rowOf sid))

/-- DESCRIPTOR_ARRIVAL (R43, R70, R121, R126, R283): the row scheduler receives descriptors for a stall, and the one it picks of those that wait for the stall goes into the queue, or is held by the row switch. -/
def execDescriptorArrival (row stall : Nat) (new : List (Nat × Nat)) (s : State) : Result :=
  if stallOk row stall then
    let sid := stallId row stall
    let s1 := s.receive row stall new
    match if s1.mayReceive sid then s1.pickDesc sid else none with
    | some d => .next ((s1.modRow row fun r => { r with waiting := r.waiting.erase d }).arrive sid (s.writeDesc sid (Desc.ofNat d.desc)))
    | none => .next s1
  else .next s

/-! ### Reference columns of one strike (R85 to R90) -/

/-- The moving mean of REF_Z moves 1/64 towards the code; more than 4 codes from 128 is flagged (R90). -/
def State.refZ (s : State) (sid g code : Nat) : State :=
  let x := s.group (groupId sid g)
  let m := F32.add x.refZ (F32.mul (F32.ofDy ⟨1, -6⟩) (F32.sub (f32i (Int.ofNat code)) x.refZ))
  let s1 := s.setGroup (groupId sid g) { x with refZ := m }
  if (Dy.ofInt 4).lt ((F32.toDy m).sub (Dy.ofInt 128)).abs then
    (s1.corFlag TAL_COR_ERR.REF_Z (rowOf sid) (posOf sid) g).queueCal sid
  else s1

/-- TAL_DRIFT_VAL shows the estimates rounded and saturated (R86, R107). -/
def State.showDrift (s : State) (gid : Nat) : State :=
  let x := s.group gid
  (s.wr TAL_DRIFT_VAL.GAIN gid (showField 16 (-16) ((F32.toDy x.gamma).sub (Dy.ofInt 1)))).wr TAL_DRIFT_VAL.ZETA gid
    (showField 16 (-12) (F32.toDy x.zeta))

/-- One strike's update of its group's estimates (R86 to R88). DESIGN CHOICE (log entry 72): with DRIFT_EN = 0 a strike that would qualify advances neither QUAL nor the count of the fast mode. -/
def State.driftUpdate (s : State) (sid g r lo hi : Nat) (S : Dy) : State :=
  let row := rowOf sid
  let gid := groupId sid g
  if s.on TAL_COR_CTL.DRIFT_EN row && qualifies (s.rd TAL_COR_CTL.S_MIN row) S lo hi then
    let x := s.group gid
    let mLo := F32.ofDy (refValue r lo)
    let mHi := F32.ofDy (refValue r hi)
    let S' := F32.ofDy S
    let γ := strikeGamma mLo mHi S'
    let ζ := strikeZeta (s.groupFmt sid g).pz mLo mHi S' γ
    let fast := decide (0 < x.fastLeft)
    let γ' := stepTo fast x.gamma γ
    let ζ' := stepTo fast x.zeta ζ
    let s1 := s.setGroup gid { x with gamma := γ', zeta := ζ', fastLeft := x.fastLeft - 1 }
    let s2 := (s1.showDrift gid).bumpSat TAL_DRIFT_VAL.QUAL gid
    let far := (Dy.ofInt 6).lt (((F32.toDy γ').sub (Dy.ofInt 1)).abs.mul (Dy.ofInt 100)) || (⟨1, -1⟩ : Dy).lt (F32.toDy ζ').abs
    if far then ((s2.modGroup gid fun x => { x with beyond := true }).corFlag TAL_COR_ERR.DRIFT_LIMIT row (posOf sid) g).queueCal sid else s2
  else s

/-- The references of one strike: clips counted, REF_Z followed, the estimates updated. `refs` are REF_Z, REF_LO, REF_HI, REF_PAT. -/
def State.references (s : State) (sid g r : Nat) (refs : List Nat) (S : Dy) : State :=
  let clips := (refs.filter (clipCode 255)).length
  let s1 := (s.bump TAL_REF_CLIP_CNT.V (rowOf sid) clips).refZ sid g (refs.getD 0 128)
  s1.driftUpdate sid g r (refs.getD 1 128) (refs.getD 2 128) S

/-- STL_REF_CODES (R77): the latest stock strike's reference codes; of a pair, those of the low-nibble strike. -/
def State.showRefs (s : State) (sid g no : Nat) (refs : List Nat) : State :=
  (((((s.wr STL_REF_CODES.Z sid (refs.getD 0 0)).wr STL_REF_CODES.LO sid (refs.getD 1 0)).wr STL_REF_CODES.HI sid (refs.getD 2 0)).wr
    STL_REF_CODES.PAT sid (refs.getD 3 0)).wr STL_REF_CODES.GROUP sid g).wr STL_REF_CODES.STRIKE_LO sid no

/-! ### Correction and checks of one strike (R92, R128, R365 to R368) -/

/-- The corrected values of codes driven by a scale file and codes, under the trim entries of the strike's edge. -/
def State.correctAll (s : State) (sid : Nat) (trims : FMap Nat) (d : Desc) (scales : List Nat) (drive : List Int) (codes : List Nat) : List Dy :=
  let S := driveS d.mask scales drive
  let L := driveL d.mask scales drive
  if d.trans then (codes.zipIdx).map fun (c, i) => s.correctRow sid d i (stockValue d c)
  else (codes.zipIdx).map fun (c, i) => s.correctStock sid trims d i S L (stockValue d c)

/-- The differences d_k of a stock strike's values, and the channel groups that fail. A transpose strike has one (R366). -/
def State.stockCheck (s : State) (sid : Nat) (d : Desc) (scales : List Nat) (drive : List Int) (xs : List Dy) : List Int × Nat :=
  let sh := (s.groupFmt sid d.group).shift
  if d.trans then
    let dk := diffOf xs (s.laneRows sid d scales drive)
    let sc := Int.ofNat d.range + 7
    let T := threshold s.kThresh (s.sigmaOf sid d) sc 8192
    ([inPpm dk sc], ofBool (exceeds dk T))
  else
    let ds := groupDiffs xs (s.laneCol sid d scales drive)
    let sc := fullScale d.range sh
    (ds.map fun x => inPpm x sc, chanMap ds (threshold s.kThresh (s.sigmaOf sid d) sc 128))

/-- The same of a fresh strike: s = 0, the σ of R365. -/
def State.freshCheck (s : State) (x : Strike) (xs : List Dy) : List Int × Nat :=
  let ds := (List.range 8).map fun k => diffOf ((xs.drop (128 * k)).take 128) (x.plane.laneSum x.fscales x.fdrive k)
  let sc := fullScale x.desc.frange 0
  (ds.map fun y => inPpm y sc, chanMap ds (threshold s.kThresh (s.sigmaOf 0 x.desc) sc 128))

/-- What a clipped strike does next (R122, R322): replay at a higher RANGE, split, or go to the inspector. -/
inductive ClipNext where
  | replay (range : Nat)
  | split
  | inspector
deriving DecidableEq, Repr

/-- Bits set in a mask. -/
def popCount (mask : Nat) : Nat := ((List.range 8).filter fun i => bitAt mask i).length

/-- The next step for a strike that has clipped `clips` times before and clips now (R122). -/
def clipNext (x : Strike) : ClipNext :=
  let k := x.clips + 1
  if x.half ≠ 0 then .inspector
  else if k ≤ 2 ∧ x.origRange + k ≤ 15 then .replay (x.origRange + k)
  else if x.desc.stock && !x.desc.trans && decide (2 ≤ popCount x.origMask) then .split
  else .inspector

/-- Replace a strike in flight. -/
def State.setStrike (s : State) (sid : Nat) (old new : Strike) : State :=
  s.modStall sid fun st => { st with inflight := st.inflight.map fun y => if y = old then new else y }

/-- The reduction and sequence of a strike, by its record. -/
def State.strikeFor (s : State) (sid : Nat) (d : Desc) : Nat × Nat :=
  match (s.stall sid).record d.tag with
  | some n => (((n.feed (outOf d)).map s.feedRed).getD 0, n.seq)
  | none => (0, 0xFFFF)

/-- The output of a strike waits for exact values as a whole: a half of a split with its other half. -/
def State.takeWhole (s : State) (sid : Nat) (x : Strike) : State :=
  s.modStall sid fun st =>
    let part (y : Strike) : Bool := y.stage != .released && y.half != 3 && y.desc.tag == x.desc.tag && strikesOut y.desc (outOf x.desc)
      && (y = x || y.half ≠ 0 || y.stage == .replaying)
    let late (y : Strike) : Bool := y.stage == .issued && y != x
    { st with inflight := ((st.inflight.filter fun y => !part y || late y).map fun y => if part y then { y with half := 3, entry := false } else y) ++
        [{ x with stage := .exact, desc := { x.desc with mask := x.origMask, replay := false }, half := 0, entry := (st.inflight.filter part).any (·.entry) }] }

/-- A strike that waits for exact values leaves, its reorder store entries free: it is struck anew once its tile serves again (R471). -/
def State.dropWhole (s : State) (sid : Nat) (d : Desc) : State :=
  match (s.stall sid).inflight.find? fun y => y.stage == .exact && y.desc == d with
  | some y => (s.dropStrike sid y).freeEntries (rowOf sid) (ofBool y.entry)
  | none => s

/-- Hand one strike's output to the inspector (R122 step 4, R322): its position waits for the exact value. -/
def State.handStrike (s : State) (sid : Nat) (x : Strike) : State :=
  let d := { x.desc with mask := x.origMask, replay := false }
  let (red, seq) := s.strikeFor sid d
  let s1 := s.takeWhole sid x
  let s2 := s1.queueJob 0 (.strike d) sid (outOf d) d.tag red seq
  let s3 := s2.cper { s2.strikeCper 14 3 0 sid x false with red := red, seq := seq }
  if x.desc.trans then s3
  else (s3.bump TAL_NQ_CLIP_FAIL_CNT.V (rowOf sid)).nqFlag TAL_NQ_ERR.CLIP_FAIL (rowOf sid) (posOf sid) d.group

/-- The strike drives a plane of fresh attention. -/
def State.attnStrike (s : State) (sid : Nat) (d : Desc) : Bool :=
  d.fresh && (match (s.stall sid).record d.tag with
    | some n => (n.feed (4 + d.part)).any Feed.attn
    | none => false)

/-- A strike with a data clip is discarded (R122, R123); with nothing left to try, its output goes to the inspector, or, of fresh attention, to the sequence's weigh house, which reads the block itself (R259). -/
def State.clipStrike (s : State) (sid : Nat) (x : Strike) : State :=
  if x.half = 3 then s.discardStrike sid x else
  match clipNext x with
  | .inspector =>
    if s.attnStrike sid x.desc then
      ((s.discardStrike sid x).bump TAL_NQ_CLIP_FAIL_CNT.V (rowOf sid)).nqFlag TAL_NQ_ERR.CLIP_FAIL (rowOf sid) (posOf sid) x.desc.group
    else s.handStrike sid x
  | _ => s.setStrike sid x { x with stage := .clipped }

/-- A strike whose check failed (R368): a dispute, or shuttered service when the stall's check lane is out of service (R376). Fresh attention has no ledger to be judged by: its weigh house reads the block (R259; DEDUCED, log entry 86). A failure that makes no dispute is recorded at once, with no verdict (R382). -/
def State.failStrike (s : State) (sid : Nat) (old x : Strike) : State :=
  let (red, seq) := s.strikeFor sid x.desc
  let s0 := (s.bump CHK_FAIL_CNT.V).chkFlag CHK_ERR.CHECK_FAIL sid
  let attn := s.attnStrike sid x.desc
  let out := decide (s.rd CHK_STALL_STAT.LANE sid ≠ 0)
  let s1 := if attn || out then s0.cper (s0.strikeCper 1 2 0 sid x false) else s0
  if attn then s1.discardStrike sid old
  else if out then
    let d := { x.desc with mask := x.origMask, replay := false }
    if x.half = 3 then s1.discardStrike sid old
    else if s.on BST_POLICY.INSPECT_SERVE then ((s1.setStrike sid old x).takeWhole sid x).shutStrike sid d red seq
    else (((s1.setStrike sid old x).takeWhole sid x).dropWhole sid d).shutStrike sid d red seq
  else
    (s1.setStrike sid old { x with stage := .disputed, job := s1.nextJob }).queueJob 0 (.dispute x.no) sid
      (outOf x.desc) x.desc.tag red seq

/-- The checksum c(g, k, i) that the outlier lane's products of channel i are checked against (R363, R364, R367): of a stock strike from the stall's checksum SRAM, of a fresh strike as the porter formed it from the feed's matrix. -/
def State.laneSum (s : State) (sid : Nat) (f : Feed) (k i : Nat) : Int :=
  if f.group < 4 then (FMap.get Ledger.none (s.stall sid).csum f.group).checksum f.group k i
  else ((List.range 128).map fun j => s.feedQ f i (128 * k + j)).sum

/-- A residue mismatch of the strike's vector for its group (R367): in the products of a designated channel that the strike drives, or, before it, in an overflow pass. -/
def State.residueBad (s : State) (sid : Nat) (d : Desc) (lane : List (Nat × Nat × Word32)) : Bool :=
  match (s.stall sid).record d.tag with
  | none => false
  | some n =>
    let p := n.part d
    n.badLane.contains (outOf d) || (n.feed (outOf d)).any fun f =>
      lane.any fun e => decide (e.2.1 < 8) && p.desig.any fun ch =>
        ch.1 == e.1 && (!d.stock || bitAt d.mask (ch.1 / 1024)) && residueOff ch.2 n.kmax (s.laneSum sid f e.2.1 ch.1) e.2.2

/-- A residue mismatch sets its flag and makes a record (R367, R382). -/
def State.residueEvent (s : State) (sid : Nat) (x : Strike) (bad : Bool) : State :=
  if bad then (s.chkFlag CHK_ERR.RESIDUE sid).cper (s.strikeCper 6 2 0 sid x false) else s

/-- The memories of the lane that a stock strike read (R96, R363), and their flags and records. -/
def State.laneEvents (s : State) (sid : Nat) (x : Strike) (c : Codes) : State :=
  let s1 := s.bump CHK_CSUM_CORR_CNT.V 0 c.csumCorr
  let s2 := if c.csumBad then (s1.chkFlag CHK_ERR.CSUM_UNCORR sid).cper (s1.strikeCper 5 0 0 sid x false) else s1
  if c.osramPar.isEmpty then s2 else
    (s2.corFlag TAL_COR_ERR.OSRAM_PAR (rowOf sid) (posOf sid) x.desc.group).modStall sid fun st =>
      { st with osramBad := (st.osramBad ++ c.osramPar).eraseDups }

/-- Codes of the strike carry the suspect flag (R55). -/
def Strike.flagged (x : Strike) (c : Codes) : Bool := (if x.desc.stock then c.suspect else c.suspectF) || !x.suspect.isEmpty

/-- The vector's adapter partials were discarded for a residue mismatch: the strikes of its group fail their check (R316). -/
def State.adapterBad (s : State) (sid : Nat) (d : Desc) : Bool := ((s.stall sid).record d.tag).any fun n => !n.redo.isEmpty

/-- Whatever fails a strike's check beside the group sums and REF_PAT (R316, R368). The memories of the lane (R96, R363) belong to its stock strike. -/
def State.codesBad (s : State) (sid : Nat) (x : Strike) (c : Codes) (residue : Bool) : Bool :=
  x.flagged c || residue || s.adapterBad sid x.desc || (x.desc.stock && (!c.osramPar.isEmpty || c.csumBad))

/-- The codes of a stock strike, pair or transpose strike. -/
def State.stockCodes (s : State) (sid : Nat) (x : Strike) (c : Codes) : State :=
  let d := x.desc
  let row := rowOf sid
  let xs1 := s.correctAll sid x.trims d x.scales x.drive c.stock
  let pat1 := !d.trans && s.refPatFails sid d x.scales x.drive (c.refs.getD 3 128)
  let s1 := if d.trans then s else s.references sid d.group d.range c.refs (driveS d.mask x.scales x.drive)
  let xs2 := if d.wide then s1.correctAll sid x.trims d x.scales x.low c.low else []
  let pat2 := d.wide && s1.refPatFails sid d x.scales x.low (c.refsLow.getD 3 128)
  let s2 := if d.wide then s1.references sid d.group d.range c.refsLow (driveS d.mask x.scales x.low) else s1
  let s3 := if d.trans then s2 else s2.showRefs sid d.group x.no (if d.wide then c.refsLow else c.refs)
  let s4 := (if pat1 || pat2 then s3.corFlag TAL_COR_ERR.REF_PAT row (posOf sid) d.group else s3).laneEvents sid x c
  if (c.stock ++ c.low).any (clipCode (topCode d)) then s4.clipStrike sid x
  else
    let bad := !d.trans && s.residueBad sid d c.lane
    let s5 := (s4.bump CHK_STRIKE_CNT.V 0 (if d.wide then 2 else 1)).residueEvent sid x bad
    let (d1, m1) := s.stockCheck sid d x.scales x.drive xs1
    let (d2, m2) := if d.wide then s.stockCheck sid d x.scales x.low xs2 else ([], 0)
    let x2 := { x with
      xh := xs1, xl := xs2, xs := if d.wide then (List.zip xs1 xs2).map fun (h, l) => (h.mul ⟨1, 4⟩).add l else xs1,
      diffs := if m1 = 0 && m2 ≠ 0 then d2 else d1, chanmap := Nat.lor m1 m2 }
    if m1 ≠ 0 || m2 ≠ 0 || pat1 || pat2 || s.codesBad sid x c bad then s5.failStrike sid x x2
    else s5.setStrike sid x { x2 with stage := .corrected }

/-- The codes of a fresh strike. -/
def State.freshCodes (s : State) (sid : Nat) (x : Strike) (c : Codes) : State :=
  if c.fresh.any (clipCode 255) then s.clipStrike sid x
  else
    let bad := s.residueBad sid x.desc c.laneF
    let s1 := (s.bump CHK_STRIKE_CNT.V).residueEvent sid x bad
    let xs := (c.fresh.zipIdx).map fun (k, i) => correctFresh x.trims x.desc i (freshValue x.desc k)
    let (dk, m) := s.freshCheck x xs
    let x2 := { x with xs := xs, xh := xs, diffs := dk, chanmap := m }
    if m ≠ 0 || s.codesBad sid x c bad then s1.failStrike sid x x2 else s1.setStrike sid x { x2 with stage := .corrected }

/-! ### Probes (R369 to R371, R376) -/

/-- The column value under the target entry inverted, and formed again with the entry in effect, both as they stood at the probe's edge (R383, R467): E_j re-corrected. -/
def State.recorrect (s : State) (sid : Nat) (goals trims : FMap Nat) (d : Desc) (c : Nat) (S L E : Dy) : Dy :=
  let col := d.group * 1024 + c
  let goal := FMap.get 0 goals col
  if FMap.get 0 trims col = goal then E else
    let x3 := E.mul ⟨1, Int.ofNat (s.groupFmt sid d.group).shift⟩
    let x2 := if s.on TAL_COR_CTL.DROP_EN (rowOf sid) then x3.quot (dropCorrect goal L (Dy.ofInt 1)) else x3
    let x1 := match s.driftPair sid d.group with
      | some (γ, ζ) => (x2.mul (F32.toDy γ)).add ((F32.toDy ζ).mul S)
      | none => x2
    let x0 := (x1.quot ⟨2 ^ 14 + trimGain goal, -14⟩).add ⟨trimOffset goal, Int.ofNat d.range + 1 - 4⟩
    s.correctStock sid trims d c S L x0

/-- Withdraw a group and queue the stall for calibration (R371, R376). -/
def State.withdraw (s : State) (sid g : Nat) : State :=
  (s.modGroup (groupId sid g) fun x => { x with withdrawn := true }).queueCal sid

/-- The check lane leaves service, and its checksum SRAM is to be reloaded before it may return (R369, R376); a retired lane stays out. -/
def State.laneOut (s : State) (sid : Nat) : State :=
  let s1 := s.modStall sid fun st => { st with idleProbe := false, lane := 0, laneCan := 0 }
  if s.rd CHK_STALL_STAT.LANE sid = 2 then s1 else s1.wr CHK_STALL_STAT.LANE sid 1

/-- A passing probe that a returning lane struck at an idle edge counts; 64 in a row with 64 failing canaries return it to service (R376). -/
def State.laneProbe (s : State) (sid : Nat) (passed canary : Bool) : State :=
  let st := s.stall sid
  if !st.idleProbe then s
  else if !passed then s.setStall sid { st with lane := 0, laneCan := 0 }
  else
    let st1 := { st with lane := st.lane + 1, laneCan := st.laneCan + ofBool canary }
    if 64 ≤ st1.lane ∧ 64 ≤ st1.laneCan then
      (s.setStall sid { st1 with lane := 0, laneCan := 0, idleProbe := false }).wr CHK_STALL_STAT.LANE sid 0
    else s.setStall sid st1

/-- The codes of a probe strike: a REF_PAT that disagrees fails the probe (R89; DEDUCED, log entry 73); the columns are compared with E_j, and one channel group of it evaluated against X_k + 2T, which must fail. -/
def State.probeCodes (s : State) (sid : Nat) (x : Strike) (c : Codes) : State :=
  let d := x.desc
  let gid := groupId sid d.group
  let S := driveS d.mask x.scales x.drive
  let L := driveL d.mask x.scales x.drive
  let xs := s.correctAll sid x.trims d x.scales x.drive c.stock
  let pat := s.refPatFails sid d x.scales x.drive (c.refs.getD 3 128)
  let s0 := if pat then s.corFlag TAL_COR_ERR.REF_PAT (rowOf sid) (posOf sid) d.group else s
  let s1 := (((s0.references sid d.group d.range c.refs S).showRefs sid d.group x.no c.refs).bump CHK_PROBE_CNT.V).bump CHK_CSUM_CORR_CNT.V 0 c.csumCorr
  let sc := fullScale d.range (s.groupFmt sid d.group).shift
  let tol := tolerance s.kThresh (sigmaP (s.rd TAL_SIGMA.SIGMA gid)) sc
  let es := (x.xs.zipIdx).map fun (E, j) => s.recorrect sid x.goals x.trims d j S L E
  let failed := pat || !(colsOver xs es tol).isEmpty
  let s2 := if failed then
      (((s1.bump CHK_PROBE_FAIL_CNT.V).chkFlag CHK_ERR.PROBE_FAIL sid).withdraw sid d.group).cper (s1.strikeCper 2 0 0 sid x false)
    else s1
  let k := if x.idle then (s.stall sid).lane % 8 else (s.stall sid).probeRot
  let T := threshold s.kThresh (s.sigmaE sid d.group d.range) sc 128
  let y := f32Sum ((xs.drop (128 * k)).take 128)
  let z := F32.add (F32.ofDy (sumOf128 (s.laneCol sid d x.scales x.drive) k)) (F32.mul (f32i 2) T)
  let lane := s.rd CHK_STALL_STAT.LANE sid
  let evaluated := s.on CHK_CTL.CANARY_EN && decide (lane ≠ 2)
  let passed := evaluated && !c.csumBad && !exceeds (F32.sub y z) T
  let s3 := if x.idle then s2 else s2.modStall sid fun st => { st with probeRot := (k + 1) % 8 }
  let s4 := if passed then
      ((s3.laneOut sid).chkFlag CHK_ERR.CANARY sid).cper { s3.strikeCper 4 0 0 sid x false with chanmap := 2 ^ k }
    else s3
  (if x.idle then s4.laneProbe sid (!failed && !passed) (evaluated && !passed) else s4).dropStrike sid x

/-! ### STRIKE_CODES_RECEIVED -/

/-- Clip codes among all that the stall converts (R50). -/
def codesClips (c : Codes) (d : Desc) : Nat :=
  ((c.stock ++ c.low).filter (clipCode (topCode d))).length + ((c.fresh ++ c.refs ++ c.refsLow).filter (clipCode 255)).length

/-- STRIKE_CODES_RECEIVED (R47, R85, R92, R368): the codes of the stall's oldest issued strike (its stock part and its fresh part) reach the tally engine, are corrected and checked. -/
def execStrikeCodesReceived (row stall : Nat) (c : Codes) (s : State) : Result :=
  if !stallOk row stall then .next s else
    let sid := stallId row stall
    match (s.stall sid).inflight.find? fun x => x.stage == .issued with
    | none => .next s
    | some x =>
      let sc := s.bump STL_CLIP_CNT.V sid (codesClips c x.desc)
      let s0 := if x.flagged c then sc.flag STL_ERR.SUSPECT sid else sc
      if x.kind == .probe then .next (s0.probeCodes sid x c)
      else if x.desc.stock then
        let s1 := s0.stockCodes sid x c
        match (s.stall sid).inflight.find? fun y => y.stage == .issued && y.desc.fresh && y.no == x.no && y.edge == x.edge with
        | some y => .next (s1.freshCodes sid y c)
        | none => .next s1
      else .next (s0.freshCodes sid x c)

/-! ### Range control (R120) -/

/-- The ratio 2^(full) / √m lies below 8. -/
def ratioLow (m : Dy) (full : Int) : Bool := (⟨1, 2 * full⟩ : Dy).lt (m.mul ⟨64, 0⟩)
/-- The ratio lies above 16; with m = 0 it counts as above 16 at every r. -/
def ratioHigh (m : Dy) (full : Int) : Bool := (m.mul ⟨256, 0⟩).lt ⟨1, 2 * full⟩

/-- The range exponent that brings the ratio into [8, 16], between −1 and 16 where no value in 0–15 does (R120). -/
def wantRange (m : Dy) (base : Int) (r : Nat) : Int :=
  let at' (k : Int) : Int := k + base
  if ratioLow m (at' (Int.ofNat r)) then
    (((List.range 16).map fun k => Int.ofNat k).find? fun k => decide (Int.ofNat r < k) && !ratioLow m (at' k)).getD 16
  else if ratioHigh m (at' (Int.ofNat r)) then
    ((((List.range 16).map fun k => Int.ofNat k).reverse).find? fun k => decide (k < Int.ofNat r) && !ratioHigh m (at' k)).getD (-1)
  else Int.ofNat r

/-- One update of m (R120): m + (mean P² − m) / 256. -/
def stepMean (m mean : Dy) : Dy := m.add ((mean.sub m).mul ⟨1, -8⟩)

/-- The mean over n = 2^k columns of P², P = 2^s × value. -/
def meanSquare (shift : Nat) (k : Int) (xs : List Dy) : Dy :=
  (Dy.sum (xs.map fun x => x.mul x)).mul ⟨1, 2 * Int.ofNat shift - k⟩

/-- Range control after one stock strike's values are released (R120); a transpose strike has its own m and RANGE (R322). DESIGN CHOICE (log entry 98): with RANGE_AUTO cleared in operation, the controller's last RANGE stands. -/
def State.rangeStep (s : State) (sid : Nat) (d : Desc) (xs : List Dy) : State :=
  let row := rowOf sid
  let gid := groupId sid d.group
  if s.on TAL_NQ_CTL.RANGE_AUTO row && (s.group gid).hasMsq then
    let sh := (s.groupFmt sid d.group).shift
    let x := s.group gid
    let m := stepMean (if d.trans then x.tmsq else x.msq) (meanSquare sh (if d.trans then 13 else 10) xs)
    let r := if d.trans then x.trange else s.rd TAL_TILE_STAT.RANGE gid
    let want := wantRange m (if d.trans then 7 else 9) r
    let r' := (max 0 (min want 15)).toNat
    let s1 := s.setGroup gid (if d.trans then { x with tmsq := m, trange := r' } else { x with msq := m })
    let s2 := if d.trans then s1 else
      (s1.wr TAL_TILE_STAT.RANGE gid r').wr TAL_TILE_STAT.RMS_P gid (isqrt m.floor.toNat)
    let s3 := if r' = r then s2 else s2.bump TAL_NQ_RANGE_CHG_CNT.V row
    if want < 0 ∨ 15 < want then s3.nqFlag TAL_NQ_ERR.RANGE_LIMIT row (posOf sid) d.group else s3
  else s

/-! ### STRIKE_RELEASE (R99, R141) -/

/-- E of R141. -/
def partialExp (d : Desc) (shift : Nat) : Int :=
  if !d.stock then Int.ofNat d.frange - 8
  else Int.ofNat d.range - (if d.trans then 6 else if d.wide then 4 else 8) - Int.ofNat shift

/-- The part that a corrected strike brings to accumulation; the inspector's values enter as a lone promotion (R584). -/
def State.partOf (s : State) (sid : Nat) (n : Narrow) (f : Feed) (x : Strike) : PVec :=
  let d := x.desc
  let xs := if d.trans then x.xs else (x.xs.zipIdx).map fun (v, c) => v.add (s.outlier sid n f d c)
  if x.isExact then .lone (s.feedCol f) n.kmax xs
  else .analog (s.feedCol f) n.kmax (partialExp d (if d.stock then (s.groupFmt sid d.group).shift else 0)) xs

/-- Every pass of the strike's vector for its group has ended (R99). -/
def Stall.passesDone (st : Stall) (tag g : Nat) : Bool := st.passes.all fun p => !(p.tag == tag && p.group == g)

/-- The strike belongs to the copy of a paired tile with the higher global logical stall number (R374). -/
def State.isCopy (s : State) (sid g : Nat) : Bool :=
  match s.partner sid g with
  | some q => s.pairedGrp sid g && decide (q < s.logicalNo sid)
  | none => false

/-- The strike belongs to the primary copy of a paired tile. -/
def State.isPrimary (s : State) (sid g : Nat) : Bool :=
  match s.partner sid g with
  | some q => s.pairedGrp sid g && decide (s.logicalNo sid < q)
  | none => false

/-- Range control of a released strike: each strike of a pair as a strike of its own, high nibbles first. -/
def State.rangeOf (s : State) (sid : Nat) (x : Strike) : State :=
  if !x.desc.stock || x.isExact then s
  else if x.desc.wide then (s.rangeStep sid x.desc x.xh).rangeStep sid x.desc x.xl
  else s.rangeStep sid x.desc x.xs

/-- Release the values of corrected strikes of one position. -/
def State.releaseStrikes (s : State) (sid : Nat) (n : Narrow) (f : Feed) (xs : List Strike) (entry : Bool) : State :=
  let s1 := xs.foldl (fun s x => s.rangeOf sid x) s
  let s2 := s1.deliver sid n f (xs.map fun x => s.partOf sid n f x) entry
  xs.foldl (fun s x =>
    if s.isPrimary sid x.desc.group && x.desc.stock && s.on CHK_CTL.PAIR_EN then s.setStrike sid x { x with stage := .released, pairOpen := true, red := s.feedRed f, seq := n.seq }
    else s.dropStrike sid x) s2

/-- The values of a fresh attention strike go to its row, for the probabilities or the merge of its block, in place of a reduction (R256, R258). -/
def State.keepAttn (s : State) (sid : Nat) (n : Narrow) (x : Strike) : State :=
  let r : AttnRes := ⟨posOf sid, n.tag, x.xs.map fun v => F32.ofDy (v.mul ⟨1, n.kmax⟩)⟩
  (((s.dropStrike sid x).freeEntries (rowOf sid) (ofBool x.entry)).putAttn (rowOf sid) r).modStall sid fun st => st.giveUp n.tag (outOf x.desc)

/-- STRIKE_RELEASE (R99, R377): a strike that is corrected, has passed every check and whose passes have ended is released to accumulation; the two halves of a split together (R122). A primary copy's strike, whose results stay unchecked, waits while its position depends on 64 unchecked strikes and pairs. -/
def execStrikeRelease (row stall no : Nat) (fresh : Bool) (s : State) : Result :=
  if !stallOk row stall then .next s else
    let sid := stallId row stall
    let st := s.stall sid
    match st.inflight.find? fun x => x.stage == .corrected && x.no == no && x.desc.fresh == fresh with
    | none => .next s
    | some x =>
      let g := outOf x.desc
      if x.half = 3 then .next (s.discardStrike sid x)
      else if x.desc.stock && x.half != 2 && s.isPrimary sid x.desc.group && s.on CHK_CTL.PAIR_EN && decide (64 ≤ s.openCount (((st.record x.desc.tag).map (·.seq)).getD 0xFFFF)) then .next s
      else if x.desc.stock && s.isCopy sid x.desc.group then
        (if s.on CHK_CTL.PAIR_EN then .next s else .next (s.discardStrike sid x))
      else if !st.passesDone x.desc.tag g then .next s
      else
        match (st.record x.desc.tag).bind fun n => (n.feed g).map fun f => (n, f) with
        | none => .next (((s.accFlag TAL_ACC_ERR.PLAN row stall).freeEntries row (ofBool x.entry)).dropStrike sid x)
        | some (n, f) =>
          if n.void.contains g then .next (s.discardStrike sid x)
          else if f.attn then .next (s.keepAttn sid n x)
          else if x.half = 0 then .next (s.releaseStrikes sid n f [x] x.entry)
          else
            match st.inflight.find? fun y => y.stage == .corrected && y.half != 0 && y.half != x.half
                && y.desc.tag == x.desc.tag && y.desc.group == x.desc.group with
            | some y => .next (s.releaseStrikes sid n f (if x.half = 1 then [x, y] else [y, x]) (x.entry || y.entry))
            | none => .next s

/-! ### Clips (R122, R123, R322) -/

/-- The part of its vector that a strike drives: the stock vector, or one fresh slice. -/
def sliceOf (d : Desc) : Option Nat := if d.stock then none else some (d.part % 16)

/-- Write replay or split descriptors for a clipped strike: its bank is rewritten from the narrow record first (R122, R124). -/
def State.restrike (s : State) (sid : Nat) (x : Strike) (ds : List Desc) : State :=
  let st := s.stall sid
  let b := if x.desc.stock then x.desc.slot else x.desc.fslot
  let part := sliceOf x.desc
  let s1 := match st.record x.desc.tag with
    | some n => s.setStall sid ((st.stage n part b).markStaged n part b)
    | none => s
  ds.foldl (fun s d => s.pushDesc sid d) (s1.setStrike sid x { x with stage := .replaying })

/-- The clipped strike that a command names, once its bank may be rewritten (R40). -/
def State.clippedOf (s : State) (sid no : Nat) (fresh : Bool) : Option Strike :=
  let st := s.stall sid
  (st.inflight.find? fun x => x.stage == .clipped && x.no == no && x.desc.fresh == fresh).bind fun x =>
    match st.record x.desc.tag with
    | some n => if s.bankFree sid n (sliceOf x.desc) (if x.desc.stock then x.desc.slot else x.desc.fslot) then some x else none
    | none => some x

/-- CLIP_REPLAY (R122 steps 1 and 2, R123, R322): the strike is struck again at RANGE r + 1, then r + 2. -/
def execClipReplay (row stall no : Nat) (fresh : Bool) (s : State) : Result :=
  if !stallOk row stall then .next s else
    let sid := stallId row stall
    match s.clippedOf sid no fresh with
    | none => .next s
    | some x =>
      match clipNext x with
      | .replay r =>
        let d := if x.desc.stock then { x.desc with replay := true, range := r } else { x.desc with replay := true, frange := r }
        let s1 := if x.desc.trans then s.bump SRV_TUNE_TCLIP_CNT.V else s.bump TAL_NQ_CLIP_REPLAY_CNT.V row
        .next (s1.restrike sid x [d])
      | _ => .next s

/-- CLIP_SPLIT (R122 step 3, R123): two strikes at RANGE min(r + 2, 15), over the lower-numbered ⌈n/2⌉ crates of the mask and over the rest. -/
def execClipSplit (row stall no : Nat) (fresh : Bool) (s : State) : Result :=
  if !stallOk row stall then .next s else
    let sid := stallId row stall
    match s.clippedOf sid no fresh with
    | none => .next s
    | some x =>
      match clipNext x with
      | .split =>
        let m := lowHalf x.origMask
        let d := { x.desc with replay := true, range := min (x.origRange + 2) 15, mask := m }
        .next ((s.bump TAL_NQ_SPLIT_CNT.V row).restrike sid x [d, { d with mask := x.origMask - m }])
      | _ => .next s

/-! ### Trims (R91, R93, R108, R467) -/

/-- The group of a trim column: 0–3, or 4 for the fresh columns. -/
def trimGroup (col : Nat) : Nat := col / 1024

/-- A target entry: the group's sixteen steps begin from the entries then in effect (R467). -/
def State.setTrim (s : State) (sid col e : Nat) : State :=
  s.modStall sid fun st =>
    let g := trimGroup col
    let inGroup (c : Nat) : Bool := c / 1024 == g
    { st with trimsTo := FMap.set 0 st.trimsTo col e,
              trimsFrom := (st.trimsNow.filter fun p => inGroup p.1).foldl (fun m p => FMap.set 0 m p.1 p.2)
                            (st.trimsFrom.filter fun p => !inGroup p.1),
              trimStep := FMap.set (0, 0) st.trimStep g (1, 0) }

/-- TRIM_DATA_WRITE (R93, R108): a clerk sets the target of the selected entry. -/
def execTrimDataWrite (who : Who) (row val : Nat) (s : State) : Result :=
  .next (s.talWrite who row 0x230 fun s =>
    s.setTrim (stallId row (s.rd TAL_TRIM_SEL.STALL row)) (s.rd TAL_TRIM_SEL.COLUMN row) (val % 2 ^ 30))

/-- TRIM_STEP (R467): a step of the group's trims that is due takes effect, before the group's next strike edge. -/
def execTrimStep (row stall group : Nat) (s : State) : Result :=
  .next (if stallOk row stall && decide (group < 5) then s.trimStep (stallId row stall) group else s)

/-! ### Overflow passes (R98, R102) -/

/-- The shard that a pass reads is valid, and the ledger row can be read. -/
def State.passRow (s : State) (f : Feed) : Bool :=
  match s.genOf f.slot f.gen with
  | some g =>
    if f.src < 0x80000000 then (match g.pitch f.src with
      | some p => (g.shard p.shard).valid
      | none => false)
    else (match g.man.streams[f.src - 0x80000000]? with
      | some t => (g.shard t.shard).valid
      | none => false)
  | none => false

/-- The products of a pass are checked against the checksum of its channel (R367); a mismatch fails the strike of its group, at once when that has passed its other checks. -/
def State.passResidue (s : State) (sid : Nat) (p : Pass) (lane : List (Nat × Word32)) : State :=
  match (s.stall sid).record p.tag with
  | none => s
  | some n =>
    let d := { probeDesc (p.group % 4) 0 with stock := decide (p.group < 4), part := p.group - 4, tag := p.tag }
    let off := lane.any fun e => decide (e.1 < 8) && (n.part d).dyn.any fun ch => ch.1 == p.chan && residueOff ch.2 n.kmax (s.laneSum sid p.feed e.1 p.chan) e.2
    if !off then s else
      let s1 := s.modStall sid fun st => { st with narrow := st.narrow.map fun y => if y.tag = p.tag then { y with badLane := (y.badLane ++ [p.group]).eraseDups } else y }
      let held := (s.stall sid).inflight.filter fun x => x.stage == .corrected && !x.isExact && x.desc.tag == p.tag && strikesOut x.desc p.group
      held.foldl (fun s x => (s.residueEvent sid x true).failStrike sid x x) s1

/-- OVERFLOW_PASS_END (R98, R101, R102, R367): the unit's pass ends, from its cache or after a fetch, and its products are checked; a row that cannot be read keeps the strike waiting. `ended.err` is what the fetch meets (R397); a shard that tier 2 holds encrypted is opened for it, and a GCM tag that fails is a failed arrival (R201). -/
def execOverflowPassEnd (row stall : Nat) (ended : PassEnd) (s : State) : Result :=
  if !stallOk row stall then .next s else
    let sid := stallId row stall
    let st := s.stall sid
    match st.passes with
    | [] => .next s
    | p :: ps =>
      let f := p.feed
      let key := s.rowKey f p.chan
      let err := ended.err
      let finish (s : State) (st : Stall) : State := (((s.setStall sid { st with passes := ps }).bump TAL_OUT_PASS_CNT.V row).bump TAL_OUT_WIDE_OVF_CNT.V row (ofBool p.beyond)).passResidue sid p ended.lane
      let i := s.feedShard f
      let ue := s.ueIn f.slot f.gen i err.ue
      let opens := ((s.genOf f.slot f.gen).bind fun g => s.readShard f.slot g i).isSome
      if p.failed then .next s
      else if st.cache.contains key then .next (finish s st)
      else
      let s := if s.passRow f then s.shardRead f.slot f.gen i err else s
      if ue.isNone && s.passRow f && opens then
        .next ((finish s { st with cache := (key :: st.cache).take 8 }).bump TAL_OUT_FETCH_CNT.V row)
      else
        let s1 := match ue with
          | some g => s.ledgerUE f.slot f.gen i g
          | none => if s.passRow f then s.reopen f.slot f.gen i else s
        .next ((s1.modStall sid fun st => { st with passes := st.passes.map fun x => if x == p then { p with failed := true } else x }).corFlag
          TAL_COR_ERR.LEDGER_ROW row stall (if p.group < 4 then p.group else 0))

/-- LEDGER_ROW_RETRY (R102): after the porter reports the shard valid, the fetch is tried again. -/
def execLedgerRowRetry (row stall : Nat) (s : State) : Result :=
  if !stallOk row stall then .next s else
    let sid := stallId row stall
    let st := s.stall sid
    match st.passes with
    | p :: ps =>
      let f := p.feed
      if p.failed && s.passRow f then .next (s.setStall sid { st with passes := { p with failed := false } :: ps }) else .next s
    | [] => .next s

end Sys2Proof.Machine
end

