-- ==== Sys2Proof/Machine/Calibration.lean ====
section
/-! DEFINITION. Calibration runs, temperature re-estimates, repairs and substitution (R460 to R471, R477 to R480). -/

namespace Sys2Proof.Machine

/-! ### Repairs (R464, R477, R478) -/

/-- The spare is burned in fuses. -/
def State.fusedAt (s : State) (sel : Nat) : Bool := s.cal.fuses.any fun r =>
  match r with
  | .spare k _ => k == sel
  | _ => false

/-- The logical index has a spare already. -/
def State.mapped (s : State) (sel logical : Nat) : Bool :=
  s.cal.repairs.any fun e => sameSpan e.1 sel && bitAt e.2 10 && bitsOf e.2 0 10 == logical

/-- The crates leave the running stocking job: it does not take them (R480). -/
def State.leaveJob (s : State) (crates : List Nat) : State :=
  let drop (is : List Nat) : List Nat := is.filter fun i => !crates.contains i
  let s1 := { s with
    working := s.working.filter fun w => !crates.contains w.index,
    stock := s.stock.map fun j => { j with todo := drop j.todo, touch := drop j.touch, recs := j.recs.filter fun r => !crates.contains r.1 } }
  if s.stock.isSome then s1.jobNext else s1

/-- Assign a spare row or column to a logical index (R478). -/
def State.assignSpare (s : State) (sel logical : Nat) : State :=
  let s1 := { s with cal := { s.cal with repairs := FMap.set 0 s.cal.repairs sel (logical + 2 ^ 10 + 2 ^ 12) } }
  let s2 := s1.bump (if bitAt sel 19 then CAL_SPARE_COL_CNT.V else CAL_SPARE_ROW_CNT.V)
  let s3 := (spanned sel).foldl (fun s i => s.journalWrite i { s.jrn i with state := .unsettled }) (s2.leaveJob (spanned sel))
  s3.logRepair (selStall sel) (.spare sel logical)

/-- The lowest free spare row of a crate, or spare column of a group. -/
def State.freeSpare (s : State) (sid g crate kind : Nat) : Option Nat :=
  ((List.range (if kind = 1 then 32 else 16)).map (repairSel sid g crate kind)).find? fun k => !bitAt (s.repairAt k) 10

/-- REPAIR_ASSIGN (R478): a write of CAL_REPAIR_DATA. A logical index that is already mapped, a fused entry, and a selector that names no spare change nothing; VALID = 0 frees a soft repair. -/
def execRepairAssign (who : Who) (val : Nat) (s : State) : Result :=
  .next (s.adminWrite who CAL_REPAIR_DATA fun s =>
    let raw := (s.getReg CAL_REPAIR_SEL 0).toNat
    let kind := bitsOf raw 19 1
    let sel := repairSel (selStall raw) (bitsOf raw 14 2) (bitsOf raw 16 3) kind (bitsOf raw 20 5)
    let logical := bitsOf val 0 10
    if !stallOk (bitsOf raw 0 8) (bitsOf raw 8 6) || (kind == 0 && decide (16 ≤ bitsOf raw 20 5)) || s.fusedAt sel then s
    else if bitAt val 10 then
      if s.mapped sel logical then s
      else
        let old := s.repairAt sel
        (if bitAt old 10 then s.unlogRepair (.spare sel (bitsOf old 0 10)) else s).assignSpare sel logical
    else
      let old := s.repairAt sel
      let s1 := { s with cal := { s.cal with repairs := FMap.set 0 s.cal.repairs sel logical } }
      s1.unlogRepair (.spare sel (bitsOf old 0 10)))

/-! ### Triggers (R460, R469, R482) -/

/-- A write of CAL_CMD that names a stall of the device. -/
def State.calCmd (s : State) (who : Who) (row stall : Nat) (f : State → State) : State :=
  s.adminWrite who CAL_CMD fun s => if stallOk row stall then f s else s

/-- CALIBRATION_QUEUE (R460): CAL_CMD with OP = 1. -/
def execCalibrationQueue (who : Who) (row stall : Nat) (s : State) : Result :=
  .next (s.calCmd who row stall fun s => s.queueCal (stallId row stall))

/-- CALIBRATION_WITHDRAW (R482): CAL_CMD with OP = 4; a run that has started goes on. -/
def execCalibrationWithdraw (who : Who) (row stall : Nat) (s : State) : Result :=
  .next (s.calCmd who row stall fun s =>
    let sid := stallId row stall
    if s.cal.queue.contains sid then
      let s1 := ({ s with cal := { s.cal with queue := s.cal.queue.erase sid } } : State).wr CAL_STAT.QUEUED 0 (s.cal.queue.length - 1)
      if s1.rd CAL_STALL_STAT.RUN sid = 1 then s1.wr CAL_STALL_STAT.RUN sid 0 else s1
    else s)

/-- A reference re-estimate of a row (R469): every stock group enters fast mode, T_ref becomes T. -/
def State.reestimate (s : State) (row : Nat) : State :=
  let t := s.rowTemp row
  let s1 := (List.range 33).foldl (fun s p => (List.range 4).foldl (fun s g => s.fastMode (groupId (stallId row p) g)) s) s
  ((s1.modRow row fun r => { r with tref := t }).wr CAL_ROW_TEMP.REF row (patternOf 16 t)).bump CAL_REEST_CNT.V

/-- REFERENCE_REESTIMATE (R469): CAL_CMD with OP = 2. -/
def execReferenceReestimate (who : Who) (row : Nat) (s : State) : Result :=
  .next (s.adminWrite who CAL_CMD fun s => if rowOk row then s.reestimate row else s)

/-- PERIODIC_CALIBRATION (R482): PERIOD hours, of 1,757,813 warden rounds each, have passed since the stall's last commit. -/
def execPeriodicCalibration (row stall : Nat) (s : State) : Result :=
  let sid := stallId row stall
  let c := FMap.get 0 s.cal.commitAt sid
  if stallOk row stall ∧ c ≠ 0 ∧ s.rd CAL_CTL.PERIOD ≠ 0 ∧ c - 1 + 1757813 * s.rd CAL_CTL.PERIOD ≤ s.rd WDN_ROUND.V then .next (s.queueCal sid)
  else .next s

/-! ### Runs (R460 to R463) -/

/-- A run of the stall may start: its row has none in its slots, the stall is neither SHUTTERED nor in FAULT (R480), and its row issues. -/
def State.calMay (s : State) (sid : Nat) : Bool :=
  !((List.range 33).any fun p => s.calActive (stallId (rowOf sid) p)) && s.stState sid != stShuttered && s.stState sid != stFault
    && !s.closingStall sid && !(s.stall sid).drains.contains .bst && !s.warden.outRows.contains (rowOf sid) && !s.warden.offQuarters.contains (quarterOf (rowOf sid))

/-- The replays of a run, group by group (R462, R466): 32 calibration vectors and the probe vector, and with TRANS_EN the 8 transpose vectors. -/
def State.calReplays (s : State) (sid : Nat) : List (Nat × Nat) :=
  (List.range 4).flatMap fun g => (List.range (if s.on STL_CTL.TRANS_EN sid then 41 else 33)).map fun v => (g, v)

/-- The inspector queues the replays of a run as class-1 jobs when the run begins, since the count fixes the vectors (R462). -/
def State.queueReplays (s : State) (sid : Nat) : State :=
  (s.calReplays sid).foldl (fun s k => s.queueJob 1 (.cal k.1 k.2) sid k.1 0 0 0xFFFF) s

/-- BLOCK mode (R461): the row scheduler issues the stall no descriptor, and the stall drains. -/
def State.calBlockOn (s : State) (sid : Nat) : State :=
  let runs := FMap.modify CalRun.init s.cal.runs sid fun r => { r with block := true }
  ((({ s with cal := { s.cal with runs := runs } } : State).modStall sid fun st => { st with calBlock := true }).drainReq sid .cal).wr CAL_STALL_STAT.RUN sid 3

/-- CALIBRATION_RUN_START (R460 to R462): the first stall queued whose row has no run starts in GAP mode; one whose every group is withdrawn runs in BLOCK at once. Its replays are queued. -/
def execCalibrationRunStart (s : State) : Result :=
  if 3 ≤ s.rd WDN_STAT.THERM ∨ s.rd WDN_RST_CAUSE.STATE = 5 then .next s else
    match s.cal.queue.find? s.calMay with
    | none => .next s
    | some sid =>
      let s1 := { s with cal := { s.cal with queue := s.cal.queue.erase sid, runs := FMap.set CalRun.init s.cal.runs sid ⟨s.now, [], [], 0, false⟩ } }
      let s2 := ((s1.wr CAL_STAT.QUEUED 0 s1.cal.queue.length).bump CAL_STAT.ACTIVE).wakeStall sid |>.queueReplays sid
      if (List.range 4).all fun g => (s.group (groupId sid g)).withdrawn then .next (s2.calBlockOn sid)
      else .next (s2.wr CAL_STALL_STAT.RUN sid 2)

/-- BLOCK_MODE_SWITCH (R461): GAP_LIMIT ms have passed before the last slot, and a step marker has come. -/
def execBlockModeSwitch (row stall : Nat) (s : State) : Result :=
  let sid := stallId row stall
  if stallOk row stall ∧ s.rd CAL_STALL_STAT.RUN sid = 2
      ∧ (FMap.get CalRun.init s.cal.runs sid).startAt + 25000 * s.rd CAL_CTL.GAP_LIMIT ≤ s.now then .next (s.calBlockOn sid)
  else .next s

/-- A run leaves its slots: no run is held for the stall, replays of it that have not ended are dropped, its descriptors resume, and a test that waited for the run shutters the stall (R480). -/
def State.calLeave (s : State) (sid run : Nat) : State :=
  let s1 := { s with cal := { s.cal with runs := FMap.set CalRun.init s.cal.runs sid CalRun.init }
                     jobs := s.jobs.filter fun j => !(j.ofRun && j.stall == sid) }
  (((s1.wr CAL_STAT.ACTIVE 0 (s1.rd CAL_STAT.ACTIVE - 1)).wr CAL_STALL_STAT.RUN sid run).calBlockOff sid).testShut

/-- A replay of the run failed (R462): it is abandoned and requeued behind the runs already queued. -/
def State.calAbandon (s : State) (sid : Nat) : State :=
  ((s.calLeave sid (ofBool (s.cal.queue.contains sid))).queueCal sid).calFlag CAL_ERR.INSPECT sid

/-- The column's fit lies inside the fields of a trim entry and within COL_MAX × σ_B (R464). -/
def State.colOk (s : State) (c : ColFit) : Bool :=
  decide (-2048 ≤ c.gain ∧ c.gain ≤ 2047 ∧ -512 ≤ c.offset ∧ c.offset ≤ 511 ∧ c.resid ≤ 750 * s.rd CAL_CTL.COL_MAX)

/-- The target entry of a fit. DESIGN CHOICE (log entry 113): a value outside its field, as a fit of a spare or of a fresh column may give one, saturates. -/
def colTrim (c : ColFit) : Nat := trimOf (max (-2048) (min c.gain 2047)) (max (-512) (min c.offset 511)) (min c.drop 255)

/-- A fit that says nothing. -/
def colZero : ColFit := ⟨0, 0, 0, 0⟩

/-- The columns of a group that need repair take spares (R464, R478): the state, the target entries, and whether every one of them got a spare. -/
def State.repairCols (s : State) (sid g : Nat) (fit : CalFit) : State × List Nat × Bool :=
  let bad := (fit.cols.zipIdx.filter fun (e : ColFit × Nat) => !s.colOk e.1).map fun (e : ColFit × Nat) => e.2
  bad.foldl (fun (acc : State × List Nat × Bool) c =>
    let need (s : State) : State := (s.calFlag CAL_ERR.REPAIR_NEED sid).modGroup (groupId sid g) fun x => { x with withdrawn := true }
    let (s, ts, ok) := acc
    let sel := repairSel sid g 0 1 0
    if !s.on CAL_CTL.AUTO_SPARE_COL || s.mapped sel c then (need s, ts, false)
    else match s.freeSpare sid g 0 1 with
      | some k => (s.assignSpare k c, ts.set c (colTrim (fit.spares.getD (bitsOf k 20 5) colZero)), ok)
      | none => (need (s.calFlag CAL_ERR.SPARE_COL_OUT sid), ts, false)) (s, fit.cols.map colTrim, true)

/-- The slices of a stall compared (R465): one within 4 codes of every other of its channel at every level is in limit; a working one that differs from the spare as R55 says is out of limit, and so is a spare that differs so from every working one. DESIGN CHOICE (log entry 79): a slice that is neither keeps its bit; with the spare out of limit, a working slice is out of limit that differs so from every other working one. -/
def State.calSlices (s : State) (sid : Nat) (chans : List (List (List Nat))) : State :=
  (chans.zipIdx.take 8).foldl (fun s (ch : List (List Nat) × Nat) =>
    let code (j i : Nat) : Int := Int.ofNat ((ch.1.getD j []).getD i 0)
    let spareOut := (List.range 4).all fun j => outOfLimit ((List.range 64).map fun i => code 4 i - code j i)
    (List.range 5).foldl (fun s j =>
      let h := (s.getReg STL_SLICE_HEALTH sid).toNat
      let b := 5 * ch.2 + j
      let near := (List.range 5).all fun o => (List.range 64).all fun i => decide ((code j i - code o i).natAbs ≤ 4)
      let out (o : Nat) : Bool := outOfLimit ((List.range 64).map fun i => code j i - code o i)
      let bad := if j = 4 then spareOut else if spareOut then (List.range 4).all (fun o => o == j || out o) else out 4
      if near then s.sliceGood sid ch.2 j
      else if bitAt h b || !bad then s
      else if j = 4 then s.spareBad sid ch.2 else s.sliceBad sid ch.2 j) s) s

/-- TAL_SIGMA of a group, and what a σ above σ_B leads to (R84); the measured figure serves the check from now on (R88). DESIGN CHOICE (log entry 80): every further run above σ_B raises TOUCHUP_DUE again and queues no run. -/
def State.recordSigma (s : State) (sid g : Nat) (fit : CalFit) : State :=
  let gid := groupId sid g
  let high := decide (750 < fit.sigma)
  let n := if high then (s.group gid).overRuns + 1 else 0
  let s1 := ((s.wr TAL_SIGMA.SIGMA gid (min fit.sigma 65535)).bumpSat TAL_SIGMA.RUNS gid).wr TAL_SIGMA.OVER gid (ofBool high)
  let s2 := s1.modGroup gid fun x => { x with
    overRuns := n, sigmaR := fit.sigmas.foldl (fun m (p : Nat × Nat) => if p.1 < 3 ∨ 13 ≤ p.1 ∧ p.1 < 16 then FMap.set 750 m p.1 p.2 else m) x.sigmaR }
  if !high then s2
  else
    let s3 := s2.corFlag TAL_COR_ERR.SIGMA_OVER (rowOf sid) (posOf sid) g
    if n = 1 then s3.queueCal sid else (groupCrates sid g).foldl State.touchupDue s3

/-- E_j as an entry of the probe table holds it: 16 bits of two's complement. DESIGN CHOICE (log entry 108): in units of 2⁻¹⁵ of the column full scale, rounded to nearest and saturated. -/
def probeEntry (scale : Int) (E : Dy) : Dy := ⟨max (-32768) (min (E.mul ⟨1, 15 - scale⟩).rne 32767), scale - 15⟩

/-- E_j lies within the column tolerance of R374 of the exact probe output in every column (R371, R463). -/
def State.probeConfirmed (s : State) (sid g r : Nat) (es : List Dy) : Bool :=
  let exact := (List.range 1024).map (s.exactCol sid (probeDesc g r) (List.replicate 64 0) (s.calDrive sid g 32))
  es.length == 1024 && (colsOver es exact (s.columnTol sid g r (fullScale r (s.groupFmt sid g).shift) true)).isEmpty

/-- The 12-bit gain and 10-bit offset of a row-sense converter (R466); outside them they saturate (log entry 113). -/
def rowFields (p : Int × Int) : Int × Int := (max (-2048) (min p.1 2047), max (-512) (min p.2 511))

/-- The row-sense converters of the stall and the group's transpose σ (R466). -/
def State.calRows (s : State) (sid g : Nat) (fit : CalFit) : State :=
  if s.on STL_CTL.TRANS_EN sid && !fit.rows.isEmpty then
    (s.modStall sid fun st => { st with
      rowTrim := (fit.rows.zipIdx.take 64).foldl (fun m (p : (Int × Int) × Nat) => FMap.set (0, 0) m p.2 (rowFields p.1)) st.rowTrim }).modGroup
      (groupId sid g) fun x => { x with sigmaT := fit.sigmaT }
  else s

/-- The targets of the trims of the converter slices, which move to them at strike edges (R52, R465). A code leaves its channel trimmed, so a code that a command brings is one after its slice trim (log entry 81). -/
def State.calSliceTrims (s : State) (sid : Nat) (fit : CalFit) : State :=
  if fit.sliceTrims.isEmpty then s
  else s.modStall sid fun st => { st with
    sliceTo := (fit.sliceTrims.zipIdx.take 40).foldl (fun m (p : (Int × Int) × Nat) => FMap.set (0, 0) m p.2 (sliceFields p.1)) st.sliceTo }

/-- CAL_HOST_STAMP and the WDN_ROUND of its write as a commit records them (R468): those before a write of the same CLK_AO cycle (R480). -/
def State.hostStamp (s : State) : Nat × Nat := if s.cal.stampNow = s.now + 1 then s.cal.stampOld else (s.rd CAL_HOST_STAMP.STAMP, s.cal.stampAt)

/-- The commit (R467, R468): the targets of the groups fitted take their sixteen steps, E_j and its RANGE are recorded where the inspector confirmed them (R371), the groups serve, the count and the stamp are recorded. -/
def State.calCommit (s : State) (sid : Nat) (fits : List GroupFit) : State :=
  let s1 := fits.foldl (fun s (f : GroupFit) =>
    let s1 := (f.trims.zipIdx).foldl (fun s (e : Nat × Nat) => s.setTrim sid (1024 * f.group + e.2) e.1) s
    if f.group < 4 then s1.modGroup (groupId sid f.group) fun x => { x with withdrawn := false, beyond := false, probeE := if f.probeE.isEmpty then x.probeE else f.probeE, probeR := if f.probeE.isEmpty then x.probeR else f.probeR } else s1) s
  let s2 := ((s1.bump CAL_STALL_STAT.COUNT sid).wr CAL_STALL_STAMP.STAMP sid s1.hostStamp.1).wr CAL_STALL_ROUNDS.AFTER sid
    (min (s1.rd WDN_ROUND.V - s1.hostStamp.2) (2 ^ 32 - 1))
  { s2.bump CAL_RUN_CNT.V with cal := { s2.cal with
    commitAt := FMap.set 0 s2.cal.commitAt sid (s2.rd WDN_ROUND.V + 1), commitT := FMap.set 0 s2.cal.commitT sid (s2.rowTemp (rowOf sid)) } }

/-- Once every group is fitted, the run ends: with a commit when some group needs no repair that it has not got. -/
def State.calFinish (s : State) (sid : Nat) : State :=
  let r := FMap.get CalRun.init s.cal.runs sid
  if !((List.range 4).all fun g => r.lost.contains g || r.fits.any fun f => f.group == g) then s
  else if r.fits.any fun f => decide (f.group < 4) then (s.calCommit sid r.fits).calLeave sid 5
  else s.calLeave sid (ofBool (s.cal.queue.contains sid))

/-- CALIBRATION_FIT (R463 to R466): the fit of one group of a stall in a run, once the slots for it and for each group before it have been struck and its last replay has ended, whose ledger rows are to hand (R214, R462). -/
def execCalibrationFit (row stall group : Nat) (fit : CalFit) (s : State) : Result :=
  let sid := stallId row stall
  let r := FMap.get CalRun.init s.cal.runs sid
  if !(stallOk row stall && decide (group < 4) && s.calActive sid) || r.lost.contains group || (r.fits.any fun f => f.group == group)
      || decide (r.slots < s.calNeed sid * ((r.fits.filter fun f => decide (f.group < 4)).length + r.lost.length + 1))
      || s.jobs.any (fun j => j.ofRun && j.stall == sid && j.group == group) || !s.tileValid sid group then .next s
  else
    let range := s.rd TAL_TILE_STAT.RANGE (groupId sid group)
    let s1 := ((((s.calSlices sid fit.slices).calSliceTrims sid fit).recordSigma sid group fit).calRows sid group fit)
    let es := fit.probe.map fun (e : Int × Int) => Dy.scaled e.1 e.2
    let fresh : List GroupFit :=
      if r.block && s.on STL_CTL.FRESH_EN sid && !fit.fresh.isEmpty then [⟨4, fit.fresh.map fun c => colTrim { c with drop := 0 }, [], 0⟩] else []
    let (s2, trims, ok) := s1.repairCols sid group fit
    let es16 := es.map (probeEntry (fullScale range (s.groupFmt sid group).shift))
    let f : GroupFit := ⟨group, trims, if s2.probeConfirmed sid group range es then es16 else [], range⟩
    let r2 : CalRun := if ok then { r with fits := r.fits ++ [f] ++ fresh } else { r with lost := r.lost ++ [group], fits := r.fits ++ fresh }
    .next (({ s2 with cal := { s2.cal with runs := FMap.set CalRun.init s2.cal.runs sid r2 } } : State).calFinish sid)

/-! ### The spare stall (R479) -/

/-- The tiles of a stall pass to the spare that takes its place: their range control and wide state, and the lanes' memories, which the porter loads from their ledger rows (R94, R125, R363). -/
def State.moveTiles (s : State) (old new : Nat) : State :=
  let s1 := (List.range 4).foldl (fun s g =>
    let x := s.group (groupId old g)
    ((s.setReg TAL_TILE_STAT (groupId new g) (s.getReg TAL_TILE_STAT (groupId old g))).modGroup (groupId new g) fun y =>
      { y with msq := x.msq, hasMsq := x.hasMsq, tmsq := x.tmsq, trange := x.trange }).endTile (groupId old g)) s
  s1.reloadSram new

/-- SPARE_STALL_SUBSTITUTE (R479): CAL_CMD with OP = 3. The spare must be in SPARE_IDLE and have passed tests 1 to 3 since its last reset; it takes the place of physical stall n, which enters FAULT, and serves its logical stall once every crate that it takes over is VERIFIED (R17). -/
def execSpareStallSubstitute (who : Who) (row stall : Nat) (s : State) : Result :=
  .next (s.calCmd who row stall fun s =>
    let sid := stallId row stall
    let spare := stallId row 32
    let passed := [1, 2, 3].all fun t => s.cal.passed.contains (spare, t)
    if stall = 32 ∨ (s.row row).subst.isSome ∨ s.stState spare ≠ stSpareIdle ∨ !passed then s.calFlag CAL_ERR.NO_SPARE_STALL sid
    else
      let s1 := (s.modRow row fun r => { r with subst := some stall }).logRepair sid (.stall row stall)
      let s2 := ((s1.stallFault sid).setStState spare stRun |>.moveTiles sid spare).bump CAL_SUBST_CNT.V
      (s2.queueCal spare).catchUp (1, s2.logicalNo spare))

/-! ### Tiles that do not come back (R471) -/

/-- SHUT_WAIT_TIMEOUT (R471): a tile has not returned SHUT_WAIT ms after the first position began to wait for it; each waiting sequence ends with FAULT_CHECK. -/
def execShutWaitTimeout (row : Nat) (s : State) : Result :=
  if !rowOk row then .next s else
    let late (w : ShutWait) : Bool := s.stillShut w && decide (w.since + 25000 * s.rd BST_POLICY.SHUT_WAIT ≤ s.now)
    let same (a b : ShutWait) : Bool := a.stall == b.stall && a.desc.stock == b.desc.stock && (!a.desc.stock || a.desc.group == b.desc.group)
    let ws := (s.row row).shutFor
    let ended := ws.filter fun w => ws.any fun x => late x && same x w
    let s1 := s.modRow row fun r => { r with shutFor := ws.filter fun w => !ended.contains w }
    let s2 := ended.foldl (fun s w => (s.giveUpInst w.red w.desc.tag).giveUp w.stall w.desc.tag (outOf w.desc)) s1
    .next (((ended.map (·.seq)).eraseDups).foldl (fun s q => if q = 0xFFFF then s else s.faultSeq q 6) s2)

end Sys2Proof.Machine
end

