-- ==== Sys2Proof/Machine/Bist.lean ====
section
/-! DEFINITION. Self-test: requests, deferral, shuttering, verdicts, restore, and fuses (R472 to R477, R484). -/

namespace Sys2Proof.Machine

/-! ### Requests (R475, R476) -/

/-- A test that destroys its unit's state: logic or memory (R475). -/
def TestReq.destroys (t : TestReq) : Bool := t.test == 1 || t.test == 2

/-- The unit exists. -/
def TestReq.ok (t : TestReq) : Bool :=
  if t.kind = 0 then stallOk t.index t.stall else if t.kind = 1 then rowOk t.index else t.kind == 2 && decide (t.index < 16)

/-- A BST_ERR flag with its unit (R484). -/
def State.bstFlag (s : State) (f : RField) (t : TestReq) : State :=
  s.flagAt f 0 [(BST_ERR.ROW, t.index), (BST_ERR.STALL, t.stall), (BST_ERR.UNIT, t.kind)]

/-- BST_STAT.QUEUED shows the requests queued. -/
def State.showQueued (s : State) : State := s.wr BST_STAT.QUEUED 0 s.cal.waiting.length

/-- A weigh house under test: its sequences are reassigned (R472). -/
def State.emptyHouse (s : State) (h : Nat) : State :=
  (FMap.keysWhere s.seqs fun _ x => x.live && x.wh == h).foldl (fun s q => s.modSeq q fun x => { x with wh := s.pickHouse (h / 4) })
    (s.wr WH_STAT.STATE h 2)

/-- The next request is taken when none is in hand (R476) and its unit is not closing (R450): a destructive test shutters its unit and waits for its drain, another runs in gaps. -/
def State.nextTest (s : State) : State :=
  match s.cal.testing, s.cal.waiting with
  | none, t :: ts =>
    if s.closingTest t then s else
    let s1 := ({ s with cal := { s.cal with testing := some t, waiting := ts } } : State).showQueued
    if !t.destroys then s1.wr BST_STAT.STATE 0 2
    else if t.kind = 2 then (s1.emptyHouse t.index).wr BST_STAT.STATE 0 2
    else (s1.wr BST_STAT.STATE 0 1).testShut
  | _, _ => s

/-- Requests queue, at most 255 of them (R484). -/
def State.enqueueTest (s : State) (t : TestReq) : State :=
  if s.cal.waiting.length < 255 then
    ({ s with cal := { s.cal with waiting := s.cal.waiting ++ [t] } } : State).showQueued.nextTest
  else s

/-- A request: with INSPECT_SERVE = 0 a destructive test of a unit in service is deferred (R475); a spare in SPARE_IDLE is tested whenever requested. -/
def State.requestTest (s : State) (t : TestReq) : State :=
  let idle := t.kind == 0 && s.stState (stallId t.index t.stall) == stSpareIdle
  if t.destroys && !idle && !s.on BST_POLICY.INSPECT_SERVE then
    let s1 := { s with cal := { s.cal with deferred := s.cal.deferred ++ [t] } }
    let s2 := if s1.cal.testing.isNone then s1.wr BST_STAT.STATE 0 4 else s1
    (s2.bump BST_DEFER_CNT.V).bstFlag BST_ERR.DEFER t
  else s.enqueueTest t

/-- A write of BST_CMD that names a unit. -/
def State.bstCmd (s : State) (who : Who) (tests : List Nat) (unit index stall : Nat) : State :=
  s.adminWrite who BST_CMD fun s =>
    tests.foldl (fun s n => let t : TestReq := ⟨n, unit, index, if unit = 0 then stall else 0⟩
      if t.ok then s.requestTest t else s) s

/-- SELF_TEST_LOGIC (R472): BST_CMD with TEST = 1. -/
def execSelfTestLogic (who : Who) (unit index stall : Nat) (s : State) : Result := .next (s.bstCmd who [1] unit index stall)

/-- SELF_TEST_MEMORY (R473): BST_CMD with TEST = 2. -/
def execSelfTestMemory (who : Who) (unit index stall : Nat) (s : State) : Result := .next (s.bstCmd who [2] unit index stall)

/-- SELF_TEST_CONVERTER (R473): BST_CMD with TEST = 3. -/
def execSelfTestConverter (who : Who) (unit index stall : Nat) (s : State) : Result := .next (s.bstCmd who [3] unit index stall)

/-- CRATE_LINE_TEST (R474): BST_CMD with TEST = 4. -/
def execCrateLineTest (who : Who) (unit index stall : Nat) (s : State) : Result := .next (s.bstCmd who [4] unit index stall)

/-- SELF_TEST_ALL (R484): BST_CMD with TEST = 5, tests 1 to 3 in that order. -/
def execSelfTestAll (who : Who) (unit index stall : Nat) (s : State) : Result := .next (s.bstCmd who [1, 2, 3] unit index stall)

/-- SELF_TEST_WITHDRAW (R475, R484): BST_CMD with WITHDRAW = 1 withdraws the deferred requests for the named unit. -/
def execSelfTestWithdraw (who : Who) (unit index stall : Nat) (s : State) : Result :=
  .next (s.adminWrite who BST_CMD fun s =>
    let keep := s.cal.deferred.filter fun t => !(t.kind == unit && t.index == index && (unit != 0 || t.stall == stall))
    let s1 := { s with cal := { s.cal with deferred := keep } }
    if keep.isEmpty ∧ s1.rd BST_STAT.STATE = 4 then s1.wr BST_STAT.STATE 0 0 else s1)

/-- A READY model slot names the unit in its pitch map (R475). -/
def State.slotNames (s : State) (t : TestReq) : Bool :=
  s.slots.any fun e => s.slState e.1 == slReady && [e.2.cur, e.2.prev].any fun o => o.any fun g => g.man.pitch.any fun p =>
    if t.kind = 0 then s.logicalAt (stallId t.index t.stall) != 63 && p.stall == s.logicalNo (stallId t.index t.stall)
    else t.kind == 1 && p.stall / 32 == t.index

/-- SELF_TEST_DEFERRED_START (R475): the first deferred request whose unit no READY slot names runs; with none, the next request queued is taken. -/
def execSelfTestDeferredStart (s : State) : Result :=
  match s.cal.deferred.find? fun t => !s.slotNames t with
  | some t =>
    let s1 := { s with cal := { s.cal with deferred := s.cal.deferred.erase t } }
    let s2 := if s1.cal.deferred.isEmpty ∧ s1.rd BST_STAT.STATE = 4 then s1.wr BST_STAT.STATE 0 0 else s1
    .next (s2.enqueueTest t)
  | none => .next s.nextTest

/-! ### The end of a test (R472 to R476) -/

/-- The number of a unit in the fused signatures (R472). -/
def TestReq.unitNo (t : TestReq) : Nat := t.kind * 2 ^ 16 + (if t.kind = 0 then stallId t.index t.stall else t.index)

/-- The test passes: the signature, the memories, the row-sense converters. Slices out of limit and failing lines are repaired instead. -/
def TestReq.passes (t : TestReq) (o : TestOut) : Bool :=
  match t.test with
  | 1 => o.misr % 2 ^ 64 == Config.misrSignature t.unitNo % 2 ^ 64
  | 2 => o.memOk
  | 3 => o.convOk
  | _ => true

/-- A stall after a destructive test (R473): its staging banks are empty and both fresh planes EMPTY; checksum and outlier SRAM have been reloaded. -/
def State.clearStall (s : State) (sid : Nat) : State :=
  ((s.loseSram sid).reloadSram sid).modStall sid fun st => { st with cache := [] }

/-- A stall returns to service (R476). -/
def State.returnStall (s : State) (sid : Nat) : State :=
  let s1 := if s.logicalAt sid = 63 then s else s.catchUp (1, s.logicalNo sid)
  let s2 := s1.drainRel sid .bst
  s2.setStState sid (s2.serveState sid)

/-- A unit is restored (R476): a row's narrow store and source buffers are empty, its trims and probes are as before. -/
def State.restoreUnit (s : State) (t : TestReq) : State :=
  match t.kind with
  | 0 => let sid := stallId t.index t.stall; (s.clearStall sid).returnStall sid
  | 1 =>
    let s1 := (s.modRow t.index fun r => { r with bufs := [] })
    let s2 := t.stalls.foldl (fun s sid => s.modStall sid fun st => { st with narrow := [], waiting := [] }) s1
    t.stalls.foldl State.returnStall (s2.catchUp (2, t.index))
  | _ => (s.wr WH_STAT.STATE t.index (ofBool !s.houseAsleep t.index)).catchUp (3, t.index)

/-- A failed unit stays in FAULT (R476). -/
def State.failUnit (s : State) (t : TestReq) : State :=
  let s1 := (s.bump BST_FAIL_CNT.V).bstFlag BST_ERR.FAIL t
  match t.kind with
  | 0 =>
    let sid := stallId t.index t.stall
    ((s1.faultLog 12 3 (quarterOf t.index) t.index t.stall).drainRel sid .bst).stallFault sid
  | 1 => (t.stalls.foldl (fun s sid => s.drainRel sid .bst) (s1.faultLog 12 2 (quarterOf t.index) t.index 63)).rowFault t.index
  | _ => (s1.faultLog 12 4 (t.index / 4) t.index 63).houseFault t.index

/-- Slices that the converter test finds out of limit (R473) follow R55 and R56, spares too. -/
def State.testSlices (s : State) (sid : Nat) (bad : List (Nat × Nat)) : State :=
  bad.foldl (fun s (b : Nat × Nat) =>
    let h := (s.getReg STL_SLICE_HEALTH sid).toNat
    if 8 ≤ b.1 ∨ 5 ≤ b.2 ∨ bitAt h (5 * b.1 + b.2) then s
    else if b.2 = 4 then s.spareBad sid b.1
    else s.sliceBad sid b.1 b.2) s

/-- The weight of a cell, by the ledger row. -/
def State.lineQ (s : State) (sid g crate row col : Nat) : Int := s.tileQ sid g (1024 * crate + row) col

/-- The code that the line test expects of a cell: one row at code +8 and RANGE 2 gives 8 · 2^s · q (R474, R49). -/
def State.lineIdeal (s : State) (sid : Nat) (c : LineCell) : Nat :=
  idealAt 3 128 255 ⟨8 * s.lineQ sid c.group c.crate c.row c.col, Int.ofNat (s.groupFmt sid c.group).shift⟩

/-- The cells, as group, crate, row and column, that differ from that by more than 3 code steps. -/
def State.lineDiffs (s : State) (sid : Nat) (o : TestOut) : List (Nat × Nat × Nat × Nat) :=
  ((o.cells.filter fun c => decide (c.group < 4) && decide (c.crate < 8) && decide (c.row < 1024) && decide (c.col < 1024)
    && decide (3 < (Int.ofNat c.code - Int.ofNat (s.lineIdeal sid c)).natAbs)).map fun c => (c.group, c.crate, c.row, c.col)).eraseDups

/-- The rows that fail (R474): more than 8 columns differ, and some ledger weight of the row is not zero. -/
def State.lineRows (s : State) (sid : Nat) (o : TestOut) : List (Nat × Nat × Nat) :=
  let ds := s.lineDiffs sid o
  ((ds.map fun d => (d.1, d.2.1, d.2.2.1)).eraseDups).filter fun r =>
    decide (8 < (ds.filter fun d => (d.1, d.2.1, d.2.2.1) == r).length) && (List.range 1024).any fun c => s.lineQ sid r.1 r.2.1 r.2.2 c != 0

/-- The columns that fail (R474): they differ in more than 64 rows of their group. -/
def State.lineCols (s : State) (sid : Nat) (o : TestOut) : List (Nat × Nat) :=
  let ds := s.lineDiffs sid o
  ((ds.map fun d => (d.1, d.2.2.2)).eraseDups).filter fun c => decide (64 < (ds.filter fun d => (d.1, d.2.2.2) == c).length)

/-- Lines that the crate line test finds failing are repaired (R474, R478): a spare is assigned, or the group is withdrawn. -/
def State.testLines (s : State) (sid : Nat) (o : TestOut) : State :=
  let lose (s : State) (g : Nat) : State := s.modGroup (groupId sid g) fun x => { x with withdrawn := true }
  let s1 := (s.lineRows sid o).foldl (fun s (r : Nat × Nat × Nat) =>
    match s.freeSpare sid r.1 r.2.1 0 with
      | some k => if s.mapped k r.2.2 then s else s.assignSpare k r.2.2
      | none => lose (s.calFlag CAL_ERR.SPARE_ROW_OUT sid) r.1) s
  (s.lineCols sid o).foldl (fun s (c : Nat × Nat) =>
    match s.freeSpare sid c.1 0 1 with
      | some k => if s.mapped k c.2 then s else s.assignSpare k c.2
      | none => lose (s.calFlag CAL_ERR.SPARE_COL_OUT sid) c.1) s1

/-- SELF_TEST_DONE (R476): the running test ends. A destructive one that passed restores its unit; a failed one leaves it in FAULT. -/
def execSelfTestDone (o : TestOut) (s : State) : Result :=
  match s.cal.testing with
  | none => .next s
  | some t =>
    if s.rd BST_STAT.STATE ≠ 2 then .next s else
      let sid := stallId t.index t.stall
      let s1 := ({ s with cal := { s.cal with testing := none } } : State).bump BST_RUN_CNT.V
      let s2 := if t.test = 1 then s1.wr BST_RESULT.MISR 0 o.misr else s1
      let s3 := if t.kind ≠ 0 then s2 else if t.test = 3 then s2.testSlices sid o.slices else if t.test = 4 then s2.testLines sid o else s2
      if t.passes o then
        let s4 := if t.destroys then s3.restoreUnit t else s3
        let s5 := if t.kind = 0 then { s4 with cal := { s4.cal with passed := (s4.cal.passed ++ [(sid, t.test)]).eraseDups } } else s4
        .next ((s5.wr BST_STAT.STATE 0 5).nextTest)
      else .next (((s3.failUnit t).wr BST_STAT.STATE 0 6).nextTest)

/-! ### Fuses (R477) -/

/-- The soft repairs of a stall that stand: its spare rows and columns, its replaced slices, and the substitution that it takes part in. -/
def State.softRepairs (s : State) (sid : Nat) : List Repair :=
  let spares := (s.cal.repairs.filter fun e => selStall e.1 == sid && bitAt e.2 10).map fun e => Repair.spare e.1 (bitsOf e.2 0 10)
  let slices := ((List.range 8).filter fun k => s.rd (subField k) sid != 4).map fun k => Repair.slice sid k (s.rd (subField k) sid)
  let subst := match (s.row (rowOf sid)).subst with
    | some p => if posOf sid = 32 ∨ posOf sid = p then [Repair.stall (rowOf sid) p] else []
    | none => []
  (spares ++ slices ++ subst).filter fun r => !s.cal.fuses.contains r

/-- FUSE_BURN (R477): every soft repair of the stall that CAL_SEL names is burned and its log entry freed; with FUSE_EN = 0, or the stall not SHUTTERED, the command is refused. -/
def execFuseBurn (who : Who) (s : State) : Result :=
  .next (s.adminWrite who BST_FUSE_CMD fun s =>
    let row := s.rd CAL_SEL.ROW
    let pos := s.rd CAL_SEL.STALL
    let sid := stallId row pos
    if s.on BST_POLICY.FUSE_EN ∧ s.stState sid = stShuttered then
      let rs := s.softRepairs sid
      ({ s with cal := { s.cal with fuses := s.cal.fuses ++ rs, log := s.cal.log.filter fun r => !rs.contains r } } : State).bump BST_FUSE_CNT.V 0 rs.length
    else s.bstFlag BST_ERR.FUSE ⟨0, 0, row, pos⟩)

end Sys2Proof.Machine
end

