-- ==== Sys2Proof/Machine/Carts.lean ====
section
/-! DEFINITION. Carts as commands: dispatches and returns, parts, receipts and retractions, fences, home tables and their timers (R349 to R358). -/

namespace Sys2Proof.Machine

/-! ### Taking a cart from a receive buffer -/

/-- The pair of a cart is held. -/
def State.hasPair (s : State) (c : Cart) : Bool := s.cart.pend.any fun p => p.src == c.src && p.step == c.step

/-- The pair of a cart has been retracted or has timed out. -/
def State.deadPair (s : State) (c : Cart) : Bool := s.cart.dead.contains (c.src, c.step)

/-- A sequence that a RETURN belongs to (R351): matched by SRC_DEV and TAG. -/
def State.dispOf (s : State) (c : Cart) : Option Disp := s.cart.disps.find? fun d => d.dst == c.src && d.tag == c.arg1 / 2 ^ 32

/-- The reduction record that a PART cart names: its model slot, generation and record, of a reduction whose output this device forms. -/
def State.partRed (s : State) (c : Cart) : Option (Nat × Gen × RedRec) :=
  s.slots.findSome? fun e => [e.2.cur, e.2.prev].findSome? fun o => o.bind fun g =>
    (g.red (c.arg0 % 2 ^ 32)).bind fun r => if r.outDev = 0xFF then some (e.1, g, r) else none

/-- The sequence or paced stream whose position the result in a cart enters (R351, R377). -/
def State.cartSeq (s : State) (c : Cart) : Option Nat :=
  if c.typ = 2 then (s.dispOf c).map (·.seq)
  else if c.typ = 3 then (s.partRed c).bind fun e => (s.instOf e.2.2.outRow (c.arg0 % 2 ^ 32) (c.arg1 % 2 ^ 32)).map (·.seq)
  else none

/-- A cart stays in its receive buffer: an early cart of a new pair while the pending set is full (R358), or one whose position would depend on more than 64 pairs and unchecked strikes (R377). -/
def State.cartHeld (s : State) (c : Cart) : Bool :=
  c.early && !s.deadPair c &&
    ((!s.hasPair c && decide (4096 ≤ s.cart.pend.length))
      || (s.cartSeq c).any fun q => q != 0xFFFF && !(s.pairsOf q).contains (c.src, c.step) && decide (64 ≤ s.openCount q))

/-- The cart at a place of a port's receive buffer, when it is of this type and none before it on its channel must go first (R345). -/
def State.cartAt (s : State) (p idx typ : Nat) : Option RxCart :=
  let rx := (s.port p).rx
  match rx[idx]? with
  | some r => if decide (p < 8) && s.on CW_CTL.EN && r.cart.typ == typ && (rx.take idx).all (fun x => x.vc != r.vc || s.cartHeld x.cart) then some r else none
  | none => none

/-- The cart, which has woken the Square's clock (R436), leaves the buffer, and each of its frames is freed with the last of the carts in it (R339). -/
def State.takeCart (s : State) (p idx : Nat) (r : RxCart) : State :=
  r.frames.foldl (fun s f => s.freeFrame p r.vc f) (s.squareRuns.modPort p fun x => { x with rx := x.rx.eraseIdx idx })

/-- An early cart counts towards its pair; the first one of a pair adds it to the pending set (R355). -/
def State.countEarly (s : State) (c : Cart) : State :=
  if !c.early then s
  else if s.hasPair c then
    s.setPend (s.cart.pend.map fun p => if p.src = c.src ∧ p.step = c.step then { p with got := p.got + 1 } else p)
  else
    let note := s.cart.notes.find? fun n => n.1 == c.src && n.2.1 == c.step
    let s1 := s.modCart fun w => { w with notes := w.notes.filter fun n => !(n.1 == c.src && n.2.1 == c.step) }
    s1.setPend (s1.cart.pend ++ [⟨c.src, c.step, s.now, 1, note.map (·.2.2), []⟩])

/-- A result-bearing cart is taken: a held one stays with PEND_FULL set, one of a dead pair is discarded, any other is counted and used, and its pair then clears if it can. -/
def State.resultCart (s : State) (p idx typ : Nat) (use : State → Cart → State) : State :=
  match s.cartAt p idx typ with
  | none => s
  | some r =>
    if s.cartHeld r.cart then (if s.hasPair r.cart || decide (s.cart.pend.length < 4096) then s else s.cwFlag CW_ERR.PEND_FULL p r.cart.src)
    else
      let s1 := s.takeCart p idx r
      if r.cart.early && s.deadPair r.cart then s1.cartLost
      else
        let s2 := use (s1.countEarly r.cart) r.cart
        if r.cart.early then s2.tryClear r.cart.src r.cart.step else s2

/-- A position depends on the pair of an early cart, whose result enters it at a layer (R377, R378). -/
def State.dependOn (s : State) (q layer : Nat) (c : Cart) : State :=
  let k := (c.src, c.step)
  if !c.early || (s.pairsOf q).contains k then s
  else match pacedOf q with
    | some n => if (s.pace n).frames.isEmpty then s else s.setPace n { s.pace n with pairs := (s.pace n).pairs ++ [k] }
    | none => if (s.seq q).live then s.modSeq q fun x => { x with pairs := x.pairs ++ [k], pairAt := (x.pairAt.filter fun e => e.1 != k) ++ [(k, layer)] } else s

/-! ### Dispatch and return (R351 to R353) -/

/-- The READY slot of MODEL_ID that holds the generation whose low 8 bits equal GEN (R352). -/
def State.homeSlot (s : State) (c : Cart) : Option (ModelSlot × Gen) :=
  (s.slots.filter fun e => s.slState e.1 == slReady && e.2.cur.any fun g => g.man.modelId == c.arg0).findSome? fun e =>
    [e.2.cur, e.2.prev].findSome? fun o => o.bind fun g => if g.man.generation % 256 = bitsOf c.arg1 24 8 then some (e.2, g) else none

/-- DISPATCH (R352): the home runs the expert on the generation it names and answers with a RETURN; `hidden` is the model's hidden size, `out` the expert's output. -/
def execDispatch (port idx hidden : Nat) (out : List Word32) (s : State) : Result :=
  .next (s.resultCart port idx 1 fun s c =>
    let layer := bitsOf c.arg1 0 8
    let expert := bitsOf c.arg1 8 10
    let tag := c.arg1 / 2 ^ 32
    let home := s.homeSlot c
    let refused := home.isNone || c.payload.length != (hidden + hidden / 32 + 15) / 16 * 16
    let fenced := home.any fun e => e.1.fenced.contains (layer * 65536 + expert)
    let pairs := (if c.early then [(c.src, c.step)] else []) ++ (s.cart.parts.filter fun x => x.1 == tag).map (·.2)
    let answer (flags : Nat) (payload : List Byte) : State :=
      s.queueCart ⟨⟨2, flags, s.devNo, c.src, 0, s.rd SRV_STEP_CNT.V, c.arg0, c.arg1, payload⟩, 0, 0xFFFF, pairs.eraseDups, false⟩
    if refused then answer 4 [] else if fenced then answer 2 [] else answer 0 (vectorPayload out))

/-- RETURN (R351 to R353): the origin uses an expert's output; a REFUSED one is routed again, a FENCED one is a mask (R216); each such RETURN counts, whether or not a dispatch waits for it. `routes` are the experts that the position's routers then chose: those of a later layer, or of the same layer with the mask. -/
def execReturnCart (port idx : Nat) (routes : List (Nat × Nat × List Word32)) (s : State) : Result :=
  .next (s.resultCart port idx 2 fun s c =>
    let s0 := s.bump CW_REFUSED_CNT.V 0 (ofBool (bitAt c.flags 1 || bitAt c.flags 2))
    match s.dispOf c with
    | none => s0
    | some d =>
      let s1 := (s0.modCart fun w => { w with disps := w.disps.erase d }).dependOn d.seq d.layer c
      let s2 := if bitAt c.flags 2 then s1.route { d with tried := d.tried ++ [c.src], since := s.now }
        else if bitAt c.flags 1 then s1.maskFor d.seq d.layer d.expert
        else s1
      if routes.isEmpty then s2 else s2.rechoose d.seq routes)

/-- PART (R151, R343): a part of a reduction formed at another device joins its instance at the row that forms the tree. -/
def execPart (port idx : Nat) (s : State) : Result :=
  .next (s.resultCart port idx 3 fun s c =>
    let red := c.arg0 % 2 ^ 32
    let tag := c.arg1 % 2 ^ 32
    let vals := (List.range 1024).map fun i => BitVec.ofNat 32 (leAt c.payload (4 * i) 4)
    match s.partRed c with
    | none => s
    | some (slot, g, r) =>
      let seq := ((s.instOf r.outRow red tag).map (·.seq)).getD 0xFFFF
      let s1 := s.joinPart r.outRow red slot g.man.generation tag seq g (bitsOf c.arg0 32 3, bitsOf c.arg0 35 2) vals
      if seq ≠ 0xFFFF then s1.dependOn seq 0 c
      else if c.early then s1.modCart fun w => { w with parts := w.parts ++ [(tag, c.src, c.step)] } else s1)

/-! ### Receipts and retractions (R356, R357) -/

/-- RECEIPT (R357): the pair clears once CARTS early carts of it have been received. -/
def execReceipt (port idx : Nat) (s : State) : Result :=
  match s.cartAt port idx 4 with
  | none => .next s
  | some r =>
    let c := r.cart
    let s1 := s.takeCart port idx r
    if s.deadPair c then .next s1.cartLost
    else if s.hasPair c then
      .next ((s1.setPend (s1.cart.pend.map fun p => if p.src = c.src ∧ p.step = c.step then { p with receipt := some c.arg0 } else p)).tryClear c.src c.step)
    else .next (s1.modCart fun w => { w with notes := w.notes ++ [(c.src, c.step, c.arg0)] })

/-- RETRACT (R357): the pair is retracted at once. -/
def execRetract (port idx : Nat) (s : State) : Result :=
  match s.cartAt port idx 5 with
  | none => .next s
  | some r =>
    let c := r.cart
    let s1 := s.takeCart port idx r
    if s.deadPair c then .next s1.cartLost
    else
      let s2 := (s1.bump CW_RETRACT_CNT.V).cper { Cper.none 9 3 with step := c.step, partner := c.src }
      if s.hasPair c then .next (s2.retractPair c.src c.step)
      else .next (s2.modCart fun w => { w with dead := w.dead ++ [(c.src, c.step)], notes := w.notes.filter fun n => !(n.1 == c.src && n.2.1 == c.step) })

/-- RECEIPT_SEND (R356): the step is over, every check of its early results to the destination has passed and every pair they depend on has cleared. -/
def execReceiptSend (step dst : Nat) (s : State) : Result :=
  match s.cart.early.find? fun e => e.step == step && e.dst == dst && !e.done with
  | none => .next s
  | some e =>
    let waiting := s.cart.queue.any fun c => c.cart.step == step && c.cart.dst == dst && decide (c.cart.typ ≤ 3) && !c.again
    if decide (step < s.rd SRV_STEP_CNT.V) && e.pairs.isEmpty && !waiting && e.seqs.all fun q => !s.strikesOpen q then
      .next ((s.endEarly step dst).queueNote 4 dst step e.count 0)
    else .next s

/-- PENDING_TIMEOUT (R357): 50,000 CLK_AO cycles after its first early cart the pair counts as retracted. -/
def execPendingTimeout (src step : Nat) (s : State) : Result :=
  match s.cart.pend.find? fun p => p.src == src && p.step == step with
  | some p =>
    if p.at' + 50000 ≤ s.now then
      .next ((((s.bump CW_TIMEOUT_CNT.V).cwFlag CW_ERR.TIMEOUT 0 src).cper { Cper.none 10 0 with step := step, partner := src }).retractPair src step)
    else .next s
  | none => .next s

/-! ### Fences (R354) -/

/-- A FENCE or UNFENCE: the mask changes at the next step marker in every slot of the model. -/
def State.fenceCart (s : State) (p idx typ : Nat) : State :=
  match s.cartAt p idx typ with
  | none => s
  | some r =>
    let ex := bitsOf r.cart.arg1 0 8 * 65536 + bitsOf r.cart.arg1 8 10
    let s1 := s.takeCart p idx r
    let hit := (s1.slots.filter fun e => e.2.cur.any fun g => g.man.modelId == r.cart.arg0).map (·.1)
    hit.foldl (fun s m => s.modSlot m fun x => { x with remoteP := x.remoteP ++ [(ex, typ == 6)] }) s1

/-- FENCE (R354). -/
def execFence (port idx : Nat) (s : State) : Result := .next (s.fenceCart port idx 6)

/-- UNFENCE (R354). -/
def execUnfence (port idx : Nat) (s : State) : Result := .next (s.fenceCart port idx 7)

/-! ### Home tables (R349, R350, R353) -/

/-- A home table entry breaks a rule of R349. -/
def homeEntryBad (e : Nat) : Bool := e / 65536 != 0 || (bitAt e 15 && bitsOf e 8 7 == e % 128)

/-- The table that a slot has, or is to have at the next step marker (R350). -/
def State.homeTable (s : State) (slot : Nat) : HomeTable :=
  match s.cart.change.find? fun c => c.1 == slot with
  | some c => c.2.getD HomeTable.init
  | none => FMap.get HomeTable.init s.cart.homes slot

/-- The MODEL_ID of a slot: of its CURRENT generation, or of the first one while it loads (R349). -/
def State.slotModel (s : State) (slot : Nat) : Nat :=
  (match (s.slot slot).cur with
    | some g => some g
    | none => (s.slot slot).next).elim 0 fun g => g.man.modelId

/-- HOME_TABLE_LOAD (R349, R362): without a table, the write of CW_HOME_CMD: the device begins to read it from CW_HOME_ADDR, its header first. With the table that it has read, it is checked and takes effect at the next step marker. -/
def execHomeTableLoad (who : Who) (slot : Nat) (table : Option (List Byte)) (s : State) : Result :=
  .next (match table with
  | none => s.adminWrite who CW_HOME_CMD fun s =>
    if slot < 16 then
      (((s.send (.hostRead 0 (s.rd CW_HOME_ADDR.V) 16)).wr CW_HOME_STAT.SLOT 0 slot).wr CW_HOME_STAT.ENTRIES 0 (s.homeTable slot).entries.length).wr CW_HOME_STAT.STATE 0 1
    else s
  | some table =>
    if s.rd CW_HOME_STAT.STATE = 1 ∧ s.rd CW_HOME_STAT.SLOT = slot then
      let layers := leAt table 8 2
      let experts := leAt table 10 2
      let n := layers * experts
      let entries := (List.range n).map fun i => leAt table (16 + 4 * i) 4
      let id := s.slotModel slot
      let s1 := if n ≤ 65536 then s.send (.hostRead 0 (s.rd CW_HOME_ADDR.V + 16) (4 * n)) else s
      if leAt table 0 8 ≠ id ∨ id = 0 ∨ 65536 < n ∨ layers = 0 ∨ 256 < layers ∨ experts = 0 ∨ 1024 < experts ∨ leAt table 12 4 ≠ 0 ∨ entries.any homeEntryBad then
        s1.wr CW_HOME_STAT.STATE 0 4
      else
        ((s1.modCart fun w => { w with change := (w.change.filter fun c => c.1 != slot) ++ [(slot, some ⟨layers, experts, entries⟩)] }).wr
          CW_HOME_STAT.ENTRIES 0 n).wr CW_HOME_STAT.STATE 0 2
    else s)

/-- HOME_TABLE_CLEAR (R362): the slot's table goes at the next step marker. -/
def execHomeTableClear (who : Who) (slot : Nat) (s : State) : Result :=
  .next (s.adminWrite who CW_HOME_CMD fun s =>
    if slot < 16 then
      let s1 := s.modCart fun w => { w with change := (w.change.filter fun c => c.1 != slot) ++ [(slot, none)] }
      ((s1.wr CW_HOME_STAT.SLOT 0 slot).wr CW_HOME_STAT.ENTRIES 0 0).wr CW_HOME_STAT.STATE 0 2
    else s)

/-- HOME_WAIT_TIMEOUT (R353): no home became reachable within HOME_WAIT ms. -/
def execHomeWaitTimeout (q : Nat) (s : State) : Result :=
  match s.cart.waits.find? fun d => d.seq == q with
  | some d =>
    if d.since + 25000 * s.rd CW_CTL.HOME_WAIT ≤ s.now then
      .next ((s.cwFlag CW_ERR.HOME 0 (s.homeEntry d.slot d.layer d.expert % 128)).faultSeq q 7)
    else .next s
  | none => .next s

end Sys2Proof.Machine
end

