-- ==== Sys2Proof/Machine/Checking.lean ====
section
/-! DEFINITION. Pair comparisons, the inspector's jobs and verdicts, deadlines and the return of a check lane (chapter 12). -/

namespace Sys2Proof.Machine

/-! ### Pairs (R374) -/

/-- The strike in flight of a stall with a number and a stage. -/
def Stall.strikeNo (st : Stall) (no : Nat) (p : Strike → Bool) : Option Strike := st.inflight.find? fun x => x.no == no && p x

/-- Corresponding columns of two copies lie within the column tolerance (R374): of a pair, those of each strike. -/
def State.copiesAgree (s : State) (sid : Nat) (x y : Strike) : Bool :=
  let tol := s.columnTol sid x.desc.group x.desc.range (fullScale x.desc.range (s.groupFmt sid x.desc.group).shift) true
  (colsOver x.xh y.xh tol).isEmpty && (colsOver x.xl y.xl tol).isEmpty

/-- The open instance that the released values of a strike are in, and the release that it has not yet taken, if so. -/
def State.heldIn (s : State) (sid : Nat) (x : Strike) : Option (Nat × Inst × Option Release) :=
  (s.instsOf x.red x.desc.tag).findSome? fun e =>
    (e.2.seen.find? fun p => p.2.2.2.2 == sid && p.2.2.2.1.group == outOf x.desc).map fun p =>
      (e.1, e.2, e.2.waiting.find? fun w => w.eighth == p.1 && w.ordinal == p.2.1)

/-- A pair mismatch with the primary's check lane out of service (R376): no dispute. Its values are already in accumulation, so the inspector forms the instance as a whole, as for a shuttered stall; an instance that has left is replayed. DESIGN CHOICE (log entry 109). -/
def State.pairShut (s : State) (a : Nat) (x : Strike) (b : Nat) (y : Strike) : State :=
  let s1 := ((s.dropStrike a x).discardStrike b y).cper { s.strikeCper 3 2 0 a x true with red := x.red, seq := x.seq, func := s.seqFunc x.seq }
  match s.heldIn a x with
  | some (row, i, _) => s1.handInst row a i
  | none => s1.wrongSeq x.seq

/-- PAIR_COMPARE (R374): the copy's values reach the primary's row; a mismatch opens a dispute over both, unless the primary's check lane is out of service (R376). -/
def execPairCompare (row stall no row2 stall2 no2 : Nat) (s : State) : Result :=
  if !(stallOk row stall && stallOk row2 stall2) then .next s else
    let a := stallId row stall
    let b := stallId row2 stall2
    match (s.stall a).strikeNo no (fun x => x.stage == .released && x.pairOpen), (s.stall b).strikeNo no2 (fun x => x.stage == .corrected) with
    | some x, some y =>
      if x.desc.tag = y.desc.tag ∧ x.desc.group = y.desc.group ∧ s.partner a x.desc.group = some (s.logicalNo b) then
        if s.copiesAgree a x y then .next ((s.dropStrike a x).discardStrike b y)
        else
          let s1 := (s.bump CHK_PAIR_MISMATCH_CNT.V).chkFlag CHK_ERR.PAIR_MISMATCH a
          if s.rd CHK_STALL_STAT.LANE a ≠ 0 then .next (s1.pairShut a x b y) else
          let s2 := s1.setStrike b y { y with stage := .disputed, job := s1.nextJob }
          .next ((s2.setStrike a x { x with job := s1.nextJob }).queueJob 0 (.paired no b no2) a x.desc.group x.desc.tag x.red x.seq)
      else .next s
    | _, _ => .next s

/-! ### Jobs (R375) -/

/-- The tiles whose ledger rows a job reads by their place. -/
def Job.tiles (j : Job) : List (Nat × Nat) :=
  if 4 ≤ j.group then [] else match j.kind with
    | .paired _ b _ => [(j.stall, j.group), (b, j.group)]
    | .whole => []
    | _ => [(j.stall, j.group)]

/-- The feeds whose ledger shards a job reads: that of its strike, or for a whole instance every feed of its vector, and for a pair mismatch that of the copy too (R375). -/
def State.jobFeeds (s : State) (j : Job) : List Feed :=
  let feed (sid : Nat) : List Feed := ((((s.stall sid).record j.tag).bind fun n => n.feed j.group).toList)
  match j.kind with
  | .whole => (((s.stall j.stall).record j.tag).map (·.feeds)).getD []
  | .paired _ b _ => feed j.stall ++ feed b
  | .cal _ _ => []
  | _ => feed j.stall

/-- Every shard that a job reads is valid (R214). -/
def State.jobReady (s : State) (j : Job) : Bool :=
  (j.tiles.all fun t => s.tileValid t.1 t.2) && (s.jobFeeds j).all fun f => match s.genOf f.slot f.gen with
    | some g => (g.shard (s.feedShard f)).valid
    | none => true

/-- The next job that a free engine takes: class 0 first, within a class in the order of the arrival counter; one whose shard is invalid waits (R214). -/
def State.nextQueued (s : State) : Option Job :=
  let free (j : Job) : Bool := !j.running && !j.held && s.jobReady j
  match s.jobs.find? fun j => j.cls == 0 && free j with
  | some j => some j
  | none => s.jobs.find? free

/-- Replace a job. -/
def State.setJob (s : State) (j : Job) : State := { s with jobs := s.jobs.map fun x => if x.id = j.id then j else x }

/-- INSPECTOR_JOB_START (R375): one of the two engines is free and takes the next queued job. `ue` says that the read of its ledger rows meets an uncorrectable error (R397): the job stays queued until the shard is valid again. A job wakes the Square's clock (R436). -/
def execInspectorJobStart (ue : Option LedgerUE) (s : State) : Result :=
  if (s.jobs.filter fun j => j.running).length < 2 then
    match s.nextQueued with
    | some j => match ue.bind fun u => (s.ueIn u.slot u.gen u.shard (some u.gran)).map fun _ => u with
      | some u => .next (s.squareRuns.ledgerUE u.slot u.gen u.shard u.gran)
      | none => .next ((s.squareRuns.setJob { j with running := true }).admitJobs)
    | none => .next s
  else .next s

/-- The strike that a job is about, with its stall. -/
def State.jobStrike (s : State) (j : Job) : Option (Nat × Strike) :=
  let at' (p : Strike → Bool) : Option (Nat × Strike) := ((s.stall j.stall).inflight.find? p).map fun x => (j.stall, x)
  match j.kind with
  | .dispute no => at' fun x => x.no == no && x.job == j.id
  | .paired no _ _ => at' fun x => x.no == no && x.job == j.id
  | .strike _ => at' fun x => x.stage == .exact && x.desc.tag == j.tag && strikesOut x.desc j.group
  | _ => none

/-- A deadline has passed (R376): counted, flagged and recorded; the position is retracted and its instance given up (R378). -/
def State.missDeadline (s : State) (j : Job) : State :=
  let s1 := (s.bump CHK_DEADLINE_CNT.V).chkFlag CHK_ERR.DEADLINE j.stall
  let base := match s.jobStrike j with
    | some (sid, x) => s1.strikeCper 7 0 3 sid x j.ofPair
    | none => { Cper.none 7 0 with verdict := 3, stall := some j.stall, group := if j.group < 4 then j.group else 0xFF, step := s.rd SRV_STEP_CNT.V, tag := j.tag }
  let s2 := s1.cper { base with cyc := s.now - j.queued, func := s.seqFunc j.seq, red := j.red, seq := j.seq }
  (s2.giveUpInst j.red j.tag).wrongSeq j.seq

/-- DISPUTE_DEADLINE (R376): DEADLINE µs after queueing, on CLK_AO (25 cycles to the µs). -/
def execDisputeDeadline (job : Nat) (s : State) : Result :=
  match s.jobs.find? fun j => j.id == job && j.cls == 0 && !j.held && !j.late with
  | some j =>
    if j.queued + 25 * s.rd CHK_CTL.DEADLINE ≤ s.now then .next ((s.setJob { j with late := true }).missDeadline j) else .next s
  | none => .next s

/-! ### Verdicts (R376) -/

/-- The exact values that a strike's held values are compared with (R376), high and low strike. -/
def State.exactHeld (s : State) (sid : Nat) (x : Strike) : List Dy × List Dy :=
  let d := x.desc
  if d.fresh then ((List.range 1024).map fun c => x.plane.exact x.fscales x.fdrive c, [])
  else if d.trans then ((List.range 8192).map fun i => s.exactRow sid d x.scales x.drive i, [])
  else ((List.range 1024).map fun c => s.exactCol sid d x.scales x.drive c,
        if d.wide then (List.range 1024).map fun c => s.exactCol sid d x.scales x.low c else [])

/-- The column tolerance of the inspector for a strike (R376), and the exponent of its full scale. -/
def State.heldTol (s : State) (sid : Nat) (x : Strike) : Dy × Int :=
  let d := x.desc
  let sh := (s.groupFmt sid d.group).shift
  if d.fresh then (tolerance s.kThresh (Dy.ofInt 750) (fullScale d.frange 0), fullScale d.frange 0)
  else if d.trans then
    (tolerance s.kThresh (Dy.ofInt (Int.ofNat (max 600 (s.group (groupId sid d.group)).sigmaT))) (Int.ofNat d.range + 7 - Int.ofNat sh),
     Int.ofNat d.range + 7 - Int.ofNat sh)
  else (s.columnTol sid d.group d.range (fullScale d.range sh) false, fullScale d.range sh)

/-- How a strike's held values stand against the exact output: columns beyond tolerance, the worst column and its deviation. -/
def State.judge (s : State) (sid : Nat) (x : Strike) : Nat × Nat × Int :=
  let (eh, el) := s.exactHeld sid x
  let (tol, sc) := s.heldTol sid x
  let far := (colsOver x.xh eh tol ++ colsOver x.xl el tol).length
  let a := maxDev x.xh eh
  let b := maxDev x.xl el
  let w := if a.2.abs.lt b.2.abs then b else a
  (far, w.1, (w.2.mul ⟨100000, -sc⟩).rne)

/-- A verdict's record (R381). -/
def State.verdictCper (s : State) (kind verdict sid : Nat) (x : Strike) (j : Job) (paired : Bool) (r : Nat × Nat × Int) : Cper :=
  { s.strikeCper kind 2 verdict sid x paired with
    cyc := s.now - j.queued, colsOver := r.1, maxcol := r.2.1, maxdev := r.2.2, red := j.red, seq := j.seq,
    func := s.seqFunc j.seq }

/-- The checker was wrong (R376): the lane leaves service and reloads, or retires after two such verdicts within 1,024 steps. -/
def State.checkerWrong (s : State) (sid : Nat) : State :=
  let step := s.rd SRV_STEP_CNT.V
  let s1 := (s.bump CHK_CHECKER_WRONG_CNT.V).chkFlag CHK_ERR.CHECKER_WRONG sid
  let recents := ((s.stall sid).recents.filter fun t => decide (step < t + 1024)) ++ [step]
  let s2 := (s1.modStall sid fun st => { st with recents := recents }).laneOut sid
  if 2 ≤ recents.length then
    (((s2.wr CHK_STALL_STAT.LANE sid 2).chkFlag CHK_ERR.LANE_RETIRED sid).faultLog 9 3 (quarterOf (rowOf sid)) (rowOf sid) (posOf sid)).cper { Cper.none 13 1 with stall := some sid, step := step }
  else s2

/-- The analogue result of a group was wrong (R376). -/
def State.resultWrong (s : State) (sid g : Nat) : State :=
  let s1 := (s.bump CHK_RESULT_WRONG_CNT.V).chkFlag CHK_ERR.RESULT_WRONG sid
  if g < 4 then s1.withdraw sid g else s1.queueCal sid

/-- Adapter partials that a residue mismatch discarded are formed again for the strike's feed (R316). -/
def State.redoFor (s : State) (sid : Nat) (d : Desc) : State :=
  match ((s.stall sid).record d.tag).bind fun n => (n.feed (outOf d)).map fun f => (n, f) with
  | some (n, f) => s.redoAdapter n f
  | none => s

/-- The verdict on a failed check. A wrong result while results of the position have left early makes those a RETRACT, and the position is replayed (R378, R383). -/
def State.disputeVerdict (s : State) (j : Job) (no : Nat) : State :=
  match (s.stall j.stall).strikeNo no (fun x => x.stage == .disputed && x.job == j.id) with
  | none => s
  | some x =>
    let r := s.judge j.stall x
    let s1 := if r.1 = 0 then s.checkerWrong j.stall else (s.resultWrong j.stall j.group).markInspected j.seq
    let s2 := (s1.cper (s.verdictCper 1 (if r.1 = 0 then 1 else 2) j.stall x j false r)).redoFor j.stall x.desc
    let s2 := if !j.late && decide (r.1 ≠ 0) && s.earlySent j.seq then s2.wrongSeq j.seq else s2
    if j.late then s2.discardStrike j.stall x
    else if r.1 = 0 then s2.setStrike j.stall x { x with stage := .corrected }
    else
      let (eh, el) := s.exactHeld j.stall x
      s2.setStrike j.stall x { x with
        stage := .corrected, isExact := true,
        xs := if x.desc.wide then (List.zip eh el).map fun (h, l) => (h.mul ⟨1, 4⟩).add l else eh }

/-- The copy's values stand in place of the primary's (R376): where the instance has not yet taken the primary's, and nothing of the position has left early, they replace them; else the position is replayed. DESIGN CHOICE (log entry 109). -/
def State.copyStands (s : State) (a : Nat) (x : Strike) (b : Nat) (y : Strike) (seq : Nat) : State :=
  match s.heldIn a x, ((s.stall b).record y.desc.tag).bind fun n => (n.feed (outOf y.desc)).map fun f => (n, f) with
  | some (row, i, some w), some (n, f) =>
    if s.earlySent seq || x.half != 0 then s.wrongSeq seq
    else s.setInst row { i with waiting := i.waiting.map fun v => if v = w then { v with parts := [s.partOf b n f y] } else v }
  | _, _ => s.wrongSeq seq

/-- The verdict on a pair mismatch: the copy within tolerance stands; the other is handled as a wrong result. After its deadline, when the position has been retracted, it applies to the stalls alone. -/
def State.pairVerdict (s : State) (j : Job) (no b no2 : Nat) : State :=
  match (s.stall j.stall).strikeNo no (fun x => x.job == j.id), (s.stall b).strikeNo no2 (fun x => x.job == j.id) with
  | some x, some y =>
    let rx := s.judge j.stall x
    let ry := s.judge b y
    let s1 := (s.dropStrike j.stall x).discardStrike b y
    if rx.1 = 0 ∧ ry.1 = 0 then s1.cper (s.verdictCper 3 0 j.stall x j true rx)
    else if rx.1 = 0 then (s1.resultWrong b y.desc.group).cper (s.verdictCper 3 2 b y j true ry)
    else if ry.1 = 0 then
      let s0 := if j.late then s else s.copyStands j.stall x b y j.seq
      ((((s0.dropStrike j.stall x).discardStrike b y).resultWrong j.stall x.desc.group).cper (s.verdictCper 3 2 j.stall x j true rx))
    else
      let s2 := (s1.withdraw j.stall x.desc.group).withdraw b y.desc.group
      let s3 := (s2.cper (s.verdictCper 3 4 j.stall x j true rx)).cper (s2.verdictCper 3 4 b y j true ry)
      if j.late then s3 else s3.wrongSeq j.seq
  | _, _ => s

/-- The exact values of a strike handed over or of a shuttered tile enter at its position (R470, R584). -/
def State.strikeVerdict (s : State) (j : Job) (d : Desc) : State :=
  let st := s.stall j.stall
  let held := st.inflight.find? fun x => x.stage == .exact && x.desc.tag == d.tag && x.desc.stock == d.stock && outOf x.desc == outOf d
  let s1 := match held with
    | some x => if j.late then s.discardStrike j.stall x else s.dropStrike j.stall x
    | none => s
  let s2 := if j.cls = 1 then s1.markInspected j.seq else s1
  if j.late then s2 else
    match (st.record d.tag).bind fun n => (n.feed j.group).map fun f => (n, f) with
    | some (n, f) => (s2.redoAdapter n f).deliverExact j.stall n f d ((held.map (·.entry)).getD false)
    | none => s2

/-- What a completed replay decides. `none`: a position of the instance has no value yet, and the replay goes on. -/
def State.verdict (s : State) (j : Job) : Option State :=
  match j.kind with
  | .dispute no => some (s.disputeVerdict j no)
  | .paired no b no2 => some (s.pairVerdict j no b no2)
  | .strike d => some (s.strikeVerdict j d)
  | .cal _ _ => some s
  | .whole =>
    match (s.instsOf j.red j.tag).find? fun p => p.2.handed with
    | some (row, i) => s.reform row j.stall i
    | none => some s

/-- The strikes that a job holds are given up when it delivers no result. -/
def State.dropHeld (s : State) (j : Job) : State :=
  let sid := j.stall
  match j.kind with
  | .whole => s
  | .cal _ _ => s
  | .paired no b no2 =>
    let s1 := match (s.stall sid).strikeNo no (fun x => x.job == j.id) with
      | some x => s.dropStrike sid x
      | none => s
    match (s1.stall b).strikeNo no2 (fun x => x.job == j.id) with
    | some y => s1.discardStrike b y
    | none => s1
  | _ =>
    let xs := (s.stall sid).inflight.filter fun x =>
      (x.stage == .disputed && x.job == j.id) || (x.stage == .exact && x.desc.tag == j.tag && strikesOut x.desc j.group)
    (xs.foldl (fun s x => s.discardStrike sid x) s).giveUp sid j.tag j.group

/-- INSPECTOR_VERDICT (R375, R376): a replay ends. `passed` says whether its residues and group sums passed: one that fails delivers no result, and one of a calibration run abandons the run (R462). A shard that has become invalid is waited for (R214). -/
def execInspectorVerdict (job : Nat) (passed : Bool) (s : State) : Result :=
  match s.jobs.find? fun j => j.id == job && j.running with
  | none => .next s
  | some j =>
    if !s.jobReady j then .next s
    else if passed then
      match s.verdict j with
      | some s1 => .next (((s1.bump CHK_INSPECT_CNT.V).dropJob job).raise 211)
      | none => .next s
    else if j.ofRun then .next ((s.calAbandon j.stall).raise 211)
    else if j.cls = 1 && !j.again then
      .next { s with jobs := { j with running := false, again := true } :: s.jobs.filter fun x => x.id != job }
    else
      let s1 := ((s.dropJob job).dropHeld j).raise 211
      .next (if j.late then s1 else s1.missDeadline j)

/-- CHECKSUM_RELOAD_DONE (R376): the lane's checksum SRAM is reloaded; the sequencer begins the return probes at idle edges. -/
def execChecksumReloadDone (row stall : Nat) (s : State) : Result :=
  if stallOk row stall && s.rd CHK_STALL_STAT.LANE (stallId row stall) == 1 then
    .next ((s.reloadSram (stallId row stall)).modStall (stallId row stall) fun st => { st with idleProbe := true, lane := 0, laneCan := 0 })
  else .next s

end Sys2Proof.Machine
end

