-- ==== Sys2Proof/Machine/Clerks.lean ====
section
/-! DEFINITION. The event controller and the clerks: routing, entry, late arrival, exit, tail-chaining, sleep of clerks, the Square PLL, timers and software events (R435 to R446, R457). -/

namespace Sys2Proof.Machine

/-! ### Routing (R441 to R443) -/

/-- EVC_CLK_STAT.STATE of a clerk: HANDLER. -/
def ckHandler : Nat := 3
/-- ENTRY. -/
def ckEntry : Nat := 4
/-- EXIT. -/
def ckExit : Nat := 5

/-- EVC_CLK_STAT.STATE of a clerk. -/
def State.ckState (s : State) (k : Nat) : Nat := s.rd EVC_CLK_STAT.STATE k

/-- The source is pending (R439). -/
def State.pendingSrc (s : State) (n : Nat) : Bool := s.rd EVC_SRC.COUNT n != 0 && s.on EVC_SRC.EN n

/-- The group of a priority or level under SPLIT (R441). -/
def State.groupOf (s : State) (p : Nat) : Nat := p / 2 ^ s.rd EVC_CTL.SPLIT

/-- Source a is more urgent than source b (R441): group, then sub-priority, then number. Between two priorities, group and sub-priority together order as the priorities do. -/
def State.urgent (s : State) (a b : Nat) : Bool :=
  let p := s.rd EVC_SRC.PRIO a
  let q := s.rd EVC_SRC.PRIO b
  decide (p < q) || (p == q && decide (a < b))

/-- The PRIO of the handler in a clerk's highest frame slot, 256 when none is occupied (R442). -/
def Clerk.prio (c : Clerk) : Nat := ((c.frames.getLast?).map (·.prio)).getD 256

/-- A clerk's level (R442): the lower of that PRIO and its floor. -/
def State.levelOf (s : State) (k : Nat) : Nat := min (s.clerk k).prio (s.rd EVC_CLK_CTL.FLOOR k)

/-- The level that an event must outrank to be routed to a clerk: of one in an exit, the level held in its highest slot (R446). -/
def State.routeLevel (s : State) (k : Nat) : Nat :=
  if s.ckState k = ckExit then (((s.clerk k).frames.getLast?).map (·.level)).getD 256 else s.levelOf k

/-- A source may go to a clerk (R443 step 1), its frame slots aside. -/
def State.mayTake (s : State) (n k : Nat) : Bool :=
  bitAt (s.rd EVC_SRC.AFFINITY n) k && s.on EVC_CLK_CTL.EN k && decide (s.groupOf (s.rd EVC_SRC.PRIO n) < s.groupOf (s.routeLevel k))

/-- A clerk with a free frame slot, or one that keeps its slot for a chained handler. -/
def State.slotFree (s : State) (k : Nat) : Bool := decide ((s.clerk k).frames.length < 8) || s.ckState k == ckExit || s.ckState k == ckEntry

/-- The clerk chosen among some (R443 steps 2 and 3): the awake one with the highest level, the lowest-numbered on a tie; else the lowest-numbered of the others. -/
def State.chooseClerk (s : State) (ks : List Nat) : Option Nat :=
  match ks.filter s.awake with
  | [] => ks.head?
  | k :: rest => some (rest.foldl (fun best j => if s.routeLevel best < s.routeLevel j then j else best) k)

/-- The clerk to which a source is routed (R443), a clerk whose eight slots are occupied left out (R442). -/
def State.clerkFor (s : State) (n : Nat) : Option Nat := s.chooseClerk ((List.range 8).filter fun k => s.mayTake n k && s.slotFree k)

/-- The clerk that would be chosen but for its occupied slots (R442). -/
def State.fullFor (s : State) (n : Nat) : Bool := (s.chooseClerk ((List.range 8).filter fun k => s.mayTake n k)).any fun k => !s.slotFree k

/-- The pending sources, most urgent first. -/
def State.pendingList (s : State) : List Nat := sortBy s.urgent ((List.range 512).filter s.pendingSrc)

/-- The routed event: the most urgent pending one that has a candidate, and its clerk; none with EVC_CTL.EN = 0. -/
def State.routed (s : State) : Option (Nat × Nat) :=
  if s.on EVC_CTL.EN then s.pendingList.findSome? fun n => (s.clerkFor n).map fun k => (n, k) else none

/-- The routed event of one clerk. -/
def State.routedTo (s : State) (k : Nat) : Option Nat :=
  if s.on EVC_CTL.EN then s.pendingList.find? fun n => s.clerkFor n == some k else none

/-! ### Entry and exit (R444 to R446) -/

/-- Show a clerk in its status register. -/
def State.showClerk (s : State) (k st : Nat) : State :=
  let c := s.clerk k
  let level := if st = ckEntry then ((c.frames.getLast?).map (·.level)).getD 256 else s.levelOf k
  (((s.wr EVC_CLK_STAT.STATE k st).wr EVC_CLK_STAT.LEVEL k level).wr EVC_CLK_STAT.DEPTH k c.frames.length).wr EVC_CLK_STAT.ACTIVE k
    (((c.frames.getLast?).map (·.source)).getD 0)

/-- Some clerk's frames name the source. -/
def State.srcActive (s : State) (n : Nat) : Bool := (List.range 8).any fun k => (s.clerk k).frames.any fun f => f.source == n

/-- The handler of a source begins on a clerk whose highest slot stands for it: the count falls by one, the level becomes its PRIO (R444 step 3, R446). -/
def State.beginHandler (s : State) (k n : Nat) : State :=
  let c := s.clerk k
  let old := ((c.frames.getLast?).map (·.source)).getD n
  let s1 := s.setClerk k { c with wfi := none, frames := c.frames.dropLast ++
    (c.frames.getLast?).toList.map fun f => { f with source := n, prio := s.rd EVC_SRC.PRIO n } }
  let s2 := ((s1.wr EVC_SRC.COUNT n (s1.rd EVC_SRC.COUNT n - 1)).wr EVC_SRC.LATCH n 0).bump EVC_ENTRY_CNT.V
  let s3 := { s2.wr EVC_SRC.ACTIVE old (ofBool (s2.srcActive old)) with pendAt := FMap.set 0 s2.pendAt n (s.now + 1) }
  (s3.wr EVC_SRC.ACTIVE n 1).showClerk k ckHandler

/-- The frame is written into the lowest free slot (R444 step 2); the source number stands beside it, at the priority it will be entered at. -/
def State.pushFrame (s : State) (k n : Nat) : State :=
  let c := s.clerk k
  (s.setClerk k { c with frames := c.frames ++ [⟨c.regs, s.levelOf k, n, s.rd EVC_SRC.PRIO n⟩] }).showClerk k ckEntry

/-- A clerk in ENTRY reaches t0 + 12: a routed event that outranks the one being entered is handled in its place (R445). -/
def State.finishEntry (s : State) (k : Nat) : State :=
  let first := (((s.clerk k).frames.getLast?).map (·.source)).getD 0
  match s.routedTo k with
  | some n =>
    if n ≠ first ∧ s.groupOf (s.rd EVC_SRC.PRIO n) < s.groupOf (s.rd EVC_SRC.PRIO first) then (s.bump EVC_LATE_CNT.V).beginHandler k n
    else s.beginHandler k first
  | none => s.beginHandler k first

/-- A handler chained into the slot that stays occupied (R446). -/
def State.tailChain (s : State) (k n : Nat) : State := (s.bump EVC_TAIL_CNT.V).beginHandler k n

/-- HANDLER_ENTRY (R443 to R445): an entry under way ends; else the routed event is presented to its clerk, which writes its frame, or, in an exit, keeps the frame that stands (R446). A gated clerk is ungated first; with the Square PLL stopped it waits for the restart. An event that waits on the nesting limit sets DEPTH. -/
def execHandlerEntry (s : State) : Result :=
  match (List.range 8).find? fun k => s.ckState k == ckEntry with
  | some k => .next (s.finishEntry k)
  | none =>
    let s1 := match (if s.on EVC_CTL.EN then s.pendingList.find? s.fullFor else none) with
      | some n => s.flagAt EVC_ERR.DEPTH 0 [(EVC_ERR.SOURCE, n)]
      | none => s
    match s1.routed with
    | none => .next s1
    | some (n, k) =>
      if s1.warden.pllOff then
        let s2 := { s1 with warden := { s1.warden with pllWake := some (s1.warden.pllWake.getD s1.now) } }
        .next (if s2.ckState k = ckGated then s2.showClerk k ckWaking else s2)
      else .next (if s1.ckState k = ckExit then s1.tailChain k n else s1.pushFrame k n)

/-- HANDLER_EXIT (R446): the clerk's handler executes MRET. An event routed to it that outranks the level a restore would give back is tail-chained, at the MRET or during the restore; with none, the restore begins, and at its end gives the frame back and frees its slot. -/
def execHandlerExit (k : Nat) (s : State) : Result :=
  if 8 ≤ k then .next s
  else if s.ckState k = ckHandler then
    let s1 := s.showClerk k ckExit
    match s1.routedTo k with
    | some n => .next (s1.tailChain k n)
    | none => .next s1
  else if s.ckState k = ckExit then
    match s.routedTo k with
    | some n => .next (s.tailChain k n)
    | none =>
      let c := s.clerk k
      match c.frames.getLast? with
      | none => .next (s.showClerk k ckIdle)
      | some f =>
        let s1 := s.setClerk k { c with frames := c.frames.dropLast, regs := f.words }
        let s2 := s1.wr EVC_SRC.ACTIVE f.source (ofBool (s1.srcActive f.source))
        .next (s2.showClerk k (if c.frames.dropLast.isEmpty then ckIdle else ckHandler))
  else .next s

/-! ### Sleep of clerks and of the Square PLL (R436) -/

/-- CLERK_WFI (R436): a clerk with no handler active and no work executes WFI. -/
def execClerkWfi (k : Nat) (s : State) : Result :=
  if k < 8 ∧ s.ckState k = ckIdle ∧ (s.clerk k).wfi = none then .next (s.setClerk k { s.clerk k with wfi := some s.now }) else .next s

/-- CLERK_CLOCK_GATE (R436): 1,200 clerk cycles in WFI, 25 CLK_AO cycles, have passed. -/
def execClerkClockGate (k : Nat) (s : State) : Result :=
  match (s.clerk k).wfi with
  | some t => if k < 8 ∧ s.ckState k = ckIdle ∧ t + 25 ≤ s.now then .next (s.showClerk k ckGated) else .next s
  | none => .next s

/-- A scrub slot is due (R191): a crate is being read, the scan has a VERIFIED crate still to take, or it begins again. -/
def State.scrubPending (s : State) : Bool :=
  s.scrub.busy.isSome || (s.on STK_CTL.SCRUB_EN && s.journal.any fun e => e.2.state == .verified
    && (decide (s.scrub.next ≤ e.1) || decide (s.scrub.dueAt ≤ s.rd WDN_ROUND.V)))

/-- SQUARE_PLL_STOP (R436): every clerk is gated, PLL_STOP is 1, the inspector and the stocking engine have nothing to do, no scrub slot is due. -/
def execSquarePllStop (s : State) : Result :=
  if s.on EVC_CTL.PLL_STOP && (List.range 8).all (fun k => s.ckState k == ckGated) && s.jobs.isEmpty && s.stock.isNone && s.working.isEmpty
      && !s.scrubPending && !s.warden.pllOff then
    .next { s with warden := { s.warden with pllOff := true, pllWake := none } }
  else .next s

/-- SQUARE_PLL_RESTART (R436): within 50 CLK_AO cycles of the latched wake the PLL runs, and the clerks that waited for it are awake. -/
def execSquarePllRestart (s : State) : Result :=
  .next s.squareRuns

/-! ### Software events, timers, NOROUTE (R443, R457) -/

/-- A write of the event controller: from a clerk it acts; from any function it is dropped and counted as an access error. -/
def State.evcWrite (s : State) (who : Who) (off : Nat) (f : State → State) : State :=
  if whoClerk who then f (s.accessed who (Block.evc.base + off))
  else if s.memOpen who then (s.accessed who (Block.evc.base + off)).accessError who 0 (Block.evc.base + off) true else s

/-- SOFTWARE_EVENT_SET (R457): 448 to 511 raises that source. -/
def execSoftwareEventSet (who : Who) (source : Nat) (s : State) : Result :=
  .next (s.evcWrite who EVC_SW_SET.off fun s => if 448 ≤ source ∧ source < 512 then s.raise source else s)

/-- CLERK_TIMER_EXPIRY (R457): EVC_TIMER reaches the clerk's compare value; source 424 + k is raised. -/
def execClerkTimerExpiry (k : Nat) (s : State) : Result :=
  let c := s.clerk k
  if k < 8 ∧ c.armed ∧ s.rd EVC_TMR_CMP.CMP k ≠ 0 ∧ s.rd EVC_TMR_CMP.CMP k ≤ s.rd EVC_TIMER.V then
    .next ((s.setClerk k { c with armed := false }).raise (424 + k))
  else .next s

/-- EVENT_NOROUTE_TIMEOUT (R443): a pending event has had no candidate for 25,000 CLK_AO cycles; NOROUTE is set once. -/
def execEventNorouteTimeout (source : Nat) (s : State) : Result :=
  let t := FMap.get 0 s.pendAt source
  if source < 512 ∧ s.pendingSrc source ∧ s.clerkFor source = none ∧ t ≠ 0 ∧ t - 1 + 25000 ≤ s.now then
    .next (({ s with pendAt := FMap.set 0 s.pendAt source 0 } : State).flagAt EVC_ERR.NOROUTE 0 [(EVC_ERR.SOURCE, source)])
  else .next s

end Sys2Proof.Machine
end

