-- ==== Sys2Proof/Machine/FuncOps.lean ====
section
/-! DEFINITION. Function-level reset as one operation (R424, R425), and the steps it shares with a device reset. -/

namespace Sys2Proof.Machine

/-- The registers of a function window that R424 step 4 returns to their reset values: all but TEN_QUOTA, TEN_SESSION and TEN_USE. -/
def fnRegs : List Reg :=
  [HOST_FN_STAT, HOST_FN_EVT, HOST_FN_EVT_EN, TEN_STORE_BASE, TEN_STORE_SIZE, TEN_STORE_CMD, TEN_STORE_STAT, TEN_FAULT, TEN_FAULT_INFO,
    TEN_ACCESS_ERR_CNT, TEN_DMA_FAIL_CNT]

/-- Every request of a function is abandoned where it stands: no END record, no gradient write (R424 steps 2 to 4). -/
def State.abandon (s : State) (f : Nat) : State :=
  let s0 := { s with rolls := s.rolls.filter fun e => e.2.func != f }
  let s1 := (FMap.keysWhere s0.seqs fun _ x => x.live && x.func == f).foldl State.freeSeq s0
  let s2 := if (s1.tune f).live then (s1.setTune f TuneJob.init).sweepAdapter (s1.tune f).adapter else s1
  (List.range 16).foldl (fun s k => if s.rd SRV_PACE_STAT.STATE k != 0 && (s.pace k).func == f then s.endPace k 0 false else s) s2

/-- Function-level reset of one function (R424); slips of other functions that come first by it and have no defined OP are refused (R270). -/
def State.flr (s : State) (f : Nat) : State :=
  let s1 := (s.abandon f).resetRegs fnRegs f
  let s2 := (s1.wr TEN_SESSION.OPEN f 0).setFunc f { Func.init with flrAt := some s.now }
  ({ s2.raise (360 + f) with sec := { s2.sec with nonces := FMap.set Nonce.init s2.sec.nonces f Nonce.init } } : State).takeBad

/-- Function-level reset of the physical function (R425): VF Enable clears and every virtual function is reset before it. -/
def State.flrAll (s : State) : State :=
  let vfs := (List.range 64).filter fun f => f != 0 && s.exists f
  let s1 := vfs.foldl State.flr s
  ({ s1 with port0 := { s1.port0 with vfEnable := false, numVfs := 0, ari := false } } : State).flr 0

/-- The functions' configuration can be read and written: start-up has ended (R535), and the function exists. -/
def State.configOpen (s : State) (f : Nat) : Bool := decide (f < 64) && s.rd WDN_RST_CAUSE.STATE != 0 && s.exists f

end Sys2Proof.Machine
end

