-- ==== Sys2Proof/Machine/FreshAttn.lean ====
section
/-! DEFINITION. Attention over a block of 1,024 positions that stands in fresh crates: the query, the probabilities and the block's (m_b, l_b, o_b) (R256 to R258). -/

namespace Sys2Proof.Machine

/-- The vector that a K strike of a query head of KV head kv drives (R256): the query multiplied by S in each 32-channel block, exactly, in drive-scale group kv mod 4; the other three groups are zero, and so take code 15. -/
def State.scaledQuery (s : State) (q layer block kv : Nat) (xs : List Word32) : List Word32 :=
  let ps := s.blockPages q layer block
  (List.range 512).map fun i =>
    if i / 128 = kv % 4 then F32.ofDy ((F32.toDy (xs.getD (i % 128) 0#32)).mul ⟨1, Int.ofNat (planeScale ps 0 kv (i % 128)) - 127⟩) else 0#32

/-- The scores of a block: the 1,024 results of its K strike by 2^(−3.5) (R256). -/
def blockScores (ks : List Word32) : List Word32 := ks.map fun x => F32.mul x attnScale

/-- p_t = exp(s_t − m_b) (R257). -/
def blockProbs (scores : List Word32) : List Word32 := scores.map fun x => expF (F32.sub x (scores.foldl F32.max F32.negInf))

/-- u_t = 15p_t − 8 of one half of a block, in FP32 (R257). -/
def probDrive (ks : List Word32) (half : Nat) : List Word32 :=
  (((blockProbs (blockScores ks)).drop (512 * half)).take 512).map fun p => F32.ofDy (((F32.toDy p).mul (Dy.ofInt 15)).sub (Dy.ofInt 8))

/-- The codes of u_t through the carry loop of R118, in carry groups of 32 positions; `loop` is that loop at exponent 0 (R257). -/
def probCodes (loop : List (Option Dy) → List Int) (us : List Word32) : List Int :=
  ((blocksOf 32 (us.map fun u => some (F32.toDy u))).map loop).flatten

/-- (m_b, l_b, o_b) of a block for one query head (R256 to R258), a NaN state where a score or a result is non-finite (R262): `ks` are the 1,024 results of the K strike, `v0` and `v1` the x_c of the 128 columns of the head in V0 and V1. -/
def blockState (loop : List (Option Dy) → List Int) (ps : List Page) (kv : Nat) (ks v0 v1 : List Word32) : AttnState :=
  if (blockScores ks ++ v0 ++ v1).any fun x => !F32.finite x then .nan else
  let codes := probCodes loop (probDrive ks 0 ++ probDrive ks 1)
  let total : Int := (codes.map (· + 8)).foldl (· + ·) 0
  let fif := F32.ofDy (Dy.ofInt 15)
  let out (half c : Nat) (x : Word32) : Word32 :=
    F32.div (F32.mul (F32.ofDy ⟨1, Int.ofNat (planeScale ps 1 kv c) - 127⟩) (F32.add x (F32.ofDy (Dy.ofInt (8 * planeSum ps half kv c))))) fif
  ⟨(blockScores ks).foldl F32.max F32.negInf, F32.div (F32.ofDy (Dy.ofInt total)) fif,
   (List.range 128).map fun c => F32.add (out 0 c (v0.getD c 0#32)) (out 1 c (v1.getD c 0#32))⟩

end Sys2Proof.Machine
end

