-- ==== Sys2Proof/Machine/Narrow.lean ====
section
/-! DEFINITION. Narrow arithmetic (chapter 4): input vectors and their decoding, group exponents, carried-residual quantisation, dynamic outliers, the η measure, wide tiles, step markers and WIDE_STORM. -/

namespace Sys2Proof.Machine

/-! ### Input formats (R110, R112) -/

/-- A vector decoded to FP32; `none` when it is non-finite (R112). -/
def decodeVec (v : VecIn) : Option (List Word32) :=
  ((v.elems.zipIdx).mapM fun (e, i) =>
    let sc := if fmtScaled v.fmt then v.scales.getD (i / 32) 127 else 127
    if sc = 0xFF then none else
      (decodeElem v.fmt e sc).bind fun x => let y := F32.ofDy x; if F32.finite y then some y else none)

/-- ε of the model that a vector belongs to (R159, R202). -/
def State.epsilon (s : State) (v : VecIn) : Word32 :=
  BitVec.ofNat 32 (((v.feeds.head?).bind fun f => (s.genOf f.2.1 f.2.2.1).map fun g => g.man.epsilon).getD 0)

/-- The results of a fresh attention strike that the row keeps (R256, R258). -/
def State.attnRes (s : State) (row : Nat) (k : Nat × Nat) : Option (List Word32) :=
  ((s.row row).attn.find? fun r => r.stall == k.1 && r.tag == k.2).map (·.vals)

/-- What the tally engine makes of the decoded elements before it keeps them (R159, R256). -/
def State.prepared (s : State) (v : VecIn) (xs : List Word32) : List Word32 :=
  match v.prep with
  | .plain => xs
  | .variance _ => xs
  | .sumSq whole gains => normalised (rmsScale whole (s.epsilon v)) xs gains
  | .query q layer block kv => s.scaledQuery q layer block kv xs
  | .probs _ _ _ => xs

/-- The FP32 elements that the source buffer takes; `none` when one is non-finite (R112). The numbers 15p − 8 of fresh attention are formed from the results of the K strike that the row keeps (R257). -/
def State.vecValues (s : State) (row : Nat) (v : VecIn) : Option (List Word32) :=
  let xs := match v.prep with
    | .probs stall tag half => some (probDrive ((s.attnRes row (stall, tag)).getD []) half)
    | _ => (decodeVec v).map (s.prepared v)
  xs.bind fun ys => if ys.all F32.finite then some ys else none

/-- The vector is to drive probabilities of fresh attention. -/
def probPrep : Prep → Bool
  | .probs _ _ _ => true
  | _ => false

/-- The statistics of a vector are formed, what they overflowed or lost is counted (R154), and those asked for are returned (R158). -/
def State.answerStats (s : State) (row : Nat) (v : VecIn) : State :=
  let count (e : Events) : State := s.countAcc row v.stall { AccCnt.zero with inf := e.inf, nan := e.nan }
  match v.prep with
  | .variance whole => (count ((vecStat whole).mean.ev.add (variance whole).ev)).send (.variance row v.tag (vecStat whole).mean.val (variance whole).val)
  | .sumSq whole _ => count (sumSquares whole).ev
  | _ => s

/-- The row of feeds of an input vector. -/
def feedsOf (v : VecIn) : List Feed := v.feeds.map fun f => ⟨f.1, f.2.1, f.2.2.1, f.2.2.2, v.trans⟩

/-- A non-finite vector (R112): NaN for every output column that it would have produced, as a digital partial at each of its positions, and for fresh attention as the results of its strike. DESIGN CHOICE (log entry 98): TAL_NQ_ERR.GROUP shows 0. -/
def State.nanVector (s : State) (row : Nat) (v : VecIn) : State :=
  let sid := stallId row v.stall
  let s1 := (s.bump TAL_NQ_NONFINITE_CNT.V row).nqFlag TAL_NQ_ERR.NONFINITE row v.stall 0
  (feedsOf v).foldl (fun s f =>
    if f.attn then s.putAttn row ⟨v.stall, v.tag, List.replicate 1024 F32.nan⟩ else
    match s.genOf f.slot f.gen with
    | none => s
    | some g =>
      match g.red (s.feedRed f), s.feedPos f with
      | some r, some (e, o) =>
        let row := s.seat row (s.feedRed f) v.tag
        s.release row sid (s.openInst row (s.feedRed f) f.slot f.gen v.tag v.seq g) r
          ⟨e, o, [.digital (List.replicate (if v.trans then 8192 else 1024) F32.nan)], false, s.feedCols sid f⟩
      | _, _ => s) s1

/-- A vector in the order in which a tile's rows take it: element i is the source element that the permutation names (R203). -/
def permuted (perm : List Nat) (xs : List Word32) : List Word32 := if perm.isEmpty then xs else perm.map fun i => xs.getD i 0#32

/-- The input permutation of the stocked tiles that a vector feeds (R203); a transpose vector, which drives columns, takes none. -/
def State.permOf (s : State) (sid : Nat) (v : VecIn) : List Nat :=
  if v.trans then []
  else match (feedsOf v).find? fun f => decide (f.group < 4) with
    | some f => FMap.get [] (s.stall sid).perms f.group
    | none => []

/-- A vector reaches its source buffer, decoded, put in its tile's input order (R203), and normalised where it is to be (R110, R114, R158, R159); a non-finite one gives NaN wherever it would have given a value, its adapter product too (R112, R143). -/
def State.takeVector (s : State) (row buf : Nat) (v : VecIn) : State :=
  let s1 := s.answerStats row v
  match s.vecValues row v with
  | none => (s1.nanVector row v).adapterPart v (v.elems.map fun _ => F32.nan)
  | some xs =>
    let x : Vec := ⟨v.tag, v.stall, v.trans, permuted (s.permOf (stallId row v.stall) v) xs, false, v.feeds.map (·.1), feedsOf v, v.seq, probPrep v.prep, if v.residue && !v.trans then xs else []⟩
    (s1.modRow row fun r => { r with bufs := FMap.set Vec.none r.bufs buf x }).adapterPart v xs

/-- The vectors that waited for a row that slept reach their source buffers, in the order in which they came (R26). -/
def State.wokenVectors (s : State) (row : Nat) : State :=
  if s.rowAwake row then
    (s.row row).vecWait.foldl (fun s w => s.takeVector row w.1 w.2) (s.modRow row fun r => { r with vecWait := [] })
  else s

/-- A source buffer is taken, or a vector that waits for the row is to take it (R26, R114). -/
def Row.bufTaken (r : Row) (buf : Nat) : Bool := (r.bufs.any fun b => b.1 == buf) || r.vecWait.any fun w => w.1 == buf

/-- VECTOR_ARRIVAL (R26, R110, R112, R114, R158, R159): into a free source buffer; while the row sleeps, the vector waits. -/
def execVectorArrival (row buf : Nat) (v : VecIn) (s : State) : Result :=
  let s := s.wokenVectors row
  if !(stallOk row v.stall && decide (buf < 8)) || (s.row row).bufTaken buf then .next s
  else if s.rowAwake row then .next (s.takeVector row buf v)
  else .next (s.modRow row fun r => { r with vecWait := r.vecWait ++ [(buf, v)] })

/-! ### Group exponents (R97, R116, R117) -/

/-- v lies in [−8.5, 7.5) × 2^k, or [−128.5, 127.5) × 2^k for A8. -/
def fits (a8 : Bool) (k : Int) (v : Dy) : Bool :=
  let lo : Dy := ⟨if a8 then -257 else -17, k - 1⟩
  let hi : Dy := ⟨if a8 then 255 else 15, k - 1⟩
  lo.le v && v.lt hi

/-- The smallest k at which a non-zero value fits. -/
def leastK (a8 : Bool) (v : Dy) : Int :=
  let k0 := v.ilog2 - 9
  (((List.range 12).map fun i => k0 + Int.ofNat i).find? fun k => fits a8 k v).getD (k0 + 12)

/-- The exponent of a group of non-designated values (R116): none when all are zero. -/
def groupExp (a8 : Bool) (dyn : Nat) (vs : List Dy) : Option Int :=
  let ks := sortBy (fun a b => decide (b ≤ a)) ((vs.filter fun v => v.m ≠ 0).map (leastK a8))
  if ks.isEmpty then none
  else if ks.length ≤ dyn then ks.head?
  else ks[dyn]?

/-- What quantisation does with a group (R117). -/
inductive GroupUse where
  | zero                 -- code 15, not counted
  | on (k : Int)         -- d = k_max − k
  | lifted (k : Int)     -- d = 7
  | off                  -- d = 15, its non-zero channels are dynamic outliers
deriving DecidableEq, Repr

/-- The exponent at which a group's codes are formed. -/
def GroupUse.k : GroupUse → Int
  | .on k => k
  | .lifted k => k
  | _ => 0

/-- Values of a group that lie outside at exponent k. -/
def outside (a8 : Bool) (k : Int) (vs : List Dy) : Nat := (vs.filter fun v => !fits a8 k v).length

/-- The low-group policy (R117), in ascending group order; `room` dynamic outliers are still allowed. -/
def lowGroups (a8 low dynEn : Bool) (kmax : Int) : Int → List (Option Int × List Dy) → List GroupUse
  | _, [] => []
  | room, (k, vs) :: gs =>
    match k with
    | none => .zero :: lowGroups a8 low dynEn kmax room gs
    | some k =>
      if kmax - k ≤ 7 then .on k :: lowGroups a8 low dynEn kmax room gs
      else
        let n := Int.ofNat (vs.filter fun v => v.m ≠ 0).length
        if low && dynEn && decide (n ≤ room) then .off :: lowGroups a8 low dynEn kmax (room - n) gs
        else .lifted (kmax - 7) :: lowGroups a8 low dynEn kmax (room - (if dynEn then Int.ofNat (outside a8 (kmax - 7) vs) else 0)) gs

/-! ### The carry loop (R118, R119) -/

/-- Codes, η² numerator and denominator, and clamps of one carry group; a channel is `none` when designated, dynamic or driven off. -/
structure CarryOut where
  codes : List Int
  num   : Dy
  den   : Dy
  sat   : Nat
deriving DecidableEq, Repr

/-- One carry group, channels in ascending order (R118): u and the carry are FP32. -/
def carryLoop (a8 carry : Bool) (k : Int) : Word32 → List (Option Dy) → CarryOut
  | _, [] => ⟨[], Dy.zero, Dy.zero, 0⟩
  | c, none :: vs =>
    let r := carryLoop a8 carry k c vs
    { r with codes := 0 :: r.codes }
  | c, some v :: vs =>
    let x := v.mul ⟨1, -k⟩
    let u := F32.ofDy (x.add (F32.toDy c))
    let hi : Int := if a8 then 127 else 7
    let lo : Int := if a8 then -128 else -8
    let a := (F32.toDy u).rne
    let b := max lo (min a hi)
    let e := (F32.toDy u).sub (Dy.ofInt b)
    let c' := if !carry then 0#32
      else if (Dy.ofInt 1).lt e then F32.ofDy (Dy.ofInt 1) else if e.lt (Dy.ofInt (-1)) then F32.ofDy (Dy.ofInt (-1)) else F32.ofDy e
    let r := carryLoop a8 carry k c' vs
    ⟨b :: r.codes, (e.mul e).add r.num, (x.mul x).add r.den, r.sat + (if a = b then 0 else 1)⟩

/-- The codes of fresh attention's probabilities: one carry group at exponent 0, code range −8 to +7 (R257). -/
def probLoop (vs : List (Option Dy)) : List Int := (carryLoop false true 0 0#32 vs).codes

/-- Several carry groups in order. -/
def CarryOut.append (a b : CarryOut) : CarryOut := ⟨a.codes ++ b.codes, a.num.add b.num, a.den.add b.den, a.sat + b.sat⟩

/-- Split a list into pieces of n. -/
def pieces {α : Type} (n : Nat) (xs : List α) : List (List α) :=
  (List.range ((xs.length + n - 1) / n)).map fun i => (xs.drop (n * i)).take n

/-- The carry groups of a list of values at one exponent, in order (R118). -/
def carryGroups (a8 carry : Bool) (k : Int) (vs : List (Option Dy)) : CarryOut :=
  ((pieces 32 vs).map fun cg => carryLoop a8 carry k 0#32 cg).foldl CarryOut.append ⟨[], Dy.zero, Dy.zero, 0⟩

/-- One quantisation of a vector. -/
structure Quant where
  a8    : Bool
  uses  : List GroupUse
  kmax  : Int
  dyn   : List Nat           -- dynamic outlier channels, ascending
  out   : CarryOut
deriving DecidableEq, Repr

/-- Form the codes of a vector at given group exponents (R97, R117, R118). DESIGN CHOICE (log entry 75): a vector whose groups are all zero has k_max 0. `grps` holds the non-designated values of each group (`none` = designated). -/
def formCodes (a8 low dynEn carry : Bool) (dynMax : Nat) (ks : List (Option Int)) (grps : List (List (Option Dy))) : Quant :=
  let kmax := (ks.filterMap id).foldl max ((ks.filterMap id).headD 0)
  let pairs := List.zip ks (grps.map fun g => g.filterMap id)
  let base := ((pairs.filter fun p => match p.1 with
    | some k => decide (kmax - k ≤ 7)
    | none => false).map fun p => outside a8 (p.1.getD 0) p.2).sum
  let uses := lowGroups a8 low dynEn kmax (Int.ofNat dynMax - (if dynEn then Int.ofNat base else 0)) pairs
  let isDyn (u : GroupUse) (v : Dy) : Bool := dynEn && (match u with
    | .off => decide (v.m ≠ 0)
    | .zero => false
    | .on k => !fits a8 k v
    | .lifted k => !fits a8 k v)
  let marked := (List.zip uses grps).map fun (u, g) => (u, g.map fun o => (o, match o with
    | some v => isDyn u v
    | none => false))
  let dyn := ((marked.map fun p => p.2).flatten.zipIdx).filterMap fun ((_, b), i) => if b then some i else none
  let out := (marked.map fun (u, g) =>
    let live := g.map fun (o, b) => if b then none else match u with
      | .off | .zero => none
      | _ => o
    carryGroups a8 carry u.k live).foldl CarryOut.append ⟨[], Dy.zero, Dy.zero, 0⟩
  ⟨a8, uses, kmax, dyn, out⟩

/-- The numbers 15p − 8 of fresh attention: exponent 0 and drive-scale code 0 in every group, always carried (R257). -/
def probQuant (grps : List (List (Option Dy))) : Quant :=
  ⟨false, grps.map fun _ => .on 0, 0, [], (grps.map (carryGroups false true 0)).foldl CarryOut.append ⟨[], Dy.zero, Dy.zero, 0⟩⟩

/-- The drive-scale codes (R37, R117). -/
def Quant.scales (q : Quant) : List Nat := q.uses.map fun u => match u with
  | .zero => 15
  | .on k => (q.kmax - k).toNat
  | .lifted _ => 7
  | .off => 15

/-- Groups lifted. -/
def Quant.lifts (q : Quant) : Nat := (q.uses.filter fun u => match u with
  | .lifted _ => true
  | _ => false).length
/-- Groups driven off. -/
def Quant.offs (q : Quant) : Nat := (q.uses.filter fun u => u == .off).length

/-- η exceeds max/256 (R119). -/
def Quant.etaOver (q : Quant) (m : Nat) : Bool := (q.out.den.mul ⟨Int.ofNat (m * m), -16⟩).lt q.out.num

/-- η in units of 1/256, saturating at 255 (R138); 0 when the denominator is zero. -/
def Quant.eta (q : Quant) : Nat :=
  if q.out.den.m = 0 then 0 else min 255 (isqrt (Dy.divFloor (q.out.num.mul ⟨1, 16⟩) q.out.den).toNat)

/-! ### QUANTISE_VECTOR (R101, R115, R119, R126) -/

/-- The stock tiles of a stall that a vector feeds. -/
def Vec.tiles (v : Vec) (sid : Nat) : List Nat := (v.feeds.filter fun f => decide (f.group < 4)).map fun f => groupId sid f.group

/-- Every tile or stream entry that the vector feeds has CARRY = 1 (R118, R204). -/
def State.carryAll (s : State) (v : Vec) : Bool :=
  v.feeds.all fun f =>
    if f.src < 0x80000000 then (match s.tileOf f with
      | some (_, p) => p.carry
      | none => false)
    else (match s.streamOf f with
      | some (_, t) => bitAt t.flags 0
      | none => false)

/-- The settings of one row that quantisation reads. -/
structure NqCfg where
  grpDyn : Nat
  low : Bool
  dynEn : Bool
  dynMax : Nat
  carry : Bool
deriving DecidableEq, Repr

/-- The settings for a vector: a transpose input takes GRP_DYN = 0 and lifts (R321); so does a query of fresh attention, since keys have no ledger rows for an overflow pass (DEDUCED, log entry 86). -/
def State.nqCfg (s : State) (row : Nat) (v : Vec) : NqCfg :=
  let dynEn := s.on TAL_COR_CTL.DYN_EN row && !v.trans && !v.feeds.any Feed.attn
  { grpDyn := if dynEn then s.rd TAL_NQ_CTL.GRP_DYN row else 0, low := s.on TAL_NQ_CTL.LOWGRP row && dynEn, dynEn := dynEn,
    dynMax := s.rd TAL_COR_CTL.DYN_MAX row, carry := s.on TAL_NQ_CTL.CARRY_EN row && s.carryAll v }

/-- Quantise at the exponents of R116. -/
def NqCfg.quantise (c : NqCfg) (a8 : Bool) (grps : List (List (Option Dy))) : List (Option Int) × Quant :=
  let ks := grps.map fun g => groupExp a8 c.grpDyn (g.filterMap id)
  (ks, formCodes a8 c.low c.dynEn c.carry c.dynMax ks grps)

/-- R101 step 1: every group that holds a dynamic outlier takes an exponent one higher; a lifted group's exponent is the one it was lifted to (R117). -/
def raiseGroups (q : Quant) (ks : List (Option Int)) : List (Option Int) :=
  ((List.zip ks q.uses).zipIdx).map fun ((k, u), g) =>
    if q.dyn.any fun c => c / 128 == g then (match u with
      | .lifted l => some (l + 1)
      | _ => k.map (· + 1))
    else k

/-- What quantisation decides for a vector: the result, requantisations, strike-level widenings, η triggers. -/
structure Decision where
  q       : Quant
  requant : Nat
  widen   : Nat
  trigger : Bool
  first   : Option Quant       -- the A4 result given up for A8
deriving DecidableEq, Repr

/-- The whole decision (R101, R119, R126): A8 for a wide tile; A4 otherwise, requantised when it has too many dynamic outliers, widened when it still has, and when η is too large. The η of the codes that stand, or of those given up because of it, is held against its limit. A fresh vector stays in A4 (log entry 16). -/
def NqCfg.decide' (c : NqCfg) (wide stock trans widenEn : Bool) (etaMax : Nat) (grps : List (List (Option Dy))) : Decision :=
  if wide || trans then
    let q := (c.quantise true grps).2
    ⟨q, 0, 0, q.etaOver etaMax, none⟩
  else
    let (ks, q) := c.quantise false grps
    let many (q : Quant) : Bool := c.dynEn && Decidable.decide (c.dynMax < q.dyn.length)
    let q1 := if many q then formCodes false c.low c.dynEn c.carry c.dynMax (raiseGroups q ks) grps else q
    let n := ofBool (many q)
    if many q1 && stock then
      let q8 := (c.quantise true grps).2
      ⟨q8, n, 1, q8.etaOver etaMax, some q1⟩
    else if q1.etaOver etaMax then
      (if widenEn && stock then ⟨(c.quantise true grps).2, n, 0, true, some q1⟩ else ⟨q1, n, 0, true, none⟩)
    else ⟨q1, n, 0, false, none⟩

/-- The values of a vector by drive group, designated channels left out. -/
def Vec.groups (v : Vec) (size : Nat) (desig : List Nat) (scale : Nat → Word32 → Word32) : List (List (Option Dy)) :=
  pieces 128 (((padTo size 0#32 v.vals).zipIdx).map fun (x, i) => if desig.contains i then Option.none else Option.some (F32.toDy (scale i x)))

/-- The narrow record of a decided vector (R114); `desig` are the designated channels whose products the outlier lane takes. -/
def narrowOf (v : Vec) (q : Quant) (fresh : Bool) (desig : List Nat) : Narrow :=
  let bf (i : Nat) : Nat := BF16.ofF32 (v.vals.getD i 0#32)
  { banked := false, slots := [], redo := v.redo, badLane := [], tag := v.tag, a8 := q.a8, fresh := fresh, trans := v.trans, codes := q.out.codes, scales := q.scales, kmax := q.kmax,
    kgs := q.uses.map (·.k), desig := desig.map fun i => (i, bf i), dyn := q.dyn.map fun i => (i, bf i), feeds := v.feeds,
    left := v.feeds.map (·.group), seq := v.seq, void := [] }

/-- The overflow passes of a vector: each dynamic outlier in ascending channel order, for each strike it feeds, of a fresh one in its slice (R98, R100); those of an A8 vector past DYN_MAX are counted apart (R101). -/
def passesOf (n : Narrow) (dynMax : Nat) : List Pass :=
  ((n.dyn.zipIdx).map fun (c, i) =>
    (n.feeds.filter fun f => decide (f.group < 4) || c.1 / 512 == f.slice).map fun f =>
      (⟨n.tag, f.group, if f.group < 4 then c.1 else c.1 % 512, false, n.a8 && decide (dynMax ≤ i), f⟩ : Pass)).flatten

/-- A pair of banks is free for an A8 vector at row edge e (R129, R41). -/
def Stall.pairFree (st : Stall) (e : Nat) : Bool :=
  (!st.bankBusy e 0 && !st.bankBusy e 1) || (!st.bankBusy e 2 && !st.bankBusy e 3 && st.fslotsFree)

/-- QUANTISE_VECTOR (R26, R115 to R119, R101, R126, R129): a vector of a row that runs, for a stall with a narrow-store entry free. DESIGN CHOICE (log entry 74): a vector that an η trigger makes A8 and that finds no bank pair free waits with its whole quantisation, so its trigger, counts and wide tiles come when it ends; and a transpose vector, which never widens (R326), still records η and counts one above the limit. DESIGN CHOICE (log entry 98): with OUT_EN = 0 the designated channels still drive code 0 and contribute nothing; LIFT, OFF and CARRY_SAT count an A4 result given up for A8 too, and not the first try that R101 step 1 replaces. -/
def execQuantiseVector (row buf : Nat) (s : State) : Result :=
  let s := s.wokenVectors row
  if !(rowOk row && decide (buf < 8) && s.rowAwake row) then .next s else
    let v := FMap.get Vec.none (s.row row).bufs buf
    let sid := stallId row v.stall
    let st := s.stall sid
    if v.done || v.feeds.isEmpty || decide (2 ≤ st.narrow.length) then .next s else
      let fresh := v.feeds.all fun f => decide (4 ≤ f.group)
      let stock := !fresh
      let c := s.nqCfg row v
      let desig := if stock && !v.trans then sortBy (fun a b => decide (a ≤ b)) st.desig else []
      let ct := ((v.feeds.head?).map fun f => s.feedCol f).getD 0
      let wOf (i : Nat) : Word32 := match v.feeds.head?.bind fun f => s.genOf f.slot f.gen with
        | some g => BF16.toF32 (g.scale ct i)
        | none => 0x3F800000#32
      let size := if fresh then 512 * ((v.feeds.map Feed.slice).foldl max 0 + 1) else if v.trans then 1024 else 8192
      let grps := v.groups size desig (fun i x => if v.trans then F32.mul x (wOf i) else x)
      let wide := stock && (v.tiles sid).any s.tileWide
      let probs := probQuant grps
      let d := if v.probs then ⟨probs, 0, 0, probs.etaOver (s.rd TAL_NQ_CTL.ETA_MAX row), none⟩ else c.decide' wide stock v.trans (s.on TAL_NQ_CTL.WIDEN_EN row) (s.rd TAL_NQ_CTL.ETA_MAX row) grps
      let q := d.q
      if q.a8 && !v.trans && !st.pairFree (s.row row).edge then .next s else
        let n := narrowOf v q fresh (if s.on TAL_COR_CTL.OUT_EN row then desig else [])
        let both (f : Quant → Nat) : Nat := f q + ((d.first.map f).getD 0)
        let s1 := ((((s.bump TAL_NQ_VEC_CNT.V row).bump TAL_NQ_LIFT_CNT.V row (both Quant.lifts)).bump TAL_NQ_OFF_CNT.V row (both Quant.offs)).bump
          TAL_NQ_CARRY_SAT_CNT.V row (both fun q => q.out.sat)).bump TAL_NQ_ETA_CNT.V row (ofBool d.trigger)
        let s2 := ((s1.bump TAL_OUT_REQUANT_CNT.V row d.requant).bump TAL_OUT_WIDEN_CNT.V row d.widen).bump TAL_OUT_DYN_CNT.V row q.dyn.length
        let s3 := (v.tiles sid).foldl (fun s g => s.wr TAL_TILE_STAT.ETA g q.eta) s2
        let s4 := if d.trigger && stock && !v.trans && s.on TAL_NQ_CTL.WIDEN_EN row then (v.tiles sid).foldl State.widen s3 else s3
        let s5 := s4.modStall sid fun st =>
          { st with narrow := st.narrow ++ [n], waiting := st.waiting ++ [n], passes := st.passes ++ passesOf n c.dynMax }
        .next (s5.modRow row fun r => { r with bufs := FMap.set Vec.none r.bufs buf { v with done := true } })

/-! ### Tile commands (R139) -/

/-- Queue a TAL_TILE_CMD write for the next step marker; a stall above 32 does nothing. -/
def State.tileCmd (s : State) (who : Who) (row stall group op : Nat) : State :=
  s.talWrite who row 0x328 fun s =>
    if stall < 33 ∧ group < 4 then s.modRow row fun r => { r with cmds := r.cmds ++ [(stall, group, op)] } else s

/-- TILE_FORCE_WIDE (R139): OP 1. -/
def execTileForceWide (who : Who) (row stall group : Nat) (s : State) : Result := .next (s.tileCmd who row stall group 1)
/-- TILE_RELEASE_FORCE (R139): OP 2. -/
def execTileReleaseForce (who : Who) (row stall group : Nat) (s : State) : Result := .next (s.tileCmd who row stall group 2)
/-- TILE_SET_HOLD (R139): OP 3. -/
def execTileSetHold (who : Who) (row stall group : Nat) (s : State) : Result := .next (s.tileCmd who row stall group 3)

/-- One tile command acts at a step marker. -/
def State.actCmd (s : State) (row : Nat) (c : Nat × Nat × Nat) : State :=
  let gid := groupId (stallId row c.1) c.2.1
  match c.2.2 with
  | 1 => (s.widen gid).wr TAL_TILE_STAT.FORCED gid 1
  | 2 => s.wr TAL_TILE_STAT.FORCED gid 0
  | _ => if s.tileWide gid then s.wr TAL_TILE_STAT.HOLD_LEFT gid (s.rd TAL_NQ_CTL.HOLD row) else s

/-! ### Step markers (R127, R148) -/

/-- The hold of one tile at a step marker. -/
def State.markTile (s : State) (gid : Nat) : State :=
  let x := s.group gid
  let s1 := if s.on TAL_TILE_STAT.WIDE gid && x.struck && !x.fired then
      s.wr TAL_TILE_STAT.HOLD_LEFT gid (s.rd TAL_TILE_STAT.HOLD_LEFT gid - 1)
    else s
  s1.setGroup gid { x with struck := false, fired := false }

/-- STEP_MARKER (R127, R139, R148): the step count advances, the holds of quiet wide tiles fall, waiting tile commands act, and a written seed takes effect. -/
def execStepMarker (row : Nat) (s : State) : Result :=
  if !rowOk row then .next s else
    let s1 := s.bump TAL_STEP_CNT.V row
    let s2 := ((List.range 132).map fun k => 256 * row + k).foldl State.markTile s1
    let s3 := (s2.row row).cmds.foldl (fun s c => s.actCmd row c) s2
    .next (s3.modRow row fun r => { r with cmds := [], seed := s3.rd TAL_ACC_SEED.V row, steps := r.steps + 1 })

/-- HOLD_EXPIRY (R127): a wide tile whose hold is 0 returns to A4, unless it is forced or its manifest entry is WIDE. -/
def execHoldExpiry (row stall group : Nat) (s : State) : Result :=
  if stallOk row stall && decide (group < 4) then
    let gid := groupId (stallId row stall) group
    if s.on TAL_TILE_STAT.WIDE gid && !s.tileWide gid then .next (s.wr TAL_TILE_STAT.WIDE gid 0) else .next s
  else .next s

/-! ### WIDE_STORM (R130, R140) -/

/-- A stall's window: stock strikes less transpose strikes, and widened strikes. -/
def State.stormCounts (s : State) (sid : Nat) : Nat × Nat :=
  let a := (s.stall sid).stormAt
  ((s.rd STL_STRIKES.V sid - a.1) - (s.rd STL_TRANS_STRIKES.V sid - a.2.1), 2 * (s.rd STL_WIDE_PAIRS.V sid - a.2.2))

/-- The stall has a storm. -/
def State.stormy (s : State) (sid : Nat) : Bool :=
  let (t, w) := s.stormCounts sid
  decide (0 < t) && decide (t * s.rd TAL_NQ_STORM.PCT (rowOf sid) < w * 100)

/-- What a storm of one stall does (R130): each raises the event, also where a flag of the row that stands already has raised it (R438). DESIGN CHOICE (log entry 98): TAL_NQ_ERR.GROUP shows 0. -/
def State.storm (s : State) (sid : Nat) : State :=
  let row := rowOf sid
  let s1 := (s.bump TAL_WIDE_STORM_CNT.V row).nqFlag TAL_NQ_ERR.WIDE_STORM row (posOf sid) 0
  (if s.tallyFlags row then s1.raise row else s1).queueCal sid

/-- WIDE_STORM_EVALUATION (R130): at a step marker on which TAL_STEP_CNT reaches a multiple of WINDOW. -/
def execWideStormEvaluation (row : Nat) (s : State) : Result :=
  if !rowOk row then .next s else
    let n := s.rd TAL_STEP_CNT.V row
    let w := s.rd TAL_NQ_STORM.WINDOW row
    if n % w = 0 ∧ n ≠ 0 ∧ (s.row row).stormStep ≠ n then
      let sids := (List.range 33).map (stallId row)
      let hit := sids.filter s.stormy
      let s1 := (s.wr TAL_STORM_MAP.STALLS row ((hit.map fun sid => 2 ^ posOf sid).sum)).wr TAL_STORM_MAP.WINDOW_NO row (n / w)
      let s2 := hit.foldl State.storm s1
      let s3 := sids.foldl (fun s sid => s.modStall sid fun st =>
        { st with stormAt := (s.rd STL_STRIKES.V sid, s.rd STL_TRANS_STRIKES.V sid, s.rd STL_WIDE_PAIRS.V sid) }) s2
      .next (s3.modRow row fun r => { r with stormStep := n, stormNew := !hit.isEmpty })
    else .next s

end Sys2Proof.Machine
end

