-- ==== Sys2Proof/Machine/Serve.lean ====
section
/-! DEFINITION. The scheduler: activation, steps, storm ceilings, positions and their commit, verify passes, till-roll timers (R279 to R293, R301 to R305). -/

namespace Sys2Proof.Machine

/-! ### Activation (R279) -/

/-- SEQUENCE_ACTIVATE (R279, R249): an admitted standing sequence that has not started becomes active: the oldest whose function is below its limit, once its need fits. -/
def execSequenceActivate (q : Nat) (s : State) : Result :=
  let x := s.seq q
  if x.live && !x.active && !x.waking && x.image.isNone && s.oldestParked x && s.mayActivate x.func 1
      && s.needFits x.func x.slot (s.needPages x.slot x.promptLen) then
    .next (s.setSeq q { x with active := true })
  else .next s

/-! ### Steps (R280 to R285) -/

/-- The roll of a sequence holds it: records wait for room (R302). -/
def State.heldByRoll (s : State) (x : Seq) : Bool := x.job.isNone && !(s.roll (reqKey x.func x.ticket)).backlog.isEmpty

/-- A mode change in close or stage holds back new positions that use a unit of its scope (R450). -/
def State.modeHolds (s : State) (x : Seq) : Bool :=
  let ph := s.rd MODE_STAT.PHASE
  let sc := s.rd MODE_STAT.SCOPE
  (ph == 1 || ph == 2) && (sc == 0 || x.wh / 4 + 1 == sc || (s.slotStalls x.slot).any fun l => l / 1536 + 1 == sc)

/-- A sequence that can take part in a step: its function in D0 (R410), active, at a committed boundary, with no end or park waiting, not held, on a serving slot (R282, R285, R302). -/
def State.canRun (s : State) (x : Seq) : Bool :=
  x.live && x.active && x.phase == .idle && x.recs.isEmpty && x.endAs.isNone && (x.job.isNone || decide (x.pos < x.promptLen)) && !x.parkDue && !s.heldByRoll x && s.slState x.slot == slReady
    && (s.slot x.slot).started && !s.on HOST_FN_STAT.D3 x.func && !s.modeHolds x

/-- What every advance of the step counter does: the counter, the step markers to every row, and what waits for a marker (R127, R208, R217, R223, R253, R312, R354). -/
def State.mark (s : State) : State :=
  let s1 := s.bump SRV_STEP_CNT.V
  let s2 := s1.send (.marker (s1.rd SRV_STEP_CNT.V))
  let s3 := (s2.slots.map (·.1)).foldl State.markSlot s2
  let s4 := (s3.adapters.map (·.1)).foldl State.markAdapter s3
  let s5 := s4.markHomes
  { s5 with seqs := s5.seqs.map fun (e : Nat × Seq) => if e.2.waking then (e.1, { e.2 with waking := false, active := true }) else e }

/-- STEP_START (R282): the scheduler starts a step with every sequence that can take part; one whose last position is not committed sits out (R285). -/
def execStepStart (s : State) : Result :=
  if s.sched.running || !s.takesWork then .next s else
    let s1 := s.mark
    let sit := s1.countSeqs fun x => x.active && x.phase == .ended
    let run := s1.seqs.filter fun e => s1.canRun e.2
    if run.isEmpty then .next s else
      let s2 := { s1 with
        seqs := s1.seqs.map (fun (e : Nat × Seq) => if s1.canRun e.2 then (e.1, { e.2 with inStep := true }) else e),
        sched := { s1.sched with running := true, startAt := s1.now, prefill := run.any fun e => decide (e.2.pos < e.2.promptLen) } }
      .next (s2.bump SRV_SKIP_CNT.V 0 sit)

/-- EMPTY_STEP (R282, R285): no sequence can take part, and TARGET_US has passed since the start of the last step; a sequence whose last position is not committed sits it out too. -/
def execEmptyStep (s : State) : Result :=
  if s.sched.running || !s.takesWork || s.seqs.any (fun e => s.canRun e.2) then .next s
  else if s.sched.startAt + 25 * s.rd SRV_STEP_TARGET.TARGET_US ≤ s.now then
    let s1 := s.mark
    let sit := s1.countSeqs fun x => x.active && x.phase == .ended
    .next ({ s1 with sched := { s1.sched with startAt := s1.now } }.bump SRV_SKIP_CNT.V 0 sit)
  else .next s

/-- STEP_END (R280, R282, R284): every sequence of the step has finished its arithmetic; D and the chunk size follow the step's duration in CLK_AO cycles. -/
def execStepEnd (s : State) : Result :=
  if !s.sched.running || s.countSeqs (fun x => x.inStep) ≠ 0 then .next s else
    let dur := s.now - s.sched.startAt
    let target := 25 * s.rd SRV_STEP_TARGET.TARGET_US
    let d := s.ceilD
    let waits := s.seqs.any fun e => e.2.live && !e.2.active && !e.2.waking
    let d' := if target < dur then max (s.rd SRV_STEP_TARGET.MIN_CEIL) (d - (d + 15) / 16)
      else if dur * 10 < target * 9 ∧ waits then min 512 (d + 1) else d
    let c := s.rd SRV_STAT.CUR_CHUNK
    let long := decide (target < dur)
    let good := if long then 0 else s.sched.good + 1
    let s1 := (s.wr SRV_STEP_LAST.V 0 dur).wr SRV_STAT.CEIL 0 d'
    let s2 := if long && s.sched.prefill then (s1.wr SRV_STAT.CUR_CHUNK 0 (max 64 (c / 2))).bump SRV_CHUNK_SHRINK_CNT.V
      else if good = 16 then s1.wr SRV_STAT.CUR_CHUNK 0 (min (s.rd SRV_CTL.CHUNK) (2 * c)) else s1
    .next { s2 with sched := { s2.sched with running := false, good := if good = 16 then 0 else good } }

/-- STORM_CEILING_LOWER (R281): a WIDE_STORM of a row names stalls; the functions with an active sequence of a slot that has a tile there are lowered, once per event. -/
def execStormCeilingLower (row : Nat) (s : State) : Result :=
  if !(rowOk row && (s.row row).stormNew) then .next s else
    let map := s.rd TAL_STORM_MAP.STALLS row
    let named := (List.range 33).filter fun p => bitAt map p
    let logical := (named.map fun p => s.logicalAt (stallId row p)).filterMap fun l => if l = 63 then none else some (row * 32 + l)
    let hit := (s.slots.filter fun e => ([e.2.cur, e.2.prev].filterMap id).any fun g => g.man.pitch.any fun p => logical.contains p.stall).map (·.1)
    let fs := (List.range 64).filter fun f => s.countSeqs (fun x => x.active && x.func == f && hit.contains x.slot) != 0
    let step := s.rd SRV_STEP_CNT.V
    let s1 := fs.foldl (fun s f =>
      ((s.wr SRV_FUNC_CEIL.CUR f (max 1 (s.cur f / 2))).bump SRV_STORM_CEIL_CNT.V).srvFlag SRV_ERR.STORM_CEIL f) s
    let pairs := (fs.map fun f => (hit.filter fun m => s.countSeqs (fun x => x.active && x.func == f && x.slot == m) != 0).map fun m => (f, m)).flatten
    let sc := s1.sched
    .next ({ s1 with sched := { sc with
      slotStorm := hit.foldl (fun t m => FMap.set 0 t m (step + 1)) sc.slotStorm,
      lowered := (sc.lowered ++ pairs).eraseDups,
      lowAt := fs.foldl (fun t f => FMap.set 0 t f (step + 1)) sc.lowAt } }.modRow row fun r => { r with stormNew := false })

/-- STORM_CEILING_RESTORE (R281): 1,024 consecutive steps in which no storm names a stall of the slot. -/
def execStormCeilingRestore (slot : Nat) (s : State) : Result :=
  let sc := s.sched
  let since := FMap.get 0 sc.slotStorm slot
  let step := s.rd SRV_STEP_CNT.V
  let fs := (sc.lowered.filter fun p => p.2 == slot).map (·.1)
  if fs.isEmpty || decide (step + 1 < since + 1024) then .next s else
    let s1 := fs.foldl (fun s f => s.wr SRV_FUNC_CEIL.CUR f (min (s.rd SRV_FUNC_CEIL.BASE f) (2 * s.cur f))) s
    .next { s1 with sched := { sc with slotStorm := FMap.set 0 sc.slotStorm slot (step + 1),
                                       lowered := sc.lowered.filter fun p => p.2 != slot || decide (s1.cur p.1 < s1.rd SRV_FUNC_CEIL.BASE p.1) } }

/-! ### Positions (R224, R238, R284, R285, R291) -/

/-- The crier of a sequence proposes in this step: speculation on, its slot READY, no pause (R289, R292). -/
def State.specNow (s : State) (x : Seq) : Nat :=
  if x.spec && s.slState x.crier == slReady && x.pauseTo == 0 then x.draft else 0

/-- Allocate the pages of every multiple of 64 from `a` to `b − 1` that the sequence's lists lack (R238, R291). -/
def State.growTo (s : State) (q a : Nat) : Nat → Option State
  | 0 => some s
  | n + 1 =>
    match s.growTo q a n with
    | none => none
    | some s1 =>
      let x := s1.seq q
      let p := a + n
      if p % 64 = 0 ∧ ((x.lists.headD []).length ≤ p / 64) then
        if !s1.quotaCovers x.func x.slot (s1.kvLayers x.slot) then none
        else match s1.newLayers x.func x.slot x.home with
          | none => none
          | some (ids, s2) =>
            let ls := if x.lists.isEmpty then ids.map fun id => [id] else List.zipWith (fun l id => l ++ [id]) x.lists ids
            some (s2.setSeq q { x with lists := ls })
      else some s1

/-- Before a position appends to a page that others share, each layer's page is copied (R240). -/
def State.copyOnWrite (s : State) (q p : Nat) : Option State :=
  let x := s.seq q
  if p % 64 = 0 then some s else
    (x.lists.zipIdx).foldl (fun acc (l, i) =>
      match acc with
      | none => none
      | some s =>
        let id := l.getD (p / 64) 0
        if (s.page id).ref ≤ 1 then some s
        else match s.copyPage id x.func x.home with
          | none => none
          | some (n, s1) =>
            some ((s1.modSeq q fun y => { y with lists := y.lists.set i (l.set (p / 64) n) }).refDown id)) (some s)

/-- The shared pages that the next position appends to, which are read to be copied (R240). -/
def State.copied (s : State) (q : Nat) : List Nat :=
  let x := s.seq q
  if x.pos % 64 = 0 then [] else (x.lists.map fun l => l.getD (x.pos / 64) 0).filter fun id => decide (1 < (s.page id).ref)

/-- The pages that a position, chunk or pass of a sequence needs: one per layer for each multiple of 64 in it that its lists lack (R238), and the copies of shared pages that it appends to (R240). -/
def State.pagesWanted (s : State) (q width : Nat) : Nat :=
  let x := s.seq q
  let have' := (x.lists.headD []).length
  let fresh := (List.range width).filter fun i => (x.pos + i) % 64 == 0 && decide (have' ≤ (x.pos + i) / 64)
  s.kvLayers x.slot * fresh.length + (s.copied q).length

/-- The longest draft whose pages can be allocated (R291). -/
def State.fitDraft (s : State) (q p : Nat) : Nat → Nat
  | 0 => 0
  | l + 1 => if ((s.copyOnWrite q p).bind fun s => s.growTo q p (l + 2)).isSome then l + 1 else s.fitDraft q p l

/-- The unit that a sequence's next position runs on takes work: no mode change holds it back, its house does not lag and is not in FAULT (R229, R450, R452). -/
def State.placeOpen (s : State) (x : Seq) : Bool :=
  !s.modeHolds x && !s.lagging (unitId 3 x.wh) && s.rd WH_STAT.STATE x.wh != 3

/-- The scheduler adds chunks in oldest-admission order (R284): no older sequence of the step still has its chunk to start. -/
def State.chunkTurn (s : State) (x : Seq) : Bool :=
  s.seqs.all fun e => !(e.2.live && e.2.inStep && e.2.phase == .idle && decide (e.2.pos < e.2.promptLen) && decide (e.2.order < x.order) && s.placeOpen e.2)

/-- A round binds at its first batch the version of the adapter that is current then (R324): when the first sequence of the batch begins. With none current it waits. DESIGN CHOICE (log entry 106). -/
def State.bindRound (s : State) (q : Nat) : Option State :=
  match (s.seq q).job with
  | none => some s
  | some f =>
    let j := s.tune f
    let bind (s : State) (no : Nat) : State := s.modSeq q fun y => { y with adapter := some (j.adapter, no) }
    match j.bound with
    | some no => some (bind s no)
    | none => (s.adapter j.adapter).cur.map fun v => bind (s.setTune f { j with bound := some v.no }) v.no

/-- The positions of a sample whose loss counts, from LOSS_FROM to LEN − 2, in the present chunk (R320). -/
def Seq.lossPositions (x : Seq) : List Nat :=
  if x.job.isNone then [] else ((List.range x.width).map (x.first + ·)).filter fun p => decide (x.tune.lossFrom ≤ p) && decide (p + 1 < x.promptLen)

/-- The gradient of the logits at a loss position (R320): (softmax − onehot(next token)) × LOSS_SCALE in FP32. -/
def logitGrad (ls : List Word32) (next : Nat) (scale : Word32) : List Word32 :=
  let m := ls.getD (argmax ls) 0#32
  let z := ls.foldl (fun a x => F32.add a (expF (F32.sub x m))) 0#32
  (ls.zipIdx).map fun (x, i) => F32.mul (F32.sub (F32.div (expF (F32.sub x m)) z) (if i = next then 0x3F800000#32 else 0#32)) scale

/-- What a chunk of a tuning sequence leaves in its save area (R320): what the tally engines hold, and at each loss position the log-probability of the next token and the gradient of the logits. `logits` are those of its loss positions, end to end. -/
def State.saveChunk (s : State) (q : Nat) (logits : List Word32) (saved : List SaveIn) : State :=
  let x := s.seq q
  match x.job with
  | none => s
  | some f =>
    let ps := x.lossPositions
    let v := logits.length / max 1 ps.length
    let at' (i p : Nat) : Nat × List Word32 × Nat := (p, (logits.drop (i * v)).take v, x.tune.toks.getD (p + 1) 0)
    let all := (ps.zipIdx).map fun (p, i) => at' i p
    let b (ws : List Word32) : List Nat := ws.map BF16.ofF32
    s.modSeq q fun y => { y with tune := { y.tune with
      losses := (y.tune.losses.filter fun l => !ps.contains l.1) ++ all.map fun a => (a.1, logProb a.2.1 a.2.2),
      dLogits := (y.tune.dLogits.filter fun l => !ps.contains l.1) ++ all.map fun a => (a.1, logitGrad a.2.1 a.2.2 (s.tune f).scale),
      saved := (y.tune.saved.filter fun r => !saved.any fun n => n.layer == r.layer && n.pos == r.pos)
                 ++ saved.map fun n => ⟨n.layer, n.pos, b n.attn, b n.ff, b n.gate, b n.up, n.rsA, n.rsF⟩ } }

/-- POSITION_START (R26, R284, R285): a sequence of the step starts its next position, chunk or verify pass. The prompt tokens it reads, whether the read succeeded, the slot's vocabulary size, the save-area granules a tuning sequence needs, and the experts its routers chose with the normalised inputs (R351). -/
def execPositionStart (q : Nat) (toks : List Nat) (vocab save : Nat) (routes : List (Nat × Nat × List Word32)) (s : State) : Result :=
  let x := s.seq q
  let pre := decide (x.pos < x.promptLen)
  if x.live && x.phase == .running && x.redoFrom.isSome then .next (s.rechoose q routes)
  else if !(x.live && x.inStep && x.phase == .idle && s.takesWork) || !s.placeOpen x || (pre && !s.chunkTurn x) then .next s
  else if s.houseAsleep x.wh then .next (s.wakeUnit (192 + x.wh / 4))
  else
    let chunk := min (s.rd SRV_STAT.CUR_CHUNK) (x.promptLen - x.pos)
    let again := x.redoFrom.isSome
    let l := if again then x.drafts else if pre then 0 else s.fitDraft q x.pos (s.specNow x)
    let width := if again then x.width else if pre then chunk else l + 1
    let s0 := if pre then s.send (.hostRead x.func (x.promptAddr + 4 * x.pos) (4 * (if x.job.isSome then min (width + 1) (x.promptLen - x.pos) else width))) else s
    if pre && toks.any (fun t => decide (vocab ≤ t)) then .next (s0.faultSeq q 7)
    else match s0.badPage (s0.copied q) with
    | some (id, g) => .next (s0.pageUE q id g)
    | none =>
      let s1 := s0.modSeq q fun y => { y with save := save, promptFails := 0,
                                                tune := if y.job.isSome then { y.tune with toks := y.tune.toks.take y.pos ++ toks } else y.tune }
      match s1.bindRound q with
      | none => .next s
      | some s1 =>
      match (s1.copyOnWrite q x.pos).bind fun s => s.growTo q x.pos width with
      | some s2 =>
        .next ((s2.modSeq q fun y =>
          let y : Seq := if again then y else { y with staged := [], merges := [], chose := [], masks := [], pairAt := [], fenced := false, narrow := false, inspected := false }
          { y with phase := .running, first := x.pos, width := width, prefill := pre, drafts := l, keep := width, promptFails := 0, recs := [],
                                              crierTo := if y.spec && s.slState y.crier == slReady then (if pre then x.pos + width else if l = 0 then y.crierTo else x.pos + l)
                                                else y.crierTo }).rechoose q routes)
      | none =>
        let s2 := (s0.modSeq q fun y => { y with inStep := false }).pressure q (s.pagesWanted q width) 4096
        .next s2

/-- A tail of a key-value operand list. -/
def kvToks (kv : List (Nat × Nat × List Word32 × List Word32)) : List KvTok := kv.map fun t => ⟨t.1, t.2.1, t.2.2.1, t.2.2.2⟩

/-- The router mask stands for the slot of a sequence (R216, R354). -/
def State.maskedNow (s : State) (x : Seq) : Bool := !((s.slot x.slot).fenced.isEmpty && (s.slot x.slot).remote.isEmpty)

/-- Turn emitted tokens into records, cut at a stop token or at MAX_NEW (R293, R304, R305): the records, and whether the last one ends the request. -/
def tokenRecs (x : Seq) (gen : Nat) : Nat → Nat → List (Nat × Bool × List Word32) → List TillRec
  | _, _, [] => []
  | p, made, (t, draft, ls) :: ts =>
    let stop := x.stops.contains t
    let limit := decide (x.maxNew ≤ made + 1)
    let r : TillRec := ⟨t, p, FP16.ofF32 (logProb ls t), if draft then 8 else 0, stop || limit, true, if stop then 0 else if limit then 5 else 0, gen % 256⟩
    if stop || limit then [r] else r :: tokenRecs x gen (p + 1) (made + 1) ts

/-- The arithmetic of the present position has ended with these tokens (R224): ROLL moves to CURRENT at this boundary. -/
def State.endPosition (s : State) (q : Nat) (toks : List (Nat × Bool × List Word32)) (kv : List KvTok) : State :=
  let x := s.seq q
  let recs := tokenRecs x x.gen (if x.prefill then x.first + x.width else x.first + 1) x.generated toks
  let keep := if x.drafts = 0 then x.width else recs.length
  let cur := (((s.slot x.slot).cur).map fun g => g.man.generation).getD x.gen
  s.setSeq q { x with
    phase := .ended, inStep := false, recs := recs, keep := keep, staged := x.staged ++ kv, merges := [],
    fenced := x.fenced || s.maskedNow x, gen := if x.rollOn then cur else x.gen }

/-- Positions of a house pass since its last PARITY or NORM flag (R379). -/
def State.tickHouse (s : State) (h n : Nat) : State :=
  if FMap.get 0 s.sched.whPos h = 0 then s
  else { s with sched := { s.sched with whPos := FMap.modify 0 s.sched.whPos h (· + n) } }

/-- A WH_ERR flag with its sequence. -/
def State.whFlag (s : State) (f : RField) (wh q : Nat) : State := s.flagAt f wh [(WH_ERR.SEQ, q)]

/-- A flag of a weigh house's own checks (R379): the output is recomputed once; a second flag within 64 positions puts the house in FAULT. -/
def State.houseFlag (s : State) (q h flag : Nat) : State :=
  let s1 := s.whFlag (if flag = 1 then WH_ERR.PARITY else WH_ERR.NORM) h q
  let s2 := s1.cper { Cper.none (if flag = 1 then 11 else 12) 2 with seq := q, func := s.seqFunc q, slot := (s.seq q).slot, step := s.rd SRV_STEP_CNT.V, wh := h }
  let k := FMap.get 0 s2.sched.whPos h
  if 1 ≤ k ∧ k ≤ 65 then s2.houseFault h
  else { s2 with sched := { s2.sched with whPos := FMap.set 0 s2.sched.whPos h 1 } }

/-- The two rails of a sequence's weigh house disagreed n times in the sampling sums (R379). -/
def State.railFlags (s : State) (q n : Nat) : State := (List.range n).foldl (fun s _ => s.houseFlag q (s.seq q).wh 2) s

/-- POSITION_END (R224, R284, R287): the arithmetic of a position or chunk ends. Its logits decide the token of a decode position and of the last chunk; `kv` brings a chunk's keys and values, `e` says how many key blocks its weigh house attended, how often its rails disagreed in the sampling sums, which are then formed once more (R379), and what a tuning sequence saves (R320). -/
def execPositionEnd (q : Nat) (logits : List Word32) (kv : List (Nat × Nat × List Word32 × List Word32)) (e : EndIn) (s : State) : Result :=
  let x := s.seq q
  if !(x.live && x.phase == .running && x.drafts == 0 && x.redoFrom.isNone && s.dispatchesDone q) then .next s else
    let s0 := (s.tickHouse x.wh x.width).railFlags q e.norms
    let s1 := if x.prefill then s0.bump WH_PRE_BLK_CNT.V (s0.preHouse x.wh) e.blocks else s0
    let last := !x.prefill || decide (x.promptLen ≤ x.first + x.width)
    if x.job.isSome && !x.lossPositions.isEmpty && logitsBad logits then .next ((s1.srvFlag SRV_ERR.NONFIN x.func).faultSeq q 7)
    else if x.job.isSome || !last then .next (((s1.saveChunk q logits e.saved).endPosition q [] (kvToks kv)).sweepGen x.slot)
    else if logitsBad logits then .next ((s1.srvFlag SRV_ERR.NONFIN x.func).faultSeq q 7)
    else
      let pos := if x.prefill then x.first + x.width else x.first + 1
      let t := chooseToken ⟨x.temp, x.topP, x.topK, x.seed⟩ pos 0 logits
      .next ((s1.endPosition q [(t, false, logits)] (kvToks kv)).sweepGen x.slot)

/-- A pass whose crier has left READY runs on with draft length 0 (R289, R307): one position, its drafts and the crier's entries dropped. -/
def State.dropDrafts (s : State) (q : Nat) : State :=
  s.modSeq q fun y => { y with drafts := 0, width := 1, keep := 1, crierTo := y.crierPos }

/-- A bad position of a pass ends the sequence with FAULT_MODEL there (R288): at once when it is the first, else once the tokens before it are committed. -/
def State.badInPass (s : State) (q : Nat) (out : List (Nat × Bool × List Word32)) : State :=
  let x := s.seq q
  let s1 := s.srvFlag SRV_ERR.NONFIN x.func
  if out.isEmpty then s1.faultSeq q 7
  else ((s1.endPosition q out []).modSeq q fun y => { y with endAs := some 7 }).sweepGen x.slot

/-- VERIFY_PASS (R288 to R293, R307): the crier's logits for its drafts and the main model's for positions p to p + L. Only the positions up to the first rejection, stop or limit are decided. -/
def execVerifyPass (q : Nat) (crier : List (List Word32)) (main : PassIn) (s : State) : Result :=
  let x := s.seq q
  let l := x.drafts
  let ready := s.slState x.crier == slReady
  if !(x.live && x.phase == .running && l != 0 && x.redoFrom.isNone && (!ready || crier.length == l) && main.main.length == l + 1 && s.dispatchesDone q) then .next s else
    let out := verifyFrom ⟨x.temp, x.topP, x.topK, x.seed⟩ x.reject x.first 1 (if ready then crier else []) main.main
    let good := out.takeWhile fun t => !logitsBad t.2.2
    let bad := decide (good.length < out.length) && !(tokenRecs x x.gen (x.first + 1) x.generated good).any fun r => r.last
    let s0 := (s.tickHouse x.wh (if ready then x.width else 1)).railFlags q main.norms
    if !ready then
      .next (if bad then (s0.dropDrafts q).badInPass q good else ((s0.dropDrafts q).endPosition q good []).sweepGen x.slot)
    else
      let j := (good.filter fun t => t.2.1).length
      let s0 := (s0.bump SRV_DRAFT_CNT.V 0 l).bump SRV_ACCEPT_CNT.V 0 j
      if bad then .next (s0.badInPass q good) else
      let d := if j = l then min x.maxDraft (2 * x.draft) else if j = 0 then x.draft / 2 else x.draft
      let s2 := if j = 0 then s0.bump SRV_TOTAL_REJ_CNT.V else s0
      let s3 := if d = 0 then s2.bump SRV_SPEC_PAUSE_CNT.V else s2
      let s4 := s3.modSeq q fun y => { y with draft := d, pauseTo := if d = 0 then s.rd SRV_STEP_CNT.V + s.rd SRV_CTL.SPEC_PAUSE else 0 }
      .next ((s4.endPosition q good []).sweepGen x.slot)

/-- SPEC_PAUSE_END (R292): SPEC_PAUSE steps have run without the crier; the sequence runs one pass with L = 1. -/
def execSpecPauseEnd (q : Nat) (s : State) : Result :=
  let x := s.seq q
  if x.live && x.pauseTo != 0 && decide (x.pauseTo < s.rd SRV_STEP_CNT.V) then .next (s.setSeq q { x with pauseTo := 0, draft := 1 })
  else .next s

/-! ### Commit (R22, R285, R301) -/

/-- Write one position of a layer into its page; a page that fills takes its coarse index entry (R238, R246). -/
def State.writePos (s : State) (q layer p : Nat) : State :=
  let x := s.seq q
  let id := (x.lists.getD layer []).getD (p / 64) 0
  let pg := s.page id
  if !pg.live || pg.tokens != p % 64 then s else
    let t := (x.staged.find? fun t => t.layer == layer && t.pos == p).getD ⟨layer, p, [], []⟩
    let (pg1, n) := pg.append (s.rd KV_CTL.KV4_HEAD) t
    let pg2 := if pg1.tokens = 64 && s.on KV_SLOT_CFG.INDEX x.slot && s.on KV_CTL.INDEX_EN then pg1.makeIndex (s.rd KV_SLOT_CFG.QFMT x.slot) else pg1
    (s.setPage id pg2).bump KV_KV4_SAT_CNT.V 0 n

/-- The flags of R300 that the position gives all its records. -/
def Seq.posFlags (x : Seq) : Nat := 4 * ofBool x.fenced + 128 * ofBool x.narrow + 256 * ofBool x.inspected

/-- POSITION_COMMIT (R22): the KV entries and till records of the position are written; ends, parks and holds that waited for the boundary follow. `iso` names the functions that the two isolation circuits derived when they disagree (R418): then nothing is written. -/
def execPositionCommit (q : Nat) (iso : List Nat) (s : State) : Result :=
  let x := s.seq q
  if !(x.live && x.phase == .ended && s.checked q && s.takesWork) then .next s
  else if !iso.isEmpty then .next ((s.isolate iso).faultSeq q 6)
  else
    let layers := s.kvLayers x.slot
    let s1 := (List.range (x.keep * layers)).foldl (fun s i => s.writePos q (i % layers) (x.first + i / layers)) s
    let key := reqKey x.func x.ticket
    let recs := (x.recs.zipIdx).map fun (r, i) => { r with flags := r.flags + x.posFlags + (if i = 0 then x.resumeFlag else 0) }
    let s2 := s1.setSeq q { x with
      phase := .idle, pos := x.first + x.keep, generated := x.generated + recs.length, recs := [], staged := [], merges := [],
      resumed := x.resumed && recs.isEmpty, retracts := 0, keep := 0, drafts := 0,
      crierPos := if x.crierPos < x.crierTo then min (x.first + x.keep) x.crierTo else x.crierPos,
      crierTo := if x.crierPos < x.crierTo then min (x.first + x.keep) x.crierTo else x.crierTo }
    let s3 := recs.foldl (fun s r => s.rollPut key r) s2
    if recs.any fun r => r.last then .next (s3.freeSeq q) else .next (s3.boundary q)

/-! ### Timers of the till roll (R302, R303) -/

/-- MSI_MODERATION_TIMEOUT (R303): MOD_US µs have passed since the first record not yet signalled. -/
def execMsiModerationTimeout (f ticket : Nat) (s : State) : Result :=
  let r := s.roll (reqKey f ticket)
  if r.unsig ≠ 0 ∧ r.since + 25 * r.modUs ≤ s.now then .next (s.rollMsg (reqKey f ticket)) else .next s

/-- A read of RIDX answers (R302); a roll found full whose sequence lives holds it. Waiting records are written as far as there is room; while there is none the roll is full and is read again 1,000 CLK_AO cycles later. -/
def State.rollRead (s : State) (key ridx : Nat) : State :=
  let r := s.roll key
  let s1 := (s.setRoll key { r with ridx := ridx }).rollFlush key (r.backlog.length + 1)
  let r1 := s1.roll key
  if r1.backlog.isEmpty then s1.setRoll key { r1 with full := false }
  else
    let s2 := if r.full || s.rollSeqs key = 0 then s1 else s1.bump SRV_ROLL_FULL_CNT.V
    (s2.setRoll key { r1 with full := true, pollAt := s.now + 1000 }).send (.hostRead r.func (r.widx + 8) 8)

/-- ROLL_RIDX_POLL (R302): the device reads RIDX of a roll whose records wait. -/
def execRollRidxPoll (f ticket ridx : Nat) (s : State) : Result :=
  let key := reqKey f ticket
  let r := s.roll key
  if (!r.backlog.isEmpty || ((s.tune f).live && (s.tune f).ticket == ticket)) && decide (r.pollAt ≤ s.now) then .next (s.rollRead key (ridx % 2 ^ 64)) else .next s

/-! ### SRV_FUNC_CEIL (R309) -/

/-- FUNC_CEIL_WRITE: BASE and ADMIT under their ranges; a write of BASE sets CUR to it. -/
def execFuncCeilWrite (who : Who) (val : Nat) (s : State) : Result :=
  .next (s.adminWrite who SRV_FUNC_CEIL fun s =>
    let f := s.rd SRV_FUNC_SEL.FUNC
    let base := bitsOf val 0 10
    let most := bitsOf val 16 13
    let s1 := if 1 ≤ base ∧ base ≤ 512 then (s.wr SRV_FUNC_CEIL.BASE f base).wr SRV_FUNC_CEIL.CUR f base else s
    if 1 ≤ most ∧ most ≤ 4096 then s1.wr SRV_FUNC_CEIL.ADMIT f most else s1)

end Sys2Proof.Machine
end

