-- ==== Sys2Proof/Machine/Kv.lean ====
section
/-! DEFINITION. Attention and the key-value cache as commands: decode attention, merges of fresh blocks, page managers, parking, resumption and the configuration of a slot's cache (chapter 8). -/

namespace Sys2Proof.Machine

/-! ### DECODE_ATTENTION (R230, R244 to R248) -/

/-- What a head reads of a page: its tokens' keys and values as the product sees them, the position's own entry last where the page holds it. -/
def headTokens (p : Page) (qfmt h : Nat) : List (List Dy) × List (List Dy) :=
  ((List.range p.tokens).map (p.widened qfmt 0 h), (List.range p.tokens).map (p.widened qfmt 1 h))

/-- The query of a head rounded to QFMT (R230). -/
def headQuery (qfmt : Nat) (q : List Word32) (i : Nat) : List Dy :=
  roundVec (queryFmt qfmt) ((List.range 128).map fun c => F32.toDy (q.getD (128 * i + c) 0#32))

/-- The query of a head holds finite numbers (R262). -/
def queryFinite (q : List Word32) (i : Nat) : Bool := ((q.drop (128 * i)).take 128).all F32.finite

/-- The recent set: pages holding any of the 1,024 most recent positions before `n` (R247). -/
def recentPage (n i : Nat) : Bool := decide (n ≤ 64 * (i + 1) - 1 + 1024)

/-- The pages that the bound unit selects for one KV head: TOP_P of the largest bounds, ties to the later page (R247). -/
def selectPages (topP : Nat) (bounds : List (Nat × Word32)) : List Nat :=
  ((sortBy (fun a b => F32.lt b.2 a.2 || (!F32.lt a.2 b.2 && decide (b.1 ≤ a.1))) bounds).take topP).map (·.1)

/-- The bound of a page for KV head h: the largest over its query heads (R247). -/
def headBound (p : Page) (h : Nat) (qs : List (List Dy)) : Word32 :=
  let side (f : Nat × Nat → Nat) : List Dy := (List.range 128).map fun c => F32.toDy (BF16.toF32 (f (FMap.get (0, 0) p.index (h * 128 + c))))
  (qs.map fun q => pageBound q (side (·.1)) (side (·.2))).foldl F32.max F32.negInf

/-- Which pages each KV head reads: all of them, or the recent set, the selected and the unindexed ones (R247, R248). -/
def State.pagesFor (s : State) (n : Nat) (pages : List Page) (h : Nat) (qs : List (List Dy)) : List Nat :=
  let idx := List.range pages.length
  if n ≤ s.rd KV_CTL.LONG_THRESHOLD then idx else
    let far := idx.filter fun i => !recentPage n i && (pages.getD i Page.init).indexed
    let sel := selectPages (s.rd KV_CTL.TOP_P) (far.map fun i => (i, headBound (pages.getD i Page.init) h qs))
    idx.filter fun i => recentPage n i || !(pages.getD i Page.init).indexed || sel.contains i

/-- The blocks of one query row that fresh crates have struck, with their latest results (R258). -/
def freshBlocks (x : Seq) (layer pos head : Nat) : List (Nat × AttnState) :=
  if x.prefill then
    let ms := x.merges.reverse.filter fun m => m.1 == layer && m.2.1 == pos && m.2.2.1 == head
    ((ms.map fun m => m.2.2.2.1).eraseDups).filterMap fun b => (ms.find? fun m => m.2.2.2.1 == b).map fun m => (b, m.2.2.2.2)
  else []

/-- Page `i` lies in a struck block of 1,024 positions. -/
def inFresh (bs : List (Nat × AttnState)) (i : Nat) : Bool := bs.any fun b => b.1 == i / 16

/-- The state of a query row: the pages that the house reads, and the struck blocks in place of their 16 pages, in ascending order (R230, R258). -/
def rowState (bs : List (Nat × AttnState)) (use : List Nat) (page : Nat → AttnState) : AttnState :=
  let own := (use.filter fun i => !inFresh bs i).map fun i => (i, page i)
  (sortBy (fun a b => decide (a.1 ≤ b.1)) (own ++ bs.map fun b => (16 * b.1, b.2))).foldl (fun a b => a.merge b.2) AttnState.start

/-- The backward pass of one query head at one position (R261, R321 step 3): the scores again, p = exp(s − lse), then dQ and each token's dK and dV, with operands rounded to MXFP8 E5M2. DEDUCED (log entry 87): the formulas are those of the derivative of softmax attention. -/
def attnBack (q dO : List Dy) (ks vs : List (List Dy)) (lse : Word32) : List Word32 × List (List Word32 × List Word32) :=
  let e (xs : List Dy) : List Dy := roundVec .e5m2 xs
  let p := ks.map fun k => expF (F32.sub (F32.mul (blockDot q k) attnScale) lse)
  let g := e dO
  let dp := vs.map fun v => blockDot g (e v)
  let d := (List.zipWith F32.mul p dp).foldl F32.add 0#32
  let ds := e ((List.zipWith (fun p x => F32.mul (F32.mul p (F32.sub x d)) attnScale) p dp).map F32.toDy)
  let eks := ks.map e
  ((List.range 128).map fun c => blockDot ds (eks.map fun k => k.getD c Dy.zero),
   List.zipWith (fun a b => ((e q).map fun x => F32.ofDy (a.mul x), g.map fun x => F32.ofDy (b.mul x))) ds (e (p.map F32.toDy)))

/-- The vectors of one token summed over the query heads of a KV head. -/
def addDkv (xs ys : List (List Word32 × List Word32)) : List (List Word32 × List Word32) :=
  if xs.isEmpty then ys else List.zipWith (fun a b => (List.zipWith F32.add a.1 b.1, List.zipWith F32.add a.2 b.2)) xs ys

/-- The entries of the present pass that are not yet committed, as the pages of a layer will hold them. -/
def State.stagedPages (s : State) (pages : List Page) (staged : List KvTok) : List Page :=
  (pages.zipIdx).map fun (p, i) =>
    (staged.filter fun t => t.pos / 64 == i).foldl (fun p t => if p.tokens = t.pos % 64 then (p.append (s.rd KV_CTL.KV4_HEAD) t).1 else p) p

/-- What the reads of an attended layer-position take of the pages of its list: per KV head, the pages read (R245, R247), and of them those read whole. -/
structure PageUse where
  heads : List (List Nat)      -- per KV head: places in the list
  whole : List Nat
deriving DecidableEq, Repr

/-- Every page that is read. -/
def PageUse.all (u : PageUse) : List Nat := (u.whole ++ u.heads.flatten).eraseDups

/-- How many reads are made of the pages that satisfy a condition: a whole page is one read, and so is each head part of another (R245, R247). -/
def PageUse.reads (u : PageUse) (p : Nat → Bool) : Nat :=
  (u.whole.filter p).length + (u.heads.map fun l => (l.filter fun i => p i && !u.whole.contains i).length).sum

/-- The query heads of KV head h among n, with H KV heads. -/
def headsOf (n hk h : Nat) : List Nat := (List.range n).filter fun i => i * hk / n == h

/-- The pages that a layer-position reads (R228, R247, R248): blocks that fresh crates have struck for every query head are left out; past LONG_THRESHOLD the recent set is read whole and the others by head parts. -/
def State.pageUse (s : State) (x : Seq) (layer pos : Nat) (query : List Word32) (pages : List Page) : PageUse :=
  let hk := s.kvHeads x.slot
  let hq := query.length / 128
  let struck := (List.range hq).map (freshBlocks x layer pos)
  let read (i : Nat) : Bool := struck.isEmpty || struck.any fun bs => !inFresh bs i
  let long := decide (s.rd KV_CTL.LONG_THRESHOLD < pos)
  let qfmt := s.rd KV_SLOT_CFG.QFMT x.slot
  { heads := (List.range hk).map fun h => (s.pagesFor pos pages h ((headsOf hq hk h).map (headQuery qfmt query))).filter read,
    whole := (List.range pages.length).filter fun i => read i && (!long || recentPage pos i) }

/-- The weigh house that attends the present position of a sequence: for prefill blocks another one of the quarter, when its own has DEC_ONLY = 1 (R266). -/
def State.attnHouse (s : State) (x : Seq) : Nat := if x.prefill then s.preHouse x.wh else x.wh

/-- The reads of a layer-position are counted (R230, R245, R247): a read of a page that holds a committed token, and, in decode, a layer-position attended (R265). -/
def State.countReads (s : State) (x : Seq) (pos hq : Nat) (held pages : List Page) (u : PageUse) (narrow : Nat → Bool) : State :=
  let wh := s.attnHouse x
  let long := decide (s.rd KV_CTL.LONG_THRESHOLD < pos)
  let bounds := if long then hq * ((List.range pages.length).filter fun i => !recentPage pos i && (pages.getD i Page.init).indexed).length else 0
  ((((s.bump WH_DEC_CNT.V wh (ofBool (!x.prefill))).bump WH_PAGE_READ_CNT.V wh (u.reads fun i => decide (0 < (held.getD i Page.init).tokens))).bump
    KV_NARROW_READ_CNT.V 0 (u.reads narrow)).bump WH_BOUND_CNT.V wh bounds).bump KV_INDEX_SEL_CNT.V 0 (if long then s.kvHeads x.slot else 0)

/-- The manifest of the sequence's model has KV_STRICT = 1. -/
def State.strictSeq (s : State) (x : Seq) : Bool := ((s.genOf x.slot x.gen).map fun g => g.man.kvStrict).getD false

/-- What stops an attended layer-position before its first read: an error in a page that it reads (R397), a pin that must wait (R242), an invalid format (R266), a narrow page under strict mode (R245). -/
def State.attnStop (s : State) (q : Nat) (ids : List Nat) (u : PageUse) (narrow : Nat → Bool) (ue : Option Nat) : Option State :=
  let x := s.seq q
  let mine := u.all.filterMap fun i => ids[i]?
  match (ue.bind fun g => (s.pageWith mine g).map fun id => (id, g)).or (s.badPage mine) with
  | some (id, g) => some (s.pageUE q id g)
  | none =>
    if mine.any fun id => decide (65535 ≤ (s.page id).pin) then some (s.kvFlag KV_ERR.PIN_SAT q x.slot)
    else if mine.any fun id => !pageCodeOk (s.page id).format then some ((s.whFlag WH_ERR.FORMAT (s.attnHouse x) q).faultSeq q 7)
    else if s.strictSeq x && decide (0 < u.reads narrow) then some ((s.kvFlag KV_ERR.STRICT q x.slot).faultSeq q 7)
    else none

/-- Every page that is read is pinned before its first read and let go after its last (R239). -/
def State.pinReads (s : State) (ids : List Nat) (u : PageUse) : State :=
  let mine := u.all.filterMap fun i => ids[i]?
  mine.foldl State.pinDown (mine.foldl State.pinUp s)

/-- A page of a list is narrower than the query (R245). -/
def State.narrowPage (s : State) (x : Seq) (pages : List Page) (i : Nat) : Bool :=
  let p := pages.getD i Page.init
  decide (pageBits p.format < queryBits (s.rd KV_SLOT_CFG.QFMT x.slot)) && decide (0 < p.tokens)

/-- The forward attention of one layer-position (R230): the outputs of the query heads are sent, the position's own entry is staged, and in a tuning job Q, the output and the row statistics are saved (R261, R320). -/
def State.attend (s : State) (q layer pos : Nat) (query key value : List Word32) (err : MemErr) : State :=
  let x := s.seq q
  let qfmt := s.rd KV_SLOT_CFG.QFMT x.slot
  let hk := s.kvHeads x.slot
  let hq := query.length / 128
  let ids := (x.lists.getD layer []).take (pos / 64 + 1)
  let held := ids.map s.page
  let own : KvTok := ⟨layer, pos, key, value⟩
  let pages := s.stagedPages held ((x.staged.filter fun t => t.layer == layer && decide (t.pos < pos)) ++ [own])
  let u := s.pageUse x layer pos query pages
  let narrow := s.narrowPage x held
  let s := s.pageErrs (u.all.filterMap fun i => ids[i]?) err
  match s.attnStop q ids u narrow err.ue with
  | some t => t
  | none =>
    let wh := s.attnHouse x
    let row (h i : Nat) : AttnState := rowState (freshBlocks x layer pos i) (u.heads.getD h []) fun p =>
      let (ks, vs) := headTokens (pages.getD p Page.init) qfmt h
      if queryFinite query i && (pages.getD p Page.init).headFinite h then pageBlock (headQuery qfmt query i) ks vs else .nan
    let states := (List.range hq).map fun i => row (i * hk / hq) i
    let bad := states.any AttnState.bad
    let out := (states.map fun t => if t.bad then List.replicate 128 0x7FC0 else t.out).flatten
    let saved := if x.job.isSome then
        (x.stats.filter fun t => !(t.1 == layer && t.2.1 == pos)) ++ (states.zipIdx).map fun (t, i) => (layer, pos, i, t.m, F32.add (Config.lnF32 t.l) t.m)
      else x.stats
    let s1 := (s.setSeq q { x with staged := (x.staged.filter fun t => !(t.layer == layer && t.pos == pos)) ++ [own],
                                   narrow := x.narrow || decide (0 < u.reads narrow), stats := saved,
                                   tune := if x.job.isSome then { x.tune with
                                     heads := (x.tune.heads.filter fun t => !(t.1 == layer && t.2.1 == pos)) ++ [(layer, pos, query.map BF16.ofF32, out)] } else x.tune }).pinReads ids u
    let s2 := s1.countReads x pos hq held pages u narrow
    let s3 := if x.job.isSome then s2.bump WH_STATS_SAVE_CNT.V wh hq else s2
    let s4 := if bad then s3.whFlag WH_ERR.NONFIN wh q else s3
    s4.send (.attention wh q layer pos out)

/-- The saved lse of a query row and head (R261). -/
def Seq.lse (x : Seq) (layer pos head : Nat) : Word32 :=
  ((x.stats.find? fun t => t.1 == layer && t.2.1 == pos && t.2.2.1 == head).map fun t => t.2.2.2.2).getD 0#32

/-- The backward attention of one layer-position of a tuning job (R228, R261, R321): dQ of its query heads, and of each token up to it the part of dK and dV that it brings, head after head. -/
def State.attendBack (s : State) (q layer pos : Nat) (query dO : List Word32) (err : MemErr) : State :=
  let x := s.seq q
  let qfmt := s.rd KV_SLOT_CFG.QFMT x.slot
  let hk := s.kvHeads x.slot
  let hq := query.length / 128
  let ids := (x.lists.getD layer []).take (pos / 64 + 1)
  let held := ids.map s.page
  let pages := s.stagedPages held (x.staged.filter fun t => t.layer == layer && decide (t.pos ≤ pos))
  let u := s.pageUse x layer pos query pages
  let narrow := s.narrowPage x held
  let s := s.pageErrs (u.all.filterMap fun i => ids[i]?) err
  match s.attnStop q ids u narrow err.ue with
  | some t => t
  | none =>
    let toks (h : Nat) : List (List Dy) × List (List Dy) :=
      let ps := (u.heads.getD h []).map fun i => headTokens { pages.getD i Page.init with tokens := min (pages.getD i Page.init).tokens (pos + 1 - 64 * i) } qfmt h
      ((ps.map Prod.fst).flatten, (ps.map Prod.snd).flatten)
    let heads := (List.range hk).map fun h => (headsOf hq hk h).map fun i =>
      attnBack (headQuery qfmt query i) ((List.range 128).map fun c => F32.toDy (dO.getD (128 * i + c) 0#32)) (toks h).1 (toks h).2 (x.lse layer pos i)
    let wh := s.attnHouse x
    let s1 := (s.pinReads ids u).bump WH_PAGE_READ_CNT.V wh (u.reads fun i => decide (0 < (held.getD i Page.init).tokens))
    (s1.bump KV_NARROW_READ_CNT.V 0 (u.reads narrow)).send
      (.attnGrad wh q layer pos ((heads.map fun l => (l.map Prod.fst).flatten).flatten) ((heads.map fun l => (l.map Prod.snd).foldl addDkv []).flatten))

/-- DECODE_ATTENTION (R26, R228, R230, R266): the weigh house attends layer `layer` of position `pos` of a sequence: the query heads, and the position's own key and value, which are staged for its commit; or, with the gradient of its output, the backward pass of a tuning job. `a` says what it meets on the way. -/
def execDecodeAttention (q layer pos : Nat) (query key value : List Word32) (a : AttnIn) (s : State) : Result :=
  let x := s.seq q
  let s := if x.live && x.phase == .running then a.flags.foldl (fun s f => s.houseFlag q (s.attnHouse x) f) s else s
  let x := s.seq q
  if !(x.live && decide (layer < s.kvLayers x.slot)) || s.rd WH_STAT.STATE (s.attnHouse x) == 3 then .next s
  else if s.houseAsleep x.wh then .next (s.wakeUnit (192 + x.wh / 4))
  else match a.back with
    | some dO =>
      if !(x.job.isSome && decide (pos < max x.pos (x.first + x.width))) then .next s
      else if !a.iso.isEmpty then .next ((s.isolate a.iso).faultSeq q 6)
      else .next (s.attendBack q layer pos query dO a.err)
    | none =>
      if !(x.phase == .running && decide (x.first ≤ pos) && decide (pos < x.first + x.width)) then .next s
      else if !a.iso.isEmpty then .next ((s.isolate a.iso).faultSeq q 6)
      else .next (s.attend q layer pos query key value a.err)

/-! ### FRESH_BLOCK_MERGE (R258, R259) -/

/-- FRESH_BLOCK_MERGE (R26, R242, R256 to R258): the tally engine of a row forms (m_b, l_b, o_b) of a block from the results of its K strike and its two V strikes, each named by stall and vector, and sends them to the sequence's weigh house. `kv` is the KV head of the query head. -/
def execFreshBlockMerge (q layer pos head kv block row : Nat) (k : Nat × Nat) (v : (Nat × Nat) × Nat × Nat) (s : State) : Result :=
  let x := s.seq q
  if !(x.live && x.phase == .running && x.prefill && s.freshAttn x && decide (1024 * (block + 1) ≤ x.first)) then .next s
  else match s.attnRes row k, s.attnRes row v.1, s.attnRes row v.2 with
    | some ks, some xs, some ys =>
      let cols (l : List Word32) : List Word32 := (l.drop (128 * kv)).take 128
      let ids := s.blockIds q layer block
      match s.badPage ids with
      | some (id, g) => .next (s.pageUE q id g)
      | none =>
      if s.houseAsleep x.wh then .next (s.wakeUnit (192 + x.wh / 4))
      else if ids.any fun id => decide (65535 ≤ (s.page id).pin) then .next (s.kvFlag KV_ERR.PIN_SAT q x.slot) else
      let b := blockState probLoop (ids.map s.page) kv ks (cols xs) (cols ys)
      let s0 := (s.modRow row fun r => { r with attn := r.attn.filter fun y => !([k, v.1, v.2].contains (y.stall, y.tag)) }).pinReads ids ⟨[], List.range ids.length⟩
      let s1 := (s0.setSeq q { x with merges := x.merges ++ [(layer, pos, head, block, b)] }).bump WH_MERGE_CNT.V (s.attnHouse x)
      .next (if b.bad then s1.whFlag WH_ERR.NONFIN (s.attnHouse x) q else s1)
    | _, _, _ => .next s

/-! ### Page managers (R239, R241, R242) -/

/-- The page list of a sequence at a page's layer, for one of its own slot. -/
def State.listOf (s : State) (q : Nat) (p : Page) : Option (List Nat) :=
  let x := s.seq q
  if x.live && x.slot == p.slot && decide (p.layer < s.kvLayers x.slot) then some (x.lists.getD p.layer []) else none

/-- Replace the page list of a sequence at one layer. -/
def State.setList (s : State) (q layer : Nat) (l : List Nat) : State :=
  s.modSeq q fun x => { x with lists := (padTo (s.kvLayers x.slot) [] x.lists).set layer l }

/-- PAGE_MANAGER_CHANGE (R239, R241, R242): a change of REF or PIN reaches the page's page manager: a reference is a page list that comes to name the page, or names it no longer. A share past 65,535 is served by a private copy, which the list names instead; a pin past it waits. -/
def execPageManagerChange (page : Nat) (change : PageChange) (s : State) : Result :=
  let p := s.page page
  if !p.live then .next s else
    match change with
    | .refUp q =>
      match s.listOf q p with
      | none => .next s
      | some l =>
        match s.sharePage q page with
        | some (id, s1) => .next (s1.setList q p.layer (l ++ [id]))
        | none => .next (s.kvFlag KV_ERR.REF_SAT q p.slot)
    | .refDown q =>
      match s.listOf q p with
      | none => .next s
      | some l => if l.contains page then .next ((s.setList q p.layer (l.erase page)).refDown page) else .next s
    | .pinUp => .next ((if p.pin < 65535 then s else s.kvFlag KV_ERR.PIN_SAT 0 p.slot).pinUp page)
    | .pinDown => .next (s.pinDown page)

/-! ### Parking and resumption (R251 to R253) -/

/-- PARK_SEQUENCE (R251): a victim that stands at its boundary is copied to its function's store room. -/
def execParkSequence (q : Nat) (s : State) : Result :=
  let x := s.seq q
  if x.live && x.active && x.parkDue && x.phase == .idle && x.recs.isEmpty && !x.inStep then .next (s.park q) else .next s

/-- Pages that a parked sequence needs: its own and one more per layer (R253). -/
def State.resumeNeed (s : State) (x : Seq) : Nat := ((x.image.map fun i => i.1.flatten.length).getD 0) + s.kvLayers x.slot

/-- Put parked pages back as private pages with REF = 1. -/
def State.restorePages (s : State) (q : Nat) (img : List (List Page)) : Option (List (List Nat) × State) :=
  let x := s.seq q
  img.foldl (fun acc l =>
    match acc with
    | none => none
    | some (ls, s) =>
      match l.foldl (fun (acc : Option (List Nat × State)) p =>
        match acc with
        | none => none
        | some (ids, s) => match s.newPage x.func x.slot p.layer x.home with
          | none => none
          | some (id, s1) => some (ids ++ [id], s1.setPage id { p with live := true, home := x.home, share := (s1.page id).share, place := (s1.page id).place, grans := (s1.page id).grans, func := x.func, slot := x.slot, ref := 1, pin := 0, pinWait := 0, bad := [] }))
        (some ([], s)) with
      | none => none
      | some (ids, s1) => some (ls ++ [ids], s1)) (some ([], s))

/-- RESUME_SEQUENCE (R253, R419, R422): the oldest parked sequence is copied back once the free pages cover it; whether the store room could be read, and whether the image's digest holds. -/
def execResumeSequence (q : Nat) (readOk digestOk : Bool) (s : State) : Result :=
  let x := s.seq q
  match x.image with
  | none => .next s
  | some (img, g) =>
    if !(x.live && !x.waking && s.oldestParked x && s.mayActivate x.func 1 && s.needFits x.func x.slot (s.resumeNeed x)) then .next s
    else if !readOk then
      let s2 := s.dmaFail x.func false
      if x.retries < 3 then .next (s2.setSeq q { x with retries := x.retries + 1 }) else .next (s2.endSeq q 3)
    else if !digestOk then .next ((s.tenFault TEN_FAULT.STORE x.func).endSeq q 3).assayDone
    else match s.restorePages q img with
      | none => .next s
      | some (ls, s1) =>
        let s2 := s1.wr TEN_STORE_STAT.USED x.func (s1.rd TEN_STORE_STAT.USED x.func - g)
        .next (((s2.modSeq q fun y => { y with lists := ls, image := none, imageAt := [], waking := true, resumed := true, retries := 0 }).bump KV_RESUME_CNT.V).send
          (.storeRoom x.func q (s.roomAddrs x.func x.imageAt) false)).assayDone

/-! ### KV_SLOT_CFG (R245, R254, R264) -/

/-- A new KV_SLOT_CFG value under its own rules: QFMT 3–7 keeps the field, and FRESH_ATTN stands only with KVFMT = 5 and KVH_M1 ≤ 7 (R254). -/
def cfgWrite (old new : Nat) : Nat :=
  let qf := if bitsOf new 0 3 ≤ 2 then bitsOf new 0 3 else bitsOf old 0 3
  let kf := bitsOf new 4 3
  let h := bitsOf new 16 4
  let fa := ofBool (bitAt new 8 && kf == 5 && decide (h ≤ 7))
  qf + 16 * kf + 256 * fa + 512 * bitsOf new 9 1 + 2 ^ 16 * h + 2 ^ 24 * bitsOf new 24 8

/-- KV_SLOT_CFG_WRITE (R264): accepted while the slot is EMPTY, LOADING or WAIT_STOCK; ignored when it would make KVFMT narrower than QFMT under a strict manifest. -/
def execKvSlotCfgWrite (who : Who) (val : Nat) (s : State) : Result :=
  .next (s.adminWrite who KV_SLOT_CFG fun s =>
    let m := s.rd KV_SLOT_SEL.SLOT
    let w := cfgWrite (s.getReg KV_SLOT_CFG m).toNat (val % 2 ^ 32)
    let strict := match (s.slot m).next with
      | some g => g.man.kvStrict
      | none => false
    if slWait < s.slState m then s
    else if strict && decide (pageBits (bitsOf w 4 3) < queryBits (bitsOf w 0 3)) then s
    else s.setReg KV_SLOT_CFG m (BitVec.ofNat 64 w))

end Sys2Proof.Machine
end

