-- ==== Sys2Proof/Machine/Porter.lean ====
section
/-! DEFINITION. The porter (chapter 7): manifests and their checks, placement, shards, model slots and fresh plane loads. -/

namespace Sys2Proof.Machine

/-! ### Manifest checks (R207) -/

/-- No value repeats. -/
def distinct {α : Type} [DecidableEq α] : List α → Bool
  | [] => true
  | x :: xs => !xs.contains x && distinct xs

/-- A pitch map entry lies in range, its tile's ledger rows and its permutation within their shards (R199, R203). -/
def pitchOk (m : Manifest) (p : Pitch) : Bool :=
  decide (p.stall < 6144) && decide (p.group < 4) && decide (p.flags < 8) && decide (p.range < 16) && decide (p.fmt < 4) && decide (p.ndesig ≤ 32)
    && p.rsvd == 0 && p.offset % 2048 == 0 && decide (p.coltab < m.columns.length)
    && (match m.shards[p.shard]? with
        | some e => e.kind == 0 && decide (p.offset + 2 ^ 24 ≤ e.size)
        | none => false)
    && (p.permShard == 0xFFFFFFFF || (match m.shards[p.permShard]? with
        | some e => e.kind == 3 && decide (p.permOffset + 16384 ≤ e.size)
        | none => false))
    && p.channels.all (fun c => decide (c < 8192)) && (p.desig.drop p.ndesig).all fun c => c == 0xFFFF

/-- A stream entry lies in range, its rows within their shard (R200, R204). -/
def streamOk (m : Manifest) (t : Stream) : Bool :=
  decide (t.fmt < 4) && decide (t.flags < 4) && decide (t.frange < 16) && decide (1 ≤ t.inRows) && decide (t.inRows ≤ 512)
    && decide (1 ≤ t.outCols) && decide (t.outCols ≤ 1024) && t.rsvd == 0 && decide (t.coltab < m.columns.length)
    && (match m.shards[t.shard]? with
        | some e => e.kind == 1 && decide (t.offset + (t.inRows - 1) * t.stride + rowBytes t.fmt t.outCols ≤ e.size)
        | none => false)

/-- A shard table entry agrees with R198, R205 and R207. -/
def shardOk (e : ShardEntry) : Bool :=
  decide (e.kind < 4) && decide (e.tier < 3) && (e.kind == 1 || e.tier == 0) && decide (e.flags < 8) && e.rsvd == 0
    && e.size % 65536 == 0 && decide (e.size ≤ 2 ^ 30) && (!e.fenceable || e.hasExpert) && !(e.fenceable && e.dense)

/-- A reduction record lies in range (R206, R145, R151). -/
def redOk (m : Manifest) (r : RedRec) : Bool :=
  r.rsvd == 0 && decide (r.xfer < 2) && (!m.canon || r.xfer == 0) && decide (1 ≤ r.contribs.length) && decide (r.contribs.length ≤ 32768)
    && r.contribs.all (fun c => decide (c.eighth < 8) && decide (c.ordinal < 4096) && c.rsvd == 0
        && (c.source == digitalSource || decide (c.source < m.pitch.length)
            || (decide (0x80000000 ≤ c.source) && decide (c.source - 0x80000000 < m.streams.length))))
    && distinct (r.contribs.map fun c => (c.eighth, c.ordinal))
    && (List.range 8).all (fun e => decide (r.partDev.getD e 0 < 128) || (r.partDev.getD e 0 == 0xFF && decide (r.partRow.getD e 0 < 192)))
    && (decide (r.outDev < 128) || (r.outDev == 0xFF && decide (r.outRow < 192)))

/-- Entries of one stall name one DESIG list, and entries of one group one FMT (R94, R31). -/
def pitchAgree (m : Manifest) : Bool :=
  m.pitch.all fun p => m.pitch.all fun q => p.stall != q.stall || (p.channels == q.channels && (p.group != q.group || p.fmt == q.fmt))

/-- The bytes that a section of a TYPE takes (R202, R206). -/
def sectionNeed (m : Manifest) (typ count : Nat) : Nat :=
  match typ with
  | 1 => 128 * count
  | 2 => 32 * count
  | 3 => 128 * count
  | 4 => 2048 * count
  | _ => (m.reductions.map fun r => 32 + 8 * r.contribs.length).sum

/-- Each section lies in the manifest, behind the section table, and SIZE is what its entries take (R202). -/
def sectionsOk (m : Manifest) (len : Nat) : Bool :=
  (List.range m.types.length).all fun k =>
    let o := m.offsets.getD k 0
    let n := m.sizes.getD k 0
    o % 64 == 0 && decide (0x140 + 24 * m.types.length ≤ o) && decide (o + n ≤ len) && n == sectionNeed m (m.types.getD k 0) (m.counts.getD k 0)

/-- The FORMAT checks of R207, with those of R205, R264 and R523. -/
def State.manifestOk (s : State) (slot size : Nat) (m : Manifest) : Bool :=
  decide (size ≤ 2 ^ 28) && m.version == 1 && m.rsvd == 0 && m.modelId != 0 && decide (1 ≤ m.generation) && distinct m.types
    && m.types.all (fun t => decide (1 ≤ t) && decide (t ≤ 5)) && sectionsOk m size && decide (m.shards.length ≤ 2 ^ 24)
    && m.pitch.all (pitchOk m) && m.streams.all (streamOk m) && m.shards.all shardOk && m.reductions.all (redOk m)
    && m.columns.all (fun t => t.all fun w => F32.finite (BF16.toF32 w) && w % 0x8000 != 0) && pitchAgree m
    && !(m.kvStrict && decide (pageBits (s.kvFmt slot) < queryBits (s.rd KV_SLOT_CFG.QFMT slot)))
    && !(m.shards.any (fun e => e.enc) && !bitAt (s.getReg SEC_MKEY_STAT 0).toNat slot)

/-! ### Placement (R211) -/

/-- A placement: the tier of each shard, and the KV pool. -/
structure Placement where
  tiers : List Nat
  kv    : Nat
  n1    : Nat
  n2    : Nat
deriving DecidableEq, Repr

/-- Move the spillable shards, coldest first, until tier 1 fits (R211 step 2). -/
def spill (a1 a2 : Nat) : List (Nat × ShardEntry) → Placement → Placement
  | [], p => p
  | (i, e) :: es, p =>
    if p.n1 ≤ a1 then p
    else if p.n2 + e.size ≤ a2 then spill a1 a2 es { p with tiers := p.tiers.set i 1, n1 := p.n1 - e.size, n2 := p.n2 + e.size }
    else spill a1 a2 es p

/-- The placement of R211 before its last test. -/
def placeModel (m : Manifest) (a1 a2 kvMin : Nat) : Placement :=
  let tiers := m.shards.map fun e => if e.tier = 1 then 1 else 0
  let n1 := ((m.shards.filter fun e => e.tier != 1).map (·.size)).sum + 65536 * m.kvPages
  let n2 := ((m.shards.filter fun e => e.tier == 1).map (·.size)).sum
  let p0 : Placement := ⟨tiers, m.kvPages, n1, n2⟩
  if n1 ≤ a1 ∧ n2 ≤ a2 then p0 else
    let cold := sortBy (fun x y => decide (x.2.heat < y.2.heat) || (x.2.heat == y.2.heat && decide (x.1 ≤ y.1)))
      ((m.shards.zipIdx).filterMap fun (e, i) => if e.hasExpert && e.tier == 2 then some (i, e) else none)
    let p1 := spill a1 a2 cold p0
    let cut := min ((p1.n1 - a1 + 65535) / 65536) (m.kvPages - kvMin)
    { p1 with kv := p1.kv - cut, n1 := p1.n1 - 65536 * cut }

/-! ### MODEL_LOAD (R208, R221, R222) -/

/-- Some slot has a load in progress (R225). -/
def State.loadBusy (s : State) : Bool := decide (1 ≤ s.rd PRT_STAT.LOAD) && decide (s.rd PRT_STAT.LOAD ≤ 3)

/-- A load is refused: PRT_STAT shows it. -/
def State.refuseLoad (s : State) (slot : Nat) (f : RField) : State :=
  ((s.prtFlag f slot 0).wr PRT_STAT.LOAD 0 5).wr PRT_STAT.SLOT 0 slot

/-- The new generation names an output group that CURRENT uses, other than as the same STOCKED data (R222). -/
def sharesBadly (cur new : Manifest) : Bool :=
  new.pitch.any fun p => cur.pitch.any fun q => p.stall == q.stall && p.group == q.group
    && !(((new.shards[p.shard]?).map (·.digest)) == ((cur.shards[q.shard]?).map (·.digest)) && p.offset == q.offset)

/-! ### SHARD_ARRIVAL (R201, R214, R215) -/

/-- The tile of a pitch map entry starts with its manifest's RANGE, CARRY and WIDE (R118, R120, R125, R203), and its stall with its checksums and its designated channels (R94, R363). WIDE = 1 is an entry into the wide state, with its hold (R125, R127). -/
def State.loadTile (s : State) (gen : Gen) (p : Pitch) : State :=
  let sid := stallId (p.stall / 32) (s.physOf (p.stall / 32) (p.stall % 32))
  let gid := groupId sid p.group
  let m (k : Nat) : Dy := Dy.ofInt (Int.ofNat (2 ^ (2 * (p.range + k)) / 144))
  let s1 := (s.wr TAL_TILE_STAT.RANGE gid p.range).wr TAL_TILE_STAT.CARRY gid (ofBool p.carry)
  let s2 := (s1.endTile gid).wr TAL_TILE_STAT.RMS_P gid (isqrt (m 9).floor.toNat)
  let s3 := s2.modGroup gid fun g => { g with msq := m 9, hasMsq := true, tmsq := m 7, trange := p.range }
  let s4 := if p.wide then (s3.widen gid).wr TAL_TILE_STAT.STATIC gid 1 else s3
  s4.modStall sid fun st => st.loadSram gen p

/-- The units that the pitch map names take their tables (R208 step 4); a tile shared with CURRENT is left as it is (R222). -/
def State.loadUnits (s : State) (slot : Nat) (g : Gen) : State :=
  let shared (p : Pitch) : Bool := match (s.slot slot).cur with
    | some c => c.man.pitch.any fun q => q.stall == p.stall && q.group == p.group
    | none => false
  g.man.pitch.foldl (fun s p => if shared p then s else s.loadTile g p) s

/-- Stalls whose STOCKED shards are all valid and that are still uncalibrated are queued (R536). -/
def State.queueUncal (s : State) (g : Gen) : State :=
  let stalls := (g.man.pitch.map (·.stall)).eraseDups
  stalls.foldl (fun s l =>
    let sid := stallId (l / 32) (s.physOf (l / 32) (l % 32))
    let ok := (g.man.pitch.filter fun p => p.stall == l).all fun p => (g.shard p.shard).valid
    if ok && s.rd CAL_STALL_STAT.COUNT sid == 0 then s.queueCal sid else s) s

/-- Every group of the pitch map is VERIFIED, and where the manifest names an image, with a journal image slot that holds IMAGE_ID (R183, R208 step 5). -/
def State.stocked (s : State) (m : Manifest) : Bool :=
  m.pitch.all fun p =>
    let sid := stallId (p.stall / 32) (s.physOf (p.stall / 32) (p.stall % 32))
    s.verified sid p.group && (m.imageId == 0 || (groupCrates sid p.group).all fun i => (FMap.get (0, 0) s.images (s.jrn i).image).1 == m.imageId)

/-- The state of a slot whose first generation has passed steps 1 to 4 (R208): it waits for its image, or for a group that is not VERIFIED (R183). -/
def State.loadedState (s : State) (m : Manifest) : Nat := if m.imageId ≠ 0 ∨ s.stocked m = false then slWait else slLoading

/-- What follows once no shard of the generation being loaded is missing. -/
def State.loadDone (s : State) (slot : Nat) : State :=
  match (s.slot slot).next with
  | some g =>
    if g.missing = 0 ∧ s.rd PRT_STAT.LOAD = 3 ∧ s.rd PRT_STAT.SLOT = slot then
      let s1 := ((s.loadUnits slot g).wr PRT_STAT.LOAD 0 4).raise 208
      if s.slState slot = slLoading then s1.setSlState slot (s1.loadedState g.man) else s1
    else s
  | none => s

/-- Place a checked manifest and start fetching its shards. -/
def State.startLoad (s : State) (slot : Nat) (m : Manifest) : State :=
  let a1 := s.free1
  let a2 := s.free2
  let p := placeModel m a1 a2 s.charter.kvMin
  if a1 < p.n1 ∨ a2 < p.n2 then
    ((s.wr PRT_SHORT1.V 0 (p.n1 - a1)).wr PRT_SHORT2.V 0 (p.n2 - a2)).refuseLoad slot PRT_ERR.FIT
  else
    let gs := s.placeShards m p.tiers s.takenGrans
    let g : Gen := { man := m, kvPages := p.kv, srcAddr := s.rd PRT_SRC_ADDR.V, pool := s.placePool p.kv (s.takenGrans ++ gs.flatten),
                     shards := (p.tiers.zipIdx).foldl (fun t (tier, i) => FMap.set Shard.init t i { Shard.init with tier := tier, grans := gs.getD i [] }) [] }
    let s1 := s.modSlot slot fun x => { x with next := some g, ready := false }
    let s2 := if s.slState slot = slEmpty then s1.setSlState slot slLoading else s1
    let s3 := ((s2.wr PRT_STAT.LOAD 0 3).wr PRT_STAT.SLOT 0 slot).wr PRT_STAT.LEFT 0 m.shards.length
    ((List.range m.shards.length).foldl (fun s i => s.askShard g i) s3).loadDone slot

/-- MODEL_LOAD (R208): PRT_CMD OP 1, with the manifest read from PRT_MAN_ADDR: its 320-byte header, whose signature the assay unit checks, and its section table and sections, over which BODY_DIGEST is taken (R202, R207). While a generation that has loaded waits for its step marker, the slot's load is not over (R223; DESIGN CHOICE, log entry 111). -/
def execModelLoad (who : Who) (slot : Nat) (hdr sects body : List Byte) (s : State) : Result :=
  .next (s.adminWrite who PRT_CMD fun s =>
    if 16 ≤ slot then s
    else if s.loadBusy then s.prtFlag PRT_ERR.BUSY slot 0
    else
      let man := hdr ++ (sects ++ body)
      let s := s.send (.hostRead 0 (s.rd PRT_MAN_ADDR.V) man.length)
      let m := Manifest.ofBytes man
      let x := s.slot slot
      if 2 ≤ s.rd WDN_RST_CAUSE.STATE then s.refuseLoad slot PRT_ERR.BUSY
      else State.assayDone <| if !(s.signed m.keyIndex man m.sigR m.sigS && leAt (sha512 (man.drop 0x140)) 0 64 == m.digest) then s.refuseLoad slot PRT_ERR.SIG
      else if !s.manifestOk slot man.length m then s.refuseLoad slot PRT_ERR.FORMAT
      else if s.slState slot = slEmpty then s.startLoad slot m
      else match x.cur with
        | some g =>
          if s.slState slot = slReady ∧ g.man.modelId = m.modelId then
            if x.next.isSome then s.refuseLoad slot PRT_ERR.BUSY
            else if x.prev.isSome || decide (m.generation ≤ g.man.generation) || sharesBadly g.man m then s.refuseLoad slot PRT_ERR.GEN
            else s.startLoad slot m
          else s.refuseLoad slot PRT_ERR.BUSY
        | none => s.refuseLoad slot PRT_ERR.BUSY)

/-- SHARD_ARRIVAL (R201, R208, R215): a shard's bytes arrive from the host address `addr` that its entry of the source table names, or the entry, or the shard, could not be read, `ats` for want of access (R416, R419). An ENC shard arrives encrypted, and tier 2 keeps it so. The check is a job of the assay unit, which wakes the Square's clock (R436). -/
def execShardArrival (slot gen shard : Nat) (addr : Option Nat) (data : List Byte) (readable ats : Bool) (s : State) : Result :=
  match s.genOf slot gen with
  | none => .next s
  | some g =>
    match g.man.shards[shard]? with
    | none => .next s
    | some e =>
      if (g.shard shard).valid then .next s
      else
        let read := addr.isSome && readable
        let s := addr.elim s.squareRuns fun a => s.squareRuns.send (.hostRead 0 a e.size)
        match if read then s.goodShard slot g shard e e.enc data else none with
        | some plain =>
          let s1 := s.modShard slot gen shard fun x =>
            { x with valid := true, dropped := false, tries := 0, data := plain, cipher := if e.enc && x.tier == 1 then data else [],
                     scrubAt := s.rd WDN_ROUND.V + 29297 * s.rd PRT_SCRUB_CTL.PERIOD }
          let g1 := ((s1.slot slot).gen gen).getD g
          let s2 := s1.showLeft slot
          let s3 := s2.touchGrans (g.shard shard).grans
          .next (((s3.unfence slot e.expert).queueUncal g1).loadDone slot).assayDone
        | none => .next (((if read then s.assayDone else s.dmaFail 0 ats).shardFailed slot g shard).loadDone slot)

/-! ### Slot states (R208 to R210, R217) -/

/-- SLOT_READY (R208 steps 5 and 6, R223): the first generation starts the slot; a later one waits for the step marker to become CURRENT. -/
def execSlotReady (slot : Nat) (s : State) : Result :=
  match (s.slot slot).next with
  | none => .next s
  | some g =>
    if g.missing = 0 ∧ s.stocked g.man ∧ (s.rd PRT_STAT.LOAD = 4 ∨ s.rd PRT_STAT.SLOT ≠ slot) then
      if s.slState slot = slLoading ∨ s.slState slot = slWait then
        .next ((s.modSlot slot fun m => { m with cur := some g, next := none, started := false }).setSlState slot slReady)
      else if s.slState slot = slReady then .next (s.modSlot slot fun m => { m with ready := true })
      else .next s
    else .next s

/-- MODEL_UNLOAD (R210): PRT_CMD OP 2. A generation load of the slot is aborted (R225). -/
def execModelUnload (who : Who) (slot : Nat) (s : State) : Result :=
  .next (s.adminWrite who PRT_CMD fun s =>
    if 16 ≤ slot ∨ s.slState slot = slEmpty ∨ s.slState slot = slRetiring then s else
      let s1 := (s.slot slot).next.toList.foldl State.endTiles ((s.setSlState slot slRetiring).modSlot slot fun m => { m with next := none, ready := false })
      let s2 := if s.loadBusy ∧ s.rd PRT_STAT.SLOT = slot then s1.wr PRT_STAT.LOAD 0 0 else s1
      let s3 := (FMap.keysWhere s2.seqs fun _ x => x.live && x.slot == slot).foldl (fun s q => s.cancelSeq q 8) s2
      let s4 := (FMap.keysWhere s3.tunes fun _ j => j.live && j.slot == slot).foldl (fun s f => (s.setTune f { s.tune f with endAs := some 8 }).tuneBoundary f) s3
      let s5 := (List.range 16).foldl (fun s k => if s.rd SRV_PACE_STAT.STATE k ≠ 0 ∧ s.rd SRV_PACE_STAT.SLOT k = slot then s.cancelPace k 8 else s) s4
      (FMap.keysWhere s5.adapters fun _ a => a.live.any fun v => v.slot == slot).foldl (fun s a => (s.unloadAdapter a slot).sweepAdapter a) s5)

/-- SLOT_RETIRED (R210): no bound sequence remains. -/
def execSlotRetired (slot : Nat) (s : State) : Result :=
  if s.slState slot = slRetiring ∧ s.countSeqs (fun x => x.slot == slot) = 0
      ∧ FMap.countWhere s.tunes (fun _ j => j.live && j.slot == slot) = 0
      ∧ ((List.range 16).all fun k => s.rd SRV_PACE_STAT.STATE k == 0 || s.rd SRV_PACE_STAT.SLOT k != slot) then
    .next (([(s.slot slot).cur, (s.slot slot).prev].filterMap id).foldl State.endTiles ((s.setSlot slot ModelSlot.init).setSlState slot slEmpty))
  else .next s

/-- The generations in which OP 3 refetches a shard: those that lack it, or the one that serves (R217). -/
def ModelSlot.refetchGens (m : ModelSlot) (shard : Nat) : List Gen :=
  let named := m.gens.filter fun g => decide (shard < g.man.shards.length)
  let lack := named.filter fun g => !(g.shard shard).valid
  if lack.isEmpty then named.take 1 else lack

/-- SHARD_REFETCH (R217): PRT_CMD OP 3, with up to 3 attempts and the source table address now in PRT_SRC_ADDR. -/
def execShardRefetch (who : Who) (slot shard : Nat) (s : State) : Result :=
  .next (s.adminWrite who PRT_CMD fun s =>
    ((s.slot slot).refetchGens shard).foldl (fun s g =>
      let gen := g.man.generation
      let s1 := s.modSlot slot fun m => m.modGen gen fun g => { g with srcAddr := s.rd PRT_SRC_ADDR.V }
      let s2 := (s1.modShard slot gen shard fun x => { x with valid := false, dropped := false, tries := 1 }).showLeft slot
      (s2.bump PRT_REFETCH_CNT.V).askShard { g with srcAddr := s.rd PRT_SRC_ADDR.V } shard) s)

/-- RELEASE_HELD (R217): PRT_CMD OP 4; refused while any shard of the slot is invalid. A slot that was still loading goes back to where its load stands (R209). -/
def execReleaseHeld (who : Who) (slot : Nat) (s : State) : Result :=
  .next (s.adminWrite who PRT_CMD fun s =>
    if s.slState slot ≠ slHeld then s
    else if !s.shardsValid slot then s.prtFlag PRT_ERR.BUSY slot 0
    else match (s.slot slot).cur, (s.slot slot).next with
      | some _, _ => s.setSlState slot slReady
      | none, some g => s.setSlState slot (if s.rd PRT_STAT.LOAD = 3 ∧ s.rd PRT_STAT.SLOT = slot then slLoading else s.loadedState g.man)
      | none, none => s.setSlState slot slLoading)

/-- SHARD_SCRUB_DUE (R201, R213): the period of a valid shard has passed and the assay unit checks it again, as `read` brings it from its tier. -/
def execShardScrubDue (slot gen shard : Nat) (read : List Byte) (err : MemErr) (s : State) : Result :=
  match s.genOf slot gen with
  | none => .next s
  | some g =>
    let x := g.shard shard
    match g.man.shards[shard]? with
    | none => .next s
    | some e =>
      if s.on PRT_CTL.SCRUB_EN ∧ x.valid = true ∧ x.scrubAt ≤ s.rd WDN_ROUND.V then
        let s := s.squareRuns.shardRead slot gen shard err
        match s.ueIn slot gen shard err.ue with
        | some u => .next (s.ledgerUE slot gen shard u)
        | none =>
          let s1 := s.bump PRT_SCRUB_BYTES.V 0 e.size
          if (s.goodShard slot g shard e (e.enc && x.tier == 1) read).isSome then
            .next (s1.modShard slot gen shard fun y => { y with scrubAt := s.rd WDN_ROUND.V + 29297 * s.rd PRT_SCRUB_CTL.PERIOD }).assayDone
          else .next (s1.shardFailed slot g shard).assayDone
      else .next s

/-! ### Fresh planes (R218, R219) -/

/-- The stream entry that a plane request names. -/
def State.planeEntry (s : State) (slot gen idx : Nat) : Option (Gen × Stream) :=
  (s.genOf slot gen).bind fun g => (g.man.streams[idx]?).map fun t => (g, t)

/-- What a plane is to be loaded with is there: a stream entry of a live generation, or a block that fresh attention may strike: complete, and wholly before the chunk in progress (R228, R254). -/
def State.planeExists (s : State) : PlaneSrc → Bool
  | .stream slot gen idx => (s.planeEntry slot gen idx).isSome
  | .attn q _ block which =>
    let x := s.seq q
    x.live && x.phase == .running && x.prefill && s.freshAttn x && decide (1024 * (block + 1) ≤ x.first) && decide (which < 4)

/-- PLANE_LOAD_REQUEST (R218, R254): the row scheduler asks for a stream entry or a block of fresh attention; each stall's queue holds 4. -/
def execPlaneLoadRequest (row stall : Nat) (owner : PlaneOwner) (idx which : Nat) (s : State) : Result :=
  let src := owner.src idx which
  if stallOk row stall && s.planeExists src then
    .next (s.modStall (stallId row stall) fun st => if st.planeReq.length < 4 then { st with planeReq := st.planeReq ++ [src] } else st)
  else .next s

/-- The next content tag of a stall: the low 16 bits of its plane load count, 0 skipped (R219). -/
def nextTag (cnt : Nat) : Nat × Nat := if (cnt + 1) % 65536 = 0 then (cnt + 2, (cnt + 2) % 65536) else (cnt + 1, (cnt + 1) % 65536)

/-- A plane begins to load: its state is LOADING, and the tag that it will carry and its content are held (R218, R219). -/
def State.startPlane (s : State) (sid p tag : Nat) (e : Option PlaneSrc) (r : PlaneRam) : State :=
  (s.setPlane sid p 1 (s.planeTag sid p)).modStall sid fun st =>
    let st1 := st.setRam p e r
    if p = 0 then { st1 with tag0 := tag } else { st1 with tag1 := tag }

/-- The plane that the porter may load: an EMPTY one. DESIGN CHOICE (log entry 69): of two, the lower-numbered. -/
def State.emptyPlane (s : State) (sid : Nat) : Option Nat := [0, 1].find? fun p => s.planeState sid p == 0

/-- Both planes hold what the porter may not overwrite, one of them COMPUTING (R63). -/
def State.planesTaken (s : State) (sid : Nat) : Bool :=
  [0, 1].all (fun p => decide (2 ≤ s.planeState sid p)) && [0, 1].any fun p => s.planeState sid p == 3

/-- The porter begins to load plane p with a stream entry of a valid shard; an uncorrectable memory error delivers nothing, and a GCM tag that fails is a failed arrival (R201, R214, R397). `next` takes the request. -/
def State.loadEntry (s : State) (sid p tag slot gen idx : Nat) (err : MemErr) (next : State → State) : State :=
  match s.planeEntry slot gen idx with
  | none => next s
  | some (g, t) =>
    if !(g.shard t.shard).valid then s
    else
      let s := s.shardRead slot gen t.shard err
      match s.ueIn slot gen t.shard err.ue with
      | some x => s.ledgerUE slot gen t.shard x
      | none => match s.readShard slot g t.shard with
        | some b => (next s).startPlane sid p tag (some (.stream slot gen idx)) (.stream t b)
        | none => s.shardFailed slot g t.shard

/-- The porter begins to form plane p from the pages of a block (R254, R255); a page that meets an uncorrectable error, or has met one, ends its sequence (R397). -/
def State.loadBlock (s : State) (sid p tag q layer block which : Nat) (err : MemErr) (next : State → State) : State :=
  if !(s.seq q).live then next s else
    let ids := s.blockIds q layer block
    let s := s.pageErrs ids err
    match (err.ue.bind fun g => (s.pageWith ids g).map fun id => (id, g)).or (s.badPage ids) with
    | some (id, g) => (next s).pageUE q id g
    | none => (next s).startPlane sid p tag (some (.attn q layer block which)) (.attention (ids.map s.page) which)

/-- The porter begins to load plane p with what a request names. -/
def State.loadSource (s : State) (sid p tag : Nat) (k : PlaneSrc) (err : MemErr) (next : State → State) : State :=
  match k with
  | .stream slot gen idx => s.loadEntry sid p tag slot gen idx err next
  | .attn q layer block which => s.loadBlock sid p tag q layer block which err next

/-- What a request names has gone: its generation, or its sequence. -/
def State.planeGone (s : State) : PlaneSrc → Bool
  | .stream slot gen idx => (s.planeEntry slot gen idx).isNone
  | .attn q _ _ _ => !(s.seq q).live

/-- The porter begins to load plane p: first what was lost in bias-off, then the oldest request (R25, R218). -/
def State.loadPlane (s : State) (sid p : Nat) (err : MemErr) : State :=
  let st := s.stall sid
  match st.reloads, st.planeReq with
  | (tag, e, r) :: rest, _ =>
    let took (s : State) : State := s.modStall sid fun st => { st with reloads := rest }
    match e with
    | none => (took s).startPlane sid p tag none r
    | some k => s.loadSource sid p tag k err took
  | [], k :: rest =>
    if s.planeGone k then s.modStall sid fun st => { st with planeReq := rest } else
    let (cnt, tag) := nextTag st.planeCnt
    s.loadSource sid p tag k err fun s => s.modStall sid fun st => { st with planeReq := rest, planeCnt := cnt }
  | [], [] => s

/-- PLANE_LOAD_START (R25, R26, R63, R214, R218): a plane of an awake stall is EMPTY and a request waits. A write that only a COMPUTING plane could take is refused. -/
def execPlaneLoadStart (row stall : Nat) (err : MemErr) (s : State) : Result :=
  if !stallOk row stall then .next s else
    let sid := stallId row stall
    if s.stState sid < stRun ∨ (s.stall sid).reloads.isEmpty && (s.stall sid).planeReq.isEmpty then .next s
    else match s.emptyPlane sid with
      | some p => .next (s.loadPlane sid p err)
      | none => .next (if s.planesTaken sid then s.flag STL_ERR.PORTER_WR sid else s)

/-- PLANE_LOAD_DONE (R218): the last byte is written; the plane is READY and carries its content tag. -/
def execPlaneLoadDone (row stall plane : Nat) (s : State) : Result :=
  if stallOk row stall && decide (plane < 2) && s.planeState (stallId row stall) plane == 1 then
    let sid := stallId row stall
    .next ((s.setPlane sid plane 2 (if plane = 0 then (s.stall sid).tag0 else (s.stall sid).tag1)).bump PRT_PLANE_LOAD_CNT.V)
  else .next s

end Sys2Proof.Machine
end

