-- ==== Sys2Proof/Machine/Host.lean ====
section
/-! DEFINITION. Host attachment and tenants as commands: the link, functions and their resets, MSI-X, translation, failed reads, quotas, store rooms and mailboxes (chapter 14). -/

namespace Sys2Proof.Machine

/-! ### The link (R407, R408, R529) -/

/-- The largest member of `xs` that is in `ys`. -/
def bestOf (xs ys : List Nat) : Nat := (xs.filter ys.contains).foldl max 0

/-- LINK_TRAINING_DONE (R407, R408): the link has trained to the highest generation at which equalisation succeeds and the widest set of working lanes that both ends support; with no generation or fewer than four lanes it stays down. -/
def execLinkTrainingDone (gens widths : List Nat) (s : State) : Result :=
  let g := bestOf [4, 5, 6, 7] gens
  let w := bestOf [4, 8, 16] widths
  if g = 0 ∨ w = 0 ∨ s.boot.held ∨ !s.boot.begun then .next s
  else
    let s1 := (s.wr HOST_LINK_STAT.GEN 0 g).wr HOST_LINK_STAT.WIDTH 0 w
    let s2 := if s1.port0.linked then s1.bump HOST_RETRAIN_CNT.V else { s1 with port0 := { s1.port0 with linked := true } }
    .next (s2.raise 216)

/-- LINK_RESET (R529): a PCIe hot reset, a Secondary Bus Reset or DL_Down resets each function; at DL_Down the link goes down. -/
def execLinkReset (dlDown : Bool) (s : State) : Result :=
  if s.boot.held ∨ !s.boot.begun then .next s
  else
    let s1 := s.flrAll
    if dlDown then .next (((s1.wr HOST_LINK_STAT.GEN 0 0).wr HOST_LINK_STAT.WIDTH 0 0).raise 216) else .next s1

/-! ### Functions (R409, R410, R424, R425) -/

/-- NUMVFS_WRITE (R409, R428): the SR-IOV controls take new values; functions that cease to exist are reset under R424. Above 7 virtual functions without ARI Capable Hierarchy, which R409 asks of the host, the write changes nothing (log entry 22). -/
def execNumvfsWrite (vfEnable ari : Bool) (num : Nat) (s : State) : Result :=
  if !(s.rd WDN_RST_CAUSE.STATE == 1 || s.rd WDN_RST_CAUSE.STATE == 5) || decide (63 < num) || (decide (7 < num) && !ari) then .next s
  else
    let gone := (List.range 64).filter fun f => f != 0 && s.exists f && !(vfEnable && decide (f ≤ num))
    let s1 := gone.foldl State.flr s
    .next { s1 with port0 := { s1.port0 with vfEnable := vfEnable, numVfs := num, ari := ari } }

/-- FUNCTION_LEVEL_RESET (R424): of a virtual function. -/
def execFunctionLevelReset (f : Nat) (s : State) : Result :=
  if f ≠ 0 ∧ s.configOpen f then .next (s.flr f) else .next s

/-- PF_FUNCTION_LEVEL_RESET (R425). -/
def execPfFunctionLevelReset (s : State) : Result := if s.configOpen 0 then .next s.flrAll else .next s

/-- FLR_COMPLETE (R424 step 5): 50,000 CLK_AO cycles after t0 the function accepts BAR requests and slips again. -/
def execFlrComplete (f : Nat) (s : State) : Result :=
  match (s.func f).flrAt with
  | some t => if t + 50000 ≤ s.now then .next (s.modFunc f fun g => { g with flrAt := none }) else .next s
  | none => .next s

/-! ### MSI-X (R413 to R415) -/

/-- Send the message of every vector that is pending and no longer masked (R415). -/
def State.sendPending (s : State) (f : Nat) : State :=
  if s.on HOST_FN_STAT.MSIX_EN f && !s.on HOST_FN_STAT.D3 f && !(s.func f).funcMask then
    let fn := s.func f
    let go := fn.pend.filter fun v => !(FMap.get MsixEntry.init fn.table v).masked
    let s1 := s.setFunc f { fn with pend := fn.pend.filter fun v => !go.contains v }
    go.foldl (fun s v => s.send (.msix f v (FMap.get MsixEntry.init fn.table v).addr (FMap.get MsixEntry.init fn.table v).data)) s1
  else s

/-- POWER_STATE_WRITE (R410): D0 or D3hot. A function that returns to D0 sends the messages of the vectors unmasked meanwhile (R415). -/
def execPowerStateWrite (f : Nat) (d3 : Bool) (s : State) : Result :=
  if s.configOpen f then .next ((s.wr HOST_FN_STAT.D3 f (ofBool d3)).sendPending f) else .next s

/-- MSIX_UNMASK (R415): the mask bit of a vector's entry is cleared; a pending message is sent. -/
def execMsixUnmask (f vector : Nat) (s : State) : Result :=
  if f < 64 ∧ vector < 64 ∧ s.memOpen (.func f) then
    .next (((s.squareRuns.dropHalves (.func f)).modFunc f fun g => { g with table := FMap.modify MsixEntry.init g.table vector fun e => { e with masked := false } }).sendPending f)
  else .next s

/-! ### Translation and failed reads (R416, R419) -/

/-- INVALIDATION_REQUEST (R416): completed once every request that used a matching entry is issued and every read among them complete; the entry is used no more. `late` says that this took more than 50 µs. -/
def execInvalidationRequest (f page tag : Nat) (late : Bool) (s : State) : Result :=
  if !s.configOpen f then .next s
  else
    let s1 := (s.modFunc f fun g => { g with cache := g.cache.filter (· != page) }).send (.ats f tag)
    .next (if late then s1.flagAt HOST_ERR.ATS_INV 0 [(HOST_ERR.FUNC, f)] else s1)

/-- The function whose requester ID a read carries (R417). -/
def State.readFunc (s : State) : ReadKind → Nat
  | .prompt q | .store q => (s.seq q).func
  | .frame k _ => (s.pace k).func
  | .ridx f _ => f
  | _ => 0

/-- What the device does about a failed read, by its kind (R419). -/
def State.readFailed (s : State) (k : ReadKind) : State :=
  match k with
  | .prompt q =>
    let x := s.seq q
    if !(x.live && x.prefill && x.phase == .running) then s
    else if x.promptFails = 0 then
      (s.setSeq q { x with promptFails := 1 }).send (.hostRead x.func (x.promptAddr + 4 * x.first) (4 * x.width))
    else s.faultSeq q 7
  | .frame k no =>
    let p := s.pace k
    match p.frames.find? fun fr => fr.no == no with
    | none => s
    | some fr =>
      if fr.fails = 0 then
        (s.setPace k { p with frames := p.frames.map fun x => if x.no = no then { x with fails := 1 } else x }).send (.hostRead p.func fr.input 0)
      else
        let keep := p.frames.takeWhile fun x => x.no != no
        (((s.setPace k { p with frames := keep, endAs := 7 }).wr SRV_PACE_STAT.QUEUED k keep.length).wr SRV_PACE_STAT.STATE k 2).paceDone k
  | .ridx f t =>
    let key := reqKey f t
    let r := s.roll key
    if r.len = 0 || r.backlog.isEmpty then s
    else
      let s1 := if r.full || s.rollSeqs key = 0 then s else s.bump SRV_ROLL_FULL_CNT.V
      (s1.setRoll key { r with full := true, pollAt := s.now + 1000 }).send (.hostRead f (r.widx + 8) 8)
  | .store q =>
    let x := s.seq q
    if !(x.live && x.image.isSome) then s
    else if x.retries < 3 then s.setSeq q { x with retries := x.retries + 1 }
    else s.endSeq q 3
  | .manifest slot => s.refuseLoad slot PRT_ERR.SIG
  | .shard slot gen i =>
    match s.genOf slot gen with
    | some g => if (g.shard i).valid || decide (g.man.shards.length ≤ i) then s else (s.shardFailed slot g i).loadDone slot
    | none => s
  | .stockImage => if s.stock.isSome then s.bump STK_REFETCH_CNT.V else s
  | .homeTable => s.wr CW_HOME_STAT.STATE 0 4
  | .adapterImage a => s.adpFlag SRV_ADP_ERR.DIGEST a

/-- The read is one that the device has under way. -/
def State.readOpen (s : State) : ReadKind → Bool
  | .prompt q => (s.seq q).live
  | .store q => (s.seq q).live
  | .frame k no => (s.pace k).frames.any fun x => x.no == no
  | .ridx f t => decide ((s.roll (reqKey f t)).len ≠ 0)
  | _ => true

/-- HOST_READ_FAILURE (R419): a host read ends in a completion timeout, an Unsupported Request or Completer Abort, a poisoned completion, or (`ats`) a translation without access. -/
def execHostReadFailure (kind : ReadKind) (ats : Bool) (s : State) : Result :=
  if s.takesWork && s.readOpen kind then .next ((s.dmaFail (s.readFunc kind) ats).readFailed kind) else .next s

/-! ### Quotas and store rooms (R420, R421) -/

/-- QUOTA_WRITE (R420, R434): TEN_ADM_QUOTA sets the quota of the function selected in TEN_ADM_SEL. -/
def execQuotaWrite (who : Who) (val : Nat) (s : State) : Result :=
  .next (s.adminWrite who TEN_ADM_QUOTA fun s =>
    let f := s.rd TEN_ADM_SEL.FUNC
    (s.wr TEN_QUOTA.KV_QUOTA f val).fnEvent f 3)

/-- Sequences of the function are parked. -/
def State.parkedOf (s : State) (f : Nat) : Nat := s.countSeqs fun x => x.func == f && x.image.isSome

/-- STORE_REGISTER (R421): TEN_STORE_CMD with OP = 1. A refused command leaves a registration that stands. -/
def execStoreRegister (f : Nat) (s : State) : Result :=
  if f < 64 ∧ s.memOpen (.func f) then
    let s := s.accessed (.func f) (0x1000 + TEN_STORE_CMD.off)
    let ok := decide (1 ≤ s.rd TEN_STORE_SIZE.GRAN f) && s.parkedOf f == 0
    let s1 := if ok then s.modFunc f fun g => { g with room := some (s.rd TEN_STORE_BASE.BASE f, s.rd TEN_STORE_SIZE.GRAN f) } else s
    .next ((s1.wr TEN_STORE_STAT.STATE f (if ok then 1 else 2)).fnEvent f 2)
  else .next s

/-- STORE_WITHDRAW (R421): TEN_STORE_CMD with OP = 2; refused while a sequence of the function is parked. -/
def execStoreWithdraw (f : Nat) (s : State) : Result :=
  if f < 64 ∧ s.memOpen (.func f) then
    let s := s.accessed (.func f) (0x1000 + TEN_STORE_CMD.off)
    let ok := s.parkedOf f == 0
    let s1 := if ok then s.modFunc f fun g => { g with room := none } else s
    .next ((s1.wr TEN_STORE_STAT.STATE f (if ok then 0 else 2)).fnEvent f 2)
  else .next s

/-! ### Data Object Exchange (R426, R427) -/

/-- The vendor and type of each object that a function supports, in the order that discovery lists them (R426). -/
def State.doeObjects (s : State) (f : Nat) : List (Nat × Nat) :=
  let v := Config.vendorId % 65536
  if f = 0 then [(1, 0), (1, 1), (1, 2), (v, 1)] ++ (if s.rd SEC_STAT.BOOT_SEL = 1 then [(v, 2)] else []) else [(1, 0), (v, 1)]

/-- The largest object of a type, in bytes: 1 KiB for a tenant session, 16 KiB else; discovery has no limit (R426). -/
def doeLimit (vendor typ : Nat) : Option Nat :=
  if vendor = 1 ∧ typ = 0 then none else if vendor ≠ 1 ∧ typ = 1 then some 1024 else some 16384

/-- The mailbox of a function takes an object: start-up has ended, the function exists and is in no reset, and no DOE Error stands; DOE Go raises its source (R437). -/
def State.doeGo (s : State) (f : Nat) (act : State → State) : State :=
  if s.configOpen f && (s.func f).flrAt.isNone && !(s.func f).doeError then act (s.raise (296 + f)) else s

/-- DOE_DISCOVERY (R426): the object of an index, and the index after it, 0 after the last. -/
def execDoeDiscovery (f index : Nat) (s : State) : Result :=
  .next (s.doeGo f fun s =>
    let os := s.doeObjects f
    let (v, t) := os.getD index (0xFFFF, 0xFF)
    s.send (.doe f (leBytes 2 v ++ leBytes 1 t ++ leBytes 1 (if index + 1 < os.length then index + 1 else 0))))

/-- DOE_ABORT (R427): a partial object is discarded and the mailbox cleared. -/
def execDoeAbort (f : Nat) (s : State) : Result :=
  if s.configOpen f then .next (s.modFunc f fun g => { g with doeError := false }) else .next s

/-- DOE_OBJECT_ERROR (R427): an object of a type the function does not support, or beyond its type's limit, sets DOE Error and is discarded. -/
def execDoeObjectError (f vendor typ len : Nat) (s : State) : Result :=
  .next (s.doeGo f fun s =>
    let bad := !(s.doeObjects f).contains (vendor, typ) || (match doeLimit vendor typ with
      | some n => decide (n < len)
      | none => false)
    if bad then s.modFunc f fun g => { g with doeError := true } else s)

/-- MCTP_CONTROL_MESSAGE (R535): answered over I3C from step 2 of start-up on; the spec gives the answer no content (log entry 23). -/
def execMctpControlMessage (command : Nat) (s : State) : Result :=
  if s.boot.begun && !s.boot.held then
    let (v, s1) := s.takeFree
    .next (s1.send (.i3c command v))
  else .next s

end Sys2Proof.Machine
end

