-- ==== Sys2Proof/Machine/Memory.lean ====
section
/-! DEFINITION. The memory tiers as commands: retirement of granules, patrol scrub, self-refresh and periodic retraining (R397 to R401). -/

namespace Sys2Proof.Machine

/-! ### Errors by content (R397) -/

/-- A content that the state records in granules of its own. -/
def placedContent : Content → Bool
  | .shard _ _ _ | .page _ | .adapter _ => true
  | _ => false

/-- What a line of a granule holds: what the state records there; of pages that share the granule the one named; else what is named, the state recording no granules for it. -/
def State.contentAt (s : State) (gran : Nat) (c : Content) : Content :=
  match s.contentOf gran, c with
  | some _, .page id => if (s.page id).live && (s.page id).grans.contains gran then c else (s.contentOf gran).getD .free
  | some x, _ => x
  | none, _ => if placedContent c then .free else c

/-- An uncorrectable error in a line, by what it holds. -/
def State.contentUE (s : State) (gran : Nat) (c : Content) : State :=
  match c with
  | .shard slot gen shard => s.ledgerUE slot gen shard gran
  | .page id => s.markPage id gran
  | .owned q => (s.memUE gran).faultSeq q 6
  | .gradient f => (s.memUE gran).endTune f 6
  | .adapter a =>
    let s1 := s.memUE gran
    match (s1.adapter a).cur with
    | some v =>
      let qs := FMap.keysWhere s1.seqs fun _ x => x.live && x.adapter == some (a, v.no)
      qs.foldl (fun s q => s.cancelSeq q 7) (s1.endCurrency a)
    | none => s1
  | .priv => (s.memUE gran).deviceFault 5
  | .free | .image => s.memUE gran

/-! ### Retirement (R398) -/

/-- The retired granules of a granule's tier that the list holds. -/
def State.retireList (s : State) (gran : Nat) : List Nat := s.mem.retired.filter fun g => decide (g < 2 ^ 40) == decide (gran < 2 ^ 40)

/-- What a granule holds is copied to a free one of the same tier and locality, from which accesses are served (R394, R398): that of a page or of a STOCKED shard lies in the same quarter's stacks. A page that has met an uncorrectable error keeps its place until it is released (R397). -/
def State.copyGran (s : State) (gran : Nat) : State :=
  let move (quarters : List Nat) : State :=
    match s.takeFrom (if gran < 2 ^ 40 then 0 else 1) quarters s.takenGrans 1 with
    | new :: _ => s.moveGran gran new
    | [] => s
  match s.contentOf gran with
  | some (.page id) => if (s.page id).bad.isEmpty then move [gran % 20 / 5] else s
  | some (.shard slot gen i) =>
    if ((s.genOf slot gen).bind fun g => g.man.shards[i]?).any fun e => e.kind == 0 then move [gran % 20 / 5] else move (List.range 4)
  | some _ => move (List.range 4)
  | none => s

/-- GRANULE_RETIRE (R398): a granule that is due is retired, its live content copied elsewhere first. With the list full it is retired until the next reset. -/
def execGranuleRetire (gran : Nat) (s : State) : Result :=
  if s.mem.due.contains gran then
    let u := s.unitOf gran
    let s := s.copyGran gran
    let m := { s.mem with due := s.mem.due.erase gran, ces := s.mem.ces.filter fun e => e.1 != gran }
    if (s.mem.retired ++ s.mem.extra).contains gran ∨ s.rd MEM_UNIT_STAT.STATE u = 4 then .next { s with mem := m }
    else if (s.retireList gran).length < 4096 then
      let s1 := ({ s with mem := { m with retired := m.retired ++ [gran] } } : State).bump MEM_RETIRE_CNT.V
      .next (s1.bump MEM_UNIT_STAT.RETIRED u)
    else
      let s1 := ({ s with mem := { m with extra := m.extra ++ [gran] } } : State).bump MEM_RETIRE_CNT.V
      .next (s1.memFlag MEM_ERR.RETIRE_FULL u)
  else .next s

/-! ### Patrol scrub (R399) -/

/-- Data lines of 64 bytes of a unit: 80 GB of a stack, the data capacity of a channel (R386). -/
def State.unitLines (s : State) (u : Nat) : Nat := if u < 20 then stackData / 64 else 1024 * FMap.get 0 s.mem.dataGran (u - 20)

/-- The granule that line n of a unit lies in (R392, R393). -/
def State.lineGran (s : State) (u n : Nat) : Nat :=
  let up := s.tier2Up
  if u < 20 then 20 * (n / 1024) + u else 2 ^ 40 + up.length * (n / 1024) + (up.idxOf (u - 20))

/-- The patrol scrub may read a unit: one that is UP, or a channel in self-refresh, which wakes; a stack in self-refresh wakes only with its quarter (R400). -/
def State.unitUp (s : State) (u : Nat) : Bool :=
  decide (u < 36) && (s.rd MEM_UNIT_STAT.STATE u == 2 || (s.rd MEM_UNIT_STAT.STATE u == 3 && decide (20 ≤ u)))

/-- The length of a patrol pass in warden rounds: PERIOD hours of 1,757,813 (R399). -/
def State.passRounds (s : State) : Nat := 1757813 * s.rd MEM_SCRUB_CTL.PERIOD

/-- A pass that a unit has read whole gives way to the next one, when its period has ended before it (R399). -/
def MemState.nextPass (m : MemState) (u lines : Nat) : MemState :=
  if FMap.get 0 m.linesRead u = lines ∧ FMap.get 0 m.passLate u = 1 then
    { m with linesRead := FMap.set 0 m.linesRead u 0, passLate := FMap.set 0 m.passLate u 0 }
  else m

/-- PATROL_SCRUB (R399): the patrol scrub reads the next line of a unit in a slot that nothing else wants, each line once a pass; `corrected` says that the line is written back corrected, `ue` that it holds an uncorrectable error, `c` what it holds where the state records nothing. -/
def execPatrolScrub (u : Nat) (corrected ue : Bool) (c : Content) (s : State) : Result :=
  let n := FMap.get 0 s.mem.linesRead u
  if s.on MEM_CTL.SCRUB_EN && s.unitUp u && decide (n < s.unitLines u) then
    let gran := s.lineGran u n
    let s0 := s.touchGrans [gran]
    let s1 := { s0 with mem := ({ s0.mem with linesRead := FMap.set 0 s0.mem.linesRead u (n + 1) }).nextPass u (s0.unitLines u) }
    if ue then .next (s1.contentUE gran (s1.contentAt gran c))
    else if corrected then .next ((s1.memCE gran).bump MEM_SCRUB_CE_CNT.V)
    else .next s1
  else .next s

/-- SCRUB_PERIOD_END (R399, R404): a pass that has read every line starts anew, at the period in force; one that has not continues, and with less than 90 % of its lines read it is late. -/
def execScrubPeriodEnd (unit : Nat) (s : State) : Result :=
  if s.on MEM_CTL.SCRUB_EN && s.unitUp unit && decide (FMap.get 0 s.mem.passEnd unit ≤ s.rd WDN_ROUND.V) then
    let m := { s.mem with passEnd := FMap.set 0 s.mem.passEnd unit (s.rd WDN_ROUND.V + s.passRounds) }
    let n := FMap.get 0 s.mem.linesRead unit
    let s1 : State := { s with mem := ({ m with passLate := FMap.set 0 m.passLate unit 1 }).nextPass unit (s.unitLines unit) }
    if 10 * n < 9 * s.unitLines unit then .next (s1.memFlag MEM_ERR.SCRUB_LATE unit) else .next s1
  else .next s

/-! ### Self-refresh and retraining (R400, R401) -/

/-- T2_SELF_REFRESH_ENTRY (R400): a channel without an access for SR_IDLE µs, on CLK_AO. -/
def execT2SelfRefreshEntry (chan : Nat) (s : State) : Result :=
  if chan < 16 ∧ s.rd MEM_UNIT_STAT.STATE (20 + chan) = 2 ∧ s.on MEM_CTL.T2_SR_EN
      ∧ FMap.get 0 s.mem.access chan + 25 * s.rd MEM_CTL.SR_IDLE ≤ s.now then
    .next (s.setMemUnit (20 + chan) 3)
  else .next s

/-- PERIODIC_RETRAIN (R401): strobe tracking of a stack every warden round, data retraining of a channel every 32. -/
def execPeriodicRetrain (unit : Nat) (s : State) : Result :=
  let now := s.rd WDN_ROUND.V
  if unit < 36 ∧ s.rd MEM_UNIT_STAT.STATE unit = 2 ∧ FMap.get 0 s.mem.retrainAt unit + (if unit < 20 then 1 else 32) ≤ now then
    .next (({ s with mem := { s.mem with retrainAt := FMap.set 0 s.mem.retrainAt unit now } } : State).bump MEM_TRAIN_CNT.V)
  else .next s

end Sys2Proof.Machine
end

