-- ==== Sys2Proof/Machine/Modes.lean ====
section
/-! DEFINITION. Barriers and mode changes as commands (R447 to R454). -/

namespace Sys2Proof.Machine

/-! ### Barriers (R447) -/

/-- BARRIER (R447): MODE_CMD with OP = 3 places a marker in both directions of the four quarter–Square and the four quarter–quarter bridges; a barrier started while one is in progress joins it. -/
def execBarrier (who : Who) (s : State) : Result :=
  .next (s.adminWrite who MODE_CMD fun s =>
    if s.on MODE_STAT.BARRIER_BUSY then s
    else ({ s with modeCtl := { s.modeCtl with barrier := 16 } } : State).wr MODE_STAT.BARRIER_BUSY 0 1)

/-- BARRIER_COMPLETE (R447): every marker has left its bridge. -/
def execBarrierComplete (s : State) : Result :=
  if s.on MODE_STAT.BARRIER_BUSY then
    .next (((({ s with modeCtl := { s.modeCtl with barrier := 0 } } : State).wr MODE_STAT.BARRIER_BUSY 0 0).bump MODE_BARRIER_CNT.V).raise 221)
  else .next s

/-! ### Mode changes (R449 to R452) -/

/-- Entry k of a mode record (R449). -/
def modeEntry (rec : List Byte) (k : Nat) : ModeEntry :=
  let o := 16 + 24 * k
  ⟨leAt rec o 1, leAt rec (o + 2) 2, leAt rec (o + 8) 8, leAt rec (o + 16) 8⟩

/-- The entries of a mode record that keeps R449. -/
def modeRecord (rec : List Byte) : Option (List ModeEntry) :=
  let n := leAt rec 0 2
  let es := (List.range n).map (modeEntry rec)
  let ok := decide (1 ≤ n) && decide (n ≤ 64) && leAt rec 2 1 == 1 && leAt rec 3 13 == 0
    && (List.range n).all (fun k => leAt rec (17 + 24 * k) 1 == 0 && leAt rec (20 + 24 * k) 4 == 0)
    && es.all fun e => decide (1 ≤ e.cls) && decide (e.cls ≤ 3) && e.offset % 8 == 0
  if ok then some es else none

/-- MODE_CHANGE (R450): MODE_CMD with OP = 1: the record that MODE_REC_ADDR names is checked and the scope begins to close. A change requested during another is dropped (R454); SCOPE 5–7 does nothing. -/
def execModeChange (who : Who) (scope : Nat) (rec : List Byte) (s : State) : Result :=
  .next (s.adminWrite who MODE_CMD fun s =>
    let ph := s.rd MODE_STAT.PHASE
    if 5 ≤ scope then s
    else if 1 ≤ ph ∧ ph ≤ 3 then s.modeFlag MODE_ERR.BUSY (0, 0)
    else
      let at' := s.rd MODE_REC_ADDR.ADDR
      let s0 := s.wr MODE_STAT.SCOPE 0 scope
      if !s.spanOk at' (max 1 rec.length) then ((s0.memFlag MEM_ERR.RANGE 0).modeFlag MODE_ERR.RECORD (0, 0)).modePhase 4
      else
      let s0 := s0.touchSpan at' rec.length
      match modeRecord rec with
      | none => (s0.modeFlag MODE_ERR.RECORD (0, 0)).modePhase 4
      | some es =>
        let s1 := { s0 with modeCtl := { s0.modeCtl with entries := es, at0 := s.now } }
        let s2 := (scopeUnits scope).foldl (fun s u =>
          if s.excluded u then s else match u.1 with
            | 1 => s.drainReq (s.physStall u.2) .mode
            | 2 => s
            | _ => if s.rd WH_STAT.STATE u.2 = 1 then s.wr WH_STAT.STATE u.2 2 else s) s1
        s2.modePhase 1)

/-- A unit of the scope has reported drained: a stall whose drain has completed, a weigh house with no position under way. -/
def State.unitClosed (s : State) (u : Nat × Nat) : Bool :=
  s.excluded u || match u.1 with
    | 1 =>
      let st := s.stall (s.physStall u.2)
      st.drains.contains .mode && st.drained
    | 2 => true
    | _ => s.countSeqs (fun x => x.wh == u.2 && x.phase != .idle) == 0

/-- The units of the change in progress. -/
def State.modeUnits (s : State) : List (Nat × Nat) := scopeUnits (s.rd MODE_STAT.SCOPE)

/-- MODE_CLOSE_COMPLETE (R450): every unit has drained; each is sent the entries of its class. -/
def execModeCloseComplete (s : State) : Result :=
  if s.rd MODE_STAT.PHASE = 1 ∧ s.modeUnits.all s.unitClosed then
    let cur := s.rd MODE_GEN.CUR
    let s1 := s.wr MODE_GEN.STAGED 0 (if cur = 0xFFFF then 1 else cur + 1)
    .next (({ s1 with modeCtl := { s1.modeCtl with at0 := s.now } } : State).modePhase 2)
  else .next s

/-- The first unit that fails an entry of its class (R450 step 3). -/
def State.stageFault (s : State) : Option (Nat × Nat) :=
  s.modeUnits.find? fun u => !s.excluded u && s.modeCtl.entries.any fun e => e.cls == u.1 && s.entryFails u e

/-- MODE_OPEN (R450, R451): every unit has acknowledged; with one failure the change aborts, else CUR advances, OPEN is sent and the scope reopens. `late` names the units that do not acknowledge OPEN at once (R452). -/
def execModeOpen (late : List (Nat × Nat)) (s : State) : Result :=
  if s.rd MODE_STAT.PHASE ≠ 2 then .next s
  else match s.stageFault with
  | some u => .next ((s.modeFlag MODE_ERR.STAGE_FAIL u).modeAbort)
  | none =>
    let s1 := (s.wr MODE_GEN.CUR 0 (s.rd MODE_GEN.STAGED)).wr MODE_GEN.STAGED 0 0
    let s2 := s1.modeCtl.entries.foldl State.noteImage s1
    let us := s2.modeUnits.filter fun u => !s2.excluded u
    let lag := us.filter late.contains
    let s3 := (us.filter fun u => !late.contains u).foldl State.applyStaged s2
    let s4 := { s3 with modeCtl := { s3.modeCtl with
      at0 := s.now, openWait := lag.foldl (fun m (u : Nat × Nat) => FMap.set 0 m (unitId u.1 u.2) 1) s3.modeCtl.openWait } }
    let s5 := s4.modeReopen.bump MODE_CHANGE_CNT.V
    .next (s5.modePhase (if lag.isEmpty then 5 else 3))

/-- MODE_STAT.LAGGING counts the units that have not acknowledged OPEN within ACK_TO (R452). -/
def State.showLagging (s : State) : State :=
  let n := (s.modeCtl.openWait.filter fun e => decide (2 ≤ e.2)).length
  let s1 := s.wr MODE_STAT.LAGGING 0 n
  if s1.rd MODE_STAT.PHASE = 3 ∧ s1.modeCtl.openWait = [] then s1.modePhase 5 else s1

/-- A unit leaves the list of those that OPEN still waits for. -/
def State.openDone (s : State) (u : Nat × Nat) : State :=
  { s with modeCtl := { s.modeCtl with openWait := FMap.set 0 s.modeCtl.openWait (unitId u.1 u.2) 0 } }

/-- MODE_OPEN_RESEND (R452): ACK_TO has passed again without a unit's acknowledgement of OPEN, and OPEN is resent; after RETRY resends the unit enters FAULT. `acked` says that the unit acknowledges. -/
def execModeOpenResend (cls idx : Nat) (acked : Bool) (s : State) : Result :=
  let u := (cls, idx)
  let k := FMap.get 0 s.modeCtl.openWait (unitId cls idx)
  if k = 0 then .next s
  else if acked then .next ((((s.applyStaged u).openDone u)).showLagging)
  else if s.now < s.modeCtl.at0 + k * (25 * s.rd MODE_CTL.ACK_TO) then .next s
  else if s.rd MODE_CTL.RETRY < k then
    let s1 := (s.openDone u).modeFlag MODE_ERR.MISSED u
    .next ((match cls with
      | 1 => s1.stallFault (s1.physStall idx)
      | 2 => s1.rowFault idx
      | _ => s1.houseFault idx).showLagging)
  else
    .next (({ s with modeCtl := { s.modeCtl with openWait := FMap.set 0 s.modeCtl.openWait (unitId cls idx) (k + 1) } } : State).showLagging)

/-- MODE_ABORT (R451): MODE_CMD with OP = 2 aborts a change that has not committed. -/
def execModeAbort (who : Who) (s : State) : Result := .next (s.adminWrite who MODE_CMD State.modeAbort)

/-- MODE_CLOSE_TIMEOUT (R451): close has not completed within CLOSE_TO ms. -/
def execModeCloseTimeout (s : State) : Result :=
  if s.rd MODE_STAT.PHASE = 1 ∧ s.modeCtl.at0 + 25000 * s.rd MODE_CTL.CLOSE_TO ≤ s.now then
    match s.modeUnits.find? fun u => !s.unitClosed u with
    | some u => .next ((s.modeFlag MODE_ERR.CLOSE_TO u).modeAbort)
    | none => .next s
  else .next s

/-- MODE_STAGE_TIMEOUT (R451): a unit has not acknowledged stage within ACK_TO µs. -/
def execModeStageTimeout (cls idx : Nat) (s : State) : Result :=
  if s.rd MODE_STAT.PHASE = 2 ∧ s.modeUnits.contains (cls, idx) ∧ s.modeCtl.at0 + 25 * s.rd MODE_CTL.ACK_TO ≤ s.now then
    .next ((s.modeFlag MODE_ERR.STAGE_TO (cls, idx)).modeAbort)
  else .next s

/-- UNIT_CATCHUP (R453): a unit that returns to service with another MODE_GEN is brought level before it takes work. -/
def execUnitCatchup (cls idx : Nat) (s : State) : Result :=
  if (scopeUnits 0).contains (cls, idx) ∧ !s.excluded (cls, idx) ∧ FMap.get 0 s.modeCtl.openWait (unitId cls idx) = 0 then
    .next (s.catchUp (cls, idx))
  else .next s

end Sys2Proof.Machine
end

