-- ==== Sys2Proof/Machine/Sleep.lean ====
section
/-! DEFINITION. Sleep and wake of stalls, rows and quarters (R24 to R27, R486 to R488). -/

namespace Sys2Proof.Machine

/-- The unit exists. -/
def unitOk : SleepUnit → Bool
  | .stall r p => stallOk r p
  | .row r => rowOk r
  | .quarter q => decide (q < 4)

/-- The row of a unit, or the first row of its quarter. -/
def unitRow : SleepUnit → Nat
  | .stall r _ => r
  | .row r => r
  | .quarter q => 48 * q

/-- The unit exists and may wake. -/
def State.wakeOk (s : State) (u : SleepUnit) : Bool := unitOk u && !s.noWake (unitRow u)

/-- The key of a unit in the wake and gate times. -/
def unitKey : SleepUnit → Nat
  | .stall r p => stallId r p
  | .row r => 12288 + r
  | .quarter q => 12480 + q

/-- WAKE_COMPLETE (R488): the unit's time has come; it reaches RUN, is brought level if its MODE_GEN lags (R453, R531), and issues the work that waited. -/
def execWakeComplete (u : SleepUnit) (s : State) : Result :=
  let t := FMap.get 0 s.wakeAt (unitKey u)
  if unitOk u ∧ t ≠ 0 ∧ t ≤ s.now then
    match u with
    | .stall r p =>
      let sid := stallId r p
      let s1 := s.stallRuns sid
      .next ((if s1.logicalAt sid = 63 then s1 else s1.catchUp (1, s1.logicalNo sid)).refill sid)
    | .row r => .next (((s.unitRuns r).catchUp (2, r)).wokenVectors r)
    | .quarter q => .next ((List.range 4).foldl (fun s h => s.catchUp (3, 4 * q + h)) (s.unitRuns (192 + q)))
  else .next s

/-- A calibration, scrub or self-test slot of the stall is due (R487). -/
def State.slotDue (s : State) (sid : Nat) : Bool :=
  s.calActive sid || s.scrub.busy.any (fun i => jrnStall i == sid) || s.cal.testing.any (fun t => t.stalls.contains sid)

/-- Nothing of the stall is in flight: queue, markers, passes and strikes (R162). -/
def State.stallEmpty (s : State) (sid : Nat) : Bool :=
  let st := s.stall sid
  st.queue.isEmpty && st.markers.isEmpty && st.passes.isEmpty && st.inflight.all fun x => x.stage == .released

/-- A stall may be clock-gated (R487): its queue has been empty for GATE_IDLE strike periods of 20 CLK_AO cycles, both hold sets are converted, and no slot is due. -/
def State.stallIdle (s : State) (sid : Nat) : Bool :=
  let st := s.stall sid
  (s.stState sid == stRun || s.stState sid == stSpareIdle) && st.queue.isEmpty && st.inflight.all (fun x => x.stage != .issued)
    && !s.slotDue sid && decide (st.lastUsed + 20 * s.rd WDN_SLEEP_CTL.GATE_IDLE ≤ s.now)

/-- A row may be clock-gated (R487): every stall sleeps, and its tally engine holds no value, run or reorder entry. -/
def State.rowIdle (s : State) (row : Nat) : Bool :=
  (List.range 33).all (fun p => decide (s.stState (stallId row p) ≤ stGated) && s.stallEmpty (stallId row p))
    && (s.row row).insts.isEmpty && s.rd TAL_ACC_STAT.REORDER_USED row == 0

/-- A quarter may sleep (R487): every row sleeps at most as deep as asked, no weigh house has an assigned sequence, and the porter has nothing queued. -/
def State.quarterIdle (s : State) (q deep : Nat) : Bool :=
  (List.range 48).all (fun r => decide (FMap.get 0 s.sleep (48 * q + r) ≤ deep)) && (List.range 4).all (fun h => s.whSeqs (4 * q + h) == 0)
    && !(s.rd PRT_STAT.LOAD == 1 || s.rd PRT_STAT.LOAD == 2 || s.rd PRT_STAT.LOAD == 3)

/-- A unit that runs is entering sleep: the conditions of its entry hold, and the warden has yet to end it (R27, R487; DESIGN CHOICE, log entry 71). -/
def State.entering (s : State) (u : SleepUnit) : Bool :=
  s.on WDN_CTL.SLEEP_EN && match u with
    | .stall r p => s.stallIdle (stallId r p)
    | .row r => FMap.get 0 s.sleep r == 3 && s.rowIdle r
    | .quarter q => FMap.get 0 s.sleep (192 + q) == 3 && s.quarterIdle q 1

/-- A wake request aborts the entry of a unit into sleep: it goes on running, and the request is counted (R27, R508). A stall's idle time starts anew. -/
def State.abortEntry (s : State) (u : SleepUnit) : State :=
  let s1 := s.bump WDN_WAKE_CNT.V
  match u with
  | .stall r p => s1.modStall (stallId r p) fun st => { st with lastUsed := s.now }
  | _ => s1

/-- WAKE_REQUEST (R24, R27, R488): the warden latches the request of a sleeping unit; a stall's wake also wakes its row, a row's its quarter. A unit that is entering sleep stays awake. -/
def execWakeRequest (u : SleepUnit) (s : State) : Result :=
  if s.wakeOk u then
    if s.entering u then .next (s.abortEntry u) else
    match u with
    | .stall r p => .next (s.wakeStallReq (stallId r p))
    | .row r => .next (s.wakeRowReq r)
    | .quarter q => .next (s.wakeUnit (192 + q))
  else .next s

/-- CLOCK_GATED_ENTRY (R487): with SLEEP_EN = 1, an idle unit is clock-gated; a row stops its PLL. -/
def execClockGatedEntry (u : SleepUnit) (s : State) : Result :=
  if !(unitOk u && s.on WDN_CTL.SLEEP_EN) then .next s else
    match u with
    | .stall r p =>
      let sid := stallId r p
      if s.stallIdle sid then .next { s.setStState sid stGated with gatedAt := FMap.set 0 s.gatedAt sid (s.now + 1) } else .next s
    | .row r =>
      if FMap.get 0 s.sleep r = 3 ∧ s.rowIdle r then
        .next { s with sleep := FMap.set 0 s.sleep r 1, gatedAt := FMap.set 0 s.gatedAt (12288 + r) (s.now + 1) }
      else .next s
    | .quarter q =>
      if FMap.get 0 s.sleep (192 + q) = 3 ∧ s.quarterIdle q 1 then
        .next { s.setHouses q 1 0 with sleep := FMap.set 0 s.sleep (192 + q) 1, gatedAt := FMap.set 0 s.gatedAt (12480 + q) (s.now + 1) }
      else .next s

/-- The unit has been clock-gated for BIAS_IDLE ms (R487). -/
def State.longGated (s : State) (u : SleepUnit) : Bool :=
  let t := FMap.get 0 s.gatedAt (unitKey u)
  s.on WDN_CTL.SLEEP_EN && t != 0 && decide (t - 1 + 25000 * s.rd WDN_SLEEP_CTL.BIAS_IDLE ≤ s.now)

/-- BIAS_OFF_ENTRY (R25, R487, R491): a stall clock-gated long enough and drained, or drained because its row is out of service; a row whose every stall is in bias-off; a quarter whose every row is. -/
def execBiasOffEntry (u : SleepUnit) (s : State) : Result :=
  if !unitOk u then .next s else
    match u with
    | .stall r p =>
      let sid := stallId r p
      if (s.stState sid = stGated ∧ s.longGated u ∧ s.stallEmpty sid) ∨ (s.warden.outRows.contains r ∧ s.stallEmpty sid) then .next (s.stallBiasOff sid)
      else .next s
    | .row r =>
      if FMap.get 0 s.sleep r = 1 ∧ s.longGated u ∧ (List.range 33).all (fun p => s.stState (stallId r p) == stBiasOff) then .next (s.rowBiasOff r)
      else .next s
    | .quarter q =>
      if s.on WDN_CTL.SLEEP_EN ∧ (FMap.get 0 s.sleep (192 + q) = 3 ∨ FMap.get 0 s.sleep (192 + q) = 1) ∧ s.quarterIdle q 0 then .next (s.quarterBiasOff q)
      else .next s

/-- With SLEEP_EN = 0, sleeping units are woken (R487). -/
def State.wakeAll (s : State) : State :=
  (List.range 192).foldl (fun s r =>
    (List.range 33).foldl (fun s p => if s.wakeOk (.stall r p) then s.wakeStallReq (stallId r p) else s)
      (if s.wakeOk (.row r) then s.wakeRowReq r else s)) s

end Sys2Proof.Machine
end

