-- ==== Sys2Proof/Machine/WardenOps.lean ====
section
/-! DEFINITION. What the warden does with what it reads: validity of sensors, thermal levels and duties, the trip logic, PMBus polls and the power duty (R489 to R502). -/

namespace Sys2Proof.Machine

/-- A reading: its temperature when it is valid (R491). -/
def validTemp (t : Int × Bool) : Option Int := if t.2 && decide (-400 ≤ t.1 ∧ t.1 ≤ 1500) then some t.1 else none

/-- The reading of sensor k; a chain that returns fewer words leaves the rest invalid. -/
def readingOf (temps : List (Int × Bool)) (k : Nat) : Option Int := (temps[k]?).bind validTemp

/-- The two sensors of row k, or of Square pair k − 192 (R490). -/
def sensorPair (k : Nat) : Nat × Nat := if k < 192 then (2 * k, 2 * k + 1) else (384 + (k - 192), 392 + (k - 192))

/-- The row or Square pair of a sensor. -/
def pairOf (n : Nat) : Nat := if n < 384 then n / 2 else 192 + (n - 384) % 8

/-- Every reading of a chain read is recorded (R490, R510). -/
def State.recordTemps (s : State) (temps : List (Int × Bool)) : State :=
  let s1 := (List.range 400).foldl (fun s k =>
    match readingOf temps k with
    | some t => (s.wr WDN_THERM_DATA.VALID k 1).wr WDN_THERM_DATA.TEMP k (patternOf 16 t)
    | none => s.wr WDN_THERM_DATA.VALID k 0) s
  let hot := (List.range 400).foldl (fun (best : Option (Int × Nat)) k =>
    match readingOf temps k, best with
    | some t, some b => if b.1 < t then some (t, k) else best
    | some t, none => some (t, k)
    | none, _ => best) none
  match hot with
  | some (t, k) => (s1.wr WDN_THERM_MAX.TEMP 0 (patternOf 16 t)).wr WDN_THERM_MAX.SENSOR 0 k
  | none => s1

/-- A sensor failed (R491, R547): flag, source 218, fault log; a row goes out of service, its stalls draining. -/
def State.sensorFailed (s : State) (k : Nat) : State :=
  let s1 := (((((s.wr WDN_THERM_DATA.FAILED k 1).wr WDN_ERR.SENSOR_NO 0 k).wr WDN_ERR.SENSOR 0 1).wdnMark WDN_ERR.SENSOR).raise 218)
  if k < 384 then
    let r := k / 2
    let s2 := s1.faultLog 11 2 (quarterOf r) r 63
    if s2.warden.outRows.contains r then s2
    else
      let s3 := (List.range 33).foldl (fun s p => s.drainReq (stallId r p) .heat) s2
      { s3 with warden := { s3.warden with outRows := s3.warden.outRows ++ [r] } }
  else s1.faultLog 11 0 0 0 63

/-- Consecutive invalid readings of every sensor; two in a row fail it (R491). -/
def State.judgeSensors (s : State) (temps : List (Int × Bool)) : State :=
  (List.range 400).foldl (fun s k =>
    let n := if (readingOf temps k).isSome then 0 else min 2 (FMap.get 0 s.warden.bad k + 1)
    let s1 := { s with warden := { s.warden with bad := FMap.set 0 s.warden.bad k n } }
    if n = 2 ∧ ¬ s1.on WDN_THERM_DATA.FAILED k then s1.sensorFailed k else s1) s

/-- Two valid sensors of a row or pair that differ by more than 8 °C for 4 rounds set CHAIN (R491). -/
def State.judgeChains (s : State) (temps : List (Int × Bool)) : State :=
  (List.range 200).foldl (fun s k =>
    let (a, b) := sensorPair k
    let far := match readingOf temps a, readingOf temps b with
      | some x, some y => decide (80 < (x - y).natAbs)
      | _, _ => false
    let n := if far then min 4 (FMap.get 0 s.warden.apart k + 1) else 0
    let s1 := { s with warden := { s.warden with apart := FMap.set 0 s.warden.apart k n } }
    if n = 4 then (s1.wr WDN_ERR.SENSOR_NO 0 a).wdnFlag WDN_ERR.CHAIN else s1) s

/-- A row out of service returns after 16 rounds in which both its sensors read valid and within 8 °C of each other (R491). -/
def State.judgeRows (s : State) (temps : List (Int × Bool)) : State :=
  s.warden.outRows.foldl (fun s r =>
    let near := match readingOf temps (2 * r), readingOf temps (2 * r + 1) with
      | some x, some y => decide ((x - y).natAbs ≤ 80)
      | _, _ => false
    let n := if near then FMap.get 0 s.warden.good r + 1 else 0
    if n = 16 then
      let s1 := { s with warden := { s.warden with good := FMap.set 0 s.warden.good r 0, outRows := s.warden.outRows.erase r } }
      let s2 := (s1.wr WDN_THERM_DATA.FAILED (2 * r) 0).wr WDN_THERM_DATA.FAILED (2 * r + 1) 0
      (List.range 33).foldl (fun s p => s.drainRel (stallId r p) .heat) s2
    else { s with warden := { s.warden with good := FMap.set 0 s.warden.good r n } }) s

/-- The temperature of a row from its valid readings (R492). -/
def rowReading (temps : List (Int × Bool)) (r : Nat) : Option Int :=
  match readingOf temps (2 * r), readingOf temps (2 * r + 1) with
  | some x, some y => some (max x y)
  | some x, none => some x
  | none, o => o

/-- The temperature of a Square pair as it is judged: 10 °C higher when one of its sensors is failed (R491). -/
def State.pairReading (s : State) (temps : List (Int × Bool)) (p : Nat) : Option Int :=
  let use (k : Nat) : Option Int := if s.on WDN_THERM_DATA.FAILED k then none else readingOf temps k
  let up : Int := if s.on WDN_THERM_DATA.FAILED (384 + p) || s.on WDN_THERM_DATA.FAILED (392 + p) then 100 else 0
  match use (384 + p), use (392 + p) with
  | some x, some y => some (max x y + up)
  | some x, none => some (x + up)
  | none, some y => some (y + up)
  | none, none => none

/-- The Square's temperature: the highest of its pairs (R492). -/
def State.squareReading (s : State) (temps : List (Int × Bool)) : Option Int :=
  (List.range 8).foldl (fun best p =>
    match best, s.pairReading temps p with
    | some b, some t => some (max b t)
    | none, o => o
    | b, none => b) none

/-- The level that follows a level at a temperature (R492); Shutdown stays until a restart. -/
def nextLevel (old : Nat) (t : Int) : Nat :=
  if old = 3 ∨ 1150 ≤ t then 3
  else if 1050 ≤ t ∨ (2 ≤ old ∧ 1000 ≤ t) then 2
  else if 950 ≤ t ∨ (1 ≤ old ∧ 900 ≤ t) then 1
  else 0

/-- The duty that follows a duty (R493). -/
def nextDuty (old n : Nat) (t : Int) : Nat :=
  if 1050 ≤ t then (if old < 2 then max n 4 else min 15 (n + 1))
  else if t < 1000 then n - 1
  else n

/-- Level and duty of a row (key 0–191) or of the Square (key 192). -/
def State.judgeHeat (s : State) (key : Nat) (t : Option Int) : State :=
  match t with
  | none => s
  | some t =>
    let old := FMap.get 0 s.level key
    let new := nextLevel old t
    let n := if s.on WDN_CTL.THR_EN then nextDuty old (if key < 192 then FMap.get 0 s.duty key else s.rd WDN_STAT.SDUTY) t else 0
    let s1 := { s with level := FMap.set 0 s.level key new }
    let s2 := if key < 192 then { s1 with duty := FMap.set 0 s1.duty key n } else s1.wr WDN_STAT.SDUTY 0 n
    if old = 0 ∧ new ≠ 0 then s2.raise 218 else s2

/-- THERM shows the highest level while the device neither stops nor has stopped (R510). -/
def State.showTherm (s : State) : State :=
  if 3 ≤ s.rd WDN_STAT.THERM then s else s.wr WDN_STAT.THERM 0 (min 2 ((s.level.map fun e => e.2).foldl max 0))

/-- Every level and duty of a round. -/
def State.judgeLevels (s : State) (temps : List (Int × Bool)) : State :=
  let s1 := (List.range 192).foldl (fun s r => s.judgeHeat r (rowReading temps r)) s
  (s1.judgeHeat 192 (s1.squareReading temps)).showTherm

/-- An orderly stop is due (R491, R495): a valid sensor at 115 °C or above, a Square pair judged so, or both sensors of a pair failed. -/
def State.stopDue (s : State) (temps : List (Int × Bool)) : Bool :=
  (List.range 400).any (fun k => (readingOf temps k).any fun t => decide (1150 ≤ t))
    || (List.range 8).any fun p => (s.pairReading temps p).any (fun t => decide (1150 ≤ t))
      || (s.on WDN_THERM_DATA.FAILED (384 + p) && s.on WDN_THERM_DATA.FAILED (392 + p))

/-- A reading at or above 120 °C trips its chain (R496). -/
def tripDue (temps : List (Int × Bool)) : Bool := (List.range 400).any fun k => (readingOf temps k).any fun t => decide (1200 ≤ t)

/-- What trips during STOPPING beside that (R496): a reading more than 3 °C above that sensor's at s0, or both sensors of a row or pair invalid. -/
def State.stoppingTrip (s : State) (temps : List (Int × Bool)) : Bool :=
  (List.range 400).any (fun k => (readingOf temps k).any fun t => decide (FMap.get 0 s.warden.stopTemps k + 30 < t))
    || (List.range 200).any fun k => (readingOf temps (sensorPair k).1).isNone && (readingOf temps (sensorPair k).2).isNone

/-- RESTART_OK (R498): STOPPED, and every valid sensor below 85 °C. -/
def State.judgeRestart (s : State) (temps : List (Int × Bool)) : State :=
  if s.rd WDN_STAT.THERM = 4 then
    s.wr WDN_STAT.RESTART_OK 0 (ofBool ((List.range 400).all fun k => (readingOf temps k).all fun t => decide (t < 850)))
  else s

/-- What a round's temperature does to calibration (R469). -/
def State.judgeCal (s : State) (row : Nat) : State :=
  let t := s.rowTemp row
  let s1 := if 5 * s.rd CAL_CTL.TSTEP < 2 * (t - (s.row row).tref).natAbs then s.reestimate row else s
  (List.range 33).foldl (fun s p =>
    let sid := stallId row p
    if FMap.get 0 s.cal.commitAt sid ≠ 0 ∧ 10 * s.rd CAL_CTL.TRUN < (t - FMap.get 0 s.cal.commitT sid).natAbs then s.queueCal sid else s) s1

/-- Temperatures of stacks and tier-2 parts: above 85 °C the refresh rate doubles (R400). -/
def State.memTemps (s : State) (stackTemps : List Int) (hot : List Nat) : State :=
  let s1 := (stackTemps.zipIdx.take 20).foldl (fun s (p : Int × Nat) =>
    let s1 := s.wr MEM_UNIT_STAT.TEMP p.2 (patternOf 16 p.1)
    if 850 < p.1 then s1.memFlag MEM_ERR.HOT p.2 else s1) s
  hot.foldl (fun s c => if c < 16 then s.memFlag MEM_ERR.HOT (20 + c) else s) s1

/-! ### PMBus (R499 to R502) -/

/-- STATUS_WORD reports an output, input, temperature or power-good fault (R501); the bits are those of the PMBus specification (log entry 26). -/
def statusFault (w : Nat) : Bool := [15, 14, 13, 11, 5, 4, 3, 2].any fun b => bitAt w b

/-- One transaction with a regulator: a failure is counted, and the third in a row faults it (R501). -/
def State.transact (s : State) (v : Nat) (ok : Bool) : State :=
  if ok then { s with warden := { s.warden with pmbFails := FMap.set 0 s.warden.pmbFails v 0 } }
  else
    let n := FMap.get 0 s.warden.pmbFails v + 1
    let s1 := { s with warden := { s.warden with pmbFails := FMap.set 0 s.warden.pmbFails v n } }
    let s2 := ((s1.bump WDN_PMB_ERR_CNT.V).wr WDN_ERR.VR_NO 0 v).wdnFlag WDN_ERR.PMB
    if 3 ≤ n then s2.railFault v else s2

/-- A regulator's poll: at 400 kHz, even-numbered regulators in even rounds and odd ones in odd rounds (R501). -/
def State.poll (s : State) (p : Poll) : State :=
  if !(decide (p.vr < 16) && s.on WDN_VR_CFG.EN p.vr) || (s.charter.pmbusSlow && p.vr % 2 != s.rd WDN_ROUND.V % 2) then s else
    let s1 := s.transact p.vr p.okV
    let s2 := if p.okV then s1.wr WDN_VR_STAT.VOUT p.vr p.vout else s1
    let s3 := s2.transact p.vr p.okI
    let s4 := if p.okI then s3.wr WDN_VR_STAT.IOUT p.vr p.iout else s3
    let s5 := s4.transact p.vr p.okS
    if p.okS then
      let s6 := s5.wr WDN_VR_STAT.STATUS p.vr p.status
      if statusFault p.status then s6.railFault p.vr else s6
    else s5

/-- The package power in units of 0.1 mW: the sum of READ_VOUT × READ_IOUT over the enabled regulators (R499). -/
def State.power (s : State) : Nat :=
  ((List.range 16).map fun v => if s.on WDN_VR_CFG.EN v then s.rd WDN_VR_STAT.VOUT v * s.rd WDN_VR_STAT.IOUT v else 0).sum

/-- The power duty against CAP and HYST (R499). -/
def State.judgePower (s : State) : State :=
  let p := s.power
  let cap := s.rd WDN_PCAP.CAP
  let m := s.rd WDN_STAT.PDUTY
  let m' := if !s.on WDN_CTL.PCAP_EN then 0
    else if 10000 * cap < p then min 15 (m + 1)
    else if p < 10000 * (cap - s.rd WDN_PCAP.HYST) then m - 1
    else m
  (s.wr WDN_STAT.POWER 0 (min (p / 10000) 65535)).wr WDN_STAT.PDUTY 0 m'

/-- The VOUT_COMMANDs written since the last round are sent (R502). -/
def State.sendVset (s : State) : State :=
  let s1 := s.warden.vset.foldl (fun s (e : Nat × Nat) => s.pmbus e.1 0x21 e.2) s
  { s1 with warden := { s1.warden with vset := [] } }

/-! ### The monitor converter (R503 to R507) -/

/-- A reserved channel converts as 0 (R507). -/
def monReserved (c : Nat) : Bool := (decide (24 ≤ c) && decide (c ≤ 55)) || decide (60 ≤ c)

/-- Low-power mode: selected, or every quarter is in bias-off (R503). -/
def State.monLow (s : State) : Bool := s.on WDN_MON_CTL.LP || (List.range 4).all fun q => FMap.get 0 s.sleep (192 + q) == 0

/-- The conversions of a pass on the scan path: each channel of the mask in ascending number, on alternating slices, slice 0 alone in low-power mode. -/
def State.scanPass (s : State) (lp : Bool) : List MonConv :=
  let cs := (List.range 64).filter fun c => bitAt (s.rd WDN_MON_SCAN.MASK) c
  cs.zipIdx.map fun (e : Nat × Nat) => ⟨e.1, if lp then 0 else e.2 % 2, 0, none⟩

/-- The conversions of a pass on the main path (R504, R505). -/
def State.seqPass (s : State) (lp : Bool) (len : Nat) : List MonConv :=
  (List.range len).map fun k =>
    if s.on WDN_SEQ.SIM k && !lp then ⟨s.rd WDN_SEQ.CH k, 0, k, some (s.rd WDN_SEQ.CH2 k)⟩
    else ⟨s.rd WDN_SEQ.CH k, if lp then 0 else k % 2, k, none⟩

/-- A pass starts, unless one is running (R503): with LEN = 0 or a reserved channel in an entry, the scan path serves and SEQ is flagged (R504); a SIM entry in low-power mode is flagged too (R505). -/
def State.startPass (s : State) : State :=
  if !s.warden.pass.isEmpty then s else
    let lp := s.monLow
    let len := s.rd WDN_MON_CTL.LEN
    let bad := len == 0 || (List.range len).any fun k =>
      monReserved (s.rd WDN_SEQ.CH k) || (s.on WDN_SEQ.SIM k && monReserved (s.rd WDN_SEQ.CH2 k))
    let s1 := s.wr WDN_STAT.MON_LP 0 (ofBool lp)
    if s.on WDN_MON_CTL.MODE then { s1 with warden := { s1.warden with pass := s1.scanPass lp } }
    else if bad then
      let s2 := s1.wdnFlag WDN_ERR.SEQ
      { s2 with warden := { s2.warden with pass := s2.scanPass lp } }
    else
      let s2 := if lp && (List.range len).any (fun k => s.on WDN_SEQ.SIM k) then s1.wdnFlag WDN_ERR.SEQ else s1
      { s2 with warden := { s2.warden with pass := s2.seqPass lp len } }

/-! ### Restart rails (R561) -/

/-- The monitor channel on which a rail that a restart turns on is read: those of the quarters at 0 to 7, VDD_STK (rail 9) at 18 (R557). -/
def railChannel (rail : Nat) : Nat := if rail < 8 then rail else 18

/-- The restart goes on to the next rail, whose OPERATION on is sent; after the last, the device may start (R561). -/
def State.nextRail (s : State) : State :=
  let rest := s.warden.rails.drop 1
  let s1 := { s with warden := { s.warden with rails := rest, railAt := s.now } }
  match rest with
  | v :: _ => s1.pmbus v 1 0x80
  | [] => s1

end Sys2Proof.Machine
end

