-- ==== Sys2Proof/Machine/Warden.lean ====
section
/-! DEFINITION. The warden's commands: slow rounds, stops and trips, regulators, the monitor converter and the watchdog (R489 to R508, R542 to R545, R561, R564). -/

namespace Sys2Proof.Machine

/-! ### Rounds and chain reads -/

/-- WARDEN_ROUND (R489): a slow round of 51,200 CLK_AO cycles ends. Its chain reads are judged, temperatures reach calibration and memory, the regulators are polled, power is capped, set-points are sent, a monitor pass starts with TRIG = 0, and source 220 is raised. -/
def execWardenRound (r : RoundIn) (s : State) : Result :=
  if !s.boot.powered || s.warden.clkLost || decide (s.now < s.warden.roundAt + 51200) then .next s else
    let s1 := ((s.recordTemps r.temps).judgeSensors r.temps).judgeChains r.temps
    let s2 := ((s1.judgeRows r.temps).judgeLevels r.temps).judgeStock
    let s3 := if tripDue r.temps || (s2.rd WDN_STAT.THERM == 3 && s2.stoppingTrip r.temps) then s2.thermTrip else if s2.stopDue r.temps then s2.orderlyStop else s2
    let s4 := (s3.judgeRestart r.temps).memTemps r.stackTemps r.hot
    let s5 := if s4.boot.held then s4 else (List.range 192).foldl State.judgeCal s4
    let s6 := (r.polls.foldl State.poll s5).judgePower.sendVset
    let s7 := if s6.rd WDN_MON_CTL.TRIG = 0 then s6.startPass else s6
    let s8 := { s7 with warden := { s7.warden with roundAt := s7.warden.roundAt + 51200, chainAt := s7.warden.roundAt + 51200 } }
    .next ((s8.bump WDN_ROUND.V).raise 220)

/-- STOPPING_CHAIN_READ (R495, R496): during STOPPING both chains read back to back, every 3,328 cycles. -/
def execStoppingChainRead (temps : List (Int × Bool)) (s : State) : Result :=
  if s.rd WDN_STAT.THERM = 3 ∧ s.warden.chainAt + 3328 ≤ s.now then
    let s1 := (({ s with warden := { s.warden with chainAt := s.now } } : State).recordTemps temps)
    .next (if tripDue temps || s1.stoppingTrip temps then s1.thermTrip else s1)
  else .next s

/-- TRIP_COUNTER_EXPIRY (R542): 204,800 cycles have passed since the last chain read started. -/
def execTripCounterExpiry (s : State) : Result :=
  if s.boot.powered ∧ s.warden.chainAt + 204800 ≤ s.now then .next s.thermTrip else .next s

/-- ORDERLY_STOP_COMPLETE (R495, R496): at s0 + 125,000 every row and quarter is in bias-off, stacks and tier-2 channels are in self-refresh, the regulators of steps 5 were sent OPERATION off; `acked` says whether each acknowledged. If so THERM becomes STOPPED, else THERMTRIP_N asserts. -/
def execOrderlyStopComplete (acked : Bool) (s : State) : Result :=
  match s.warden.stopAt with
  | none => .next s
  | some t =>
    if s.rd WDN_STAT.THERM ≠ 3 ∨ s.now < t + 125000 then .next s else
      let s1 := (List.range 4).foldl State.quarterDown s
      let s2 := (List.range 16).foldl (fun s c => if s.rd MEM_UNIT_STAT.STATE (20 + c) = 2 then s.setMemUnit (20 + c) 3 else s) s1
      let s3 := (s2.regsOf [0, 1, 2, 3, 4, 5, 6, 7, 9]).foldl (fun s v => s.pmbus v 1 0) s2
      if acked then .next ({ s3 with warden := { s3.warden with stopAt := none } }.wr WDN_STAT.THERM 0 4) else .next s3.thermTrip

/-- CLK_AO_LOSS (R564): the trip logic asserts FAULT_N and THERMTRIP_N; THERM is TRIPPED. -/
def execClkAoLoss (s : State) : Result :=
  if s.boot.powered then
    .next ({ s with warden := { s.warden with clkLost := true, clkFault := true, trip := true, stopAt := none } }.wr WDN_STAT.THERM 0 5)
  else .next s

/-- CLK_AO_RETURN (R564, R496): fault code 2 is written, and the warden sends OPERATION off to every regulator. -/
def execClkAoReturn (s : State) : Result :=
  if s.warden.clkLost then
    let s1 := { s with warden := { s.warden with clkLost := false } }.faultLog 2 0 0 0 63
    .next ((s1.regsOf (List.range 16)).foldl (fun s v => s.pmbus v 1 0) s1)
  else .next s

/-! ### Regulators -/

/-- VSET_WRITE (R502): a set-point within the selected regulator's window is sent in the next round; another is ignored and flagged. -/
def execVsetWrite (who : Who) (val : Nat) (s : State) : Result :=
  .next (s.adminWrite who WDN_VR_VSET fun s =>
    let v := s.rd WDN_VR_SEL.VR
    let mv := val % 65536
    if s.rd WDN_VR_CFG.VMIN v ≤ mv ∧ mv ≤ s.rd WDN_VR_CFG.VMAX v then
      let s1 := s.wr WDN_VR_VSET.MV v mv
      if s.on WDN_VR_CFG.EN v then { s1 with warden := { s1.warden with vset := s1.warden.vset ++ [(v, mv)] } } else s1
    else (s.wr WDN_ERR.VR_NO 0 v).wdnFlag WDN_ERR.VSET)

/-- RESTART_RAIL_TIMEOUT (R561): a rail not within tolerance 500,000 cycles after its command counts as a faulted regulator, and the restart goes on. -/
def execRestartRailTimeout (s : State) : Result :=
  match s.warden.rails with
  | v :: _ => if s.warden.railAt + 500000 ≤ s.now then .next ((s.railFault v).nextRail) else .next s
  | [] => .next s

/-! ### The monitor converter -/

/-- MONITOR_PASS_START (R503): WDN_MON_CMD with GO = 1, which acts with TRIG = 2. -/
def execMonitorPassStart (who : Who) (s : State) : Result :=
  .next (s.adminWrite who WDN_MON_CMD fun s => if s.rd WDN_MON_CTL.TRIG = 2 then s.startPass else s)

/-- One entry of the result file. -/
def State.monResult (s : State) (ch code : Nat) : State :=
  (s.wr WDN_MON_CH.CODE ch (if monReserved ch then 0 else code)).wr WDN_MON_CH.VALID ch 1

/-- MONITOR_RESULT (R505, R506, R561): the next conversion of the pass ends, with its code, the code of CH2 when two channels are sampled together, and whether the rail on each of the two reads within tolerance. VDD_STK out of its tolerance stops stocking, unless a restart is still bringing the rails up, and no job starts until it reads within it (R179). -/
def execMonitorResult (code code2 : Nat) (inTol : Bool × Bool) (s : State) : Result :=
  match s.warden.pass with
  | [] => .next s
  | c :: rest =>
    let s1 := ({ s with warden := { s.warden with pass := rest } } : State).monResult c.ch code
    let s2 := match c.sim with
      | some ch2 => s1.monResult ch2 code2
      | none => s1
    let s2 : State := if s2.sameCycle WDN_MON_DATA then s2 else
      { s2 with warden := { s2.warden with monAt := s2.now + 1, monPrev := s2.getReg WDN_MON_DATA 0 } }
    let s3 := if s2.on WDN_MON_DATA.VALID then (s2.bump WDN_MON_OVR_CNT.V).wdnFlag WDN_ERR.MON_OVR else s2
    let ch2 := c.sim.getD 0
    let s4 := (((s3.wr WDN_MON_DATA.CODE 0 (if monReserved c.ch then 0 else code)).wr WDN_MON_DATA.CH 0 c.ch).wr WDN_MON_DATA.SLICE 0 c.slice).wr WDN_MON_DATA.ENTRY 0 c.entry
    let s5 := ((s4.wr WDN_MON_DATA.SIM 0 (ofBool c.sim.isSome)).wr WDN_MON_DATA.CODE2 0 (if c.sim.isNone || monReserved ch2 then 0 else code2)).wr WDN_MON_DATA.CH2 0 ch2
    let s6 := s5.wr WDN_MON_DATA.VALID 0 1
    let read := (c.ch, inTol.1) :: (c.sim.map fun ch2 => (ch2, inTol.2)).toList
    let stk := read.find? fun x => x.1 == railChannel 9
    let s6 : State := { s6 with warden := { s6.warden with stkOut := (stk.map fun x => !x.2).getD s6.warden.stkOut } }
    let s7 : State := match s6.warden.rails with
      | v :: _ => if read.any fun x => x.2 && x.1 == railChannel (s6.rd WDN_VR_CFG.RAIL v) then s6.nextRail else s6
      | [] => if stk.any fun x => !x.2 then s6.stockRail else s6
    .next (if rest.isEmpty ∧ s7.rd WDN_MON_CTL.TRIG = 1 then s7.startPass else s7)

/-- WDN_MON_DATA_READ (R506, R8): the latest result is returned and VALID clears; a virtual function's read is an access error. -/
def execWdnMonDataRead (who : Who) (s : State) : Result :=
  if !s.memOpen who then .next s
  else match who with
    | .func f => if f = 0 then .next ((s.accessed who (Block.wdn.base + WDN_MON_DATA.off)).readClear who WDN_MON_DATA 0)
      else .next ((s.accessed who (Block.wdn.base + WDN_MON_DATA.off)).accessError who 0 (Block.wdn.base + WDN_MON_DATA.off) false)
    | _ => .next ((s.accessed who (Block.wdn.base + WDN_MON_DATA.off)).readClear who WDN_MON_DATA 0)

/-! ### Watchdog and bridges (R543, R545) -/

/-- The watchdog counts: the device is neither held in reset nor in RECOVERY, TEST or FAULT (R548). -/
def State.dogRuns (s : State) : Bool :=
  !s.boot.held && s.boot.begun && decide (s.rd WDN_RST_CAUSE.STATE ≤ 1) && s.rd WDN_WDOG.PERIOD != 0

/-- WATCHDOG_KICK (R543): a write of WDN_WDOG. KICK = 1 restarts the count; PERIOD takes the value written, but 0 only from the physical function. -/
def State.writeDog (s : State) (who : Who) (val : Nat) : State :=
  let p := val % 256
  let s1 := if p ≠ 0 ∨ who = .func 0 then s.wr WDN_WDOG.PERIOD 0 p else s
  if bitAt val 31 then { s1 with warden := { s1.warden with kickRound := s1.rd WDN_ROUND.V } } else s1

/-- A write of a reset register (R549): from a clerk, the physical function or I3C it acts; a virtual function's is an access error. -/
def State.resetWrite (s : State) (who : Who) (r : Reg) (f : State → State) : State :=
  if !s.memOpen who then s
  else match who with
    | .func n => if n = 0 then f (s.accessed who (r.blk.base + r.off)) else (s.accessed who (r.blk.base + r.off)).accessError who 0 (r.blk.base + r.off) true
    | _ => f (s.accessed who (r.blk.base + r.off))

/-- WATCHDOG_KICK (R543): a write of WDN_WDOG with KICK = 1. -/
def execWatchdogKick (who : Who) (val : Nat) (s : State) : Result :=
  .next (s.resetWrite who WDN_WDOG fun s => s.writeDog who (val % 2 ^ 31 + 2 ^ 31))

/-- WATCHDOG_EXPIRY (R543): PERIOD rounds have passed without a kick; device FAULT with fault code 4. -/
def execWatchdogExpiry (s : State) : Result :=
  if s.dogRuns ∧ s.warden.kickRound + s.rd WDN_WDOG.PERIOD ≤ s.rd WDN_ROUND.V then .next (s.deviceFault 4) else .next s

/-- BRIDGE_FLIT_FAILURE (R545): a flit is resent by link-level retry; one that fails 8 resends puts the device in FAULT with code 6. -/
def execBridgeFlitFailure (resends : Nat) (s : State) : Result :=
  if 8 ≤ resends ∧ s.rd WDN_RST_CAUSE.STATE = 1 then .next (s.deviceFault 6) else .next s

end Sys2Proof.Machine
end

