-- ==== Sys2Proof/Machine/Reset.lean ====
section
/-! DEFINITION. Resets of every scope (R529 to R532, R540, R548, R585): cold power-on, device reset, and the reset of a quarter, row or stall. -/

namespace Sys2Proof.Machine

/-! ### Device reset and cold power-on -/

/-- The block of a register file key. -/
def regBlock (key : Nat) : Nat := key / 2 ^ 29

/-- The fused fields of SEC_STAT (R511, R530): OWNED, CH_SVN and FW_SVN. -/
def fusedStat (w : Word64) : Word64 :=
  SEC_STAT.OWNED.put (SEC_STAT.CH_SVN.put (SEC_STAT.FW_SVN.put SEC_STAT.reset (SEC_STAT.FW_SVN.of w)) (SEC_STAT.CH_SVN.of w)) (SEC_STAT.OWNED.of w)

/-- What no reset of any scope changes (R530), the fault log and WDN_COLD_CNT aside: fuses, stock crates with their journal and image table, the repair log, the retire lists, the certificate slots; beside them the model's own queue, free values and record of what has left the device. -/
def State.nonVolatile (s : State) : State :=
  ({ State.reset with
    pending := s.pending, free := s.free, outbox := s.outbox, journal := s.journal, digests := s.digests, images := s.images,
    mem := { MemState.init with retired := s.mem.retired }, cal := { CalState.init with log := s.cal.log, fuses := s.cal.fuses },
    sec := { SecState.init with certs := s.sec.certs } } : State).setReg SEC_STAT 0 (fusedStat (s.getReg SEC_STAT 0))

/-- Device reset (R529, R530): every domain but the warden's returns to its reset values, and the device waits for r0. A unit stopped by a rail fault returns (R501); FAULT_N is released (R546). -/
def State.deviceReset (s : State) (cause : Nat) : State :=
  let s0 := s.nonVolatile
  let s1 : State := { s0 with
    now := s.now, regs := (s.regs.filter fun e => regBlock e.1 == Block.wdn.code).foldl (fun m e => FMap.put m e.1 e.2) s0.regs,
    warden := { s.warden with offQuarters := [], clkFault := false, pllOff := false, pllWake := none }, duty := s.duty, level := s.level,
    boot := { Boot.init with powered := s.boot.powered, held := true } }
  let s2 := (List.range 16).foldl (fun s v => s.wr WDN_VR_STAT.FAULT v 0) s1
  ((s2.wr WDN_RST_CAUSE.CAUSE 0 cause).wr WDN_RST_CAUSE.STATE 0 0).bump WDN_RST_CAUSE.RESETS

/-- The registers of the warden block that are not volatile (R530): the fault log and WDN_COLD_CNT. -/
def logKey (key : Nat) : Bool :=
  regBlock key == Block.wdn.code && [WDN_FLOG_DATA, WDN_FLOG_HEAD, WDN_COLD_CNT].any fun r => r.key 0 / 2 ^ 16 == key / 2 ^ 16

/-- VDD_AO is gone: nothing but non-volatile state is left. -/
def State.powerLost (s : State) : State :=
  let s0 := s.nonVolatile
  { s0 with
    regs := (s.regs.filter fun e => logKey e.1).foldl (fun m e => FMap.put m e.1 e.2) s0.regs
    boot := { Boot.init with powered := false } }

/-- VDD_AO_LOSS (R496): VDD_AO is removed: THERMTRIP_N is released, and every state ends until the next cold power-on. -/
def execVddAoLoss (s : State) : Result := if s.boot.powered then .next s.powerLost else .next s

/-- COLD_POWER_ON (R529): VDD_AO rises. Everything volatile is reset, the warden domain included; WDN_COLD_CNT advances. -/
def execColdPowerOn (s : State) : Result :=
  if s.boot.powered then .next s
  else .next (({ s.powerLost with boot := Boot.init } : State).bumpSat WDN_COLD_CNT.COUNT)

/-- PERST_N_FALL (R529): device reset by PERST_N. -/
def execPerstNFall (s : State) : Result := if s.boot.powered && !s.boot.held then .next (s.deviceReset 1) else .next s

/-- PWR_OK_FALL (R532): device reset by PWR_OK, with no orderly stop. -/
def execPwrOkFall (s : State) : Result := if s.boot.powered && !s.boot.held then .next (s.deviceReset 2) else .next s

/-! ### Commands of WDN_RST_CMD (R549) -/

/-- A reset of any scope is in progress (R548). -/
def State.inAnyReset (s : State) : Bool :=
  s.boot.held || s.boot.reset.isSome || !s.boot.inReset.isEmpty || s.funcs.any fun e => e.2.flrAt.isSome

/-- A write of WDN_RST_CMD: dropped while a reset is in progress (R548). -/
def State.resetCmd (s : State) (who : Who) (f : State → State) : State :=
  s.resetWrite who WDN_RST_CMD fun s => if s.inAnyReset then s else f s

/-- DEVICE_RESET (R529): WDN_RST_CMD with OP = 1. -/
def execDeviceReset (who : Who) (s : State) : Result := .next (s.resetCmd who fun s => s.deviceReset 3)

/-! ### Reset of a quarter, row or stall (R531) -/

/-- The counters of a stall block. -/
def stlCounters : List Reg :=
  [STL_STRIKES, STL_FRESH_STRIKES, STL_WIDE_PAIRS, STL_TRANS_STRIKES, STL_CLIP_CNT, STL_REFUSED_CNT]

/-- The counters of a tally engine block. -/
def talCounters : List Reg :=
  [TAL_OUT_DYN_CNT, TAL_OUT_PASS_CNT, TAL_OUT_FETCH_CNT, TAL_OUT_REQUANT_CNT, TAL_OUT_WIDEN_CNT, TAL_OUT_WIDE_OVF_CNT, TAL_OUT_WAIT_CNT,
    TAL_REF_CLIP_CNT, TAL_STEP_CNT, TAL_NQ_VEC_CNT, TAL_NQ_LIFT_CNT, TAL_NQ_OFF_CNT, TAL_NQ_CARRY_SAT_CNT, TAL_NQ_ETA_CNT,
    TAL_NQ_CLIP_REPLAY_CNT, TAL_NQ_SPLIT_CNT, TAL_NQ_CLIP_FAIL_CNT, TAL_NQ_RANGE_CHG_CNT, TAL_NQ_NONFINITE_CNT, TAL_NQ_STORE_WAIT_CNT,
    TAL_WIDE_START_CNT, TAL_WIDE_STORM_CNT, TAL_ACC_RUN_CNT, TAL_ACC_OVERSIZE_CNT, TAL_ACC_INF_CNT, TAL_ACC_NAN_CNT, TAL_ACC_NONFIN_OUT_CNT,
    TAL_ACC_REFUSED_CNT, TAL_ACC_REORDER_WAIT_CNT, TAL_ACC_DRAIN_CNT]

/-- The counters of a weigh house block. -/
def whCounters : List Reg := [WH_DEC_CNT, WH_PRE_BLK_CNT, WH_PAGE_READ_CNT, WH_MERGE_CNT, WH_STATS_SAVE_CNT, WH_BOUND_CNT]

/-- Every unit of the scope has drained: a stall in SHUTTERED or FAULT has nothing to drain; no position uses its weigh houses. -/
def State.resetClosed (s : State) (u : UnitReset) : Bool :=
  u.stalls.all (fun sid => s.stState sid == stShuttered || s.stState sid == stFault
      || ((s.stall sid).drains.contains .rst && (s.stall sid).drained))
    && u.houses.all fun h => s.countSeqs (fun x => x.wh == h && x.phase != .idle) == 0

/-- The narrow records of the positions that an instance still lacks are kept for the inspector (R584). -/
def State.keepSources (s : State) (i : Inst) : Inst :=
  match (s.genOf i.slot i.gen).bind fun g => g.red i.red with
  | none => i
  | some r =>
    let more := (r.contribs.filter fun c => !i.seen.any fun x => x.1 == c.eighth && x.2.1 == c.ordinal).filterMap fun c =>
      (s.sourceOf i c).map fun (x : Narrow × Feed × Nat) => (c.eighth, c.ordinal, x)
    { i with seen := i.seen ++ more }

/-- Reductions open on the reset units go to the inspector as a whole (R531): those of a row, or those that a stall holds a record for. -/
def State.handOpen (s : State) (row sid : Nat) (p : Inst → Bool) : State :=
  ((s.row row).insts.filter fun i => !i.handed && p i).foldl (fun s i => s.handInst row sid (s.keepSources i)) s

/-- A calibration run of the stall is discarded before its commit, and requeued (R540). -/
def State.calDiscard (s : State) (sid : Nat) : State :=
  if s.calActive sid then (s.calLeave sid (ofBool (s.cal.queue.contains sid))).queueCal sid else s

/-- A test in the scope ends with no result recorded (R540). -/
def State.testDiscard (s : State) (u : UnitReset) : State :=
  match s.cal.testing with
  | some t =>
    if (t.kind = 2 && u.houses.contains t.index) || (t.kind ≠ 2 && t.stalls.any u.covers) then
      let s1 : State := { s with cal := { s.cal with testing := none } }
      t.stalls.foldl (fun s sid => s.modStall sid fun st => { st with drains := st.drains.erase .bst }) (s1.wr BST_STAT.STATE 0 0)
    else s
  | none => s

/-- A stall is reset (R531): trims keep the step in effect; sequencer, queue, hold sets, staging buffer and fresh planes are empty; STL_ counters and STL_ERR return to zero. With the whole row reset, so is what its tally engine and row switch hold for the stall; otherwise held descriptors resume when the stall runs again (R162). -/
def State.resetStall (s : State) (sid : Nat) (whole : Bool) : State :=
  let s0 := (if whole then s else s.loseStrikes sid).loseSram sid
  let s1 := s0.modStall sid fun st =>
    let kept := if whole then Stall.init else
      { Stall.init with held := st.held, waiting := st.waiting, markers := st.markers, passes := st.passes, cache := st.cache,
                        narrow := st.narrow, inflight := st.inflight, planeReq := st.planeReq, reloads := st.reloads }
    { kept with
      mapEff := st.mapEff, trimsNow := st.trimsNow, trimsTo := st.trimsNow, sliceTrim := st.sliceTrim, sliceTo := st.sliceTo, lines := st.lines, rowTrim := st.rowTrim, desig := st.desig,
      csum := st.csum, osram := st.osram, osramBad := st.osramBad, planeCnt := st.planeCnt, laneGrp := st.laneGrp, lane := st.lane, laneCan := st.laneCan, recents := st.recents, probeRot := st.probeRot,
      busyTo := st.busyTo, convTo := st.convTo, transTo := st.transTo, lastUsed := s.now,
      drains := st.drains.filter (fun d => d == .mode || d == .cmd || d == .heat), drained := st.drains.any fun d => d == .mode || d == .cmd || d == .heat }
  let s2 := ((s1.resetRegs (STL_ERR :: stlCounters) sid).wr STL_STAT.TRANS_MODE sid 0).wr STL_STAT.HOLD_SET sid 0
  let s3 := s2.setBusy sid false
  { s3 with jobs := s3.jobs.filter fun j => !whole || j.stall != sid || j.kind == .whole
            cal := { s3.cal with passed := s3.cal.passed.filter fun p => p.1 != sid } }

/-- A row's tally engine and row switch are reset (R531). -/
def State.resetRow (s : State) (row : Nat) : State :=
  let s1 := s.modRow row fun r => { r with bufs := [], cmds := [], stormStep := 0, stormNew := false, attn := [], waiting := [], arrived := 0 }
  (s1.resetRegs ([TAL_COR_ERR, TAL_NQ_ERR, TAL_ACC_ERR, TAL_STORM_MAP, TAL_ACC_STAT] ++ talCounters) row)

/-- A reset unit wakes after `t` cycles (R488, R531); a stall whose place the spare has taken stays in FAULT, and units out of service stay in bias-off. -/
def State.wakeReset (s : State) (u : UnitReset) (t : Nat) : State :=
  let s1 := u.stalls.foldl (fun s sid =>
    if (s.row (rowOf sid)).subst = some (posOf sid) then s.setStState sid stFault
    else if s.noWake (rowOf sid) then s.setStState sid stBiasOff
    else ({ s with wakeAt := FMap.set 0 s.wakeAt sid (s.now + t), gatedAt := FMap.set 0 s.gatedAt sid 0
                   boot := { s.boot with inReset := s.boot.inReset ++ [sid] } } : State).setStState sid stWaking |>.bump WDN_WAKE_CNT.V) s
  let keys := (u.rows.filter fun r => !s.noWake r) ++ (if u.op = 2 && !s.noWake (48 * u.index) then [192 + u.index] else [])
  keys.foldl (fun s k =>
    ({ s with sleep := FMap.set 0 s.sleep k 2, wakeAt := FMap.set 0 s.wakeAt (12288 + k) (s.now + t), gatedAt := FMap.set 0 s.gatedAt (12288 + k) 0
              boot := { s.boot with inReset := s.boot.inReset ++ [12288 + k] } } : State).bump WDN_WAKE_CNT.V) s1

/-- The reset itself, its scope closed (R529, R531, R540). A mode change that has begun to close the scope since aborts. -/
def State.finishReset (s : State) (u : UnitReset) : State :=
  let s0 : State := { s with boot := { s.boot with reset := none } }
  let q := if u.op = 2 then u.index else if u.op = 3 then quarterOf u.index else quarterOf (rowOf u.index)
  let s1 := if s0.modeClosing q then s0.modeAbort else s0
  let s2 := (u.stalls.foldl State.calDiscard s1).testDiscard u
  let s3 := if u.op = 4 then
      let st := s2.stall u.index
      s2.handOpen (rowOf u.index) u.index fun i => (st.narrow ++ st.waiting).any fun n => n.tag == i.tag
    else u.rows.foldl (fun s r => s.handOpen r (stallId r 0) fun _ => true) s2
  let s4 := u.rows.foldl State.resetRow (u.stalls.foldl (fun s sid => s.resetStall sid (u.op ≠ 4)) s3)
  let s5 := u.houses.foldl (fun s h => (s.resetRegs (WH_ERR :: whCounters) h).wr WH_STAT.STATE h 0) s4
  let s6 := if u.op = 2 then (List.range 5).foldl (fun s k =>
      if s.rd MEM_UNIT_STAT.STATE (5 * u.index + k) = 2 ∨ s.rd MEM_UNIT_STAT.STATE (5 * u.index + k) = 3 then
        (s.setMemUnit (5 * u.index + k) 1).bump MEM_TRAIN_CNT.V
      else s) s5
    else s5
  (s6.wakeReset u (if u.op = 2 then 351000 else 50)).nextTest

/-- A waiting reset is made once its scope has closed. -/
def State.tryReset (s : State) : State :=
  match s.boot.reset with
  | some u => if (s.rd MODE_STAT.PHASE = 0 ∨ 4 ≤ s.rd MODE_STAT.PHASE ∨ u.stalls.any (fun sid => (s.stall sid).drains.contains .rst)) ∧ s.resetClosed u then s.finishReset u else s
  | none => s

/-- A reset of a unit is asked for: its scope closes first. -/
def State.beginReset (s : State) (u : UnitReset) : State :=
  (({ s with boot := { s.boot with reset := some u } } : State).resetDrains).tryReset

/-- QUARTER_RESET (R529, R531): WDN_RST_CMD with OP = 2. -/
def execQuarterReset (who : Who) (q : Nat) (s : State) : Result :=
  .next (s.resetCmd who fun s => if q < 4 then s.beginReset ⟨2, q⟩ else s)

/-- ROW_RESET (R529, R531): WDN_RST_CMD with OP = 3; a ROW above 191 does nothing. -/
def execRowReset (who : Who) (row : Nat) (s : State) : Result :=
  .next (s.resetCmd who fun s => if rowOk row then s.beginReset ⟨3, row⟩ else s)

/-- STALL_RESET (R529, R531): WDN_RST_CMD with OP = 4; a ROW above 191 or a STALL above 32 does nothing. -/
def execStallReset (who : Who) (row stall : Nat) (s : State) : Result :=
  .next (s.resetCmd who fun s => if stallOk row stall then s.beginReset ⟨4, stallId row stall⟩ else s)

/-- DRAIN_COMPLETE (R162): the marker of a drained stall leaves output staging; a reset that waited for the drain is made (R531). -/
def execDrainComplete (row stall : Nat) (s : State) : Result :=
  if stallOk row stall then
    .next ((if s.drainDue (stallId row stall) then s.drainDone (stallId row stall) else s).tryReset)
  else .next s

/-! ### Restart (R498, R561) -/

/-- The regulators that a restart turns on again, in the order of R560: VDD_Qn and VDD_ANAn of each quarter, then VDD_STK. -/
def State.restartRails (s : State) : List Nat := [0, 4, 1, 5, 2, 6, 3, 7, 9].flatMap fun r => s.regsOf [r]

/-- A STOPPED device starts anew: OPERATION on goes to the first regulator that was turned off, and start-up follows the last. -/
def State.restart (s : State) : State :=
  let s1 := ((s.deviceReset 4).wr WDN_STAT.THERM 0 0).wr WDN_STAT.RESTART_OK 0 0
  let rails := s1.restartRails
  let s2 : State := { s1 with level := [], warden := { s1.warden with rails := rails, railAt := s1.now, stopTemps := [] } }
  match rails with
  | v :: _ => s2.pmbus v 1 0x80
  | [] => s2

/-- RESTART (R498): WDN_CMD with OP = 1, from the physical function or over I3C; with RESTART_OK = 0 it is ignored and flagged. -/
def execRestart (who : Who) (s : State) : Result :=
  let act (s : State) : State := if s.rd WDN_STAT.THERM = 4 ∧ s.on WDN_STAT.RESTART_OK then s.restart else s.wdnFlag WDN_ERR.RESTART
  match who with
  | .i3c => .next (act (s.accessed who (Block.wdn.base + WDN_CMD.off)))
  | .clerk _ => .next s
  | .func f =>
    if !s.memOpen who then .next s
    else if f = 0 then .next (act (s.accessed who (Block.wdn.base + WDN_CMD.off))) else .next ((s.accessed who (Block.wdn.base + WDN_CMD.off)).accessError who 0 (Block.wdn.base + WDN_CMD.off) true)

end Sys2Proof.Machine
end

