-- ==== Sys2Proof/Machine/Secure.lean ====
section
/-! DEFINITION. The security block as commands: fused versions, keys, SPDM requests and tenant sessions (chapter 18). -/

namespace Sys2Proof.Machine

/-- A SEC_ERR flag, with the function that it concerns. -/
def State.secFlag (s : State) (f : RField) (fn : Nat) : State := s.flagAt f 0 [(SEC_ERR.FUNC, fn)]

/-- One bit of a 64-bit status register. -/
def State.setStatBit (s : State) (f : RField) (k : Nat) (b : Bool) : State :=
  let w := s.rd f
  s.wr f 0 ((if bitAt w k then w - 2 ^ k else w) + (if b then 2 ^ k else 0))

/-! ### Versions and keys by register (R516, R521, R522) -/

/-- SVN_COMMIT (R516): SEC_CMD with OP = 1 raises the fused versions to those now running; while LOCK is 0 it burns nothing and sets SEC_ERR.SVN. -/
def execSvnCommit (who : Who) (s : State) : Result :=
  .next (s.adminWrite who SEC_CMD fun s =>
    if s.on SEC_STAT.LOCK then
      (s.wr SEC_STAT.CH_SVN 0 (max (s.rd SEC_STAT.CH_SVN) s.charter.svn)).wr SEC_STAT.FW_SVN 0 (max (s.rd SEC_STAT.FW_SVN) s.charter.fwSvn)
    else s.secFlag SEC_ERR.SVN 0)

/-- KEY_DATA_WRITE (R522): a key word, staged with KEY_HOST = 1, else dropped with SEC_ERR.KEY. -/
def execKeyDataWrite (who : Who) (idx val : Nat) (s : State) : Result :=
  if 4 ≤ idx then .next s else
    .next (s.adminWrite who (⟨.sec, SEC_KEY_DATA0.off + 8 * idx⟩) fun s =>
      if s.charter.keyHost then { s with sec := { s.sec with data := s.sec.data.set idx (val % 2 ^ 64) } } else s.secFlag SEC_ERR.KEY 0)

/-- The key that the four data registers hold, least significant word first. -/
def State.stagedKey (s : State) : Nat := (s.sec.data.zipIdx.map fun (e : Nat × Nat) => e.1 * 2 ^ (64 * e.2)).sum

/-- The install clears the four data registers (R522). -/
def State.clearKeyData (s : State) : State := { s with sec := { s.sec with data := [0, 0, 0, 0] } }

/-- A tenant key is installed: the function's open session closes (R521). -/
def State.setTenantKey (s : State) (f key : Nat) : State :=
  let s1 := s.closeSession f
  { s1.setStatBit SEC_TKEY_STAT.V f true with sec := { s1.sec with tkeys := FMap.set 0 s1.sec.tkeys f (key % 2 ^ 256) } }

/-- A model key is installed, while its slot is EMPTY (R521); else the refusal sets SEC_ERR.KEY. The answer says whether it was taken. -/
def State.setModelKey (s : State) (slot key : Nat) : State × Bool :=
  if s.slState slot = slEmpty then
    ({ s.setStatBit SEC_MKEY_STAT.V slot true with sec := { s.sec with mkeys := FMap.set 0 s.sec.mkeys slot (key % 2 ^ 256) } }, true)
  else (s.secFlag SEC_ERR.KEY 0, false)

/-- TENANT_KEY_INSTALL (R521, R522): SEC_CMD with OP = 2. -/
def execTenantKeyInstall (who : Who) (f : Nat) (s : State) : Result :=
  if 64 ≤ f then .next s else
    .next (s.adminWrite who SEC_CMD fun s =>
      if s.charter.keyHost then (s.setTenantKey f s.stagedKey).clearKeyData else s.secFlag SEC_ERR.KEY f)

/-- MODEL_KEY_INSTALL (R521, R522): SEC_CMD with OP = 3. -/
def execModelKeyInstall (who : Who) (slot : Nat) (s : State) : Result :=
  if 16 ≤ slot then .next s else
    .next (s.adminWrite who SEC_CMD fun s =>
      if s.charter.keyHost then
        let (s1, ok) := s.setModelKey slot s.stagedKey
        if ok then s1.clearKeyData else s1
      else s.secFlag SEC_ERR.KEY 0)

/-- TENANT_KEY_CLEAR (R522): SEC_CMD with OP = 4, whatever KEY_HOST is. -/
def execTenantKeyClear (who : Who) (f : Nat) (s : State) : Result :=
  if 64 ≤ f then .next s else
    .next (s.adminWrite who SEC_CMD fun s =>
      let s1 := s.closeSession f
      { s1.setStatBit SEC_TKEY_STAT.V f false with sec := { s1.sec with tkeys := FMap.set 0 s1.sec.tkeys f 0 } })

/-- MODEL_KEY_CLEAR (R522): SEC_CMD with OP = 5, under the EMPTY rule of R521. -/
def execModelKeyClear (who : Who) (slot : Nat) (s : State) : Result :=
  if 16 ≤ slot then .next s else
    .next (s.adminWrite who SEC_CMD fun s =>
      if s.slState slot = slEmpty then
        { s.setStatBit SEC_MKEY_STAT.V slot false with sec := { s.sec with mkeys := FMap.set 0 s.sec.mkeys slot 0 } }
      else s.secFlag SEC_ERR.KEY 0)

/-! ### SPDM (R519, R520) -/

/-- An SPDM request arrives over a transport: 0 the physical function's mailbox, 1 MCTP over I3C. SPDM is answered from step 4 of start-up on (R535, R539), and the identity key signs nothing before LOCK (R517). -/
def State.spdmGo (s : State) (port : Nat) (act : State → State) : State :=
  if !s.on SEC_STAT.LOCK || s.boot.held then s
  else if port = 0 then s.doeGo 0 act
  else if port = 1 then act s
  else s

/-- An ERROR response with its code (log entry 25), which sets SEC_ERR.SPDM (R528). -/
def State.spdmError (s : State) (code : Nat) : State := (s.secFlag SEC_ERR.SPDM 0).send (.spdm 0x7F [code])

/-- How far the transport's negotiation has come: 1 version, 2 capabilities, 3 algorithms. -/
def State.spdmStage (s : State) (port : Nat) : Nat := FMap.get 0 s.sec.stage port

/-- Set it. -/
def State.setStage (s : State) (port n : Nat) : State := { s with sec := { s.sec with stage := FMap.set 0 s.sec.stage port n } }

/-- A request that needs a completed negotiation; before it the answer is ERROR UnexpectedRequest. -/
def State.spdmReady (s : State) (port : Nat) (act : State → State) : State :=
  s.spdmGo port fun s => if s.spdmStage port = 3 then act s else s.spdmError 4

/-- A request inside a live secured session; without one the answer is ERROR SessionRequired. -/
def State.spdmInside (s : State) (port id : Nat) (act : State → State) : State :=
  s.spdmReady port fun s => if s.sec.sess.any fun x => x.id == id && x.port == port && x.live then act s else s.spdmError 0x0B

/-- The certificate chain of a slot; empty when the slot holds none. -/
def State.chain (s : State) (slot : Nat) : List Byte :=
  if slot = 0 then Config.slot0Chain s.charter.digest else FMap.get [] s.sec.certs slot

/-- GET_VERSION: SPDM 1.3; negotiation begins. -/
def execGetVersion (port : Nat) (s : State) : Result :=
  .next (s.spdmGo port fun s => (s.setStage port 1).send (.spdm 0x04 [0x13]))

/-- GET_CAPABILITIES: a DataTransferSize of 4,096 bytes. -/
def execGetCapabilities (port : Nat) (s : State) : Result :=
  .next (s.spdmGo port fun s => if s.spdmStage port = 1 then (s.setStage port 2).send (.spdm 0x61 [4096]) else s.spdmError 4)

/-- NEGOTIATE_ALGORITHMS: ECDSA P-521, SHA-512, secp521r1 and AES-256-GCM, when the request offers them all. -/
def execNegotiateAlgorithms (port : Nat) (p521 hash512 dhe521 gcm256 : Bool) (s : State) : Result :=
  .next (s.spdmGo port fun s =>
    if s.spdmStage port ≠ 2 then s.spdmError 4
    else if p521 && hash512 && dhe521 && gcm256 then (s.setStage port 3).send (.spdm 0x63 [])
    else s.spdmError 1)

/-- GET_DIGESTS: the slots that hold a chain, and the digest of each. -/
def execGetDigests (port : Nat) (s : State) : Result :=
  .next (s.spdmReady port fun s =>
    let slots := (List.range 4).filter fun k => k == 0 || !(s.chain k).isEmpty
    s.send (.spdm 0x01 ((slots.map fun k => 2 ^ k).sum :: slots.map fun k => beNat (sha512 (s.chain k)))))

/-- GET_CERTIFICATE: a portion of a slot's chain, as long as the transfer size allows, and what remains of it. -/
def execGetCertificate (port slot off len : Nat) (s : State) : Result :=
  .next (s.spdmReady port fun s =>
    let c := s.chain slot
    if 4 ≤ slot ∨ c.length ≤ off then s.spdmError 1
    else
      let p := (c.drop off).take (min len 4088)
      s.send (.spdm 0x02 (slot :: p.length :: (c.length - off - p.length) :: p.map BitVec.toNat)))

/-- CHALLENGE: answered with a signature of the alias key, over a nonce of the device's. -/
def execChallenge (port slot : Nat) (s : State) : Result :=
  .next (s.spdmReady port fun s =>
    if 4 ≤ slot ∨ (slot ≠ 0 ∧ (s.chain slot).isEmpty) then s.spdmError 1
    else
      let (n, s1) := s.takeFree
      let (sig, s2) := s1.takeFree
      s2.send (.spdm 0x03 [slot, beNat (sha512 (s.chain slot)), n, sig]))

/-- A measurement block (R520). -/
def State.measure (s : State) (index : Nat) : List Nat :=
  match index with
  | 1 => [Config.bootRomDigest]
  | 2 => [s.charter.fwDigest]
  | 3 => [s.charter.digest, s.rd SEC_STAT.COPY]
  | 4 => [s.rd SEC_STAT.CH_SVN, s.rd SEC_STAT.FW_SVN]
  | 5 => (List.range 16).flatMap fun m =>
      match s.slState m == slReady, (s.slot m).cur with
      | true, some g => [g.man.modelId, g.man.generation, g.man.digest]
      | _, _ => []
  | 6 => s.images.flatMap fun e => [e.2.1, e.2.2]
  | _ => []

/-- GET_MEASUREMENTS (R520): the number of blocks for index 0, one block, or every block for index 0xFF; signed with the alias key when asked. -/
def execGetMeasurements (port index : Nat) (signed : Bool) (s : State) : Result :=
  .next (s.spdmReady port fun s =>
    if 6 < index ∧ index ≠ 0xFF then s.spdmError 1
    else
      let body := if index = 0 then [6] else if index = 0xFF then (List.range 6).flatMap fun k => (k + 1) :: s.measure (k + 1) else index :: s.measure index
      if signed then
        let (sig, s1) := s.takeFree
        s1.send (.spdm 0x60 (body ++ [sig]))
      else s.send (.spdm 0x60 body))

/-- KEY_EXCHANGE (R519): a secured session begins its handshake; with four open over both transports the answer is ERROR SessionLimitExceeded. -/
def execKeyExchange (port slot : Nat) (s : State) : Result :=
  .next (s.spdmReady port fun s =>
    if 4 ≤ s.sec.sess.length then s.spdmError 0x0A
    else if 4 ≤ slot ∨ (slot ≠ 0 ∧ (s.chain slot).isEmpty) then s.spdmError 1
    else
      let id := s.sec.nextSess
      let (dhe, s1) := s.takeFree
      let (sig, s2) := s1.takeFree
      ({ s2 with sec := { s2.sec with sess := s2.sec.sess ++ [⟨id, port, false, 0⟩], nextSess := id + 1 } } : State).send (.spdm 0x64 [id, dhe, sig]))

/-- FINISH (R519, R527): the handshake of a session ends, when the requester's verify data holds; else ERROR DecryptError ends the session. -/
def execFinish (port id : Nat) (verified : Bool) (s : State) : Result :=
  .next (s.spdmReady port fun s =>
    if s.sec.sess.any fun x => x.id == id && x.port == port && !x.live then
      if verified then
        let live (x : SpdmSess) : SpdmSess := if x.id = id then { x with live := true } else x
        (({ s with sec := { s.sec with sess := s.sec.sess.map live } } : State).bump SEC_SPDM_SESS_CNT.V).send (.spdm 0x65 [])
      else ({ s with sec := { s.sec with sess := s.sec.sess.filter fun x => x.id != id } } : State).spdmError 6
    else s.spdmError 0x0B)

/-- HEARTBEAT. -/
def execHeartbeat (port id : Nat) (s : State) : Result :=
  .next (s.spdmInside port id fun s => s.send (.spdm 0x68 []))

/-- KEY_UPDATE: operation 1 updates the requester's key, 2 both, 3 verifies the new key. -/
def execKeyUpdate (port id op : Nat) (s : State) : Result :=
  .next (s.spdmInside port id fun s =>
    if op = 0 ∨ 3 < op then s.spdmError 1
    else
      let upd (x : SpdmSess) : SpdmSess := if x.id = id ∧ op ≤ 2 then { x with keys := x.keys + 1 } else x
      ({ s with sec := { s.sec with sess := s.sec.sess.map upd } } : State).send (.spdm 0x69 [op]))

/-- END_SESSION: the secured session closes. -/
def execEndSession (port id : Nat) (s : State) : Result :=
  .next (s.spdmInside port id fun s =>
    ({ s with sec := { s.sec with sess := s.sec.sess.filter fun x => x.id != id } } : State).send (.spdm 0x6C []))

/-- GET_CSR: a certificate request for the identity key, signed by it. -/
def execGetCsr (port : Nat) (s : State) : Result :=
  .next (s.spdmReady port fun s =>
    let (v, s1) := s.takeFree
    s1.send (.spdm 0x6D [v]))

/-- SET_CERTIFICATE: the owner's chain for slot 1 to 3, of at most 8 KiB, in non-volatile storage (R519, R530). -/
def execSetCertificate (port slot : Nat) (chain : List Byte) (s : State) : Result :=
  .next (s.spdmReady port fun s =>
    if slot = 0 ∨ 4 ≤ slot ∨ 8192 < chain.length then s.spdmError 1
    else ({ s with sec := { s.sec with certs := FMap.set [] s.sec.certs slot chain } } : State).send (.spdm 0x6E [slot]))

/-- SET_TENANT_KEY (R521): the vendor-defined request, inside a secured session. -/
def execSetTenantKey (port id f key : Nat) (s : State) : Result :=
  .next (s.spdmInside port id fun s => if f < 64 then (s.setTenantKey f key).send (.spdm 0x7E [f]) else s.spdmError 1)

/-- SET_MODEL_KEY (R521, R526): the vendor-defined request, inside a secured session; refused while the slot is not EMPTY. -/
def execSetModelKey (port id slot key : Nat) (s : State) : Result :=
  .next (s.spdmInside port id fun s =>
    if 16 ≤ slot then s.spdmError 1
    else
      let (s1, ok) := s.setModelKey slot key
      if ok then s1.send (.spdm 0x7E [slot]) else s1.spdmError 1)

/-! ### Tenant sessions (R524, R525) -/

/-- A second of CLK_AO. -/
def oneSecond : Nat := 25000000

/-- Consecutive failed OPENs of a function; the count restarts at 0 when a backoff ends. -/
def State.openFails (s : State) (f : Nat) : Nat :=
  let n := FMap.get 0 s.sec.fails f
  if 4 ≤ n ∧ FMap.get 0 s.sec.failAt f + oneSecond ≤ s.now then 0 else n

/-- The function has a tenant key. -/
def State.hasKey (s : State) (f : Nat) : Bool := bitAt (s.rd SEC_TKEY_STAT.V) f

/-- The function's outstanding nonce, while it is valid. -/
def State.nonceOf (s : State) (f : Nat) : Option Nat :=
  let n := FMap.get Nonce.init s.sec.nonces f
  if n.time ≠ 0 ∧ s.now < n.time - 1 + oneSecond then some n.value else none

/-- GET_NONCE (R524, R525): BACKOFF during a backoff, NO_KEY for a function without key, else a new nonce. -/
def execGetNonce (f : Nat) (s : State) : Result :=
  .next (s.doeGo f fun s =>
    if 4 ≤ s.openFails f then s.send (.tenant f 0x81 [3])
    else if !s.hasKey f then s.send (.tenant f 0x81 [1])
    else
      let (v, s1) := s.takeFree
      ({ s1 with sec := { s1.sec with nonces := FMap.set Nonce.init s1.sec.nonces f ⟨v % 2 ^ 256, s1.now + 1⟩ } } : State).send (.tenant f 0x81 [0, v % 2 ^ 256]))

/-- The STATUS of an OPEN (R525): FORMAT, NO_KEY, NO_NONCE, BAD_MAC, in this order, else OK. -/
def State.openStatus (s : State) (f : Nat) (nonceT mac : List Byte) : Nat :=
  if nonceT.length ≠ 32 ∨ mac.length ≠ 64 then 5
  else if !s.hasKey f then 1
  else match s.nonceOf f with
    | none => 4
    | some d =>
      if mac = hmacSha512 (leBytes 32 (FMap.get 0 s.sec.tkeys f)) (asciiBytes "WSA20OPEN" ++ leBytes 1 f ++ leBytes 32 d ++ nonceT) then 0 else 2

/-- A session opens (R277, R525): any open one closes first, NUM advances, 0xFFFF to 1. -/
def State.openNew (s : State) (f : Nat) : State :=
  let s1 := s.closeSession f
  let n := s1.rd TEN_SESSION.NUM f
  (((s1.wr TEN_SESSION.NUM f (if n = 0xFFFF then 1 else n + 1)).wr TEN_SESSION.OPEN f 1).fnEvent f 0).bump SEC_OPEN_CNT.V

/-- OPEN (R524, R525): a nonce serves for one OPEN, successful or not. A good MAC opens a session, and the device's MAC answers; each other status is a failed OPEN. -/
def execOpenSession (f : Nat) (nonceT mac : List Byte) (s : State) : Result :=
  .next (s.doeGo f fun s =>
    let st := s.openStatus f nonceT mac
    let d := (s.nonceOf f).getD 0
    let fails := s.openFails f
    let s1 : State := { s with sec := { s.sec with nonces := FMap.set Nonce.init s.sec.nonces f Nonce.init } }
    if st = 0 then
      let s2 := ({ s1 with sec := { s1.sec with fails := FMap.set 0 s1.sec.fails f 0, failAt := FMap.set 0 s1.sec.failAt f 0 } } : State).openNew f
      let num := s2.rd TEN_SESSION.NUM f
      s2.send (.tenant f 0x82 [0, num, beNat (hmacSha512 (leBytes 32 (FMap.get 0 s.sec.tkeys f))
        (asciiBytes "WSA20DEV" ++ leBytes 1 f ++ nonceT ++ leBytes 32 d ++ leBytes 2 num))])
    else
      let s2 : State := { s1 with sec := { s1.sec with fails := FMap.set 0 s1.sec.fails f (fails + 1), failAt := FMap.set 0 s1.sec.failAt f s1.now } }
      ((s2.bump SEC_OPEN_FAIL_CNT.V).secFlag SEC_ERR.SESSION f).send (.tenant f 0x82 [st]))

/-- CLOSE (R525): the function's session closes under R277. -/
def execCloseSession (f : Nat) (s : State) : Result :=
  .next (s.doeGo f fun s => (s.closeSession f).send (.tenant f 0x83 [0]))

end Sys2Proof.Machine
end

