-- ==== Sys2Proof/Machine/Views.lean ====
section
/-! DEFINITION. Where a register address leads (R412, R572 to R576), which instance of a selector window it names, and the values of the registers that show what other state holds. -/

namespace Sys2Proof.Machine

/-! ### Addresses -/

/-- The device blocks of 4 KiB pages 0 to 14 of the device area; the event controller has two (R572). -/
def devPages : List (Block × Nat) :=
  [(.devHost, 0), (.srv, 0), (.kv, 0), (.prt, 0), (.stk, 0), (.chk, 0), (.mem, 0), (.cw, 0), (.evc, 0), (.evc, 0x1000), (.mode, 0), (.cal, 0),
    (.bst, 0), (.wdn, 0), (.sec, 0)]

/-- Where a BAR0 offset of the device blocks leads: the block, the offset in it, and the weigh house, row or stall (R572, R573). -/
def siteOf (off : Nat) : Option (Block × Nat × Nat) :=
  let o := off - 0x1000000
  if off < 0x1000000 ∨ 0x400000 ≤ o then none
  else if o < 0xF000 then (devPages[o / 0x1000]?).map fun p => (p.1, o % 0x1000 + p.2, 0)
  else if 0x10000 ≤ o ∧ o < 0x20000 then some (.wh, o % 0x1000, (o - 0x10000) / 0x1000)
  else if 0x100000 ≤ o then
    let r := (o - 0x100000) / 0x4000
    let x := (o - 0x100000) % 0x4000
    if x < 0x1000 then some (.tal, x, r)
    else if x < 0x3100 then some (.stl, x % 0x100, stallId r ((x - 0x1000) / 0x100))
    else none
  else none

/-- The stall that CHK_STALL_SEL names. -/
def State.chkSel (s : State) : Nat := stallId (48 * s.rd CHK_STALL_SEL.QUARTER + s.rd CHK_STALL_SEL.ROW) (s.rd CHK_STALL_SEL.STALL)

/-- The stall that CAL_SEL names. -/
def State.calSel (s : State) : Nat := stallId (s.rd CAL_SEL.ROW) (s.rd CAL_SEL.STALL)

/-- The instance that a register shows: that of its selector, or its unit's. -/
def State.selected (s : State) (r : Reg) (u : Nat) : Nat :=
  if r ∈ [TEN_ADM_QUOTA, TEN_ADM_FAULT] then s.rd TEN_ADM_SEL.FUNC
  else if r ∈ [SRV_FUNC_CEIL, SRV_FUNC_STAT] then s.rd SRV_FUNC_SEL.FUNC
  else if r = SRV_PACE_STAT then s.rd SRV_PACE_SEL.STREAM
  else if r = SRV_ADP_INFO then s.rd SRV_ADP_SEL.ADAPTER
  else if r ∈ [KV_SLOT_CFG, KV_POOL_STAT] then s.rd KV_SLOT_SEL.SLOT
  else if r = PRT_MODEL_STAT then s.rd PRT_MODEL_SEL.SLOT
  else if r = STK_JRN_DATA then s.rd STK_JRN_SEL.INDEX
  else if r = CHK_STALL_STAT then s.chkSel
  else if r = MEM_UNIT_STAT then s.rd MEM_SEL.UNIT
  else if r ∈ [CW_PORT_CTL, CW_PORT_STAT, CW_PORT_REACH_LO, CW_PORT_REACH_HI] then s.rd CW_PORT_SEL.PORT
  else if r ∈ [CAL_STALL_STAT, CAL_STALL_STAMP, CAL_STALL_ROUNDS] then s.calSel
  else if r = CAL_ROW_TEMP then s.rd CAL_SEL.ROW
  else if r = WDN_THERM_DATA then s.rd WDN_THERM_SEL.SENSOR
  else if r = WDN_MON_CH then s.rd WDN_MON_SEL.CH
  else if r ∈ [WDN_VR_CFG, WDN_VR_STAT, WDN_VR_VSET] then s.rd WDN_VR_SEL.VR
  else if r = WDN_FLOG_DATA then s.rd WDN_FLOG_SEL.INDEX
  else if r ∈ [TAL_DRIFT_VAL, TAL_SIGMA] then groupId (stallId u (s.rd TAL_COR_SEL.STALL u)) (s.rd TAL_COR_SEL.GROUP u)
  else if r = TAL_TILE_STAT then groupId (stallId u (s.rd TAL_TILE_SEL.STALL u)) (s.rd TAL_TILE_SEL.GROUP u)
  else u

/-- The register at an 8-byte offset of a block, with its instance; the event controller and the warden hold arrays (R455, R508). -/
def State.regAt (s : State) (b : Block) (o u : Nat) : Option (RegInfo × Nat) :=
  let (at', k) :=
    if b = .evc ∧ 0x100 ≤ o ∧ o < 0x1C0 then (o / 0x40 * 0x40, o % 0x40 / 8)
    else if b = .evc ∧ 0x1000 ≤ o then (0x1000, (o - 0x1000) / 8)
    else if b = .wdn ∧ 0x100 ≤ o ∧ o < 0x180 then (0x100, (o - 0x100) / 8)
    else (o, u)
  (b.regs.find? fun i => i.reg.off == at').map fun i => (i, s.selected i.reg k)

/-! ### Registers that show other state -/

/-- A word with some fields replaced. -/
def withFields (w : Word64) (fs : List (RField × Nat)) : Word64 := fs.foldl (fun w p => p.1.put w p.2) w

/-- Inspector jobs over disputes: failed checks and pair mismatches without a verdict (R368, R374). -/
def State.disputes (s : State) (p : Job → Bool) : Nat :=
  (s.jobs.filter fun j => p j && (match j.kind with
    | .dispute _ => true
    | .paired _ _ _ => true
    | _ => false)).length

/-- The function window (R430, R432). -/
def State.viewFn (s : State) (r : Reg) (i : Nat) (w : Word64) : Word64 :=
  if r = HOST_FN_ID then withFields w [(HOST_FN_ID.FUNC, i)]
  else if r = TEN_USE then withFields w [(TEN_USE.KV_USED, s.kvUsed i), (TEN_USE.PARKED, s.parkedOf i)]
  else if r = TEN_ADM_QUOTA then withFields w [(TEN_ADM_QUOTA.KV_QUOTA, s.rd TEN_QUOTA.KV_QUOTA i)]
  else if r = TEN_ADM_FAULT then withFields w [(TEN_ADM_FAULT.FAULT, (s.getReg TEN_FAULT i).toNat)]
  else w

/-- Versions of an adapter without currency: the number of the oldest, 0 = none. -/
def State.oldVersion (s : State) (a : Nat) : Nat := (((s.adapter a).old.head?).map (·.no)).getD 0
/-- The number of an adapter's current version, 0 = none. -/
def State.curVersion (s : State) (a : Nat) : Nat := ((s.adapter a).cur.map (·.no)).getD 0

/-- The serving block (R309, R328). -/
def State.viewSrv (s : State) (r : Reg) (i : Nat) (w : Word64) : Word64 :=
  if r = SRV_STAT then withFields w [(SRV_STAT.ACTIVE, s.countSeqs fun x => x.active), (SRV_STAT.ADMITTED, s.admittedCount)]
  else if r = SRV_FUNC_STAT then
    withFields w [(SRV_FUNC_STAT.ACTIVE, s.countSeqs fun x => x.active && x.func == i), (SRV_FUNC_STAT.ADMITTED, s.funcAdmitted i),
      (SRV_FUNC_STAT.QUIET, min 0xFFFF (s.rd SRV_STEP_CNT.V + 1 - max 1 (FMap.get 0 s.sched.lowAt i)))]
  else if r = SRV_ADP_STAT then withFields w [(SRV_ADP_STAT.VERSIONS, s.versions), (SRV_ADP_STAT.USED, s.poolUsed)]
  else if r = SRV_ADP_INFO then
    withFields w [(SRV_ADP_INFO.CUR, s.curVersion i), (SRV_ADP_INFO.OLD, s.oldVersion i),
      (SRV_ADP_INFO.REF_CUR, if s.curVersion i = 0 then 0 else s.adpRef i (s.curVersion i)),
      (SRV_ADP_INFO.REF_OLD, if s.oldVersion i = 0 then 0 else s.adpRef i (s.oldVersion i))]
  else if r = SRV_TUNE_STAT then
    withFields w [(SRV_TUNE_STAT.JOBS, FMap.countWhere s.tunes fun _ j => j.live), (SRV_TUNE_STAT.SEQS, s.countSeqs fun x => x.active && x.job.isSome)]
  else w

/-- The cache, the porter and the stocking engine (R266, R227, R196). -/
def State.viewStore (s : State) (r : Reg) (i : Nat) (w : Word64) : Word64 :=
  if r = KV_POOL_STAT then
    withFields w [(KV_POOL_STAT.FREE, s.poolFree i),
      (KV_POOL_STAT.SHARED, FMap.countWhere s.pages fun _ p => p.live && p.slot == i && decide (1 < p.ref))]
  else if r = PRT_MODEL_STAT then
    let m := s.slot i
    withFields w [(PRT_MODEL_STAT.PREV, ofBool m.prev.isSome), (PRT_MODEL_STAT.FENCED, m.fenced.length),
      (PRT_MODEL_STAT.OLD_BOUND, (m.prev.map fun g => s.boundTo i g.man.generation).getD 0), (PRT_MODEL_STAT.KV_PAGES, s.poolPages i)]
  else if r = STK_JRN_DATA then
    let e := s.jrn i
    withFields w [(STK_JRN_DATA.STATE, e.state.code), (STK_JRN_DATA.COUNT, e.count), (STK_JRN_DATA.IMAGE, e.image), (STK_JRN_DATA.FMT, e.fmt),
      (STK_JRN_DATA.PAIRED, ofBool e.paired)]
  else if r = STK_STAT then
    withFields w [(STK_STAT.SETTLE_LEFT, if s.rd STK_STAT.JOB = jobSettling then ((s.stock.map (·.settleAt)).getD 0) - s.rd WDN_ROUND.V else 0)]
  else w

/-- The checking block (R383). -/
def State.viewChk (s : State) (r : Reg) (i : Nat) (w : Word64) : Word64 :=
  if r = CHK_STAT then
    withFields w [(CHK_STAT.QUEUE, s.jobsQueued), (CHK_STAT.BUSY, (s.jobs.filter fun j => j.running).length), (CHK_STAT.OPEN, s.disputes fun _ => true)]
  else if r = CHK_STALL_STAT then
    withFields w [(CHK_STALL_STAT.WITHDRAWN, ((List.range 4).map fun g => if (s.group (groupId i g)).withdrawn then 2 ^ g else 0).sum),
      (CHK_STALL_STAT.OPEN, s.disputes fun j => j.stall == i),
      (CHK_STALL_STAT.RECENT, min 3 ((s.stall i).recents.filter fun t => decide (s.rd SRV_STEP_CNT.V < t + 1024)).length)]
  else w

/-- One bit per index below `n` for which `p` holds. -/
def bitMap (n : Nat) (p : Nat → Bool) : Nat := ((List.range n).map fun k => if p k then 2 ^ k else 0).sum

/-- MODE_UNIT_STAT.STATE of a unit (R452, R453): 0 matching, 1 lagging, 2 excluded, 3 catching up. -/
def State.unitState (s : State) (u : Nat × Nat) : Nat :=
  if s.excluded u then 2 else if s.lagging (unitId u.1 u.2) then 1 else if s.unitGen u = s.rd MODE_GEN.CUR then 0 else 3

/-- The event controller and the mode controller (R455, R458). -/
def State.viewEvc (s : State) (r : Reg) (w : Word64) : Word64 :=
  if r = EVC_STAT then
    withFields w [(EVC_STAT.AWAKE, bitMap 8 fun k => s.ckState k != ckGated), (EVC_STAT.BUSY, bitMap 8 fun k => !(s.clerk k).frames.isEmpty),
      (EVC_STAT.PENDING, ((List.range 512).filter s.pendingSrc).length)]
  else if r = EVC_ROW_SUM then
    let row := s.rd EVC_ROW_SEL.ROW
    withFields w [(EVC_ROW_SUM.STALLS, bitMap 33 fun p => s.stallFlags (stallId row p)), (EVC_ROW_SUM.TALLY, ofBool (s.tallyFlags row))]
  else if r = MODE_UNIT_STAT then
    let u := (s.rd MODE_UNIT_SEL.CLASS, s.rd MODE_UNIT_SEL.INDEX)
    if (u.1 = 1 ∧ u.2 < 6144) ∨ (u.1 = 2 ∧ u.2 < 192) ∨ (u.1 = 3 ∧ u.2 < 16) then
      withFields w [(MODE_UNIT_STAT.GEN, s.unitGen u), (MODE_UNIT_STAT.STATE, s.unitState u)]
    else w
  else w

/-- Calibration and the warden (R482, R508). -/
def State.viewCal (s : State) (r : Reg) (i : Nat) (w : Word64) : Word64 :=
  if r = CAL_STALL_ROUNDS then withFields w [(CAL_STALL_ROUNDS.AGE, s.calAge i)]
  else if r = CAL_ROW_TEMP then
    withFields w [(CAL_ROW_TEMP.A, s.rd WDN_THERM_DATA.TEMP (2 * i)), (CAL_ROW_TEMP.B, s.rd WDN_THERM_DATA.TEMP (2 * i + 1))]
  else if r = CAL_REPAIR_DATA then
    let raw := (s.getReg CAL_REPAIR_SEL 0).toNat
    let sel := repairSel (selStall raw) (bitsOf raw 14 2) (bitsOf raw 16 3) (bitsOf raw 19 1) (bitsOf raw 20 5)
    let d := s.repairAt sel
    withFields w [(CAL_REPAIR_DATA.LOGICAL, bitsOf d 0 10), (CAL_REPAIR_DATA.VALID, bitsOf d 10 1), (CAL_REPAIR_DATA.FUSED, ofBool (s.fusedAt sel)),
      (CAL_REPAIR_DATA.PENDING, bitsOf d 12 1)]
  else if r = WDN_THERM_DATA then
    withFields w [(WDN_THERM_DATA.LEVEL, FMap.get 0 s.level (if i < 384 then i / 2 else 192)),
      (WDN_THERM_DATA.DUTY, if i < 384 then FMap.get 0 s.duty (i / 2) else s.rd WDN_STAT.SDUTY)]
  else if r = WDN_STAT then withFields w [(WDN_STAT.MON_LP, ofBool s.monLow)]
  else w

/-- Weigh houses, tally engines and stalls (R265, R107, R108, R69, R78). BANK_BUSY stays set for a pair until its low nibbles are latched (R40); DESIGN CHOICE (log entry 97): a queued fresh strike names its slot in FSLOT_BUSY and not bank 3, in which the slot lies. TAL_DRIFT_VAL.FAST shows the fast mode that R86 gives every group at reset (log entry 83). -/
def State.viewUnit (s : State) (r : Reg) (i u : Nat) (w : Word64) : Word64 :=
  if r = WH_STAT then withFields w [(WH_STAT.SEQS, s.whSeqs i)]
  else if r = TAL_DRIFT_VAL then withFields w [(TAL_DRIFT_VAL.FAST, ofBool ((s.group i).fastLeft != 0))]
  else if r = TAL_TRIM_DATA then
    BitVec.ofNat 64 (FMap.get 0 (s.stall (stallId u (s.rd TAL_TRIM_SEL.STALL u))).trimsTo (s.rd TAL_TRIM_SEL.COLUMN u))
  else if r = STL_ID then
    withFields w [(STL_ID.QUARTER, quarterOf (rowOf i)), (STL_ID.ROW, rowOf i % 48), (STL_ID.STALL, posOf i), (STL_ID.LOGICAL, s.logicalAt i)]
  else if r = STL_QUEUE then
    let q := (s.stall i).queue
    withFields w [(STL_QUEUE.DEPTH, q.length), (STL_QUEUE.BANK_BUSY, bitMap 4 fun b => (q.any fun d => (stockBanks d).contains b) || ((s.stall i).pairBanks (s.row (rowOf i)).edge).contains b),
      (STL_QUEUE.FSLOT_BUSY, bitMap 16 fun n => q.any fun d => d.fresh && d.fslot == n)]
  else w

/-- The word a register shows: what it holds, with the fields that follow other state. `u` is the row of a tally engine register. -/
def State.view (s : State) (r : Reg) (i u : Nat) : Word64 :=
  let w := s.getReg r i
  match r.blk with
  | .fnHost | .fnTen | .devHost => s.viewFn r i w
  | .srv => s.viewSrv r i w
  | .kv | .prt | .stk => s.viewStore r i w
  | .chk => s.viewChk r i w
  | .evc | .mode => s.viewEvc r w
  | .cal | .wdn => s.viewCal r i w
  | .wh | .tal | .stl => s.viewUnit r i u w
  | .mem | .cw | .bst | .sec => w

end Sys2Proof.Machine
end

