-- ==== Sys2Proof/Machine/Regs.lean ====
section
/-! DEFINITION. Register accesses by address: writes under the access codes with what each register's write starts (R8 to R11, R571 to R580), and reads, with the halves of 64-bit registers. -/

namespace Sys2Proof.Machine

/-- The next state that a meaning answers. -/
def nextOr (s : State) : Result → State
  | .next t => t
  | _ => s

/-! ### Halves of 64-bit registers (R11) -/

/-- The staged low half of a write to a register. -/
def State.staged (s : State) (who : Who) (name : Nat) : Option Nat :=
  let h := FMap.get Half.none s.halves (2 * whoCode who)
  if h.off = name then some h.value else none

/-- The latched high half of a register. -/
def State.latched (s : State) (who : Who) (name : Nat) : Option Nat :=
  let h := FMap.get Half.none s.halves (2 * whoCode who + 1)
  if h.off = name then some h.value else none

/-- Keep a half. -/
def State.keepHalf (s : State) (who : Who) (name : Nat) (write : Bool) (v : Nat) : State :=
  { s with halves := FMap.set Half.none s.halves (2 * whoCode who + ofBool (!write)) ⟨name, write, v % 2 ^ 32⟩ }

/-- Take one half away. -/
def State.dropHalf (s : State) (who : Who) (write : Bool) : State :=
  { s with halves := FMap.del s.halves (2 * whoCode who + ofBool (!write)) }

/-- A field takes a write at or above bit 32. -/
def RField.writesHigh (f : RField) : Bool := decide (32 < f.lo + f.wd) && f.acc != .ro && f.acc != .rc

/-! ### What a write of a register does beyond its fields (by block) -/

/-- Registers of the Square's work blocks whose write has an effect of its own: the command of the table that it is; a CHUNK below the current chunk size lowers it (R284, R309). OP codes whose command carries bytes from outside (SRV_ADP_CMD, PRT_CMD, STK_CMD and CW_HOME_CMD with OP = 1) act by that command. -/
def State.writeWork (s : State) (who : Who) (r : Reg) (v : Nat) : Option State :=
  let op := bitsOf v 0 3
  if r = SRV_CTL then
    let s1 := s.writeReg r 0 v
    some (s1.wr SRV_STAT.CUR_CHUNK 0 (min (s1.rd SRV_STAT.CUR_CHUNK) (s1.rd SRV_CTL.CHUNK)))
  else if r = TEN_ADM_QUOTA then some (nextOr s (execQuotaWrite who v s))
  else if r = SRV_FUNC_CEIL then some (nextOr s (execFuncCeilWrite who v s))
  else if r = SRV_ADP_CMD then some (if bitsOf v 0 2 = 2 then nextOr s (execAdapterUnload who (bitsOf v 2 10) s) else s)
  else if r = KV_SLOT_CFG then some (nextOr s (execKvSlotCfgWrite who v s))
  else if r = PRT_CMD then
    some (if op = 2 then nextOr s (execModelUnload who (bitsOf v 4 4) s)
      else if op = 3 then nextOr s (execShardRefetch who (bitsOf v 4 4) (bitsOf v 8 24) s)
      else if op = 4 then nextOr s (execReleaseHeld who (bitsOf v 4 4) s) else s)
  else if r = STK_CMD then
    some (if op = 2 then nextOr s (execTouchupRestock who (bitsOf v 3 18) s)
      else if op = 3 then nextOr s (execStockingAbort who s)
      else if op = 4 then nextOr s (execScrubCrateNow who (bitsOf v 3 18) s) else s)
  else if r = CW_PORT_CTL then some (nextOr s (execPortEnable who v s))
  else if r = CW_HOME_CMD then some (if bitsOf v 0 2 = 2 then nextOr s (execHomeTableClear who (bitsOf v 2 4) s) else s)
  else none

/-- The same of calibration and self-test (R481 to R484). -/
def State.writeCal (s : State) (who : Who) (r : Reg) (v : Nat) : Option State :=
  let op := bitsOf v 0 3
  let row := bitsOf v 3 8
  let stall := bitsOf v 11 6
  let unit := bitsOf v 3 2
  let index := bitsOf v 5 8
  let st := bitsOf v 13 6
  if r = CAL_CMD then
    some (if op = 1 then nextOr s (execCalibrationQueue who row stall s)
      else if op = 2 then nextOr s (execReferenceReestimate who row s)
      else if op = 3 then nextOr s (execSpareStallSubstitute who row stall s)
      else if op = 4 then nextOr s (execCalibrationWithdraw who row stall s) else s)
  else if r = CAL_REPAIR_DATA then some (nextOr s (execRepairAssign who v s))
  else if r = CAL_HOST_STAMP then
    let s1 := s.writeReg r 0 v
    some { s1 with cal := { s1.cal with
      stampAt := s1.rd WDN_ROUND.V, stampNow := s.now + 1,
      stampOld := if s.cal.stampNow = s.now + 1 then s.cal.stampOld else (s.rd CAL_HOST_STAMP.STAMP, s.cal.stampAt) } }
  else if r = BST_CMD then
    some (if bitAt v 19 then nextOr s (execSelfTestWithdraw who unit index st s)
      else if op = 5 then nextOr s (execSelfTestAll who unit index st s)
      else if 1 ≤ op ∧ op ≤ 4 then s.bstCmd who [op] unit index st else s)
  else if r = BST_FUSE_CMD then some (if bitAt v 0 then nextOr s (execFuseBurn who s) else s)
  else none

/-- The same of the event controller and the mode controller (R440, R443, R447, R451, R457). OP = 1 of MODE_CMD acts by MODE_CHANGE. -/
def State.writeEvc (s : State) (who : Who) (r : Reg) (i v : Nat) : Option State :=
  if r = EVC_SW_SET then some (nextOr s (execSoftwareEventSet who (bitsOf v 0 9) s))
  else if r = EVC_TMR_CMP then
    let s1 := s.writeReg r i v
    let cmp := s1.rd EVC_TMR_CMP.CMP i
    some (s1.setClerk i { s1.clerk i with armed := cmp != 0 && decide (s1.rd EVC_TIMER.V ≤ cmp) })
  else if r = EVC_SRC then
    let s1 := s.writeReg r i v
    some (if !s.on EVC_SRC.EN i && s1.on EVC_SRC.EN i && s1.rd EVC_SRC.COUNT i != 0 then
      { s1 with pendAt := FMap.set 0 s1.pendAt i (s1.now + 1) } else s1)
  else if r = EVC_CLK_CTL then
    let s1 := s.writeReg r i v
    some (s1.showClerk i (s1.ckState i))
  else if r = MODE_CMD then
    some (if bitsOf v 0 2 = 2 then nextOr s (execModeAbort who s) else if bitsOf v 0 2 = 3 then nextOr s (execBarrier who s) else s)
  else none

/-- The bits that a write of WDN_ERR may clear: those that the device has not set in the present cycle of CLK_AO (R12). -/
def State.clearable (s : State) (v : Nat) : Nat :=
  (((List.range 8).filter fun b => bitAt v b && FMap.get 0 s.warden.errAt b != s.now + 1).map fun b => 2 ^ b).sum

/-- The same of the warden and its reset registers (R487, R498, R502, R503, R529, R543). -/
def State.writeWdn (s : State) (who : Who) (r : Reg) (v : Nat) : Option State :=
  let op := bitsOf v 0 3
  let row := bitsOf v 5 8
  if r = WDN_CMD then some (if bitsOf v 0 2 = 1 then nextOr s (execRestart who s) else s)
  else if r = WDN_CTL then
    let s1 := s.writeReg r 0 v
    some (if s1.on WDN_CTL.SLEEP_EN then s1 else s1.wakeAll)
  else if r = WDN_MON_CTL then
    let s1 := s.writeReg r 0 v
    some (if s1.rd WDN_MON_CTL.TRIG = 1 ∧ s1.warden.pass.isEmpty then s1.startPass else s1)
  else if r = WDN_MON_CMD then some (if bitAt v 0 then nextOr s (execMonitorPassStart who s) else s)
  else if r = WDN_VR_VSET then some (nextOr s (execVsetWrite who v s))
  else if r = WDN_RST_CMD then
    some (if op = 1 then nextOr s (execDeviceReset who s)
      else if op = 2 then nextOr s (execQuarterReset who (bitsOf v 3 2) s)
      else if op = 3 then nextOr s (execRowReset who row s)
      else if op = 4 then nextOr s (execStallReset who row (bitsOf v 13 6) s) else s)
  else if r = WDN_WDOG then some (s.writeDog who v)
  else if r = WDN_ERR then some (s.writeReg r 0 (s.clearable v))
  else none

/-- The same of the security block (R516, R522). -/
def State.writeSec (s : State) (who : Who) (r : Reg) (v : Nat) : Option State :=
  let op := bitsOf v 0 3
  let f := bitsOf v 3 6
  let slot := bitsOf v 9 4
  if r = SEC_CMD then
    some (if op = 1 then nextOr s (execSvnCommit who s)
      else if op = 2 then nextOr s (execTenantKeyInstall who f s)
      else if op = 3 then nextOr s (execModelKeyInstall who slot s)
      else if op = 4 then nextOr s (execTenantKeyClear who f s)
      else if op = 5 then nextOr s (execModelKeyClear who slot s) else s)
  else if r = SEC_KEY_DATA0 then some (nextOr s (execKeyDataWrite who 0 v s))
  else if r = SEC_KEY_DATA1 then some (nextOr s (execKeyDataWrite who 1 v s))
  else if r = SEC_KEY_DATA2 then some (nextOr s (execKeyDataWrite who 2 v s))
  else if r = SEC_KEY_DATA3 then some (nextOr s (execKeyDataWrite who 3 v s))
  else none

/-- The same of a tally engine or a stall (R70, R75, R93, R139, R168); `u` is the row of a tally engine. -/
def State.writeUnit (s : State) (who : Who) (r : Reg) (i u v : Nat) : Option State :=
  let stall := bitsOf v 0 6
  let group := bitsOf v 6 2
  let op := bitsOf v 8 2
  if r = TAL_TILE_CMD then some (if 1 ≤ op then s.tileCmd who u stall group op else s)
  else if r = TAL_DRAIN_CMD then
    some (nextOr s (if bitAt v 6 then execDrainRelease who u stall s else execDrainRequest who u stall s))
  else if r = TAL_TRIM_DATA then some (nextOr s (execTrimDataWrite who u v s))
  else if r = STL_CTL then some (nextOr s (execStlCtlWrite who (rowOf i) (posOf i) v s))
  else if r = STL_SLICE_MAP then some (nextOr s (execStlSliceMapWrite who (rowOf i) (posOf i) v s))
  else none

/-- A function's own commands (R421). -/
def State.writeFn (s : State) (r : Reg) (f v : Nat) : Option State :=
  if r = TEN_STORE_CMD then
    some (if bitsOf v 0 2 = 1 then nextOr s (execStoreRegister f s) else if bitsOf v 0 2 = 2 then nextOr s (execStoreWithdraw f s) else s)
  else none

/-- A register takes the value written: by the command that its write is, or field by field under the access codes (R8, R9). -/
def State.writeEffect (s : State) (who : Who) (r : Reg) (i u v : Nat) : State :=
  let special := match r.blk with
    | .fnHost | .fnTen => s.writeFn r i v
    | .devHost | .srv | .kv | .prt | .stk | .chk | .mem | .cw => s.writeWork who r v
    | .evc | .mode => s.writeEvc who r i v
    | .cal | .bst => s.writeCal who r v
    | .wdn => s.writeWdn who r v
    | .sec => s.writeSec who r v
    | .wh | .tal | .stl => s.writeUnit who r i u v
  special.getD (s.writeReg r i v)

/-! ### Units that sleep or are in reset (R577) -/

/-- The unit of a block is in a reset. -/
def State.unitHeld (s : State) (b : Block) (u : Nat) : Bool :=
  match b with
  | .stl => s.boot.inReset.contains u
  | .tal => s.boot.inReset.contains (12288 + u)
  | .wh => s.boot.inReset.contains (12480 + u / 4)
  | _ => false

/-- A sleeping quarter wakes for an access to one of its weigh houses. -/
def State.wakeQuarter (s : State) (q : Nat) : State :=
  if s.rd WDN_STAT.THERM ≥ 3 ∨ s.rd WDN_RST_CAUSE.STATE = 5 ∨ s.warden.offQuarters.contains q then s
  else (s.wakeUnit (192 + q)).unitRuns (192 + q)

/-- An access wakes the sleeping unit of its block. -/
def State.wakeBlock (s : State) (b : Block) (u : Nat) : State :=
  match b with
  | .stl => s.wakeStall u
  | .tal => s.wakeRow u
  | .wh => s.wakeQuarter (u / 4)
  | _ => s

/-! ### Writes -/

/-- Who may write a register: a function its own window; the clerks alone the event controller and the tally engines (R93, R455); the I3C interface the reset registers and WDN_CMD (R498, R549); else the physical function and the clerks. -/
def mayWrite (who : Who) (r : Reg) : Bool :=
  match r.blk with
  | .fnHost | .fnTen => true
  | .evc | .tal => whoClerk who
  | .wdn => whoAdmin who || (who == .i3c && (r == WDN_CMD || decide (0x200 ≤ r.off)))
  | _ => whoAdmin who

/-- A whole register is written: a locked one is left alone and reported (R517), any other takes the value. -/
def State.writeWhole (s : State) (who : Who) (ri : RegInfo) (i u bar off v : Nat) : State :=
  if s.on SEC_STAT.LOCK && ri.fields.any (fun f => f.acc == .rl) then
    let fn := match who with
      | .func f => f
      | _ => 0
    ((s.secFlag SEC_ERR.RL_WRITE fn).bump SEC_RL_CNT.V).accessError who bar off true
  else s.writeEffect who ri.reg i u v

/-- A write of one register, whole or by halves (R11). A high half with no low half staged writes the fields above bit 31 alone. DESIGN CHOICE (log entry 67): a write of the register whole keeps a low half staged before it for a later write of its high half. -/
def State.writeAt (s : State) (who : Who) (ri : RegInfo) (i u bar off size v : Nat) : State :=
  let name := halfName bar off
  let s := s.keepHalves who name
  if size = 8 then s.writeWhole who ri i u bar off v
  else if !ri.wide then (if off % 8 = 0 then s.writeWhole who ri i u bar off v else s.accessError who bar off true)
  else if off % 8 = 0 then s.keepHalf who name true v
  else match s.staged who name with
    | some lo => (s.dropHalf who true).writeWhole who ri i u bar off (lo + 2 ^ 32 * v)
    | none => if ri.fields.any RField.writesHigh then s.writeWhole who ri i u bar off ((s.getReg ri.reg i).toNat % 2 ^ 32 + 2 ^ 32 * v) else s

/-- One dword of an MSI-X table entry (R412): address low, address high, data, vector control. -/
def MsixEntry.writeDword (e : MsixEntry) (k v : Nat) : MsixEntry :=
  match k with
  | 0 => { e with addr := e.addr / 2 ^ 32 * 2 ^ 32 + v }
  | 1 => { e with addr := e.addr % 2 ^ 32 + 2 ^ 32 * v }
  | 2 => { e with data := v }
  | _ => { e with masked := bitAt v 0 }

/-- A write of the MSI-X table (R412, R415): a vector that becomes unmasked sends its pending message. -/
def State.writeTable (s : State) (f off size v : Nat) : State :=
  let put (s : State) (o w : Nat) : State := s.modFunc f fun g => { g with
    table := FMap.modify MsixEntry.init g.table (o / 16) fun e => e.writeDword (o % 16 / 4) (w % 2 ^ 32) }
  ((if size = 8 then put (put s off v) (off + 4) (v / 2 ^ 32) else put s off v).dropHalves (.func f)).sendPending f

/-- A write in the function window (R412); the pending bits take none, and only a write of another offset is an access error. -/
def State.writeWindow (s : State) (f off size v : Nat) : State :=
  let who := Who.func f
  let reg (b : Block) : State := match s.regAt b (off % 0x1000 / 8 * 8) f with
    | some (ri, i) => s.writeAt who ri i f 0 off size v
    | none => (s.dropHalves who).accessError who 0 off true
  if off < 0x1000 then reg .fnHost
  else if off < 0x2000 then reg .fnTen
  else if off < 0x2400 then s.writeTable f (off - 0x2000) size v
  else if 0x3000 ≤ off ∧ off < 0x3008 then s.dropHalves who
  else (s.dropHalves who).accessError who 0 off true

/-- A write of a device block (R572, R576). -/
def State.writeDevice (s : State) (who : Who) (off size v : Nat) : State :=
  match siteOf off with
  | none => (s.dropHalves who).accessError who 0 off true
  | some (b, o, u) => match s.regAt b (o / 8 * 8) u with
    | none => (s.dropHalves who).accessError who 0 off true
    | some (ri, i) =>
      if !mayWrite who ri.reg then (s.dropHalves who).accessError who 0 off true
      else if s.unitHeld b u then s.dropHalves who
      else (s.wakeBlock b u).writeAt who ri i u 0 off size v

/-- A write of the order counter (R267 to R269, R578): bytes of a slip's body, or its seal word, whole or by halves. -/
def State.writeSlip (s : State) (f off size v : Nat) : State :=
  let n := off / 256
  let o := off % 256
  let slot := s.oslot f n
  let name := halfName 2 off
  if 0x10000 ≤ off then s
  else if slot.state = 1 then (s.dropHalves (.func f)).accessError (.func f) 2 off true
  else if o + size ≤ 0xF8 then
    let bytes := leBytes (min size 248) v
    s.setOslot f n { slot with body := (bytes.zipIdx).foldl (fun (m : FMap Nat) (p : Byte × Nat) => FMap.set 0 m (o + p.2) p.1.toNat) slot.body }
  else if o = 0xF8 ∧ size = 8 then (s.keepHalves (.func f) name).seal f n v
  else if o = 0xF8 ∧ size = 4 then (s.keepHalves (.func f) name).keepHalf (.func f) name true v
  else if o = 0xFC ∧ size = 4 then
    let s1 := s.keepHalves (.func f) name
    match s1.staged (.func f) name with
    | some lo => (s1.dropHalf (.func f) true).seal f n (lo + 2 ^ 32 * v)
    | none => s1.seal f n (2 ^ 32 * v)
  else (s.dropHalves (.func f)).accessError (.func f) 2 off true

/-- A write of configuration space that sets HOST_FN_STAT.MSIX_EN, Function Mask or HOST_FN_STAT.ATS_EN: offset 0 stands for the MSI-X Message Control word, offset 4 for ATS Control (log entry 27). -/
def State.writeConfig (s : State) (f off v : Nat) : State :=
  if !s.configOpen f then s
  else if off = 0 then ((s.wr HOST_FN_STAT.MSIX_EN f (bitsOf v 15 1)).modFunc f fun g => { g with funcMask := bitAt v 14 }).sendPending f
  else if off = 4 then
    let s1 := s.wr HOST_FN_STAT.ATS_EN f (bitsOf v 15 1)
    if bitAt v 15 then s1 else s1.modFunc f fun g => { g with cache := [] }
  else s

/-- The register of a device block that a BAR0 offset names exists and may be written over I3C. -/
def State.i3cOpen (s : State) (off : Nat) : Bool :=
  match siteOf off with
  | some (b, o, u) => (s.regAt b (o / 8 * 8) u).any fun p => mayWrite .i3c p.1.reg
  | none => false

/-- REGISTER_WRITE (R8 to R11, R571 to R579): `size` bytes of `val` at an offset of a BAR, by a function, by a clerk (its view of the device blocks, R576) or over I3C. BAR 8 stands for configuration space (log entry 27). -/
def execRegisterWrite (who : Who) (bar off size val : Nat) (s : State) : Result :=
  let v := val % 2 ^ (8 * size)
  if !s.memOpen who then .next s
  else match who with
    | .func f =>
      if 64 ≤ f then .next s
      else if bar = 8 then .next (s.writeConfig f off v)
      else
      let s := s.squareRuns
      if bar = 2 then .next (s.writeSlip f off size v)
      else if bar = 4 then .next (if f = 0 ∧ off < 0x1000000 then (s.dropHalves who).accessError who 4 off true else s)
      else if bar ≠ 0 ∨ 0x4000000 ≤ off then .next s
      else if (size ≠ 4 ∧ size ≠ 8) ∨ off % size ≠ 0 then .next ((s.dropHalves who).accessError who 0 off true)
      else if off < 0x1000000 then .next (s.writeWindow f off size v)
      else .next (s.writeDevice who off size v)
    | .clerk k =>
      if 8 ≤ k ∨ bar ≠ 0 ∨ off < 0x1000000 ∨ (size ≠ 4 ∧ size ≠ 8) ∨ off % size ≠ 0 then .next s else .next (s.squareRuns.writeDevice who off size v)
    | .i3c => if (size = 4 ∨ size = 8) ∧ off % size = 0 ∧ s.i3cOpen off then .next (s.squareRuns.writeDevice who off size v) else .next s

/-! ### Reads -/

/-- Answer a read. -/
def State.answer (s : State) (who : Who) (v : Nat) : State := s.send (.readData (whoCode who) v)

/-- All ones of an access of `size` bytes. -/
def allOnes (size : Nat) : Nat := 2 ^ (8 * size) - 1

/-- The RC fields that an access takes in return to their reset values (R8): all of them, or with `hi` those that reach above bit 31. -/
def RegInfo.clearRead (r : RegInfo) (hi : Bool) (w : Word64) : Word64 :=
  r.fields.foldl (fun w f => if f.acc = .rc ∧ (!hi ∨ 32 < f.lo + f.wd) then f.put w f.rst else w) w

/-- A read of one register, whole or by halves (R8, R11): the low half latches the high half of the same moment. -/
def State.readAt (s : State) (who : Who) (ri : RegInfo) (i u bar off size : Nat) : State :=
  let name := halfName bar off
  let s := s.keepHalves who name
  let w := (ri.readValue (if s.sameCycle ri.reg then s.sample ri.reg i else s.view ri.reg i u)).toNat
  let clear (hi : Bool) : State := s.clearSample ri.reg i (ri.clearRead hi)
  if size = 8 then (clear false).answer who w
  else if off % 8 = 0 then
    (if ri.wide then (clear false).keepHalf who name false (w / 2 ^ 32) else clear false).answer who (w % 2 ^ 32)
  else match s.latched who name with
    | some hi => (s.dropHalf who false).answer who hi
    | none => (clear true).answer who (w / 2 ^ 32)

/-- A read of a 64-bit word outside the register file (R271, R579), whole or by halves: the low half latches the high half of the same moment (R11). -/
def State.readWord (s : State) (who : Who) (bar off size w : Nat) : State :=
  let name := halfName bar off
  let s := s.keepHalves who name
  if size = 8 then s.answer who w
  else if off % 8 = 0 then (s.keepHalf who name false (w / 2 ^ 32)).answer who (w % 2 ^ 32)
  else match s.latched who name with
    | some hi => (s.dropHalf who false).answer who hi
    | none => s.answer who (w / 2 ^ 32)

/-- The bytes of an aligned access of a 64-bit word. -/
def wordPart (w off size : Nat) : Nat := if size = 8 then w else bitsOf w (8 * (off % 8)) 32

/-- The MSI-X table and the pending bits (R412). -/
def State.readTable (s : State) (f off size : Nat) : Nat :=
  if off < 0x2400 then
    let e := FMap.get MsixEntry.init (s.func f).table ((off - 0x2000) / 16)
    wordPart (if off % 16 < 8 then e.addr else e.data + 2 ^ 32 * ofBool e.masked) off size
  else if 0x3000 ≤ off ∧ off < 0x3008 then wordPart ((s.func f).pend.map fun v => 2 ^ v).sum off size
  else 0

/-- A read in the function window (R412). -/
def State.readWindow (s : State) (f off size : Nat) : State :=
  let who := Who.func f
  let reg (b : Block) : State := match s.regAt b (off % 0x1000 / 8 * 8) f with
    | some (ri, i) => s.readAt who ri i f 0 off size
    | none => (s.dropHalves who).answer who 0
  if off < 0x1000 then reg .fnHost
  else if off < 0x2000 then reg .fnTen
  else (s.dropHalves who).answer who (s.readTable f off size)

/-- A read of a device block (R572, R576, R577). -/
def State.readDevice (s : State) (who : Who) (off size : Nat) : State :=
  match siteOf off with
  | none => (s.dropHalves who).answer who 0
  | some (b, o, u) =>
    if s.unitHeld b u then (s.dropHalves who).answer who (allOnes size)
    else
      let s := s.wakeBlock b u
      match s.regAt b (o / 8 * 8) u with
      | none => (s.dropHalves who).answer who 0
      | some (ri, i) => s.readAt who ri i u 0 off size

/-- The 64-bit word of the order counter at an offset (R267, R271): the slot status at the seal word, zero elsewhere. -/
def State.slipWord (s : State) (f off : Nat) : Nat :=
  let o := s.oslot f (off / 256)
  if off % 256 < 0xF8 then 0
  else o.ticket + 2 ^ 32 * o.state + 2 ^ 40 * o.status + 2 ^ 48 * o.reason

/-- A journal entry in the layout of STK_JRN_DATA (R196). -/
def JEntry.word (e : JEntry) : Nat := e.state.code + 2 ^ 3 * e.count + 2 ^ 17 * e.image + 2 ^ 25 * e.fmt + 2 ^ 27 * ofBool e.paired

/-- A 64-bit word of the physical function's BAR4 (R579): the fault log, three copies, the stocking journal. The SRAM of the clerks reads as zero outside TEST. -/
def State.debugWord (s : State) (off : Nat) : Nat :=
  if off < 0x2000 then (s.getReg WDN_FLOG_DATA (off / 8)).toNat
  else if off / 8 * 8 = 0x2000 then (s.getReg WDN_FLOG_HEAD 0).toNat
  else if off / 8 * 8 = 0x2008 then (s.getReg WDN_RST_CAUSE 0).toNat
  else if off / 8 * 8 = 0x2010 then (s.getReg WDN_COLD_CNT 0).toNat
  else if 0x10000 ≤ off ∧ off < 0x10000 + 4 * 202752 then
    let j := (off - 0x10000) / 8 * 2
    (s.jrn j).word + 2 ^ 32 * (s.jrn (j + 1)).word
  else 0

/-- A read of BAR4 (R579), where the journal's words have 32 bits: in TEST the tightly coupled SRAM of a clerk answers what it holds, which the spec does not give: a free value (log entry 28). -/
def State.readDebug (s : State) (who : Who) (off size : Nat) : State :=
  if 0x400000 ≤ off ∧ off < 0x600000 ∧ s.rd WDN_RST_CAUSE.STATE = 3 then
    let (v, s1) := (s.dropHalves who).takeFree
    s1.answer who (v % 2 ^ (8 * size))
  else if 0x10000 ≤ off then (s.dropHalves who).answer who (wordPart (s.debugWord off) off size)
  else s.readWord who 4 off size (s.debugWord off)

/-- LOW_HALF_READ (R8 to R11, R571 to R580): a read of `size` bytes at an offset of a BAR; the low half of a 64-bit register latches its high half. A size or alignment that R10 does not accept returns all ones and counts as an access error. -/
def execLowHalfRead (who : Who) (bar off size : Nat) (s : State) : Result :=
  let bad := (size ≠ 4 ∧ size ≠ 8) ∨ off % size ≠ 0
  if !s.memOpen who then .next s
  else match who with
    | .func f =>
      if 64 ≤ f ∨ (bar ≠ 0 ∧ bar ≠ 2 ∧ bar ≠ 4) ∨ (bar = 0 ∧ 0x4000000 ≤ off) ∨ (bar = 2 ∧ 0x10000 ≤ off)
          ∨ (bar = 4 ∧ (f ≠ 0 ∨ 0x1000000 ≤ off)) then .next s
      else
      let s := s.squareRuns
      if bad then .next (((s.dropHalves who).accessError who bar off false).answer who (allOnes size))
      else if bar = 2 then .next (s.readWord who 2 off size (s.slipWord f off))
      else if bar = 4 then .next (s.readDebug who off size)
      else if off < 0x1000000 then .next (s.readWindow f off size)
      else if f ≠ 0 then .next ((s.dropHalves who).accessError who 0 off false)
      else .next (s.readDevice who off size)
    | .clerk k =>
      if 8 ≤ k ∨ bar ≠ 0 ∨ off < 0x1000000 ∨ 0x1400000 ≤ off then .next s
      else if bad then .next ((s.squareRuns.dropHalves who).answer who (allOnes size))
      else .next (s.squareRuns.readDevice who off size)
    | .i3c => .next s

end Sys2Proof.Machine
end

