-- ==== Sys2Proof/Machine/StartUp.lean ====
section
/-! DEFINITION. Start-up and charter recovery (R511 to R517, R533 to R538). -/

namespace Sys2Proof.Machine

/-! ### The charter (R512 to R515) -/

/-- Every byte of a span is zero. -/
def zeroSpan (b : List Byte) (o n : Nat) : Bool := leAt b o n == 0

/-- The parameters of a charter body as ID, the reserved word and VALUE. -/
def charterParams (b : List Byte) : List (Nat × Nat × Nat) :=
  let at0 := 0x200 + 136 * leAt b 6 2
  (List.range (leAt b 8 4)).map fun i => (leAt b (at0 + 16 * i) 4, leAt b (at0 + 16 * i + 4) 4, leAt b (at0 + 16 * i + 8) 8)

/-- A parameter's VALUE is in range (R514). -/
def paramOk (id v : Nat) : Bool :=
  match id with
  | 1 => decide (v ≤ 25)
  | 2 => decide (100 ≤ v % 2048 ∧ v % 2048 ≤ 1500) && bitsOf v 11 5 == 0 && v / 2 ^ 24 == 0
  | 3 => decide (v < 2 ^ 32)
  | 4 => decide (v ≤ 127)
  | 5 => true
  | 6 => bitsOf v 20 12 == 0
  | 7 => decide (v ≤ 1)
  | 8 => bitsOf v 2 14 == 0 && v / 2 ^ 32 == 0
  | 9 => true
  | 10 => true
  | 11 => decide (v ≤ 1)
  | _ => false

/-- The parameters of a copy meet R514: known IDs in range, and none twice, ID 6 once per regulator. -/
def paramsOk (ps : List (Nat × Nat × Nat)) : Bool :=
  ps.all (fun p => paramOk p.1 p.2.2 && p.2.1 == 0)
    && decide ((ps.map fun p => if p.1 = 6 then (6, bitsOf p.2.2 16 4) else (p.1, 0)).Nodup)

/-- The header and body of a copy are as R512 gives them. -/
def charterForm (b : List Byte) : Bool :=
  let keys := leAt b 6 2
  let params := leAt b 8 4
  b.take 4 == asciiBytes "WCHR" && leAt b 4 2 == 1 && decide (keys ≤ 16) && decide (params ≤ 256) && decide (leAt b 0xC 4 ≤ 64)
    && leAt b 0x10 8 == 136 * keys + 16 * params && decide (0x200 + 136 * keys + 16 * params ≤ b.length)
    && leAt b 0x18 8 % 4096 == 0 && decide (leAt b 0x20 4 ≤ 15 * 2 ^ 20)
    && zeroSpan b 0x24 28 && zeroSpan b 0x105 3 && zeroSpan b 0x18C 116
    && (List.range keys).all fun k => zeroSpan b (0x200 + 136 * k + 133) 3

/-- The body of a copy. -/
def charterBody (b : List Byte) : List Byte := (b.drop 0x200).take (leAt b 0x10 8)

/-- The Eweovin image of a copy. -/
def charterFw (b : List Byte) : List Byte := (b.drop (leAt b 0x18 8)).take (leAt b 0x20 4)

/-- The signature of a charter or Eweovin header, over its bytes 0x000–0x107, verifies under its signer's key (R512, R513, R515). -/
def signerOk (b : List Byte) : Bool := ecdsaOk ((b.drop 0x80).take 133) (b.take 0x108) (beAt b 0x108 66) (beAt b 0x14A 66)

/-- The Eweovin image is accepted (R515). -/
def State.fwAccepted (s : State) (fw : List Byte) : Bool :=
  decide (512 ≤ fw.length) && fw.take 4 == asciiBytes "WEWV" && decide (leAt fw 0xC 4 ≤ 64)
    && sha512 ((fw.drop 0x80).take 133) == Config.firmwareRoot && signerOk fw
    && sha512 (fw.drop 512) == (fw.drop 0x40).take 64 && decide (s.rd SEC_STAT.FW_SVN ≤ leAt fw 0xC 4)

/-- A charter copy is accepted (R513). -/
def State.charterAccepted (s : State) (b : List Byte) : Bool :=
  charterForm b && sha512 ((b.drop 0x80).take 133) == (if s.on SEC_STAT.OWNED then Config.ownerRoot else Config.charterRoot)
    && signerOk b && sha512 (charterBody b) == (b.drop 0x40).take 64 && decide (s.rd SEC_STAT.CH_SVN ≤ leAt b 0xC 4)
    && paramsOk (charterParams b) && s.fwAccepted (charterFw b)

/-- One parameter lands in its register or in the charter in use (R514). -/
def State.applyParam (s : State) (id v : Nat) : State :=
  match id with
  | 1 => s.wr SRV_PACE_MAX.PCT 0 v
  | 2 => (s.wr WDN_PCAP.CAP 0 (v % 2048)).wr WDN_PCAP.HYST 0 (bitsOf v 16 8)
  | 3 => s.wr SRV_ADP_POOL.GRANULES 0 v
  | 4 => s.wr CW_DEV.NUM 0 v
  | 5 => s.wr CW_DOMAIN.DOMAIN 0 v
  | 6 => s.setReg WDN_VR_CFG (bitsOf v 16 4) (BitVec.ofNat 64 (v - bitsOf v 16 4 * 2 ^ 16))
  | 7 => { s with charter := { s.charter with pmbusSlow := v == 1 } }
  | 8 => ((s.wr BST_POLICY.INSPECT_SERVE 0 v).wr BST_POLICY.FUSE_EN 0 (bitsOf v 1 1)).wr BST_POLICY.SHUT_WAIT 0 (bitsOf v 16 16)
  | 9 => { s with charter := { s.charter with kvMin := v } }
  | 10 => { s with charter := { s.charter with t1Reserve := v } }
  | 11 => { s with charter := { s.charter with keyHost := v == 1 } }
  | _ => s

/-- What an accepted copy gives beyond its parameters. -/
def charterOf (b : List Byte) : Charter :=
  { keys := (List.range (leAt b 6 2)).map fun k => (b.drop (0x200 + 136 * k)).take 133, svn := leAt b 0xC 4, fwSvn := leAt (charterFw b) 0xC 4, kvMin := 0, t1Reserve := 0, keyHost := false, pmbusSlow := false,
    digest := beNat (sha512 (b.take 0x200 ++ charterBody b)), fwDigest := beNat (((charterFw b).drop 0x40).take 64) }

/-- Steps 4 and 5 of start-up (R534): the parameters are applied, LOCK is set, Eweovin starts on every clerk, every unit is brought level, and the device is READY. -/
def State.enterReady (s : State) (copy : Nat) (b : List Byte) : State :=
  let s1 := (charterParams b).foldl (fun s p => s.applyParam p.1 p.2.2) { s with charter := charterOf b }
  let s2 := (s1.wr SEC_STAT.COPY 0 copy).wr SEC_STAT.LOCK 0 1
  let s3 := (List.range 8).foldl (fun s k => s.showClerk k ckIdle) s2
  let s4 := (scopeUnits 0).foldl State.catchUp s3
  let s5 := (s4.wr WDN_RST_CAUSE.STATE 0 1).fnEvent 0 5
  { s5 with warden := { s5.warden with kickRound := s5.rd WDN_ROUND.V } }

/-! ### Steps 1 to 3 (R533, R534) -/

/-- The selection that three samples of BOOT_SEL make (R533). -/
def bootSel (a b c : Nat) : Nat := if a % 4 = b % 4 ∧ b % 4 = c % 4 then a % 4 else 3

/-- A repair of the fuse map or of the repair log is applied (R477). -/
def State.applyRepair (s : State) (r : Repair) : State :=
  match r with
  | .spare sel l =>
    let ok := (spanned sel).all fun i => (s.jrn i).state == .verified
    { s with cal := { s.cal with repairs := FMap.set 0 s.cal.repairs sel (l + 2 ^ 10 + (if ok then 0 else 2 ^ 12)) } }
  | .slice sid c j => (s.wr (subField c) sid j).modStall sid fun st => { st with mapEff := (s.wr (subField c) sid j |>.getReg STL_SLICE_MAP sid).toNat }
  | .stall row p => (s.modRow row fun x => { x with subst := some p }).setStState (stallId row p) stFault

/-- START_UP (R533, R534 steps 1 to 3): r0 has come; three samples of the straps select the state entered; the fuse map and the repair log are applied. With 00 or 01 memory training starts on the stacks and on the channels fitted. A device that THERM holds stopped waits beyond step 2 (R548), and one in reset for want of a rail or a clock does not start. -/
def execStartUp (a b c : Nat) (fitted : List Nat) (s : State) : Result :=
  if !(s.boot.powered && s.boot.held && s.warden.rails.isEmpty) || s.warden.trip || s.warden.clkLost then .next s
  else
    let sel := bootSel a b c
    let s1 : State := { s with boot := { s.boot with held := false, begun := true, r0 := s.now } }
    let s2 := (s1.wr SEC_STAT.BOOT_SEL 0 sel).wr WDN_RST_CAUSE.BOOT_SEL 0 sel
    let s3 := (s2.cal.fuses ++ s2.cal.log).foldl State.applyRepair s2
    let s4 := { s3 with warden := { s3.warden with kickRound := s3.rd WDN_ROUND.V } }
    if 3 ≤ s4.rd WDN_STAT.THERM then .next s4
    else
      let s5 := s4.wr WDN_RST_CAUSE.STATE 0 (if sel = 0 then 0 else sel + 1)
      if 2 ≤ sel then .next s5
      else
        .next ((List.range 20 ++ (fitted.filter fun k => decide (k < 16)).map (20 + ·)).foldl (fun s u => s.setMemUnit u 1) s5)

/-- One unit's training ends (R389, R401): a unit that fails twice is FAILED, a mixed channel ABSENT, another UP. -/
def State.trainUnit (s : State) (t : TrainIn) (u : Nat) : State :=
  let fails := ((t.fails.find? fun f => f.1 == u).map (·.2)).getD 0
  let s1 := s.bump MEM_TRAIN_CNT.V 0 (min 2 (fails + 1))
  match (if u < 20 then some ⟨0, 1, 0, false⟩ else t.chans.find? fun c => 20 + c.chan == u : Option ChanIn) with
  | none => s.setMemUnit u 0
  | some c =>
    if c.mixed then (s1.setMemUnit u 0).memFlag MEM_ERR.TRAIN u
    else
      let s2 := s1.wr MEM_UNIT_STAT.KIND u c.kind
      if 2 ≤ fails then (s2.setMemUnit u 4).memFlag MEM_ERR.TRAIN u
      else
        let s3 := s2.setMemUnit u 2
        { s3 with mem := { s3.mem with
          dataGran := if u < 20 then s3.mem.dataGran else FMap.set 0 s3.mem.dataGran (u - 20) (channelGrans c.raw)
          access := if u < 20 then s3.mem.access else FMap.set 0 s3.mem.access (u - 20) s3.now
          passEnd := FMap.set 0 s3.mem.passEnd u (s3.rd WDN_ROUND.V + s3.passRounds)
          retrainAt := FMap.set 0 s3.mem.retrainAt u (s3.rd WDN_ROUND.V) } }

/-- Memory training ends on every unit that trains (R390, R398, R401): N, the granules outside the interleave, and the retired granules of each unit are shown. -/
def State.trainMemory (s : State) (t : TrainIn) : State :=
  let s1 := ((List.range 36).filter fun u => s.rd MEM_UNIT_STAT.STATE u == 1).foldl (fun s u => s.trainUnit t u) s
  let up := s1.tier2Up
  let grans := up.map fun c => FMap.get 0 s1.mem.dataGran c
  let least := grans.foldl min (grans.headD 0)
  let s2 := up.foldl (fun s c => s.wr MEM_UNIT_STAT.IDLE_GRAN (20 + c) ((FMap.get 0 s.mem.dataGran c - least) / 1024)) (s1.wr MEM_STAT.N 0 up.length)
  s2.mem.retired.foldl (fun s g => s.bump MEM_UNIT_STAT.RETIRED (s.unitOf g)) s2

/-- The stocking journal is rebuilt (R187); an uncorrectable entry reads as UNSETTLED and writes fault code 13 (R545). -/
def State.rebuildJournal (s : State) (bad : List Nat) : State :=
  let s1 := (bad.filter fun i => decide (i < jrnCount)).foldl (fun s i =>
    (s.setJrn i { s.jrn i with state := .unsettled }).faultLog 13 3 (quarterOf (rowOf (jrnStall i))) (rowOf (jrnStall i)) (posOf (jrnStall i))) s
  s1.stockStart

/-- Memory training has had its time (R401): 750,000 cycles from r0 + 253 with tier 2, 350,000 without. -/
def State.trainingDone (s : State) : Bool :=
  let tier2 := (List.range 16).any fun c => s.rd MEM_UNIT_STAT.STATE (20 + c) == 1
  decide (s.boot.r0 + 253 + (if tier2 then 750000 else 350000) ≤ s.now)

/-- START_UP_READY (R534 steps 3 to 5): memory training and the rebuild of the journal end; with BOOT_SEL 00 the first copy accepted, A then B, makes the device READY, and with neither it enters FAULT with fault code 7 (R513, R537). With BOOT_SEL 01 the charter comes through the mailbox instead. -/
def execStartUpReady (t : TrainIn) (bad : List Nat) (copyA copyB : List Byte) (s : State) : Result :=
  let st := s.rd WDN_RST_CAUSE.STATE
  if s.boot.held || !s.boot.begun || decide (3 ≤ s.rd WDN_STAT.THERM) || !(st == 0 || st == 2) || !s.trainingDone then .next s
  else
    let s1 := (s.trainMemory t).rebuildJournal bad
    if st = 2 then .next s1
    else if s1.charterAccepted copyA then .next (s1.enterReady 0 copyA)
    else if s1.charterAccepted copyB then .next (s1.enterReady 1 copyB)
    else .next (((s1.wr SEC_STAT.COPY 0 3).wr WDN_RST_CAUSE.STATE 0 4).faultLog 7 0 0 0 63)

/-! ### Recovery (R538) -/

/-- The physical function's mailbox takes a recovery object while the device is in RECOVERY. -/
def State.recoveryGo (s : State) (act : State → State) : State := if s.rd WDN_RST_CAUSE.STATE = 2 then s.doeGo 0 act else s

/-- The response to a recovery object: MSG + 0x80 and STATUS, 0 OK, 1 ORDER, 2 SIZE, 3 REJECTED. -/
def State.recoveryAnswer (s : State) (msg st : Nat) : State := s.send (.doe 0 (leBytes 1 (0x80 + msg) ++ leBytes 1 st ++ leBytes 2 0))

/-- RECOVERY_BEGIN: a transfer of SIZE bytes, 512 to 16,777,216; any earlier one is discarded. -/
def execRecoveryBegin (size : Nat) (s : State) : Result :=
  .next (s.recoveryGo fun s =>
    if 512 ≤ size ∧ size ≤ 16777216 then (({ s with boot := { s.boot with xfer := some (size, []) } } : State).recoveryAnswer 1 0)
    else s.recoveryAnswer 1 2)

/-- RECOVERY_DATA: 1 to 16,376 bytes at OFFSET, equal to the bytes received so far; a wrong OFFSET or a DATA without BEGIN is ORDER, data beyond SIZE is SIZE. -/
def execRecoveryData (offset : Nat) (data : List Byte) (s : State) : Result :=
  .next (s.recoveryGo fun s =>
    match s.boot.xfer with
    | none => s.recoveryAnswer 2 1
    | some (size, got) =>
      if offset ≠ got.length then s.recoveryAnswer 2 1
      else if data.isEmpty ∨ 16376 < data.length ∨ size < got.length + data.length then s.recoveryAnswer 2 2
      else ({ s with boot := { s.boot with xfer := some (size, got ++ data) } } : State).recoveryAnswer 2 0)

/-- RECOVERY_END: the copy received, held in tier 1, is read with its Eweovin image and checked under R513 and R515; what a read of it meets acts as R397 says of a device-private structure. Accepted, start-up resumes at step 4 with SEC_STAT.COPY = 2 (R529, R585); else the transfer is discarded. -/
def execRecoveryEnd (copyErr fwErr : MemErr) (s : State) : Result :=
  .next (s.recoveryGo fun s =>
    match s.boot.xfer with
    | none => s.recoveryAnswer 3 1
    | some (size, got) =>
      let s1 := (({ s with boot := { s.boot with xfer := none } } : State).corrected copyErr).corrected fwErr
      match copyErr.ue.or fwErr.ue with
      | some g => (s1.memUE g).deviceFault 5
      | none =>
      if got.length = size ∧ s1.charterAccepted got then
        (((s1.recoveryAnswer 3 0).wr WDN_RST_CAUSE.CAUSE 0 5).bump WDN_RST_CAUSE.RESETS).stockStart.enterReady 2 got
      else s1.recoveryAnswer 3 3)

end Sys2Proof.Machine
end

