-- ==== Sys2Proof/Machine/Dispatch.lean ====
section
/-! DEFINITION. The dispatch of a command to its meaning: one arm per constructor. -/

namespace Sys2Proof.Machine

/-- The effect of a command on everything but the queue. -/
def exec (i : Instr) (s : State) : Host.Outcome State Fault Refusal :=
  match i with
  | .registerWrite who bar off size val => Sys2Proof.Machine.execRegisterWrite who bar off size val s
  | .lowHalfRead who bar off size => Sys2Proof.Machine.execLowHalfRead who bar off size s
  | .stlClipCntRead who row stall => Sys2Proof.Machine.execStlClipCntRead who row stall s
  | .stlRefusedCntRead who row stall => Sys2Proof.Machine.execStlRefusedCntRead who row stall s
  | .wdnMonDataRead who => Sys2Proof.Machine.execWdnMonDataRead who s
  | .wakeRequest u => Sys2Proof.Machine.execWakeRequest u s
  | .wakeComplete u => Sys2Proof.Machine.execWakeComplete u s
  | .clockGatedEntry u => Sys2Proof.Machine.execClockGatedEntry u s
  | .biasOffEntry u => Sys2Proof.Machine.execBiasOffEntry u s
  | .descriptorArrival row stall waiting => Sys2Proof.Machine.execDescriptorArrival row stall waiting s
  | .stlCtlWrite who row stall val => Sys2Proof.Machine.execStlCtlWrite who row stall val s
  | .strikeIssue row stall edges => Sys2Proof.Machine.execStrikeIssue row stall edges s
  | .widenedPairIssue row stall edges => Sys2Proof.Machine.execWidenedPairIssue row stall edges s
  | .transposeStrikeIssue row stall edges => Sys2Proof.Machine.execTransposeStrikeIssue row stall edges s
  | .stagingBankWrite row stall tag bank => Sys2Proof.Machine.execStagingBankWrite row stall tag bank s
  | .strikeCodesReceived row stall c => Sys2Proof.Machine.execStrikeCodesReceived row stall c s
  | .sliceSubstitution row stall chan slice diffs => Sys2Proof.Machine.execSliceSubstitution row stall chan slice diffs s
  | .stlSliceMapWrite who row stall val => Sys2Proof.Machine.execStlSliceMapWrite who row stall val s
  | .planeSwap row stall => Sys2Proof.Machine.execPlaneSwap row stall s
  | .trimDataWrite who row val => Sys2Proof.Machine.execTrimDataWrite who row val s
  | .trimStep row stall group => Sys2Proof.Machine.execTrimStep row stall group s
  | .overflowPassEnd row stall ended => Sys2Proof.Machine.execOverflowPassEnd row stall ended s
  | .ledgerRowRetry row stall => Sys2Proof.Machine.execLedgerRowRetry row stall s
  | .strikeRelease row stall no fresh => Sys2Proof.Machine.execStrikeRelease row stall no fresh s
  | .vectorArrival row buf v => Sys2Proof.Machine.execVectorArrival row buf v s
  | .quantiseVector row buf => Sys2Proof.Machine.execQuantiseVector row buf s
  | .clipReplay row stall no fresh => Sys2Proof.Machine.execClipReplay row stall no fresh s
  | .clipSplit row stall no fresh => Sys2Proof.Machine.execClipSplit row stall no fresh s
  | .tileForceWide who row stall group => Sys2Proof.Machine.execTileForceWide who row stall group s
  | .tileReleaseForce who row stall group => Sys2Proof.Machine.execTileReleaseForce who row stall group s
  | .tileSetHold who row stall group => Sys2Proof.Machine.execTileSetHold who row stall group s
  | .stepMarker row => Sys2Proof.Machine.execStepMarker row s
  | .holdExpiry row stall group => Sys2Proof.Machine.execHoldExpiry row stall group s
  | .wideStormEvaluation row => Sys2Proof.Machine.execWideStormEvaluation row s
  | .refusalMarker row stall => Sys2Proof.Machine.execRefusalMarker row stall s
  | .reductionOutput row red tag => Sys2Proof.Machine.execReductionOutput row red tag s
  | .drainRequest who row target => Sys2Proof.Machine.execDrainRequest who row target s
  | .drainRelease who row target => Sys2Proof.Machine.execDrainRelease who row target s
  | .drainComplete row stall => Sys2Proof.Machine.execDrainComplete row stall s
  | .stockingJobStart who hdr table hdrErr tableErr => Sys2Proof.Machine.execStockingJobStart who hdr table hdrErr tableErr s
  | .touchupRestock who index => Sys2Proof.Machine.execTouchupRestock who index s
  | .stockingAbort who => Sys2Proof.Machine.execStockingAbort who s
  | .scrubCrateNow who index => Sys2Proof.Machine.execScrubCrateNow who index s
  | .crateProgramStart fetched => Sys2Proof.Machine.execCrateProgramStart fetched s
  | .crateProgramEnd index cellsOk => Sys2Proof.Machine.execCrateProgramEnd index cellsOk s
  | .settlePauseEnd => Sys2Proof.Machine.execSettlePauseEnd s
  | .touchupPassStart => Sys2Proof.Machine.execTouchupPassStart s
  | .touchupPassEnd index cellsOk => Sys2Proof.Machine.execTouchupPassEnd index cellsOk s
  | .scrubDue => Sys2Proof.Machine.execScrubDue s
  | .scrubCrateDone codes marginal => Sys2Proof.Machine.execScrubCrateDone codes marginal s
  | .modelLoad who slot hdr sects body => Sys2Proof.Machine.execModelLoad who slot hdr sects body s
  | .modelUnload who slot => Sys2Proof.Machine.execModelUnload who slot s
  | .shardRefetch who slot shard => Sys2Proof.Machine.execShardRefetch who slot shard s
  | .releaseHeld who slot => Sys2Proof.Machine.execReleaseHeld who slot s
  | .shardArrival slot gen shard addr data readable ats => Sys2Proof.Machine.execShardArrival slot gen shard addr data readable ats s
  | .slotReady slot => Sys2Proof.Machine.execSlotReady slot s
  | .slotRetired slot => Sys2Proof.Machine.execSlotRetired slot s
  | .shardScrubDue slot gen shard read ue => Sys2Proof.Machine.execShardScrubDue slot gen shard read ue s
  | .planeLoadRequest row stall owner idx which => Sys2Proof.Machine.execPlaneLoadRequest row stall owner idx which s
  | .planeLoadStart row stall ue => Sys2Proof.Machine.execPlaneLoadStart row stall ue s
  | .planeLoadDone row stall plane => Sys2Proof.Machine.execPlaneLoadDone row stall plane s
  | .decodeAttention seq layer pos query key value a => Sys2Proof.Machine.execDecodeAttention seq layer pos query key value a s
  | .freshBlockMerge seq layer pos head kv block row k v => Sys2Proof.Machine.execFreshBlockMerge seq layer pos head kv block row k v s
  | .pageManagerChange page change => Sys2Proof.Machine.execPageManagerChange page change s
  | .parkSequence seq => Sys2Proof.Machine.execParkSequence seq s
  | .resumeSequence seq readOk digestOk => Sys2Proof.Machine.execResumeSequence seq readOk digestOk s
  | .kvSlotCfgWrite who val => Sys2Proof.Machine.execKvSlotCfgWrite who val s
  | .slipSeal func slot val => Sys2Proof.Machine.execSlipSeal func slot val s
  | .generate func slot vocab crierVocab => Sys2Proof.Machine.execGenerate func slot vocab crierVocab s
  | .cancel func slot => Sys2Proof.Machine.execCancel func slot s
  | .streamOpen func slot => Sys2Proof.Machine.execStreamOpen func slot s
  | .frame func slot => Sys2Proof.Machine.execFrame func slot s
  | .streamClose func slot => Sys2Proof.Machine.execStreamClose func slot s
  | .tune func slot graphOk => Sys2Proof.Machine.execTune func slot graphOk s
  | .sequenceActivate seq => Sys2Proof.Machine.execSequenceActivate seq s
  | .stepStart => Sys2Proof.Machine.execStepStart s
  | .stepEnd => Sys2Proof.Machine.execStepEnd s
  | .emptyStep => Sys2Proof.Machine.execEmptyStep s
  | .stormCeilingLower row => Sys2Proof.Machine.execStormCeilingLower row s
  | .stormCeilingRestore slot => Sys2Proof.Machine.execStormCeilingRestore slot s
  | .positionStart seq toks vocab save routes => Sys2Proof.Machine.execPositionStart seq toks vocab save routes s
  | .positionEnd seq logits kv e => Sys2Proof.Machine.execPositionEnd seq logits kv e s
  | .positionCommit seq iso => Sys2Proof.Machine.execPositionCommit seq iso s
  | .msiModerationTimeout func ticket => Sys2Proof.Machine.execMsiModerationTimeout func ticket s
  | .rollRidxPoll func ticket ridx => Sys2Proof.Machine.execRollRidxPoll func ticket ridx s
  | .verifyPass seq crier main => Sys2Proof.Machine.execVerifyPass seq crier main s
  | .specPauseEnd seq => Sys2Proof.Machine.execSpecPauseEnd seq s
  | .frameInEdge => Sys2Proof.Machine.execFrameInEdge s
  | .framePeriodTick stream => Sys2Proof.Machine.execFramePeriodTick stream s
  | .frameComplete stream output => Sys2Proof.Machine.execFrameComplete stream output s
  | .funcCeilWrite who val => Sys2Proof.Machine.execFuncCeilWrite who val s
  | .adapterLoad who slot image digestOk => Sys2Proof.Machine.execAdapterLoad who slot image digestOk s
  | .adapterUnload who adapter => Sys2Proof.Machine.execAdapterUnload who adapter s
  | .roundEnd func done parts => Sys2Proof.Machine.execRoundEnd func done parts s
  | .portEnable who val => Sys2Proof.Machine.execPortEnable who val s
  | .portRetrain who val => Sys2Proof.Machine.execPortRetrain who val s
  | .trainingTrialFail port => Sys2Proof.Machine.execTrainingTrialFail port s
  | .hello port h version role dev nport domain bufs => Sys2Proof.Machine.execHello port h version role dev nport domain bufs s
  | .helloTimer port => Sys2Proof.Machine.execHelloTimer port s
  | .idleFrame port h => Sys2Proof.Machine.execIdleFrame port h s
  | .reach port h mask => Sys2Proof.Machine.execReach port h mask s
  | .reachTimer => Sys2Proof.Machine.execReachTimer s
  | .nak port h expect => Sys2Proof.Machine.execNak port h expect s
  | .down port h => Sys2Proof.Machine.execDown port h s
  | .dataFrame port h vc seq body => Sys2Proof.Machine.execDataFrame port h vc seq body s
  | .uncorrectableCodeword port => Sys2Proof.Machine.execUncorrectableCodeword port s
  | .ackTimeout port => Sys2Proof.Machine.execAckTimeout port s
  | .cartSend port vc => Sys2Proof.Machine.execCartSend port vc s
  | .dispatch port idx hidden out => Sys2Proof.Machine.execDispatch port idx hidden out s
  | .returnCart port idx routes => Sys2Proof.Machine.execReturnCart port idx routes s
  | .part port idx => Sys2Proof.Machine.execPart port idx s
  | .receipt port idx => Sys2Proof.Machine.execReceipt port idx s
  | .retract port idx => Sys2Proof.Machine.execRetract port idx s
  | .fence port idx => Sys2Proof.Machine.execFence port idx s
  | .unfence port idx => Sys2Proof.Machine.execUnfence port idx s
  | .homeTableLoad who slot table => Sys2Proof.Machine.execHomeTableLoad who slot table s
  | .homeTableClear who slot => Sys2Proof.Machine.execHomeTableClear who slot s
  | .homeWaitTimeout seq => Sys2Proof.Machine.execHomeWaitTimeout seq s
  | .receiptSend step dst => Sys2Proof.Machine.execReceiptSend step dst s
  | .pendingTimeout src step => Sys2Proof.Machine.execPendingTimeout src step s
  | .probeStrike row stall edges => Sys2Proof.Machine.execProbeStrike row stall edges s
  | .pairCompare row stall no row2 stall2 no2 => Sys2Proof.Machine.execPairCompare row stall no row2 stall2 no2 s
  | .inspectorJobStart ue => Sys2Proof.Machine.execInspectorJobStart ue s
  | .inspectorVerdict job passed => Sys2Proof.Machine.execInspectorVerdict job passed s
  | .disputeDeadline job => Sys2Proof.Machine.execDisputeDeadline job s
  | .checksumReloadDone row stall => Sys2Proof.Machine.execChecksumReloadDone row stall s
  | .granuleRetire gran => Sys2Proof.Machine.execGranuleRetire gran s
  | .patrolScrub unit corrected ue content => Sys2Proof.Machine.execPatrolScrub unit corrected ue content s
  | .scrubPeriodEnd unit => Sys2Proof.Machine.execScrubPeriodEnd unit s
  | .t2SelfRefreshEntry chan => Sys2Proof.Machine.execT2SelfRefreshEntry chan s
  | .periodicRetrain unit => Sys2Proof.Machine.execPeriodicRetrain unit s
  | .linkTrainingDone gens widths => Sys2Proof.Machine.execLinkTrainingDone gens widths s
  | .powerStateWrite func d3 => Sys2Proof.Machine.execPowerStateWrite func d3 s
  | .msixUnmask func vector => Sys2Proof.Machine.execMsixUnmask func vector s
  | .invalidationRequest func page tag late => Sys2Proof.Machine.execInvalidationRequest func page tag late s
  | .hostReadFailure kind ats => Sys2Proof.Machine.execHostReadFailure kind ats s
  | .quotaWrite who val => Sys2Proof.Machine.execQuotaWrite who val s
  | .storeRegister func => Sys2Proof.Machine.execStoreRegister func s
  | .storeWithdraw func => Sys2Proof.Machine.execStoreWithdraw func s
  | .functionLevelReset func => Sys2Proof.Machine.execFunctionLevelReset func s
  | .pfFunctionLevelReset => Sys2Proof.Machine.execPfFunctionLevelReset s
  | .flrComplete func => Sys2Proof.Machine.execFlrComplete func s
  | .numvfsWrite vfEnable ari num => Sys2Proof.Machine.execNumvfsWrite vfEnable ari num s
  | .linkReset dlDown => Sys2Proof.Machine.execLinkReset dlDown s
  | .doeDiscovery func index => Sys2Proof.Machine.execDoeDiscovery func index s
  | .doeAbort func => Sys2Proof.Machine.execDoeAbort func s
  | .handlerEntry => Sys2Proof.Machine.execHandlerEntry s
  | .handlerExit k => Sys2Proof.Machine.execHandlerExit k s
  | .clerkWfi k => Sys2Proof.Machine.execClerkWfi k s
  | .clerkClockGate k => Sys2Proof.Machine.execClerkClockGate k s
  | .squarePllStop => Sys2Proof.Machine.execSquarePllStop s
  | .squarePllRestart => Sys2Proof.Machine.execSquarePllRestart s
  | .softwareEventSet who source => Sys2Proof.Machine.execSoftwareEventSet who source s
  | .clerkTimerExpiry k => Sys2Proof.Machine.execClerkTimerExpiry k s
  | .eventNorouteTimeout source => Sys2Proof.Machine.execEventNorouteTimeout source s
  | .modeChange who scope record => Sys2Proof.Machine.execModeChange who scope record s
  | .modeAbort who => Sys2Proof.Machine.execModeAbort who s
  | .barrier who => Sys2Proof.Machine.execBarrier who s
  | .barrierComplete => Sys2Proof.Machine.execBarrierComplete s
  | .modeCloseComplete => Sys2Proof.Machine.execModeCloseComplete s
  | .modeOpen late => Sys2Proof.Machine.execModeOpen late s
  | .modeCloseTimeout => Sys2Proof.Machine.execModeCloseTimeout s
  | .modeStageTimeout cls idx => Sys2Proof.Machine.execModeStageTimeout cls idx s
  | .modeOpenResend cls idx acked => Sys2Proof.Machine.execModeOpenResend cls idx acked s
  | .unitCatchup cls idx => Sys2Proof.Machine.execUnitCatchup cls idx s
  | .calibrationQueue who row stall => Sys2Proof.Machine.execCalibrationQueue who row stall s
  | .referenceReestimate who row => Sys2Proof.Machine.execReferenceReestimate who row s
  | .spareStallSubstitute who row stall => Sys2Proof.Machine.execSpareStallSubstitute who row stall s
  | .calibrationWithdraw who row stall => Sys2Proof.Machine.execCalibrationWithdraw who row stall s
  | .calibrationRunStart => Sys2Proof.Machine.execCalibrationRunStart s
  | .blockModeSwitch row stall => Sys2Proof.Machine.execBlockModeSwitch row stall s
  | .calibrationFit row stall group fit => Sys2Proof.Machine.execCalibrationFit row stall group fit s
  | .periodicCalibration row stall => Sys2Proof.Machine.execPeriodicCalibration row stall s
  | .repairAssign who val => Sys2Proof.Machine.execRepairAssign who val s
  | .selfTestLogic who unit index stall => Sys2Proof.Machine.execSelfTestLogic who unit index stall s
  | .selfTestMemory who unit index stall => Sys2Proof.Machine.execSelfTestMemory who unit index stall s
  | .selfTestConverter who unit index stall => Sys2Proof.Machine.execSelfTestConverter who unit index stall s
  | .crateLineTest who unit index stall => Sys2Proof.Machine.execCrateLineTest who unit index stall s
  | .selfTestAll who unit index stall => Sys2Proof.Machine.execSelfTestAll who unit index stall s
  | .selfTestWithdraw who unit index stall => Sys2Proof.Machine.execSelfTestWithdraw who unit index stall s
  | .selfTestDeferredStart => Sys2Proof.Machine.execSelfTestDeferredStart s
  | .selfTestDone o => Sys2Proof.Machine.execSelfTestDone o s
  | .fuseBurn who => Sys2Proof.Machine.execFuseBurn who s
  | .shutWaitTimeout row => Sys2Proof.Machine.execShutWaitTimeout row s
  | .wardenRound r => Sys2Proof.Machine.execWardenRound r s
  | .orderlyStopComplete acked => Sys2Proof.Machine.execOrderlyStopComplete acked s
  | .restart who => Sys2Proof.Machine.execRestart who s
  | .restartRailTimeout => Sys2Proof.Machine.execRestartRailTimeout s
  | .vsetWrite who val => Sys2Proof.Machine.execVsetWrite who val s
  | .monitorPassStart who => Sys2Proof.Machine.execMonitorPassStart who s
  | .monitorResult code code2 inTol => Sys2Proof.Machine.execMonitorResult code code2 inTol s
  | .tripCounterExpiry => Sys2Proof.Machine.execTripCounterExpiry s
  | .clkAoLoss => Sys2Proof.Machine.execClkAoLoss s
  | .svnCommit who => Sys2Proof.Machine.execSvnCommit who s
  | .keyDataWrite who idx val => Sys2Proof.Machine.execKeyDataWrite who idx val s
  | .tenantKeyInstall who f => Sys2Proof.Machine.execTenantKeyInstall who f s
  | .modelKeyInstall who slot => Sys2Proof.Machine.execModelKeyInstall who slot s
  | .tenantKeyClear who f => Sys2Proof.Machine.execTenantKeyClear who f s
  | .modelKeyClear who slot => Sys2Proof.Machine.execModelKeyClear who slot s
  | .getVersion port => Sys2Proof.Machine.execGetVersion port s
  | .getCapabilities port => Sys2Proof.Machine.execGetCapabilities port s
  | .negotiateAlgorithms port p521 hash512 dhe521 gcm256 => Sys2Proof.Machine.execNegotiateAlgorithms port p521 hash512 dhe521 gcm256 s
  | .getDigests port => Sys2Proof.Machine.execGetDigests port s
  | .getCertificate port slot off len => Sys2Proof.Machine.execGetCertificate port slot off len s
  | .challenge port slot => Sys2Proof.Machine.execChallenge port slot s
  | .getMeasurements port index signed => Sys2Proof.Machine.execGetMeasurements port index signed s
  | .keyExchange port slot => Sys2Proof.Machine.execKeyExchange port slot s
  | .finish port id verified => Sys2Proof.Machine.execFinish port id verified s
  | .heartbeat port id => Sys2Proof.Machine.execHeartbeat port id s
  | .keyUpdate port id op => Sys2Proof.Machine.execKeyUpdate port id op s
  | .endSession port id => Sys2Proof.Machine.execEndSession port id s
  | .getCsr port => Sys2Proof.Machine.execGetCsr port s
  | .setCertificate port slot chain => Sys2Proof.Machine.execSetCertificate port slot chain s
  | .setTenantKey port id f key => Sys2Proof.Machine.execSetTenantKey port id f key s
  | .setModelKey port id slot key => Sys2Proof.Machine.execSetModelKey port id slot key s
  | .getNonce f => Sys2Proof.Machine.execGetNonce f s
  | .openSession f nonceT mac => Sys2Proof.Machine.execOpenSession f nonceT mac s
  | .closeSession f => Sys2Proof.Machine.execCloseSession f s
  | .coldPowerOn => Sys2Proof.Machine.execColdPowerOn s
  | .perstNFall => Sys2Proof.Machine.execPerstNFall s
  | .pwrOkFall => Sys2Proof.Machine.execPwrOkFall s
  | .deviceReset who => Sys2Proof.Machine.execDeviceReset who s
  | .quarterReset who q => Sys2Proof.Machine.execQuarterReset who q s
  | .rowReset who row => Sys2Proof.Machine.execRowReset who row s
  | .stallReset who row stall => Sys2Proof.Machine.execStallReset who row stall s
  | .startUp a b c fitted => Sys2Proof.Machine.execStartUp a b c fitted s
  | .startUpReady t bad copyA copyB => Sys2Proof.Machine.execStartUpReady t bad copyA copyB s
  | .recoveryBegin size => Sys2Proof.Machine.execRecoveryBegin size s
  | .recoveryData offset data => Sys2Proof.Machine.execRecoveryData offset data s
  | .recoveryEnd copyErr fwErr => Sys2Proof.Machine.execRecoveryEnd copyErr fwErr s
  | .watchdogKick who val => Sys2Proof.Machine.execWatchdogKick who val s
  | .watchdogExpiry => Sys2Proof.Machine.execWatchdogExpiry s
  | .bridgeFlitFailure resends => Sys2Proof.Machine.execBridgeFlitFailure resends s
  | .trainingTrialPass port corr lock uncorr => Sys2Proof.Machine.execTrainingTrialPass port corr lock uncorr s
  | .stoppingChainRead temps => Sys2Proof.Machine.execStoppingChainRead temps s
  | .clkAoReturn => Sys2Proof.Machine.execClkAoReturn s
  | .vddAoLoss => Sys2Proof.Machine.execVddAoLoss s
  | .doeObjectError func vendor typ len => Sys2Proof.Machine.execDoeObjectError func vendor typ len s
  | .mctpControlMessage command => Sys2Proof.Machine.execMctpControlMessage command s

end Sys2Proof.Machine
end

