-- ==== Sys2Proof/Machine/Tick.lean ====
section
/-! DEFINITION. One cycle of CLK_AO: the model's time (log entry 1). -/

namespace Sys2Proof.Machine

/-- One CLK_AO cycle passes: EVC_TIMER counts it (R457). None passes while VDD_AO is off or CLK_AO has stopped (R496, R564). -/
def State.tick (s : State) : State :=
  if s.boot.powered && !s.warden.clkLost then { s with now := s.now + 1 }.bump EVC_TIMER.V else s

end Sys2Proof.Machine
end

