-- ==== Sys2Proof/Frames.lean ====
section
/-! DEFINITION. What each command may change: the vocabulary of the frame statements. Tables written from the effects that the rules give each command. -/

namespace Sys2Proof

open Sys2Proof.Machine

/-- The families of the opcode table. -/
inductive Family where
  | access | strike | row | stocking | model | serving | cartway | checking | host | control | calibration | warden | security | reset
deriving DecidableEq, Repr

/-- The parts of the state beside the register file. -/
inductive Part where
  | pending | now | free | halves | outbox | stalls | groups | rows | jobs | nextJob | cperLost | journal | digests | restocked | images | stock | working | scrub | slots | seqs | pages | nextPage | rolls | paces | sched | adapters | tunes | cart | mem | charter | funcs | clerks | pendAt | modeCtl | sleep | gatedAt | wakeAt | port0 | warden | boot | cal | sec | duty | level
deriving DecidableEq, Repr

/-- A part is the same in two states. -/
def Part.same (s t : State) : Part → Prop
  | .pending => t.pending = s.pending
  | .now => t.now = s.now
  | .free => t.free = s.free
  | .halves => t.halves = s.halves
  | .outbox => t.outbox = s.outbox
  | .stalls => t.stalls = s.stalls
  | .groups => t.groups = s.groups
  | .rows => t.rows = s.rows
  | .jobs => t.jobs = s.jobs
  | .nextJob => t.nextJob = s.nextJob
  | .cperLost => t.cperLost = s.cperLost
  | .journal => t.journal = s.journal
  | .digests => t.digests = s.digests
  | .restocked => t.restocked = s.restocked
  | .images => t.images = s.images
  | .stock => t.stock = s.stock
  | .working => t.working = s.working
  | .scrub => t.scrub = s.scrub
  | .slots => t.slots = s.slots
  | .seqs => t.seqs = s.seqs
  | .pages => t.pages = s.pages
  | .nextPage => t.nextPage = s.nextPage
  | .rolls => t.rolls = s.rolls
  | .paces => t.paces = s.paces
  | .sched => t.sched = s.sched
  | .adapters => t.adapters = s.adapters
  | .tunes => t.tunes = s.tunes
  | .cart => t.cart = s.cart
  | .mem => t.mem = s.mem
  | .charter => t.charter = s.charter
  | .funcs => t.funcs = s.funcs
  | .clerks => t.clerks = s.clerks
  | .pendAt => t.pendAt = s.pendAt
  | .modeCtl => t.modeCtl = s.modeCtl
  | .sleep => t.sleep = s.sleep
  | .gatedAt => t.gatedAt = s.gatedAt
  | .wakeAt => t.wakeAt = s.wakeAt
  | .port0 => t.port0 = s.port0
  | .warden => t.warden = s.warden
  | .boot => t.boot = s.boot
  | .cal => t.cal = s.cal
  | .sec => t.sec = s.sec
  | .duty => t.duty = s.duty
  | .level => t.level = s.level

/-- The family of a command. -/
def Instr.family : Instr → Family
  | .registerWrite _ _ _ _ _ => .access
  | .lowHalfRead _ _ _ _ => .access
  | .stlClipCntRead _ _ _ => .access
  | .stlRefusedCntRead _ _ _ => .access
  | .wdnMonDataRead _ => .access
  | .wakeRequest _ => .access
  | .wakeComplete _ => .access
  | .clockGatedEntry _ => .access
  | .biasOffEntry _ => .access
  | .descriptorArrival _ _ _ => .strike
  | .stlCtlWrite _ _ _ _ => .strike
  | .strikeIssue _ _ _ => .strike
  | .widenedPairIssue _ _ _ => .strike
  | .transposeStrikeIssue _ _ _ => .strike
  | .stagingBankWrite _ _ _ _ => .strike
  | .strikeCodesReceived _ _ _ => .strike
  | .sliceSubstitution _ _ _ _ _ => .strike
  | .stlSliceMapWrite _ _ _ _ => .strike
  | .planeSwap _ _ => .strike
  | .trimDataWrite _ _ _ => .strike
  | .trimStep _ _ _ => .strike
  | .overflowPassEnd _ _ _ => .strike
  | .ledgerRowRetry _ _ => .strike
  | .strikeRelease _ _ _ _ => .strike
  | .vectorArrival _ _ _ => .row
  | .quantiseVector _ _ => .row
  | .clipReplay _ _ _ _ => .strike
  | .clipSplit _ _ _ _ => .strike
  | .tileForceWide _ _ _ _ => .row
  | .tileReleaseForce _ _ _ _ => .row
  | .tileSetHold _ _ _ _ => .row
  | .stepMarker _ => .row
  | .holdExpiry _ _ _ => .row
  | .wideStormEvaluation _ => .row
  | .refusalMarker _ _ => .row
  | .reductionOutput _ _ _ => .row
  | .drainRequest _ _ _ => .row
  | .drainRelease _ _ _ => .row
  | .drainComplete _ _ => .row
  | .stockingJobStart _ _ _ _ _ => .stocking
  | .touchupRestock _ _ => .stocking
  | .stockingAbort _ => .stocking
  | .scrubCrateNow _ _ => .stocking
  | .crateProgramStart _ => .stocking
  | .crateProgramEnd _ _ => .stocking
  | .settlePauseEnd => .stocking
  | .touchupPassStart => .stocking
  | .touchupPassEnd _ _ => .stocking
  | .scrubDue => .stocking
  | .scrubCrateDone _ _ => .stocking
  | .modelLoad _ _ _ _ _ => .model
  | .modelUnload _ _ => .model
  | .shardRefetch _ _ _ => .model
  | .releaseHeld _ _ => .model
  | .shardArrival _ _ _ _ _ _ _ => .model
  | .slotReady _ => .model
  | .slotRetired _ => .model
  | .shardScrubDue _ _ _ _ _ => .model
  | .planeLoadRequest _ _ _ _ _ => .model
  | .planeLoadStart _ _ _ => .model
  | .planeLoadDone _ _ _ => .model
  | .decodeAttention _ _ _ _ _ _ _ => .model
  | .freshBlockMerge _ _ _ _ _ _ _ _ _ => .model
  | .pageManagerChange _ _ => .model
  | .parkSequence _ => .model
  | .resumeSequence _ _ _ => .model
  | .kvSlotCfgWrite _ _ => .model
  | .slipSeal _ _ _ => .serving
  | .generate _ _ _ _ => .serving
  | .cancel _ _ => .serving
  | .streamOpen _ _ => .serving
  | .frame _ _ => .serving
  | .streamClose _ _ => .serving
  | .tune _ _ _ => .serving
  | .sequenceActivate _ => .serving
  | .stepStart => .serving
  | .stepEnd => .serving
  | .emptyStep => .serving
  | .stormCeilingLower _ => .serving
  | .stormCeilingRestore _ => .serving
  | .positionStart _ _ _ _ _ => .serving
  | .positionEnd _ _ _ _ => .serving
  | .positionCommit _ _ => .serving
  | .msiModerationTimeout _ _ => .serving
  | .rollRidxPoll _ _ _ => .serving
  | .verifyPass _ _ _ => .serving
  | .specPauseEnd _ => .serving
  | .frameInEdge => .serving
  | .framePeriodTick _ => .serving
  | .frameComplete _ _ => .serving
  | .funcCeilWrite _ _ => .serving
  | .adapterLoad _ _ _ _ => .serving
  | .adapterUnload _ _ => .serving
  | .roundEnd _ _ _ => .serving
  | .portEnable _ _ => .cartway
  | .portRetrain _ _ => .cartway
  | .trainingTrialFail _ => .cartway
  | .hello _ _ _ _ _ _ _ _ => .cartway
  | .helloTimer _ => .cartway
  | .idleFrame _ _ => .cartway
  | .reach _ _ _ => .cartway
  | .reachTimer => .cartway
  | .nak _ _ _ => .cartway
  | .down _ _ => .cartway
  | .dataFrame _ _ _ _ _ => .cartway
  | .uncorrectableCodeword _ => .cartway
  | .ackTimeout _ => .cartway
  | .cartSend _ _ => .cartway
  | .dispatch _ _ _ _ => .cartway
  | .returnCart _ _ _ => .cartway
  | .part _ _ => .cartway
  | .receipt _ _ => .cartway
  | .retract _ _ => .cartway
  | .fence _ _ => .cartway
  | .unfence _ _ => .cartway
  | .homeTableLoad _ _ _ => .cartway
  | .homeTableClear _ _ => .cartway
  | .homeWaitTimeout _ => .cartway
  | .receiptSend _ _ => .cartway
  | .pendingTimeout _ _ => .cartway
  | .probeStrike _ _ _ => .strike
  | .pairCompare _ _ _ _ _ _ => .checking
  | .inspectorJobStart _ => .checking
  | .inspectorVerdict _ _ => .checking
  | .disputeDeadline _ => .checking
  | .checksumReloadDone _ _ => .checking
  | .granuleRetire _ => .checking
  | .patrolScrub _ _ _ _ => .checking
  | .scrubPeriodEnd _ => .checking
  | .t2SelfRefreshEntry _ => .checking
  | .periodicRetrain _ => .checking
  | .linkTrainingDone _ _ => .host
  | .powerStateWrite _ _ => .host
  | .msixUnmask _ _ => .host
  | .invalidationRequest _ _ _ _ => .host
  | .hostReadFailure _ _ => .host
  | .quotaWrite _ _ => .host
  | .storeRegister _ => .host
  | .storeWithdraw _ => .host
  | .functionLevelReset _ => .host
  | .pfFunctionLevelReset => .host
  | .flrComplete _ => .host
  | .numvfsWrite _ _ _ => .host
  | .linkReset _ => .host
  | .doeDiscovery _ _ => .host
  | .doeAbort _ => .host
  | .handlerEntry => .control
  | .handlerExit _ => .control
  | .clerkWfi _ => .control
  | .clerkClockGate _ => .control
  | .squarePllStop => .control
  | .squarePllRestart => .control
  | .softwareEventSet _ _ => .control
  | .clerkTimerExpiry _ => .control
  | .eventNorouteTimeout _ => .control
  | .modeChange _ _ _ => .control
  | .modeAbort _ => .control
  | .barrier _ => .control
  | .barrierComplete => .control
  | .modeCloseComplete => .control
  | .modeOpen _ => .control
  | .modeCloseTimeout => .control
  | .modeStageTimeout _ _ => .control
  | .modeOpenResend _ _ _ => .control
  | .unitCatchup _ _ => .control
  | .calibrationQueue _ _ _ => .calibration
  | .referenceReestimate _ _ => .calibration
  | .spareStallSubstitute _ _ _ => .calibration
  | .calibrationWithdraw _ _ _ => .calibration
  | .calibrationRunStart => .calibration
  | .blockModeSwitch _ _ => .calibration
  | .calibrationFit _ _ _ _ => .calibration
  | .periodicCalibration _ _ => .calibration
  | .repairAssign _ _ => .calibration
  | .selfTestLogic _ _ _ _ => .calibration
  | .selfTestMemory _ _ _ _ => .calibration
  | .selfTestConverter _ _ _ _ => .calibration
  | .crateLineTest _ _ _ _ => .calibration
  | .selfTestAll _ _ _ _ => .calibration
  | .selfTestWithdraw _ _ _ _ => .calibration
  | .selfTestDeferredStart => .calibration
  | .selfTestDone _ => .calibration
  | .fuseBurn _ => .calibration
  | .shutWaitTimeout _ => .calibration
  | .wardenRound _ => .warden
  | .orderlyStopComplete _ => .warden
  | .restart _ => .warden
  | .restartRailTimeout => .warden
  | .vsetWrite _ _ => .warden
  | .monitorPassStart _ => .warden
  | .monitorResult _ _ _ => .warden
  | .tripCounterExpiry => .warden
  | .clkAoLoss => .warden
  | .svnCommit _ => .security
  | .keyDataWrite _ _ _ => .security
  | .tenantKeyInstall _ _ => .security
  | .modelKeyInstall _ _ => .security
  | .tenantKeyClear _ _ => .security
  | .modelKeyClear _ _ => .security
  | .getVersion _ => .security
  | .getCapabilities _ => .security
  | .negotiateAlgorithms _ _ _ _ _ => .security
  | .getDigests _ => .security
  | .getCertificate _ _ _ _ => .security
  | .challenge _ _ => .security
  | .getMeasurements _ _ _ => .security
  | .keyExchange _ _ => .security
  | .finish _ _ _ => .security
  | .heartbeat _ _ => .security
  | .keyUpdate _ _ _ => .security
  | .endSession _ _ => .security
  | .getCsr _ => .security
  | .setCertificate _ _ _ => .security
  | .setTenantKey _ _ _ _ => .security
  | .setModelKey _ _ _ _ => .security
  | .getNonce _ => .security
  | .openSession _ _ _ => .security
  | .closeSession _ => .security
  | .coldPowerOn => .reset
  | .perstNFall => .reset
  | .pwrOkFall => .reset
  | .deviceReset _ => .reset
  | .quarterReset _ _ => .reset
  | .rowReset _ _ => .reset
  | .stallReset _ _ _ => .reset
  | .startUp _ _ _ _ => .reset
  | .startUpReady _ _ _ _ => .reset
  | .recoveryBegin _ => .reset
  | .recoveryData _ _ => .reset
  | .recoveryEnd _ _ => .reset
  | .watchdogKick _ _ => .warden
  | .watchdogExpiry => .warden
  | .bridgeFlitFailure _ => .warden
  | .trainingTrialPass _ _ _ _ => .cartway
  | .stoppingChainRead _ => .warden
  | .clkAoReturn => .warden
  | .vddAoLoss => .reset
  | .doeObjectError _ _ _ _ => .host
  | .mctpControlMessage _ => .host

/-- The parts that a command may change. -/
def Instr.mayChange : Instr → List Part
  | .registerWrite _ _ _ _ _ => [.now, .free, .halves, .outbox, .stalls, .groups, .rows, .jobs, .nextJob, .cperLost, .journal, .digests, .restocked, .images, .stock, .working, .scrub, .slots, .seqs, .pages, .nextPage, .rolls, .paces, .sched, .adapters, .tunes, .cart, .mem, .charter, .funcs, .clerks, .pendAt, .modeCtl, .sleep, .gatedAt, .wakeAt, .port0, .warden, .boot, .cal, .sec, .duty, .level]
  | .lowHalfRead _ _ _ _ => [.free, .halves, .outbox, .funcs, .sleep, .gatedAt, .wakeAt, .warden, .boot]
  | .stlClipCntRead _ _ _ => [.halves, .outbox, .funcs, .sleep, .gatedAt, .wakeAt, .warden, .boot]
  | .stlRefusedCntRead _ _ _ => [.halves, .outbox, .funcs, .sleep, .gatedAt, .wakeAt, .warden, .boot]
  | .wdnMonDataRead _ => [.halves, .outbox, .funcs, .warden]
  | .wakeRequest _ => [.stalls, .sleep, .gatedAt, .wakeAt, .boot]
  | .wakeComplete _ => [.outbox, .stalls, .rows, .jobs, .nextJob, .cperLost, .seqs, .funcs, .pendAt, .sleep, .gatedAt, .wakeAt, .boot]
  | .clockGatedEntry _ => [.sleep, .gatedAt]
  | .biasOffEntry _ => [.stalls, .sleep, .gatedAt, .wakeAt]
  | .descriptorArrival _ _ _ => [.stalls, .rows, .jobs, .nextJob]
  | .stlCtlWrite _ _ _ _ => [.halves, .outbox, .stalls, .funcs, .sleep, .gatedAt, .wakeAt, .warden, .boot]
  | .strikeIssue _ _ _ => [.outbox, .stalls, .groups, .rows, .scrub, .funcs, .pendAt, .cal]
  | .widenedPairIssue _ _ _ => [.outbox, .stalls, .groups, .rows, .scrub, .funcs, .pendAt, .cal]
  | .transposeStrikeIssue _ _ _ => [.outbox, .stalls, .groups, .rows, .scrub, .funcs, .pendAt, .cal]
  | .stagingBankWrite _ _ _ _ => [.stalls]
  | .strikeCodesReceived _ _ _ => [.outbox, .stalls, .groups, .rows, .jobs, .nextJob, .cperLost, .funcs, .pendAt, .cal]
  | .sliceSubstitution _ _ _ _ _ => [.free, .outbox, .stalls, .funcs, .pendAt, .cal]
  | .stlSliceMapWrite _ _ _ _ => [.halves, .outbox, .funcs, .pendAt, .sleep, .gatedAt, .wakeAt, .warden, .boot, .cal]
  | .planeSwap _ _ => [.stalls]
  | .trimDataWrite _ _ _ => [.halves, .outbox, .stalls, .funcs, .sleep, .gatedAt, .wakeAt, .warden, .boot]
  | .trimStep _ _ _ => [.outbox, .stalls, .funcs, .pendAt]
  | .overflowPassEnd _ _ _ => [.free, .outbox, .stalls, .groups, .rows, .jobs, .nextJob, .cperLost, .slots, .seqs, .pages, .rolls, .sched, .adapters, .tunes, .cart, .mem, .funcs, .pendAt]
  | .ledgerRowRetry _ _ => [.stalls]
  | .strikeRelease _ _ _ _ => [.outbox, .stalls, .groups, .rows, .jobs, .nextJob, .cperLost, .funcs, .pendAt]
  | .vectorArrival _ _ _ => [.outbox, .rows, .jobs, .nextJob, .cperLost, .seqs, .funcs, .pendAt]
  | .quantiseVector _ _ => [.outbox, .stalls, .groups, .rows, .jobs, .nextJob, .cperLost, .seqs, .funcs, .pendAt]
  | .clipReplay _ _ _ _ => [.stalls]
  | .clipSplit _ _ _ _ => [.stalls]
  | .tileForceWide _ _ _ _ => [.halves, .outbox, .rows, .funcs, .sleep, .gatedAt, .wakeAt, .warden, .boot]
  | .tileReleaseForce _ _ _ _ => [.halves, .outbox, .rows, .funcs, .sleep, .gatedAt, .wakeAt, .warden, .boot]
  | .tileSetHold _ _ _ _ => [.halves, .outbox, .rows, .funcs, .sleep, .gatedAt, .wakeAt, .warden, .boot]
  | .stepMarker _ => [.groups, .rows]
  | .holdExpiry _ _ _ => []
  | .wideStormEvaluation _ => [.outbox, .stalls, .rows, .funcs, .pendAt, .cal]
  | .refusalMarker _ _ => [.outbox, .stalls, .rows, .jobs, .nextJob, .cperLost, .funcs, .pendAt]
  | .reductionOutput _ _ _ => [.outbox, .rows, .cart, .funcs, .pendAt]
  | .drainRequest _ _ _ => [.halves, .outbox, .stalls, .funcs, .sleep, .gatedAt, .wakeAt, .warden, .boot]
  | .drainRelease _ _ _ => [.halves, .outbox, .stalls, .funcs, .sleep, .gatedAt, .wakeAt, .warden, .boot]
  | .drainComplete _ _ => [.outbox, .stalls, .rows, .jobs, .nextJob, .cperLost, .seqs, .funcs, .pendAt, .modeCtl, .sleep, .gatedAt, .wakeAt, .boot, .cal]
  | .stockingJobStart _ _ _ _ _ => [.free, .halves, .outbox, .groups, .images, .stock, .scrub, .mem, .funcs, .pendAt, .warden]
  | .touchupRestock _ _ => [.halves, .outbox, .stock, .funcs, .pendAt, .warden]
  | .stockingAbort _ => [.halves, .outbox, .groups, .stock, .funcs, .pendAt, .warden]
  | .scrubCrateNow _ _ => [.halves, .outbox, .scrub, .funcs, .sleep, .gatedAt, .wakeAt, .warden, .boot]
  | .crateProgramStart _ => [.free, .outbox, .groups, .rows, .journal, .digests, .stock, .working, .scrub, .mem, .funcs, .pendAt]
  | .crateProgramEnd _ _ => [.outbox, .groups, .journal, .stock, .working, .funcs, .pendAt]
  | .settlePauseEnd => [.groups, .stock, .pendAt]
  | .touchupPassStart => [.free, .outbox, .groups, .rows, .journal, .stock, .working, .scrub, .funcs, .pendAt]
  | .touchupPassEnd _ _ => [.free, .outbox, .groups, .journal, .restocked, .stock, .working, .funcs, .pendAt, .cal]
  | .scrubDue => [.scrub, .sleep, .gatedAt, .wakeAt, .boot]
  | .scrubCrateDone _ _ => [.outbox, .groups, .journal, .restocked, .scrub, .funcs, .pendAt]
  | .modelLoad _ _ _ _ _ => [.halves, .outbox, .stalls, .groups, .slots, .funcs, .pendAt, .warden]
  | .modelUnload _ _ => [.free, .halves, .outbox, .groups, .slots, .seqs, .pages, .rolls, .paces, .sched, .adapters, .tunes, .cart, .mem, .funcs, .warden]
  | .shardRefetch _ _ _ => [.halves, .outbox, .slots, .funcs, .warden]
  | .releaseHeld _ _ => [.halves, .outbox, .funcs, .pendAt, .warden]
  | .shardArrival _ _ _ _ _ _ _ => [.free, .outbox, .stalls, .groups, .rows, .slots, .seqs, .pages, .rolls, .sched, .adapters, .tunes, .cart, .mem, .funcs, .pendAt, .warden, .cal]
  | .slotReady _ => [.slots]
  | .slotRetired _ => [.groups, .slots]
  | .shardScrubDue _ _ _ _ _ => [.free, .outbox, .stalls, .groups, .rows, .slots, .seqs, .pages, .rolls, .sched, .adapters, .tunes, .cart, .mem, .funcs, .pendAt, .warden]
  | .planeLoadRequest _ _ _ _ _ => [.stalls]
  | .planeLoadStart _ _ _ => [.free, .outbox, .stalls, .groups, .rows, .slots, .seqs, .pages, .rolls, .sched, .adapters, .tunes, .cart, .mem, .funcs, .pendAt]
  | .planeLoadDone _ _ _ => []
  | .decodeAttention _ _ _ _ _ _ _ => [.free, .outbox, .groups, .cperLost, .slots, .seqs, .pages, .rolls, .paces, .sched, .adapters, .tunes, .cart, .mem, .funcs, .pendAt, .sleep, .gatedAt, .wakeAt]
  | .freshBlockMerge _ _ _ _ _ _ _ _ _ => [.free, .outbox, .groups, .rows, .slots, .seqs, .pages, .rolls, .sched, .adapters, .tunes, .cart, .mem, .funcs, .pendAt, .sleep, .gatedAt, .wakeAt]
  | .pageManagerChange _ _ => [.outbox, .seqs, .pages, .nextPage, .sched, .mem, .funcs, .pendAt]
  | .parkSequence _ => [.free, .outbox, .groups, .slots, .seqs, .pages, .rolls, .sched, .adapters, .tunes, .cart, .mem, .funcs, .pendAt]
  | .resumeSequence _ _ _ => [.free, .outbox, .groups, .slots, .seqs, .pages, .nextPage, .rolls, .sched, .adapters, .tunes, .cart, .mem, .funcs, .pendAt]
  | .kvSlotCfgWrite _ _ => [.halves, .outbox, .funcs, .warden]
  | .slipSeal _ _ _ => [.halves, .outbox, .sched, .funcs, .pendAt, .warden]
  | .generate _ _ _ _ => [.free, .outbox, .seqs, .pages, .nextPage, .rolls, .sched, .mem, .funcs, .pendAt]
  | .cancel _ _ => [.free, .outbox, .groups, .slots, .seqs, .pages, .rolls, .paces, .sched, .adapters, .tunes, .cart, .mem, .funcs, .pendAt]
  | .streamOpen _ _ => [.free, .outbox, .rolls, .paces, .funcs, .pendAt]
  | .frame _ _ => [.outbox, .paces, .funcs, .pendAt]
  | .streamClose _ _ => [.free, .outbox, .rolls, .paces, .funcs, .pendAt]
  | .tune _ _ _ => [.free, .outbox, .groups, .slots, .seqs, .pages, .rolls, .sched, .adapters, .tunes, .cart, .mem, .funcs, .pendAt]
  | .sequenceActivate _ => [.seqs]
  | .stepStart => [.outbox, .groups, .slots, .seqs, .sched, .adapters, .cart, .funcs]
  | .stepEnd => [.sched]
  | .emptyStep => [.outbox, .groups, .slots, .seqs, .sched, .adapters, .cart, .funcs]
  | .stormCeilingLower _ => [.outbox, .rows, .sched, .funcs, .pendAt]
  | .stormCeilingRestore _ => [.sched]
  | .positionStart _ _ _ _ _ => [.free, .outbox, .groups, .slots, .seqs, .pages, .nextPage, .rolls, .sched, .adapters, .tunes, .cart, .mem, .funcs, .pendAt, .sleep, .gatedAt, .wakeAt]
  | .positionEnd _ _ _ _ => [.free, .outbox, .groups, .cperLost, .slots, .seqs, .pages, .rolls, .sched, .adapters, .tunes, .cart, .mem, .funcs, .pendAt]
  | .positionCommit _ _ => [.free, .outbox, .groups, .slots, .seqs, .pages, .rolls, .paces, .sched, .adapters, .tunes, .cart, .mem, .funcs, .pendAt]
  | .msiModerationTimeout _ _ => [.outbox, .rolls, .funcs]
  | .rollRidxPoll _ _ _ => [.outbox, .rolls, .funcs]
  | .verifyPass _ _ _ => [.free, .outbox, .groups, .cperLost, .slots, .seqs, .pages, .rolls, .sched, .adapters, .tunes, .cart, .mem, .funcs, .pendAt]
  | .specPauseEnd _ => [.seqs]
  | .frameInEdge => [.paces]
  | .framePeriodTick _ => [.paces]
  | .frameComplete _ _ => [.free, .outbox, .rolls, .paces, .funcs, .pendAt]
  | .funcCeilWrite _ _ => [.halves, .outbox, .funcs, .warden]
  | .adapterLoad _ _ _ _ => [.halves, .outbox, .adapters, .funcs, .pendAt, .warden]
  | .adapterUnload _ _ => [.halves, .outbox, .adapters, .funcs, .warden]
  | .roundEnd _ _ _ => [.free, .outbox, .groups, .slots, .seqs, .pages, .rolls, .sched, .adapters, .tunes, .cart, .mem, .funcs]
  | .portEnable _ _ => [.free, .halves, .outbox, .groups, .cperLost, .slots, .seqs, .pages, .rolls, .paces, .sched, .adapters, .tunes, .cart, .mem, .funcs, .pendAt, .warden]
  | .portRetrain _ _ => [.free, .halves, .outbox, .groups, .cperLost, .slots, .seqs, .pages, .rolls, .paces, .sched, .adapters, .tunes, .cart, .mem, .funcs, .pendAt, .warden]
  | .trainingTrialFail _ => [.outbox, .cart, .funcs, .pendAt]
  | .hello _ _ _ _ _ _ _ _ => [.outbox, .cart, .funcs, .pendAt]
  | .helloTimer _ => [.outbox, .cart, .funcs]
  | .idleFrame _ _ => [.outbox, .cart, .funcs]
  | .reach _ _ _ => [.free, .outbox, .groups, .cperLost, .slots, .seqs, .pages, .rolls, .paces, .sched, .adapters, .tunes, .cart, .mem, .funcs, .pendAt]
  | .reachTimer => [.outbox, .cart, .funcs]
  | .nak _ _ _ => [.free, .outbox, .groups, .cperLost, .slots, .seqs, .pages, .rolls, .paces, .sched, .adapters, .tunes, .cart, .mem, .funcs, .pendAt]
  | .down _ _ => [.free, .outbox, .groups, .cperLost, .slots, .seqs, .pages, .rolls, .paces, .sched, .adapters, .tunes, .cart, .mem, .funcs, .pendAt]
  | .dataFrame _ _ _ _ _ => [.outbox, .cart, .funcs, .pendAt]
  | .uncorrectableCodeword _ => []
  | .ackTimeout _ => [.free, .outbox, .groups, .cperLost, .slots, .seqs, .pages, .rolls, .paces, .sched, .adapters, .tunes, .cart, .mem, .funcs, .pendAt]
  | .cartSend _ _ => [.outbox, .cart, .funcs]
  | .dispatch _ _ _ _ => [.outbox, .seqs, .paces, .cart, .funcs, .pendAt, .warden]
  | .returnCart _ _ _ => [.outbox, .seqs, .paces, .cart, .funcs, .pendAt, .warden]
  | .part _ _ => [.outbox, .rows, .seqs, .paces, .cart, .funcs, .pendAt, .warden]
  | .receipt _ _ => [.seqs, .paces, .cart, .warden]
  | .retract _ _ => [.free, .outbox, .groups, .cperLost, .slots, .seqs, .pages, .rolls, .paces, .sched, .adapters, .tunes, .cart, .mem, .funcs, .pendAt, .warden]
  | .fence _ _ => [.slots, .cart, .warden]
  | .unfence _ _ => [.slots, .cart, .warden]
  | .homeTableLoad _ _ _ => [.halves, .outbox, .cart, .funcs, .warden]
  | .homeTableClear _ _ => [.halves, .outbox, .cart, .funcs, .warden]
  | .homeWaitTimeout _ => [.free, .outbox, .groups, .slots, .seqs, .pages, .rolls, .sched, .adapters, .tunes, .cart, .mem, .funcs, .pendAt]
  | .receiptSend _ _ => [.cart]
  | .pendingTimeout _ _ => [.free, .outbox, .groups, .cperLost, .slots, .seqs, .pages, .rolls, .paces, .sched, .adapters, .tunes, .cart, .mem, .funcs, .pendAt]
  | .probeStrike _ _ _ => [.outbox, .stalls, .groups, .rows, .scrub, .funcs, .pendAt, .cal]
  | .pairCompare _ _ _ _ _ _ => [.free, .outbox, .stalls, .groups, .rows, .jobs, .nextJob, .cperLost, .slots, .seqs, .pages, .rolls, .sched, .adapters, .tunes, .cart, .mem, .funcs, .pendAt]
  | .inspectorJobStart _ => [.free, .outbox, .stalls, .groups, .rows, .jobs, .slots, .seqs, .pages, .rolls, .sched, .adapters, .tunes, .cart, .mem, .funcs, .pendAt, .warden]
  | .inspectorVerdict _ _ => [.free, .outbox, .stalls, .groups, .rows, .jobs, .nextJob, .cperLost, .slots, .seqs, .pages, .rolls, .sched, .adapters, .tunes, .cart, .mem, .funcs, .pendAt, .sleep, .gatedAt, .wakeAt, .boot, .cal]
  | .disputeDeadline _ => [.free, .outbox, .stalls, .groups, .rows, .jobs, .cperLost, .slots, .seqs, .pages, .rolls, .sched, .adapters, .tunes, .cart, .mem, .funcs, .pendAt]
  | .checksumReloadDone _ _ => [.stalls]
  | .granuleRetire _ => [.outbox, .slots, .pages, .adapters, .mem, .funcs, .pendAt]
  | .patrolScrub _ _ _ _ => [.free, .outbox, .stalls, .groups, .rows, .cperLost, .journal, .stock, .working, .slots, .seqs, .pages, .rolls, .paces, .sched, .adapters, .tunes, .cart, .mem, .funcs, .pendAt]
  | .scrubPeriodEnd _ => [.outbox, .mem, .funcs, .pendAt]
  | .t2SelfRefreshEntry _ => []
  | .periodicRetrain _ => [.mem]
  | .linkTrainingDone _ _ => [.pendAt, .port0]
  | .powerStateWrite _ _ => [.outbox, .funcs]
  | .msixUnmask _ _ => [.halves, .outbox, .funcs, .warden]
  | .invalidationRequest _ _ _ _ => [.outbox, .funcs, .pendAt]
  | .hostReadFailure _ _ => [.free, .outbox, .stalls, .groups, .rows, .slots, .seqs, .pages, .rolls, .paces, .sched, .adapters, .tunes, .cart, .mem, .funcs, .pendAt]
  | .quotaWrite _ _ => [.halves, .outbox, .funcs, .warden]
  | .storeRegister _ => [.halves, .outbox, .funcs, .warden]
  | .storeWithdraw _ => [.halves, .outbox, .funcs, .warden]
  | .functionLevelReset _ => [.free, .outbox, .groups, .slots, .seqs, .pages, .rolls, .paces, .sched, .adapters, .tunes, .cart, .mem, .funcs, .pendAt, .sec]
  | .pfFunctionLevelReset => [.free, .outbox, .groups, .slots, .seqs, .pages, .rolls, .paces, .sched, .adapters, .tunes, .cart, .mem, .funcs, .pendAt, .port0, .sec]
  | .flrComplete _ => [.funcs]
  | .numvfsWrite _ _ _ => [.free, .outbox, .groups, .slots, .seqs, .pages, .rolls, .paces, .sched, .adapters, .tunes, .cart, .mem, .funcs, .pendAt, .port0, .sec]
  | .linkReset _ => [.free, .outbox, .groups, .slots, .seqs, .pages, .rolls, .paces, .sched, .adapters, .tunes, .cart, .mem, .funcs, .pendAt, .port0, .sec]
  | .doeDiscovery _ _ => [.outbox, .funcs, .pendAt]
  | .doeAbort _ => [.funcs]
  | .handlerEntry => [.outbox, .funcs, .clerks, .pendAt, .warden]
  | .handlerExit _ => [.clerks, .pendAt]
  | .clerkWfi _ => [.clerks]
  | .clerkClockGate _ => []
  | .squarePllStop => [.warden]
  | .squarePllRestart => [.warden]
  | .softwareEventSet _ _ => [.halves, .outbox, .funcs, .pendAt, .warden]
  | .clerkTimerExpiry _ => [.clerks, .pendAt]
  | .eventNorouteTimeout _ => [.outbox, .funcs, .pendAt]
  | .modeChange _ _ _ => [.halves, .outbox, .stalls, .mem, .funcs, .pendAt, .modeCtl, .warden]
  | .modeAbort _ => [.halves, .outbox, .stalls, .funcs, .pendAt, .modeCtl, .warden]
  | .barrier _ => [.halves, .outbox, .funcs, .modeCtl, .warden]
  | .barrierComplete => [.pendAt, .modeCtl]
  | .modeCloseComplete => [.stalls, .pendAt, .modeCtl]
  | .modeOpen _ => [.outbox, .stalls, .funcs, .pendAt, .modeCtl]
  | .modeCloseTimeout => [.outbox, .stalls, .funcs, .pendAt, .modeCtl]
  | .modeStageTimeout _ _ => [.outbox, .stalls, .funcs, .pendAt, .modeCtl]
  | .modeOpenResend _ _ _ => [.outbox, .stalls, .seqs, .funcs, .pendAt, .modeCtl]
  | .unitCatchup _ _ => [.stalls]
  | .calibrationQueue _ _ _ => [.halves, .outbox, .funcs, .warden, .cal]
  | .referenceReestimate _ _ => [.halves, .outbox, .groups, .rows, .funcs, .warden]
  | .spareStallSubstitute _ _ _ => [.halves, .outbox, .stalls, .groups, .rows, .funcs, .pendAt, .warden, .cal]
  | .calibrationWithdraw _ _ _ => [.halves, .outbox, .funcs, .warden, .cal]
  | .calibrationRunStart => [.stalls, .jobs, .nextJob, .sleep, .gatedAt, .wakeAt, .boot, .cal]
  | .blockModeSwitch _ _ => [.stalls, .cal]
  | .calibrationFit _ _ _ _ => [.outbox, .stalls, .groups, .jobs, .journal, .stock, .working, .funcs, .pendAt, .sleep, .gatedAt, .wakeAt, .boot, .cal]
  | .periodicCalibration _ _ => [.cal]
  | .repairAssign _ _ => [.halves, .outbox, .groups, .journal, .stock, .working, .funcs, .pendAt, .warden, .cal]
  | .selfTestLogic _ _ _ _ => [.halves, .outbox, .stalls, .seqs, .funcs, .pendAt, .sleep, .gatedAt, .wakeAt, .warden, .boot, .cal]
  | .selfTestMemory _ _ _ _ => [.halves, .outbox, .stalls, .seqs, .funcs, .pendAt, .sleep, .gatedAt, .wakeAt, .warden, .boot, .cal]
  | .selfTestConverter _ _ _ _ => [.halves, .outbox, .stalls, .seqs, .funcs, .pendAt, .sleep, .gatedAt, .wakeAt, .warden, .boot, .cal]
  | .crateLineTest _ _ _ _ => [.halves, .outbox, .stalls, .seqs, .funcs, .pendAt, .sleep, .gatedAt, .wakeAt, .warden, .boot, .cal]
  | .selfTestAll _ _ _ _ => [.halves, .outbox, .stalls, .seqs, .funcs, .pendAt, .sleep, .gatedAt, .wakeAt, .warden, .boot, .cal]
  | .selfTestWithdraw _ _ _ _ => [.halves, .outbox, .funcs, .warden, .cal]
  | .selfTestDeferredStart => [.stalls, .seqs, .sleep, .gatedAt, .wakeAt, .boot, .cal]
  | .selfTestDone _ => [.outbox, .stalls, .groups, .rows, .journal, .stock, .working, .seqs, .funcs, .pendAt, .sleep, .gatedAt, .wakeAt, .boot, .cal]
  | .fuseBurn _ => [.halves, .outbox, .funcs, .pendAt, .warden, .cal]
  | .shutWaitTimeout _ => [.free, .outbox, .stalls, .groups, .rows, .slots, .seqs, .pages, .rolls, .sched, .adapters, .tunes, .cart, .mem, .funcs]
  | .wardenRound _ => [.free, .outbox, .stalls, .groups, .rows, .jobs, .nextJob, .cperLost, .journal, .stock, .working, .seqs, .funcs, .pendAt, .modeCtl, .sleep, .gatedAt, .wakeAt, .warden, .cal, .duty, .level]
  | .orderlyStopComplete _ => [.outbox, .stalls, .rows, .jobs, .nextJob, .cperLost, .funcs, .pendAt, .sleep, .gatedAt, .wakeAt, .warden]
  | .restart _ => [.halves, .outbox, .stalls, .groups, .rows, .jobs, .nextJob, .cperLost, .restocked, .stock, .working, .scrub, .slots, .seqs, .pages, .nextPage, .rolls, .paces, .sched, .adapters, .tunes, .cart, .mem, .charter, .funcs, .clerks, .pendAt, .modeCtl, .sleep, .gatedAt, .wakeAt, .port0, .warden, .boot, .cal, .sec, .level]
  | .restartRailTimeout => [.free, .outbox, .stalls, .groups, .rows, .jobs, .nextJob, .cperLost, .journal, .stock, .working, .seqs, .funcs, .pendAt, .modeCtl, .sleep, .gatedAt, .wakeAt, .warden]
  | .vsetWrite _ _ => [.halves, .outbox, .funcs, .pendAt, .warden]
  | .monitorPassStart _ => [.halves, .outbox, .funcs, .pendAt, .warden]
  | .monitorResult _ _ _ => [.free, .outbox, .groups, .journal, .stock, .working, .funcs, .pendAt, .warden]
  | .tripCounterExpiry => [.outbox, .funcs, .warden]
  | .clkAoLoss => [.warden]
  | .svnCommit _ => [.halves, .outbox, .funcs, .pendAt, .warden]
  | .keyDataWrite _ _ _ => [.halves, .outbox, .funcs, .pendAt, .warden, .sec]
  | .tenantKeyInstall _ _ => [.free, .halves, .outbox, .groups, .slots, .seqs, .pages, .rolls, .paces, .sched, .adapters, .tunes, .cart, .mem, .funcs, .pendAt, .warden, .sec]
  | .modelKeyInstall _ _ => [.halves, .outbox, .funcs, .pendAt, .warden, .sec]
  | .tenantKeyClear _ _ => [.free, .halves, .outbox, .groups, .slots, .seqs, .pages, .rolls, .paces, .sched, .adapters, .tunes, .cart, .mem, .funcs, .pendAt, .warden, .sec]
  | .modelKeyClear _ _ => [.halves, .outbox, .funcs, .pendAt, .warden, .sec]
  | .getVersion _ => [.outbox, .funcs, .pendAt, .sec]
  | .getCapabilities _ => [.outbox, .funcs, .pendAt, .sec]
  | .negotiateAlgorithms _ _ _ _ _ => [.outbox, .funcs, .pendAt, .sec]
  | .getDigests _ => [.outbox, .funcs, .pendAt]
  | .getCertificate _ _ _ _ => [.outbox, .funcs, .pendAt]
  | .challenge _ _ => [.free, .outbox, .funcs, .pendAt]
  | .getMeasurements _ _ _ => [.free, .outbox, .funcs, .pendAt]
  | .keyExchange _ _ => [.free, .outbox, .funcs, .pendAt, .sec]
  | .finish _ _ _ => [.outbox, .funcs, .pendAt, .sec]
  | .heartbeat _ _ => [.outbox, .funcs, .pendAt]
  | .keyUpdate _ _ _ => [.outbox, .funcs, .pendAt, .sec]
  | .endSession _ _ => [.outbox, .funcs, .pendAt, .sec]
  | .getCsr _ => [.free, .outbox, .funcs, .pendAt]
  | .setCertificate _ _ _ => [.outbox, .funcs, .pendAt, .sec]
  | .setTenantKey _ _ _ _ => [.free, .outbox, .groups, .slots, .seqs, .pages, .rolls, .paces, .sched, .adapters, .tunes, .cart, .mem, .funcs, .pendAt, .sec]
  | .setModelKey _ _ _ _ => [.outbox, .funcs, .pendAt, .sec]
  | .getNonce _ => [.free, .outbox, .funcs, .pendAt, .sec]
  | .openSession _ _ _ => [.free, .outbox, .groups, .slots, .seqs, .pages, .rolls, .paces, .sched, .adapters, .tunes, .cart, .mem, .funcs, .pendAt, .sec]
  | .closeSession _ => [.free, .outbox, .groups, .slots, .seqs, .pages, .rolls, .paces, .sched, .adapters, .tunes, .cart, .mem, .funcs, .pendAt]
  | .coldPowerOn => [.now, .halves, .stalls, .groups, .rows, .jobs, .nextJob, .cperLost, .restocked, .stock, .working, .scrub, .slots, .seqs, .pages, .nextPage, .rolls, .paces, .sched, .adapters, .tunes, .cart, .mem, .charter, .funcs, .clerks, .pendAt, .modeCtl, .sleep, .gatedAt, .wakeAt, .port0, .warden, .boot, .cal, .sec, .duty, .level]
  | .perstNFall => [.halves, .stalls, .groups, .rows, .jobs, .nextJob, .cperLost, .restocked, .stock, .working, .scrub, .slots, .seqs, .pages, .nextPage, .rolls, .paces, .sched, .adapters, .tunes, .cart, .mem, .charter, .funcs, .clerks, .pendAt, .modeCtl, .sleep, .gatedAt, .wakeAt, .port0, .warden, .boot, .cal, .sec]
  | .pwrOkFall => [.halves, .stalls, .groups, .rows, .jobs, .nextJob, .cperLost, .restocked, .stock, .working, .scrub, .slots, .seqs, .pages, .nextPage, .rolls, .paces, .sched, .adapters, .tunes, .cart, .mem, .charter, .funcs, .clerks, .pendAt, .modeCtl, .sleep, .gatedAt, .wakeAt, .port0, .warden, .boot, .cal, .sec]
  | .deviceReset _ => [.halves, .outbox, .stalls, .groups, .rows, .jobs, .nextJob, .cperLost, .restocked, .stock, .working, .scrub, .slots, .seqs, .pages, .nextPage, .rolls, .paces, .sched, .adapters, .tunes, .cart, .mem, .charter, .funcs, .clerks, .pendAt, .modeCtl, .sleep, .gatedAt, .wakeAt, .port0, .warden, .boot, .cal, .sec]
  | .quarterReset _ _ => [.halves, .outbox, .stalls, .rows, .jobs, .nextJob, .cperLost, .seqs, .funcs, .pendAt, .modeCtl, .sleep, .gatedAt, .wakeAt, .warden, .boot, .cal]
  | .rowReset _ _ => [.halves, .outbox, .stalls, .rows, .jobs, .nextJob, .cperLost, .seqs, .funcs, .pendAt, .modeCtl, .sleep, .gatedAt, .wakeAt, .warden, .boot, .cal]
  | .stallReset _ _ _ => [.halves, .outbox, .stalls, .rows, .jobs, .nextJob, .cperLost, .seqs, .funcs, .pendAt, .modeCtl, .sleep, .gatedAt, .wakeAt, .warden, .boot, .cal]
  | .startUp _ _ _ _ => [.stalls, .rows, .warden, .boot, .cal]
  | .startUpReady _ _ _ _ => [.outbox, .stalls, .groups, .journal, .stock, .working, .mem, .charter, .funcs, .pendAt, .warden]
  | .recoveryBegin _ => [.outbox, .funcs, .pendAt, .boot]
  | .recoveryData _ _ => [.outbox, .funcs, .pendAt, .boot]
  | .recoveryEnd _ _ => [.free, .outbox, .stalls, .groups, .cperLost, .journal, .stock, .working, .slots, .seqs, .pages, .rolls, .paces, .sched, .adapters, .tunes, .cart, .mem, .charter, .funcs, .pendAt, .warden, .boot]
  | .watchdogKick _ _ => [.halves, .outbox, .funcs, .warden]
  | .watchdogExpiry => [.free, .outbox, .groups, .cperLost, .journal, .stock, .working, .slots, .seqs, .pages, .rolls, .paces, .sched, .adapters, .tunes, .cart, .mem, .funcs, .pendAt]
  | .bridgeFlitFailure _ => [.free, .outbox, .groups, .cperLost, .journal, .stock, .working, .slots, .seqs, .pages, .rolls, .paces, .sched, .adapters, .tunes, .cart, .mem, .funcs, .pendAt]
  | .trainingTrialPass _ _ _ _ => [.cart]
  | .stoppingChainRead _ => [.outbox, .funcs, .warden]
  | .clkAoReturn => [.outbox, .funcs, .warden]
  | .vddAoLoss => [.now, .halves, .stalls, .groups, .rows, .jobs, .nextJob, .cperLost, .restocked, .stock, .working, .scrub, .slots, .seqs, .pages, .nextPage, .rolls, .paces, .sched, .adapters, .tunes, .cart, .mem, .charter, .funcs, .clerks, .pendAt, .modeCtl, .sleep, .gatedAt, .wakeAt, .port0, .warden, .boot, .cal, .sec, .duty, .level]
  | .doeObjectError _ _ _ _ => [.funcs, .pendAt]
  | .mctpControlMessage _ => [.free, .outbox, .funcs]

/-- A register of a stall, a tally engine or a weigh house: a mode record reaches these (R448). -/
def unitReg (r : Reg) : Bool := r.blk == .stl || r.blk == .tal || r.blk == .wh

/-- The registers that a command may change, an interrupt source or a function's event that it raises included. -/
def Instr.mayWrite (c : Instr) (r : Reg) : Bool :=
  match c with
  | .registerWrite _ _ _ _ _ => true
  | .lowHalfRead _ _ _ _ => [HOST_FN_ID, HOST_FN_EVT, TEN_USE, TEN_FAULT, TEN_FAULT_INFO, TEN_ACCESS_ERR_CNT, TEN_ADM_QUOTA, TEN_ADM_FAULT, SRV_STAT, SRV_FUNC_CEIL, SRV_FUNC_STAT, SRV_PACE_STAT, SRV_ADP_STAT, SRV_ADP_INFO, SRV_TUNE_STAT, KV_SLOT_CFG, KV_POOL_STAT, PRT_MODEL_STAT, STK_STAT, STK_JRN_DATA, CHK_STAT, CHK_STALL_STAT, MEM_STAT, MEM_UNIT_STAT, CW_PORT_CTL, CW_PORT_STAT, CW_PORT_REACH_LO, CW_PORT_REACH_HI, EVC_STAT, EVC_ROW_SUM, EVC_CLK_STAT, MODE_UNIT_STAT, CAL_STALL_STAT, CAL_STALL_STAMP, CAL_STALL_ROUNDS, CAL_ROW_TEMP, CAL_REPAIR_DATA, WDN_STAT, WDN_THERM_DATA, WDN_MON_DATA, WDN_MON_CH, WDN_VR_CFG, WDN_VR_STAT, WDN_VR_VSET, WDN_WAKE_CNT, WDN_FLOG_DATA, WH_STAT, TAL_DRIFT_VAL, TAL_SIGMA, TAL_TRIM_DATA, TAL_TILE_STAT, STL_ID, STL_STAT, STL_QUEUE].contains r
  | .stlClipCntRead _ _ _ => [HOST_FN_EVT, TEN_FAULT, TEN_FAULT_INFO, TEN_ACCESS_ERR_CNT, MEM_STAT, MEM_UNIT_STAT, EVC_CLK_STAT, WDN_WAKE_CNT, WH_STAT, STL_STAT, STL_CLIP_CNT].contains r
  | .stlRefusedCntRead _ _ _ => [HOST_FN_EVT, TEN_FAULT, TEN_FAULT_INFO, TEN_ACCESS_ERR_CNT, MEM_STAT, MEM_UNIT_STAT, EVC_CLK_STAT, WDN_WAKE_CNT, WH_STAT, STL_STAT, STL_REFUSED_CNT].contains r
  | .wdnMonDataRead _ => [HOST_FN_EVT, TEN_FAULT, TEN_FAULT_INFO, TEN_ACCESS_ERR_CNT, EVC_CLK_STAT, WDN_MON_DATA].contains r
  | .wakeRequest _ => [MEM_STAT, MEM_UNIT_STAT, WDN_WAKE_CNT, WH_STAT, STL_STAT].contains r
  | .wakeComplete _ => unitReg r || [HOST_FN_EVT, SRV_ADP_ERR, CHK_ERR, CHK_CPER_WIDX, CHK_CPER_DROP_CNT, MEM_STAT, MEM_UNIT_STAT, EVC_ERR, EVC_SRC, MODE_CATCHUP_CNT, CAL_ROW_TEMP, WDN_WAKE_CNT, WH_STAT, TAL_MODE_GEN, TAL_NQ_ERR, TAL_NQ_NONFINITE_CNT, TAL_ACC_ERR, TAL_ACC_STAT, TAL_ACC_RUN_CNT, TAL_ACC_OVERSIZE_CNT, TAL_ACC_INF_CNT, TAL_ACC_NAN_CNT, STL_STAT].contains r
  | .clockGatedEntry _ => [WH_STAT, STL_STAT].contains r
  | .biasOffEntry _ => [MEM_STAT, MEM_UNIT_STAT, WH_STAT, STL_STAT, STL_PLANE].contains r
  | .descriptorArrival _ _ _ => [CAL_SHUT_JOB_CNT].contains r
  | .stlCtlWrite _ _ _ _ => [HOST_FN_EVT, TEN_FAULT, TEN_FAULT_INFO, TEN_ACCESS_ERR_CNT, MEM_STAT, MEM_UNIT_STAT, EVC_CLK_STAT, WDN_WAKE_CNT, WH_STAT, STL_CTL, STL_STAT].contains r
  | .strikeIssue _ _ _ => [HOST_FN_EVT, PRT_FRESH_WAIT_CNT, STK_ERR, EVC_ERR, EVC_SRC, CAL_STALL_STAT, WDN_PAUSE_CNT, WDN_FLOG_DATA, WDN_FLOG_HEAD, TAL_OUT_WAIT_CNT, TAL_NQ_STORE_WAIT_CNT, TAL_ACC_STAT, TAL_ACC_REORDER_WAIT_CNT, STL_STAT, STL_ERR, STL_STRIKES, STL_FRESH_STRIKES, STL_WIDE_PAIRS, STL_TRANS_STRIKES, STL_REFUSED_CNT].contains r
  | .widenedPairIssue _ _ _ => [HOST_FN_EVT, PRT_FRESH_WAIT_CNT, STK_ERR, EVC_ERR, EVC_SRC, CAL_STALL_STAT, WDN_PAUSE_CNT, WDN_FLOG_DATA, WDN_FLOG_HEAD, TAL_OUT_WAIT_CNT, TAL_NQ_STORE_WAIT_CNT, TAL_ACC_STAT, TAL_ACC_REORDER_WAIT_CNT, STL_STAT, STL_ERR, STL_STRIKES, STL_FRESH_STRIKES, STL_WIDE_PAIRS, STL_TRANS_STRIKES, STL_REFUSED_CNT].contains r
  | .transposeStrikeIssue _ _ _ => [HOST_FN_EVT, PRT_FRESH_WAIT_CNT, STK_ERR, EVC_ERR, EVC_SRC, CAL_STALL_STAT, WDN_PAUSE_CNT, WDN_FLOG_DATA, WDN_FLOG_HEAD, TAL_OUT_WAIT_CNT, TAL_NQ_STORE_WAIT_CNT, TAL_ACC_STAT, TAL_ACC_REORDER_WAIT_CNT, STL_STAT, STL_ERR, STL_STRIKES, STL_FRESH_STRIKES, STL_WIDE_PAIRS, STL_TRANS_STRIKES, STL_REFUSED_CNT].contains r
  | .stagingBankWrite _ _ _ _ => [].contains r
  | .strikeCodesReceived _ _ _ => [HOST_FN_EVT, CHK_ERR, CHK_STALL_STAT, CHK_CPER_WIDX, CHK_STRIKE_CNT, CHK_FAIL_CNT, CHK_PROBE_CNT, CHK_PROBE_FAIL_CNT, CHK_CSUM_CORR_CNT, CHK_CPER_DROP_CNT, EVC_ERR, EVC_SRC, CAL_STAT, CAL_STALL_STAT, CAL_ROW_TEMP, CAL_SHUT_JOB_CNT, TAL_COR_ERR, TAL_DRIFT_VAL, TAL_REF_CLIP_CNT, TAL_NQ_ERR, TAL_NQ_CLIP_FAIL_CNT, TAL_ACC_STAT, STL_ERR, STL_CLIP_CNT, STL_REF_CODES].contains r
  | .sliceSubstitution _ _ _ _ _ => [HOST_FN_EVT, EVC_ERR, EVC_SRC, CAL_ERR, WDN_FLOG_DATA, WDN_FLOG_HEAD, STL_STAT, STL_ERR, STL_SLICE_MAP, STL_SLICE_HEALTH].contains r
  | .stlSliceMapWrite _ _ _ _ => [HOST_FN_EVT, TEN_FAULT, TEN_FAULT_INFO, TEN_ACCESS_ERR_CNT, MEM_STAT, MEM_UNIT_STAT, EVC_ERR, EVC_CLK_STAT, EVC_SRC, CAL_ERR, WDN_WAKE_CNT, WH_STAT, STL_STAT, STL_SLICE_MAP].contains r
  | .planeSwap _ _ => [STL_PLANE].contains r
  | .trimDataWrite _ _ _ => [HOST_FN_EVT, TEN_FAULT, TEN_FAULT_INFO, TEN_ACCESS_ERR_CNT, MEM_STAT, MEM_UNIT_STAT, EVC_CLK_STAT, WDN_WAKE_CNT, WH_STAT, STL_STAT].contains r
  | .trimStep _ _ _ => [HOST_FN_EVT, STK_ERR, EVC_ERR, EVC_SRC, CAL_STALL_STAT].contains r
  | .overflowPassEnd _ _ _ => [HOST_FN_EVT, TEN_STORE_STAT, SRV_TOKEN_CNT, SRV_MSI_CNT, SRV_ADP_RETIRE_CNT, KV_RELEASE_CNT, PRT_STAT, PRT_ERR, PRT_MODEL_STAT, PRT_REFETCH_CNT, PRT_FENCE_CNT, CHK_ERR, CHK_CPER_WIDX, CHK_FAIL_CNT, CHK_CPER_DROP_CNT, MEM_STAT, MEM_ERR, MEM_UNIT_STAT, MEM_CE_CNT, MEM_UE_CNT, MEM_TRAIN_CNT, CW_DISCARD_CNT, EVC_ERR, EVC_SRC, CAL_ROW_TEMP, CAL_SHUT_JOB_CNT, TAL_COR_ERR, TAL_OUT_PASS_CNT, TAL_OUT_FETCH_CNT, TAL_OUT_WIDE_OVF_CNT, TAL_TILE_STAT, TAL_ACC_STAT].contains r
  | .ledgerRowRetry _ _ => [].contains r
  | .strikeRelease _ _ _ _ => [HOST_FN_EVT, CHK_ERR, CHK_CPER_WIDX, CHK_CPER_DROP_CNT, EVC_ERR, EVC_SRC, CAL_ROW_TEMP, TAL_NQ_ERR, TAL_TILE_STAT, TAL_NQ_RANGE_CHG_CNT, TAL_ACC_ERR, TAL_ACC_STAT, TAL_ACC_RUN_CNT, TAL_ACC_OVERSIZE_CNT, TAL_ACC_INF_CNT, TAL_ACC_NAN_CNT].contains r
  | .vectorArrival _ _ _ => [HOST_FN_EVT, SRV_ADP_ERR, CHK_ERR, CHK_CPER_WIDX, CHK_CPER_DROP_CNT, EVC_ERR, EVC_SRC, CAL_ROW_TEMP, TAL_NQ_ERR, TAL_NQ_NONFINITE_CNT, TAL_ACC_ERR, TAL_ACC_STAT, TAL_ACC_RUN_CNT, TAL_ACC_OVERSIZE_CNT, TAL_ACC_INF_CNT, TAL_ACC_NAN_CNT].contains r
  | .quantiseVector _ _ => [HOST_FN_EVT, SRV_ADP_ERR, CHK_ERR, CHK_CPER_WIDX, CHK_CPER_DROP_CNT, EVC_ERR, EVC_SRC, CAL_ROW_TEMP, TAL_OUT_DYN_CNT, TAL_OUT_REQUANT_CNT, TAL_OUT_WIDEN_CNT, TAL_NQ_ERR, TAL_TILE_STAT, TAL_NQ_VEC_CNT, TAL_NQ_LIFT_CNT, TAL_NQ_OFF_CNT, TAL_NQ_CARRY_SAT_CNT, TAL_NQ_ETA_CNT, TAL_NQ_NONFINITE_CNT, TAL_WIDE_START_CNT, TAL_ACC_ERR, TAL_ACC_STAT, TAL_ACC_RUN_CNT, TAL_ACC_OVERSIZE_CNT, TAL_ACC_INF_CNT, TAL_ACC_NAN_CNT].contains r
  | .clipReplay _ _ _ _ => [SRV_TUNE_TCLIP_CNT, TAL_NQ_CLIP_REPLAY_CNT].contains r
  | .clipSplit _ _ _ _ => [TAL_NQ_SPLIT_CNT].contains r
  | .tileForceWide _ _ _ _ => [HOST_FN_EVT, TEN_FAULT, TEN_FAULT_INFO, TEN_ACCESS_ERR_CNT, MEM_STAT, MEM_UNIT_STAT, EVC_CLK_STAT, WDN_WAKE_CNT, WH_STAT, STL_STAT].contains r
  | .tileReleaseForce _ _ _ _ => [HOST_FN_EVT, TEN_FAULT, TEN_FAULT_INFO, TEN_ACCESS_ERR_CNT, MEM_STAT, MEM_UNIT_STAT, EVC_CLK_STAT, WDN_WAKE_CNT, WH_STAT, STL_STAT].contains r
  | .tileSetHold _ _ _ _ => [HOST_FN_EVT, TEN_FAULT, TEN_FAULT_INFO, TEN_ACCESS_ERR_CNT, MEM_STAT, MEM_UNIT_STAT, EVC_CLK_STAT, WDN_WAKE_CNT, WH_STAT, STL_STAT].contains r
  | .stepMarker _ => [TAL_TILE_STAT, TAL_STEP_CNT, TAL_WIDE_START_CNT].contains r
  | .holdExpiry _ _ _ => [TAL_TILE_STAT].contains r
  | .wideStormEvaluation _ => [HOST_FN_EVT, EVC_ERR, EVC_SRC, CAL_STAT, CAL_STALL_STAT, TAL_NQ_ERR, TAL_STORM_MAP, TAL_WIDE_STORM_CNT].contains r
  | .refusalMarker _ _ => [HOST_FN_EVT, CHK_ERR, CHK_CPER_WIDX, CHK_CPER_DROP_CNT, EVC_ERR, EVC_SRC, CAL_ROW_TEMP, TAL_ACC_ERR, TAL_ACC_STAT, TAL_ACC_REFUSED_CNT].contains r
  | .reductionOutput _ _ _ => [HOST_FN_EVT, CW_DISCARD_CNT, EVC_ERR, EVC_SRC, TAL_ACC_ERR, TAL_ACC_RUN_CNT, TAL_ACC_OVERSIZE_CNT, TAL_ACC_INF_CNT, TAL_ACC_NAN_CNT, TAL_ACC_NONFIN_OUT_CNT].contains r
  | .drainRequest _ _ _ => [HOST_FN_EVT, TEN_FAULT, TEN_FAULT_INFO, TEN_ACCESS_ERR_CNT, MEM_STAT, MEM_UNIT_STAT, EVC_CLK_STAT, WDN_WAKE_CNT, WH_STAT, TAL_ACC_STAT, STL_STAT].contains r
  | .drainRelease _ _ _ => [HOST_FN_EVT, TEN_FAULT, TEN_FAULT_INFO, TEN_ACCESS_ERR_CNT, MEM_STAT, MEM_UNIT_STAT, EVC_CLK_STAT, WDN_WAKE_CNT, WH_STAT, STL_STAT].contains r
  | .drainComplete _ _ => [HOST_FN_EVT, CHK_ERR, CHK_CPER_WIDX, CHK_CPER_DROP_CNT, MEM_STAT, MEM_UNIT_STAT, MEM_TRAIN_CNT, EVC_ERR, EVC_SRC, MODE_STAT, MODE_GEN, MODE_ABORT_CNT, CAL_STAT, CAL_STALL_STAT, CAL_ROW_TEMP, BST_STAT, WDN_WAKE_CNT, WH_STAT, WH_ERR, WH_DEC_CNT, WH_PRE_BLK_CNT, WH_PAGE_READ_CNT, WH_MERGE_CNT, WH_STATS_SAVE_CNT, WH_BOUND_CNT, TAL_COR_ERR, TAL_OUT_DYN_CNT, TAL_OUT_PASS_CNT, TAL_OUT_FETCH_CNT, TAL_OUT_REQUANT_CNT, TAL_OUT_WIDEN_CNT, TAL_OUT_WIDE_OVF_CNT, TAL_OUT_WAIT_CNT, TAL_REF_CLIP_CNT, TAL_NQ_ERR, TAL_STORM_MAP, TAL_STEP_CNT, TAL_NQ_VEC_CNT, TAL_NQ_LIFT_CNT, TAL_NQ_OFF_CNT, TAL_NQ_CARRY_SAT_CNT, TAL_NQ_ETA_CNT, TAL_NQ_CLIP_REPLAY_CNT, TAL_NQ_SPLIT_CNT, TAL_NQ_CLIP_FAIL_CNT, TAL_NQ_RANGE_CHG_CNT, TAL_NQ_NONFINITE_CNT, TAL_NQ_STORE_WAIT_CNT, TAL_WIDE_START_CNT, TAL_WIDE_STORM_CNT, TAL_ACC_ERR, TAL_ACC_STAT, TAL_ACC_RUN_CNT, TAL_ACC_OVERSIZE_CNT, TAL_ACC_INF_CNT, TAL_ACC_NAN_CNT, TAL_ACC_NONFIN_OUT_CNT, TAL_ACC_REFUSED_CNT, TAL_ACC_REORDER_WAIT_CNT, TAL_ACC_DRAIN_CNT, STL_STAT, STL_ERR, STL_PLANE, STL_STRIKES, STL_FRESH_STRIKES, STL_WIDE_PAIRS, STL_TRANS_STRIKES, STL_CLIP_CNT, STL_REFUSED_CNT].contains r
  | .stockingJobStart _ _ _ _ _ => [HOST_FN_EVT, TEN_FAULT, TEN_FAULT_INFO, TEN_ACCESS_ERR_CNT, STK_STAT, STK_ERR, MEM_STAT, MEM_ERR, MEM_UNIT_STAT, MEM_CE_CNT, MEM_UE_CNT, MEM_TRAIN_CNT, EVC_ERR, EVC_CLK_STAT, EVC_SRC, TAL_DRIFT_VAL, STL_GRP_CFG].contains r
  | .touchupRestock _ _ => [HOST_FN_EVT, TEN_FAULT, TEN_FAULT_INFO, TEN_ACCESS_ERR_CNT, STK_STAT, STK_ERR, EVC_ERR, EVC_CLK_STAT, EVC_SRC].contains r
  | .stockingAbort _ => [HOST_FN_EVT, TEN_FAULT, TEN_FAULT_INFO, TEN_ACCESS_ERR_CNT, STK_STAT, EVC_ERR, EVC_CLK_STAT, EVC_SRC, TAL_DRIFT_VAL, STL_GRP_CFG].contains r
  | .scrubCrateNow _ _ => [HOST_FN_EVT, TEN_FAULT, TEN_FAULT_INFO, TEN_ACCESS_ERR_CNT, MEM_STAT, MEM_UNIT_STAT, EVC_CLK_STAT, WDN_WAKE_CNT, WH_STAT, STL_STAT].contains r
  | .crateProgramStart _ => [HOST_FN_EVT, STK_STAT, STK_ERR, STK_REFETCH_CNT, MEM_STAT, MEM_ERR, MEM_UNIT_STAT, MEM_CE_CNT, MEM_UE_CNT, MEM_TRAIN_CNT, EVC_ERR, EVC_SRC, TAL_DRIFT_VAL, STL_GRP_CFG].contains r
  | .crateProgramEnd _ _ => [HOST_FN_EVT, STK_STAT, STK_ERR, STK_PROG_CNT, STK_FAIL_CNT, EVC_ERR, EVC_SRC, TAL_DRIFT_VAL, STL_GRP_CFG].contains r
  | .settlePauseEnd => [STK_STAT, EVC_ERR, EVC_SRC, TAL_DRIFT_VAL, STL_GRP_CFG].contains r
  | .touchupPassStart => [HOST_FN_EVT, STK_STAT, STK_ERR, EVC_ERR, EVC_SRC, TAL_DRIFT_VAL, STL_GRP_CFG].contains r
  | .touchupPassEnd _ _ => [HOST_FN_EVT, STK_STAT, STK_ERR, STK_TOUCH_CNT, STK_FAIL_CNT, EVC_ERR, EVC_SRC, TAL_DRIFT_VAL, STL_GRP_CFG].contains r
  | .scrubDue => [STK_SCRUB_STAT, MEM_STAT, MEM_UNIT_STAT, WDN_WAKE_CNT, WH_STAT, STL_STAT].contains r
  | .scrubCrateDone _ _ => [HOST_FN_EVT, STK_ERR, STK_SCRUB_STAT, STK_SCRUB_CNT, STK_MISMATCH_CNT, EVC_ERR, EVC_SRC, STL_GRP_CFG].contains r
  | .modelLoad _ _ _ _ _ => [HOST_FN_EVT, TEN_FAULT, TEN_FAULT_INFO, TEN_ACCESS_ERR_CNT, PRT_STAT, PRT_ERR, PRT_MODEL_STAT, PRT_SHORT1, PRT_SHORT2, EVC_ERR, EVC_CLK_STAT, EVC_SRC, TAL_TILE_STAT, TAL_WIDE_START_CNT].contains r
  | .modelUnload _ _ => [HOST_FN_EVT, TEN_STORE_STAT, TEN_FAULT, TEN_FAULT_INFO, TEN_ACCESS_ERR_CNT, SRV_PACE_STAT, SRV_TOKEN_CNT, SRV_MSI_CNT, SRV_ADP_RETIRE_CNT, KV_RELEASE_CNT, PRT_STAT, PRT_MODEL_STAT, EVC_CLK_STAT, TAL_TILE_STAT].contains r
  | .shardRefetch _ _ _ => [HOST_FN_EVT, TEN_FAULT, TEN_FAULT_INFO, TEN_ACCESS_ERR_CNT, PRT_STAT, PRT_REFETCH_CNT, EVC_CLK_STAT].contains r
  | .releaseHeld _ _ => [HOST_FN_EVT, TEN_FAULT, TEN_FAULT_INFO, TEN_ACCESS_ERR_CNT, PRT_ERR, PRT_MODEL_STAT, EVC_ERR, EVC_CLK_STAT, EVC_SRC].contains r
  | .shardArrival _ _ _ _ _ _ _ => [HOST_FN_EVT, TEN_STORE_STAT, TEN_FAULT, TEN_DMA_FAIL_CNT, HOST_ERR, SRV_TOKEN_CNT, SRV_MSI_CNT, SRV_ADP_RETIRE_CNT, KV_RELEASE_CNT, PRT_STAT, PRT_ERR, PRT_MODEL_STAT, PRT_REFETCH_CNT, PRT_FENCE_CNT, MEM_STAT, MEM_UNIT_STAT, CW_DISCARD_CNT, EVC_ERR, EVC_CLK_STAT, EVC_SRC, CAL_STAT, CAL_STALL_STAT, TAL_TILE_STAT, TAL_WIDE_START_CNT, TAL_ACC_STAT].contains r
  | .slotReady _ => [PRT_MODEL_STAT].contains r
  | .slotRetired _ => [PRT_MODEL_STAT, TAL_TILE_STAT].contains r
  | .shardScrubDue _ _ _ _ _ => [HOST_FN_EVT, TEN_STORE_STAT, SRV_TOKEN_CNT, SRV_MSI_CNT, SRV_ADP_RETIRE_CNT, KV_RELEASE_CNT, PRT_STAT, PRT_ERR, PRT_MODEL_STAT, PRT_REFETCH_CNT, PRT_FENCE_CNT, PRT_SCRUB_BYTES, MEM_STAT, MEM_ERR, MEM_UNIT_STAT, MEM_CE_CNT, MEM_UE_CNT, MEM_TRAIN_CNT, CW_DISCARD_CNT, EVC_ERR, EVC_CLK_STAT, EVC_SRC, TAL_TILE_STAT, TAL_ACC_STAT].contains r
  | .planeLoadRequest _ _ _ _ _ => [].contains r
  | .planeLoadStart _ _ _ => [HOST_FN_EVT, TEN_STORE_STAT, SRV_TOKEN_CNT, SRV_MSI_CNT, SRV_ADP_RETIRE_CNT, KV_RELEASE_CNT, PRT_STAT, PRT_ERR, PRT_MODEL_STAT, PRT_REFETCH_CNT, PRT_FENCE_CNT, MEM_STAT, MEM_ERR, MEM_UNIT_STAT, MEM_CE_CNT, MEM_UE_CNT, MEM_TRAIN_CNT, CW_DISCARD_CNT, EVC_ERR, EVC_SRC, TAL_TILE_STAT, TAL_ACC_STAT, STL_ERR, STL_PLANE].contains r
  | .planeLoadDone _ _ _ => [PRT_PLANE_LOAD_CNT, STL_PLANE].contains r
  | .decodeAttention _ _ _ _ _ _ _ => [HOST_FN_STAT, HOST_FN_EVT, TEN_STORE_STAT, TEN_FAULT, HOST_ERR, SRV_PACE_STAT, SRV_TOKEN_CNT, SRV_MSI_CNT, SRV_ADP_RETIRE_CNT, KV_ERR, KV_NARROW_READ_CNT, KV_RELEASE_CNT, KV_INDEX_SEL_CNT, CHK_ERR, CHK_CPER_WIDX, CHK_CPER_DROP_CNT, MEM_ERR, MEM_CE_CNT, MEM_UE_CNT, MEM_TRAIN_CNT, EVC_ERR, EVC_SRC, CAL_ROW_TEMP, WDN_WAKE_CNT, WDN_FLOG_DATA, WDN_FLOG_HEAD, WH_STAT, WH_ERR, WH_DEC_CNT, WH_PAGE_READ_CNT, WH_STATS_SAVE_CNT, WH_BOUND_CNT, TAL_TILE_STAT].contains r
  | .freshBlockMerge _ _ _ _ _ _ _ _ _ => [HOST_FN_EVT, TEN_STORE_STAT, SRV_TOKEN_CNT, SRV_MSI_CNT, SRV_ADP_RETIRE_CNT, KV_ERR, KV_RELEASE_CNT, MEM_ERR, MEM_UE_CNT, MEM_TRAIN_CNT, EVC_ERR, EVC_SRC, WDN_WAKE_CNT, WH_ERR, WH_MERGE_CNT, TAL_TILE_STAT].contains r
  | .pageManagerChange _ _ => [HOST_FN_EVT, KV_ERR, KV_COW_CNT, KV_RELEASE_CNT, KV_REMOTE_ALLOC_CNT, EVC_ERR, EVC_SRC].contains r
  | .parkSequence _ => [HOST_FN_EVT, TEN_STORE_STAT, SRV_TOKEN_CNT, SRV_MSI_CNT, SRV_ADP_RETIRE_CNT, KV_ERR, KV_RELEASE_CNT, KV_PARK_CNT, KV_KV4_SAT_CNT, MEM_ERR, MEM_UE_CNT, MEM_TRAIN_CNT, EVC_ERR, EVC_SRC, TAL_TILE_STAT].contains r
  | .resumeSequence _ _ _ => [HOST_FN_EVT, TEN_STORE_STAT, TEN_FAULT, TEN_DMA_FAIL_CNT, HOST_ERR, SRV_TOKEN_CNT, SRV_MSI_CNT, SRV_ADP_RETIRE_CNT, KV_RELEASE_CNT, KV_RESUME_CNT, KV_REMOTE_ALLOC_CNT, EVC_ERR, EVC_SRC, TAL_TILE_STAT].contains r
  | .kvSlotCfgWrite _ _ => [HOST_FN_EVT, TEN_FAULT, TEN_FAULT_INFO, TEN_ACCESS_ERR_CNT, KV_SLOT_CFG, EVC_CLK_STAT].contains r
  | .slipSeal _ _ _ => [HOST_FN_EVT, TEN_FAULT, TEN_FAULT_INFO, TEN_ACCESS_ERR_CNT, SRV_ERR, SRV_SLIP_CNT, SRV_REFUSED_CNT, EVC_ERR, EVC_CLK_STAT, EVC_SRC].contains r
  | .generate _ _ _ _ => [HOST_FN_EVT, SRV_ERR, SRV_REFUSED_CNT, SRV_TOKEN_CNT, SRV_MSI_CNT, KV_ERR, KV_COW_CNT, KV_RELEASE_CNT, KV_REMOTE_ALLOC_CNT, EVC_ERR, EVC_SRC].contains r
  | .cancel _ _ => [HOST_FN_EVT, TEN_STORE_STAT, SRV_ERR, SRV_PACE_STAT, SRV_REFUSED_CNT, SRV_TOKEN_CNT, SRV_MSI_CNT, SRV_ADP_RETIRE_CNT, KV_RELEASE_CNT, EVC_ERR, EVC_SRC, TAL_TILE_STAT].contains r
  | .streamOpen _ _ => [HOST_FN_EVT, SRV_ERR, SRV_PACE_STAT, SRV_REFUSED_CNT, SRV_TOKEN_CNT, SRV_MSI_CNT, EVC_ERR, EVC_SRC].contains r
  | .frame _ _ => [HOST_FN_EVT, SRV_ERR, SRV_PACE_STAT, SRV_REFUSED_CNT, EVC_ERR, EVC_SRC].contains r
  | .streamClose _ _ => [HOST_FN_EVT, SRV_ERR, SRV_PACE_STAT, SRV_REFUSED_CNT, SRV_TOKEN_CNT, SRV_MSI_CNT, EVC_ERR, EVC_SRC].contains r
  | .tune _ _ _ => [HOST_FN_EVT, TEN_STORE_STAT, SRV_ERR, SRV_REFUSED_CNT, SRV_TOKEN_CNT, SRV_MSI_CNT, SRV_ADP_RETIRE_CNT, KV_RELEASE_CNT, EVC_ERR, EVC_SRC, TAL_TILE_STAT].contains r
  | .sequenceActivate _ => [].contains r
  | .stepStart => [SRV_STEP_CNT, SRV_SKIP_CNT, SRV_ADP_RETIRE_CNT, CW_HOME_STAT, CW_DISCARD_CNT, TAL_TILE_STAT].contains r
  | .stepEnd => [SRV_STAT, SRV_STEP_LAST, SRV_CHUNK_SHRINK_CNT].contains r
  | .emptyStep => [SRV_STEP_CNT, SRV_SKIP_CNT, SRV_ADP_RETIRE_CNT, CW_HOME_STAT, CW_DISCARD_CNT, TAL_TILE_STAT].contains r
  | .stormCeilingLower _ => [HOST_FN_EVT, SRV_ERR, SRV_FUNC_CEIL, SRV_STORM_CEIL_CNT, EVC_ERR, EVC_SRC].contains r
  | .stormCeilingRestore _ => [SRV_FUNC_CEIL].contains r
  | .positionStart _ _ _ _ _ => [HOST_FN_EVT, TEN_STORE_STAT, SRV_TOKEN_CNT, SRV_MSI_CNT, SRV_ADP_RETIRE_CNT, KV_ERR, KV_COW_CNT, KV_RELEASE_CNT, KV_PARK_CNT, KV_KV4_SAT_CNT, KV_REMOTE_ALLOC_CNT, MEM_ERR, MEM_UE_CNT, MEM_TRAIN_CNT, CW_DISCARD_CNT, EVC_ERR, EVC_SRC, WDN_WAKE_CNT, TAL_TILE_STAT].contains r
  | .positionEnd _ _ _ _ => [HOST_FN_EVT, TEN_STORE_STAT, SRV_ERR, SRV_TOKEN_CNT, SRV_MSI_CNT, SRV_ADP_RETIRE_CNT, KV_RELEASE_CNT, CHK_ERR, CHK_CPER_WIDX, CHK_CPER_DROP_CNT, EVC_ERR, EVC_SRC, CAL_ROW_TEMP, WDN_FLOG_DATA, WDN_FLOG_HEAD, WH_STAT, WH_ERR, WH_PRE_BLK_CNT, TAL_TILE_STAT].contains r
  | .positionCommit _ _ => [HOST_FN_STAT, HOST_FN_EVT, TEN_STORE_STAT, TEN_FAULT, HOST_ERR, SRV_PACE_STAT, SRV_TOKEN_CNT, SRV_MSI_CNT, SRV_ADP_RETIRE_CNT, KV_ERR, KV_RELEASE_CNT, KV_PARK_CNT, KV_KV4_SAT_CNT, MEM_ERR, MEM_UE_CNT, MEM_TRAIN_CNT, EVC_ERR, EVC_SRC, WDN_FLOG_DATA, WDN_FLOG_HEAD, TAL_TILE_STAT].contains r
  | .msiModerationTimeout _ _ => [SRV_MSI_CNT].contains r
  | .rollRidxPoll _ _ _ => [SRV_TOKEN_CNT, SRV_ROLL_FULL_CNT, SRV_MSI_CNT].contains r
  | .verifyPass _ _ _ => [HOST_FN_EVT, TEN_STORE_STAT, SRV_ERR, SRV_TOKEN_CNT, SRV_DRAFT_CNT, SRV_ACCEPT_CNT, SRV_TOTAL_REJ_CNT, SRV_SPEC_PAUSE_CNT, SRV_MSI_CNT, SRV_ADP_RETIRE_CNT, KV_RELEASE_CNT, CHK_ERR, CHK_CPER_WIDX, CHK_CPER_DROP_CNT, EVC_ERR, EVC_SRC, CAL_ROW_TEMP, WDN_FLOG_DATA, WDN_FLOG_HEAD, WH_STAT, WH_ERR, TAL_TILE_STAT].contains r
  | .specPauseEnd _ => [].contains r
  | .frameInEdge => [SRV_PACE_STAT].contains r
  | .framePeriodTick _ => [SRV_PACE_STAT].contains r
  | .frameComplete _ _ => [HOST_FN_EVT, SRV_ERR, SRV_PACE_STAT, SRV_TOKEN_CNT, SRV_LATE_CNT, SRV_MSI_CNT, EVC_ERR, EVC_SRC].contains r
  | .funcCeilWrite _ _ => [HOST_FN_EVT, TEN_FAULT, TEN_FAULT_INFO, TEN_ACCESS_ERR_CNT, SRV_FUNC_CEIL, EVC_CLK_STAT].contains r
  | .adapterLoad _ _ _ _ => [HOST_FN_EVT, TEN_FAULT, TEN_FAULT_INFO, TEN_ACCESS_ERR_CNT, SRV_ADP_STAT, SRV_ADP_ERR, SRV_ADP_LOAD_CNT, EVC_ERR, EVC_CLK_STAT, EVC_SRC].contains r
  | .adapterUnload _ _ => [HOST_FN_EVT, TEN_FAULT, TEN_FAULT_INFO, TEN_ACCESS_ERR_CNT, SRV_ADP_RETIRE_CNT, EVC_CLK_STAT].contains r
  | .roundEnd _ _ _ => [TEN_STORE_STAT, SRV_TOKEN_CNT, SRV_MSI_CNT, SRV_ADP_RETIRE_CNT, SRV_TUNE_ROUND_CNT, KV_RELEASE_CNT, TAL_TILE_STAT].contains r
  | .portEnable _ _ => [HOST_FN_EVT, TEN_STORE_STAT, TEN_FAULT, TEN_FAULT_INFO, TEN_ACCESS_ERR_CNT, SRV_ERR, SRV_TOKEN_CNT, SRV_MSI_CNT, SRV_ADP_RETIRE_CNT, KV_RELEASE_CNT, CHK_ERR, CHK_CPER_WIDX, CHK_RETRACT_POS_CNT, CHK_RETRACT_SENT_CNT, CHK_CPER_DROP_CNT, CW_STAT, CW_ERR, CW_PORT_CTL, CW_PORT_STAT, CW_PORT_REACH_LO, CW_PORT_REACH_HI, CW_PARTNERS_LO, CW_PARTNERS_HI, CW_RETRAIN_CNT, CW_DISCARD_CNT, EVC_ERR, EVC_CLK_STAT, EVC_SRC, CAL_ROW_TEMP, TAL_TILE_STAT].contains r
  | .portRetrain _ _ => [HOST_FN_EVT, TEN_STORE_STAT, TEN_FAULT, TEN_FAULT_INFO, TEN_ACCESS_ERR_CNT, SRV_ERR, SRV_TOKEN_CNT, SRV_MSI_CNT, SRV_ADP_RETIRE_CNT, KV_RELEASE_CNT, CHK_ERR, CHK_CPER_WIDX, CHK_RETRACT_POS_CNT, CHK_RETRACT_SENT_CNT, CHK_CPER_DROP_CNT, CW_STAT, CW_ERR, CW_PORT_CTL, CW_PORT_STAT, CW_PORT_REACH_LO, CW_PORT_REACH_HI, CW_PARTNERS_LO, CW_PARTNERS_HI, CW_RETRAIN_CNT, CW_DISCARD_CNT, EVC_ERR, EVC_CLK_STAT, EVC_SRC, CAL_ROW_TEMP, TAL_TILE_STAT].contains r
  | .trainingTrialFail _ => [HOST_FN_EVT, CW_ERR, CW_PORT_STAT, CW_RETRAIN_CNT, EVC_ERR, EVC_SRC].contains r
  | .hello _ _ _ _ _ _ _ _ => [HOST_FN_EVT, CW_ERR, CW_PORT_STAT, CW_FEC_CORR_CNT, EVC_ERR, EVC_SRC].contains r
  | .helloTimer _ => [].contains r
  | .idleFrame _ _ => [CW_STAT, CW_PORT_STAT, CW_FEC_CORR_CNT].contains r
  | .reach _ _ _ => [HOST_FN_EVT, TEN_STORE_STAT, SRV_ERR, SRV_TOKEN_CNT, SRV_MSI_CNT, SRV_ADP_RETIRE_CNT, KV_RELEASE_CNT, CHK_ERR, CHK_CPER_WIDX, CHK_RETRACT_POS_CNT, CHK_RETRACT_SENT_CNT, CHK_CPER_DROP_CNT, CW_STAT, CW_PORT_REACH_LO, CW_PORT_REACH_HI, CW_PARTNERS_LO, CW_PARTNERS_HI, CW_FEC_CORR_CNT, CW_DISCARD_CNT, EVC_ERR, EVC_SRC, CAL_ROW_TEMP, TAL_TILE_STAT].contains r
  | .reachTimer => [].contains r
  | .nak _ _ _ => [HOST_FN_EVT, TEN_STORE_STAT, SRV_ERR, SRV_TOKEN_CNT, SRV_MSI_CNT, SRV_ADP_RETIRE_CNT, KV_RELEASE_CNT, CHK_ERR, CHK_CPER_WIDX, CHK_RETRACT_POS_CNT, CHK_RETRACT_SENT_CNT, CHK_CPER_DROP_CNT, CW_STAT, CW_ERR, CW_PORT_CTL, CW_PORT_STAT, CW_PORT_REACH_LO, CW_PORT_REACH_HI, CW_PARTNERS_LO, CW_PARTNERS_HI, CW_FEC_CORR_CNT, CW_REPLAY_CNT, CW_RETRAIN_CNT, CW_DISCARD_CNT, EVC_ERR, EVC_SRC, CAL_ROW_TEMP, TAL_TILE_STAT].contains r
  | .down _ _ => [HOST_FN_EVT, TEN_STORE_STAT, SRV_ERR, SRV_TOKEN_CNT, SRV_MSI_CNT, SRV_ADP_RETIRE_CNT, KV_RELEASE_CNT, CHK_ERR, CHK_CPER_WIDX, CHK_RETRACT_POS_CNT, CHK_RETRACT_SENT_CNT, CHK_CPER_DROP_CNT, CW_STAT, CW_ERR, CW_PORT_STAT, CW_PORT_REACH_LO, CW_PORT_REACH_HI, CW_PARTNERS_LO, CW_PARTNERS_HI, CW_FEC_CORR_CNT, CW_DISCARD_CNT, EVC_ERR, EVC_SRC, CAL_ROW_TEMP, TAL_TILE_STAT].contains r
  | .dataFrame _ _ _ _ _ => [HOST_FN_EVT, CW_STAT, CW_ERR, CW_PORT_STAT, CW_RX_CART_CNT, CW_FEC_CORR_CNT, CW_DISCARD_CNT, EVC_ERR, EVC_SRC].contains r
  | .uncorrectableCodeword _ => [CW_FEC_UNCORR_CNT].contains r
  | .ackTimeout _ => [HOST_FN_EVT, TEN_STORE_STAT, SRV_ERR, SRV_TOKEN_CNT, SRV_MSI_CNT, SRV_ADP_RETIRE_CNT, KV_RELEASE_CNT, CHK_ERR, CHK_CPER_WIDX, CHK_RETRACT_POS_CNT, CHK_RETRACT_SENT_CNT, CHK_CPER_DROP_CNT, CW_STAT, CW_ERR, CW_PORT_CTL, CW_PORT_STAT, CW_PORT_REACH_LO, CW_PORT_REACH_HI, CW_PARTNERS_LO, CW_PARTNERS_HI, CW_REPLAY_CNT, CW_RETRAIN_CNT, CW_DISCARD_CNT, EVC_ERR, EVC_SRC, CAL_ROW_TEMP, TAL_TILE_STAT].contains r
  | .cartSend _ _ => [CW_TX_CART_CNT, CW_CREDIT_WAIT_CNT].contains r
  | .dispatch _ _ _ _ => [HOST_FN_EVT, CW_STAT, CW_ERR, CW_DISCARD_CNT, CW_RCPT_CNT, EVC_ERR, EVC_CLK_STAT, EVC_SRC].contains r
  | .returnCart _ _ _ => [HOST_FN_EVT, CW_STAT, CW_ERR, CW_DISCARD_CNT, CW_RCPT_CNT, CW_REFUSED_CNT, EVC_ERR, EVC_CLK_STAT, EVC_SRC].contains r
  | .part _ _ => [HOST_FN_EVT, CW_STAT, CW_ERR, CW_DISCARD_CNT, CW_RCPT_CNT, EVC_ERR, EVC_CLK_STAT, EVC_SRC].contains r
  | .receipt _ _ => [CW_STAT, CW_DISCARD_CNT, CW_RCPT_CNT, EVC_CLK_STAT].contains r
  | .retract _ _ => [HOST_FN_EVT, TEN_STORE_STAT, SRV_ERR, SRV_TOKEN_CNT, SRV_MSI_CNT, SRV_ADP_RETIRE_CNT, KV_RELEASE_CNT, CHK_ERR, CHK_CPER_WIDX, CHK_RETRACT_POS_CNT, CHK_RETRACT_SENT_CNT, CHK_CPER_DROP_CNT, CW_STAT, CW_DISCARD_CNT, CW_RETRACT_CNT, EVC_ERR, EVC_CLK_STAT, EVC_SRC, CAL_ROW_TEMP, TAL_TILE_STAT].contains r
  | .fence _ _ => [EVC_CLK_STAT].contains r
  | .unfence _ _ => [EVC_CLK_STAT].contains r
  | .homeTableLoad _ _ _ => [HOST_FN_EVT, TEN_FAULT, TEN_FAULT_INFO, TEN_ACCESS_ERR_CNT, CW_HOME_STAT, EVC_CLK_STAT].contains r
  | .homeTableClear _ _ => [HOST_FN_EVT, TEN_FAULT, TEN_FAULT_INFO, TEN_ACCESS_ERR_CNT, CW_HOME_STAT, EVC_CLK_STAT].contains r
  | .homeWaitTimeout _ => [HOST_FN_EVT, TEN_STORE_STAT, SRV_TOKEN_CNT, SRV_MSI_CNT, SRV_ADP_RETIRE_CNT, KV_RELEASE_CNT, CW_ERR, EVC_ERR, EVC_SRC, TAL_TILE_STAT].contains r
  | .receiptSend _ _ => [CW_DISCARD_CNT].contains r
  | .pendingTimeout _ _ => [HOST_FN_EVT, TEN_STORE_STAT, SRV_ERR, SRV_TOKEN_CNT, SRV_MSI_CNT, SRV_ADP_RETIRE_CNT, KV_RELEASE_CNT, CHK_ERR, CHK_CPER_WIDX, CHK_RETRACT_POS_CNT, CHK_RETRACT_SENT_CNT, CHK_CPER_DROP_CNT, CW_STAT, CW_ERR, CW_DISCARD_CNT, CW_TIMEOUT_CNT, EVC_ERR, EVC_SRC, CAL_ROW_TEMP, TAL_TILE_STAT].contains r
  | .probeStrike _ _ _ => [HOST_FN_EVT, PRT_FRESH_WAIT_CNT, EVC_ERR, EVC_SRC, CAL_STALL_STAT, WDN_PAUSE_CNT, WDN_FLOG_DATA, WDN_FLOG_HEAD, TAL_OUT_WAIT_CNT, TAL_NQ_STORE_WAIT_CNT, TAL_ACC_REORDER_WAIT_CNT, STL_STAT, STL_ERR, STL_STRIKES].contains r
  | .pairCompare _ _ _ _ _ _ => [HOST_FN_EVT, TEN_STORE_STAT, SRV_ERR, SRV_TOKEN_CNT, SRV_MSI_CNT, SRV_ADP_RETIRE_CNT, KV_RELEASE_CNT, CHK_ERR, CHK_CPER_WIDX, CHK_PAIR_MISMATCH_CNT, CHK_RETRACT_POS_CNT, CHK_RETRACT_SENT_CNT, CHK_CPER_DROP_CNT, CW_DISCARD_CNT, EVC_ERR, EVC_SRC, CAL_ROW_TEMP, TAL_TILE_STAT, TAL_ACC_STAT].contains r
  | .inspectorJobStart _ => [HOST_FN_EVT, TEN_STORE_STAT, SRV_TOKEN_CNT, SRV_MSI_CNT, SRV_ADP_RETIRE_CNT, KV_RELEASE_CNT, PRT_STAT, PRT_ERR, PRT_MODEL_STAT, PRT_REFETCH_CNT, PRT_FENCE_CNT, MEM_ERR, MEM_UE_CNT, MEM_TRAIN_CNT, CW_DISCARD_CNT, EVC_ERR, EVC_CLK_STAT, EVC_SRC, TAL_TILE_STAT, TAL_ACC_STAT].contains r
  | .inspectorVerdict _ _ => [HOST_FN_EVT, TEN_STORE_STAT, SRV_ERR, SRV_TOKEN_CNT, SRV_MSI_CNT, SRV_ADP_RETIRE_CNT, KV_RELEASE_CNT, CHK_ERR, CHK_STALL_STAT, CHK_CPER_WIDX, CHK_INSPECT_CNT, CHK_CHECKER_WRONG_CNT, CHK_RESULT_WRONG_CNT, CHK_DEADLINE_CNT, CHK_RETRACT_POS_CNT, CHK_RETRACT_SENT_CNT, CHK_CPER_DROP_CNT, MEM_STAT, MEM_UNIT_STAT, CW_DISCARD_CNT, EVC_ERR, EVC_SRC, CAL_STAT, CAL_ERR, CAL_STALL_STAT, CAL_ROW_TEMP, BST_STAT, WDN_WAKE_CNT, WDN_FLOG_DATA, WDN_FLOG_HEAD, WH_STAT, TAL_TILE_STAT, TAL_ACC_ERR, TAL_ACC_STAT, TAL_ACC_RUN_CNT, TAL_ACC_OVERSIZE_CNT, TAL_ACC_INF_CNT, TAL_ACC_NAN_CNT, STL_STAT].contains r
  | .disputeDeadline _ => [HOST_FN_EVT, TEN_STORE_STAT, SRV_ERR, SRV_TOKEN_CNT, SRV_MSI_CNT, SRV_ADP_RETIRE_CNT, KV_RELEASE_CNT, CHK_ERR, CHK_CPER_WIDX, CHK_DEADLINE_CNT, CHK_RETRACT_POS_CNT, CHK_RETRACT_SENT_CNT, CHK_CPER_DROP_CNT, CW_DISCARD_CNT, EVC_ERR, EVC_SRC, CAL_ROW_TEMP, TAL_TILE_STAT, TAL_ACC_STAT].contains r
  | .checksumReloadDone _ _ => [].contains r
  | .granuleRetire _ => [HOST_FN_EVT, MEM_ERR, MEM_UNIT_STAT, MEM_RETIRE_CNT, EVC_ERR, EVC_SRC].contains r
  | .patrolScrub _ _ _ _ => [HOST_FN_EVT, TEN_STORE_STAT, SRV_ERR, SRV_TOKEN_CNT, SRV_MSI_CNT, SRV_ADP_RETIRE_CNT, KV_RELEASE_CNT, PRT_STAT, PRT_ERR, PRT_MODEL_STAT, PRT_REFETCH_CNT, PRT_FENCE_CNT, STK_STAT, STK_ERR, CHK_ERR, CHK_CPER_WIDX, CHK_RETRACT_POS_CNT, CHK_RETRACT_SENT_CNT, CHK_CPER_DROP_CNT, MEM_STAT, MEM_ERR, MEM_UNIT_STAT, MEM_CE_CNT, MEM_UE_CNT, MEM_SCRUB_CE_CNT, MEM_TRAIN_CNT, CW_STAT, CW_ERR, CW_PORT_STAT, CW_PORT_REACH_LO, CW_PORT_REACH_HI, CW_PARTNERS_LO, CW_PARTNERS_HI, CW_DISCARD_CNT, EVC_ERR, EVC_SRC, CAL_ROW_TEMP, WDN_RST_CAUSE, WDN_FLOG_DATA, WDN_FLOG_HEAD, TAL_TILE_STAT, TAL_ACC_STAT, STL_GRP_CFG].contains r
  | .scrubPeriodEnd _ => [HOST_FN_EVT, MEM_ERR, EVC_ERR, EVC_SRC].contains r
  | .t2SelfRefreshEntry _ => [MEM_STAT, MEM_UNIT_STAT].contains r
  | .periodicRetrain _ => [MEM_TRAIN_CNT].contains r
  | .linkTrainingDone _ _ => [HOST_LINK_STAT, HOST_RETRAIN_CNT, EVC_ERR, EVC_SRC].contains r
  | .powerStateWrite _ _ => [HOST_FN_STAT].contains r
  | .msixUnmask _ _ => [EVC_CLK_STAT].contains r
  | .invalidationRequest _ _ _ _ => [HOST_FN_EVT, HOST_ERR, EVC_ERR, EVC_SRC].contains r
  | .hostReadFailure _ _ => [HOST_FN_EVT, TEN_STORE_STAT, TEN_FAULT, TEN_DMA_FAIL_CNT, HOST_ERR, SRV_PACE_STAT, SRV_TOKEN_CNT, SRV_ROLL_FULL_CNT, SRV_MSI_CNT, SRV_ADP_ERR, SRV_ADP_RETIRE_CNT, KV_RELEASE_CNT, PRT_STAT, PRT_ERR, PRT_MODEL_STAT, PRT_REFETCH_CNT, PRT_FENCE_CNT, STK_REFETCH_CNT, CW_HOME_STAT, CW_DISCARD_CNT, EVC_ERR, EVC_SRC, TAL_TILE_STAT, TAL_WIDE_START_CNT, TAL_ACC_STAT].contains r
  | .quotaWrite _ _ => [HOST_FN_EVT, TEN_QUOTA, TEN_FAULT, TEN_FAULT_INFO, TEN_ACCESS_ERR_CNT, TEN_ADM_QUOTA, EVC_CLK_STAT].contains r
  | .storeRegister _ => [HOST_FN_EVT, TEN_STORE_STAT, EVC_CLK_STAT].contains r
  | .storeWithdraw _ => [HOST_FN_EVT, TEN_STORE_STAT, EVC_CLK_STAT].contains r
  | .functionLevelReset _ => [HOST_FN_STAT, HOST_FN_EVT, HOST_FN_EVT_EN, TEN_SESSION, TEN_STORE_BASE, TEN_STORE_SIZE, TEN_STORE_STAT, TEN_FAULT, TEN_FAULT_INFO, TEN_ACCESS_ERR_CNT, TEN_DMA_FAIL_CNT, SRV_ERR, SRV_PACE_STAT, SRV_REFUSED_CNT, SRV_TOKEN_CNT, SRV_MSI_CNT, SRV_ADP_RETIRE_CNT, KV_RELEASE_CNT, EVC_ERR, EVC_SRC, TAL_TILE_STAT].contains r
  | .pfFunctionLevelReset => [HOST_FN_STAT, HOST_FN_EVT, HOST_FN_EVT_EN, TEN_SESSION, TEN_STORE_BASE, TEN_STORE_SIZE, TEN_STORE_STAT, TEN_FAULT, TEN_FAULT_INFO, TEN_ACCESS_ERR_CNT, TEN_DMA_FAIL_CNT, SRV_ERR, SRV_PACE_STAT, SRV_REFUSED_CNT, SRV_TOKEN_CNT, SRV_MSI_CNT, SRV_ADP_RETIRE_CNT, KV_RELEASE_CNT, EVC_ERR, EVC_SRC, TAL_TILE_STAT].contains r
  | .flrComplete _ => [].contains r
  | .numvfsWrite _ _ _ => [HOST_FN_STAT, HOST_FN_EVT, HOST_FN_EVT_EN, TEN_SESSION, TEN_STORE_BASE, TEN_STORE_SIZE, TEN_STORE_STAT, TEN_FAULT, TEN_FAULT_INFO, TEN_ACCESS_ERR_CNT, TEN_DMA_FAIL_CNT, SRV_ERR, SRV_PACE_STAT, SRV_REFUSED_CNT, SRV_TOKEN_CNT, SRV_MSI_CNT, SRV_ADP_RETIRE_CNT, KV_RELEASE_CNT, EVC_ERR, EVC_SRC, TAL_TILE_STAT].contains r
  | .linkReset _ => [HOST_FN_STAT, HOST_FN_EVT, HOST_FN_EVT_EN, TEN_SESSION, TEN_STORE_BASE, TEN_STORE_SIZE, TEN_STORE_STAT, TEN_FAULT, TEN_FAULT_INFO, TEN_ACCESS_ERR_CNT, TEN_DMA_FAIL_CNT, HOST_LINK_STAT, SRV_ERR, SRV_PACE_STAT, SRV_REFUSED_CNT, SRV_TOKEN_CNT, SRV_MSI_CNT, SRV_ADP_RETIRE_CNT, KV_RELEASE_CNT, EVC_ERR, EVC_SRC, TAL_TILE_STAT].contains r
  | .doeDiscovery _ _ => [EVC_ERR, EVC_SRC].contains r
  | .doeAbort _ => [].contains r
  | .handlerEntry => [HOST_FN_EVT, EVC_ERR, EVC_ENTRY_CNT, EVC_TAIL_CNT, EVC_LATE_CNT, EVC_CLK_STAT, EVC_SRC].contains r
  | .handlerExit _ => [EVC_ENTRY_CNT, EVC_TAIL_CNT, EVC_CLK_STAT, EVC_SRC].contains r
  | .clerkWfi _ => [].contains r
  | .clerkClockGate _ => [EVC_CLK_STAT].contains r
  | .squarePllStop => [].contains r
  | .squarePllRestart => [EVC_CLK_STAT].contains r
  | .softwareEventSet _ _ => [HOST_FN_EVT, TEN_FAULT, TEN_FAULT_INFO, TEN_ACCESS_ERR_CNT, EVC_ERR, EVC_CLK_STAT, EVC_SRC].contains r
  | .clerkTimerExpiry _ => [EVC_ERR, EVC_SRC].contains r
  | .eventNorouteTimeout _ => [HOST_FN_EVT, EVC_ERR, EVC_SRC].contains r
  | .modeChange _ _ _ => [HOST_FN_EVT, TEN_FAULT, TEN_FAULT_INFO, TEN_ACCESS_ERR_CNT, MEM_STAT, MEM_ERR, MEM_UNIT_STAT, EVC_ERR, EVC_CLK_STAT, EVC_SRC, MODE_STAT, MODE_ERR, WH_STAT, TAL_ACC_STAT, STL_STAT].contains r
  | .modeAbort _ => [HOST_FN_EVT, TEN_FAULT, TEN_FAULT_INFO, TEN_ACCESS_ERR_CNT, EVC_ERR, EVC_CLK_STAT, EVC_SRC, MODE_STAT, MODE_GEN, MODE_ABORT_CNT, WH_STAT, TAL_ACC_STAT, STL_STAT].contains r
  | .barrier _ => [HOST_FN_EVT, TEN_FAULT, TEN_FAULT_INFO, TEN_ACCESS_ERR_CNT, EVC_CLK_STAT, MODE_STAT].contains r
  | .barrierComplete => [EVC_ERR, EVC_SRC, MODE_STAT, MODE_BARRIER_CNT].contains r
  | .modeCloseComplete => [EVC_ERR, EVC_SRC, MODE_STAT, MODE_GEN, WH_STAT, TAL_ACC_STAT, STL_STAT].contains r
  | .modeOpen _ => unitReg r || [HOST_FN_EVT, EVC_ERR, EVC_SRC, MODE_STAT, MODE_ERR, MODE_GEN, MODE_CHANGE_CNT, MODE_ABORT_CNT, WH_STAT, TAL_MODE_GEN, TAL_ACC_STAT, STL_STAT].contains r
  | .modeCloseTimeout => [HOST_FN_EVT, EVC_ERR, EVC_SRC, MODE_STAT, MODE_ERR, MODE_GEN, MODE_ABORT_CNT, WH_STAT, TAL_ACC_STAT, STL_STAT].contains r
  | .modeStageTimeout _ _ => [HOST_FN_EVT, EVC_ERR, EVC_SRC, MODE_STAT, MODE_ERR, MODE_GEN, MODE_ABORT_CNT, WH_STAT, TAL_ACC_STAT, STL_STAT].contains r
  | .modeOpenResend _ _ _ => unitReg r || [HOST_FN_EVT, EVC_ERR, EVC_SRC, MODE_STAT, MODE_ERR, WDN_FLOG_DATA, WDN_FLOG_HEAD, WH_STAT, TAL_MODE_GEN, TAL_ACC_STAT, STL_STAT].contains r
  | .unitCatchup _ _ => unitReg r || [ MODE_CATCHUP_CNT, WH_STAT, TAL_MODE_GEN, STL_STAT].contains r
  | .calibrationQueue _ _ _ => [HOST_FN_EVT, TEN_FAULT, TEN_FAULT_INFO, TEN_ACCESS_ERR_CNT, EVC_CLK_STAT, CAL_STAT, CAL_STALL_STAT].contains r
  | .referenceReestimate _ _ => [HOST_FN_EVT, TEN_FAULT, TEN_FAULT_INFO, TEN_ACCESS_ERR_CNT, EVC_CLK_STAT, CAL_ROW_TEMP, CAL_REEST_CNT, TAL_DRIFT_VAL].contains r
  | .spareStallSubstitute _ _ _ => unitReg r || [HOST_FN_EVT, TEN_FAULT, TEN_FAULT_INFO, TEN_ACCESS_ERR_CNT, EVC_ERR, EVC_CLK_STAT, EVC_SRC, MODE_CATCHUP_CNT, CAL_STAT, CAL_ERR, CAL_STALL_STAT, CAL_SUBST_CNT, WDN_FLOG_DATA, WDN_FLOG_HEAD, WH_STAT, TAL_MODE_GEN, TAL_TILE_STAT, STL_STAT].contains r
  | .calibrationWithdraw _ _ _ => [HOST_FN_EVT, TEN_FAULT, TEN_FAULT_INFO, TEN_ACCESS_ERR_CNT, EVC_CLK_STAT, CAL_STAT, CAL_STALL_STAT].contains r
  | .calibrationRunStart => [MEM_STAT, MEM_UNIT_STAT, CAL_STAT, CAL_STALL_STAT, WDN_WAKE_CNT, WH_STAT, TAL_ACC_STAT, STL_STAT].contains r
  | .blockModeSwitch _ _ => [CAL_STALL_STAT, TAL_ACC_STAT, STL_STAT].contains r
  | .calibrationFit _ _ _ _ => [HOST_FN_EVT, STK_STAT, STK_ERR, MEM_STAT, MEM_UNIT_STAT, EVC_ERR, EVC_SRC, CAL_STAT, CAL_ERR, CAL_STALL_STAT, CAL_STALL_STAMP, CAL_STALL_ROUNDS, CAL_RUN_CNT, CAL_SPARE_COL_CNT, CAL_SPARE_ROW_CNT, BST_STAT, WDN_WAKE_CNT, WDN_FLOG_DATA, WDN_FLOG_HEAD, WH_STAT, TAL_COR_ERR, TAL_DRIFT_VAL, TAL_SIGMA, TAL_ACC_STAT, STL_STAT, STL_ERR, STL_GRP_CFG, STL_SLICE_MAP, STL_SLICE_HEALTH].contains r
  | .periodicCalibration _ _ => [CAL_STAT, CAL_STALL_STAT].contains r
  | .repairAssign _ _ => [HOST_FN_EVT, TEN_FAULT, TEN_FAULT_INFO, TEN_ACCESS_ERR_CNT, STK_STAT, EVC_ERR, EVC_CLK_STAT, EVC_SRC, CAL_ERR, CAL_SPARE_COL_CNT, CAL_SPARE_ROW_CNT, TAL_DRIFT_VAL, STL_GRP_CFG].contains r
  | .selfTestLogic _ _ _ _ => [HOST_FN_EVT, TEN_FAULT, TEN_FAULT_INFO, TEN_ACCESS_ERR_CNT, MEM_STAT, MEM_UNIT_STAT, EVC_ERR, EVC_CLK_STAT, EVC_SRC, BST_STAT, BST_ERR, BST_DEFER_CNT, WDN_WAKE_CNT, WH_STAT, TAL_ACC_STAT, STL_STAT].contains r
  | .selfTestMemory _ _ _ _ => [HOST_FN_EVT, TEN_FAULT, TEN_FAULT_INFO, TEN_ACCESS_ERR_CNT, MEM_STAT, MEM_UNIT_STAT, EVC_ERR, EVC_CLK_STAT, EVC_SRC, BST_STAT, BST_ERR, BST_DEFER_CNT, WDN_WAKE_CNT, WH_STAT, TAL_ACC_STAT, STL_STAT].contains r
  | .selfTestConverter _ _ _ _ => [HOST_FN_EVT, TEN_FAULT, TEN_FAULT_INFO, TEN_ACCESS_ERR_CNT, MEM_STAT, MEM_UNIT_STAT, EVC_ERR, EVC_CLK_STAT, EVC_SRC, BST_STAT, BST_ERR, BST_DEFER_CNT, WDN_WAKE_CNT, WH_STAT, TAL_ACC_STAT, STL_STAT].contains r
  | .crateLineTest _ _ _ _ => [HOST_FN_EVT, TEN_FAULT, TEN_FAULT_INFO, TEN_ACCESS_ERR_CNT, MEM_STAT, MEM_UNIT_STAT, EVC_ERR, EVC_CLK_STAT, EVC_SRC, BST_STAT, BST_ERR, BST_DEFER_CNT, WDN_WAKE_CNT, WH_STAT, TAL_ACC_STAT, STL_STAT].contains r
  | .selfTestAll _ _ _ _ => [HOST_FN_EVT, TEN_FAULT, TEN_FAULT_INFO, TEN_ACCESS_ERR_CNT, MEM_STAT, MEM_UNIT_STAT, EVC_ERR, EVC_CLK_STAT, EVC_SRC, BST_STAT, BST_ERR, BST_DEFER_CNT, WDN_WAKE_CNT, WH_STAT, TAL_ACC_STAT, STL_STAT].contains r
  | .selfTestWithdraw _ _ _ _ => [HOST_FN_EVT, TEN_FAULT, TEN_FAULT_INFO, TEN_ACCESS_ERR_CNT, EVC_CLK_STAT, BST_STAT].contains r
  | .selfTestDeferredStart => [MEM_STAT, MEM_UNIT_STAT, BST_STAT, WDN_WAKE_CNT, WH_STAT, TAL_ACC_STAT, STL_STAT].contains r
  | .selfTestDone _ => unitReg r || [HOST_FN_EVT, STK_STAT, MEM_STAT, MEM_UNIT_STAT, EVC_ERR, EVC_SRC, MODE_CATCHUP_CNT, CAL_ERR, CAL_SPARE_COL_CNT, CAL_SPARE_ROW_CNT, BST_STAT, BST_ERR, BST_RESULT, BST_RUN_CNT, BST_FAIL_CNT, WDN_WAKE_CNT, WDN_FLOG_DATA, WDN_FLOG_HEAD, WH_STAT, TAL_MODE_GEN, TAL_DRIFT_VAL, TAL_ACC_STAT, STL_STAT, STL_ERR, STL_GRP_CFG, STL_PLANE, STL_SLICE_MAP, STL_SLICE_HEALTH].contains r
  | .fuseBurn _ => [HOST_FN_EVT, TEN_FAULT, TEN_FAULT_INFO, TEN_ACCESS_ERR_CNT, EVC_ERR, EVC_CLK_STAT, EVC_SRC, BST_ERR, BST_FUSE_CNT, STL_SLICE_MAP].contains r
  | .shutWaitTimeout _ => [TEN_STORE_STAT, SRV_TOKEN_CNT, SRV_MSI_CNT, SRV_ADP_RETIRE_CNT, KV_RELEASE_CNT, TAL_TILE_STAT, TAL_ACC_STAT].contains r
  | .wardenRound _ => [HOST_FN_EVT, STK_STAT, STK_ERR, CHK_ERR, CHK_CPER_WIDX, CHK_CPER_DROP_CNT, MEM_STAT, MEM_ERR, MEM_UNIT_STAT, EVC_ERR, EVC_SRC, MODE_STAT, MODE_GEN, MODE_ABORT_CNT, CAL_STAT, CAL_STALL_STAT, CAL_ROW_TEMP, CAL_REEST_CNT, WDN_STAT, WDN_ERR, WDN_ROUND, WDN_THERM_DATA, WDN_THERM_MAX, WDN_VR_STAT, WDN_PMB_ERR_CNT, WDN_STOP_CNT, WDN_FLOG_DATA, WDN_FLOG_HEAD, WH_STAT, TAL_DRIFT_VAL, TAL_ACC_ERR, TAL_ACC_STAT, TAL_ACC_REFUSED_CNT, STL_STAT, STL_GRP_CFG, STL_PLANE].contains r
  | .orderlyStopComplete _ => [HOST_FN_EVT, CHK_ERR, CHK_CPER_WIDX, CHK_CPER_DROP_CNT, MEM_STAT, MEM_UNIT_STAT, EVC_ERR, EVC_SRC, CAL_ROW_TEMP, WDN_STAT, WDN_FLOG_DATA, WDN_FLOG_HEAD, WH_STAT, TAL_ACC_ERR, TAL_ACC_STAT, TAL_ACC_REFUSED_CNT, STL_STAT, STL_PLANE].contains r
  | .restart _ => true
  | .restartRailTimeout => [HOST_FN_EVT, STK_STAT, STK_ERR, CHK_ERR, CHK_CPER_WIDX, CHK_CPER_DROP_CNT, MEM_STAT, MEM_UNIT_STAT, EVC_ERR, EVC_SRC, MODE_STAT, MODE_GEN, MODE_ABORT_CNT, CAL_ROW_TEMP, WDN_STAT, WDN_ERR, WDN_VR_STAT, WDN_STOP_CNT, WDN_FLOG_DATA, WDN_FLOG_HEAD, WH_STAT, TAL_ACC_ERR, TAL_ACC_STAT, TAL_ACC_REFUSED_CNT, STL_STAT, STL_GRP_CFG, STL_PLANE].contains r
  | .vsetWrite _ _ => [HOST_FN_EVT, TEN_FAULT, TEN_FAULT_INFO, TEN_ACCESS_ERR_CNT, EVC_ERR, EVC_CLK_STAT, EVC_SRC, WDN_ERR, WDN_VR_VSET].contains r
  | .monitorPassStart _ => [HOST_FN_EVT, TEN_FAULT, TEN_FAULT_INFO, TEN_ACCESS_ERR_CNT, EVC_ERR, EVC_CLK_STAT, EVC_SRC, WDN_STAT, WDN_ERR].contains r
  | .monitorResult _ _ _ => [HOST_FN_EVT, STK_STAT, STK_ERR, EVC_ERR, EVC_SRC, WDN_STAT, WDN_ERR, WDN_MON_DATA, WDN_MON_CH, WDN_MON_OVR_CNT, STL_GRP_CFG].contains r
  | .tripCounterExpiry => [WDN_STAT, WDN_FLOG_DATA, WDN_FLOG_HEAD].contains r
  | .clkAoLoss => [WDN_STAT].contains r
  | .svnCommit _ => [HOST_FN_EVT, TEN_FAULT, TEN_FAULT_INFO, TEN_ACCESS_ERR_CNT, EVC_ERR, EVC_CLK_STAT, EVC_SRC, SEC_STAT, SEC_ERR].contains r
  | .keyDataWrite _ _ _ => [HOST_FN_EVT, TEN_FAULT, TEN_FAULT_INFO, TEN_ACCESS_ERR_CNT, EVC_ERR, EVC_CLK_STAT, EVC_SRC, SEC_ERR].contains r
  | .tenantKeyInstall _ _ => [HOST_FN_EVT, TEN_SESSION, TEN_STORE_STAT, TEN_FAULT, TEN_FAULT_INFO, TEN_ACCESS_ERR_CNT, SRV_ERR, SRV_PACE_STAT, SRV_REFUSED_CNT, SRV_TOKEN_CNT, SRV_MSI_CNT, SRV_ADP_RETIRE_CNT, KV_RELEASE_CNT, EVC_ERR, EVC_CLK_STAT, EVC_SRC, SEC_ERR, SEC_TKEY_STAT, TAL_TILE_STAT].contains r
  | .modelKeyInstall _ _ => [HOST_FN_EVT, TEN_FAULT, TEN_FAULT_INFO, TEN_ACCESS_ERR_CNT, EVC_ERR, EVC_CLK_STAT, EVC_SRC, SEC_ERR, SEC_MKEY_STAT].contains r
  | .tenantKeyClear _ _ => [HOST_FN_EVT, TEN_SESSION, TEN_STORE_STAT, TEN_FAULT, TEN_FAULT_INFO, TEN_ACCESS_ERR_CNT, SRV_ERR, SRV_PACE_STAT, SRV_REFUSED_CNT, SRV_TOKEN_CNT, SRV_MSI_CNT, SRV_ADP_RETIRE_CNT, KV_RELEASE_CNT, EVC_ERR, EVC_CLK_STAT, EVC_SRC, SEC_TKEY_STAT, TAL_TILE_STAT].contains r
  | .modelKeyClear _ _ => [HOST_FN_EVT, TEN_FAULT, TEN_FAULT_INFO, TEN_ACCESS_ERR_CNT, EVC_ERR, EVC_CLK_STAT, EVC_SRC, SEC_ERR, SEC_MKEY_STAT].contains r
  | .getVersion _ => [EVC_ERR, EVC_SRC].contains r
  | .getCapabilities _ => [HOST_FN_EVT, EVC_ERR, EVC_SRC, SEC_ERR].contains r
  | .negotiateAlgorithms _ _ _ _ _ => [HOST_FN_EVT, EVC_ERR, EVC_SRC, SEC_ERR].contains r
  | .getDigests _ => [HOST_FN_EVT, EVC_ERR, EVC_SRC, SEC_ERR].contains r
  | .getCertificate _ _ _ _ => [HOST_FN_EVT, EVC_ERR, EVC_SRC, SEC_ERR].contains r
  | .challenge _ _ => [HOST_FN_EVT, EVC_ERR, EVC_SRC, SEC_ERR].contains r
  | .getMeasurements _ _ _ => [HOST_FN_EVT, EVC_ERR, EVC_SRC, SEC_ERR].contains r
  | .keyExchange _ _ => [HOST_FN_EVT, EVC_ERR, EVC_SRC, SEC_ERR].contains r
  | .finish _ _ _ => [HOST_FN_EVT, EVC_ERR, EVC_SRC, SEC_ERR, SEC_SPDM_SESS_CNT].contains r
  | .heartbeat _ _ => [HOST_FN_EVT, EVC_ERR, EVC_SRC, SEC_ERR].contains r
  | .keyUpdate _ _ _ => [HOST_FN_EVT, EVC_ERR, EVC_SRC, SEC_ERR].contains r
  | .endSession _ _ => [HOST_FN_EVT, EVC_ERR, EVC_SRC, SEC_ERR].contains r
  | .getCsr _ => [HOST_FN_EVT, EVC_ERR, EVC_SRC, SEC_ERR].contains r
  | .setCertificate _ _ _ => [HOST_FN_EVT, EVC_ERR, EVC_SRC, SEC_ERR].contains r
  | .setTenantKey _ _ _ _ => [HOST_FN_EVT, TEN_SESSION, TEN_STORE_STAT, SRV_ERR, SRV_PACE_STAT, SRV_REFUSED_CNT, SRV_TOKEN_CNT, SRV_MSI_CNT, SRV_ADP_RETIRE_CNT, KV_RELEASE_CNT, EVC_ERR, EVC_SRC, SEC_ERR, SEC_TKEY_STAT, TAL_TILE_STAT].contains r
  | .setModelKey _ _ _ _ => [HOST_FN_EVT, EVC_ERR, EVC_SRC, SEC_ERR, SEC_MKEY_STAT].contains r
  | .getNonce _ => [EVC_ERR, EVC_SRC].contains r
  | .openSession _ _ _ => [HOST_FN_EVT, TEN_SESSION, TEN_STORE_STAT, SRV_ERR, SRV_PACE_STAT, SRV_REFUSED_CNT, SRV_TOKEN_CNT, SRV_MSI_CNT, SRV_ADP_RETIRE_CNT, KV_RELEASE_CNT, EVC_ERR, EVC_SRC, SEC_ERR, SEC_OPEN_CNT, SEC_OPEN_FAIL_CNT, TAL_TILE_STAT].contains r
  | .closeSession _ => [HOST_FN_EVT, TEN_SESSION, TEN_STORE_STAT, SRV_ERR, SRV_PACE_STAT, SRV_REFUSED_CNT, SRV_TOKEN_CNT, SRV_MSI_CNT, SRV_ADP_RETIRE_CNT, KV_RELEASE_CNT, EVC_ERR, EVC_SRC, TAL_TILE_STAT].contains r
  | .coldPowerOn => true
  | .perstNFall => true
  | .pwrOkFall => true
  | .deviceReset _ => true
  | .quarterReset _ _ => [HOST_FN_EVT, TEN_FAULT, TEN_FAULT_INFO, TEN_ACCESS_ERR_CNT, CHK_ERR, CHK_CPER_WIDX, CHK_CPER_DROP_CNT, MEM_STAT, MEM_UNIT_STAT, MEM_TRAIN_CNT, EVC_ERR, EVC_CLK_STAT, EVC_SRC, MODE_STAT, MODE_GEN, MODE_ABORT_CNT, CAL_STAT, CAL_STALL_STAT, CAL_ROW_TEMP, BST_STAT, WDN_WAKE_CNT, WH_STAT, WH_ERR, WH_DEC_CNT, WH_PRE_BLK_CNT, WH_PAGE_READ_CNT, WH_MERGE_CNT, WH_STATS_SAVE_CNT, WH_BOUND_CNT, TAL_COR_ERR, TAL_OUT_DYN_CNT, TAL_OUT_PASS_CNT, TAL_OUT_FETCH_CNT, TAL_OUT_REQUANT_CNT, TAL_OUT_WIDEN_CNT, TAL_OUT_WIDE_OVF_CNT, TAL_OUT_WAIT_CNT, TAL_REF_CLIP_CNT, TAL_NQ_ERR, TAL_STORM_MAP, TAL_STEP_CNT, TAL_NQ_VEC_CNT, TAL_NQ_LIFT_CNT, TAL_NQ_OFF_CNT, TAL_NQ_CARRY_SAT_CNT, TAL_NQ_ETA_CNT, TAL_NQ_CLIP_REPLAY_CNT, TAL_NQ_SPLIT_CNT, TAL_NQ_CLIP_FAIL_CNT, TAL_NQ_RANGE_CHG_CNT, TAL_NQ_NONFINITE_CNT, TAL_NQ_STORE_WAIT_CNT, TAL_WIDE_START_CNT, TAL_WIDE_STORM_CNT, TAL_ACC_ERR, TAL_ACC_STAT, TAL_ACC_RUN_CNT, TAL_ACC_OVERSIZE_CNT, TAL_ACC_INF_CNT, TAL_ACC_NAN_CNT, TAL_ACC_NONFIN_OUT_CNT, TAL_ACC_REFUSED_CNT, TAL_ACC_REORDER_WAIT_CNT, TAL_ACC_DRAIN_CNT, STL_STAT, STL_ERR, STL_PLANE, STL_STRIKES, STL_FRESH_STRIKES, STL_WIDE_PAIRS, STL_TRANS_STRIKES, STL_CLIP_CNT, STL_REFUSED_CNT].contains r
  | .rowReset _ _ => [HOST_FN_EVT, TEN_FAULT, TEN_FAULT_INFO, TEN_ACCESS_ERR_CNT, CHK_ERR, CHK_CPER_WIDX, CHK_CPER_DROP_CNT, MEM_STAT, MEM_UNIT_STAT, MEM_TRAIN_CNT, EVC_ERR, EVC_CLK_STAT, EVC_SRC, MODE_STAT, MODE_GEN, MODE_ABORT_CNT, CAL_STAT, CAL_STALL_STAT, CAL_ROW_TEMP, BST_STAT, WDN_WAKE_CNT, WH_STAT, WH_ERR, WH_DEC_CNT, WH_PRE_BLK_CNT, WH_PAGE_READ_CNT, WH_MERGE_CNT, WH_STATS_SAVE_CNT, WH_BOUND_CNT, TAL_COR_ERR, TAL_OUT_DYN_CNT, TAL_OUT_PASS_CNT, TAL_OUT_FETCH_CNT, TAL_OUT_REQUANT_CNT, TAL_OUT_WIDEN_CNT, TAL_OUT_WIDE_OVF_CNT, TAL_OUT_WAIT_CNT, TAL_REF_CLIP_CNT, TAL_NQ_ERR, TAL_STORM_MAP, TAL_STEP_CNT, TAL_NQ_VEC_CNT, TAL_NQ_LIFT_CNT, TAL_NQ_OFF_CNT, TAL_NQ_CARRY_SAT_CNT, TAL_NQ_ETA_CNT, TAL_NQ_CLIP_REPLAY_CNT, TAL_NQ_SPLIT_CNT, TAL_NQ_CLIP_FAIL_CNT, TAL_NQ_RANGE_CHG_CNT, TAL_NQ_NONFINITE_CNT, TAL_NQ_STORE_WAIT_CNT, TAL_WIDE_START_CNT, TAL_WIDE_STORM_CNT, TAL_ACC_ERR, TAL_ACC_STAT, TAL_ACC_RUN_CNT, TAL_ACC_OVERSIZE_CNT, TAL_ACC_INF_CNT, TAL_ACC_NAN_CNT, TAL_ACC_NONFIN_OUT_CNT, TAL_ACC_REFUSED_CNT, TAL_ACC_REORDER_WAIT_CNT, TAL_ACC_DRAIN_CNT, STL_STAT, STL_ERR, STL_PLANE, STL_STRIKES, STL_FRESH_STRIKES, STL_WIDE_PAIRS, STL_TRANS_STRIKES, STL_CLIP_CNT, STL_REFUSED_CNT].contains r
  | .stallReset _ _ _ => [HOST_FN_EVT, TEN_FAULT, TEN_FAULT_INFO, TEN_ACCESS_ERR_CNT, CHK_ERR, CHK_CPER_WIDX, CHK_CPER_DROP_CNT, MEM_STAT, MEM_UNIT_STAT, MEM_TRAIN_CNT, EVC_ERR, EVC_CLK_STAT, EVC_SRC, MODE_STAT, MODE_GEN, MODE_ABORT_CNT, CAL_STAT, CAL_STALL_STAT, CAL_ROW_TEMP, BST_STAT, WDN_WAKE_CNT, WH_STAT, WH_ERR, WH_DEC_CNT, WH_PRE_BLK_CNT, WH_PAGE_READ_CNT, WH_MERGE_CNT, WH_STATS_SAVE_CNT, WH_BOUND_CNT, TAL_COR_ERR, TAL_OUT_DYN_CNT, TAL_OUT_PASS_CNT, TAL_OUT_FETCH_CNT, TAL_OUT_REQUANT_CNT, TAL_OUT_WIDEN_CNT, TAL_OUT_WIDE_OVF_CNT, TAL_OUT_WAIT_CNT, TAL_REF_CLIP_CNT, TAL_NQ_ERR, TAL_STORM_MAP, TAL_STEP_CNT, TAL_NQ_VEC_CNT, TAL_NQ_LIFT_CNT, TAL_NQ_OFF_CNT, TAL_NQ_CARRY_SAT_CNT, TAL_NQ_ETA_CNT, TAL_NQ_CLIP_REPLAY_CNT, TAL_NQ_SPLIT_CNT, TAL_NQ_CLIP_FAIL_CNT, TAL_NQ_RANGE_CHG_CNT, TAL_NQ_NONFINITE_CNT, TAL_NQ_STORE_WAIT_CNT, TAL_WIDE_START_CNT, TAL_WIDE_STORM_CNT, TAL_ACC_ERR, TAL_ACC_STAT, TAL_ACC_RUN_CNT, TAL_ACC_OVERSIZE_CNT, TAL_ACC_INF_CNT, TAL_ACC_NAN_CNT, TAL_ACC_NONFIN_OUT_CNT, TAL_ACC_REFUSED_CNT, TAL_ACC_REORDER_WAIT_CNT, TAL_ACC_DRAIN_CNT, STL_STAT, STL_ERR, STL_PLANE, STL_STRIKES, STL_FRESH_STRIKES, STL_WIDE_PAIRS, STL_TRANS_STRIKES, STL_CLIP_CNT, STL_REFUSED_CNT].contains r
  | .startUp _ _ _ _ => [MEM_STAT, MEM_UNIT_STAT, WDN_RST_CAUSE, SEC_STAT, STL_STAT, STL_SLICE_MAP].contains r
  | .startUpReady _ _ _ _ => unitReg r || [HOST_FN_EVT, SRV_PACE_MAX, SRV_ADP_POOL, MEM_STAT, MEM_ERR, MEM_UNIT_STAT, MEM_TRAIN_CNT, CW_DEV, CW_DOMAIN, EVC_ERR, EVC_CLK_STAT, EVC_SRC, MODE_CATCHUP_CNT, BST_POLICY, WDN_PCAP, WDN_VR_CFG, WDN_RST_CAUSE, WDN_FLOG_DATA, WDN_FLOG_HEAD, SEC_STAT, WH_STAT, TAL_MODE_GEN, STL_STAT, STL_GRP_CFG].contains r
  | .recoveryBegin _ => [EVC_ERR, EVC_SRC].contains r
  | .recoveryData _ _ => [EVC_ERR, EVC_SRC].contains r
  | .recoveryEnd _ _ => unitReg r || [HOST_FN_EVT, TEN_STORE_STAT, SRV_ERR, SRV_PACE_MAX, SRV_TOKEN_CNT, SRV_MSI_CNT, SRV_ADP_POOL, SRV_ADP_RETIRE_CNT, KV_RELEASE_CNT, STK_STAT, STK_ERR, CHK_ERR, CHK_CPER_WIDX, CHK_RETRACT_POS_CNT, CHK_RETRACT_SENT_CNT, CHK_CPER_DROP_CNT, MEM_ERR, MEM_CE_CNT, MEM_UE_CNT, MEM_TRAIN_CNT, CW_STAT, CW_ERR, CW_DEV, CW_DOMAIN, CW_PORT_STAT, CW_PORT_REACH_LO, CW_PORT_REACH_HI, CW_PARTNERS_LO, CW_PARTNERS_HI, CW_DISCARD_CNT, EVC_ERR, EVC_CLK_STAT, EVC_SRC, MODE_CATCHUP_CNT, CAL_ROW_TEMP, BST_POLICY, WDN_PCAP, WDN_VR_CFG, WDN_RST_CAUSE, WDN_FLOG_DATA, WDN_FLOG_HEAD, SEC_STAT, WH_STAT, TAL_MODE_GEN, TAL_TILE_STAT, STL_STAT, STL_GRP_CFG].contains r
  | .watchdogKick _ _ => [HOST_FN_EVT, TEN_FAULT, TEN_FAULT_INFO, TEN_ACCESS_ERR_CNT, EVC_CLK_STAT, WDN_WDOG].contains r
  | .watchdogExpiry => [HOST_FN_EVT, TEN_STORE_STAT, SRV_ERR, SRV_TOKEN_CNT, SRV_MSI_CNT, SRV_ADP_RETIRE_CNT, KV_RELEASE_CNT, STK_STAT, STK_ERR, CHK_ERR, CHK_CPER_WIDX, CHK_RETRACT_POS_CNT, CHK_RETRACT_SENT_CNT, CHK_CPER_DROP_CNT, CW_STAT, CW_ERR, CW_PORT_STAT, CW_PORT_REACH_LO, CW_PORT_REACH_HI, CW_PARTNERS_LO, CW_PARTNERS_HI, CW_DISCARD_CNT, EVC_ERR, EVC_SRC, CAL_ROW_TEMP, WDN_RST_CAUSE, WDN_FLOG_DATA, WDN_FLOG_HEAD, TAL_TILE_STAT, STL_GRP_CFG].contains r
  | .bridgeFlitFailure _ => [HOST_FN_EVT, TEN_STORE_STAT, SRV_ERR, SRV_TOKEN_CNT, SRV_MSI_CNT, SRV_ADP_RETIRE_CNT, KV_RELEASE_CNT, STK_STAT, STK_ERR, CHK_ERR, CHK_CPER_WIDX, CHK_RETRACT_POS_CNT, CHK_RETRACT_SENT_CNT, CHK_CPER_DROP_CNT, CW_STAT, CW_ERR, CW_PORT_STAT, CW_PORT_REACH_LO, CW_PORT_REACH_HI, CW_PARTNERS_LO, CW_PARTNERS_HI, CW_DISCARD_CNT, EVC_ERR, EVC_SRC, CAL_ROW_TEMP, WDN_RST_CAUSE, WDN_FLOG_DATA, WDN_FLOG_HEAD, TAL_TILE_STAT, STL_GRP_CFG].contains r
  | .trainingTrialPass _ _ _ _ => [CW_PORT_STAT, CW_FEC_CORR_CNT, CW_FEC_UNCORR_CNT].contains r
  | .stoppingChainRead _ => [WDN_STAT, WDN_THERM_DATA, WDN_THERM_MAX, WDN_FLOG_DATA, WDN_FLOG_HEAD].contains r
  | .clkAoReturn => [WDN_FLOG_DATA, WDN_FLOG_HEAD].contains r
  | .vddAoLoss => true
  | .doeObjectError _ _ _ _ => [EVC_ERR, EVC_SRC].contains r
  | .mctpControlMessage _ => [].contains r

/-- The frame of one command over one run of it: every register that is not in its list reads as before, in every instance, and every other part of the state that is not in its list is the same. -/
def framed (c : Instr) (s t : State) : Prop :=
  (∀ (r : Reg) (i : Nat), r.off < 8192 → c.mayWrite r = false → t.getReg r i = s.getReg r i) ∧ ∀ p, p ∉ c.mayChange → p.same s t

end Sys2Proof
end

