-- ==== Sys2Proof/WellFormed.lean ====
section
/-! DEFINITION. Which commands are well formed: every operand names something that the device has. -/

namespace Sys2Proof

/-- The accessor exists: functions 0 to 63, clerks 0 to 7, the I3C interface. -/
def Who.ok : Who → Bool
  | .func f => decide (f < 64)
  | .clerk k => decide (k < 8)
  | .i3c => true

/-- Row 0 to 191 (R571 to R573). -/
def okRow (n : Nat) : Bool := decide (n < 192)
/-- Physical stall 0 to 32 (R68). -/
def okStall (n : Nat) : Bool := decide (n < 33)
/-- Function 0 to 63 (R409). -/
def okFunc (n : Nat) : Bool := decide (n < 64)
/-- Model slot 0 to 15 (R209). -/
def okSlot (n : Nat) : Bool := decide (n < 16)
/-- Cartway port 0 to 7 (R329). -/
def okPort (n : Nat) : Bool := decide (n < 8)
/-- A tier-2 channel as training found it: one of the 16, of a known kind, with at most 128 GB of parts (R386, R389). -/
def ChanIn.ok (c : ChanIn) : Bool := decide (c.chan < 16) && (c.kind == 2 || c.kind == 3) && decide (c.raw ≤ 2 ^ 37)
/-- What a frame carries: the decoder corrects up to 15 symbol errors in its codeword (R333), and ACK and the credits have the widths of R335. -/
def FrameIn.ok (h : FrameIn) : Bool := decide (h.corr ≤ 15) && decide (h.ack < 65536) && h.crs.all fun c => decide (c < 256)
/-- What a fresh plane is loaded with names a model slot, or a sequence and one of the four places of a group (R254). -/
def okPlaneSrc : PlaneSrc → Bool
  | .stream slot _ _ => okSlot slot
  | .attn seq _ _ which => decide (seq < 4096) && decide (which < 4)
/-- Sequence 0 to 4,095 (R279). -/
def okSeq (n : Nat) : Bool := decide (n < 4096)
/-- Clerk 0 to 7 (R435). -/
def okClerk (n : Nat) : Bool := decide (n < 8)
/-- BAR0, BAR2 or BAR4 (R411), or 8 for configuration space (log entry 27). -/
def okBar (n : Nat) : Bool := n == 0 || n == 2 || n == 4 || n == 8
/-- A physical stall, or 63 for the whole row (R168). -/
def okTarget (n : Nat) : Bool := decide (n < 33) || n == 63

/-- A unit that sleeps exists. -/
def SleepUnit.ok : SleepUnit → Bool
  | .stall r p => okRow r && okStall p
  | .row r => okRow r
  | .quarter q => decide (q < 4)

/-- Every operand of the command is in its range. -/
def WellFormed : Instr → Bool
  | .registerWrite who bar _ _ _ => who.ok && okBar bar
  | .lowHalfRead who bar _ _ => who.ok && okBar bar
  | .stlClipCntRead who row stall => who.ok && okRow row && okStall stall
  | .stlRefusedCntRead who row stall => who.ok && okRow row && okStall stall
  | .wdnMonDataRead who => who.ok
  | .wakeRequest u => u.ok
  | .wakeComplete u => u.ok
  | .clockGatedEntry u => u.ok
  | .biasOffEntry u => u.ok
  | .descriptorArrival row stall waiting => okRow row && okStall stall && waiting.all fun w => decide (w.1 < 3) && decide (w.2 < 2 ^ 128)
  | .stlCtlWrite who row stall _ => who.ok && okRow row && okStall stall
  | .strikeIssue row stall _ => okRow row && okStall stall
  | .widenedPairIssue row stall _ => okRow row && okStall stall
  | .transposeStrikeIssue row stall _ => okRow row && okStall stall
  | .stagingBankWrite row stall _ bank => okRow row && okStall stall && decide (bank < 4)
  | .strikeCodesReceived row stall _ => okRow row && okStall stall
  | .sliceSubstitution row stall chan slice _ => okRow row && okStall stall && decide (chan < 8) && decide (slice < 5)
  | .stlSliceMapWrite who row stall _ => who.ok && okRow row && okStall stall
  | .planeSwap row stall => okRow row && okStall stall
  | .trimDataWrite who row _ => who.ok && okRow row
  | .trimStep row stall group => okRow row && okStall stall && decide (group < 5)
  | .overflowPassEnd row stall _ => okRow row && okStall stall
  | .ledgerRowRetry row stall => okRow row && okStall stall
  | .strikeRelease row stall _ _ => okRow row && okStall stall
  | .vectorArrival row buf _ => okRow row && decide (buf < 8)
  | .quantiseVector row buf => okRow row && decide (buf < 8)
  | .clipReplay row stall _ _ => okRow row && okStall stall
  | .clipSplit row stall _ _ => okRow row && okStall stall
  | .tileForceWide who row stall group => who.ok && okRow row && okStall stall && decide (group < 4)
  | .tileReleaseForce who row stall group => who.ok && okRow row && okStall stall && decide (group < 4)
  | .tileSetHold who row stall group => who.ok && okRow row && okStall stall && decide (group < 4)
  | .stepMarker row => okRow row
  | .holdExpiry row stall group => okRow row && okStall stall && decide (group < 4)
  | .wideStormEvaluation row => okRow row
  | .refusalMarker row stall => okRow row && okStall stall
  | .reductionOutput row _ _ => okRow row
  | .drainRequest who row target => who.ok && okRow row && okTarget target
  | .drainRelease who row target => who.ok && okRow row && okTarget target
  | .drainComplete row stall => okRow row && okStall stall
  | .stockingJobStart who _ _ _ _ => who.ok
  | .touchupRestock who index => who.ok && decide (index < 202752)
  | .stockingAbort who => who.ok
  | .scrubCrateNow who index => who.ok && decide (index < 202752)
  | .crateProgramStart fetched => decide (fetched.length ≤ 4) && fetched.all fun b => b.data.length == 524288
  | .crateProgramEnd index _ => decide (index < 202752)
  | .settlePauseEnd => true
  | .touchupPassStart => true
  | .touchupPassEnd index _ => decide (index < 202752)
  | .scrubDue => true
  | .scrubCrateDone _ _ => true
  | .modelLoad who slot _ _ _ => who.ok && okSlot slot
  | .modelUnload who slot => who.ok && okSlot slot
  | .shardRefetch who slot _ => who.ok && okSlot slot
  | .releaseHeld who slot => who.ok && okSlot slot
  | .shardArrival slot _ _ _ _ _ _ => okSlot slot
  | .slotReady slot => okSlot slot
  | .slotRetired slot => okSlot slot
  | .shardScrubDue slot _ _ _ _ => okSlot slot
  | .planeLoadRequest row stall owner idx which => okRow row && okStall stall && decide (which < 4) && okPlaneSrc (owner.src idx which)
  | .planeLoadStart row stall _ => okRow row && okStall stall
  | .planeLoadDone row stall plane => okRow row && okStall stall && decide (plane < 2)
  | .decodeAttention seq _ _ _ _ _ _ => okSeq seq
  | .freshBlockMerge seq _ _ _ kv _ row _ _ => okSeq seq && okRow row && decide (kv < 8)
  | .pageManagerChange _ change => match change with
    | .refUp seq => okSeq seq
    | .refDown seq => okSeq seq
    | .pinUp => true
    | .pinDown => true
  | .parkSequence seq => okSeq seq
  | .resumeSequence seq _ _ => okSeq seq
  | .kvSlotCfgWrite who _ => who.ok
  | .slipSeal func slot val => okFunc func && decide (slot < 256) && decide (val < 2 ^ 64)
  | .generate func slot _ _ => okFunc func && decide (slot < 256)
  | .cancel func slot => okFunc func && decide (slot < 256)
  | .streamOpen func slot => okFunc func && decide (slot < 256)
  | .frame func slot => okFunc func && decide (slot < 256)
  | .streamClose func slot => okFunc func && decide (slot < 256)
  | .tune func slot _ => okFunc func && decide (slot < 256)
  | .sequenceActivate seq => okSeq seq
  | .stepStart => true
  | .stepEnd => true
  | .emptyStep => true
  | .stormCeilingLower row => okRow row
  | .stormCeilingRestore slot => okSlot slot
  | .positionStart seq _ _ _ _ => okSeq seq
  | .positionEnd seq _ _ _ => okSeq seq
  | .positionCommit seq _ => okSeq seq
  | .msiModerationTimeout func _ => okFunc func
  | .rollRidxPoll func _ _ => okFunc func
  | .verifyPass seq _ _ => okSeq seq
  | .specPauseEnd seq => okSeq seq
  | .frameInEdge => true
  | .framePeriodTick stream => decide (stream < 16)
  | .frameComplete stream _ => decide (stream < 16)
  | .funcCeilWrite who _ => who.ok
  | .adapterLoad who slot _ _ => who.ok && okSlot slot
  | .adapterUnload who adapter => who.ok && decide (adapter < 1024)
  | .roundEnd func _ _ => okFunc func
  | .portEnable who _ => who.ok
  | .portRetrain who _ => who.ok
  | .trainingTrialFail port => okPort port
  | .hello port h _ _ _ _ _ _ => okPort port && h.ok
  | .helloTimer port => okPort port
  | .idleFrame port h => okPort port && h.ok
  | .reach port h _ => okPort port && h.ok
  | .reachTimer => true
  | .nak port h _ => okPort port && h.ok
  | .down port h => okPort port && h.ok
  | .dataFrame port h vc seq _ => okPort port && h.ok && decide (vc < 4) && decide (seq < 65536)
  | .uncorrectableCodeword port => okPort port
  | .ackTimeout port => okPort port
  | .cartSend port vc => okPort port && decide (vc < 4)
  | .dispatch port _ _ _ => okPort port
  | .returnCart port _ _ => okPort port
  | .part port _ => okPort port
  | .receipt port _ => okPort port
  | .retract port _ => okPort port
  | .fence port _ => okPort port
  | .unfence port _ => okPort port
  | .homeTableLoad who slot _ => who.ok && okSlot slot
  | .homeTableClear who slot => who.ok && okSlot slot
  | .homeWaitTimeout seq => okSeq seq
  | .receiptSend _ _ => true
  | .pendingTimeout _ _ => true
  | .probeStrike row stall _ => okRow row && okStall stall
  | .pairCompare row stall _ row2 stall2 _ => okRow row && okStall stall && okRow row2 && okStall stall2
  | .inspectorJobStart _ => true
  | .inspectorVerdict _ _ => true
  | .disputeDeadline _ => true
  | .checksumReloadDone row stall => okRow row && okStall stall
  | .granuleRetire _ => true
  | .patrolScrub unit _ _ _ => decide (unit < 36)
  | .scrubPeriodEnd unit => decide (unit < 36)
  | .t2SelfRefreshEntry chan => decide (chan < 16)
  | .periodicRetrain unit => decide (unit < 36)
  | .linkTrainingDone _ _ => true
  | .powerStateWrite func _ => okFunc func
  | .msixUnmask func vector => okFunc func && decide (vector < 64)
  | .invalidationRequest func _ _ _ => okFunc func
  | .hostReadFailure _ _ => true
  | .quotaWrite who _ => who.ok
  | .storeRegister func => okFunc func
  | .storeWithdraw func => okFunc func
  | .functionLevelReset func => okFunc func
  | .pfFunctionLevelReset => true
  | .flrComplete func => okFunc func
  | .numvfsWrite _ _ _ => true
  | .linkReset _ => true
  | .doeDiscovery func _ => okFunc func
  | .doeAbort func => okFunc func
  | .handlerEntry => true
  | .handlerExit k => okClerk k
  | .clerkWfi k => okClerk k
  | .clerkClockGate k => okClerk k
  | .squarePllStop => true
  | .squarePllRestart => true
  | .softwareEventSet who source => who.ok && decide (source < 512)
  | .clerkTimerExpiry k => okClerk k
  | .eventNorouteTimeout source => decide (source < 512)
  | .modeChange who scope _ => who.ok && decide (scope < 5)
  | .modeAbort who => who.ok
  | .barrier who => who.ok
  | .barrierComplete => true
  | .modeCloseComplete => true
  | .modeOpen _ => true
  | .modeCloseTimeout => true
  | .modeStageTimeout cls _ => decide (1 ≤ cls) && decide (cls < 4)
  | .modeOpenResend cls _ _ => decide (1 ≤ cls) && decide (cls < 4)
  | .unitCatchup cls _ => decide (1 ≤ cls) && decide (cls < 4)
  | .calibrationQueue who row stall => who.ok && okRow row && okStall stall
  | .referenceReestimate who row => who.ok && okRow row
  | .spareStallSubstitute who row stall => who.ok && okRow row && okStall stall
  | .calibrationWithdraw who row stall => who.ok && okRow row && okStall stall
  | .calibrationRunStart => true
  | .blockModeSwitch row stall => okRow row && okStall stall
  | .calibrationFit row stall group _ => okRow row && okStall stall && decide (group < 5)
  | .periodicCalibration row stall => okRow row && okStall stall
  | .repairAssign who _ => who.ok
  | .selfTestLogic who unit _ stall => who.ok && decide (unit < 3) && okStall stall
  | .selfTestMemory who unit _ stall => who.ok && decide (unit < 3) && okStall stall
  | .selfTestConverter who unit _ stall => who.ok && decide (unit < 3) && okStall stall
  | .crateLineTest who unit _ stall => who.ok && decide (unit < 3) && okStall stall
  | .selfTestAll who unit _ stall => who.ok && decide (unit < 3) && okStall stall
  | .selfTestWithdraw who unit _ stall => who.ok && decide (unit < 3) && okStall stall
  | .selfTestDeferredStart => true
  | .selfTestDone _ => true
  | .fuseBurn who => who.ok
  | .shutWaitTimeout row => okRow row
  | .wardenRound _ => true
  | .orderlyStopComplete _ => true
  | .restart who => who.ok
  | .restartRailTimeout => true
  | .vsetWrite who _ => who.ok
  | .monitorPassStart who => who.ok
  | .monitorResult _ _ _ => true
  | .tripCounterExpiry => true
  | .clkAoLoss => true
  | .svnCommit who => who.ok
  | .keyDataWrite who idx val => who.ok && decide (idx < 4) && decide (val < 2 ^ 64)
  | .tenantKeyInstall who f => who.ok && okFunc f
  | .modelKeyInstall who slot => who.ok && okSlot slot
  | .tenantKeyClear who f => who.ok && okFunc f
  | .modelKeyClear who slot => who.ok && okSlot slot
  | .getVersion port => decide (port < 2)
  | .getCapabilities port => decide (port < 2)
  | .negotiateAlgorithms port _ _ _ _ => decide (port < 2)
  | .getDigests port => decide (port < 2)
  | .getCertificate port slot _ _ => decide (port < 2) && decide (slot < 4)
  | .challenge port slot => decide (port < 2) && decide (slot < 4)
  | .getMeasurements port _ _ => decide (port < 2)
  | .keyExchange port slot => decide (port < 2) && decide (slot < 4)
  | .finish port _ _ => decide (port < 2)
  | .heartbeat port _ => decide (port < 2)
  | .keyUpdate port _ op => decide (port < 2) && decide (1 ≤ op) && decide (op < 4)
  | .endSession port _ => decide (port < 2)
  | .getCsr port => decide (port < 2)
  | .setCertificate port slot _ => decide (port < 2) && decide (1 ≤ slot) && decide (slot < 4)
  | .setTenantKey port _ f _ => decide (port < 2) && okFunc f
  | .setModelKey port _ slot _ => decide (port < 2) && okSlot slot
  | .getNonce f => okFunc f
  | .openSession f _ _ => okFunc f
  | .closeSession f => okFunc f
  | .coldPowerOn => true
  | .perstNFall => true
  | .pwrOkFall => true
  | .deviceReset who => who.ok
  | .quarterReset who q => who.ok && decide (q < 4)
  | .rowReset who row => who.ok && okRow row
  | .stallReset who row stall => who.ok && okRow row && okStall stall
  | .startUp _ _ _ _ => true
  | .startUpReady t _ _ _ => t.chans.all ChanIn.ok
  | .recoveryBegin _ => true
  | .recoveryData _ _ => true
  | .recoveryEnd _ _ => true
  | .watchdogKick who _ => who.ok
  | .watchdogExpiry => true
  | .bridgeFlitFailure _ => true
  | .trainingTrialPass port _ _ _ => okPort port
  | .stoppingChainRead _ => true
  | .clkAoReturn => true
  | .vddAoLoss => true
  | .doeObjectError func _ _ _ => okFunc func
  | .mctpControlMessage _ => true

/-- Who makes the register access that the command is, if it is one. -/
def Instr.accessor : Instr → Option Who
  | .registerWrite who _ _ _ _ => some who
  | .lowHalfRead who _ _ _ => some who
  | .stlClipCntRead who _ _ => some who
  | .stlRefusedCntRead who _ _ => some who
  | .wdnMonDataRead who => some who
  | .wakeRequest _ => none
  | .wakeComplete _ => none
  | .clockGatedEntry _ => none
  | .biasOffEntry _ => none
  | .descriptorArrival _ _ _ => none
  | .stlCtlWrite who _ _ _ => some who
  | .strikeIssue _ _ _ => none
  | .widenedPairIssue _ _ _ => none
  | .transposeStrikeIssue _ _ _ => none
  | .stagingBankWrite _ _ _ _ => none
  | .strikeCodesReceived _ _ _ => none
  | .sliceSubstitution _ _ _ _ _ => none
  | .stlSliceMapWrite who _ _ _ => some who
  | .planeSwap _ _ => none
  | .trimDataWrite who _ _ => some who
  | .trimStep _ _ _ => none
  | .overflowPassEnd _ _ _ => none
  | .ledgerRowRetry _ _ => none
  | .strikeRelease _ _ _ _ => none
  | .vectorArrival _ _ _ => none
  | .quantiseVector _ _ => none
  | .clipReplay _ _ _ _ => none
  | .clipSplit _ _ _ _ => none
  | .tileForceWide who _ _ _ => some who
  | .tileReleaseForce who _ _ _ => some who
  | .tileSetHold who _ _ _ => some who
  | .stepMarker _ => none
  | .holdExpiry _ _ _ => none
  | .wideStormEvaluation _ => none
  | .refusalMarker _ _ => none
  | .reductionOutput _ _ _ => none
  | .drainRequest who _ _ => some who
  | .drainRelease who _ _ => some who
  | .drainComplete _ _ => none
  | .stockingJobStart who _ _ _ _ => some who
  | .touchupRestock who _ => some who
  | .stockingAbort who => some who
  | .scrubCrateNow who _ => some who
  | .crateProgramStart _ => none
  | .crateProgramEnd _ _ => none
  | .settlePauseEnd => none
  | .touchupPassStart => none
  | .touchupPassEnd _ _ => none
  | .scrubDue => none
  | .scrubCrateDone _ _ => none
  | .modelLoad who _ _ _ _ => some who
  | .modelUnload who _ => some who
  | .shardRefetch who _ _ => some who
  | .releaseHeld who _ => some who
  | .shardArrival _ _ _ _ _ _ _ => none
  | .slotReady _ => none
  | .slotRetired _ => none
  | .shardScrubDue _ _ _ _ _ => none
  | .planeLoadRequest _ _ _ _ _ => none
  | .planeLoadStart _ _ _ => none
  | .planeLoadDone _ _ _ => none
  | .decodeAttention _ _ _ _ _ _ _ => none
  | .freshBlockMerge _ _ _ _ _ _ _ _ _ => none
  | .pageManagerChange _ _ => none
  | .parkSequence _ => none
  | .resumeSequence _ _ _ => none
  | .kvSlotCfgWrite who _ => some who
  | .slipSeal _ _ _ => none
  | .generate _ _ _ _ => none
  | .cancel _ _ => none
  | .streamOpen _ _ => none
  | .frame _ _ => none
  | .streamClose _ _ => none
  | .tune _ _ _ => none
  | .sequenceActivate _ => none
  | .stepStart => none
  | .stepEnd => none
  | .emptyStep => none
  | .stormCeilingLower _ => none
  | .stormCeilingRestore _ => none
  | .positionStart _ _ _ _ _ => none
  | .positionEnd _ _ _ _ => none
  | .positionCommit _ _ => none
  | .msiModerationTimeout _ _ => none
  | .rollRidxPoll _ _ _ => none
  | .verifyPass _ _ _ => none
  | .specPauseEnd _ => none
  | .frameInEdge => none
  | .framePeriodTick _ => none
  | .frameComplete _ _ => none
  | .funcCeilWrite who _ => some who
  | .adapterLoad who _ _ _ => some who
  | .adapterUnload who _ => some who
  | .roundEnd _ _ _ => none
  | .portEnable who _ => some who
  | .portRetrain who _ => some who
  | .trainingTrialFail _ => none
  | .hello _ _ _ _ _ _ _ _ => none
  | .helloTimer _ => none
  | .idleFrame _ _ => none
  | .reach _ _ _ => none
  | .reachTimer => none
  | .nak _ _ _ => none
  | .down _ _ => none
  | .dataFrame _ _ _ _ _ => none
  | .uncorrectableCodeword _ => none
  | .ackTimeout _ => none
  | .cartSend _ _ => none
  | .dispatch _ _ _ _ => none
  | .returnCart _ _ _ => none
  | .part _ _ => none
  | .receipt _ _ => none
  | .retract _ _ => none
  | .fence _ _ => none
  | .unfence _ _ => none
  | .homeTableLoad who _ _ => some who
  | .homeTableClear who _ => some who
  | .homeWaitTimeout _ => none
  | .receiptSend _ _ => none
  | .pendingTimeout _ _ => none
  | .probeStrike _ _ _ => none
  | .pairCompare _ _ _ _ _ _ => none
  | .inspectorJobStart _ => none
  | .inspectorVerdict _ _ => none
  | .disputeDeadline _ => none
  | .checksumReloadDone _ _ => none
  | .granuleRetire _ => none
  | .patrolScrub _ _ _ _ => none
  | .scrubPeriodEnd _ => none
  | .t2SelfRefreshEntry _ => none
  | .periodicRetrain _ => none
  | .linkTrainingDone _ _ => none
  | .powerStateWrite _ _ => none
  | .msixUnmask _ _ => none
  | .invalidationRequest _ _ _ _ => none
  | .hostReadFailure _ _ => none
  | .quotaWrite who _ => some who
  | .storeRegister _ => none
  | .storeWithdraw _ => none
  | .functionLevelReset _ => none
  | .pfFunctionLevelReset => none
  | .flrComplete _ => none
  | .numvfsWrite _ _ _ => none
  | .linkReset _ => none
  | .doeDiscovery _ _ => none
  | .doeAbort _ => none
  | .handlerEntry => none
  | .handlerExit _ => none
  | .clerkWfi _ => none
  | .clerkClockGate _ => none
  | .squarePllStop => none
  | .squarePllRestart => none
  | .softwareEventSet who _ => some who
  | .clerkTimerExpiry _ => none
  | .eventNorouteTimeout _ => none
  | .modeChange who _ _ => some who
  | .modeAbort who => some who
  | .barrier who => some who
  | .barrierComplete => none
  | .modeCloseComplete => none
  | .modeOpen _ => none
  | .modeCloseTimeout => none
  | .modeStageTimeout _ _ => none
  | .modeOpenResend _ _ _ => none
  | .unitCatchup _ _ => none
  | .calibrationQueue who _ _ => some who
  | .referenceReestimate who _ => some who
  | .spareStallSubstitute who _ _ => some who
  | .calibrationWithdraw who _ _ => some who
  | .calibrationRunStart => none
  | .blockModeSwitch _ _ => none
  | .calibrationFit _ _ _ _ => none
  | .periodicCalibration _ _ => none
  | .repairAssign who _ => some who
  | .selfTestLogic who _ _ _ => some who
  | .selfTestMemory who _ _ _ => some who
  | .selfTestConverter who _ _ _ => some who
  | .crateLineTest who _ _ _ => some who
  | .selfTestAll who _ _ _ => some who
  | .selfTestWithdraw who _ _ _ => some who
  | .selfTestDeferredStart => none
  | .selfTestDone _ => none
  | .fuseBurn who => some who
  | .shutWaitTimeout _ => none
  | .wardenRound _ => none
  | .orderlyStopComplete _ => none
  | .restart who => some who
  | .restartRailTimeout => none
  | .vsetWrite who _ => some who
  | .monitorPassStart who => some who
  | .monitorResult _ _ _ => none
  | .tripCounterExpiry => none
  | .clkAoLoss => none
  | .svnCommit who => some who
  | .keyDataWrite who _ _ => some who
  | .tenantKeyInstall who _ => some who
  | .modelKeyInstall who _ => some who
  | .tenantKeyClear who _ => some who
  | .modelKeyClear who _ => some who
  | .getVersion _ => none
  | .getCapabilities _ => none
  | .negotiateAlgorithms _ _ _ _ _ => none
  | .getDigests _ => none
  | .getCertificate _ _ _ _ => none
  | .challenge _ _ => none
  | .getMeasurements _ _ _ => none
  | .keyExchange _ _ => none
  | .finish _ _ _ => none
  | .heartbeat _ _ => none
  | .keyUpdate _ _ _ => none
  | .endSession _ _ => none
  | .getCsr _ => none
  | .setCertificate _ _ _ => none
  | .setTenantKey _ _ _ _ => none
  | .setModelKey _ _ _ _ => none
  | .getNonce _ => none
  | .openSession _ _ _ => none
  | .closeSession _ => none
  | .coldPowerOn => none
  | .perstNFall => none
  | .pwrOkFall => none
  | .deviceReset who => some who
  | .quarterReset who _ => some who
  | .rowReset who _ => some who
  | .stallReset who _ _ => some who
  | .startUp _ _ _ _ => none
  | .startUpReady _ _ _ _ => none
  | .recoveryBegin _ => none
  | .recoveryData _ _ => none
  | .recoveryEnd _ _ => none
  | .watchdogKick who _ => some who
  | .watchdogExpiry => none
  | .bridgeFlitFailure _ => none
  | .trainingTrialPass _ _ _ _ => none
  | .stoppingChainRead _ => none
  | .clkAoReturn => none
  | .vddAoLoss => none
  | .doeObjectError _ _ _ _ => none
  | .mctpControlMessage _ => none

end Sys2Proof
end

