-- ==== Sys2Proof/Safety.lean ====
section
/-! DEFINITION. What a safe state is: the register file in its canonical form and every waiting command well formed; and what a run is. -/

namespace Sys2Proof

open Sys2Proof.Machine

/-- The register file is in its one canonical form: keys rise strictly, and no entry holds what its key reads as when unlisted. -/
def Machine.State.regsWf (s : State) : Prop := FMap.wf keyReset s.regs = true

/-- Every command that waits is well formed. -/
def Machine.State.queueOk (s : State) : Prop := ∀ c ∈ s.pending, WellFormed c = true

/-- The invariant that every step keeps. -/
def Machine.State.Inv (s : State) : Prop := s.regsWf ∧ s.queueOk

/-- A step of the state ends in a next state: no fault, no refusal. -/
def Machine.State.goesOn (s : State) : Prop := ∃ t, step s = .next t

/-- `n` steps lead from one state to another. -/
def runs : Nat → State → State → Prop
  | 0, s, t => s = t
  | n + 1, s, t => ∃ u, step s = .next u ∧ runs n u t

end Sys2Proof
end

