-- ==== Sys2Proof/Certificates/Slice0/Obligations.lean ====
section
/-! DEFINITION. What the model claims: the statements for the provers. -/

open Sys2Proof Sys2Proof.Machine

/-- The checks that every slip passes (R276, R278): session, seal, TICKET in range and unused by a live request of the function. -/
def slipGood (s : State) (f n : Nat) (b : List Byte) : Prop :=
  s.sessionOk f b = true ∧ (s.oslot f n).ticket ≠ 0 ∧ (s.oslot f n).badSeal = false ∧ s.liveTicket f (s.oslot f n).ticket = false

/-- The till roll fields of a slip are valid. -/
def slipRoll (b : List Byte) : Prop := rollOk (leAt b 0x18 8) (leAt b 0x20 8) (leAt b 0x28 4) (leAt b 0x2C 1) = true

/-- The logical stalls that open streams and a slot's own pitch map reserve together. -/
def slipStalls (s : State) (slot : Nat) : List Nat := (s.reserved ++ s.slotStalls slot).eraseDups

/-- A WIDE_STORM of a row bears on a model slot: the slot has a tile on a stall that the row's storm map names (R281). -/
def stormHits (s : State) (row slot : Nat) : Prop :=
  ∃ e ∈ s.slots, e.1 = slot ∧ ∃ g ∈ [e.2.cur, e.2.prev].filterMap id, ∃ p ∈ g.man.pitch, ∃ k, k < 33 ∧
    bitAt (s.rd TAL_STORM_MAP.STALLS row) k = true ∧ s.logicalAt (stallId row k) ≠ 63 ∧ p.stall = row * 32 + s.logicalAt (stallId row k)

/-- A storm of a row lowers a function: it has an active sequence of a slot that the storm bears on. -/
def stormLowers (s : State) (row f : Nat) : Prop :=
  ∃ e ∈ s.seqs, e.2.live = true ∧ e.2.active = true ∧ e.2.func = f ∧ stormHits s row e.2.slot

/-- A port after the acknowledgement and the credits that a frame brings (R338, R339). -/
def portAfter (s : State) (p : Nat) (h : FrameIn) : Port := ((s.port p).acked (h.ack % 65536) s.now).credited h.crs

/-- The cart that a waiting one becomes on its first sending: its CSEQ, and EARLY where its result is unchecked (R342, R355). -/
def cartOut (s : State) (c : TxCart) : Cart :=
  if c.again then c.cart else
    { c.cart with cseq := FMap.get 0 s.cart.cseq c.cart.dst % 65536, flags := c.cart.flags + ofBool (s.uncheckedCart c) }

/-- A frame sent again. -/
def frameAgain (p : Nat) (x : Port) (f : TxFrame) : Out := .frame p f.vc f.first f.seq ((x.rxSeq + 65535) % 65536) x.crs f.body

/-- A received cart that may be taken and used now (R345, R355, R358). -/
def cartReady (s : State) (p idx typ : Nat) (r : RxCart) : Prop :=
  s.cartAt p idx typ = some r ∧ s.cartHeld r.cart = false ∧ (r.cart.early = true → s.deadPair r.cart = false)

/-- The cart has left its receive buffer. -/
def cartTaken (s t : State) (p idx : Nat) : Prop := (t.port p).rx = (s.port p).rx.eraseIdx idx

/-- The pair of a device and step is neither pending nor live: it has been retracted or has timed out (R357). -/
def pairDead (t : State) (src step : Nat) : Prop := (src, step) ∈ t.cart.dead ∧ (t.cart.pend.all fun p => !(p.src == src && p.step == step)) = true

/-- A function that has just been reset (R424): in reset from this cycle on, its session closed, no request of it left. -/
def fnReset (s t : State) (f : Nat) : Prop :=
  (t.func f).flrAt = some s.now ∧ t.on TEN_SESSION.OPEN f = false ∧ ∀ q, (t.seq q).live = true → (t.seq q).func ≠ f

/-- The mailbox of a function takes an object (R426, R427). -/
def doeOpen (s : State) (f : Nat) : Bool := s.configOpen f && (s.func f).flrAt.isNone && !(s.func f).doeError

/-- SPDM is answered on a transport: 0 the physical function's mailbox, 1 MCTP (R517, R519). -/
def spdmOpen (s : State) (port : Nat) : Bool := s.on SEC_STAT.LOCK && !s.boot.held && (port == 1 || (port == 0 && doeOpen s 0))

/-- Every register of the blocks other than the warden's and the security block's has its reset value. -/
def blocksReset (t : State) : Prop :=
  ∀ (r : Reg) (i : Nat), r.blk ≠ .wdn → r.blk ≠ .sec → r.off < 8192 → i < 65536 → t.getReg r i = r.reset

/-- Every register of the warden's block reads as before, but for those listed. -/
def wardenKept (but : List Reg) (s t : State) : Prop :=
  ∀ (r : Reg) (i : Nat), r.blk = .wdn → r ∉ but → r.off < 8192 → i < 65536 → t.getReg r i = s.getReg r i

/-- What no reset of any scope changes (R530): the stocked crates' journal and digests, the image table, the repair log and the fuses, the retire lists, the certificates, the fused versions. -/
def storedKept (s t : State) : Prop :=
  t.journal = s.journal ∧ t.digests = s.digests ∧ t.images = s.images ∧ t.cal.log = s.cal.log ∧ t.cal.fuses = s.cal.fuses ∧
  t.mem.retired = s.mem.retired ∧ t.sec.certs = s.sec.certs ∧ t.rd SEC_STAT.CH_SVN = s.rd SEC_STAT.CH_SVN ∧ t.rd SEC_STAT.FW_SVN = s.rd SEC_STAT.FW_SVN ∧
  t.rd SEC_STAT.OWNED = s.rd SEC_STAT.OWNED

/-- What every device reset and power-on empties. -/
def workGone (t : State) : Prop :=
  t.stalls = [] ∧ t.groups = [] ∧ t.rows = [] ∧ t.jobs = [] ∧ t.stock = none ∧ t.slots = [] ∧ t.seqs = [] ∧ t.pages = [] ∧ t.rolls = [] ∧
  t.adapters = [] ∧ t.tunes = [] ∧ t.cart = Cartway.init ∧ t.funcs = [] ∧ t.clerks = [] ∧ t.charter = Charter.init ∧ t.on SEC_STAT.LOCK = false

/-- What a device reset leaves (R529, R530, R532, R546): CAUSE and STATE, the reset counted, every domain but the warden's at its reset values, what is not volatile as before, and the device held until r0 with FAULT_N released. -/
def resetByCause (s t : State) (cause : Nat) : Prop :=
  t.rd WDN_RST_CAUSE.CAUSE = cause ∧ t.rd WDN_RST_CAUSE.STATE = 0 ∧ t.boot.held = true ∧ t.faultN = false ∧ t.now = s.now ∧
  (∀ v, v < 16 → t.on WDN_VR_STAT.FAULT v = false) ∧ blocksReset t ∧ storedKept s t ∧ workGone t ∧
  (s.regsWf → t.rd WDN_RST_CAUSE.RESETS = (s.rd WDN_RST_CAUSE.RESETS + 1) % 2 ^ 32 ∧ wardenKept [WDN_RST_CAUSE, WDN_VR_STAT] s t)

/-- The device state and the thermal state hold codes of their tables: WDN_RST_CAUSE.STATE 0 to 5 (R549), WDN_STAT.THERM 0 to 5 (R510). -/
def legalModes (s : State) : Prop := s.rd WDN_RST_CAUSE.STATE ≤ 5 ∧ s.rd WDN_STAT.THERM ≤ 5

/-- A function's whole write of HOST_FN_EVT_EN sets its enables and its write of HOST_FN_EVT clears the bits written as 1 and no other; its low-half read of TEN_ACCESS_ERR_CNT answers the low half and latches the high half of the same moment; the physical function's or a clerk's read of STL_CLIP_CNT, STL_REFUSED_CNT or WDN_MON_DATA answers the value and clears it in the same access, but a result that came to WDN_MON_DATA in the read's own cycle stays for the next read. Each of these accesses lets a stopped Square PLL run. Where the device changes a field in the cycle of the access, a bit that it sets stays set under a W1C write, a bit written as 1 stays set in a W1S field whatever it clears, an RW field takes the value written, and an RC field holds what was counted beside the read. -/
def Obligations.RegisterAccessesComplete : Prop :=
  ∀ (s : State),
    (∀ f val, f < 64 → s.memOpen (.func f) = true →
      ∃ t, exec (.registerWrite (.func f) 0 HOST_FN_EVT_EN.off 8 val) s = .next t ∧ t.rd HOST_FN_EVT_EN.EN f = val % 64 ∧ t.warden.pllOff = false) ∧
    (∀ f val, f < 64 → s.memOpen (.func f) = true →
      ∃ t, exec (.registerWrite (.func f) 0 HOST_FN_EVT.off 8 val) s = .next t ∧ t.warden.pllOff = false ∧
        ∀ k, k < 6 → bitAt (t.getReg HOST_FN_EVT f).toNat k = (bitAt (s.getReg HOST_FN_EVT f).toNat k && !bitAt val k)) ∧
    (∀ f, f < 64 → s.memOpen (.func f) = true →
      ∃ t, exec (.lowHalfRead (.func f) 0 (0x1000 + TEN_ACCESS_ERR_CNT.off) 4) s = .next t ∧ t.warden.pllOff = false ∧
        t.outbox = s.outbox ++ [.readData f (s.rd TEN_ACCESS_ERR_CNT.V f % 2 ^ 32)] ∧
        t.latched (.func f) (halfName 0 (0x1000 + TEN_ACCESS_ERR_CNT.off)) = some (s.rd TEN_ACCESS_ERR_CNT.V f / 2 ^ 32)) ∧
    (∀ who row stall, stallOk row stall = true → s.memOpen who = true → whoAdmin who = true → s.boot.inReset.contains (stallId row stall) = false →
      ∃ t, exec (.stlClipCntRead who row stall) s = .next t ∧ t.warden.pllOff = false ∧ t.rd STL_CLIP_CNT.V (stallId row stall) = 0 ∧
        t.outbox = s.outbox ++ [.readData (whoCode who) (s.rd STL_CLIP_CNT.V (stallId row stall))]) ∧
    (∀ who row stall, stallOk row stall = true → s.memOpen who = true → whoAdmin who = true → s.boot.inReset.contains (stallId row stall) = false →
      ∃ t, exec (.stlRefusedCntRead who row stall) s = .next t ∧ t.warden.pllOff = false ∧ t.rd STL_REFUSED_CNT.V (stallId row stall) = 0 ∧
        t.outbox = s.outbox ++ [.readData (whoCode who) (s.rd STL_REFUSED_CNT.V (stallId row stall))]) ∧
    (∀ who, s.memOpen who = true → whoAdmin who = true →
      ∃ t, exec (.wdnMonDataRead who) s = .next t ∧ t.warden.pllOff = false ∧
        (s.warden.monAt ≠ s.now + 1 → t.rd WDN_MON_DATA.VALID = 0 ∧
          t.outbox = s.outbox ++ [.readData (whoCode who) (WDN_MON_DATA.info.readValue (s.getReg WDN_MON_DATA 0)).toNat]) ∧
        (s.warden.monAt = s.now + 1 → t.getReg WDN_MON_DATA 0 = s.getReg WDN_MON_DATA 0 ∧
          t.outbox = s.outbox ++ [.readData (whoCode who) (WDN_MON_DATA.info.readValue s.warden.monPrev).toNat])) ∧
    (∀ (F : RField) (locked : Bool) (v m : Nat) (w : Word64), F.lo + F.wd ≤ 64 →
      (F.acc = .w1c → ∀ k, k < F.wd → bitAt (RField.sameCycle locked v (fun x => F.put x (Nat.lor (F.of x) m)) w F) k =
        (bitAt m k || (bitAt (F.of w) k && !bitAt (bitsOf v F.lo F.wd) k))) ∧
      (F.acc = .w1s → ∀ k, k < F.wd → bitAt (RField.sameCycle locked v (fun x => F.put x (F.of x - Nat.land (F.of x) m)) w F) k =
        (bitAt (bitsOf v F.lo F.wd) k || (bitAt (F.of w) k && !bitAt m k))) ∧
      (F.acc = .rw → F.flt = .any → RField.sameCycle locked v (fun x => F.put x m) w F = bitsOf v F.lo F.wd) ∧
      (F.acc = .rc → F.rst = 0 → RField.sameCycle locked v (fun x => F.put x (F.of x + m)) w F = m % 2 ^ F.wd))

/-- A wake request of a sleeping stall, row or quarter makes it WAKING, due 50 CLK_AO cycles later at most from clock-gated and 1,000 from bias-off; once that time has come it runs, brought level with CUR; an idle unit enters clock-gated at this cycle; a long-gated, drained unit enters bias-off, where a stall's planes are EMPTY. -/
def Obligations.SleepAndWakeComplete : Prop :=
  ∀ (s : State),
    (∀ r p, s.wakeOk (.stall r p) = true → s.stState (stallId r p) < 2 →
      ∃ t, exec (.wakeRequest (.stall r p)) s = .next t ∧ t.stState (stallId r p) = 2 ∧
        s.now < FMap.get 0 t.wakeAt (stallId r p) ∧ FMap.get 0 t.wakeAt (stallId r p) ≤ s.now + (if s.stState (stallId r p) = 0 then 1000 else 50)) ∧
    (∀ r, s.wakeOk (.row r) = true → FMap.get 0 s.sleep r < 2 →
      ∃ t, exec (.wakeRequest (.row r)) s = .next t ∧ FMap.get 0 t.sleep r = 2 ∧
        FMap.get 0 t.wakeAt (12288 + r) = s.now + (if FMap.get 0 s.sleep r = 0 then 1000 else 50)) ∧
    (∀ q, s.wakeOk (.quarter q) = true → FMap.get 0 s.sleep (192 + q) < 2 →
      ∃ t, exec (.wakeRequest (.quarter q)) s = .next t ∧ FMap.get 0 t.sleep (192 + q) = 2 ∧
        FMap.get 0 t.wakeAt (12480 + q) = s.now + (if FMap.get 0 s.sleep (192 + q) = 0 then 1000 else 50)) ∧
    (∀ r p, stallOk r p = true → s.stState (stallId r p) = 2 → FMap.get 0 s.wakeAt (stallId r p) ≠ 0 → FMap.get 0 s.wakeAt (stallId r p) ≤ s.now →
      ∃ t, exec (.wakeComplete (.stall r p)) s = .next t ∧ FMap.get 0 t.wakeAt (stallId r p) = 0 ∧
        (s.logicalAt (stallId r p) = 63 ∨ s.unitGen (1, s.logicalNo (stallId r p)) = s.rd MODE_GEN.CUR →
          t.stState (stallId r p) = s.serveState (stallId r p)) ∧
        (s.logicalAt (stallId r p) ≠ 63 → t.unitGen (1, s.logicalNo (stallId r p)) = t.rd MODE_GEN.CUR)) ∧
    (∀ r, rowOk r = true → FMap.get 0 s.sleep r = 2 → FMap.get 0 s.wakeAt (12288 + r) ≠ 0 → FMap.get 0 s.wakeAt (12288 + r) ≤ s.now →
      ∃ t, exec (.wakeComplete (.row r)) s = .next t ∧ FMap.get 0 t.sleep r = 3 ∧ FMap.get 0 t.wakeAt (12288 + r) = 0) ∧
    (∀ r p, stallOk r p = true → s.on WDN_CTL.SLEEP_EN = true → s.stallIdle (stallId r p) = true →
      ∃ t, exec (.clockGatedEntry (.stall r p)) s = .next t ∧ t.stState (stallId r p) = 1 ∧ FMap.get 0 t.gatedAt (stallId r p) = s.now + 1) ∧
    (∀ r, rowOk r = true → s.on WDN_CTL.SLEEP_EN = true → FMap.get 0 s.sleep r = 3 → s.rowIdle r = true →
      ∃ t, exec (.clockGatedEntry (.row r)) s = .next t ∧ FMap.get 0 t.sleep r = 1 ∧ FMap.get 0 t.gatedAt (12288 + r) = s.now + 1) ∧
    (∀ r p, stallOk r p = true → s.stState (stallId r p) = 1 → s.longGated (.stall r p) = true → s.stallEmpty (stallId r p) = true →
      ∃ t, exec (.biasOffEntry (.stall r p)) s = .next t ∧ t.stState (stallId r p) = 0 ∧
        t.planeState (stallId r p) 0 = 0 ∧ t.planeState (stallId r p) 1 = 0 ∧ (t.stall (stallId r p)).plane0 = none ∧ (t.stall (stallId r p)).plane1 = none) ∧
    (∀ r, rowOk r = true → FMap.get 0 s.sleep r = 1 → s.longGated (.row r) = true → (∀ p, p < 33 → s.stState (stallId r p) = 0) →
      ∃ t, exec (.biasOffEntry (.row r)) s = .next t ∧ FMap.get 0 t.sleep r = 0)

/-- Of the descriptors that wait with those just received, the row scheduler sends the one that its class puts first, written for its vector with the tile's RANGE as it stands and as a pair for an A8 vector; one of a serving tile enters the queue, or is held while the queue is full or the stall takes none; an admin write of STL_CTL sets the enables and, with EN = 1, lets held descriptors in; a released bank or fresh slot takes the next part of the held vector, which leaves the row switch with its last part; a slice found in limit again has good codes, and its trims in effect stand; a slice out of limit is flagged and its channel's spare replaces it, or with none free the stall is in FAULT; a write of STL_SLICE_MAP reads back at once but is not yet in effect; a plane swap makes the READY plane COMPUTING and the old one EMPTY. -/
def Obligations.StallCommandsComplete : Prop :=
  ∀ (s : State) (row stall : Nat), stallOk row stall = true →
    (∀ new e d, (s.receive row stall new).pickDesc (stallId row stall) = some e → s.writeDesc (stallId row stall) (Desc.ofNat e.desc) = d →
      s.mayReceive (stallId row stall) = true →
      (d.stock = true → s.servedShut (stallId row stall) d.group = false) → (d.fresh = true → s.freshShut (stallId row stall) = false) →
      ∃ t, exec (.descriptorArrival row stall new) s = .next t ∧ (t.row row).waiting = ((s.receive row stall new).row row).waiting.erase e ∧
        (∀ n, (s.stall (stallId row stall)).record d.tag = some n → d.replay = false → d.stock = true → d.trans = false →
          d.wide = (n.a8 && !n.trans) ∧
          ((s.group (groupId (stallId row stall) d.group)).hasMsq = true → d.range = s.rd TAL_TILE_STAT.RANGE (groupId (stallId row stall) d.group))) ∧
        (if (s.stall (stallId row stall)).queue.length < 16 ∧ (d.replay = true ∨ (s.on STL_CTL.EN (stallId row stall) = true ∧
              (s.stall (stallId row stall)).drains = [] ∧ (s.stall (stallId row stall)).calBlock = false ∧ (s.stall (stallId row stall)).held = []))
         then (t.stall (stallId row stall)).queue = (s.stall (stallId row stall)).queue ++ [d] ∧ (t.stall (stallId row stall)).held = (s.stall (stallId row stall)).held
         else (t.stall (stallId row stall)).held = (s.stall (stallId row stall)).held ++ [d] ∧ (t.stall (stallId row stall)).queue = (s.stall (stallId row stall)).queue)) ∧
    (∀ who val, s.memOpen who = true → whoAdmin who = true → s.boot.inReset.contains (stallId row stall) = false →
      ∃ t, exec (.stlCtlWrite who row stall val) s = .next t ∧ t.rd STL_CTL.EN (stallId row stall) = val % 2 ∧
        t.rd STL_CTL.FRESH_EN (stallId row stall) = val / 2 % 2 ∧ t.rd STL_CTL.TRANS_EN (stallId row stall) = val / 4 % 2 ∧
        t.rd STL_CTL.AUTO_SPARE (stallId row stall) = val / 8 % 2 ∧ t.rd STL_CTL.SHADOW_EN (stallId row stall) = val / 16 % 2 ∧
        t.stall (stallId row stall) = Stall.refill (val % 2 == 1) (s.stall (stallId row stall))) ∧
    (∀ tag bank n part, (s.stall (stallId row stall)).waiting.find? (fun n => n.tag == tag) = some n → n.toStage = some part → n.bankOk part bank = true →
      s.bankFree (stallId row stall) n part bank = true → stRun ≤ s.stState (stallId row stall) →
      ∃ t, exec (.stagingBankWrite row stall tag bank) s = .next t ∧
        (t.stall (stallId row stall)).banks = ((s.stall (stallId row stall)).stage n part bank).banks ∧
        (t.stall (stallId row stall)).narrow = (s.stall (stallId row stall)).narrow.map (fun x => if x.tag = tag then x.staged part bank else x) ∧
        (∀ y ∈ (t.stall (stallId row stall)).waiting, y.tag = tag → y.toStage.isSome = true) ∧
        (t.stall (stallId row stall)).queue = (s.stall (stallId row stall)).queue) ∧
    (∀ chan slice diffs, chan < 8 → slice < 4 → s.shadowed (stallId row stall) chan slice = true → outOfLimit diffs = true →
      ∃ t, exec (.sliceSubstitution row stall chan slice diffs) s = .next t ∧ t.on STL_ERR.SLICE (stallId row stall) = true ∧
        bitAt (t.getReg STL_SLICE_HEALTH (stallId row stall)).toNat (5 * chan + slice) = true ∧
        (s.on STL_CTL.AUTO_SPARE (stallId row stall) = true → s.rd (subField chan) (stallId row stall) = 4 →
          t.rd (subField chan) (stallId row stall) = slice) ∧
        (s.on STL_CTL.AUTO_SPARE (stallId row stall) = true → s.rd (subField chan) (stallId row stall) ≠ 4 →
          t.stState (stallId row stall) = 7 ∧ t.on STL_ERR.SPARE_EXHAUSTED (stallId row stall) = true)) ∧
    (∀ chan slice diffs, chan < 8 → slice < 4 → s.shadowed (stallId row stall) chan slice = true → outOfLimit diffs = false →
      ∃ t, exec (.sliceSubstitution row stall chan slice diffs) s = .next t ∧
        (t.stall (stallId row stall)).offLimit = (s.stall (stallId row stall)).offLimit.erase (4 * chan + slice) ∧
        (t.stall (stallId row stall)).sliceTrim = (s.stall (stallId row stall)).sliceTrim) ∧
    (∀ who val, s.memOpen who = true → whoAdmin who = true → s.boot.inReset.contains (stallId row stall) = false →
      ∃ t, exec (.stlSliceMapWrite who row stall val) s = .next t ∧
        (∀ k, k < 8 → t.rd (subField k) (stallId row stall) =
          (if bitsOf val (3 * k) 3 ≤ 4 then bitsOf val (3 * k) 3 else s.rd (subField k) (stallId row stall))) ∧
        (t.stall (stallId row stall)).mapEff = (s.stall (stallId row stall)).mapEff) ∧
    (∀ p, ([0, 1].find? fun p => s.maySwap (stallId row stall) p) = some p →
      ∃ t, exec (.planeSwap row stall) s = .next t ∧ t.rd STL_PLANE.COMP (stallId row stall) = p ∧
        t.planeState (stallId row stall) p = 3 ∧ t.planeTag (stallId row stall) p = s.planeTag (stallId row stall) p ∧
        t.planeState (stallId row stall) (1 - p) =
          (if s.planeState (stallId row stall) (1 - p) = 3 then 0 else s.planeState (stallId row stall) (1 - p)))

/-- At the last of the strike edges of a command, with the stall able to issue and no probe due, the descriptor that the sequencer picks (after the refusals) issues if it is of the command's kind: STL_STRIKES advances by 1, by 2 for a widened pair; STL_FRESH_STRIKES, STL_TRANS_STRIKES and STL_WIDE_PAIRS (not for a replay) advance as the descriptor says. A probe that is due takes the edge instead: STL_STRIKES advances by 1, the strike is in flight and the probe no longer due; with none due, a check lane on its way back to service strikes a probe of the next group of its rotation. -/
def Obligations.StrikesAdvanceTheStrikeCounters : Prop :=
  ∀ (s : State) (row stall edges : Nat), stallOk row stall = true →
    (∀ s1 i d, s1 = ((s.edgesPass row edges).unshut (stallId row stall)) → s1.mayIssue (stallId row stall) = true →
      s1.probeGroup (stallId row stall) = none → (s1.refuseAll (stallId row stall) 17).pick (stallId row stall) = .issue i d →
      (s1.refuseAll (stallId row stall) 17).directionOk (stallId row stall) d.trans = true →
      ∃ t, exec (if d.wide then .widenedPairIssue row stall edges else if d.trans then .transposeStrikeIssue row stall edges else .strikeIssue row stall edges) s = .next t ∧
        t.rd STL_STRIKES.V (stallId row stall) =
          (s.rd STL_STRIKES.V (stallId row stall) + (if d.stock then (if d.wide then 2 else 1) else 0)) % 2 ^ 64 ∧
        t.rd STL_FRESH_STRIKES.V (stallId row stall) = (s.rd STL_FRESH_STRIKES.V (stallId row stall) + ofBool d.fresh) % 2 ^ 64 ∧
        t.rd STL_TRANS_STRIKES.V (stallId row stall) = (s.rd STL_TRANS_STRIKES.V (stallId row stall) + ofBool d.trans) % 2 ^ 64 ∧
        t.rd STL_WIDE_PAIRS.V (stallId row stall) = (s.rd STL_WIDE_PAIRS.V (stallId row stall) + ofBool (d.wide && !d.replay)) % 2 ^ 64 ∧
        (d.stock = true → ∃ x ∈ (t.stall (stallId row stall)).inflight, x.desc = { d with fresh := false } ∧ x.stage = .issued)) ∧
    (∀ s1 g, s1 = s.edgesPass row edges → s1.mayIssue (stallId row stall) = true → s1.directionOk (stallId row stall) false = true →
      s1.probeGroup (stallId row stall) = some g →
      ∃ t, exec (.probeStrike row stall edges) s = .next t ∧
        t.rd STL_STRIKES.V (stallId row stall) = (s.rd STL_STRIKES.V (stallId row stall) + 1) % 2 ^ 64 ∧
        (t.group (groupId (stallId row stall) g)).probeDue = false ∧
        ∃ x ∈ (t.stall (stallId row stall)).inflight, x.kind = .probe ∧ x.desc.group = g ∧ x.idle = false) ∧
    (∀ s1 g, s1 = s.edgesPass row edges → s1.mayIssue (stallId row stall) = true → s1.directionOk (stallId row stall) false = true →
      s1.probeGroup (stallId row stall) = none → s1.laneGroup (stallId row stall) = some g →
      ∃ t, exec (.probeStrike row stall edges) s = .next t ∧
        t.rd STL_STRIKES.V (stallId row stall) = (s.rd STL_STRIKES.V (stallId row stall) + 1) % 2 ^ 64 ∧
        (t.stall (stallId row stall)).laneGrp = g + 1 ∧
        ∃ x ∈ (t.stall (stallId row stall)).inflight, x.kind = .probe ∧ x.desc.group = g ∧ x.idle = true)

/-- The codes of the oldest issued strike count their clips, and a probe's count as a probe; a corrected strike whose passes have ended leaves the strikes in flight, or stays as the open primary of a pair; a clerk's trim write sets the target and starts the sixteen steps, each step advances; an overflow pass ends and is counted, or fails and is flagged, and a failed fetch is retried once its shard is valid; a clipped strike is struck again, or split over two halves of its mask. The ideal transfer gives every code of a strike, of a pair, of a transpose strike or of a fresh column back from the value it stands for, and clips a value beyond the span to its end. -/
def Obligations.CorrectionCommandsComplete : Prop :=
  ∀ (s : State) (row stall : Nat), stallOk row stall = true →
    (∀ c x, (s.stall (stallId row stall)).inflight.find? (fun x => x.stage == .issued) = some x →
      ∃ t, exec (.strikeCodesReceived row stall c) s = .next t ∧
        t.rd STL_CLIP_CNT.V (stallId row stall) = (s.rd STL_CLIP_CNT.V (stallId row stall) + codesClips c x.desc) % 2 ^ 64 ∧
        (x.kind = .probe → t.rd CHK_PROBE_CNT.V = (s.rd CHK_PROBE_CNT.V + 1) % 2 ^ 64)) ∧
    (∀ no fresh x n f, (s.stall (stallId row stall)).inflight.find? (fun x => x.stage == .corrected && x.no == no && x.desc.fresh == fresh) = some x →
      (x.desc.stock && s.isCopy (stallId row stall) x.desc.group) = false →
      (s.stall (stallId row stall)).passesDone x.desc.tag (outOf x.desc) = true →
      (s.stall (stallId row stall)).record x.desc.tag = some n → n.feed (outOf x.desc) = some f → x.half = 0 →
      (x.desc.stock = true → s.isPrimary (stallId row stall) x.desc.group = true → s.on CHK_CTL.PAIR_EN = true → s.openCount n.seq < 64) →
      ∃ t, exec (.strikeRelease row stall no fresh) s = .next t ∧
        (t.stall (stallId row stall)).inflight =
          (if !n.void.contains (outOf x.desc) && !f.attn && s.isPrimary (stallId row stall) x.desc.group && x.desc.stock && s.on CHK_CTL.PAIR_EN then
            (s.stall (stallId row stall)).inflight.map fun y => if y = x then { x with stage := .released, pairOpen := true, red := s.feedRed f, seq := n.seq } else y
           else (s.stall (stallId row stall)).inflight.erase x)) ∧
    (∀ k val, s.boot.inReset.contains (12288 + row) = false →
      ∃ t, exec (.trimDataWrite (.clerk k) row val) s = .next t ∧
        FMap.get 0 (t.stall (stallId row (s.rd TAL_TRIM_SEL.STALL row))).trimsTo (s.rd TAL_TRIM_SEL.COLUMN row) = val % 2 ^ 30 ∧
        FMap.get (0, 0) (t.stall (stallId row (s.rd TAL_TRIM_SEL.STALL row))).trimStep (s.rd TAL_TRIM_SEL.COLUMN row / 1024) = (1, 0)) ∧
    (∀ group n k, group < 5 → FMap.get (0, 0) (s.stall (stallId row stall)).trimStep group = (n, k) → n ≠ 0 → (if n = 1 then 0 else 16) ≤ k →
      ∃ t, exec (.trimStep row stall group) s = .next t ∧
        FMap.get (0, 0) (t.stall (stallId row stall)).trimStep group = (if n = 16 then (0, 0) else (n + 1, 0)) ∧
        t.rd CAL_STALL_STAT.STEP (stallId row stall) = n % 32) ∧
    (∀ ended p ps, (s.stall (stallId row stall)).passes = p :: ps → p.failed = false →
      ((s.stall (stallId row stall)).cache.contains (s.rowKey p.feed p.chan) = true ∨
        (s.passRow p.feed = true ∧ s.ueIn p.feed.slot p.feed.gen (s.feedShard p.feed) ended.err.ue = none ∧
          ((s.genOf p.feed.slot p.feed.gen).bind fun g => s.readShard p.feed.slot g (s.feedShard p.feed)).isSome = true)) →
      ∃ t, exec (.overflowPassEnd row stall ended) s = .next t ∧ (t.stall (stallId row stall)).passes = ps ∧
        t.rd TAL_OUT_PASS_CNT.V row = (s.rd TAL_OUT_PASS_CNT.V row + 1) % 2 ^ 64) ∧
    (∀ p ps, (s.stall (stallId row stall)).passes = p :: ps → p.failed = true → s.passRow p.feed = true →
      ∃ t, exec (.ledgerRowRetry row stall) s = .next t ∧ (t.stall (stallId row stall)).passes = { p with failed := false } :: ps) ∧
    (∀ no fresh x r, s.clippedOf (stallId row stall) no fresh = some x → clipNext x = .replay r →
      ∃ t, exec (.clipReplay row stall no fresh) s = .next t ∧
        (if x.desc.stock then { x.desc with replay := true, range := r } else { x.desc with replay := true, frange := r }) ∈
          (t.stall (stallId row stall)).queue ++ (t.stall (stallId row stall)).held ∧
        (x.desc.trans = false → t.rd TAL_NQ_CLIP_REPLAY_CNT.V row = (s.rd TAL_NQ_CLIP_REPLAY_CNT.V row + 1) % 2 ^ 64)) ∧
    (∀ no fresh x, s.clippedOf (stallId row stall) no fresh = some x → clipNext x = .split →
      ∃ t, exec (.clipSplit row stall no fresh) s = .next t ∧
        (∀ m, m = lowHalf x.origMask ∨ m = x.origMask - lowHalf x.origMask →
          { x.desc with replay := true, range := min (x.origRange + 2) 15, mask := m } ∈ (t.stall (stallId row stall)).queue ++ (t.stall (stallId row stall)).held) ∧
        t.rd TAL_NQ_SPLIT_CNT.V row = (s.rd TAL_NQ_SPLIT_CNT.V row + 1) % 2 ^ 64) ∧
    (∀ (d : Desc) (code : Nat), (code ≤ topCode d → idealCode d (stockValue d code) = code) ∧
      (topCode d ≤ code → idealCode d (stockValue d code) = topCode d) ∧
      (code ≤ 255 → idealFresh d (freshValue d code) = code) ∧ (255 ≤ code → idealFresh d (freshValue d code) = 255))

/-- A finite vector is decoded into its free source buffer in the order of its tile's input permutation, or waits while its row sleeps; quantisation counts the vector, gives its stall a narrow record and a staged vector of its tag, and marks the buffer done; a clerk's tile command waits for the step marker; a step marker advances TAL_STEP_CNT, takes the waiting commands and the written seed, and (with no command waiting) lowers by one the hold of each wide tile that was struck and fired no trigger, and of no other; a wide tile with nothing holding it returns to A4; at a window boundary the storm map names exactly the stormy stalls. -/
def Obligations.NarrowCommandsComplete : Prop :=
  ∀ (s : State) (row : Nat), rowOk row = true →
    (∀ buf v xs, stallOk row v.stall = true → buf < 8 → s.rowAwake row = true → (s.row row).vecWait = [] → (s.row row).bufTaken buf = false →
      s.vecValues row v = some xs →
      ∃ t, exec (.vectorArrival row buf v) s = .next t ∧
        FMap.get Vec.none (t.row row).bufs buf = ⟨v.tag, v.stall, v.trans, permuted (s.permOf (stallId row v.stall) v) xs, false,
          v.feeds.map (·.1), feedsOf v, v.seq, probPrep v.prep, if v.residue && !v.trans then xs else []⟩) ∧
    (∀ buf v, stallOk row v.stall = true → buf < 8 → s.rowAwake row = false → (s.row row).bufTaken buf = false →
      ∃ t, exec (.vectorArrival row buf v) s = .next t ∧ (t.row row).vecWait = (s.row row).vecWait ++ [(buf, v)] ∧ (t.row row).bufs = (s.row row).bufs) ∧
    (∀ buf v st, buf < 8 → s.rowAwake row = true → (s.row row).vecWait = [] → FMap.get Vec.none (s.row row).bufs buf = v → s.stall (stallId row v.stall) = st → v.done = false → v.feeds ≠ [] →
      st.narrow.length < 2 → (st.pairFree (s.row row).edge = true ∨ v.trans = true ∨ (v.feeds.all fun f => decide (4 ≤ f.group)) = true) →
      ∃ t, exec (.quantiseVector row buf) s = .next t ∧ t.rd TAL_NQ_VEC_CNT.V row = (s.rd TAL_NQ_VEC_CNT.V row + 1) % 2 ^ 64 ∧
        (FMap.get Vec.none (t.row row).bufs buf).done = true ∧
        ∃ n, n.tag = v.tag ∧ n.feeds = v.feeds ∧ (t.stall (stallId row v.stall)).narrow = st.narrow ++ [n] ∧
          (t.stall (stallId row v.stall)).waiting = st.waiting ++ [n]) ∧
    (∀ k stall group, stall < 33 → group < 4 → s.boot.inReset.contains (12288 + row) = false →
      (∃ t, exec (.tileForceWide (.clerk k) row stall group) s = .next t ∧ (t.row row).cmds = (s.row row).cmds ++ [(stall, group, 1)]) ∧
      (∃ t, exec (.tileReleaseForce (.clerk k) row stall group) s = .next t ∧ (t.row row).cmds = (s.row row).cmds ++ [(stall, group, 2)]) ∧
      (∃ t, exec (.tileSetHold (.clerk k) row stall group) s = .next t ∧ (t.row row).cmds = (s.row row).cmds ++ [(stall, group, 3)])) ∧
    (∃ t, exec (.stepMarker row) s = .next t ∧ t.rd TAL_STEP_CNT.V row = (s.rd TAL_STEP_CNT.V row + 1) % 2 ^ 64 ∧
      (t.row row).cmds = [] ∧ (t.row row).seed = s.rd TAL_ACC_SEED.V row ∧
      ((s.row row).cmds = [] → ∀ p g, p < 33 → g < 4 → t.rd TAL_TILE_STAT.HOLD_LEFT (groupId (stallId row p) g) =
        s.rd TAL_TILE_STAT.HOLD_LEFT (groupId (stallId row p) g) -
          (if s.on TAL_TILE_STAT.WIDE (groupId (stallId row p) g) && (s.group (groupId (stallId row p) g)).struck
              && !(s.group (groupId (stallId row p) g)).fired then 1 else 0))) ∧
    (∀ stall group, stall < 33 → group < 4 → s.on TAL_TILE_STAT.WIDE (groupId (stallId row stall) group) = true →
      s.tileWide (groupId (stallId row stall) group) = false →
      ∃ t, exec (.holdExpiry row stall group) s = .next t ∧ t.on TAL_TILE_STAT.WIDE (groupId (stallId row stall) group) = false) ∧
    (s.rd TAL_STEP_CNT.V row ≠ 0 → s.rd TAL_STEP_CNT.V row % s.rd TAL_NQ_STORM.WINDOW row = 0 → (s.row row).stormStep ≠ s.rd TAL_STEP_CNT.V row →
      ∃ t, exec (.wideStormEvaluation row) s = .next t ∧
        (∀ p, p < 33 → bitAt (t.rd TAL_STORM_MAP.STALLS row) p = s.stormy (stallId row p)) ∧
        t.rd TAL_STORM_MAP.WINDOW_NO row = s.rd TAL_STEP_CNT.V row / s.rd TAL_NQ_STORM.WINDOW row % 2 ^ 16)

/-- A refusal marker leaves the stall and hands its instance over, counted and flagged; the row that forms a reduction's tree sends the canonical tree's output, NaNs as the quiet NaN, and closes the instance, and a row that forms parts closes it as well; a clerk's drain request makes a stall hold the drain, DRAIN_BUSY set and RUN become DRAINING; a release of a completed drain by its last requester returns it to RUN; a due drain completes, is counted and clears DRAIN_BUSY. -/
def Obligations.AccumulationCommandsComplete : Prop :=
  ∀ (s : State) (row : Nat), rowOk row = true →
    (∀ stall d ds, stallOk row stall = true → (s.stall (stallId row stall)).markers = d :: ds →
      ∃ t, exec (.refusalMarker row stall) s = .next t ∧ (t.stall (stallId row stall)).markers = ds ∧
        (∀ n f g, d.stock = true → d.fresh = false → (s.stall (stallId row stall)).record d.tag = some n → n.feed d.group = some f →
          s.genOf f.slot f.gen = some g →
          t.on TAL_ACC_ERR.REFUSED row = true ∧ t.rd TAL_ACC_REFUSED_CNT.V row = (s.rd TAL_ACC_REFUSED_CNT.V row + 1) % 2 ^ 64)) ∧
    (∀ red tag i g r, s.instOf row red tag = some i → s.genOf i.slot i.gen = some g → g.red red = some r → i.localDone r row = true →
      r.outDev = 0xFF → r.outRow = row → i.remoteDone r row = true →
      ∃ t, exec (.reductionOutput row red tag) s = .next t ∧ t.instOf row red tag = none ∧
        t.outbox = s.outbox ++ [.vector row red tag ((List.range (((List.range 8).map fun e => (i.cols e).length).foldl max 0)).map fun c =>
          canonNan (tree fun e => ((i.cols e).getD c Col.init).acc).1)]) ∧
    (∀ red tag i g r, s.instOf row red tag = some i → s.genOf i.slot i.gen = some g → g.red red = some r → i.localDone r row = true →
      (r.outDev ≠ 0xFF ∨ r.outRow ≠ row) →
      ∃ t, exec (.reductionOutput row red tag) s = .next t ∧ t.instOf row red tag = none) ∧
    (∀ k target p, s.boot.inReset.contains (12288 + row) = false → p < 33 → (target = p ∨ target = 63) →
      ∃ t, exec (.drainRequest (.clerk k) row target) s = .next t ∧ (t.stall (stallId row p)).drains.contains .cmd = true ∧
        (t.stall (stallId row p)).drained = false ∧ bitAt (t.rd TAL_ACC_STAT.DRAIN_BUSY row) p = true ∧
        (s.stState (stallId row p) = 3 → t.stState (stallId row p) = 4)) ∧
    (∀ k target p, s.boot.inReset.contains (12288 + row) = false → p < 33 → (target = p ∨ target = 63) →
      (s.stall (stallId row p)).drains = [.cmd] →
      ∃ t, exec (.drainRelease (.clerk k) row target) s = .next t ∧
        ((s.stall (stallId row p)).drained = true → (t.stall (stallId row p)).drains = [] ∧
          (s.stState (stallId row p) = 4 → t.stState (stallId row p) = 3)) ∧
        ((s.stall (stallId row p)).drained = false → (t.stall (stallId row p)).early.contains .cmd = true)) ∧
    (∀ stall, stallOk row stall = true → s.drainDue (stallId row stall) = true → (s.stall (stallId row stall)).early = [] → s.boot.reset = none →
      ∃ t, exec (.drainComplete row stall) s = .next t ∧ (t.stall (stallId row stall)).drained = true ∧
        bitAt (t.rd TAL_ACC_STAT.DRAIN_BUSY row) stall = false ∧
        t.rd TAL_ACC_DRAIN_CNT.V row = (s.rd TAL_ACC_DRAIN_CNT.V row + 1) % 2 ^ 64)

/-- A job whose image lies in the tiers and passes every check of R173 starts, one whose signature, digest, header or records fail is refused with SIG and FAILED: PROGRAMMING, or SETTLING when no crate is left to program; a restock of a VERIFIED group starts in TOUCHING; a named VERIFIED crate is scrubbed; the next crate the limits allow, its level data matching its digest, leaves service and, once no strike of its group is in hand, becomes PROGRAMMING with its COUNT one higher and that data; a program ends 1,375,000 cycles later, PROGRAMMED or FAILED, and is counted; after the settle pause the PROGRAMMED crates take touch-up passes, which end VERIFIED or FAILED; a scrub takes the next VERIFIED crate in index order with 65 slots to come, and once they are taken ends with the match of its codes' digest, its marginal count and, on a mismatch, a crate that is no longer VERIFIED. -/
def Obligations.StockingCommandsComplete : Prop :=
  ∀ (s : State),
    (∀ who hdr table hdrErr tableErr h recs rs k, s.memOpen who = true → whoAdmin who = true → s.stock = none → s.working = [] → s.stkRailOff = false →
      ImageHdr.ofBytes hdr = h → s.spanOk (s.rd STK_IMG_ADDR.V) 320 = true → s.spanOk (s.rd STK_IMG_ADDR.V + h.recOffset) (96 * h.count) = true →
      (entriesOf 96 h.count 0 table).map CrateRec.ofBytes = recs → sortBy (fun a b => decide (a.1 ≤ b.1)) (recs.map fun r => (s.physCrate r.index, r)) = rs →
      (s.imageOk hdr h recs table = true → rs.all (s.fmtOk rs) = true → rs.all (pairOk rs) = true → s.imageSlot h.imageId h.digest = some k →
        ∃ t, exec (.stockingJobStart who hdr table hdrErr tableErr) s = .next t ∧ (t.stock.map fun j => (j.slot, j.recs)) = some (k, rs) ∧
          FMap.get (0, 0) t.images k = (h.imageId, h.digest) ∧ (t.rd STK_STAT.JOB = 2 ∨ t.rd STK_STAT.JOB = 3) ∧
          (t.rd STK_STAT.JOB = 3 ↔ ∀ r ∈ rs, ((s.jrn r.1).state = .verified ∨ (s.jrn r.1).state = .programmed) ∧ (s.jrn r.1).image = k ∧ (s.jrn r.1).fmt = r.2.fmt)) ∧
      (s.imageOk hdr h recs table = false →
        ∃ t, exec (.stockingJobStart who hdr table hdrErr tableErr) s = .next t ∧ t.stock = none ∧ t.rd STK_STAT.JOB = 6 ∧ t.on STK_ERR.SIG = true)) ∧
    (∀ who index, s.memOpen who = true → whoAdmin who = true → s.stock = none → s.stkRailOff = false → index < jrnCount →
      (∀ i ∈ groupCrates (jrnStall index) (jrnGroup index), (s.jrn i).state = .verified) →
      ∃ t, exec (.touchupRestock who index) s = .next t ∧ t.rd STK_STAT.JOB = 4 ∧
        (t.stock.map fun j => (j.touch, j.restock)) = some (groupCrates (jrnStall index) (jrnGroup index), true)) ∧
    (∀ who index, s.memOpen who = true → whoAdmin who = true → index < jrnCount → (s.jrn index).state = .verified → s.scrub.busy = none →
      ∃ t, exec (.scrubCrateNow who index) s = .next t ∧ t.scrub.busy = some index ∧ t.scrub.left = 65) ∧
    (∀ fetched j i n r, s.stock = some j → s.rd STK_STAT.JOB = 2 → j.abort = false → j.failing = false →
      (s.hotRows j.todo).nextCrate j.todo = some i → (s.jrn i).count < 10000 →
      j.recOf i = r → s.spanOk (j.addr + r.offset) 524288 = true → refetches r fetched = some n →
      ∃ t, exec (.crateProgramStart fetched) s = .next t ∧ t.rd STK_REFETCH_CNT.V = (s.rd STK_REFETCH_CNT.V + n) % 2 ^ 64 ∧
        (s.groupQuiet i = true → t.jrn i = ⟨.programming, (s.jrn i).count + 1, j.slot, r.fmt, r.paired⟩ ∧
          FMap.get CrateData.init t.digests i = ⟨r.digest, (fetched.getD n ⟨[], .none⟩).data⟩ ∧
          t.working = s.working ++ [⟨i, false, s.now⟩] ∧ (t.stock.map fun x => x.todo) = some (j.todo.erase i)) ∧
        (s.groupQuiet i = false → t.working = s.working ∧ t.jrn i = s.jrn i ∧ t.rd (grpField (jrnGroup i) 2 1) (jrnStall i) = 0)) ∧
    (∀ index ok w j, s.workOn index false = some w → s.stock = some j → j.lastStep w = 1375000 → w.since + 1375000 ≤ s.now →
      ∃ t, exec (.crateProgramEnd index ok) s = .next t ∧ t.jrn index = { s.jrn index with state := if ok then .programmed else .failed } ∧
        t.working = s.working.filter (fun w => w.index != index) ∧ t.rd STK_PROG_CNT.V = (s.rd STK_PROG_CNT.V + 1) % 2 ^ 64 ∧
        t.rd STK_FAIL_CNT.V = (s.rd STK_FAIL_CNT.V + ofBool (!ok)) % 2 ^ 64) ∧
    (∀ j, s.stock = some j → s.rd STK_STAT.JOB = 3 → j.settleAt ≤ s.rd WDN_ROUND.V → j.abort = false → j.failing = false →
      (j.recs.filter fun r => (s.jrn r.1).state == .programmed) ≠ [] →
      ∃ t, exec .settlePauseEnd s = .next t ∧ t.rd STK_STAT.JOB = 4 ∧
        (t.stock.map fun x => x.touch) = some ((j.recs.filter fun r => (s.jrn r.1).state == .programmed).map (·.1))) ∧
    (∀ j i, s.stock = some j → s.rd STK_STAT.JOB = 4 → j.abort = false → j.failing = false →
      (s.hotRows j.touch).nextCrate j.touch = some i → (j.restock = true → (s.jrn i).count < 10000) →
      ∃ t, exec .touchupPassStart s = .next t ∧
        t.jrn i = { s.jrn i with state := .touching, count := (s.jrn i).count + ofBool j.restock } ∧ t.working = s.working ++ [⟨i, true, s.now⟩]) ∧
    (∀ index ok w j, s.workOn index true = some w → s.stock = some j → j.abort = false →
      ∃ t, exec (.touchupPassEnd index ok) s = .next t ∧ t.jrn index = { s.jrn index with state := if ok then .verified else .failed } ∧
        t.working = s.working.filter (fun w => w.index != index) ∧ t.rd STK_TOUCH_CNT.V = (s.rd STK_TOUCH_CNT.V + 1) % 2 ^ 64) ∧
    (∀ i e, s.on STK_CTL.SCRUB_EN = true → s.scrub.busy = none →
      s.journal.find? (fun e => e.2.state == .verified && decide (s.scrub.next ≤ e.1) && s.stState (jrnStall e.1) != stFault) = some (i, e) → s.closingStall (jrnStall i) = false →
      ∃ t, exec .scrubDue s = .next t ∧ t.scrub.busy = some i ∧ t.scrub.left = 65 ∧ t.rd STK_SCRUB_STAT.NEXT = (i + 1) % jrnCount) ∧
    (∀ codes marginal i digest, s.scrub.busy = some i → s.scrub.left = 0 → leAt (sha512 codes) 0 64 = digest →
      ∃ t, exec (.scrubCrateDone codes marginal) s = .next t ∧ t.scrub.busy = none ∧ t.rd STK_SCRUB_CNT.V = (s.rd STK_SCRUB_CNT.V + 1) % 2 ^ 64 ∧
        t.rd STK_SCRUB_STAT.MARGINAL = marginal % 2 ^ 32 ∧ t.rd STK_SCRUB_STAT.MATCH = ofBool (digest == (FMap.get CrateData.init s.digests i).digest) ∧
        (digest ≠ (FMap.get CrateData.init s.digests i).digest → ((t.jrn i).state = .unsettled ∨ (t.jrn i).state = .failed) ∧ t.on STK_ERR.MISMATCH = true ∧
          (t.group (groupId (jrnStall i) (jrnGroup i))).scrubBad = true))

/-- R186: a write of STK_CMD with OP = 3 by the physical function or a clerk aborts the job. A crate in progress stays in progress; while the abort stands no crate starts, neither its program nor its touch-up pass. A program runs to the end of the step of R175 that the abort found it in, and no further: its entry stays PROGRAMMING unless that was its last step, which settles it. A touch-up pass ends with its step, whose time the spec does not give: its entry stays TOUCHING or, after the last step, is settled. The job ends in ABORTED (7), at once when no crate is in progress, else with the last of them. -/
def Obligations.StockingAbortEndsTheJob : Prop :=
  ∀ (s : State) (j : StockJob), s.stock = some j →
    (∀ who, s.memOpen who = true → whoAdmin who = true →
      ∃ t, exec (.stockingAbort who) s = .next t ∧ t.working = s.working ∧
        (if s.working = [] then t.rd STK_STAT.JOB = 7 ∧ t.stock = none
         else t.stock = some { j with abort := true, abortAt := if j.abort then j.abortAt else s.now } ∧ t.rd STK_STAT.JOB = s.rd STK_STAT.JOB)) ∧
    (j.abort = true → (∀ fetched, exec (.crateProgramStart fetched) s = .next s) ∧ exec .touchupPassStart s = .next s) ∧
    (∀ index ok w e, j.abort = true → s.workOn index false = some w → (programSteps.find? fun e => decide (j.abortAt < w.since + e)) = some e →
      (s.now < w.since + e → exec (.crateProgramEnd index ok) s = .next s) ∧
      (w.since + e ≤ s.now → ∃ t, exec (.crateProgramEnd index ok) s = .next t ∧
        t.jrn index = (if e = 1375000 then { s.jrn index with state := if ok then .programmed else .failed } else s.jrn index) ∧
        t.working = s.working.filter (fun w => w.index != index) ∧ (t.working = [] → t.rd STK_STAT.JOB = 7 ∧ t.stock = none))) ∧
    (∀ index ok w, j.abort = true → s.workOn index true = some w →
      ∃ t, exec (.touchupPassEnd index ok) s = .next t ∧
        (t.jrn index = s.jrn index ∨ t.jrn index = { s.jrn index with state := if ok then .verified else .failed }) ∧
        t.working = s.working.filter (fun w => w.index != index) ∧ (t.working = [] → t.rd STK_STAT.JOB = 7 ∧ t.stock = none))

/-- A load whose signature, digest, key and manifest pass and whose placement fits starts FETCH for an EMPTY slot (the slot LOADING), or beside the CURRENT generation of a READY slot of the same model when its generation is later and shares no group badly; a manifest of no shard has nothing to fetch and is complete at once; one whose signature under the key slot it names, or digest, fails ends with SIG, the slot as it was. A shard whose GCM tag (ENC), digest and format hold becomes valid, its plaintext kept and its next check one period away. A complete load whose groups are VERIFIED with its image makes the slot READY, or its generation READY to become CURRENT at the step marker. An unload makes the slot RETIRING and ends a load of it; with no sequence, no tuning job and no stream left it becomes EMPTY. A refetch makes a shard invalid in every generation that lacks it, or in the first that names it, and counts; a HELD slot whose shards are all valid is released to where its load stands. A due check of a valid shard counts its bytes and, passing, sets its next one. A request for a stream entry or a block queues, at most 4 a stall; an EMPTY plane starts LOADING with its content, and a stream's with the stall's next content tag, which the plane carries when it is READY; where only a COMPUTING plane could take the write it is refused with PORTER_WR. -/
def Obligations.PorterCommandsComplete : Prop :=
  ∀ (s : State),
    (∀ who slot hdr sects body man m p, hdr ++ (sects ++ body) = man → s.memOpen who = true → whoAdmin who = true → slot < 16 → s.loadBusy = false → s.rd WDN_RST_CAUSE.STATE < 2 →
      Manifest.ofBytes man = m → leAt (sha512 (man.drop 0x140)) 0 64 = m.digest → s.signed m.keyIndex man m.sigR m.sigS = true → s.manifestOk slot man.length m = true →
      (s.slState slot = 0 ∨ (s.slState slot = 3 ∧ (s.slot slot).next = none ∧ (s.slot slot).prev = none ∧ ∃ g, (s.slot slot).cur = some g ∧ g.man.modelId = m.modelId ∧
        g.man.generation < m.generation ∧ sharesBadly g.man m = false)) →
      placeModel m s.free1 s.free2 s.charter.kvMin = p → p.n1 ≤ s.free1 → p.n2 ≤ s.free2 →
      ∃ t, exec (.modelLoad who slot hdr sects body) s = .next t ∧
        (if s.slState slot = 0 then (if m.shards = [] then t.slState slot = 1 ∨ t.slState slot = 2 else t.slState slot = 1) else t.slState slot = 3) ∧
        ((t.slot slot).next.map fun g => (g.man, g.kvPages)) = some (m, p.kv) ∧ (t.slot slot).cur = (s.slot slot).cur ∧
        t.rd PRT_STAT.LOAD = (if m.shards = [] then 4 else 3) ∧ t.rd PRT_STAT.SLOT = slot ∧ t.rd PRT_STAT.LEFT = m.shards.length % 2 ^ 32) ∧
    (∀ who slot hdr sects body man m, hdr ++ (sects ++ body) = man → Manifest.ofBytes man = m → s.memOpen who = true → whoAdmin who = true → slot < 16 → s.loadBusy = false → s.rd WDN_RST_CAUSE.STATE < 2 →
      (s.signed m.keyIndex man m.sigR m.sigS = false ∨ leAt (sha512 (man.drop 0x140)) 0 64 ≠ m.digest) →
      ∃ t, exec (.modelLoad who slot hdr sects body) s = .next t ∧ t.on PRT_ERR.SIG = true ∧ t.rd PRT_STAT.LOAD = 5 ∧ t.slot slot = s.slot slot ∧
        t.slState slot = s.slState slot) ∧
    (∀ slot gen shard addr data ats plain g e, s.genOf slot gen = some g → g.man.shards[shard]? = some e → (g.shard shard).valid = false →
      s.goodShard slot g shard e e.enc data = some plain →
      ∃ t, exec (.shardArrival slot gen shard (some addr) data true ats) s = .next t ∧ .hostRead 0 addr e.size ∈ t.outbox ∧
        ((t.genOf slot gen).map fun x => x.shard shard) = some { g.shard shard with
          valid := true, dropped := false, tries := 0, data := plain, cipher := if e.enc && (g.shard shard).tier == 1 then data else [], scrubAt := s.rd WDN_ROUND.V + 29297 * s.rd PRT_SCRUB_CTL.PERIOD }) ∧
    (∀ slot g, (s.slot slot).next = some g → g.missing = 0 → s.stocked g.man = true →
      (s.rd PRT_STAT.LOAD = 4 ∨ s.rd PRT_STAT.SLOT ≠ slot) → 1 ≤ s.slState slot → s.slState slot ≤ 3 →
      ∃ t, exec (.slotReady slot) s = .next t ∧ t.slState slot = 3 ∧
        (if s.slState slot = 3 then (t.slot slot).next = some g ∧ (t.slot slot).ready = true ∧ (t.slot slot).cur = (s.slot slot).cur
         else (t.slot slot).cur = some g ∧ (t.slot slot).next = none ∧ (t.slot slot).started = false)) ∧
    (∀ who slot, s.memOpen who = true → whoAdmin who = true → slot < 16 → s.slState slot ≠ 0 → s.slState slot ≠ 5 →
      ∃ t, exec (.modelUnload who slot) s = .next t ∧ t.slState slot = 5 ∧ (t.slot slot).next = none ∧
        (s.loadBusy = true → s.rd PRT_STAT.SLOT = slot → t.rd PRT_STAT.LOAD = 0)) ∧
    (∀ slot, s.slState slot = 5 → s.countSeqs (fun x => x.slot == slot) = 0 → FMap.countWhere s.tunes (fun _ j => j.live && j.slot == slot) = 0 →
      (∀ k, k < 16 → s.rd SRV_PACE_STAT.STATE k = 0 ∨ s.rd SRV_PACE_STAT.SLOT k ≠ slot) →
      ∃ t, exec (.slotRetired slot) s = .next t ∧ t.slState slot = 0 ∧ t.slot slot = ModelSlot.init) ∧
    (∀ who slot shard gs, s.memOpen who = true → whoAdmin who = true → (s.slot slot).refetchGens shard = gs →
      ∃ t, exec (.shardRefetch who slot shard) s = .next t ∧ t.rd PRT_REFETCH_CNT.V = (s.rd PRT_REFETCH_CNT.V + gs.length) % 2 ^ 64 ∧
        (∀ g ∈ gs, (((t.slot slot).gen g.man.generation).map fun x => ((x.shard shard).valid, (x.shard shard).dropped, (x.shard shard).tries)) = some (false, false, 1)) ∧
        t.outbox = s.outbox ++ gs.map fun _ => .hostRead 0 (s.rd PRT_SRC_ADDR.V + 8 * shard) 8) ∧
    (∀ who slot, s.memOpen who = true → whoAdmin who = true → s.slState slot = 4 → s.shardsValid slot = true →
      ∃ t, exec (.releaseHeld who slot) s = .next t ∧ t.slState slot = (match (s.slot slot).cur, (s.slot slot).next with
        | some _, _ => 3
        | none, some g => if s.rd PRT_STAT.LOAD = 3 ∧ s.rd PRT_STAT.SLOT = slot then 1 else s.loadedState g.man
        | none, none => 1)) ∧
    (∀ slot gen shard read g e, s.genOf slot gen = some g → g.man.shards[shard]? = some e → s.on PRT_CTL.SCRUB_EN = true → (g.shard shard).valid = true →
      (g.shard shard).scrubAt ≤ s.rd WDN_ROUND.V → (s.goodShard slot g shard e (e.enc && (g.shard shard).tier == 1) read).isSome = true →
      ∃ t, exec (.shardScrubDue slot gen shard read MemErr.none) s = .next t ∧ t.rd PRT_SCRUB_BYTES.V = (s.rd PRT_SCRUB_BYTES.V + e.size) % 2 ^ 64 ∧
        ((t.genOf slot gen).map fun x => x.shard shard) = some { g.shard shard with scrubAt := s.rd WDN_ROUND.V + 29297 * s.rd PRT_SCRUB_CTL.PERIOD }) ∧
    (∀ row stall owner idx which src, PlaneOwner.src owner idx which = src → stallOk row stall = true → s.planeExists src = true → (s.stall (stallId row stall)).planeReq.length < 4 →
      ∃ t, exec (.planeLoadRequest row stall owner idx which) s = .next t ∧ (t.stall (stallId row stall)).planeReq = (s.stall (stallId row stall)).planeReq ++ [src]) ∧
    (∀ row stall slot gen idx rest p g e b, stallOk row stall = true → 3 ≤ s.stState (stallId row stall) → (s.stall (stallId row stall)).reloads = [] →
      (s.stall (stallId row stall)).planeReq = .stream slot gen idx :: rest → s.emptyPlane (stallId row stall) = some p →
      s.planeEntry slot gen idx = some (g, e) → (g.shard e.shard).valid = true → s.readShard slot g e.shard = some b →
      ∃ t, exec (.planeLoadStart row stall MemErr.none) s = .next t ∧ t.planeState (stallId row stall) p = 1 ∧
        (if p = 0 then (t.stall (stallId row stall)).tag0 else (t.stall (stallId row stall)).tag1) = (nextTag (s.stall (stallId row stall)).planeCnt).2 ∧
        (t.stall (stallId row stall)).planeReq = rest ∧
        (if p = 0 then (t.stall (stallId row stall)).plane0 else (t.stall (stallId row stall)).plane1) = some (.stream slot gen idx) ∧
        (if p = 0 then (t.stall (stallId row stall)).ram0 else (t.stall (stallId row stall)).ram1) = .stream e b) ∧
    (∀ row stall q layer block which rest p, stallOk row stall = true → 3 ≤ s.stState (stallId row stall) → (s.stall (stallId row stall)).reloads = [] →
      (s.stall (stallId row stall)).planeReq = .attn q layer block which :: rest → s.emptyPlane (stallId row stall) = some p →
      (s.seq q).live = true → s.badPage (s.blockIds q layer block) = none →
      ∃ t, exec (.planeLoadStart row stall MemErr.none) s = .next t ∧ t.planeState (stallId row stall) p = 1 ∧ (t.stall (stallId row stall)).planeReq = rest ∧
        (if p = 0 then (t.stall (stallId row stall)).ram0 else (t.stall (stallId row stall)).ram1) = .attention (s.blockPages q layer block) which) ∧
    (∀ row stall err, stallOk row stall = true → 3 ≤ s.stState (stallId row stall) →
      ((s.stall (stallId row stall)).reloads ≠ [] ∨ (s.stall (stallId row stall)).planeReq ≠ []) → s.emptyPlane (stallId row stall) = none →
      s.planesTaken (stallId row stall) = true →
      ∃ t, exec (.planeLoadStart row stall err) s = .next t ∧ t.on STL_ERR.PORTER_WR (stallId row stall) = true ∧ t.stall (stallId row stall) = s.stall (stallId row stall)) ∧
    (∀ row stall plane, stallOk row stall = true → plane < 2 → s.planeState (stallId row stall) plane = 1 →
      ∃ t, exec (.planeLoadDone row stall plane) s = .next t ∧ t.planeState (stallId row stall) plane = 2 ∧
        t.planeTag (stallId row stall) plane = (if plane = 0 then (s.stall (stallId row stall)).tag0 else (s.stall (stallId row stall)).tag1) % 2 ^ 16 ∧
        t.rd PRT_PLANE_LOAD_CNT.V = (s.rd PRT_PLANE_LOAD_CNT.V + 1) % 2 ^ 64)

/-- Decode attention of a running position by a house that is awake, its pages sound, no page pinned to the limit and no narrow page under KV_STRICT, stages the position's key and value, counts it outside prefill, answers its output and leaves every page as it was; with an output's gradient, for a tuning job, it answers the gradients and changes no sequence. The state that the results of a block's K strike and two V strikes give joins a running prefill chunk's merges. A page list that comes to name a page adds it and raises its REF, below 65,535; at the limit the change is flagged and a private copy takes its place; a list that names it no longer lets REF fall. PIN rises and falls by one; at the limit a pin is flagged and waits until one drops; a page whose REF and PIN both fall to zero is released and counted. A victim at its boundary is parked when the registered store room of its function has room: its pages, as KV4 with PARK_NARROW, become its image, whose granules lie in the room and count as used; without room it is flagged and ends. The oldest parked sequence is resumed when its need fits: its pages return, its store room is freed, and it becomes active at the next step marker. KV_SLOT_CFG takes its fields while the slot is not READY, a reserved QFMT keeping the old value, and FRESH_ATTN only with KVFMT 5 and at most 8 heads. -/
def Obligations.KeyValueCommandsComplete : Prop :=
  ∀ (s : State),
    (∀ q layer pos query key value, (s.seq q).live = true → (s.seq q).phase = .running → (s.seq q).first ≤ pos → pos < (s.seq q).first + (s.seq q).width →
      layer < s.kvLayers (s.seq q).slot → s.rd WH_STAT.STATE (s.attnHouse (s.seq q)) ≠ 3 → s.houseAsleep (s.seq q).wh = false →
      (∀ id ∈ (((s.seq q).lists.getD layer []).take (pos / 64 + 1)), (s.page id).bad = [] ∧ 1 ≤ (s.page id).ref ∧ (s.page id).pin < 65535 ∧ (s.page id).pinWait = 0 ∧
        pageCodeOk (s.page id).format = true) →
      ((∀ g, s.genOf (s.seq q).slot (s.seq q).gen = some g → g.man.kvStrict = false) ∨
        ∀ id ∈ (((s.seq q).lists.getD layer []).take (pos / 64 + 1)), queryBits (s.rd KV_SLOT_CFG.QFMT (s.seq q).slot) ≤ pageBits (s.page id).format) →
      ∃ t out, exec (.decodeAttention q layer pos query key value ⟨MemErr.none, [], [], none⟩) s = .next t ∧
        (t.seq q).staged = ((s.seq q).staged.filter fun x => !(x.layer == layer && x.pos == pos)) ++ [⟨layer, pos, key, value⟩] ∧
        t.outbox = s.outbox ++ [.attention (s.attnHouse (s.seq q)) q layer pos out] ∧ (∀ id, t.page id = s.page id) ∧
        t.rd WH_DEC_CNT.V (s.attnHouse (s.seq q)) = (s.rd WH_DEC_CNT.V (s.attnHouse (s.seq q)) + ofBool (!(s.seq q).prefill)) % 2 ^ 64) ∧
    (∀ q layer pos query key value dO, (s.seq q).live = true → (s.seq q).job.isSome = true → pos < max (s.seq q).pos ((s.seq q).first + (s.seq q).width) →
      layer < s.kvLayers (s.seq q).slot → s.rd WH_STAT.STATE (s.attnHouse (s.seq q)) ≠ 3 → s.houseAsleep (s.seq q).wh = false →
      (∀ id ∈ (((s.seq q).lists.getD layer []).take (pos / 64 + 1)), (s.page id).bad = [] ∧ 1 ≤ (s.page id).ref ∧ (s.page id).pin < 65535 ∧ (s.page id).pinWait = 0 ∧
        pageCodeOk (s.page id).format = true) → s.strictSeq (s.seq q) = false →
      ∃ t dq dkv, exec (.decodeAttention q layer pos query key value ⟨MemErr.none, [], [], some dO⟩) s = .next t ∧
        t.outbox = s.outbox ++ [.attnGrad (s.attnHouse (s.seq q)) q layer pos dq dkv] ∧ t.seq q = s.seq q ∧ (∀ id, t.page id = s.page id)) ∧
    (∀ q layer pos head kv block row k v0 v1 ks xs ys, (s.seq q).live = true → (s.seq q).phase = .running → (s.seq q).prefill = true →
      s.freshAttn (s.seq q) = true → 1024 * (block + 1) ≤ (s.seq q).first → s.attnRes row k = some ks → s.attnRes row v0 = some xs → s.attnRes row v1 = some ys →
      s.houseAsleep (s.seq q).wh = false → (∀ id ∈ s.blockIds q layer block, (s.page id).bad = [] ∧ (s.page id).pin < 65535) →
      ∃ t, exec (.freshBlockMerge q layer pos head kv block row k (v0, v1)) s = .next t ∧
        (t.seq q).merges = (s.seq q).merges ++ [(layer, pos, head, block,
          blockState probLoop (s.blockPages q layer block) kv ks ((xs.drop (128 * kv)).take 128) ((ys.drop (128 * kv)).take 128))] ∧
        t.rd WH_MERGE_CNT.V (s.attnHouse (s.seq q)) = (s.rd WH_MERGE_CNT.V (s.attnHouse (s.seq q)) + 1) % 2 ^ 64) ∧
    (∀ id q l, (s.page id).live = true → s.listOf q (s.page id) = some l →
      ((s.page id).ref < 65535 → ∃ t, exec (.pageManagerChange id (.refUp q)) s = .next t ∧ t.page id = { s.page id with ref := (s.page id).ref + 1 } ∧
        (t.seq q).lists.getD (s.page id).layer [] = l ++ [id] ∧
        FMap.get 0 t.sched.arrivals (s.page id).home = FMap.get 0 s.sched.arrivals (s.page id).home + 1) ∧
      (65535 ≤ (s.page id).ref → ∃ t, exec (.pageManagerChange id (.refUp q)) s = .next t ∧ t.on KV_ERR.REF_SAT = true ∧
        ∀ n s1, s.sharePage q id = some (n, s1) → (t.seq q).lists.getD (s.page id).layer [] = l ++ [n]) ∧
      (l.contains id = true → ∃ t, exec (.pageManagerChange id (.refDown q)) s = .next t ∧ (t.seq q).lists.getD (s.page id).layer [] = l.erase id ∧
        (if (s.page id).ref ≤ 1 ∧ (s.page id).pin = 0 then t.page id = Page.init ∧ t.rd KV_RELEASE_CNT.V = (s.rd KV_RELEASE_CNT.V + 1) % 2 ^ 64
         else t.page id = { s.page id with ref := (s.page id).ref - 1 } ∧ t.rd KV_RELEASE_CNT.V = s.rd KV_RELEASE_CNT.V))) ∧
    (∀ id, (s.page id).live = true →
      (65535 ≤ (s.page id).pin → ∃ t, exec (.pageManagerChange id .pinUp) s = .next t ∧ t.on KV_ERR.PIN_SAT = true ∧
        t.page id = { s.page id with pinWait := (s.page id).pinWait + 1 }) ∧
      ((s.page id).pin < 65535 → ∃ t, exec (.pageManagerChange id .pinUp) s = .next t ∧ t.page id = { s.page id with pin := (s.page id).pin + 1 }) ∧
      ((s.page id).pinWait ≠ 0 → 0 < (s.page id).pin → ∃ t, exec (.pageManagerChange id .pinDown) s = .next t ∧ t.page id = { s.page id with pinWait := (s.page id).pinWait - 1 }) ∧
      ((s.page id).pinWait = 0 → ∃ t, exec (.pageManagerChange id .pinDown) s = .next t ∧
        (if (s.page id).ref = 0 ∧ (s.page id).pin ≤ 1 then t.page id = Page.init ∧ t.rd KV_RELEASE_CNT.V = (s.rd KV_RELEASE_CNT.V + 1) % 2 ^ 64
         else t.page id = { s.page id with pin := (s.page id).pin - 1 } ∧ t.rd KV_RELEASE_CNT.V = s.rd KV_RELEASE_CNT.V))) ∧
    (∀ q pages need, (s.seq q).live = true → (s.seq q).active = true → (s.seq q).parkDue = true → (s.seq q).phase = .idle → (s.seq q).recs = [] →
      (s.seq q).inStep = false → s.badPage (s.seq q).lists.flatten = none →
      (s.seq q).lists.map (fun l => l.map fun id => if s.on KV_CTL.PARK_NARROW then ((s.page id).toKv4 (s.rd KV_CTL.KV4_HEAD)).1 else s.page id) = pages →
      parkGranules (s.kvHeads (s.seq q).slot) pages.flatten = need →
      (s.roomFit (s.seq q).func need = none → ∃ t, exec (.parkSequence q) s = .next t ∧ t.on KV_ERR.PARK_FAIL = true ∧ ((s.seq q).job = none → (t.seq q).live = false)) ∧
      ∀ gs, s.roomFit (s.seq q).func need = some gs → (∀ b n, (s.func (s.seq q).func).room = some (b, n) →
          ∀ a ∈ s.roomAddrs (s.seq q).func gs, b ≤ a ∧ a + 65536 ≤ b + 65536 * n) ∧
      ∃ t, exec (.parkSequence q) s = .next t ∧ (t.seq q).active = false ∧ (t.seq q).parkDue = false ∧ (t.seq q).lists = [] ∧
        (t.seq q).image = some (pages, need) ∧ (t.seq q).imageAt = gs ∧
        t.rd TEN_STORE_STAT.USED (s.seq q).func = (s.rd TEN_STORE_STAT.USED (s.seq q).func + need) % 2 ^ 32 ∧
        t.rd KV_PARK_CNT.V = (s.rd KV_PARK_CNT.V + 1) % 2 ^ 64 ∧ t.outbox = s.outbox ++ [.storeRoom (s.seq q).func q (s.roomAddrs (s.seq q).func gs) true]) ∧
    (∀ q img g ls s1, (s.seq q).live = true → (s.seq q).image = some (img, g) →
      (s.seq q).waking = false → s.oldestParked (s.seq q) = true →
      s.mayActivate (s.seq q).func 1 = true → s.needFits (s.seq q).func (s.seq q).slot (s.resumeNeed (s.seq q)) = true → s.restorePages q img = some (ls, s1) →
      ∃ t, exec (.resumeSequence q true true) s = .next t ∧ (t.seq q).lists = ls ∧ (t.seq q).image = none ∧ (t.seq q).waking = true ∧
        (t.seq q).resumed = true ∧ t.pages = s1.pages ∧ t.rd TEN_STORE_STAT.USED (s.seq q).func = s.rd TEN_STORE_STAT.USED (s.seq q).func - g ∧
        t.rd KV_RESUME_CNT.V = (s.rd KV_RESUME_CNT.V + 1) % 2 ^ 64) ∧
    (∀ who val m, s.memOpen who = true → whoAdmin who = true → s.rd KV_SLOT_SEL.SLOT = m → s.slState m ≤ 2 →
      (∀ g, (s.slot m).next = some g → g.man.kvStrict = false) →
      ∃ t, exec (.kvSlotCfgWrite who val) s = .next t ∧ t.rd KV_SLOT_CFG.KVFMT m = bitsOf val 4 3 ∧ t.rd KV_SLOT_CFG.KVH_M1 m = bitsOf val 16 4 ∧
        t.rd KV_SLOT_CFG.LAYERS m = bitsOf val 24 8 ∧ t.on KV_SLOT_CFG.INDEX m = bitAt val 9 ∧
        t.rd KV_SLOT_CFG.QFMT m = (if bitsOf val 0 3 ≤ 2 then bitsOf val 0 3 else s.rd KV_SLOT_CFG.QFMT m) ∧
        t.on KV_SLOT_CFG.FRESH_ATTN m = (bitAt val 8 && bitsOf val 4 3 == 5 && decide (bitsOf val 16 4 ≤ 7)))

/-- A seal of a free slot by a function in service makes it TAKEN, its TICKET and its order of arrival kept, and counts; one whose OP is not defined is refused in its turn, at once when no earlier slip waits. The slip next in order, its checks passed, is accepted (STATE 2): GENERATE admits a sequence bound to the CURRENT generation, in the home quarter and weigh house of R229, active at once when it is a walk-up, with the pages of a shared prefix; CANCEL ends its target, at once at a boundary, else at the next; STREAM_OPEN opens the stream with its clock, slot and stalls; FRAME queues a frame released at the next tick; STREAM_CLOSE closes the stream, ended when no frame is left; TUNE reads its sample table, whose entries meet their rules, and opens the job. -/
def Obligations.SlipCommandsComplete : Prop :=
  ∀ (s : State) (f n : Nat),
    (∀ val, f < 64 → n < 256 → val < 2 ^ 64 → s.memOpen (.func f) = true → (s.oslot f n).state ≠ 1 → bitsOf val 56 8 = 0xA5 → s.takesWork = true →
      s.on HOST_FN_STAT.FENCED f = false → s.on HOST_FN_STAT.D3 f = false →
      ∃ t, exec (.slipSeal f n val) s = .next t ∧ t.rd SRV_SLIP_CNT.V = (s.rd SRV_SLIP_CNT.V + 1) % 2 ^ 64 ∧ t.sched.seals = s.sched.seals + 1 ∧
        (t.oslot f n).ticket = bitsOf val 0 32 ∧ (t.oslot f n).order = s.sched.seals ∧ (t.oslot f n).body = (s.oslot f n).body ∧
        (t.oslot f n).badSeal = (bitsOf val 32 24 != 0) ∧
        (if 1 ≤ leAt (s.oslot f n).bytes 0 1 ∧ leAt (s.oslot f n).bytes 0 1 ≤ 6 then (t.oslot f n).state = 1
         else (s.firstTaken = none → (t.oslot f n).state = 3 ∧ (t.oslot f n).reason = (if s.sessionOk f (s.oslot f n).bytes then 1 else 14)) ∧
          (∀ p, s.firstTaken = some p → (s.oslot p.1 p.2).opKnown = true → (s.oslot p.1 p.2).order < s.sched.seals → (t.oslot f n).state = 1))) ∧
    (∀ b vocab crierVocab q, s.taken f n 1 = some b → s.genReason f n b vocab crierVocab = 0 →
      (if slipFlag b 0 then s.admittedCount < 4096 ∧ s.mayActivate f 1 = true ∧ s.needFits f (leAt b 1 1) (s.needPages (leAt b 1 1) (leAt b 8 4)) = true else s.mayAdmit f 1 = true) →
      FMap.freshKey s.seqs 0 4096 = some q →
      ∃ t, exec (.generate f n vocab crierVocab) s = .next t ∧ (t.oslot f n).state = 2 ∧ t.roll (reqKey f (s.oslot f n).ticket) = rollOf f (s.oslot f n).ticket b ∧
        (t.seq q).live = true ∧ (t.seq q).func = f ∧ (t.seq q).ticket = (s.oslot f n).ticket ∧ (t.seq q).slot = leAt b 1 1 ∧
        (t.seq q).gen = (((s.slot (leAt b 1 1)).cur).map fun g => g.man.generation).getD 0 ∧ (t.seq q).active = slipFlag b 0 ∧ (t.seq q).phase = .idle ∧
        (t.seq q).promptLen = leAt b 8 4 ∧ (t.seq q).maxNew = leAt b 0xC 4 ∧ (t.seq q).home = s.homeQuarter (leAt b 1 1) ∧
        (t.seq q).wh = s.pickHouse (s.homeQuarter (leAt b 1 1)) ∧ (slipFlag b 4 = false → (t.seq q).pos = 0 ∧ (t.seq q).lists = []) ∧
        (∀ src ids, slipFlag b 4 = true → s.seqOf f (leAt b 0x48 4) = some src → (s.seq src).lists.map (fun l => l.take (leAt b 0x4C 4 / 64)) = ids →
          (∀ id ∈ ids.flatten, (s.page id).ref + ids.flatten.length ≤ 65535) → (t.seq q).pos = leAt b 0x4C 4 ∧ (t.seq q).lists = ids)) ∧
    (∀ b q, s.taken f n 2 = some b → slipGood s f n b → zeroBytes b 1 4 = true → zeroBytes b 6 8 = true → zeroBytes b 0xC 0xF8 = true →
      s.seqOf f (leAt b 8 4) = some q →
      ∃ t, exec (.cancel f n) s = .next t ∧ (t.oslot f n).state = 2 ∧
        (if (s.seq q).active = false ∨ ((s.seq q).phase = .idle ∧ (s.seq q).recs = []) then (t.seq q).live = false
         else (t.seq q).endAs = some ((s.seq q).endAs.getD 8))) ∧
    (∀ b, s.taken f n 3 = some b → slipGood s f n b → leAt b 1 1 < 16 → leAt b 8 1 < 16 → leAt b 9 1 < 2 → 1 ≤ leAt b 0xA 1 → leAt b 0xA 1 ≤ 16 →
      (leAt b 9 1 = 1 → 1000 ≤ leAt b 0xC 4 ∧ leAt b 0xC 4 ≤ 1000000) → zeroBytes b 2 4 = true → zeroBytes b 6 8 = true → zeroBytes b 0xB 0xC = true →
      zeroBytes b 0x10 0x18 = true → zeroBytes b 0x2D 0x30 = true → zeroBytes b 0x34 0xF8 = true → slipRoll b → s.slState (leAt b 1 1) = 3 →
      s.rd SRV_PACE_STAT.STATE (leAt b 8 1) = 0 → (∀ j, j < 16 → s.rd SRV_PACE_STAT.STATE j = 0 ∨ s.rd SRV_PACE_STAT.SLOT j ≠ leAt b 1 1) →
      100 * (slipStalls s (leAt b 1 1)).length ≤ 6144 * s.rd SRV_PACE_MAX.PCT →
      ∃ t, exec (.streamOpen f n) s = .next t ∧ (t.oslot f n).state = 2 ∧ t.rd SRV_PACE_STAT.STATE (leAt b 8 1) = 1 ∧
        t.rd SRV_PACE_STAT.CLOCK (leAt b 8 1) = leAt b 9 1 ∧ t.rd SRV_PACE_STAT.SLOT (leAt b 8 1) = leAt b 1 1 ∧ t.rd SRV_PACE_STAT.TICKS (leAt b 8 1) = 0 ∧
        (t.pace (leAt b 8 1)).stalls = s.slotStalls (leAt b 1 1) ∧ (t.pace (leAt b 8 1)).frames = [] ∧ (t.pace (leAt b 8 1)).deadline = leAt b 0xA 1 ∧
        (t.pace (leAt b 8 1)).period = (if leAt b 9 1 = 1 then 25 * leAt b 0xC 4 else 0)) ∧
    (∀ b, s.taken f n 4 = some b → slipGood s f n b → leAt b 9 1 < 2 → leAt b 0x10 8 % 64 = 0 → leAt b 0x18 8 % 64 = 0 → zeroBytes b 1 4 = true →
      zeroBytes b 6 8 = true → zeroBytes b 0xA 0xC = true → zeroBytes b 0x20 0xF8 = true → s.streamOpen f (leAt b 8 1) = true →
      s.slState (s.rd SRV_PACE_STAT.SLOT (leAt b 8 1)) = 3 → (s.pace (leAt b 8 1)).frames.length < 8 →
      ∃ t, exec (.frame f n) s = .next t ∧ (t.oslot f n).state = 2 ∧ t.rd SRV_PACE_STAT.QUEUED (leAt b 8 1) = (s.pace (leAt b 8 1)).frames.length + 1 ∧
        (t.pace (leAt b 8 1)).frames = (s.pace (leAt b 8 1)).frames ++
          [⟨leAt b 0xC 4, leAt b 0x10 8, leAt b 0x18 8, leAt b 9 1, (s.pace (leAt b 8 1)).ticks + 1, 0⟩]) ∧
    (∀ b, s.taken f n 5 = some b → slipGood s f n b → zeroBytes b 1 4 = true → zeroBytes b 6 8 = true → zeroBytes b 9 0xF8 = true →
      s.streamOpen f (leAt b 8 1) = true →
      ∃ t, exec (.streamClose f n) s = .next t ∧ (t.oslot f n).state = 2 ∧
        (if (s.pace (leAt b 8 1)).frames = [] then t.rd SRV_PACE_STAT.STATE (leAt b 8 1) = 0 ∧ t.pace (leAt b 8 1) = Pace.init
         else t.rd SRV_PACE_STAT.STATE (leAt b 8 1) = 2)) ∧
    (∀ b g v (x : TuneIn), s.taken f n 6 = some b → slipGood s f n b → tuneFields b = true → slipRoll b → s.slState (leAt b 1 1) = 3 → s.kvLayers (leAt b 1 1) ≠ 0 →
      (s.slot (leAt b 1 1)).cur = some g → (s.adapter (leAt b 6 2)).cur = some v → v.modelId = g.man.modelId → v.owner = f →
      (∀ e ∈ g.man.shards, e.hasExpert = false) → (∀ r ∈ g.man.reductions, r.outDev = 0xFF ∧ ∀ d ∈ r.partDev, d = 0xFF) → (s.tune f).live = false →
      transposesOk g.man x.between = true → (∀ e ∈ x.samples, Sample.ok (leAt b 0x40 4) e = true) → s.mayAdmit f (leAt b 0xC 2) = true →
      ∃ t, exec (.tune f n x) s = .next t ∧ .hostRead f (leAt b 0x10 8) (16 * x.samples.length) ∈ t.outbox ∧ (t.oslot f n).state = 2 ∧ (t.tune f).live = true ∧ (t.tune f).ticket = (s.oslot f n).ticket ∧
        (t.tune f).slot = leAt b 1 1 ∧ (t.tune f).adapter = leAt b 6 2 ∧ (t.tune f).samples = leAt b 8 4 ∧ (t.tune f).batch = leAt b 0xC 2 ∧
        (t.tune f).maxLen = leAt b 0x40 4 ∧ (t.tune f).round = 0)

/-- The oldest admitted sequence that may become active and whose need fits becomes active. A step starts with every sequence that can take part after its marker, and the step counter advances; with none, an empty step advances it once TARGET_US has passed. A step ends when its sequences have: its duration is recorded, D falls by a sixteenth when it was too long (not below MIN_CEIL), rises by one when it was short and work waits, and the chunk halves when a long step held prefill and doubles after 16 good steps. A WIDE_STORM halves CUR of every function with an active sequence on a stall it names; after 1,024 steps without one CUR doubles, up to BASE. A position, chunk or verify pass starts with its pages, and with the experts that its router chose and the slot does not mask; at its end the chosen tokens become its records; a verify pass counts its drafts and what it accepts, and doubles or halves L; after a pause L is 1. A commit writes the position's entries to its pages and moves the position on; the last record of a request frees its sequence. Writes of SRV_FUNC_CEIL take BASE, and CUR with it, and ADMIT under their ranges. -/
def Obligations.SchedulerCommandsComplete : Prop :=
  ∀ (s : State),
    (∀ q, (s.seq q).live = true → (s.seq q).active = false → (s.seq q).waking = false → (s.seq q).image = none →
      s.oldestParked (s.seq q) = true →
      s.mayActivate (s.seq q).func 1 = true → s.needFits (s.seq q).func (s.seq q).slot (s.needPages (s.seq q).slot (s.seq q).promptLen) = true →
      ∃ t, exec (.sequenceActivate q) s = .next t ∧ t.seq q = { s.seq q with active := true }) ∧
    (s.sched.running = false → s.takesWork = true → (s.mark.seqs.any fun e => s.mark.canRun e.2) = true →
      ∃ t, exec .stepStart s = .next t ∧ t.sched.running = true ∧ t.sched.startAt = s.now ∧ t.rd SRV_STEP_CNT.V = (s.rd SRV_STEP_CNT.V + 1) % 2 ^ 64 ∧
        t.seqs = s.mark.seqs.map fun e => if s.mark.canRun e.2 then (e.1, { e.2 with inStep := true }) else e) ∧
    (s.sched.running = false → s.takesWork = true → (s.seqs.any fun e => s.canRun e.2) = false →
      s.sched.startAt + 25 * s.rd SRV_STEP_TARGET.TARGET_US ≤ s.now →
      ∃ t, exec .emptyStep s = .next t ∧ t.sched.running = false ∧ t.sched.startAt = s.now ∧ t.rd SRV_STEP_CNT.V = (s.rd SRV_STEP_CNT.V + 1) % 2 ^ 64) ∧
    (∀ dur target, s.sched.running = true → s.countSeqs (fun x => x.inStep) = 0 → s.now - s.sched.startAt = dur → 25 * s.rd SRV_STEP_TARGET.TARGET_US = target →
      ∃ t, exec .stepEnd s = .next t ∧ t.sched.running = false ∧ t.rd SRV_STEP_LAST.V = dur % 2 ^ 64 ∧
        t.ceilD = (if target < dur then max (s.rd SRV_STEP_TARGET.MIN_CEIL) (s.ceilD - (s.ceilD + 15) / 16)
          else if dur * 10 < target * 9 ∧ (∃ e ∈ s.seqs, e.2.live = true ∧ e.2.active = false ∧ e.2.waking = false) then min 512 (s.ceilD + 1) else s.ceilD) ∧
        t.rd SRV_STAT.CUR_CHUNK = (if target < dur then (if s.sched.prefill then max 64 (s.rd SRV_STAT.CUR_CHUNK / 2) else s.rd SRV_STAT.CUR_CHUNK)
          else if s.sched.good = 15 then min (s.rd SRV_CTL.CHUNK) (2 * s.rd SRV_STAT.CUR_CHUNK) else s.rd SRV_STAT.CUR_CHUNK)) ∧
    (∀ row, rowOk row = true → (s.row row).stormNew = true →
      ∃ t, exec (.stormCeilingLower row) s = .next t ∧ (t.row row).stormNew = false ∧
        ∀ f, f < 64 → (stormLowers s row f → t.cur f = max 1 (s.cur f / 2)) ∧ (¬ stormLowers s row f → t.cur f = s.cur f)) ∧
    (∀ slot, s.sched.lowered.Nodup → (∀ p ∈ s.sched.lowered, p.1 < 64) → FMap.get 0 s.sched.slotStorm slot + 1024 ≤ s.rd SRV_STEP_CNT.V + 1 →
      (∃ f, (f, slot) ∈ s.sched.lowered) →
      ∃ t, exec (.stormCeilingRestore slot) s = .next t ∧
        ∀ f, f < 64 → t.cur f = (if (f, slot) ∈ s.sched.lowered then min (s.rd SRV_FUNC_CEIL.BASE f) (2 * s.cur f) else s.cur f)) ∧
    (∀ q toks vocab save routes pre width l s1 s2, (s.seq q).live = true → (s.seq q).inStep = true → (s.seq q).phase = .idle → s.takesWork = true →
      (s.seq q).redoFrom = none → s.placeOpen (s.seq q) = true → (pre = true → s.chunkTurn (s.seq q) = true) → s.houseAsleep (s.seq q).wh = false →
      s.badPage (s.copied q) = none →
      decide ((s.seq q).pos < (s.seq q).promptLen) = pre → (if pre then 0 else s.fitDraft q (s.seq q).pos (s.specNow (s.seq q))) = l →
      (if pre then min (s.rd SRV_STAT.CUR_CHUNK) ((s.seq q).promptLen - (s.seq q).pos) else l + 1) = width →
      (pre = true → ∀ t ∈ toks, t < vocab) →
      ((if pre then s.send (.hostRead (s.seq q).func ((s.seq q).promptAddr + 4 * (s.seq q).pos)
          (4 * (if (s.seq q).job.isSome then min (width + 1) ((s.seq q).promptLen - (s.seq q).pos) else width))) else s).modSeq q fun y =>
        { y with save := save, promptFails := 0, tune := if y.job.isSome then { y.tune with toks := y.tune.toks.take y.pos ++ toks } else y.tune }).bindRound q = some s1 →
      (s1.copyOnWrite q (s.seq q).pos).bind (fun u => u.growTo q (s.seq q).pos width) = some s2 →
      ∃ t, exec (.positionStart q toks vocab save routes) s = .next t ∧ (t.seq q).phase = .running ∧ (t.seq q).first = (s.seq q).pos ∧
        (t.seq q).width = width ∧ (t.seq q).prefill = pre ∧ (t.seq q).drafts = l ∧ (t.seq q).lists = (s2.seq q).lists ∧ (t.seq q).recs = [] ∧ (t.seq q).staged = [] ∧
        ((∀ g, ((s.slot (s.seq q).slot).gen (s.seq q).gen) = some g → g.man.fence = false) →
          (t.seq q).chose = (sortBy (fun a b => decide (a.1 * 65536 + a.2.1 ≤ b.1 * 65536 + b.2.1))
            (routes.filter fun r => !s.expertMasked (s.seq q).slot r.1 r.2.1)).map fun r => (r.1, r.2.1))) ∧
    (∀ q logits kv e, (s.seq q).live = true → (s.seq q).phase = .running → (s.seq q).drafts = 0 → (s.seq q).redoFrom = none → s.dispatchesDone q = true → e.norms = 0 →
      ((s.seq q).job.isSome = true ∧ (s.seq q).lossPositions = [] ∨ (s.seq q).job = none ∧ (s.seq q).prefill = true ∧ (s.seq q).first + (s.seq q).width < (s.seq q).promptLen ∨
        logitsBad logits = false) →
      ∃ t, exec (.positionEnd q logits kv e) s = .next t ∧ (t.seq q).phase = .ended ∧ (t.seq q).inStep = false ∧
        (t.seq q).staged = (s.seq q).staged ++ kvToks kv ∧
        (t.seq q).recs = (if (s.seq q).job.isSome = true ∨ ((s.seq q).prefill = true ∧ (s.seq q).first + (s.seq q).width < (s.seq q).promptLen) then []
          else tokenRecs (s.seq q) (s.seq q).gen ((s.seq q).first + (if (s.seq q).prefill then (s.seq q).width else 1)) (s.seq q).generated
            [(chooseToken ⟨(s.seq q).temp, (s.seq q).topP, (s.seq q).topK, (s.seq q).seed⟩ ((s.seq q).first + (if (s.seq q).prefill then (s.seq q).width else 1)) 0 logits,
              false, logits)])) ∧
    (∀ q crier main out j, (s.seq q).live = true → (s.seq q).phase = .running → (s.seq q).drafts ≠ 0 → (s.seq q).redoFrom = none →
      s.slState (s.seq q).crier = 3 → crier.length = (s.seq q).drafts → main.main.length = (s.seq q).drafts + 1 → main.norms = 0 → s.dispatchesDone q = true →
      (out.any fun t => logitsBad t.2.2) = false →
      verifyFrom ⟨(s.seq q).temp, (s.seq q).topP, (s.seq q).topK, (s.seq q).seed⟩ (s.seq q).reject (s.seq q).first 1 crier main.main = out →
      (out.filter fun t => t.2.1).length = j →
      ∃ t, exec (.verifyPass q crier main) s = .next t ∧ (t.seq q).phase = .ended ∧
        (t.seq q).recs = tokenRecs (s.seq q) (s.seq q).gen ((s.seq q).first + (if (s.seq q).prefill then (s.seq q).width else 1)) (s.seq q).generated out ∧
        (t.seq q).draft = (if j = (s.seq q).drafts then min (s.seq q).maxDraft (2 * (s.seq q).draft) else if j = 0 then (s.seq q).draft / 2 else (s.seq q).draft) ∧
        t.rd SRV_DRAFT_CNT.V = (s.rd SRV_DRAFT_CNT.V + (s.seq q).drafts) % 2 ^ 64 ∧ t.rd SRV_ACCEPT_CNT.V = (s.rd SRV_ACCEPT_CNT.V + j) % 2 ^ 64) ∧
    (∀ q, (s.seq q).live = true → (s.seq q).pauseTo ≠ 0 → (s.seq q).pauseTo < s.rd SRV_STEP_CNT.V →
      ∃ t, exec (.specPauseEnd q) s = .next t ∧ t.seq q = { s.seq q with pauseTo := 0, draft := 1 }) ∧
    (∀ q, (s.seq q).live = true → (s.seq q).phase = .ended → s.checked q = true → s.takesWork = true →
      ∃ t, exec (.positionCommit q []) s = .next t ∧
        (((s.seq q).recs.any fun r => r.last) = true → t.seq q = Seq.init) ∧
        (((s.seq q).recs.any fun r => r.last) = false → (s.seq q).endAs = none → (s.seq q).parkDue = false → (s.seq q).job = none →
          (t.seq q).phase = .idle ∧ (t.seq q).pos = (s.seq q).first + (s.seq q).keep ∧ (t.seq q).generated = (s.seq q).generated + (s.seq q).recs.length ∧
          (t.seq q).recs = [] ∧ (t.seq q).staged = [] ∧
          t.pages = ((List.range ((s.seq q).keep * s.kvLayers (s.seq q).slot)).foldl (fun u i =>
            u.writePos q (i % s.kvLayers (s.seq q).slot) ((s.seq q).first + i / s.kvLayers (s.seq q).slot)) s).pages)) ∧
    (∀ who val f, s.memOpen who = true → whoAdmin who = true → s.rd SRV_FUNC_SEL.FUNC = f →
      ∃ t, exec (.funcCeilWrite who val) s = .next t ∧
        (if 1 ≤ bitsOf val 0 10 ∧ bitsOf val 0 10 ≤ 512 then t.rd SRV_FUNC_CEIL.BASE f = bitsOf val 0 10 ∧ t.cur f = bitsOf val 0 10
         else t.rd SRV_FUNC_CEIL.BASE f = s.rd SRV_FUNC_CEIL.BASE f ∧ t.cur f = s.cur f) ∧
        t.rd SRV_FUNC_CEIL.ADMIT f = (if 1 ≤ bitsOf val 16 13 ∧ bitsOf val 16 13 ≤ 4096 then bitsOf val 16 13 else s.rd SRV_FUNC_CEIL.ADMIT f))

/-- A roll whose oldest record not yet signalled has waited MOD_US sends its message; a read of RIDX that shows room for the one waiting record has it written at its place, then WIDX, and one that shows none makes the roll full, counted the first time, and is repeated 1,000 cycles later. A full roll that no sequence waits on is not counted. FRAME_IN ticks every open stream of its clock and no other; a period ticks its stream. The oldest checked frame of the stream whose deadline comes first, a tie going to the lower stream, completes: its output leaves, it is taken off the queue, and it is late when its deadline tick was counted before it. Without messages enabled, or in D3, the moderation time sends nothing and counts nothing. -/
def Obligations.RollAndStreamCommandsComplete : Prop :=
  ∀ (s : State),
    (∀ f ticket, (s.roll (reqKey f ticket)).unsig ≠ 0 → (s.roll (reqKey f ticket)).since + 25 * (s.roll (reqKey f ticket)).modUs ≤ s.now →
      ∃ t, exec (.msiModerationTimeout f ticket) s = .next t ∧
        (s.msiOn (s.roll (reqKey f ticket)).func = true → (t.roll (reqKey f ticket)).unsig = 0 ∧ t.rd SRV_MSI_CNT.V = (s.rd SRV_MSI_CNT.V + 1) % 2 ^ 64) ∧
        (s.msiOn (s.roll (reqKey f ticket)).func = false → t = s)) ∧
    (∀ f ticket ridx r, s.roll (reqKey f ticket) = r → r.pollAt ≤ s.now → ridx < 2 ^ 64 →
      (∀ w, r.backlog = [w] → w.last = false → ridx ≤ r.written → r.written - ridx < r.len →
        ∃ t more, exec (.rollRidxPoll f ticket ridx) s = .next t ∧ (t.roll (reqKey f ticket)).written = r.written + 1 ∧
          (t.roll (reqKey f ticket)).backlog = [] ∧ (t.roll (reqKey f ticket)).full = false ∧
          t.outbox = s.outbox ++ [.hostWrite r.func (r.addr + 16 * (r.written % r.len)) (r.bytes r.written w),
            .hostWrite r.func r.widx (leBytes 8 (r.written + 1))] ++ more) ∧
      (r.backlog ≠ [] → r.written < ridx ∨ r.len ≤ r.written - ridx →
        ∃ t, exec (.rollRidxPoll f ticket ridx) s = .next t ∧ (t.roll (reqKey f ticket)).backlog = r.backlog ∧ (t.roll (reqKey f ticket)).full = true ∧
          (t.roll (reqKey f ticket)).pollAt = s.now + 1000 ∧
          t.rd SRV_ROLL_FULL_CNT.V = (s.rd SRV_ROLL_FULL_CNT.V +
            (if r.full = false ∧ ∃ e ∈ s.seqs, e.2.live = true ∧ e.2.job = none ∧ reqKey e.2.func e.2.ticket = reqKey f ticket then 1 else 0)) % 2 ^ 64)) ∧
    (∃ t, exec .frameInEdge s = .next t ∧ ∀ k, k < 16 →
      (t.pace k).ticks = (s.pace k).ticks + (if s.rd SRV_PACE_STAT.STATE k ≠ 0 ∧ s.rd SRV_PACE_STAT.CLOCK k = 0 then 1 else 0)) ∧
    (∀ k, k < 16 → s.rd SRV_PACE_STAT.STATE k ≠ 0 → s.rd SRV_PACE_STAT.CLOCK k = 1 → (s.pace k).openAt + (s.pace k).period * ((s.pace k).ticks + 1) ≤ s.now →
      ∃ t, exec (.framePeriodTick k) s = .next t ∧ (t.pace k).ticks = (s.pace k).ticks + 1 ∧ t.rd SRV_PACE_STAT.TICKS k = ((s.pace k).ticks + 1) % 2 ^ 32 ∧
        (t.pace k).tickAt = (s.pace k).openAt + (s.pace k).period * ((s.pace k).ticks + 1)) ∧
    (∀ k output fr frs, k < 16 → (s.pace k).frames = fr :: frs → s.frameFirst k = true →
      (∀ j, j < 16 → ∀ a b, s.frameSlack k = some a → s.frameSlack j = some b → a < b ∨ a = b ∧ k ≤ j) ∧
      ∃ t more, exec (.frameComplete k output) s = .next t ∧ t.outbox = s.outbox ++ [.hostWrite (s.pace k).func fr.output output] ++ more ∧
        (if s.rd SRV_PACE_STAT.STATE k = 2 ∧ frs = [] then t.pace k = Pace.init ∧ t.rd SRV_PACE_STAT.STATE k = 0
         else (t.pace k).frames = frs ∧ t.rd SRV_PACE_STAT.QUEUED k = frs.length % 2 ^ 4) ∧
        t.rd SRV_LATE_CNT.V = (s.rd SRV_LATE_CNT.V + (if fr.release + (s.pace k).deadline ≤ (s.pace k).ticks - (if (s.pace k).tickAt = s.now then 1 else 0) then 1 else 0)) % 2 ^ 64)

/-- LOAD shows the fetch of an adapter image and its check. An image that passes every check of R311, in order, its SHA-512 digest among them, becomes the next version of its number, current at the next step marker, with the count one higher and LOAD showing so; one whose digest differs is refused with DIGEST. An unload ends the current version's currency: it stays among the old ones while it is referenced, else it retires. A tuning sequence that has run its sample joins its gradients to the round's accumulator and leaves; after the batches of a round the compensated sum of its gradients is written to the buffer of its parity, with its record and the count, and the next round is bound when its first batch begins; with every sample done the job ends. A round that must wait for the record of the round before the last does not end. That ROUND_END carries the ends of samples is the model's choice (log entry 106). -/
def Obligations.AdapterAndTuningCommandsComplete : Prop :=
  ∀ (s : State),
    (∀ who slot image a x g, s.memOpen who = true → whoAdmin who = true → (s.slot slot).cur = some g → leAt image 8 2 = a → s.adapter a = x →
      sha512 ((image.take (leAt image 0x18 8)).drop 0x80) = (image.drop 0x20).take 64 → adpFormat image (some g.man.modelId) = true →
      (∀ i, i < leAt image 0xC 2 → ∀ k, k < (targetAt image (leAt image 0xB 1) i).count →
        redUsable g.man ((targetAt image (leAt image 0xB 1) i).first + k) = true) →
      s.poolUsed + (image.length - 128 - 32 * leAt image 0xC 2 + 65535) / 65536 ≤ s.rd SRV_ADP_POOL.GRANULES → s.versions < 1024 → x.live.length < 2 →
      ∃ t v, exec (.adapterLoad who slot image .done) s = .next t ∧ t.adapter a = { x with count := (x.count + 1) % 65536, next := x.next ++ [v] } ∧
        v.no = (x.count + 1) % 65536 ∧ v.slot = slot ∧ v.modelId = g.man.modelId ∧ v.owner = leAt image 0xA 1 ∧ v.rank = leAt image 0xB 1 ∧
        v.targets = (List.range (leAt image 0xC 2)).map (targetAt image (leAt image 0xB 1)) ∧
        t.rd SRV_ADP_STAT.LOAD = 3 ∧ t.rd SRV_ADP_LOAD_CNT.V = (s.rd SRV_ADP_LOAD_CNT.V + 1) % 2 ^ 64) ∧
    (∀ who slot image, s.memOpen who = true → whoAdmin who = true →
      (∃ t, exec (.adapterLoad who slot image .fetching) s = .next t ∧ t.rd SRV_ADP_STAT.LOAD = 2 ∧ t.adapters = s.adapters) ∧
      (∃ t, exec (.adapterLoad who slot image .checking) s = .next t ∧ t.rd SRV_ADP_STAT.LOAD = 1 ∧ t.adapters = s.adapters) ∧
      (sha512 ((image.take (leAt image 0x18 8)).drop 0x80) ≠ (image.drop 0x20).take 64 →
        ∃ t, exec (.adapterLoad who slot image .done) s = .next t ∧ t.rd SRV_ADP_STAT.LOAD = 4 ∧ t.rd SRV_ADP_ERR.DIGEST = 1 ∧ t.adapters = s.adapters)) ∧
    (∀ who a v, s.memOpen who = true → whoAdmin who = true → a < 1024 → (s.adapter a).cur = some v → v ∉ (s.adapter a).old →
      ∃ t, exec (.adapterUnload who a) s = .next t ∧ (t.adapter a).cur = none ∧ (v ∈ (t.adapter a).old ↔ s.adpRef a v.no ≠ 0)) ∧
    (∀ f j, s.tune f = j → j.live = true → j.endAs = none → j.queue = [] → j.roundDue = true →
      (2 ≤ j.round → j.recAt.getD (j.round - 2) 0 < (s.roll (reqKey j.func j.ticket)).ridx) →
      ∃ t, exec (.roundEnd f [] []) s = .next t ∧ t.rd SRV_TUNE_ROUND_CNT.V = (s.rd SRV_TUNE_ROUND_CNT.V + 1) % 2 ^ 64 ∧
        Out.hostWrite f (j.gradAddr + (j.round % 2) * 4 * s.gradElems j) (((gradSum (s.gradElems j) j.parts).map fun w => leBytes 4 w.toNat).flatten) ∈ t.outbox ∧
        (if j.samples ≤ j.done then t.tune f = TuneJob.init
         else t.tune f = { j with batches := 0, round := j.round + 1, bound := none, parts := [], lossPos := 0, lossSum := 0#32,
                                  recAt := j.recAt ++ [(s.roll (reqKey f j.ticket)).written + (s.roll (reqKey f j.ticket)).backlog.length] })) ∧
    (∀ f j, s.tune f = j → j.live = true → j.endAs = none → j.roundDue = true → 2 ≤ j.round →
      (s.roll (reqKey j.func j.ticket)).ridx ≤ j.recAt.getD (j.round - 2) 0 →
      ∃ t, exec (.roundEnd f [] []) s = .next t ∧ t.tune f = j ∧ t.rolls = s.rolls ∧ t.regs = s.regs) ∧
    (∀ f q q' grads j v, s.tune f = j → j.live = true → j.endAs = none → j.inBatch = true → (s.seq q).live = true → (s.seq q).job = some f →
      (s.seq q).phase = .idle → (s.seq q).promptLen ≤ (s.seq q).pos → s.checked q = true → q' ≠ q → (s.seq q').live = true → (s.seq q').job = some f →
      (s.adapter j.adapter).live.find? (fun v => some v.no == j.bound) = some v →
      ∃ t, exec (.roundEnd f [(q, grads)] []) s = .next t ∧ t.seq q = Seq.init ∧
        t.tune f = { j with parts := j.parts ++ grads.filterMap ((s.seq q).tune.part v), done := j.done + 1, lossPos := j.lossPos + (s.seq q).tune.losses.length,
                            lossSum := F32.add j.lossSum (s.seq q).tune.lossSum })

/-- A write that raises EN, or sets RETRAIN with EN = 1, starts a training trial at RATE; a trial not over after 50 ms fails and the next starts, with FALLBACK one rate lower; one that reaches alignment and passes its window goes on to HELLO. A valid HELLO names the neighbour and its buffers, and 8 more go out; one goes out every 250 cycles until then. The first IDLE then brings the port UP with SEQ 0 and a REACH at once; on an UP port a frame's acknowledgement and credits count. REACH replaces the port's mask and the partner set is formed again: the union of the UP ports' masks without this device; a REACH goes out when 25,000 cycles have passed. A NAK, or 20 µs without ACK, has the unacknowledged frames sent again from the one named, at most 8 times without progress, then the port retrains. DOWN takes the port out of UP. An uncorrectable codeword is counted. A DATA frame with the SEQ expected is accepted, its cart buffered and counted. The first cart that may leave goes out in frames while credit and window last, its first frame with FIRST = 0, the later ones with 0x3FF. -/
def Obligations.PortCommandsComplete : Prop :=
  ∀ (s : State),
    (∀ who val p, s.memOpen who = true → whoAdmin who = true → s.rd CW_PORT_SEL.PORT = p → bitAt val 0 = true →
      (s.on CW_PORT_CTL.EN p = false →
        ∃ t, exec (.portEnable who val) s = .next t ∧ t.on CW_PORT_CTL.EN p = true ∧ t.rd CW_PORT_CTL.RETRAIN p = 0 ∧ t.rd CW_PORT_STAT.STATE p = 1 ∧
          t.rd CW_PORT_STAT.RATE p = t.rd CW_PORT_CTL.RATE p ∧ (t.port p).trainAt = s.now ∧ t.rd CW_RETRAIN_CNT.V = (s.rd CW_RETRAIN_CNT.V + 1) % 2 ^ 64) ∧
      (bitAt val 7 = true →
        ∃ t, exec (.portRetrain who val) s = .next t ∧ t.on CW_PORT_CTL.EN p = true ∧ t.rd CW_PORT_CTL.RETRAIN p = 0 ∧ t.rd CW_PORT_STAT.STATE p = 1 ∧
          t.rd CW_PORT_STAT.RATE p = t.rd CW_PORT_CTL.RATE p ∧ (t.port p).trainAt = s.now ∧ t.rd CW_RETRAIN_CNT.V = (s.rd CW_RETRAIN_CNT.V + 1) % 2 ^ 64)) ∧
    (∀ p, p < 8 → s.rd CW_PORT_STAT.STATE p = 1 → (s.port p).trainAt + 1250000 ≤ s.now →
      ∃ t, exec (.trainingTrialFail p) s = .next t ∧ t.rd CW_PORT_STAT.STATE p = 1 ∧ (t.port p).trainAt = s.now ∧ t.on CW_ERR.TRAIN = true ∧
        t.rd CW_PORT_STAT.RATE p = (if s.on CW_PORT_CTL.FALLBACK p then
          (if s.rd CW_PORT_STAT.RATE p = 0 then s.rd CW_PORT_CTL.RATE p else s.rd CW_PORT_STAT.RATE p - 1) else s.rd CW_PORT_STAT.RATE p)) ∧
    (∀ p corr lock, p < 8 → s.rd CW_PORT_STAT.STATE p = 1 → (s.port p).trainAt + 752500 ≤ s.now → s.now < (s.port p).trainAt + 1250000 →
      (alignOk lock.block = true → lock.skew ≤ 64 → corr * 100000 ≤ 24 * lock.sym →
        ∃ t, exec (.trainingTrialPass p corr lock 0) s = .next t ∧ t.rd CW_PORT_STAT.STATE p = 2 ∧ (t.port p).hello = false ∧
          t.rd CW_FEC_CORR_CNT.V = (s.rd CW_FEC_CORR_CNT.V + corr) % 2 ^ 64) ∧
      (alignOk lock.block = false → ∀ n, ∃ t, exec (.trainingTrialPass p corr lock n) s = .next t ∧ t.rd CW_PORT_STAT.STATE p = 1)) ∧
    (∀ p h role dev nport bufs, p < 8 → s.rd CW_PORT_STAT.STATE p = 2 → (s.port p).hello = false → (role = 0 → dev ≤ 127 ∧ dev ≠ s.devNo) →
      ∃ t, exec (.hello p h 1 role dev nport (s.rd CW_DOMAIN.DOMAIN) bufs) s = .next t ∧ (t.port p).hello = true ∧ (t.port p).toSend = 8 ∧
        t.rd CW_PORT_STAT.NBR_DEV p = dev % 2 ^ 8 ∧ t.rd CW_PORT_STAT.NBR_PORT p = nport % 2 ^ 8 ∧ (t.on CW_PORT_STAT.SWITCH p = true ↔ role = 1)) ∧
    (∀ p, p < 8 → (s.rd CW_PORT_STAT.STATE p = 2 ∧ ((s.port p).hello = false ∨ (s.port p).toSend ≠ 0)) ∨ (s.rd CW_PORT_STAT.STATE p = 3 ∧ (s.port p).toSend ≠ 0) →
      (s.port p).helloAt + 250 ≤ s.now →
      ∃ t, exec (.helloTimer p) s = .next t ∧ (t.port p).helloAt = s.now ∧ (t.port p).toSend = (s.port p).toSend - 1 ∧
        t.outbox = s.outbox ++ [.control p 1 (((s.port p).rxSeq + 65535) % 65536) (s.port p).crs [1, 0, s.devNo, p, 7, s.rd CW_DOMAIN.DOMAIN, 32, 192, 192, 96, 1024]]) ∧
    (∀ p h, p < 8 →
      (s.rd CW_PORT_STAT.STATE p = 2 → (s.port p).hello = true →
        ∃ t, exec (.idleFrame p h) s = .next t ∧ t.rd CW_PORT_STAT.STATE p = 3 ∧ bitAt (t.rd CW_STAT.UP) p = true ∧ (t.port p).txSeq = 0 ∧ (t.port p).rxSeq = 0 ∧
          (t.port p).reachAt = s.now) ∧
      (s.rd CW_PORT_STAT.STATE p = 3 → ∃ t, exec (.idleFrame p h) s = .next t ∧ t.port p = portAfter s p h)) ∧
    (∀ p h mask, p < 8 → s.portUp p = true →
      ∃ t, exec (.reach p h mask) s = .next t ∧ t.reach p = mask % 2 ^ 128 ∧
        ∀ d, d < 128 → (t.isPartner d = true ↔ d ≠ s.devNo ∧ ∃ k, k < 8 ∧ t.portUp k = true ∧ bitAt (t.reach k) d = true)) ∧
    (∃ t, exec .reachTimer s = .next t ∧ ∀ p, p < 8 →
      (t.port p).reachAt = (if s.portUp p = true ∧ (s.port p).reachAt + 25000 ≤ s.now then s.now else (s.port p).reachAt)) ∧
    (∀ p h expect, p < 8 → s.portUp p = true → ((portAfter s p h).unacked.any fun f => f.seq == expect) = true → (portAfter s p h).resent ≠ 8 →
      ∃ t, exec (.nak p h expect) s = .next t ∧ t.rd CW_REPLAY_CNT.V = (s.rd CW_REPLAY_CNT.V + 1) % 2 ^ 64 ∧
        (t.port p).resent = (portAfter s p h).resent + 1 ∧
        t.outbox = s.outbox ++ ((portAfter s p h).unacked.dropWhile fun f => f.seq != expect).map (frameAgain p (portAfter s p h))) ∧
    (∀ p f fs, p < 8 → s.portUp p = true → (s.port p).unacked = f :: fs → (s.port p).ackAt + 500 ≤ s.now →
      ∃ t, exec (.ackTimeout p) s = .next t ∧
        (if (s.port p).resent = 8 then t.rd CW_PORT_STAT.STATE p = 1 ∧ t.rd CW_RETRAIN_CNT.V = (s.rd CW_RETRAIN_CNT.V + 1) % 2 ^ 64
         else t.rd CW_REPLAY_CNT.V = (s.rd CW_REPLAY_CNT.V + 1) % 2 ^ 64 ∧ (t.port p).ackAt = s.now ∧
           t.outbox = s.outbox ++ (s.port p).unacked.map (frameAgain p (s.port p)))) ∧
    (∀ p h, p < 8 → s.portUp p = true →
      ∃ t, exec (.down p h) s = .next t ∧ t.rd CW_PORT_STAT.STATE p = 4 ∧ bitAt (t.rd CW_STAT.UP) p = false ∧ t.reach p = 0 ∧ t.on CW_ERR.DOWN = true) ∧
    (∀ p, p < 8 → ∃ t, exec (.uncorrectableCodeword p) s = .next t ∧ t.rd CW_FEC_UNCORR_CNT.V = (s.rd CW_FEC_UNCORR_CNT.V + 1) % 2 ^ 64) ∧
    (∀ p h vc body, p < 8 → s.portUp p = true → vc < 4 → (s.port p).rxSeq < 65536 →
      ∃ t, exec (.dataFrame p h vc (s.port p).rxSeq body) s = .next t ∧ (t.port p).rxSeq = ((s.port p).rxSeq + 1) % 65536 ∧
        ∀ c rest, takeCarts 64 (FMap.get [] (s.port p).rxPart vc ++ body.take 626) = ([c], rest) → s.cartBad vc c = false →
          (t.port p).rx = (s.port p).rx ++ [⟨vc, FMap.get [] (s.port p).rxFrames vc ++ [(s.port p).rxSeq], c⟩] ∧ FMap.get [] (t.port p).rxPart vc = rest ∧
          t.rd CW_RX_CART_CNT.V = (s.rd CW_RX_CART_CNT.V + 1) % 2 ^ 64) ∧
    (∀ p vc c, p < 8 → vc < 4 → s.portUp p = true → s.on CW_CTL.EN = true → (s.port p).toSend = 0 → FMap.get [] (s.port p).txRest vc = [] →
      s.cart.queue.find? (s.mayLeave p vc) = some c → FMap.get 0 (s.port p).credit vc ≠ 0 → (s.port p).unacked.length < 1024 →
      ∃ t more, exec (.cartSend p vc) s = .next t ∧ t.cart.queue = s.cart.queue.erase c ∧
        t.outbox = s.outbox ++ [.frame p vc 0 (s.port p).txSeq (((s.port p).rxSeq + 65535) % 65536) (s.port p).crs
          (padTo 626 0#8 ((cartOut s c).bytes.take 626))] ++ more ∧
        (c.cart.payload.length ≤ 594 → more = [] ∧ t.rd CW_TX_CART_CNT.V = (s.rd CW_TX_CART_CNT.V + 1) % 2 ^ 64 ∧
          FMap.get 0 (t.port p).credit vc = FMap.get 0 (s.port p).credit vc - 1 ∧ (t.port p).txSeq = ((s.port p).txSeq + 1) % 65536)) ∧
    (∀ p vc, p < 8 → vc < 4 → s.portUp p = true → s.on CW_CTL.EN = true → (s.port p).toSend = 0 → FMap.get [] (s.port p).txRest vc ≠ [] →
      FMap.get 0 (s.port p).credit vc ≠ 0 → (s.port p).unacked.length < 1024 →
      ∃ t more, exec (.cartSend p vc) s = .next t ∧
        t.outbox = s.outbox ++ [.frame p vc (if (s.port p).unbegun vc then 0 else 0x3FF) (s.port p).txSeq (((s.port p).rxSeq + 65535) % 65536) (s.port p).crs
          (padTo 626 0#8 ((FMap.get [] (s.port p).txRest vc).take 626))] ++ more)

/-- A DISPATCH whose model, generation and payload fit and whose expert is not fenced leaves its buffer and is answered by a RETURN with the expert's output, of no flag, to its sender. A RETURN that matches a dispatch ends it; REFUSED or FENCED is counted, matched or not, and FENCED masks the expert for the position, which is formed again from its layer. A PART joins its instance at the row that forms the tree. A RECEIPT clears its pair when as many early carts have come, else is kept; one that comes before its pair is noted. A RETRACT is counted and the pair is retracted. FENCE and UNFENCE wait for the step marker in every slot of the model. A RECEIPT is sent once the step is over and everything its early carts depend on has passed. A pair pending for 50,000 cycles is counted and retracted. A home table is read while CW_HOME_STAT shows LOADING; one that passes the checks of R349 for the slot's model, or a clear, waits for the marker. A sequence whose expert found no home within HOME_WAIT ends. -/
def Obligations.CartCommandsComplete : Prop :=
  ∀ (s : State),
    (∀ p idx hidden out r e g, cartReady s p idx 1 r → s.portsTo r.cart.src ≠ [] → s.homeSlot r.cart = some (e, g) →
      r.cart.payload.length = (hidden + hidden / 32 + 15) / 16 * 16 → e.fenced.contains (bitsOf r.cart.arg1 0 8 * 65536 + bitsOf r.cart.arg1 8 10) = false →
      ∃ t, exec (.dispatch p idx hidden out) s = .next t ∧ cartTaken s t p idx ∧
        ∃ c ∈ t.cart.queue, c.cart = ⟨2, 0, s.devNo, r.cart.src, 0, s.rd SRV_STEP_CNT.V, r.cart.arg0, r.cart.arg1, vectorPayload out⟩ ∧ c.again = false) ∧
    (∀ p idx routes r, cartReady s p idx 2 r →
      ∃ t, exec (.returnCart p idx routes) s = .next t ∧ cartTaken s t p idx ∧
        t.rd CW_REFUSED_CNT.V = (s.rd CW_REFUSED_CNT.V + (if bitAt r.cart.flags 2 || bitAt r.cart.flags 1 then 1 else 0)) % 2 ^ 64 ∧
        ∀ d, s.dispOf r.cart = some d → routes = [] → bitAt r.cart.flags 2 = false →
          (bitAt r.cart.flags 1 = false → t.cart.disps = s.cart.disps.erase d) ∧
          (bitAt r.cart.flags 1 = true → (t.seq d.seq).fenced = true ∧ (d.layer, d.expert) ∈ (t.seq d.seq).masks ∧
            (t.seq d.seq).redoFrom = some (min d.layer ((s.seq d.seq).redoFrom.getD d.layer)))) ∧
    (∀ p idx r slot g red, cartReady s p idx 3 r →
      s.partRed r.cart = some (slot, g, red) →
      ∃ t i, exec (.part p idx) s = .next t ∧ cartTaken s t p idx ∧ t.instOf red.outRow (r.cart.arg0 % 2 ^ 32) (r.cart.arg1 % 2 ^ 32) = some i ∧
        ∀ k, k < 2 ^ bitsOf r.cart.arg0 35 2 → bitsOf r.cart.arg0 32 3 + k ∈ i.remote) ∧
    (∀ p idx r, s.cartAt p idx 4 = some r → s.deadPair r.cart = false →
      ∃ t, exec (.receipt p idx) s = .next t ∧ cartTaken s t p idx ∧
        (s.hasPair r.cart = false → t.cart.notes = s.cart.notes ++ [(r.cart.src, r.cart.step, r.cart.arg0)]) ∧
        (∀ x, s.cart.pend.find? (fun x => x.src == r.cart.src && x.step == r.cart.step) = some x →
          (x.got = r.cart.arg0 → t.hasPair r.cart = false ∧ t.rd CW_RCPT_CNT.V = (s.rd CW_RCPT_CNT.V + 1) % 2 ^ 64) ∧
          (x.got ≠ r.cart.arg0 → t.cart.pend.find? (fun x => x.src == r.cart.src && x.step == r.cart.step) = some { x with receipt := some r.cart.arg0 }))) ∧
    (∀ p idx r, s.cartAt p idx 5 = some r → s.deadPair r.cart = false →
      ∃ t, exec (.retract p idx) s = .next t ∧ cartTaken s t p idx ∧ pairDead t r.cart.src r.cart.step ∧
        t.rd CW_RETRACT_CNT.V = (s.rd CW_RETRACT_CNT.V + 1) % 2 ^ 64) ∧
    (∀ p idx r, s.cartAt p idx 6 = some r →
      ∃ t, exec (.fence p idx) s = .next t ∧ cartTaken s t p idx ∧ ∀ e ∈ s.slots, (e.2.cur.any fun g => g.man.modelId == r.cart.arg0) = true →
        (bitsOf r.cart.arg1 0 8 * 65536 + bitsOf r.cart.arg1 8 10, true) ∈ (t.slot e.1).remoteP) ∧
    (∀ p idx r, s.cartAt p idx 7 = some r →
      ∃ t, exec (.unfence p idx) s = .next t ∧ cartTaken s t p idx ∧ ∀ e ∈ s.slots, (e.2.cur.any fun g => g.man.modelId == r.cart.arg0) = true →
        (bitsOf r.cart.arg1 0 8 * 65536 + bitsOf r.cart.arg1 8 10, false) ∈ (t.slot e.1).remoteP) ∧
    (∀ step dst e, s.cart.early.find? (fun e => e.step == step && e.dst == dst && !e.done) = some e → step < s.rd SRV_STEP_CNT.V → e.pairs = [] →
      (∀ c ∈ s.cart.queue, c.cart.step = step → c.cart.dst = dst → c.cart.typ ≤ 3 → c.again = true) → (∀ q ∈ e.seqs, s.strikesOpen q = false) → s.portsTo dst ≠ [] →
      ∃ t, exec (.receiptSend step dst) s = .next t ∧ t.cart.early = (s.cart.early.map fun e => if e.step = step ∧ e.dst = dst then { e with done := true } else e) ∧
        ∃ c, t.cart.queue = s.cart.queue ++ [c] ∧ c.cart = ⟨4, 0, s.devNo, dst, 0, step, e.count, 0, []⟩) ∧
    (∀ src step x, s.cart.pend.find? (fun x => x.src == src && x.step == step) = some x → x.at' + 50000 ≤ s.now →
      ∃ t, exec (.pendingTimeout src step) s = .next t ∧ pairDead t src step ∧ t.rd CW_TIMEOUT_CNT.V = (s.rd CW_TIMEOUT_CNT.V + 1) % 2 ^ 64 ∧
        t.on CW_ERR.TIMEOUT = true) ∧
    (∀ who slot, s.memOpen who = true → whoAdmin who = true → slot < 16 →
      ∃ t, exec (.homeTableLoad who slot none) s = .next t ∧ t.rd CW_HOME_STAT.STATE = 1 ∧ t.rd CW_HOME_STAT.SLOT = slot ∧
        t.outbox = s.outbox ++ [.hostRead 0 (s.rd CW_HOME_ADDR.V) 16]) ∧
    (∀ who slot table n, s.rd CW_HOME_STAT.STATE = 1 → s.rd CW_HOME_STAT.SLOT = slot → s.slotModel slot ≠ 0 →
      leAt table 0 8 = s.slotModel slot → leAt table 8 2 * leAt table 10 2 = n → n ≤ 65536 → 1 ≤ leAt table 8 2 → leAt table 8 2 ≤ 256 → 1 ≤ leAt table 10 2 →
      leAt table 10 2 ≤ 1024 → leAt table 12 4 = 0 → (∀ i, i < n → homeEntryBad (leAt table (16 + 4 * i) 4) = false) →
      ∃ t, exec (.homeTableLoad who slot (some table)) s = .next t ∧ t.rd CW_HOME_STAT.STATE = 2 ∧ t.rd CW_HOME_STAT.SLOT = slot ∧ t.rd CW_HOME_STAT.ENTRIES = n ∧
        (slot, some ⟨leAt table 8 2, leAt table 10 2, (List.range n).map fun i => leAt table (16 + 4 * i) 4⟩) ∈ t.cart.change ∧ t.cart.homes = s.cart.homes) ∧
    (∀ who slot, s.memOpen who = true → whoAdmin who = true → slot < 16 →
      ∃ t, exec (.homeTableClear who slot) s = .next t ∧ t.rd CW_HOME_STAT.STATE = 2 ∧ t.rd CW_HOME_STAT.SLOT = slot ∧ t.rd CW_HOME_STAT.ENTRIES = 0 ∧
        (slot, none) ∈ t.cart.change ∧ t.cart.homes = s.cart.homes) ∧
    (∀ q d, s.cart.waits.find? (fun d => d.seq == q) = some d → d.since + 25000 * s.rd CW_CTL.HOME_WAIT ≤ s.now → (s.seq q).live = true →
      ∃ t, exec (.homeWaitTimeout q) s = .next t ∧ t.on CW_ERR.HOME = true ∧ (t.seq q).live = false)

/-- Two copies of a paired tile's strike that agree within the column tolerance end their comparison; copies that do not are counted and flagged, and with the primary's lane in service a job over both is queued. With a free engine the next queued job runs. A replay whose shards are valid and that passed gives its verdict, is counted, and its job leaves the queue; on a failed check it counts the checker wrong when no column is beyond tolerance, else the result wrong; a class-1 replay that did not pass runs once more, but one of a calibration run abandons the run. A deadline that has passed is counted and flagged, and its job is late. A reloaded lane begins its return probes. -/
def Obligations.CheckingCommandsComplete : Prop :=
  ∀ (s : State),
    (∀ row stall no row2 stall2 no2 a b x y, stallOk row stall = true → stallOk row2 stall2 = true → stallId row stall = a → stallId row2 stall2 = b →
      (s.stall a).strikeNo no (fun x => x.stage == .released && x.pairOpen) = some x → (s.stall b).strikeNo no2 (fun x => x.stage == .corrected) = some y →
      x.desc.tag = y.desc.tag → x.desc.group = y.desc.group → s.partner a x.desc.group = some (s.logicalNo b) →
      ∃ t, exec (.pairCompare row stall no row2 stall2 no2) s = .next t ∧
        (if s.copiesAgree a x y then t.jobs = s.jobs ∧ t.rd CHK_PAIR_MISMATCH_CNT.V = s.rd CHK_PAIR_MISMATCH_CNT.V ∧
            (a ≠ b → (t.stall a).inflight = (s.stall a).inflight.erase x ∧ (t.stall b).inflight = (s.stall b).inflight.erase y)
         else t.rd CHK_PAIR_MISMATCH_CNT.V = (s.rd CHK_PAIR_MISMATCH_CNT.V + 1) % 2 ^ 64 ∧ t.on CHK_ERR.PAIR_MISMATCH = true ∧
            (s.rd CHK_STALL_STAT.LANE a = 0 → ∃ j, t.jobs = s.jobs ++ [j] ∧ j.kind = .paired no b no2 ∧ j.cls = 0 ∧ j.stall = a ∧ j.queued = s.now ∧ j.seq = x.seq))) ∧
    (∀ j, (s.jobs.filter fun j => j.running).length < 2 → s.nextQueued = some j →
      ∃ t, exec (.inspectorJobStart none) s = .next t ∧ ∃ x ∈ t.jobs, x.id = j.id ∧ x.running = true) ∧
    (∀ job j, s.jobs.find? (fun j => j.id == job && j.running) = some j → s.jobReady j = true →
      ((s.verdict j).isSome = true → ∃ t, exec (.inspectorVerdict job true) s = .next t ∧ (t.jobs.all fun x => x.id != job) = true ∧
        t.rd CHK_INSPECT_CNT.V = (s.rd CHK_INSPECT_CNT.V + 1) % 2 ^ 64 ∧
        ∀ no x, j.kind = .dispute no → (s.stall j.stall).strikeNo no (fun x => x.stage == .disputed && x.job == j.id) = some x →
          (if (s.judge j.stall x).1 = 0 then t.rd CHK_CHECKER_WRONG_CNT.V = (s.rd CHK_CHECKER_WRONG_CNT.V + 1) % 2 ^ 64 ∧ t.on CHK_ERR.CHECKER_WRONG = true
           else t.rd CHK_RESULT_WRONG_CNT.V = (s.rd CHK_RESULT_WRONG_CNT.V + 1) % 2 ^ 64 ∧ t.on CHK_ERR.RESULT_WRONG = true)) ∧
      (j.ofRun = true → ∃ t, exec (.inspectorVerdict job false) s = .next t ∧ t.on CAL_ERR.INSPECT = true) ∧
      (j.cls = 1 → j.again = false → j.ofRun = false → ∃ t, exec (.inspectorVerdict job false) s = .next t ∧ t.regs = s.regs ∧
        t.jobs = { j with running := false, again := true } :: s.jobs.filter fun x => x.id != job)) ∧
    (∀ job j, s.jobs.find? (fun j => j.id == job && j.cls == 0 && !j.held && !j.late) = some j → j.queued + 25 * s.rd CHK_CTL.DEADLINE ≤ s.now →
      ∃ t, exec (.disputeDeadline job) s = .next t ∧ t.rd CHK_DEADLINE_CNT.V = (s.rd CHK_DEADLINE_CNT.V + 1) % 2 ^ 64 ∧ t.on CHK_ERR.DEADLINE = true ∧
        (t.jobs.all fun x => x.id != job || x.late) = true) ∧
    (∀ row stall, stallOk row stall = true → s.rd CHK_STALL_STAT.LANE (stallId row stall) = 1 →
      ∃ t, exec (.checksumReloadDone row stall) s = .next t ∧ (t.stall (stallId row stall)).idleProbe = true ∧
        (t.stall (stallId row stall)).lane = 0 ∧ (t.stall (stallId row stall)).laneCan = 0 ∧ t.rd CHK_STALL_STAT.LANE (stallId row stall) = 1)

/-- A granule that is due is retired: it joins the retire list of its tier, its unit and the count with it; with the list full it is retired until the next reset and RETIRE_FULL is set. A patrol read reads the next line of its unit, each once a pass; a corrected one counts both as a corrected error and as a scrub correction, an uncorrectable one in a free line is counted and its granule falls due. At the end of a period a unit that has read every line starts anew, another goes on, flagged late when it has read less than 90 %; the next period ends one PERIOD on. A channel idle for SR_IDLE enters self-refresh, and its T2_UP bit falls. A stack retrains each warden round, a channel every 32, and each retraining is counted. -/
def Obligations.MemoryCommandsComplete : Prop :=
  ∀ (s : State),
    (∀ gran, s.mem.due.contains gran = true → s.mem.retired.contains gran = false → s.mem.extra.contains gran = false →
      s.rd MEM_UNIT_STAT.STATE (s.unitOf gran) ≠ 4 →
      ∃ t, exec (.granuleRetire gran) s = .next t ∧ t.mem.due = s.mem.due.erase gran ∧ t.rd MEM_RETIRE_CNT.V = (s.rd MEM_RETIRE_CNT.V + 1) % 2 ^ 64 ∧
        (if (s.retireList gran).length < 4096 then t.mem.retired = s.mem.retired ++ [gran] ∧
            t.rd MEM_UNIT_STAT.RETIRED (s.unitOf gran) = (s.rd MEM_UNIT_STAT.RETIRED (s.unitOf gran) + 1) % 2 ^ 16
         else t.mem.extra = s.mem.extra ++ [gran] ∧ t.mem.retired = s.mem.retired ∧ t.on MEM_ERR.RETIRE_FULL = true)) ∧
    (∀ u c, s.on MEM_CTL.SCRUB_EN = true → s.unitUp u = true → FMap.get 0 s.mem.linesRead u < s.unitLines u →
      (FMap.get 0 s.mem.linesRead u + 1 = s.unitLines u → FMap.get 0 s.mem.passLate u = 0) →
      (∃ t, exec (.patrolScrub u false false c) s = .next t ∧ FMap.get 0 t.mem.linesRead u = FMap.get 0 s.mem.linesRead u + 1) ∧
      (∃ t, exec (.patrolScrub u true false c) s = .next t ∧ FMap.get 0 t.mem.linesRead u = FMap.get 0 s.mem.linesRead u + 1 ∧
        t.rd MEM_CE_CNT.V = (s.rd MEM_CE_CNT.V + 1) % 2 ^ 64 ∧ t.rd MEM_SCRUB_CE_CNT.V = (s.rd MEM_SCRUB_CE_CNT.V + 1) % 2 ^ 64) ∧
      (s.contentOf (s.lineGran u (FMap.get 0 s.mem.linesRead u)) = none →
        ∃ t, exec (.patrolScrub u false true .free) s = .next t ∧ t.rd MEM_UE_CNT.V = (s.rd MEM_UE_CNT.V + 1) % 2 ^ 64 ∧
        t.on MEM_ERR.UE = true ∧ t.mem.due.contains (s.lineGran u (FMap.get 0 s.mem.linesRead u)) = true)) ∧
    (∀ unit, s.on MEM_CTL.SCRUB_EN = true → s.unitUp unit = true → FMap.get 0 s.mem.passEnd unit ≤ s.rd WDN_ROUND.V →
      ∃ t, exec (.scrubPeriodEnd unit) s = .next t ∧ FMap.get 0 t.mem.passEnd unit = s.rd WDN_ROUND.V + 1757813 * s.rd MEM_SCRUB_CTL.PERIOD ∧
        (if FMap.get 0 s.mem.linesRead unit = s.unitLines unit then FMap.get 0 t.mem.linesRead unit = 0 ∧ FMap.get 0 t.mem.passLate unit = 0
         else t.mem.linesRead = s.mem.linesRead ∧ FMap.get 0 t.mem.passLate unit = 1) ∧
        (if 10 * FMap.get 0 s.mem.linesRead unit < 9 * s.unitLines unit then t.on MEM_ERR.SCRUB_LATE = true else t.regs = s.regs)) ∧
    (∀ chan, chan < 16 → s.rd MEM_UNIT_STAT.STATE (20 + chan) = 2 → s.on MEM_CTL.T2_SR_EN = true →
      FMap.get 0 s.mem.access chan + 25 * s.rd MEM_CTL.SR_IDLE ≤ s.now →
      ∃ t, exec (.t2SelfRefreshEntry chan) s = .next t ∧ t.rd MEM_UNIT_STAT.STATE (20 + chan) = 3 ∧ bitAt (t.rd MEM_STAT.T2_UP) chan = false) ∧
    (∀ unit, unit < 36 → s.rd MEM_UNIT_STAT.STATE unit = 2 → FMap.get 0 s.mem.retrainAt unit + (if unit < 20 then 1 else 32) ≤ s.rd WDN_ROUND.V →
      ∃ t, exec (.periodicRetrain unit) s = .next t ∧ t.rd MEM_TRAIN_CNT.V = (s.rd MEM_TRAIN_CNT.V + 1) % 2 ^ 64 ∧
        FMap.get 0 t.mem.retrainAt unit = s.rd WDN_ROUND.V)

/-- A link that trained shows the best common generation and width, a retraining counted; a link reset, a function-level reset and the functions that a write of the SR-IOV controls takes away each leave the function in reset with no request and no session, and a reset of the physical function clears VF Enable; after 50,000 cycles the reset is over. A power state write sets D3. An unmasked vector that was pending is sent. An invalidation drops the page from the translation cache and is answered. A failed read is counted in its function's fault record and flagged, and handled by its kind: a prompt is read once more and then ends its sequence, a store room up to three times more. A quota write sets the selected function's quota and its event. A store room is registered when it has a granule and no sequence is parked, and withdrawn when none is parked. A mailbox answers discovery, an abort clears its error, a bad object sets it. An MCTP control message is answered; the answer's content is a free value (log entry 23). -/
def Obligations.HostCommandsComplete : Prop :=
  ∀ (s : State),
    (∀ gens widths, bestOf [4, 5, 6, 7] gens ≠ 0 → bestOf [4, 8, 16] widths ≠ 0 → s.boot.held = false → s.boot.begun = true →
      ∃ t, exec (.linkTrainingDone gens widths) s = .next t ∧ t.rd HOST_LINK_STAT.GEN = bestOf [4, 5, 6, 7] gens ∧
        t.rd HOST_LINK_STAT.WIDTH = bestOf [4, 8, 16] widths ∧ t.port0.linked = true ∧
        t.rd HOST_RETRAIN_CNT.V = (s.rd HOST_RETRAIN_CNT.V + (if s.port0.linked then 1 else 0)) % 2 ^ 64) ∧
    (∀ dlDown, s.boot.held = false → s.boot.begun = true →
      ∃ t, exec (.linkReset dlDown) s = .next t ∧ t.port0.vfEnable = false ∧ fnReset s t 0 ∧ (∀ f, f < 64 → s.exists f = true → fnReset s t f) ∧
        (dlDown = true → t.rd HOST_LINK_STAT.GEN = 0 ∧ t.rd HOST_LINK_STAT.WIDTH = 0)) ∧
    (∀ f d3, s.configOpen f = true → ∃ t, exec (.powerStateWrite f d3) s = .next t ∧ t.on HOST_FN_STAT.D3 f = d3) ∧
    (∀ vfEnable ari num, s.rd WDN_RST_CAUSE.STATE = 1 ∨ s.rd WDN_RST_CAUSE.STATE = 5 → num ≤ 63 → (7 < num → ari = true) →
      ∃ t, exec (.numvfsWrite vfEnable ari num) s = .next t ∧ t.port0.vfEnable = vfEnable ∧ t.port0.numVfs = num ∧ t.port0.ari = ari ∧
        ∀ f, f < 64 → f ≠ 0 → s.exists f = true → (vfEnable = false ∨ num < f) → fnReset s t f) ∧
    (∀ f, f ≠ 0 → s.configOpen f = true → ∃ t, exec (.functionLevelReset f) s = .next t ∧ fnReset s t f) ∧
    (s.configOpen 0 = true → ∃ t, exec .pfFunctionLevelReset s = .next t ∧ t.port0.vfEnable = false ∧ fnReset s t 0 ∧
      ∀ f, f < 64 → s.exists f = true → fnReset s t f) ∧
    (∀ f t0, (s.func f).flrAt = some t0 → t0 + 50000 ≤ s.now → ∃ t, exec (.flrComplete f) s = .next t ∧ (t.func f).flrAt = none) ∧
    (∀ f v, f < 64 → v < 64 → s.memOpen (.func f) = true →
      ∃ t, exec (.msixUnmask f v) s = .next t ∧ (FMap.get MsixEntry.init (t.func f).table v).masked = false ∧
        (v ∈ (s.func f).pend → s.on HOST_FN_STAT.MSIX_EN f = true → s.on HOST_FN_STAT.D3 f = false → (s.func f).funcMask = false →
          Out.msix f v (FMap.get MsixEntry.init (s.func f).table v).addr (FMap.get MsixEntry.init (s.func f).table v).data ∈ t.outbox ∧ v ∉ (t.func f).pend)) ∧
    (∀ f page tag late, s.configOpen f = true →
      ∃ t, exec (.invalidationRequest f page tag late) s = .next t ∧ (t.func f).cache = (s.func f).cache.filter (fun x => x != page) ∧
        Out.ats f tag ∈ t.outbox ∧ (late = true → t.on HOST_ERR.ATS_INV = true)) ∧
    (∀ kind ats, s.takesWork = true → s.readOpen kind = true →
      ∃ t, exec (.hostReadFailure kind ats) s = .next t ∧ t.on TEN_FAULT.DMA (s.readFunc kind) = true ∧ t.on HOST_ERR.DMA = true ∧
        t.rd TEN_DMA_FAIL_CNT.V (s.readFunc kind) = (s.rd TEN_DMA_FAIL_CNT.V (s.readFunc kind) + 1) % 2 ^ 64 ∧
        (∀ q, kind = .prompt q → (s.seq q).prefill = true → (s.seq q).phase = .running →
          (if (s.seq q).promptFails = 0 then (t.seq q).promptFails = 1 ∧ (t.seq q).live = true else (t.seq q).live = false)) ∧
        (∀ q, kind = .store q → (s.seq q).image.isSome = true →
          (if (s.seq q).retries < 3 then (t.seq q).retries = (s.seq q).retries + 1 else (t.seq q).live = false))) ∧
    (∀ who val f, s.memOpen who = true → whoAdmin who = true → s.rd TEN_ADM_SEL.FUNC = f →
      ∃ t, exec (.quotaWrite who val) s = .next t ∧ t.rd TEN_QUOTA.KV_QUOTA f = val % 2 ^ 32 ∧ t.on HOST_FN_EVT.QUOTA f = true) ∧
    (∀ f, f < 64 → s.memOpen (.func f) = true →
      (∃ t, exec (.storeRegister f) s = .next t ∧ t.on HOST_FN_EVT.STORE f = true ∧
        t.rd TEN_STORE_STAT.STATE f = (if 1 ≤ s.rd TEN_STORE_SIZE.GRAN f ∧ s.parkedOf f = 0 then 1 else 2) ∧
        (t.func f).room = (if 1 ≤ s.rd TEN_STORE_SIZE.GRAN f ∧ s.parkedOf f = 0 then some (s.rd TEN_STORE_BASE.BASE f, s.rd TEN_STORE_SIZE.GRAN f) else (s.func f).room)) ∧
      (∃ t, exec (.storeWithdraw f) s = .next t ∧ t.on HOST_FN_EVT.STORE f = true ∧
        t.rd TEN_STORE_STAT.STATE f = (if s.parkedOf f = 0 then 0 else 2) ∧
        (t.func f).room = (if s.parkedOf f = 0 then none else (s.func f).room))) ∧
    (∀ f index, s.configOpen f = true → (s.func f).flrAt = none → (s.func f).doeError = false →
      ∃ t, exec (.doeDiscovery f index) s = .next t ∧ t.outbox = s.outbox ++
        [.doe f (leBytes 2 ((s.doeObjects f).getD index (0xFFFF, 0xFF)).1 ++ leBytes 1 ((s.doeObjects f).getD index (0xFFFF, 0xFF)).2 ++
          leBytes 1 (if index + 1 < (s.doeObjects f).length then index + 1 else 0))]) ∧
    (∀ f, s.configOpen f = true → ∃ t, exec (.doeAbort f) s = .next t ∧ (t.func f).doeError = false) ∧
    (∀ f vendor typ len, s.configOpen f = true → (s.func f).flrAt = none → (s.func f).doeError = false →
      (s.doeObjects f).contains (vendor, typ) = false ∨ (∃ n, doeLimit vendor typ = some n ∧ n < len) →
      ∃ t, exec (.doeObjectError f vendor typ len) s = .next t ∧ (t.func f).doeError = true) ∧
    (∀ command, s.boot.begun = true → s.boot.held = false →
      ∃ t v, exec (.mctpControlMessage command) s = .next t ∧ t.outbox = s.outbox ++ [.i3c command v] ∧ t.free = s.free + 1)

/-- With no clerk in ENTRY and the PLL running, the routed event's frame is written into the lowest free slot of its clerk, which is in ENTRY, but for a clerk in an exit, on which the event is tail-chained, counted, in the slot that stays occupied; a clerk in ENTRY then begins the handler of its event, or of one routed to it that outranks it (a late arrival, counted): its count falls by one and it is active. An event whose clerk has its eight slots occupied sets DEPTH. At MRET an event routed to the clerk is tail-chained and counted; with none the restore begins, and its end gives the frame back and frees the slot. An idle clerk executes WFI and is gated 25 cycles later. The PLL stops when every clerk is gated and nothing is to be done, and its restart wakes the clerks that waited. A software event or an expired timer raises its source, whose count saturates at 15. An event without a candidate for 25,000 cycles sets NOROUTE once. -/
def Obligations.ClerkCommandsComplete : Prop :=
  ∀ (s : State),
    (∀ n k, (List.range 8).find? (fun k => s.ckState k == 4) = none → s.routed = some (n, k) → s.warden.pllOff = false → s.ckState k = 5 →
      (∀ fr ∈ (s.clerk k).frames, fr.source < 512) →
      ∃ t, exec .handlerEntry s = .next t ∧ t.ckState k = 3 ∧ t.rd EVC_TAIL_CNT.V = (s.rd EVC_TAIL_CNT.V + 1) % 2 ^ 64 ∧
        t.rd EVC_SRC.COUNT n = s.rd EVC_SRC.COUNT n - 1 ∧ (t.clerk k).frames.length = (s.clerk k).frames.length) ∧
    (∀ n k, (List.range 8).find? (fun k => s.ckState k == 4) = none → s.routed = some (n, k) → s.warden.pllOff = false → s.ckState k ≠ 5 →
      ∃ t, exec .handlerEntry s = .next t ∧ t.ckState k = 4 ∧ (t.clerk k).frames = (s.clerk k).frames ++ [⟨(s.clerk k).regs, s.levelOf k, n, s.rd EVC_SRC.PRIO n⟩] ∧
        ((s.pendingList.find? s.fullFor).isSome = true → t.on EVC_ERR.DEPTH = true)) ∧
    (∀ k n fr, (List.range 8).find? (fun k => s.ckState k == 4) = some k → (s.clerk k).frames.getLast? = some fr → fr.source < 512 →
      (match s.routedTo k with
        | some m => if m ≠ fr.source ∧ s.groupOf (s.rd EVC_SRC.PRIO m) < s.groupOf (s.rd EVC_SRC.PRIO fr.source) then m else fr.source
        | none => fr.source) = n →
      ∃ t, exec .handlerEntry s = .next t ∧ t.ckState k = 3 ∧ t.rd EVC_SRC.COUNT n = s.rd EVC_SRC.COUNT n - 1 ∧ t.on EVC_SRC.ACTIVE n = true ∧
        (t.clerk k).frames = (s.clerk k).frames.dropLast ++ [{ fr with source := n, prio := s.rd EVC_SRC.PRIO n }] ∧
        t.rd EVC_ENTRY_CNT.V = (s.rd EVC_ENTRY_CNT.V + 1) % 2 ^ 64 ∧
        t.rd EVC_LATE_CNT.V = (s.rd EVC_LATE_CNT.V + (if n = fr.source then 0 else 1)) % 2 ^ 64) ∧
    (∀ k, k < 8 → s.ckState k = 3 →
      ((s.showClerk k 5).routedTo k = none → ∃ t, exec (.handlerExit k) s = .next t ∧ t.ckState k = 5 ∧ t.clerks = s.clerks) ∧
      (∀ n, (s.showClerk k 5).routedTo k = some n → (∀ fr ∈ (s.clerk k).frames, fr.source < 512) → ∃ t, exec (.handlerExit k) s = .next t ∧ t.ckState k = 3 ∧
        t.rd EVC_TAIL_CNT.V = (s.rd EVC_TAIL_CNT.V + 1) % 2 ^ 64 ∧ t.rd EVC_SRC.COUNT n = s.rd EVC_SRC.COUNT n - 1)) ∧
    (∀ k fr, k < 8 → s.ckState k = 5 → s.routedTo k = none → (s.clerk k).frames.getLast? = some fr →
      ∃ t, exec (.handlerExit k) s = .next t ∧ (t.clerk k).frames = (s.clerk k).frames.dropLast ∧ (t.clerk k).regs = fr.words ∧
        t.ckState k = (if (s.clerk k).frames.length = 1 then 2 else 3)) ∧
    (∀ k, k < 8 → s.ckState k = 2 → (s.clerk k).wfi = none → ∃ t, exec (.clerkWfi k) s = .next t ∧ t.clerk k = { s.clerk k with wfi := some s.now }) ∧
    (∀ k t0, k < 8 → s.ckState k = 2 → (s.clerk k).wfi = some t0 → t0 + 25 ≤ s.now → ∃ t, exec (.clerkClockGate k) s = .next t ∧ t.ckState k = 0) ∧
    (s.on EVC_CTL.PLL_STOP = true → (∀ k, k < 8 → s.ckState k = 0) → s.jobs = [] → s.stock = none → s.working = [] → s.scrubPending = false →
      s.warden.pllOff = false → ∃ t, exec .squarePllStop s = .next t ∧ t.warden.pllOff = true) ∧
    (s.warden.pllOff = true → ∃ t, exec .squarePllRestart s = .next t ∧ t.warden.pllOff = false ∧
      ∀ k, k < 8 → t.ckState k = (if s.ckState k = 1 then 2 else s.ckState k)) ∧
    (∀ c n, 448 ≤ n → n < 512 → ∃ t, exec (.softwareEventSet (.clerk c) n) s = .next t ∧ t.rd EVC_SRC.COUNT n = min 15 (s.rd EVC_SRC.COUNT n + 1)) ∧
    (∀ k, k < 8 → (s.clerk k).armed = true → s.rd EVC_TMR_CMP.CMP k ≠ 0 → s.rd EVC_TMR_CMP.CMP k ≤ s.rd EVC_TIMER.V →
      ∃ t, exec (.clerkTimerExpiry k) s = .next t ∧ (t.clerk k).armed = false ∧ t.rd EVC_SRC.COUNT (424 + k) = min 15 (s.rd EVC_SRC.COUNT (424 + k) + 1)) ∧
    (∀ n, n < 512 → s.pendingSrc n = true → s.clerkFor n = none → FMap.get 0 s.pendAt n ≠ 0 → FMap.get 0 s.pendAt n - 1 + 25000 ≤ s.now →
      ∃ t, exec (.eventNorouteTimeout n) s = .next t ∧ t.on EVC_ERR.NOROUTE = true ∧ t.rd EVC_ERR.SOURCE = n ∧ FMap.get 0 t.pendAt n = 0)

/-- A barrier places 16 markers and is busy until all have left, then it is counted. A mode change whose record keeps R449 closes its scope: PHASE 1, its entries kept, every stall of the scope that takes part asked to drain. With every unit drained the next generation is staged: PHASE 2, 0xFFFF followed by 1. With every unit able to stage, CUR becomes STAGED, the change is counted, and every unit that acknowledges at once is level; PHASE is 3 while a unit has not acknowledged, else 5. An abort, a close that has not completed in time and a stage not acknowledged in time each end the change in PHASE 4 with CUR unchanged, counted. A unit that acknowledges a resent OPEN is level; one that does not has OPEN sent again up to RETRY times, and then sets MISSED. A unit that comes back behind CUR is brought level and counted. -/
def Obligations.ModeCommandsComplete : Prop :=
  ∀ (s : State),
    (∀ who, s.memOpen who = true → whoAdmin who = true → s.on MODE_STAT.BARRIER_BUSY = false →
      ∃ t, exec (.barrier who) s = .next t ∧ t.on MODE_STAT.BARRIER_BUSY = true ∧ t.modeCtl.barrier = 16) ∧
    (s.on MODE_STAT.BARRIER_BUSY = true → ∃ t, exec .barrierComplete s = .next t ∧ t.on MODE_STAT.BARRIER_BUSY = false ∧ t.modeCtl.barrier = 0 ∧
      t.rd MODE_BARRIER_CNT.V = (s.rd MODE_BARRIER_CNT.V + 1) % 2 ^ 64) ∧
    (∀ who scope rec es, s.memOpen who = true → whoAdmin who = true → scope < 5 → (s.rd MODE_STAT.PHASE = 0 ∨ 4 ≤ s.rd MODE_STAT.PHASE) →
      s.spanOk (s.rd MODE_REC_ADDR.ADDR) (max 1 rec.length) = true → modeRecord rec = some es →
      ∃ t, exec (.modeChange who scope rec) s = .next t ∧ t.rd MODE_STAT.PHASE = 1 ∧ t.rd MODE_STAT.SCOPE = scope ∧ t.modeCtl.entries = es ∧
        t.rd MODE_GEN.CUR = s.rd MODE_GEN.CUR ∧
        ∀ l, (1, l) ∈ scopeUnits scope → s.excluded (1, l) = false → (t.stall (s.physStall l)).drains.contains .mode = true) ∧
    (s.rd MODE_STAT.PHASE = 1 → s.modeUnits.all s.unitClosed = true →
      ∃ t, exec .modeCloseComplete s = .next t ∧ t.rd MODE_STAT.PHASE = 2 ∧ t.modeCtl.at0 = s.now ∧
        t.rd MODE_GEN.STAGED = (if s.rd MODE_GEN.CUR = 0xFFFF then 1 else s.rd MODE_GEN.CUR + 1)) ∧
    (∀ late, s.rd MODE_STAT.PHASE = 2 → s.stageFault = none →
      ∃ t, exec (.modeOpen late) s = .next t ∧ t.rd MODE_GEN.CUR = s.rd MODE_GEN.STAGED ∧ t.rd MODE_GEN.STAGED = 0 ∧
        t.rd MODE_CHANGE_CNT.V = (s.rd MODE_CHANGE_CNT.V + 1) % 2 ^ 64 ∧
        t.rd MODE_STAT.PHASE = (if s.modeUnits.any (fun u => !s.excluded u && late.contains u) then 3 else 5) ∧
        ∀ u ∈ s.modeUnits, s.excluded u = false → u ∉ late → t.unitGen u = s.rd MODE_GEN.STAGED) ∧
    (∀ who, s.memOpen who = true → whoAdmin who = true → s.rd MODE_STAT.PHASE = 1 ∨ s.rd MODE_STAT.PHASE = 2 →
      ∃ t, exec (.modeAbort who) s = .next t ∧ t.rd MODE_STAT.PHASE = 4 ∧ t.rd MODE_GEN.STAGED = 0 ∧ t.rd MODE_GEN.CUR = s.rd MODE_GEN.CUR ∧
        t.modeCtl.entries = [] ∧ t.rd MODE_ABORT_CNT.V = (s.rd MODE_ABORT_CNT.V + 1) % 2 ^ 64) ∧
    (s.rd MODE_STAT.PHASE = 1 → s.modeCtl.at0 + 25000 * s.rd MODE_CTL.CLOSE_TO ≤ s.now → s.modeUnits.all s.unitClosed = false →
      ∃ t, exec .modeCloseTimeout s = .next t ∧ t.on MODE_ERR.CLOSE_TO = true ∧ t.rd MODE_STAT.PHASE = 4 ∧ t.rd MODE_GEN.CUR = s.rd MODE_GEN.CUR ∧
        t.rd MODE_ABORT_CNT.V = (s.rd MODE_ABORT_CNT.V + 1) % 2 ^ 64) ∧
    (∀ cls idx, s.rd MODE_STAT.PHASE = 2 → s.modeUnits.contains (cls, idx) = true → s.modeCtl.at0 + 25 * s.rd MODE_CTL.ACK_TO ≤ s.now →
      ∃ t, exec (.modeStageTimeout cls idx) s = .next t ∧ t.on MODE_ERR.STAGE_TO = true ∧ t.rd MODE_STAT.PHASE = 4 ∧ t.rd MODE_GEN.CUR = s.rd MODE_GEN.CUR ∧
        t.rd MODE_ABORT_CNT.V = (s.rd MODE_ABORT_CNT.V + 1) % 2 ^ 64) ∧
    (∀ cls idx k, FMap.get 0 s.modeCtl.openWait (unitId cls idx) = k → k ≠ 0 →
      (∃ t, exec (.modeOpenResend cls idx true) s = .next t ∧ t.unitGen (cls, idx) = s.rd MODE_GEN.CUR ∧ FMap.get 0 t.modeCtl.openWait (unitId cls idx) = 0) ∧
      (s.modeCtl.at0 + k * (25 * s.rd MODE_CTL.ACK_TO) ≤ s.now → k ≤ s.rd MODE_CTL.RETRY →
        ∃ t, exec (.modeOpenResend cls idx false) s = .next t ∧ FMap.get 0 t.modeCtl.openWait (unitId cls idx) = k + 1) ∧
      (s.modeCtl.at0 + k * (25 * s.rd MODE_CTL.ACK_TO) ≤ s.now → s.rd MODE_CTL.RETRY < k →
        ∃ t, exec (.modeOpenResend cls idx false) s = .next t ∧ t.on MODE_ERR.MISSED = true ∧ FMap.get 0 t.modeCtl.openWait (unitId cls idx) = 0 ∧
          (cls = 1 → t.stState (s.physStall idx) = 7))) ∧
    (∀ cls idx, (scopeUnits 0).contains (cls, idx) = true → s.excluded (cls, idx) = false → FMap.get 0 s.modeCtl.openWait (unitId cls idx) = 0 →
      s.unitGen (cls, idx) ≠ s.rd MODE_GEN.CUR →
      ∃ t, exec (.unitCatchup cls idx) s = .next t ∧ t.unitGen (cls, idx) = s.rd MODE_GEN.CUR ∧
        t.rd MODE_CATCHUP_CNT.V = (s.rd MODE_CATCHUP_CNT.V + 1) % 2 ^ 64)

/-- A trigger for a stall that is not queued puts it behind the queue: CAL_STAT.QUEUED advances and its RUN is 1 if it was 0; a trigger for a stall that is queued changes nothing. A due period queues its stall. A withdrawn run leaves the queue. A re-estimate sets T_ref of the row to its temperature and every stock group of it to fast mode, and is counted. A start takes the first stall queued whose run may start: RUN is 2, or 3 when all its groups are withdrawn; GAP_LIMIT ms later it changes to BLOCK mode. Each start queues the replays of its run at the inspector. Once the slots of a group are struck and its replays have ended, its ledger rows being to hand, a fit without a column that needs repair is kept until the last group is fitted; then the run commits: its group serves, COUNT and CAL_RUN_CNT advance, RUN is 5. -/
def Obligations.CalibrationCommandsComplete : Prop :=
  ∀ (s : State),
    (∀ who row stall sid, s.memOpen who = true → whoAdmin who = true → stallOk row stall = true → stallId row stall = sid →
      (s.cal.queue.contains sid = false →
        ∃ t, exec (.calibrationQueue who row stall) s = .next t ∧ t.cal.queue = s.cal.queue ++ [sid] ∧
          t.rd CAL_STAT.QUEUED = (s.rd CAL_STAT.QUEUED + 1) % 2 ^ 13 ∧
          t.rd CAL_STALL_STAT.RUN sid = (if s.rd CAL_STALL_STAT.RUN sid = 0 then 1 else s.rd CAL_STALL_STAT.RUN sid)) ∧
      (s.cal.queue.contains sid = true →
        (∃ t, exec (.calibrationQueue who row stall) s = .next t ∧ t.cal = s.cal ∧ t.regs = s.squareRuns.regs) ∧
        ∃ t, exec (.calibrationWithdraw who row stall) s = .next t ∧ t.cal.queue = s.cal.queue.erase sid ∧
          t.rd CAL_STAT.QUEUED = (s.cal.queue.length - 1) % 2 ^ 13 ∧
          t.rd CAL_STALL_STAT.RUN sid = (if s.rd CAL_STALL_STAT.RUN sid = 1 then 0 else s.rd CAL_STALL_STAT.RUN sid))) ∧
    (∀ row stall sid, stallOk row stall = true → stallId row stall = sid → FMap.get 0 s.cal.commitAt sid ≠ 0 → s.rd CAL_CTL.PERIOD ≠ 0 →
      FMap.get 0 s.cal.commitAt sid - 1 + 1757813 * s.rd CAL_CTL.PERIOD ≤ s.rd WDN_ROUND.V → s.cal.queue.contains sid = false →
      ∃ t, exec (.periodicCalibration row stall) s = .next t ∧ t.cal.queue = s.cal.queue ++ [sid] ∧
        t.rd CAL_STAT.QUEUED = (s.rd CAL_STAT.QUEUED + 1) % 2 ^ 13) ∧
    (∀ who row, s.memOpen who = true → whoAdmin who = true → rowOk row = true →
      ∃ t, exec (.referenceReestimate who row) s = .next t ∧ t.rd CAL_REEST_CNT.V = (s.rd CAL_REEST_CNT.V + 1) % 2 ^ 64 ∧
        (t.row row).tref = s.rowTemp row ∧ t.rd CAL_ROW_TEMP.REF row = patternOf 16 (s.rowTemp row) ∧
        ∀ p g, p < 33 → g < 4 → (t.group (groupId (stallId row p) g)).fastLeft = 64) ∧
    (∀ sid, s.rd WDN_STAT.THERM < 3 → s.rd WDN_RST_CAUSE.STATE ≠ 5 → s.cal.queue.find? s.calMay = some sid → sid < 12288 →
      ∃ t, exec .calibrationRunStart s = .next t ∧ t.cal.queue = s.cal.queue.erase sid ∧ t.jobs.length = s.jobs.length + (s.calReplays sid).length ∧ (FMap.get CalRun.init t.cal.runs sid).startAt = s.now ∧
        t.rd CAL_STAT.ACTIVE = (s.rd CAL_STAT.ACTIVE + 1) % 2 ^ 8 ∧
        t.rd CAL_STALL_STAT.RUN sid = (if ((List.range 4).all fun g => (s.group (groupId sid g)).withdrawn) = true then 3 else 2)) ∧
    (∀ row stall sid, stallOk row stall = true → stallId row stall = sid → s.rd CAL_STALL_STAT.RUN sid = 2 →
      (FMap.get CalRun.init s.cal.runs sid).startAt + 25000 * s.rd CAL_CTL.GAP_LIMIT ≤ s.now →
      ∃ t, exec (.blockModeSwitch row stall) s = .next t ∧ t.rd CAL_STALL_STAT.RUN sid = 3 ∧ (t.stall sid).calBlock = true ∧
        (t.stall sid).drains.contains .cal = true) ∧
    (∀ row stall sid group r, stallOk row stall = true → stallId row stall = sid → group < 4 → s.calActive sid = true →
      FMap.get CalRun.init s.cal.runs sid = r → r.lost.contains group = false → (r.fits.any fun f => f.group == group) = false →
      s.calNeed sid * ((r.fits.filter fun f => decide (f.group < 4)).length + r.lost.length + 1) ≤ r.slots →
      (∀ j ∈ s.jobs, j.ofRun = true → j.stall = sid → j.group ≠ group) → s.tileValid sid group = true →
      (∀ fit, fit.cols.all s.colOk = true →
        ∃ t, exec (.calibrationFit row stall group fit) s = .next t ∧ t.rd TAL_SIGMA.SIGMA (groupId sid group) = min fit.sigma 65535 ∧
          (if ((List.range 4).all fun g => g == group || r.lost.contains g || r.fits.any fun f => f.group == g) = true
           then t.rd CAL_RUN_CNT.V = (s.rd CAL_RUN_CNT.V + 1) % 2 ^ 64 ∧ t.rd CAL_STALL_STAT.COUNT sid = (s.rd CAL_STALL_STAT.COUNT sid + 1) % 2 ^ 32 ∧
             t.rd CAL_STALL_STAT.RUN sid = 5 ∧ (t.group (groupId sid group)).withdrawn = false ∧ FMap.get CalRun.init t.cal.runs sid = CalRun.init
           else t.rd CAL_RUN_CNT.V = s.rd CAL_RUN_CNT.V ∧ ((FMap.get CalRun.init t.cal.runs sid).fits.any fun f => f.group == group) = true)))

/-- A write of CAL_REPAIR_DATA with VALID = 1 for a spare that is not fused, and a logical index that has no spare yet, maps it: VALID and PENDING read 1 and the spare of its kind is counted; VALID = 0 frees the spare. Substitution with the spare in SPARE_IDLE and tests 1 to 3 passed makes the spare serve the stall: it is counted and queued for calibration; without a MODE RECORD before it, the spare is then in RUN and the stall in FAULT. Otherwise NO_SPARE_STALL is set. With FUSE_EN = 1 and the stall of CAL_SEL SHUTTERED, each of its soft repairs is burned and counted; else BST_ERR.FUSE is set. Positions that have waited SHUT_WAIT ms for a tile no longer wait, and their sequences end. -/
def Obligations.RepairCommandsComplete : Prop :=
  ∀ (s : State),
    (∀ who val raw sel, s.memOpen who = true → whoAdmin who = true → (s.getReg CAL_REPAIR_SEL 0).toNat = raw →
      repairSel (selStall raw) (bitsOf raw 14 2) (bitsOf raw 16 3) (bitsOf raw 19 1) (bitsOf raw 20 5) = sel →
      stallOk (bitsOf raw 0 8) (bitsOf raw 8 6) = true → (bitsOf raw 19 1 = 1 ∨ bitsOf raw 20 5 < 16) → s.fusedAt sel = false →
      (bitAt val 10 = true → s.mapped sel (bitsOf val 0 10) = false →
        ∃ t, exec (.repairAssign who val) s = .next t ∧ t.repairAt sel = bitsOf val 0 10 + 2 ^ 10 + 2 ^ 12 ∧
          (if bitsOf raw 19 1 = 1 then t.rd CAL_SPARE_COL_CNT.V = (s.rd CAL_SPARE_COL_CNT.V + 1) % 2 ^ 64 ∧ t.rd CAL_SPARE_ROW_CNT.V = s.rd CAL_SPARE_ROW_CNT.V
           else t.rd CAL_SPARE_ROW_CNT.V = (s.rd CAL_SPARE_ROW_CNT.V + 1) % 2 ^ 64 ∧ t.rd CAL_SPARE_COL_CNT.V = s.rd CAL_SPARE_COL_CNT.V)) ∧
      (bitAt val 10 = false → ∃ t, exec (.repairAssign who val) s = .next t ∧ t.repairAt sel = bitsOf val 0 10 ∧ t.regs = s.squareRuns.regs)) ∧
    (∀ who row stall, s.memOpen who = true → whoAdmin who = true → stallOk row stall = true →
      (stall < 32 → (s.row row).subst = none → s.stState (stallId row 32) = stSpareIdle → (∀ k, k = 1 ∨ k = 2 ∨ k = 3 → (stallId row 32, k) ∈ s.cal.passed) →
        ∃ t, exec (.spareStallSubstitute who row stall) s = .next t ∧ (t.row row).subst = some stall ∧
          t.rd CAL_SUBST_CNT.V = (s.rd CAL_SUBST_CNT.V + 1) % 2 ^ 64 ∧ t.cal.queue.contains (stallId row 32) = true ∧
          (s.modeCtl.image = [] → t.stState (stallId row 32) = stRun ∧ t.stState (stallId row stall) = stFault)) ∧
      (stall = 32 ∨ (s.row row).subst ≠ none ∨ s.stState (stallId row 32) ≠ stSpareIdle ∨ (∃ k, (k = 1 ∨ k = 2 ∨ k = 3) ∧ (stallId row 32, k) ∉ s.cal.passed) →
        ∃ t, exec (.spareStallSubstitute who row stall) s = .next t ∧ t.on CAL_ERR.NO_SPARE_STALL = true ∧ t.rows = s.rows ∧
          t.rd CAL_SUBST_CNT.V = s.rd CAL_SUBST_CNT.V)) ∧
    (∀ who sid, s.memOpen who = true → whoAdmin who = true → stallId (s.rd CAL_SEL.ROW) (s.rd CAL_SEL.STALL) = sid →
      (s.on BST_POLICY.FUSE_EN = true → s.stState sid = stShuttered →
        ∃ t, exec (.fuseBurn who) s = .next t ∧ t.cal.fuses = s.cal.fuses ++ s.softRepairs sid ∧
          t.rd BST_FUSE_CNT.V = (s.rd BST_FUSE_CNT.V + (s.softRepairs sid).length) % 2 ^ 64 ∧ (∀ r ∈ s.softRepairs sid, r ∉ t.cal.log)) ∧
      (s.on BST_POLICY.FUSE_EN = false ∨ s.stState sid ≠ stShuttered →
        ∃ t, exec (.fuseBurn who) s = .next t ∧ t.on BST_ERR.FUSE = true ∧ t.cal = s.cal)) ∧
    (∀ row w, rowOk row = true → w ∈ (s.row row).shutFor → s.stillShut w = true → w.since + 25000 * s.rd BST_POLICY.SHUT_WAIT ≤ s.now →
      ∃ t, exec (.shutWaitTimeout row) s = .next t ∧ w ∉ (t.row row).shutFor ∧ (w.seq ≠ 0xFFFF → (t.seq w.seq).live = false))

/-- A request of a converter or crate line test, and with INSPECT_SERVE = 1 one of a logic or memory test, is taken when no request is in hand, and queues behind it otherwise; TEST = 5 queues tests 1 to 3. With INSPECT_SERVE = 0 a logic or memory test of a unit that is not a spare in SPARE_IDLE is deferred: counted, with BST_ERR.DEFER. A withdrawal drops the deferred requests of its unit. A deferred request whose unit no READY slot names any more joins the queue. When the running test ends it is counted: passed, BST_STAT.STATE is 5; failed, it is 6, counted as failed with BST_ERR.FAIL. The logic test leaves its signature in BST_RESULT. -/
def Obligations.SelfTestCommandsComplete : Prop :=
  ∀ (s : State),
    (∀ who kind index stall, s.memOpen who = true → whoAdmin who = true → (⟨1, kind, index, if kind = 0 then stall else 0⟩ : TestReq).ok = true →
      let req (n : Nat) : TestReq := ⟨n, kind, index, if kind = 0 then stall else 0⟩
      let cmd (n : Nat) : Instr := if n = 1 then .selfTestLogic who kind index stall else if n = 2 then .selfTestMemory who kind index stall
        else if n = 3 then .selfTestConverter who kind index stall else .crateLineTest who kind index stall
      (∀ n, 1 ≤ n → n ≤ 4 → (n = 3 ∨ n = 4 ∨ s.on BST_POLICY.INSPECT_SERVE = true) → s.cal.waiting.length < 255 →
        (s.cal.testing ≠ none → ∃ t, exec (cmd n) s = .next t ∧ t.cal.testing = s.cal.testing ∧ t.cal.waiting = s.cal.waiting ++ [req n] ∧
          t.rd BST_STAT.QUEUED = s.cal.waiting.length + 1) ∧
        (s.cal.testing = none → s.cal.waiting = [] → s.closingTest (req n) = false →
          ∃ t, exec (cmd n) s = .next t ∧ t.cal.testing = some (req n) ∧ t.cal.waiting = [] ∧ (n = 3 ∨ n = 4 → t.rd BST_STAT.STATE = 2))) ∧
      (∀ n, n = 1 ∨ n = 2 → s.on BST_POLICY.INSPECT_SERVE = false → (kind = 0 → s.stState (stallId index stall) ≠ stSpareIdle) →
        ∃ t, exec (cmd n) s = .next t ∧ t.cal.deferred = s.cal.deferred ++ [req n] ∧ t.cal.waiting = s.cal.waiting ∧
          t.rd BST_DEFER_CNT.V = (s.rd BST_DEFER_CNT.V + 1) % 2 ^ 64 ∧ t.on BST_ERR.DEFER = true) ∧
      (s.on BST_POLICY.INSPECT_SERVE = true → s.cal.waiting.length < 253 → s.cal.testing ≠ none →
        ∃ t, exec (.selfTestAll who kind index stall) s = .next t ∧ t.cal.waiting = s.cal.waiting ++ [req 1, req 2, req 3])) ∧
    (∀ who kind index stall, s.memOpen who = true → whoAdmin who = true →
      ∃ t, exec (.selfTestWithdraw who kind index stall) s = .next t ∧
        t.cal.deferred = s.cal.deferred.filter (fun x => !(x.kind == kind && x.index == index && (kind != 0 || x.stall == stall))) ∧
        t.cal.testing = s.cal.testing ∧ t.cal.waiting = s.cal.waiting) ∧
    (∀ x, s.cal.deferred.find? (fun x => !s.slotNames x) = some x → s.cal.waiting.length < 255 →
      (s.cal.testing ≠ none → ∃ t, exec .selfTestDeferredStart s = .next t ∧ t.cal.deferred = s.cal.deferred.erase x ∧ t.cal.waiting = s.cal.waiting ++ [x]) ∧
      (s.cal.testing = none → s.cal.waiting = [] → s.closingTest x = false →
        ∃ t, exec .selfTestDeferredStart s = .next t ∧ t.cal.deferred = s.cal.deferred.erase x ∧ t.cal.testing = some x)) ∧
    (∀ x o, s.cal.testing = some x → x.ok = true → s.rd BST_STAT.STATE = 2 →
      ∃ t, exec (.selfTestDone o) s = .next t ∧ t.rd BST_RUN_CNT.V = (s.rd BST_RUN_CNT.V + 1) % 2 ^ 64 ∧
        (x.test = 1 → t.rd BST_RESULT.MISR = o.misr % 2 ^ 64) ∧
        (if x.passes o = true then t.rd BST_FAIL_CNT.V = s.rd BST_FAIL_CNT.V ∧ (s.cal.waiting = [] → t.cal.testing = none ∧ t.rd BST_STAT.STATE = 5)
         else t.rd BST_FAIL_CNT.V = (s.rd BST_FAIL_CNT.V + 1) % 2 ^ 64 ∧ t.on BST_ERR.FAIL = true ∧
           (s.cal.waiting = [] → t.cal.testing = none ∧ t.rd BST_STAT.STATE = 6)))

/-- A slow round whose 51,200 cycles have passed is counted; every valid reading is recorded and every other sensor is not VALID; each row's level and, with THR_EN = 1, its duty follow R492 and R493. A reading of 120 C trips, and during STOPPING what else R496 names; one of 115 C begins an orderly stop, which is counted. A chain read during STOPPING records its readings. The stop ends 125,000 cycles after s0 with every stall that is not SHUTTERED or in FAULT in bias-off: STOPPED when every regulator acknowledged, else tripped. 204,800 cycles without a chain read trip, and so does the loss of CLK_AO. A trip sets THERM to 5, asserts THERMTRIP_N and sends OPERATION off to every enabled regulator. When CLK_AO returns, fault code 2 is written and OPERATION off is sent again. -/
def Obligations.WardenRoundAndStopsComplete : Prop :=
  ∀ (s : State),
    (∀ r, s.boot.powered = true → s.warden.clkLost = false → s.warden.roundAt + 51200 ≤ s.now →
      ∃ t, exec (.wardenRound r) s = .next t ∧ t.rd WDN_ROUND.V = (s.rd WDN_ROUND.V + 1) % 2 ^ 64 ∧
        t.warden.roundAt = s.warden.roundAt + 51200 ∧ t.warden.chainAt = t.warden.roundAt ∧
        (∀ k, k < 400 → (readingOf r.temps k = none → t.on WDN_THERM_DATA.VALID k = false) ∧
          ∀ x, readingOf r.temps k = some x → t.on WDN_THERM_DATA.VALID k = true ∧ t.rd WDN_THERM_DATA.TEMP k = patternOf 16 x) ∧
        (∀ k x, k < 192 → rowReading r.temps k = some x → FMap.get 0 t.level k = nextLevel (FMap.get 0 s.level k) x ∧
          (s.on WDN_CTL.THR_EN = true → FMap.get 0 t.duty k = nextDuty (FMap.get 0 s.level k) (FMap.get 0 s.duty k) x)) ∧
        ((tripDue r.temps || (s.rd WDN_STAT.THERM == 3 && s.stoppingTrip r.temps)) = true → s.warden.trip = false → t.rd WDN_STAT.THERM = 5 ∧ t.thermtripN = true) ∧
        (tripDue r.temps = false → (∃ k x, k < 400 ∧ readingOf r.temps k = some x ∧ 1150 ≤ x) → s.rd WDN_STAT.THERM < 3 →
          t.rd WDN_STAT.THERM = 3 ∧ t.warden.stopAt = some s.now ∧ t.rd WDN_STOP_CNT.V = (s.rd WDN_STOP_CNT.V + 1) % 2 ^ 64)) ∧
    (∀ temps, s.rd WDN_STAT.THERM = 3 → s.warden.chainAt + 3328 ≤ s.now →
      ∃ t, exec (.stoppingChainRead temps) s = .next t ∧ t.warden.chainAt = s.now ∧
        (∀ k x, k < 400 → readingOf temps k = some x → t.rd WDN_THERM_DATA.TEMP k = patternOf 16 x) ∧
        (if (tripDue temps || s.stoppingTrip temps) = true then s.warden.trip = false → t.rd WDN_STAT.THERM = 5 ∧ t.thermtripN = true
         else t.rd WDN_STAT.THERM = 3 ∧ t.warden.trip = s.warden.trip)) ∧
    (∀ t0, s.warden.stopAt = some t0 → s.rd WDN_STAT.THERM = 3 → t0 + 125000 ≤ s.now →
      (∃ t, exec (.orderlyStopComplete true) s = .next t ∧ t.rd WDN_STAT.THERM = 4 ∧ t.warden.stopAt = none ∧
        (∀ row pos, row < 192 → pos < 33 → t.stState (stallId row pos) =
          (if s.stState (stallId row pos) = stShuttered ∨ s.stState (stallId row pos) = stFault then s.stState (stallId row pos) else stBiasOff)) ∧
        (∀ k, k < 196 → FMap.get 0 t.sleep k = 0) ∧ ∀ v ∈ s.regsOf [0, 1, 2, 3, 4, 5, 6, 7, 9], .pmbus v 1 0 ∈ t.outbox) ∧
      (s.warden.trip = false → ∃ t, exec (.orderlyStopComplete false) s = .next t ∧ t.rd WDN_STAT.THERM = 5 ∧ t.thermtripN = true)) ∧
    (s.boot.powered = true → s.warden.chainAt + 204800 ≤ s.now → s.warden.trip = false →
      ∃ t, exec .tripCounterExpiry s = .next t ∧ t.rd WDN_STAT.THERM = 5 ∧ t.thermtripN = true ∧
        t.rd WDN_FLOG_DATA.CODE (s.rd WDN_FLOG_HEAD.NEXT) = 2 ∧ ∀ v ∈ s.regsOf (List.range 16), .pmbus v 1 0 ∈ t.outbox) ∧
    (s.boot.powered = true → ∃ t, exec .clkAoLoss s = .next t ∧ t.warden.clkLost = true ∧ t.rd WDN_STAT.THERM = 5 ∧ t.thermtripN = true ∧
      (s.boot.held = false → t.faultN = true)) ∧
    (s.warden.clkLost = true → ∃ t, exec .clkAoReturn s = .next t ∧ t.warden.clkLost = false ∧
      t.rd WDN_FLOG_DATA.CODE (s.rd WDN_FLOG_HEAD.NEXT) = 2 ∧ ∀ v ∈ s.regsOf (List.range 16), .pmbus v 1 0 ∈ t.outbox)

/-- A restart of a STOPPED device with RESTART_OK = 1 resets the device with CAUSE 4, clears THERM and turns the regulators of R560 on again from the first; otherwise WDN_ERR.RESTART is set. A rail that takes too long is faulted and the next follows. A set-point within the window of the selected regulator is stored and waits to be sent; another sets WDN_ERR.VSET and VR_NO. A triggered pass takes the channels of the scan mask, or the entries of the main path. A result lands in the result file and in WDN_MON_DATA; one that was not read is counted. A kick restarts the watchdog and takes PERIOD. An expiry puts the device in FAULT with code 4, a failed bridge with code 6: STATE is 5, no Cartway port is UP, and the fault log takes the code. -/
def Obligations.WardenCommandsComplete : Prop :=
  ∀ (s : State),
    (∀ who, (who = .i3c ∨ (who = .func 0 ∧ s.memOpen who = true)) →
      (s.regsWf → s.rd WDN_STAT.THERM = 4 → s.on WDN_STAT.RESTART_OK = true →
        ∃ t, exec (.restart who) s = .next t ∧ t.rd WDN_STAT.THERM = 0 ∧ t.on WDN_STAT.RESTART_OK = false ∧ t.rd WDN_RST_CAUSE.CAUSE = 4 ∧
          t.rd WDN_RST_CAUSE.STATE = 0 ∧ t.boot.held = true ∧ t.warden.rails = s.restartRails ∧ t.level = [] ∧
          ∀ v, s.restartRails.head? = some v → .pmbus v 1 0x80 ∈ t.outbox) ∧
      (s.rd WDN_STAT.THERM ≠ 4 ∨ s.on WDN_STAT.RESTART_OK = false →
        ∃ t, exec (.restart who) s = .next t ∧ t.on WDN_ERR.RESTART = true ∧ t.rd WDN_STAT.THERM = s.rd WDN_STAT.THERM ∧ t.boot = s.boot)) ∧
    (∀ v rest, s.warden.rails = v :: rest → v < 16 → s.warden.railAt + 500000 ≤ s.now →
      ∃ t, exec .restartRailTimeout s = .next t ∧ t.warden.rails = rest ∧ t.warden.railAt = s.now ∧ t.on WDN_VR_STAT.FAULT v = true ∧
        ∀ w, rest.head? = some w → .pmbus w 1 0x80 ∈ t.outbox) ∧
    (∀ who val v, s.memOpen who = true → whoAdmin who = true → s.rd WDN_VR_SEL.VR = v →
      (s.rd WDN_VR_CFG.VMIN v ≤ val % 65536 → val % 65536 ≤ s.rd WDN_VR_CFG.VMAX v →
        ∃ t, exec (.vsetWrite who val) s = .next t ∧ t.rd WDN_VR_VSET.MV v = val % 65536 ∧
          t.warden.vset = (if s.on WDN_VR_CFG.EN v = true then s.warden.vset ++ [(v, val % 65536)] else s.warden.vset)) ∧
      (val % 65536 < s.rd WDN_VR_CFG.VMIN v ∨ s.rd WDN_VR_CFG.VMAX v < val % 65536 →
        ∃ t, exec (.vsetWrite who val) s = .next t ∧ t.on WDN_ERR.VSET = true ∧ t.rd WDN_ERR.VR_NO = v ∧ t.warden.vset = s.warden.vset ∧
          t.rd WDN_VR_VSET.MV v = s.rd WDN_VR_VSET.MV v)) ∧
    (∀ who, s.memOpen who = true → whoAdmin who = true → s.rd WDN_MON_CTL.TRIG = 2 → s.warden.pass = [] →
      ∃ t, exec (.monitorPassStart who) s = .next t ∧ t.on WDN_STAT.MON_LP = s.monLow ∧
        (s.on WDN_MON_CTL.MODE = true → t.warden.pass = s.scanPass s.monLow) ∧
        (s.on WDN_MON_CTL.MODE = false → s.rd WDN_MON_CTL.LEN = 0 ∨ (∃ k, k < s.rd WDN_MON_CTL.LEN ∧ monReserved (s.rd WDN_SEQ.CH k) = true) →
          t.warden.pass = s.scanPass s.monLow ∧ t.on WDN_ERR.SEQ = true) ∧
        (s.on WDN_MON_CTL.MODE = false → s.rd WDN_MON_CTL.LEN ≠ 0 → (∀ k, k < s.rd WDN_MON_CTL.LEN → monReserved (s.rd WDN_SEQ.CH k) = false ∧
            (s.on WDN_SEQ.SIM k = true → monReserved (s.rd WDN_SEQ.CH2 k) = false)) →
          t.warden.pass = s.seqPass s.monLow (s.rd WDN_MON_CTL.LEN))) ∧
    (∀ code code2 inTol c rest, s.warden.pass = c :: rest → c.ch < 64 → (∀ n, c.sim = some n → n < 64) →
      ∃ t, exec (.monitorResult code code2 inTol) s = .next t ∧ t.on WDN_MON_DATA.VALID = true ∧ t.rd WDN_MON_DATA.CH = c.ch ∧
        t.rd WDN_MON_DATA.CODE = (if monReserved c.ch = true then 0 else code % 4096) ∧ t.on WDN_MON_DATA.SIM = c.sim.isSome ∧
        t.on WDN_MON_CH.VALID c.ch = true ∧ (c.sim = none → t.rd WDN_MON_CH.CODE c.ch = (if monReserved c.ch = true then 0 else code % 4096)) ∧
        (rest ≠ [] ∨ s.rd WDN_MON_CTL.TRIG ≠ 1 → t.warden.pass = rest) ∧
        t.rd WDN_MON_OVR_CNT.V = (s.rd WDN_MON_OVR_CNT.V + (if s.on WDN_MON_DATA.VALID = true then 1 else 0)) % 2 ^ 64 ∧
        (∀ v rails, s.warden.rails = v :: rails → v < 16 → inTol.1 = true → railChannel (s.rd WDN_VR_CFG.RAIL v) = c.ch →
          t.warden.rails = rails)) ∧
    (∀ who val, s.memOpen who = true → (∀ f, who = .func f → f = 0) →
      ∃ t, exec (.watchdogKick who val) s = .next t ∧ t.warden.kickRound = s.rd WDN_ROUND.V ∧
        t.rd WDN_WDOG.PERIOD = (if val % 256 = 0 ∧ who ≠ .func 0 then s.rd WDN_WDOG.PERIOD else val % 256)) ∧
    (∀ c code, (c = .watchdogExpiry ∧ code = 4 ∧ s.dogRuns = true ∧ s.warden.kickRound + s.rd WDN_WDOG.PERIOD ≤ s.rd WDN_ROUND.V) ∨
        ((∃ n, c = .bridgeFlitFailure n ∧ 8 ≤ n) ∧ code = 6 ∧ s.rd WDN_RST_CAUSE.STATE = 1) →
      ∃ t, exec c s = .next t ∧ t.rd WDN_RST_CAUSE.STATE = 5 ∧ (t.boot.held = false → t.faultN = true) ∧ (∀ p, p < 8 → t.portUp p = false) ∧
        .aer 0 1 ∈ t.outbox ∧ t.rd WDN_FLOG_DATA.CODE (s.rd WDN_FLOG_HEAD.NEXT) = code)

/-- With LOCK = 1 a commit raises the fused versions to those now running; with LOCK = 0 it sets SEC_ERR.SVN and they stay. With KEY_HOST = 1 a key word is staged, and an install takes the four words, least significant first, as the key of the function or of an EMPTY slot, shows it installed, and clears the four words; a tenant key closes the session of its function. With KEY_HOST = 0, and for a slot that is not EMPTY, SEC_ERR.KEY is set and no key changes. A clear takes the key away whatever KEY_HOST is, a model key only from an EMPTY slot. -/
def Obligations.KeyAndVersionCommandsComplete : Prop :=
  ∀ (s : State) (who : Who), s.memOpen who = true → whoAdmin who = true →
    (∃ t, exec (.svnCommit who) s = .next t ∧
      (if s.on SEC_STAT.LOCK = true then t.rd SEC_STAT.CH_SVN = max (s.rd SEC_STAT.CH_SVN) s.charter.svn % 128 ∧
          t.rd SEC_STAT.FW_SVN = max (s.rd SEC_STAT.FW_SVN) s.charter.fwSvn % 128
       else t.on SEC_ERR.SVN = true ∧ t.getReg SEC_STAT 0 = s.getReg SEC_STAT 0)) ∧
    (∀ idx val, idx < 4 → ∃ t, exec (.keyDataWrite who idx val) s = .next t ∧
      (if s.charter.keyHost = true then t.sec.data = s.sec.data.set idx (val % 2 ^ 64) else t.on SEC_ERR.KEY = true ∧ t.sec = s.sec)) ∧
    (∀ f, f < 64 → ∃ t, exec (.tenantKeyInstall who f) s = .next t ∧
      (if s.charter.keyHost = true then FMap.get 0 t.sec.tkeys f = s.stagedKey % 2 ^ 256 ∧ t.hasKey f = true ∧ t.sec.data = [0, 0, 0, 0] ∧
          t.on TEN_SESSION.OPEN f = false
       else t.on SEC_ERR.KEY = true ∧ t.rd SEC_ERR.FUNC = f ∧ t.sec = s.sec)) ∧
    (∀ m, m < 16 → ∃ t, exec (.modelKeyInstall who m) s = .next t ∧
      (if s.charter.keyHost = true ∧ s.slState m = slEmpty then FMap.get 0 t.sec.mkeys m = s.stagedKey % 2 ^ 256 ∧ bitAt (t.rd SEC_MKEY_STAT.V) m = true ∧
          t.sec.data = [0, 0, 0, 0]
       else t.on SEC_ERR.KEY = true ∧ t.sec = s.sec)) ∧
    (∀ f, f < 64 → ∃ t, exec (.tenantKeyClear who f) s = .next t ∧ FMap.get 0 t.sec.tkeys f = 0 ∧ t.hasKey f = false ∧ t.on TEN_SESSION.OPEN f = false) ∧
    (∀ m, m < 16 → ∃ t, exec (.modelKeyClear who m) s = .next t ∧
      (if s.slState m = slEmpty then FMap.get 0 t.sec.mkeys m = 0 ∧ bitAt (t.rd SEC_MKEY_STAT.V) m = false
       else t.on SEC_ERR.KEY = true ∧ t.sec = s.sec))

/-- On a transport that is answered: GET_VERSION begins negotiation, and capabilities and algorithms follow in order; a request before the negotiation is complete has an ERROR response with SEC_ERR.SPDM. Digests and certificate portions are those of the slots' chains; a challenge and a signed measurement carry signatures and nonces that are free values. KEY_EXCHANGE opens a session in handshake, the fifth is refused; FINISH completes it and is counted, or ends it. In a session, HEARTBEAT is answered, KEY_UPDATE counts an update of its keys, END_SESSION closes it, and keys are installed. A chain of at most 8,192 bytes is stored in slot 1 to 3. That nonces, signatures and exchange values are free, and the codes of errors, are the model's (log entries 3 and 25). -/
def Obligations.SpdmCommandsComplete : Prop :=
  ∀ (s : State) (port : Nat), spdmOpen s port = true →
    (∃ t, exec (.getVersion port) s = .next t ∧ t.spdmStage port = 1 ∧ t.outbox = s.outbox ++ [.spdm 0x04 [0x13]]) ∧
    (∃ t, exec (.getCapabilities port) s = .next t ∧
      (if s.spdmStage port = 1 then t.spdmStage port = 2 ∧ t.outbox = s.outbox ++ [.spdm 0x61 [4096]]
       else t.on SEC_ERR.SPDM = true ∧ t.sec = s.sec ∧ t.outbox = s.outbox ++ [.spdm 0x7F [4]])) ∧
    (∀ p h d g, ∃ t, exec (.negotiateAlgorithms port p h d g) s = .next t ∧
      (if s.spdmStage port = 2 ∧ (p && h && d && g) = true then t.spdmStage port = 3 ∧ t.outbox = s.outbox ++ [.spdm 0x63 []]
       else t.on SEC_ERR.SPDM = true ∧ t.sec = s.sec)) ∧
    (s.spdmStage port ≠ 3 → ∀ c ∈ [Instr.getDigests port, .getCsr port, .heartbeat port 1, .keyExchange port 0, .challenge port 0],
      ∃ t, exec c s = .next t ∧ t.on SEC_ERR.SPDM = true ∧ t.sec = s.sec ∧ t.outbox = s.outbox ++ [.spdm 0x7F [4]]) ∧
    (s.spdmStage port = 3 →
      (∃ t, exec (.getDigests port) s = .next t ∧ t.outbox = s.outbox ++ [.spdm 0x01
        (((((List.range 4).filter fun k => k == 0 || !(s.chain k).isEmpty).map fun k => 2 ^ k).sum) ::
          ((List.range 4).filter fun k => k == 0 || !(s.chain k).isEmpty).map fun k => beNat (sha512 (s.chain k)))]) ∧
      (∀ slot off len, slot < 4 → off < (s.chain slot).length →
        ∃ t, exec (.getCertificate port slot off len) s = .next t ∧
          ∀ p, ((s.chain slot).drop off).take (min len 4088) = p →
            t.outbox = s.outbox ++ [.spdm 0x02 (slot :: p.length :: ((s.chain slot).length - off - p.length) :: p.map BitVec.toNat)]) ∧
      (∀ slot, slot < 4 → (slot = 0 ∨ s.chain slot ≠ []) →
        (∃ t, exec (.challenge port slot) s = .next t ∧ t.free = s.free + 2 ∧
          t.outbox = s.outbox ++ [.spdm 0x03 [slot, beNat (sha512 (s.chain slot)), Config.freeValue s.free, Config.freeValue (s.free + 1)]]) ∧
        (s.sec.sess.length < 4 → ∃ t, exec (.keyExchange port slot) s = .next t ∧ t.sec.sess = s.sec.sess ++ [⟨s.sec.nextSess, port, false, 0⟩] ∧
          t.sec.nextSess = s.sec.nextSess + 1 ∧ t.free = s.free + 2)) ∧
      (∀ slot, 4 ≤ s.sec.sess.length → ∃ t, exec (.keyExchange port slot) s = .next t ∧ t.sec = s.sec ∧ t.outbox = s.outbox ++ [.spdm 0x7F [0x0A]]) ∧
      (∀ index signed, 1 ≤ index → index ≤ 6 → ∃ t, exec (.getMeasurements port index signed) s = .next t ∧
        t.outbox = s.outbox ++ [.spdm 0x60 (index :: s.measure index ++ if signed then [Config.freeValue s.free] else [])]) ∧
      (∀ id, (∃ x ∈ s.sec.sess, x.id = id ∧ x.port = port ∧ x.live = false) →
        (∃ t, exec (.finish port id true) s = .next t ∧ (∃ x ∈ t.sec.sess, x.id = id ∧ x.port = port ∧ x.live = true) ∧
          t.rd SEC_SPDM_SESS_CNT.V = (s.rd SEC_SPDM_SESS_CNT.V + 1) % 2 ^ 64) ∧
        (∃ t, exec (.finish port id false) s = .next t ∧ (∀ x ∈ t.sec.sess, x.id ≠ id) ∧ t.on SEC_ERR.SPDM = true)) ∧
      (∃ t, exec (.getCsr port) s = .next t ∧ t.outbox = s.outbox ++ [.spdm 0x6D [Config.freeValue s.free]] ∧ t.free = s.free + 1) ∧
      (∀ slot chain, 1 ≤ slot → slot < 4 → chain.length ≤ 8192 → ∃ t, exec (.setCertificate port slot chain) s = .next t ∧
        FMap.get [] t.sec.certs slot = chain ∧ ∀ k, k ≠ slot → FMap.get [] t.sec.certs k = FMap.get [] s.sec.certs k) ∧
      (∀ id x, x ∈ s.sec.sess → x.id = id → x.port = port → x.live = true →
        (∃ t, exec (.heartbeat port id) s = .next t ∧ t.sec = s.sec ∧ t.outbox = s.outbox ++ [.spdm 0x68 []]) ∧
        (∀ op, 1 ≤ op → op ≤ 3 → ∃ t, exec (.keyUpdate port id op) s = .next t ∧ { x with keys := x.keys + if op ≤ 2 then 1 else 0 } ∈ t.sec.sess) ∧
        (∃ t, exec (.endSession port id) s = .next t ∧ t.sec.sess = s.sec.sess.filter fun x => x.id != id) ∧
        (∀ f key, f < 64 → ∃ t, exec (.setTenantKey port id f key) s = .next t ∧ FMap.get 0 t.sec.tkeys f = key % 2 ^ 256 ∧ t.hasKey f = true ∧
          t.on TEN_SESSION.OPEN f = false) ∧
        (∀ m key, m < 16 → ∃ t, exec (.setModelKey port id m key) s = .next t ∧
          (if s.slState m = slEmpty then FMap.get 0 t.sec.mkeys m = key % 2 ^ 256 ∧ bitAt (t.rd SEC_MKEY_STAT.V) m = true
           else t.on SEC_ERR.KEY = true ∧ t.sec = s.sec))))

/-- GET_NONCE answers BACKOFF during a backoff, NO_KEY for a function without a key, and else a new nonce, a free value, which is the outstanding one. An OPEN with a good MAC opens a session: any open one closes, NUM advances from 0xFFFF to 1, OPEN is 1, the opening is counted and no failure is left. Any other OPEN is answered with its STATUS, counted as failed, with SEC_ERR.SESSION, and is one failure more. Either way the nonce is gone. CLOSE closes the session of its function. -/
def Obligations.TenantSessionCommandsComplete : Prop :=
  ∀ (s : State) (f : Nat), f < 64 → doeOpen s f = true →
    (∃ t, exec (.getNonce f) s = .next t ∧
      (if 4 ≤ s.openFails f then t.outbox = s.outbox ++ [.tenant f 0x81 [3]] ∧ t.sec = s.sec
       else if s.hasKey f = false then t.outbox = s.outbox ++ [.tenant f 0x81 [1]] ∧ t.sec = s.sec
       else t.outbox = s.outbox ++ [.tenant f 0x81 [0, Config.freeValue s.free % 2 ^ 256]] ∧ t.nonceOf f = some (Config.freeValue s.free % 2 ^ 256) ∧
         t.free = s.free + 1)) ∧
    (∀ nonceT mac st, s.openStatus f nonceT mac = st → ∃ t, exec (.openSession f nonceT mac) s = .next t ∧ t.nonceOf f = none ∧
      (if st = 0 then t.on TEN_SESSION.OPEN f = true ∧ t.rd TEN_SESSION.NUM f = (if s.rd TEN_SESSION.NUM f = 0xFFFF then 1 else s.rd TEN_SESSION.NUM f + 1) ∧
          t.rd SEC_OPEN_CNT.V = (s.rd SEC_OPEN_CNT.V + 1) % 2 ^ 64 ∧ t.openFails f = 0
       else t.outbox = s.outbox ++ [.tenant f 0x82 [st]] ∧ t.rd SEC_OPEN_FAIL_CNT.V = (s.rd SEC_OPEN_FAIL_CNT.V + 1) % 2 ^ 64 ∧
          t.on SEC_ERR.SESSION = true ∧ t.rd SEC_ERR.FUNC = f ∧ t.openFails f = s.openFails f + 1 ∧ t.rd TEN_SESSION.NUM f = s.rd TEN_SESSION.NUM f)) ∧
    (∃ t, exec (.closeSession f) s = .next t ∧ t.on TEN_SESSION.OPEN f = false ∧ t.rd TEN_SESSION.NUM f = s.rd TEN_SESSION.NUM f)

/-- Five clauses, each concluding that exec answers a next state. VDD_AO_LOSS completes on every powered device: what is not volatile is left. COLD_POWER_ON completes on every device without power: it starts from reset values with WDN_COLD_CNT one higher. PERST_N_FALL and PWR_OK_FALL complete on every powered device that is not held in reset, and DEVICE_RESET by the physical function, a clerk or I3C on every device with no reset in progress: each sets CAUSE to 1, 2 or 3 and STATE to START, counts, releases the faults of regulators, returns every register outside the warden's and security blocks to its reset value, empties all work, keeps the warden's other registers and what is not volatile, and holds the device until r0; FAULT_N is released. What the warden's registers read as before is stated for a register file in its canonical form. -/
def Obligations.DeviceResetsComplete : Prop :=
  ∀ (s : State),
    (s.boot.powered = true → ∃ t, exec .vddAoLoss s = .next t ∧ t.boot.powered = false ∧ t.thermtripN = false ∧ blocksReset t ∧ storedKept s t ∧ workGone t ∧
      (s.regsWf → ∀ F ∈ [WDN_FLOG_HEAD.NEXT, WDN_FLOG_HEAD.TOTAL, WDN_COLD_CNT.COUNT], t.rd F = s.rd F)) ∧
    (s.boot.powered = false → ∃ t, exec .coldPowerOn s = .next t ∧ t.boot.powered = true ∧ t.boot.held = true ∧ t.now = 0 ∧ blocksReset t ∧ storedKept s t ∧
      workGone t ∧ t.rd WDN_RST_CAUSE.CAUSE = 0 ∧ (s.regsWf → t.rd WDN_COLD_CNT.COUNT = min (s.rd WDN_COLD_CNT.COUNT + 1) (2 ^ 32 - 1) ∧
        t.rd WDN_FLOG_HEAD.TOTAL = s.rd WDN_FLOG_HEAD.TOTAL)) ∧
    (s.boot.powered = true → s.boot.held = false → ∃ t, exec .perstNFall s = .next t ∧ resetByCause s t 1) ∧
    (s.boot.powered = true → s.boot.held = false → ∃ t, exec .pwrOkFall s = .next t ∧ resetByCause s t 2) ∧
    (∀ who, s.memOpen who = true → (∀ f, who = .func f → f = 0) → s.inAnyReset = false → ∃ t, exec (.deviceReset who) s = .next t ∧ resetByCause s t 3)

/-- With no reset and no mode change in progress, a reset of a quarter, row or stall whose scope has a stall in service asks every stall of the scope that is not SHUTTERED or in FAULT to drain, and waits. With every stall SHUTTERED or in FAULT, and for a quarter no position in its weigh houses, the reset is made at once: each stall that may wake is WAKING, to run 50 cycles later or, for a quarter, 351,000, with its queue empty and its strike counter zero. -/
def Obligations.UnitResetsComplete : Prop :=
  ∀ (s : State) (who : Who) (c : Instr) (u : UnitReset),
    (c = .quarterReset who u.index ∧ u.op = 2 ∧ u.index < 4) ∨ (c = .rowReset who u.index ∧ u.op = 3 ∧ u.index < 192) ∨
      (∃ row stall, c = .stallReset who row stall ∧ u.op = 4 ∧ u.index = stallId row stall ∧ row < 192 ∧ stall < 33) →
    s.memOpen who = true → (∀ f, who = .func f → f = 0) → s.inAnyReset = false → s.rd MODE_STAT.PHASE = 0 →
    (∀ x, x ∈ s.cal.waiting ∨ s.cal.testing = some x → x.ok = true) →
    ((∃ sid ∈ u.stalls, s.stState sid ≠ stShuttered ∧ s.stState sid ≠ stFault ∧ (s.stall sid).drains.contains .rst = false) →
      ∃ t, exec c s = .next t ∧ t.boot.reset = some u ∧
        ∀ sid ∈ u.stalls, s.stState sid ≠ stShuttered → s.stState sid ≠ stFault → (t.stall sid).drains.contains .rst = true) ∧
    ((∀ sid ∈ u.stalls, s.stState sid = stShuttered ∨ s.stState sid = stFault) →
      (∀ h ∈ u.houses, s.countSeqs (fun x => x.wh == h && x.phase != .idle) = 0) →
      ∃ t, exec c s = .next t ∧ t.boot.reset = none ∧
        ∀ sid ∈ u.stalls, (s.row (rowOf sid)).subst ≠ some (posOf sid) → s.noWake (rowOf sid) = false →
          t.stState sid = stWaking ∧ FMap.get 0 t.wakeAt sid = s.now + (if u.op = 2 then 351000 else 50) ∧ (t.stall sid).queue = [] ∧
          t.rd STL_STRIKES.V sid = 0 ∧ sid ∈ t.boot.inReset)

/-- At r0 a powered device held in reset, with its rails on, takes BOOT_SEL by three samples and enters the state that it selects: START, RECOVERY, TEST or FAULT; the selections 0 and 1 begin training on the stacks and the fitted channels. Once training has had its time, each unit is UP, or FAILED after two failures; the first accepted copy of the charter makes the device READY, locked, with its clerks IDLE; with neither it is in FAULT, COPY 3, with fault code 7. In RECOVERY a transfer of 512 to 16,777,216 bytes begins, takes the bytes that follow in order, and at its end, read with no uncorrectable error, makes the device READY with CAUSE 5 and COPY 2 if the copy is accepted, else is REJECTED; a read that meets an uncorrectable error puts the device in FAULT. -/
def Obligations.StartUpCommandsComplete : Prop :=
  ∀ (s : State),
    (∀ a b c fitted sel, bootSel a b c = sel → s.boot.powered = true → s.boot.held = true → s.warden.rails = [] → s.warden.trip = false →
      s.warden.clkLost = false → s.rd WDN_STAT.THERM < 3 →
      (∀ sid k j, Repair.slice sid k j ∈ s.cal.fuses ++ s.cal.log → sid < 12288 ∧ k < 8) → (∀ row p, Repair.stall row p ∈ s.cal.fuses ++ s.cal.log → row < 192 ∧ p < 32) →
      ∃ t, exec (.startUp a b c fitted) s = .next t ∧ t.boot.held = false ∧ t.boot.begun = true ∧ t.boot.r0 = s.now ∧ t.rd SEC_STAT.BOOT_SEL = sel ∧
        t.rd WDN_RST_CAUSE.STATE = (if sel = 0 then 0 else sel + 1) ∧
        (∀ row p, Repair.stall row p ∈ s.cal.fuses ++ s.cal.log → (t.row row).subst.isSome = true ∧ t.stState (stallId row p) = stFault) ∧
        (sel < 2 → (∀ u, u < 20 → t.rd MEM_UNIT_STAT.STATE u = 1) ∧ ∀ c ∈ fitted, c < 16 → t.rd MEM_UNIT_STAT.STATE (20 + c) = 1)) ∧
    (∀ tr copyA copyB, s.boot.held = false → s.boot.begun = true → s.rd WDN_STAT.THERM < 3 → s.trainingDone = true →
      s.rd WDN_RST_CAUSE.STATE = 0 ∨ s.rd WDN_RST_CAUSE.STATE = 2 →
      ∃ t, exec (.startUpReady tr [] copyA copyB) s = .next t ∧
        (∀ u, u < 20 → s.rd MEM_UNIT_STAT.STATE u = 1 →
          t.rd MEM_UNIT_STAT.STATE u = (if 2 ≤ ((tr.fails.find? fun f => f.1 == u).map (·.2)).getD 0 then 4 else 2)) ∧
        (if s.rd WDN_RST_CAUSE.STATE = 2 then t.rd WDN_RST_CAUSE.STATE = 2 ∧ t.charter = s.charter
         else if s.charterAccepted copyA = true ∨ s.charterAccepted copyB = true then
           t.rd WDN_RST_CAUSE.STATE = 1 ∧ t.on SEC_STAT.LOCK = true ∧ t.rd SEC_STAT.COPY = (if s.charterAccepted copyA = true then 0 else 1) ∧
           t.charter.svn = leAt (if s.charterAccepted copyA = true then copyA else copyB) 0xC 4 ∧ t.warden.kickRound = s.rd WDN_ROUND.V ∧
           ∀ k, k < 8 → t.rd EVC_CLK_STAT.STATE k = ckIdle
         else t.rd WDN_RST_CAUSE.STATE = 4 ∧ t.rd SEC_STAT.COPY = 3 ∧ t.charter = s.charter ∧ t.rd WDN_FLOG_DATA.CODE (s.rd WDN_FLOG_HEAD.NEXT) = 7)) ∧
    (doeOpen s 0 = true → s.rd WDN_RST_CAUSE.STATE = 2 →
      (∀ size, ∃ t, exec (.recoveryBegin size) s = .next t ∧
        (if 512 ≤ size ∧ size ≤ 16777216 then t.boot.xfer = some (size, []) ∧ t.outbox = s.outbox ++ [.doe 0 (leBytes 1 0x81 ++ leBytes 1 0 ++ leBytes 2 0)]
         else t.boot = s.boot ∧ t.outbox = s.outbox ++ [.doe 0 (leBytes 1 0x81 ++ leBytes 1 2 ++ leBytes 2 0)])) ∧
      (∀ offset data size got, s.boot.xfer = some (size, got) →
        ∃ t, exec (.recoveryData offset data) s = .next t ∧
          (if offset ≠ got.length then t.boot = s.boot ∧ t.outbox = s.outbox ++ [.doe 0 (leBytes 1 0x82 ++ leBytes 1 1 ++ leBytes 2 0)]
           else if data ≠ [] ∧ data.length ≤ 16376 ∧ got.length + data.length ≤ size then
             t.boot.xfer = some (size, got ++ data) ∧ t.outbox = s.outbox ++ [.doe 0 (leBytes 1 0x82 ++ leBytes 1 0 ++ leBytes 2 0)]
           else t.boot = s.boot ∧ t.outbox = s.outbox ++ [.doe 0 (leBytes 1 0x82 ++ leBytes 1 2 ++ leBytes 2 0)])) ∧
      (∀ copyErr fwErr size got, s.boot.xfer = some (size, got) → copyErr.ue = none → fwErr.ue = none →
        ∃ t, exec (.recoveryEnd copyErr fwErr) s = .next t ∧ t.boot.xfer = none ∧
          (if got.length = size ∧ s.charterAccepted got = true then
             t.rd WDN_RST_CAUSE.STATE = 1 ∧ t.rd WDN_RST_CAUSE.CAUSE = 5 ∧ t.rd SEC_STAT.COPY = 2 ∧ t.on SEC_STAT.LOCK = true ∧
             t.rd WDN_RST_CAUSE.RESETS = (s.rd WDN_RST_CAUSE.RESETS + 1) % 2 ^ 32
           else t.rd WDN_RST_CAUSE.STATE = 2 ∧ t.charter = s.charter ∧
             t.outbox = s.outbox ++ [.doe 0 (leBytes 1 0x83 ++ leBytes 1 3 ++ leBytes 2 0)])) ∧
      (∀ copyErr fwErr size got g, s.boot.xfer = some (size, got) → copyErr.ue.or fwErr.ue = some g →
        ∃ t, exec (.recoveryEnd copyErr fwErr) s = .next t ∧ t.boot.xfer = none ∧ t.rd WDN_RST_CAUSE.STATE = 5 ∧ t.charter = s.charter))

/-- When the slip that is next in order names a function with no open session, or a SESSION that differs from the function's current session number, the operation that would take it refuses it with REASON 14: the slot status says REFUSED, no access to host memory and nothing else leaves the device, and no other slot that holds a defined OP, no sequence, till roll or stream changes. A slip whose OP is not defined is refused so at its seal when no earlier slip is still TAKEN. -/
def Obligations.AbsentOrChangedSessionIsRefused : Prop :=
  ∀ (s : State) (f n : Nat) (b : List Byte), (s.on TEN_SESSION.OPEN f = false ∨ leAt b 4 2 ≠ s.rd TEN_SESSION.NUM f) →
    (∀ op vocab crierVocab, s.taken f n op = some b →
      ∀ c ∈ (if op = 1 then [Instr.generate f n vocab crierVocab] else if op = 2 then [.cancel f n] else if op = 3 then [.streamOpen f n]
        else if op = 4 then [.frame f n] else if op = 5 then [.streamClose f n] else []),
      ∃ t, exec c s = .next t ∧ (t.oslot f n).state = 3 ∧ (t.oslot f n).reason = 14 ∧ t.outbox = s.outbox ∧
        t.seqs = s.seqs ∧ t.rolls = s.rolls ∧ t.paces = s.paces ∧ ∀ g m, (g, m) ≠ (f, n) → (s.oslot g m).opKnown = true → t.oslot g m = s.oslot g m) ∧
    (∀ tin, s.taken f n 6 = some b → ∃ t, exec (.tune f n tin) s = .next t ∧ (t.oslot f n).state = 3 ∧ (t.oslot f n).reason = 14 ∧ t.outbox = s.outbox ∧
      t.tunes = s.tunes ∧ t.seqs = s.seqs ∧ t.rolls = s.rolls) ∧
    (∀ val, f < 64 → n < 256 → val < 2 ^ 64 → s.memOpen (.func f) = true → s.takesWork = true → s.on HOST_FN_STAT.FENCED f = false → s.on HOST_FN_STAT.D3 f = false →
      s.firstTaken = none → (s.oslot f n).bytes = b → bitsOf val 56 8 = 0xA5 → leAt b 0 1 = 0 ∨ 6 < leAt b 0 1 →
      ∃ t, exec (.slipSeal f n val) s = .next t ∧ (t.oslot f n).state = 3 ∧ (t.oslot f n).reason = 14 ∧ t.outbox = s.outbox)

/-- While PHASE is CLOSING, STAGING or OPENING a write of MODE_CMD with OP = 1 is dropped: MODE_ERR.BUSY is set, and PHASE, scope, generations, entries and every unit are as before. A barrier starts all the same. -/
def Obligations.OneModeChangeRunsAtATime : Prop :=
  ∀ (s : State) (who : Who), s.memOpen who = true → whoAdmin who = true → 1 ≤ s.rd MODE_STAT.PHASE → s.rd MODE_STAT.PHASE ≤ 3 →
    (∀ scope rec, scope < 5 → ∃ t, exec (.modeChange who scope rec) s = .next t ∧ t.on MODE_ERR.BUSY = true ∧
      t.rd MODE_STAT.PHASE = s.rd MODE_STAT.PHASE ∧ t.rd MODE_STAT.SCOPE = s.rd MODE_STAT.SCOPE ∧ t.getReg MODE_GEN 0 = s.getReg MODE_GEN 0 ∧
      t.modeCtl = s.modeCtl ∧ t.stalls = s.stalls ∧ ∀ (r : Reg) (i : Nat), unitReg r = true → r.off < 8192 → t.getReg r i = s.getReg r i) ∧
    (s.on MODE_STAT.BARRIER_BUSY = false → ∃ t, exec (.barrier who) s = .next t ∧ t.on MODE_STAT.BARRIER_BUSY = true ∧ t.rd MODE_STAT.PHASE = s.rd MODE_STAT.PHASE)

/-- The trip logic counts from the last chain read that the warden started: a slow round starts it anew at the round's end, and a chain read of an orderly stop at its own time. When 204,800 CLK_AO cycles have passed since, THERMTRIP_N is asserted, whatever else holds; before that the counter does nothing. -/
def Obligations.SilentChainsTrip : Prop :=
  ∀ (s : State),
    (∀ r, s.boot.powered = true → s.warden.clkLost = false → s.warden.roundAt + 51200 ≤ s.now →
      ∃ t, exec (.wardenRound r) s = .next t ∧ t.warden.chainAt = s.warden.roundAt + 51200) ∧
    (∀ temps, s.rd WDN_STAT.THERM = 3 → s.warden.chainAt + 3328 ≤ s.now →
      ∃ t, exec (.stoppingChainRead temps) s = .next t ∧ t.warden.chainAt = s.now) ∧
    (s.boot.powered = true → s.warden.chainAt + 204800 ≤ s.now → ∃ t, exec .tripCounterExpiry s = .next t ∧ t.thermtripN = true ∧
      (s.thermtripN = false → t.rd WDN_STAT.THERM = 5)) ∧
    (s.now < s.warden.chainAt + 204800 → exec .tripCounterExpiry s = .next s)

/-- Every raise of a source that exists adds one to its count, whatever EN is; at 15 the count stays, and OVF and EVC_ERR.OVERFLOW are set. The entry of a clerk into the source's handler subtracts one. No other source's count changes by either. A source is pending exactly while its count is above 0 and its EN bit is 1. -/
def Obligations.EventCountsCount : Prop :=
  ∀ (s : State),
    (∀ n, sourceOk n = true →
      (s.rd EVC_SRC.COUNT n < 15 → (s.raise n).rd EVC_SRC.COUNT n = s.rd EVC_SRC.COUNT n + 1) ∧
      (s.rd EVC_SRC.COUNT n = 15 → (s.raise n).rd EVC_SRC.COUNT n = 15 ∧ (s.raise n).on EVC_SRC.OVF n = true ∧ (s.raise n).on EVC_ERR.OVERFLOW = true) ∧
      ∀ m, m < 512 → m ≠ n → (s.raise n).rd EVC_SRC.COUNT m = s.rd EVC_SRC.COUNT m) ∧
    (∀ k fr, (List.range 8).find? (fun k => s.ckState k == 4) = some k → (s.clerk k).frames.getLast? = some fr → fr.source < 512 → s.routedTo k = none →
      ∃ t, exec .handlerEntry s = .next t ∧ t.rd EVC_SRC.COUNT fr.source = s.rd EVC_SRC.COUNT fr.source - 1 ∧
        ∀ m, m < 512 → m ≠ fr.source → t.rd EVC_SRC.COUNT m = s.rd EVC_SRC.COUNT m) ∧
    (∀ n, s.pendingSrc n = true ↔ 0 < s.rd EVC_SRC.COUNT n ∧ s.on EVC_SRC.EN n = true)

/-- In the function window and the device blocks of BAR0, a write of a size other than 4 or 8 bytes, or not aligned to its size, changes no register but the fault record of its function, which counts it and takes its offset, beyond the wake of a stopped Square PLL (R436); a read answers all ones of its size and counts too. Aligned accesses of both sizes are accepted: they write and read a register, and no access error is counted. -/
def Obligations.OnlyAlignedWordsAreAccepted : Prop :=
  ∀ (s : State) (f : Nat), f < 64 → s.memOpen (.func f) = true →
    (∀ off size val, off < 0x4000000 → ((size ≠ 4 ∧ size ≠ 8) ∨ off % size ≠ 0) →
      (∃ t, exec (.registerWrite (.func f) 0 off size val) s = .next t ∧ t.rd TEN_ACCESS_ERR_CNT.V f = (s.rd TEN_ACCESS_ERR_CNT.V f + 1) % 2 ^ 64 ∧
        t.on TEN_FAULT.ACCESS f = true ∧ t.rd TEN_FAULT_INFO.OFFSET f = off ∧ t.on TEN_FAULT_INFO.WRITE f = true ∧
        ∀ (r : Reg) (i : Nat), r.off < 8192 → r ∉ [TEN_ACCESS_ERR_CNT, TEN_FAULT_INFO, TEN_FAULT, HOST_FN_EVT] → t.getReg r i = s.squareRuns.getReg r i) ∧
      (∃ t, exec (.lowHalfRead (.func f) 0 off size) s = .next t ∧ t.rd TEN_ACCESS_ERR_CNT.V f = (s.rd TEN_ACCESS_ERR_CNT.V f + 1) % 2 ^ 64 ∧
        t.on TEN_FAULT.ACCESS f = true ∧ t.rd TEN_FAULT_INFO.OFFSET f = off ∧ t.on TEN_FAULT_INFO.WRITE f = false ∧
        t.outbox.getLast? = some (.readData f (2 ^ (8 * size) - 1)))) ∧
    (∀ size val, size = 4 ∨ size = 8 →
      (∃ t, exec (.registerWrite (.func f) 0 HOST_FN_EVT_EN.off size val) s = .next t ∧ t.rd HOST_FN_EVT_EN.EN f = val % 64 ∧
        t.rd TEN_ACCESS_ERR_CNT.V f = s.rd TEN_ACCESS_ERR_CNT.V f) ∧
      (∃ t, exec (.lowHalfRead (.func f) 0 HOST_FN_EVT_EN.off size) s = .next t ∧ t.outbox = s.outbox ++ [.readData f (s.rd HOST_FN_EVT_EN.EN f)] ∧
        t.rd TEN_ACCESS_ERR_CNT.V f = s.rd TEN_ACCESS_ERR_CNT.V f))

/-- Each command of the family changes no register but those of its list (an interrupt source that it raises and its function's event register included), in any instance, and no other part of the state but those of its list: the frame of the family. A register write and a device reset may change any register, so for them it says only which parts stay. -/
def Obligations.HeldAccessAndSleepCommandsKeepTheRest : Prop :=
  ∀ (c : Instr) (s t : State), c.family = .access → exec c s = .next t → framed c s t

/-- Each command of the family changes no register but those of its list (an interrupt source that it raises and its function's event register included), in any instance, and no other part of the state but those of its list: the frame of the family. -/
def Obligations.StallCommandsKeepTheRest : Prop :=
  ∀ (c : Instr) (s t : State), c.family = .strike → exec c s = .next t → framed c s t

/-- Each command of the family changes no register but those of its list (an interrupt source that it raises and its function's event register included), in any instance, and no other part of the state but those of its list: the frame of the family. -/
def Obligations.RowCommandsKeepTheRest : Prop :=
  ∀ (c : Instr) (s t : State), c.family = .row → exec c s = .next t → framed c s t

/-- Each command of the family changes no register but those of its list (an interrupt source that it raises and its function's event register included), in any instance, and no other part of the state but those of its list: the frame of the family. -/
def Obligations.StockingCommandsKeepTheRest : Prop :=
  ∀ (c : Instr) (s t : State), c.family = .stocking → exec c s = .next t → framed c s t

/-- Each command of the family changes no register but those of its list (an interrupt source that it raises and its function's event register included), in any instance, and no other part of the state but those of its list: the frame of the family. -/
def Obligations.ModelCommandsKeepTheRest : Prop :=
  ∀ (c : Instr) (s t : State), c.family = .model → exec c s = .next t → framed c s t

/-- Each command of the family changes no register but those of its list (an interrupt source that it raises and its function's event register included), in any instance, and no other part of the state but those of its list: the frame of the family. -/
def Obligations.ServingCommandsKeepTheRest : Prop :=
  ∀ (c : Instr) (s t : State), c.family = .serving → exec c s = .next t → framed c s t

/-- Each command of the family changes no register but those of its list (an interrupt source that it raises and its function's event register included), in any instance, and no other part of the state but those of its list: the frame of the family. -/
def Obligations.CartwayCommandsKeepTheRest : Prop :=
  ∀ (c : Instr) (s t : State), c.family = .cartway → exec c s = .next t → framed c s t

/-- Each command of the family changes no register but those of its list (an interrupt source that it raises and its function's event register included), in any instance, and no other part of the state but those of its list: the frame of the family. -/
def Obligations.CheckingCommandsKeepTheRest : Prop :=
  ∀ (c : Instr) (s t : State), c.family = .checking → exec c s = .next t → framed c s t

/-- Each command of the family changes no register but those of its list (an interrupt source that it raises and its function's event register included), in any instance, and no other part of the state but those of its list: the frame of the family. -/
def Obligations.HostCommandsKeepTheRest : Prop :=
  ∀ (c : Instr) (s t : State), c.family = .host → exec c s = .next t → framed c s t

/-- Each command of the family changes no register but those of its list (an interrupt source that it raises and its function's event register included), in any instance, and no other part of the state but those of its list: the frame of the family. -/
def Obligations.ControlCommandsKeepTheRest : Prop :=
  ∀ (c : Instr) (s t : State), c.family = .control → exec c s = .next t → framed c s t

/-- Each command of the family changes no register but those of its list (an interrupt source that it raises and its function's event register included), in any instance, and no other part of the state but those of its list: the frame of the family. -/
def Obligations.CalibrationCommandsKeepTheRest : Prop :=
  ∀ (c : Instr) (s t : State), c.family = .calibration → exec c s = .next t → framed c s t

/-- Each command of the family changes no register but those of its list (an interrupt source that it raises and its function's event register included), in any instance, and no other part of the state but those of its list: the frame of the family. A restart may change any register, so for it the frame says only which parts stay. -/
def Obligations.WardenCommandsKeepTheRest : Prop :=
  ∀ (c : Instr) (s t : State), c.family = .warden → exec c s = .next t → framed c s t

/-- Each command of the family changes no register but those of its list (an interrupt source that it raises and its function's event register included), in any instance, and no other part of the state but those of its list: the frame of the family. -/
def Obligations.SecurityCommandsKeepTheRest : Prop :=
  ∀ (c : Instr) (s t : State), c.family = .security → exec c s = .next t → framed c s t

/-- Each command of the family changes no register but those of its list (an interrupt source that it raises and its function's event register included), in any instance, and no other part of the state but those of its list: the frame of the family. A register write and a device reset may change any register, so for them it says only which parts stay. -/
def Obligations.ResetCommandsKeepTheRest : Prop :=
  ∀ (c : Instr) (s t : State), c.family = .reset → exec c s = .next t → framed c s t

/-- A register access, descriptor, staging write, slice substitution, slice map write, plane swap or drain command that names one stall leaves every other stall as it is: each of its registers reads as before, and its queue, banks, planes, strikes and drains are the same, as are the groups of every stall. -/
def Obligations.StallCommandsLeaveOtherStallsAlone : Prop :=
  ∀ (s t : State) (c : Instr) (who : Who) (row stall a b : Nat) (ds : List Int) (ws : List (Nat × Nat)),
    c ∈ [Instr.stlClipCntRead who row stall, .stlRefusedCntRead who row stall, .descriptorArrival row stall ws, .stlCtlWrite who row stall a,
      .stagingBankWrite row stall a b, .sliceSubstitution row stall a b ds, .stlSliceMapWrite who row stall a, .planeSwap row stall] ∨
    (c ∈ [Instr.drainRequest who row stall, .drainRelease who row stall] ∧ stall < 33) →
    exec c s = .next t →
    t.groups = s.groups ∧ ∀ k, k < 12288 → k ≠ stallId row stall → t.stall k = s.stall k ∧
      ∀ r : Reg, r.blk = .stl → r.off < 8192 → t.getReg r k = s.getReg r k

/-- With a command waiting, a step is that command's effect on the state whose queue holds the rest. That commands wait first in, first out is the interface of the model as a block. -/
def Obligations.StepRunsTheFrontCommand : Prop :=
  ∀ (s : State) (c : Instr) (rest : List Instr), s.pending = c :: rest → step s = exec c { s with pending := rest }

/-- With an empty queue one cycle of CLK_AO passes: the time and EVC_TIMER advance by one and nothing else changes; without VDD_AO, or with CLK_AO lost, nothing changes at all. That an idle step is one cycle is the model's choice (log entry 1); that EVC_TIMER counts CLK_AO cycles is R457. -/
def Obligations.IdleStepIsOneCycle : Prop :=
  ∀ (s : State), s.pending = [] → ∃ t, step s = .next t ∧
    (if s.boot.powered = true ∧ s.warden.clkLost = false then t.now = s.now + 1 ∧ t.rd EVC_TIMER.V = (s.rd EVC_TIMER.V + 1) % 2 ^ 64 ∧
        (∀ (r : Reg) (i : Nat), r.off < 8192 → r ≠ EVC_TIMER → t.getReg r i = s.getReg r i) ∧ ∀ p, p ≠ .now → Part.same s t p
     else t = s)

/-- Registers of every block read the reset value that their table gives: enables, limits, thresholds, periods, states. The device is in START with every function's event enables, stall states, slots and counts at zero, and the memory, Cartway, calibration, warden and host fields at their stated values. -/
def Obligations.ResetValuesOfTheSpec : Prop :=
  State.reset.rd STL_STAT.STATE 0 = 0 ∧ State.reset.rd STL_CTL.EN 0 = 0 ∧ State.reset.rd (subField 0) 0 = 4 ∧ State.reset.rd WDN_RST_CAUSE.STATE = 0 ∧
  State.reset.rd WDN_RST_CAUSE.CAUSE = 0 ∧ State.reset.rd WDN_WDOG.PERIOD = 250 ∧ State.reset.rd WDN_PCAP.CAP = 1500 ∧ State.reset.rd WDN_PCAP.HYST = 25 ∧
  State.reset.rd WDN_SLEEP_CTL.GATE_IDLE = 8 ∧ State.reset.rd WDN_SLEEP_CTL.BIAS_IDLE = 20 ∧ State.reset.rd WDN_MON_SCAN.MASK = 16777215 ∧
  State.reset.rd CAL_CTL.TSTEP = 16 ∧ State.reset.rd CAL_CTL.TRUN = 15 ∧ State.reset.rd CAL_CTL.GAP_LIMIT = 200 ∧ State.reset.rd CAL_CTL.PERIOD = 168 ∧
  State.reset.rd BST_POLICY.SHUT_WAIT = 500 ∧ State.reset.on BST_POLICY.INSPECT_SERVE = true ∧ State.reset.rd EVC_SRC.PRIO 7 = 255 ∧
  State.reset.rd EVC_SRC.AFFINITY 7 = 255 ∧ State.reset.rd CHK_CTL.DEADLINE = 200 ∧ State.reset.rd TEN_QUOTA.KV_QUOTA 3 = 4294967295 ∧
  State.reset.on SEC_STAT.LOCK = false ∧ State.reset.pending = [] ∧ State.reset.seqs = []

/-- The state after a cold power-on meets the invariant of the model: its register file is in canonical form, and every waiting command is well formed (none waits). Its device state and thermal state are codes of their tables. -/
def Obligations.ResetMeetsTheInvariant : Prop :=
  State.reset.Inv ∧ legalModes State.reset

/-- Whatever the state and the operands, a command answers a next state: no command faults and none is refused. Its effect leaves the queue of waiting commands as it is. -/
def Obligations.EveryCommandAnswers : Prop :=
  ∀ (c : Instr) (s : State), ∃ t, exec c s = .next t ∧ t.pending = s.pending

/-- From every state that meets the invariant, not only those that runs reach, a step answers a state that meets it: the keys of the register file rise strictly, no register is listed at its reset value, and every command that waits is well formed. -/
def Obligations.StepKeepsTheInvariant : Prop :=
  ∀ (s t : State), s.Inv → step s = .next t → t.Inv

/-- From every state that meets the invariant and whose device state (WDN_RST_CAUSE.STATE) and thermal state (WDN_STAT.THERM) are codes of their tables, a step answers a state where they are: no register write, reset, mode change or warden event leaves a code that the tables do not give. -/
def Obligations.StepKeepsTheModesLegal : Prop :=
  ∀ (s t : State), s.Inv → legalModes s → step s = .next t → legalModes t
end

