-- ==== Sys2Proof/Laws/FMap.lean ====
section
/-! SUPPORT. What sparse maps read as after a change, and that every change keeps their canonical form. -/

namespace Sys2Proof.Machine

variable {α : Type}

theorem FMap.get_put (d : α) (m : FMap α) (x y : Nat) (w : α) : FMap.get d (m.put x w) y = if y = x then w else FMap.get d m y := by
  induction m with
  | nil => simp [FMap.put, FMap.get]
  | cons e m ih =>
    obtain ⟨k, v⟩ := e
    simp only [FMap.put]
    split
    · subst_vars; simp only [FMap.get]; split <;> rfl
    · split
      · simp only [FMap.get]
      · simp only [FMap.get, ih]; split <;> split <;> simp_all

theorem FMap.get_del_ne (d : α) (m : FMap α) {x y : Nat} (h : y ≠ x) : FMap.get d (m.del x) y = FMap.get d m y := by
  induction m with
  | nil => rfl
  | cons e m ih =>
    obtain ⟨k, v⟩ := e
    simp only [FMap.del]
    split
    · subst_vars; simp [FMap.get, h, ih]
    · simp only [FMap.get, ih]

theorem FMap.get_below (d : α) (m : FMap α) {lo x : Nat} (h : FMap.sortedAbove lo m = true) (hx : x ≤ lo) : FMap.get d m x = d := by
  induction m generalizing lo with
  | nil => rfl
  | cons e m ih =>
    obtain ⟨k, v⟩ := e
    simp only [FMap.sortedAbove, Bool.and_eq_true, decide_eq_true_eq] at h
    simp only [FMap.get, if_neg (show x ≠ k by omega)]
    exact ih h.2 (by omega)

theorem FMap.sortedAbove_sorted {lo : Nat} {m : FMap α} (h : FMap.sortedAbove lo m = true) : m.sorted = true := by
  cases m with
  | nil => rfl
  | cons e m => simp only [FMap.sortedAbove, Bool.and_eq_true] at h; exact h.2

theorem FMap.sortedAbove_mono {lo hi : Nat} {m : FMap α} (h : FMap.sortedAbove hi m = true) (hl : lo ≤ hi) : FMap.sortedAbove lo m = true := by
  cases m with
  | nil => rfl
  | cons e m => simp only [FMap.sortedAbove, Bool.and_eq_true, decide_eq_true_eq] at h ⊢; exact ⟨by omega, h.2⟩

theorem FMap.get_del_same (d : α) (m : FMap α) (x : Nat) : FMap.get d (m.del x) x = d := by
  induction m with
  | nil => rfl
  | cons e m ih =>
    obtain ⟨k, v⟩ := e
    simp only [FMap.del]
    split
    · exact ih
    · rename_i hne; simp only [FMap.get, if_neg hne]; exact ih

theorem FMap.sortedAbove_put {lo x : Nat} {w : α} {m : FMap α} (h : FMap.sortedAbove lo m = true) (hx : lo < x) : FMap.sortedAbove lo (m.put x w) = true := by
  induction m generalizing lo with
  | nil => simp [FMap.put, FMap.sortedAbove, hx]
  | cons e m ih =>
    obtain ⟨k, v⟩ := e
    simp only [FMap.sortedAbove, Bool.and_eq_true, decide_eq_true_eq] at h
    simp only [FMap.put]
    split
    · subst_vars; simp [FMap.sortedAbove, h.1, h.2]
    · split
      · simp [FMap.sortedAbove, hx, h.2]; omega
      · simp only [FMap.sortedAbove, Bool.and_eq_true, decide_eq_true_eq]; exact ⟨h.1, ih h.2 (by omega)⟩

theorem FMap.sorted_put {x : Nat} {w : α} {m : FMap α} (h : m.sorted = true) : (m.put x w).sorted = true := by
  cases m with
  | nil => rfl
  | cons e m =>
    obtain ⟨k, v⟩ := e
    simp only [FMap.put]
    split
    · subst_vars; exact h
    · split
      · simp only [FMap.sorted, FMap.sortedAbove, Bool.and_eq_true, decide_eq_true_eq]; exact ⟨by assumption, h⟩
      · exact FMap.sortedAbove_put h (by omega)

theorem FMap.sortedAbove_del {lo x : Nat} {m : FMap α} (h : FMap.sortedAbove lo m = true) : FMap.sortedAbove lo (m.del x) = true := by
  induction m generalizing lo with
  | nil => rfl
  | cons e m ih =>
    obtain ⟨k, v⟩ := e
    simp only [FMap.sortedAbove, Bool.and_eq_true, decide_eq_true_eq] at h
    simp only [FMap.del]
    split
    · exact ih (FMap.sortedAbove_mono h.2 (by omega))
    · simp only [FMap.sortedAbove, Bool.and_eq_true, decide_eq_true_eq]; exact ⟨h.1, ih h.2⟩

theorem FMap.sorted_del {x : Nat} {m : FMap α} (h : m.sorted = true) : (m.del x).sorted = true := by
  cases m with
  | nil => rfl
  | cons e m =>
    obtain ⟨k, v⟩ := e
    simp only [FMap.del]
    split
    · exact FMap.sortedAbove_sorted (FMap.sortedAbove_del h)
    · exact FMap.sortedAbove_del h

theorem FMap.mem_put {m : FMap α} {x : Nat} {w : α} {e : Nat × α} (h : e ∈ m.put x w) : e = (x, w) ∨ e ∈ m := by
  induction m with
  | nil => simpa [FMap.put] using h
  | cons a m ih =>
    obtain ⟨k, v⟩ := a
    simp only [FMap.put] at h
    split at h
    · simp only [List.mem_cons] at h ⊢; tauto
    · split at h
      · simp only [List.mem_cons] at h ⊢; tauto
      · simp only [List.mem_cons] at h ⊢
        rcases h with h | h
        · exact .inr (.inl h)
        · rcases ih h with h | h
          · exact .inl h
          · exact .inr (.inr h)

theorem FMap.mem_del {m : FMap α} {x : Nat} {e : Nat × α} (h : e ∈ m.del x) : e ∈ m := by
  induction m with
  | nil => simp [FMap.del] at h
  | cons a m ih =>
    obtain ⟨k, v⟩ := a
    simp only [FMap.del] at h
    split at h
    · exact List.mem_cons_of_mem _ (ih h)
    · simp only [List.mem_cons] at h ⊢
      rcases h with h | h
      · exact .inl h
      · exact .inr (ih h)

variable [DecidableEq α]

/-- Setting a key keeps the canonical form. -/
theorem FMap.wf_set {d : Nat → α} {m : FMap α} (h : FMap.wf d m = true) (x : Nat) (w : α) : FMap.wf d (FMap.set (d x) m x w) = true := by
  simp only [FMap.wf, Bool.and_eq_true, List.all_eq_true, decide_eq_true_eq] at h ⊢
  unfold FMap.set
  split
  · exact ⟨FMap.sorted_del h.1, fun e he => h.2 e (FMap.mem_del he)⟩
  · refine ⟨FMap.sorted_put h.1, fun e he => ?_⟩
    rcases FMap.mem_put he with rfl | he
    · assumption
    · exact h.2 e he

/-- What a key reads as after it is set. -/
@[simp] theorem FMap.get_set_same {d : α} (m : FMap α) (x : Nat) (w : α) : FMap.get d (FMap.set d m x w) x = w := by
  unfold FMap.set
  split
  · subst_vars; exact FMap.get_del_same _ m x
  · simp [FMap.get_put]

/-- Setting a key leaves every other key as it was. -/
theorem FMap.get_set_ne {d d' : α} {m : FMap α} {x y : Nat} (h : y ≠ x) (w : α) : FMap.get d (FMap.set d' m x w) y = FMap.get d m y := by
  unfold FMap.set
  split
  · exact FMap.get_del_ne d m h
  · simp [FMap.get_put, h]

/-- The empty map is canonical. -/
theorem FMap.wf_nil (d : Nat → α) : FMap.wf d ([] : FMap α) = true := rfl

/-- A canonical map lists its keys in rising order. -/
theorem FMap.wf_sorted {d : Nat → α} {m : FMap α} (h : FMap.wf d m = true) : m.sorted = true := by
  simp only [FMap.wf, Bool.and_eq_true] at h; exact h.1

end Sys2Proof.Machine
end

