-- ==== Sys2Proof/Laws/Reg.lean ====
section
/-! SUPPORT. What registers and their fields read as after a write. -/

namespace Sys2Proof.Machine

/-! ### Fields of a word -/

/-- A field lies in the 64 bits of its word. -/
def RField.fits (f : RField) : Prop := f.lo + f.wd ≤ 64

theorem put_nat_lt {w lo wd v : Nat} (hw : w < 2 ^ 64) (h : lo + wd ≤ 64) :
    w - (w / 2 ^ lo) % 2 ^ wd * 2 ^ lo + v % 2 ^ wd * 2 ^ lo < 2 ^ 64 ∧
    w - (w / 2 ^ lo) % 2 ^ wd * 2 ^ lo + v % 2 ^ wd * 2 ^ lo = w / 2 ^ (lo + wd) * 2 ^ (lo + wd) + v % 2 ^ wd * 2 ^ lo + w % 2 ^ lo := by
  have e1 : w = w / 2 ^ lo * 2 ^ lo + w % 2 ^ lo := by rw [Nat.div_add_mod']
  have e2 : w / 2 ^ lo = w / 2 ^ lo / 2 ^ wd * 2 ^ wd + (w / 2 ^ lo) % 2 ^ wd := by rw [Nat.div_add_mod']
  have e3 : w / 2 ^ lo / 2 ^ wd = w / 2 ^ (lo + wd) := by rw [Nat.div_div_eq_div_mul, ← pow_add]
  have e4 : w = w / 2 ^ (lo + wd) * 2 ^ (lo + wd) + (w / 2 ^ lo) % 2 ^ wd * 2 ^ lo + w % 2 ^ lo := by
    calc w = w / 2 ^ lo * 2 ^ lo + w % 2 ^ lo := e1
      _ = (w / 2 ^ lo / 2 ^ wd * 2 ^ wd + (w / 2 ^ lo) % 2 ^ wd) * 2 ^ lo + w % 2 ^ lo := by rw [← e2]
      _ = _ := by rw [e3, pow_add]; ring
  have e5 : w - (w / 2 ^ lo) % 2 ^ wd * 2 ^ lo + v % 2 ^ wd * 2 ^ lo = w / 2 ^ (lo + wd) * 2 ^ (lo + wd) + v % 2 ^ wd * 2 ^ lo + w % 2 ^ lo := by
    generalize hA : w / 2 ^ (lo + wd) * 2 ^ (lo + wd) = A at *
    generalize hB : (w / 2 ^ lo) % 2 ^ wd * 2 ^ lo = B at *
    generalize hC : w % 2 ^ lo = C at *
    omega
  refine ⟨?_, e5⟩
  rw [e5]
  have h1 : v % 2 ^ wd < 2 ^ wd := Nat.mod_lt _ (by positivity)
  have h2 : w % 2 ^ lo < 2 ^ lo := Nat.mod_lt _ (by positivity)
  have h3 : v % 2 ^ wd * 2 ^ lo + w % 2 ^ lo < 2 ^ (lo + wd) := by
    have : (v % 2 ^ wd + 1) * 2 ^ lo ≤ 2 ^ wd * 2 ^ lo := Nat.mul_le_mul_right _ h1
    rw [pow_add, Nat.mul_comm (2 ^ lo)]; nlinarith
  have h4 : w / 2 ^ (lo + wd) < 2 ^ (64 - (lo + wd)) := by
    rw [Nat.div_lt_iff_lt_mul (by positivity), ← pow_add]; rwa [show 64 - (lo + wd) + (lo + wd) = 64 by omega]
  have h5 : (w / 2 ^ (lo + wd) + 1) * 2 ^ (lo + wd) ≤ 2 ^ (64 - (lo + wd)) * 2 ^ (lo + wd) := Nat.mul_le_mul_right _ h4
  rw [← pow_add, show 64 - (lo + wd) + (lo + wd) = 64 by omega] at h5
  nlinarith

theorem RField.put_toNat (f : RField) (hf : f.fits) (w : Word64) (v : Nat) :
    (f.put w v).toNat = w.toNat / 2 ^ (f.lo + f.wd) * 2 ^ (f.lo + f.wd) + v % 2 ^ f.wd * 2 ^ f.lo + w.toNat % 2 ^ f.lo := by
  have h := put_nat_lt (v := v) w.isLt hf
  simp only [RField.put, RField.of, bitsOf, BitVec.toNat_ofNat]
  rw [Nat.mod_eq_of_lt h.1, h.2]

theorem RField.put_toNat' (f : RField) (hf : f.fits) (w : Word64) (v : Nat) :
    (f.put w v).toNat = (w.toNat / 2 ^ (f.lo + f.wd) * 2 ^ f.wd + v % 2 ^ f.wd) * 2 ^ f.lo + w.toNat % 2 ^ f.lo := by
  rw [f.put_toNat hf]; ring

/-- A field reads as what was put there, cut to its width. -/
theorem RField.of_put (f : RField) (hf : f.fits) (w : Word64) (v : Nat) : f.of (f.put w v) = v % 2 ^ f.wd := by
  have h2 : w.toNat % 2 ^ f.lo < 2 ^ f.lo := Nat.mod_lt _ (by positivity)
  simp only [RField.of, bitsOf, f.put_toNat' hf]
  rw [Nat.add_comm, Nat.add_mul_div_right _ _ (by positivity), Nat.div_eq_of_lt h2, Nat.zero_add, Nat.add_comm, Nat.add_mul_mod_self_right, Nat.mod_mod]

/-- Two fields share no bit. -/
def RField.apart (f g : RField) : Prop := f.lo + f.wd ≤ g.lo ∨ g.lo + g.wd ≤ f.lo

/-- Putting one field leaves a field apart from it as it was. -/
theorem RField.of_put_apart (f g : RField) (hf : f.fits) (h : g.apart f) (w : Word64) (v : Nat) : g.of (f.put w v) = g.of w := by
  simp only [RField.of, bitsOf]
  rcases h with h | h
  · -- g below f
    have hp : (f.put w v).toNat % 2 ^ f.lo = w.toNat % 2 ^ f.lo := by
      rw [f.put_toNat' hf, Nat.add_comm, Nat.add_mul_mod_self_right, Nat.mod_mod]
    have key : ∀ x : Nat, x / 2 ^ g.lo % 2 ^ g.wd = x % 2 ^ f.lo / 2 ^ g.lo % 2 ^ g.wd := by
      intro x
      have : 2 ^ f.lo = 2 ^ g.lo * 2 ^ (f.lo - g.lo) := by rw [← pow_add]; congr 1; omega
      rw [this, Nat.mod_mul_right_div_self]
      rw [Nat.mod_mod_of_dvd _ (pow_dvd_pow 2 (by omega))]
    rw [key, hp, ← key]
  · -- g above f
    have hq : (f.put w v).toNat / 2 ^ (f.lo + f.wd) = w.toNat / 2 ^ (f.lo + f.wd) := by
      rw [f.put_toNat hf]
      have h1 : v % 2 ^ f.wd < 2 ^ f.wd := Nat.mod_lt _ (by positivity)
      have h2 : w.toNat % 2 ^ f.lo < 2 ^ f.lo := Nat.mod_lt _ (by positivity)
      have h3 : v % 2 ^ f.wd * 2 ^ f.lo + w.toNat % 2 ^ f.lo < 2 ^ (f.lo + f.wd) := by
        have : (v % 2 ^ f.wd + 1) * 2 ^ f.lo ≤ 2 ^ f.wd * 2 ^ f.lo := Nat.mul_le_mul_right _ h1
        rw [pow_add, Nat.mul_comm (2 ^ f.lo)]; nlinarith
      rw [Nat.add_assoc, Nat.add_comm, Nat.add_mul_div_right _ _ (by positivity), Nat.div_eq_of_lt h3, Nat.zero_add]
    have key : ∀ x : Nat, x / 2 ^ g.lo = x / 2 ^ (f.lo + f.wd) / 2 ^ (g.lo - (f.lo + f.wd)) := by
      intro x; rw [Nat.div_div_eq_div_mul, ← pow_add]; congr 2; omega
    rw [key, hq, ← key]

/-- Putting what a field holds changes nothing. -/
theorem RField.put_self (f : RField) (w : Word64) : f.put w (f.of w) = w := by
  have h : f.of w % 2 ^ f.wd = f.of w := by simp [RField.of, bitsOf]
  have hle : f.of w * 2 ^ f.lo ≤ w.toNat := by
    simp only [RField.of, bitsOf]
    calc w.toNat / 2 ^ f.lo % 2 ^ f.wd * 2 ^ f.lo ≤ w.toNat / 2 ^ f.lo * 2 ^ f.lo := Nat.mul_le_mul_right _ (Nat.mod_le _ _)
      _ ≤ w.toNat := Nat.div_mul_le_self _ _
  simp only [RField.put, h]
  rw [Nat.sub_add_cancel hle]; simp

theorem RField.of_lt (f : RField) (w : Word64) : f.of w < 2 ^ f.wd := Nat.mod_lt _ (by positivity)

/-! ### The register file -/

/-- Two instances of registers have different keys when the registers differ, or the instances do. -/
theorem Reg.key_ne {r q : Reg} {i j : Nat} (hr : r.off < 2 ^ 13) (hq : q.off < 2 ^ 13) (hi : i < 2 ^ 16) (hj : j < 2 ^ 16)
    (h : r.blk.code ≠ q.blk.code ∨ r.off ≠ q.off ∨ i ≠ j) : r.key i ≠ q.key j := by
  simp only [Reg.key, Nat.mod_eq_of_lt hr, Nat.mod_eq_of_lt hq, Nat.mod_eq_of_lt hi, Nat.mod_eq_of_lt hj]
  omega

theorem Block.code_inj {a b : Block} (h : a.code = b.code) : a = b := by
  cases a <;> cases b <;> first | rfl | (exact absurd h (by decide))

@[simp] theorem State.getReg_setReg_same (s : State) (r : Reg) (i : Nat) (v : Word64) : (s.setReg r i v).getReg r i = v := by
  simp [State.getReg, State.setReg]

theorem State.getReg_setReg_ne (s : State) {r q : Reg} {i j : Nat} (v : Word64) (h : q.key j ≠ r.key i) :
    (s.setReg r i v).getReg q j = s.getReg q j := by
  simp [State.getReg, State.setReg, FMap.get_set_ne h]

/-- A field reads as what was written to it, cut to its width. -/
theorem State.rd_wr_same (s : State) (f : RField) (hf : f.fits) (i v : Nat) : (s.wr f i v).rd f i = v % 2 ^ f.wd := by
  simp [State.rd, State.wr, f.of_put hf]

/-- Writing one field leaves another field of the same register instance as it was, when they share no bit. -/
theorem State.rd_wr_apart (s : State) (f g : RField) (hf : f.fits) (hr : g.reg = f.reg) (h : g.apart f) (i v : Nat) :
    (s.wr f i v).rd g i = s.rd g i := by
  simp [State.rd, State.wr, hr, f.of_put_apart g hf h]

/-- Writing one field leaves every other register instance as it was. -/
theorem State.rd_wr_ne (s : State) (f g : RField) {i j : Nat} (v : Nat) (h : g.reg.key j ≠ f.reg.key i) : (s.wr f i v).rd g j = s.rd g j := by
  simp [State.rd, State.wr, State.getReg_setReg_ne _ _ h]

/-- A register of another key is unchanged by a field write. -/
theorem State.getReg_wr_ne (s : State) (f : RField) {q : Reg} {i j : Nat} (v : Nat) (h : q.key j ≠ f.reg.key i) :
    (s.wr f i v).getReg q j = s.getReg q j := State.getReg_setReg_ne s _ h

/-- A counter advances, wrapping at its width. -/
theorem State.rd_bump_same (s : State) (f : RField) (hf : f.fits) (i n : Nat) : (s.bump f i n).rd f i = (s.rd f i + n) % 2 ^ f.wd :=
  s.rd_wr_same f hf i _

/-- A saturating counter advances. -/
theorem State.rd_bumpSat_same (s : State) (f : RField) (hf : f.fits) (i n : Nat) :
    (s.bumpSat f i n).rd f i = min (s.rd f i + n) (2 ^ f.wd - 1) := by
  rw [State.bumpSat, s.rd_wr_same f hf, Nat.mod_eq_of_lt]
  have : 0 < 2 ^ f.wd := by positivity
  omega

/-- Writing a register keeps the register file canonical. -/
theorem State.regs_wf_setReg {s : State} (h : FMap.wf keyReset s.regs = true) (r : Reg) (i : Nat) (v : Word64) :
    FMap.wf keyReset (s.setReg r i v).regs = true := FMap.wf_set h _ _

end Sys2Proof.Machine
end

