-- ==== Sys2Proof/Laws/State.lean ====
section
/-! SUPPORT. What each named update of the state leaves alone: one lemma per field. -/

namespace Sys2Proof.Machine

variable (s : State)

theorem State.withRegs_pending (m : FMap Word64) : ({ s with regs := m } : State).pending = s.pending := rfl
theorem State.withRegs_now (m : FMap Word64) : ({ s with regs := m } : State).now = s.now := rfl
theorem State.withRegs_free (m : FMap Word64) : ({ s with regs := m } : State).free = s.free := rfl
theorem State.withRegs_halves (m : FMap Word64) : ({ s with regs := m } : State).halves = s.halves := rfl
theorem State.withRegs_outbox (m : FMap Word64) : ({ s with regs := m } : State).outbox = s.outbox := rfl
theorem State.withRegs_stalls (m : FMap Word64) : ({ s with regs := m } : State).stalls = s.stalls := rfl
theorem State.withRegs_groups (m : FMap Word64) : ({ s with regs := m } : State).groups = s.groups := rfl
theorem State.withRegs_rows (m : FMap Word64) : ({ s with regs := m } : State).rows = s.rows := rfl
theorem State.withRegs_jobs (m : FMap Word64) : ({ s with regs := m } : State).jobs = s.jobs := rfl
theorem State.withRegs_nextJob (m : FMap Word64) : ({ s with regs := m } : State).nextJob = s.nextJob := rfl
theorem State.withRegs_cperLost (m : FMap Word64) : ({ s with regs := m } : State).cperLost = s.cperLost := rfl
theorem State.withRegs_journal (m : FMap Word64) : ({ s with regs := m } : State).journal = s.journal := rfl
theorem State.withRegs_digests (m : FMap Word64) : ({ s with regs := m } : State).digests = s.digests := rfl
theorem State.withRegs_restocked (m : FMap Word64) : ({ s with regs := m } : State).restocked = s.restocked := rfl
theorem State.withRegs_images (m : FMap Word64) : ({ s with regs := m } : State).images = s.images := rfl
theorem State.withRegs_stock (m : FMap Word64) : ({ s with regs := m } : State).stock = s.stock := rfl
theorem State.withRegs_working (m : FMap Word64) : ({ s with regs := m } : State).working = s.working := rfl
theorem State.withRegs_scrub (m : FMap Word64) : ({ s with regs := m } : State).scrub = s.scrub := rfl
theorem State.withRegs_slots (m : FMap Word64) : ({ s with regs := m } : State).slots = s.slots := rfl
theorem State.withRegs_seqs (m : FMap Word64) : ({ s with regs := m } : State).seqs = s.seqs := rfl
theorem State.withRegs_pages (m : FMap Word64) : ({ s with regs := m } : State).pages = s.pages := rfl
theorem State.withRegs_nextPage (m : FMap Word64) : ({ s with regs := m } : State).nextPage = s.nextPage := rfl
theorem State.withRegs_rolls (m : FMap Word64) : ({ s with regs := m } : State).rolls = s.rolls := rfl
theorem State.withRegs_paces (m : FMap Word64) : ({ s with regs := m } : State).paces = s.paces := rfl
theorem State.withRegs_sched (m : FMap Word64) : ({ s with regs := m } : State).sched = s.sched := rfl
theorem State.withRegs_adapters (m : FMap Word64) : ({ s with regs := m } : State).adapters = s.adapters := rfl
theorem State.withRegs_tunes (m : FMap Word64) : ({ s with regs := m } : State).tunes = s.tunes := rfl
theorem State.withRegs_cart (m : FMap Word64) : ({ s with regs := m } : State).cart = s.cart := rfl
theorem State.withRegs_mem (m : FMap Word64) : ({ s with regs := m } : State).mem = s.mem := rfl
theorem State.withRegs_charter (m : FMap Word64) : ({ s with regs := m } : State).charter = s.charter := rfl
theorem State.withRegs_funcs (m : FMap Word64) : ({ s with regs := m } : State).funcs = s.funcs := rfl
theorem State.withRegs_clerks (m : FMap Word64) : ({ s with regs := m } : State).clerks = s.clerks := rfl
theorem State.withRegs_pendAt (m : FMap Word64) : ({ s with regs := m } : State).pendAt = s.pendAt := rfl
theorem State.withRegs_modeCtl (m : FMap Word64) : ({ s with regs := m } : State).modeCtl = s.modeCtl := rfl
theorem State.withRegs_sleep (m : FMap Word64) : ({ s with regs := m } : State).sleep = s.sleep := rfl
theorem State.withRegs_gatedAt (m : FMap Word64) : ({ s with regs := m } : State).gatedAt = s.gatedAt := rfl
theorem State.withRegs_wakeAt (m : FMap Word64) : ({ s with regs := m } : State).wakeAt = s.wakeAt := rfl
theorem State.withRegs_port0 (m : FMap Word64) : ({ s with regs := m } : State).port0 = s.port0 := rfl
theorem State.withRegs_warden (m : FMap Word64) : ({ s with regs := m } : State).warden = s.warden := rfl
theorem State.withRegs_boot (m : FMap Word64) : ({ s with regs := m } : State).boot = s.boot := rfl
theorem State.withRegs_cal (m : FMap Word64) : ({ s with regs := m } : State).cal = s.cal := rfl
theorem State.withRegs_sec (m : FMap Word64) : ({ s with regs := m } : State).sec = s.sec := rfl
theorem State.withRegs_duty (m : FMap Word64) : ({ s with regs := m } : State).duty = s.duty := rfl
theorem State.withRegs_level (m : FMap Word64) : ({ s with regs := m } : State).level = s.level := rfl
@[simp] theorem State.setReg_pending (r : Reg) (i : Nat) (v : Word64) : (s.setReg r i v).pending = s.pending := State.withRegs_pending s (FMap.set (keyReset (r.key i)) s.regs (r.key i) v)
@[simp] theorem State.setReg_now (r : Reg) (i : Nat) (v : Word64) : (s.setReg r i v).now = s.now := State.withRegs_now s (FMap.set (keyReset (r.key i)) s.regs (r.key i) v)
@[simp] theorem State.setReg_free (r : Reg) (i : Nat) (v : Word64) : (s.setReg r i v).free = s.free := State.withRegs_free s (FMap.set (keyReset (r.key i)) s.regs (r.key i) v)
@[simp] theorem State.setReg_halves (r : Reg) (i : Nat) (v : Word64) : (s.setReg r i v).halves = s.halves := State.withRegs_halves s (FMap.set (keyReset (r.key i)) s.regs (r.key i) v)
@[simp] theorem State.setReg_outbox (r : Reg) (i : Nat) (v : Word64) : (s.setReg r i v).outbox = s.outbox := State.withRegs_outbox s (FMap.set (keyReset (r.key i)) s.regs (r.key i) v)
@[simp] theorem State.setReg_stalls (r : Reg) (i : Nat) (v : Word64) : (s.setReg r i v).stalls = s.stalls := State.withRegs_stalls s (FMap.set (keyReset (r.key i)) s.regs (r.key i) v)
@[simp] theorem State.setReg_groups (r : Reg) (i : Nat) (v : Word64) : (s.setReg r i v).groups = s.groups := State.withRegs_groups s (FMap.set (keyReset (r.key i)) s.regs (r.key i) v)
@[simp] theorem State.setReg_rows (r : Reg) (i : Nat) (v : Word64) : (s.setReg r i v).rows = s.rows := State.withRegs_rows s (FMap.set (keyReset (r.key i)) s.regs (r.key i) v)
@[simp] theorem State.setReg_jobs (r : Reg) (i : Nat) (v : Word64) : (s.setReg r i v).jobs = s.jobs := State.withRegs_jobs s (FMap.set (keyReset (r.key i)) s.regs (r.key i) v)
@[simp] theorem State.setReg_nextJob (r : Reg) (i : Nat) (v : Word64) : (s.setReg r i v).nextJob = s.nextJob := State.withRegs_nextJob s (FMap.set (keyReset (r.key i)) s.regs (r.key i) v)
@[simp] theorem State.setReg_cperLost (r : Reg) (i : Nat) (v : Word64) : (s.setReg r i v).cperLost = s.cperLost := State.withRegs_cperLost s (FMap.set (keyReset (r.key i)) s.regs (r.key i) v)
@[simp] theorem State.setReg_journal (r : Reg) (i : Nat) (v : Word64) : (s.setReg r i v).journal = s.journal := State.withRegs_journal s (FMap.set (keyReset (r.key i)) s.regs (r.key i) v)
@[simp] theorem State.setReg_digests (r : Reg) (i : Nat) (v : Word64) : (s.setReg r i v).digests = s.digests := State.withRegs_digests s (FMap.set (keyReset (r.key i)) s.regs (r.key i) v)
@[simp] theorem State.setReg_restocked (r : Reg) (i : Nat) (v : Word64) : (s.setReg r i v).restocked = s.restocked := State.withRegs_restocked s (FMap.set (keyReset (r.key i)) s.regs (r.key i) v)
@[simp] theorem State.setReg_images (r : Reg) (i : Nat) (v : Word64) : (s.setReg r i v).images = s.images := State.withRegs_images s (FMap.set (keyReset (r.key i)) s.regs (r.key i) v)
@[simp] theorem State.setReg_stock (r : Reg) (i : Nat) (v : Word64) : (s.setReg r i v).stock = s.stock := State.withRegs_stock s (FMap.set (keyReset (r.key i)) s.regs (r.key i) v)
@[simp] theorem State.setReg_working (r : Reg) (i : Nat) (v : Word64) : (s.setReg r i v).working = s.working := State.withRegs_working s (FMap.set (keyReset (r.key i)) s.regs (r.key i) v)
@[simp] theorem State.setReg_scrub (r : Reg) (i : Nat) (v : Word64) : (s.setReg r i v).scrub = s.scrub := State.withRegs_scrub s (FMap.set (keyReset (r.key i)) s.regs (r.key i) v)
@[simp] theorem State.setReg_slots (r : Reg) (i : Nat) (v : Word64) : (s.setReg r i v).slots = s.slots := State.withRegs_slots s (FMap.set (keyReset (r.key i)) s.regs (r.key i) v)
@[simp] theorem State.setReg_seqs (r : Reg) (i : Nat) (v : Word64) : (s.setReg r i v).seqs = s.seqs := State.withRegs_seqs s (FMap.set (keyReset (r.key i)) s.regs (r.key i) v)
@[simp] theorem State.setReg_pages (r : Reg) (i : Nat) (v : Word64) : (s.setReg r i v).pages = s.pages := State.withRegs_pages s (FMap.set (keyReset (r.key i)) s.regs (r.key i) v)
@[simp] theorem State.setReg_nextPage (r : Reg) (i : Nat) (v : Word64) : (s.setReg r i v).nextPage = s.nextPage := State.withRegs_nextPage s (FMap.set (keyReset (r.key i)) s.regs (r.key i) v)
@[simp] theorem State.setReg_rolls (r : Reg) (i : Nat) (v : Word64) : (s.setReg r i v).rolls = s.rolls := State.withRegs_rolls s (FMap.set (keyReset (r.key i)) s.regs (r.key i) v)
@[simp] theorem State.setReg_paces (r : Reg) (i : Nat) (v : Word64) : (s.setReg r i v).paces = s.paces := State.withRegs_paces s (FMap.set (keyReset (r.key i)) s.regs (r.key i) v)
@[simp] theorem State.setReg_sched (r : Reg) (i : Nat) (v : Word64) : (s.setReg r i v).sched = s.sched := State.withRegs_sched s (FMap.set (keyReset (r.key i)) s.regs (r.key i) v)
@[simp] theorem State.setReg_adapters (r : Reg) (i : Nat) (v : Word64) : (s.setReg r i v).adapters = s.adapters := State.withRegs_adapters s (FMap.set (keyReset (r.key i)) s.regs (r.key i) v)
@[simp] theorem State.setReg_tunes (r : Reg) (i : Nat) (v : Word64) : (s.setReg r i v).tunes = s.tunes := State.withRegs_tunes s (FMap.set (keyReset (r.key i)) s.regs (r.key i) v)
@[simp] theorem State.setReg_cart (r : Reg) (i : Nat) (v : Word64) : (s.setReg r i v).cart = s.cart := State.withRegs_cart s (FMap.set (keyReset (r.key i)) s.regs (r.key i) v)
@[simp] theorem State.setReg_mem (r : Reg) (i : Nat) (v : Word64) : (s.setReg r i v).mem = s.mem := State.withRegs_mem s (FMap.set (keyReset (r.key i)) s.regs (r.key i) v)
@[simp] theorem State.setReg_charter (r : Reg) (i : Nat) (v : Word64) : (s.setReg r i v).charter = s.charter := State.withRegs_charter s (FMap.set (keyReset (r.key i)) s.regs (r.key i) v)
@[simp] theorem State.setReg_funcs (r : Reg) (i : Nat) (v : Word64) : (s.setReg r i v).funcs = s.funcs := State.withRegs_funcs s (FMap.set (keyReset (r.key i)) s.regs (r.key i) v)
@[simp] theorem State.setReg_clerks (r : Reg) (i : Nat) (v : Word64) : (s.setReg r i v).clerks = s.clerks := State.withRegs_clerks s (FMap.set (keyReset (r.key i)) s.regs (r.key i) v)
@[simp] theorem State.setReg_pendAt (r : Reg) (i : Nat) (v : Word64) : (s.setReg r i v).pendAt = s.pendAt := State.withRegs_pendAt s (FMap.set (keyReset (r.key i)) s.regs (r.key i) v)
@[simp] theorem State.setReg_modeCtl (r : Reg) (i : Nat) (v : Word64) : (s.setReg r i v).modeCtl = s.modeCtl := State.withRegs_modeCtl s (FMap.set (keyReset (r.key i)) s.regs (r.key i) v)
@[simp] theorem State.setReg_sleep (r : Reg) (i : Nat) (v : Word64) : (s.setReg r i v).sleep = s.sleep := State.withRegs_sleep s (FMap.set (keyReset (r.key i)) s.regs (r.key i) v)
@[simp] theorem State.setReg_gatedAt (r : Reg) (i : Nat) (v : Word64) : (s.setReg r i v).gatedAt = s.gatedAt := State.withRegs_gatedAt s (FMap.set (keyReset (r.key i)) s.regs (r.key i) v)
@[simp] theorem State.setReg_wakeAt (r : Reg) (i : Nat) (v : Word64) : (s.setReg r i v).wakeAt = s.wakeAt := State.withRegs_wakeAt s (FMap.set (keyReset (r.key i)) s.regs (r.key i) v)
@[simp] theorem State.setReg_port0 (r : Reg) (i : Nat) (v : Word64) : (s.setReg r i v).port0 = s.port0 := State.withRegs_port0 s (FMap.set (keyReset (r.key i)) s.regs (r.key i) v)
@[simp] theorem State.setReg_warden (r : Reg) (i : Nat) (v : Word64) : (s.setReg r i v).warden = s.warden := State.withRegs_warden s (FMap.set (keyReset (r.key i)) s.regs (r.key i) v)
@[simp] theorem State.setReg_boot (r : Reg) (i : Nat) (v : Word64) : (s.setReg r i v).boot = s.boot := State.withRegs_boot s (FMap.set (keyReset (r.key i)) s.regs (r.key i) v)
@[simp] theorem State.setReg_cal (r : Reg) (i : Nat) (v : Word64) : (s.setReg r i v).cal = s.cal := State.withRegs_cal s (FMap.set (keyReset (r.key i)) s.regs (r.key i) v)
@[simp] theorem State.setReg_sec (r : Reg) (i : Nat) (v : Word64) : (s.setReg r i v).sec = s.sec := State.withRegs_sec s (FMap.set (keyReset (r.key i)) s.regs (r.key i) v)
@[simp] theorem State.setReg_duty (r : Reg) (i : Nat) (v : Word64) : (s.setReg r i v).duty = s.duty := State.withRegs_duty s (FMap.set (keyReset (r.key i)) s.regs (r.key i) v)
@[simp] theorem State.setReg_level (r : Reg) (i : Nat) (v : Word64) : (s.setReg r i v).level = s.level := State.withRegs_level s (FMap.set (keyReset (r.key i)) s.regs (r.key i) v)
@[simp] theorem State.wr_pending (f : RField) (i v : Nat) : (s.wr f i v).pending = s.pending := by rw [State.wr, State.setReg_pending]
@[simp] theorem State.wr_now (f : RField) (i v : Nat) : (s.wr f i v).now = s.now := by rw [State.wr, State.setReg_now]
@[simp] theorem State.wr_free (f : RField) (i v : Nat) : (s.wr f i v).free = s.free := by rw [State.wr, State.setReg_free]
@[simp] theorem State.wr_halves (f : RField) (i v : Nat) : (s.wr f i v).halves = s.halves := by rw [State.wr, State.setReg_halves]
@[simp] theorem State.wr_outbox (f : RField) (i v : Nat) : (s.wr f i v).outbox = s.outbox := by rw [State.wr, State.setReg_outbox]
@[simp] theorem State.wr_stalls (f : RField) (i v : Nat) : (s.wr f i v).stalls = s.stalls := by rw [State.wr, State.setReg_stalls]
@[simp] theorem State.wr_groups (f : RField) (i v : Nat) : (s.wr f i v).groups = s.groups := by rw [State.wr, State.setReg_groups]
@[simp] theorem State.wr_rows (f : RField) (i v : Nat) : (s.wr f i v).rows = s.rows := by rw [State.wr, State.setReg_rows]
@[simp] theorem State.wr_jobs (f : RField) (i v : Nat) : (s.wr f i v).jobs = s.jobs := by rw [State.wr, State.setReg_jobs]
@[simp] theorem State.wr_nextJob (f : RField) (i v : Nat) : (s.wr f i v).nextJob = s.nextJob := by rw [State.wr, State.setReg_nextJob]
@[simp] theorem State.wr_cperLost (f : RField) (i v : Nat) : (s.wr f i v).cperLost = s.cperLost := by rw [State.wr, State.setReg_cperLost]
@[simp] theorem State.wr_journal (f : RField) (i v : Nat) : (s.wr f i v).journal = s.journal := by rw [State.wr, State.setReg_journal]
@[simp] theorem State.wr_digests (f : RField) (i v : Nat) : (s.wr f i v).digests = s.digests := by rw [State.wr, State.setReg_digests]
@[simp] theorem State.wr_restocked (f : RField) (i v : Nat) : (s.wr f i v).restocked = s.restocked := by rw [State.wr, State.setReg_restocked]
@[simp] theorem State.wr_images (f : RField) (i v : Nat) : (s.wr f i v).images = s.images := by rw [State.wr, State.setReg_images]
@[simp] theorem State.wr_stock (f : RField) (i v : Nat) : (s.wr f i v).stock = s.stock := by rw [State.wr, State.setReg_stock]
@[simp] theorem State.wr_working (f : RField) (i v : Nat) : (s.wr f i v).working = s.working := by rw [State.wr, State.setReg_working]
@[simp] theorem State.wr_scrub (f : RField) (i v : Nat) : (s.wr f i v).scrub = s.scrub := by rw [State.wr, State.setReg_scrub]
@[simp] theorem State.wr_slots (f : RField) (i v : Nat) : (s.wr f i v).slots = s.slots := by rw [State.wr, State.setReg_slots]
@[simp] theorem State.wr_seqs (f : RField) (i v : Nat) : (s.wr f i v).seqs = s.seqs := by rw [State.wr, State.setReg_seqs]
@[simp] theorem State.wr_pages (f : RField) (i v : Nat) : (s.wr f i v).pages = s.pages := by rw [State.wr, State.setReg_pages]
@[simp] theorem State.wr_nextPage (f : RField) (i v : Nat) : (s.wr f i v).nextPage = s.nextPage := by rw [State.wr, State.setReg_nextPage]
@[simp] theorem State.wr_rolls (f : RField) (i v : Nat) : (s.wr f i v).rolls = s.rolls := by rw [State.wr, State.setReg_rolls]
@[simp] theorem State.wr_paces (f : RField) (i v : Nat) : (s.wr f i v).paces = s.paces := by rw [State.wr, State.setReg_paces]
@[simp] theorem State.wr_sched (f : RField) (i v : Nat) : (s.wr f i v).sched = s.sched := by rw [State.wr, State.setReg_sched]
@[simp] theorem State.wr_adapters (f : RField) (i v : Nat) : (s.wr f i v).adapters = s.adapters := by rw [State.wr, State.setReg_adapters]
@[simp] theorem State.wr_tunes (f : RField) (i v : Nat) : (s.wr f i v).tunes = s.tunes := by rw [State.wr, State.setReg_tunes]
@[simp] theorem State.wr_cart (f : RField) (i v : Nat) : (s.wr f i v).cart = s.cart := by rw [State.wr, State.setReg_cart]
@[simp] theorem State.wr_mem (f : RField) (i v : Nat) : (s.wr f i v).mem = s.mem := by rw [State.wr, State.setReg_mem]
@[simp] theorem State.wr_charter (f : RField) (i v : Nat) : (s.wr f i v).charter = s.charter := by rw [State.wr, State.setReg_charter]
@[simp] theorem State.wr_funcs (f : RField) (i v : Nat) : (s.wr f i v).funcs = s.funcs := by rw [State.wr, State.setReg_funcs]
@[simp] theorem State.wr_clerks (f : RField) (i v : Nat) : (s.wr f i v).clerks = s.clerks := by rw [State.wr, State.setReg_clerks]
@[simp] theorem State.wr_pendAt (f : RField) (i v : Nat) : (s.wr f i v).pendAt = s.pendAt := by rw [State.wr, State.setReg_pendAt]
@[simp] theorem State.wr_modeCtl (f : RField) (i v : Nat) : (s.wr f i v).modeCtl = s.modeCtl := by rw [State.wr, State.setReg_modeCtl]
@[simp] theorem State.wr_sleep (f : RField) (i v : Nat) : (s.wr f i v).sleep = s.sleep := by rw [State.wr, State.setReg_sleep]
@[simp] theorem State.wr_gatedAt (f : RField) (i v : Nat) : (s.wr f i v).gatedAt = s.gatedAt := by rw [State.wr, State.setReg_gatedAt]
@[simp] theorem State.wr_wakeAt (f : RField) (i v : Nat) : (s.wr f i v).wakeAt = s.wakeAt := by rw [State.wr, State.setReg_wakeAt]
@[simp] theorem State.wr_port0 (f : RField) (i v : Nat) : (s.wr f i v).port0 = s.port0 := by rw [State.wr, State.setReg_port0]
@[simp] theorem State.wr_warden (f : RField) (i v : Nat) : (s.wr f i v).warden = s.warden := by rw [State.wr, State.setReg_warden]
@[simp] theorem State.wr_boot (f : RField) (i v : Nat) : (s.wr f i v).boot = s.boot := by rw [State.wr, State.setReg_boot]
@[simp] theorem State.wr_cal (f : RField) (i v : Nat) : (s.wr f i v).cal = s.cal := by rw [State.wr, State.setReg_cal]
@[simp] theorem State.wr_sec (f : RField) (i v : Nat) : (s.wr f i v).sec = s.sec := by rw [State.wr, State.setReg_sec]
@[simp] theorem State.wr_duty (f : RField) (i v : Nat) : (s.wr f i v).duty = s.duty := by rw [State.wr, State.setReg_duty]
@[simp] theorem State.wr_level (f : RField) (i v : Nat) : (s.wr f i v).level = s.level := by rw [State.wr, State.setReg_level]
@[simp] theorem State.bump_pending (f : RField) (i n : Nat) : (s.bump f i n).pending = s.pending := by rw [State.bump, State.wr_pending]
@[simp] theorem State.bump_now (f : RField) (i n : Nat) : (s.bump f i n).now = s.now := by rw [State.bump, State.wr_now]
@[simp] theorem State.bump_free (f : RField) (i n : Nat) : (s.bump f i n).free = s.free := by rw [State.bump, State.wr_free]
@[simp] theorem State.bump_halves (f : RField) (i n : Nat) : (s.bump f i n).halves = s.halves := by rw [State.bump, State.wr_halves]
@[simp] theorem State.bump_outbox (f : RField) (i n : Nat) : (s.bump f i n).outbox = s.outbox := by rw [State.bump, State.wr_outbox]
@[simp] theorem State.bump_stalls (f : RField) (i n : Nat) : (s.bump f i n).stalls = s.stalls := by rw [State.bump, State.wr_stalls]
@[simp] theorem State.bump_groups (f : RField) (i n : Nat) : (s.bump f i n).groups = s.groups := by rw [State.bump, State.wr_groups]
@[simp] theorem State.bump_rows (f : RField) (i n : Nat) : (s.bump f i n).rows = s.rows := by rw [State.bump, State.wr_rows]
@[simp] theorem State.bump_jobs (f : RField) (i n : Nat) : (s.bump f i n).jobs = s.jobs := by rw [State.bump, State.wr_jobs]
@[simp] theorem State.bump_nextJob (f : RField) (i n : Nat) : (s.bump f i n).nextJob = s.nextJob := by rw [State.bump, State.wr_nextJob]
@[simp] theorem State.bump_cperLost (f : RField) (i n : Nat) : (s.bump f i n).cperLost = s.cperLost := by rw [State.bump, State.wr_cperLost]
@[simp] theorem State.bump_journal (f : RField) (i n : Nat) : (s.bump f i n).journal = s.journal := by rw [State.bump, State.wr_journal]
@[simp] theorem State.bump_digests (f : RField) (i n : Nat) : (s.bump f i n).digests = s.digests := by rw [State.bump, State.wr_digests]
@[simp] theorem State.bump_restocked (f : RField) (i n : Nat) : (s.bump f i n).restocked = s.restocked := by rw [State.bump, State.wr_restocked]
@[simp] theorem State.bump_images (f : RField) (i n : Nat) : (s.bump f i n).images = s.images := by rw [State.bump, State.wr_images]
@[simp] theorem State.bump_stock (f : RField) (i n : Nat) : (s.bump f i n).stock = s.stock := by rw [State.bump, State.wr_stock]
@[simp] theorem State.bump_working (f : RField) (i n : Nat) : (s.bump f i n).working = s.working := by rw [State.bump, State.wr_working]
@[simp] theorem State.bump_scrub (f : RField) (i n : Nat) : (s.bump f i n).scrub = s.scrub := by rw [State.bump, State.wr_scrub]
@[simp] theorem State.bump_slots (f : RField) (i n : Nat) : (s.bump f i n).slots = s.slots := by rw [State.bump, State.wr_slots]
@[simp] theorem State.bump_seqs (f : RField) (i n : Nat) : (s.bump f i n).seqs = s.seqs := by rw [State.bump, State.wr_seqs]
@[simp] theorem State.bump_pages (f : RField) (i n : Nat) : (s.bump f i n).pages = s.pages := by rw [State.bump, State.wr_pages]
@[simp] theorem State.bump_nextPage (f : RField) (i n : Nat) : (s.bump f i n).nextPage = s.nextPage := by rw [State.bump, State.wr_nextPage]
@[simp] theorem State.bump_rolls (f : RField) (i n : Nat) : (s.bump f i n).rolls = s.rolls := by rw [State.bump, State.wr_rolls]
@[simp] theorem State.bump_paces (f : RField) (i n : Nat) : (s.bump f i n).paces = s.paces := by rw [State.bump, State.wr_paces]
@[simp] theorem State.bump_sched (f : RField) (i n : Nat) : (s.bump f i n).sched = s.sched := by rw [State.bump, State.wr_sched]
@[simp] theorem State.bump_adapters (f : RField) (i n : Nat) : (s.bump f i n).adapters = s.adapters := by rw [State.bump, State.wr_adapters]
@[simp] theorem State.bump_tunes (f : RField) (i n : Nat) : (s.bump f i n).tunes = s.tunes := by rw [State.bump, State.wr_tunes]
@[simp] theorem State.bump_cart (f : RField) (i n : Nat) : (s.bump f i n).cart = s.cart := by rw [State.bump, State.wr_cart]
@[simp] theorem State.bump_mem (f : RField) (i n : Nat) : (s.bump f i n).mem = s.mem := by rw [State.bump, State.wr_mem]
@[simp] theorem State.bump_charter (f : RField) (i n : Nat) : (s.bump f i n).charter = s.charter := by rw [State.bump, State.wr_charter]
@[simp] theorem State.bump_funcs (f : RField) (i n : Nat) : (s.bump f i n).funcs = s.funcs := by rw [State.bump, State.wr_funcs]
@[simp] theorem State.bump_clerks (f : RField) (i n : Nat) : (s.bump f i n).clerks = s.clerks := by rw [State.bump, State.wr_clerks]
@[simp] theorem State.bump_pendAt (f : RField) (i n : Nat) : (s.bump f i n).pendAt = s.pendAt := by rw [State.bump, State.wr_pendAt]
@[simp] theorem State.bump_modeCtl (f : RField) (i n : Nat) : (s.bump f i n).modeCtl = s.modeCtl := by rw [State.bump, State.wr_modeCtl]
@[simp] theorem State.bump_sleep (f : RField) (i n : Nat) : (s.bump f i n).sleep = s.sleep := by rw [State.bump, State.wr_sleep]
@[simp] theorem State.bump_gatedAt (f : RField) (i n : Nat) : (s.bump f i n).gatedAt = s.gatedAt := by rw [State.bump, State.wr_gatedAt]
@[simp] theorem State.bump_wakeAt (f : RField) (i n : Nat) : (s.bump f i n).wakeAt = s.wakeAt := by rw [State.bump, State.wr_wakeAt]
@[simp] theorem State.bump_port0 (f : RField) (i n : Nat) : (s.bump f i n).port0 = s.port0 := by rw [State.bump, State.wr_port0]
@[simp] theorem State.bump_warden (f : RField) (i n : Nat) : (s.bump f i n).warden = s.warden := by rw [State.bump, State.wr_warden]
@[simp] theorem State.bump_boot (f : RField) (i n : Nat) : (s.bump f i n).boot = s.boot := by rw [State.bump, State.wr_boot]
@[simp] theorem State.bump_cal (f : RField) (i n : Nat) : (s.bump f i n).cal = s.cal := by rw [State.bump, State.wr_cal]
@[simp] theorem State.bump_sec (f : RField) (i n : Nat) : (s.bump f i n).sec = s.sec := by rw [State.bump, State.wr_sec]
@[simp] theorem State.bump_duty (f : RField) (i n : Nat) : (s.bump f i n).duty = s.duty := by rw [State.bump, State.wr_duty]
@[simp] theorem State.bump_level (f : RField) (i n : Nat) : (s.bump f i n).level = s.level := by rw [State.bump, State.wr_level]
@[simp] theorem State.bumpSat_pending (f : RField) (i n : Nat) : (s.bumpSat f i n).pending = s.pending := by rw [State.bumpSat, State.wr_pending]
@[simp] theorem State.bumpSat_now (f : RField) (i n : Nat) : (s.bumpSat f i n).now = s.now := by rw [State.bumpSat, State.wr_now]
@[simp] theorem State.bumpSat_free (f : RField) (i n : Nat) : (s.bumpSat f i n).free = s.free := by rw [State.bumpSat, State.wr_free]
@[simp] theorem State.bumpSat_halves (f : RField) (i n : Nat) : (s.bumpSat f i n).halves = s.halves := by rw [State.bumpSat, State.wr_halves]
@[simp] theorem State.bumpSat_outbox (f : RField) (i n : Nat) : (s.bumpSat f i n).outbox = s.outbox := by rw [State.bumpSat, State.wr_outbox]
@[simp] theorem State.bumpSat_stalls (f : RField) (i n : Nat) : (s.bumpSat f i n).stalls = s.stalls := by rw [State.bumpSat, State.wr_stalls]
@[simp] theorem State.bumpSat_groups (f : RField) (i n : Nat) : (s.bumpSat f i n).groups = s.groups := by rw [State.bumpSat, State.wr_groups]
@[simp] theorem State.bumpSat_rows (f : RField) (i n : Nat) : (s.bumpSat f i n).rows = s.rows := by rw [State.bumpSat, State.wr_rows]
@[simp] theorem State.bumpSat_jobs (f : RField) (i n : Nat) : (s.bumpSat f i n).jobs = s.jobs := by rw [State.bumpSat, State.wr_jobs]
@[simp] theorem State.bumpSat_nextJob (f : RField) (i n : Nat) : (s.bumpSat f i n).nextJob = s.nextJob := by rw [State.bumpSat, State.wr_nextJob]
@[simp] theorem State.bumpSat_cperLost (f : RField) (i n : Nat) : (s.bumpSat f i n).cperLost = s.cperLost := by rw [State.bumpSat, State.wr_cperLost]
@[simp] theorem State.bumpSat_journal (f : RField) (i n : Nat) : (s.bumpSat f i n).journal = s.journal := by rw [State.bumpSat, State.wr_journal]
@[simp] theorem State.bumpSat_digests (f : RField) (i n : Nat) : (s.bumpSat f i n).digests = s.digests := by rw [State.bumpSat, State.wr_digests]
@[simp] theorem State.bumpSat_restocked (f : RField) (i n : Nat) : (s.bumpSat f i n).restocked = s.restocked := by rw [State.bumpSat, State.wr_restocked]
@[simp] theorem State.bumpSat_images (f : RField) (i n : Nat) : (s.bumpSat f i n).images = s.images := by rw [State.bumpSat, State.wr_images]
@[simp] theorem State.bumpSat_stock (f : RField) (i n : Nat) : (s.bumpSat f i n).stock = s.stock := by rw [State.bumpSat, State.wr_stock]
@[simp] theorem State.bumpSat_working (f : RField) (i n : Nat) : (s.bumpSat f i n).working = s.working := by rw [State.bumpSat, State.wr_working]
@[simp] theorem State.bumpSat_scrub (f : RField) (i n : Nat) : (s.bumpSat f i n).scrub = s.scrub := by rw [State.bumpSat, State.wr_scrub]
@[simp] theorem State.bumpSat_slots (f : RField) (i n : Nat) : (s.bumpSat f i n).slots = s.slots := by rw [State.bumpSat, State.wr_slots]
@[simp] theorem State.bumpSat_seqs (f : RField) (i n : Nat) : (s.bumpSat f i n).seqs = s.seqs := by rw [State.bumpSat, State.wr_seqs]
@[simp] theorem State.bumpSat_pages (f : RField) (i n : Nat) : (s.bumpSat f i n).pages = s.pages := by rw [State.bumpSat, State.wr_pages]
@[simp] theorem State.bumpSat_nextPage (f : RField) (i n : Nat) : (s.bumpSat f i n).nextPage = s.nextPage := by rw [State.bumpSat, State.wr_nextPage]
@[simp] theorem State.bumpSat_rolls (f : RField) (i n : Nat) : (s.bumpSat f i n).rolls = s.rolls := by rw [State.bumpSat, State.wr_rolls]
@[simp] theorem State.bumpSat_paces (f : RField) (i n : Nat) : (s.bumpSat f i n).paces = s.paces := by rw [State.bumpSat, State.wr_paces]
@[simp] theorem State.bumpSat_sched (f : RField) (i n : Nat) : (s.bumpSat f i n).sched = s.sched := by rw [State.bumpSat, State.wr_sched]
@[simp] theorem State.bumpSat_adapters (f : RField) (i n : Nat) : (s.bumpSat f i n).adapters = s.adapters := by rw [State.bumpSat, State.wr_adapters]
@[simp] theorem State.bumpSat_tunes (f : RField) (i n : Nat) : (s.bumpSat f i n).tunes = s.tunes := by rw [State.bumpSat, State.wr_tunes]
@[simp] theorem State.bumpSat_cart (f : RField) (i n : Nat) : (s.bumpSat f i n).cart = s.cart := by rw [State.bumpSat, State.wr_cart]
@[simp] theorem State.bumpSat_mem (f : RField) (i n : Nat) : (s.bumpSat f i n).mem = s.mem := by rw [State.bumpSat, State.wr_mem]
@[simp] theorem State.bumpSat_charter (f : RField) (i n : Nat) : (s.bumpSat f i n).charter = s.charter := by rw [State.bumpSat, State.wr_charter]
@[simp] theorem State.bumpSat_funcs (f : RField) (i n : Nat) : (s.bumpSat f i n).funcs = s.funcs := by rw [State.bumpSat, State.wr_funcs]
@[simp] theorem State.bumpSat_clerks (f : RField) (i n : Nat) : (s.bumpSat f i n).clerks = s.clerks := by rw [State.bumpSat, State.wr_clerks]
@[simp] theorem State.bumpSat_pendAt (f : RField) (i n : Nat) : (s.bumpSat f i n).pendAt = s.pendAt := by rw [State.bumpSat, State.wr_pendAt]
@[simp] theorem State.bumpSat_modeCtl (f : RField) (i n : Nat) : (s.bumpSat f i n).modeCtl = s.modeCtl := by rw [State.bumpSat, State.wr_modeCtl]
@[simp] theorem State.bumpSat_sleep (f : RField) (i n : Nat) : (s.bumpSat f i n).sleep = s.sleep := by rw [State.bumpSat, State.wr_sleep]
@[simp] theorem State.bumpSat_gatedAt (f : RField) (i n : Nat) : (s.bumpSat f i n).gatedAt = s.gatedAt := by rw [State.bumpSat, State.wr_gatedAt]
@[simp] theorem State.bumpSat_wakeAt (f : RField) (i n : Nat) : (s.bumpSat f i n).wakeAt = s.wakeAt := by rw [State.bumpSat, State.wr_wakeAt]
@[simp] theorem State.bumpSat_port0 (f : RField) (i n : Nat) : (s.bumpSat f i n).port0 = s.port0 := by rw [State.bumpSat, State.wr_port0]
@[simp] theorem State.bumpSat_warden (f : RField) (i n : Nat) : (s.bumpSat f i n).warden = s.warden := by rw [State.bumpSat, State.wr_warden]
@[simp] theorem State.bumpSat_boot (f : RField) (i n : Nat) : (s.bumpSat f i n).boot = s.boot := by rw [State.bumpSat, State.wr_boot]
@[simp] theorem State.bumpSat_cal (f : RField) (i n : Nat) : (s.bumpSat f i n).cal = s.cal := by rw [State.bumpSat, State.wr_cal]
@[simp] theorem State.bumpSat_sec (f : RField) (i n : Nat) : (s.bumpSat f i n).sec = s.sec := by rw [State.bumpSat, State.wr_sec]
@[simp] theorem State.bumpSat_duty (f : RField) (i n : Nat) : (s.bumpSat f i n).duty = s.duty := by rw [State.bumpSat, State.wr_duty]
@[simp] theorem State.bumpSat_level (f : RField) (i n : Nat) : (s.bumpSat f i n).level = s.level := by rw [State.bumpSat, State.wr_level]
@[simp] theorem State.setStall_pending (k : Nat) (v : Stall) : (s.setStall k v).pending = s.pending := by simp only [State.setStall]
@[simp] theorem State.setStall_now (k : Nat) (v : Stall) : (s.setStall k v).now = s.now := by simp only [State.setStall]
@[simp] theorem State.setStall_free (k : Nat) (v : Stall) : (s.setStall k v).free = s.free := by simp only [State.setStall]
@[simp] theorem State.setStall_regs (k : Nat) (v : Stall) : (s.setStall k v).regs = s.regs := by simp only [State.setStall]
@[simp] theorem State.setStall_halves (k : Nat) (v : Stall) : (s.setStall k v).halves = s.halves := by simp only [State.setStall]
@[simp] theorem State.setStall_outbox (k : Nat) (v : Stall) : (s.setStall k v).outbox = s.outbox := by simp only [State.setStall]
@[simp] theorem State.setStall_groups (k : Nat) (v : Stall) : (s.setStall k v).groups = s.groups := by simp only [State.setStall]
@[simp] theorem State.setStall_rows (k : Nat) (v : Stall) : (s.setStall k v).rows = s.rows := by simp only [State.setStall]
@[simp] theorem State.setStall_jobs (k : Nat) (v : Stall) : (s.setStall k v).jobs = s.jobs := by simp only [State.setStall]
@[simp] theorem State.setStall_nextJob (k : Nat) (v : Stall) : (s.setStall k v).nextJob = s.nextJob := by simp only [State.setStall]
@[simp] theorem State.setStall_cperLost (k : Nat) (v : Stall) : (s.setStall k v).cperLost = s.cperLost := by simp only [State.setStall]
@[simp] theorem State.setStall_journal (k : Nat) (v : Stall) : (s.setStall k v).journal = s.journal := by simp only [State.setStall]
@[simp] theorem State.setStall_digests (k : Nat) (v : Stall) : (s.setStall k v).digests = s.digests := by simp only [State.setStall]
@[simp] theorem State.setStall_restocked (k : Nat) (v : Stall) : (s.setStall k v).restocked = s.restocked := by simp only [State.setStall]
@[simp] theorem State.setStall_images (k : Nat) (v : Stall) : (s.setStall k v).images = s.images := by simp only [State.setStall]
@[simp] theorem State.setStall_stock (k : Nat) (v : Stall) : (s.setStall k v).stock = s.stock := by simp only [State.setStall]
@[simp] theorem State.setStall_working (k : Nat) (v : Stall) : (s.setStall k v).working = s.working := by simp only [State.setStall]
@[simp] theorem State.setStall_scrub (k : Nat) (v : Stall) : (s.setStall k v).scrub = s.scrub := by simp only [State.setStall]
@[simp] theorem State.setStall_slots (k : Nat) (v : Stall) : (s.setStall k v).slots = s.slots := by simp only [State.setStall]
@[simp] theorem State.setStall_seqs (k : Nat) (v : Stall) : (s.setStall k v).seqs = s.seqs := by simp only [State.setStall]
@[simp] theorem State.setStall_pages (k : Nat) (v : Stall) : (s.setStall k v).pages = s.pages := by simp only [State.setStall]
@[simp] theorem State.setStall_nextPage (k : Nat) (v : Stall) : (s.setStall k v).nextPage = s.nextPage := by simp only [State.setStall]
@[simp] theorem State.setStall_rolls (k : Nat) (v : Stall) : (s.setStall k v).rolls = s.rolls := by simp only [State.setStall]
@[simp] theorem State.setStall_paces (k : Nat) (v : Stall) : (s.setStall k v).paces = s.paces := by simp only [State.setStall]
@[simp] theorem State.setStall_sched (k : Nat) (v : Stall) : (s.setStall k v).sched = s.sched := by simp only [State.setStall]
@[simp] theorem State.setStall_adapters (k : Nat) (v : Stall) : (s.setStall k v).adapters = s.adapters := by simp only [State.setStall]
@[simp] theorem State.setStall_tunes (k : Nat) (v : Stall) : (s.setStall k v).tunes = s.tunes := by simp only [State.setStall]
@[simp] theorem State.setStall_cart (k : Nat) (v : Stall) : (s.setStall k v).cart = s.cart := by simp only [State.setStall]
@[simp] theorem State.setStall_mem (k : Nat) (v : Stall) : (s.setStall k v).mem = s.mem := by simp only [State.setStall]
@[simp] theorem State.setStall_charter (k : Nat) (v : Stall) : (s.setStall k v).charter = s.charter := by simp only [State.setStall]
@[simp] theorem State.setStall_funcs (k : Nat) (v : Stall) : (s.setStall k v).funcs = s.funcs := by simp only [State.setStall]
@[simp] theorem State.setStall_clerks (k : Nat) (v : Stall) : (s.setStall k v).clerks = s.clerks := by simp only [State.setStall]
@[simp] theorem State.setStall_pendAt (k : Nat) (v : Stall) : (s.setStall k v).pendAt = s.pendAt := by simp only [State.setStall]
@[simp] theorem State.setStall_modeCtl (k : Nat) (v : Stall) : (s.setStall k v).modeCtl = s.modeCtl := by simp only [State.setStall]
@[simp] theorem State.setStall_sleep (k : Nat) (v : Stall) : (s.setStall k v).sleep = s.sleep := by simp only [State.setStall]
@[simp] theorem State.setStall_gatedAt (k : Nat) (v : Stall) : (s.setStall k v).gatedAt = s.gatedAt := by simp only [State.setStall]
@[simp] theorem State.setStall_wakeAt (k : Nat) (v : Stall) : (s.setStall k v).wakeAt = s.wakeAt := by simp only [State.setStall]
@[simp] theorem State.setStall_port0 (k : Nat) (v : Stall) : (s.setStall k v).port0 = s.port0 := by simp only [State.setStall]
@[simp] theorem State.setStall_warden (k : Nat) (v : Stall) : (s.setStall k v).warden = s.warden := by simp only [State.setStall]
@[simp] theorem State.setStall_boot (k : Nat) (v : Stall) : (s.setStall k v).boot = s.boot := by simp only [State.setStall]
@[simp] theorem State.setStall_cal (k : Nat) (v : Stall) : (s.setStall k v).cal = s.cal := by simp only [State.setStall]
@[simp] theorem State.setStall_sec (k : Nat) (v : Stall) : (s.setStall k v).sec = s.sec := by simp only [State.setStall]
@[simp] theorem State.setStall_duty (k : Nat) (v : Stall) : (s.setStall k v).duty = s.duty := by simp only [State.setStall]
@[simp] theorem State.setStall_level (k : Nat) (v : Stall) : (s.setStall k v).level = s.level := by simp only [State.setStall]
@[simp] theorem State.setGroup_pending (k : Nat) (v : Group) : (s.setGroup k v).pending = s.pending := by simp only [State.setGroup]
@[simp] theorem State.setGroup_now (k : Nat) (v : Group) : (s.setGroup k v).now = s.now := by simp only [State.setGroup]
@[simp] theorem State.setGroup_free (k : Nat) (v : Group) : (s.setGroup k v).free = s.free := by simp only [State.setGroup]
@[simp] theorem State.setGroup_regs (k : Nat) (v : Group) : (s.setGroup k v).regs = s.regs := by simp only [State.setGroup]
@[simp] theorem State.setGroup_halves (k : Nat) (v : Group) : (s.setGroup k v).halves = s.halves := by simp only [State.setGroup]
@[simp] theorem State.setGroup_outbox (k : Nat) (v : Group) : (s.setGroup k v).outbox = s.outbox := by simp only [State.setGroup]
@[simp] theorem State.setGroup_stalls (k : Nat) (v : Group) : (s.setGroup k v).stalls = s.stalls := by simp only [State.setGroup]
@[simp] theorem State.setGroup_rows (k : Nat) (v : Group) : (s.setGroup k v).rows = s.rows := by simp only [State.setGroup]
@[simp] theorem State.setGroup_jobs (k : Nat) (v : Group) : (s.setGroup k v).jobs = s.jobs := by simp only [State.setGroup]
@[simp] theorem State.setGroup_nextJob (k : Nat) (v : Group) : (s.setGroup k v).nextJob = s.nextJob := by simp only [State.setGroup]
@[simp] theorem State.setGroup_cperLost (k : Nat) (v : Group) : (s.setGroup k v).cperLost = s.cperLost := by simp only [State.setGroup]
@[simp] theorem State.setGroup_journal (k : Nat) (v : Group) : (s.setGroup k v).journal = s.journal := by simp only [State.setGroup]
@[simp] theorem State.setGroup_digests (k : Nat) (v : Group) : (s.setGroup k v).digests = s.digests := by simp only [State.setGroup]
@[simp] theorem State.setGroup_restocked (k : Nat) (v : Group) : (s.setGroup k v).restocked = s.restocked := by simp only [State.setGroup]
@[simp] theorem State.setGroup_images (k : Nat) (v : Group) : (s.setGroup k v).images = s.images := by simp only [State.setGroup]
@[simp] theorem State.setGroup_stock (k : Nat) (v : Group) : (s.setGroup k v).stock = s.stock := by simp only [State.setGroup]
@[simp] theorem State.setGroup_working (k : Nat) (v : Group) : (s.setGroup k v).working = s.working := by simp only [State.setGroup]
@[simp] theorem State.setGroup_scrub (k : Nat) (v : Group) : (s.setGroup k v).scrub = s.scrub := by simp only [State.setGroup]
@[simp] theorem State.setGroup_slots (k : Nat) (v : Group) : (s.setGroup k v).slots = s.slots := by simp only [State.setGroup]
@[simp] theorem State.setGroup_seqs (k : Nat) (v : Group) : (s.setGroup k v).seqs = s.seqs := by simp only [State.setGroup]
@[simp] theorem State.setGroup_pages (k : Nat) (v : Group) : (s.setGroup k v).pages = s.pages := by simp only [State.setGroup]
@[simp] theorem State.setGroup_nextPage (k : Nat) (v : Group) : (s.setGroup k v).nextPage = s.nextPage := by simp only [State.setGroup]
@[simp] theorem State.setGroup_rolls (k : Nat) (v : Group) : (s.setGroup k v).rolls = s.rolls := by simp only [State.setGroup]
@[simp] theorem State.setGroup_paces (k : Nat) (v : Group) : (s.setGroup k v).paces = s.paces := by simp only [State.setGroup]
@[simp] theorem State.setGroup_sched (k : Nat) (v : Group) : (s.setGroup k v).sched = s.sched := by simp only [State.setGroup]
@[simp] theorem State.setGroup_adapters (k : Nat) (v : Group) : (s.setGroup k v).adapters = s.adapters := by simp only [State.setGroup]
@[simp] theorem State.setGroup_tunes (k : Nat) (v : Group) : (s.setGroup k v).tunes = s.tunes := by simp only [State.setGroup]
@[simp] theorem State.setGroup_cart (k : Nat) (v : Group) : (s.setGroup k v).cart = s.cart := by simp only [State.setGroup]
@[simp] theorem State.setGroup_mem (k : Nat) (v : Group) : (s.setGroup k v).mem = s.mem := by simp only [State.setGroup]
@[simp] theorem State.setGroup_charter (k : Nat) (v : Group) : (s.setGroup k v).charter = s.charter := by simp only [State.setGroup]
@[simp] theorem State.setGroup_funcs (k : Nat) (v : Group) : (s.setGroup k v).funcs = s.funcs := by simp only [State.setGroup]
@[simp] theorem State.setGroup_clerks (k : Nat) (v : Group) : (s.setGroup k v).clerks = s.clerks := by simp only [State.setGroup]
@[simp] theorem State.setGroup_pendAt (k : Nat) (v : Group) : (s.setGroup k v).pendAt = s.pendAt := by simp only [State.setGroup]
@[simp] theorem State.setGroup_modeCtl (k : Nat) (v : Group) : (s.setGroup k v).modeCtl = s.modeCtl := by simp only [State.setGroup]
@[simp] theorem State.setGroup_sleep (k : Nat) (v : Group) : (s.setGroup k v).sleep = s.sleep := by simp only [State.setGroup]
@[simp] theorem State.setGroup_gatedAt (k : Nat) (v : Group) : (s.setGroup k v).gatedAt = s.gatedAt := by simp only [State.setGroup]
@[simp] theorem State.setGroup_wakeAt (k : Nat) (v : Group) : (s.setGroup k v).wakeAt = s.wakeAt := by simp only [State.setGroup]
@[simp] theorem State.setGroup_port0 (k : Nat) (v : Group) : (s.setGroup k v).port0 = s.port0 := by simp only [State.setGroup]
@[simp] theorem State.setGroup_warden (k : Nat) (v : Group) : (s.setGroup k v).warden = s.warden := by simp only [State.setGroup]
@[simp] theorem State.setGroup_boot (k : Nat) (v : Group) : (s.setGroup k v).boot = s.boot := by simp only [State.setGroup]
@[simp] theorem State.setGroup_cal (k : Nat) (v : Group) : (s.setGroup k v).cal = s.cal := by simp only [State.setGroup]
@[simp] theorem State.setGroup_sec (k : Nat) (v : Group) : (s.setGroup k v).sec = s.sec := by simp only [State.setGroup]
@[simp] theorem State.setGroup_duty (k : Nat) (v : Group) : (s.setGroup k v).duty = s.duty := by simp only [State.setGroup]
@[simp] theorem State.setGroup_level (k : Nat) (v : Group) : (s.setGroup k v).level = s.level := by simp only [State.setGroup]
@[simp] theorem State.setRow_pending (k : Nat) (v : Row) : (s.setRow k v).pending = s.pending := by simp only [State.setRow]
@[simp] theorem State.setRow_now (k : Nat) (v : Row) : (s.setRow k v).now = s.now := by simp only [State.setRow]
@[simp] theorem State.setRow_free (k : Nat) (v : Row) : (s.setRow k v).free = s.free := by simp only [State.setRow]
@[simp] theorem State.setRow_regs (k : Nat) (v : Row) : (s.setRow k v).regs = s.regs := by simp only [State.setRow]
@[simp] theorem State.setRow_halves (k : Nat) (v : Row) : (s.setRow k v).halves = s.halves := by simp only [State.setRow]
@[simp] theorem State.setRow_outbox (k : Nat) (v : Row) : (s.setRow k v).outbox = s.outbox := by simp only [State.setRow]
@[simp] theorem State.setRow_stalls (k : Nat) (v : Row) : (s.setRow k v).stalls = s.stalls := by simp only [State.setRow]
@[simp] theorem State.setRow_groups (k : Nat) (v : Row) : (s.setRow k v).groups = s.groups := by simp only [State.setRow]
@[simp] theorem State.setRow_jobs (k : Nat) (v : Row) : (s.setRow k v).jobs = s.jobs := by simp only [State.setRow]
@[simp] theorem State.setRow_nextJob (k : Nat) (v : Row) : (s.setRow k v).nextJob = s.nextJob := by simp only [State.setRow]
@[simp] theorem State.setRow_cperLost (k : Nat) (v : Row) : (s.setRow k v).cperLost = s.cperLost := by simp only [State.setRow]
@[simp] theorem State.setRow_journal (k : Nat) (v : Row) : (s.setRow k v).journal = s.journal := by simp only [State.setRow]
@[simp] theorem State.setRow_digests (k : Nat) (v : Row) : (s.setRow k v).digests = s.digests := by simp only [State.setRow]
@[simp] theorem State.setRow_restocked (k : Nat) (v : Row) : (s.setRow k v).restocked = s.restocked := by simp only [State.setRow]
@[simp] theorem State.setRow_images (k : Nat) (v : Row) : (s.setRow k v).images = s.images := by simp only [State.setRow]
@[simp] theorem State.setRow_stock (k : Nat) (v : Row) : (s.setRow k v).stock = s.stock := by simp only [State.setRow]
@[simp] theorem State.setRow_working (k : Nat) (v : Row) : (s.setRow k v).working = s.working := by simp only [State.setRow]
@[simp] theorem State.setRow_scrub (k : Nat) (v : Row) : (s.setRow k v).scrub = s.scrub := by simp only [State.setRow]
@[simp] theorem State.setRow_slots (k : Nat) (v : Row) : (s.setRow k v).slots = s.slots := by simp only [State.setRow]
@[simp] theorem State.setRow_seqs (k : Nat) (v : Row) : (s.setRow k v).seqs = s.seqs := by simp only [State.setRow]
@[simp] theorem State.setRow_pages (k : Nat) (v : Row) : (s.setRow k v).pages = s.pages := by simp only [State.setRow]
@[simp] theorem State.setRow_nextPage (k : Nat) (v : Row) : (s.setRow k v).nextPage = s.nextPage := by simp only [State.setRow]
@[simp] theorem State.setRow_rolls (k : Nat) (v : Row) : (s.setRow k v).rolls = s.rolls := by simp only [State.setRow]
@[simp] theorem State.setRow_paces (k : Nat) (v : Row) : (s.setRow k v).paces = s.paces := by simp only [State.setRow]
@[simp] theorem State.setRow_sched (k : Nat) (v : Row) : (s.setRow k v).sched = s.sched := by simp only [State.setRow]
@[simp] theorem State.setRow_adapters (k : Nat) (v : Row) : (s.setRow k v).adapters = s.adapters := by simp only [State.setRow]
@[simp] theorem State.setRow_tunes (k : Nat) (v : Row) : (s.setRow k v).tunes = s.tunes := by simp only [State.setRow]
@[simp] theorem State.setRow_cart (k : Nat) (v : Row) : (s.setRow k v).cart = s.cart := by simp only [State.setRow]
@[simp] theorem State.setRow_mem (k : Nat) (v : Row) : (s.setRow k v).mem = s.mem := by simp only [State.setRow]
@[simp] theorem State.setRow_charter (k : Nat) (v : Row) : (s.setRow k v).charter = s.charter := by simp only [State.setRow]
@[simp] theorem State.setRow_funcs (k : Nat) (v : Row) : (s.setRow k v).funcs = s.funcs := by simp only [State.setRow]
@[simp] theorem State.setRow_clerks (k : Nat) (v : Row) : (s.setRow k v).clerks = s.clerks := by simp only [State.setRow]
@[simp] theorem State.setRow_pendAt (k : Nat) (v : Row) : (s.setRow k v).pendAt = s.pendAt := by simp only [State.setRow]
@[simp] theorem State.setRow_modeCtl (k : Nat) (v : Row) : (s.setRow k v).modeCtl = s.modeCtl := by simp only [State.setRow]
@[simp] theorem State.setRow_sleep (k : Nat) (v : Row) : (s.setRow k v).sleep = s.sleep := by simp only [State.setRow]
@[simp] theorem State.setRow_gatedAt (k : Nat) (v : Row) : (s.setRow k v).gatedAt = s.gatedAt := by simp only [State.setRow]
@[simp] theorem State.setRow_wakeAt (k : Nat) (v : Row) : (s.setRow k v).wakeAt = s.wakeAt := by simp only [State.setRow]
@[simp] theorem State.setRow_port0 (k : Nat) (v : Row) : (s.setRow k v).port0 = s.port0 := by simp only [State.setRow]
@[simp] theorem State.setRow_warden (k : Nat) (v : Row) : (s.setRow k v).warden = s.warden := by simp only [State.setRow]
@[simp] theorem State.setRow_boot (k : Nat) (v : Row) : (s.setRow k v).boot = s.boot := by simp only [State.setRow]
@[simp] theorem State.setRow_cal (k : Nat) (v : Row) : (s.setRow k v).cal = s.cal := by simp only [State.setRow]
@[simp] theorem State.setRow_sec (k : Nat) (v : Row) : (s.setRow k v).sec = s.sec := by simp only [State.setRow]
@[simp] theorem State.setRow_duty (k : Nat) (v : Row) : (s.setRow k v).duty = s.duty := by simp only [State.setRow]
@[simp] theorem State.setRow_level (k : Nat) (v : Row) : (s.setRow k v).level = s.level := by simp only [State.setRow]
@[simp] theorem State.setSlot_pending (k : Nat) (v : ModelSlot) : (s.setSlot k v).pending = s.pending := by simp only [State.setSlot]
@[simp] theorem State.setSlot_now (k : Nat) (v : ModelSlot) : (s.setSlot k v).now = s.now := by simp only [State.setSlot]
@[simp] theorem State.setSlot_free (k : Nat) (v : ModelSlot) : (s.setSlot k v).free = s.free := by simp only [State.setSlot]
@[simp] theorem State.setSlot_regs (k : Nat) (v : ModelSlot) : (s.setSlot k v).regs = s.regs := by simp only [State.setSlot]
@[simp] theorem State.setSlot_halves (k : Nat) (v : ModelSlot) : (s.setSlot k v).halves = s.halves := by simp only [State.setSlot]
@[simp] theorem State.setSlot_outbox (k : Nat) (v : ModelSlot) : (s.setSlot k v).outbox = s.outbox := by simp only [State.setSlot]
@[simp] theorem State.setSlot_stalls (k : Nat) (v : ModelSlot) : (s.setSlot k v).stalls = s.stalls := by simp only [State.setSlot]
@[simp] theorem State.setSlot_groups (k : Nat) (v : ModelSlot) : (s.setSlot k v).groups = s.groups := by simp only [State.setSlot]
@[simp] theorem State.setSlot_rows (k : Nat) (v : ModelSlot) : (s.setSlot k v).rows = s.rows := by simp only [State.setSlot]
@[simp] theorem State.setSlot_jobs (k : Nat) (v : ModelSlot) : (s.setSlot k v).jobs = s.jobs := by simp only [State.setSlot]
@[simp] theorem State.setSlot_nextJob (k : Nat) (v : ModelSlot) : (s.setSlot k v).nextJob = s.nextJob := by simp only [State.setSlot]
@[simp] theorem State.setSlot_cperLost (k : Nat) (v : ModelSlot) : (s.setSlot k v).cperLost = s.cperLost := by simp only [State.setSlot]
@[simp] theorem State.setSlot_journal (k : Nat) (v : ModelSlot) : (s.setSlot k v).journal = s.journal := by simp only [State.setSlot]
@[simp] theorem State.setSlot_digests (k : Nat) (v : ModelSlot) : (s.setSlot k v).digests = s.digests := by simp only [State.setSlot]
@[simp] theorem State.setSlot_restocked (k : Nat) (v : ModelSlot) : (s.setSlot k v).restocked = s.restocked := by simp only [State.setSlot]
@[simp] theorem State.setSlot_images (k : Nat) (v : ModelSlot) : (s.setSlot k v).images = s.images := by simp only [State.setSlot]
@[simp] theorem State.setSlot_stock (k : Nat) (v : ModelSlot) : (s.setSlot k v).stock = s.stock := by simp only [State.setSlot]
@[simp] theorem State.setSlot_working (k : Nat) (v : ModelSlot) : (s.setSlot k v).working = s.working := by simp only [State.setSlot]
@[simp] theorem State.setSlot_scrub (k : Nat) (v : ModelSlot) : (s.setSlot k v).scrub = s.scrub := by simp only [State.setSlot]
@[simp] theorem State.setSlot_seqs (k : Nat) (v : ModelSlot) : (s.setSlot k v).seqs = s.seqs := by simp only [State.setSlot]
@[simp] theorem State.setSlot_pages (k : Nat) (v : ModelSlot) : (s.setSlot k v).pages = s.pages := by simp only [State.setSlot]
@[simp] theorem State.setSlot_nextPage (k : Nat) (v : ModelSlot) : (s.setSlot k v).nextPage = s.nextPage := by simp only [State.setSlot]
@[simp] theorem State.setSlot_rolls (k : Nat) (v : ModelSlot) : (s.setSlot k v).rolls = s.rolls := by simp only [State.setSlot]
@[simp] theorem State.setSlot_paces (k : Nat) (v : ModelSlot) : (s.setSlot k v).paces = s.paces := by simp only [State.setSlot]
@[simp] theorem State.setSlot_sched (k : Nat) (v : ModelSlot) : (s.setSlot k v).sched = s.sched := by simp only [State.setSlot]
@[simp] theorem State.setSlot_adapters (k : Nat) (v : ModelSlot) : (s.setSlot k v).adapters = s.adapters := by simp only [State.setSlot]
@[simp] theorem State.setSlot_tunes (k : Nat) (v : ModelSlot) : (s.setSlot k v).tunes = s.tunes := by simp only [State.setSlot]
@[simp] theorem State.setSlot_cart (k : Nat) (v : ModelSlot) : (s.setSlot k v).cart = s.cart := by simp only [State.setSlot]
@[simp] theorem State.setSlot_mem (k : Nat) (v : ModelSlot) : (s.setSlot k v).mem = s.mem := by simp only [State.setSlot]
@[simp] theorem State.setSlot_charter (k : Nat) (v : ModelSlot) : (s.setSlot k v).charter = s.charter := by simp only [State.setSlot]
@[simp] theorem State.setSlot_funcs (k : Nat) (v : ModelSlot) : (s.setSlot k v).funcs = s.funcs := by simp only [State.setSlot]
@[simp] theorem State.setSlot_clerks (k : Nat) (v : ModelSlot) : (s.setSlot k v).clerks = s.clerks := by simp only [State.setSlot]
@[simp] theorem State.setSlot_pendAt (k : Nat) (v : ModelSlot) : (s.setSlot k v).pendAt = s.pendAt := by simp only [State.setSlot]
@[simp] theorem State.setSlot_modeCtl (k : Nat) (v : ModelSlot) : (s.setSlot k v).modeCtl = s.modeCtl := by simp only [State.setSlot]
@[simp] theorem State.setSlot_sleep (k : Nat) (v : ModelSlot) : (s.setSlot k v).sleep = s.sleep := by simp only [State.setSlot]
@[simp] theorem State.setSlot_gatedAt (k : Nat) (v : ModelSlot) : (s.setSlot k v).gatedAt = s.gatedAt := by simp only [State.setSlot]
@[simp] theorem State.setSlot_wakeAt (k : Nat) (v : ModelSlot) : (s.setSlot k v).wakeAt = s.wakeAt := by simp only [State.setSlot]
@[simp] theorem State.setSlot_port0 (k : Nat) (v : ModelSlot) : (s.setSlot k v).port0 = s.port0 := by simp only [State.setSlot]
@[simp] theorem State.setSlot_warden (k : Nat) (v : ModelSlot) : (s.setSlot k v).warden = s.warden := by simp only [State.setSlot]
@[simp] theorem State.setSlot_boot (k : Nat) (v : ModelSlot) : (s.setSlot k v).boot = s.boot := by simp only [State.setSlot]
@[simp] theorem State.setSlot_cal (k : Nat) (v : ModelSlot) : (s.setSlot k v).cal = s.cal := by simp only [State.setSlot]
@[simp] theorem State.setSlot_sec (k : Nat) (v : ModelSlot) : (s.setSlot k v).sec = s.sec := by simp only [State.setSlot]
@[simp] theorem State.setSlot_duty (k : Nat) (v : ModelSlot) : (s.setSlot k v).duty = s.duty := by simp only [State.setSlot]
@[simp] theorem State.setSlot_level (k : Nat) (v : ModelSlot) : (s.setSlot k v).level = s.level := by simp only [State.setSlot]
@[simp] theorem State.setFunc_pending (k : Nat) (v : Func) : (s.setFunc k v).pending = s.pending := by simp only [State.setFunc]
@[simp] theorem State.setFunc_now (k : Nat) (v : Func) : (s.setFunc k v).now = s.now := by simp only [State.setFunc]
@[simp] theorem State.setFunc_free (k : Nat) (v : Func) : (s.setFunc k v).free = s.free := by simp only [State.setFunc]
@[simp] theorem State.setFunc_regs (k : Nat) (v : Func) : (s.setFunc k v).regs = s.regs := by simp only [State.setFunc]
@[simp] theorem State.setFunc_halves (k : Nat) (v : Func) : (s.setFunc k v).halves = s.halves := by simp only [State.setFunc]
@[simp] theorem State.setFunc_outbox (k : Nat) (v : Func) : (s.setFunc k v).outbox = s.outbox := by simp only [State.setFunc]
@[simp] theorem State.setFunc_stalls (k : Nat) (v : Func) : (s.setFunc k v).stalls = s.stalls := by simp only [State.setFunc]
@[simp] theorem State.setFunc_groups (k : Nat) (v : Func) : (s.setFunc k v).groups = s.groups := by simp only [State.setFunc]
@[simp] theorem State.setFunc_rows (k : Nat) (v : Func) : (s.setFunc k v).rows = s.rows := by simp only [State.setFunc]
@[simp] theorem State.setFunc_jobs (k : Nat) (v : Func) : (s.setFunc k v).jobs = s.jobs := by simp only [State.setFunc]
@[simp] theorem State.setFunc_nextJob (k : Nat) (v : Func) : (s.setFunc k v).nextJob = s.nextJob := by simp only [State.setFunc]
@[simp] theorem State.setFunc_cperLost (k : Nat) (v : Func) : (s.setFunc k v).cperLost = s.cperLost := by simp only [State.setFunc]
@[simp] theorem State.setFunc_journal (k : Nat) (v : Func) : (s.setFunc k v).journal = s.journal := by simp only [State.setFunc]
@[simp] theorem State.setFunc_digests (k : Nat) (v : Func) : (s.setFunc k v).digests = s.digests := by simp only [State.setFunc]
@[simp] theorem State.setFunc_restocked (k : Nat) (v : Func) : (s.setFunc k v).restocked = s.restocked := by simp only [State.setFunc]
@[simp] theorem State.setFunc_images (k : Nat) (v : Func) : (s.setFunc k v).images = s.images := by simp only [State.setFunc]
@[simp] theorem State.setFunc_stock (k : Nat) (v : Func) : (s.setFunc k v).stock = s.stock := by simp only [State.setFunc]
@[simp] theorem State.setFunc_working (k : Nat) (v : Func) : (s.setFunc k v).working = s.working := by simp only [State.setFunc]
@[simp] theorem State.setFunc_scrub (k : Nat) (v : Func) : (s.setFunc k v).scrub = s.scrub := by simp only [State.setFunc]
@[simp] theorem State.setFunc_slots (k : Nat) (v : Func) : (s.setFunc k v).slots = s.slots := by simp only [State.setFunc]
@[simp] theorem State.setFunc_seqs (k : Nat) (v : Func) : (s.setFunc k v).seqs = s.seqs := by simp only [State.setFunc]
@[simp] theorem State.setFunc_pages (k : Nat) (v : Func) : (s.setFunc k v).pages = s.pages := by simp only [State.setFunc]
@[simp] theorem State.setFunc_nextPage (k : Nat) (v : Func) : (s.setFunc k v).nextPage = s.nextPage := by simp only [State.setFunc]
@[simp] theorem State.setFunc_rolls (k : Nat) (v : Func) : (s.setFunc k v).rolls = s.rolls := by simp only [State.setFunc]
@[simp] theorem State.setFunc_paces (k : Nat) (v : Func) : (s.setFunc k v).paces = s.paces := by simp only [State.setFunc]
@[simp] theorem State.setFunc_sched (k : Nat) (v : Func) : (s.setFunc k v).sched = s.sched := by simp only [State.setFunc]
@[simp] theorem State.setFunc_adapters (k : Nat) (v : Func) : (s.setFunc k v).adapters = s.adapters := by simp only [State.setFunc]
@[simp] theorem State.setFunc_tunes (k : Nat) (v : Func) : (s.setFunc k v).tunes = s.tunes := by simp only [State.setFunc]
@[simp] theorem State.setFunc_cart (k : Nat) (v : Func) : (s.setFunc k v).cart = s.cart := by simp only [State.setFunc]
@[simp] theorem State.setFunc_mem (k : Nat) (v : Func) : (s.setFunc k v).mem = s.mem := by simp only [State.setFunc]
@[simp] theorem State.setFunc_charter (k : Nat) (v : Func) : (s.setFunc k v).charter = s.charter := by simp only [State.setFunc]
@[simp] theorem State.setFunc_clerks (k : Nat) (v : Func) : (s.setFunc k v).clerks = s.clerks := by simp only [State.setFunc]
@[simp] theorem State.setFunc_pendAt (k : Nat) (v : Func) : (s.setFunc k v).pendAt = s.pendAt := by simp only [State.setFunc]
@[simp] theorem State.setFunc_modeCtl (k : Nat) (v : Func) : (s.setFunc k v).modeCtl = s.modeCtl := by simp only [State.setFunc]
@[simp] theorem State.setFunc_sleep (k : Nat) (v : Func) : (s.setFunc k v).sleep = s.sleep := by simp only [State.setFunc]
@[simp] theorem State.setFunc_gatedAt (k : Nat) (v : Func) : (s.setFunc k v).gatedAt = s.gatedAt := by simp only [State.setFunc]
@[simp] theorem State.setFunc_wakeAt (k : Nat) (v : Func) : (s.setFunc k v).wakeAt = s.wakeAt := by simp only [State.setFunc]
@[simp] theorem State.setFunc_port0 (k : Nat) (v : Func) : (s.setFunc k v).port0 = s.port0 := by simp only [State.setFunc]
@[simp] theorem State.setFunc_warden (k : Nat) (v : Func) : (s.setFunc k v).warden = s.warden := by simp only [State.setFunc]
@[simp] theorem State.setFunc_boot (k : Nat) (v : Func) : (s.setFunc k v).boot = s.boot := by simp only [State.setFunc]
@[simp] theorem State.setFunc_cal (k : Nat) (v : Func) : (s.setFunc k v).cal = s.cal := by simp only [State.setFunc]
@[simp] theorem State.setFunc_sec (k : Nat) (v : Func) : (s.setFunc k v).sec = s.sec := by simp only [State.setFunc]
@[simp] theorem State.setFunc_duty (k : Nat) (v : Func) : (s.setFunc k v).duty = s.duty := by simp only [State.setFunc]
@[simp] theorem State.setFunc_level (k : Nat) (v : Func) : (s.setFunc k v).level = s.level := by simp only [State.setFunc]
@[simp] theorem State.setClerk_pending (k : Nat) (v : Clerk) : (s.setClerk k v).pending = s.pending := by simp only [State.setClerk]
@[simp] theorem State.setClerk_now (k : Nat) (v : Clerk) : (s.setClerk k v).now = s.now := by simp only [State.setClerk]
@[simp] theorem State.setClerk_free (k : Nat) (v : Clerk) : (s.setClerk k v).free = s.free := by simp only [State.setClerk]
@[simp] theorem State.setClerk_regs (k : Nat) (v : Clerk) : (s.setClerk k v).regs = s.regs := by simp only [State.setClerk]
@[simp] theorem State.setClerk_halves (k : Nat) (v : Clerk) : (s.setClerk k v).halves = s.halves := by simp only [State.setClerk]
@[simp] theorem State.setClerk_outbox (k : Nat) (v : Clerk) : (s.setClerk k v).outbox = s.outbox := by simp only [State.setClerk]
@[simp] theorem State.setClerk_stalls (k : Nat) (v : Clerk) : (s.setClerk k v).stalls = s.stalls := by simp only [State.setClerk]
@[simp] theorem State.setClerk_groups (k : Nat) (v : Clerk) : (s.setClerk k v).groups = s.groups := by simp only [State.setClerk]
@[simp] theorem State.setClerk_rows (k : Nat) (v : Clerk) : (s.setClerk k v).rows = s.rows := by simp only [State.setClerk]
@[simp] theorem State.setClerk_jobs (k : Nat) (v : Clerk) : (s.setClerk k v).jobs = s.jobs := by simp only [State.setClerk]
@[simp] theorem State.setClerk_nextJob (k : Nat) (v : Clerk) : (s.setClerk k v).nextJob = s.nextJob := by simp only [State.setClerk]
@[simp] theorem State.setClerk_cperLost (k : Nat) (v : Clerk) : (s.setClerk k v).cperLost = s.cperLost := by simp only [State.setClerk]
@[simp] theorem State.setClerk_journal (k : Nat) (v : Clerk) : (s.setClerk k v).journal = s.journal := by simp only [State.setClerk]
@[simp] theorem State.setClerk_digests (k : Nat) (v : Clerk) : (s.setClerk k v).digests = s.digests := by simp only [State.setClerk]
@[simp] theorem State.setClerk_restocked (k : Nat) (v : Clerk) : (s.setClerk k v).restocked = s.restocked := by simp only [State.setClerk]
@[simp] theorem State.setClerk_images (k : Nat) (v : Clerk) : (s.setClerk k v).images = s.images := by simp only [State.setClerk]
@[simp] theorem State.setClerk_stock (k : Nat) (v : Clerk) : (s.setClerk k v).stock = s.stock := by simp only [State.setClerk]
@[simp] theorem State.setClerk_working (k : Nat) (v : Clerk) : (s.setClerk k v).working = s.working := by simp only [State.setClerk]
@[simp] theorem State.setClerk_scrub (k : Nat) (v : Clerk) : (s.setClerk k v).scrub = s.scrub := by simp only [State.setClerk]
@[simp] theorem State.setClerk_slots (k : Nat) (v : Clerk) : (s.setClerk k v).slots = s.slots := by simp only [State.setClerk]
@[simp] theorem State.setClerk_seqs (k : Nat) (v : Clerk) : (s.setClerk k v).seqs = s.seqs := by simp only [State.setClerk]
@[simp] theorem State.setClerk_pages (k : Nat) (v : Clerk) : (s.setClerk k v).pages = s.pages := by simp only [State.setClerk]
@[simp] theorem State.setClerk_nextPage (k : Nat) (v : Clerk) : (s.setClerk k v).nextPage = s.nextPage := by simp only [State.setClerk]
@[simp] theorem State.setClerk_rolls (k : Nat) (v : Clerk) : (s.setClerk k v).rolls = s.rolls := by simp only [State.setClerk]
@[simp] theorem State.setClerk_paces (k : Nat) (v : Clerk) : (s.setClerk k v).paces = s.paces := by simp only [State.setClerk]
@[simp] theorem State.setClerk_sched (k : Nat) (v : Clerk) : (s.setClerk k v).sched = s.sched := by simp only [State.setClerk]
@[simp] theorem State.setClerk_adapters (k : Nat) (v : Clerk) : (s.setClerk k v).adapters = s.adapters := by simp only [State.setClerk]
@[simp] theorem State.setClerk_tunes (k : Nat) (v : Clerk) : (s.setClerk k v).tunes = s.tunes := by simp only [State.setClerk]
@[simp] theorem State.setClerk_cart (k : Nat) (v : Clerk) : (s.setClerk k v).cart = s.cart := by simp only [State.setClerk]
@[simp] theorem State.setClerk_mem (k : Nat) (v : Clerk) : (s.setClerk k v).mem = s.mem := by simp only [State.setClerk]
@[simp] theorem State.setClerk_charter (k : Nat) (v : Clerk) : (s.setClerk k v).charter = s.charter := by simp only [State.setClerk]
@[simp] theorem State.setClerk_funcs (k : Nat) (v : Clerk) : (s.setClerk k v).funcs = s.funcs := by simp only [State.setClerk]
@[simp] theorem State.setClerk_pendAt (k : Nat) (v : Clerk) : (s.setClerk k v).pendAt = s.pendAt := by simp only [State.setClerk]
@[simp] theorem State.setClerk_modeCtl (k : Nat) (v : Clerk) : (s.setClerk k v).modeCtl = s.modeCtl := by simp only [State.setClerk]
@[simp] theorem State.setClerk_sleep (k : Nat) (v : Clerk) : (s.setClerk k v).sleep = s.sleep := by simp only [State.setClerk]
@[simp] theorem State.setClerk_gatedAt (k : Nat) (v : Clerk) : (s.setClerk k v).gatedAt = s.gatedAt := by simp only [State.setClerk]
@[simp] theorem State.setClerk_wakeAt (k : Nat) (v : Clerk) : (s.setClerk k v).wakeAt = s.wakeAt := by simp only [State.setClerk]
@[simp] theorem State.setClerk_port0 (k : Nat) (v : Clerk) : (s.setClerk k v).port0 = s.port0 := by simp only [State.setClerk]
@[simp] theorem State.setClerk_warden (k : Nat) (v : Clerk) : (s.setClerk k v).warden = s.warden := by simp only [State.setClerk]
@[simp] theorem State.setClerk_boot (k : Nat) (v : Clerk) : (s.setClerk k v).boot = s.boot := by simp only [State.setClerk]
@[simp] theorem State.setClerk_cal (k : Nat) (v : Clerk) : (s.setClerk k v).cal = s.cal := by simp only [State.setClerk]
@[simp] theorem State.setClerk_sec (k : Nat) (v : Clerk) : (s.setClerk k v).sec = s.sec := by simp only [State.setClerk]
@[simp] theorem State.setClerk_duty (k : Nat) (v : Clerk) : (s.setClerk k v).duty = s.duty := by simp only [State.setClerk]
@[simp] theorem State.setClerk_level (k : Nat) (v : Clerk) : (s.setClerk k v).level = s.level := by simp only [State.setClerk]
@[simp] theorem State.setJrn_pending (k : Nat) (v : JEntry) : (s.setJrn k v).pending = s.pending := by simp only [State.setJrn]
@[simp] theorem State.setJrn_now (k : Nat) (v : JEntry) : (s.setJrn k v).now = s.now := by simp only [State.setJrn]
@[simp] theorem State.setJrn_free (k : Nat) (v : JEntry) : (s.setJrn k v).free = s.free := by simp only [State.setJrn]
@[simp] theorem State.setJrn_regs (k : Nat) (v : JEntry) : (s.setJrn k v).regs = s.regs := by simp only [State.setJrn]
@[simp] theorem State.setJrn_halves (k : Nat) (v : JEntry) : (s.setJrn k v).halves = s.halves := by simp only [State.setJrn]
@[simp] theorem State.setJrn_outbox (k : Nat) (v : JEntry) : (s.setJrn k v).outbox = s.outbox := by simp only [State.setJrn]
@[simp] theorem State.setJrn_stalls (k : Nat) (v : JEntry) : (s.setJrn k v).stalls = s.stalls := by simp only [State.setJrn]
@[simp] theorem State.setJrn_groups (k : Nat) (v : JEntry) : (s.setJrn k v).groups = s.groups := by simp only [State.setJrn]
@[simp] theorem State.setJrn_rows (k : Nat) (v : JEntry) : (s.setJrn k v).rows = s.rows := by simp only [State.setJrn]
@[simp] theorem State.setJrn_jobs (k : Nat) (v : JEntry) : (s.setJrn k v).jobs = s.jobs := by simp only [State.setJrn]
@[simp] theorem State.setJrn_nextJob (k : Nat) (v : JEntry) : (s.setJrn k v).nextJob = s.nextJob := by simp only [State.setJrn]
@[simp] theorem State.setJrn_cperLost (k : Nat) (v : JEntry) : (s.setJrn k v).cperLost = s.cperLost := by simp only [State.setJrn]
@[simp] theorem State.setJrn_digests (k : Nat) (v : JEntry) : (s.setJrn k v).digests = s.digests := by simp only [State.setJrn]
@[simp] theorem State.setJrn_restocked (k : Nat) (v : JEntry) : (s.setJrn k v).restocked = s.restocked := by simp only [State.setJrn]
@[simp] theorem State.setJrn_images (k : Nat) (v : JEntry) : (s.setJrn k v).images = s.images := by simp only [State.setJrn]
@[simp] theorem State.setJrn_stock (k : Nat) (v : JEntry) : (s.setJrn k v).stock = s.stock := by simp only [State.setJrn]
@[simp] theorem State.setJrn_working (k : Nat) (v : JEntry) : (s.setJrn k v).working = s.working := by simp only [State.setJrn]
@[simp] theorem State.setJrn_scrub (k : Nat) (v : JEntry) : (s.setJrn k v).scrub = s.scrub := by simp only [State.setJrn]
@[simp] theorem State.setJrn_slots (k : Nat) (v : JEntry) : (s.setJrn k v).slots = s.slots := by simp only [State.setJrn]
@[simp] theorem State.setJrn_seqs (k : Nat) (v : JEntry) : (s.setJrn k v).seqs = s.seqs := by simp only [State.setJrn]
@[simp] theorem State.setJrn_pages (k : Nat) (v : JEntry) : (s.setJrn k v).pages = s.pages := by simp only [State.setJrn]
@[simp] theorem State.setJrn_nextPage (k : Nat) (v : JEntry) : (s.setJrn k v).nextPage = s.nextPage := by simp only [State.setJrn]
@[simp] theorem State.setJrn_rolls (k : Nat) (v : JEntry) : (s.setJrn k v).rolls = s.rolls := by simp only [State.setJrn]
@[simp] theorem State.setJrn_paces (k : Nat) (v : JEntry) : (s.setJrn k v).paces = s.paces := by simp only [State.setJrn]
@[simp] theorem State.setJrn_sched (k : Nat) (v : JEntry) : (s.setJrn k v).sched = s.sched := by simp only [State.setJrn]
@[simp] theorem State.setJrn_adapters (k : Nat) (v : JEntry) : (s.setJrn k v).adapters = s.adapters := by simp only [State.setJrn]
@[simp] theorem State.setJrn_tunes (k : Nat) (v : JEntry) : (s.setJrn k v).tunes = s.tunes := by simp only [State.setJrn]
@[simp] theorem State.setJrn_cart (k : Nat) (v : JEntry) : (s.setJrn k v).cart = s.cart := by simp only [State.setJrn]
@[simp] theorem State.setJrn_mem (k : Nat) (v : JEntry) : (s.setJrn k v).mem = s.mem := by simp only [State.setJrn]
@[simp] theorem State.setJrn_charter (k : Nat) (v : JEntry) : (s.setJrn k v).charter = s.charter := by simp only [State.setJrn]
@[simp] theorem State.setJrn_funcs (k : Nat) (v : JEntry) : (s.setJrn k v).funcs = s.funcs := by simp only [State.setJrn]
@[simp] theorem State.setJrn_clerks (k : Nat) (v : JEntry) : (s.setJrn k v).clerks = s.clerks := by simp only [State.setJrn]
@[simp] theorem State.setJrn_pendAt (k : Nat) (v : JEntry) : (s.setJrn k v).pendAt = s.pendAt := by simp only [State.setJrn]
@[simp] theorem State.setJrn_modeCtl (k : Nat) (v : JEntry) : (s.setJrn k v).modeCtl = s.modeCtl := by simp only [State.setJrn]
@[simp] theorem State.setJrn_sleep (k : Nat) (v : JEntry) : (s.setJrn k v).sleep = s.sleep := by simp only [State.setJrn]
@[simp] theorem State.setJrn_gatedAt (k : Nat) (v : JEntry) : (s.setJrn k v).gatedAt = s.gatedAt := by simp only [State.setJrn]
@[simp] theorem State.setJrn_wakeAt (k : Nat) (v : JEntry) : (s.setJrn k v).wakeAt = s.wakeAt := by simp only [State.setJrn]
@[simp] theorem State.setJrn_port0 (k : Nat) (v : JEntry) : (s.setJrn k v).port0 = s.port0 := by simp only [State.setJrn]
@[simp] theorem State.setJrn_warden (k : Nat) (v : JEntry) : (s.setJrn k v).warden = s.warden := by simp only [State.setJrn]
@[simp] theorem State.setJrn_boot (k : Nat) (v : JEntry) : (s.setJrn k v).boot = s.boot := by simp only [State.setJrn]
@[simp] theorem State.setJrn_cal (k : Nat) (v : JEntry) : (s.setJrn k v).cal = s.cal := by simp only [State.setJrn]
@[simp] theorem State.setJrn_sec (k : Nat) (v : JEntry) : (s.setJrn k v).sec = s.sec := by simp only [State.setJrn]
@[simp] theorem State.setJrn_duty (k : Nat) (v : JEntry) : (s.setJrn k v).duty = s.duty := by simp only [State.setJrn]
@[simp] theorem State.setJrn_level (k : Nat) (v : JEntry) : (s.setJrn k v).level = s.level := by simp only [State.setJrn]
@[simp] theorem State.setSeq_pending (k : Nat) (v : Seq) : (s.setSeq k v).pending = s.pending := by simp only [State.setSeq]
@[simp] theorem State.setSeq_now (k : Nat) (v : Seq) : (s.setSeq k v).now = s.now := by simp only [State.setSeq]
@[simp] theorem State.setSeq_free (k : Nat) (v : Seq) : (s.setSeq k v).free = s.free := by simp only [State.setSeq]
@[simp] theorem State.setSeq_regs (k : Nat) (v : Seq) : (s.setSeq k v).regs = s.regs := by simp only [State.setSeq]
@[simp] theorem State.setSeq_halves (k : Nat) (v : Seq) : (s.setSeq k v).halves = s.halves := by simp only [State.setSeq]
@[simp] theorem State.setSeq_outbox (k : Nat) (v : Seq) : (s.setSeq k v).outbox = s.outbox := by simp only [State.setSeq]
@[simp] theorem State.setSeq_stalls (k : Nat) (v : Seq) : (s.setSeq k v).stalls = s.stalls := by simp only [State.setSeq]
@[simp] theorem State.setSeq_groups (k : Nat) (v : Seq) : (s.setSeq k v).groups = s.groups := by simp only [State.setSeq]
@[simp] theorem State.setSeq_rows (k : Nat) (v : Seq) : (s.setSeq k v).rows = s.rows := by simp only [State.setSeq]
@[simp] theorem State.setSeq_jobs (k : Nat) (v : Seq) : (s.setSeq k v).jobs = s.jobs := by simp only [State.setSeq]
@[simp] theorem State.setSeq_nextJob (k : Nat) (v : Seq) : (s.setSeq k v).nextJob = s.nextJob := by simp only [State.setSeq]
@[simp] theorem State.setSeq_cperLost (k : Nat) (v : Seq) : (s.setSeq k v).cperLost = s.cperLost := by simp only [State.setSeq]
@[simp] theorem State.setSeq_journal (k : Nat) (v : Seq) : (s.setSeq k v).journal = s.journal := by simp only [State.setSeq]
@[simp] theorem State.setSeq_digests (k : Nat) (v : Seq) : (s.setSeq k v).digests = s.digests := by simp only [State.setSeq]
@[simp] theorem State.setSeq_restocked (k : Nat) (v : Seq) : (s.setSeq k v).restocked = s.restocked := by simp only [State.setSeq]
@[simp] theorem State.setSeq_images (k : Nat) (v : Seq) : (s.setSeq k v).images = s.images := by simp only [State.setSeq]
@[simp] theorem State.setSeq_stock (k : Nat) (v : Seq) : (s.setSeq k v).stock = s.stock := by simp only [State.setSeq]
@[simp] theorem State.setSeq_working (k : Nat) (v : Seq) : (s.setSeq k v).working = s.working := by simp only [State.setSeq]
@[simp] theorem State.setSeq_scrub (k : Nat) (v : Seq) : (s.setSeq k v).scrub = s.scrub := by simp only [State.setSeq]
@[simp] theorem State.setSeq_slots (k : Nat) (v : Seq) : (s.setSeq k v).slots = s.slots := by simp only [State.setSeq]
@[simp] theorem State.setSeq_pages (k : Nat) (v : Seq) : (s.setSeq k v).pages = s.pages := by simp only [State.setSeq]
@[simp] theorem State.setSeq_nextPage (k : Nat) (v : Seq) : (s.setSeq k v).nextPage = s.nextPage := by simp only [State.setSeq]
@[simp] theorem State.setSeq_rolls (k : Nat) (v : Seq) : (s.setSeq k v).rolls = s.rolls := by simp only [State.setSeq]
@[simp] theorem State.setSeq_paces (k : Nat) (v : Seq) : (s.setSeq k v).paces = s.paces := by simp only [State.setSeq]
@[simp] theorem State.setSeq_sched (k : Nat) (v : Seq) : (s.setSeq k v).sched = s.sched := by simp only [State.setSeq]
@[simp] theorem State.setSeq_adapters (k : Nat) (v : Seq) : (s.setSeq k v).adapters = s.adapters := by simp only [State.setSeq]
@[simp] theorem State.setSeq_tunes (k : Nat) (v : Seq) : (s.setSeq k v).tunes = s.tunes := by simp only [State.setSeq]
@[simp] theorem State.setSeq_cart (k : Nat) (v : Seq) : (s.setSeq k v).cart = s.cart := by simp only [State.setSeq]
@[simp] theorem State.setSeq_mem (k : Nat) (v : Seq) : (s.setSeq k v).mem = s.mem := by simp only [State.setSeq]
@[simp] theorem State.setSeq_charter (k : Nat) (v : Seq) : (s.setSeq k v).charter = s.charter := by simp only [State.setSeq]
@[simp] theorem State.setSeq_funcs (k : Nat) (v : Seq) : (s.setSeq k v).funcs = s.funcs := by simp only [State.setSeq]
@[simp] theorem State.setSeq_clerks (k : Nat) (v : Seq) : (s.setSeq k v).clerks = s.clerks := by simp only [State.setSeq]
@[simp] theorem State.setSeq_pendAt (k : Nat) (v : Seq) : (s.setSeq k v).pendAt = s.pendAt := by simp only [State.setSeq]
@[simp] theorem State.setSeq_modeCtl (k : Nat) (v : Seq) : (s.setSeq k v).modeCtl = s.modeCtl := by simp only [State.setSeq]
@[simp] theorem State.setSeq_sleep (k : Nat) (v : Seq) : (s.setSeq k v).sleep = s.sleep := by simp only [State.setSeq]
@[simp] theorem State.setSeq_gatedAt (k : Nat) (v : Seq) : (s.setSeq k v).gatedAt = s.gatedAt := by simp only [State.setSeq]
@[simp] theorem State.setSeq_wakeAt (k : Nat) (v : Seq) : (s.setSeq k v).wakeAt = s.wakeAt := by simp only [State.setSeq]
@[simp] theorem State.setSeq_port0 (k : Nat) (v : Seq) : (s.setSeq k v).port0 = s.port0 := by simp only [State.setSeq]
@[simp] theorem State.setSeq_warden (k : Nat) (v : Seq) : (s.setSeq k v).warden = s.warden := by simp only [State.setSeq]
@[simp] theorem State.setSeq_boot (k : Nat) (v : Seq) : (s.setSeq k v).boot = s.boot := by simp only [State.setSeq]
@[simp] theorem State.setSeq_cal (k : Nat) (v : Seq) : (s.setSeq k v).cal = s.cal := by simp only [State.setSeq]
@[simp] theorem State.setSeq_sec (k : Nat) (v : Seq) : (s.setSeq k v).sec = s.sec := by simp only [State.setSeq]
@[simp] theorem State.setSeq_duty (k : Nat) (v : Seq) : (s.setSeq k v).duty = s.duty := by simp only [State.setSeq]
@[simp] theorem State.setSeq_level (k : Nat) (v : Seq) : (s.setSeq k v).level = s.level := by simp only [State.setSeq]
@[simp] theorem State.setPage_pending (k : Nat) (v : Page) : (s.setPage k v).pending = s.pending := by simp only [State.setPage]
@[simp] theorem State.setPage_now (k : Nat) (v : Page) : (s.setPage k v).now = s.now := by simp only [State.setPage]
@[simp] theorem State.setPage_free (k : Nat) (v : Page) : (s.setPage k v).free = s.free := by simp only [State.setPage]
@[simp] theorem State.setPage_regs (k : Nat) (v : Page) : (s.setPage k v).regs = s.regs := by simp only [State.setPage]
@[simp] theorem State.setPage_halves (k : Nat) (v : Page) : (s.setPage k v).halves = s.halves := by simp only [State.setPage]
@[simp] theorem State.setPage_outbox (k : Nat) (v : Page) : (s.setPage k v).outbox = s.outbox := by simp only [State.setPage]
@[simp] theorem State.setPage_stalls (k : Nat) (v : Page) : (s.setPage k v).stalls = s.stalls := by simp only [State.setPage]
@[simp] theorem State.setPage_groups (k : Nat) (v : Page) : (s.setPage k v).groups = s.groups := by simp only [State.setPage]
@[simp] theorem State.setPage_rows (k : Nat) (v : Page) : (s.setPage k v).rows = s.rows := by simp only [State.setPage]
@[simp] theorem State.setPage_jobs (k : Nat) (v : Page) : (s.setPage k v).jobs = s.jobs := by simp only [State.setPage]
@[simp] theorem State.setPage_nextJob (k : Nat) (v : Page) : (s.setPage k v).nextJob = s.nextJob := by simp only [State.setPage]
@[simp] theorem State.setPage_cperLost (k : Nat) (v : Page) : (s.setPage k v).cperLost = s.cperLost := by simp only [State.setPage]
@[simp] theorem State.setPage_journal (k : Nat) (v : Page) : (s.setPage k v).journal = s.journal := by simp only [State.setPage]
@[simp] theorem State.setPage_digests (k : Nat) (v : Page) : (s.setPage k v).digests = s.digests := by simp only [State.setPage]
@[simp] theorem State.setPage_restocked (k : Nat) (v : Page) : (s.setPage k v).restocked = s.restocked := by simp only [State.setPage]
@[simp] theorem State.setPage_images (k : Nat) (v : Page) : (s.setPage k v).images = s.images := by simp only [State.setPage]
@[simp] theorem State.setPage_stock (k : Nat) (v : Page) : (s.setPage k v).stock = s.stock := by simp only [State.setPage]
@[simp] theorem State.setPage_working (k : Nat) (v : Page) : (s.setPage k v).working = s.working := by simp only [State.setPage]
@[simp] theorem State.setPage_scrub (k : Nat) (v : Page) : (s.setPage k v).scrub = s.scrub := by simp only [State.setPage]
@[simp] theorem State.setPage_slots (k : Nat) (v : Page) : (s.setPage k v).slots = s.slots := by simp only [State.setPage]
@[simp] theorem State.setPage_seqs (k : Nat) (v : Page) : (s.setPage k v).seqs = s.seqs := by simp only [State.setPage]
@[simp] theorem State.setPage_nextPage (k : Nat) (v : Page) : (s.setPage k v).nextPage = s.nextPage := by simp only [State.setPage]
@[simp] theorem State.setPage_rolls (k : Nat) (v : Page) : (s.setPage k v).rolls = s.rolls := by simp only [State.setPage]
@[simp] theorem State.setPage_paces (k : Nat) (v : Page) : (s.setPage k v).paces = s.paces := by simp only [State.setPage]
@[simp] theorem State.setPage_sched (k : Nat) (v : Page) : (s.setPage k v).sched = s.sched := by simp only [State.setPage]
@[simp] theorem State.setPage_adapters (k : Nat) (v : Page) : (s.setPage k v).adapters = s.adapters := by simp only [State.setPage]
@[simp] theorem State.setPage_tunes (k : Nat) (v : Page) : (s.setPage k v).tunes = s.tunes := by simp only [State.setPage]
@[simp] theorem State.setPage_cart (k : Nat) (v : Page) : (s.setPage k v).cart = s.cart := by simp only [State.setPage]
@[simp] theorem State.setPage_mem (k : Nat) (v : Page) : (s.setPage k v).mem = s.mem := by simp only [State.setPage]
@[simp] theorem State.setPage_charter (k : Nat) (v : Page) : (s.setPage k v).charter = s.charter := by simp only [State.setPage]
@[simp] theorem State.setPage_funcs (k : Nat) (v : Page) : (s.setPage k v).funcs = s.funcs := by simp only [State.setPage]
@[simp] theorem State.setPage_clerks (k : Nat) (v : Page) : (s.setPage k v).clerks = s.clerks := by simp only [State.setPage]
@[simp] theorem State.setPage_pendAt (k : Nat) (v : Page) : (s.setPage k v).pendAt = s.pendAt := by simp only [State.setPage]
@[simp] theorem State.setPage_modeCtl (k : Nat) (v : Page) : (s.setPage k v).modeCtl = s.modeCtl := by simp only [State.setPage]
@[simp] theorem State.setPage_sleep (k : Nat) (v : Page) : (s.setPage k v).sleep = s.sleep := by simp only [State.setPage]
@[simp] theorem State.setPage_gatedAt (k : Nat) (v : Page) : (s.setPage k v).gatedAt = s.gatedAt := by simp only [State.setPage]
@[simp] theorem State.setPage_wakeAt (k : Nat) (v : Page) : (s.setPage k v).wakeAt = s.wakeAt := by simp only [State.setPage]
@[simp] theorem State.setPage_port0 (k : Nat) (v : Page) : (s.setPage k v).port0 = s.port0 := by simp only [State.setPage]
@[simp] theorem State.setPage_warden (k : Nat) (v : Page) : (s.setPage k v).warden = s.warden := by simp only [State.setPage]
@[simp] theorem State.setPage_boot (k : Nat) (v : Page) : (s.setPage k v).boot = s.boot := by simp only [State.setPage]
@[simp] theorem State.setPage_cal (k : Nat) (v : Page) : (s.setPage k v).cal = s.cal := by simp only [State.setPage]
@[simp] theorem State.setPage_sec (k : Nat) (v : Page) : (s.setPage k v).sec = s.sec := by simp only [State.setPage]
@[simp] theorem State.setPage_duty (k : Nat) (v : Page) : (s.setPage k v).duty = s.duty := by simp only [State.setPage]
@[simp] theorem State.setPage_level (k : Nat) (v : Page) : (s.setPage k v).level = s.level := by simp only [State.setPage]
@[simp] theorem State.setRoll_pending (k : Nat) (v : Roll) : (s.setRoll k v).pending = s.pending := by simp only [State.setRoll]
@[simp] theorem State.setRoll_now (k : Nat) (v : Roll) : (s.setRoll k v).now = s.now := by simp only [State.setRoll]
@[simp] theorem State.setRoll_free (k : Nat) (v : Roll) : (s.setRoll k v).free = s.free := by simp only [State.setRoll]
@[simp] theorem State.setRoll_regs (k : Nat) (v : Roll) : (s.setRoll k v).regs = s.regs := by simp only [State.setRoll]
@[simp] theorem State.setRoll_halves (k : Nat) (v : Roll) : (s.setRoll k v).halves = s.halves := by simp only [State.setRoll]
@[simp] theorem State.setRoll_outbox (k : Nat) (v : Roll) : (s.setRoll k v).outbox = s.outbox := by simp only [State.setRoll]
@[simp] theorem State.setRoll_stalls (k : Nat) (v : Roll) : (s.setRoll k v).stalls = s.stalls := by simp only [State.setRoll]
@[simp] theorem State.setRoll_groups (k : Nat) (v : Roll) : (s.setRoll k v).groups = s.groups := by simp only [State.setRoll]
@[simp] theorem State.setRoll_rows (k : Nat) (v : Roll) : (s.setRoll k v).rows = s.rows := by simp only [State.setRoll]
@[simp] theorem State.setRoll_jobs (k : Nat) (v : Roll) : (s.setRoll k v).jobs = s.jobs := by simp only [State.setRoll]
@[simp] theorem State.setRoll_nextJob (k : Nat) (v : Roll) : (s.setRoll k v).nextJob = s.nextJob := by simp only [State.setRoll]
@[simp] theorem State.setRoll_cperLost (k : Nat) (v : Roll) : (s.setRoll k v).cperLost = s.cperLost := by simp only [State.setRoll]
@[simp] theorem State.setRoll_journal (k : Nat) (v : Roll) : (s.setRoll k v).journal = s.journal := by simp only [State.setRoll]
@[simp] theorem State.setRoll_digests (k : Nat) (v : Roll) : (s.setRoll k v).digests = s.digests := by simp only [State.setRoll]
@[simp] theorem State.setRoll_restocked (k : Nat) (v : Roll) : (s.setRoll k v).restocked = s.restocked := by simp only [State.setRoll]
@[simp] theorem State.setRoll_images (k : Nat) (v : Roll) : (s.setRoll k v).images = s.images := by simp only [State.setRoll]
@[simp] theorem State.setRoll_stock (k : Nat) (v : Roll) : (s.setRoll k v).stock = s.stock := by simp only [State.setRoll]
@[simp] theorem State.setRoll_working (k : Nat) (v : Roll) : (s.setRoll k v).working = s.working := by simp only [State.setRoll]
@[simp] theorem State.setRoll_scrub (k : Nat) (v : Roll) : (s.setRoll k v).scrub = s.scrub := by simp only [State.setRoll]
@[simp] theorem State.setRoll_slots (k : Nat) (v : Roll) : (s.setRoll k v).slots = s.slots := by simp only [State.setRoll]
@[simp] theorem State.setRoll_seqs (k : Nat) (v : Roll) : (s.setRoll k v).seqs = s.seqs := by simp only [State.setRoll]
@[simp] theorem State.setRoll_pages (k : Nat) (v : Roll) : (s.setRoll k v).pages = s.pages := by simp only [State.setRoll]
@[simp] theorem State.setRoll_nextPage (k : Nat) (v : Roll) : (s.setRoll k v).nextPage = s.nextPage := by simp only [State.setRoll]
@[simp] theorem State.setRoll_paces (k : Nat) (v : Roll) : (s.setRoll k v).paces = s.paces := by simp only [State.setRoll]
@[simp] theorem State.setRoll_sched (k : Nat) (v : Roll) : (s.setRoll k v).sched = s.sched := by simp only [State.setRoll]
@[simp] theorem State.setRoll_adapters (k : Nat) (v : Roll) : (s.setRoll k v).adapters = s.adapters := by simp only [State.setRoll]
@[simp] theorem State.setRoll_tunes (k : Nat) (v : Roll) : (s.setRoll k v).tunes = s.tunes := by simp only [State.setRoll]
@[simp] theorem State.setRoll_cart (k : Nat) (v : Roll) : (s.setRoll k v).cart = s.cart := by simp only [State.setRoll]
@[simp] theorem State.setRoll_mem (k : Nat) (v : Roll) : (s.setRoll k v).mem = s.mem := by simp only [State.setRoll]
@[simp] theorem State.setRoll_charter (k : Nat) (v : Roll) : (s.setRoll k v).charter = s.charter := by simp only [State.setRoll]
@[simp] theorem State.setRoll_funcs (k : Nat) (v : Roll) : (s.setRoll k v).funcs = s.funcs := by simp only [State.setRoll]
@[simp] theorem State.setRoll_clerks (k : Nat) (v : Roll) : (s.setRoll k v).clerks = s.clerks := by simp only [State.setRoll]
@[simp] theorem State.setRoll_pendAt (k : Nat) (v : Roll) : (s.setRoll k v).pendAt = s.pendAt := by simp only [State.setRoll]
@[simp] theorem State.setRoll_modeCtl (k : Nat) (v : Roll) : (s.setRoll k v).modeCtl = s.modeCtl := by simp only [State.setRoll]
@[simp] theorem State.setRoll_sleep (k : Nat) (v : Roll) : (s.setRoll k v).sleep = s.sleep := by simp only [State.setRoll]
@[simp] theorem State.setRoll_gatedAt (k : Nat) (v : Roll) : (s.setRoll k v).gatedAt = s.gatedAt := by simp only [State.setRoll]
@[simp] theorem State.setRoll_wakeAt (k : Nat) (v : Roll) : (s.setRoll k v).wakeAt = s.wakeAt := by simp only [State.setRoll]
@[simp] theorem State.setRoll_port0 (k : Nat) (v : Roll) : (s.setRoll k v).port0 = s.port0 := by simp only [State.setRoll]
@[simp] theorem State.setRoll_warden (k : Nat) (v : Roll) : (s.setRoll k v).warden = s.warden := by simp only [State.setRoll]
@[simp] theorem State.setRoll_boot (k : Nat) (v : Roll) : (s.setRoll k v).boot = s.boot := by simp only [State.setRoll]
@[simp] theorem State.setRoll_cal (k : Nat) (v : Roll) : (s.setRoll k v).cal = s.cal := by simp only [State.setRoll]
@[simp] theorem State.setRoll_sec (k : Nat) (v : Roll) : (s.setRoll k v).sec = s.sec := by simp only [State.setRoll]
@[simp] theorem State.setRoll_duty (k : Nat) (v : Roll) : (s.setRoll k v).duty = s.duty := by simp only [State.setRoll]
@[simp] theorem State.setRoll_level (k : Nat) (v : Roll) : (s.setRoll k v).level = s.level := by simp only [State.setRoll]
@[simp] theorem State.setPace_pending (k : Nat) (v : Pace) : (s.setPace k v).pending = s.pending := by simp only [State.setPace]
@[simp] theorem State.setPace_now (k : Nat) (v : Pace) : (s.setPace k v).now = s.now := by simp only [State.setPace]
@[simp] theorem State.setPace_free (k : Nat) (v : Pace) : (s.setPace k v).free = s.free := by simp only [State.setPace]
@[simp] theorem State.setPace_regs (k : Nat) (v : Pace) : (s.setPace k v).regs = s.regs := by simp only [State.setPace]
@[simp] theorem State.setPace_halves (k : Nat) (v : Pace) : (s.setPace k v).halves = s.halves := by simp only [State.setPace]
@[simp] theorem State.setPace_outbox (k : Nat) (v : Pace) : (s.setPace k v).outbox = s.outbox := by simp only [State.setPace]
@[simp] theorem State.setPace_stalls (k : Nat) (v : Pace) : (s.setPace k v).stalls = s.stalls := by simp only [State.setPace]
@[simp] theorem State.setPace_groups (k : Nat) (v : Pace) : (s.setPace k v).groups = s.groups := by simp only [State.setPace]
@[simp] theorem State.setPace_rows (k : Nat) (v : Pace) : (s.setPace k v).rows = s.rows := by simp only [State.setPace]
@[simp] theorem State.setPace_jobs (k : Nat) (v : Pace) : (s.setPace k v).jobs = s.jobs := by simp only [State.setPace]
@[simp] theorem State.setPace_nextJob (k : Nat) (v : Pace) : (s.setPace k v).nextJob = s.nextJob := by simp only [State.setPace]
@[simp] theorem State.setPace_cperLost (k : Nat) (v : Pace) : (s.setPace k v).cperLost = s.cperLost := by simp only [State.setPace]
@[simp] theorem State.setPace_journal (k : Nat) (v : Pace) : (s.setPace k v).journal = s.journal := by simp only [State.setPace]
@[simp] theorem State.setPace_digests (k : Nat) (v : Pace) : (s.setPace k v).digests = s.digests := by simp only [State.setPace]
@[simp] theorem State.setPace_restocked (k : Nat) (v : Pace) : (s.setPace k v).restocked = s.restocked := by simp only [State.setPace]
@[simp] theorem State.setPace_images (k : Nat) (v : Pace) : (s.setPace k v).images = s.images := by simp only [State.setPace]
@[simp] theorem State.setPace_stock (k : Nat) (v : Pace) : (s.setPace k v).stock = s.stock := by simp only [State.setPace]
@[simp] theorem State.setPace_working (k : Nat) (v : Pace) : (s.setPace k v).working = s.working := by simp only [State.setPace]
@[simp] theorem State.setPace_scrub (k : Nat) (v : Pace) : (s.setPace k v).scrub = s.scrub := by simp only [State.setPace]
@[simp] theorem State.setPace_slots (k : Nat) (v : Pace) : (s.setPace k v).slots = s.slots := by simp only [State.setPace]
@[simp] theorem State.setPace_seqs (k : Nat) (v : Pace) : (s.setPace k v).seqs = s.seqs := by simp only [State.setPace]
@[simp] theorem State.setPace_pages (k : Nat) (v : Pace) : (s.setPace k v).pages = s.pages := by simp only [State.setPace]
@[simp] theorem State.setPace_nextPage (k : Nat) (v : Pace) : (s.setPace k v).nextPage = s.nextPage := by simp only [State.setPace]
@[simp] theorem State.setPace_rolls (k : Nat) (v : Pace) : (s.setPace k v).rolls = s.rolls := by simp only [State.setPace]
@[simp] theorem State.setPace_sched (k : Nat) (v : Pace) : (s.setPace k v).sched = s.sched := by simp only [State.setPace]
@[simp] theorem State.setPace_adapters (k : Nat) (v : Pace) : (s.setPace k v).adapters = s.adapters := by simp only [State.setPace]
@[simp] theorem State.setPace_tunes (k : Nat) (v : Pace) : (s.setPace k v).tunes = s.tunes := by simp only [State.setPace]
@[simp] theorem State.setPace_cart (k : Nat) (v : Pace) : (s.setPace k v).cart = s.cart := by simp only [State.setPace]
@[simp] theorem State.setPace_mem (k : Nat) (v : Pace) : (s.setPace k v).mem = s.mem := by simp only [State.setPace]
@[simp] theorem State.setPace_charter (k : Nat) (v : Pace) : (s.setPace k v).charter = s.charter := by simp only [State.setPace]
@[simp] theorem State.setPace_funcs (k : Nat) (v : Pace) : (s.setPace k v).funcs = s.funcs := by simp only [State.setPace]
@[simp] theorem State.setPace_clerks (k : Nat) (v : Pace) : (s.setPace k v).clerks = s.clerks := by simp only [State.setPace]
@[simp] theorem State.setPace_pendAt (k : Nat) (v : Pace) : (s.setPace k v).pendAt = s.pendAt := by simp only [State.setPace]
@[simp] theorem State.setPace_modeCtl (k : Nat) (v : Pace) : (s.setPace k v).modeCtl = s.modeCtl := by simp only [State.setPace]
@[simp] theorem State.setPace_sleep (k : Nat) (v : Pace) : (s.setPace k v).sleep = s.sleep := by simp only [State.setPace]
@[simp] theorem State.setPace_gatedAt (k : Nat) (v : Pace) : (s.setPace k v).gatedAt = s.gatedAt := by simp only [State.setPace]
@[simp] theorem State.setPace_wakeAt (k : Nat) (v : Pace) : (s.setPace k v).wakeAt = s.wakeAt := by simp only [State.setPace]
@[simp] theorem State.setPace_port0 (k : Nat) (v : Pace) : (s.setPace k v).port0 = s.port0 := by simp only [State.setPace]
@[simp] theorem State.setPace_warden (k : Nat) (v : Pace) : (s.setPace k v).warden = s.warden := by simp only [State.setPace]
@[simp] theorem State.setPace_boot (k : Nat) (v : Pace) : (s.setPace k v).boot = s.boot := by simp only [State.setPace]
@[simp] theorem State.setPace_cal (k : Nat) (v : Pace) : (s.setPace k v).cal = s.cal := by simp only [State.setPace]
@[simp] theorem State.setPace_sec (k : Nat) (v : Pace) : (s.setPace k v).sec = s.sec := by simp only [State.setPace]
@[simp] theorem State.setPace_duty (k : Nat) (v : Pace) : (s.setPace k v).duty = s.duty := by simp only [State.setPace]
@[simp] theorem State.setPace_level (k : Nat) (v : Pace) : (s.setPace k v).level = s.level := by simp only [State.setPace]
@[simp] theorem State.setAdapter_pending (k : Nat) (v : Adapter) : (s.setAdapter k v).pending = s.pending := by simp only [State.setAdapter]
@[simp] theorem State.setAdapter_now (k : Nat) (v : Adapter) : (s.setAdapter k v).now = s.now := by simp only [State.setAdapter]
@[simp] theorem State.setAdapter_free (k : Nat) (v : Adapter) : (s.setAdapter k v).free = s.free := by simp only [State.setAdapter]
@[simp] theorem State.setAdapter_regs (k : Nat) (v : Adapter) : (s.setAdapter k v).regs = s.regs := by simp only [State.setAdapter]
@[simp] theorem State.setAdapter_halves (k : Nat) (v : Adapter) : (s.setAdapter k v).halves = s.halves := by simp only [State.setAdapter]
@[simp] theorem State.setAdapter_outbox (k : Nat) (v : Adapter) : (s.setAdapter k v).outbox = s.outbox := by simp only [State.setAdapter]
@[simp] theorem State.setAdapter_stalls (k : Nat) (v : Adapter) : (s.setAdapter k v).stalls = s.stalls := by simp only [State.setAdapter]
@[simp] theorem State.setAdapter_groups (k : Nat) (v : Adapter) : (s.setAdapter k v).groups = s.groups := by simp only [State.setAdapter]
@[simp] theorem State.setAdapter_rows (k : Nat) (v : Adapter) : (s.setAdapter k v).rows = s.rows := by simp only [State.setAdapter]
@[simp] theorem State.setAdapter_jobs (k : Nat) (v : Adapter) : (s.setAdapter k v).jobs = s.jobs := by simp only [State.setAdapter]
@[simp] theorem State.setAdapter_nextJob (k : Nat) (v : Adapter) : (s.setAdapter k v).nextJob = s.nextJob := by simp only [State.setAdapter]
@[simp] theorem State.setAdapter_cperLost (k : Nat) (v : Adapter) : (s.setAdapter k v).cperLost = s.cperLost := by simp only [State.setAdapter]
@[simp] theorem State.setAdapter_journal (k : Nat) (v : Adapter) : (s.setAdapter k v).journal = s.journal := by simp only [State.setAdapter]
@[simp] theorem State.setAdapter_digests (k : Nat) (v : Adapter) : (s.setAdapter k v).digests = s.digests := by simp only [State.setAdapter]
@[simp] theorem State.setAdapter_restocked (k : Nat) (v : Adapter) : (s.setAdapter k v).restocked = s.restocked := by simp only [State.setAdapter]
@[simp] theorem State.setAdapter_images (k : Nat) (v : Adapter) : (s.setAdapter k v).images = s.images := by simp only [State.setAdapter]
@[simp] theorem State.setAdapter_stock (k : Nat) (v : Adapter) : (s.setAdapter k v).stock = s.stock := by simp only [State.setAdapter]
@[simp] theorem State.setAdapter_working (k : Nat) (v : Adapter) : (s.setAdapter k v).working = s.working := by simp only [State.setAdapter]
@[simp] theorem State.setAdapter_scrub (k : Nat) (v : Adapter) : (s.setAdapter k v).scrub = s.scrub := by simp only [State.setAdapter]
@[simp] theorem State.setAdapter_slots (k : Nat) (v : Adapter) : (s.setAdapter k v).slots = s.slots := by simp only [State.setAdapter]
@[simp] theorem State.setAdapter_seqs (k : Nat) (v : Adapter) : (s.setAdapter k v).seqs = s.seqs := by simp only [State.setAdapter]
@[simp] theorem State.setAdapter_pages (k : Nat) (v : Adapter) : (s.setAdapter k v).pages = s.pages := by simp only [State.setAdapter]
@[simp] theorem State.setAdapter_nextPage (k : Nat) (v : Adapter) : (s.setAdapter k v).nextPage = s.nextPage := by simp only [State.setAdapter]
@[simp] theorem State.setAdapter_rolls (k : Nat) (v : Adapter) : (s.setAdapter k v).rolls = s.rolls := by simp only [State.setAdapter]
@[simp] theorem State.setAdapter_paces (k : Nat) (v : Adapter) : (s.setAdapter k v).paces = s.paces := by simp only [State.setAdapter]
@[simp] theorem State.setAdapter_sched (k : Nat) (v : Adapter) : (s.setAdapter k v).sched = s.sched := by simp only [State.setAdapter]
@[simp] theorem State.setAdapter_tunes (k : Nat) (v : Adapter) : (s.setAdapter k v).tunes = s.tunes := by simp only [State.setAdapter]
@[simp] theorem State.setAdapter_cart (k : Nat) (v : Adapter) : (s.setAdapter k v).cart = s.cart := by simp only [State.setAdapter]
@[simp] theorem State.setAdapter_mem (k : Nat) (v : Adapter) : (s.setAdapter k v).mem = s.mem := by simp only [State.setAdapter]
@[simp] theorem State.setAdapter_charter (k : Nat) (v : Adapter) : (s.setAdapter k v).charter = s.charter := by simp only [State.setAdapter]
@[simp] theorem State.setAdapter_funcs (k : Nat) (v : Adapter) : (s.setAdapter k v).funcs = s.funcs := by simp only [State.setAdapter]
@[simp] theorem State.setAdapter_clerks (k : Nat) (v : Adapter) : (s.setAdapter k v).clerks = s.clerks := by simp only [State.setAdapter]
@[simp] theorem State.setAdapter_pendAt (k : Nat) (v : Adapter) : (s.setAdapter k v).pendAt = s.pendAt := by simp only [State.setAdapter]
@[simp] theorem State.setAdapter_modeCtl (k : Nat) (v : Adapter) : (s.setAdapter k v).modeCtl = s.modeCtl := by simp only [State.setAdapter]
@[simp] theorem State.setAdapter_sleep (k : Nat) (v : Adapter) : (s.setAdapter k v).sleep = s.sleep := by simp only [State.setAdapter]
@[simp] theorem State.setAdapter_gatedAt (k : Nat) (v : Adapter) : (s.setAdapter k v).gatedAt = s.gatedAt := by simp only [State.setAdapter]
@[simp] theorem State.setAdapter_wakeAt (k : Nat) (v : Adapter) : (s.setAdapter k v).wakeAt = s.wakeAt := by simp only [State.setAdapter]
@[simp] theorem State.setAdapter_port0 (k : Nat) (v : Adapter) : (s.setAdapter k v).port0 = s.port0 := by simp only [State.setAdapter]
@[simp] theorem State.setAdapter_warden (k : Nat) (v : Adapter) : (s.setAdapter k v).warden = s.warden := by simp only [State.setAdapter]
@[simp] theorem State.setAdapter_boot (k : Nat) (v : Adapter) : (s.setAdapter k v).boot = s.boot := by simp only [State.setAdapter]
@[simp] theorem State.setAdapter_cal (k : Nat) (v : Adapter) : (s.setAdapter k v).cal = s.cal := by simp only [State.setAdapter]
@[simp] theorem State.setAdapter_sec (k : Nat) (v : Adapter) : (s.setAdapter k v).sec = s.sec := by simp only [State.setAdapter]
@[simp] theorem State.setAdapter_duty (k : Nat) (v : Adapter) : (s.setAdapter k v).duty = s.duty := by simp only [State.setAdapter]
@[simp] theorem State.setAdapter_level (k : Nat) (v : Adapter) : (s.setAdapter k v).level = s.level := by simp only [State.setAdapter]
@[simp] theorem State.setTune_pending (k : Nat) (v : TuneJob) : (s.setTune k v).pending = s.pending := by simp only [State.setTune]
@[simp] theorem State.setTune_now (k : Nat) (v : TuneJob) : (s.setTune k v).now = s.now := by simp only [State.setTune]
@[simp] theorem State.setTune_free (k : Nat) (v : TuneJob) : (s.setTune k v).free = s.free := by simp only [State.setTune]
@[simp] theorem State.setTune_regs (k : Nat) (v : TuneJob) : (s.setTune k v).regs = s.regs := by simp only [State.setTune]
@[simp] theorem State.setTune_halves (k : Nat) (v : TuneJob) : (s.setTune k v).halves = s.halves := by simp only [State.setTune]
@[simp] theorem State.setTune_outbox (k : Nat) (v : TuneJob) : (s.setTune k v).outbox = s.outbox := by simp only [State.setTune]
@[simp] theorem State.setTune_stalls (k : Nat) (v : TuneJob) : (s.setTune k v).stalls = s.stalls := by simp only [State.setTune]
@[simp] theorem State.setTune_groups (k : Nat) (v : TuneJob) : (s.setTune k v).groups = s.groups := by simp only [State.setTune]
@[simp] theorem State.setTune_rows (k : Nat) (v : TuneJob) : (s.setTune k v).rows = s.rows := by simp only [State.setTune]
@[simp] theorem State.setTune_jobs (k : Nat) (v : TuneJob) : (s.setTune k v).jobs = s.jobs := by simp only [State.setTune]
@[simp] theorem State.setTune_nextJob (k : Nat) (v : TuneJob) : (s.setTune k v).nextJob = s.nextJob := by simp only [State.setTune]
@[simp] theorem State.setTune_cperLost (k : Nat) (v : TuneJob) : (s.setTune k v).cperLost = s.cperLost := by simp only [State.setTune]
@[simp] theorem State.setTune_journal (k : Nat) (v : TuneJob) : (s.setTune k v).journal = s.journal := by simp only [State.setTune]
@[simp] theorem State.setTune_digests (k : Nat) (v : TuneJob) : (s.setTune k v).digests = s.digests := by simp only [State.setTune]
@[simp] theorem State.setTune_restocked (k : Nat) (v : TuneJob) : (s.setTune k v).restocked = s.restocked := by simp only [State.setTune]
@[simp] theorem State.setTune_images (k : Nat) (v : TuneJob) : (s.setTune k v).images = s.images := by simp only [State.setTune]
@[simp] theorem State.setTune_stock (k : Nat) (v : TuneJob) : (s.setTune k v).stock = s.stock := by simp only [State.setTune]
@[simp] theorem State.setTune_working (k : Nat) (v : TuneJob) : (s.setTune k v).working = s.working := by simp only [State.setTune]
@[simp] theorem State.setTune_scrub (k : Nat) (v : TuneJob) : (s.setTune k v).scrub = s.scrub := by simp only [State.setTune]
@[simp] theorem State.setTune_slots (k : Nat) (v : TuneJob) : (s.setTune k v).slots = s.slots := by simp only [State.setTune]
@[simp] theorem State.setTune_seqs (k : Nat) (v : TuneJob) : (s.setTune k v).seqs = s.seqs := by simp only [State.setTune]
@[simp] theorem State.setTune_pages (k : Nat) (v : TuneJob) : (s.setTune k v).pages = s.pages := by simp only [State.setTune]
@[simp] theorem State.setTune_nextPage (k : Nat) (v : TuneJob) : (s.setTune k v).nextPage = s.nextPage := by simp only [State.setTune]
@[simp] theorem State.setTune_rolls (k : Nat) (v : TuneJob) : (s.setTune k v).rolls = s.rolls := by simp only [State.setTune]
@[simp] theorem State.setTune_paces (k : Nat) (v : TuneJob) : (s.setTune k v).paces = s.paces := by simp only [State.setTune]
@[simp] theorem State.setTune_sched (k : Nat) (v : TuneJob) : (s.setTune k v).sched = s.sched := by simp only [State.setTune]
@[simp] theorem State.setTune_adapters (k : Nat) (v : TuneJob) : (s.setTune k v).adapters = s.adapters := by simp only [State.setTune]
@[simp] theorem State.setTune_cart (k : Nat) (v : TuneJob) : (s.setTune k v).cart = s.cart := by simp only [State.setTune]
@[simp] theorem State.setTune_mem (k : Nat) (v : TuneJob) : (s.setTune k v).mem = s.mem := by simp only [State.setTune]
@[simp] theorem State.setTune_charter (k : Nat) (v : TuneJob) : (s.setTune k v).charter = s.charter := by simp only [State.setTune]
@[simp] theorem State.setTune_funcs (k : Nat) (v : TuneJob) : (s.setTune k v).funcs = s.funcs := by simp only [State.setTune]
@[simp] theorem State.setTune_clerks (k : Nat) (v : TuneJob) : (s.setTune k v).clerks = s.clerks := by simp only [State.setTune]
@[simp] theorem State.setTune_pendAt (k : Nat) (v : TuneJob) : (s.setTune k v).pendAt = s.pendAt := by simp only [State.setTune]
@[simp] theorem State.setTune_modeCtl (k : Nat) (v : TuneJob) : (s.setTune k v).modeCtl = s.modeCtl := by simp only [State.setTune]
@[simp] theorem State.setTune_sleep (k : Nat) (v : TuneJob) : (s.setTune k v).sleep = s.sleep := by simp only [State.setTune]
@[simp] theorem State.setTune_gatedAt (k : Nat) (v : TuneJob) : (s.setTune k v).gatedAt = s.gatedAt := by simp only [State.setTune]
@[simp] theorem State.setTune_wakeAt (k : Nat) (v : TuneJob) : (s.setTune k v).wakeAt = s.wakeAt := by simp only [State.setTune]
@[simp] theorem State.setTune_port0 (k : Nat) (v : TuneJob) : (s.setTune k v).port0 = s.port0 := by simp only [State.setTune]
@[simp] theorem State.setTune_warden (k : Nat) (v : TuneJob) : (s.setTune k v).warden = s.warden := by simp only [State.setTune]
@[simp] theorem State.setTune_boot (k : Nat) (v : TuneJob) : (s.setTune k v).boot = s.boot := by simp only [State.setTune]
@[simp] theorem State.setTune_cal (k : Nat) (v : TuneJob) : (s.setTune k v).cal = s.cal := by simp only [State.setTune]
@[simp] theorem State.setTune_sec (k : Nat) (v : TuneJob) : (s.setTune k v).sec = s.sec := by simp only [State.setTune]
@[simp] theorem State.setTune_duty (k : Nat) (v : TuneJob) : (s.setTune k v).duty = s.duty := by simp only [State.setTune]
@[simp] theorem State.setTune_level (k : Nat) (v : TuneJob) : (s.setTune k v).level = s.level := by simp only [State.setTune]
@[simp] theorem State.dropHalves_pending (w : Who) : (s.dropHalves w).pending = s.pending := by simp only [State.dropHalves]
@[simp] theorem State.dropHalves_now (w : Who) : (s.dropHalves w).now = s.now := by simp only [State.dropHalves]
@[simp] theorem State.dropHalves_free (w : Who) : (s.dropHalves w).free = s.free := by simp only [State.dropHalves]
@[simp] theorem State.dropHalves_regs (w : Who) : (s.dropHalves w).regs = s.regs := by simp only [State.dropHalves]
@[simp] theorem State.dropHalves_outbox (w : Who) : (s.dropHalves w).outbox = s.outbox := by simp only [State.dropHalves]
@[simp] theorem State.dropHalves_stalls (w : Who) : (s.dropHalves w).stalls = s.stalls := by simp only [State.dropHalves]
@[simp] theorem State.dropHalves_groups (w : Who) : (s.dropHalves w).groups = s.groups := by simp only [State.dropHalves]
@[simp] theorem State.dropHalves_rows (w : Who) : (s.dropHalves w).rows = s.rows := by simp only [State.dropHalves]
@[simp] theorem State.dropHalves_jobs (w : Who) : (s.dropHalves w).jobs = s.jobs := by simp only [State.dropHalves]
@[simp] theorem State.dropHalves_nextJob (w : Who) : (s.dropHalves w).nextJob = s.nextJob := by simp only [State.dropHalves]
@[simp] theorem State.dropHalves_cperLost (w : Who) : (s.dropHalves w).cperLost = s.cperLost := by simp only [State.dropHalves]
@[simp] theorem State.dropHalves_journal (w : Who) : (s.dropHalves w).journal = s.journal := by simp only [State.dropHalves]
@[simp] theorem State.dropHalves_digests (w : Who) : (s.dropHalves w).digests = s.digests := by simp only [State.dropHalves]
@[simp] theorem State.dropHalves_restocked (w : Who) : (s.dropHalves w).restocked = s.restocked := by simp only [State.dropHalves]
@[simp] theorem State.dropHalves_images (w : Who) : (s.dropHalves w).images = s.images := by simp only [State.dropHalves]
@[simp] theorem State.dropHalves_stock (w : Who) : (s.dropHalves w).stock = s.stock := by simp only [State.dropHalves]
@[simp] theorem State.dropHalves_working (w : Who) : (s.dropHalves w).working = s.working := by simp only [State.dropHalves]
@[simp] theorem State.dropHalves_scrub (w : Who) : (s.dropHalves w).scrub = s.scrub := by simp only [State.dropHalves]
@[simp] theorem State.dropHalves_slots (w : Who) : (s.dropHalves w).slots = s.slots := by simp only [State.dropHalves]
@[simp] theorem State.dropHalves_seqs (w : Who) : (s.dropHalves w).seqs = s.seqs := by simp only [State.dropHalves]
@[simp] theorem State.dropHalves_pages (w : Who) : (s.dropHalves w).pages = s.pages := by simp only [State.dropHalves]
@[simp] theorem State.dropHalves_nextPage (w : Who) : (s.dropHalves w).nextPage = s.nextPage := by simp only [State.dropHalves]
@[simp] theorem State.dropHalves_rolls (w : Who) : (s.dropHalves w).rolls = s.rolls := by simp only [State.dropHalves]
@[simp] theorem State.dropHalves_paces (w : Who) : (s.dropHalves w).paces = s.paces := by simp only [State.dropHalves]
@[simp] theorem State.dropHalves_sched (w : Who) : (s.dropHalves w).sched = s.sched := by simp only [State.dropHalves]
@[simp] theorem State.dropHalves_adapters (w : Who) : (s.dropHalves w).adapters = s.adapters := by simp only [State.dropHalves]
@[simp] theorem State.dropHalves_tunes (w : Who) : (s.dropHalves w).tunes = s.tunes := by simp only [State.dropHalves]
@[simp] theorem State.dropHalves_cart (w : Who) : (s.dropHalves w).cart = s.cart := by simp only [State.dropHalves]
@[simp] theorem State.dropHalves_mem (w : Who) : (s.dropHalves w).mem = s.mem := by simp only [State.dropHalves]
@[simp] theorem State.dropHalves_charter (w : Who) : (s.dropHalves w).charter = s.charter := by simp only [State.dropHalves]
@[simp] theorem State.dropHalves_funcs (w : Who) : (s.dropHalves w).funcs = s.funcs := by simp only [State.dropHalves]
@[simp] theorem State.dropHalves_clerks (w : Who) : (s.dropHalves w).clerks = s.clerks := by simp only [State.dropHalves]
@[simp] theorem State.dropHalves_pendAt (w : Who) : (s.dropHalves w).pendAt = s.pendAt := by simp only [State.dropHalves]
@[simp] theorem State.dropHalves_modeCtl (w : Who) : (s.dropHalves w).modeCtl = s.modeCtl := by simp only [State.dropHalves]
@[simp] theorem State.dropHalves_sleep (w : Who) : (s.dropHalves w).sleep = s.sleep := by simp only [State.dropHalves]
@[simp] theorem State.dropHalves_gatedAt (w : Who) : (s.dropHalves w).gatedAt = s.gatedAt := by simp only [State.dropHalves]
@[simp] theorem State.dropHalves_wakeAt (w : Who) : (s.dropHalves w).wakeAt = s.wakeAt := by simp only [State.dropHalves]
@[simp] theorem State.dropHalves_port0 (w : Who) : (s.dropHalves w).port0 = s.port0 := by simp only [State.dropHalves]
@[simp] theorem State.dropHalves_warden (w : Who) : (s.dropHalves w).warden = s.warden := by simp only [State.dropHalves]
@[simp] theorem State.dropHalves_boot (w : Who) : (s.dropHalves w).boot = s.boot := by simp only [State.dropHalves]
@[simp] theorem State.dropHalves_cal (w : Who) : (s.dropHalves w).cal = s.cal := by simp only [State.dropHalves]
@[simp] theorem State.dropHalves_sec (w : Who) : (s.dropHalves w).sec = s.sec := by simp only [State.dropHalves]
@[simp] theorem State.dropHalves_duty (w : Who) : (s.dropHalves w).duty = s.duty := by simp only [State.dropHalves]
@[simp] theorem State.dropHalves_level (w : Who) : (s.dropHalves w).level = s.level := by simp only [State.dropHalves]
@[simp] theorem State.keepHalves_pending (w : Who) (n : Nat) : (s.keepHalves w n).pending = s.pending := by simp only [State.keepHalves]
@[simp] theorem State.keepHalves_now (w : Who) (n : Nat) : (s.keepHalves w n).now = s.now := by simp only [State.keepHalves]
@[simp] theorem State.keepHalves_free (w : Who) (n : Nat) : (s.keepHalves w n).free = s.free := by simp only [State.keepHalves]
@[simp] theorem State.keepHalves_regs (w : Who) (n : Nat) : (s.keepHalves w n).regs = s.regs := by simp only [State.keepHalves]
@[simp] theorem State.keepHalves_outbox (w : Who) (n : Nat) : (s.keepHalves w n).outbox = s.outbox := by simp only [State.keepHalves]
@[simp] theorem State.keepHalves_stalls (w : Who) (n : Nat) : (s.keepHalves w n).stalls = s.stalls := by simp only [State.keepHalves]
@[simp] theorem State.keepHalves_groups (w : Who) (n : Nat) : (s.keepHalves w n).groups = s.groups := by simp only [State.keepHalves]
@[simp] theorem State.keepHalves_rows (w : Who) (n : Nat) : (s.keepHalves w n).rows = s.rows := by simp only [State.keepHalves]
@[simp] theorem State.keepHalves_jobs (w : Who) (n : Nat) : (s.keepHalves w n).jobs = s.jobs := by simp only [State.keepHalves]
@[simp] theorem State.keepHalves_nextJob (w : Who) (n : Nat) : (s.keepHalves w n).nextJob = s.nextJob := by simp only [State.keepHalves]
@[simp] theorem State.keepHalves_cperLost (w : Who) (n : Nat) : (s.keepHalves w n).cperLost = s.cperLost := by simp only [State.keepHalves]
@[simp] theorem State.keepHalves_journal (w : Who) (n : Nat) : (s.keepHalves w n).journal = s.journal := by simp only [State.keepHalves]
@[simp] theorem State.keepHalves_digests (w : Who) (n : Nat) : (s.keepHalves w n).digests = s.digests := by simp only [State.keepHalves]
@[simp] theorem State.keepHalves_restocked (w : Who) (n : Nat) : (s.keepHalves w n).restocked = s.restocked := by simp only [State.keepHalves]
@[simp] theorem State.keepHalves_images (w : Who) (n : Nat) : (s.keepHalves w n).images = s.images := by simp only [State.keepHalves]
@[simp] theorem State.keepHalves_stock (w : Who) (n : Nat) : (s.keepHalves w n).stock = s.stock := by simp only [State.keepHalves]
@[simp] theorem State.keepHalves_working (w : Who) (n : Nat) : (s.keepHalves w n).working = s.working := by simp only [State.keepHalves]
@[simp] theorem State.keepHalves_scrub (w : Who) (n : Nat) : (s.keepHalves w n).scrub = s.scrub := by simp only [State.keepHalves]
@[simp] theorem State.keepHalves_slots (w : Who) (n : Nat) : (s.keepHalves w n).slots = s.slots := by simp only [State.keepHalves]
@[simp] theorem State.keepHalves_seqs (w : Who) (n : Nat) : (s.keepHalves w n).seqs = s.seqs := by simp only [State.keepHalves]
@[simp] theorem State.keepHalves_pages (w : Who) (n : Nat) : (s.keepHalves w n).pages = s.pages := by simp only [State.keepHalves]
@[simp] theorem State.keepHalves_nextPage (w : Who) (n : Nat) : (s.keepHalves w n).nextPage = s.nextPage := by simp only [State.keepHalves]
@[simp] theorem State.keepHalves_rolls (w : Who) (n : Nat) : (s.keepHalves w n).rolls = s.rolls := by simp only [State.keepHalves]
@[simp] theorem State.keepHalves_paces (w : Who) (n : Nat) : (s.keepHalves w n).paces = s.paces := by simp only [State.keepHalves]
@[simp] theorem State.keepHalves_sched (w : Who) (n : Nat) : (s.keepHalves w n).sched = s.sched := by simp only [State.keepHalves]
@[simp] theorem State.keepHalves_adapters (w : Who) (n : Nat) : (s.keepHalves w n).adapters = s.adapters := by simp only [State.keepHalves]
@[simp] theorem State.keepHalves_tunes (w : Who) (n : Nat) : (s.keepHalves w n).tunes = s.tunes := by simp only [State.keepHalves]
@[simp] theorem State.keepHalves_cart (w : Who) (n : Nat) : (s.keepHalves w n).cart = s.cart := by simp only [State.keepHalves]
@[simp] theorem State.keepHalves_mem (w : Who) (n : Nat) : (s.keepHalves w n).mem = s.mem := by simp only [State.keepHalves]
@[simp] theorem State.keepHalves_charter (w : Who) (n : Nat) : (s.keepHalves w n).charter = s.charter := by simp only [State.keepHalves]
@[simp] theorem State.keepHalves_funcs (w : Who) (n : Nat) : (s.keepHalves w n).funcs = s.funcs := by simp only [State.keepHalves]
@[simp] theorem State.keepHalves_clerks (w : Who) (n : Nat) : (s.keepHalves w n).clerks = s.clerks := by simp only [State.keepHalves]
@[simp] theorem State.keepHalves_pendAt (w : Who) (n : Nat) : (s.keepHalves w n).pendAt = s.pendAt := by simp only [State.keepHalves]
@[simp] theorem State.keepHalves_modeCtl (w : Who) (n : Nat) : (s.keepHalves w n).modeCtl = s.modeCtl := by simp only [State.keepHalves]
@[simp] theorem State.keepHalves_sleep (w : Who) (n : Nat) : (s.keepHalves w n).sleep = s.sleep := by simp only [State.keepHalves]
@[simp] theorem State.keepHalves_gatedAt (w : Who) (n : Nat) : (s.keepHalves w n).gatedAt = s.gatedAt := by simp only [State.keepHalves]
@[simp] theorem State.keepHalves_wakeAt (w : Who) (n : Nat) : (s.keepHalves w n).wakeAt = s.wakeAt := by simp only [State.keepHalves]
@[simp] theorem State.keepHalves_port0 (w : Who) (n : Nat) : (s.keepHalves w n).port0 = s.port0 := by simp only [State.keepHalves]
@[simp] theorem State.keepHalves_warden (w : Who) (n : Nat) : (s.keepHalves w n).warden = s.warden := by simp only [State.keepHalves]
@[simp] theorem State.keepHalves_boot (w : Who) (n : Nat) : (s.keepHalves w n).boot = s.boot := by simp only [State.keepHalves]
@[simp] theorem State.keepHalves_cal (w : Who) (n : Nat) : (s.keepHalves w n).cal = s.cal := by simp only [State.keepHalves]
@[simp] theorem State.keepHalves_sec (w : Who) (n : Nat) : (s.keepHalves w n).sec = s.sec := by simp only [State.keepHalves]
@[simp] theorem State.keepHalves_duty (w : Who) (n : Nat) : (s.keepHalves w n).duty = s.duty := by simp only [State.keepHalves]
@[simp] theorem State.keepHalves_level (w : Who) (n : Nat) : (s.keepHalves w n).level = s.level := by simp only [State.keepHalves]

end Sys2Proof.Machine
end

