-- ==== Sys2Proof/Laws/Ops.lean ====
section
/-! SUPPORT. What the shared operations can do: raising a source, sending, messages, function events, flags, fault records, access errors. `Shape` names the fields they may change; the other lemmas say which registers stay. -/

namespace Sys2Proof.Machine

/-- Registers of two blocks have different keys. -/
theorem Reg.key_ne_blk {r q : Reg} {i j : Nat} (h : r.blk ≠ q.blk) : r.key i ≠ q.key j := by
  have hc : r.blk.code ≠ q.blk.code := fun e => h (Block.code_inj e)
  simp only [Reg.key]; omega

theorem State.getReg_wr_blk (s : State) (f : RField) {q : Reg} (i j v : Nat) (h : q.blk ≠ f.reg.blk) :
    (s.wr f i v).getReg q j = s.getReg q j := s.getReg_wr_ne f v (Reg.key_ne_blk h)

theorem State.getReg_of_regs {s t : State} (h : t.regs = s.regs) (q : Reg) (j : Nat) : t.getReg q j = s.getReg q j := by
  simp only [State.getReg, h]

/-! ### The fields that shared operations change -/

/-- `t` is `s` but for the register file, the pending times, the functions and what has been sent. -/
def Shape (s t : State) : Prop := ∃ r p f o, t = { s with regs := r, pendAt := p, funcs := f, outbox := o }

theorem Shape.refl (s : State) : Shape s s := ⟨s.regs, s.pendAt, s.funcs, s.outbox, rfl⟩

theorem Shape.trans {s t u : State} (h : Shape s t) (k : Shape t u) : Shape s u := by
  obtain ⟨r, p, f, o, rfl⟩ := h
  obtain ⟨r', p', f', o', rfl⟩ := k
  exact ⟨r', p', f', o', rfl⟩

theorem Shape.setReg (s : State) (r : Reg) (i : Nat) (v : Word64) : Shape s (s.setReg r i v) :=
  ⟨FMap.set (keyReset (r.key i)) s.regs (r.key i) v, s.pendAt, s.funcs, s.outbox, rfl⟩

theorem Shape.wr (s : State) (f : RField) (i v : Nat) : Shape s (s.wr f i v) := Shape.setReg s _ _ _

theorem Shape.bump (s : State) (f : RField) (i n : Nat) : Shape s (s.bump f i n) := Shape.wr s _ _ _

theorem Shape.setFunc (s : State) (k : Nat) (v : Func) : Shape s (s.setFunc k v) :=
  ⟨s.regs, s.pendAt, FMap.set Func.init s.funcs k v, s.outbox, rfl⟩

theorem Shape.withPend (s : State) (m : FMap Nat) : Shape s { s with pendAt := m } := ⟨s.regs, m, s.funcs, s.outbox, rfl⟩

theorem Shape.withFuncs (s : State) (m : FMap Func) : Shape s { s with funcs := m } := ⟨s.regs, s.pendAt, m, s.outbox, rfl⟩

theorem Shape.withOut (s : State) (m : List Out) : Shape s { s with outbox := m } := ⟨s.regs, s.pendAt, s.funcs, m, rfl⟩

theorem Shape.translate (s : State) (f a : Nat) : Shape s (s.translate f a) := by
  unfold State.translate; dsimp only; split
  · exact Shape.withFuncs s _
  · exact Shape.refl s

theorem Shape.send (s : State) (o : Out) : Shape s (s.send o) := by
  unfold State.send; dsimp only
  refine Shape.trans ?_ (Shape.withOut _ _)
  split
  · exact Shape.translate s _ _
  · exact Shape.translate s _ _
  · exact Shape.refl s

theorem Shape.timePending (s : State) (n : Nat) : Shape s (s.timePending n) := by
  unfold State.timePending; split
  · exact Shape.withPend s _
  · exact Shape.refl s

theorem Shape.countEvent (s : State) (n : Nat) : Shape s (s.countEvent n) := by
  unfold State.countEvent; split
  · exact (Shape.timePending s n).trans (Shape.wr _ _ _ _)
  · exact ((Shape.wr s _ _ _).trans (Shape.wr _ _ _ _)).trans (Shape.wr _ _ _ _)

theorem Shape.raise (s : State) (n : Nat) : Shape s (s.raise n) := by
  unfold State.raise; split
  · split
    · exact Shape.countEvent s n
    · exact (Shape.countEvent s n).trans (Shape.wr _ _ _ _)
  · exact Shape.refl s

theorem Shape.msi (s : State) (f v : Nat) : Shape s (s.msi f v) := by
  unfold State.msi; dsimp only
  split
  · split
    · exact Shape.setFunc s _ _
    · exact Shape.send s _
  · exact Shape.refl s

theorem Shape.fnEvent (s : State) (f b : Nat) : Shape s (s.fnEvent f b) := by
  unfold State.fnEvent; dsimp only
  split
  · exact Shape.refl s
  · split
    · exact (Shape.setReg s _ _ _).trans (Shape.msi _ _ _)
    · exact Shape.setReg s _ _ _

theorem Shape.flagEvent (s : State) (r : Reg) (i : Nat) (b : Bool) : Shape s (s.flagEvent r i b) := by
  unfold State.flagEvent
  split <;> first
    | with_reducible exact Shape.refl s
    | with_reducible exact Shape.raise s _
    | with_reducible exact Shape.fnEvent s _ _
    | with_reducible exact (Shape.raise s _).trans (Shape.fnEvent _ _ _)
    | (split <;> first | with_reducible exact Shape.refl s | with_reducible exact Shape.raise s _)

theorem Shape.flag (s : State) (f : RField) (i : Nat) : Shape s (s.flag f i) := by
  unfold State.flag; dsimp only
  split
  · exact Shape.refl s
  · exact (Shape.wr s _ _ _).trans (Shape.flagEvent _ _ _ _)

theorem Shape.wrs (s : State) (i : Nat) (l : List (RField × Nat)) : Shape s (l.foldl (fun s p => s.wr p.1 i p.2) s) := by
  induction l generalizing s with
  | nil => exact Shape.refl s
  | cons p l ih => exact (Shape.wr s _ _ _).trans (ih _)

theorem Shape.flagAt (s : State) (f : RField) (i : Nat) (l : List (RField × Nat)) : Shape s (s.flagAt f i l) :=
  (Shape.wrs s i l).trans (Shape.flag _ _ _)

theorem Shape.accessError (s : State) (w : Who) (bar off : Nat) (b : Bool) : Shape s (s.accessError w bar off b) := by
  unfold State.accessError
  cases w with
  | func f => exact ((((Shape.bump s _ _ _).trans (Shape.wr _ _ _ _)).trans (Shape.wr _ _ _ _)).trans (Shape.wr _ _ _ _)).trans (Shape.flag _ _ _)
  | clerk k => exact Shape.refl s
  | i3c => exact Shape.refl s

/-! ### The registers that they leave alone -/

/-- No register of a block changes. -/
def KeepsBlock (b : Block) (s t : State) : Prop := ∀ q j, q.blk = b → t.getReg q j = s.getReg q j

theorem KeepsBlock.refl (b : Block) (s : State) : KeepsBlock b s s := fun _ _ _ => rfl

theorem KeepsBlock.trans {b : Block} {s t u : State} (h : KeepsBlock b s t) (k : KeepsBlock b t u) : KeepsBlock b s u :=
  fun q j hq => (k q j hq).trans (h q j hq)

theorem KeepsBlock.of_regs {b : Block} {s t : State} (h : t.regs = s.regs) : KeepsBlock b s t := fun q j _ => State.getReg_of_regs h q j

theorem KeepsBlock.setReg {b : Block} (s : State) (r : Reg) (i : Nat) (v : Word64) (h : r.blk ≠ b) : KeepsBlock b s (s.setReg r i v) :=
  fun _ _ hq => s.getReg_setReg_ne v (Reg.key_ne_blk (by rw [hq]; exact h.symm))

theorem KeepsBlock.wr {b : Block} (s : State) (f : RField) (i v : Nat) (h : f.reg.blk ≠ b) : KeepsBlock b s (s.wr f i v) :=
  KeepsBlock.setReg s _ _ _ h

theorem KeepsBlock.translate {b : Block} (s : State) (f a : Nat) : KeepsBlock b s (s.translate f a) := by
  unfold State.translate; dsimp only; split <;> exact KeepsBlock.of_regs rfl

theorem KeepsBlock.send {b : Block} (s : State) (o : Out) : KeepsBlock b s (s.send o) := by
  unfold State.send; dsimp only
  refine KeepsBlock.trans (t := match o with
    | .hostWrite f a _ => s.translate f a
    | .hostRead f a _ => s.translate f a
    | _ => s) ?_ (KeepsBlock.of_regs rfl)
  split
  · exact KeepsBlock.translate s _ _
  · exact KeepsBlock.translate s _ _
  · exact KeepsBlock.refl _ s

theorem KeepsBlock.timePending {b : Block} (s : State) (n : Nat) : KeepsBlock b s (s.timePending n) := by
  unfold State.timePending; split <;> exact KeepsBlock.of_regs rfl

theorem KeepsBlock.countEvent {b : Block} (s : State) (n : Nat) (h : b ≠ .evc) : KeepsBlock b s (s.countEvent n) := by
  unfold State.countEvent; split
  · exact (KeepsBlock.timePending s n).trans (KeepsBlock.wr _ _ _ _ h.symm)
  · exact ((KeepsBlock.wr s EVC_SRC.OVF _ _ h.symm).trans (KeepsBlock.wr _ EVC_ERR.OVERFLOW _ _ h.symm)).trans (KeepsBlock.wr _ EVC_ERR.SOURCE _ _ h.symm)

theorem KeepsBlock.raise {b : Block} (s : State) (n : Nat) (h : b ≠ .evc) : KeepsBlock b s (s.raise n) := by
  unfold State.raise; split
  · split
    · exact KeepsBlock.countEvent s n h
    · exact (KeepsBlock.countEvent s n h).trans (KeepsBlock.wr _ _ _ _ h.symm)
  · exact KeepsBlock.refl _ s

theorem KeepsBlock.msi {b : Block} (s : State) (f v : Nat) : KeepsBlock b s (s.msi f v) := by
  unfold State.msi; dsimp only
  split
  · split
    · exact KeepsBlock.of_regs (State.setFunc_regs s _ _)
    · exact KeepsBlock.send s _
  · exact KeepsBlock.refl _ s

theorem KeepsBlock.fnEvent {b : Block} (s : State) (f k : Nat) (h : b ≠ .fnHost) : KeepsBlock b s (s.fnEvent f k) := by
  unfold State.fnEvent; dsimp only
  split
  · exact KeepsBlock.refl _ s
  · split
    · exact (KeepsBlock.setReg s _ _ _ h.symm).trans (KeepsBlock.msi _ _ _)
    · exact KeepsBlock.setReg s _ _ _ h.symm

theorem KeepsBlock.flagEvent {b : Block} (s : State) (r : Reg) (i : Nat) (q : Bool) (h : b ≠ .evc) (k : b ≠ .fnHost) :
    KeepsBlock b s (s.flagEvent r i q) := by
  unfold State.flagEvent
  split <;> first
    | with_reducible exact KeepsBlock.refl _ s
    | with_reducible exact KeepsBlock.raise s _ h
    | with_reducible exact KeepsBlock.fnEvent s _ _ k
    | with_reducible exact (KeepsBlock.raise s _ h).trans (KeepsBlock.fnEvent _ _ _ k)
    | (split <;> first | with_reducible exact KeepsBlock.refl _ s | with_reducible exact KeepsBlock.raise s _ h)

/-- A flag changes registers of its own block, of the event controller, and of function windows alone. -/
theorem KeepsBlock.flag {b : Block} (s : State) (f : RField) (i : Nat) (h : b ≠ .evc) (k : b ≠ .fnHost) (hf : f.reg.blk ≠ b) :
    KeepsBlock b s (s.flag f i) := by
  unfold State.flag; dsimp only
  split
  · exact KeepsBlock.refl _ s
  · exact (KeepsBlock.wr s _ _ _ hf).trans (KeepsBlock.flagEvent _ _ _ _ h k)

end Sys2Proof.Machine
end

