-- ==== Sys2Proof/Laws/PerInstr.lean ====
section
/-! SUPPORT. Statements made of every command as syntax, one lemma per constructor. -/

namespace Sys2Proof.Laws.Accessor

set_option Elab.async false

/-- A well-formed command that is a register access names an accessor that exists (R572, R576). -/
def Statement (i : Instr) : Prop := ∀ w, WellFormed i = true → i.accessor = some w → w.ok = true

theorem registerWrite (who : Who) (bar off size val : Nat) : Statement (.registerWrite who bar off size val) := by
  intro w h hw; simp_all [WellFormed, Instr.accessor]
theorem lowHalfRead (who : Who) (bar off size : Nat) : Statement (.lowHalfRead who bar off size) := by
  intro w h hw; simp_all [WellFormed, Instr.accessor]
theorem stlClipCntRead (who : Who) (row stall : Nat) : Statement (.stlClipCntRead who row stall) := by
  intro w h hw; simp_all [WellFormed, Instr.accessor]
theorem stlRefusedCntRead (who : Who) (row stall : Nat) : Statement (.stlRefusedCntRead who row stall) := by
  intro w h hw; simp_all [WellFormed, Instr.accessor]
theorem wdnMonDataRead (who : Who) : Statement (.wdnMonDataRead who) := by
  intro w h hw; simp_all [WellFormed, Instr.accessor]
theorem wakeRequest (u : SleepUnit) : Statement (.wakeRequest u) := by
  intro w _ hw; cases hw
theorem wakeComplete (u : SleepUnit) : Statement (.wakeComplete u) := by
  intro w _ hw; cases hw
theorem clockGatedEntry (u : SleepUnit) : Statement (.clockGatedEntry u) := by
  intro w _ hw; cases hw
theorem biasOffEntry (u : SleepUnit) : Statement (.biasOffEntry u) := by
  intro w _ hw; cases hw
theorem descriptorArrival (row stall : Nat) (waiting : List (Nat × Nat)) : Statement (.descriptorArrival row stall waiting) := by
  intro w _ hw; cases hw
theorem stlCtlWrite (who : Who) (row stall val : Nat) : Statement (.stlCtlWrite who row stall val) := by
  intro w h hw; simp_all [WellFormed, Instr.accessor]
theorem strikeIssue (row stall edges : Nat) : Statement (.strikeIssue row stall edges) := by
  intro w _ hw; cases hw
theorem widenedPairIssue (row stall edges : Nat) : Statement (.widenedPairIssue row stall edges) := by
  intro w _ hw; cases hw
theorem transposeStrikeIssue (row stall edges : Nat) : Statement (.transposeStrikeIssue row stall edges) := by
  intro w _ hw; cases hw
theorem stagingBankWrite (row stall tag bank : Nat) : Statement (.stagingBankWrite row stall tag bank) := by
  intro w _ hw; cases hw
theorem strikeCodesReceived (row stall : Nat) (c : Codes) : Statement (.strikeCodesReceived row stall c) := by
  intro w _ hw; cases hw
theorem sliceSubstitution (row stall chan slice : Nat) (diffs : List Int) : Statement (.sliceSubstitution row stall chan slice diffs) := by
  intro w _ hw; cases hw
theorem stlSliceMapWrite (who : Who) (row stall val : Nat) : Statement (.stlSliceMapWrite who row stall val) := by
  intro w h hw; simp_all [WellFormed, Instr.accessor]
theorem planeSwap (row stall : Nat) : Statement (.planeSwap row stall) := by
  intro w _ hw; cases hw
theorem trimDataWrite (who : Who) (row val : Nat) : Statement (.trimDataWrite who row val) := by
  intro w h hw; simp_all [WellFormed, Instr.accessor]
theorem trimStep (row stall group : Nat) : Statement (.trimStep row stall group) := by
  intro w _ hw; cases hw
theorem overflowPassEnd (row stall : Nat) (ended : PassEnd) : Statement (.overflowPassEnd row stall ended) := by
  intro w _ hw; cases hw
theorem ledgerRowRetry (row stall : Nat) : Statement (.ledgerRowRetry row stall) := by
  intro w _ hw; cases hw
theorem strikeRelease (row stall no : Nat) (fresh : Bool) : Statement (.strikeRelease row stall no fresh) := by
  intro w _ hw; cases hw
theorem vectorArrival (row buf : Nat) (v : VecIn) : Statement (.vectorArrival row buf v) := by
  intro w _ hw; cases hw
theorem quantiseVector (row buf : Nat) : Statement (.quantiseVector row buf) := by
  intro w _ hw; cases hw
theorem clipReplay (row stall no : Nat) (fresh : Bool) : Statement (.clipReplay row stall no fresh) := by
  intro w _ hw; cases hw
theorem clipSplit (row stall no : Nat) (fresh : Bool) : Statement (.clipSplit row stall no fresh) := by
  intro w _ hw; cases hw
theorem tileForceWide (who : Who) (row stall group : Nat) : Statement (.tileForceWide who row stall group) := by
  intro w h hw; simp_all [WellFormed, Instr.accessor]
theorem tileReleaseForce (who : Who) (row stall group : Nat) : Statement (.tileReleaseForce who row stall group) := by
  intro w h hw; simp_all [WellFormed, Instr.accessor]
theorem tileSetHold (who : Who) (row stall group : Nat) : Statement (.tileSetHold who row stall group) := by
  intro w h hw; simp_all [WellFormed, Instr.accessor]
theorem stepMarker (row : Nat) : Statement (.stepMarker row) := by
  intro w _ hw; cases hw
theorem holdExpiry (row stall group : Nat) : Statement (.holdExpiry row stall group) := by
  intro w _ hw; cases hw
theorem wideStormEvaluation (row : Nat) : Statement (.wideStormEvaluation row) := by
  intro w _ hw; cases hw
theorem refusalMarker (row stall : Nat) : Statement (.refusalMarker row stall) := by
  intro w _ hw; cases hw
theorem reductionOutput (row red tag : Nat) : Statement (.reductionOutput row red tag) := by
  intro w _ hw; cases hw
theorem drainRequest (who : Who) (row target : Nat) : Statement (.drainRequest who row target) := by
  intro w h hw; simp_all [WellFormed, Instr.accessor]
theorem drainRelease (who : Who) (row target : Nat) : Statement (.drainRelease who row target) := by
  intro w h hw; simp_all [WellFormed, Instr.accessor]
theorem drainComplete (row stall : Nat) : Statement (.drainComplete row stall) := by
  intro w _ hw; cases hw
theorem stockingJobStart (who : Who) (hdr table : List Byte) (hdrErr tableErr : MemErr) : Statement (.stockingJobStart who hdr table hdrErr tableErr) := by
  intro w h hw; simp_all [WellFormed, Instr.accessor]
theorem touchupRestock (who : Who) (index : Nat) : Statement (.touchupRestock who index) := by
  intro w h hw; simp_all [WellFormed, Instr.accessor]
theorem stockingAbort (who : Who) : Statement (.stockingAbort who) := by
  intro w h hw; simp_all [WellFormed, Instr.accessor]
theorem scrubCrateNow (who : Who) (index : Nat) : Statement (.scrubCrateNow who index) := by
  intro w h hw; simp_all [WellFormed, Instr.accessor]
theorem crateProgramStart (fetched : List Fetch) : Statement (.crateProgramStart fetched) := by
  intro w _ hw; cases hw
theorem crateProgramEnd (index : Nat) (cellsOk : Bool) : Statement (.crateProgramEnd index cellsOk) := by
  intro w _ hw; cases hw
theorem settlePauseEnd : Statement .settlePauseEnd := by
  intro w _ hw; cases hw
theorem touchupPassStart : Statement .touchupPassStart := by
  intro w _ hw; cases hw
theorem touchupPassEnd (index : Nat) (cellsOk : Bool) : Statement (.touchupPassEnd index cellsOk) := by
  intro w _ hw; cases hw
theorem scrubDue : Statement .scrubDue := by
  intro w _ hw; cases hw
theorem scrubCrateDone (codes : List Byte) (marginal : Nat) : Statement (.scrubCrateDone codes marginal) := by
  intro w _ hw; cases hw
theorem modelLoad (who : Who) (slot : Nat) (hdr sects body : List Byte) : Statement (.modelLoad who slot hdr sects body) := by
  intro w h hw; simp_all [WellFormed, Instr.accessor]
theorem modelUnload (who : Who) (slot : Nat) : Statement (.modelUnload who slot) := by
  intro w h hw; simp_all [WellFormed, Instr.accessor]
theorem shardRefetch (who : Who) (slot shard : Nat) : Statement (.shardRefetch who slot shard) := by
  intro w h hw; simp_all [WellFormed, Instr.accessor]
theorem releaseHeld (who : Who) (slot : Nat) : Statement (.releaseHeld who slot) := by
  intro w h hw; simp_all [WellFormed, Instr.accessor]
theorem shardArrival (slot gen shard : Nat) (addr : Option Nat) (data : List Byte) (readable ats : Bool) : Statement (.shardArrival slot gen shard addr data readable ats) := by
  intro w _ hw; cases hw
theorem slotReady (slot : Nat) : Statement (.slotReady slot) := by
  intro w _ hw; cases hw
theorem slotRetired (slot : Nat) : Statement (.slotRetired slot) := by
  intro w _ hw; cases hw
theorem shardScrubDue (slot gen shard : Nat) (read : List Byte) (err : MemErr) : Statement (.shardScrubDue slot gen shard read err) := by
  intro w _ hw; cases hw
theorem planeLoadRequest (row stall : Nat) (owner : PlaneOwner) (idx which : Nat) : Statement (.planeLoadRequest row stall owner idx which) := by
  intro w _ hw; cases hw
theorem planeLoadStart (row stall : Nat) (err : MemErr) : Statement (.planeLoadStart row stall err) := by
  intro w _ hw; cases hw
theorem planeLoadDone (row stall plane : Nat) : Statement (.planeLoadDone row stall plane) := by
  intro w _ hw; cases hw
theorem decodeAttention (seq layer pos : Nat) (query key value : List Word32) (a : AttnIn) : Statement (.decodeAttention seq layer pos query key value a) := by
  intro w _ hw; cases hw
theorem freshBlockMerge (seq layer pos head kv block row : Nat) (k : Nat × Nat) (v : (Nat × Nat) × Nat × Nat) : Statement (.freshBlockMerge seq layer pos head kv block row k v) := by
  intro w _ hw; cases hw
theorem pageManagerChange (page : Nat) (change : PageChange) : Statement (.pageManagerChange page change) := by
  intro w _ hw; cases hw
theorem parkSequence (seq : Nat) : Statement (.parkSequence seq) := by
  intro w _ hw; cases hw
theorem resumeSequence (seq : Nat) (readOk digestOk : Bool) : Statement (.resumeSequence seq readOk digestOk) := by
  intro w _ hw; cases hw
theorem kvSlotCfgWrite (who : Who) (val : Nat) : Statement (.kvSlotCfgWrite who val) := by
  intro w h hw; simp_all [WellFormed, Instr.accessor]
theorem slipSeal (func slot val : Nat) : Statement (.slipSeal func slot val) := by
  intro w _ hw; cases hw
theorem generate (func slot vocab crierVocab : Nat) : Statement (.generate func slot vocab crierVocab) := by
  intro w _ hw; cases hw
theorem cancel (func slot : Nat) : Statement (.cancel func slot) := by
  intro w _ hw; cases hw
theorem streamOpen (func slot : Nat) : Statement (.streamOpen func slot) := by
  intro w _ hw; cases hw
theorem frame (func slot : Nat) : Statement (.frame func slot) := by
  intro w _ hw; cases hw
theorem streamClose (func slot : Nat) : Statement (.streamClose func slot) := by
  intro w _ hw; cases hw
theorem tune (func slot : Nat) (t : TuneIn) : Statement (.tune func slot t) := by
  intro w _ hw; cases hw
theorem sequenceActivate (seq : Nat) : Statement (.sequenceActivate seq) := by
  intro w _ hw; cases hw
theorem stepStart : Statement .stepStart := by
  intro w _ hw; cases hw
theorem stepEnd : Statement .stepEnd := by
  intro w _ hw; cases hw
theorem emptyStep : Statement .emptyStep := by
  intro w _ hw; cases hw
theorem stormCeilingLower (row : Nat) : Statement (.stormCeilingLower row) := by
  intro w _ hw; cases hw
theorem stormCeilingRestore (slot : Nat) : Statement (.stormCeilingRestore slot) := by
  intro w _ hw; cases hw
theorem positionStart (seq : Nat) (toks : List Nat) (vocab save : Nat) (routes : List (Nat × Nat × List Word32)) : Statement (.positionStart seq toks vocab save routes) := by
  intro w _ hw; cases hw
theorem positionEnd (seq : Nat) (logits : List Word32) (kv : List (Nat × Nat × List Word32 × List Word32)) (e : EndIn) : Statement (.positionEnd seq logits kv e) := by
  intro w _ hw; cases hw
theorem positionCommit (seq : Nat) (iso : List Nat) : Statement (.positionCommit seq iso) := by
  intro w _ hw; cases hw
theorem msiModerationTimeout (func ticket : Nat) : Statement (.msiModerationTimeout func ticket) := by
  intro w _ hw; cases hw
theorem rollRidxPoll (func ticket ridx : Nat) : Statement (.rollRidxPoll func ticket ridx) := by
  intro w _ hw; cases hw
theorem verifyPass (seq : Nat) (crier : List (List Word32)) (main : PassIn) : Statement (.verifyPass seq crier main) := by
  intro w _ hw; cases hw
theorem specPauseEnd (seq : Nat) : Statement (.specPauseEnd seq) := by
  intro w _ hw; cases hw
theorem frameInEdge : Statement .frameInEdge := by
  intro w _ hw; cases hw
theorem framePeriodTick (stream : Nat) : Statement (.framePeriodTick stream) := by
  intro w _ hw; cases hw
theorem frameComplete (stream : Nat) (output : List Byte) : Statement (.frameComplete stream output) := by
  intro w _ hw; cases hw
theorem funcCeilWrite (who : Who) (val : Nat) : Statement (.funcCeilWrite who val) := by
  intro w h hw; simp_all [WellFormed, Instr.accessor]
theorem adapterLoad (who : Who) (slot : Nat) (image : List Byte) (stage : LoadStage) : Statement (.adapterLoad who slot image stage) := by
  intro w h hw; simp_all [WellFormed, Instr.accessor]
theorem adapterUnload (who : Who) (adapter : Nat) : Statement (.adapterUnload who adapter) := by
  intro w h hw; simp_all [WellFormed, Instr.accessor]
theorem roundEnd (func : Nat) (done : List (Nat × List GradIn)) (next : List Sample) : Statement (.roundEnd func done next) := by
  intro w _ hw; cases hw
theorem portEnable (who : Who) (val : Nat) : Statement (.portEnable who val) := by
  intro w h hw; simp_all [WellFormed, Instr.accessor]
theorem portRetrain (who : Who) (val : Nat) : Statement (.portRetrain who val) := by
  intro w h hw; simp_all [WellFormed, Instr.accessor]
theorem trainingTrialFail (port : Nat) : Statement (.trainingTrialFail port) := by
  intro w _ hw; cases hw
theorem hello (port : Nat) (h : FrameIn) (version role dev nport domain : Nat) (bufs : List Nat) : Statement (.hello port h version role dev nport domain bufs) := by
  intro w _ hw; cases hw
theorem helloTimer (port : Nat) : Statement (.helloTimer port) := by
  intro w _ hw; cases hw
theorem idleFrame (port : Nat) (h : FrameIn) : Statement (.idleFrame port h) := by
  intro w _ hw; cases hw
theorem reach (port : Nat) (h : FrameIn) (mask : Nat) : Statement (.reach port h mask) := by
  intro w _ hw; cases hw
theorem reachTimer : Statement .reachTimer := by
  intro w _ hw; cases hw
theorem nak (port : Nat) (h : FrameIn) (expect : Nat) : Statement (.nak port h expect) := by
  intro w _ hw; cases hw
theorem down (port : Nat) (h : FrameIn) : Statement (.down port h) := by
  intro w _ hw; cases hw
theorem dataFrame (port : Nat) (h : FrameIn) (vc seq : Nat) (body : List Byte) : Statement (.dataFrame port h vc seq body) := by
  intro w _ hw; cases hw
theorem uncorrectableCodeword (port : Nat) : Statement (.uncorrectableCodeword port) := by
  intro w _ hw; cases hw
theorem ackTimeout (port : Nat) : Statement (.ackTimeout port) := by
  intro w _ hw; cases hw
theorem cartSend (port vc : Nat) : Statement (.cartSend port vc) := by
  intro w _ hw; cases hw
theorem dispatch (port idx hidden : Nat) (out : List Word32) : Statement (.dispatch port idx hidden out) := by
  intro w _ hw; cases hw
theorem returnCart (port idx : Nat) (routes : List (Nat × Nat × List Word32)) : Statement (.returnCart port idx routes) := by
  intro w _ hw; cases hw
theorem part (port idx : Nat) : Statement (.part port idx) := by
  intro w _ hw; cases hw
theorem receipt (port idx : Nat) : Statement (.receipt port idx) := by
  intro w _ hw; cases hw
theorem retract (port idx : Nat) : Statement (.retract port idx) := by
  intro w _ hw; cases hw
theorem fence (port idx : Nat) : Statement (.fence port idx) := by
  intro w _ hw; cases hw
theorem unfence (port idx : Nat) : Statement (.unfence port idx) := by
  intro w _ hw; cases hw
theorem homeTableLoad (who : Who) (slot : Nat) (table : Option (List Byte)) : Statement (.homeTableLoad who slot table) := by
  intro w h hw; simp_all [WellFormed, Instr.accessor]
theorem homeTableClear (who : Who) (slot : Nat) : Statement (.homeTableClear who slot) := by
  intro w h hw; simp_all [WellFormed, Instr.accessor]
theorem homeWaitTimeout (seq : Nat) : Statement (.homeWaitTimeout seq) := by
  intro w _ hw; cases hw
theorem receiptSend (step dst : Nat) : Statement (.receiptSend step dst) := by
  intro w _ hw; cases hw
theorem pendingTimeout (src step : Nat) : Statement (.pendingTimeout src step) := by
  intro w _ hw; cases hw
theorem probeStrike (row stall edges : Nat) : Statement (.probeStrike row stall edges) := by
  intro w _ hw; cases hw
theorem pairCompare (row stall no row2 stall2 no2 : Nat) : Statement (.pairCompare row stall no row2 stall2 no2) := by
  intro w _ hw; cases hw
theorem inspectorJobStart (ue : Option LedgerUE) : Statement (.inspectorJobStart ue) := by
  intro w _ hw; cases hw
theorem inspectorVerdict (job : Nat) (passed : Bool) : Statement (.inspectorVerdict job passed) := by
  intro w _ hw; cases hw
theorem disputeDeadline (job : Nat) : Statement (.disputeDeadline job) := by
  intro w _ hw; cases hw
theorem checksumReloadDone (row stall : Nat) : Statement (.checksumReloadDone row stall) := by
  intro w _ hw; cases hw
theorem granuleRetire (gran : Nat) : Statement (.granuleRetire gran) := by
  intro w _ hw; cases hw
theorem patrolScrub (unit : Nat) (corrected ue : Bool) (content : Content) : Statement (.patrolScrub unit corrected ue content) := by
  intro w _ hw; cases hw
theorem scrubPeriodEnd (unit : Nat) : Statement (.scrubPeriodEnd unit) := by
  intro w _ hw; cases hw
theorem t2SelfRefreshEntry (chan : Nat) : Statement (.t2SelfRefreshEntry chan) := by
  intro w _ hw; cases hw
theorem periodicRetrain (unit : Nat) : Statement (.periodicRetrain unit) := by
  intro w _ hw; cases hw
theorem linkTrainingDone (gens widths : List Nat) : Statement (.linkTrainingDone gens widths) := by
  intro w _ hw; cases hw
theorem powerStateWrite (func : Nat) (d3 : Bool) : Statement (.powerStateWrite func d3) := by
  intro w _ hw; cases hw
theorem msixUnmask (func vector : Nat) : Statement (.msixUnmask func vector) := by
  intro w _ hw; cases hw
theorem invalidationRequest (func page tag : Nat) (late : Bool) : Statement (.invalidationRequest func page tag late) := by
  intro w _ hw; cases hw
theorem hostReadFailure (kind : ReadKind) (ats : Bool) : Statement (.hostReadFailure kind ats) := by
  intro w _ hw; cases hw
theorem quotaWrite (who : Who) (val : Nat) : Statement (.quotaWrite who val) := by
  intro w h hw; simp_all [WellFormed, Instr.accessor]
theorem storeRegister (func : Nat) : Statement (.storeRegister func) := by
  intro w _ hw; cases hw
theorem storeWithdraw (func : Nat) : Statement (.storeWithdraw func) := by
  intro w _ hw; cases hw
theorem functionLevelReset (func : Nat) : Statement (.functionLevelReset func) := by
  intro w _ hw; cases hw
theorem pfFunctionLevelReset : Statement .pfFunctionLevelReset := by
  intro w _ hw; cases hw
theorem flrComplete (func : Nat) : Statement (.flrComplete func) := by
  intro w _ hw; cases hw
theorem numvfsWrite (vfEnable ari : Bool) (num : Nat) : Statement (.numvfsWrite vfEnable ari num) := by
  intro w _ hw; cases hw
theorem linkReset (dlDown : Bool) : Statement (.linkReset dlDown) := by
  intro w _ hw; cases hw
theorem doeDiscovery (func index : Nat) : Statement (.doeDiscovery func index) := by
  intro w _ hw; cases hw
theorem doeAbort (func : Nat) : Statement (.doeAbort func) := by
  intro w _ hw; cases hw
theorem handlerEntry : Statement .handlerEntry := by
  intro w _ hw; cases hw
theorem handlerExit (k : Nat) : Statement (.handlerExit k) := by
  intro w _ hw; cases hw
theorem clerkWfi (k : Nat) : Statement (.clerkWfi k) := by
  intro w _ hw; cases hw
theorem clerkClockGate (k : Nat) : Statement (.clerkClockGate k) := by
  intro w _ hw; cases hw
theorem squarePllStop : Statement .squarePllStop := by
  intro w _ hw; cases hw
theorem squarePllRestart : Statement .squarePllRestart := by
  intro w _ hw; cases hw
theorem softwareEventSet (who : Who) (source : Nat) : Statement (.softwareEventSet who source) := by
  intro w h hw; simp_all [WellFormed, Instr.accessor]
theorem clerkTimerExpiry (k : Nat) : Statement (.clerkTimerExpiry k) := by
  intro w _ hw; cases hw
theorem eventNorouteTimeout (source : Nat) : Statement (.eventNorouteTimeout source) := by
  intro w _ hw; cases hw
theorem modeChange (who : Who) (scope : Nat) (record : List Byte) : Statement (.modeChange who scope record) := by
  intro w h hw; simp_all [WellFormed, Instr.accessor]
theorem modeAbort (who : Who) : Statement (.modeAbort who) := by
  intro w h hw; simp_all [WellFormed, Instr.accessor]
theorem barrier (who : Who) : Statement (.barrier who) := by
  intro w h hw; simp_all [WellFormed, Instr.accessor]
theorem barrierComplete : Statement .barrierComplete := by
  intro w _ hw; cases hw
theorem modeCloseComplete : Statement .modeCloseComplete := by
  intro w _ hw; cases hw
theorem modeOpen (late : List (Nat × Nat)) : Statement (.modeOpen late) := by
  intro w _ hw; cases hw
theorem modeCloseTimeout : Statement .modeCloseTimeout := by
  intro w _ hw; cases hw
theorem modeStageTimeout (cls idx : Nat) : Statement (.modeStageTimeout cls idx) := by
  intro w _ hw; cases hw
theorem modeOpenResend (cls idx : Nat) (acked : Bool) : Statement (.modeOpenResend cls idx acked) := by
  intro w _ hw; cases hw
theorem unitCatchup (cls idx : Nat) : Statement (.unitCatchup cls idx) := by
  intro w _ hw; cases hw
theorem calibrationQueue (who : Who) (row stall : Nat) : Statement (.calibrationQueue who row stall) := by
  intro w h hw; simp_all [WellFormed, Instr.accessor]
theorem referenceReestimate (who : Who) (row : Nat) : Statement (.referenceReestimate who row) := by
  intro w h hw; simp_all [WellFormed, Instr.accessor]
theorem spareStallSubstitute (who : Who) (row stall : Nat) : Statement (.spareStallSubstitute who row stall) := by
  intro w h hw; simp_all [WellFormed, Instr.accessor]
theorem calibrationWithdraw (who : Who) (row stall : Nat) : Statement (.calibrationWithdraw who row stall) := by
  intro w h hw; simp_all [WellFormed, Instr.accessor]
theorem calibrationRunStart : Statement .calibrationRunStart := by
  intro w _ hw; cases hw
theorem blockModeSwitch (row stall : Nat) : Statement (.blockModeSwitch row stall) := by
  intro w _ hw; cases hw
theorem calibrationFit (row stall group : Nat) (fit : CalFit) : Statement (.calibrationFit row stall group fit) := by
  intro w _ hw; cases hw
theorem periodicCalibration (row stall : Nat) : Statement (.periodicCalibration row stall) := by
  intro w _ hw; cases hw
theorem repairAssign (who : Who) (val : Nat) : Statement (.repairAssign who val) := by
  intro w h hw; simp_all [WellFormed, Instr.accessor]
theorem selfTestLogic (who : Who) (unit index stall : Nat) : Statement (.selfTestLogic who unit index stall) := by
  intro w h hw; simp_all [WellFormed, Instr.accessor]
theorem selfTestMemory (who : Who) (unit index stall : Nat) : Statement (.selfTestMemory who unit index stall) := by
  intro w h hw; simp_all [WellFormed, Instr.accessor]
theorem selfTestConverter (who : Who) (unit index stall : Nat) : Statement (.selfTestConverter who unit index stall) := by
  intro w h hw; simp_all [WellFormed, Instr.accessor]
theorem crateLineTest (who : Who) (unit index stall : Nat) : Statement (.crateLineTest who unit index stall) := by
  intro w h hw; simp_all [WellFormed, Instr.accessor]
theorem selfTestAll (who : Who) (unit index stall : Nat) : Statement (.selfTestAll who unit index stall) := by
  intro w h hw; simp_all [WellFormed, Instr.accessor]
theorem selfTestWithdraw (who : Who) (unit index stall : Nat) : Statement (.selfTestWithdraw who unit index stall) := by
  intro w h hw; simp_all [WellFormed, Instr.accessor]
theorem selfTestDeferredStart : Statement .selfTestDeferredStart := by
  intro w _ hw; cases hw
theorem selfTestDone (o : TestOut) : Statement (.selfTestDone o) := by
  intro w _ hw; cases hw
theorem fuseBurn (who : Who) : Statement (.fuseBurn who) := by
  intro w h hw; simp_all [WellFormed, Instr.accessor]
theorem shutWaitTimeout (row : Nat) : Statement (.shutWaitTimeout row) := by
  intro w _ hw; cases hw
theorem wardenRound (r : RoundIn) : Statement (.wardenRound r) := by
  intro w _ hw; cases hw
theorem orderlyStopComplete (acked : Bool) : Statement (.orderlyStopComplete acked) := by
  intro w _ hw; cases hw
theorem restart (who : Who) : Statement (.restart who) := by
  intro w h hw; simp_all [WellFormed, Instr.accessor]
theorem restartRailTimeout : Statement .restartRailTimeout := by
  intro w _ hw; cases hw
theorem vsetWrite (who : Who) (val : Nat) : Statement (.vsetWrite who val) := by
  intro w h hw; simp_all [WellFormed, Instr.accessor]
theorem monitorPassStart (who : Who) : Statement (.monitorPassStart who) := by
  intro w h hw; simp_all [WellFormed, Instr.accessor]
theorem monitorResult (code code2 : Nat) (inTol : Bool × Bool) : Statement (.monitorResult code code2 inTol) := by
  intro w _ hw; cases hw
theorem tripCounterExpiry : Statement .tripCounterExpiry := by
  intro w _ hw; cases hw
theorem clkAoLoss : Statement .clkAoLoss := by
  intro w _ hw; cases hw
theorem svnCommit (who : Who) : Statement (.svnCommit who) := by
  intro w h hw; simp_all [WellFormed, Instr.accessor]
theorem keyDataWrite (who : Who) (idx val : Nat) : Statement (.keyDataWrite who idx val) := by
  intro w h hw; simp_all [WellFormed, Instr.accessor]
theorem tenantKeyInstall (who : Who) (f : Nat) : Statement (.tenantKeyInstall who f) := by
  intro w h hw; simp_all [WellFormed, Instr.accessor]
theorem modelKeyInstall (who : Who) (slot : Nat) : Statement (.modelKeyInstall who slot) := by
  intro w h hw; simp_all [WellFormed, Instr.accessor]
theorem tenantKeyClear (who : Who) (f : Nat) : Statement (.tenantKeyClear who f) := by
  intro w h hw; simp_all [WellFormed, Instr.accessor]
theorem modelKeyClear (who : Who) (slot : Nat) : Statement (.modelKeyClear who slot) := by
  intro w h hw; simp_all [WellFormed, Instr.accessor]
theorem getVersion (port : Nat) : Statement (.getVersion port) := by
  intro w _ hw; cases hw
theorem getCapabilities (port : Nat) : Statement (.getCapabilities port) := by
  intro w _ hw; cases hw
theorem negotiateAlgorithms (port : Nat) (p521 hash512 dhe521 gcm256 : Bool) : Statement (.negotiateAlgorithms port p521 hash512 dhe521 gcm256) := by
  intro w _ hw; cases hw
theorem getDigests (port : Nat) : Statement (.getDigests port) := by
  intro w _ hw; cases hw
theorem getCertificate (port slot off len : Nat) : Statement (.getCertificate port slot off len) := by
  intro w _ hw; cases hw
theorem challenge (port slot : Nat) : Statement (.challenge port slot) := by
  intro w _ hw; cases hw
theorem getMeasurements (port index : Nat) (signed : Bool) : Statement (.getMeasurements port index signed) := by
  intro w _ hw; cases hw
theorem keyExchange (port slot : Nat) : Statement (.keyExchange port slot) := by
  intro w _ hw; cases hw
theorem finish (port id : Nat) (verified : Bool) : Statement (.finish port id verified) := by
  intro w _ hw; cases hw
theorem heartbeat (port id : Nat) : Statement (.heartbeat port id) := by
  intro w _ hw; cases hw
theorem keyUpdate (port id op : Nat) : Statement (.keyUpdate port id op) := by
  intro w _ hw; cases hw
theorem endSession (port id : Nat) : Statement (.endSession port id) := by
  intro w _ hw; cases hw
theorem getCsr (port : Nat) : Statement (.getCsr port) := by
  intro w _ hw; cases hw
theorem setCertificate (port slot : Nat) (chain : List Byte) : Statement (.setCertificate port slot chain) := by
  intro w _ hw; cases hw
theorem setTenantKey (port id f key : Nat) : Statement (.setTenantKey port id f key) := by
  intro w _ hw; cases hw
theorem setModelKey (port id slot key : Nat) : Statement (.setModelKey port id slot key) := by
  intro w _ hw; cases hw
theorem getNonce (f : Nat) : Statement (.getNonce f) := by
  intro w _ hw; cases hw
theorem openSession (f : Nat) (nonceT mac : List Byte) : Statement (.openSession f nonceT mac) := by
  intro w _ hw; cases hw
theorem closeSession (f : Nat) : Statement (.closeSession f) := by
  intro w _ hw; cases hw
theorem coldPowerOn : Statement .coldPowerOn := by
  intro w _ hw; cases hw
theorem perstNFall : Statement .perstNFall := by
  intro w _ hw; cases hw
theorem pwrOkFall : Statement .pwrOkFall := by
  intro w _ hw; cases hw
theorem deviceReset (who : Who) : Statement (.deviceReset who) := by
  intro w h hw; simp_all [WellFormed, Instr.accessor]
theorem quarterReset (who : Who) (q : Nat) : Statement (.quarterReset who q) := by
  intro w h hw; simp_all [WellFormed, Instr.accessor]
theorem rowReset (who : Who) (row : Nat) : Statement (.rowReset who row) := by
  intro w h hw; simp_all [WellFormed, Instr.accessor]
theorem stallReset (who : Who) (row stall : Nat) : Statement (.stallReset who row stall) := by
  intro w h hw; simp_all [WellFormed, Instr.accessor]
theorem startUp (a b c : Nat) (fitted : List Nat) : Statement (.startUp a b c fitted) := by
  intro w _ hw; cases hw
theorem startUpReady (t : TrainIn) (bad : List Nat) (copyA copyB : List Byte) : Statement (.startUpReady t bad copyA copyB) := by
  intro w _ hw; cases hw
theorem recoveryBegin (size : Nat) : Statement (.recoveryBegin size) := by
  intro w _ hw; cases hw
theorem recoveryData (offset : Nat) (data : List Byte) : Statement (.recoveryData offset data) := by
  intro w _ hw; cases hw
theorem recoveryEnd (copyErr fwErr : MemErr) : Statement (.recoveryEnd copyErr fwErr) := by
  intro w _ hw; cases hw
theorem watchdogKick (who : Who) (val : Nat) : Statement (.watchdogKick who val) := by
  intro w h hw; simp_all [WellFormed, Instr.accessor]
theorem watchdogExpiry : Statement .watchdogExpiry := by
  intro w _ hw; cases hw
theorem bridgeFlitFailure (resends : Nat) : Statement (.bridgeFlitFailure resends) := by
  intro w _ hw; cases hw
theorem trainingTrialPass (port corr : Nat) (lock : LockIn) (uncorr : Nat) : Statement (.trainingTrialPass port corr lock uncorr) := by
  intro w _ hw; cases hw
theorem stoppingChainRead (temps : List (Int × Bool)) : Statement (.stoppingChainRead temps) := by
  intro w _ hw; cases hw
theorem clkAoReturn : Statement .clkAoReturn := by
  intro w _ hw; cases hw
theorem vddAoLoss : Statement .vddAoLoss := by
  intro w _ hw; cases hw
theorem doeObjectError (func vendor typ len : Nat) : Statement (.doeObjectError func vendor typ len) := by
  intro w _ hw; cases hw
theorem mctpControlMessage (command : Nat) : Statement (.mctpControlMessage command) := by
  intro w _ hw; cases hw

end Sys2Proof.Laws.Accessor
end

