-- ==== Sys2Proof/Laws/Read.lean ====
section
/-! SUPPORT. What a register field reads as, and which state fields stay, after each shared operation. The side conditions are closed facts about register offsets: `simp (disch := first | decide | rfl)` discharges them. -/

namespace Sys2Proof.Machine

/-- Two registers are different words of the register file. -/
def Reg.other (q r : Reg) : Bool := q.blk.code != r.blk.code || q.off % 8192 != r.off % 8192

/-- A field that a write of another field leaves alone, whatever the instance: another register, or other bits. -/
def RField.free (g f : RField) : Bool :=
  g.reg.other f.reg || (decide (g.reg = f.reg) && decide (f.lo + f.wd ≤ 64) && (decide (f.lo + f.wd ≤ g.lo) || decide (g.lo + g.wd ≤ f.lo)))

/-- The two blocks that events write: the event controller and the function windows. -/
def Block.calm : Block → Bool
  | .evc => false
  | .fnHost => false
  | _ => true

theorem Reg.key_ne_other {q r : Reg} {i j : Nat} (h : q.other r = true) : q.key j ≠ r.key i := by
  simp only [Reg.other, Bool.or_eq_true, bne_iff_ne, ne_eq] at h
  simp only [Reg.key]
  rcases h with h | h <;> omega

theorem Block.calm_evc {b : Block} (h : b.calm = true) : b ≠ .evc := by rintro rfl; cases h
theorem Block.calm_fnHost {b : Block} (h : b.calm = true) : b ≠ .fnHost := by rintro rfl; cases h

variable (s : State)

theorem State.rd_of_regs {s t : State} (h : t.regs = s.regs) (F : RField) (j : Nat) : t.rd F j = s.rd F j := by
  simp only [State.rd, State.getReg_of_regs h]

theorem State.on_of_regs {s t : State} (h : t.regs = s.regs) (F : RField) (j : Nat) : t.on F j = s.on F j := by
  simp only [State.on, State.rd_of_regs h]

theorem State.getReg_setReg_other {q r : Reg} (h : q.other r = true) (i j : Nat) (v : Word64) : (s.setReg r i v).getReg q j = s.getReg q j :=
  s.getReg_setReg_ne v (Reg.key_ne_other h)

theorem State.getReg_wr_other {q : Reg} {f : RField} (h : q.other f.reg = true) (i j v : Nat) : (s.wr f i v).getReg q j = s.getReg q j :=
  s.getReg_setReg_other h i j _

theorem State.getReg_bump_other {q : Reg} {f : RField} (h : q.other f.reg = true) (i j n : Nat) : (s.bump f i n).getReg q j = s.getReg q j :=
  s.getReg_wr_other h i j _

theorem State.getReg_bumpSat_other {q : Reg} {f : RField} (h : q.other f.reg = true) (i j n : Nat) : (s.bumpSat f i n).getReg q j = s.getReg q j :=
  s.getReg_wr_other h i j _

/-- The same register at another instance. -/
theorem State.getReg_wr_inst {q : Reg} {f : RField} {i j : Nat} (hi : i < 65536) (hj : j < 65536) (h : j ≠ i) (v : Nat) :
    (s.wr f i v).getReg q j = s.getReg q j := by
  apply s.getReg_wr_ne
  simp only [Reg.key]; omega

theorem State.rd_wr_inst {F f : RField} {i j : Nat} (hi : i < 65536) (hj : j < 65536) (h : j ≠ i) (v : Nat) : (s.wr f i v).rd F j = s.rd F j := by
  simp only [State.rd, s.getReg_wr_inst hi hj h]

theorem State.rd_setReg_other {F : RField} {r : Reg} (h : F.reg.other r = true) (i j : Nat) (v : Word64) : (s.setReg r i v).rd F j = s.rd F j := by
  simp only [State.rd, s.getReg_setReg_other h]

/-- Another field of the same register, or another register. -/
theorem State.rd_wr_free {F f : RField} (h : F.free f = true) (i j v : Nat) : (s.wr f i v).rd F j = s.rd F j := by
  simp only [RField.free, Bool.or_eq_true, Bool.and_eq_true, decide_eq_true_eq] at h
  rcases h with h | ⟨⟨h1, h2⟩, h3⟩
  · exact s.rd_wr_ne f F v (Reg.key_ne_other h)
  · by_cases hk : F.reg.key j = f.reg.key i
    · simp only [State.rd, State.wr, State.getReg, State.setReg, hk, FMap.get_set_same]
      exact f.of_put_apart F h2 h3.symm _ _
    · exact s.rd_wr_ne f F v hk

theorem State.rd_bump_free {F f : RField} (h : F.free f = true) (i j n : Nat) : (s.bump f i n).rd F j = s.rd F j := s.rd_wr_free h i j _
theorem State.rd_bumpSat_free {F f : RField} (h : F.free f = true) (i j n : Nat) : (s.bumpSat f i n).rd F j = s.rd F j := s.rd_wr_free h i j _
theorem State.on_wr_free {F f : RField} (h : F.free f = true) (i j v : Nat) : (s.wr f i v).on F j = s.on F j := by
  simp only [State.on, s.rd_wr_free h]
theorem State.on_bump_free {F f : RField} (h : F.free f = true) (i j n : Nat) : (s.bump f i n).on F j = s.on F j := s.on_wr_free h i j _
theorem State.on_bumpSat_free {F f : RField} (h : F.free f = true) (i j n : Nat) : (s.bumpSat f i n).on F j = s.on F j := s.on_wr_free h i j _

/-- The field that was written, when the value fits. -/
theorem State.rd_wr_val {f : RField} (hf : decide (f.lo + f.wd ≤ 64) = true) (i v : Nat) : (s.wr f i v).rd f i = v % 2 ^ f.wd :=
  s.rd_wr_same f (by simpa [RField.fits] using hf) i v

theorem State.rd_bump_val {f : RField} (hf : decide (f.lo + f.wd ≤ 64) = true) (i n : Nat) : (s.bump f i n).rd f i = (s.rd f i + n) % 2 ^ f.wd :=
  s.rd_wr_val hf i _

theorem State.rd_bumpSat_val {f : RField} (hf : decide (f.lo + f.wd ≤ 64) = true) (i n : Nat) :
    (s.bumpSat f i n).rd f i = min (s.rd f i + n) (2 ^ f.wd - 1) :=
  s.rd_bumpSat_same f (by simpa [RField.fits] using hf) i n

/-! ### Events and flags -/

theorem State.getReg_raise {q : Reg} (h : (q.blk != .evc) = true) (n j : Nat) : (s.raise n).getReg q j = s.getReg q j :=
  KeepsBlock.raise s n (by simpa using h) q j rfl
theorem State.rd_raise {F : RField} (h : (F.reg.blk != .evc) = true) (n j : Nat) : (s.raise n).rd F j = s.rd F j := by
  simp only [State.rd, s.getReg_raise h]
theorem State.on_raise {F : RField} (h : (F.reg.blk != .evc) = true) (n j : Nat) : (s.raise n).on F j = s.on F j := by
  simp only [State.on, s.rd_raise h]
theorem State.getReg_send (q : Reg) (o : Out) (j : Nat) : (s.send o).getReg q j = s.getReg q j := KeepsBlock.send s o q j rfl
@[simp] theorem State.rd_send (F : RField) (o : Out) (j : Nat) : (s.send o).rd F j = s.rd F j := by simp only [State.rd, State.getReg_send]
@[simp] theorem State.on_send (F : RField) (o : Out) (j : Nat) : (s.send o).on F j = s.on F j := by simp only [State.on, State.rd_send]
theorem State.getReg_fnEvent {q : Reg} (h : (q.blk != .fnHost) = true) (f b j : Nat) : (s.fnEvent f b).getReg q j = s.getReg q j :=
  KeepsBlock.fnEvent s f b (by simpa using h) q j rfl
theorem State.rd_fnEvent {F : RField} (h : (F.reg.blk != .fnHost) = true) (f b j : Nat) : (s.fnEvent f b).rd F j = s.rd F j := by
  simp only [State.rd, s.getReg_fnEvent h]
theorem State.on_fnEvent {F : RField} (h : (F.reg.blk != .fnHost) = true) (f b j : Nat) : (s.fnEvent f b).on F j = s.on F j := by
  simp only [State.on, s.rd_fnEvent h]
theorem State.getReg_flagEvent {q : Reg} (h : q.blk.calm = true) (r : Reg) (i : Nat) (b : Bool) (j : Nat) :
    (s.flagEvent r i b).getReg q j = s.getReg q j :=
  KeepsBlock.flagEvent s r i b (Block.calm_evc h) (Block.calm_fnHost h) q j rfl
theorem State.rd_flagEvent {F : RField} (h : F.reg.blk.calm = true) (r : Reg) (i : Nat) (b : Bool) (j : Nat) :
    (s.flagEvent r i b).rd F j = s.rd F j := by simp only [State.rd, s.getReg_flagEvent h]
theorem State.getReg_flag {q : Reg} {f : RField} (h : (q.blk.calm && q.other f.reg) = true) (i j : Nat) : (s.flag f i).getReg q j = s.getReg q j := by
  simp only [Bool.and_eq_true] at h
  unfold State.flag; dsimp only; split
  · rfl
  · rw [State.getReg_flagEvent _ h.1, s.getReg_wr_other h.2]
theorem State.rd_flag_free {F f : RField} (h : (F.reg.blk.calm && F.free f) = true) (i j : Nat) : (s.flag f i).rd F j = s.rd F j := by
  simp only [Bool.and_eq_true] at h
  unfold State.flag; dsimp only; split
  · rfl
  · rw [State.rd_flagEvent _ h.1, s.rd_wr_free h.2]
theorem State.on_flag_free {F f : RField} (h : (F.reg.blk.calm && F.free f) = true) (i j : Nat) : (s.flag f i).on F j = s.on F j := by
  simp only [State.on, s.rd_flag_free h]
/-- A flag is set after it was flagged. -/
theorem State.on_flag_val {f : RField} (h : (f.reg.blk.calm && decide (f.lo + 1 ≤ 64) && decide (f.wd = 1)) = true) (i : Nat) : (s.flag f i).on f i = true := by
  simp only [Bool.and_eq_true, decide_eq_true_eq] at h
  obtain ⟨⟨h1, h2⟩, h3⟩ := h
  unfold State.flag; dsimp only; split
  · assumption
  · simp only [State.on]
    rw [State.rd_flagEvent _ h1, State.rd_wr_val _ (by simp [h3, h2]), h3]; rfl
theorem State.rd_flag_val {f : RField} (h : (f.reg.blk.calm && decide (f.lo + 1 ≤ 64) && decide (f.wd = 1)) = true) (i : Nat) : (s.flag f i).rd f i = 1 := by
  simpa [State.on] using s.on_flag_val h i
theorem State.rd_wrs {F : RField} {l : List (RField × Nat)} (h : (l.all fun p => F.free p.1) = true) (i j : Nat) :
    (l.foldl (fun s p => s.wr p.1 i p.2) s).rd F j = s.rd F j := by
  induction l generalizing s with
  | nil => rfl
  | cons p l ih =>
    simp only [List.all_cons, Bool.and_eq_true] at h
    rw [List.foldl_cons, ih _ h.2, s.rd_wr_free h.1]
theorem State.rd_flagAt_free {F f : RField} {l : List (RField × Nat)} (h : (F.reg.blk.calm && F.free f && l.all fun p => F.free p.1) = true) (i j : Nat) :
    (s.flagAt f i l).rd F j = s.rd F j := by
  have h' := h
  simp only [Bool.and_eq_true] at h'
  unfold State.flagAt
  rw [State.rd_flag_free _ (by simp [h'.1.1, h'.1.2]), s.rd_wrs h'.2]
theorem State.on_flagAt_free {F f : RField} {l : List (RField × Nat)} (h : (F.reg.blk.calm && F.free f && l.all fun p => F.free p.1) = true) (i j : Nat) :
    (s.flagAt f i l).on F j = s.on F j := by simp only [State.on, s.rd_flagAt_free h]
theorem State.on_flagAt_val {f : RField} (h : (f.reg.blk.calm && decide (f.lo + 1 ≤ 64) && decide (f.wd = 1)) = true) (i : Nat) (l : List (RField × Nat)) :
    (s.flagAt f i l).on f i = true := State.on_flag_val _ h i
theorem State.rd_flagAt_val {f : RField} (h : (f.reg.blk.calm && decide (f.lo + 1 ≤ 64) && decide (f.wd = 1)) = true) (i : Nat) (l : List (RField × Nat)) :
    (s.flagAt f i l).rd f i = 1 := State.rd_flag_val _ h i
/-- An access error changes only the fault registers of the function that made it. -/
theorem State.getReg_accessError {q : Reg} (h : (q.blk.calm && q.blk != .fnTen) = true) (w : Who) (bar off : Nat) (b : Bool) (j : Nat) :
    (s.accessError w bar off b).getReg q j = s.getReg q j := by
  simp only [Bool.and_eq_true, bne_iff_ne, ne_eq] at h
  have e : ∀ {r : Reg}, r.blk = .fnTen → q.other r = true := by
    intro r hr; simp only [Reg.other, Bool.or_eq_true, bne_iff_ne]; left; rw [hr]; exact fun hc => h.2 (Block.code_inj hc)
  unfold State.accessError
  cases w with
  | func f =>
    dsimp only [State.tenFault]
    rw [State.getReg_flag _ (by rw [h.1, e (r := TEN_FAULT.ACCESS.reg) rfl]; rfl), State.getReg_wr_other _ (e rfl), State.getReg_wr_other _ (e rfl), State.getReg_wr_other _ (e rfl), State.getReg_bump_other _ (e rfl)]
  | clerk k => rfl
  | i3c => rfl
theorem State.rd_accessError {F : RField} (h : (F.reg.blk.calm && F.reg.blk != .fnTen) = true) (w : Who) (bar off : Nat) (b : Bool) (j : Nat) :
    (s.accessError w bar off b).rd F j = s.rd F j := by simp only [State.rd, s.getReg_accessError h]
/-- Writing a register under its access codes touches that register alone. -/
theorem State.getReg_writeReg_other {q r : Reg} (h : q.other r = true) (i v j : Nat) : (s.writeReg r i v).getReg q j = s.getReg q j := by
  unfold State.writeReg; split
  · exact s.getReg_setReg_other h i j _
  · rfl
theorem State.rd_writeReg_other {F : RField} {r : Reg} (h : F.reg.other r = true) (i v j : Nat) : (s.writeReg r i v).rd F j = s.rd F j := by
  simp only [State.rd, s.getReg_writeReg_other h]
theorem Shape.writeReg (r : Reg) (i v : Nat) : Shape s (s.writeReg r i v) := by
  unfold State.writeReg; split
  · exact Shape.setReg s _ _ _
  · exact Shape.refl s

/-! ### Who may write -/

theorem State.adminWrite_open {s : State} {who : Who} (h1 : s.memOpen who = true) (h2 : whoAdmin who = true) (r : Reg) (f : State → State) :
    s.adminWrite who r f = f (s.accessed who (r.blk.base + r.off)) := by simp [State.adminWrite, h1, h2]

theorem State.adminWrite_refused {s : State} {who : Who} (h1 : s.memOpen who = true) (h2 : whoAdmin who = false) (r : Reg) (f : State → State) :
    s.adminWrite who r f = (s.accessed who (r.blk.base + r.off)).accessError who 0 (r.blk.base + r.off) true := by simp [State.adminWrite, h1, h2]

theorem State.stlAccess_open {s : State} {who : Who} {sid : Nat} (h1 : s.memOpen who = true) (h2 : whoAdmin who = true) (h3 : s.boot.inReset.contains sid = false)
    (off : Nat) (w : Bool) (f : State → State) : s.stlAccess who sid off w f = f ((s.accessed who (0x1100000 + 0x4000 * rowOf sid + 0x1000 + 0x100 * posOf sid + off)).wakeStall sid) := by
  unfold State.stlAccess
  rw [if_neg (by simp [h1]), if_neg (by simp [h2]), if_neg (by rw [h3]; decide)]

/-! ### Registers under changes of the other fields -/

@[simp] theorem State.rd_setStall (k : Nat) (v : Stall) (F : RField) (j : Nat) : (s.setStall k v).rd F j = s.rd F j := State.rd_of_regs (by simp) F j
@[simp] theorem State.on_setStall (k : Nat) (v : Stall) (F : RField) (j : Nat) : (s.setStall k v).on F j = s.on F j := State.on_of_regs (by simp) F j
@[simp] theorem State.getReg_setStall (k : Nat) (v : Stall) (q : Reg) (j : Nat) : (s.setStall k v).getReg q j = s.getReg q j := State.getReg_of_regs (by simp) q j
@[simp] theorem State.rd_setGroup (k : Nat) (v : Group) (F : RField) (j : Nat) : (s.setGroup k v).rd F j = s.rd F j := State.rd_of_regs (by simp) F j
@[simp] theorem State.on_setGroup (k : Nat) (v : Group) (F : RField) (j : Nat) : (s.setGroup k v).on F j = s.on F j := State.on_of_regs (by simp) F j
@[simp] theorem State.getReg_setGroup (k : Nat) (v : Group) (q : Reg) (j : Nat) : (s.setGroup k v).getReg q j = s.getReg q j := State.getReg_of_regs (by simp) q j
@[simp] theorem State.rd_setRow (k : Nat) (v : Row) (F : RField) (j : Nat) : (s.setRow k v).rd F j = s.rd F j := State.rd_of_regs (by simp) F j
@[simp] theorem State.on_setRow (k : Nat) (v : Row) (F : RField) (j : Nat) : (s.setRow k v).on F j = s.on F j := State.on_of_regs (by simp) F j
@[simp] theorem State.getReg_setRow (k : Nat) (v : Row) (q : Reg) (j : Nat) : (s.setRow k v).getReg q j = s.getReg q j := State.getReg_of_regs (by simp) q j
@[simp] theorem State.rd_setSlot (k : Nat) (v : ModelSlot) (F : RField) (j : Nat) : (s.setSlot k v).rd F j = s.rd F j := State.rd_of_regs (by simp) F j
@[simp] theorem State.on_setSlot (k : Nat) (v : ModelSlot) (F : RField) (j : Nat) : (s.setSlot k v).on F j = s.on F j := State.on_of_regs (by simp) F j
@[simp] theorem State.getReg_setSlot (k : Nat) (v : ModelSlot) (q : Reg) (j : Nat) : (s.setSlot k v).getReg q j = s.getReg q j := State.getReg_of_regs (by simp) q j
@[simp] theorem State.rd_setFunc (k : Nat) (v : Func) (F : RField) (j : Nat) : (s.setFunc k v).rd F j = s.rd F j := State.rd_of_regs (by simp) F j
@[simp] theorem State.on_setFunc (k : Nat) (v : Func) (F : RField) (j : Nat) : (s.setFunc k v).on F j = s.on F j := State.on_of_regs (by simp) F j
@[simp] theorem State.getReg_setFunc (k : Nat) (v : Func) (q : Reg) (j : Nat) : (s.setFunc k v).getReg q j = s.getReg q j := State.getReg_of_regs (by simp) q j
@[simp] theorem State.rd_setClerk (k : Nat) (v : Clerk) (F : RField) (j : Nat) : (s.setClerk k v).rd F j = s.rd F j := State.rd_of_regs (by simp) F j
@[simp] theorem State.on_setClerk (k : Nat) (v : Clerk) (F : RField) (j : Nat) : (s.setClerk k v).on F j = s.on F j := State.on_of_regs (by simp) F j
@[simp] theorem State.getReg_setClerk (k : Nat) (v : Clerk) (q : Reg) (j : Nat) : (s.setClerk k v).getReg q j = s.getReg q j := State.getReg_of_regs (by simp) q j
@[simp] theorem State.rd_setJrn (k : Nat) (v : JEntry) (F : RField) (j : Nat) : (s.setJrn k v).rd F j = s.rd F j := State.rd_of_regs (by simp) F j
@[simp] theorem State.on_setJrn (k : Nat) (v : JEntry) (F : RField) (j : Nat) : (s.setJrn k v).on F j = s.on F j := State.on_of_regs (by simp) F j
@[simp] theorem State.getReg_setJrn (k : Nat) (v : JEntry) (q : Reg) (j : Nat) : (s.setJrn k v).getReg q j = s.getReg q j := State.getReg_of_regs (by simp) q j
@[simp] theorem State.rd_setSeq (k : Nat) (v : Seq) (F : RField) (j : Nat) : (s.setSeq k v).rd F j = s.rd F j := State.rd_of_regs (by simp) F j
@[simp] theorem State.on_setSeq (k : Nat) (v : Seq) (F : RField) (j : Nat) : (s.setSeq k v).on F j = s.on F j := State.on_of_regs (by simp) F j
@[simp] theorem State.getReg_setSeq (k : Nat) (v : Seq) (q : Reg) (j : Nat) : (s.setSeq k v).getReg q j = s.getReg q j := State.getReg_of_regs (by simp) q j
@[simp] theorem State.rd_setPage (k : Nat) (v : Page) (F : RField) (j : Nat) : (s.setPage k v).rd F j = s.rd F j := State.rd_of_regs (by simp) F j
@[simp] theorem State.on_setPage (k : Nat) (v : Page) (F : RField) (j : Nat) : (s.setPage k v).on F j = s.on F j := State.on_of_regs (by simp) F j
@[simp] theorem State.getReg_setPage (k : Nat) (v : Page) (q : Reg) (j : Nat) : (s.setPage k v).getReg q j = s.getReg q j := State.getReg_of_regs (by simp) q j
@[simp] theorem State.rd_setRoll (k : Nat) (v : Roll) (F : RField) (j : Nat) : (s.setRoll k v).rd F j = s.rd F j := State.rd_of_regs (by simp) F j
@[simp] theorem State.on_setRoll (k : Nat) (v : Roll) (F : RField) (j : Nat) : (s.setRoll k v).on F j = s.on F j := State.on_of_regs (by simp) F j
@[simp] theorem State.getReg_setRoll (k : Nat) (v : Roll) (q : Reg) (j : Nat) : (s.setRoll k v).getReg q j = s.getReg q j := State.getReg_of_regs (by simp) q j
@[simp] theorem State.rd_setPace (k : Nat) (v : Pace) (F : RField) (j : Nat) : (s.setPace k v).rd F j = s.rd F j := State.rd_of_regs (by simp) F j
@[simp] theorem State.on_setPace (k : Nat) (v : Pace) (F : RField) (j : Nat) : (s.setPace k v).on F j = s.on F j := State.on_of_regs (by simp) F j
@[simp] theorem State.getReg_setPace (k : Nat) (v : Pace) (q : Reg) (j : Nat) : (s.setPace k v).getReg q j = s.getReg q j := State.getReg_of_regs (by simp) q j
@[simp] theorem State.rd_setAdapter (k : Nat) (v : Adapter) (F : RField) (j : Nat) : (s.setAdapter k v).rd F j = s.rd F j := State.rd_of_regs (by simp) F j
@[simp] theorem State.on_setAdapter (k : Nat) (v : Adapter) (F : RField) (j : Nat) : (s.setAdapter k v).on F j = s.on F j := State.on_of_regs (by simp) F j
@[simp] theorem State.getReg_setAdapter (k : Nat) (v : Adapter) (q : Reg) (j : Nat) : (s.setAdapter k v).getReg q j = s.getReg q j := State.getReg_of_regs (by simp) q j
@[simp] theorem State.rd_setTune (k : Nat) (v : TuneJob) (F : RField) (j : Nat) : (s.setTune k v).rd F j = s.rd F j := State.rd_of_regs (by simp) F j
@[simp] theorem State.on_setTune (k : Nat) (v : TuneJob) (F : RField) (j : Nat) : (s.setTune k v).on F j = s.on F j := State.on_of_regs (by simp) F j
@[simp] theorem State.getReg_setTune (k : Nat) (v : TuneJob) (q : Reg) (j : Nat) : (s.setTune k v).getReg q j = s.getReg q j := State.getReg_of_regs (by simp) q j
@[simp] theorem State.rd_dropHalves (w : Who) (F : RField) (j : Nat) : (s.dropHalves w).rd F j = s.rd F j := State.rd_of_regs (by simp) F j
@[simp] theorem State.rd_keepHalves (w : Who) (n : Nat) (F : RField) (j : Nat) : (s.keepHalves w n).rd F j = s.rd F j := State.rd_of_regs (by simp) F j
@[simp] theorem State.on_dropHalves (w : Who) (F : RField) (j : Nat) : (s.dropHalves w).on F j = s.on F j := State.on_of_regs (by simp) F j
@[simp] theorem State.on_keepHalves (w : Who) (n : Nat) (F : RField) (j : Nat) : (s.keepHalves w n).on F j = s.on F j := State.on_of_regs (by simp) F j
@[simp] theorem State.getReg_dropHalves (w : Who) (q : Reg) (j : Nat) : (s.dropHalves w).getReg q j = s.getReg q j := State.getReg_of_regs (by simp) q j
@[simp] theorem State.getReg_keepHalves (w : Who) (n : Nat) (q : Reg) (j : Nat) : (s.keepHalves w n).getReg q j = s.getReg q j := State.getReg_of_regs (by simp) q j
@[simp] theorem State.modStall_pending (k : Nat) (g : Stall → Stall) : (s.modStall k g).pending = s.pending := by simp only [State.modStall, State.setStall_pending]
@[simp] theorem State.modStall_now (k : Nat) (g : Stall → Stall) : (s.modStall k g).now = s.now := by simp only [State.modStall, State.setStall_now]
@[simp] theorem State.modStall_free (k : Nat) (g : Stall → Stall) : (s.modStall k g).free = s.free := by simp only [State.modStall, State.setStall_free]
@[simp] theorem State.modStall_regs (k : Nat) (g : Stall → Stall) : (s.modStall k g).regs = s.regs := by simp only [State.modStall, State.setStall_regs]
@[simp] theorem State.modStall_halves (k : Nat) (g : Stall → Stall) : (s.modStall k g).halves = s.halves := by simp only [State.modStall, State.setStall_halves]
@[simp] theorem State.modStall_outbox (k : Nat) (g : Stall → Stall) : (s.modStall k g).outbox = s.outbox := by simp only [State.modStall, State.setStall_outbox]
@[simp] theorem State.modStall_groups (k : Nat) (g : Stall → Stall) : (s.modStall k g).groups = s.groups := by simp only [State.modStall, State.setStall_groups]
@[simp] theorem State.modStall_rows (k : Nat) (g : Stall → Stall) : (s.modStall k g).rows = s.rows := by simp only [State.modStall, State.setStall_rows]
@[simp] theorem State.modStall_jobs (k : Nat) (g : Stall → Stall) : (s.modStall k g).jobs = s.jobs := by simp only [State.modStall, State.setStall_jobs]
@[simp] theorem State.modStall_nextJob (k : Nat) (g : Stall → Stall) : (s.modStall k g).nextJob = s.nextJob := by simp only [State.modStall, State.setStall_nextJob]
@[simp] theorem State.modStall_cperLost (k : Nat) (g : Stall → Stall) : (s.modStall k g).cperLost = s.cperLost := by simp only [State.modStall, State.setStall_cperLost]
@[simp] theorem State.modStall_journal (k : Nat) (g : Stall → Stall) : (s.modStall k g).journal = s.journal := by simp only [State.modStall, State.setStall_journal]
@[simp] theorem State.modStall_digests (k : Nat) (g : Stall → Stall) : (s.modStall k g).digests = s.digests := by simp only [State.modStall, State.setStall_digests]
@[simp] theorem State.modStall_restocked (k : Nat) (g : Stall → Stall) : (s.modStall k g).restocked = s.restocked := by simp only [State.modStall, State.setStall_restocked]
@[simp] theorem State.modStall_images (k : Nat) (g : Stall → Stall) : (s.modStall k g).images = s.images := by simp only [State.modStall, State.setStall_images]
@[simp] theorem State.modStall_stock (k : Nat) (g : Stall → Stall) : (s.modStall k g).stock = s.stock := by simp only [State.modStall, State.setStall_stock]
@[simp] theorem State.modStall_working (k : Nat) (g : Stall → Stall) : (s.modStall k g).working = s.working := by simp only [State.modStall, State.setStall_working]
@[simp] theorem State.modStall_scrub (k : Nat) (g : Stall → Stall) : (s.modStall k g).scrub = s.scrub := by simp only [State.modStall, State.setStall_scrub]
@[simp] theorem State.modStall_slots (k : Nat) (g : Stall → Stall) : (s.modStall k g).slots = s.slots := by simp only [State.modStall, State.setStall_slots]
@[simp] theorem State.modStall_seqs (k : Nat) (g : Stall → Stall) : (s.modStall k g).seqs = s.seqs := by simp only [State.modStall, State.setStall_seqs]
@[simp] theorem State.modStall_pages (k : Nat) (g : Stall → Stall) : (s.modStall k g).pages = s.pages := by simp only [State.modStall, State.setStall_pages]
@[simp] theorem State.modStall_nextPage (k : Nat) (g : Stall → Stall) : (s.modStall k g).nextPage = s.nextPage := by simp only [State.modStall, State.setStall_nextPage]
@[simp] theorem State.modStall_rolls (k : Nat) (g : Stall → Stall) : (s.modStall k g).rolls = s.rolls := by simp only [State.modStall, State.setStall_rolls]
@[simp] theorem State.modStall_paces (k : Nat) (g : Stall → Stall) : (s.modStall k g).paces = s.paces := by simp only [State.modStall, State.setStall_paces]
@[simp] theorem State.modStall_sched (k : Nat) (g : Stall → Stall) : (s.modStall k g).sched = s.sched := by simp only [State.modStall, State.setStall_sched]
@[simp] theorem State.modStall_adapters (k : Nat) (g : Stall → Stall) : (s.modStall k g).adapters = s.adapters := by simp only [State.modStall, State.setStall_adapters]
@[simp] theorem State.modStall_tunes (k : Nat) (g : Stall → Stall) : (s.modStall k g).tunes = s.tunes := by simp only [State.modStall, State.setStall_tunes]
@[simp] theorem State.modStall_cart (k : Nat) (g : Stall → Stall) : (s.modStall k g).cart = s.cart := by simp only [State.modStall, State.setStall_cart]
@[simp] theorem State.modStall_mem (k : Nat) (g : Stall → Stall) : (s.modStall k g).mem = s.mem := by simp only [State.modStall, State.setStall_mem]
@[simp] theorem State.modStall_charter (k : Nat) (g : Stall → Stall) : (s.modStall k g).charter = s.charter := by simp only [State.modStall, State.setStall_charter]
@[simp] theorem State.modStall_funcs (k : Nat) (g : Stall → Stall) : (s.modStall k g).funcs = s.funcs := by simp only [State.modStall, State.setStall_funcs]
@[simp] theorem State.modStall_clerks (k : Nat) (g : Stall → Stall) : (s.modStall k g).clerks = s.clerks := by simp only [State.modStall, State.setStall_clerks]
@[simp] theorem State.modStall_pendAt (k : Nat) (g : Stall → Stall) : (s.modStall k g).pendAt = s.pendAt := by simp only [State.modStall, State.setStall_pendAt]
@[simp] theorem State.modStall_modeCtl (k : Nat) (g : Stall → Stall) : (s.modStall k g).modeCtl = s.modeCtl := by simp only [State.modStall, State.setStall_modeCtl]
@[simp] theorem State.modStall_sleep (k : Nat) (g : Stall → Stall) : (s.modStall k g).sleep = s.sleep := by simp only [State.modStall, State.setStall_sleep]
@[simp] theorem State.modStall_gatedAt (k : Nat) (g : Stall → Stall) : (s.modStall k g).gatedAt = s.gatedAt := by simp only [State.modStall, State.setStall_gatedAt]
@[simp] theorem State.modStall_wakeAt (k : Nat) (g : Stall → Stall) : (s.modStall k g).wakeAt = s.wakeAt := by simp only [State.modStall, State.setStall_wakeAt]
@[simp] theorem State.modStall_port0 (k : Nat) (g : Stall → Stall) : (s.modStall k g).port0 = s.port0 := by simp only [State.modStall, State.setStall_port0]
@[simp] theorem State.modStall_warden (k : Nat) (g : Stall → Stall) : (s.modStall k g).warden = s.warden := by simp only [State.modStall, State.setStall_warden]
@[simp] theorem State.modStall_boot (k : Nat) (g : Stall → Stall) : (s.modStall k g).boot = s.boot := by simp only [State.modStall, State.setStall_boot]
@[simp] theorem State.modStall_cal (k : Nat) (g : Stall → Stall) : (s.modStall k g).cal = s.cal := by simp only [State.modStall, State.setStall_cal]
@[simp] theorem State.modStall_sec (k : Nat) (g : Stall → Stall) : (s.modStall k g).sec = s.sec := by simp only [State.modStall, State.setStall_sec]
@[simp] theorem State.modStall_duty (k : Nat) (g : Stall → Stall) : (s.modStall k g).duty = s.duty := by simp only [State.modStall, State.setStall_duty]
@[simp] theorem State.modStall_level (k : Nat) (g : Stall → Stall) : (s.modStall k g).level = s.level := by simp only [State.modStall, State.setStall_level]
@[simp] theorem State.rd_modStall (k : Nat) (g : Stall → Stall) (F : RField) (j : Nat) : (s.modStall k g).rd F j = s.rd F j := State.rd_of_regs (by simp) F j
@[simp] theorem State.on_modStall (k : Nat) (g : Stall → Stall) (F : RField) (j : Nat) : (s.modStall k g).on F j = s.on F j := State.on_of_regs (by simp) F j
@[simp] theorem State.getReg_modStall (k : Nat) (g : Stall → Stall) (q : Reg) (j : Nat) : (s.modStall k g).getReg q j = s.getReg q j := State.getReg_of_regs (by simp) q j
@[simp] theorem State.modGroup_pending (k : Nat) (g : Group → Group) : (s.modGroup k g).pending = s.pending := by simp only [State.modGroup, State.setGroup_pending]
@[simp] theorem State.modGroup_now (k : Nat) (g : Group → Group) : (s.modGroup k g).now = s.now := by simp only [State.modGroup, State.setGroup_now]
@[simp] theorem State.modGroup_free (k : Nat) (g : Group → Group) : (s.modGroup k g).free = s.free := by simp only [State.modGroup, State.setGroup_free]
@[simp] theorem State.modGroup_regs (k : Nat) (g : Group → Group) : (s.modGroup k g).regs = s.regs := by simp only [State.modGroup, State.setGroup_regs]
@[simp] theorem State.modGroup_halves (k : Nat) (g : Group → Group) : (s.modGroup k g).halves = s.halves := by simp only [State.modGroup, State.setGroup_halves]
@[simp] theorem State.modGroup_outbox (k : Nat) (g : Group → Group) : (s.modGroup k g).outbox = s.outbox := by simp only [State.modGroup, State.setGroup_outbox]
@[simp] theorem State.modGroup_stalls (k : Nat) (g : Group → Group) : (s.modGroup k g).stalls = s.stalls := by simp only [State.modGroup, State.setGroup_stalls]
@[simp] theorem State.modGroup_rows (k : Nat) (g : Group → Group) : (s.modGroup k g).rows = s.rows := by simp only [State.modGroup, State.setGroup_rows]
@[simp] theorem State.modGroup_jobs (k : Nat) (g : Group → Group) : (s.modGroup k g).jobs = s.jobs := by simp only [State.modGroup, State.setGroup_jobs]
@[simp] theorem State.modGroup_nextJob (k : Nat) (g : Group → Group) : (s.modGroup k g).nextJob = s.nextJob := by simp only [State.modGroup, State.setGroup_nextJob]
@[simp] theorem State.modGroup_cperLost (k : Nat) (g : Group → Group) : (s.modGroup k g).cperLost = s.cperLost := by simp only [State.modGroup, State.setGroup_cperLost]
@[simp] theorem State.modGroup_journal (k : Nat) (g : Group → Group) : (s.modGroup k g).journal = s.journal := by simp only [State.modGroup, State.setGroup_journal]
@[simp] theorem State.modGroup_digests (k : Nat) (g : Group → Group) : (s.modGroup k g).digests = s.digests := by simp only [State.modGroup, State.setGroup_digests]
@[simp] theorem State.modGroup_restocked (k : Nat) (g : Group → Group) : (s.modGroup k g).restocked = s.restocked := by simp only [State.modGroup, State.setGroup_restocked]
@[simp] theorem State.modGroup_images (k : Nat) (g : Group → Group) : (s.modGroup k g).images = s.images := by simp only [State.modGroup, State.setGroup_images]
@[simp] theorem State.modGroup_stock (k : Nat) (g : Group → Group) : (s.modGroup k g).stock = s.stock := by simp only [State.modGroup, State.setGroup_stock]
@[simp] theorem State.modGroup_working (k : Nat) (g : Group → Group) : (s.modGroup k g).working = s.working := by simp only [State.modGroup, State.setGroup_working]
@[simp] theorem State.modGroup_scrub (k : Nat) (g : Group → Group) : (s.modGroup k g).scrub = s.scrub := by simp only [State.modGroup, State.setGroup_scrub]
@[simp] theorem State.modGroup_slots (k : Nat) (g : Group → Group) : (s.modGroup k g).slots = s.slots := by simp only [State.modGroup, State.setGroup_slots]
@[simp] theorem State.modGroup_seqs (k : Nat) (g : Group → Group) : (s.modGroup k g).seqs = s.seqs := by simp only [State.modGroup, State.setGroup_seqs]
@[simp] theorem State.modGroup_pages (k : Nat) (g : Group → Group) : (s.modGroup k g).pages = s.pages := by simp only [State.modGroup, State.setGroup_pages]
@[simp] theorem State.modGroup_nextPage (k : Nat) (g : Group → Group) : (s.modGroup k g).nextPage = s.nextPage := by simp only [State.modGroup, State.setGroup_nextPage]
@[simp] theorem State.modGroup_rolls (k : Nat) (g : Group → Group) : (s.modGroup k g).rolls = s.rolls := by simp only [State.modGroup, State.setGroup_rolls]
@[simp] theorem State.modGroup_paces (k : Nat) (g : Group → Group) : (s.modGroup k g).paces = s.paces := by simp only [State.modGroup, State.setGroup_paces]
@[simp] theorem State.modGroup_sched (k : Nat) (g : Group → Group) : (s.modGroup k g).sched = s.sched := by simp only [State.modGroup, State.setGroup_sched]
@[simp] theorem State.modGroup_adapters (k : Nat) (g : Group → Group) : (s.modGroup k g).adapters = s.adapters := by simp only [State.modGroup, State.setGroup_adapters]
@[simp] theorem State.modGroup_tunes (k : Nat) (g : Group → Group) : (s.modGroup k g).tunes = s.tunes := by simp only [State.modGroup, State.setGroup_tunes]
@[simp] theorem State.modGroup_cart (k : Nat) (g : Group → Group) : (s.modGroup k g).cart = s.cart := by simp only [State.modGroup, State.setGroup_cart]
@[simp] theorem State.modGroup_mem (k : Nat) (g : Group → Group) : (s.modGroup k g).mem = s.mem := by simp only [State.modGroup, State.setGroup_mem]
@[simp] theorem State.modGroup_charter (k : Nat) (g : Group → Group) : (s.modGroup k g).charter = s.charter := by simp only [State.modGroup, State.setGroup_charter]
@[simp] theorem State.modGroup_funcs (k : Nat) (g : Group → Group) : (s.modGroup k g).funcs = s.funcs := by simp only [State.modGroup, State.setGroup_funcs]
@[simp] theorem State.modGroup_clerks (k : Nat) (g : Group → Group) : (s.modGroup k g).clerks = s.clerks := by simp only [State.modGroup, State.setGroup_clerks]
@[simp] theorem State.modGroup_pendAt (k : Nat) (g : Group → Group) : (s.modGroup k g).pendAt = s.pendAt := by simp only [State.modGroup, State.setGroup_pendAt]
@[simp] theorem State.modGroup_modeCtl (k : Nat) (g : Group → Group) : (s.modGroup k g).modeCtl = s.modeCtl := by simp only [State.modGroup, State.setGroup_modeCtl]
@[simp] theorem State.modGroup_sleep (k : Nat) (g : Group → Group) : (s.modGroup k g).sleep = s.sleep := by simp only [State.modGroup, State.setGroup_sleep]
@[simp] theorem State.modGroup_gatedAt (k : Nat) (g : Group → Group) : (s.modGroup k g).gatedAt = s.gatedAt := by simp only [State.modGroup, State.setGroup_gatedAt]
@[simp] theorem State.modGroup_wakeAt (k : Nat) (g : Group → Group) : (s.modGroup k g).wakeAt = s.wakeAt := by simp only [State.modGroup, State.setGroup_wakeAt]
@[simp] theorem State.modGroup_port0 (k : Nat) (g : Group → Group) : (s.modGroup k g).port0 = s.port0 := by simp only [State.modGroup, State.setGroup_port0]
@[simp] theorem State.modGroup_warden (k : Nat) (g : Group → Group) : (s.modGroup k g).warden = s.warden := by simp only [State.modGroup, State.setGroup_warden]
@[simp] theorem State.modGroup_boot (k : Nat) (g : Group → Group) : (s.modGroup k g).boot = s.boot := by simp only [State.modGroup, State.setGroup_boot]
@[simp] theorem State.modGroup_cal (k : Nat) (g : Group → Group) : (s.modGroup k g).cal = s.cal := by simp only [State.modGroup, State.setGroup_cal]
@[simp] theorem State.modGroup_sec (k : Nat) (g : Group → Group) : (s.modGroup k g).sec = s.sec := by simp only [State.modGroup, State.setGroup_sec]
@[simp] theorem State.modGroup_duty (k : Nat) (g : Group → Group) : (s.modGroup k g).duty = s.duty := by simp only [State.modGroup, State.setGroup_duty]
@[simp] theorem State.modGroup_level (k : Nat) (g : Group → Group) : (s.modGroup k g).level = s.level := by simp only [State.modGroup, State.setGroup_level]
@[simp] theorem State.rd_modGroup (k : Nat) (g : Group → Group) (F : RField) (j : Nat) : (s.modGroup k g).rd F j = s.rd F j := State.rd_of_regs (by simp) F j
@[simp] theorem State.on_modGroup (k : Nat) (g : Group → Group) (F : RField) (j : Nat) : (s.modGroup k g).on F j = s.on F j := State.on_of_regs (by simp) F j
@[simp] theorem State.getReg_modGroup (k : Nat) (g : Group → Group) (q : Reg) (j : Nat) : (s.modGroup k g).getReg q j = s.getReg q j := State.getReg_of_regs (by simp) q j
@[simp] theorem State.modRow_pending (k : Nat) (g : Row → Row) : (s.modRow k g).pending = s.pending := by simp only [State.modRow, State.setRow_pending]
@[simp] theorem State.modRow_now (k : Nat) (g : Row → Row) : (s.modRow k g).now = s.now := by simp only [State.modRow, State.setRow_now]
@[simp] theorem State.modRow_free (k : Nat) (g : Row → Row) : (s.modRow k g).free = s.free := by simp only [State.modRow, State.setRow_free]
@[simp] theorem State.modRow_regs (k : Nat) (g : Row → Row) : (s.modRow k g).regs = s.regs := by simp only [State.modRow, State.setRow_regs]
@[simp] theorem State.modRow_halves (k : Nat) (g : Row → Row) : (s.modRow k g).halves = s.halves := by simp only [State.modRow, State.setRow_halves]
@[simp] theorem State.modRow_outbox (k : Nat) (g : Row → Row) : (s.modRow k g).outbox = s.outbox := by simp only [State.modRow, State.setRow_outbox]
@[simp] theorem State.modRow_stalls (k : Nat) (g : Row → Row) : (s.modRow k g).stalls = s.stalls := by simp only [State.modRow, State.setRow_stalls]
@[simp] theorem State.modRow_groups (k : Nat) (g : Row → Row) : (s.modRow k g).groups = s.groups := by simp only [State.modRow, State.setRow_groups]
@[simp] theorem State.modRow_jobs (k : Nat) (g : Row → Row) : (s.modRow k g).jobs = s.jobs := by simp only [State.modRow, State.setRow_jobs]
@[simp] theorem State.modRow_nextJob (k : Nat) (g : Row → Row) : (s.modRow k g).nextJob = s.nextJob := by simp only [State.modRow, State.setRow_nextJob]
@[simp] theorem State.modRow_cperLost (k : Nat) (g : Row → Row) : (s.modRow k g).cperLost = s.cperLost := by simp only [State.modRow, State.setRow_cperLost]
@[simp] theorem State.modRow_journal (k : Nat) (g : Row → Row) : (s.modRow k g).journal = s.journal := by simp only [State.modRow, State.setRow_journal]
@[simp] theorem State.modRow_digests (k : Nat) (g : Row → Row) : (s.modRow k g).digests = s.digests := by simp only [State.modRow, State.setRow_digests]
@[simp] theorem State.modRow_restocked (k : Nat) (g : Row → Row) : (s.modRow k g).restocked = s.restocked := by simp only [State.modRow, State.setRow_restocked]
@[simp] theorem State.modRow_images (k : Nat) (g : Row → Row) : (s.modRow k g).images = s.images := by simp only [State.modRow, State.setRow_images]
@[simp] theorem State.modRow_stock (k : Nat) (g : Row → Row) : (s.modRow k g).stock = s.stock := by simp only [State.modRow, State.setRow_stock]
@[simp] theorem State.modRow_working (k : Nat) (g : Row → Row) : (s.modRow k g).working = s.working := by simp only [State.modRow, State.setRow_working]
@[simp] theorem State.modRow_scrub (k : Nat) (g : Row → Row) : (s.modRow k g).scrub = s.scrub := by simp only [State.modRow, State.setRow_scrub]
@[simp] theorem State.modRow_slots (k : Nat) (g : Row → Row) : (s.modRow k g).slots = s.slots := by simp only [State.modRow, State.setRow_slots]
@[simp] theorem State.modRow_seqs (k : Nat) (g : Row → Row) : (s.modRow k g).seqs = s.seqs := by simp only [State.modRow, State.setRow_seqs]
@[simp] theorem State.modRow_pages (k : Nat) (g : Row → Row) : (s.modRow k g).pages = s.pages := by simp only [State.modRow, State.setRow_pages]
@[simp] theorem State.modRow_nextPage (k : Nat) (g : Row → Row) : (s.modRow k g).nextPage = s.nextPage := by simp only [State.modRow, State.setRow_nextPage]
@[simp] theorem State.modRow_rolls (k : Nat) (g : Row → Row) : (s.modRow k g).rolls = s.rolls := by simp only [State.modRow, State.setRow_rolls]
@[simp] theorem State.modRow_paces (k : Nat) (g : Row → Row) : (s.modRow k g).paces = s.paces := by simp only [State.modRow, State.setRow_paces]
@[simp] theorem State.modRow_sched (k : Nat) (g : Row → Row) : (s.modRow k g).sched = s.sched := by simp only [State.modRow, State.setRow_sched]
@[simp] theorem State.modRow_adapters (k : Nat) (g : Row → Row) : (s.modRow k g).adapters = s.adapters := by simp only [State.modRow, State.setRow_adapters]
@[simp] theorem State.modRow_tunes (k : Nat) (g : Row → Row) : (s.modRow k g).tunes = s.tunes := by simp only [State.modRow, State.setRow_tunes]
@[simp] theorem State.modRow_cart (k : Nat) (g : Row → Row) : (s.modRow k g).cart = s.cart := by simp only [State.modRow, State.setRow_cart]
@[simp] theorem State.modRow_mem (k : Nat) (g : Row → Row) : (s.modRow k g).mem = s.mem := by simp only [State.modRow, State.setRow_mem]
@[simp] theorem State.modRow_charter (k : Nat) (g : Row → Row) : (s.modRow k g).charter = s.charter := by simp only [State.modRow, State.setRow_charter]
@[simp] theorem State.modRow_funcs (k : Nat) (g : Row → Row) : (s.modRow k g).funcs = s.funcs := by simp only [State.modRow, State.setRow_funcs]
@[simp] theorem State.modRow_clerks (k : Nat) (g : Row → Row) : (s.modRow k g).clerks = s.clerks := by simp only [State.modRow, State.setRow_clerks]
@[simp] theorem State.modRow_pendAt (k : Nat) (g : Row → Row) : (s.modRow k g).pendAt = s.pendAt := by simp only [State.modRow, State.setRow_pendAt]
@[simp] theorem State.modRow_modeCtl (k : Nat) (g : Row → Row) : (s.modRow k g).modeCtl = s.modeCtl := by simp only [State.modRow, State.setRow_modeCtl]
@[simp] theorem State.modRow_sleep (k : Nat) (g : Row → Row) : (s.modRow k g).sleep = s.sleep := by simp only [State.modRow, State.setRow_sleep]
@[simp] theorem State.modRow_gatedAt (k : Nat) (g : Row → Row) : (s.modRow k g).gatedAt = s.gatedAt := by simp only [State.modRow, State.setRow_gatedAt]
@[simp] theorem State.modRow_wakeAt (k : Nat) (g : Row → Row) : (s.modRow k g).wakeAt = s.wakeAt := by simp only [State.modRow, State.setRow_wakeAt]
@[simp] theorem State.modRow_port0 (k : Nat) (g : Row → Row) : (s.modRow k g).port0 = s.port0 := by simp only [State.modRow, State.setRow_port0]
@[simp] theorem State.modRow_warden (k : Nat) (g : Row → Row) : (s.modRow k g).warden = s.warden := by simp only [State.modRow, State.setRow_warden]
@[simp] theorem State.modRow_boot (k : Nat) (g : Row → Row) : (s.modRow k g).boot = s.boot := by simp only [State.modRow, State.setRow_boot]
@[simp] theorem State.modRow_cal (k : Nat) (g : Row → Row) : (s.modRow k g).cal = s.cal := by simp only [State.modRow, State.setRow_cal]
@[simp] theorem State.modRow_sec (k : Nat) (g : Row → Row) : (s.modRow k g).sec = s.sec := by simp only [State.modRow, State.setRow_sec]
@[simp] theorem State.modRow_duty (k : Nat) (g : Row → Row) : (s.modRow k g).duty = s.duty := by simp only [State.modRow, State.setRow_duty]
@[simp] theorem State.modRow_level (k : Nat) (g : Row → Row) : (s.modRow k g).level = s.level := by simp only [State.modRow, State.setRow_level]
@[simp] theorem State.rd_modRow (k : Nat) (g : Row → Row) (F : RField) (j : Nat) : (s.modRow k g).rd F j = s.rd F j := State.rd_of_regs (by simp) F j
@[simp] theorem State.on_modRow (k : Nat) (g : Row → Row) (F : RField) (j : Nat) : (s.modRow k g).on F j = s.on F j := State.on_of_regs (by simp) F j
@[simp] theorem State.getReg_modRow (k : Nat) (g : Row → Row) (q : Reg) (j : Nat) : (s.modRow k g).getReg q j = s.getReg q j := State.getReg_of_regs (by simp) q j
@[simp] theorem State.modSlot_pending (k : Nat) (g : ModelSlot → ModelSlot) : (s.modSlot k g).pending = s.pending := by simp only [State.modSlot, State.setSlot_pending]
@[simp] theorem State.modSlot_now (k : Nat) (g : ModelSlot → ModelSlot) : (s.modSlot k g).now = s.now := by simp only [State.modSlot, State.setSlot_now]
@[simp] theorem State.modSlot_free (k : Nat) (g : ModelSlot → ModelSlot) : (s.modSlot k g).free = s.free := by simp only [State.modSlot, State.setSlot_free]
@[simp] theorem State.modSlot_regs (k : Nat) (g : ModelSlot → ModelSlot) : (s.modSlot k g).regs = s.regs := by simp only [State.modSlot, State.setSlot_regs]
@[simp] theorem State.modSlot_halves (k : Nat) (g : ModelSlot → ModelSlot) : (s.modSlot k g).halves = s.halves := by simp only [State.modSlot, State.setSlot_halves]
@[simp] theorem State.modSlot_outbox (k : Nat) (g : ModelSlot → ModelSlot) : (s.modSlot k g).outbox = s.outbox := by simp only [State.modSlot, State.setSlot_outbox]
@[simp] theorem State.modSlot_stalls (k : Nat) (g : ModelSlot → ModelSlot) : (s.modSlot k g).stalls = s.stalls := by simp only [State.modSlot, State.setSlot_stalls]
@[simp] theorem State.modSlot_groups (k : Nat) (g : ModelSlot → ModelSlot) : (s.modSlot k g).groups = s.groups := by simp only [State.modSlot, State.setSlot_groups]
@[simp] theorem State.modSlot_rows (k : Nat) (g : ModelSlot → ModelSlot) : (s.modSlot k g).rows = s.rows := by simp only [State.modSlot, State.setSlot_rows]
@[simp] theorem State.modSlot_jobs (k : Nat) (g : ModelSlot → ModelSlot) : (s.modSlot k g).jobs = s.jobs := by simp only [State.modSlot, State.setSlot_jobs]
@[simp] theorem State.modSlot_nextJob (k : Nat) (g : ModelSlot → ModelSlot) : (s.modSlot k g).nextJob = s.nextJob := by simp only [State.modSlot, State.setSlot_nextJob]
@[simp] theorem State.modSlot_cperLost (k : Nat) (g : ModelSlot → ModelSlot) : (s.modSlot k g).cperLost = s.cperLost := by simp only [State.modSlot, State.setSlot_cperLost]
@[simp] theorem State.modSlot_journal (k : Nat) (g : ModelSlot → ModelSlot) : (s.modSlot k g).journal = s.journal := by simp only [State.modSlot, State.setSlot_journal]
@[simp] theorem State.modSlot_digests (k : Nat) (g : ModelSlot → ModelSlot) : (s.modSlot k g).digests = s.digests := by simp only [State.modSlot, State.setSlot_digests]
@[simp] theorem State.modSlot_restocked (k : Nat) (g : ModelSlot → ModelSlot) : (s.modSlot k g).restocked = s.restocked := by simp only [State.modSlot, State.setSlot_restocked]
@[simp] theorem State.modSlot_images (k : Nat) (g : ModelSlot → ModelSlot) : (s.modSlot k g).images = s.images := by simp only [State.modSlot, State.setSlot_images]
@[simp] theorem State.modSlot_stock (k : Nat) (g : ModelSlot → ModelSlot) : (s.modSlot k g).stock = s.stock := by simp only [State.modSlot, State.setSlot_stock]
@[simp] theorem State.modSlot_working (k : Nat) (g : ModelSlot → ModelSlot) : (s.modSlot k g).working = s.working := by simp only [State.modSlot, State.setSlot_working]
@[simp] theorem State.modSlot_scrub (k : Nat) (g : ModelSlot → ModelSlot) : (s.modSlot k g).scrub = s.scrub := by simp only [State.modSlot, State.setSlot_scrub]
@[simp] theorem State.modSlot_seqs (k : Nat) (g : ModelSlot → ModelSlot) : (s.modSlot k g).seqs = s.seqs := by simp only [State.modSlot, State.setSlot_seqs]
@[simp] theorem State.modSlot_pages (k : Nat) (g : ModelSlot → ModelSlot) : (s.modSlot k g).pages = s.pages := by simp only [State.modSlot, State.setSlot_pages]
@[simp] theorem State.modSlot_nextPage (k : Nat) (g : ModelSlot → ModelSlot) : (s.modSlot k g).nextPage = s.nextPage := by simp only [State.modSlot, State.setSlot_nextPage]
@[simp] theorem State.modSlot_rolls (k : Nat) (g : ModelSlot → ModelSlot) : (s.modSlot k g).rolls = s.rolls := by simp only [State.modSlot, State.setSlot_rolls]
@[simp] theorem State.modSlot_paces (k : Nat) (g : ModelSlot → ModelSlot) : (s.modSlot k g).paces = s.paces := by simp only [State.modSlot, State.setSlot_paces]
@[simp] theorem State.modSlot_sched (k : Nat) (g : ModelSlot → ModelSlot) : (s.modSlot k g).sched = s.sched := by simp only [State.modSlot, State.setSlot_sched]
@[simp] theorem State.modSlot_adapters (k : Nat) (g : ModelSlot → ModelSlot) : (s.modSlot k g).adapters = s.adapters := by simp only [State.modSlot, State.setSlot_adapters]
@[simp] theorem State.modSlot_tunes (k : Nat) (g : ModelSlot → ModelSlot) : (s.modSlot k g).tunes = s.tunes := by simp only [State.modSlot, State.setSlot_tunes]
@[simp] theorem State.modSlot_cart (k : Nat) (g : ModelSlot → ModelSlot) : (s.modSlot k g).cart = s.cart := by simp only [State.modSlot, State.setSlot_cart]
@[simp] theorem State.modSlot_mem (k : Nat) (g : ModelSlot → ModelSlot) : (s.modSlot k g).mem = s.mem := by simp only [State.modSlot, State.setSlot_mem]
@[simp] theorem State.modSlot_charter (k : Nat) (g : ModelSlot → ModelSlot) : (s.modSlot k g).charter = s.charter := by simp only [State.modSlot, State.setSlot_charter]
@[simp] theorem State.modSlot_funcs (k : Nat) (g : ModelSlot → ModelSlot) : (s.modSlot k g).funcs = s.funcs := by simp only [State.modSlot, State.setSlot_funcs]
@[simp] theorem State.modSlot_clerks (k : Nat) (g : ModelSlot → ModelSlot) : (s.modSlot k g).clerks = s.clerks := by simp only [State.modSlot, State.setSlot_clerks]
@[simp] theorem State.modSlot_pendAt (k : Nat) (g : ModelSlot → ModelSlot) : (s.modSlot k g).pendAt = s.pendAt := by simp only [State.modSlot, State.setSlot_pendAt]
@[simp] theorem State.modSlot_modeCtl (k : Nat) (g : ModelSlot → ModelSlot) : (s.modSlot k g).modeCtl = s.modeCtl := by simp only [State.modSlot, State.setSlot_modeCtl]
@[simp] theorem State.modSlot_sleep (k : Nat) (g : ModelSlot → ModelSlot) : (s.modSlot k g).sleep = s.sleep := by simp only [State.modSlot, State.setSlot_sleep]
@[simp] theorem State.modSlot_gatedAt (k : Nat) (g : ModelSlot → ModelSlot) : (s.modSlot k g).gatedAt = s.gatedAt := by simp only [State.modSlot, State.setSlot_gatedAt]
@[simp] theorem State.modSlot_wakeAt (k : Nat) (g : ModelSlot → ModelSlot) : (s.modSlot k g).wakeAt = s.wakeAt := by simp only [State.modSlot, State.setSlot_wakeAt]
@[simp] theorem State.modSlot_port0 (k : Nat) (g : ModelSlot → ModelSlot) : (s.modSlot k g).port0 = s.port0 := by simp only [State.modSlot, State.setSlot_port0]
@[simp] theorem State.modSlot_warden (k : Nat) (g : ModelSlot → ModelSlot) : (s.modSlot k g).warden = s.warden := by simp only [State.modSlot, State.setSlot_warden]
@[simp] theorem State.modSlot_boot (k : Nat) (g : ModelSlot → ModelSlot) : (s.modSlot k g).boot = s.boot := by simp only [State.modSlot, State.setSlot_boot]
@[simp] theorem State.modSlot_cal (k : Nat) (g : ModelSlot → ModelSlot) : (s.modSlot k g).cal = s.cal := by simp only [State.modSlot, State.setSlot_cal]
@[simp] theorem State.modSlot_sec (k : Nat) (g : ModelSlot → ModelSlot) : (s.modSlot k g).sec = s.sec := by simp only [State.modSlot, State.setSlot_sec]
@[simp] theorem State.modSlot_duty (k : Nat) (g : ModelSlot → ModelSlot) : (s.modSlot k g).duty = s.duty := by simp only [State.modSlot, State.setSlot_duty]
@[simp] theorem State.modSlot_level (k : Nat) (g : ModelSlot → ModelSlot) : (s.modSlot k g).level = s.level := by simp only [State.modSlot, State.setSlot_level]
@[simp] theorem State.rd_modSlot (k : Nat) (g : ModelSlot → ModelSlot) (F : RField) (j : Nat) : (s.modSlot k g).rd F j = s.rd F j := State.rd_of_regs (by simp) F j
@[simp] theorem State.on_modSlot (k : Nat) (g : ModelSlot → ModelSlot) (F : RField) (j : Nat) : (s.modSlot k g).on F j = s.on F j := State.on_of_regs (by simp) F j
@[simp] theorem State.getReg_modSlot (k : Nat) (g : ModelSlot → ModelSlot) (q : Reg) (j : Nat) : (s.modSlot k g).getReg q j = s.getReg q j := State.getReg_of_regs (by simp) q j
@[simp] theorem State.modFunc_pending (k : Nat) (g : Func → Func) : (s.modFunc k g).pending = s.pending := by simp only [State.modFunc, State.setFunc_pending]
@[simp] theorem State.modFunc_now (k : Nat) (g : Func → Func) : (s.modFunc k g).now = s.now := by simp only [State.modFunc, State.setFunc_now]
@[simp] theorem State.modFunc_free (k : Nat) (g : Func → Func) : (s.modFunc k g).free = s.free := by simp only [State.modFunc, State.setFunc_free]
@[simp] theorem State.modFunc_regs (k : Nat) (g : Func → Func) : (s.modFunc k g).regs = s.regs := by simp only [State.modFunc, State.setFunc_regs]
@[simp] theorem State.modFunc_halves (k : Nat) (g : Func → Func) : (s.modFunc k g).halves = s.halves := by simp only [State.modFunc, State.setFunc_halves]
@[simp] theorem State.modFunc_outbox (k : Nat) (g : Func → Func) : (s.modFunc k g).outbox = s.outbox := by simp only [State.modFunc, State.setFunc_outbox]
@[simp] theorem State.modFunc_stalls (k : Nat) (g : Func → Func) : (s.modFunc k g).stalls = s.stalls := by simp only [State.modFunc, State.setFunc_stalls]
@[simp] theorem State.modFunc_groups (k : Nat) (g : Func → Func) : (s.modFunc k g).groups = s.groups := by simp only [State.modFunc, State.setFunc_groups]
@[simp] theorem State.modFunc_rows (k : Nat) (g : Func → Func) : (s.modFunc k g).rows = s.rows := by simp only [State.modFunc, State.setFunc_rows]
@[simp] theorem State.modFunc_jobs (k : Nat) (g : Func → Func) : (s.modFunc k g).jobs = s.jobs := by simp only [State.modFunc, State.setFunc_jobs]
@[simp] theorem State.modFunc_nextJob (k : Nat) (g : Func → Func) : (s.modFunc k g).nextJob = s.nextJob := by simp only [State.modFunc, State.setFunc_nextJob]
@[simp] theorem State.modFunc_cperLost (k : Nat) (g : Func → Func) : (s.modFunc k g).cperLost = s.cperLost := by simp only [State.modFunc, State.setFunc_cperLost]
@[simp] theorem State.modFunc_journal (k : Nat) (g : Func → Func) : (s.modFunc k g).journal = s.journal := by simp only [State.modFunc, State.setFunc_journal]
@[simp] theorem State.modFunc_digests (k : Nat) (g : Func → Func) : (s.modFunc k g).digests = s.digests := by simp only [State.modFunc, State.setFunc_digests]
@[simp] theorem State.modFunc_restocked (k : Nat) (g : Func → Func) : (s.modFunc k g).restocked = s.restocked := by simp only [State.modFunc, State.setFunc_restocked]
@[simp] theorem State.modFunc_images (k : Nat) (g : Func → Func) : (s.modFunc k g).images = s.images := by simp only [State.modFunc, State.setFunc_images]
@[simp] theorem State.modFunc_stock (k : Nat) (g : Func → Func) : (s.modFunc k g).stock = s.stock := by simp only [State.modFunc, State.setFunc_stock]
@[simp] theorem State.modFunc_working (k : Nat) (g : Func → Func) : (s.modFunc k g).working = s.working := by simp only [State.modFunc, State.setFunc_working]
@[simp] theorem State.modFunc_scrub (k : Nat) (g : Func → Func) : (s.modFunc k g).scrub = s.scrub := by simp only [State.modFunc, State.setFunc_scrub]
@[simp] theorem State.modFunc_slots (k : Nat) (g : Func → Func) : (s.modFunc k g).slots = s.slots := by simp only [State.modFunc, State.setFunc_slots]
@[simp] theorem State.modFunc_seqs (k : Nat) (g : Func → Func) : (s.modFunc k g).seqs = s.seqs := by simp only [State.modFunc, State.setFunc_seqs]
@[simp] theorem State.modFunc_pages (k : Nat) (g : Func → Func) : (s.modFunc k g).pages = s.pages := by simp only [State.modFunc, State.setFunc_pages]
@[simp] theorem State.modFunc_nextPage (k : Nat) (g : Func → Func) : (s.modFunc k g).nextPage = s.nextPage := by simp only [State.modFunc, State.setFunc_nextPage]
@[simp] theorem State.modFunc_rolls (k : Nat) (g : Func → Func) : (s.modFunc k g).rolls = s.rolls := by simp only [State.modFunc, State.setFunc_rolls]
@[simp] theorem State.modFunc_paces (k : Nat) (g : Func → Func) : (s.modFunc k g).paces = s.paces := by simp only [State.modFunc, State.setFunc_paces]
@[simp] theorem State.modFunc_sched (k : Nat) (g : Func → Func) : (s.modFunc k g).sched = s.sched := by simp only [State.modFunc, State.setFunc_sched]
@[simp] theorem State.modFunc_adapters (k : Nat) (g : Func → Func) : (s.modFunc k g).adapters = s.adapters := by simp only [State.modFunc, State.setFunc_adapters]
@[simp] theorem State.modFunc_tunes (k : Nat) (g : Func → Func) : (s.modFunc k g).tunes = s.tunes := by simp only [State.modFunc, State.setFunc_tunes]
@[simp] theorem State.modFunc_cart (k : Nat) (g : Func → Func) : (s.modFunc k g).cart = s.cart := by simp only [State.modFunc, State.setFunc_cart]
@[simp] theorem State.modFunc_mem (k : Nat) (g : Func → Func) : (s.modFunc k g).mem = s.mem := by simp only [State.modFunc, State.setFunc_mem]
@[simp] theorem State.modFunc_charter (k : Nat) (g : Func → Func) : (s.modFunc k g).charter = s.charter := by simp only [State.modFunc, State.setFunc_charter]
@[simp] theorem State.modFunc_clerks (k : Nat) (g : Func → Func) : (s.modFunc k g).clerks = s.clerks := by simp only [State.modFunc, State.setFunc_clerks]
@[simp] theorem State.modFunc_pendAt (k : Nat) (g : Func → Func) : (s.modFunc k g).pendAt = s.pendAt := by simp only [State.modFunc, State.setFunc_pendAt]
@[simp] theorem State.modFunc_modeCtl (k : Nat) (g : Func → Func) : (s.modFunc k g).modeCtl = s.modeCtl := by simp only [State.modFunc, State.setFunc_modeCtl]
@[simp] theorem State.modFunc_sleep (k : Nat) (g : Func → Func) : (s.modFunc k g).sleep = s.sleep := by simp only [State.modFunc, State.setFunc_sleep]
@[simp] theorem State.modFunc_gatedAt (k : Nat) (g : Func → Func) : (s.modFunc k g).gatedAt = s.gatedAt := by simp only [State.modFunc, State.setFunc_gatedAt]
@[simp] theorem State.modFunc_wakeAt (k : Nat) (g : Func → Func) : (s.modFunc k g).wakeAt = s.wakeAt := by simp only [State.modFunc, State.setFunc_wakeAt]
@[simp] theorem State.modFunc_port0 (k : Nat) (g : Func → Func) : (s.modFunc k g).port0 = s.port0 := by simp only [State.modFunc, State.setFunc_port0]
@[simp] theorem State.modFunc_warden (k : Nat) (g : Func → Func) : (s.modFunc k g).warden = s.warden := by simp only [State.modFunc, State.setFunc_warden]
@[simp] theorem State.modFunc_boot (k : Nat) (g : Func → Func) : (s.modFunc k g).boot = s.boot := by simp only [State.modFunc, State.setFunc_boot]
@[simp] theorem State.modFunc_cal (k : Nat) (g : Func → Func) : (s.modFunc k g).cal = s.cal := by simp only [State.modFunc, State.setFunc_cal]
@[simp] theorem State.modFunc_sec (k : Nat) (g : Func → Func) : (s.modFunc k g).sec = s.sec := by simp only [State.modFunc, State.setFunc_sec]
@[simp] theorem State.modFunc_duty (k : Nat) (g : Func → Func) : (s.modFunc k g).duty = s.duty := by simp only [State.modFunc, State.setFunc_duty]
@[simp] theorem State.modFunc_level (k : Nat) (g : Func → Func) : (s.modFunc k g).level = s.level := by simp only [State.modFunc, State.setFunc_level]
@[simp] theorem State.rd_modFunc (k : Nat) (g : Func → Func) (F : RField) (j : Nat) : (s.modFunc k g).rd F j = s.rd F j := State.rd_of_regs (by simp) F j
@[simp] theorem State.on_modFunc (k : Nat) (g : Func → Func) (F : RField) (j : Nat) : (s.modFunc k g).on F j = s.on F j := State.on_of_regs (by simp) F j
@[simp] theorem State.getReg_modFunc (k : Nat) (g : Func → Func) (q : Reg) (j : Nat) : (s.modFunc k g).getReg q j = s.getReg q j := State.getReg_of_regs (by simp) q j

/-! ### Waking a stall, row or quarter -/

/-- A state with the sleep bookkeeping and the register file of another. -/
def State.asleepAs (t s : State) : State :=
  { t with regs := s.regs, sleep := s.sleep, gatedAt := s.gatedAt, wakeAt := s.wakeAt, boot := s.boot }

theorem State.asleepAs_asleepAs (u t s : State) : (u.asleepAs t).asleepAs s = u.asleepAs s := rfl

/-- Waking changes the sleep bookkeeping, the wake counter, the states of stalls, stacks and weigh houses: what stays. -/
structure Woken (s t : State) : Prop where
  reg : ∀ q j, q.other STL_STAT.STATE.reg = true → q.other WDN_WAKE_CNT.V.reg = true → q.other MEM_UNIT_STAT.STATE.reg = true →
    q.other MEM_STAT.T1_UP.reg = true → q.other WH_STAT.STATE.reg = true → t.getReg q j = s.getReg q j
  rest : t.asleepAs s = s

theorem Woken.refl (s : State) : Woken s s := ⟨fun _ _ _ _ _ _ _ => rfl, rfl⟩

theorem Woken.trans {s t u : State} (h : Woken s t) (k : Woken t u) : Woken s u where
  reg q j a b c d e := (k.reg q j a b c d e).trans (h.reg q j a b c d e)
  rest := by rw [← State.asleepAs_asleepAs u t s, k.rest, h.rest]

theorem Woken.wr {s : State} {f : RField} (i v : Nat)
    (h : (decide (f.reg = STL_STAT.STATE.reg) || decide (f.reg = WDN_WAKE_CNT.V.reg) || decide (f.reg = MEM_UNIT_STAT.STATE.reg) || decide (f.reg = MEM_STAT.T1_UP.reg) || decide (f.reg = WH_STAT.STATE.reg)) = true) :
    Woken s (s.wr f i v) := by
  refine ⟨fun q j a b c d e => s.getReg_wr_other ?_ i j v, rfl⟩
  simp only [Bool.or_eq_true, decide_eq_true_eq] at h
  rcases h with (((h | h) | h) | h) | h <;> rw [h] <;> assumption

theorem Woken.bump {s : State} {f : RField} (i n : Nat)
    (h : (decide (f.reg = STL_STAT.STATE.reg) || decide (f.reg = WDN_WAKE_CNT.V.reg) || decide (f.reg = MEM_UNIT_STAT.STATE.reg) || decide (f.reg = MEM_STAT.T1_UP.reg) || decide (f.reg = WH_STAT.STATE.reg)) = true) :
    Woken s (s.bump f i n) := Woken.wr _ _ h

/-- Whatever a state keeps apart from its register file and sleep bookkeeping stays. -/
theorem Woken.keep {α : Type} {s t : State} (h : Woken s t) (f : State → α) (hf : ∀ u v, f (State.asleepAs u v) = f u) : f t = f s :=
  (hf t s).symm.trans (congrArg f h.rest)

/-- A change of the sleep bookkeeping alone. -/
theorem Woken.other {s t : State} (h : t.regs = s.regs) (hr : t.asleepAs s = s) : Woken s t :=
  ⟨fun q j _ _ _ _ _ => State.getReg_of_regs h q j, hr⟩

theorem Woken.wakeUnit (s : State) (u : Nat) : Woken s (s.wakeUnit u) := by
  unfold State.wakeUnit; dsimp only; split
  · refine Woken.trans ?_ (Woken.bump (f := WDN_WAKE_CNT.V) 0 1 (by decide))
    exact Woken.other rfl rfl
  · exact Woken.refl s

theorem Woken.fold {α : Type} {f : State → α → State} (hf : ∀ s a, Woken s (f s a)) (l : List α) (s : State) : Woken s (l.foldl f s) := by
  induction l generalizing s with
  | nil => exact Woken.refl s
  | cons a l ih => exact (hf s a).trans (ih _)

theorem Woken.setMemUnit (s : State) (u st : Nat) : Woken s (s.setMemUnit u st) := by
  unfold State.setMemUnit; dsimp only
  refine (Woken.wr _ _ (by rfl)).trans (Woken.wr _ _ ?_)
  split <;> rfl

theorem Woken.stacksUp (s : State) (q : Nat) : Woken s (s.stacksUp q) := by
  unfold State.stacksUp
  refine Woken.fold (fun s a => ?_) _ _
  split
  · exact Woken.setMemUnit _ _ _
  · exact Woken.refl _

theorem Woken.setHouses (s : State) (q a b : Nat) : Woken s (s.setHouses q a b) := by
  unfold State.setHouses
  refine Woken.fold (fun s a => ?_) _ _
  split
  · exact Woken.wr _ _ (by rfl)
  · exact Woken.refl _

theorem Woken.unitRuns (s : State) (u : Nat) : Woken s (s.unitRuns u) := by
  unfold State.unitRuns; dsimp only; split
  · split
    · exact ((Woken.stacksUp s _).trans (Woken.setHouses _ _ _ _)).trans (Woken.other rfl rfl)
    · exact Woken.other rfl rfl
  · exact Woken.refl s

theorem Woken.wakeRowReq (s : State) (r : Nat) : Woken s (s.wakeRowReq r) := (Woken.wakeUnit s _).trans (Woken.wakeUnit _ _)

theorem Woken.wakeStallReq (s : State) (sid : Nat) : Woken s (s.wakeStallReq sid) := by
  unfold State.wakeStallReq; dsimp only; split
  · refine Woken.trans ?_ (Woken.wakeRowReq _ _)
    refine Woken.trans ?_ (Woken.bump (f := WDN_WAKE_CNT.V) _ _ (by decide))
    refine Woken.trans ?_ (Woken.wr (f := STL_STAT.STATE) sid stWaking (by decide))
    exact Woken.other rfl rfl
  · exact Woken.wakeRowReq s _

theorem Woken.stallRuns (s : State) (sid : Nat) : Woken s (s.stallRuns sid) := by
  unfold State.stallRuns; split
  · refine Woken.trans (t := s.wr STL_STAT.STATE sid (s.serveState sid)) (Woken.wr _ _ (by rfl)) (Woken.other rfl rfl)
  · exact Woken.refl s

theorem Woken.wakeStall (s : State) (sid : Nat) : Woken s (s.wakeStall sid) := by
  unfold State.wakeStall; split
  · exact (((Woken.wakeStallReq s _).trans (Woken.stallRuns _ _)).trans (Woken.unitRuns _ _)).trans (Woken.unitRuns _ _)
  · exact Woken.refl s

theorem Woken.wakeRow (s : State) (row : Nat) : Woken s (s.wakeRow row) := by
  unfold State.wakeRow; split
  · exact Woken.refl s
  · exact ((Woken.wakeRowReq s _).trans (Woken.unitRuns _ _)).trans (Woken.unitRuns _ _)

theorem Woken.rd {s t : State} (h : Woken s t) {F : RField}
    (hF : (F.reg.other STL_STAT.STATE.reg && F.reg.other WDN_WAKE_CNT.V.reg && F.reg.other MEM_UNIT_STAT.STATE.reg && F.reg.other MEM_STAT.T1_UP.reg && F.reg.other WH_STAT.STATE.reg) = true)
    (j : Nat) : t.rd F j = s.rd F j := by
  simp only [Bool.and_eq_true] at hF
  obtain ⟨⟨⟨⟨a, b⟩, c⟩, d⟩, e⟩ := hF
  simp only [State.rd, h.reg _ j a b c d e]
@[simp] theorem State.wakeStall_pending (sid : Nat) : (s.wakeStall sid).pending = s.pending := (Woken.wakeStall s sid).keep State.pending fun _ _ => rfl
@[simp] theorem State.wakeStall_now (sid : Nat) : (s.wakeStall sid).now = s.now := (Woken.wakeStall s sid).keep State.now fun _ _ => rfl
@[simp] theorem State.wakeStall_free (sid : Nat) : (s.wakeStall sid).free = s.free := (Woken.wakeStall s sid).keep State.free fun _ _ => rfl
@[simp] theorem State.wakeStall_halves (sid : Nat) : (s.wakeStall sid).halves = s.halves := (Woken.wakeStall s sid).keep State.halves fun _ _ => rfl
@[simp] theorem State.wakeStall_outbox (sid : Nat) : (s.wakeStall sid).outbox = s.outbox := (Woken.wakeStall s sid).keep State.outbox fun _ _ => rfl
@[simp] theorem State.wakeStall_stalls (sid : Nat) : (s.wakeStall sid).stalls = s.stalls := (Woken.wakeStall s sid).keep State.stalls fun _ _ => rfl
@[simp] theorem State.wakeStall_groups (sid : Nat) : (s.wakeStall sid).groups = s.groups := (Woken.wakeStall s sid).keep State.groups fun _ _ => rfl
@[simp] theorem State.wakeStall_rows (sid : Nat) : (s.wakeStall sid).rows = s.rows := (Woken.wakeStall s sid).keep State.rows fun _ _ => rfl
@[simp] theorem State.wakeStall_jobs (sid : Nat) : (s.wakeStall sid).jobs = s.jobs := (Woken.wakeStall s sid).keep State.jobs fun _ _ => rfl
@[simp] theorem State.wakeStall_nextJob (sid : Nat) : (s.wakeStall sid).nextJob = s.nextJob := (Woken.wakeStall s sid).keep State.nextJob fun _ _ => rfl
@[simp] theorem State.wakeStall_cperLost (sid : Nat) : (s.wakeStall sid).cperLost = s.cperLost := (Woken.wakeStall s sid).keep State.cperLost fun _ _ => rfl
@[simp] theorem State.wakeStall_journal (sid : Nat) : (s.wakeStall sid).journal = s.journal := (Woken.wakeStall s sid).keep State.journal fun _ _ => rfl
@[simp] theorem State.wakeStall_digests (sid : Nat) : (s.wakeStall sid).digests = s.digests := (Woken.wakeStall s sid).keep State.digests fun _ _ => rfl
@[simp] theorem State.wakeStall_restocked (sid : Nat) : (s.wakeStall sid).restocked = s.restocked := (Woken.wakeStall s sid).keep State.restocked fun _ _ => rfl
@[simp] theorem State.wakeStall_images (sid : Nat) : (s.wakeStall sid).images = s.images := (Woken.wakeStall s sid).keep State.images fun _ _ => rfl
@[simp] theorem State.wakeStall_stock (sid : Nat) : (s.wakeStall sid).stock = s.stock := (Woken.wakeStall s sid).keep State.stock fun _ _ => rfl
@[simp] theorem State.wakeStall_working (sid : Nat) : (s.wakeStall sid).working = s.working := (Woken.wakeStall s sid).keep State.working fun _ _ => rfl
@[simp] theorem State.wakeStall_scrub (sid : Nat) : (s.wakeStall sid).scrub = s.scrub := (Woken.wakeStall s sid).keep State.scrub fun _ _ => rfl
@[simp] theorem State.wakeStall_slots (sid : Nat) : (s.wakeStall sid).slots = s.slots := (Woken.wakeStall s sid).keep State.slots fun _ _ => rfl
@[simp] theorem State.wakeStall_seqs (sid : Nat) : (s.wakeStall sid).seqs = s.seqs := (Woken.wakeStall s sid).keep State.seqs fun _ _ => rfl
@[simp] theorem State.wakeStall_pages (sid : Nat) : (s.wakeStall sid).pages = s.pages := (Woken.wakeStall s sid).keep State.pages fun _ _ => rfl
@[simp] theorem State.wakeStall_nextPage (sid : Nat) : (s.wakeStall sid).nextPage = s.nextPage := (Woken.wakeStall s sid).keep State.nextPage fun _ _ => rfl
@[simp] theorem State.wakeStall_rolls (sid : Nat) : (s.wakeStall sid).rolls = s.rolls := (Woken.wakeStall s sid).keep State.rolls fun _ _ => rfl
@[simp] theorem State.wakeStall_paces (sid : Nat) : (s.wakeStall sid).paces = s.paces := (Woken.wakeStall s sid).keep State.paces fun _ _ => rfl
@[simp] theorem State.wakeStall_sched (sid : Nat) : (s.wakeStall sid).sched = s.sched := (Woken.wakeStall s sid).keep State.sched fun _ _ => rfl
@[simp] theorem State.wakeStall_adapters (sid : Nat) : (s.wakeStall sid).adapters = s.adapters := (Woken.wakeStall s sid).keep State.adapters fun _ _ => rfl
@[simp] theorem State.wakeStall_tunes (sid : Nat) : (s.wakeStall sid).tunes = s.tunes := (Woken.wakeStall s sid).keep State.tunes fun _ _ => rfl
@[simp] theorem State.wakeStall_cart (sid : Nat) : (s.wakeStall sid).cart = s.cart := (Woken.wakeStall s sid).keep State.cart fun _ _ => rfl
@[simp] theorem State.wakeStall_mem (sid : Nat) : (s.wakeStall sid).mem = s.mem := (Woken.wakeStall s sid).keep State.mem fun _ _ => rfl
@[simp] theorem State.wakeStall_charter (sid : Nat) : (s.wakeStall sid).charter = s.charter := (Woken.wakeStall s sid).keep State.charter fun _ _ => rfl
@[simp] theorem State.wakeStall_funcs (sid : Nat) : (s.wakeStall sid).funcs = s.funcs := (Woken.wakeStall s sid).keep State.funcs fun _ _ => rfl
@[simp] theorem State.wakeStall_clerks (sid : Nat) : (s.wakeStall sid).clerks = s.clerks := (Woken.wakeStall s sid).keep State.clerks fun _ _ => rfl
@[simp] theorem State.wakeStall_pendAt (sid : Nat) : (s.wakeStall sid).pendAt = s.pendAt := (Woken.wakeStall s sid).keep State.pendAt fun _ _ => rfl
@[simp] theorem State.wakeStall_modeCtl (sid : Nat) : (s.wakeStall sid).modeCtl = s.modeCtl := (Woken.wakeStall s sid).keep State.modeCtl fun _ _ => rfl
@[simp] theorem State.wakeStall_port0 (sid : Nat) : (s.wakeStall sid).port0 = s.port0 := (Woken.wakeStall s sid).keep State.port0 fun _ _ => rfl
@[simp] theorem State.wakeStall_warden (sid : Nat) : (s.wakeStall sid).warden = s.warden := (Woken.wakeStall s sid).keep State.warden fun _ _ => rfl
@[simp] theorem State.wakeStall_cal (sid : Nat) : (s.wakeStall sid).cal = s.cal := (Woken.wakeStall s sid).keep State.cal fun _ _ => rfl
@[simp] theorem State.wakeStall_sec (sid : Nat) : (s.wakeStall sid).sec = s.sec := (Woken.wakeStall s sid).keep State.sec fun _ _ => rfl
@[simp] theorem State.wakeStall_duty (sid : Nat) : (s.wakeStall sid).duty = s.duty := (Woken.wakeStall s sid).keep State.duty fun _ _ => rfl
@[simp] theorem State.wakeStall_level (sid : Nat) : (s.wakeStall sid).level = s.level := (Woken.wakeStall s sid).keep State.level fun _ _ => rfl
@[simp] theorem State.wakeRow_pending (row : Nat) : (s.wakeRow row).pending = s.pending := (Woken.wakeRow s row).keep State.pending fun _ _ => rfl
@[simp] theorem State.wakeRow_now (row : Nat) : (s.wakeRow row).now = s.now := (Woken.wakeRow s row).keep State.now fun _ _ => rfl
@[simp] theorem State.wakeRow_free (row : Nat) : (s.wakeRow row).free = s.free := (Woken.wakeRow s row).keep State.free fun _ _ => rfl
@[simp] theorem State.wakeRow_halves (row : Nat) : (s.wakeRow row).halves = s.halves := (Woken.wakeRow s row).keep State.halves fun _ _ => rfl
@[simp] theorem State.wakeRow_outbox (row : Nat) : (s.wakeRow row).outbox = s.outbox := (Woken.wakeRow s row).keep State.outbox fun _ _ => rfl
@[simp] theorem State.wakeRow_stalls (row : Nat) : (s.wakeRow row).stalls = s.stalls := (Woken.wakeRow s row).keep State.stalls fun _ _ => rfl
@[simp] theorem State.wakeRow_groups (row : Nat) : (s.wakeRow row).groups = s.groups := (Woken.wakeRow s row).keep State.groups fun _ _ => rfl
@[simp] theorem State.wakeRow_rows (row : Nat) : (s.wakeRow row).rows = s.rows := (Woken.wakeRow s row).keep State.rows fun _ _ => rfl
@[simp] theorem State.wakeRow_jobs (row : Nat) : (s.wakeRow row).jobs = s.jobs := (Woken.wakeRow s row).keep State.jobs fun _ _ => rfl
@[simp] theorem State.wakeRow_nextJob (row : Nat) : (s.wakeRow row).nextJob = s.nextJob := (Woken.wakeRow s row).keep State.nextJob fun _ _ => rfl
@[simp] theorem State.wakeRow_cperLost (row : Nat) : (s.wakeRow row).cperLost = s.cperLost := (Woken.wakeRow s row).keep State.cperLost fun _ _ => rfl
@[simp] theorem State.wakeRow_journal (row : Nat) : (s.wakeRow row).journal = s.journal := (Woken.wakeRow s row).keep State.journal fun _ _ => rfl
@[simp] theorem State.wakeRow_digests (row : Nat) : (s.wakeRow row).digests = s.digests := (Woken.wakeRow s row).keep State.digests fun _ _ => rfl
@[simp] theorem State.wakeRow_restocked (row : Nat) : (s.wakeRow row).restocked = s.restocked := (Woken.wakeRow s row).keep State.restocked fun _ _ => rfl
@[simp] theorem State.wakeRow_images (row : Nat) : (s.wakeRow row).images = s.images := (Woken.wakeRow s row).keep State.images fun _ _ => rfl
@[simp] theorem State.wakeRow_stock (row : Nat) : (s.wakeRow row).stock = s.stock := (Woken.wakeRow s row).keep State.stock fun _ _ => rfl
@[simp] theorem State.wakeRow_working (row : Nat) : (s.wakeRow row).working = s.working := (Woken.wakeRow s row).keep State.working fun _ _ => rfl
@[simp] theorem State.wakeRow_scrub (row : Nat) : (s.wakeRow row).scrub = s.scrub := (Woken.wakeRow s row).keep State.scrub fun _ _ => rfl
@[simp] theorem State.wakeRow_slots (row : Nat) : (s.wakeRow row).slots = s.slots := (Woken.wakeRow s row).keep State.slots fun _ _ => rfl
@[simp] theorem State.wakeRow_seqs (row : Nat) : (s.wakeRow row).seqs = s.seqs := (Woken.wakeRow s row).keep State.seqs fun _ _ => rfl
@[simp] theorem State.wakeRow_pages (row : Nat) : (s.wakeRow row).pages = s.pages := (Woken.wakeRow s row).keep State.pages fun _ _ => rfl
@[simp] theorem State.wakeRow_nextPage (row : Nat) : (s.wakeRow row).nextPage = s.nextPage := (Woken.wakeRow s row).keep State.nextPage fun _ _ => rfl
@[simp] theorem State.wakeRow_rolls (row : Nat) : (s.wakeRow row).rolls = s.rolls := (Woken.wakeRow s row).keep State.rolls fun _ _ => rfl
@[simp] theorem State.wakeRow_paces (row : Nat) : (s.wakeRow row).paces = s.paces := (Woken.wakeRow s row).keep State.paces fun _ _ => rfl
@[simp] theorem State.wakeRow_sched (row : Nat) : (s.wakeRow row).sched = s.sched := (Woken.wakeRow s row).keep State.sched fun _ _ => rfl
@[simp] theorem State.wakeRow_adapters (row : Nat) : (s.wakeRow row).adapters = s.adapters := (Woken.wakeRow s row).keep State.adapters fun _ _ => rfl
@[simp] theorem State.wakeRow_tunes (row : Nat) : (s.wakeRow row).tunes = s.tunes := (Woken.wakeRow s row).keep State.tunes fun _ _ => rfl
@[simp] theorem State.wakeRow_cart (row : Nat) : (s.wakeRow row).cart = s.cart := (Woken.wakeRow s row).keep State.cart fun _ _ => rfl
@[simp] theorem State.wakeRow_mem (row : Nat) : (s.wakeRow row).mem = s.mem := (Woken.wakeRow s row).keep State.mem fun _ _ => rfl
@[simp] theorem State.wakeRow_charter (row : Nat) : (s.wakeRow row).charter = s.charter := (Woken.wakeRow s row).keep State.charter fun _ _ => rfl
@[simp] theorem State.wakeRow_funcs (row : Nat) : (s.wakeRow row).funcs = s.funcs := (Woken.wakeRow s row).keep State.funcs fun _ _ => rfl
@[simp] theorem State.wakeRow_clerks (row : Nat) : (s.wakeRow row).clerks = s.clerks := (Woken.wakeRow s row).keep State.clerks fun _ _ => rfl
@[simp] theorem State.wakeRow_pendAt (row : Nat) : (s.wakeRow row).pendAt = s.pendAt := (Woken.wakeRow s row).keep State.pendAt fun _ _ => rfl
@[simp] theorem State.wakeRow_modeCtl (row : Nat) : (s.wakeRow row).modeCtl = s.modeCtl := (Woken.wakeRow s row).keep State.modeCtl fun _ _ => rfl
@[simp] theorem State.wakeRow_port0 (row : Nat) : (s.wakeRow row).port0 = s.port0 := (Woken.wakeRow s row).keep State.port0 fun _ _ => rfl
@[simp] theorem State.wakeRow_warden (row : Nat) : (s.wakeRow row).warden = s.warden := (Woken.wakeRow s row).keep State.warden fun _ _ => rfl
@[simp] theorem State.wakeRow_cal (row : Nat) : (s.wakeRow row).cal = s.cal := (Woken.wakeRow s row).keep State.cal fun _ _ => rfl
@[simp] theorem State.wakeRow_sec (row : Nat) : (s.wakeRow row).sec = s.sec := (Woken.wakeRow s row).keep State.sec fun _ _ => rfl
@[simp] theorem State.wakeRow_duty (row : Nat) : (s.wakeRow row).duty = s.duty := (Woken.wakeRow s row).keep State.duty fun _ _ => rfl
@[simp] theorem State.wakeRow_level (row : Nat) : (s.wakeRow row).level = s.level := (Woken.wakeRow s row).keep State.level fun _ _ => rfl

/-! ### What shared operations leave alone -/

theorem Shape.pending {s t : State} (h : Shape s t) : t.pending = s.pending := by obtain ⟨r, p, f, o, rfl⟩ := h; rfl
theorem Shape.now {s t : State} (h : Shape s t) : t.now = s.now := by obtain ⟨r, p, f, o, rfl⟩ := h; rfl
theorem Shape.free {s t : State} (h : Shape s t) : t.free = s.free := by obtain ⟨r, p, f, o, rfl⟩ := h; rfl
theorem Shape.halves {s t : State} (h : Shape s t) : t.halves = s.halves := by obtain ⟨r, p, f, o, rfl⟩ := h; rfl
theorem Shape.stalls {s t : State} (h : Shape s t) : t.stalls = s.stalls := by obtain ⟨r, p, f, o, rfl⟩ := h; rfl
theorem Shape.groups {s t : State} (h : Shape s t) : t.groups = s.groups := by obtain ⟨r, p, f, o, rfl⟩ := h; rfl
theorem Shape.rows {s t : State} (h : Shape s t) : t.rows = s.rows := by obtain ⟨r, p, f, o, rfl⟩ := h; rfl
theorem Shape.jobs {s t : State} (h : Shape s t) : t.jobs = s.jobs := by obtain ⟨r, p, f, o, rfl⟩ := h; rfl
theorem Shape.nextJob {s t : State} (h : Shape s t) : t.nextJob = s.nextJob := by obtain ⟨r, p, f, o, rfl⟩ := h; rfl
theorem Shape.cperLost {s t : State} (h : Shape s t) : t.cperLost = s.cperLost := by obtain ⟨r, p, f, o, rfl⟩ := h; rfl
theorem Shape.journal {s t : State} (h : Shape s t) : t.journal = s.journal := by obtain ⟨r, p, f, o, rfl⟩ := h; rfl
theorem Shape.digests {s t : State} (h : Shape s t) : t.digests = s.digests := by obtain ⟨r, p, f, o, rfl⟩ := h; rfl
theorem Shape.restocked {s t : State} (h : Shape s t) : t.restocked = s.restocked := by obtain ⟨r, p, f, o, rfl⟩ := h; rfl
theorem Shape.images {s t : State} (h : Shape s t) : t.images = s.images := by obtain ⟨r, p, f, o, rfl⟩ := h; rfl
theorem Shape.stock {s t : State} (h : Shape s t) : t.stock = s.stock := by obtain ⟨r, p, f, o, rfl⟩ := h; rfl
theorem Shape.working {s t : State} (h : Shape s t) : t.working = s.working := by obtain ⟨r, p, f, o, rfl⟩ := h; rfl
theorem Shape.scrub {s t : State} (h : Shape s t) : t.scrub = s.scrub := by obtain ⟨r, p, f, o, rfl⟩ := h; rfl
theorem Shape.slots {s t : State} (h : Shape s t) : t.slots = s.slots := by obtain ⟨r, p, f, o, rfl⟩ := h; rfl
theorem Shape.seqs {s t : State} (h : Shape s t) : t.seqs = s.seqs := by obtain ⟨r, p, f, o, rfl⟩ := h; rfl
theorem Shape.pages {s t : State} (h : Shape s t) : t.pages = s.pages := by obtain ⟨r, p, f, o, rfl⟩ := h; rfl
theorem Shape.nextPage {s t : State} (h : Shape s t) : t.nextPage = s.nextPage := by obtain ⟨r, p, f, o, rfl⟩ := h; rfl
theorem Shape.rolls {s t : State} (h : Shape s t) : t.rolls = s.rolls := by obtain ⟨r, p, f, o, rfl⟩ := h; rfl
theorem Shape.paces {s t : State} (h : Shape s t) : t.paces = s.paces := by obtain ⟨r, p, f, o, rfl⟩ := h; rfl
theorem Shape.sched {s t : State} (h : Shape s t) : t.sched = s.sched := by obtain ⟨r, p, f, o, rfl⟩ := h; rfl
theorem Shape.adapters {s t : State} (h : Shape s t) : t.adapters = s.adapters := by obtain ⟨r, p, f, o, rfl⟩ := h; rfl
theorem Shape.tunes {s t : State} (h : Shape s t) : t.tunes = s.tunes := by obtain ⟨r, p, f, o, rfl⟩ := h; rfl
theorem Shape.cart {s t : State} (h : Shape s t) : t.cart = s.cart := by obtain ⟨r, p, f, o, rfl⟩ := h; rfl
theorem Shape.mem {s t : State} (h : Shape s t) : t.mem = s.mem := by obtain ⟨r, p, f, o, rfl⟩ := h; rfl
theorem Shape.charter {s t : State} (h : Shape s t) : t.charter = s.charter := by obtain ⟨r, p, f, o, rfl⟩ := h; rfl
theorem Shape.clerks {s t : State} (h : Shape s t) : t.clerks = s.clerks := by obtain ⟨r, p, f, o, rfl⟩ := h; rfl
theorem Shape.modeCtl {s t : State} (h : Shape s t) : t.modeCtl = s.modeCtl := by obtain ⟨r, p, f, o, rfl⟩ := h; rfl
theorem Shape.sleep {s t : State} (h : Shape s t) : t.sleep = s.sleep := by obtain ⟨r, p, f, o, rfl⟩ := h; rfl
theorem Shape.gatedAt {s t : State} (h : Shape s t) : t.gatedAt = s.gatedAt := by obtain ⟨r, p, f, o, rfl⟩ := h; rfl
theorem Shape.wakeAt {s t : State} (h : Shape s t) : t.wakeAt = s.wakeAt := by obtain ⟨r, p, f, o, rfl⟩ := h; rfl
theorem Shape.port0 {s t : State} (h : Shape s t) : t.port0 = s.port0 := by obtain ⟨r, p, f, o, rfl⟩ := h; rfl
theorem Shape.warden {s t : State} (h : Shape s t) : t.warden = s.warden := by obtain ⟨r, p, f, o, rfl⟩ := h; rfl
theorem Shape.boot {s t : State} (h : Shape s t) : t.boot = s.boot := by obtain ⟨r, p, f, o, rfl⟩ := h; rfl
theorem Shape.cal {s t : State} (h : Shape s t) : t.cal = s.cal := by obtain ⟨r, p, f, o, rfl⟩ := h; rfl
theorem Shape.sec {s t : State} (h : Shape s t) : t.sec = s.sec := by obtain ⟨r, p, f, o, rfl⟩ := h; rfl
theorem Shape.duty {s t : State} (h : Shape s t) : t.duty = s.duty := by obtain ⟨r, p, f, o, rfl⟩ := h; rfl
theorem Shape.level {s t : State} (h : Shape s t) : t.level = s.level := by obtain ⟨r, p, f, o, rfl⟩ := h; rfl
@[simp] theorem State.raise_pending (n : Nat) : (s.raise n).pending = s.pending := (Shape.raise s n).pending
@[simp] theorem State.raise_now (n : Nat) : (s.raise n).now = s.now := (Shape.raise s n).now
@[simp] theorem State.raise_free (n : Nat) : (s.raise n).free = s.free := (Shape.raise s n).free
@[simp] theorem State.raise_halves (n : Nat) : (s.raise n).halves = s.halves := (Shape.raise s n).halves
@[simp] theorem State.raise_stalls (n : Nat) : (s.raise n).stalls = s.stalls := (Shape.raise s n).stalls
@[simp] theorem State.raise_groups (n : Nat) : (s.raise n).groups = s.groups := (Shape.raise s n).groups
@[simp] theorem State.raise_rows (n : Nat) : (s.raise n).rows = s.rows := (Shape.raise s n).rows
@[simp] theorem State.raise_jobs (n : Nat) : (s.raise n).jobs = s.jobs := (Shape.raise s n).jobs
@[simp] theorem State.raise_nextJob (n : Nat) : (s.raise n).nextJob = s.nextJob := (Shape.raise s n).nextJob
@[simp] theorem State.raise_cperLost (n : Nat) : (s.raise n).cperLost = s.cperLost := (Shape.raise s n).cperLost
@[simp] theorem State.raise_journal (n : Nat) : (s.raise n).journal = s.journal := (Shape.raise s n).journal
@[simp] theorem State.raise_digests (n : Nat) : (s.raise n).digests = s.digests := (Shape.raise s n).digests
@[simp] theorem State.raise_restocked (n : Nat) : (s.raise n).restocked = s.restocked := (Shape.raise s n).restocked
@[simp] theorem State.raise_images (n : Nat) : (s.raise n).images = s.images := (Shape.raise s n).images
@[simp] theorem State.raise_stock (n : Nat) : (s.raise n).stock = s.stock := (Shape.raise s n).stock
@[simp] theorem State.raise_working (n : Nat) : (s.raise n).working = s.working := (Shape.raise s n).working
@[simp] theorem State.raise_scrub (n : Nat) : (s.raise n).scrub = s.scrub := (Shape.raise s n).scrub
@[simp] theorem State.raise_slots (n : Nat) : (s.raise n).slots = s.slots := (Shape.raise s n).slots
@[simp] theorem State.raise_seqs (n : Nat) : (s.raise n).seqs = s.seqs := (Shape.raise s n).seqs
@[simp] theorem State.raise_pages (n : Nat) : (s.raise n).pages = s.pages := (Shape.raise s n).pages
@[simp] theorem State.raise_nextPage (n : Nat) : (s.raise n).nextPage = s.nextPage := (Shape.raise s n).nextPage
@[simp] theorem State.raise_rolls (n : Nat) : (s.raise n).rolls = s.rolls := (Shape.raise s n).rolls
@[simp] theorem State.raise_paces (n : Nat) : (s.raise n).paces = s.paces := (Shape.raise s n).paces
@[simp] theorem State.raise_sched (n : Nat) : (s.raise n).sched = s.sched := (Shape.raise s n).sched
@[simp] theorem State.raise_adapters (n : Nat) : (s.raise n).adapters = s.adapters := (Shape.raise s n).adapters
@[simp] theorem State.raise_tunes (n : Nat) : (s.raise n).tunes = s.tunes := (Shape.raise s n).tunes
@[simp] theorem State.raise_cart (n : Nat) : (s.raise n).cart = s.cart := (Shape.raise s n).cart
@[simp] theorem State.raise_mem (n : Nat) : (s.raise n).mem = s.mem := (Shape.raise s n).mem
@[simp] theorem State.raise_charter (n : Nat) : (s.raise n).charter = s.charter := (Shape.raise s n).charter
@[simp] theorem State.raise_clerks (n : Nat) : (s.raise n).clerks = s.clerks := (Shape.raise s n).clerks
@[simp] theorem State.raise_modeCtl (n : Nat) : (s.raise n).modeCtl = s.modeCtl := (Shape.raise s n).modeCtl
@[simp] theorem State.raise_sleep (n : Nat) : (s.raise n).sleep = s.sleep := (Shape.raise s n).sleep
@[simp] theorem State.raise_gatedAt (n : Nat) : (s.raise n).gatedAt = s.gatedAt := (Shape.raise s n).gatedAt
@[simp] theorem State.raise_wakeAt (n : Nat) : (s.raise n).wakeAt = s.wakeAt := (Shape.raise s n).wakeAt
@[simp] theorem State.raise_port0 (n : Nat) : (s.raise n).port0 = s.port0 := (Shape.raise s n).port0
@[simp] theorem State.raise_warden (n : Nat) : (s.raise n).warden = s.warden := (Shape.raise s n).warden
@[simp] theorem State.raise_boot (n : Nat) : (s.raise n).boot = s.boot := (Shape.raise s n).boot
@[simp] theorem State.raise_cal (n : Nat) : (s.raise n).cal = s.cal := (Shape.raise s n).cal
@[simp] theorem State.raise_sec (n : Nat) : (s.raise n).sec = s.sec := (Shape.raise s n).sec
@[simp] theorem State.raise_duty (n : Nat) : (s.raise n).duty = s.duty := (Shape.raise s n).duty
@[simp] theorem State.raise_level (n : Nat) : (s.raise n).level = s.level := (Shape.raise s n).level
@[simp] theorem State.send_pending (o : Out) : (s.send o).pending = s.pending := (Shape.send s o).pending
@[simp] theorem State.send_now (o : Out) : (s.send o).now = s.now := (Shape.send s o).now
@[simp] theorem State.send_free (o : Out) : (s.send o).free = s.free := (Shape.send s o).free
@[simp] theorem State.send_halves (o : Out) : (s.send o).halves = s.halves := (Shape.send s o).halves
@[simp] theorem State.send_stalls (o : Out) : (s.send o).stalls = s.stalls := (Shape.send s o).stalls
@[simp] theorem State.send_groups (o : Out) : (s.send o).groups = s.groups := (Shape.send s o).groups
@[simp] theorem State.send_rows (o : Out) : (s.send o).rows = s.rows := (Shape.send s o).rows
@[simp] theorem State.send_jobs (o : Out) : (s.send o).jobs = s.jobs := (Shape.send s o).jobs
@[simp] theorem State.send_nextJob (o : Out) : (s.send o).nextJob = s.nextJob := (Shape.send s o).nextJob
@[simp] theorem State.send_cperLost (o : Out) : (s.send o).cperLost = s.cperLost := (Shape.send s o).cperLost
@[simp] theorem State.send_journal (o : Out) : (s.send o).journal = s.journal := (Shape.send s o).journal
@[simp] theorem State.send_digests (o : Out) : (s.send o).digests = s.digests := (Shape.send s o).digests
@[simp] theorem State.send_restocked (o : Out) : (s.send o).restocked = s.restocked := (Shape.send s o).restocked
@[simp] theorem State.send_images (o : Out) : (s.send o).images = s.images := (Shape.send s o).images
@[simp] theorem State.send_stock (o : Out) : (s.send o).stock = s.stock := (Shape.send s o).stock
@[simp] theorem State.send_working (o : Out) : (s.send o).working = s.working := (Shape.send s o).working
@[simp] theorem State.send_scrub (o : Out) : (s.send o).scrub = s.scrub := (Shape.send s o).scrub
@[simp] theorem State.send_slots (o : Out) : (s.send o).slots = s.slots := (Shape.send s o).slots
@[simp] theorem State.send_seqs (o : Out) : (s.send o).seqs = s.seqs := (Shape.send s o).seqs
@[simp] theorem State.send_pages (o : Out) : (s.send o).pages = s.pages := (Shape.send s o).pages
@[simp] theorem State.send_nextPage (o : Out) : (s.send o).nextPage = s.nextPage := (Shape.send s o).nextPage
@[simp] theorem State.send_rolls (o : Out) : (s.send o).rolls = s.rolls := (Shape.send s o).rolls
@[simp] theorem State.send_paces (o : Out) : (s.send o).paces = s.paces := (Shape.send s o).paces
@[simp] theorem State.send_sched (o : Out) : (s.send o).sched = s.sched := (Shape.send s o).sched
@[simp] theorem State.send_adapters (o : Out) : (s.send o).adapters = s.adapters := (Shape.send s o).adapters
@[simp] theorem State.send_tunes (o : Out) : (s.send o).tunes = s.tunes := (Shape.send s o).tunes
@[simp] theorem State.send_cart (o : Out) : (s.send o).cart = s.cart := (Shape.send s o).cart
@[simp] theorem State.send_mem (o : Out) : (s.send o).mem = s.mem := (Shape.send s o).mem
@[simp] theorem State.send_charter (o : Out) : (s.send o).charter = s.charter := (Shape.send s o).charter
@[simp] theorem State.send_clerks (o : Out) : (s.send o).clerks = s.clerks := (Shape.send s o).clerks
@[simp] theorem State.send_modeCtl (o : Out) : (s.send o).modeCtl = s.modeCtl := (Shape.send s o).modeCtl
@[simp] theorem State.send_sleep (o : Out) : (s.send o).sleep = s.sleep := (Shape.send s o).sleep
@[simp] theorem State.send_gatedAt (o : Out) : (s.send o).gatedAt = s.gatedAt := (Shape.send s o).gatedAt
@[simp] theorem State.send_wakeAt (o : Out) : (s.send o).wakeAt = s.wakeAt := (Shape.send s o).wakeAt
@[simp] theorem State.send_port0 (o : Out) : (s.send o).port0 = s.port0 := (Shape.send s o).port0
@[simp] theorem State.send_warden (o : Out) : (s.send o).warden = s.warden := (Shape.send s o).warden
@[simp] theorem State.send_boot (o : Out) : (s.send o).boot = s.boot := (Shape.send s o).boot
@[simp] theorem State.send_cal (o : Out) : (s.send o).cal = s.cal := (Shape.send s o).cal
@[simp] theorem State.send_sec (o : Out) : (s.send o).sec = s.sec := (Shape.send s o).sec
@[simp] theorem State.send_duty (o : Out) : (s.send o).duty = s.duty := (Shape.send s o).duty
@[simp] theorem State.send_level (o : Out) : (s.send o).level = s.level := (Shape.send s o).level
@[simp] theorem State.msi_pending (f v : Nat) : (s.msi f v).pending = s.pending := (Shape.msi s f v).pending
@[simp] theorem State.msi_now (f v : Nat) : (s.msi f v).now = s.now := (Shape.msi s f v).now
@[simp] theorem State.msi_free (f v : Nat) : (s.msi f v).free = s.free := (Shape.msi s f v).free
@[simp] theorem State.msi_halves (f v : Nat) : (s.msi f v).halves = s.halves := (Shape.msi s f v).halves
@[simp] theorem State.msi_stalls (f v : Nat) : (s.msi f v).stalls = s.stalls := (Shape.msi s f v).stalls
@[simp] theorem State.msi_groups (f v : Nat) : (s.msi f v).groups = s.groups := (Shape.msi s f v).groups
@[simp] theorem State.msi_rows (f v : Nat) : (s.msi f v).rows = s.rows := (Shape.msi s f v).rows
@[simp] theorem State.msi_jobs (f v : Nat) : (s.msi f v).jobs = s.jobs := (Shape.msi s f v).jobs
@[simp] theorem State.msi_nextJob (f v : Nat) : (s.msi f v).nextJob = s.nextJob := (Shape.msi s f v).nextJob
@[simp] theorem State.msi_cperLost (f v : Nat) : (s.msi f v).cperLost = s.cperLost := (Shape.msi s f v).cperLost
@[simp] theorem State.msi_journal (f v : Nat) : (s.msi f v).journal = s.journal := (Shape.msi s f v).journal
@[simp] theorem State.msi_digests (f v : Nat) : (s.msi f v).digests = s.digests := (Shape.msi s f v).digests
@[simp] theorem State.msi_restocked (f v : Nat) : (s.msi f v).restocked = s.restocked := (Shape.msi s f v).restocked
@[simp] theorem State.msi_images (f v : Nat) : (s.msi f v).images = s.images := (Shape.msi s f v).images
@[simp] theorem State.msi_stock (f v : Nat) : (s.msi f v).stock = s.stock := (Shape.msi s f v).stock
@[simp] theorem State.msi_working (f v : Nat) : (s.msi f v).working = s.working := (Shape.msi s f v).working
@[simp] theorem State.msi_scrub (f v : Nat) : (s.msi f v).scrub = s.scrub := (Shape.msi s f v).scrub
@[simp] theorem State.msi_slots (f v : Nat) : (s.msi f v).slots = s.slots := (Shape.msi s f v).slots
@[simp] theorem State.msi_seqs (f v : Nat) : (s.msi f v).seqs = s.seqs := (Shape.msi s f v).seqs
@[simp] theorem State.msi_pages (f v : Nat) : (s.msi f v).pages = s.pages := (Shape.msi s f v).pages
@[simp] theorem State.msi_nextPage (f v : Nat) : (s.msi f v).nextPage = s.nextPage := (Shape.msi s f v).nextPage
@[simp] theorem State.msi_rolls (f v : Nat) : (s.msi f v).rolls = s.rolls := (Shape.msi s f v).rolls
@[simp] theorem State.msi_paces (f v : Nat) : (s.msi f v).paces = s.paces := (Shape.msi s f v).paces
@[simp] theorem State.msi_sched (f v : Nat) : (s.msi f v).sched = s.sched := (Shape.msi s f v).sched
@[simp] theorem State.msi_adapters (f v : Nat) : (s.msi f v).adapters = s.adapters := (Shape.msi s f v).adapters
@[simp] theorem State.msi_tunes (f v : Nat) : (s.msi f v).tunes = s.tunes := (Shape.msi s f v).tunes
@[simp] theorem State.msi_cart (f v : Nat) : (s.msi f v).cart = s.cart := (Shape.msi s f v).cart
@[simp] theorem State.msi_mem (f v : Nat) : (s.msi f v).mem = s.mem := (Shape.msi s f v).mem
@[simp] theorem State.msi_charter (f v : Nat) : (s.msi f v).charter = s.charter := (Shape.msi s f v).charter
@[simp] theorem State.msi_clerks (f v : Nat) : (s.msi f v).clerks = s.clerks := (Shape.msi s f v).clerks
@[simp] theorem State.msi_modeCtl (f v : Nat) : (s.msi f v).modeCtl = s.modeCtl := (Shape.msi s f v).modeCtl
@[simp] theorem State.msi_sleep (f v : Nat) : (s.msi f v).sleep = s.sleep := (Shape.msi s f v).sleep
@[simp] theorem State.msi_gatedAt (f v : Nat) : (s.msi f v).gatedAt = s.gatedAt := (Shape.msi s f v).gatedAt
@[simp] theorem State.msi_wakeAt (f v : Nat) : (s.msi f v).wakeAt = s.wakeAt := (Shape.msi s f v).wakeAt
@[simp] theorem State.msi_port0 (f v : Nat) : (s.msi f v).port0 = s.port0 := (Shape.msi s f v).port0
@[simp] theorem State.msi_warden (f v : Nat) : (s.msi f v).warden = s.warden := (Shape.msi s f v).warden
@[simp] theorem State.msi_boot (f v : Nat) : (s.msi f v).boot = s.boot := (Shape.msi s f v).boot
@[simp] theorem State.msi_cal (f v : Nat) : (s.msi f v).cal = s.cal := (Shape.msi s f v).cal
@[simp] theorem State.msi_sec (f v : Nat) : (s.msi f v).sec = s.sec := (Shape.msi s f v).sec
@[simp] theorem State.msi_duty (f v : Nat) : (s.msi f v).duty = s.duty := (Shape.msi s f v).duty
@[simp] theorem State.msi_level (f v : Nat) : (s.msi f v).level = s.level := (Shape.msi s f v).level
@[simp] theorem State.fnEvent_pending (f b : Nat) : (s.fnEvent f b).pending = s.pending := (Shape.fnEvent s f b).pending
@[simp] theorem State.fnEvent_now (f b : Nat) : (s.fnEvent f b).now = s.now := (Shape.fnEvent s f b).now
@[simp] theorem State.fnEvent_free (f b : Nat) : (s.fnEvent f b).free = s.free := (Shape.fnEvent s f b).free
@[simp] theorem State.fnEvent_halves (f b : Nat) : (s.fnEvent f b).halves = s.halves := (Shape.fnEvent s f b).halves
@[simp] theorem State.fnEvent_stalls (f b : Nat) : (s.fnEvent f b).stalls = s.stalls := (Shape.fnEvent s f b).stalls
@[simp] theorem State.fnEvent_groups (f b : Nat) : (s.fnEvent f b).groups = s.groups := (Shape.fnEvent s f b).groups
@[simp] theorem State.fnEvent_rows (f b : Nat) : (s.fnEvent f b).rows = s.rows := (Shape.fnEvent s f b).rows
@[simp] theorem State.fnEvent_jobs (f b : Nat) : (s.fnEvent f b).jobs = s.jobs := (Shape.fnEvent s f b).jobs
@[simp] theorem State.fnEvent_nextJob (f b : Nat) : (s.fnEvent f b).nextJob = s.nextJob := (Shape.fnEvent s f b).nextJob
@[simp] theorem State.fnEvent_cperLost (f b : Nat) : (s.fnEvent f b).cperLost = s.cperLost := (Shape.fnEvent s f b).cperLost
@[simp] theorem State.fnEvent_journal (f b : Nat) : (s.fnEvent f b).journal = s.journal := (Shape.fnEvent s f b).journal
@[simp] theorem State.fnEvent_digests (f b : Nat) : (s.fnEvent f b).digests = s.digests := (Shape.fnEvent s f b).digests
@[simp] theorem State.fnEvent_restocked (f b : Nat) : (s.fnEvent f b).restocked = s.restocked := (Shape.fnEvent s f b).restocked
@[simp] theorem State.fnEvent_images (f b : Nat) : (s.fnEvent f b).images = s.images := (Shape.fnEvent s f b).images
@[simp] theorem State.fnEvent_stock (f b : Nat) : (s.fnEvent f b).stock = s.stock := (Shape.fnEvent s f b).stock
@[simp] theorem State.fnEvent_working (f b : Nat) : (s.fnEvent f b).working = s.working := (Shape.fnEvent s f b).working
@[simp] theorem State.fnEvent_scrub (f b : Nat) : (s.fnEvent f b).scrub = s.scrub := (Shape.fnEvent s f b).scrub
@[simp] theorem State.fnEvent_slots (f b : Nat) : (s.fnEvent f b).slots = s.slots := (Shape.fnEvent s f b).slots
@[simp] theorem State.fnEvent_seqs (f b : Nat) : (s.fnEvent f b).seqs = s.seqs := (Shape.fnEvent s f b).seqs
@[simp] theorem State.fnEvent_pages (f b : Nat) : (s.fnEvent f b).pages = s.pages := (Shape.fnEvent s f b).pages
@[simp] theorem State.fnEvent_nextPage (f b : Nat) : (s.fnEvent f b).nextPage = s.nextPage := (Shape.fnEvent s f b).nextPage
@[simp] theorem State.fnEvent_rolls (f b : Nat) : (s.fnEvent f b).rolls = s.rolls := (Shape.fnEvent s f b).rolls
@[simp] theorem State.fnEvent_paces (f b : Nat) : (s.fnEvent f b).paces = s.paces := (Shape.fnEvent s f b).paces
@[simp] theorem State.fnEvent_sched (f b : Nat) : (s.fnEvent f b).sched = s.sched := (Shape.fnEvent s f b).sched
@[simp] theorem State.fnEvent_adapters (f b : Nat) : (s.fnEvent f b).adapters = s.adapters := (Shape.fnEvent s f b).adapters
@[simp] theorem State.fnEvent_tunes (f b : Nat) : (s.fnEvent f b).tunes = s.tunes := (Shape.fnEvent s f b).tunes
@[simp] theorem State.fnEvent_cart (f b : Nat) : (s.fnEvent f b).cart = s.cart := (Shape.fnEvent s f b).cart
@[simp] theorem State.fnEvent_mem (f b : Nat) : (s.fnEvent f b).mem = s.mem := (Shape.fnEvent s f b).mem
@[simp] theorem State.fnEvent_charter (f b : Nat) : (s.fnEvent f b).charter = s.charter := (Shape.fnEvent s f b).charter
@[simp] theorem State.fnEvent_clerks (f b : Nat) : (s.fnEvent f b).clerks = s.clerks := (Shape.fnEvent s f b).clerks
@[simp] theorem State.fnEvent_modeCtl (f b : Nat) : (s.fnEvent f b).modeCtl = s.modeCtl := (Shape.fnEvent s f b).modeCtl
@[simp] theorem State.fnEvent_sleep (f b : Nat) : (s.fnEvent f b).sleep = s.sleep := (Shape.fnEvent s f b).sleep
@[simp] theorem State.fnEvent_gatedAt (f b : Nat) : (s.fnEvent f b).gatedAt = s.gatedAt := (Shape.fnEvent s f b).gatedAt
@[simp] theorem State.fnEvent_wakeAt (f b : Nat) : (s.fnEvent f b).wakeAt = s.wakeAt := (Shape.fnEvent s f b).wakeAt
@[simp] theorem State.fnEvent_port0 (f b : Nat) : (s.fnEvent f b).port0 = s.port0 := (Shape.fnEvent s f b).port0
@[simp] theorem State.fnEvent_warden (f b : Nat) : (s.fnEvent f b).warden = s.warden := (Shape.fnEvent s f b).warden
@[simp] theorem State.fnEvent_boot (f b : Nat) : (s.fnEvent f b).boot = s.boot := (Shape.fnEvent s f b).boot
@[simp] theorem State.fnEvent_cal (f b : Nat) : (s.fnEvent f b).cal = s.cal := (Shape.fnEvent s f b).cal
@[simp] theorem State.fnEvent_sec (f b : Nat) : (s.fnEvent f b).sec = s.sec := (Shape.fnEvent s f b).sec
@[simp] theorem State.fnEvent_duty (f b : Nat) : (s.fnEvent f b).duty = s.duty := (Shape.fnEvent s f b).duty
@[simp] theorem State.fnEvent_level (f b : Nat) : (s.fnEvent f b).level = s.level := (Shape.fnEvent s f b).level
@[simp] theorem State.flag_pending (f : RField) (i : Nat) : (s.flag f i).pending = s.pending := (Shape.flag s f i).pending
@[simp] theorem State.flag_now (f : RField) (i : Nat) : (s.flag f i).now = s.now := (Shape.flag s f i).now
@[simp] theorem State.flag_free (f : RField) (i : Nat) : (s.flag f i).free = s.free := (Shape.flag s f i).free
@[simp] theorem State.flag_halves (f : RField) (i : Nat) : (s.flag f i).halves = s.halves := (Shape.flag s f i).halves
@[simp] theorem State.flag_stalls (f : RField) (i : Nat) : (s.flag f i).stalls = s.stalls := (Shape.flag s f i).stalls
@[simp] theorem State.flag_groups (f : RField) (i : Nat) : (s.flag f i).groups = s.groups := (Shape.flag s f i).groups
@[simp] theorem State.flag_rows (f : RField) (i : Nat) : (s.flag f i).rows = s.rows := (Shape.flag s f i).rows
@[simp] theorem State.flag_jobs (f : RField) (i : Nat) : (s.flag f i).jobs = s.jobs := (Shape.flag s f i).jobs
@[simp] theorem State.flag_nextJob (f : RField) (i : Nat) : (s.flag f i).nextJob = s.nextJob := (Shape.flag s f i).nextJob
@[simp] theorem State.flag_cperLost (f : RField) (i : Nat) : (s.flag f i).cperLost = s.cperLost := (Shape.flag s f i).cperLost
@[simp] theorem State.flag_journal (f : RField) (i : Nat) : (s.flag f i).journal = s.journal := (Shape.flag s f i).journal
@[simp] theorem State.flag_digests (f : RField) (i : Nat) : (s.flag f i).digests = s.digests := (Shape.flag s f i).digests
@[simp] theorem State.flag_restocked (f : RField) (i : Nat) : (s.flag f i).restocked = s.restocked := (Shape.flag s f i).restocked
@[simp] theorem State.flag_images (f : RField) (i : Nat) : (s.flag f i).images = s.images := (Shape.flag s f i).images
@[simp] theorem State.flag_stock (f : RField) (i : Nat) : (s.flag f i).stock = s.stock := (Shape.flag s f i).stock
@[simp] theorem State.flag_working (f : RField) (i : Nat) : (s.flag f i).working = s.working := (Shape.flag s f i).working
@[simp] theorem State.flag_scrub (f : RField) (i : Nat) : (s.flag f i).scrub = s.scrub := (Shape.flag s f i).scrub
@[simp] theorem State.flag_slots (f : RField) (i : Nat) : (s.flag f i).slots = s.slots := (Shape.flag s f i).slots
@[simp] theorem State.flag_seqs (f : RField) (i : Nat) : (s.flag f i).seqs = s.seqs := (Shape.flag s f i).seqs
@[simp] theorem State.flag_pages (f : RField) (i : Nat) : (s.flag f i).pages = s.pages := (Shape.flag s f i).pages
@[simp] theorem State.flag_nextPage (f : RField) (i : Nat) : (s.flag f i).nextPage = s.nextPage := (Shape.flag s f i).nextPage
@[simp] theorem State.flag_rolls (f : RField) (i : Nat) : (s.flag f i).rolls = s.rolls := (Shape.flag s f i).rolls
@[simp] theorem State.flag_paces (f : RField) (i : Nat) : (s.flag f i).paces = s.paces := (Shape.flag s f i).paces
@[simp] theorem State.flag_sched (f : RField) (i : Nat) : (s.flag f i).sched = s.sched := (Shape.flag s f i).sched
@[simp] theorem State.flag_adapters (f : RField) (i : Nat) : (s.flag f i).adapters = s.adapters := (Shape.flag s f i).adapters
@[simp] theorem State.flag_tunes (f : RField) (i : Nat) : (s.flag f i).tunes = s.tunes := (Shape.flag s f i).tunes
@[simp] theorem State.flag_cart (f : RField) (i : Nat) : (s.flag f i).cart = s.cart := (Shape.flag s f i).cart
@[simp] theorem State.flag_mem (f : RField) (i : Nat) : (s.flag f i).mem = s.mem := (Shape.flag s f i).mem
@[simp] theorem State.flag_charter (f : RField) (i : Nat) : (s.flag f i).charter = s.charter := (Shape.flag s f i).charter
@[simp] theorem State.flag_clerks (f : RField) (i : Nat) : (s.flag f i).clerks = s.clerks := (Shape.flag s f i).clerks
@[simp] theorem State.flag_modeCtl (f : RField) (i : Nat) : (s.flag f i).modeCtl = s.modeCtl := (Shape.flag s f i).modeCtl
@[simp] theorem State.flag_sleep (f : RField) (i : Nat) : (s.flag f i).sleep = s.sleep := (Shape.flag s f i).sleep
@[simp] theorem State.flag_gatedAt (f : RField) (i : Nat) : (s.flag f i).gatedAt = s.gatedAt := (Shape.flag s f i).gatedAt
@[simp] theorem State.flag_wakeAt (f : RField) (i : Nat) : (s.flag f i).wakeAt = s.wakeAt := (Shape.flag s f i).wakeAt
@[simp] theorem State.flag_port0 (f : RField) (i : Nat) : (s.flag f i).port0 = s.port0 := (Shape.flag s f i).port0
@[simp] theorem State.flag_warden (f : RField) (i : Nat) : (s.flag f i).warden = s.warden := (Shape.flag s f i).warden
@[simp] theorem State.flag_boot (f : RField) (i : Nat) : (s.flag f i).boot = s.boot := (Shape.flag s f i).boot
@[simp] theorem State.flag_cal (f : RField) (i : Nat) : (s.flag f i).cal = s.cal := (Shape.flag s f i).cal
@[simp] theorem State.flag_sec (f : RField) (i : Nat) : (s.flag f i).sec = s.sec := (Shape.flag s f i).sec
@[simp] theorem State.flag_duty (f : RField) (i : Nat) : (s.flag f i).duty = s.duty := (Shape.flag s f i).duty
@[simp] theorem State.flag_level (f : RField) (i : Nat) : (s.flag f i).level = s.level := (Shape.flag s f i).level
@[simp] theorem State.flagAt_pending (f : RField) (i : Nat) (l : List (RField × Nat)) : (s.flagAt f i l).pending = s.pending := (Shape.flagAt s f i l).pending
@[simp] theorem State.flagAt_now (f : RField) (i : Nat) (l : List (RField × Nat)) : (s.flagAt f i l).now = s.now := (Shape.flagAt s f i l).now
@[simp] theorem State.flagAt_free (f : RField) (i : Nat) (l : List (RField × Nat)) : (s.flagAt f i l).free = s.free := (Shape.flagAt s f i l).free
@[simp] theorem State.flagAt_halves (f : RField) (i : Nat) (l : List (RField × Nat)) : (s.flagAt f i l).halves = s.halves := (Shape.flagAt s f i l).halves
@[simp] theorem State.flagAt_stalls (f : RField) (i : Nat) (l : List (RField × Nat)) : (s.flagAt f i l).stalls = s.stalls := (Shape.flagAt s f i l).stalls
@[simp] theorem State.flagAt_groups (f : RField) (i : Nat) (l : List (RField × Nat)) : (s.flagAt f i l).groups = s.groups := (Shape.flagAt s f i l).groups
@[simp] theorem State.flagAt_rows (f : RField) (i : Nat) (l : List (RField × Nat)) : (s.flagAt f i l).rows = s.rows := (Shape.flagAt s f i l).rows
@[simp] theorem State.flagAt_jobs (f : RField) (i : Nat) (l : List (RField × Nat)) : (s.flagAt f i l).jobs = s.jobs := (Shape.flagAt s f i l).jobs
@[simp] theorem State.flagAt_nextJob (f : RField) (i : Nat) (l : List (RField × Nat)) : (s.flagAt f i l).nextJob = s.nextJob := (Shape.flagAt s f i l).nextJob
@[simp] theorem State.flagAt_cperLost (f : RField) (i : Nat) (l : List (RField × Nat)) : (s.flagAt f i l).cperLost = s.cperLost := (Shape.flagAt s f i l).cperLost
@[simp] theorem State.flagAt_journal (f : RField) (i : Nat) (l : List (RField × Nat)) : (s.flagAt f i l).journal = s.journal := (Shape.flagAt s f i l).journal
@[simp] theorem State.flagAt_digests (f : RField) (i : Nat) (l : List (RField × Nat)) : (s.flagAt f i l).digests = s.digests := (Shape.flagAt s f i l).digests
@[simp] theorem State.flagAt_restocked (f : RField) (i : Nat) (l : List (RField × Nat)) : (s.flagAt f i l).restocked = s.restocked := (Shape.flagAt s f i l).restocked
@[simp] theorem State.flagAt_images (f : RField) (i : Nat) (l : List (RField × Nat)) : (s.flagAt f i l).images = s.images := (Shape.flagAt s f i l).images
@[simp] theorem State.flagAt_stock (f : RField) (i : Nat) (l : List (RField × Nat)) : (s.flagAt f i l).stock = s.stock := (Shape.flagAt s f i l).stock
@[simp] theorem State.flagAt_working (f : RField) (i : Nat) (l : List (RField × Nat)) : (s.flagAt f i l).working = s.working := (Shape.flagAt s f i l).working
@[simp] theorem State.flagAt_scrub (f : RField) (i : Nat) (l : List (RField × Nat)) : (s.flagAt f i l).scrub = s.scrub := (Shape.flagAt s f i l).scrub
@[simp] theorem State.flagAt_slots (f : RField) (i : Nat) (l : List (RField × Nat)) : (s.flagAt f i l).slots = s.slots := (Shape.flagAt s f i l).slots
@[simp] theorem State.flagAt_seqs (f : RField) (i : Nat) (l : List (RField × Nat)) : (s.flagAt f i l).seqs = s.seqs := (Shape.flagAt s f i l).seqs
@[simp] theorem State.flagAt_pages (f : RField) (i : Nat) (l : List (RField × Nat)) : (s.flagAt f i l).pages = s.pages := (Shape.flagAt s f i l).pages
@[simp] theorem State.flagAt_nextPage (f : RField) (i : Nat) (l : List (RField × Nat)) : (s.flagAt f i l).nextPage = s.nextPage := (Shape.flagAt s f i l).nextPage
@[simp] theorem State.flagAt_rolls (f : RField) (i : Nat) (l : List (RField × Nat)) : (s.flagAt f i l).rolls = s.rolls := (Shape.flagAt s f i l).rolls
@[simp] theorem State.flagAt_paces (f : RField) (i : Nat) (l : List (RField × Nat)) : (s.flagAt f i l).paces = s.paces := (Shape.flagAt s f i l).paces
@[simp] theorem State.flagAt_sched (f : RField) (i : Nat) (l : List (RField × Nat)) : (s.flagAt f i l).sched = s.sched := (Shape.flagAt s f i l).sched
@[simp] theorem State.flagAt_adapters (f : RField) (i : Nat) (l : List (RField × Nat)) : (s.flagAt f i l).adapters = s.adapters := (Shape.flagAt s f i l).adapters
@[simp] theorem State.flagAt_tunes (f : RField) (i : Nat) (l : List (RField × Nat)) : (s.flagAt f i l).tunes = s.tunes := (Shape.flagAt s f i l).tunes
@[simp] theorem State.flagAt_cart (f : RField) (i : Nat) (l : List (RField × Nat)) : (s.flagAt f i l).cart = s.cart := (Shape.flagAt s f i l).cart
@[simp] theorem State.flagAt_mem (f : RField) (i : Nat) (l : List (RField × Nat)) : (s.flagAt f i l).mem = s.mem := (Shape.flagAt s f i l).mem
@[simp] theorem State.flagAt_charter (f : RField) (i : Nat) (l : List (RField × Nat)) : (s.flagAt f i l).charter = s.charter := (Shape.flagAt s f i l).charter
@[simp] theorem State.flagAt_clerks (f : RField) (i : Nat) (l : List (RField × Nat)) : (s.flagAt f i l).clerks = s.clerks := (Shape.flagAt s f i l).clerks
@[simp] theorem State.flagAt_modeCtl (f : RField) (i : Nat) (l : List (RField × Nat)) : (s.flagAt f i l).modeCtl = s.modeCtl := (Shape.flagAt s f i l).modeCtl
@[simp] theorem State.flagAt_sleep (f : RField) (i : Nat) (l : List (RField × Nat)) : (s.flagAt f i l).sleep = s.sleep := (Shape.flagAt s f i l).sleep
@[simp] theorem State.flagAt_gatedAt (f : RField) (i : Nat) (l : List (RField × Nat)) : (s.flagAt f i l).gatedAt = s.gatedAt := (Shape.flagAt s f i l).gatedAt
@[simp] theorem State.flagAt_wakeAt (f : RField) (i : Nat) (l : List (RField × Nat)) : (s.flagAt f i l).wakeAt = s.wakeAt := (Shape.flagAt s f i l).wakeAt
@[simp] theorem State.flagAt_port0 (f : RField) (i : Nat) (l : List (RField × Nat)) : (s.flagAt f i l).port0 = s.port0 := (Shape.flagAt s f i l).port0
@[simp] theorem State.flagAt_warden (f : RField) (i : Nat) (l : List (RField × Nat)) : (s.flagAt f i l).warden = s.warden := (Shape.flagAt s f i l).warden
@[simp] theorem State.flagAt_boot (f : RField) (i : Nat) (l : List (RField × Nat)) : (s.flagAt f i l).boot = s.boot := (Shape.flagAt s f i l).boot
@[simp] theorem State.flagAt_cal (f : RField) (i : Nat) (l : List (RField × Nat)) : (s.flagAt f i l).cal = s.cal := (Shape.flagAt s f i l).cal
@[simp] theorem State.flagAt_sec (f : RField) (i : Nat) (l : List (RField × Nat)) : (s.flagAt f i l).sec = s.sec := (Shape.flagAt s f i l).sec
@[simp] theorem State.flagAt_duty (f : RField) (i : Nat) (l : List (RField × Nat)) : (s.flagAt f i l).duty = s.duty := (Shape.flagAt s f i l).duty
@[simp] theorem State.flagAt_level (f : RField) (i : Nat) (l : List (RField × Nat)) : (s.flagAt f i l).level = s.level := (Shape.flagAt s f i l).level
@[simp] theorem State.accessError_pending (w : Who) (bar off : Nat) (b : Bool) : (s.accessError w bar off b).pending = s.pending := (Shape.accessError s w bar off b).pending
@[simp] theorem State.accessError_now (w : Who) (bar off : Nat) (b : Bool) : (s.accessError w bar off b).now = s.now := (Shape.accessError s w bar off b).now
@[simp] theorem State.accessError_free (w : Who) (bar off : Nat) (b : Bool) : (s.accessError w bar off b).free = s.free := (Shape.accessError s w bar off b).free
@[simp] theorem State.accessError_halves (w : Who) (bar off : Nat) (b : Bool) : (s.accessError w bar off b).halves = s.halves := (Shape.accessError s w bar off b).halves
@[simp] theorem State.accessError_stalls (w : Who) (bar off : Nat) (b : Bool) : (s.accessError w bar off b).stalls = s.stalls := (Shape.accessError s w bar off b).stalls
@[simp] theorem State.accessError_groups (w : Who) (bar off : Nat) (b : Bool) : (s.accessError w bar off b).groups = s.groups := (Shape.accessError s w bar off b).groups
@[simp] theorem State.accessError_rows (w : Who) (bar off : Nat) (b : Bool) : (s.accessError w bar off b).rows = s.rows := (Shape.accessError s w bar off b).rows
@[simp] theorem State.accessError_jobs (w : Who) (bar off : Nat) (b : Bool) : (s.accessError w bar off b).jobs = s.jobs := (Shape.accessError s w bar off b).jobs
@[simp] theorem State.accessError_nextJob (w : Who) (bar off : Nat) (b : Bool) : (s.accessError w bar off b).nextJob = s.nextJob := (Shape.accessError s w bar off b).nextJob
@[simp] theorem State.accessError_cperLost (w : Who) (bar off : Nat) (b : Bool) : (s.accessError w bar off b).cperLost = s.cperLost := (Shape.accessError s w bar off b).cperLost
@[simp] theorem State.accessError_journal (w : Who) (bar off : Nat) (b : Bool) : (s.accessError w bar off b).journal = s.journal := (Shape.accessError s w bar off b).journal
@[simp] theorem State.accessError_digests (w : Who) (bar off : Nat) (b : Bool) : (s.accessError w bar off b).digests = s.digests := (Shape.accessError s w bar off b).digests
@[simp] theorem State.accessError_restocked (w : Who) (bar off : Nat) (b : Bool) : (s.accessError w bar off b).restocked = s.restocked := (Shape.accessError s w bar off b).restocked
@[simp] theorem State.accessError_images (w : Who) (bar off : Nat) (b : Bool) : (s.accessError w bar off b).images = s.images := (Shape.accessError s w bar off b).images
@[simp] theorem State.accessError_stock (w : Who) (bar off : Nat) (b : Bool) : (s.accessError w bar off b).stock = s.stock := (Shape.accessError s w bar off b).stock
@[simp] theorem State.accessError_working (w : Who) (bar off : Nat) (b : Bool) : (s.accessError w bar off b).working = s.working := (Shape.accessError s w bar off b).working
@[simp] theorem State.accessError_scrub (w : Who) (bar off : Nat) (b : Bool) : (s.accessError w bar off b).scrub = s.scrub := (Shape.accessError s w bar off b).scrub
@[simp] theorem State.accessError_slots (w : Who) (bar off : Nat) (b : Bool) : (s.accessError w bar off b).slots = s.slots := (Shape.accessError s w bar off b).slots
@[simp] theorem State.accessError_seqs (w : Who) (bar off : Nat) (b : Bool) : (s.accessError w bar off b).seqs = s.seqs := (Shape.accessError s w bar off b).seqs
@[simp] theorem State.accessError_pages (w : Who) (bar off : Nat) (b : Bool) : (s.accessError w bar off b).pages = s.pages := (Shape.accessError s w bar off b).pages
@[simp] theorem State.accessError_nextPage (w : Who) (bar off : Nat) (b : Bool) : (s.accessError w bar off b).nextPage = s.nextPage := (Shape.accessError s w bar off b).nextPage
@[simp] theorem State.accessError_rolls (w : Who) (bar off : Nat) (b : Bool) : (s.accessError w bar off b).rolls = s.rolls := (Shape.accessError s w bar off b).rolls
@[simp] theorem State.accessError_paces (w : Who) (bar off : Nat) (b : Bool) : (s.accessError w bar off b).paces = s.paces := (Shape.accessError s w bar off b).paces
@[simp] theorem State.accessError_sched (w : Who) (bar off : Nat) (b : Bool) : (s.accessError w bar off b).sched = s.sched := (Shape.accessError s w bar off b).sched
@[simp] theorem State.accessError_adapters (w : Who) (bar off : Nat) (b : Bool) : (s.accessError w bar off b).adapters = s.adapters := (Shape.accessError s w bar off b).adapters
@[simp] theorem State.accessError_tunes (w : Who) (bar off : Nat) (b : Bool) : (s.accessError w bar off b).tunes = s.tunes := (Shape.accessError s w bar off b).tunes
@[simp] theorem State.accessError_cart (w : Who) (bar off : Nat) (b : Bool) : (s.accessError w bar off b).cart = s.cart := (Shape.accessError s w bar off b).cart
@[simp] theorem State.accessError_mem (w : Who) (bar off : Nat) (b : Bool) : (s.accessError w bar off b).mem = s.mem := (Shape.accessError s w bar off b).mem
@[simp] theorem State.accessError_charter (w : Who) (bar off : Nat) (b : Bool) : (s.accessError w bar off b).charter = s.charter := (Shape.accessError s w bar off b).charter
@[simp] theorem State.accessError_clerks (w : Who) (bar off : Nat) (b : Bool) : (s.accessError w bar off b).clerks = s.clerks := (Shape.accessError s w bar off b).clerks
@[simp] theorem State.accessError_modeCtl (w : Who) (bar off : Nat) (b : Bool) : (s.accessError w bar off b).modeCtl = s.modeCtl := (Shape.accessError s w bar off b).modeCtl
@[simp] theorem State.accessError_sleep (w : Who) (bar off : Nat) (b : Bool) : (s.accessError w bar off b).sleep = s.sleep := (Shape.accessError s w bar off b).sleep
@[simp] theorem State.accessError_gatedAt (w : Who) (bar off : Nat) (b : Bool) : (s.accessError w bar off b).gatedAt = s.gatedAt := (Shape.accessError s w bar off b).gatedAt
@[simp] theorem State.accessError_wakeAt (w : Who) (bar off : Nat) (b : Bool) : (s.accessError w bar off b).wakeAt = s.wakeAt := (Shape.accessError s w bar off b).wakeAt
@[simp] theorem State.accessError_port0 (w : Who) (bar off : Nat) (b : Bool) : (s.accessError w bar off b).port0 = s.port0 := (Shape.accessError s w bar off b).port0
@[simp] theorem State.accessError_warden (w : Who) (bar off : Nat) (b : Bool) : (s.accessError w bar off b).warden = s.warden := (Shape.accessError s w bar off b).warden
@[simp] theorem State.accessError_boot (w : Who) (bar off : Nat) (b : Bool) : (s.accessError w bar off b).boot = s.boot := (Shape.accessError s w bar off b).boot
@[simp] theorem State.accessError_cal (w : Who) (bar off : Nat) (b : Bool) : (s.accessError w bar off b).cal = s.cal := (Shape.accessError s w bar off b).cal
@[simp] theorem State.accessError_sec (w : Who) (bar off : Nat) (b : Bool) : (s.accessError w bar off b).sec = s.sec := (Shape.accessError s w bar off b).sec
@[simp] theorem State.accessError_duty (w : Who) (bar off : Nat) (b : Bool) : (s.accessError w bar off b).duty = s.duty := (Shape.accessError s w bar off b).duty
@[simp] theorem State.accessError_level (w : Who) (bar off : Nat) (b : Bool) : (s.accessError w bar off b).level = s.level := (Shape.accessError s w bar off b).level
@[simp] theorem State.writeReg_pending (r : Reg) (i v : Nat) : (s.writeReg r i v).pending = s.pending := (Shape.writeReg s r i v).pending
@[simp] theorem State.writeReg_now (r : Reg) (i v : Nat) : (s.writeReg r i v).now = s.now := (Shape.writeReg s r i v).now
@[simp] theorem State.writeReg_free (r : Reg) (i v : Nat) : (s.writeReg r i v).free = s.free := (Shape.writeReg s r i v).free
@[simp] theorem State.writeReg_halves (r : Reg) (i v : Nat) : (s.writeReg r i v).halves = s.halves := (Shape.writeReg s r i v).halves
@[simp] theorem State.writeReg_stalls (r : Reg) (i v : Nat) : (s.writeReg r i v).stalls = s.stalls := (Shape.writeReg s r i v).stalls
@[simp] theorem State.writeReg_groups (r : Reg) (i v : Nat) : (s.writeReg r i v).groups = s.groups := (Shape.writeReg s r i v).groups
@[simp] theorem State.writeReg_rows (r : Reg) (i v : Nat) : (s.writeReg r i v).rows = s.rows := (Shape.writeReg s r i v).rows
@[simp] theorem State.writeReg_jobs (r : Reg) (i v : Nat) : (s.writeReg r i v).jobs = s.jobs := (Shape.writeReg s r i v).jobs
@[simp] theorem State.writeReg_nextJob (r : Reg) (i v : Nat) : (s.writeReg r i v).nextJob = s.nextJob := (Shape.writeReg s r i v).nextJob
@[simp] theorem State.writeReg_cperLost (r : Reg) (i v : Nat) : (s.writeReg r i v).cperLost = s.cperLost := (Shape.writeReg s r i v).cperLost
@[simp] theorem State.writeReg_journal (r : Reg) (i v : Nat) : (s.writeReg r i v).journal = s.journal := (Shape.writeReg s r i v).journal
@[simp] theorem State.writeReg_digests (r : Reg) (i v : Nat) : (s.writeReg r i v).digests = s.digests := (Shape.writeReg s r i v).digests
@[simp] theorem State.writeReg_restocked (r : Reg) (i v : Nat) : (s.writeReg r i v).restocked = s.restocked := (Shape.writeReg s r i v).restocked
@[simp] theorem State.writeReg_images (r : Reg) (i v : Nat) : (s.writeReg r i v).images = s.images := (Shape.writeReg s r i v).images
@[simp] theorem State.writeReg_stock (r : Reg) (i v : Nat) : (s.writeReg r i v).stock = s.stock := (Shape.writeReg s r i v).stock
@[simp] theorem State.writeReg_working (r : Reg) (i v : Nat) : (s.writeReg r i v).working = s.working := (Shape.writeReg s r i v).working
@[simp] theorem State.writeReg_scrub (r : Reg) (i v : Nat) : (s.writeReg r i v).scrub = s.scrub := (Shape.writeReg s r i v).scrub
@[simp] theorem State.writeReg_slots (r : Reg) (i v : Nat) : (s.writeReg r i v).slots = s.slots := (Shape.writeReg s r i v).slots
@[simp] theorem State.writeReg_seqs (r : Reg) (i v : Nat) : (s.writeReg r i v).seqs = s.seqs := (Shape.writeReg s r i v).seqs
@[simp] theorem State.writeReg_pages (r : Reg) (i v : Nat) : (s.writeReg r i v).pages = s.pages := (Shape.writeReg s r i v).pages
@[simp] theorem State.writeReg_nextPage (r : Reg) (i v : Nat) : (s.writeReg r i v).nextPage = s.nextPage := (Shape.writeReg s r i v).nextPage
@[simp] theorem State.writeReg_rolls (r : Reg) (i v : Nat) : (s.writeReg r i v).rolls = s.rolls := (Shape.writeReg s r i v).rolls
@[simp] theorem State.writeReg_paces (r : Reg) (i v : Nat) : (s.writeReg r i v).paces = s.paces := (Shape.writeReg s r i v).paces
@[simp] theorem State.writeReg_sched (r : Reg) (i v : Nat) : (s.writeReg r i v).sched = s.sched := (Shape.writeReg s r i v).sched
@[simp] theorem State.writeReg_adapters (r : Reg) (i v : Nat) : (s.writeReg r i v).adapters = s.adapters := (Shape.writeReg s r i v).adapters
@[simp] theorem State.writeReg_tunes (r : Reg) (i v : Nat) : (s.writeReg r i v).tunes = s.tunes := (Shape.writeReg s r i v).tunes
@[simp] theorem State.writeReg_cart (r : Reg) (i v : Nat) : (s.writeReg r i v).cart = s.cart := (Shape.writeReg s r i v).cart
@[simp] theorem State.writeReg_mem (r : Reg) (i v : Nat) : (s.writeReg r i v).mem = s.mem := (Shape.writeReg s r i v).mem
@[simp] theorem State.writeReg_charter (r : Reg) (i v : Nat) : (s.writeReg r i v).charter = s.charter := (Shape.writeReg s r i v).charter
@[simp] theorem State.writeReg_clerks (r : Reg) (i v : Nat) : (s.writeReg r i v).clerks = s.clerks := (Shape.writeReg s r i v).clerks
@[simp] theorem State.writeReg_modeCtl (r : Reg) (i v : Nat) : (s.writeReg r i v).modeCtl = s.modeCtl := (Shape.writeReg s r i v).modeCtl
@[simp] theorem State.writeReg_sleep (r : Reg) (i v : Nat) : (s.writeReg r i v).sleep = s.sleep := (Shape.writeReg s r i v).sleep
@[simp] theorem State.writeReg_gatedAt (r : Reg) (i v : Nat) : (s.writeReg r i v).gatedAt = s.gatedAt := (Shape.writeReg s r i v).gatedAt
@[simp] theorem State.writeReg_wakeAt (r : Reg) (i v : Nat) : (s.writeReg r i v).wakeAt = s.wakeAt := (Shape.writeReg s r i v).wakeAt
@[simp] theorem State.writeReg_port0 (r : Reg) (i v : Nat) : (s.writeReg r i v).port0 = s.port0 := (Shape.writeReg s r i v).port0
@[simp] theorem State.writeReg_warden (r : Reg) (i v : Nat) : (s.writeReg r i v).warden = s.warden := (Shape.writeReg s r i v).warden
@[simp] theorem State.writeReg_boot (r : Reg) (i v : Nat) : (s.writeReg r i v).boot = s.boot := (Shape.writeReg s r i v).boot
@[simp] theorem State.writeReg_cal (r : Reg) (i v : Nat) : (s.writeReg r i v).cal = s.cal := (Shape.writeReg s r i v).cal
@[simp] theorem State.writeReg_sec (r : Reg) (i v : Nat) : (s.writeReg r i v).sec = s.sec := (Shape.writeReg s r i v).sec
@[simp] theorem State.writeReg_duty (r : Reg) (i v : Nat) : (s.writeReg r i v).duty = s.duty := (Shape.writeReg s r i v).duty
@[simp] theorem State.writeReg_level (r : Reg) (i v : Nat) : (s.writeReg r i v).level = s.level := (Shape.writeReg s r i v).level

/-! ### Stalls, groups, rows, slots, functions -/

@[simp] theorem State.stall_setStall_same (k : Nat) (v : Stall) : (s.setStall k v).stall k = v := by simp [State.stall, State.setStall]
theorem State.stall_setStall_ne {k j : Nat} (h : j ≠ k) (v : Stall) : (s.setStall k v).stall j = s.stall j := by simp [State.stall, State.setStall, FMap.get_set_ne h]
@[simp] theorem State.stall_modStall_same (k : Nat) (g : Stall → Stall) : (s.modStall k g).stall k = g (s.stall k) := by simp [State.modStall]
theorem State.stall_modStall_ne {k j : Nat} (h : j ≠ k) (g : Stall → Stall) : (s.modStall k g).stall j = s.stall j := by simp [State.modStall, State.stall_setStall_ne _ h]
theorem State.stall_congr {s t : State} (h : t.stalls = s.stalls) (k : Nat) : t.stall k = s.stall k := by simp only [State.stall, h]
@[simp] theorem State.stall_raise (n : Nat) (k : Nat) : (s.raise n).stall k = s.stall k := State.stall_congr (by simp) k
@[simp] theorem State.stall_send (o : Out) (k : Nat) : (s.send o).stall k = s.stall k := State.stall_congr (by simp) k
@[simp] theorem State.stall_msi (f v : Nat) (k : Nat) : (s.msi f v).stall k = s.stall k := State.stall_congr (by simp) k
@[simp] theorem State.stall_fnEvent (f b : Nat) (k : Nat) : (s.fnEvent f b).stall k = s.stall k := State.stall_congr (by simp) k
@[simp] theorem State.stall_flag (f : RField) (i : Nat) (k : Nat) : (s.flag f i).stall k = s.stall k := State.stall_congr (by simp) k
@[simp] theorem State.stall_flagAt (f : RField) (i : Nat) (l : List (RField × Nat)) (k : Nat) : (s.flagAt f i l).stall k = s.stall k := State.stall_congr (by simp) k
@[simp] theorem State.stall_accessError (w : Who) (bar off : Nat) (b : Bool) (k : Nat) : (s.accessError w bar off b).stall k = s.stall k := State.stall_congr (by simp) k
@[simp] theorem State.stall_writeReg (r : Reg) (i v : Nat) (k : Nat) : (s.writeReg r i v).stall k = s.stall k := State.stall_congr (by simp) k
@[simp] theorem State.stall_setReg (r : Reg) (i : Nat) (v : Word64) (k' : Nat) : (s.setReg r i v).stall k' = s.stall k' := State.stall_congr (by simp) k'
@[simp] theorem State.stall_wr (f : RField) (i v : Nat) (k' : Nat) : (s.wr f i v).stall k' = s.stall k' := State.stall_congr (by simp) k'
@[simp] theorem State.stall_bump (f : RField) (i n : Nat) (k' : Nat) : (s.bump f i n).stall k' = s.stall k' := State.stall_congr (by simp) k'
@[simp] theorem State.stall_bumpSat (f : RField) (i n : Nat) (k' : Nat) : (s.bumpSat f i n).stall k' = s.stall k' := State.stall_congr (by simp) k'
@[simp] theorem State.stall_setGroup (k : Nat) (v : Group) (k' : Nat) : (s.setGroup k v).stall k' = s.stall k' := State.stall_congr (by simp) k'
@[simp] theorem State.stall_setRow (k : Nat) (v : Row) (k' : Nat) : (s.setRow k v).stall k' = s.stall k' := State.stall_congr (by simp) k'
@[simp] theorem State.stall_setSlot (k : Nat) (v : ModelSlot) (k' : Nat) : (s.setSlot k v).stall k' = s.stall k' := State.stall_congr (by simp) k'
@[simp] theorem State.stall_setFunc (k : Nat) (v : Func) (k' : Nat) : (s.setFunc k v).stall k' = s.stall k' := State.stall_congr (by simp) k'
@[simp] theorem State.stall_setClerk (k : Nat) (v : Clerk) (k' : Nat) : (s.setClerk k v).stall k' = s.stall k' := State.stall_congr (by simp) k'
@[simp] theorem State.stall_setJrn (k : Nat) (v : JEntry) (k' : Nat) : (s.setJrn k v).stall k' = s.stall k' := State.stall_congr (by simp) k'
@[simp] theorem State.stall_setSeq (k : Nat) (v : Seq) (k' : Nat) : (s.setSeq k v).stall k' = s.stall k' := State.stall_congr (by simp) k'
@[simp] theorem State.stall_setPage (k : Nat) (v : Page) (k' : Nat) : (s.setPage k v).stall k' = s.stall k' := State.stall_congr (by simp) k'
@[simp] theorem State.stall_setRoll (k : Nat) (v : Roll) (k' : Nat) : (s.setRoll k v).stall k' = s.stall k' := State.stall_congr (by simp) k'
@[simp] theorem State.stall_setPace (k : Nat) (v : Pace) (k' : Nat) : (s.setPace k v).stall k' = s.stall k' := State.stall_congr (by simp) k'
@[simp] theorem State.stall_setAdapter (k : Nat) (v : Adapter) (k' : Nat) : (s.setAdapter k v).stall k' = s.stall k' := State.stall_congr (by simp) k'
@[simp] theorem State.stall_setTune (k : Nat) (v : TuneJob) (k' : Nat) : (s.setTune k v).stall k' = s.stall k' := State.stall_congr (by simp) k'
@[simp] theorem State.stall_dropHalves (w : Who) (k' : Nat) : (s.dropHalves w).stall k' = s.stall k' := State.stall_congr (by simp) k'
@[simp] theorem State.stall_keepHalves (w : Who) (n : Nat) (k' : Nat) : (s.keepHalves w n).stall k' = s.stall k' := State.stall_congr (by simp) k'
@[simp] theorem State.stall_modGroup (k : Nat) (g : Group → Group) (k' : Nat) : (s.modGroup k g).stall k' = s.stall k' := State.stall_congr (by simp) k'
@[simp] theorem State.stall_modRow (k : Nat) (g : Row → Row) (k' : Nat) : (s.modRow k g).stall k' = s.stall k' := State.stall_congr (by simp) k'
@[simp] theorem State.stall_modSlot (k : Nat) (g : ModelSlot → ModelSlot) (k' : Nat) : (s.modSlot k g).stall k' = s.stall k' := State.stall_congr (by simp) k'
@[simp] theorem State.stall_modFunc (k : Nat) (g : Func → Func) (k' : Nat) : (s.modFunc k g).stall k' = s.stall k' := State.stall_congr (by simp) k'
@[simp] theorem State.group_setGroup_same (k : Nat) (v : Group) : (s.setGroup k v).group k = v := by simp [State.group, State.setGroup]
theorem State.group_setGroup_ne {k j : Nat} (h : j ≠ k) (v : Group) : (s.setGroup k v).group j = s.group j := by simp [State.group, State.setGroup, FMap.get_set_ne h]
@[simp] theorem State.group_modGroup_same (k : Nat) (g : Group → Group) : (s.modGroup k g).group k = g (s.group k) := by simp [State.modGroup]
theorem State.group_modGroup_ne {k j : Nat} (h : j ≠ k) (g : Group → Group) : (s.modGroup k g).group j = s.group j := by simp [State.modGroup, State.group_setGroup_ne _ h]
theorem State.group_congr {s t : State} (h : t.groups = s.groups) (k : Nat) : t.group k = s.group k := by simp only [State.group, h]
@[simp] theorem State.group_raise (n : Nat) (k : Nat) : (s.raise n).group k = s.group k := State.group_congr (by simp) k
@[simp] theorem State.group_send (o : Out) (k : Nat) : (s.send o).group k = s.group k := State.group_congr (by simp) k
@[simp] theorem State.group_msi (f v : Nat) (k : Nat) : (s.msi f v).group k = s.group k := State.group_congr (by simp) k
@[simp] theorem State.group_fnEvent (f b : Nat) (k : Nat) : (s.fnEvent f b).group k = s.group k := State.group_congr (by simp) k
@[simp] theorem State.group_flag (f : RField) (i : Nat) (k : Nat) : (s.flag f i).group k = s.group k := State.group_congr (by simp) k
@[simp] theorem State.group_flagAt (f : RField) (i : Nat) (l : List (RField × Nat)) (k : Nat) : (s.flagAt f i l).group k = s.group k := State.group_congr (by simp) k
@[simp] theorem State.group_accessError (w : Who) (bar off : Nat) (b : Bool) (k : Nat) : (s.accessError w bar off b).group k = s.group k := State.group_congr (by simp) k
@[simp] theorem State.group_writeReg (r : Reg) (i v : Nat) (k : Nat) : (s.writeReg r i v).group k = s.group k := State.group_congr (by simp) k
@[simp] theorem State.group_setReg (r : Reg) (i : Nat) (v : Word64) (k' : Nat) : (s.setReg r i v).group k' = s.group k' := State.group_congr (by simp) k'
@[simp] theorem State.group_wr (f : RField) (i v : Nat) (k' : Nat) : (s.wr f i v).group k' = s.group k' := State.group_congr (by simp) k'
@[simp] theorem State.group_bump (f : RField) (i n : Nat) (k' : Nat) : (s.bump f i n).group k' = s.group k' := State.group_congr (by simp) k'
@[simp] theorem State.group_bumpSat (f : RField) (i n : Nat) (k' : Nat) : (s.bumpSat f i n).group k' = s.group k' := State.group_congr (by simp) k'
@[simp] theorem State.group_setStall (k : Nat) (v : Stall) (k' : Nat) : (s.setStall k v).group k' = s.group k' := State.group_congr (by simp) k'
@[simp] theorem State.group_setRow (k : Nat) (v : Row) (k' : Nat) : (s.setRow k v).group k' = s.group k' := State.group_congr (by simp) k'
@[simp] theorem State.group_setSlot (k : Nat) (v : ModelSlot) (k' : Nat) : (s.setSlot k v).group k' = s.group k' := State.group_congr (by simp) k'
@[simp] theorem State.group_setFunc (k : Nat) (v : Func) (k' : Nat) : (s.setFunc k v).group k' = s.group k' := State.group_congr (by simp) k'
@[simp] theorem State.group_setClerk (k : Nat) (v : Clerk) (k' : Nat) : (s.setClerk k v).group k' = s.group k' := State.group_congr (by simp) k'
@[simp] theorem State.group_setJrn (k : Nat) (v : JEntry) (k' : Nat) : (s.setJrn k v).group k' = s.group k' := State.group_congr (by simp) k'
@[simp] theorem State.group_setSeq (k : Nat) (v : Seq) (k' : Nat) : (s.setSeq k v).group k' = s.group k' := State.group_congr (by simp) k'
@[simp] theorem State.group_setPage (k : Nat) (v : Page) (k' : Nat) : (s.setPage k v).group k' = s.group k' := State.group_congr (by simp) k'
@[simp] theorem State.group_setRoll (k : Nat) (v : Roll) (k' : Nat) : (s.setRoll k v).group k' = s.group k' := State.group_congr (by simp) k'
@[simp] theorem State.group_setPace (k : Nat) (v : Pace) (k' : Nat) : (s.setPace k v).group k' = s.group k' := State.group_congr (by simp) k'
@[simp] theorem State.group_setAdapter (k : Nat) (v : Adapter) (k' : Nat) : (s.setAdapter k v).group k' = s.group k' := State.group_congr (by simp) k'
@[simp] theorem State.group_setTune (k : Nat) (v : TuneJob) (k' : Nat) : (s.setTune k v).group k' = s.group k' := State.group_congr (by simp) k'
@[simp] theorem State.group_dropHalves (w : Who) (k' : Nat) : (s.dropHalves w).group k' = s.group k' := State.group_congr (by simp) k'
@[simp] theorem State.group_keepHalves (w : Who) (n : Nat) (k' : Nat) : (s.keepHalves w n).group k' = s.group k' := State.group_congr (by simp) k'
@[simp] theorem State.group_modStall (k : Nat) (g : Stall → Stall) (k' : Nat) : (s.modStall k g).group k' = s.group k' := State.group_congr (by simp) k'
@[simp] theorem State.group_modRow (k : Nat) (g : Row → Row) (k' : Nat) : (s.modRow k g).group k' = s.group k' := State.group_congr (by simp) k'
@[simp] theorem State.group_modSlot (k : Nat) (g : ModelSlot → ModelSlot) (k' : Nat) : (s.modSlot k g).group k' = s.group k' := State.group_congr (by simp) k'
@[simp] theorem State.group_modFunc (k : Nat) (g : Func → Func) (k' : Nat) : (s.modFunc k g).group k' = s.group k' := State.group_congr (by simp) k'
@[simp] theorem State.row_setRow_same (k : Nat) (v : Row) : (s.setRow k v).row k = v := by simp [State.row, State.setRow]
theorem State.row_setRow_ne {k j : Nat} (h : j ≠ k) (v : Row) : (s.setRow k v).row j = s.row j := by simp [State.row, State.setRow, FMap.get_set_ne h]
@[simp] theorem State.row_modRow_same (k : Nat) (g : Row → Row) : (s.modRow k g).row k = g (s.row k) := by simp [State.modRow]
theorem State.row_modRow_ne {k j : Nat} (h : j ≠ k) (g : Row → Row) : (s.modRow k g).row j = s.row j := by simp [State.modRow, State.row_setRow_ne _ h]
theorem State.row_congr {s t : State} (h : t.rows = s.rows) (k : Nat) : t.row k = s.row k := by simp only [State.row, h]
@[simp] theorem State.row_raise (n : Nat) (k : Nat) : (s.raise n).row k = s.row k := State.row_congr (by simp) k
@[simp] theorem State.row_send (o : Out) (k : Nat) : (s.send o).row k = s.row k := State.row_congr (by simp) k
@[simp] theorem State.row_msi (f v : Nat) (k : Nat) : (s.msi f v).row k = s.row k := State.row_congr (by simp) k
@[simp] theorem State.row_fnEvent (f b : Nat) (k : Nat) : (s.fnEvent f b).row k = s.row k := State.row_congr (by simp) k
@[simp] theorem State.row_flag (f : RField) (i : Nat) (k : Nat) : (s.flag f i).row k = s.row k := State.row_congr (by simp) k
@[simp] theorem State.row_flagAt (f : RField) (i : Nat) (l : List (RField × Nat)) (k : Nat) : (s.flagAt f i l).row k = s.row k := State.row_congr (by simp) k
@[simp] theorem State.row_accessError (w : Who) (bar off : Nat) (b : Bool) (k : Nat) : (s.accessError w bar off b).row k = s.row k := State.row_congr (by simp) k
@[simp] theorem State.row_writeReg (r : Reg) (i v : Nat) (k : Nat) : (s.writeReg r i v).row k = s.row k := State.row_congr (by simp) k
@[simp] theorem State.row_setReg (r : Reg) (i : Nat) (v : Word64) (k' : Nat) : (s.setReg r i v).row k' = s.row k' := State.row_congr (by simp) k'
@[simp] theorem State.row_wr (f : RField) (i v : Nat) (k' : Nat) : (s.wr f i v).row k' = s.row k' := State.row_congr (by simp) k'
@[simp] theorem State.row_bump (f : RField) (i n : Nat) (k' : Nat) : (s.bump f i n).row k' = s.row k' := State.row_congr (by simp) k'
@[simp] theorem State.row_bumpSat (f : RField) (i n : Nat) (k' : Nat) : (s.bumpSat f i n).row k' = s.row k' := State.row_congr (by simp) k'
@[simp] theorem State.row_setStall (k : Nat) (v : Stall) (k' : Nat) : (s.setStall k v).row k' = s.row k' := State.row_congr (by simp) k'
@[simp] theorem State.row_setGroup (k : Nat) (v : Group) (k' : Nat) : (s.setGroup k v).row k' = s.row k' := State.row_congr (by simp) k'
@[simp] theorem State.row_setSlot (k : Nat) (v : ModelSlot) (k' : Nat) : (s.setSlot k v).row k' = s.row k' := State.row_congr (by simp) k'
@[simp] theorem State.row_setFunc (k : Nat) (v : Func) (k' : Nat) : (s.setFunc k v).row k' = s.row k' := State.row_congr (by simp) k'
@[simp] theorem State.row_setClerk (k : Nat) (v : Clerk) (k' : Nat) : (s.setClerk k v).row k' = s.row k' := State.row_congr (by simp) k'
@[simp] theorem State.row_setJrn (k : Nat) (v : JEntry) (k' : Nat) : (s.setJrn k v).row k' = s.row k' := State.row_congr (by simp) k'
@[simp] theorem State.row_setSeq (k : Nat) (v : Seq) (k' : Nat) : (s.setSeq k v).row k' = s.row k' := State.row_congr (by simp) k'
@[simp] theorem State.row_setPage (k : Nat) (v : Page) (k' : Nat) : (s.setPage k v).row k' = s.row k' := State.row_congr (by simp) k'
@[simp] theorem State.row_setRoll (k : Nat) (v : Roll) (k' : Nat) : (s.setRoll k v).row k' = s.row k' := State.row_congr (by simp) k'
@[simp] theorem State.row_setPace (k : Nat) (v : Pace) (k' : Nat) : (s.setPace k v).row k' = s.row k' := State.row_congr (by simp) k'
@[simp] theorem State.row_setAdapter (k : Nat) (v : Adapter) (k' : Nat) : (s.setAdapter k v).row k' = s.row k' := State.row_congr (by simp) k'
@[simp] theorem State.row_setTune (k : Nat) (v : TuneJob) (k' : Nat) : (s.setTune k v).row k' = s.row k' := State.row_congr (by simp) k'
@[simp] theorem State.row_dropHalves (w : Who) (k' : Nat) : (s.dropHalves w).row k' = s.row k' := State.row_congr (by simp) k'
@[simp] theorem State.row_keepHalves (w : Who) (n : Nat) (k' : Nat) : (s.keepHalves w n).row k' = s.row k' := State.row_congr (by simp) k'
@[simp] theorem State.row_modStall (k : Nat) (g : Stall → Stall) (k' : Nat) : (s.modStall k g).row k' = s.row k' := State.row_congr (by simp) k'
@[simp] theorem State.row_modGroup (k : Nat) (g : Group → Group) (k' : Nat) : (s.modGroup k g).row k' = s.row k' := State.row_congr (by simp) k'
@[simp] theorem State.row_modSlot (k : Nat) (g : ModelSlot → ModelSlot) (k' : Nat) : (s.modSlot k g).row k' = s.row k' := State.row_congr (by simp) k'
@[simp] theorem State.row_modFunc (k : Nat) (g : Func → Func) (k' : Nat) : (s.modFunc k g).row k' = s.row k' := State.row_congr (by simp) k'
@[simp] theorem State.slot_setSlot_same (k : Nat) (v : ModelSlot) : (s.setSlot k v).slot k = v := by simp [State.slot, State.setSlot]
theorem State.slot_setSlot_ne {k j : Nat} (h : j ≠ k) (v : ModelSlot) : (s.setSlot k v).slot j = s.slot j := by simp [State.slot, State.setSlot, FMap.get_set_ne h]
@[simp] theorem State.slot_modSlot_same (k : Nat) (g : ModelSlot → ModelSlot) : (s.modSlot k g).slot k = g (s.slot k) := by simp [State.modSlot]
theorem State.slot_modSlot_ne {k j : Nat} (h : j ≠ k) (g : ModelSlot → ModelSlot) : (s.modSlot k g).slot j = s.slot j := by simp [State.modSlot, State.slot_setSlot_ne _ h]
theorem State.slot_congr {s t : State} (h : t.slots = s.slots) (k : Nat) : t.slot k = s.slot k := by simp only [State.slot, h]
@[simp] theorem State.slot_raise (n : Nat) (k : Nat) : (s.raise n).slot k = s.slot k := State.slot_congr (by simp) k
@[simp] theorem State.slot_send (o : Out) (k : Nat) : (s.send o).slot k = s.slot k := State.slot_congr (by simp) k
@[simp] theorem State.slot_msi (f v : Nat) (k : Nat) : (s.msi f v).slot k = s.slot k := State.slot_congr (by simp) k
@[simp] theorem State.slot_fnEvent (f b : Nat) (k : Nat) : (s.fnEvent f b).slot k = s.slot k := State.slot_congr (by simp) k
@[simp] theorem State.slot_flag (f : RField) (i : Nat) (k : Nat) : (s.flag f i).slot k = s.slot k := State.slot_congr (by simp) k
@[simp] theorem State.slot_flagAt (f : RField) (i : Nat) (l : List (RField × Nat)) (k : Nat) : (s.flagAt f i l).slot k = s.slot k := State.slot_congr (by simp) k
@[simp] theorem State.slot_accessError (w : Who) (bar off : Nat) (b : Bool) (k : Nat) : (s.accessError w bar off b).slot k = s.slot k := State.slot_congr (by simp) k
@[simp] theorem State.slot_writeReg (r : Reg) (i v : Nat) (k : Nat) : (s.writeReg r i v).slot k = s.slot k := State.slot_congr (by simp) k
@[simp] theorem State.slot_setReg (r : Reg) (i : Nat) (v : Word64) (k' : Nat) : (s.setReg r i v).slot k' = s.slot k' := State.slot_congr (by simp) k'
@[simp] theorem State.slot_wr (f : RField) (i v : Nat) (k' : Nat) : (s.wr f i v).slot k' = s.slot k' := State.slot_congr (by simp) k'
@[simp] theorem State.slot_bump (f : RField) (i n : Nat) (k' : Nat) : (s.bump f i n).slot k' = s.slot k' := State.slot_congr (by simp) k'
@[simp] theorem State.slot_bumpSat (f : RField) (i n : Nat) (k' : Nat) : (s.bumpSat f i n).slot k' = s.slot k' := State.slot_congr (by simp) k'
@[simp] theorem State.slot_setStall (k : Nat) (v : Stall) (k' : Nat) : (s.setStall k v).slot k' = s.slot k' := State.slot_congr (by simp) k'
@[simp] theorem State.slot_setGroup (k : Nat) (v : Group) (k' : Nat) : (s.setGroup k v).slot k' = s.slot k' := State.slot_congr (by simp) k'
@[simp] theorem State.slot_setRow (k : Nat) (v : Row) (k' : Nat) : (s.setRow k v).slot k' = s.slot k' := State.slot_congr (by simp) k'
@[simp] theorem State.slot_setFunc (k : Nat) (v : Func) (k' : Nat) : (s.setFunc k v).slot k' = s.slot k' := State.slot_congr (by simp) k'
@[simp] theorem State.slot_setClerk (k : Nat) (v : Clerk) (k' : Nat) : (s.setClerk k v).slot k' = s.slot k' := State.slot_congr (by simp) k'
@[simp] theorem State.slot_setJrn (k : Nat) (v : JEntry) (k' : Nat) : (s.setJrn k v).slot k' = s.slot k' := State.slot_congr (by simp) k'
@[simp] theorem State.slot_setSeq (k : Nat) (v : Seq) (k' : Nat) : (s.setSeq k v).slot k' = s.slot k' := State.slot_congr (by simp) k'
@[simp] theorem State.slot_setPage (k : Nat) (v : Page) (k' : Nat) : (s.setPage k v).slot k' = s.slot k' := State.slot_congr (by simp) k'
@[simp] theorem State.slot_setRoll (k : Nat) (v : Roll) (k' : Nat) : (s.setRoll k v).slot k' = s.slot k' := State.slot_congr (by simp) k'
@[simp] theorem State.slot_setPace (k : Nat) (v : Pace) (k' : Nat) : (s.setPace k v).slot k' = s.slot k' := State.slot_congr (by simp) k'
@[simp] theorem State.slot_setAdapter (k : Nat) (v : Adapter) (k' : Nat) : (s.setAdapter k v).slot k' = s.slot k' := State.slot_congr (by simp) k'
@[simp] theorem State.slot_setTune (k : Nat) (v : TuneJob) (k' : Nat) : (s.setTune k v).slot k' = s.slot k' := State.slot_congr (by simp) k'
@[simp] theorem State.slot_dropHalves (w : Who) (k' : Nat) : (s.dropHalves w).slot k' = s.slot k' := State.slot_congr (by simp) k'
@[simp] theorem State.slot_keepHalves (w : Who) (n : Nat) (k' : Nat) : (s.keepHalves w n).slot k' = s.slot k' := State.slot_congr (by simp) k'
@[simp] theorem State.slot_modStall (k : Nat) (g : Stall → Stall) (k' : Nat) : (s.modStall k g).slot k' = s.slot k' := State.slot_congr (by simp) k'
@[simp] theorem State.slot_modGroup (k : Nat) (g : Group → Group) (k' : Nat) : (s.modGroup k g).slot k' = s.slot k' := State.slot_congr (by simp) k'
@[simp] theorem State.slot_modRow (k : Nat) (g : Row → Row) (k' : Nat) : (s.modRow k g).slot k' = s.slot k' := State.slot_congr (by simp) k'
@[simp] theorem State.slot_modFunc (k : Nat) (g : Func → Func) (k' : Nat) : (s.modFunc k g).slot k' = s.slot k' := State.slot_congr (by simp) k'
@[simp] theorem State.func_setFunc_same (k : Nat) (v : Func) : (s.setFunc k v).func k = v := by simp [State.func, State.setFunc]
theorem State.func_setFunc_ne {k j : Nat} (h : j ≠ k) (v : Func) : (s.setFunc k v).func j = s.func j := by simp [State.func, State.setFunc, FMap.get_set_ne h]
@[simp] theorem State.func_modFunc_same (k : Nat) (g : Func → Func) : (s.modFunc k g).func k = g (s.func k) := by simp [State.modFunc]
theorem State.func_modFunc_ne {k j : Nat} (h : j ≠ k) (g : Func → Func) : (s.modFunc k g).func j = s.func j := by simp [State.modFunc, State.func_setFunc_ne _ h]
theorem State.func_congr {s t : State} (h : t.funcs = s.funcs) (k : Nat) : t.func k = s.func k := by simp only [State.func, h]
@[simp] theorem State.func_setReg (r : Reg) (i : Nat) (v : Word64) (k' : Nat) : (s.setReg r i v).func k' = s.func k' := State.func_congr (by simp) k'
@[simp] theorem State.func_wr (f : RField) (i v : Nat) (k' : Nat) : (s.wr f i v).func k' = s.func k' := State.func_congr (by simp) k'
@[simp] theorem State.func_bump (f : RField) (i n : Nat) (k' : Nat) : (s.bump f i n).func k' = s.func k' := State.func_congr (by simp) k'
@[simp] theorem State.func_bumpSat (f : RField) (i n : Nat) (k' : Nat) : (s.bumpSat f i n).func k' = s.func k' := State.func_congr (by simp) k'
@[simp] theorem State.func_setStall (k : Nat) (v : Stall) (k' : Nat) : (s.setStall k v).func k' = s.func k' := State.func_congr (by simp) k'
@[simp] theorem State.func_setGroup (k : Nat) (v : Group) (k' : Nat) : (s.setGroup k v).func k' = s.func k' := State.func_congr (by simp) k'
@[simp] theorem State.func_setRow (k : Nat) (v : Row) (k' : Nat) : (s.setRow k v).func k' = s.func k' := State.func_congr (by simp) k'
@[simp] theorem State.func_setSlot (k : Nat) (v : ModelSlot) (k' : Nat) : (s.setSlot k v).func k' = s.func k' := State.func_congr (by simp) k'
@[simp] theorem State.func_setClerk (k : Nat) (v : Clerk) (k' : Nat) : (s.setClerk k v).func k' = s.func k' := State.func_congr (by simp) k'
@[simp] theorem State.func_setJrn (k : Nat) (v : JEntry) (k' : Nat) : (s.setJrn k v).func k' = s.func k' := State.func_congr (by simp) k'
@[simp] theorem State.func_setSeq (k : Nat) (v : Seq) (k' : Nat) : (s.setSeq k v).func k' = s.func k' := State.func_congr (by simp) k'
@[simp] theorem State.func_setPage (k : Nat) (v : Page) (k' : Nat) : (s.setPage k v).func k' = s.func k' := State.func_congr (by simp) k'
@[simp] theorem State.func_setRoll (k : Nat) (v : Roll) (k' : Nat) : (s.setRoll k v).func k' = s.func k' := State.func_congr (by simp) k'
@[simp] theorem State.func_setPace (k : Nat) (v : Pace) (k' : Nat) : (s.setPace k v).func k' = s.func k' := State.func_congr (by simp) k'
@[simp] theorem State.func_setAdapter (k : Nat) (v : Adapter) (k' : Nat) : (s.setAdapter k v).func k' = s.func k' := State.func_congr (by simp) k'
@[simp] theorem State.func_setTune (k : Nat) (v : TuneJob) (k' : Nat) : (s.setTune k v).func k' = s.func k' := State.func_congr (by simp) k'
@[simp] theorem State.func_dropHalves (w : Who) (k' : Nat) : (s.dropHalves w).func k' = s.func k' := State.func_congr (by simp) k'
@[simp] theorem State.func_keepHalves (w : Who) (n : Nat) (k' : Nat) : (s.keepHalves w n).func k' = s.func k' := State.func_congr (by simp) k'
@[simp] theorem State.func_modStall (k : Nat) (g : Stall → Stall) (k' : Nat) : (s.modStall k g).func k' = s.func k' := State.func_congr (by simp) k'
@[simp] theorem State.func_modGroup (k : Nat) (g : Group → Group) (k' : Nat) : (s.modGroup k g).func k' = s.func k' := State.func_congr (by simp) k'
@[simp] theorem State.func_modRow (k : Nat) (g : Row → Row) (k' : Nat) : (s.modRow k g).func k' = s.func k' := State.func_congr (by simp) k'
@[simp] theorem State.func_modSlot (k : Nat) (g : ModelSlot → ModelSlot) (k' : Nat) : (s.modSlot k g).func k' = s.func k' := State.func_congr (by simp) k'
@[simp] theorem State.stall_wakeStall (a k : Nat) : (s.wakeStall a).stall k = s.stall k := State.stall_congr (by simp) k
@[simp] theorem State.stall_wakeRow (a k : Nat) : (s.wakeRow a).stall k = s.stall k := State.stall_congr (by simp) k
@[simp] theorem State.group_wakeStall (a k : Nat) : (s.wakeStall a).group k = s.group k := State.group_congr (by simp) k
@[simp] theorem State.group_wakeRow (a k : Nat) : (s.wakeRow a).group k = s.group k := State.group_congr (by simp) k
@[simp] theorem State.row_wakeStall (a k : Nat) : (s.wakeStall a).row k = s.row k := State.row_congr (by simp) k
@[simp] theorem State.row_wakeRow (a k : Nat) : (s.wakeRow a).row k = s.row k := State.row_congr (by simp) k
@[simp] theorem State.slot_wakeStall (a k : Nat) : (s.wakeStall a).slot k = s.slot k := State.slot_congr (by simp) k
@[simp] theorem State.slot_wakeRow (a k : Nat) : (s.wakeRow a).slot k = s.slot k := State.slot_congr (by simp) k
@[simp] theorem State.func_wakeStall (a k : Nat) : (s.wakeStall a).func k = s.func k := State.func_congr (by simp) k
@[simp] theorem State.func_wakeRow (a k : Nat) : (s.wakeRow a).func k = s.func k := State.func_congr (by simp) k

end Sys2Proof.Machine
end

