-- ==== Sys2Proof/Tests/Slice0.lean ====
section
/-! SUPPORT. Our own tests: witnesses for the hypotheses of the statements, ill-formed commands that the check refuses, and single steps with the spec's own numbers. -/

namespace Sys2Proof.Tests

open Sys2Proof Sys2Proof.Machine

set_option Elab.async false

theorem wit_sameCycle : HOST_FN_EVT_EN.EN.lo + HOST_FN_EVT_EN.EN.wd ≤ 64 ∧ HOST_FN_EVT_EN.EN.acc = .rw ∧ HOST_FN_EVT_EN.EN.flt = .any ∧
    TEN_FAULT.ACCESS.acc = .w1c ∧ STL_CLIP_CNT.V.acc = .rc ∧ STL_CLIP_CNT.V.rst = 0 := by decide

/-- R12: the flag that the device sets in the cycle of a write of 1 stays. -/
theorem test_sameCycle : RField.sameCycle false 3 (fun x => HOST_FN_EVT.FAULT.put x 1) 0 HOST_FN_EVT.FAULT = 1 := by decide

/-- A stall of row 0 that has slept since reset, with VDD_AO up, in service. -/
def asleep : State := { State.reset with now := 100 }

theorem wit_wakeRequest : asleep.wakeOk (.stall 3 4) = true ∧ asleep.stState (stallId 3 4) < 2 ∧
    asleep.wakeOk (.row 191) = true ∧ FMap.get 0 asleep.sleep 191 < 2 ∧ asleep.wakeOk (.quarter 3) = true ∧ FMap.get 0 asleep.sleep 195 < 2 := by decide

/-- The stall 3/4 waking, its time come. -/
def waking : State := { asleep.wr STL_STAT.STATE (stallId 3 4) 2 with wakeAt := [(stallId 3 4, 90), (12288 + 3, 100)], sleep := [(3, 2)] }

theorem wit_wakeComplete : stallOk 3 4 = true ∧ waking.stState (stallId 3 4) = 2 ∧ FMap.get 0 waking.wakeAt (stallId 3 4) ≠ 0 ∧
    FMap.get 0 waking.wakeAt (stallId 3 4) ≤ waking.now ∧
    FMap.get 0 waking.sleep 3 = 2 ∧ FMap.get 0 waking.wakeAt (12288 + 3) ≠ 0 ∧ FMap.get 0 waking.wakeAt (12288 + 3) ≤ waking.now := by decide

/-- Long after the stall last worked, sleep allowed. -/
def idle : State := { ((asleep.wr STL_STAT.STATE (stallId 3 4) 3).wr WDN_CTL.SLEEP_EN 0 1) with now := 100000000, sleep := [(5, 3)] }

theorem wit_clockGated : idle.on WDN_CTL.SLEEP_EN = true ∧ idle.stallIdle (stallId 3 4) = true ∧
    FMap.get 0 idle.sleep 5 = 3 ∧ idle.rowIdle 5 = true := by decide

/-- The same stall and row, gated long ago. -/
def gated : State := { idle.wr STL_STAT.STATE (stallId 3 4) 1 with gatedAt := [(stallId 3 4, 10), (12288 + 5, 20)], sleep := [(5, 1)] }

theorem wit_biasOff : gated.stState (stallId 3 4) = 1 ∧ gated.longGated (.stall 3 4) = true ∧ gated.stallEmpty (stallId 3 4) = true ∧
    FMap.get 0 gated.sleep 5 = 1 ∧ gated.longGated (.row 5) = true ∧ (∀ p, p < 33 → gated.stState (stallId 5 p) = 0) := by decide

/-- Stall 0/0 in RUN with its enables set; the device has started. -/
def running : State := (((((((State.reset.wr WDN_RST_CAUSE.STATE 0 1).wr STL_STAT.STATE 0 3).wr STL_CTL.EN 0 1).wr STL_CTL.FRESH_EN 0 1).wr STL_CTL.AUTO_SPARE 0 1).wr STL_GRP_CFG.VERIFIED0 0 1).modGroup 0 fun g => { g with withdrawn := false })

/-- A stock descriptor on group 0, bank 0, all crates, RANGE 3. -/
def stockDesc : Desc := { probeDesc 0 3 with slot := 0, tag := 7 }

theorem wit_descriptorArrival : running.mayReceive (stallId 0 0) = true ∧ running.servedShut (stallId 0 0) (Desc.ofNat 4).group = false ∧
    running.freshShut (stallId 0 0) = false ∧ (running.stall 0).held = [] ∧
    (running.receive 0 0 [(2, 5), (1, 6), (0, 4), (0, 7)]).pickDesc (stallId 0 0) = some ⟨0, 0, 4, 2⟩ := by decide

/-- R283: on a reserved stall a paced frame goes before decode. -/
theorem test_pickDesc_reserved : (({ running with paces := [(0, { Pace.init with stalls := [0] })] } : State).receive 0 0 [(2, 5), (0, 4), (1, 6)]).pickDesc (stallId 0 0) = some ⟨0, 1, 6, 2⟩ := by decide

theorem wit_stlWrite : running.memOpen (.func 0) = true ∧ whoAdmin (.func 0) = true ∧ running.boot.inReset.contains (stallId 0 0) = false := by decide

theorem wit_sliceSubstitution : running.shadowed (stallId 0 0) 7 2 = true ∧ outOfLimit [5, -5, 6, 7, 9, -9, 5, 5] = true ∧
    running.on STL_CTL.AUTO_SPARE 0 = true ∧ running.rd (subField 7) 0 = 4 ∧ (running.wr (subField 7) 0 2).rd (subField 7) 0 ≠ 4 := by decide

/-- A fresh descriptor with content tag 9 waits; plane 1 is READY with it. -/
def swapping : State := ((running.wr STL_PLANE.P1_STATE 0 2).wr STL_PLANE.P1_TAG 0 9).setStall 0
  { Stall.init with queue := [{ stockDesc with stock := false, fresh := true, ftag := 9 }] }

theorem wit_planeSwap : ([0, 1].find? fun p => swapping.maySwap (stallId 0 0) p) = some 1 := by decide

/-- The stock descriptor is the head of the queue. -/
def queued : State := running.setStall 0 { Stall.init with queue := [stockDesc] }

theorem wit_strikeIssue : ((queued.edgesPass 0 1).unshut 0).mayIssue 0 = true ∧ ((queued.edgesPass 0 1).unshut 0).probeGroup 0 = none ∧
    ((((queued.edgesPass 0 1).unshut 0).refuseAll 0 17).pick 0 = .issue 0 stockDesc) ∧
    (((queued.edgesPass 0 1).unshut 0).refuseAll 0 17).directionOk 0 stockDesc.trans = true := by decide +kernel

/-- A probe of group 0 is due. -/
def probing : State := running.modGroup 0 fun g => { g with probeDue := true, probeE := [Dy.zero] }

/-- The lane returns, its rotation at group 1, and only group 0 holds a tile. -/
def returning : State := (running.modGroup 0 fun g => { g with probeE := [Dy.zero] }).modStall 0 fun st => { st with idleProbe := true, laneGrp := 1 }

theorem wit_idleProbe : (returning.edgesPass 0 1).mayIssue 0 = true ∧ (returning.edgesPass 0 1).directionOk 0 false = true ∧
    (returning.edgesPass 0 1).probeGroup 0 = none ∧ (returning.edgesPass 0 1).laneGroup 0 = some 0 := by decide +kernel

theorem wit_probeStrike : (probing.edgesPass 0 1).mayIssue 0 = true ∧ (probing.edgesPass 0 1).directionOk 0 false = true ∧
    (probing.edgesPass 0 1).probeGroup 0 = some 0 := by decide +kernel

/-- A generation with one stocked tile (stall 0, group 0), one reduction fed by it, and one valid shard. -/
def genA : Gen :=
  { man := { Manifest.empty with modelId := 5, generation := 2, flags := 2, pitch := [⟨11, 0, 0, 0, 3, 255, 0, 0, 0, 0, 0, 0, 0, [], 0⟩], streams := [⟨0, 0, 0, 3, 0, 512, 512, 256, 12, 0, 0⟩] },
    shards := [(0, ⟨true, 0, 0, [], [], 0, false, []⟩)], kvPages := 8, srcAddr := 0, pool := [] }

/-- The feed of that tile. -/
def feedA : Feed := ⟨0, 1, 2, 0, false⟩

/-- A narrow record of vector 7 for it. -/
def narrowA : Narrow := ⟨7, false, false, false, [], [], 0, [], [], [], [feedA], [0], 3, [], true, [], [], []⟩

/-- A strike of the stock descriptor in flight. -/
def strikeA : Strike := running.mkStrike 0 stockDesc 1

/-- Stall 0/0 with vector 7 recorded, a strike at some stage, a trim step due and an overflow pass. -/
def striking (x : Strike) (failed : Bool) : State := (running.setSlot 1 { ModelSlot.init with cur := some genA, started := true }).setStall 0
  { Stall.init with inflight := [x], narrow := [narrowA], trimStep := [(2, (1, 1))], passes := [⟨7, 0, 3, failed, false, feedA⟩] }

theorem wit_codesReceived : ((striking strikeA false).stall (stallId 0 0)).inflight.find? (fun x => x.stage == .issued) = some strikeA := by decide

/-- The same strike corrected, with no pass left. -/
def releasing : State := (striking { strikeA with stage := .corrected } false).modStall 0 fun st => { st with passes := [] }

theorem wit_strikeRelease :
    (releasing.stall (stallId 0 0)).inflight.find? (fun x => x.stage == .corrected && x.no == 1 && x.desc.fresh == false)
      = some { strikeA with stage := .corrected } ∧
    releasing.isCopy (stallId 0 0) 0 = false ∧ (releasing.stall (stallId 0 0)).passesDone 7 0 = true ∧
    (releasing.stall (stallId 0 0)).record 7 = some narrowA ∧ narrowA.feed 0 = some feedA := by decide

theorem wit_trims : running.boot.inReset.contains (12288 + 0) = false ∧
    FMap.get (0, 0) ((striking strikeA false).stall (stallId 0 0)).trimStep 2 = (1, 1) := by decide

theorem wit_passes : ((striking strikeA false).stall (stallId 0 0)).passes = ⟨7, 0, 3, false, false, feedA⟩ :: [] ∧
    (striking strikeA false).passRow feedA = true ∧ (striking strikeA false).ueIn feedA.slot feedA.gen ((striking strikeA false).feedShard feedA) none = none ∧
    (((striking strikeA false).genOf feedA.slot feedA.gen).bind fun g => (striking strikeA false).readShard feedA.slot g ((striking strikeA false).feedShard feedA)).isSome = true := by decide

theorem wit_clipReplay : (striking { strikeA with stage := .clipped } false).clippedOf (stallId 0 0) 1 false = some { strikeA with stage := .clipped } ∧
    clipNext { strikeA with stage := .clipped } = .replay 4 ∧ clipNext { strikeA with stage := .clipped, clips := 2 } = .split := by decide

/-- A vector of one BF16 element 1.0 for the tile of genA. -/
def vecA : VecIn := ⟨7, 0, false, .bf16, [0x3F80], [], [(0, 1, 2, 0)], 3, false, .plain⟩

/-- That state, row 0 in RUN. -/
def awake : State := { running with sleep := [(0, 3)] }

theorem wit_vectorArrival : stallOk 0 vecA.stall = true ∧ awake.rowAwake 0 = true ∧ (awake.row 0).vecWait = [] ∧ (awake.row 0).bufTaken 2 = false ∧
    awake.vecValues 0 vecA = some [0x3F800000#32] := by decide

theorem wit_vectorWaits : running.rowAwake 0 = false ∧ (running.row 0).bufTaken 2 = false := by decide

/-- Eighths of Model A and Model B (chapter 5). -/
theorem test_eighths : eighthLen 11264 = 1408 ∧ eighthLen 9216 = 1152 := by decide

/-- The vector in buffer 2. -/
def buffered : State := awake.modRow 0 fun r => { r with bufs := [(2, ⟨7, 0, false, [0x3F800000#32], false, [0], [feedA], 3, false, []⟩)] }

theorem wit_quantise : (FMap.get Vec.none (buffered.row 0).bufs 2).done = false ∧ (FMap.get Vec.none (buffered.row 0).bufs 2).feeds ≠ [] ∧
    (buffered.stall (stallId 0 0)).narrow.length < 2 ∧ (buffered.stall (stallId 0 0)).pairFree (buffered.row 0).edge = true ∧
    buffered.rowAwake 0 = true ∧ (buffered.row 0).vecWait = [] := by decide

/-- A wide tile whose hold has run out. -/
def expiring : State := (running.wr TAL_TILE_STAT.WIDE 1 1).wr TAL_TILE_STAT.HOLD_LEFT 1 0

theorem wit_holdExpiry : expiring.on TAL_TILE_STAT.WIDE (groupId (stallId 0 0) 1) = true ∧ expiring.tileWide (groupId (stallId 0 0) 1) = false := by decide

/-- The 1,024th step marker of row 0. -/
def windowed : State := running.wr TAL_STEP_CNT.V 0 1024

theorem wit_wideStorm : windowed.rd TAL_STEP_CNT.V 0 ≠ 0 ∧ windowed.rd TAL_STEP_CNT.V 0 % windowed.rd TAL_NQ_STORM.WINDOW 0 = 0 ∧
    (windowed.row 0).stormStep ≠ windowed.rd TAL_STEP_CNT.V 0 := by decide

/-- Stall 0/0 with a refusal marker of the stock descriptor, its vector recorded. -/
def refused : State := (striking strikeA false).modStall 0 fun st => { st with markers := [stockDesc] }

theorem wit_refusalMarker : (refused.stall (stallId 0 0)).markers = stockDesc :: [] ∧ (refused.stall (stallId 0 0)).record stockDesc.tag = some narrowA ∧
    narrowA.feed stockDesc.group = some feedA ∧ refused.genOf feedA.slot feedA.gen = some genA := by decide

/-- A reduction with no contributions left, formed at row 0 or sent to row 1. -/
def redA (out : Nat) : RedRec := ⟨11, 0, [], [], out, 0xFF, [], 0⟩

/-- Its open instance. -/
def instA : Inst := ⟨11, 7, 1, 2, true, 0, [], [], [], [], [], false, false, [], [], 3⟩

/-- Row 0 with that instance open. -/
def reducing (out : Nat) : State := (running.setSlot 1 { ModelSlot.init with cur := some { genA with man := { genA.man with reductions := [redA out] } } }).modRow 0
  fun r => { r with insts := [instA] }

theorem wit_reductionOutput : (reducing 0).instOf 0 11 7 = some instA ∧ ((reducing 0).genOf 1 2).isSome = true ∧
    ((reducing 0).genOf 1 2).bind (fun g => g.red 11) = some (redA 0) ∧ instA.localDone (redA 0) 0 = true ∧ (redA 0).outDev = 0xFF ∧
    (redA 0).outRow = 0 ∧ instA.remoteDone (redA 0) 0 = true := by decide

theorem wit_reductionPart : ((reducing 1).genOf 1 2).bind (fun g => g.red 11) = some (redA 1) ∧ instA.localDone (redA 1) 0 = true ∧ (redA 1).outRow ≠ 0 := by decide

/-- Stall 0/0 drained by the register command. -/
def draining (done : Bool) : State := (running.setStall 0 { Stall.init with drains := [.cmd], drained := done }).wr STL_STAT.STATE 0 4

theorem wit_drains : running.boot.inReset.contains (12288 + 0) = false ∧ ((draining true).stall (stallId 0 0)).drains = [.cmd] ∧
    (draining false).drainDue (stallId 0 0) = true ∧ ((draining false).stall (stallId 0 0)).early = [] ∧ (draining false).boot.reset = none := by decide

/-- The journal of group 0 of stall 0/0, every crate in one state. -/
def crates (st : JState) : State := { running with journal := (List.range 8).map fun i => (i, ⟨st, 3, 0, 0, false⟩) }

theorem wit_restock : (crates .verified).stock = none ∧ 5 < jrnCount ∧
    (∀ i ∈ groupCrates (jrnStall 5) (jrnGroup 5), ((crates .verified).jrn i).state = .verified) ∧ (crates .verified).scrub.busy = none := by decide

/-- The record of crate 0: FMT 0, level data whose digest is that of no bytes. -/
def crateRecBytes : List Byte := List.replicate 32 0#8 ++ sha512 []

/-- The first half of a signature under the key below. -/
def testR : Nat := 0x76ca1fa9613a70e8b2cecd8f64877968e32b91b16cd65166ca44b1439883a919e263c09cff2f7f39e770ebda9057d2f1198804a1c160f0bb99eb9ae6fab28f78b

/-- An image header of image 9 with that one record, at offset 320. -/
def hdrA : List Byte := [9#8] ++ List.replicate 7 0#8 ++ [1#8, 0#8, 0#8, 0#8, 1#8, 0#8, 0#8, 0#8, 0x40#8, 1#8] ++ List.replicate 46 0#8 ++ sha512 crateRecBytes ++
  beBytes 66 testR ++ beBytes 66 0xba87b059d74566f789b8d5c7e1c7a7916fe5c6e5c6e312783e1c2faf278471b0a285723357bb4ffa487982d5618572e1801c15f8a4771f388eabd84a4a993a233 ++ List.replicate 60 0#8

/-- A public key on the curve, for which the headers below are signed. -/
def testKey : List Byte := 4#8 :: (beBytes 66 0x190c463765a3cd9ce7cfe89bba06da993f3ba4ad8d59f1f28ffc2f8f52a8202a4119d90b79d94dc4d7e6edab5240960d4314cd306ff0b0d95e3f5c653480b9f8391 ++
  beBytes 66 0x1cf82f69bd577257175c30ec17c78a8df32bd373fa67dc37d5b6a68a459868891474acc8397aea5ae79428f1d9ade262f5e65eb6b33a5fcd7e648d930a2fcf61f63)

/-- The device has started under a charter with that key in slot 0. -/
def chartered : State := { State.reset.wr WDN_RST_CAUSE.STATE 0 1 with charter := { Charter.init with keys := [testKey] } }

theorem wit_jobStart : chartered.memOpen (.func 0) = true ∧ chartered.stock = none ∧ chartered.working = [] ∧ chartered.stkRailOff = false ∧
    chartered.spanOk (chartered.rd STK_IMG_ADDR.V) 320 = true ∧ (ImageHdr.ofBytes hdrA).recOffset = 320 ∧ (ImageHdr.ofBytes hdrA).count = 1 ∧
    chartered.spanOk (chartered.rd STK_IMG_ADDR.V + 320) 96 = true ∧
    chartered.imageSlot (ImageHdr.ofBytes hdrA).imageId (ImageHdr.ofBytes hdrA).digest = some 0 := by decide +kernel

theorem wit_imageOk : chartered.imageOk hdrA (ImageHdr.ofBytes hdrA) ((entriesOf 96 1 0 crateRecBytes).map CrateRec.ofBytes) crateRecBytes = true := by decide +kernel

theorem wit_imageBad : chartered.imageOk hdrA (ImageHdr.ofBytes hdrA) ((entriesOf 96 1 0 crateRecBytes).map CrateRec.ofBytes) [] = false := by decide +kernel

theorem wit_imageRules : [(0, CrateRec.ofBytes crateRecBytes)].all (chartered.fmtOk [(0, CrateRec.ofBytes crateRecBytes)]) = true ∧
    [(0, CrateRec.ofBytes crateRecBytes)].all (pairOk [(0, CrateRec.ofBytes crateRecBytes)]) = true := by decide +kernel

/-- A job that has crates 2 and 3 to program or to touch. -/
def jobA : StockJob :=
  { slot := 0, recs := [(2, { CrateRec.ofBytes crateRecBytes with index := 2 }), (3, { CrateRec.ofBytes crateRecBytes with index := 3 })], todo := [2, 3], touch := [2, 3],
    restock := false, abort := false, failing := false, settleAt := 5, abortAt := 0, addr := 0 }

/-- The job in a phase of STK_STAT.JOB, with crates in progress. -/
def stocking (phase : Nat) (st : JState) (ws : List CrateWork) : State :=
  { ((crates st).wr STK_STAT.JOB 0 phase).wr WDN_ROUND.V 0 9 with stock := some jobA, working := ws }

theorem wit_programStart : (stocking 2 .unsettled []).rd STK_STAT.JOB = 2 ∧ jobA.abort = false ∧ jobA.failing = false ∧
    ((stocking 2 .unsettled []).hotRows jobA.todo).nextCrate jobA.todo = some 2 ∧
    ((stocking 2 .unsettled []).jrn 2).count < 10000 ∧ refetches (jobA.recOf 2) [⟨[1#8], .none⟩, ⟨[], .none⟩] = some 1 ∧ (stocking 2 .unsettled []).groupQuiet 2 = true ∧
    (stocking 2 .unsettled []).spanOk (jobA.addr + (jobA.recOf 2).offset) 524288 = true := by decide +kernel

theorem wit_programWaits : ((stocking 2 .unsettled []).setStall 0 { Stall.init with inflight := [strikeA] }).groupQuiet 2 = false := by decide

theorem wit_programEnd : ({ stocking 2 .programming [⟨2, false, 10⟩] with now := 1375010 } : State).workOn 2 false = some ⟨2, false, 10⟩ ∧
    jobA.lastStep ⟨2, false, 10⟩ = 1375000 ∧ (stocking 4 .touching [⟨2, true, 10⟩]).workOn 2 true = some ⟨2, true, 10⟩ := by decide

theorem wit_settlePause : (stocking 3 .programmed []).rd STK_STAT.JOB = 3 ∧ jobA.settleAt ≤ (stocking 3 .programmed []).rd WDN_ROUND.V ∧
    (jobA.recs.filter fun r => ((stocking 3 .programmed []).jrn r.1).state == .programmed) ≠ [] := by decide

theorem wit_touchupStart : (stocking 4 .programmed []).rd STK_STAT.JOB = 4 ∧
    ((stocking 4 .programmed []).hotRows jobA.touch).nextCrate jobA.touch = some 2 := by decide

theorem wit_scrubDue : (crates .verified).on STK_CTL.SCRUB_EN = true ∧
    (crates .verified).journal.find? (fun e => e.2.state == .verified && decide ((crates .verified).scrub.next ≤ e.1) && (crates .verified).stState (jrnStall e.1) != stFault) = some (0, ⟨.verified, 3, 0, 0, false⟩) ∧
    (crates .verified).closingStall (jrnStall 0) = false := by decide

theorem wit_scrubDone : ({ crates .verified with scrub := ⟨1, some 0, 0, 0⟩ } : State).scrub.busy = some 0 := by decide

/-- jobA aborted at cycle 2,000. -/
def jobAborted : StockJob := { jobA with abort := true, abortAt := 2000 }

theorem wit_stockingAbort : (stocking 2 .programming [⟨2, false, 10⟩]).stock = some jobA ∧ (stocking 2 .programming [⟨2, false, 10⟩]).memOpen (.func 0) = true ∧
    ({ stocking 2 .programming [⟨2, false, 10⟩] with stock := some jobAborted } : State).workOn 2 false = some ⟨2, false, 10⟩ ∧
    (programSteps.find? fun e => decide (jobAborted.abortAt < 10 + e)) = some 50000 ∧
    ({ stocking 4 .touching [⟨2, true, 10⟩] with stock := some jobAborted } : State).workOn 2 true = some ⟨2, true, 10⟩ := by decide +kernel

/-- The bytes of a manifest of model 5, generation `gen`: one section, the pitch map, with no entries; BODY_DIGEST is that of the section table; the signature is that of generation 1. -/
def manBytes (gen : Nat) : List Byte :=
  let body : List Byte := [1#8, 0#8, 0#8, 0#8, 0#8, 0#8, 0#8, 0#8, 128#8, 1#8] ++ List.replicate 14 0#8 ++ List.replicate 40 0#8
  [5#8] ++ List.replicate 7 0#8 ++ [1#8] ++ List.replicate 15 0#8 ++ [BitVec.ofNat 8 gen, 0#8, 0#8, 0#8, 1#8] ++ List.replicate 35 0#8 ++ sha512 body ++
    beBytes 66 testR ++ beBytes 66 0xb104219ab5544836ad0014bb5b0e0d2b7b0ad76fa3666f29f0318f04ece6415ad912797f08198273339adfb181cd551dbc20e4206735b0c453df759dc49407da51 ++
    List.replicate 60 0#8 ++ body

/-- After the start-up: the device READY. -/
def ready : State := { State.reset.wr WDN_RST_CAUSE.STATE 0 1 with charter := { Charter.init with keys := [testKey, [], [], []] } }

theorem wit_modelLoad : ready.memOpen (.func 0) = true ∧ ready.loadBusy = false ∧ ready.rd WDN_RST_CAUSE.STATE < 2 ∧
    leAt (sha512 ((manBytes 1).drop 0x140)) 0 64 = (Manifest.ofBytes (manBytes 1)).digest ∧
    ready.manifestOk 0 (manBytes 1).length (Manifest.ofBytes (manBytes 1)) = true ∧
    ready.slState 0 = 0 := by decide +kernel

theorem wit_modelLoad_signed : ready.signed 0 (manBytes 1) (Manifest.ofBytes (manBytes 1)).sigR (Manifest.ofBytes (manBytes 1)).sigS = true ∧
    (Manifest.ofBytes (manBytes 1)).keyIndex = 0 := by decide +kernel

theorem wit_modelLoad_unsigned : ready.signed 7 (manBytes 1) 1 1 = false := by decide +kernel

theorem wit_modelLoad_fits : (placeModel (Manifest.ofBytes (manBytes 1)) ready.free1 ready.free2 ready.charter.kvMin).n1 ≤ ready.free1 ∧
    (placeModel (Manifest.ofBytes (manBytes 1)) ready.free1 ready.free2 ready.charter.kvMin).n2 ≤ ready.free2 := by decide +kernel

/-- Slot 0 in a state, with its generations. -/
def slotted (st : Nat) (cur next : Option Gen) : State :=
  { ready.wr PRT_MODEL_STAT.STATE 0 st with slots := [(0, { ModelSlot.init with cur := cur, next := next })] }

/-- Generation 1 of model 5, with nothing in it. -/
def genOne : Gen := ⟨{ Manifest.empty with modelId := 5, generation := 1 }, [], 0, 0, []⟩

theorem wit_generationLoad : (slotted 3 (some genOne) none).slState 0 = 3 ∧ ((slotted 3 (some genOne) none).slot 0).cur = some genOne ∧
    (slotted 3 (some genOne) none).loadBusy = false ∧ (slotted 3 (some genOne) none).manifestOk 0 (manBytes 2).length (Manifest.ofBytes (manBytes 2)) = true := by
  decide +kernel

theorem wit_generationLoad_later : genOne.man.modelId = (Manifest.ofBytes (manBytes 2)).modelId ∧
    genOne.man.generation < (Manifest.ofBytes (manBytes 2)).generation ∧ sharesBadly genOne.man (Manifest.ofBytes (manBytes 2)) = false := by decide +kernel

/-- A generation with one dense shard of 65,536 bytes and one stream in it. -/
def genB (valid : Bool) : Gen :=
  ⟨{ Manifest.empty with generation := 2, modelId := 5, shards := [{ ShardEntry.ofBytes (List.replicate 8 0#8) with size := 65536, kind := 1, expert := 0xFFFFFFFF, digest := leAt (sha512 []) 0 64 }], streams := [⟨0, 0, 0, 0, 0, 1, 1, 0, 0, 0, 0⟩] },
    [(0, { Shard.init with valid := valid })], 0, 0, []⟩

/-- R201: the AES-256-GCM test case of a zero key, a zero IV and one zero block, from the publication of that mode (McGrew and Viega, case 14). -/
theorem test_gcm : gcmTagOf (List.replicate 32 0#8) (List.replicate 12 0#8) [] (gcmCrypt (List.replicate 32 0#8) (List.replicate 12 0#8) (List.replicate 16 0#8)) =
    [0xd0, 0xd1, 0xc8, 0xa7, 0x99, 0x99, 0x6b, 0xf0, 0x26, 0x5b, 0x98, 0xb5, 0xd4, 0x8a, 0xb9, 0x19] := by decide +kernel

theorem wit_shardArrival : (slotted 1 none (some (genB false))).genOf 0 2 = some (genB false) ∧ (genB false).man.shards.length = 1 ∧
    ((genB false).shard 0).valid = false ∧
    (((genB false).man.shards[0]?).bind fun e => (slotted 1 none (some (genB false))).goodShard 0 (genB false) 0 e e.enc []) = some [] := by decide +kernel

theorem wit_slotReady : (genB true).missing = 0 ∧ (slotted 1 none (some (genB true))).stocked (genB true).man = true ∧
    (slotted 1 none (some (genB true))).rd PRT_STAT.SLOT = 0 ∧ ((slotted 1 none (some (genB true))).wr PRT_STAT.LOAD 0 4).rd PRT_STAT.LOAD = 4 ∧
    ((slotted 3 (some (genB true)) none).slot 0).refetchGens 0 = [genB true] := by decide +kernel

theorem wit_shardScrub : ((slotted 3 (some (genB true)) none).wr WDN_ROUND.V 0 9).on PRT_CTL.SCRUB_EN = true ∧ ((genB true).shard 0).scrubAt ≤ 9 ∧
    (((genB true).man.shards[0]?).map fun e => ((slotted 3 (some (genB true)) none).goodShard 0 (genB true) 0 e (e.enc && ((genB true).shard 0).tier == 1) []).isSome) = some true := by
  decide +kernel

theorem wit_retire : (slotted 5 none none).slState 0 = 5 ∧ (slotted 5 none none).countSeqs (fun x => x.slot == 0) = 0 ∧
    FMap.countWhere (slotted 5 none none).tunes (fun _ j => j.live && j.slot == 0) = 0 ∧ (∀ k, k < 16 → (slotted 5 none none).rd SRV_PACE_STAT.STATE k = 0) ∧
    (slotted 4 none none).slState 0 = 4 ∧ (slotted 4 none none).shardsValid 0 = true ∧ (slotted 4 none none).memOpen (.func 0) = true := by decide

/-- Requests for the stream of slot 0 and for a block of sequence 7 wait at stall 3/4, which runs. -/
def planeWaits : State :=
  { (slotted 3 (some (genB true)) none).wr STL_STAT.STATE (stallId 3 4) 3 with
    stalls := [(stallId 3 4, { Stall.init with planeReq := [.stream 0 2 0, .attn 7 0 0 2] })], seqs := [(7, { Seq.init with live := true })] }

theorem wit_planeStart : stallOk 3 4 = true ∧ 3 ≤ planeWaits.stState (stallId 3 4) ∧ (planeWaits.stall (stallId 3 4)).reloads = [] ∧
    planeWaits.emptyPlane (stallId 3 4) = some 0 ∧ planeWaits.planeExists (.stream 0 2 0) = true ∧
    (planeWaits.planeEntry 0 2 0).map (·.1) = some (genB true) ∧ (planeWaits.readShard 0 (genB true) 0).isSome = true := by decide +kernel

theorem wit_planeBlock : ((planeWaits.modStall (stallId 3 4) fun st => { st with planeReq := [.attn 7 0 0 2] }).seq 7).live = true ∧
    planeWaits.badPage (planeWaits.blockIds 7 0 0) = none := by decide

/-- Plane 0 computes and plane 1 is READY: a write has no plane to take. -/
def planesFull : State := (planeWaits.wr STL_PLANE.P0_STATE (stallId 3 4) 3).wr STL_PLANE.P1_STATE (stallId 3 4) 2

theorem wit_planesFull : (planesFull.stall (stallId 3 4)).planeReq ≠ [] ∧ planesFull.emptyPlane (stallId 3 4) = none ∧
    planesFull.planesTaken (stallId 3 4) = true ∧ (planeWaits.wr STL_PLANE.P1_STATE (stallId 3 4) 1).planeState (stallId 3 4) 1 = 1 := by decide

/-- Sequence 7 of slot 0 at some point of its life. -/
def seqAt (x : Seq) : State := { slotted 3 (some genOne) none with seqs := [(7, x)] }

/-- A running position of sequence 7, one layer, one page. -/
def attending : State :=
  { (seqAt { Seq.init with live := true, phase := .running, first := 0, width := 1, lists := [[1]] }).wr KV_SLOT_CFG.LAYERS 0 1 with
    pages := [(1, { Page.init with live := true, format := 5, ref := 1 })], sleep := [(192, 3)] }

theorem wit_attention : (attending.seq 7).live = true ∧ (attending.seq 7).phase = .running ∧ (attending.seq 7).first ≤ 0 ∧
    0 < (attending.seq 7).first + (attending.seq 7).width ∧ 0 < attending.kvLayers (attending.seq 7).slot ∧ attending.rd WH_STAT.STATE (attending.attnHouse (attending.seq 7)) ≠ 3 ∧ attending.houseAsleep (attending.seq 7).wh = false ∧
    (∀ id ∈ (((attending.seq 7).lists.getD 0 []).take (0 / 64 + 1)), (attending.page id).bad = [] ∧ 1 ≤ (attending.page id).ref ∧ (attending.page id).pin < 65535 ∧
      (attending.page id).pinWait = 0 ∧
      pageCodeOk (attending.page id).format = true) ∧ (attending.slot 0).cur = some genOne ∧ genOne.man.kvStrict = false := by decide

theorem wit_attentionBack : ((seqAt { Seq.init with live := true, job := some 0, pos := 3, lists := [[1]] }).seq 7).job.isSome = true ∧
    0 < max ((seqAt { Seq.init with live := true, job := some 0, pos := 3, lists := [[1]] }).seq 7).pos 0 ∧ attending.strictSeq (attending.seq 7) = false := by decide

/-- A prefill chunk far enough for one fresh block; row 0 keeps the results of its three strikes. -/
def chunking : State :=
  ((((seqAt { Seq.init with live := true, phase := .running, prefill := true, first := 1024, width := 64 }).wr KV_SLOT_CFG.FRESH_ATTN 0 1).wr KV_SLOT_CFG.KVFMT 0 5).modRow 0
    fun r => { r with attn := [⟨1, 5, [1#32]⟩, ⟨1, 6, [2#32]⟩, ⟨2, 6, [3#32]⟩] })

theorem wit_freshBlock : (chunking.seq 7).prefill = true ∧ chunking.freshAttn (chunking.seq 7) = true ∧ 1024 * (0 + 1) ≤ (chunking.seq 7).first ∧
    chunking.attnRes 0 (1, 5) = some [1#32] ∧ chunking.attnRes 0 (1, 6) = some [2#32] ∧ chunking.attnRes 0 (2, 6) = some [3#32] ∧
    ({ chunking with sleep := [(192, 3)] } : State).houseAsleep (chunking.seq 7).wh = false ∧ (∀ id ∈ chunking.blockIds 7 0 0, (chunking.page id).bad = [] ∧ (chunking.page id).pin < 65535) := by decide

theorem wit_page : (attending.page 1).live = true ∧ attending.listOf 7 (attending.page 1) = some [1] ∧ [1].contains 1 = true ∧ (attending.page 1).ref < 65535 ∧ (attending.page 1).pin < 65535 ∧ (attending.page 1).pinWait = 0 := by decide

/-- A page at both limits, with a pin that waits. -/
def saturated : State := { attending with pages := [(1, { Page.init with live := true, format := 5, ref := 65535, pin := 65535, pinWait := 2 })] }

theorem wit_saturated : (saturated.page 1).live = true ∧ saturated.listOf 7 (saturated.page 1) = some [1] ∧ 65535 ≤ (saturated.page 1).ref ∧ 65535 ≤ (saturated.page 1).pin ∧ (saturated.page 1).pinWait ≠ 0 := by decide

/-- Sequence 7 chosen to park, with a store room of some granules. -/
def victim (size : Nat) : State :=
  { seqAt { Seq.init with live := true, active := true, parkDue := true, lists := [[1]] } with
    funcs := [(0, { Func.init with room := some (2 ^ 20, size) })], pages := [(1, { Page.init with live := true, format := 5, ref := 1 })] }

theorem wit_park : ((victim 9).seq 7).live = true ∧ ((victim 9).seq 7).active = true ∧ ((victim 9).seq 7).parkDue = true ∧ ((victim 9).seq 7).phase = .idle ∧
    ((victim 9).seq 7).recs = [] ∧ ((victim 9).seq 7).inStep = false ∧ (victim 9).badPage ((victim 9).seq 7).lists.flatten = none ∧ (victim 9).on KV_CTL.PARK_NARROW = false ∧
    (victim 9).roomFit 0 (parkGranules ((victim 9).kvHeads 0) [(victim 9).page 1]) = some [0, 1] ∧
    (victim 1).roomFit 0 (parkGranules ((victim 1).kvHeads 0) [(victim 1).page 1]) = none := by decide

/-- Sequence 7 parked, with nothing in its image. -/
def parked : State := seqAt { Seq.init with live := true, image := some ([], 0) }

theorem wit_resume : (parked.seq 7).live = true ∧ (parked.seq 7).image = some ([], 0) ∧ parked.mayActivate (parked.seq 7).func 1 = true ∧
    parked.needFits (parked.seq 7).func (parked.seq 7).slot (parked.resumeNeed (parked.seq 7)) = true ∧ (parked.restorePages 7 []).isSome = true ∧ (parked.seq 7).waking = false ∧ parked.oldestParked (parked.seq 7) = true := by decide

theorem wit_slotCfg : ready.memOpen (.func 0) = true ∧ whoAdmin (.func 0) = true ∧ ready.slState 0 ≤ 2 ∧ (ready.slot 0).next = none := by decide

/-- A slip body: `op` in byte 0, slot 0, session 1, and the given bytes at their places. -/
def slipBody (op : Nat) (rest : FMap Nat) : FMap Nat := (if op = 0 then [] else [(0, op)]) ++ [(4, 1)] ++ rest

/-- Function 0 with session 1 open and slot 2 of its order counter TAKEN. -/
def served (op st : Nat) (rest : FMap Nat) : State :=
  { ((slotted 3 (some genOne) none).wr TEN_SESSION.OPEN 0 1).wr TEN_SESSION.NUM 0 1 with
    funcs := [(0, { Func.init with slots := [(2, ⟨slipBody op rest, 9, st, 0, 0, false, 0⟩)] })] }

theorem wit_seal : (served 1 0 []).memOpen (.func 0) = true ∧ ((served 1 0 []).oslot 0 2).state ≠ 1 ∧ (served 1 0 []).takesWork = true ∧
    bitsOf 0xA500000000000009 56 8 = 0xA5 ∧ (served 1 0 []).firstTaken = none ∧ (served 1 0 []).on HOST_FN_STAT.FENCED 0 = false ∧ (served 1 0 []).on HOST_FN_STAT.D3 0 = false := by decide

/-- Roll fields: address 4,096, index pair at 0, 64 records, vector 1. -/
def rollFields : FMap Nat := [(0x19, 16), (0x28, 64), (0x2C, 1)]

/-- A GENERATE of one prompt token and one new token, TOP_P = 1.0. -/
def genSlip : State := (served 1 1 ([(6, 255), (7, 255), (8, 1), (0xC, 1)] ++ rollFields ++ [(0x3A, 128), (0x3B, 63)])).wr KV_SLOT_CFG.LAYERS 0 1

theorem wit_generate : (genSlip.taken 0 2 1).isSome = true ∧ genSlip.genReason 0 2 (genSlip.oslot 0 2).bytes 32 0 = 0 ∧ slipFlag (genSlip.oslot 0 2).bytes 0 = false ∧
    genSlip.mayAdmit 0 1 = true ∧ FMap.freshKey genSlip.seqs 0 4096 = some 0 := by decide +kernel

/-- A CANCEL of ticket 3, which sequence 7 serves. -/
def cancelSlip : State := { served 2 1 [(8, 3)] with seqs := [(7, { Seq.init with live := true, ticket := 3 })] }

theorem wit_cancel : (cancelSlip.taken 0 2 2).isSome = true ∧ slipGood cancelSlip 0 2 (cancelSlip.oslot 0 2).bytes ∧
    zeroBytes (cancelSlip.oslot 0 2).bytes 0xC 0xF8 = true ∧ cancelSlip.seqOf 0 (leAt (cancelSlip.oslot 0 2).bytes 8 4) = some 7 := by
  unfold slipGood; decide +kernel

/-- A STREAM_OPEN of stream 0 on FRAME_IN, deadline 1. -/
def openSlip : State := served 3 1 ([(0xA, 1)] ++ rollFields)

theorem wit_streamOpen : (openSlip.taken 0 2 3).isSome = true ∧ slipGood openSlip 0 2 (openSlip.oslot 0 2).bytes ∧ slipRoll (openSlip.oslot 0 2).bytes ∧
    openSlip.slState 0 = 3 ∧ (∀ j, j < 16 → openSlip.rd SRV_PACE_STAT.STATE j = 0) ∧ zeroBytes (openSlip.oslot 0 2).bytes 0x34 0xF8 = true ∧
    100 * (slipStalls openSlip 0).length ≤ 6144 * openSlip.rd SRV_PACE_MAX.PCT := by unfold slipGood slipRoll; decide +kernel

/-- A FRAME for stream 0, which is open. -/
def frameSlip : State := (served 4 1 []).wr SRV_PACE_STAT.STATE 0 1

theorem wit_frame : (frameSlip.taken 0 2 4).isSome = true ∧ slipGood frameSlip 0 2 (frameSlip.oslot 0 2).bytes ∧
    zeroBytes (frameSlip.oslot 0 2).bytes 0x20 0xF8 = true ∧ frameSlip.streamOpen 0 (leAt (frameSlip.oslot 0 2).bytes 8 1) = true ∧
    frameSlip.slState (frameSlip.rd SRV_PACE_STAT.SLOT 0) = 3 ∧ (frameSlip.pace (leAt (frameSlip.oslot 0 2).bytes 8 1)).frames.length < 8 := by unfold slipGood; decide +kernel

/-- A STREAM_CLOSE of stream 0, which is open. -/
def closeSlip : State := (served 5 1 []).wr SRV_PACE_STAT.STATE 0 1

theorem wit_streamClose : (closeSlip.taken 0 2 5).isSome = true ∧ slipGood closeSlip 0 2 (closeSlip.oslot 0 2).bytes ∧
    zeroBytes (closeSlip.oslot 0 2).bytes 9 0xF8 = true ∧ closeSlip.streamOpen 0 (leAt (closeSlip.oslot 0 2).bytes 8 1) = true := by
  unfold slipGood; decide +kernel

/-- An adapter version of model 5 that function 0 owns. -/
def verA : AdpVer := ⟨4, 0, 5, 0, 1, 0#32, [], []⟩

/-- A TUNE with one sample, batch 1, ACCUM 1, loss scale 1.0 and MAX_LEN 2. -/
def tuneSlip : State :=
  { (served 6 1 ([(8, 1), (0xC, 1), (0xE, 1)] ++ rollFields ++ [(0x36, 128), (0x37, 63), (0x40, 2)])).wr KV_SLOT_CFG.LAYERS 0 1 with
    adapters := [(0, { Adapter.init with cur := some verA })] }

theorem wit_tune : (tuneSlip.taken 0 2 6).isSome = true ∧ slipGood tuneSlip 0 2 (tuneSlip.oslot 0 2).bytes ∧ slipRoll (tuneSlip.oslot 0 2).bytes ∧
    tuneFields (tuneSlip.oslot 0 2).bytes = true ∧ tuneSlip.slState 0 = 3 ∧ (tuneSlip.slot 0).cur = some genOne ∧ (tuneSlip.adapter 0).cur = some verA ∧
    verA.modelId = genOne.man.modelId ∧ genOne.man.shards = [] ∧ genOne.man.reductions = [] ∧ transposesOk genOne.man [] = true ∧ Sample.ok (leAt (tuneSlip.oslot 0 2).bytes 0x40 4) ⟨0, 2, 0⟩ = true ∧ (tuneSlip.tune 0).live = false ∧ tuneSlip.mayAdmit 0 1 = true := by
  unfold slipGood slipRoll; decide +kernel

theorem wit_activate : ((seqAt { Seq.init with live := true, promptLen := 1 }).seq 7).live = true ∧
    (seqAt { Seq.init with live := true, promptLen := 1 }).oldestParked ((seqAt { Seq.init with live := true, promptLen := 1 }).seq 7) = true ∧
    (seqAt { Seq.init with live := true, promptLen := 1 }).mayActivate 0 1 = true ∧
    (seqAt { Seq.init with live := true, promptLen := 1 }).needFits 0 0 ((seqAt { Seq.init with live := true, promptLen := 1 }).needPages 0 1) = true := by decide

/-- One active sequence of slot 0, which serves. -/
def stepping (x : Seq) : State := { slotted 3 (some genOne) none with slots := [(0, { ModelSlot.init with cur := some genOne, started := true })], seqs := [(7, x)], now := 600000 }

theorem wit_stepStart : (stepping { Seq.init with live := true, active := true }).sched.running = false ∧
    (stepping { Seq.init with live := true, active := true }).takesWork = true ∧
    ((stepping { Seq.init with live := true, active := true }).mark.seqs.any fun e => (stepping { Seq.init with live := true, active := true }).mark.canRun e.2) = true := by decide

theorem wit_emptyStep : ((stepping Seq.init).seqs.any fun e => (stepping Seq.init).canRun e.2) = false ∧
    (stepping Seq.init).sched.startAt + 25 * (stepping Seq.init).rd SRV_STEP_TARGET.TARGET_US ≤ (stepping Seq.init).now := by decide

theorem wit_stepEnd : ({ stepping Seq.init with sched := { Sched.init with running := true } } : State).sched.running = true ∧
    ({ stepping Seq.init with sched := { Sched.init with running := true } } : State).countSeqs (fun x => x.inStep) = 0 := by decide

theorem wit_stormLower : rowOk 3 = true ∧ (({ ready with rows := [(3, { Row.init with stormNew := true })] } : State).row 3).stormNew = true := by decide

/-- A slot whose only tile is at group 0 of logical stall 3/4, one active sequence of function 2 on it, and a storm of row 3 that names physical stall 4. -/
def storming : State :=
  { ready.wr TAL_STORM_MAP.STALLS 3 16 with
    rows := [(3, { Row.init with stormNew := true })], seqs := [(7, { Seq.init with live := true, active := true, func := 2 })],
    slots := [(0, { ModelSlot.init with cur := some { genOne with man := { genOne.man with pitch := [{ Pitch.ofBytes [] with stall := 100 }] } } })] }

theorem wit_stormLowers : stormLowers storming 3 2 ∧ ¬ stormLowers storming 3 5 :=
  ⟨⟨_, .head _, rfl, rfl, rfl, _, .head _, rfl, _, .head _, _, .head _, 4, by decide⟩,
   fun ⟨_, h, _, _, hf, _⟩ => by simp only [storming, List.mem_singleton] at h; subst h; exact absurd hf (by decide)⟩

/-- Function 2 lowered by a storm of slot 0, 2,000 steps ago. -/
def lowered : State := { ready.wr SRV_STEP_CNT.V 0 2000 with sched := { Sched.init with lowered := [(2, 0)] } }

theorem wit_stormRestore : lowered.sched.lowered.Nodup ∧ (∀ p ∈ lowered.sched.lowered, p.1 < 64) ∧
    FMap.get 0 lowered.sched.slotStorm 0 + 1024 ≤ lowered.rd SRV_STEP_CNT.V + 1 ∧ (2, 0) ∈ lowered.sched.lowered := by decide

/-- The same with quarter 0 running. -/
def starting (x : Seq) : State := { stepping x with sleep := [(192, 3)] }

theorem wit_positionStart : (starting { Seq.init with live := true, inStep := true }).placeOpen ((starting { Seq.init with live := true, inStep := true }).seq 7) = true ∧
    (starting { Seq.init with live := true, inStep := true }).takesWork = true ∧ (starting { Seq.init with live := true, inStep := true }).houseAsleep 0 = false ∧
    (starting { Seq.init with live := true, inStep := true }).badPage ((starting { Seq.init with live := true, inStep := true }).copied 7) = none ∧
    (starting { Seq.init with live := true, inStep := true, promptLen := 9 }).chunkTurn ((starting { Seq.init with live := true, inStep := true, promptLen := 9 }).seq 7) = true ∧
    (((((starting { Seq.init with live := true, inStep := true }).modSeq 7 fun y => { y with save := 0, promptFails := 0 }).bindRound 7).bind fun u => u.copyOnWrite 7 0).bind
      (fun u => u.growTo 7 0 1)).isSome = true := by decide

theorem wit_positionEnd : ((seqAt { Seq.init with live := true, phase := .running, width := 1, maxNew := 9 }).seq 7).phase = .running ∧
    (seqAt { Seq.init with live := true, phase := .running, width := 1, maxNew := 9 }).dispatchesDone 7 = true ∧ logitsBad [0#32, 0x3F800000#32] = false ∧
    ((seqAt { Seq.init with live := true, job := some 2 }).seq 7).lossPositions = [] := by decide

theorem wit_verifyPass : ((seqAt { Seq.init with live := true, phase := .running, width := 2, drafts := 1, draft := 1 }).seq 7).drafts ≠ 0 ∧
    (stepping { Seq.init with live := true, phase := .running, width := 2, drafts := 1, draft := 1 }).slState 0 = 3 ∧
    ((verifyFrom ⟨0#32, 0#32, 0, 0⟩ false 0 1 [[0#32]] [[0#32], [0#32]]).any fun t => logitsBad t.2.2) = false ∧
    (stepping { Seq.init with live := true, phase := .running, width := 2, drafts := 1, draft := 1 }).dispatchesDone 7 = true := by decide

theorem wit_specPause : ((seqAt { Seq.init with live := true, pauseTo := 5 }).wr SRV_STEP_CNT.V 0 6).rd SRV_STEP_CNT.V = 6 ∧
    (((seqAt { Seq.init with live := true, pauseTo := 5 }).wr SRV_STEP_CNT.V 0 6).seq 7).pauseTo = 5 := by decide

theorem wit_commit : ((seqAt { Seq.init with live := true, phase := .ended }).seq 7).phase = .ended ∧
    (seqAt { Seq.init with live := true, phase := .ended }).checked 7 = true ∧ (seqAt { Seq.init with live := true, phase := .ended }).takesWork = true ∧
    ((seqAt { Seq.init with live := true, phase := .ended }).seq 7).recs.any (fun r => r.last) = false ∧
    ((seqAt { Seq.init with live := true, phase := .ended, recs := [⟨1, 1, 0, 0, true, true, 0, 1⟩] }).seq 7).recs.any (fun r => r.last) = true := by decide

/-- The roll of ticket 9 of function 0. -/
def rolled (r : Roll) : State := { ready with rolls := [(9, r)], now := 5000 }

theorem wit_moderation : ((rolled { Roll.init with len := 64, unsig := 1, modUs := 2 }).roll (reqKey 0 9)).unsig ≠ 0 ∧
    ((rolled { Roll.init with len := 64, unsig := 1, modUs := 2 }).roll (reqKey 0 9)).since + 25 * 2 ≤ 5000 := by decide

theorem wit_ridx : ((rolled { Roll.init with len := 64, backlog := [⟨1, 1, 0, 0, false, true, 0, 1⟩] }).roll (reqKey 0 9)).backlog = [⟨1, 1, 0, 0, false, true, 0, 1⟩] ∧
    ((rolled { Roll.init with len := 64, written := 64, backlog := [⟨1, 1, 0, 0, false, true, 0, 1⟩] }).roll (reqKey 0 9)).written - 0 ≥ 64 := by decide

theorem wit_frames : ((ready.wr SRV_PACE_STAT.STATE 2 1).wr SRV_PACE_STAT.CLOCK 2 1).rd SRV_PACE_STAT.STATE 2 ≠ 0 ∧
    ((ready.wr SRV_PACE_STAT.STATE 2 1).wr SRV_PACE_STAT.CLOCK 2 1).rd SRV_PACE_STAT.CLOCK 2 = 1 ∧
    (({ ready with now := 30000, paces := [(2, { Pace.init with period := 25000 })] } : State).pace 2).period * 1 ≤ 30000 ∧
    (({ ready with paces := [(2, { Pace.init with frames := [⟨1, 0, 64, 0, 1, 0⟩] })] } : State).pace 2).frames = [⟨1, 0, 64, 0, 1, 0⟩] ∧
    ready.msiOn 0 = false ∧ ((ready.wr HOST_FN_STAT.MSIX_EN 0 1).msiOn 0) = true ∧
    ({ slotted 3 (some genOne) none with paces := [(2, { Pace.init with frames := [⟨1, 0, 64, 0, 1, 0⟩] }), (5, { Pace.init with frames := [⟨1, 0, 64, 0, 2, 0⟩] })] } : State).frameFirst 2 = true := by decide

/-- An adapter image of model 5 with no owner, rank 1 and one target of one input and one output. -/
def adpImage : List Byte :=
  [5#8] ++ List.replicate 7 0#8 ++ [3#8, 0#8, 255#8, 1#8, 1#8] ++ List.replicate 11 0#8 ++ [64#8, 1#8] ++ List.replicate 6 0#8
    ++ [25#8, 28#8, 228#8, 157#8, 93#8, 27#8, 184#8, 219#8, 157#8, 199#8, 36#8, 120#8, 221#8, 166#8, 147#8, 117#8, 30#8, 175#8, 129#8, 172#8, 247#8, 250#8, 197#8, 38#8, 214#8, 161#8, 70#8, 77#8, 246#8, 248#8, 30#8, 80#8, 91#8, 100#8, 33#8, 129#8, 174#8, 98#8, 165#8, 77#8, 223#8, 8#8, 136#8, 122#8, 149#8, 106#8, 218#8, 35#8, 138#8, 60#8, 182#8, 13#8, 42#8, 2#8, 255#8, 184#8, 213#8, 154#8, 202#8, 8#8, 241#8, 147#8, 59#8, 58#8] ++ List.replicate 32 0#8
    ++ [9#8, 0#8, 0#8, 0#8, 1#8, 0#8, 0#8, 0#8, 1#8, 0#8, 0#8, 0#8, 1#8, 0#8, 0#8, 0#8, 192#8] ++ List.replicate 7 0#8 ++ [0#8, 1#8] ++ List.replicate 6 0#8
    ++ List.replicate 160 0#8

/-- Model 5 in slot 0, with reduction 9 that takes one digital partial. -/
def adpHost : State :=
  slotted 3 (some { genOne with man := { genOne.man with reductions := [⟨9, 0, [], [], 0, 0xFF, [⟨digitalSource, 0, 0, 0⟩], 0⟩] } }) none

theorem wit_adapterDigest : sha512 ((adpImage.take (leAt adpImage 0x18 8)).drop 0x80) = (adpImage.drop 0x20).take 64 ∧
    sha512 (([] : List Byte).take 0) ≠ (List.replicate 64 0#8).take 64 := by decide +kernel

theorem wit_adapterLoad : leAt adpImage 8 2 = 3 ∧ adpFormat adpImage (some 5) = true ∧ leAt adpImage 0xC 2 = 1 ∧ (targetAt adpImage 1 0).count = 1 ∧
    (targetAt adpImage 1 0).first = 9 ∧ ((adpHost.slot 0).cur.map fun g => (g.man.modelId, redUsable g.man 9)) = some (5, true) ∧
    adpHost.poolUsed + (adpImage.length - 128 - 32 * 1 + 65535) / 65536 ≤ adpHost.rd SRV_ADP_POOL.GRANULES ∧ adpHost.versions < 1024 ∧
    (adpHost.adapter 3).live.length < 2 ∧ adpHost.memOpen (.func 0) = true := by decide +kernel

theorem wit_adapterUnload : (tuneSlip.adapter 0).cur = some verA ∧ verA ∉ (tuneSlip.adapter 0).old ∧ tuneSlip.memOpen (.func 0) = true := by decide +kernel

/-- A tuning job of function 3 whose batches of its first, or of its third round have ended. -/
def tuning (round : Nat) : State :=
  { ready with tunes := [(3, { TuneJob.init with live := true, func := 3, samples := 8, accum := 1, batches := 1, round := round, recAt := [4, 9] })] }

theorem wit_roundEnd : ((tuning 0).tune 3).roundDue = true ∧ ((tuning 0).tune 3).queue = [] ∧ ((tuning 0).tune 3).endAs = none ∧
    ((tuning 2).roll (reqKey 3 0)).ridx ≤ ((tuning 2).tune 3).recAt.getD (2 - 2) 0 ∧ ((tuning 2).tune 3).live = true := by decide

/-- A tuning job of function 3 with a batch of two sequences, the first of which has run its sample. -/
def inBatch : State :=
  { tuneSlip with tunes := [(3, { TuneJob.init with live := true, func := 3, samples := 8, inBatch := true, bound := some 4 })],
                  seqs := [(7, { Seq.init with live := true, job := some 3 }), (8, { Seq.init with live := true, job := some 3 })] }

theorem wit_sampleEnd : (inBatch.tune 3).inBatch = true ∧ (inBatch.seq 7).job = some 3 ∧ (inBatch.seq 7).promptLen ≤ (inBatch.seq 7).pos ∧ inBatch.checked 7 = true ∧
    (inBatch.seq 8).live = true ∧ (inBatch.adapter (inBatch.tune 3).adapter).live.find? (fun v => some v.no == (inBatch.tune 3).bound) = some verA := by decide +kernel

/-- Port 2 in a state, with its link layer. -/
def ported (st : Nat) (x : Port) : State :=
  { (ready.wr CW_PORT_STAT.STATE 2 st).wr CW_PORT_SEL.PORT 0 2 with cart := { Cartway.init with ports := [(2, x)] }, now := 2000000 }

theorem wit_portEnable : (ported 0 Port.init).memOpen (.func 0) = true ∧ (ported 0 Port.init).on CW_PORT_CTL.EN 2 = false ∧
    bitAt 0x81 0 = true ∧ bitAt 0x81 7 = true := by decide

theorem wit_trials : (ported 1 Port.init).rd CW_PORT_STAT.STATE 2 = 1 ∧ ((ported 1 Port.init).port 2).trainAt + 1250000 ≤ (ported 1 Port.init).now ∧
    ((ported 1 { Port.init with trainAt := 1000000 }).port 2).trainAt + 752500 ≤ (ported 1 { Port.init with trainAt := 1000000 }).now ∧
    (ported 1 { Port.init with trainAt := 1000000 }).now < ((ported 1 { Port.init with trainAt := 1000000 }).port 2).trainAt + 1250000 ∧
    alignOk [] = false := by decide

/-- An alignment block with 8 wrong symbols on lane 0. -/
def lockBlock : List Nat := (List.range 544).map fun i => if i < 32 ∧ i % 4 = 0 then 0 else alignSymbol (i % 4)

theorem wit_lock : alignOk lockBlock = true := by decide +kernel

theorem wit_hello : (ported 2 Port.init).rd CW_PORT_STAT.STATE 2 = 2 ∧ ((ported 2 Port.init).port 2).hello = false ∧ 9 ≠ (ported 2 Port.init).devNo ∧
    ((ported 2 Port.init).port 2).helloAt + 250 ≤ (ported 2 Port.init).now ∧ ((ported 2 { Port.init with hello := true }).port 2).hello = true := by decide

/-- Port 2 is UP with one frame not acknowledged. -/
def linked : Port := { Port.init with unacked := [⟨4, 0, 0, []⟩], rxSeq := 7, credit := [(0, 3)] }

theorem wit_linked : (ported 3 linked).portUp 2 = true ∧ ((portAfter (ported 3 linked) 2 ⟨0, 9, []⟩).unacked.any fun f => f.seq == 4) = true ∧
    (portAfter (ported 3 linked) 2 ⟨0, 9, []⟩).resent ≠ 8 ∧ ((ported 3 linked).port 2).ackAt + 500 ≤ (ported 3 linked).now ∧
    ((ported 3 linked).port 2).rxSeq < 65536 ∧ ((ported 3 { linked with resent := 8 }).port 2).resent = 8 ∧ ((ported 3 linked).port 2).reachAt + 25000 ≤ (ported 3 linked).now := by
  unfold portAfter; decide

/-- A cart of type 6 without a payload from device 9. -/
def fenceBytes : List Byte := [6#8, 0#8, 9#8] ++ List.replicate 29 0#8

theorem wit_dataFrame : takeCarts 64 (FMap.get [] linked.rxPart 0 ++ fenceBytes.take 626) = ([⟨6, 0, 9, 0, 0, 0, 0, 0, []⟩], []) ∧
    ((ported 3 linked).wr CW_PARTNERS_LO.V 0 512).cartBad 0 ⟨6, 0, 9, 0, 0, 0, 0, 0, []⟩ = false := by decide +kernel

/-- A cart waits for port 2. -/
def sending : State :=
  { (ported 3 linked).wr CW_CTL.EN 0 1 with cart := { Cartway.init with ports := [(2, linked)], queue := [⟨⟨6, 0, 0, 9, 0, 0, 0, 0, []⟩, 2, 0xFFFF, [], false⟩] } }

theorem wit_cartSend : sending.portUp 2 = true ∧ sending.on CW_CTL.EN = true ∧ (sending.port 2).toSend = 0 ∧ FMap.get [] (sending.port 2).txRest 0 = [] ∧
    sending.cart.queue.find? (sending.mayLeave 2 0) = some ⟨⟨6, 0, 0, 9, 0, 0, 0, 0, []⟩, 2, 0xFFFF, [], false⟩ ∧
    FMap.get 0 (sending.port 2).credit 0 ≠ 0 ∧ (sending.port 2).unacked.length < 1024 := by decide

/-- A cart whose frames wait for credit has not begun. -/
theorem wit_unbegun : ({ Port.init with txRest := [(0, fenceBytes)], kept := [(⟨⟨6, 0, 0, 9, 0, 0, 0, 0, []⟩, 2, 0xFFFF, [], true⟩, none)] } : Port).unbegun 0 = true := by decide

/-- Cartway on, port 2 UP and reaching device 9, with one cart in its buffer. -/
def carted (typ arg0 arg1 : Nat) (payload : List Byte) : State :=
  { ((ported 3 linked).wr CW_CTL.EN 0 1).wr CW_PORT_REACH_LO.V 2 512 with
    slots := [(0, { ModelSlot.init with cur := some genOne })],
    cart := { Cartway.init with ports := [(2, { linked with rx := [⟨cartVc typ, [4], ⟨typ, 0, 9, 0, 0, 8, arg0, arg1, payload⟩⟩] })] } }

theorem wit_dispatch : cartReady ((carted 1 5 (2 ^ 24) []).wr PRT_MODEL_STAT.STATE 0 3) 2 0 1 ⟨1, [4], ⟨1, 0, 9, 0, 0, 8, 5, 2 ^ 24, []⟩⟩ ∧
    ((carted 1 5 (2 ^ 24) []).wr PRT_MODEL_STAT.STATE 0 3).portsTo 9 ≠ [] ∧ ((carted 1 5 (2 ^ 24) []).wr PRT_MODEL_STAT.STATE 0 3).homeSlot ⟨1, 0, 9, 0, 0, 8, 5, 2 ^ 24, []⟩ = some ({ ModelSlot.init with cur := some genOne }, genOne) := by unfold cartReady; decide

/-- The check value of CRC-32 over "123456789" (R334), and a header with FIRST 0x3FF, SEQ 5, ACK 6 (R335). -/
theorem test_crc32 : crc32 [0x31#8, 0x32#8, 0x33#8, 0x34#8, 0x35#8, 0x36#8, 0x37#8, 0x38#8, 0x39#8] = 0xCBF43926 := by decide +kernel
theorem test_frameHeader : frameHeader 1 0x3FF 5 6 [1, 2, 3, 4] = [1#8, 0xFF#8, 3#8, 0#8, 5#8, 0#8, 6#8, 0#8, 1#8, 2#8, 3#8, 4#8] := by decide

/-- Tag 0 of a dispatch of sequence 7 stands at device 9. -/
def returned : State :=
  let s := carted 2 5 0 []
  { s with cart := { s.cart with disps := [⟨7, 0, 1, 0, 0, 0, 9, [], [], 0⟩] } }

theorem wit_return : cartReady returned 2 0 2 ⟨2, [4], ⟨2, 0, 9, 0, 0, 8, 5, 0, []⟩⟩ ∧
    returned.dispOf ⟨2, 0, 9, 0, 0, 8, 5, 0, []⟩ = some ⟨7, 0, 1, 0, 0, 0, 9, [], [], 0⟩ := by unfold cartReady; decide

theorem wit_part : cartReady { carted 3 9 0 [] with slots := adpHost.slots } 2 0 3 ⟨3, [4], ⟨3, 0, 9, 0, 0, 8, 9, 0, []⟩⟩ ∧
    ((adpHost.partRed ⟨3, 0, 9, 0, 0, 8, 9, 0, []⟩).map fun e => (e.1, e.2.2.id)) = some (0, 9) := by unfold cartReady; decide

/-- Device 9's step 8 is pending, with two early carts. -/
def paired (typ arg0 : Nat) : State :=
  let s := carted typ arg0 0 []
  { s with cart := { s.cart with pend := [⟨9, 8, 5, 2, none, []⟩] } }

theorem wit_receipt : (paired 4 2).cartAt 2 0 4 = some ⟨0, [4], ⟨4, 0, 9, 0, 0, 8, 2, 0, []⟩⟩ ∧ (paired 4 3).cartAt 2 0 4 = some ⟨0, [4], ⟨4, 0, 9, 0, 0, 8, 3, 0, []⟩⟩ ∧
    (paired 4 2).deadPair ⟨4, 0, 9, 0, 0, 8, 2, 0, []⟩ = false ∧
    (paired 4 2).cart.pend.find? (fun x => x.src == 9 && x.step == 8) = some ⟨9, 8, 5, 2, none, []⟩ ∧ (carted 4 2 0 []).hasPair ⟨4, 0, 9, 0, 0, 8, 2, 0, []⟩ = false ∧
    (paired 5 0).cartAt 2 0 5 = some ⟨0, [4], ⟨5, 0, 9, 0, 0, 8, 0, 0, []⟩⟩ ∧ 5 + 50000 ≤ (paired 5 0).now := by decide

theorem wit_fences : (carted 6 5 0 []).cartAt 2 0 6 = some ⟨0, [4], ⟨6, 0, 9, 0, 0, 8, 5, 0, []⟩⟩ ∧ (carted 7 5 0 []).cartAt 2 0 7 = some ⟨0, [4], ⟨7, 0, 9, 0, 0, 8, 5, 0, []⟩⟩ := by decide

/-- Two early carts of step 8 went to device 9, and step 9 runs. -/
def owing : State :=
  let s := (carted 4 0 0 []).wr SRV_STEP_CNT.V 0 9
  { s with cart := { s.cart with early := [⟨8, 9, 2, [], [], false⟩] } }

theorem wit_receiptSend : owing.cart.early.find? (fun e => e.step == 8 && e.dst == 9 && !e.done) = some ⟨8, 9, 2, [], [], false⟩ ∧ 8 < owing.rd SRV_STEP_CNT.V ∧ owing.cart.queue = [] ∧
    owing.portsTo 9 ≠ [] := by decide

/-- The home table of model 5: one layer, one expert, at device 9. -/
def homeBytes : List Byte := [5#8, 0#8, 0#8, 0#8, 0#8, 0#8, 0#8, 0#8, 1#8, 0#8, 1#8, 0#8, 0#8, 0#8, 0#8, 0#8, 137#8, 0#8, 0#8, 0#8]

theorem wit_homeTable : (carted 4 0 0 []).memOpen (.func 0) = true ∧ ((carted 4 0 0 []).wr CW_HOME_STAT.STATE 0 1).rd CW_HOME_STAT.STATE = 1 ∧ (carted 4 0 0 []).slotModel 0 = 5 ∧ leAt homeBytes 0 8 = 5 ∧
    leAt homeBytes 8 2 * leAt homeBytes 10 2 = 1 ∧ leAt homeBytes 12 4 = 0 ∧ (∀ i, i < 1 → homeEntryBad (leAt homeBytes (16 + 4 * i) 4) = false) := by decide

theorem wit_homeWait : ({ (seqAt { Seq.init with live := true }) with now := 600000, cart := { Cartway.init with waits := [⟨7, 0, 1, 0, 0, 0, 9, [], [], 0⟩] } } : State).cart.waits.find?
    (fun d => d.seq == 7) = some ⟨7, 0, 1, 0, 0, 0, 9, [], [], 0⟩ ∧ 0 + 25000 * ready.rd CW_CTL.HOME_WAIT ≤ 600000 := by decide

/-- A tile of model 5 at group 0 of stall 0/0, paired with the one at stall 0/1. -/
def genPair : Gen :=
  { genA with man := { genA.man with pitch := [{ Pitch.ofBytes [] with tileId := 1, stall := 0, flags := 4 }, { Pitch.ofBytes [] with tileId := 1, stall := 1, flags := 4 }] } }

/-- Two copies of a strike, one released and one corrected. -/
def copies (y : List Dy) : State :=
  let s := running.setSlot 1 { ModelSlot.init with cur := some genPair, started := true }
  (s.setStall 0 { Stall.init with inflight := [{ strikeA with stage := .released, pairOpen := true }] }).setStall 1
    { Stall.init with inflight := [{ strikeA with stage := .corrected, xh := y }] }

theorem wit_pairCompare : ((copies []).stall 0).strikeNo 1 (fun x => x.stage == .released && x.pairOpen) = some { strikeA with stage := .released, pairOpen := true } ∧
    ((copies []).stall 1).strikeNo 1 (fun x => x.stage == .corrected) = some { strikeA with stage := .corrected } ∧ stallOk 0 1 = true ∧ stallId 0 1 = 1 ∧
    (copies []).partner 0 0 = some ((copies []).logicalNo 1) ∧ (copies []).rd CHK_STALL_STAT.LANE 0 = 0 := by decide

/-- One queued, then running, job over a strike of stall 0/0. -/
def jobbed (cls : Nat) (running' : Bool) (k : JobKind) : State :=
  { running with now := 100000, jobs := [⟨4, cls, k, 0, 0, 7, 2, 0xFFFF, 0, false, false, false, running'⟩] }

theorem wit_jobs : ((jobbed 0 false (.dispute 1)).jobs.filter fun j => j.running).length < 2 ∧
    (jobbed 0 false (.dispute 1)).nextQueued = some ⟨4, 0, .dispute 1, 0, 0, 7, 2, 0xFFFF, 0, false, false, false, false⟩ ∧
    (jobbed 1 true .whole).jobs.find? (fun j => j.id == 4 && j.running) = some ⟨4, 1, .whole, 0, 0, 7, 2, 0xFFFF, 0, false, false, false, true⟩ ∧
    (jobbed 0 true (.dispute 1)).jobReady ⟨4, 0, .dispute 1, 0, 0, 7, 2, 0xFFFF, 0, false, false, false, true⟩ = true ∧
    (jobbed 1 true (.cal 0 5)).jobReady ⟨4, 1, .cal 0 5, 0, 0, 7, 2, 0xFFFF, 0, false, false, false, true⟩ = true ∧
    (((jobbed 0 true (.dispute 1)).verdict ⟨4, 0, .dispute 1, 0, 0, 7, 2, 0xFFFF, 0, false, false, false, true⟩).isSome) = true ∧
    0 + 25 * (jobbed 0 false (.dispute 1)).rd CHK_CTL.DEADLINE ≤ (jobbed 0 false (.dispute 1)).now := by decide

theorem wit_reload : (running.wr CHK_STALL_STAT.LANE (stallId 0 0) 1).rd CHK_STALL_STAT.LANE (stallId 0 0) = 1 := by decide

/-- Stack 3 and channel 5 (with one data granule) UP at warden round 100, granule 23 due. -/
def trained : State :=
  { ((ready.wr MEM_UNIT_STAT.STATE 3 2).wr MEM_UNIT_STAT.STATE 25 2).wr WDN_ROUND.V 0 100 with
    mem := { MemState.init with due := [23], dataGran := [(5, 1)] }, now := 30000 }

theorem wit_granuleRetire : trained.mem.due.contains 23 = true ∧ trained.mem.retired.contains 23 = false ∧ trained.mem.extra.contains 23 = false ∧
    trained.unitOf 23 = 3 ∧ trained.rd MEM_UNIT_STAT.STATE 3 ≠ 4 := by decide

theorem wit_scrub : trained.on MEM_CTL.SCRUB_EN = true ∧ trained.unitUp 3 = true ∧ FMap.get 0 trained.mem.linesRead 3 < trained.unitLines 3 ∧
    FMap.get 0 trained.mem.passLate 3 = 0 ∧ trained.contentOf (trained.lineGran 3 0) = none ∧ trained.unitUp 25 = true ∧ FMap.get 0 trained.mem.linesRead 25 < trained.unitLines 25 ∧
    FMap.get 0 trained.mem.passEnd 3 ≤ trained.rd WDN_ROUND.V := by decide

theorem wit_tiers : trained.rd MEM_UNIT_STAT.STATE (20 + 5) = 2 ∧ trained.on MEM_CTL.T2_SR_EN = true ∧
    FMap.get 0 trained.mem.access 5 + 25 * trained.rd MEM_CTL.SR_IDLE ≤ trained.now ∧ trained.rd MEM_UNIT_STAT.STATE 3 = 2 ∧
    FMap.get 0 trained.mem.retrainAt 3 + 1 ≤ trained.rd WDN_ROUND.V ∧ FMap.get 0 trained.mem.retrainAt 25 + 32 ≤ trained.rd WDN_ROUND.V := by decide

/-- The start-up has begun and no reset is held. -/
def begun : State := { ready with boot := { ready.boot with begun := true, held := false } }

theorem wit_link : begun.boot.held = false ∧ begun.boot.begun = true ∧ bestOf [4, 5, 6, 7] [5, 6] = 6 ∧ bestOf [4, 8, 16] [16] = 16 := by decide

/-- Function 2 exists, with a masked, pending vector 3 and a cached page. -/
def vfs : State :=
  { begun.wr HOST_FN_STAT.MSIX_EN 2 1 with
    port0 := { begun.port0 with vfEnable := true, numVfs := 4 }, funcs := [(2, { Func.init with pend := [3], cache := [77] })], now := 60000 }

theorem wit_functions : vfs.configOpen 2 = true ∧ vfs.exists 4 = true ∧ vfs.exists 5 = false ∧ vfs.rd WDN_RST_CAUSE.STATE = 1 ∧ vfs.memOpen (.func 2) = true ∧
    3 ∈ (vfs.func 2).pend ∧ vfs.on HOST_FN_STAT.MSIX_EN 2 = true ∧ vfs.on HOST_FN_STAT.D3 2 = false ∧ (vfs.func 2).funcMask = false ∧
    (vfs.func 2).flrAt = none ∧ (vfs.func 2).doeError = false ∧ doeLimit 1 1 = some 16384 := by decide

theorem wit_flrComplete : (({ vfs with funcs := [(2, { Func.init with flrAt := some 10000 })] } : State).func 2).flrAt = some 10000 ∧ 10000 + 50000 ≤ vfs.now := by decide

theorem wit_readFailure : (seqAt { Seq.init with live := true, prefill := true, phase := .running }).takesWork = true ∧
    (seqAt { Seq.init with live := true, prefill := true, phase := .running }).readOpen (.prompt 7) = true ∧
    ((seqAt { Seq.init with live := true, image := some ([], 0) }).seq 7).retries < 3 := by decide

/-- Source 450 is pending; clerk 1 alone is enabled, in a state, with its frames. -/
def clerked (st : Nat) (c : Clerk) : State :=
  { (((((ready.wr EVC_CTL.EN 0 1).wr EVC_SRC.COUNT 450 2).wr EVC_SRC.EN 450 1).wr EVC_CLK_CTL.EN 1 1).wr EVC_CLK_STAT.STATE 1 st) with
    clerks := [(1, c)], now := 30000 }

theorem wit_entry_clerk : (clerked 2 Clerk.init).clerkFor 450 = some 1 ∧ (clerked 2 Clerk.init).pendingSrc 450 = true ∧ (clerked 2 Clerk.init).on EVC_CTL.EN = true ∧
    (List.range 8).find? (fun k => (clerked 2 Clerk.init).ckState k == 4) = none ∧ (clerked 2 Clerk.init).warden.pllOff = false := by decide

theorem wit_routed : (clerked 2 Clerk.init).routed = some (450, 1) := by decide +kernel

/-- A frame for source 450 at priority 255. -/
def frameA : Frame := ⟨[], 256, 450, 255⟩

theorem wit_entered : (List.range 8).find? (fun k => (clerked 4 { Clerk.init with frames := [frameA] }).ckState k == 4) = some 1 ∧
    ((clerked 4 { Clerk.init with frames := [frameA] }).clerk 1).frames.getLast? = some frameA ∧ frameA.source < 512 := by decide

theorem wit_exit : (clerked 3 { Clerk.init with frames := [frameA] }).ckState 1 = 3 ∧ (clerked 5 { Clerk.init with frames := [frameA] }).ckState 1 = 5 := by decide

theorem wit_exit_chained : ((clerked 3 Clerk.init).showClerk 1 5).routedTo 1 = some 450 := by decide +kernel

theorem wit_entry_chained : (clerked 5 { Clerk.init with frames := [frameA] }).routed = some (450, 1) ∧
    (List.range 8).find? (fun k => (clerked 5 { Clerk.init with frames := [frameA] }).ckState k == 4) = none ∧
    (clerked 5 { Clerk.init with frames := [frameA] }).warden.pllOff = false := by decide +kernel

theorem wit_exit_restored : (((clerked 5 { Clerk.init with frames := [frameA] }).wr EVC_SRC.COUNT 450 0).routedTo 1) = none := by decide +kernel

theorem wit_exit_alone : ((((clerked 3 Clerk.init).wr EVC_SRC.COUNT 450 0).showClerk 1 5).routedTo 1) = none := by decide +kernel

theorem wit_wfi : (clerked 2 Clerk.init).ckState 1 = 2 ∧ ((clerked 2 Clerk.init).clerk 1).wfi = none ∧
    ((clerked 2 { Clerk.init with wfi := some 100 }).clerk 1).wfi = some 100 ∧ 100 + 25 ≤ (clerked 2 Clerk.init).now := by decide

theorem wit_pll : (∀ k, k < 8 → (ready.wr EVC_CTL.PLL_STOP 0 1).ckState k = 0) ∧ (ready.wr EVC_CTL.PLL_STOP 0 1).on EVC_CTL.PLL_STOP = true ∧ ready.jobs = [] ∧
    ready.scrubPending = false ∧ ready.warden.pllOff = false ∧ ({ ready with warden := { ready.warden with pllOff := true } } : State).warden.pllOff = true := by decide

theorem wit_timer : (((clerked 2 { Clerk.init with armed := true }).wr EVC_TMR_CMP.CMP 1 5).wr EVC_TIMER.V 0 9).rd EVC_TMR_CMP.CMP 1 ≤
    (((clerked 2 { Clerk.init with armed := true }).wr EVC_TMR_CMP.CMP 1 5).wr EVC_TIMER.V 0 9).rd EVC_TIMER.V ∧
    ((clerked 2 { Clerk.init with armed := true }).clerk 1).armed = true := by decide

theorem wit_noroute : ({ (clerked 2 Clerk.init).wr EVC_CLK_CTL.EN 1 0 with pendAt := [(450, 11)] } : State).clerkFor 450 = none ∧
    ({ (clerked 2 Clerk.init).wr EVC_CLK_CTL.EN 1 0 with pendAt := [(450, 11)] } : State).pendingSrc 450 = true ∧ 11 - 1 + 25000 ≤ (clerked 2 Clerk.init).now := by decide

/-- A mode change of quarter Q0 in a phase, its time long past. -/
def moding (phase : Nat) : State := { (ready.wr MODE_STAT.PHASE 0 phase).wr MODE_STAT.SCOPE 0 1 with now := 2000000 }

/-- A mode record of one entry: class 3, WH_CTL, bit 1. -/
def recBytes : List Byte := [1#8, 0#8, 1#8] ++ List.replicate 13 0#8 ++ [3#8] ++ List.replicate 7 0#8 ++ [2#8] ++ List.replicate 7 0#8 ++ [2#8] ++ List.replicate 7 0#8

theorem wit_modeChange : ready.memOpen (.func 0) = true ∧ ready.rd MODE_STAT.PHASE = 0 ∧ ready.spanOk (ready.rd MODE_REC_ADDR.ADDR) (max 1 recBytes.length) = true ∧
    (modeRecord recBytes).isSome = true ∧ ready.on MODE_STAT.BARRIER_BUSY = false ∧ (ready.wr MODE_STAT.BARRIER_BUSY 0 1).on MODE_STAT.BARRIER_BUSY = true := by decide +kernel

theorem wit_modeClose : (moding 1).rd MODE_STAT.PHASE = 1 ∧ (moding 1).modeCtl.at0 + 25000 * (moding 1).rd MODE_CTL.CLOSE_TO ≤ (moding 1).now := by decide

theorem wit_modeClose_open : (moding 1).modeUnits.all (moding 1).unitClosed = false := by decide +kernel

/-- The same change with some units in reset. -/
def closing (l : List Nat) : State := { moding 1 with boot := { (moding 1).boot with inReset := l } }

theorem closing_regs (l : List Nat) : (closing l).regs = (moding 1).regs := by simp only [closing]

theorem closing_done {l : List Nat} (hc : ∀ n, n < 100000 → l.contains n = true) : (closing l).modeUnits.all (closing l).unitClosed = true := by
  refine List.all_eq_true.mpr fun u hu => ?_
  have hx : (closing l).excluded u = true := by
    have hp : ∀ k, (closing l).physStall k = k / 32 * 64 + k % 32 := fun k => rfl
    have hr : (closing l).boot.inReset = l := rfl
    have hm : (closing l).modeUnits = scopeUnits 1 := by
      unfold State.modeUnits; rw [State.rd_of_regs (closing_regs l), show (moding 1).rd MODE_STAT.SCOPE = 1 by decide]
    rw [hm] at hu
    simp only [scopeUnits, List.mem_append, List.mem_map, List.mem_range, show (1 = 0) = False from by simp, if_false] at hu
    rcases hu with (⟨i, ⟨a, ha, rfl⟩, rfl⟩ | ⟨i, ⟨a, ha, rfl⟩, rfl⟩) | ⟨i, ⟨a, ha, rfl⟩, rfl⟩ <;> simp only [State.excluded, hp, hr]
    · rw [hc _ (by omega), Bool.or_true]
    · exact hc _ (by omega)
    · rw [hc _ (by omega), Bool.or_true]
  simp [State.unitClosed, hx]

theorem wit_modeClose_done : (closing (List.range 100000)).rd MODE_STAT.PHASE = 1 ∧
    (closing (List.range 100000)).modeUnits.all (closing (List.range 100000)).unitClosed = true :=
  ⟨(State.rd_of_regs (closing_regs _) _ _).trans (by decide), closing_done fun n hn => by simp [hn]⟩

theorem wit_modeStage : (moding 2).rd MODE_STAT.PHASE = 2 ∧ (moding 2).modeCtl.at0 + 25 * (moding 2).rd MODE_CTL.ACK_TO ≤ (moding 2).now := by decide

theorem wit_modeStage_unit : (moding 2).modeUnits.contains (3, 2) = true ∧ (moding 2).stageFault = none := by
  have hm : (moding 2).modeUnits = scopeUnits 1 := by unfold State.modeUnits; rw [show (moding 2).rd MODE_STAT.SCOPE = 1 by decide]
  refine ⟨by rw [hm]; simp [scopeUnits], ?_⟩
  unfold State.stageFault
  rw [show (moding 2).modeCtl.entries = [] from rfl]
  simp

theorem wit_modeResend : FMap.get 0 ({ moding 3 with modeCtl := { (moding 3).modeCtl with openWait := [(unitId 1 5, 4)] } } : State).modeCtl.openWait (unitId 1 5) = 4 ∧
    0 + 4 * (25 * (moding 3).rd MODE_CTL.ACK_TO) ≤ (moding 3).now ∧ (moding 3).rd MODE_CTL.RETRY < 4 ∧ 1 ≤ (moding 3).rd MODE_CTL.RETRY := by decide

theorem wit_catchup : ready.excluded (3, 2) = false ∧ FMap.get 0 ready.modeCtl.openWait (unitId 3 2) = 0 ∧ ready.unitGen (3, 2) ≠ ready.rd MODE_GEN.CUR := by decide

theorem wit_catchup_unit : (scopeUnits 0).contains (3, 2) = true := by simp [scopeUnits]

/-- Stall 0/0 queued for calibration, or with a run in its slots. -/
def calibrating (queue : List Nat) (run : Nat) : State :=
  { running.wr CAL_STALL_STAT.RUN 0 run with now := 9000000, cal := { CalState.init with queue := queue, commitAt := [(0, 1)], runs := [(0, ⟨1, [⟨1, [], [], 0⟩], [2, 3], 9000, false⟩)] } }

/-- A fit of one group: one good column. -/
def fitA : CalFit := ⟨[⟨3, 1, 0, 2⟩], [], 600, [], [], [], [], [], [], 0⟩

theorem wit_calQueue : (calibrating [] 0).memOpen (.func 0) = true ∧ stallOk 0 0 = true ∧ stallId 0 0 = 0 ∧ (calibrating [] 0).cal.queue.contains 0 = false ∧
    (calibrating [0] 0).cal.queue.contains 0 = true ∧ (calibrating [] 0).rd CAL_STALL_STAT.RUN 0 = 0 ∧ (calibrating [0] 1).rd CAL_STALL_STAT.RUN 0 = 1 := by decide

theorem wit_calPeriod : FMap.get 0 ((calibrating [] 0).wr WDN_ROUND.V 0 (1757813 * 168)).cal.commitAt 0 = 1 ∧
    1757813 * ((calibrating [] 0).wr WDN_ROUND.V 0 (1757813 * 168)).rd CAL_CTL.PERIOD = ((calibrating [] 0).wr WDN_ROUND.V 0 (1757813 * 168)).rd WDN_ROUND.V := by decide

theorem wit_calStart : (calibrating [0] 0).rd WDN_STAT.THERM < 3 ∧ (calibrating [0] 0).rd WDN_RST_CAUSE.STATE = 1 ∧
    (calibrating [0] 0).cal.queue.find? (calibrating [0] 0).calMay = some 0 ∧ ((calibrating [0] 0).group (groupId 0 0)).withdrawn = false := by decide +kernel

theorem wit_calBlock : (calibrating [] 2).rd CAL_STALL_STAT.RUN 0 = 2 ∧
    (FMap.get CalRun.init (calibrating [] 2).cal.runs 0).startAt + 25000 * (calibrating [] 2).rd CAL_CTL.GAP_LIMIT ≤ (calibrating [] 2).now := by decide

theorem wit_calFit : (calibrating [] 2).calActive 0 = true ∧ fitA.cols.all (calibrating [] 2).colOk = true ∧ (calibrating [] 2).calNeed 0 * (1 + 2 + 1) ≤ 9000 ∧
    (calibrating [] 2).jobs = [] ∧ (calibrating [] 2).tileValid 0 0 = true ∧
    FMap.get CalRun.init (calibrating [] 2).cal.runs 0 = ⟨1, [⟨1, [], [], 0⟩], [2, 3], 9000, false⟩ ∧
    ((List.range 4).all fun g => g == 0 || [2, 3].contains g || [(⟨1, [], [], 0⟩ : GroupFit)].any fun f => f.group == g) = true := by decide

/-- A repair selected for a spare row of crate 0 of stall 0/0. -/
theorem wit_repair : repairSel (selStall (ready.getReg CAL_REPAIR_SEL 0).toNat) 0 0 0 0 = 0 ∧ ready.fusedAt 0 = false ∧ ready.mapped 0 (bitsOf (1024 + 5) 0 10) = false ∧
    bitAt (1024 + 5) 10 = true ∧ stallOk (bitsOf (ready.getReg CAL_REPAIR_SEL 0).toNat 0 8) (bitsOf (ready.getReg CAL_REPAIR_SEL 0).toNat 8 6) = true := by decide

/-- A row whose spare has passed its tests. -/
def spared : State := { ready.setStState (stallId 0 32) stSpareIdle with cal := { CalState.init with passed := [(stallId 0 32, 1), (stallId 0 32, 2), (stallId 0 32, 3)] } }

theorem wit_substitute : (spared.row 0).subst = none ∧ spared.stState (stallId 0 32) = stSpareIdle ∧ spared.memOpen (.func 0) = true ∧ spared.modeCtl.image = [] ∧
    ready.stState (stallId 0 32) ≠ stSpareIdle ∧ ∀ k, k = 1 ∨ k = 2 ∨ k = 3 → (stallId 0 32, k) ∈ spared.cal.passed := by
  refine ⟨by decide, by decide, by decide, by decide, by decide, ?_⟩
  rintro k (rfl | rfl | rfl) <;> decide

theorem wit_fuse : ((ready.wr BST_POLICY.FUSE_EN 0 1).setStState 0 stShuttered).on BST_POLICY.FUSE_EN = true ∧
    ((ready.wr BST_POLICY.FUSE_EN 0 1).setStState 0 stShuttered).stState (stallId 0 0) = stShuttered ∧ ready.on BST_POLICY.FUSE_EN = false := by decide

/-- A strike that waits for a shuttered stall. -/
def waitA : ShutWait := ⟨0, stockDesc, 0, 0xFFFF, 0⟩

/-- Row 0 with that wait, its time past. -/
def waitingTile : State := { (ready.setStState 0 stShuttered).modRow 0 (fun r => { r with shutFor := [waitA] }) with now := 100000000 }

theorem wit_shutWait : waitA ∈ (waitingTile.row 0).shutFor ∧ waitingTile.stillShut waitA = true ∧
    waitA.since + 25000 * waitingTile.rd BST_POLICY.SHUT_WAIT ≤ waitingTile.now := by decide

/-- A converter test of stall 0/0 in hand, running. -/
def testing3 : State := { ready.wr BST_STAT.STATE 0 2 with cal := { CalState.init with testing := some ⟨3, 0, 0, 0⟩, deferred := [⟨1, 0, 0, 0⟩] } }

/-- Its outcome. -/
def outcome (ok : Bool) : TestOut := ⟨0, ok, ok, [], []⟩

theorem wit_selfTest : ready.memOpen (.func 0) = true ∧ (⟨1, 0, 0, if 0 = 0 then 0 else 0⟩ : TestReq).ok = true ∧ ready.on BST_POLICY.INSPECT_SERVE = true ∧
    ready.cal.waiting = [] ∧ ready.cal.testing = none ∧ ready.closingTest ⟨1, 0, 0, 0⟩ = false ∧ testing3.cal.testing ≠ none ∧
    (ready.wr BST_POLICY.INSPECT_SERVE 0 0).on BST_POLICY.INSPECT_SERVE = false ∧ ready.stState (stallId 0 0) ≠ stSpareIdle := by decide

theorem wit_selfTestDone : testing3.rd BST_STAT.STATE = 2 ∧ (⟨3, 0, 0, 0⟩ : TestReq).ok = true ∧ (⟨3, 0, 0, 0⟩ : TestReq).passes (outcome true) = true ∧
    (⟨3, 0, 0, 0⟩ : TestReq).passes (outcome false) = false ∧ testing3.cal.deferred.find? (fun x => !testing3.slotNames x) = some ⟨1, 0, 0, 0⟩ := by decide

/-- A state of the warden. -/
def wardenAt (therm : Nat) : State := { ready.wr WDN_STAT.THERM 0 therm with now := 1000000, warden := { Warden.init with stopAt := some 7, clkLost := decide (therm = 5) } }

/-- A round that reads one hot sensor. -/
def roundOf (t : Int) : RoundIn := ⟨[(t, true)], [], [], []⟩

theorem wit_wardenRound : (wardenAt 0).boot.powered = true ∧ (wardenAt 0).warden.clkLost = false ∧ (wardenAt 0).warden.roundAt + 51200 ≤ (wardenAt 0).now ∧
    readingOf (roundOf 1160).temps 0 = some 1160 ∧ readingOf (roundOf 1160).temps 1 = none ∧ rowReading (roundOf 1160).temps 0 = some 1160 ∧
    tripDue (roundOf 1160).temps = false ∧ tripDue (roundOf 1250).temps = true ∧ (wardenAt 0).on WDN_CTL.THR_EN = true ∧ (wardenAt 0).warden.trip = false := by
  decide +kernel

theorem wit_stopping : (wardenAt 3).rd WDN_STAT.THERM = 3 ∧ (wardenAt 3).warden.chainAt + 3328 ≤ (wardenAt 3).now ∧ (wardenAt 3).warden.stopAt = some 7 ∧
    (wardenAt 3).warden.chainAt + 204800 ≤ (wardenAt 3).now ∧ 7 + 125000 ≤ (wardenAt 3).now ∧ (wardenAt 5).warden.clkLost = true := by decide

theorem wit_stopping_quiet : (tripDue (List.replicate 400 (20, true)) || ({ wardenAt 3 with warden := { (wardenAt 3).warden with stopTemps := (List.range 400).map fun k => (k, 0) } } : State).stoppingTrip (List.replicate 400 (20, true))) = false := by
  decide +kernel

/-- A stopped device that may restart; regulator 3 feeds VDD_STK. -/
def stopped (ok : Nat) : State := (((ready.wr WDN_STAT.THERM 0 4).wr WDN_STAT.RESTART_OK 0 ok).wr WDN_VR_CFG.EN 3 1).wr WDN_VR_CFG.RAIL 3 9

theorem wit_restart : FMap.wf keyReset (stopped 1).regs = true ∧ (stopped 1).rd WDN_STAT.THERM = 4 ∧ (stopped 1).on WDN_STAT.RESTART_OK = true ∧
    (stopped 0).on WDN_STAT.RESTART_OK = false ∧ (stopped 1).restartRails = [3] ∧ (stopped 1).memOpen (.func 0) = true := by decide +kernel

/-- A monitor pass of two conversions, and two rails to turn on. -/
def monitoring (trig : Nat) (pass : List MonConv) : State :=
  { ((((stopped 0).wr WDN_MON_CTL.TRIG 0 trig).wr WDN_MON_CTL.MODE 0 (trig % 2)).wr WDN_MON_CTL.LEN 0 2).wr WDN_VR_CFG.VMAX 0 900 with
    now := 600000, warden := { Warden.init with pass := pass, rails := [3, 5] } }

theorem wit_monitor : (monitoring 2 []).warden.rails = 3 :: [5] ∧ (monitoring 2 []).warden.railAt + 500000 ≤ (monitoring 2 []).now ∧
    (monitoring 2 []).rd WDN_MON_CTL.TRIG = 2 ∧ (monitoring 2 []).on WDN_MON_CTL.MODE = false ∧ (monitoring 2 []).rd WDN_MON_CTL.LEN = 2 ∧
    ((List.range 2).all fun k => !monReserved ((monitoring 2 []).rd WDN_SEQ.CH k) && !(monitoring 2 []).on WDN_SEQ.SIM k) = true ∧
    (monitoring 1 [⟨18, 0, 0, none⟩]).rd WDN_MON_CTL.TRIG = 1 ∧ (monitoring 1 [⟨9, 0, 0, some 2⟩]).warden.pass = [⟨9, 0, 0, some 2⟩] ∧
    railChannel ((monitoring 1 []).rd WDN_VR_CFG.RAIL 3) = 18 := by decide

theorem wit_vset : (monitoring 2 []).rd WDN_VR_SEL.VR = 0 ∧ (monitoring 2 []).rd WDN_VR_CFG.VMIN 0 ≤ 850 ∧ 850 ≤ (monitoring 2 []).rd WDN_VR_CFG.VMAX 0 ∧
    (monitoring 2 []).rd WDN_VR_CFG.VMAX 0 < 901 ∧ (monitoring 2 []).memOpen (.func 0) = true := by decide

/-- The device has started, and its watchdog has not been kicked for 250 rounds. -/
def unkicked : State := { ready.wr WDN_ROUND.V 0 250 with boot := { Boot.init with held := false, begun := true } }

theorem wit_watchdog : unkicked.dogRuns = true ∧ unkicked.warden.kickRound + unkicked.rd WDN_WDOG.PERIOD ≤ unkicked.rd WDN_ROUND.V ∧
    unkicked.rd WDN_RST_CAUSE.STATE = 1 := by decide

/-- A started, locked device whose charter allows keys from the host; function 0 has a tenant key. -/
def locked (host : Bool) : State :=
  { ((ready.wr SEC_STAT.LOCK 0 1).wr SEC_TKEY_STAT.V 0 1) with
    boot := { Boot.init with held := false, begun := true }, charter := { ready.charter with keyHost := host, svn := 3 },
    sec := { SecState.init with stage := [(0, 3), (1, 3)], sess := [⟨1, 1, true, 0⟩, ⟨2, 1, false, 0⟩], nextSess := 3 } }

theorem wit_keys : (locked true).memOpen (.func 0) = true ∧ (locked true).on SEC_STAT.LOCK = true ∧ ready.on SEC_STAT.LOCK = false ∧ ready.memOpen (.func 0) = true ∧
    (locked true).charter.keyHost = true ∧ (locked false).charter.keyHost = false ∧ (locked true).slState 2 = slEmpty ∧
    ((locked true).setSlState 2 slReady).slState 2 ≠ slEmpty := by decide

theorem wit_spdm : spdmOpen (locked true) 1 = true ∧ spdmOpen (locked true) 0 = true ∧ (locked true).spdmStage 1 = 3 ∧ (locked true).sec.sess.length < 4 ∧
    ({ locked true with sec := { (locked true).sec with stage := [(1, 1)] } } : State).spdmStage 1 = 1 ∧
    ({ locked true with sec := { (locked true).sec with stage := [(1, 2)] } } : State).spdmStage 1 = 2 := by decide

theorem wit_spdm_cert : ({ locked true with sec := { (locked true).sec with certs := [(1, [5#8, 6#8])] } } : State).chain 1 = [5#8, 6#8] := by decide

theorem wit_spdm_sess : (∃ x ∈ (locked true).sec.sess, x.id = 2 ∧ x.port = 1 ∧ x.live = false) ∧ ⟨1, 1, true, 0⟩ ∈ (locked true).sec.sess ∧
    4 ≤ ({ locked true with sec := { (locked true).sec with sess := List.replicate 4 ⟨1, 1, true, 0⟩ } } : State).sec.sess.length := by decide

theorem wit_tenant : doeOpen (locked true) 0 = true ∧ (locked true).openFails 0 = 0 ∧ (locked true).hasKey 0 = true ∧ (locked true).openStatus 0 [] [] = 5 ∧
    ({ locked true with sec := { (locked true).sec with fails := [(0, 4)], failAt := [(0, 0)] } } : State).openFails 0 = 4 := by decide

/-- A nonce of 5 for function 0, whose key is 0. -/
def nonced : State := { locked true with sec := { (locked true).sec with nonces := [(0, ⟨5, 1⟩)] } }

/-- The MAC that a tenant of that key sends with a nonce of zeros. -/
def goodMac : List Byte := hmacSha512 (leBytes 32 0) (asciiBytes "WSA20OPEN" ++ leBytes 1 0 ++ leBytes 32 5 ++ List.replicate 32 0#8)

theorem wit_tenant_open : nonced.openStatus 0 (List.replicate 32 0#8) goodMac = 0 := by decide +kernel

theorem wit_deviceReset : unkicked.boot.powered = true ∧ unkicked.boot.held = false ∧ unkicked.inAnyReset = false ∧ unkicked.memOpen (.func 0) = true ∧
    FMap.wf keyReset unkicked.regs = true ∧ ({ unkicked with boot := { unkicked.boot with powered := false } } : State).boot.powered = false := by decide +kernel

/-- A started device, stall 0/0 in a state. -/
def resettable (st : Nat) : State := unkicked.setStState 0 st

theorem wit_unitReset : (resettable 3).inAnyReset = false ∧ (resettable 3).memOpen (.func 0) = true ∧ (resettable 3).rd MODE_STAT.PHASE = 0 ∧
    (⟨4, 0⟩ : UnitReset).stalls = [0] ∧ 0 ∈ (⟨3, 0⟩ : UnitReset).stalls ∧ 0 ∈ (⟨2, 0⟩ : UnitReset).stalls ∧ (resettable 3).stState 0 = 3 ∧
    ((resettable 3).stall 0).drains.contains .rst = false ∧ (resettable 7).stState 0 = stFault ∧ ((resettable 7).row (rowOf 0)).subst ≠ some (posOf 0) ∧
    (resettable 7).noWake (rowOf 0) = false ∧ (⟨4, 0⟩ : UnitReset).houses = [] ∧ (resettable 3).cal.waiting = [] ∧ (resettable 7).cal.testing = none := by decide +kernel

/-- A device in RECOVERY, a transfer of 600 bytes begun. -/
def recovering : State := { unkicked.wr WDN_RST_CAUSE.STATE 0 2 with now := 1000000, boot := { unkicked.boot with xfer := some (600, [1#8]) } }

theorem wit_startUp : bootSel 1 1 1 = 1 ∧ bootSel 0 0 4 = 0 ∧ bootSel 0 1 0 = 3 ∧ State.reset.boot.powered = true ∧ State.reset.boot.held = true ∧
    State.reset.warden.rails = [] ∧ State.reset.warden.trip = false ∧ State.reset.rd WDN_STAT.THERM < 3 ∧ State.reset.cal.fuses ++ State.reset.cal.log = [] := by decide

theorem wit_startUpReady : recovering.boot.held = false ∧ recovering.boot.begun = true ∧ recovering.rd WDN_STAT.THERM < 3 ∧ recovering.trainingDone = true ∧
    recovering.rd WDN_RST_CAUSE.STATE = 2 ∧ (recovering.wr WDN_RST_CAUSE.STATE 0 0).rd WDN_RST_CAUSE.STATE = 0 ∧ recovering.charterAccepted [] = false := by decide

theorem wit_recovery : doeOpen recovering 0 = true ∧ recovering.boot.xfer = some (600, [1#8]) ∧ 1 = [1#8].length := by decide

theorem wit_registers : ready.memOpen (.func 0) = true ∧ whoAdmin (.func 0) = true ∧ stallOk 0 0 = true ∧ ready.boot.inReset.contains (stallId 0 0) = false ∧
    ready.memOpen (.clerk 0) = true ∧ whoAdmin (.clerk 0) = true := by decide

/-- A device whose next slip has an OP, of function 0 with no open session. -/
def noSession (op : Nat) : State := (served op 1 []).wr TEN_SESSION.OPEN 0 0

theorem wit_noSession : ((List.range 6).all fun k => ((noSession (k + 1)).taken 0 2 (k + 1)).isSome && !(noSession (k + 1)).on TEN_SESSION.OPEN 0) = true := by decide

theorem wit_noSession_seal : ready.firstTaken = none ∧ leAt (ready.oslot 0 3).bytes 0 1 = 0 ∧ ready.on TEN_SESSION.OPEN 0 = false ∧ ready.takesWork = true := by decide

theorem wit_modeBusy : (moding 2).memOpen (.func 0) = true ∧ 1 ≤ (moding 2).rd MODE_STAT.PHASE ∧ (moding 2).rd MODE_STAT.PHASE ≤ 3 ∧
    (moding 2).on MODE_STAT.BARRIER_BUSY = false := by decide

theorem wit_trip : (wardenAt 3).boot.powered = true ∧ (wardenAt 3).warden.clkLost = false ∧ (wardenAt 3).warden.roundAt + 51200 ≤ (wardenAt 3).now ∧
    (wardenAt 3).thermtripN = false ∧ State.reset.now < State.reset.warden.chainAt + 204800 := by decide

theorem wit_count : sourceOk 450 = true ∧ ready.rd EVC_SRC.COUNT 450 < 15 ∧ (ready.wr EVC_SRC.COUNT 450 15).rd EVC_SRC.COUNT 450 = 15 := by decide

theorem wit_sizes : ready.memOpen (.func 0) = true ∧ (6 ≠ 4 ∧ 6 ≠ 8) ∧ 0x12 % 4 ≠ 0 := by decide

/-- One command of each family that answers a next state. -/
theorem wit_frame_families : ∀ F : Family, ∃ c s t, Instr.family c = F ∧ exec c s = .next t := by
  intro F
  cases F
  · exact ⟨.stlClipCntRead (.func 0) 0 0, ready, _, rfl, rfl⟩
  · exact ⟨.stlCtlWrite (.func 0) 0 0 3, ready, _, rfl, rfl⟩
  · exact ⟨.drainRequest (.clerk 0) 0 0, ready, _, rfl, rfl⟩
  · exact ⟨.stockingAbort (.func 0), ready, _, rfl, rfl⟩
  · exact ⟨.modelUnload (.func 0) 3, ready, _, rfl, rfl⟩
  · exact ⟨.emptyStep, ready, _, rfl, rfl⟩
  · exact ⟨.helloTimer 8, ready, _, rfl, rfl⟩
  · exact ⟨.scrubPeriodEnd 0, ready, _, rfl, rfl⟩
  · exact ⟨.msixUnmask 0 1, ready, _, rfl, rfl⟩
  · exact ⟨.barrier (.func 0), ready, _, rfl, rfl⟩
  · exact ⟨.calibrationQueue (.func 0) 0 0, ready, _, rfl, rfl⟩
  · exact ⟨.clkAoLoss, ready, _, rfl, rfl⟩
  · exact ⟨.svnCommit (.func 0), ready, _, rfl, rfl⟩
  · exact ⟨.perstNFall, ready, _, rfl, rfl⟩

theorem wit_frame_lists : Instr.mayWrite (.stlCtlWrite (.func 0) 0 0 3) STL_STAT = true ∧ Instr.mayWrite (.stlCtlWrite (.func 0) 0 0 3) STL_PLANE = false ∧
    Part.cart ∉ Instr.mayChange (.stlCtlWrite (.func 0) 0 0 3) := by decide

theorem wit_otherStalls : (∃ t, exec (.stlCtlWrite (.func 0) 0 0 3) ready = .next t) ∧ 1 ≠ stallId 0 0 ∧ (∃ t, exec (.drainRelease (.clerk 0) 0 5) ready = .next t) :=
  ⟨⟨_, rfl⟩, by decide, ⟨_, rfl⟩⟩

theorem wit_front : ({ ready with pending := [.emptyStep, .clkAoLoss] } : State).pending = .emptyStep :: [.clkAoLoss] := by decide

theorem wit_idle : ready.pending = [] ∧ ready.boot.powered = true ∧ ready.warden.clkLost = false ∧
    ({ ready with warden := { ready.warden with clkLost := true } } : State).warden.clkLost = true := by decide

theorem wit_inv : State.reset.Inv := ⟨by unfold State.regsWf; decide, by intro c hc; cases hc⟩

theorem wit_legal : State.reset.rd WDN_RST_CAUSE.STATE ≤ 5 ∧ State.reset.rd WDN_STAT.THERM ≤ 5 := by decide

/-! ### Ill-formed commands: one for each check -/

theorem test_ill_formed_first : ([.registerWrite (.func 64) 0 0 0 0,
    .registerWrite (.clerk 8) 0 0 0 0,
    .registerWrite .i3c 1 0 0 0,
    .stlClipCntRead .i3c 192 0,
    .stlClipCntRead .i3c 0 33,
    .wakeRequest (.row 192),
    .wakeRequest (.stall 0 33),
    .wakeRequest (.stall 192 0),
    .wakeRequest (.quarter 4),
    .descriptorArrival 0 0 [(0, 2 ^ 128)],
    .stagingBankWrite 0 0 0 4,
    .sliceSubstitution 0 0 8 0 [],
    .sliceSubstitution 0 0 0 5 [],
    .trimStep 0 0 5,
    .quantiseVector 0 8,
    .tileForceWide .i3c 0 0 4,
    .drainRequest .i3c 0 40,
    .touchupRestock .i3c 202752,
    .modelLoad .i3c 16 [] [] [],
    .planeLoadDone 0 0 2,
    .decodeAttention 4096 0 0 [] [] [] ⟨.none, [], [], none⟩,
    .pageManagerChange 0 (.refUp 4096),
    .slipSeal 64 0 0] : List Instr).all (fun c => !WellFormed c) = true := by decide

theorem test_ill_formed_rest : ([.slipSeal 0 256 0,
    .slipSeal 0 0 (2 ^ 64),
    .framePeriodTick 16,
    .adapterUnload .i3c 1024,
    .trainingTrialFail 8,
    .dataFrame 0 ⟨0, 0, []⟩ 4 0 [],
    .dataFrame 0 ⟨0, 0, []⟩ 0 65536 [],
    .idleFrame 0 ⟨16, 0, []⟩,
    .patrolScrub 36 false false .free,
    .startUpReady ⟨[], [⟨16, 2, 0, false⟩]⟩ [] [] [],
    .startUpReady ⟨[], [⟨0, 2, 2 ^ 37 + 1, false⟩]⟩ [] [] [],
    .scrubPeriodEnd 36,
    .t2SelfRefreshEntry 16,
    .msixUnmask 0 64,
    .handlerExit 8,
    .softwareEventSet .i3c 512,
    .modeChange .i3c 5 [],
    .modeStageTimeout 0 0,
    .modeStageTimeout 4 0,
    .selfTestLogic .i3c 3 0 0,
    .keyDataWrite .i3c 4 0,
    .getVersion 2,
    .getCertificate 0 4 0 0,
    .keyUpdate 0 0 0,
    .keyUpdate 0 0 4,
    .setCertificate 0 0 [],
    .quarterReset .i3c 4] : List Instr).all (fun c => !WellFormed c) = true := by decide

theorem test_well_formed : ([.lowHalfRead (.func 63) 0 8 4, .drainRequest (.clerk 7) 191 63, .wakeRequest (.quarter 3), .barrier .i3c] : List Instr).all WellFormed = true := by decide

end Sys2Proof.Tests
end

section
/-! PROOF. What may change between two states: footprints, and one rule for each operation over the state that a frame of the
access commands needs. Every rule carries the canonical form of the register file along. -/

namespace Sys2Proof.Machine

set_option Elab.async false

/-! ### Footprints -/

/-- What may change: parts of the state, and registers. -/
structure Footprint where
  parts : Part → Bool
  regs  : Reg → Bool

/-- Everything but the queue may change. -/
def Footprint.any : Footprint := ⟨fun p => p != .pending, fun _ => true⟩

/-- A register may change; the register file keeps offsets modulo 2¹³. -/
def Footprint.allows (F : Footprint) (r : Reg) : Bool := F.regs ⟨r.blk, r.off % 2 ^ 13⟩

/-- The footprint takes in some parts and registers. -/
def Footprint.Covers (F : Footprint) (ps : List Part) (rs : List Reg) : Prop := (ps.all F.parts && rs.all F.allows) = true

/-- A footprint that takes in some parts and registers takes in fewer. -/
theorem Footprint.Covers.sub {F : Footprint} {ps ps' : List Part} {rs rs' : List Reg} (h : F.Covers ps rs)
    (hs : (ps'.all ps.contains && rs'.all rs.contains) = true := by exact rfl) : F.Covers ps' rs' := by
  simp only [Footprint.Covers, Bool.and_eq_true, List.all_eq_true, List.contains_iff_mem] at h hs ⊢
  exact ⟨fun p hp => h.1 p (hs.1 p hp), fun r hr => h.2 r (hs.2 r hr)⟩

theorem Footprint.Covers.part {F : Footprint} {ps : List Part} {rs : List Reg} (h : F.Covers ps rs) {p : Part} (hp : p ∈ ps) :
    F.parts p = true := by
  simp only [Footprint.Covers, Bool.and_eq_true, List.all_eq_true] at h
  exact h.1 p hp

theorem Footprint.Covers.reg {F : Footprint} {ps : List Part} {rs : List Reg} (h : F.Covers ps rs) {r : Reg} (hr : r ∈ rs) :
    F.allows r = true := by
  simp only [Footprint.Covers, Bool.and_eq_true, List.all_eq_true] at h
  exact h.2 r hr

/-! ### What stays -/

/-- From one state to another nothing outside the footprint changes, and a canonical register file stays canonical. -/
structure Keeps (F : Footprint) (s t : State) : Prop where
  wf   : s.regsWf → t.regsWf
  part : ∀ p, F.parts p = false → p.same s t
  reg  : ∀ (r : Reg) (i : Nat), r.off < 8192 → F.regs r = false → t.getReg r i = s.getReg r i

/-- A meaning answers a next state, from which nothing outside the footprint has changed. -/
def Answers (F : Footprint) (s : State) (r : Result) : Prop := ∃ t, r = .next t ∧ Keeps F s t

variable {F : Footprint} {s₀ s t : State}

theorem Part.same_refl (p : Part) (s : State) : p.same s s := by cases p <;> exact rfl

theorem Part.same_trans {p : Part} {s t u : State} (h : p.same s t) (k : p.same t u) : p.same s u := by
  cases p <;> exact Eq.trans k h

theorem Keeps.refl (F : Footprint) (s : State) : Keeps F s s := ⟨id, fun p _ => Part.same_refl p s, fun _ _ _ _ => rfl⟩

theorem Keeps.ite {c : Prop} {_ : Decidable c} {a b : State} (ha : Keeps F s₀ a) (hb : Keeps F s₀ b) :
    Keeps F s₀ (if c then a else b) := by split <;> assumption

theorem Keeps.foldl {α : Type} {l : List α} {f : State → α → State} (h : Keeps F s₀ s)
    (hf : ∀ t x, Keeps F s₀ t → Keeps F s₀ (f t x)) : Keeps F s₀ (l.foldl f s) := by
  induction l generalizing s with
  | nil => exact h
  | cons x l ih => exact ih (hf s x h)

theorem Answers.next (h : Keeps F s₀ t) : Answers F s₀ (.next t) := ⟨t, rfl, h⟩

theorem Answers.ite {c : Prop} {_ : Decidable c} {a b : Result} (ha : Answers F s₀ a) (hb : Answers F s₀ b) :
    Answers F s₀ (if c then a else b) := by split <;> assumption

/-- What a meaning that answers `t` keeps. -/
theorem Answers.keeps {r : Result} (h : Answers F s₀ r) (e : r = .next t) : Keeps F s₀ t := by
  obtain ⟨u, rfl, hu⟩ := h
  cases e
  exact hu

/-! ### The register file -/

/-- Registers with different homes have different keys. -/
theorem Reg.key_ne_of_home {q r : Reg} {i j : Nat} (hq : q.off < 8192) (h : q ≠ ⟨r.blk, r.off % 2 ^ 13⟩) : q.key j ≠ r.key i := by
  intro e
  apply h
  simp only [Reg.key] at e
  have hb : q.blk = r.blk := Block.code_inj (by omega)
  have ho : q.off = r.off % 2 ^ 13 := by omega
  cases q
  exact congrArg₂ Reg.mk hb ho

theorem Keeps.setReg (h : Keeps F s₀ s) {r : Reg} {i : Nat} {v : Word64} (hF : F.Covers [] [r] := by exact rfl) :
    Keeps F s₀ (s.setReg r i v) where
  wf hw := State.regs_wf_setReg (h.wf hw) r i v
  part p hp := Part.same_trans (h.part p hp) (by unfold State.setReg; cases p <;> dsimp only [Part.same])
  reg q j hq hj := by
    rw [← h.reg q j hq hj]
    refine s.getReg_setReg_ne v (Reg.key_ne_of_home hq fun e => ?_)
    have := hF.reg (List.mem_singleton.2 rfl)
    rw [Footprint.allows, ← e, hj] at this
    cases this

theorem Keeps.wr (h : Keeps F s₀ s) {f : RField} {i v : Nat} (hF : F.Covers [] [f.reg] := by exact rfl) : Keeps F s₀ (s.wr f i v) :=
  h.setReg hF

theorem Keeps.bump (h : Keeps F s₀ s) {f : RField} {i n : Nat} (hF : F.Covers [] [f.reg] := by exact rfl) : Keeps F s₀ (s.bump f i n) :=
  h.wr hF

theorem Keeps.bumpSat (h : Keeps F s₀ s) {f : RField} {i n : Nat} (hF : F.Covers [] [f.reg] := by exact rfl) :
    Keeps F s₀ (s.bumpSat f i n) := h.wr hF

/-! ### The other parts -/

/-- Parts change, and the register file does not. -/
theorem Keeps.only (h : Keeps F s₀ s) (ps : List Part) (hF : F.Covers ps [] := by exact rfl)
    (hr : t.regs = s.regs := by with_reducible rfl)
    (hs : ∀ p, p ∉ ps → p.same s t := by intro p hp; cases p <;> first | (simp at hp; done) | dsimp only [Part.same]) : Keeps F s₀ t where
  wf hw := by rw [State.regsWf, hr]; exact h.wf hw
  part p hp := Part.same_trans (h.part p hp) (hs p fun hm => by simp [hF.part hm] at hp)
  reg q j hq hj := (State.getReg_of_regs hr q j).trans (h.reg q j hq hj)

/-- With everything but the queue free to change, an update of parts beside it and the register file is kept. -/
theorem Keeps.parts (h : Keeps .any s₀ s) (hq : t.pending = s.pending := by with_reducible rfl)
    (hr : t.regs = s.regs := by with_reducible rfl) : Keeps .any s₀ t where
  wf hw := by rw [State.regsWf, hr]; exact h.wf hw
  part p hp := by
    cases p with
    | pending => exact Part.same_trans (h.part .pending hp) hq
    | _ => simp [Footprint.any] at hp
  reg _ _ _ hj := by simp [Footprint.any] at hj

/-! ### Sending, events and flags -/

theorem Keeps.translate (h : Keeps F s₀ s) {f a : Nat} (hF : F.Covers [.funcs] [] := by exact rfl) : Keeps F s₀ (s.translate f a) := by
  unfold State.translate
  exact .ite (h.only [.funcs] hF) h

/-- What sending may change. -/
def sendParts : List Part := [.outbox, .funcs]

theorem Keeps.send (h : Keeps F s₀ s) {o : Out} (hF : F.Covers sendParts [] := by exact rfl) : Keeps F s₀ (s.send o) := by
  unfold State.send
  extract_lets s1
  have h1 : Keeps F s₀ s1 := by
    unfold s1
    split
    · exact h.translate hF.sub
    · exact h.translate hF.sub
    · exact h
  exact h1.only [.outbox] hF.sub

/-- The registers that a raised source may change. -/
def raiseRegs : List Reg := [EVC_SRC, EVC_ERR]

theorem Keeps.timePending (h : Keeps F s₀ s) {n : Nat} (hF : F.Covers [.pendAt] [] := by exact rfl) : Keeps F s₀ (s.timePending n) := by
  unfold State.timePending
  exact .ite (h.only [.pendAt] hF) h

theorem Keeps.countEvent (h : Keeps F s₀ s) {n : Nat} (hF : F.Covers [.pendAt] raiseRegs := by exact rfl) :
    Keeps F s₀ (s.countEvent n) := by
  unfold State.countEvent
  exact .ite ((h.timePending hF.sub).wr hF.sub) (((h.wr hF.sub).wr hF.sub).wr hF.sub)

theorem Keeps.raise (h : Keeps F s₀ s) {n : Nat} (hF : F.Covers [.pendAt] raiseRegs := by exact rfl) : Keeps F s₀ (s.raise n) := by
  unfold State.raise
  exact .ite (.ite (h.countEvent hF) ((h.countEvent hF).wr hF.sub)) h

theorem Keeps.setFunc (h : Keeps F s₀ s) {f : Nat} {v : Func} (hF : F.Covers [.funcs] [] := by exact rfl) : Keeps F s₀ (s.setFunc f v) := by
  unfold State.setFunc
  exact h.only [.funcs] hF

theorem Keeps.msi (h : Keeps F s₀ s) {f v : Nat} (hF : F.Covers sendParts [] := by exact rfl) : Keeps F s₀ (s.msi f v) := by
  unfold State.msi
  exact .ite (.ite (h.setFunc hF.sub) (h.send hF)) h

theorem Keeps.fnEvent (h : Keeps F s₀ s) {f b : Nat} (hF : F.Covers sendParts [HOST_FN_EVT] := by exact rfl) : Keeps F s₀ (s.fnEvent f b) := by
  unfold State.fnEvent
  exact .ite h (.ite ((h.setReg hF.sub).msi hF.sub) (h.setReg hF.sub))

/-- What the events of a flag may change. -/
def flagParts : List Part := [.outbox, .funcs, .pendAt]
/-- The registers that they may change. -/
def flagRegs : List Reg := [EVC_SRC, EVC_ERR, HOST_FN_EVT]

theorem Keeps.flagEvent (h : Keeps F s₀ s) {r : Reg} {i : Nat} {q : Bool} (hF : F.Covers flagParts flagRegs := by exact rfl) :
    Keeps F s₀ (s.flagEvent r i q) := by
  have hr (n : Nat) : Keeps F s₀ (s.raise n) := h.raise hF.sub
  unfold State.flagEvent
  split
  · exact .ite h (hr _)
  · exact .ite h (hr _)
  · exact hr _
  · exact hr _
  · exact hr _
  · exact hr _
  · exact hr _
  · exact hr _
  · exact hr _
  · exact hr _
  · exact (hr _).fnEvent hF.sub
  · exact h.fnEvent hF.sub
  · exact hr _
  all_goals exact h

theorem Keeps.flag (h : Keeps F s₀ s) {f : RField} {i : Nat} (hf : F.Covers [] [f.reg] := by exact rfl)
    (hF : F.Covers flagParts flagRegs := by exact rfl) : Keeps F s₀ (s.flag f i) := by
  unfold State.flag
  exact .ite h ((h.wr hf).flagEvent hF)

theorem Keeps.flagAt (h : Keeps F s₀ s) {f : RField} {i : Nat} {l : List (RField × Nat)}
    (hl : ∀ p ∈ l, F.Covers [] [p.1.reg] := by intros; exact rfl) (hf : F.Covers [] [f.reg] := by exact rfl)
    (hF : F.Covers flagParts flagRegs := by exact rfl) : Keeps F s₀ (s.flagAt f i l) := by
  unfold State.flagAt
  refine Keeps.flag ?_ hf hF
  induction l generalizing s with
  | nil => exact h
  | cons p l ih => exact ih (h.wr (hl p List.mem_cons_self)) fun q hq => hl q (List.mem_cons_of_mem p hq)

/-- A flag of a fault record raises the event of its function alone (R414). -/
theorem Keeps.tenFlag (h : Keeps F s₀ s) {f : RField} {i : Nat} (hb : f.reg.blk = .fnTen) (hf : F.Covers [] [f.reg])
    (hF : F.Covers sendParts [HOST_FN_EVT]) : Keeps F s₀ (s.flag f i) := by
  unfold State.flag State.flagEvent
  simp only [hb]
  exact .ite h ((h.wr hf).fnEvent hF)

theorem Keeps.tenFault (h : Keeps F s₀ s) {f : RField} {i : Nat} (hf : F.Covers [] [f.reg] := by exact rfl)
    (hF : F.Covers flagParts flagRegs := by exact rfl) : Keeps F s₀ (s.tenFault f i) := h.flag hf hF

/-! ### Accesses -/

/-- The registers that an access error may change. -/
def accessRegs : List Reg := [TEN_ACCESS_ERR_CNT, TEN_FAULT_INFO, TEN_FAULT, HOST_FN_EVT]

theorem Keeps.accessError (h : Keeps F s₀ s) {who : Who} {bar off : Nat} {w : Bool} (hF : F.Covers sendParts accessRegs := by exact rfl) :
    Keeps F s₀ (s.accessError who bar off w) := by
  unfold State.accessError
  split
  · exact ((((h.bump hF.sub).wr hF.sub).wr hF.sub).wr hF.sub).tenFlag rfl hF.sub hF.sub
  · exact h

theorem Keeps.dropHalves (h : Keeps F s₀ s) {who : Who} (hF : F.Covers [.halves] [] := by exact rfl) : Keeps F s₀ (s.dropHalves who) := by
  unfold State.dropHalves
  exact h.only [.halves] hF

theorem Keeps.keepHalves (h : Keeps F s₀ s) {who : Who} {n : Nat} (hF : F.Covers [.halves] [] := by exact rfl) :
    Keeps F s₀ (s.keepHalves who n) := by
  unfold State.keepHalves
  exact h.only [.halves] hF

theorem Keeps.keepHalf (h : Keeps F s₀ s) {who : Who} {n v : Nat} {w : Bool} (hF : F.Covers [.halves] [] := by exact rfl) :
    Keeps F s₀ (s.keepHalf who n w v) := by
  unfold State.keepHalf
  exact h.only [.halves] hF

theorem Keeps.dropHalf (h : Keeps F s₀ s) {who : Who} {w : Bool} (hF : F.Covers [.halves] [] := by exact rfl) :
    Keeps F s₀ (s.dropHalf who w) := by
  unfold State.dropHalf
  exact h.only [.halves] hF

theorem Keeps.clerksWake (h : Keeps F s₀ s) (hF : F.Covers [] [EVC_CLK_STAT] := by exact rfl) : Keeps F s₀ s.clerksWake := by
  unfold State.clerksWake
  exact h.foldl fun _ _ h => .ite (h.wr hF) h

theorem Keeps.squareRuns (h : Keeps F s₀ s) (hF : F.Covers [.warden] [EVC_CLK_STAT] := by exact rfl) : Keeps F s₀ s.squareRuns := by
  unfold State.squareRuns
  exact .ite ((h.only [.warden] hF.sub).clerksWake hF.sub) h

theorem Keeps.accessed (h : Keeps F s₀ s) {who : Who} {off : Nat} (hF : F.Covers [.warden, .halves] [EVC_CLK_STAT] := by exact rfl) :
    Keeps F s₀ (s.accessed who off) := (h.squareRuns hF.sub).keepHalves hF.sub

theorem Keeps.clearSample (h : Keeps F s₀ s) {r : Reg} {i : Nat} {f : Word64 → Word64} (hw : F.Covers [.warden] [] := by exact rfl)
    (hr : F.Covers [] [r] := by exact rfl) : Keeps F s₀ (s.clearSample r i f) := by
  unfold State.clearSample
  exact .ite (h.only [.warden] hw) (h.setReg hr)

theorem Keeps.readClear (h : Keeps F s₀ s) {who : Who} {r : Reg} {i : Nat} (hF : F.Covers [.warden, .outbox, .funcs] [] := by exact rfl)
    (hr : F.Covers [] [r] := by exact rfl) : Keeps F s₀ (s.readClear who r i) := by
  unfold State.readClear
  split
  · exact (h.clearSample hF.sub hr).send hF.sub
  · exact h

/-! ### Sleep and wake -/

/-- What a wake may change (R488). -/
def wakeParts : List Part := [.sleep, .gatedAt, .wakeAt, .boot]
/-- The registers that it may change. -/
def wakeRegs : List Reg := [MEM_STAT, MEM_UNIT_STAT, WDN_WAKE_CNT, WH_STAT, STL_STAT]

theorem Keeps.setStState (h : Keeps F s₀ s) {sid st : Nat} (hF : F.Covers [] [STL_STAT] := by exact rfl) :
    Keeps F s₀ (s.setStState sid st) := h.wr hF

theorem Keeps.setMemUnit (h : Keeps F s₀ s) {u st : Nat} (hF : F.Covers [] [MEM_STAT, MEM_UNIT_STAT] := by exact rfl) :
    Keeps F s₀ (s.setMemUnit u st) := by
  unfold State.setMemUnit
  refine (h.wr hF.sub).wr ?_
  split <;> exact hF.sub

theorem Keeps.stacksUp (h : Keeps F s₀ s) {q : Nat} (hF : F.Covers [] [MEM_STAT, MEM_UNIT_STAT] := by exact rfl) :
    Keeps F s₀ (s.stacksUp q) := by
  unfold State.stacksUp
  exact h.foldl fun _ _ h => .ite (h.setMemUnit hF) h

theorem Keeps.setHouses (h : Keeps F s₀ s) {q a b : Nat} (hF : F.Covers [] [WH_STAT] := by exact rfl) : Keeps F s₀ (s.setHouses q a b) := by
  unfold State.setHouses
  exact h.foldl fun _ _ h => .ite (h.wr hF) h

theorem Keeps.wakeUnit (h : Keeps F s₀ s) {u : Nat} (hF : F.Covers [.sleep, .gatedAt, .wakeAt] [WDN_WAKE_CNT] := by exact rfl) :
    Keeps F s₀ (s.wakeUnit u) := by
  unfold State.wakeUnit
  exact .ite ((h.only [.sleep, .gatedAt, .wakeAt] hF.sub).bump hF.sub) h

theorem Keeps.unitRuns (h : Keeps F s₀ s) {u : Nat} (hF : F.Covers wakeParts wakeRegs := by exact rfl) : Keeps F s₀ (s.unitRuns u) := by
  unfold State.unitRuns
  extract_lets s1
  have h1 : Keeps F s₀ s1 := .ite ((h.stacksUp hF.sub).setHouses hF.sub) h
  exact .ite (h1.only [.sleep, .wakeAt, .boot] hF.sub) h

theorem Keeps.wakeRowReq (h : Keeps F s₀ s) {row : Nat} (hF : F.Covers [.sleep, .gatedAt, .wakeAt] [WDN_WAKE_CNT] := by exact rfl) :
    Keeps F s₀ (s.wakeRowReq row) := (h.wakeUnit hF).wakeUnit hF

theorem Keeps.wakeStallReq (h : Keeps F s₀ s) {sid : Nat} (hF : F.Covers wakeParts wakeRegs := by exact rfl) :
    Keeps F s₀ (s.wakeStallReq sid) := by
  unfold State.wakeStallReq
  exact .ite ((((h.only [.gatedAt, .wakeAt] hF.sub).setStState hF.sub).bump hF.sub).wakeRowReq hF.sub) (h.wakeRowReq hF.sub)

theorem Keeps.stallRuns (h : Keeps F s₀ s) {sid : Nat} (hF : F.Covers wakeParts wakeRegs := by exact rfl) :
    Keeps F s₀ (s.stallRuns sid) := by
  unfold State.stallRuns
  exact .ite ((h.setStState hF.sub).only [.wakeAt, .boot] hF.sub) h

theorem Keeps.wakeStall (h : Keeps F s₀ s) {sid : Nat} (hF : F.Covers wakeParts wakeRegs := by exact rfl) :
    Keeps F s₀ (s.wakeStall sid) := by
  unfold State.wakeStall
  exact .ite ((((h.wakeStallReq hF).stallRuns hF).unitRuns hF).unitRuns hF) h

theorem Keeps.wakeRow (h : Keeps F s₀ s) {row : Nat} (hF : F.Covers wakeParts wakeRegs := by exact rfl) : Keeps F s₀ (s.wakeRow row) := by
  unfold State.wakeRow
  exact .ite h (((h.wakeRowReq hF.sub).unitRuns hF).unitRuns hF)

theorem Keeps.wakeQuarter (h : Keeps F s₀ s) {q : Nat} (hF : F.Covers wakeParts wakeRegs := by exact rfl) :
    Keeps F s₀ (s.wakeQuarter q) := by
  unfold State.wakeQuarter
  exact .ite h ((h.wakeUnit hF.sub).unitRuns hF)

theorem Keeps.wakeBlock (h : Keeps F s₀ s) {b : Block} {u : Nat} (hF : F.Covers wakeParts wakeRegs := by exact rfl) :
    Keeps F s₀ (s.wakeBlock b u) := by
  unfold State.wakeBlock
  split
  · exact h.wakeStall hF
  · exact h.wakeRow hF
  · exact h.wakeQuarter hF
  · exact h

theorem Keeps.setStall (h : Keeps F s₀ s) {k : Nat} {v : Stall} (hF : F.Covers [.stalls] [] := by exact rfl) : Keeps F s₀ (s.setStall k v) := by
  unfold State.setStall
  exact h.only [.stalls] hF

theorem Keeps.modStall (h : Keeps F s₀ s) {k : Nat} {f : Stall → Stall} (hF : F.Covers [.stalls] [] := by exact rfl) :
    Keeps F s₀ (s.modStall k f) := h.setStall hF

theorem Keeps.abortEntry (h : Keeps F s₀ s) {u : SleepUnit} (hF : F.Covers [.stalls] [WDN_WAKE_CNT] := by exact rfl) :
    Keeps F s₀ (s.abortEntry u) := by
  unfold State.abortEntry
  extract_lets s1
  have h1 : Keeps F s₀ s1 := h.bump hF.sub
  split
  · exact h1.modStall hF.sub
  · exact h1

theorem Keeps.setPlane (h : Keeps F s₀ s) {sid p st tag : Nat} (hF : F.Covers [] [STL_PLANE] := by exact rfl) :
    Keeps F s₀ (s.setPlane sid p st tag) := by
  unfold State.setPlane
  exact .ite ((h.wr hF).wr hF) ((h.wr hF).wr hF)

theorem Keeps.loseSram (h : Keeps F s₀ s) {sid : Nat} (hF : F.Covers [.stalls] [STL_PLANE] := by exact rfl) : Keeps F s₀ (s.loseSram sid) := by
  unfold State.loseSram
  exact ((h.modStall hF.sub).setPlane hF.sub).setPlane hF.sub

/-- What an entry into bias-off may change (R25). -/
def offParts : List Part := [.stalls, .sleep, .gatedAt, .wakeAt]
/-- The registers that it may change. -/
def offRegs : List Reg := [STL_STAT, STL_PLANE, MEM_STAT, MEM_UNIT_STAT, WH_STAT]

theorem Keeps.stallBiasOff (h : Keeps F s₀ s) {sid : Nat} (hF : F.Covers offParts offRegs := by exact rfl) :
    Keeps F s₀ (s.stallBiasOff sid) := by
  unfold State.stallBiasOff
  extract_lets s2 s3
  have h2 : Keeps F s₀ s2 := h.loseSram hF.sub
  have h3 : Keeps F s₀ s3 := h2.only [.gatedAt, .wakeAt] hF.sub
  exact .ite h3 (h3.setStState hF.sub)

theorem Keeps.rowBiasOff (h : Keeps F s₀ s) {row : Nat} (hF : F.Covers offParts offRegs := by exact rfl) : Keeps F s₀ (s.rowBiasOff row) := by
  unfold State.rowBiasOff
  exact h.only [.sleep, .gatedAt, .wakeAt] hF.sub

theorem Keeps.quarterBiasOff (h : Keeps F s₀ s) {q : Nat} (hF : F.Covers offParts offRegs := by exact rfl) :
    Keeps F s₀ (s.quarterBiasOff q) := by
  unfold State.quarterBiasOff
  extract_lets s1
  have h1 : Keeps F s₀ s1 := h.foldl fun _ _ h => .ite (h.setMemUnit hF.sub) h
  exact (h1.setHouses hF.sub).only [.sleep, .gatedAt, .wakeAt] hF.sub

end Sys2Proof.Machine
end

section
/-! PROOF. What an operation offers: the rules for answers inside answers, optional states and drawn values. -/

namespace Sys2Proof.Machine

set_option Elab.async false

variable {s₀ s t : State}

theorem Keeps.of_eq {F : Footprint} (h : Keeps F s₀ s) (e : s = t) : Keeps F s₀ t := e ▸ h

theorem Keeps.nextOr {F : Footprint} {r : Result} (_ : Keeps F s₀ s) (hr : Answers F s₀ r) : Keeps F s₀ (nextOr s r) := by
  obtain ⟨t, rfl, ht⟩ := hr
  exact ht

theorem Keeps.elim {F : Footprint} {α : Type} {o : Option α} {g : α → State} (h : Keeps F s₀ s) (hg : ∀ x, Keeps F s₀ (g x)) :
    Keeps F s₀ (o.elim s g) := by
  cases o with
  | none => exact h
  | some x => exact hg x

/-- Where an operation offers a value, the state in it is kept. -/
def Offers {α : Type} (s₀ : State) (f : α → State) (o : Option α) : Prop := ∀ x, o = some x → Keeps .any s₀ (f x)

variable {α β : Type} {f : α → State} {o : Option α}

theorem Offers.some {x : α} (h : Keeps .any s₀ (f x)) : Offers s₀ f (some x) := by
  rintro y ⟨⟩
  exact h

theorem Offers.none : Offers s₀ f none := nofun

theorem Offers.ite {c : Prop} {_ : Decidable c} {a b : Option α} (ha : Offers s₀ f a) (hb : Offers s₀ f b) :
    Offers s₀ f (if c then a else b) := by split <;> assumption

theorem Offers.of {x : α} (h : Offers s₀ f o) (e : o = Option.some x) : Keeps .any s₀ (f x) := h x e

theorem Offers.bind {g : β → State} {k : α → Option β} (h : Offers s₀ f o) (hk : ∀ x, Keeps .any s₀ (f x) → Offers s₀ g (k x)) :
    Offers s₀ g (o.bind k) := by
  cases o with
  | none => exact .none
  | some x => exact hk x (h x rfl)

theorem Offers.map {g : β → State} {k : α → β} (hk : ∀ x, o = Option.some x → Keeps .any s₀ (g (k x))) : Offers s₀ g (o.map k) := by
  cases o with
  | none => exact .none
  | some x => exact .some (hk x rfl)

theorem Offers.foldl {l : List β} {k : Option α → β → Option α} (h : Offers s₀ f o)
    (hk : ∀ a x, Offers s₀ f a → Offers s₀ f (k a x)) : Offers s₀ f (l.foldl k o) := by
  induction l generalizing o with
  | nil => exact h
  | cons x l ih => exact ih (hk o x h)

theorem Offers.getD {o : Option State} (h : Offers s₀ (·) o) (hs : Keeps .any s₀ s) : Keeps .any s₀ (o.getD s) := by
  cases o with
  | none => exact hs
  | some t => exact h t rfl

/-- Entries that differ from what their keys read as, put one after the other. -/
theorem FMap.wf_puts {α : Type} [DecidableEq α] {d : Nat → α} {l m : FMap α} (hl : ∀ e ∈ l, e.2 ≠ d e.1) (h : FMap.wf d m = true) :
    FMap.wf d (l.foldl (fun m e => FMap.put m e.1 e.2) m) = true := by
  induction l generalizing m with
  | nil => exact h
  | cons e l ih =>
    refine ih (fun x hx => hl x (List.mem_cons_of_mem e hx)) ?_
    simp only [FMap.wf, Bool.and_eq_true, List.all_eq_true, decide_eq_true_eq] at h ⊢
    refine ⟨FMap.sorted_put h.1, fun x hx => ?_⟩
    rcases FMap.mem_put hx with rfl | hm
    · exact hl e List.mem_cons_self
    · exact h.2 x hm

theorem FMap.ne_of_wf {α : Type} [DecidableEq α] {d : Nat → α} {m : FMap α} (h : FMap.wf d m = true) (p : Nat × α → Bool) :
    ∀ e ∈ m.filter p, e.2 ≠ d e.1 := by
  simp only [FMap.wf, Bool.and_eq_true, List.all_eq_true, decide_eq_true_eq] at h
  exact fun e he => h.2 e (List.mem_of_mem_filter he)

/-- A state built anew keeps the queue and has a canonical register file. -/
theorem Keeps.rebuilt (h : Keeps .any s₀ s) (hq : t.pending = s.pending) (hw : s.regsWf → t.regsWf) : Keeps .any s₀ t where
  wf := hw ∘ h.wf
  part p hp := by
    cases p with
    | pending => exact Part.same_trans (h.part .pending hp) hq
    | _ => simp [Footprint.any] at hp
  reg _ _ _ hj := by simp [Footprint.any] at hj

/-- The warden's part and the thermal levels, whatever they become: the new values are left open, so that nothing evaluates them. -/
theorem Keeps.withWarden (h : Keeps .any s₀ s) {w : Warden} {l : FMap Nat} : Keeps .any s₀ { s with warden := w, level := l } := h.parts

/-- The record of restocks, whatever it becomes. -/
theorem Keeps.noteRestocked (h : Keeps .any s₀ s) {m : FMap Nat} : Keeps .any s₀ { s with restocked := m } := h.parts

/-- Drawing a free value keeps the state. -/
theorem Keeps.takeFree (h : Keeps .any s₀ s) : Keeps .any s₀ s.takeFree.2 := by unfold State.takeFree; exact h.parts

end Sys2Proof.Machine
end

section
/-! PROOF. Machine/Ops, the named operations over the state: every operation keeps the queue and a canonical register file. -/

namespace Sys2Proof.Machine

set_option Elab.async false

variable {s₀ s : State}

theorem Keeps.resetRegs (h : Keeps .any s₀ s) {rs : List Reg} {i : Nat} : Keeps .any s₀ (s.resetRegs rs i) := by
  unfold State.resetRegs; exact h.foldl fun _ _ h => h.setReg

theorem Keeps.setGroup (h : Keeps .any s₀ s) {gid : Nat} {v : Group} : Keeps .any s₀ (s.setGroup gid v) := by
  unfold State.setGroup; exact h.parts

theorem Keeps.modGroup (h : Keeps .any s₀ s) {gid : Nat} {f : Group → Group} : Keeps .any s₀ (s.modGroup gid f) := by
  unfold State.modGroup; exact h.setGroup

theorem Keeps.setRow (h : Keeps .any s₀ s) {r : Nat} {v : Row} : Keeps .any s₀ (s.setRow r v) := by
  unfold State.setRow; exact h.parts

theorem Keeps.modRow (h : Keeps .any s₀ s) {r : Nat} {f : Row → Row} : Keeps .any s₀ (s.modRow r f) := by
  unfold State.modRow; exact h.setRow

theorem Keeps.setSlot (h : Keeps .any s₀ s) {m : Nat} {v : ModelSlot} : Keeps .any s₀ (s.setSlot m v) := by
  unfold State.setSlot; exact h.parts

theorem Keeps.modSlot (h : Keeps .any s₀ s) {m : Nat} {f : ModelSlot → ModelSlot} : Keeps .any s₀ (s.modSlot m f) := by
  unfold State.modSlot; exact h.setSlot

theorem Keeps.modFunc (h : Keeps .any s₀ s) {f : Nat} {g : Func → Func} : Keeps .any s₀ (s.modFunc f g) := by
  unfold State.modFunc; exact h.setFunc

theorem Keeps.setClerk (h : Keeps .any s₀ s) {k : Nat} {v : Clerk} : Keeps .any s₀ (s.setClerk k v) := by
  unfold State.setClerk; exact h.parts

theorem Keeps.setJrn (h : Keeps .any s₀ s) {i : Nat} {e : JEntry} : Keeps .any s₀ (s.setJrn i e) := by
  unfold State.setJrn; exact h.parts

theorem Keeps.assayDone (h : Keeps .any s₀ s) : Keeps .any s₀ s.assayDone := by
  unfold State.assayDone; exact h.raise

theorem Keeps.corFlag (h : Keeps .any s₀ s) {f : RField} {row stall group : Nat} :
    Keeps .any s₀ (s.corFlag f row stall group) := by
  unfold State.corFlag; exact h.flagAt

theorem Keeps.nqFlag (h : Keeps .any s₀ s) {f : RField} {row stall group : Nat} : Keeps .any s₀ (s.nqFlag f row stall group) := by
  unfold State.nqFlag; exact h.flagAt

theorem Keeps.accFlag (h : Keeps .any s₀ s) {f : RField} {row stall : Nat} : Keeps .any s₀ (s.accFlag f row stall) := by
  unfold State.accFlag; exact h.flagAt

theorem Keeps.chkFlag (h : Keeps .any s₀ s) {f : RField} {sid : Nat} : Keeps .any s₀ (s.chkFlag f sid) := by
  unfold State.chkFlag; exact h.flagAt

theorem Keeps.adminWrite (h : Keeps .any s₀ s) {who : Who} {r : Reg} {f : State → State}
    (hf : ∀ t, Keeps .any s₀ t → Keeps .any s₀ (f t)) :
    Keeps .any s₀ (s.adminWrite who r f) := by
  unfold State.adminWrite; exact .ite h (.ite (hf _ h.accessed) h.accessed.accessError)

theorem Keeps.faultLog (h : Keeps .any s₀ s) {code unit quarter row stall : Nat} :
    Keeps .any s₀ (s.faultLog code unit quarter row stall) := by
  unfold State.faultLog; exact h.wr.wr.wr.wr.wr.wr.wr.bumpSat

theorem Keeps.stallFault (h : Keeps .any s₀ s) {sid : Nat} : Keeps .any s₀ (s.stallFault sid) := by
  unfold State.stallFault; exact .ite h h.setStState.faultLog

theorem Keeps.rowFault (h : Keeps .any s₀ s) {row : Nat} : Keeps .any s₀ (s.rowFault row) := by
  unfold State.rowFault; exact .ite h (.faultLog (h.foldl fun _ _ h => h.setStState))

theorem Keeps.dmaFail (h : Keeps .any s₀ s) {f : Nat} {ats : Bool} : Keeps .any s₀ (s.dmaFail f ats) := by
  unfold State.dmaFail; exact .flagAt (.ite h.bump.tenFault.tenFault h.bump.tenFault)

theorem Keeps.memFlag (h : Keeps .any s₀ s) {f : RField} {unit : Nat} : Keeps .any s₀ (s.memFlag f unit) := by
  unfold State.memFlag; exact h.flagAt

theorem Keeps.touchChan (h : Keeps .any s₀ s) {c : Nat} : Keeps .any s₀ (s.touchChan c) := by
  unfold State.touchChan; exact .parts (.ite h.setMemUnit h)

theorem Keeps.touchGrans (h : Keeps .any s₀ s) {gs : List Nat} : Keeps .any s₀ (s.touchGrans gs) := by
  unfold State.touchGrans; exact h.foldl fun _ _ h => h.touchChan

theorem Keeps.touchSpan (h : Keeps .any s₀ s) {a n : Nat} : Keeps .any s₀ (s.touchSpan a n) := by
  unfold State.touchSpan; exact h.touchGrans

theorem Keeps.countUE (h : Keeps .any s₀ s) {g : Nat} : Keeps .any s₀ (s.countUE g) := by
  unfold State.countUE; exact h.bump.memFlag.bump

theorem Keeps.dueGran (h : Keeps .any s₀ s) {g : Nat} : Keeps .any s₀ (s.dueGran g) := by
  unfold State.dueGran; exact h.parts

theorem Keeps.memUE (h : Keeps .any s₀ s) {g : Nat} : Keeps .any s₀ (s.memUE g) := by
  unfold State.memUE; exact h.countUE.dueGran

theorem Keeps.memCE (h : Keeps .any s₀ s) {gran : Nat} : Keeps .any s₀ (s.memCE gran) := by
  unfold State.memCE; exact .ite h.parts.bump.dueGran h.parts.bump

theorem Keeps.corrected (h : Keeps .any s₀ s) {e : MemErr} : Keeps .any s₀ (s.corrected e) := by
  unfold State.corrected; exact h.foldl fun _ _ h => h.memCE

theorem Keeps.readMem (h : Keeps .any s₀ s) {e : MemErr} : Keeps .any s₀ (s.readMem e) := by
  unfold State.readMem
  exact h.corrected.elim fun _ => h.corrected.memUE

theorem Keeps.queueCal (h : Keeps .any s₀ s) {sid : Nat} : Keeps .any s₀ (s.queueCal sid) := by
  unfold State.queueCal; exact .ite h (.ite h.bump.parts.wr h.bump.parts)

theorem Keeps.calFlag (h : Keeps .any s₀ s) {f : RField} {sid : Nat} : Keeps .any s₀ (s.calFlag f sid) := by
  unfold State.calFlag; exact h.flagAt

theorem Keeps.logRepair (h : Keeps .any s₀ s) {sid : Nat} {r : Repair} : Keeps .any s₀ (s.logRepair sid r) := by
  unfold State.logRepair; exact .ite h (.ite h.parts h.calFlag)

theorem Keeps.unlogRepair (h : Keeps .any s₀ s) {r : Repair} : Keeps .any s₀ (s.unlogRepair r) := by
  unfold State.unlogRepair; exact h.parts

theorem Keeps.logSlices (h : Keeps .any s₀ s) {sid map : Nat} : Keeps .any s₀ (s.logSlices sid map) := by
  unfold State.logSlices; exact h.foldl fun _ _ h => .ite h.parts h.parts.logRepair

theorem Keeps.testDrained (h : Keeps .any s₀ s) : Keeps .any s₀ s.testDrained := by
  unfold State.testDrained
  split
  · exact .ite h.wr h
  · exact h

theorem Keeps.passEdges (h : Keeps .any s₀ s) {row k : Nat} : Keeps .any s₀ (s.passEdges row k) := by
  unfold State.passEdges; exact h.modRow.bump

theorem Keeps.fastMode (h : Keeps .any s₀ s) {gid : Nat} : Keeps .any s₀ (s.fastMode gid) := by
  unfold State.fastMode; exact h.modGroup.wr

end Sys2Proof.Machine
end

section
/-! PROOF. Machine/Operands, what the operands of the row's commands name: every operation keeps the queue and a canonical register file. -/

namespace Sys2Proof.Machine

set_option Elab.async false

variable {s₀ s : State}

theorem Keeps.widen (h : Keeps .any s₀ s) {gid : Nat} : Keeps .any s₀ (s.widen gid) := by
  unfold State.widen; exact .modGroup (.wr (.wr (.ite h h.bump)))

theorem Keeps.endTile (h : Keeps .any s₀ s) {gid : Nat} : Keeps .any s₀ (s.endTile gid) := by
  unfold State.endTile; exact h.wr.wr.wr.modGroup

end Sys2Proof.Machine
end

section
/-! PROOF. Machine/Cper, CPER records and their ring: every operation keeps the queue and a canonical register file. -/

namespace Sys2Proof.Machine

set_option Elab.async false

variable {s₀ s : State}

theorem Keeps.cper (h : Keeps .any s₀ s) {c : Cper} : Keeps .any s₀ (s.cper c) := by
  unfold State.cper; exact .ite (.ite h.bump.flag.parts h.send.bump.send.fnEvent.parts) h

end Sys2Proof.Machine
end

section
/-! PROOF. Machine/Discard, strikes whose values are not wanted: every operation keeps the queue and a canonical register file. -/

namespace Sys2Proof.Machine

set_option Elab.async false

variable {s₀ s : State}

theorem Keeps.dropStrike (h : Keeps .any s₀ s) {sid : Nat} {x : Strike} : Keeps .any s₀ (s.dropStrike sid x) := by
  unfold State.dropStrike; exact h.modStall

theorem Keeps.freeEntries (h : Keeps .any s₀ s) {row k : Nat} : Keeps .any s₀ (s.freeEntries row k) := by
  unfold State.freeEntries; exact h.wr

theorem Keeps.closeInst (h : Keeps .any s₀ s) {row red tag : Nat} : Keeps .any s₀ (s.closeInst row red tag) := by
  unfold State.closeInst; exact h.modRow

theorem Keeps.giveUp (h : Keeps .any s₀ s) {sid tag g : Nat} : Keeps .any s₀ (s.giveUp sid tag g) := by
  unfold State.giveUp; exact h.modStall

theorem Keeps.discardStrike (h : Keeps .any s₀ s) {sid : Nat} {x : Strike} : Keeps .any s₀ (s.discardStrike sid x) := by
  unfold State.discardStrike; exact h.dropStrike.freeEntries.giveUp

theorem Keeps.voidInst (h : Keeps .any s₀ s) {red tag : Nat} : Keeps .any s₀ (s.voidInst red tag) := by
  unfold State.voidInst; exact h.foldl fun _ _ h => .ite h.modStall h

theorem Keeps.closeRow (h : Keeps .any s₀ s) {row red tag : Nat} : Keeps .any s₀ (s.closeRow row red tag) := by
  unfold State.closeRow; exact h.closeInst.freeEntries

theorem Keeps.giveUpInst (h : Keeps .any s₀ s) {red tag : Nat} : Keeps .any s₀ (s.giveUpInst red tag) := by
  unfold State.giveUpInst; exact .voidInst (h.foldl fun _ _ h => .ite h.closeRow h)

end Sys2Proof.Machine
end

section
/-! PROOF. Machine/Flags, the flag computations of the row: every operation keeps the queue and a canonical register file. -/

namespace Sys2Proof.Machine

set_option Elab.async false

variable {s₀ s : State}

theorem Keeps.stkFlag (h : Keeps .any s₀ s) {f : RField} {i : Nat} : Keeps .any s₀ (s.stkFlag f i) := by
  unfold State.stkFlag; exact h.flagAt

theorem Keeps.touchupDue (h : Keeps .any s₀ s) {i : Nat} : Keeps .any s₀ (s.touchupDue i) := by
  unfold State.touchupDue; exact .ite h.stkFlag.raise h.stkFlag

theorem Keeps.reloadSram (h : Keeps .any s₀ s) {sid : Nat} : Keeps .any s₀ (s.reloadSram sid) := by
  unfold State.reloadSram
  refine h.modStall.foldl fun _ _ h => ?_
  split
  · exact h.modStall
  · exact h

end Sys2Proof.Machine
end

section
/-! PROOF. Machine/KvOps, pages, their references and pins, and the page pool of a slot: every operation keeps the queue and a canonical register file. -/

namespace Sys2Proof.Machine

set_option Elab.async false

variable {s₀ s : State}

theorem Keeps.setPage (h : Keeps .any s₀ s) {id : Nat} {p : Page} : Keeps .any s₀ (s.setPage id p) := by
  unfold State.setPage; exact h.parts

theorem Keeps.newPage (h : Keeps .any s₀ s) {func slot layer home : Nat} :
    Offers s₀ Prod.snd (s.newPage func slot layer home) := by
  unfold State.newPage
  split
  · exact .none
  · exact .some (.ite h.parts.setPage h.parts.setPage.bump)

theorem Keeps.sweepPage (h : Keeps .any s₀ s) {id : Nat} : Keeps .any s₀ (s.sweepPage id) := by
  unfold State.sweepPage; exact .ite h.setPage.bump.parts h

theorem Keeps.kvFlag (h : Keeps .any s₀ s) {f : RField} {seq slot : Nat} : Keeps .any s₀ (s.kvFlag f seq slot) := by
  unfold State.kvFlag; exact h.flagAt

theorem Keeps.pageArrival (h : Keeps .any s₀ s) {id : Nat} : Keeps .any s₀ (s.pageArrival id) := by
  unfold State.pageArrival; exact h.parts

theorem Keeps.pageChange (h : Keeps .any s₀ s) {id : Nat} {f : Page → Page} : Keeps .any s₀ (s.pageChange id f) := by
  unfold State.pageChange; exact h.pageArrival.setPage.sweepPage

theorem Keeps.refUp (h : Keeps .any s₀ s) {id : Nat} : Keeps .any s₀ (s.refUp id) := by
  unfold State.refUp; exact h.pageChange

theorem Keeps.refDown (h : Keeps .any s₀ s) {id : Nat} : Keeps .any s₀ (s.refDown id) := by
  unfold State.refDown; exact h.pageChange

theorem Keeps.pinUp (h : Keeps .any s₀ s) {id : Nat} : Keeps .any s₀ (s.pinUp id) := by
  unfold State.pinUp; exact h.pageChange

theorem Keeps.pinDown (h : Keeps .any s₀ s) {id : Nat} : Keeps .any s₀ (s.pinDown id) := by
  unfold State.pinDown; exact h.pageChange

theorem Keeps.newLayers (h : Keeps .any s₀ s) {func slot home : Nat} : Offers s₀ Prod.snd (s.newLayers func slot home) := by
  unfold State.newLayers
  refine Offers.foldl (.some h) fun a l ha => ?_
  split
  · exact .none
  · split
    · exact .none
    next hn => exact .some ((ha.of rfl).newPage.of hn)

theorem Keeps.copyPage (h : Keeps .any s₀ s) {id func home : Nat} : Offers s₀ Prod.snd (s.copyPage id func home) := by
  unfold State.copyPage
  dsimp only
  split
  · exact .none
  next n s1 e =>
    exact .some ((h.newPage.of e).setPage.bump)

end Sys2Proof.Machine
end

section
/-! PROOF. Machine/CartOps, the operations of Cartway that other units call: every operation keeps the queue and a canonical register file. -/

namespace Sys2Proof.Machine

set_option Elab.async false

variable {s₀ s : State}

theorem Keeps.setPort (h : Keeps .any s₀ s) {p : Nat} {x : Port} : Keeps .any s₀ (s.setPort p x) := by
  unfold State.setPort; exact h.parts

theorem Keeps.modPort (h : Keeps .any s₀ s) {p : Nat} {f : Port → Port} : Keeps .any s₀ (s.modPort p f) := by
  unfold State.modPort; exact h.setPort

theorem Keeps.cwFlag (h : Keeps .any s₀ s) {f : RField} {port dev : Nat} : Keeps .any s₀ (s.cwFlag f port dev) := by
  unfold State.cwFlag; exact h.flagAt

theorem Keeps.modCart (h : Keeps .any s₀ s) {f : Cartway → Cartway} : Keeps .any s₀ (s.modCart f) := by
  unfold State.modCart; exact h.parts

theorem Keeps.setPend (h : Keeps .any s₀ s) {ps : List Pair} : Keeps .any s₀ (s.setPend ps) := by
  unfold State.setPend; exact h.parts.wr

theorem Keeps.cartLost (h : Keeps .any s₀ s) : Keeps .any s₀ s.cartLost := by
  unfold State.cartLost; exact h.bump

theorem Keeps.queueCart (h : Keeps .any s₀ s) {c : TxCart} : Keeps .any s₀ (s.queueCart c) := by
  unfold State.queueCart
  split
  · exact h.cartLost
  · exact h.modCart

theorem Keeps.queueNote (h : Keeps .any s₀ s) {typ dst step arg0 arg1 : Nat} :
    Keeps .any s₀ (s.queueNote typ dst step arg0 arg1) := by
  unfold State.queueNote; exact h.queueCart

theorem Keeps.tellPartners (h : Keeps .any s₀ s) {typ arg0 arg1 : Nat} : Keeps .any s₀ (s.tellPartners typ arg0 arg1) := by
  unfold State.tellPartners; exact h.foldl fun _ _ h => h.queueNote

theorem Keeps.noteEarly (h : Keeps .any s₀ s) {c : TxCart} : Keeps .any s₀ (s.noteEarly c) := by
  unfold State.noteEarly; exact h.parts

theorem Keeps.endEarly (h : Keeps .any s₀ s) {step dst : Nat} : Keeps .any s₀ (s.endEarly step dst) := by
  unfold State.endEarly; exact h.modCart

theorem Keeps.sendRetract (h : Keeps .any s₀ s) {step dst : Nat} : Keeps .any s₀ (s.sendRetract step dst) := by
  unfold State.sendRetract; exact .ite h.endEarly.queueNote.bump.cper h

theorem Keeps.retractEarly (h : Keeps .any s₀ s) {q : Nat} : Keeps .any s₀ (s.retractEarly q) := by
  unfold State.retractEarly; exact h.foldl fun _ _ h => h.sendRetract

theorem Keeps.dropDispatches (h : Keeps .any s₀ s) {q : Nat} : Keeps .any s₀ (s.dropDispatches q) := by
  unfold State.dropDispatches; exact h.modCart

theorem Keeps.sendDispatch (h : Keeps .any s₀ s) {d : Disp} {dst : Nat} : Keeps .any s₀ (s.sendDispatch d dst) := by
  unfold State.sendDispatch; exact h.modCart.queueCart

theorem Keeps.maskFor (h : Keeps .any s₀ s) {q layer expert : Nat} : Keeps .any s₀ (s.maskFor q layer expert) := by
  unfold State.maskFor; exact h.parts.modCart

theorem Keeps.route (h : Keeps .any s₀ s) {d : Disp} : Keeps .any s₀ (s.route d) := by
  unfold State.route; exact .ite h (.ite h.sendDispatch (.ite h (.ite h.sendDispatch (.ite h.maskFor h.modCart))))

theorem Keeps.routeAll (h : Keeps .any s₀ s) {q : Nat} {routes : List (Nat × Nat × List Word32)} :
    Keeps .any s₀ (s.routeAll q routes) := by
  unfold State.routeAll; exact h.parts.foldl fun _ _ h => h.route

theorem Keeps.rechoose (h : Keeps .any s₀ s) {q : Nat} {routes : List (Nat × Nat × List Word32)} :
    Keeps .any s₀ (s.rechoose q routes) := by
  unfold State.rechoose; exact h.parts.routeAll

theorem Keeps.rerouteWaits (h : Keeps .any s₀ s) : Keeps .any s₀ s.rerouteWaits := by
  unfold State.rerouteWaits; exact h.modCart.foldl fun _ _ h => h.route

theorem Keeps.markHomes (h : Keeps .any s₀ s) : Keeps .any s₀ s.markHomes := by
  unfold State.markHomes; exact .ite h (.rerouteWaits (.ite h.modCart.wr h.modCart))

end Sys2Proof.Machine
end

section
/-! PROOF. Machine/ServeOps, the operations of serving that several units share: every operation keeps the queue and a canonical register file. -/

namespace Sys2Proof.Machine

set_option Elab.async false

variable {s₀ s : State}

theorem Keeps.setSeq (h : Keeps .any s₀ s) {q : Nat} {x : Seq} : Keeps .any s₀ (s.setSeq q x) := by
  unfold State.setSeq; exact h.parts

theorem Keeps.modSeq (h : Keeps .any s₀ s) {q : Nat} {f : Seq → Seq} : Keeps .any s₀ (s.modSeq q f) := by
  unfold State.modSeq; exact h.setSeq

theorem Keeps.markInspected (h : Keeps .any s₀ s) {q : Nat} : Keeps .any s₀ (s.markInspected q) := by
  unfold State.markInspected; exact .ite h.modSeq h

theorem Keeps.srvFlag (h : Keeps .any s₀ s) {f : RField} {fn : Nat} : Keeps .any s₀ (s.srvFlag f fn) := by
  unfold State.srvFlag; exact h.flagAt

theorem Keeps.houseFault (h : Keeps .any s₀ s) {house : Nat} : Keeps .any s₀ (s.houseFault house) := by
  unfold State.houseFault; exact .ite h (h.wr.faultLog.foldl fun _ _ h => h.modSeq)

theorem Keeps.setRoll (h : Keeps .any s₀ s) {key : Nat} {r : Roll} : Keeps .any s₀ (s.setRoll key r) := by
  unfold State.setRoll; exact h.parts

theorem Keeps.rollMsg (h : Keeps .any s₀ s) {key : Nat} : Keeps .any s₀ (s.rollMsg key) := by
  unfold State.rollMsg; exact .ite h.setRoll.bump.msi h

theorem Keeps.rollWrite (h : Keeps .any s₀ s) {key : Nat} {t : TillRec} : Keeps .any s₀ (s.rollWrite key t) := by
  unfold State.rollWrite
  extract_lets r s1 s2 s3 s4 s5
  have h1 : Keeps .any s₀ s1 := h.send
  have h2 : Keeps .any s₀ s2 := h1.send
  have h3 : Keeps .any s₀ s3 := h2.setRoll
  have h4 : Keeps .any s₀ s4 := .ite h3.bump h3
  have h5 : Keeps .any s₀ s5 := .ite h4.rollMsg h4
  exact .ite h5.setRoll h5

theorem Keeps.rollPut (h : Keeps .any s₀ s) {key : Nat} {t : TillRec} : Keeps .any s₀ (s.rollPut key t) := by
  unfold State.rollPut; exact .ite h (.ite h.rollWrite (.ite h.setRoll.send h.setRoll))

theorem Keeps.rollFlush (h : Keeps .any s₀ s) {key n : Nat} : Keeps .any s₀ (s.rollFlush key n) := by
  induction n generalizing s with
  | zero => exact h
  | succ n ih =>
    unfold State.rollFlush
    dsimp only
    split
    · exact h
    · exact .ite (ih h.setRoll.rollWrite) h

theorem Keeps.putEnd (h : Keeps .any s₀ s) {key status gen flags : Nat} : Keeps .any s₀ (s.putEnd key status gen flags) := by
  unfold State.putEnd; exact h.takeFree.rollPut

theorem Keeps.setAdapter (h : Keeps .any s₀ s) {a : Nat} {x : Adapter} : Keeps .any s₀ (s.setAdapter a x) := by
  unfold State.setAdapter; exact h.parts

theorem Keeps.unloadAdapter (h : Keeps .any s₀ s) {a slot : Nat} : Keeps .any s₀ (s.unloadAdapter a slot) := by
  unfold State.unloadAdapter; exact h.setAdapter

theorem Keeps.sweepAdapter (h : Keeps .any s₀ s) {a : Nat} : Keeps .any s₀ (s.sweepAdapter a) := by
  unfold State.sweepAdapter; exact h.setAdapter.bump

theorem Keeps.endCurrency (h : Keeps .any s₀ s) {a : Nat} : Keeps .any s₀ (s.endCurrency a) := by
  unfold State.endCurrency
  dsimp only
  split
  · exact h.setAdapter.sweepAdapter
  · exact h

theorem Keeps.endTiles (h : Keeps .any s₀ s) {g : Gen} : Keeps .any s₀ (s.endTiles g) := by
  unfold State.endTiles; exact h.foldl fun _ _ h => h.endTile

theorem Keeps.unfence (h : Keeps .any s₀ s) {slot expert : Nat} : Keeps .any s₀ (s.unfence slot expert) := by
  unfold State.unfence; exact .ite h.modSlot h

theorem Keeps.sweepGen (h : Keeps .any s₀ s) {slot : Nat} : Keeps .any s₀ (s.sweepGen slot) := by
  unfold State.sweepGen
  dsimp only
  split
  · exact .ite (h.setSlot.endTiles.foldl fun _ _ h => h.unfence) h
  · exact h

theorem Keeps.dropPages (h : Keeps .any s₀ s) {q : Nat} : Keeps .any s₀ (s.dropPages q) := by
  unfold State.dropPages
  extract_lets x s1
  have h1 : Keeps .any s₀ s1 := by
    unfold s1
    split
    · exact h.wr
    · exact h
  exact h1.setSeq.foldl fun _ _ h => h.refDown

theorem Keeps.freeSeq (h : Keeps .any s₀ s) {q : Nat} : Keeps .any s₀ (s.freeSeq q) := by
  unfold State.freeSeq
  extract_lets x s1 s2
  have h1 : Keeps .any s₀ s1 := h.dropPages.dropDispatches.setSeq
  have h2 : Keeps .any s₀ s2 := by
    unfold s2
    split
    · exact h1.sweepAdapter
    · exact h1
  exact h2.sweepGen

theorem Keeps.endTune (h : Keeps .any s₀ s) {f status : Nat} : Keeps .any s₀ (s.endTune f status) := by
  unfold State.endTune; exact .ite h (.sweepAdapter (.putEnd (.parts (h.foldl fun _ _ h => h.freeSeq))))

theorem Keeps.endSeq (h : Keeps .any s₀ s) {q status : Nat} : Keeps .any s₀ (s.endSeq q status) := by
  unfold State.endSeq
  dsimp only
  split
  · exact h
  · split
    · exact h.endTune
    · exact h.putEnd.freeSeq

theorem Keeps.setPace (h : Keeps .any s₀ s) {k : Nat} {p : Pace} : Keeps .any s₀ (s.setPace k p) := by
  unfold State.setPace; exact h.parts

theorem Keeps.endPace (h : Keeps .any s₀ s) {k status : Nat} {record : Bool} : Keeps .any s₀ (s.endPace k status record) := by
  unfold State.endPace; exact .ite h (.setPace (.setReg (.ite h.putEnd h)))

theorem Keeps.cancelPace (h : Keeps .any s₀ s) {k status : Nat} : Keeps .any s₀ (s.cancelPace k status) := by
  unfold State.cancelPace
  dsimp only
  split
  · exact h.endPace
  · exact h.setPace.wr.wr

theorem Keeps.cancelSeq (h : Keeps .any s₀ s) {q status : Nat} : Keeps .any s₀ (s.cancelSeq q status) := by
  unfold State.cancelSeq; exact .ite h (.ite h.endSeq h.setSeq)

theorem Keeps.faultSeq (h : Keeps .any s₀ s) {q status : Nat} : Keeps .any s₀ (s.faultSeq q status) := by
  unfold State.faultSeq; exact .ite h.modSeq.endSeq h

theorem Keeps.markPage (h : Keeps .any s₀ s) {id gran : Nat} : Keeps .any s₀ (s.markPage id gran) := by
  unfold State.markPage; exact h.countUE.setPage

theorem Keeps.pageUE (h : Keeps .any s₀ s) {q id gran : Nat} : Keeps .any s₀ (s.pageUE q id gran) := by
  unfold State.pageUE; exact h.markPage.faultSeq

theorem Keeps.pageErrs (h : Keeps .any s₀ s) {ids : List Nat} {err : MemErr} : Keeps .any s₀ (s.pageErrs ids err) := by
  unfold State.pageErrs; exact h.corrected

theorem Keeps.park (h : Keeps .any s₀ s) {q : Nat} : Keeps .any s₀ (s.park q) := by
  unfold State.park
  dsimp only
  split
  · exact h.pageUE
  · split
    · exact .send (.setSeq (.wr (h.bump.bump.foldl fun _ _ h => h.refDown)))
    · exact h.kvFlag.endSeq

theorem Keeps.setTune (h : Keeps .any s₀ s) {f : Nat} {j : TuneJob} : Keeps .any s₀ (s.setTune f j) := by
  unfold State.setTune; exact h.parts

theorem Keeps.tuneBoundary (h : Keeps .any s₀ s) {f : Nat} : Keeps .any s₀ (s.tuneBoundary f) := by
  unfold State.tuneBoundary
  split
  · exact .ite h.endTune h
  · exact h

theorem Keeps.endFunction (h : Keeps .any s₀ s) {f status : Nat} : Keeps .any s₀ (s.endFunction f status) := by
  unfold State.endFunction
  extract_lets qs s1 _ s2
  have h1 : Keeps .any s₀ s1 := h.foldl fun _ _ h => h.cancelSeq
  have h2 : Keeps .any s₀ s2 := .ite h1.setTune.tuneBoundary h1
  exact h2.foldl fun _ _ h => .ite h.cancelPace h

theorem Keeps.isolate (h : Keeps .any s₀ s) {fs : List Nat} : Keeps .any s₀ (s.isolate fs) := by
  unfold State.isolate
  extract_lets s1
  have h1 : Keeps .any s₀ s1 := h.foldl fun _ _ h => h.wr.tenFault.flagAt.faultLog.endFunction
  exact .ite h1 h1.send

theorem Keeps.boundary (h : Keeps .any s₀ s) {q : Nat} : Keeps .any s₀ (s.boundary q) := by
  unfold State.boundary
  dsimp only
  split
  · exact h
  · split
    · exact h.tuneBoundary
    · split
      · exact h.endSeq
      · exact .ite h.park h

theorem Keeps.pressure (h : Keeps .any s₀ s) {q n k : Nat} : Keeps .any s₀ (s.pressure q n k) := by
  induction k generalizing s with
  | zero => exact h
  | succ k ih =>
    unfold State.pressure
    dsimp only
    split
    · split
      · exact ih (.ite h.modSeq.park h.modSeq)
      · exact .ite h.kvFlag.endSeq h.park
    · exact h

theorem Keeps.setOslot (h : Keeps .any s₀ s) {f n : Nat} {x : OSlot} : Keeps .any s₀ (s.setOslot f n x) := by
  unfold State.setOslot; exact h.modFunc

theorem Keeps.refuseAt (h : Keeps .any s₀ s) {f n reason : Nat} : Keeps .any s₀ (s.refuseAt f n reason) := by
  unfold State.refuseAt; exact .ite h.setOslot.bump.srvFlag h.setOslot.bump

theorem Keeps.sweepBad (h : Keeps .any s₀ s) {n : Nat} : Keeps .any s₀ (s.sweepBad n) := by
  induction n generalizing s with
  | zero => exact h
  | succ n ih =>
    unfold State.sweepBad
    split
    · exact .ite h (ih h.refuseAt)
    · exact h

theorem Keeps.takeBad (h : Keeps .any s₀ s) : Keeps .any s₀ s.takeBad := by
  unfold State.takeBad; exact h.sweepBad

theorem Keeps.closeSession (h : Keeps .any s₀ s) {f : Nat} : Keeps .any s₀ (s.closeSession f) := by
  unfold State.closeSession; exact .ite (.takeBad (.fnEvent (.wr (.endFunction (h.foldl fun _ _ h => h.refuseAt))))) h

theorem Keeps.retractFrom (h : Keeps .any s₀ s) {layer q : Nat} : Keeps .any s₀ (s.retractFrom layer q) := by
  unfold State.retractFrom; exact .ite h (.ite h.dropDispatches.bump.srvFlag.faultSeq h.dropDispatches.bump.setSeq)

theorem Keeps.retractSeq (h : Keeps .any s₀ s) {q : Nat} : Keeps .any s₀ (s.retractSeq q) := by
  unfold State.retractSeq; exact h.retractFrom

theorem Keeps.wrongSeq (h : Keeps .any s₀ s) {q : Nat} : Keeps .any s₀ (s.wrongSeq q) := by
  unfold State.wrongSeq; exact h.retractEarly.retractSeq

theorem Keeps.retractPair (h : Keeps .any s₀ s) {src step : Nat} : Keeps .any s₀ (s.retractPair src step) := by
  unfold State.retractPair
  split
  · exact h
  · exact .foldl (h.setPend.modCart.parts.foldl fun _ _ h => h.retractFrom) fun _ _ h => h.sendRetract

theorem Keeps.clearPair (h : Keeps .any s₀ s) {src step : Nat} : Keeps .any s₀ (s.clearPair src step) := by
  unfold State.clearPair; exact h.setPend.bump.modCart.parts

theorem Keeps.tryClear (h : Keeps .any s₀ s) {src step : Nat} : Keeps .any s₀ (s.tryClear src step) := by
  unfold State.tryClear
  split
  · exact .ite h.clearPair h
  · exact h

end Sys2Proof.Machine
end

section
/-! PROOF. Machine/Stall, the stall: every operation keeps the queue and a canonical register file. -/

namespace Sys2Proof.Machine

set_option Elab.async false

variable {s₀ s : State}

theorem Keeps.refill (h : Keeps .any s₀ s) {sid : Nat} : Keeps .any s₀ (s.refill sid) := by
  unfold State.refill; exact h.modStall

theorem Keeps.pushDesc (h : Keeps .any s₀ s) {sid : Nat} {d : Desc} : Keeps .any s₀ (s.pushDesc sid d) := by
  unfold State.pushDesc; exact h.setStall

theorem Keeps.unshut (h : Keeps .any s₀ s) {sid : Nat} : Keeps .any s₀ (s.unshut sid) := by
  unfold State.unshut; exact .ite h (h.modRow.foldl fun _ _ h => h.pushDesc)

theorem Keeps.stlAccess (h : Keeps .any s₀ s) {who : Who} {sid off : Nat} {write : Bool} {f : State → State}
    (hf : ∀ t, Keeps .any s₀ t → Keeps .any s₀ (f t)) :
    Keeps .any s₀ (s.stlAccess who sid off write f) := by
  unfold State.stlAccess; exact .ite h (.ite h.accessed.accessError (.ite h.accessed (hf _ h.accessed.wakeStall)))

theorem Keeps.writeReg (h : Keeps .any s₀ s) {r : Reg} {i v : Nat} : Keeps .any s₀ (s.writeReg r i v) := by
  unfold State.writeReg
  split
  · exact h.setReg
  · exact h

theorem Keeps.execStlCtlWrite (h : Keeps .any s₀ s) {who : Who} {row stall val : Nat} :
    Answers .any s₀ (execStlCtlWrite who row stall val s) := by
  unfold Machine.execStlCtlWrite; exact .ite (.next h) (.next (h.stlAccess (fun _ h => h.writeReg.refill)))

theorem Keeps.refuse (h : Keeps .any s₀ s) {sid i : Nat} {d : Desc} : Keeps .any s₀ (s.refuse sid i d) := by
  unfold State.refuse; exact h.modStall.bump.flag.refill

theorem Keeps.refuseAll (h : Keeps .any s₀ s) {sid n : Nat} : Keeps .any s₀ (s.refuseAll sid n) := by
  induction n generalizing s with
  | zero => exact h
  | succ n ih =>
    unfold State.refuseAll
    split
    · exact ih h.refuse
    · exact h

theorem Keeps.applyMap (h : Keeps .any s₀ s) {sid k : Nat} : Keeps .any s₀ (s.applyMap sid k) := by
  unfold State.applyMap
  extract_lets +onlyGivenNames m
  split
  · exact h
  · extract_lets lines s1
    have h1 : Keeps .any s₀ s1 := .ite h h.modStall
    exact .ite h1.flag.stallFault h1

theorem Keeps.countEdges (h : Keeps .any s₀ s) {sid g k : Nat} : Keeps .any s₀ (s.countEdges sid g k) := by
  unfold State.countEdges; exact h.modGroup.modStall

theorem Keeps.trimStep (h : Keeps .any s₀ s) {sid g : Nat} : Keeps .any s₀ (s.trimStep sid g) := by
  unfold State.trimStep
  extract_lets st
  split
  · exact h
  · extract_lets st1 s0 s1
    have h0 : Keeps .any s₀ s0 := h.setStall.wr
    have h1 : Keeps .any s₀ s1 := .ite h0.touchupDue h0
    exact .ite h1.wr h1

theorem Keeps.issue (h : Keeps .any s₀ s) {sid i : Nat} {d : Desc} : Keeps .any s₀ (s.issue sid i d) := by
  unfold State.issue
  extract_lets s' s'' s''' row e k s2 s3 hold s4 s5 x xs s6 s7 s7' s8
  have h' : Keeps .any s₀ s' := .ite h.trimStep h
  have h'' : Keeps .any s₀ s'' := .ite h'.trimStep h'
  have h''' : Keeps .any s₀ s''' := .ite h''.reloadSram h''
  have h2 : Keeps .any s₀ s2 := h'''.bump.bump.bump
  have h3 : Keeps .any s₀ s3 := h2.bump
  have h4 : Keeps .any s₀ s4 := h3.wr
  have h5 : Keeps .any s₀ s5 := .ite h4.wr h4
  have h6 : Keeps .any s₀ s6 := h5.wr
  have h7 : Keeps .any s₀ s7 := h6.modStall
  have h7' : Keeps .any s₀ s7' := h7.modRow
  have h8 : Keeps .any s₀ s8 := .ite h7'.countEdges h7'
  exact .refill (.ite h8.modStall h8)

theorem Keeps.setBusy (h : Keeps .any s₀ s) {sid : Nat} {b : Bool} : Keeps .any s₀ (s.setBusy sid b) := by
  unfold State.setBusy; exact h.wr

theorem Keeps.drainReq (h : Keeps .any s₀ s) {sid : Nat} {who : Requester} : Keeps .any s₀ (s.drainReq sid who) := by
  unfold State.drainReq; exact .ite h.modStall.setBusy.setStState h.modStall.setBusy

theorem Keeps.drainRel (h : Keeps .any s₀ s) {sid : Nat} {who : Requester} : Keeps .any s₀ (s.drainRel sid who) := by
  unfold State.drainRel
  exact .ite h (.ite (.ite (.refill (.ite h.setStall.setStState h.setStall)) h.setStall) h.setStall)

theorem Keeps.calBlockOff (h : Keeps .any s₀ s) {sid : Nat} : Keeps .any s₀ (s.calBlockOff sid) := by
  unfold State.calBlockOff; exact h.modStall.drainRel.refill

theorem Keeps.calSlot (h : Keeps .any s₀ s) {sid e : Nat} : Keeps .any s₀ (s.calSlot sid e) := by
  unfold State.calSlot; exact .ite (.ite h.parts.wr.calBlockOff h.parts) h

theorem Keeps.scrubSlot (h : Keeps .any s₀ s) {sid e : Nat} : Keeps .any s₀ (s.scrubSlot sid e) := by
  unfold State.scrubSlot
  split
  · exact .ite h.parts h
  · exact h

theorem Keeps.closeEdge (h : Keeps .any s₀ s) {sid e : Nat} : Keeps .any s₀ (s.closeEdge sid e) := by
  unfold State.closeEdge
  extract_lets +onlyGivenNames s' st row s0
  have h' : Keeps .any s₀ s' := h.calSlot.scrubSlot
  have h0 : Keeps .any s₀ s0 := .ite h'.bump h'
  split
  · exact h0
  · extract_lets s1 idle s2
    have h1 : Keeps .any s₀ s1 := .ite h0.bump h0
    have h2 : Keeps .any s₀ s2 := .ite h1.bump h1
    exact .ite h2.bump h2

theorem Keeps.closeEdges (h : Keeps .any s₀ s) {row e : Nat} : Keeps .any s₀ (s.closeEdges row e) := by
  unfold State.closeEdges; exact h.foldl fun _ _ h => h.closeEdge

theorem Keeps.edgesPass (h : Keeps .any s₀ s) {row k : Nat} : Keeps .any s₀ (s.edgesPass row k) := by
  unfold State.edgesPass
  dsimp only
  split
  · exact h
  · exact .passEdges (.foldl (h.closeEdges.foldl fun _ _ h => h.applyMap) fun _ _ h => h.closeEdges)

theorem Keeps.strikeEdge (h : Keeps .any s₀ s) {sid : Nat} {kind : Desc → Bool} : Keeps .any s₀ (s.strikeEdge sid kind) := by
  unfold State.strikeEdge
  dsimp only
  split
  · split
    · exact .ite h.unshut.refuseAll.issue h.unshut.refuseAll
    · exact h.unshut.refuseAll
  · exact .ite h.unshut.refuseAll h.unshut

theorem Keeps.execStrikeIssue (h : Keeps .any s₀ s) {row stall edges : Nat} :
    Answers .any s₀ (execStrikeIssue row stall edges s) := by
  unfold Machine.execStrikeIssue; exact .ite (.next h.edgesPass.strikeEdge) (.next h)

theorem Keeps.execWidenedPairIssue (h : Keeps .any s₀ s) {row stall edges : Nat} :
    Answers .any s₀ (execWidenedPairIssue row stall edges s) := by
  unfold Machine.execWidenedPairIssue; exact .ite (.next h.edgesPass.strikeEdge) (.next h)

theorem Keeps.execTransposeStrikeIssue (h : Keeps .any s₀ s) {row stall edges : Nat} :
    Answers .any s₀ (execTransposeStrikeIssue row stall edges s) := by
  unfold Machine.execTransposeStrikeIssue; exact .ite (.next h.edgesPass.strikeEdge) (.next h)

theorem Keeps.issueProbe (h : Keeps .any s₀ s) {sid g : Nat} {idle : Bool} : Keeps .any s₀ (s.issueProbe sid g idle) := by
  unfold State.issueProbe; exact h.bump.wr.wr.modStall.modGroup

theorem Keeps.execProbeStrike (h : Keeps .any s₀ s) {row stall edges : Nat} :
    Answers .any s₀ (execProbeStrike row stall edges s) := by
  unfold Machine.execProbeStrike
  split
  · exact .next h
  · dsimp only
    split
    · split
      · exact .next h.edgesPass.issueProbe
      · exact .next h.edgesPass.issueProbe
      · exact .next h.edgesPass
    · exact .next h.edgesPass

theorem Keeps.execStagingBankWrite (h : Keeps .any s₀ s) {row stall tag bank : Nat} :
    Answers .any s₀ (execStagingBankWrite row stall tag bank s) := by
  unfold Machine.execStagingBankWrite
  split
  · exact .next h
  · dsimp only
    split
    · exact .ite (.next h.setStall) (.next h)
    · exact .next h

theorem Keeps.spareBad (h : Keeps .any s₀ s) {sid chan : Nat} : Keeps .any s₀ (s.spareBad sid chan) := by
  unfold State.spareBad
  exact .ite (.ite h.setReg.flag.modStall.flag.modStall.flag.stallFault h.setReg.flag.modStall.flag.modStall) h.setReg.flag.modStall

theorem Keeps.sliceGood (h : Keeps .any s₀ s) {sid chan slice : Nat} : Keeps .any s₀ (s.sliceGood sid chan slice) := by
  unfold State.sliceGood; exact .modStall (.ite h.setReg h)

theorem Keeps.sliceBad (h : Keeps .any s₀ s) {sid chan slice : Nat} : Keeps .any s₀ (s.sliceBad sid chan slice) := by
  unfold State.sliceBad
  exact .ite (.ite h.setReg.flag.flag.modStall.wr.logRepair h.setReg.flag.flag.modStall.flag.stallFault) h.setReg.flag.flag.modStall

theorem Keeps.retrimSlice (h : Keeps .any s₀ s) {sid chan slice : Nat} : Keeps .any s₀ (s.retrimSlice sid chan slice) := by
  unfold State.retrimSlice; exact h.takeFree.modStall

theorem Keeps.execSliceSubstitution (h : Keeps .any s₀ s) {row stall chan slice : Nat} {diffs : List Int} :
    Answers .any s₀ (execSliceSubstitution row stall chan slice diffs s) := by
  unfold Machine.execSliceSubstitution; exact .ite (.next (.ite h.sliceBad h.modStall.retrimSlice)) (.next h)

theorem Keeps.execStlSliceMapWrite (h : Keeps .any s₀ s) {who : Who} {row stall val : Nat} :
    Answers .any s₀ (execStlSliceMapWrite who row stall val s) := by
  unfold Machine.execStlSliceMapWrite; exact .ite (.next h) (.next (h.stlAccess (fun _ h => h.writeReg.logSlices)))

theorem Keeps.endPlane (h : Keeps .any s₀ s) {sid p : Nat} : Keeps .any s₀ (s.endPlane sid p) := by
  unfold State.endPlane; exact .ite h.setPlane.modStall h

theorem Keeps.execPlaneSwap (h : Keeps .any s₀ s) {row stall : Nat} : Answers .any s₀ (execPlaneSwap row stall s) := by
  unfold Machine.execPlaneSwap
  dsimp only
  split
  · exact .next h
  · split
    · exact .next h.endPlane.setPlane.wr
    · exact .next h

theorem Keeps.execStlClipCntRead (h : Keeps .any s₀ s) {who : Who} {row stall : Nat} :
    Answers .any s₀ (execStlClipCntRead who row stall s) := by
  unfold Machine.execStlClipCntRead; exact .ite (.next (h.stlAccess (fun _ h => h.readClear))) (.next h)

theorem Keeps.execStlRefusedCntRead (h : Keeps .any s₀ s) {who : Who} {row stall : Nat} :
    Answers .any s₀ (execStlRefusedCntRead who row stall s) := by
  unfold Machine.execStlRefusedCntRead; exact .ite (.next (h.stlAccess (fun _ h => h.readClear))) (.next h)

end Sys2Proof.Machine
end

section
/-! PROOF. Machine/Inspect, the inspector's queue: every operation keeps the queue and a canonical register file. -/

namespace Sys2Proof.Machine

set_option Elab.async false

variable {s₀ s : State}

theorem Keeps.queueJob (h : Keeps .any s₀ s) {cls : Nat} {kind : JobKind} {sid g tag red seq : Nat} :
    Keeps .any s₀ (s.queueJob cls kind sid g tag red seq) := by
  unfold State.queueJob; exact h.parts

theorem Keeps.admitJobs (h : Keeps .any s₀ s) : Keeps .any s₀ s.admitJobs := by
  unfold State.admitJobs
  split
  · split
    · exact h.parts
    · exact h
  · exact h

theorem Keeps.dropJob (h : Keeps .any s₀ s) {id : Nat} : Keeps .any s₀ (s.dropJob id) := by
  unfold State.dropJob; exact h.parts

theorem Keeps.shutStrike (h : Keeps .any s₀ s) {sid : Nat} {d : Desc} {red seq : Nat} :
    Keeps .any s₀ (s.shutStrike sid d red seq) := by
  unfold State.shutStrike; exact .ite h.queueJob.bump h.modRow

end Sys2Proof.Machine
end

section
/-! PROOF. Machine/Accum, accumulation and reduction: every operation keeps the queue and a canonical register file. -/

namespace Sys2Proof.Machine

set_option Elab.async false

variable {s₀ s : State}

theorem Keeps.countAcc (h : Keeps .any s₀ s) {row stall : Nat} {n : AccCnt} : Keeps .any s₀ (s.countAcc row stall n) := by
  unfold State.countAcc
  extract_lets s1 s2 s3
  have h1 : Keeps .any s₀ s1 := h.bump.bump
  have h2 : Keeps .any s₀ s2 := h1.bump.bump
  have h3 : Keeps .any s₀ s3 := .ite h2 h2.accFlag
  exact .ite h3 h3.accFlag

theorem Keeps.setInst (h : Keeps .any s₀ s) {row : Nat} {i : Inst} : Keeps .any s₀ (s.setInst row i) := by
  unfold State.setInst; exact h.modRow

theorem Keeps.handInst (h : Keeps .any s₀ s) {row sid : Nat} {i : Inst} : Keeps .any s₀ (s.handInst row sid i) := by
  unfold State.handInst
  split
  · exact h
  · extract_lets +onlyGivenNames all s1 s2
    have h1 : Keeps .any s₀ s1 := h.foldl fun _ _ h => h.closeInst.freeEntries
    have h2 : Keeps .any s₀ s2 := by
      unfold s2
      split
      · exact h1.setInst
      · exact h1.setInst
    exact h2.queueJob.cper

theorem Keeps.release (h : Keeps .any s₀ s) {row sid : Nat} {i : Inst} {r : RedRec} {w : Release} :
    Keeps .any s₀ (s.release row sid i r w) := by
  unfold State.release
  exact .ite h.setInst.freeEntries (.ite h.accFlag.freeEntries.handInst h.setInst.countAcc.freeEntries)

theorem Keeps.deliver (h : Keeps .any s₀ s) {sid : Nat} {n : Narrow} {f : Feed} {parts : List PVec} {entry : Bool} :
    Keeps .any s₀ (s.deliver sid n f parts entry) := by
  unfold State.deliver
  extract_lets own row s1
  have h1 : Keeps .any s₀ s1 := by
    unfold s1
    split
    · exact h.freeEntries
    · split
      · exact h.freeEntries
      · split
        · exact .ite h.release h.freeEntries.release
        · exact h.accFlag.freeEntries.handInst
        · exact h.accFlag.freeEntries
  exact h1.modStall

theorem Keeps.deliverExact (h : Keeps .any s₀ s) {sid : Nat} {n : Narrow} {f : Feed} {d : Desc} {entry : Bool} :
    Keeps .any s₀ (s.deliverExact sid n f d entry) := by
  unfold State.deliverExact; exact h.deliver

theorem Keeps.putAttn (h : Keeps .any s₀ s) {row : Nat} {r : AttnRes} : Keeps .any s₀ (s.putAttn row r) := by
  unfold State.putAttn; exact h.modRow

theorem Keeps.reform (h : Keeps .any s₀ s) {row sid : Nat} {i : Inst} : Offers s₀ (·) (s.reform row sid i) := by
  unfold State.reform
  split
  · exact .some h
  · exact .ite (.some h.setInst.countAcc.voidInst) (.none)

theorem Keeps.joinPart (h : Keeps .any s₀ s) {row red slot gen tag seq : Nat} {g : Gen} {sp : Nat × Nat} {vals : List Word32} :
    Keeps .any s₀ (s.joinPart row red slot gen tag seq g sp vals) := by
  unfold State.joinPart; exact h.setInst

theorem Keeps.keepSeen (h : Keeps .any s₀ s) {row : Nat} {i : Inst} : Keeps .any s₀ (s.keepSeen row i) := by
  unfold State.keepSeen
  split
  · exact h.setInst
  · exact h

theorem Keeps.execReductionOutput (h : Keeps .any s₀ s) {row red tag : Nat} :
    Answers .any s₀ (execReductionOutput row red tag s) := by
  unfold Machine.execReductionOutput
  split
  · exact .next h
  · split
    · exact .next h
    · split
      · exact .next h
      · exact .ite (.next h) (.ite (.ite (.next (.closeInst (.send (.ite h.countAcc.bump h.countAcc.bump.accFlag)))) (.next h))
        (.ite (.next (.keepSeen (h.countAcc.closeInst.foldl fun _ _ h => h.joinPart)))
          (.next (h.countAcc.closeInst.foldl fun _ _ h => h.queueCart))))

theorem Keeps.dropRefused (h : Keeps .any s₀ s) {sid tag g : Nat} : Keeps .any s₀ (s.dropRefused sid tag g) := by
  unfold State.dropRefused; exact .giveUp (h.modStall.foldl fun _ _ h => h.discardStrike)

theorem Keeps.handPart (h : Keeps .any s₀ s) {sid tag g : Nat} {marker : Bool} : Keeps .any s₀ (s.handPart sid tag g marker) := by
  unfold State.handPart
  split
  · split
    · extract_lets row s1 i i1
      have h1 : Keeps .any s₀ s1 := .ite h.bump.accFlag h
      exact .dropRefused (.ite h1 (.ite h1.setInst h1.handInst))
    · exact h.dropRefused
  · exact h.dropRefused

theorem Keeps.loseStrikes (h : Keeps .any s₀ s) {sid : Nat} : Keeps .any s₀ (s.loseStrikes sid) := by
  unfold State.loseStrikes
  exact .foldl (h.setStall.foldl fun _ _ h => h.handPart) fun _ _ h => .ite h.discardStrike h.dropStrike

theorem Keeps.execRefusalMarker (h : Keeps .any s₀ s) {row stall : Nat} : Answers .any s₀ (execRefusalMarker row stall s) := by
  unfold Machine.execRefusalMarker
  split
  · exact .next h
  · extract_lets sid
    split
    · exact .next h
    · extract_lets s1 s2
      have h1 : Keeps .any s₀ s1 := h.modStall
      have h2 : Keeps .any s₀ s2 := .ite h1.handPart h1
      exact .next (.ite h2.handPart h2)

theorem Keeps.testShut (h : Keeps .any s₀ s) : Keeps .any s₀ s.testShut := by
  unfold State.testShut
  split
  · exact .ite (.testDrained (h.foldl fun _ _ h => h.wakeStall.drainReq)) h
  · exact h

theorem Keeps.drainDone (h : Keeps .any s₀ s) {sid : Nat} : Keeps .any s₀ (s.drainDone sid) := by
  unfold State.drainDone
  exact .foldl (.ite h.setBusy.bump.raise.modStall.setStState.testDrained h.setBusy.bump.raise.modStall) fun _ _ h => h.drainRel

theorem Keeps.talWrite (h : Keeps .any s₀ s) {who : Who} {row off : Nat} {f : State → State}
    (hf : ∀ t, Keeps .any s₀ t → Keeps .any s₀ (f t)) :
    Keeps .any s₀ (s.talWrite who row off f) := by
  unfold State.talWrite; exact .ite (.ite (.ite h.accessed (hf _ h.accessed.wakeRow)) h.accessed.accessError) h

theorem Keeps.execDrainRequest (h : Keeps .any s₀ s) {who : Who} {row target : Nat} :
    Answers .any s₀ (execDrainRequest who row target s) := by
  unfold Machine.execDrainRequest; exact .next (h.talWrite (fun _ h => h.foldl fun _ _ h => h.drainReq))

theorem Keeps.execDrainRelease (h : Keeps .any s₀ s) {who : Who} {row target : Nat} :
    Answers .any s₀ (execDrainRelease who row target s) := by
  unfold Machine.execDrainRelease; exact .next (h.talWrite (fun _ h => h.foldl fun _ _ h => h.drainRel))

end Sys2Proof.Machine
end

section
/-! PROOF. Machine/AdapterPart, digital partials of adapters: every operation keeps the queue and a canonical register file. -/

namespace Sys2Proof.Machine

set_option Elab.async false

variable {s₀ s : State}

theorem Keeps.saveInput (h : Keeps .any s₀ s) {q first tag : Nat} {xb : List Nat} :
    Keeps .any s₀ (s.saveInput q first tag xb) := by
  unfold State.saveInput; exact .ite h h.modSeq

theorem Keeps.adapterFeed (h : Keeps .any s₀ s) {tag seq : Nat} {xs : List Word32} {f : Feed} :
    Keeps .any s₀ (s.adapterFeed tag seq xs f) := by
  unfold State.adapterFeed
  split
  · exact h
  · split
    · exact h
    · split
      · exact h
      · split
        · exact h
        · dsimp only
          split
          · exact h
          · split
            · exact h.release
            · exact .ite h.saveInput.release h.setInst

theorem Keeps.adapterPart (h : Keeps .any s₀ s) {v : VecIn} {xs : List Word32} : Keeps .any s₀ (s.adapterPart v xs) := by
  unfold State.adapterPart; exact .ite h (.ite h.flagAt (h.foldl fun _ _ h => h.adapterFeed))

theorem Keeps.redoAdapter (h : Keeps .any s₀ s) {n : Narrow} {f : Feed} : Keeps .any s₀ (s.redoAdapter n f) := by
  unfold State.redoAdapter; exact .ite h h.adapterFeed

end Sys2Proof.Machine
end

section
/-! PROOF. Machine/PorterOps, the operations of the porter that other units call: every operation keeps the queue and a canonical register file. -/

namespace Sys2Proof.Machine

set_option Elab.async false

variable {s₀ s : State}

theorem Keeps.setSlState (h : Keeps .any s₀ s) {m st : Nat} : Keeps .any s₀ (s.setSlState m st) := by
  unfold State.setSlState; exact h.wr

theorem Keeps.prtFlag (h : Keeps .any s₀ s) {f : RField} {slot shard : Nat} : Keeps .any s₀ (s.prtFlag f slot shard) := by
  unfold State.prtFlag; exact h.flagAt

theorem Keeps.moveGran (h : Keeps .any s₀ s) {old new : Nat} : Keeps .any s₀ (s.moveGran old new) := by
  unfold State.moveGran; exact h.parts

theorem Keeps.modShard (h : Keeps .any s₀ s) {slot gen i : Nat} {f : Shard → Shard} :
    Keeps .any s₀ (s.modShard slot gen i f) := by
  unfold State.modShard; exact h.modSlot

theorem Keeps.showLeft (h : Keeps .any s₀ s) {slot : Nat} : Keeps .any s₀ (s.showLeft slot) := by
  unfold State.showLeft
  dsimp only
  split
  · exact .ite h.wr h
  · exact h

theorem Keeps.askShard (h : Keeps .any s₀ s) {g : Gen} {i : Nat} : Keeps .any s₀ (s.askShard g i) := by
  unfold State.askShard; exact h.send

theorem Keeps.faultSlot (h : Keeps .any s₀ s) {slot status : Nat} : Keeps .any s₀ (s.faultSlot slot status) := by
  unfold State.faultSlot; exact .foldl (h.foldl fun _ _ h => h.faultSeq) fun _ _ h => h.endTune

theorem Keeps.dropPass (h : Keeps .any s₀ s) {sid tag g : Nat} {f : Feed} : Keeps .any s₀ (s.dropPass sid tag g f) := by
  unfold State.dropPass; exact .giveUp (h.modStall.giveUpInst.foldl fun _ _ h => h.discardStrike)

theorem Keeps.dropPasses (h : Keeps .any s₀ s) {slot : Nat} : Keeps .any s₀ (s.dropPasses slot) := by
  unfold State.dropPasses; exact h.foldl fun _ _ h => h.foldl fun _ _ h => h.dropPass

theorem Keeps.holdSlot (h : Keeps .any s₀ s) {slot : Nat} : Keeps .any s₀ (s.holdSlot slot) := by
  unfold State.holdSlot; exact h.setSlState.faultSlot.dropPasses

theorem Keeps.tellFence (h : Keeps .any s₀ s) {typ slot expert : Nat} : Keeps .any s₀ (s.tellFence typ slot expert) := by
  unfold State.tellFence; exact h.tellPartners

theorem Keeps.fenceExpert (h : Keeps .any s₀ s) {slot expert : Nat} : Keeps .any s₀ (s.fenceExpert slot expert) := by
  unfold State.fenceExpert; exact .tellFence (h.setSlot.showLeft.bump.parts.foldl fun _ _ h => h.maskFor)

theorem Keeps.shardFailed (h : Keeps .any s₀ s) {slot : Nat} {g : Gen} {i : Nat} : Keeps .any s₀ (s.shardFailed slot g i) := by
  unfold State.shardFailed
  exact .ite h.modShard.showLeft.modShard.bump.askShard (.ite h.modShard.showLeft.prtFlag.fenceExpert h.modShard.showLeft.prtFlag.holdSlot)

theorem Keeps.shardRead (h : Keeps .any s₀ s) {slot gen shard : Nat} {err : MemErr} :
    Keeps .any s₀ (s.shardRead slot gen shard err) := by
  unfold State.shardRead
  split
  · exact h.touchGrans.corrected
  · exact h

theorem Keeps.ledgerUE (h : Keeps .any s₀ s) {slot gen shard gran : Nat} : Keeps .any s₀ (s.ledgerUE slot gen shard gran) := by
  unfold State.ledgerUE
  dsimp only
  split
  · exact .ite h.memUE.shardFailed h.memUE
  · exact h.memUE

theorem Keeps.reopen (h : Keeps .any s₀ s) {slot gen i : Nat} : Keeps .any s₀ (s.reopen slot gen i) := by
  unfold State.reopen
  split
  · exact .ite h h.shardFailed
  · exact h

theorem Keeps.markSlot (h : Keeps .any s₀ s) {slot : Nat} : Keeps .any s₀ (s.markSlot slot) := by
  unfold State.markSlot; exact h.setSlot.sweepGen.foldl fun _ _ h => h.tellFence

theorem Keeps.markAdapter (h : Keeps .any s₀ s) {a : Nat} : Keeps .any s₀ (s.markAdapter a) := by
  unfold State.markAdapter; exact h.setAdapter.sweepAdapter

end Sys2Proof.Machine
end

section
/-! PROOF. Machine/Orders, the order counter: every operation keeps the queue and a canonical register file. -/

namespace Sys2Proof.Machine

set_option Elab.async false

variable {s₀ s : State}

theorem Keeps.refuseSlip (h : Keeps .any s₀ s) {f n reason : Nat} : Keeps .any s₀ (s.refuseSlip f n reason) := by
  unfold State.refuseSlip; exact h.refuseAt.takeBad

theorem Keeps.acceptSlip (h : Keeps .any s₀ s) {f n : Nat} : Keeps .any s₀ (s.acceptSlip f n) := by
  unfold State.acceptSlip; exact h.setOslot.takeBad

theorem Keeps.seal (h : Keeps .any s₀ s) {f n v : Nat} : Keeps .any s₀ (s.seal f n v) := by
  unfold State.seal
  exact .ite h (.ite h.squareRuns.dropHalves.accessError (.ite h.squareRuns h.squareRuns.setOslot.bump.parts.raise.takeBad))

theorem Keeps.execSlipSeal (h : Keeps .any s₀ s) {f n val : Nat} : Answers .any s₀ (execSlipSeal f n val s) := by
  unfold Machine.execSlipSeal; exact .ite (.next h.seal) (.next h)

theorem Keeps.refuseRoll (h : Keeps .any s₀ s) {f n reason : Nat} {r : Roll} {gen : Nat} :
    Keeps .any s₀ (s.refuseRoll f n reason r gen) := by
  unfold State.refuseRoll; exact h.refuseSlip.setRoll.putEnd

theorem Keeps.sharePage (h : Keeps .any s₀ s) {q id : Nat} : Offers s₀ Prod.snd (s.sharePage q id) := by
  unfold State.sharePage; exact .ite (.some h.refUp) h.kvFlag.copyPage

theorem Keeps.shareList (h : Keeps .any s₀ s) {q : Nat} {ids : List Nat} : Offers s₀ Prod.snd (s.shareList q ids) := by
  induction ids generalizing s with
  | nil => exact .some h
  | cons id ids ih => exact h.sharePage.bind fun a ha => .map fun b e => ih ha b e

theorem Keeps.shareLists (h : Keeps .any s₀ s) {q : Nat} {ls : List (List Nat)} : Offers s₀ Prod.snd (s.shareLists q ls) := by
  induction ls generalizing s with
  | nil => exact .some h
  | cons l ls ih => exact h.shareList.bind fun a ha => .map fun b e => ih ha b e

theorem Keeps.admitSlip (h : Keeps .any s₀ s) {f n : Nat} {b : List Byte} : Keeps .any s₀ (s.admitSlip f n b) := by
  unfold State.admitSlip
  dsimp only
  split
  · exact h
  · split
    · split
      · split
        next ls s3 e =>
          exact (h.parts.setSeq.setRoll.acceptSlip.shareLists.of e).modSeq
        · exact h.parts.setSeq.setRoll.acceptSlip.kvFlag
      · exact h.parts.setSeq.setRoll.acceptSlip
    · exact h.parts.setSeq.setRoll.acceptSlip

theorem Keeps.execGenerate (h : Keeps .any s₀ s) {f n vocab crierVocab : Nat} :
    Answers .any s₀ (execGenerate f n vocab crierVocab s) := by
  unfold Machine.execGenerate
  split
  · exact .next h
  · exact .ite (.next h.refuseSlip) (.ite (.ite (.next h.refuseRoll)
    (.ite (.next h.refuseRoll) (.ite (.next h.admitSlip) (.next h.refuseRoll)))) (.ite (.next h.admitSlip) (.next h.refuseRoll)))

theorem Keeps.execCancel (h : Keeps .any s₀ s) {f n : Nat} : Answers .any s₀ (execCancel f n s) := by
  unfold Machine.execCancel
  split
  · exact .next h
  · dsimp only
    split
    · exact .next h.refuseSlip
    · split
      · exact .next h.acceptSlip.cancelSeq
      · split
        · exact .next h.acceptSlip.setTune.tuneBoundary
        · split
          · exact .next h.acceptSlip.cancelPace
          · exact .next h.acceptSlip

theorem Keeps.execStreamOpen (h : Keeps .any s₀ s) {f n : Nat} : Answers .any s₀ (execStreamOpen f n s) := by
  unfold Machine.execStreamOpen
  split
  · exact .next h
  · exact .ite (.next h.refuseSlip) (.ite (.next h.refuseRoll) (.next h.setRoll.acceptSlip.setPace.setReg.wr.wr.wr.wr))

theorem Keeps.execFrame (h : Keeps .any s₀ s) {f n : Nat} : Answers .any s₀ (execFrame f n s) := by
  unfold Machine.execFrame
  split
  · exact .next h
  · exact .ite (.next h.refuseSlip) (.next h.acceptSlip.setPace.wr.send)

theorem Keeps.paceDone (h : Keeps .any s₀ s) {k : Nat} : Keeps .any s₀ (s.paceDone k) := by
  unfold State.paceDone; exact .ite h.endPace h

theorem Keeps.execStreamClose (h : Keeps .any s₀ s) {f n : Nat} : Answers .any s₀ (execStreamClose f n s) := by
  unfold Machine.execStreamClose
  split
  · exact .next h
  · exact .ite (.next h.refuseSlip) (.next h.acceptSlip.wr.paceDone)

theorem Keeps.paceTick (h : Keeps .any s₀ s) {k at' : Nat} : Keeps .any s₀ (s.paceTick k at') := by
  unfold State.paceTick; exact h.setPace.wr

theorem Keeps.execFrameInEdge (h : Keeps .any s₀ s) : Answers .any s₀ (execFrameInEdge s) := by
  unfold Machine.execFrameInEdge; exact .next (h.foldl fun _ _ h => .ite h.paceTick h)

theorem Keeps.execFramePeriodTick (h : Keeps .any s₀ s) {k : Nat} : Answers .any s₀ (execFramePeriodTick k s) := by
  unfold Machine.execFramePeriodTick; exact .ite (.next h.paceTick) (.next h)

theorem Keeps.execFrameComplete (h : Keeps .any s₀ s) {k : Nat} {output : List Byte} :
    Answers .any s₀ (execFrameComplete k output s) := by
  unfold Machine.execFrameComplete
  dsimp only
  split
  · exact .next h
  · exact .ite (.next h) (.next (.paceDone (.rollPut (.ite h.setPace.wr.send.bump.srvFlag h.setPace.wr.send))))

end Sys2Proof.Machine
end

section
/-! PROOF. Machine/Adapters, adapters and tuning jobs as commands: every operation keeps the queue and a canonical register file. -/

namespace Sys2Proof.Machine

set_option Elab.async false

variable {s₀ s : State}

theorem Keeps.adpFlag (h : Keeps .any s₀ s) {f : RField} {a : Nat} : Keeps .any s₀ (s.adpFlag f a) := by
  unfold State.adpFlag; exact h.flagAt

theorem Keeps.execAdapterLoad (h : Keeps .any s₀ s) {who : Who} {slot : Nat} {image : List Byte} {stage : LoadStage} :
    Answers .any s₀ (execAdapterLoad who slot image stage s) := by
  unfold Machine.execAdapterLoad
  exact .next (h.adminWrite (fun _ h => .ite h.send.wr (.ite h.wr
    (.assayDone (.ite h.send.adpFlag.wr (.ite h.send.adpFlag.wr
      (.ite h.send.adpFlag.wr (.ite h.send.adpFlag.wr (.ite h.send.adpFlag.wr h.send.setAdapter.wr.bump)))))))))

theorem Keeps.execAdapterUnload (h : Keeps .any s₀ s) {who : Who} {adapter : Nat} :
    Answers .any s₀ (execAdapterUnload who adapter s) := by
  unfold Machine.execAdapterUnload; exact .next (h.adminWrite (fun _ h => h.endCurrency))

theorem Keeps.openSeqs (h : Keeps .any s₀ s) {f place : Nat} {l : List Sample} : Keeps .any s₀ (s.openSeqs f place l) := by
  induction l generalizing s place with
  | nil => exact h
  | cons e es ih =>
    dsimp only [State.openSeqs]
    split
    · exact h
    · exact ih h.parts.setSeq.setTune

theorem Keeps.openBatch (h : Keeps .any s₀ s) {f : Nat} : Keeps .any s₀ (s.openBatch f) := by
  unfold State.openBatch; exact .ite h (.ite h.setTune.openSeqs h.endTune)

theorem Keeps.execTune (h : Keeps .any s₀ s) {f n : Nat} {t : TuneIn} : Answers .any s₀ (execTune f n t s) := by
  unfold Machine.execTune
  split
  · exact .next h
  · exact .ite (.next h.refuseSlip) (.ite (.next h.refuseRoll) (.next h.setRoll.acceptSlip.setTune.send.openBatch))

theorem Keeps.finishSample (h : Keeps .any s₀ s) {f : Nat} {d : Nat × List GradIn} : Keeps .any s₀ (s.finishSample f d) := by
  unfold State.finishSample
  dsimp only
  split
  · exact h
  · split
    · exact h
    · exact .freeSeq (.rollPut (h.setTune.foldl fun _ _ h => h.send))

theorem Keeps.writeRound (h : Keeps .any s₀ s) {f : Nat} : Keeps .any s₀ (s.writeRound f) := by
  unfold State.writeRound; exact h.send.rollPut.bump.setTune.sweepAdapter

theorem Keeps.batchEnd (h : Keeps .any s₀ s) {f : Nat} : Keeps .any s₀ (s.batchEnd f) := by
  unfold State.batchEnd
  extract_lets +onlyGivenNames j drained s1 j1
  have h1 : Keeps .any s₀ s1 := .ite h.setTune h
  exact .ite (.ite (.ite h1.writeRound.endTune h1.writeRound.openBatch) h1.send) h1.openBatch

theorem Keeps.execRoundEnd (h : Keeps .any s₀ s) {f : Nat} {done : List (Nat × List GradIn)} {next : List Sample} :
    Answers .any s₀ (execRoundEnd f done next s) := by
  unfold Machine.execRoundEnd
  exact .ite (.next h) (.ite (.next h.tuneBoundary) (.next (.batchEnd (.foldl (.ite h h.send.setTune) fun _ _ h => h.finishSample))))

end Sys2Proof.Machine
end

section
/-! PROOF. Machine/Links, the ports of Cartway: every operation keeps the queue and a canonical register file. -/

namespace Sys2Proof.Machine

set_option Elab.async false

variable {s₀ s : State}

theorem Keeps.rerouteTo (h : Keeps .any s₀ s) {dst : Nat} : Keeps .any s₀ (s.rerouteTo dst) := by
  unfold State.rerouteTo; exact h.modCart.foldl fun _ _ h => h.route

theorem Keeps.partnerLeaves (h : Keeps .any s₀ s) {d : Nat} : Keeps .any s₀ (s.partnerLeaves d) := by
  unfold State.partnerLeaves; exact .rerouteTo (.bump (.modCart (h.raise.foldl fun _ _ h => h.retractPair)))

theorem Keeps.formPartners (h : Keeps .any s₀ s) : Keeps .any s₀ s.formPartners := by
  unfold State.formPartners
  extract_lets old union new count s1 left came s2
  have h1 : Keeps .any s₀ s1 := h.wr.wr.wr
  have h2 : Keeps .any s₀ s2 := .foldl (h1.foldl fun _ _ h => h.partnerLeaves) fun _ _ h => h.raise
  exact .ite h2 h2.rerouteWaits

theorem Keeps.setReach (h : Keeps .any s₀ s) {p mask : Nat} : Keeps .any s₀ (s.setReach p mask) := by
  unfold State.setReach; exact h.wr.wr.formPartners

theorem Keeps.requeue (h : Keeps .any s₀ s) {c : TxCart} : Keeps .any s₀ (s.requeue c) := by
  unfold State.requeue; exact .ite h.rerouteTo h.queueCart

theorem Keeps.leaveUp (h : Keeps .any s₀ s) {p st : Nat} : Keeps .any s₀ (s.leaveUp p st) := by
  unfold State.leaveUp; exact .ite h.wr (.cwFlag (h.wr.wr.setPort.modCart.setReach.foldl fun _ _ h => h.requeue))

theorem Keeps.sendControl (h : Keeps .any s₀ s) {p msg : Nat} {fields : List Nat} :
    Keeps .any s₀ (s.sendControl p msg fields) := by
  unfold State.sendControl; exact h.send

theorem Keeps.sendReach (h : Keeps .any s₀ s) {p : Nat} : Keeps .any s₀ (s.sendReach p) := by
  unfold State.sendReach; exact h.sendControl.modPort

theorem Keeps.startTrial (h : Keeps .any s₀ s) {p rate : Nat} : Keeps .any s₀ (s.startTrial p rate) := by
  unfold State.startTrial; exact h.wr.wr.bump.modPort

theorem Keeps.startTraining (h : Keeps .any s₀ s) {p : Nat} : Keeps .any s₀ (s.startTraining p) := by
  unfold State.startTraining; exact h.leaveUp.wr.startTrial

theorem Keeps.writePortCtl (h : Keeps .any s₀ s) {val : Nat} : Keeps .any s₀ (s.writePortCtl val) := by
  unfold State.writePortCtl; exact .ite h.setReg.startTraining (.ite h.setReg.leaveUp h.setReg)

theorem Keeps.execPortEnable (h : Keeps .any s₀ s) {who : Who} {val : Nat} : Answers .any s₀ (execPortEnable who val s) := by
  unfold Machine.execPortEnable; exact .next (h.adminWrite (fun _ h => h.writePortCtl))

theorem Keeps.execPortRetrain (h : Keeps .any s₀ s) {who : Who} {val : Nat} : Answers .any s₀ (execPortRetrain who val s) := by
  unfold Machine.execPortRetrain; exact .next (h.adminWrite (fun _ h => h.writePortCtl))

theorem Keeps.execTrainingTrialFail (h : Keeps .any s₀ s) {port : Nat} : Answers .any s₀ (execTrainingTrialFail port s) := by
  unfold Machine.execTrainingTrialFail; exact .ite (.next h.cwFlag.startTrial) (.next h)

theorem Keeps.execTrainingTrialPass (h : Keeps .any s₀ s) {port corr : Nat} {lock : LockIn} {uncorr : Nat} :
    Answers .any s₀ (execTrainingTrialPass port corr lock uncorr s) := by
  unfold Machine.execTrainingTrialPass; exact .ite (.ite (.next h.bump.bump.wr.modPort) (.next h.bump.bump)) (.next h)

theorem Keeps.frameIn (h : Keeps .any s₀ s) {p : Nat} {house : FrameIn} : Keeps .any s₀ (s.frameIn p house) := by
  unfold State.frameIn; exact .ite h.bump.modPort h.bump

theorem Keeps.enterUp (h : Keeps .any s₀ s) {p : Nat} : Keeps .any s₀ (s.enterUp p) := by
  unfold State.enterUp; exact h.wr.wr.modPort.sendReach

theorem Keeps.maybeUp (h : Keeps .any s₀ s) {p : Nat} : Keeps .any s₀ (s.maybeUp p) := by
  unfold State.maybeUp; exact .ite h.enterUp h

theorem Keeps.execHello (h : Keeps .any s₀ s) {port : Nat} {house : FrameIn} {version role dev nport domain : Nat} {bufs : List Nat} :
    Answers .any s₀ (execHello port house version role dev nport domain bufs s) := by
  unfold Machine.execHello
  exact .ite (.next h.bump) (.ite (.next h.bump.cwFlag) (.ite (.next h.bump.cwFlag) (.ite (.next h.bump) (.next h.bump.wr.wr.wr.modPort))))

theorem Keeps.execHelloTimer (h : Keeps .any s₀ s) {port : Nat} : Answers .any s₀ (execHelloTimer port s) := by
  unfold Machine.execHelloTimer; exact .ite (.next h.sendControl.modPort) (.next h)

theorem Keeps.execIdleFrame (h : Keeps .any s₀ s) {port : Nat} {house : FrameIn} :
    Answers .any s₀ (execIdleFrame port house s) := by
  unfold Machine.execIdleFrame; exact .ite (.next h.maybeUp.frameIn) (.next h)

theorem Keeps.execReach (h : Keeps .any s₀ s) {port : Nat} {house : FrameIn} {mask : Nat} :
    Answers .any s₀ (execReach port house mask s) := by
  unfold Machine.execReach; exact .ite (.next (.ite h.frameIn.setReach h.frameIn)) (.next h)

theorem Keeps.execReachTimer (h : Keeps .any s₀ s) : Answers .any s₀ (execReachTimer s) := by
  unfold Machine.execReachTimer; exact .next (h.foldl fun _ _ h => h.sendReach)

theorem Keeps.resend (h : Keeps .any s₀ s) {p from' : Nat} : Keeps .any s₀ (s.resend p from') := by
  unfold State.resend; exact .ite h.startTraining (.modPort (.bump (h.foldl fun _ _ h => h.send)))

theorem Keeps.execNak (h : Keeps .any s₀ s) {port : Nat} {house : FrameIn} {expect : Nat} :
    Answers .any s₀ (execNak port house expect s) := by
  unfold Machine.execNak; exact .ite (.next h.frameIn.resend) (.next h.frameIn)

theorem Keeps.execAckTimeout (h : Keeps .any s₀ s) {port : Nat} : Answers .any s₀ (execAckTimeout port s) := by
  unfold Machine.execAckTimeout
  dsimp only
  split
  · exact .ite (.next h.resend) (.next h)
  · exact .next h

theorem Keeps.execDown (h : Keeps .any s₀ s) {port : Nat} {house : FrameIn} : Answers .any s₀ (execDown port house s) := by
  unfold Machine.execDown; exact .ite (.next h.frameIn.leaveUp) (.next h.bump)

theorem Keeps.execUncorrectableCodeword (h : Keeps .any s₀ s) {port : Nat} :
    Answers .any s₀ (execUncorrectableCodeword port s) := by
  unfold Machine.execUncorrectableCodeword; exact .ite (.next h.bump) (.next h)

theorem Keeps.acceptCart (h : Keeps .any s₀ s) {p vc : Nat} {frames : List Nat} {c : Cart} :
    Keeps .any s₀ (s.acceptCart p vc frames c) := by
  unfold State.acceptCart; exact .ite h.cartLost.cwFlag h.modCart.bump.modPort

theorem Keeps.freeFrame (h : Keeps .any s₀ s) {p vc frame : Nat} : Keeps .any s₀ (s.freeFrame p vc frame) := by
  unfold State.freeFrame; exact h.modPort

theorem Keeps.execDataFrame (h : Keeps .any s₀ s) {port : Nat} {house : FrameIn} {vc seq : Nat} {body : List Byte} :
    Answers .any s₀ (execDataFrame port house vc seq body s) := by
  unfold Machine.execDataFrame
  extract_lets +onlyGivenNames s0
  have h0 : Keeps .any s₀ s0 := .ite h.maybeUp.frameIn h
  exact .ite (.next h0) (.ite (.next (.foldl (h0.setPort.foldl fun _ _ h => h.acceptCart) fun _ _ h => h.freeFrame))
    (.ite (.next h0.sendControl.modPort) (.next h0)))

theorem Keeps.sendFrames (h : Keeps .any s₀ s) {p vc n : Nat} {start : Bool} : Keeps .any s₀ (s.sendFrames p vc start n) := by
  induction n generalizing s start with
  | zero => exact h
  | succ n ih =>
    unfold State.sendFrames
    exact .ite h (.ite h.bump (.ite h (ih (.ite h.setPort.send.bump h.setPort.send))))

theorem Keeps.execCartSend (h : Keeps .any s₀ s) {port vc : Nat} : Answers .any s₀ (execCartSend port vc s) := by
  unfold Machine.execCartSend
  split
  · exact .next h
  · split
    · exact .next h.sendFrames
    · split
      · exact .next h
      · exact .next (.sendFrames (.modPort (.modCart (.ite h.noteEarly h))))

end Sys2Proof.Machine
end

section
/-! PROOF. Machine/ModeOps, the operations of the mode controller that other units call: every operation keeps the queue and a canonical register file. -/

namespace Sys2Proof.Machine

set_option Elab.async false

variable {s₀ s : State}

theorem Keeps.setUnitGen (h : Keeps .any s₀ s) {u : Nat × Nat} {g : Nat} : Keeps .any s₀ (s.setUnitGen u g) := by
  unfold State.setUnitGen
  split
  · exact h.wr
  · exact h.wr
  · exact h.wr

theorem Keeps.applyBits (h : Keeps .any s₀ s) {u : Nat × Nat} {off mask value : Nat} :
    Keeps .any s₀ (s.applyBits u off mask value) := by
  unfold State.applyBits; exact .ite h.setReg.refill h.setReg

theorem Keeps.applyStaged (h : Keeps .any s₀ s) {u : Nat × Nat} : Keeps .any s₀ (s.applyStaged u) := by
  unfold State.applyStaged; exact .setUnitGen (h.foldl fun _ _ h => h.applyBits)

theorem Keeps.noteImage (h : Keeps .any s₀ s) {e : ModeEntry} : Keeps .any s₀ (s.noteImage e) := by
  unfold State.noteImage; exact h.parts

theorem Keeps.catchUp (h : Keeps .any s₀ s) {u : Nat × Nat} : Keeps .any s₀ (s.catchUp u) := by
  unfold State.catchUp; exact .ite h (.bump (.setUnitGen (h.foldl fun _ _ h => h.applyBits)))

theorem Keeps.resetDrains (h : Keeps .any s₀ s) : Keeps .any s₀ s.resetDrains := by
  unfold State.resetDrains
  split
  · exact .ite h (.foldl (h.foldl fun _ _ h => .ite h h.drainReq) fun _ _ h => .ite h.wr h)
  · exact h

theorem Keeps.modePhase (h : Keeps .any s₀ s) {p : Nat} : Keeps .any s₀ (s.modePhase p) := by
  unfold State.modePhase; exact .ite h.wr.raise.resetDrains h.wr.raise

theorem Keeps.modeFlag (h : Keeps .any s₀ s) {f : RField} {u : Nat × Nat} : Keeps .any s₀ (s.modeFlag f u) := by
  unfold State.modeFlag; exact h.flagAt

theorem Keeps.modeReopen (h : Keeps .any s₀ s) : Keeps .any s₀ s.modeReopen := by
  unfold State.modeReopen
  refine h.foldl fun _ _ h => ?_
  split
  · exact h.drainRel
  · exact h
  · exact .ite h.wr h

theorem Keeps.modeAbort (h : Keeps .any s₀ s) : Keeps .any s₀ s.modeAbort := by
  unfold State.modeAbort; exact .ite h.parts.modeReopen.wr.bump.modePhase h

end Sys2Proof.Machine
end

section
/-! PROOF. Machine/Stocking, the stocking engine: every operation keeps the queue and a canonical register file. -/

namespace Sys2Proof.Machine

set_option Elab.async false

variable {s₀ s : State}

theorem Keeps.regroup (h : Keeps .any s₀ s) {sid g : Nat} : Keeps .any s₀ (s.regroup sid g) := by
  unfold State.regroup; exact .ite h.wr.wr.wr.modGroup h.wr.wr.wr

theorem Keeps.journalWrite (h : Keeps .any s₀ s) {i : Nat} {e : JEntry} : Keeps .any s₀ (s.journalWrite i e) := by
  unfold State.journalWrite; exact h.setJrn.regroup

theorem Keeps.settleRepairs (h : Keeps .any s₀ s) : Keeps .any s₀ s.settleRepairs := by
  unfold State.settleRepairs; exact h.foldl fun _ _ h => .ite h.parts h

theorem Keeps.stkFlagFree (h : Keeps .any s₀ s) {f : RField} : Keeps .any s₀ (s.stkFlagFree f) := by
  unfold State.stkFlagFree; exact h.takeFree.stkFlag

theorem Keeps.stkFlagOf (h : Keeps .any s₀ s) {f : RField} {is : List Nat} : Keeps .any s₀ (s.stkFlagOf f is) := by
  unfold State.stkFlagOf
  split
  · exact h.stkFlag
  · exact h.stkFlagFree

theorem Keeps.endJob (h : Keeps .any s₀ s) {st : Nat} : Keeps .any s₀ (s.endJob st) := by
  unfold State.endJob; exact .raise (.wr (.wr (.wr (h.parts.foldl fun _ _ h => h.regroup))))

theorem Keeps.showJob (h : Keeps .any s₀ s) : Keeps .any s₀ s.showJob := by
  unfold State.showJob; exact h.wr.wr

theorem Keeps.jobNext (h : Keeps .any s₀ s) : Keeps .any s₀ s.jobNext := by
  unfold State.jobNext
  split
  · exact h.showJob
  · split
    · exact h.showJob
    · split
      · exact h.showJob.endJob
      · split
        · exact h.showJob.endJob
        · split
          · exact h.parts.wr.wr.showJob
          · split
            · extract_lets ok s1
              have h1 : Keeps .any s₀ s1 := by
                unfold s1
                split
                · split
                  · exact h.fastMode
                  · exact h
                · exact h
              exact h1.showJob.endJob
            · exact h.showJob

theorem Keeps.refuseJob (h : Keeps .any s₀ s) {f : RField} {is : List Nat} : Keeps .any s₀ (s.refuseJob f is) := by
  unfold State.refuseJob; exact h.stkFlagOf.wr.raise

theorem Keeps.dropScrub (h : Keeps .any s₀ s) {is : List Nat} : Keeps .any s₀ (s.dropScrub is) := by
  unfold State.dropScrub; exact .ite h.parts h

theorem Keeps.execStockingJobStart (h : Keeps .any s₀ s) {who : Who} {hdr table : List Byte} {hdrErr tableErr : MemErr} :
    Answers .any s₀ (execStockingJobStart who hdr table hdrErr tableErr s) := by
  unfold Machine.execStockingJobStart
  exact .next (h.adminWrite (fun _ h => .ite h.stkFlagFree (.ite h.refuseJob (.ite h.memFlag.refuseJob (.assayDone (by
    split
    · exact h.touchSpan.touchSpan.readMem.readMem.refuseJob
    · dsimp only
      split
      · exact h.touchSpan.touchSpan.readMem.readMem.refuseJob
      · split
        · exact h.touchSpan.touchSpan.readMem.readMem.refuseJob
        · split
          · exact h.touchSpan.touchSpan.readMem.readMem.refuseJob
          · exact h.touchSpan.touchSpan.readMem.readMem.dropScrub.parts.wr.jobNext))))))

theorem Keeps.execTouchupRestock (h : Keeps .any s₀ s) {who : Who} {index : Nat} :
    Answers .any s₀ (execTouchupRestock who index s) := by
  unfold Machine.execTouchupRestock
  exact .next (h.adminWrite (fun _ h => .ite h.stkFlag (.ite h.stkFlag (.ite h.parts.wr.showJob h))))

theorem Keeps.execStockingAbort (h : Keeps .any s₀ s) {who : Who} : Answers .any s₀ (execStockingAbort who s) := by
  unfold Machine.execStockingAbort
  exact .next (h.adminWrite (fun _ h => by
    split
    · exact h.parts.jobNext
    · exact h))

theorem Keeps.startScrub (h : Keeps .any s₀ s) {i : Nat} : Keeps .any s₀ (s.startScrub i) := by
  unfold State.startScrub; exact h.parts.wakeStall

theorem Keeps.execScrubCrateNow (h : Keeps .any s₀ s) {who : Who} {index : Nat} :
    Answers .any s₀ (execScrubCrateNow who index s) := by
  unfold Machine.execScrubCrateNow; exact .next (h.adminWrite (fun _ h => .ite h.startScrub h))

theorem Keeps.hotRows (h : Keeps .any s₀ s) {is : List Nat} : Keeps .any s₀ (s.hotRows is) := by
  unfold State.hotRows; exact h.foldl fun _ _ h => .ite (.ite h.modRow h.modRow.stkFlagOf) (.ite h.modRow h)

theorem Keeps.judgeStock (h : Keeps .any s₀ s) : Keeps .any s₀ s.judgeStock := by
  unfold State.judgeStock; exact .hotRows (h.foldl fun _ _ h => h.modRow)

theorem Keeps.wear (h : Keeps .any s₀ s) {i n : Nat} : Keeps .any s₀ (s.wear i n) := by
  unfold State.wear; exact .ite h.stkFlag h

theorem Keeps.failJob (h : Keeps .any s₀ s) : Keeps .any s₀ s.failJob := by
  unfold State.failJob
  split
  · exact h.parts.jobNext
  · exact h

theorem Keeps.execCrateProgramStart (h : Keeps .any s₀ s) {fetched : List Fetch} :
    Answers .any s₀ (execCrateProgramStart fetched s) := by
  unfold Machine.execCrateProgramStart
  split
  · exact .next h
  · split
    · exact .next h
    · extract_lets s0
      have h0 : Keeps .any s₀ s0 := h.hotRows
      split
      · exact .next h0
      · dsimp only
        split
        · exact .next h0.stkFlag.failJob
        · split
          · exact .next h0.memFlag.bump.stkFlag.failJob
          · have h1 (a n : Nat) (l : List Fetch) : Keeps .any s₀ (l.foldl (fun s f => s.readMem f.err) (s0.touchSpan a n)) :=
              h0.touchSpan.foldl fun _ _ h => h.readMem
            split
            · exact .next (.ite (h1 ..).bump.stkFlag.failJob (h1 ..))
            · exact .ite (.next (h1 ..).bump.wr) (.next (h1 ..).bump.wr.dropScrub.wear.journalWrite.parts.showJob)

theorem Keeps.workDone (h : Keeps .any s₀ s) {i : Nat} : Keeps .any s₀ (s.workDone i) := by
  unfold State.workDone; exact h.parts

theorem Keeps.execCrateProgramEnd (h : Keeps .any s₀ s) {index : Nat} {cellsOk : Bool} :
    Answers .any s₀ (execCrateProgramEnd index cellsOk s) := by
  unfold Machine.execCrateProgramEnd
  split
  · exact .ite (.next h) (.ite (.next h.workDone.jobNext) (.ite (.next h.workDone.bump.journalWrite.jobNext)
    (.next h.workDone.bump.bump.stkFlag.journalWrite.jobNext)))
  · exact .next h

theorem Keeps.execSettlePauseEnd (h : Keeps .any s₀ s) : Answers .any s₀ (execSettlePauseEnd s) := by
  unfold Machine.execSettlePauseEnd
  split
  · exact .ite (.next h.parts.wr.wr.jobNext) (.next h)
  · exact .next h

theorem Keeps.execTouchupPassStart (h : Keeps .any s₀ s) : Answers .any s₀ (execTouchupPassStart s) := by
  unfold Machine.execTouchupPassStart
  split
  · exact .next h
  · split
    · exact .next h
    · dsimp only
      split
      · exact .next h.hotRows
      · exact .ite (.next h.hotRows.stkFlag.failJob) (.next (.showJob
        (.parts (.journalWrite (.dropScrub (.ite h.hotRows.wear h.hotRows))))))

theorem Keeps.touched (h : Keeps .any s₀ s) {index : Nat} {cellsOk : Bool} : Keeps .any s₀ (s.touched index cellsOk) := by
  unfold State.touched
  exact .ite (.jobNext (.ite h.workDone.bump.journalWrite.settleRepairs.parts h.workDone.bump.journalWrite.settleRepairs))
    h.workDone.bump.bump.stkFlag.journalWrite.jobNext

theorem Keeps.execTouchupPassEnd (h : Keeps .any s₀ s) {index : Nat} {cellsOk : Bool} :
    Answers .any s₀ (execTouchupPassEnd index cellsOk s) := by
  unfold Machine.execTouchupPassEnd
  split
  · exact .ite (.next h.touched) (.next (.ite h.takeFree.workDone.jobNext h.takeFree.touched))
  · exact .next h

theorem Keeps.stockHalt (h : Keeps .any s₀ s) {f : RField} : Keeps .any s₀ (s.stockHalt f) := by
  unfold State.stockHalt
  extract_lets s1 s2
  have h1 : Keeps .any s₀ s1 := h.foldl fun _ _ h => h.journalWrite
  have h2 : Keeps .any s₀ s2 := h1.parts.stkFlagOf
  exact .ite h2.showJob.endJob h2.showJob

theorem Keeps.stockRail (h : Keeps .any s₀ s) : Keeps .any s₀ s.stockRail := by
  unfold State.stockRail; exact h.stockHalt

theorem Keeps.stockStart (h : Keeps .any s₀ s) : Keeps .any s₀ s.stockStart := by
  unfold State.stockStart
  extract_lets s1 gs
  have h1 : Keeps .any s₀ s1 := by
    unfold s1
    refine h.foldl fun _ _ h => ?_
    split
    · exact h.setJrn
    · exact h.setJrn
    · exact h
  exact h1.parts.foldl fun _ _ h => h.regroup

theorem Keeps.execScrubDue (h : Keeps .any s₀ s) : Answers .any s₀ (execScrubDue s) := by
  unfold Machine.execScrubDue
  split
  · split
    · exact .ite (.next h) (.next h.parts.wr.startScrub)
    · exact .ite (.next h.parts.wr) (.next h)
  · exact .next h

theorem Keeps.execScrubCrateDone (h : Keeps .any s₀ s) {codes : List Byte} {marginal : Nat} :
    Answers .any s₀ (execScrubCrateDone codes marginal s) := by
  unfold Machine.execScrubCrateDone
  split
  · exact .next h
  · split
    · exact .next h
    · extract_lets ok _ s1 s2 at' again s3 _ s4
      have h1 : Keeps .any s₀ s1 := h.parts.bump.wr.wr
      have h2 : Keeps .any s₀ s2 := .ite h1.touchupDue h1
      have h4 : Keeps .any s₀ s4 := h2.bump.stkFlag.journalWrite
      exact .ite (.next h2.assayDone) (.next h4.noteRestocked.modGroup.assayDone)

end Sys2Proof.Machine
end

section
/-! PROOF. Machine/FaultOps, what a fault does to the whole device: every operation keeps the queue and a canonical register file. -/

namespace Sys2Proof.Machine

set_option Elab.async false

variable {s₀ s : State}

theorem Keeps.wdnMark (h : Keeps .any s₀ s) {f : RField} : Keeps .any s₀ (s.wdnMark f) := by
  unfold State.wdnMark; exact h.parts

theorem Keeps.wdnFlag (h : Keeps .any s₀ s) {f : RField} : Keeps .any s₀ (s.wdnFlag f) := by
  unfold State.wdnFlag; exact .ite h.wdnMark h.wdnMark.wr.raise

theorem Keeps.pmbus (h : Keeps .any s₀ s) {vr cmd value : Nat} : Keeps .any s₀ (s.pmbus vr cmd value) := by
  unfold State.pmbus; exact h.send

theorem Keeps.stallDown (h : Keeps .any s₀ s) {sid : Nat} : Keeps .any s₀ (s.stallDown sid) := by
  unfold State.stallDown; exact .stallBiasOff (.ite h h.setStall.loseStrikes)

theorem Keeps.quarterDown (h : Keeps .any s₀ s) {q : Nat} : Keeps .any s₀ (s.quarterDown q) := by
  unfold State.quarterDown; exact .quarterBiasOff (h.foldl fun _ _ h => .rowBiasOff (h.foldl fun _ _ h => h.stallDown))

theorem Keeps.orderlyStop (h : Keeps .any s₀ s) : Keeps .any s₀ s.orderlyStop := by
  unfold State.orderlyStop; exact .ite h h.wr.raise.bump.faultLog.parts.stockHalt.modeAbort

theorem Keeps.thermTrip (h : Keeps .any s₀ s) : Keeps .any s₀ s.thermTrip := by
  unfold State.thermTrip; exact .ite h (h.wr.faultLog.parts.foldl fun _ _ h => h.pmbus)

theorem Keeps.stopQuarter (h : Keeps .any s₀ s) {q : Nat} : Keeps .any s₀ (s.stopQuarter q) := by
  unfold State.stopQuarter; exact .ite h (.quarterDown (h.parts.foldl fun _ _ h => h.modSeq))

theorem Keeps.railFault (h : Keeps .any s₀ s) {v : Nat} : Keeps .any s₀ (s.railFault v) := by
  unfold State.railFault
  exact .ite h (.ite h.wr.wr.wr.wdnMark.raise.faultLog.stopQuarter
    (.ite h.wr.wr.wr.wdnMark.raise.faultLog.stockRail (.ite h.wr.wr.wr.wdnMark.raise.faultLog.orderlyStop
      h.wr.wr.wr.wdnMark.raise.faultLog)))

theorem Keeps.deviceFault (h : Keeps .any s₀ s) {code : Nat} : Keeps .any s₀ (s.deviceFault code) := by
  unfold State.deviceFault
  exact .ite h (.faultLog (.send (h.wr.stockHalt.foldl fun _ _ h => .ite h.sendControl.leaveUp h)))

end Sys2Proof.Machine
end

section
/-! PROOF. Machine/Tally, the tally engine's correction path: every operation keeps the queue and a canonical register file. -/

namespace Sys2Proof.Machine

set_option Elab.async false

variable {s₀ s : State}

theorem Keeps.shutParts (h : Keeps .any s₀ s) {sid : Nat} {d : Desc} : Keeps .any s₀ (s.shutParts sid d).1 := by
  unfold State.shutParts
  extract_lets st red shut seq s1 s2 d2
  have h1 : Keeps .any s₀ s1 := .ite h.shutStrike h
  have h2 : Keeps .any s₀ s2 := .ite h1.shutStrike h1
  exact h2

theorem Keeps.arrive (h : Keeps .any s₀ s) {sid : Nat} {d : Desc} : Keeps .any s₀ (s.arrive sid d) := by
  unfold State.arrive
  split
  next s1 d e =>
    exact (h.shutParts.of_eq (congrArg Prod.fst e)).pushDesc
  next s1 e =>
    exact (h.shutParts.of_eq (congrArg Prod.fst e))

theorem Keeps.receive (h : Keeps .any s₀ s) {row stall : Nat} {new : List (Nat × Nat)} :
    Keeps .any s₀ (s.receive row stall new) := by
  unfold State.receive; exact h.modRow

theorem Keeps.execDescriptorArrival (h : Keeps .any s₀ s) {row stall : Nat} {new : List (Nat × Nat)} :
    Answers .any s₀ (execDescriptorArrival row stall new s) := by
  unfold Machine.execDescriptorArrival
  split
  · dsimp only
    split
    · exact .next h.receive.modRow.arrive
    · exact .next h.receive
  · exact .next h

theorem Keeps.refZ (h : Keeps .any s₀ s) {sid g code : Nat} : Keeps .any s₀ (s.refZ sid g code) := by
  unfold State.refZ; exact .ite h.setGroup.corFlag.queueCal h.setGroup

theorem Keeps.showDrift (h : Keeps .any s₀ s) {gid : Nat} : Keeps .any s₀ (s.showDrift gid) := by
  unfold State.showDrift; exact h.wr.wr

theorem Keeps.driftUpdate (h : Keeps .any s₀ s) {sid g r lo hi : Nat} {S : Dy} :
    Keeps .any s₀ (s.driftUpdate sid g r lo hi S) := by
  unfold State.driftUpdate
  exact .ite (.ite h.setGroup.showDrift.bumpSat.modGroup.corFlag.queueCal h.setGroup.showDrift.bumpSat) h

theorem Keeps.references (h : Keeps .any s₀ s) {sid g r : Nat} {refs : List Nat} {S : Dy} :
    Keeps .any s₀ (s.references sid g r refs S) := by
  unfold State.references; exact h.bump.refZ.driftUpdate

theorem Keeps.showRefs (h : Keeps .any s₀ s) {sid g no : Nat} {refs : List Nat} : Keeps .any s₀ (s.showRefs sid g no refs) := by
  unfold State.showRefs; exact h.wr.wr.wr.wr.wr.wr

theorem Keeps.setStrike (h : Keeps .any s₀ s) {sid : Nat} {old new : Strike} : Keeps .any s₀ (s.setStrike sid old new) := by
  unfold State.setStrike; exact h.modStall

theorem Keeps.takeWhole (h : Keeps .any s₀ s) {sid : Nat} {x : Strike} : Keeps .any s₀ (s.takeWhole sid x) := by
  unfold State.takeWhole; exact h.modStall

theorem Keeps.dropWhole (h : Keeps .any s₀ s) {sid : Nat} {d : Desc} : Keeps .any s₀ (s.dropWhole sid d) := by
  unfold State.dropWhole
  split
  · exact h.dropStrike.freeEntries
  · exact h

theorem Keeps.handStrike (h : Keeps .any s₀ s) {sid : Nat} {x : Strike} : Keeps .any s₀ (s.handStrike sid x) := by
  unfold State.handStrike; exact .ite h.takeWhole.queueJob.cper h.takeWhole.queueJob.cper.bump.nqFlag

theorem Keeps.clipStrike (h : Keeps .any s₀ s) {sid : Nat} {x : Strike} : Keeps .any s₀ (s.clipStrike sid x) := by
  unfold State.clipStrike
  split
  · exact h.discardStrike
  · split
    · exact .ite h.discardStrike.bump.nqFlag h.handStrike
    · exact h.setStrike

theorem Keeps.failStrike (h : Keeps .any s₀ s) {sid : Nat} {old x : Strike} : Keeps .any s₀ (s.failStrike sid old x) := by
  unfold State.failStrike
  split
  extract_lets +onlyGivenNames s0 attn out s1
  have h0 : Keeps .any s₀ s0 := h.bump.chkFlag
  have h1 : Keeps .any s₀ s1 := .ite h0.cper h0
  exact .ite h1.discardStrike (.ite (.ite h1.discardStrike (.ite h1.setStrike.takeWhole.shutStrike
    h1.setStrike.takeWhole.dropWhole.shutStrike)) h1.setStrike.queueJob)

theorem Keeps.residueEvent (h : Keeps .any s₀ s) {sid : Nat} {x : Strike} {bad : Bool} :
    Keeps .any s₀ (s.residueEvent sid x bad) := by
  unfold State.residueEvent; exact .ite h.chkFlag.cper h

theorem Keeps.laneEvents (h : Keeps .any s₀ s) {sid : Nat} {x : Strike} {c : Codes} : Keeps .any s₀ (s.laneEvents sid x c) := by
  unfold State.laneEvents
  extract_lets s1 s2
  have h1 : Keeps .any s₀ s1 := h.bump
  have h2 : Keeps .any s₀ s2 := .ite h1.chkFlag.cper h1
  exact .ite h2 h2.corFlag.modStall

theorem Keeps.stockCodes (h : Keeps .any s₀ s) {sid : Nat} {x : Strike} {c : Codes} : Keeps .any s₀ (s.stockCodes sid x c) := by
  unfold State.stockCodes
  extract_lets +onlyGivenNames d row xs1 pat1 s1 xs2 pat2 s2 s3 s4
  have h1 : Keeps .any s₀ s1 := .ite h h.references
  have h2 : Keeps .any s₀ s2 := .ite h1.references h1
  have h3 : Keeps .any s₀ s3 := .ite h2 h2.showRefs
  have h4 : Keeps .any s₀ s4 := .laneEvents (.ite h3.corFlag h3)
  exact .ite h4.clipStrike (.ite h4.bump.residueEvent.failStrike h4.bump.residueEvent.setStrike)

theorem Keeps.freshCodes (h : Keeps .any s₀ s) {sid : Nat} {x : Strike} {c : Codes} : Keeps .any s₀ (s.freshCodes sid x c) := by
  unfold State.freshCodes; exact .ite h.clipStrike (.ite h.bump.residueEvent.failStrike h.bump.residueEvent.setStrike)

theorem Keeps.withdraw (h : Keeps .any s₀ s) {sid g : Nat} : Keeps .any s₀ (s.withdraw sid g) := by
  unfold State.withdraw; exact h.modGroup.queueCal

theorem Keeps.laneOut (h : Keeps .any s₀ s) {sid : Nat} : Keeps .any s₀ (s.laneOut sid) := by
  unfold State.laneOut; exact .ite h.modStall h.modStall.wr

theorem Keeps.laneProbe (h : Keeps .any s₀ s) {sid : Nat} {passed canary : Bool} :
    Keeps .any s₀ (s.laneProbe sid passed canary) := by
  unfold State.laneProbe; exact .ite h (.ite h.setStall (.ite h.setStall.wr h.setStall))

theorem Keeps.probeCodes (h : Keeps .any s₀ s) {sid : Nat} {x : Strike} {c : Codes} : Keeps .any s₀ (s.probeCodes sid x c) := by
  unfold State.probeCodes
  extract_lets d gid S L xs pat s0 s1 sc tol es failed s2 k T y z lane evaluated passed s3 _ s4
  have h0 : Keeps .any s₀ s0 := .ite h.corFlag h
  have h1 : Keeps .any s₀ s1 := h0.references.showRefs.bump.bump
  have h2 : Keeps .any s₀ s2 := .ite h1.bump.chkFlag.withdraw.cper h1
  have h3 : Keeps .any s₀ s3 := .ite h2 h2.modStall
  have h4 : Keeps .any s₀ s4 := .ite h3.laneOut.chkFlag.cper h3
  exact .dropStrike (.ite h4.laneProbe h4)

theorem Keeps.execStrikeCodesReceived (h : Keeps .any s₀ s) {row stall : Nat} {c : Codes} :
    Answers .any s₀ (execStrikeCodesReceived row stall c s) := by
  unfold Machine.execStrikeCodesReceived
  split
  · exact .next h
  · extract_lets sid
    split
    · exact .next h
    · extract_lets +onlyGivenNames sc s0
      have hc : Keeps .any s₀ sc := h.bump
      have h0 : Keeps .any s₀ s0 := .ite hc.flag hc
      split
      · exact .next h0.probeCodes
      · split
        · dsimp only
          split
          · exact .next h0.stockCodes.freshCodes
          · exact .next h0.stockCodes
        · exact .next h0.freshCodes

theorem Keeps.rangeStep (h : Keeps .any s₀ s) {sid : Nat} {d : Desc} {xs : List Dy} : Keeps .any s₀ (s.rangeStep sid d xs) := by
  unfold State.rangeStep
  extract_lets +onlyGivenNames row gid
  split
  · extract_lets sh x m r want r' s1 s2 s3
    have h1 : Keeps .any s₀ s1 := h.setGroup
    have h2 : Keeps .any s₀ s2 := .ite h1 h1.wr.wr
    have h3 : Keeps .any s₀ s3 := .ite h2 h2.bump
    exact .ite h3.nqFlag h3
  · exact h

theorem Keeps.rangeOf (h : Keeps .any s₀ s) {sid : Nat} {x : Strike} : Keeps .any s₀ (s.rangeOf sid x) := by
  unfold State.rangeOf; exact .ite h (.ite h.rangeStep.rangeStep h.rangeStep)

theorem Keeps.releaseStrikes (h : Keeps .any s₀ s) {sid : Nat} {n : Narrow} {f : Feed} {xs : List Strike} {entry : Bool} :
    Keeps .any s₀ (s.releaseStrikes sid n f xs entry) := by
  unfold State.releaseStrikes
  exact .foldl (.deliver (h.foldl fun _ _ h => h.rangeOf)) fun _ _ h => .ite h.setStrike h.dropStrike

theorem Keeps.keepAttn (h : Keeps .any s₀ s) {sid : Nat} {n : Narrow} {x : Strike} : Keeps .any s₀ (s.keepAttn sid n x) := by
  unfold State.keepAttn; exact h.dropStrike.freeEntries.putAttn.modStall

theorem Keeps.execStrikeRelease (h : Keeps .any s₀ s) {row stall no : Nat} {fresh : Bool} :
    Answers .any s₀ (execStrikeRelease row stall no fresh s) := by
  unfold Machine.execStrikeRelease
  split
  · exact .next h
  · dsimp only
    split
    · exact .next h
    · split
      · exact .next h.discardStrike
      · split
        · exact .next h
        · split
          · exact .ite (.next h) (.next h.discardStrike)
          · split
            · exact .next h
            · split
              · exact .next h.accFlag.freeEntries.dropStrike
              · split
                · exact .next h.discardStrike
                · split
                  · exact .next h.keepAttn
                  · split
                    · exact .next h.releaseStrikes
                    · split
                      · exact .next h.releaseStrikes
                      · exact .next h

theorem Keeps.restrike (h : Keeps .any s₀ s) {sid : Nat} {x : Strike} {ds : List Desc} : Keeps .any s₀ (s.restrike sid x ds) := by
  unfold State.restrike
  extract_lets st b part s1
  have h1 : Keeps .any s₀ s1 := by
    unfold s1
    split
    · exact h.setStall
    · exact h
  exact h1.setStrike.foldl fun _ _ h => h.pushDesc

theorem Keeps.execClipReplay (h : Keeps .any s₀ s) {row stall no : Nat} {fresh : Bool} :
    Answers .any s₀ (execClipReplay row stall no fresh s) := by
  unfold Machine.execClipReplay
  split
  · exact .next h
  · dsimp only
    split
    · exact .next h
    · split
      · exact .next (.restrike (.ite h.bump h.bump))
      · exact .next h

theorem Keeps.execClipSplit (h : Keeps .any s₀ s) {row stall no : Nat} {fresh : Bool} :
    Answers .any s₀ (execClipSplit row stall no fresh s) := by
  unfold Machine.execClipSplit
  split
  · exact .next h
  · dsimp only
    split
    · exact .next h
    · split
      · exact .next h.bump.restrike
      · exact .next h

theorem Keeps.setTrim (h : Keeps .any s₀ s) {sid col e : Nat} : Keeps .any s₀ (s.setTrim sid col e) := by
  unfold State.setTrim; exact h.modStall

theorem Keeps.execTrimDataWrite (h : Keeps .any s₀ s) {who : Who} {row val : Nat} :
    Answers .any s₀ (execTrimDataWrite who row val s) := by
  unfold Machine.execTrimDataWrite; exact .next (h.talWrite (fun _ h => h.setTrim))

theorem Keeps.execTrimStep (h : Keeps .any s₀ s) {row stall group : Nat} : Answers .any s₀ (execTrimStep row stall group s) := by
  unfold Machine.execTrimStep; exact .next (.ite h.trimStep h)

theorem Keeps.passResidue (h : Keeps .any s₀ s) {sid : Nat} {p : Pass} {lane : List (Nat × Word32)} :
    Keeps .any s₀ (s.passResidue sid p lane) := by
  unfold State.passResidue
  split
  · exact h
  · exact .ite h (h.modStall.foldl fun _ _ h => h.residueEvent.failStrike)

theorem Keeps.execOverflowPassEnd (h : Keeps .any s₀ s) {row stall : Nat} {ended : PassEnd} :
    Answers .any s₀ (execOverflowPassEnd row stall ended s) := by
  unfold Machine.execOverflowPassEnd
  dsimp only
  split
  · exact .next h
  · split
    · exact .next h
    · have hread {c : Prop} {_ : Decidable c} {slot gen i : Nat} {e : MemErr} :
          Keeps .any s₀ (if c then s.shardRead slot gen i e else s) := .ite h.shardRead h
      refine .ite (.next h) (.ite (.next h.setStall.bump.bump.passResidue)
        (.ite (.next hread.setStall.bump.bump.passResidue.bump) (.next (.corFlag (.modStall ?_)))))
      split
      · exact hread.ledgerUE
      · exact .ite hread.reopen hread

theorem Keeps.execLedgerRowRetry (h : Keeps .any s₀ s) {row stall : Nat} : Answers .any s₀ (execLedgerRowRetry row stall s) := by
  unfold Machine.execLedgerRowRetry
  split
  · exact .next h
  · dsimp only
    split
    · exact .ite (.next h.setStall) (.next h)
    · exact .next h

end Sys2Proof.Machine
end

section
/-! PROOF. Machine/Calibration, calibration runs, temperature re-estimates, repairs and substitution: every operation keeps the queue and a canonical register file. -/

namespace Sys2Proof.Machine

set_option Elab.async false

variable {s₀ s : State}

theorem Keeps.leaveJob (h : Keeps .any s₀ s) {crates : List Nat} : Keeps .any s₀ (s.leaveJob crates) := by
  unfold State.leaveJob; exact .ite h.parts.jobNext h.parts

theorem Keeps.assignSpare (h : Keeps .any s₀ s) {sel logical : Nat} : Keeps .any s₀ (s.assignSpare sel logical) := by
  unfold State.assignSpare; exact .logRepair (h.parts.bump.leaveJob.foldl fun _ _ h => h.journalWrite)

theorem Keeps.execRepairAssign (h : Keeps .any s₀ s) {who : Who} {val : Nat} : Answers .any s₀ (execRepairAssign who val s) := by
  unfold Machine.execRepairAssign
  exact .next (h.adminWrite (fun _ h => .ite h (.ite (.ite h (.assignSpare (.ite h.unlogRepair h))) h.parts.unlogRepair)))

theorem Keeps.calCmd (h : Keeps .any s₀ s) {who : Who} {row stall : Nat} {f : State → State}
    (hf : ∀ t, Keeps .any s₀ t → Keeps .any s₀ (f t)) :
    Keeps .any s₀ (s.calCmd who row stall f) := by
  unfold State.calCmd; exact h.adminWrite (fun _ h => .ite (hf _ h) h)

theorem Keeps.execCalibrationQueue (h : Keeps .any s₀ s) {who : Who} {row stall : Nat} :
    Answers .any s₀ (execCalibrationQueue who row stall s) := by
  unfold Machine.execCalibrationQueue; exact .next (h.calCmd (fun _ h => h.queueCal))

theorem Keeps.execCalibrationWithdraw (h : Keeps .any s₀ s) {who : Who} {row stall : Nat} :
    Answers .any s₀ (execCalibrationWithdraw who row stall s) := by
  unfold Machine.execCalibrationWithdraw; exact .next (h.calCmd (fun _ h => .ite (.ite h.parts.wr.wr h.parts.wr) h))

theorem Keeps.reestimate (h : Keeps .any s₀ s) {row : Nat} : Keeps .any s₀ (s.reestimate row) := by
  unfold State.reestimate; exact .bump (.wr (.modRow (h.foldl fun _ _ h => h.foldl fun _ _ h => h.fastMode)))

theorem Keeps.execReferenceReestimate (h : Keeps .any s₀ s) {who : Who} {row : Nat} :
    Answers .any s₀ (execReferenceReestimate who row s) := by
  unfold Machine.execReferenceReestimate; exact .next (h.adminWrite (fun _ h => .ite h.reestimate h))

theorem Keeps.execPeriodicCalibration (h : Keeps .any s₀ s) {row stall : Nat} :
    Answers .any s₀ (execPeriodicCalibration row stall s) := by
  unfold Machine.execPeriodicCalibration; exact .ite (.next h.queueCal) (.next h)

theorem Keeps.queueReplays (h : Keeps .any s₀ s) {sid : Nat} : Keeps .any s₀ (s.queueReplays sid) := by
  unfold State.queueReplays; exact h.foldl fun _ _ h => h.queueJob

theorem Keeps.calBlockOn (h : Keeps .any s₀ s) {sid : Nat} : Keeps .any s₀ (s.calBlockOn sid) := by
  unfold State.calBlockOn; exact h.parts.modStall.drainReq.wr

theorem Keeps.execCalibrationRunStart (h : Keeps .any s₀ s) : Answers .any s₀ (execCalibrationRunStart s) := by
  unfold Machine.execCalibrationRunStart
  split
  · exact .next h
  · split
    · exact .next h
    · exact .ite (.next h.parts.wr.bump.wakeStall.queueReplays.calBlockOn) (.next h.parts.wr.bump.wakeStall.queueReplays.wr)

theorem Keeps.execBlockModeSwitch (h : Keeps .any s₀ s) {row stall : Nat} :
    Answers .any s₀ (execBlockModeSwitch row stall s) := by
  unfold Machine.execBlockModeSwitch; exact .ite (.next h.calBlockOn) (.next h)

theorem Keeps.calLeave (h : Keeps .any s₀ s) {sid run : Nat} : Keeps .any s₀ (s.calLeave sid run) := by
  unfold State.calLeave; exact h.parts.wr.wr.calBlockOff.testShut

theorem Keeps.calAbandon (h : Keeps .any s₀ s) {sid : Nat} : Keeps .any s₀ (s.calAbandon sid) := by
  unfold State.calAbandon; exact h.calLeave.queueCal.calFlag

theorem Keeps.repairCols (h : Keeps .any s₀ s) {sid g : Nat} {fit : CalFit} : Keeps .any s₀ (s.repairCols sid g fit).1 := by
  have hneed {t : State} (ht : Keeps .any s₀ t) (f : RField) : Keeps .any s₀
    ((t.calFlag f sid).modGroup (groupId sid g) fun x => { x with withdrawn := true }) :=
    ht.calFlag.modGroup
  unfold State.repairCols
  extract_lets bad
  refine List.foldlRecOn (motive := fun a : State × List Nat × Bool => Keeps .any s₀ a.1) bad _ h ?_
  intro a ha c _
  dsimp only
  split
  · exact hneed ha _
  · split
    · exact ha.assignSpare
    · exact hneed ha.calFlag _

theorem Keeps.calSlices (h : Keeps .any s₀ s) {sid : Nat} {chans : List (List (List Nat))} :
    Keeps .any s₀ (s.calSlices sid chans) := by
  unfold State.calSlices
  exact h.foldl fun _ _ h => h.foldl fun _ _ h => .ite h.sliceGood (.ite h (.ite h.spareBad h.sliceBad))

theorem Keeps.recordSigma (h : Keeps .any s₀ s) {sid g : Nat} {fit : CalFit} : Keeps .any s₀ (s.recordSigma sid g fit) := by
  unfold State.recordSigma
  exact .ite h.wr.bumpSat.wr.modGroup (.ite h.wr.bumpSat.wr.modGroup.corFlag.queueCal
    (h.wr.bumpSat.wr.modGroup.corFlag.foldl fun _ _ h => h.touchupDue))

theorem Keeps.calRows (h : Keeps .any s₀ s) {sid g : Nat} {fit : CalFit} : Keeps .any s₀ (s.calRows sid g fit) := by
  unfold State.calRows; exact .ite h.modStall.modGroup h

theorem Keeps.calSliceTrims (h : Keeps .any s₀ s) {sid : Nat} {fit : CalFit} : Keeps .any s₀ (s.calSliceTrims sid fit) := by
  unfold State.calSliceTrims; exact .ite h h.modStall

theorem Keeps.calCommit (h : Keeps .any s₀ s) {sid : Nat} {fits : List GroupFit} : Keeps .any s₀ (s.calCommit sid fits) := by
  unfold State.calCommit
  extract_lets +onlyGivenNames s1 s2 src
  have h1 : Keeps .any s₀ s1 := by
    unfold s1
    refine h.foldl fun _ _ h => ?_
    extract_lets s1
    have h1 : Keeps .any s₀ s1 := h.foldl fun _ _ h => h.setTrim
    exact .ite h1.modGroup h1
  have h2 : Keeps .any s₀ s2 := h1.bump.wr.wr
  have hrc : Keeps .any s₀ src := h2.bump
  exact hrc.parts

theorem Keeps.calFinish (h : Keeps .any s₀ s) {sid : Nat} : Keeps .any s₀ (s.calFinish sid) := by
  unfold State.calFinish; exact .ite h (.ite h.calCommit.calLeave h.calLeave)

theorem Keeps.execCalibrationFit (h : Keeps .any s₀ s) {row stall group : Nat} {fit : CalFit} :
    Answers .any s₀ (execCalibrationFit row stall group fit s) := by
  unfold Machine.execCalibrationFit
  dsimp only
  exact .ite (.next h) (.next (.calFinish (.parts h.calSlices.calSliceTrims.recordSigma.calRows.repairCols)))

theorem Keeps.moveTiles (h : Keeps .any s₀ s) {old new : Nat} : Keeps .any s₀ (s.moveTiles old new) := by
  unfold State.moveTiles; exact .reloadSram (h.foldl fun _ _ h => h.setReg.modGroup.endTile)

theorem Keeps.execSpareStallSubstitute (h : Keeps .any s₀ s) {who : Who} {row stall : Nat} :
    Answers .any s₀ (execSpareStallSubstitute who row stall s) := by
  unfold Machine.execSpareStallSubstitute
  exact .next (h.calCmd (fun _ h => .ite h.calFlag h.modRow.logRepair.stallFault.setStState.moveTiles.bump.queueCal.catchUp))

theorem Keeps.execShutWaitTimeout (h : Keeps .any s₀ s) {row : Nat} : Answers .any s₀ (execShutWaitTimeout row s) := by
  unfold Machine.execShutWaitTimeout
  exact .ite (.next h) (.next (.foldl (h.modRow.foldl fun _ _ h => h.giveUpInst.giveUp) fun _ _ h => .ite h h.faultSeq))

end Sys2Proof.Machine
end

section
/-! PROOF. Machine/Bist, self-test: every operation keeps the queue and a canonical register file. -/

namespace Sys2Proof.Machine

set_option Elab.async false

variable {s₀ s : State}

theorem Keeps.bstFlag (h : Keeps .any s₀ s) {f : RField} {t : TestReq} : Keeps .any s₀ (s.bstFlag f t) := by
  unfold State.bstFlag; exact h.flagAt

theorem Keeps.showQueued (h : Keeps .any s₀ s) : Keeps .any s₀ s.showQueued := by
  unfold State.showQueued; exact h.wr

theorem Keeps.emptyHouse (h : Keeps .any s₀ s) {house : Nat} : Keeps .any s₀ (s.emptyHouse house) := by
  unfold State.emptyHouse; exact h.wr.foldl fun _ _ h => h.modSeq

theorem Keeps.nextTest (h : Keeps .any s₀ s) : Keeps .any s₀ s.nextTest := by
  unfold State.nextTest
  split
  · exact .ite h (.ite h.parts.showQueued.wr (.ite h.parts.showQueued.emptyHouse.wr h.parts.showQueued.wr.testShut))
  · exact h

theorem Keeps.enqueueTest (h : Keeps .any s₀ s) {t : TestReq} : Keeps .any s₀ (s.enqueueTest t) := by
  unfold State.enqueueTest; exact .ite h.parts.showQueued.nextTest h

theorem Keeps.requestTest (h : Keeps .any s₀ s) {t : TestReq} : Keeps .any s₀ (s.requestTest t) := by
  unfold State.requestTest; exact .ite (.bstFlag (.bump (.ite h.parts.wr h.parts))) h.enqueueTest

theorem Keeps.bstCmd (h : Keeps .any s₀ s) {who : Who} {tests : List Nat} {unit index stall : Nat} :
    Keeps .any s₀ (s.bstCmd who tests unit index stall) := by
  unfold State.bstCmd; exact h.adminWrite (fun _ h => h.foldl fun _ _ h => .ite h.requestTest h)

theorem Keeps.execSelfTestLogic (h : Keeps .any s₀ s) {who : Who} {unit index stall : Nat} :
    Answers .any s₀ (execSelfTestLogic who unit index stall s) := by
  unfold Machine.execSelfTestLogic; exact .next h.bstCmd

theorem Keeps.execSelfTestMemory (h : Keeps .any s₀ s) {who : Who} {unit index stall : Nat} :
    Answers .any s₀ (execSelfTestMemory who unit index stall s) := by
  unfold Machine.execSelfTestMemory; exact .next h.bstCmd

theorem Keeps.execSelfTestConverter (h : Keeps .any s₀ s) {who : Who} {unit index stall : Nat} :
    Answers .any s₀ (execSelfTestConverter who unit index stall s) := by
  unfold Machine.execSelfTestConverter; exact .next h.bstCmd

theorem Keeps.execCrateLineTest (h : Keeps .any s₀ s) {who : Who} {unit index stall : Nat} :
    Answers .any s₀ (execCrateLineTest who unit index stall s) := by
  unfold Machine.execCrateLineTest; exact .next h.bstCmd

theorem Keeps.execSelfTestAll (h : Keeps .any s₀ s) {who : Who} {unit index stall : Nat} :
    Answers .any s₀ (execSelfTestAll who unit index stall s) := by
  unfold Machine.execSelfTestAll; exact .next h.bstCmd

theorem Keeps.execSelfTestWithdraw (h : Keeps .any s₀ s) {who : Who} {unit index stall : Nat} :
    Answers .any s₀ (execSelfTestWithdraw who unit index stall s) := by
  unfold Machine.execSelfTestWithdraw; exact .next (h.adminWrite (fun _ h => .ite h.parts.wr h.parts))

theorem Keeps.execSelfTestDeferredStart (h : Keeps .any s₀ s) : Answers .any s₀ (execSelfTestDeferredStart s) := by
  unfold Machine.execSelfTestDeferredStart
  split
  · exact .next (.enqueueTest (.ite h.parts.wr h.parts))
  · exact .next h.nextTest

theorem Keeps.clearStall (h : Keeps .any s₀ s) {sid : Nat} : Keeps .any s₀ (s.clearStall sid) := by
  unfold State.clearStall; exact h.loseSram.reloadSram.modStall

theorem Keeps.returnStall (h : Keeps .any s₀ s) {sid : Nat} : Keeps .any s₀ (s.returnStall sid) := by
  unfold State.returnStall; exact .setStState (.drainRel (.ite h h.catchUp))

theorem Keeps.restoreUnit (h : Keeps .any s₀ s) {t : TestReq} : Keeps .any s₀ (s.restoreUnit t) := by
  unfold State.restoreUnit
  split
  · exact h.clearStall.returnStall
  · exact .foldl (.catchUp (h.modRow.foldl fun _ _ h => h.modStall)) fun _ _ h => h.returnStall
  · exact h.wr.catchUp

theorem Keeps.failUnit (h : Keeps .any s₀ s) {t : TestReq} : Keeps .any s₀ (s.failUnit t) := by
  unfold State.failUnit
  dsimp only
  split
  · exact h.bump.bstFlag.faultLog.drainRel.stallFault
  · exact .rowFault (h.bump.bstFlag.faultLog.foldl fun _ _ h => h.drainRel)
  · exact h.bump.bstFlag.faultLog.houseFault

theorem Keeps.testSlices (h : Keeps .any s₀ s) {sid : Nat} {bad : List (Nat × Nat)} : Keeps .any s₀ (s.testSlices sid bad) := by
  unfold State.testSlices; exact h.foldl fun _ _ h => .ite h (.ite h.spareBad h.sliceBad)

theorem Keeps.testLines (h : Keeps .any s₀ s) {sid : Nat} {o : TestOut} : Keeps .any s₀ (s.testLines sid o) := by
  unfold State.testLines
  extract_lets lose s1
  have h1 : Keeps .any s₀ s1 := by
    unfold s1
    refine h.foldl fun _ _ h => ?_
    split
    · exact .ite h h.assignSpare
    · exact h.calFlag.modGroup
  refine h1.foldl fun _ _ h => ?_
  split
  · exact .ite h h.assignSpare
  · exact h.calFlag.modGroup

theorem Keeps.execSelfTestDone (h : Keeps .any s₀ s) {o : TestOut} : Answers .any s₀ (execSelfTestDone o s) := by
  unfold Machine.execSelfTestDone
  split
  · exact .next h
  · split
    · exact .next h
    · extract_lets +onlyGivenNames sid _ s1 s2 s3
      have h1 : Keeps .any s₀ s1 := h.parts.bump
      have h2 : Keeps .any s₀ s2 := .ite h1.wr h1
      have h3 : Keeps .any s₀ s3 := .ite h2 (.ite h2.testSlices (.ite h2.testLines h2))
      split
      · extract_lets s4 _ s5
        have h4 : Keeps .any s₀ s4 := .ite h3.restoreUnit h3
        have h5 : Keeps .any s₀ s5 := .ite h4.parts h4
        exact .next h5.wr.nextTest
      · exact .next h3.failUnit.wr.nextTest

theorem Keeps.execFuseBurn (h : Keeps .any s₀ s) {who : Who} : Answers .any s₀ (execFuseBurn who s) := by
  unfold Machine.execFuseBurn; exact .next (h.adminWrite (fun _ h => .ite h.parts.bump h.bstFlag))

end Sys2Proof.Machine
end

section
/-! PROOF. Machine/Carts, carts as commands: every operation keeps the queue and a canonical register file. -/

namespace Sys2Proof.Machine

set_option Elab.async false

variable {s₀ s : State}

theorem Keeps.takeCart (h : Keeps .any s₀ s) {p idx : Nat} {r : RxCart} : Keeps .any s₀ (s.takeCart p idx r) := by
  unfold State.takeCart; exact h.squareRuns.modPort.foldl fun _ _ h => h.freeFrame

theorem Keeps.countEarly (h : Keeps .any s₀ s) {c : Cart} : Keeps .any s₀ (s.countEarly c) := by
  unfold State.countEarly; exact .ite h (.ite h.setPend h.modCart.setPend)

theorem Keeps.resultCart (h : Keeps .any s₀ s) {p idx typ : Nat} {use : State → Cart → State}
    (huse : ∀ t c, Keeps .any s₀ t → Keeps .any s₀ (use t c)) :
    Keeps .any s₀ (s.resultCart p idx typ use) := by
  unfold State.resultCart
  split
  · exact h
  · exact .ite (.ite h h.cwFlag) (.ite h.takeCart.cartLost (.ite ((huse _ _ h.takeCart.countEarly).tryClear)
    (huse _ _ h.takeCart.countEarly)))

theorem Keeps.dependOn (h : Keeps .any s₀ s) {q layer : Nat} {c : Cart} : Keeps .any s₀ (s.dependOn q layer c) := by
  unfold State.dependOn
  dsimp only
  split
  · exact h
  · split
    · exact .ite h h.setPace
    · exact .ite h.modSeq h

theorem Keeps.execDispatch (h : Keeps .any s₀ s) {port idx hidden : Nat} {out : List Word32} :
    Answers .any s₀ (execDispatch port idx hidden out s) := by
  unfold Machine.execDispatch; exact .next (h.resultCart (fun _ _ h => .ite h.queueCart (.ite h.queueCart h.queueCart)))

theorem Keeps.execReturnCart (h : Keeps .any s₀ s) {port idx : Nat} {routes : List (Nat × Nat × List Word32)} :
    Answers .any s₀ (execReturnCart port idx routes s) := by
  unfold Machine.execReturnCart
  exact .next (h.resultCart (fun _ _ h => by
    extract_lets s0
    have h0 : Keeps .any s₀ s0 := h.bump
    split
    · exact h0
    · extract_lets s1 s2
      have h1 : Keeps .any s₀ s1 := h0.modCart.dependOn
      have h2 : Keeps .any s₀ s2 := .ite h1.route (.ite h1.maskFor h1)
      exact .ite h2 h2.rechoose))

theorem Keeps.execPart (h : Keeps .any s₀ s) {port idx : Nat} : Answers .any s₀ (execPart port idx s) := by
  unfold Machine.execPart
  exact .next (h.resultCart (fun _ _ h => by
    dsimp only
    split
    · exact h
    · exact .ite h.joinPart.dependOn (.ite h.joinPart.modCart h.joinPart)))

theorem Keeps.execReceipt (h : Keeps .any s₀ s) {port idx : Nat} : Answers .any s₀ (execReceipt port idx s) := by
  unfold Machine.execReceipt
  split
  · exact .next h
  · exact .ite (.next h.takeCart.cartLost) (.ite (.next h.takeCart.setPend.tryClear) (.next h.takeCart.modCart))

theorem Keeps.execRetract (h : Keeps .any s₀ s) {port idx : Nat} : Answers .any s₀ (execRetract port idx s) := by
  unfold Machine.execRetract
  split
  · exact .next h
  · exact .ite (.next h.takeCart.cartLost) (.ite (.next h.takeCart.bump.cper.retractPair) (.next h.takeCart.bump.cper.modCart))

theorem Keeps.execReceiptSend (h : Keeps .any s₀ s) {step dst : Nat} : Answers .any s₀ (execReceiptSend step dst s) := by
  unfold Machine.execReceiptSend
  split
  · exact .next h
  · exact .ite (.next h.endEarly.queueNote) (.next h)

theorem Keeps.execPendingTimeout (h : Keeps .any s₀ s) {src step : Nat} : Answers .any s₀ (execPendingTimeout src step s) := by
  unfold Machine.execPendingTimeout
  split
  · exact .ite (.next h.bump.cwFlag.cper.retractPair) (.next h)
  · exact .next h

theorem Keeps.fenceCart (h : Keeps .any s₀ s) {p idx typ : Nat} : Keeps .any s₀ (s.fenceCart p idx typ) := by
  unfold State.fenceCart
  split
  · exact h
  · exact h.takeCart.foldl fun _ _ h => h.modSlot

theorem Keeps.execFence (h : Keeps .any s₀ s) {port idx : Nat} : Answers .any s₀ (execFence port idx s) := by
  unfold Machine.execFence; exact .next h.fenceCart

theorem Keeps.execUnfence (h : Keeps .any s₀ s) {port idx : Nat} : Answers .any s₀ (execUnfence port idx s) := by
  unfold Machine.execUnfence; exact .next h.fenceCart

theorem Keeps.execHomeTableLoad (h : Keeps .any s₀ s) {who : Who} {slot : Nat} {table : Option (List Byte)} :
    Answers .any s₀ (execHomeTableLoad who slot table s) := by
  unfold Machine.execHomeTableLoad
  exact .next (by
    split
    · exact h.adminWrite (fun _ h => .ite h.send.wr.wr.wr h)
    · split
      · extract_lets layers experts n entries id s1
        have h1 : Keeps .any s₀ s1 := .ite h.send h
        exact .ite h1.wr h1.modCart.wr.wr
      · exact h)

theorem Keeps.execHomeTableClear (h : Keeps .any s₀ s) {who : Who} {slot : Nat} :
    Answers .any s₀ (execHomeTableClear who slot s) := by
  unfold Machine.execHomeTableClear; exact .next (h.adminWrite (fun _ h => .ite h.modCart.wr.wr.wr h))

theorem Keeps.execHomeWaitTimeout (h : Keeps .any s₀ s) {q : Nat} : Answers .any s₀ (execHomeWaitTimeout q s) := by
  unfold Machine.execHomeWaitTimeout
  split
  · exact .ite (.next h.cwFlag.faultSeq) (.next h)
  · exact .next h

end Sys2Proof.Machine
end

section
/-! PROOF. Machine/Checking, pair comparisons, the inspector's jobs and verdicts, deadlines and the return of a check lane: every operation keeps the queue and a canonical register file. -/

namespace Sys2Proof.Machine

set_option Elab.async false

variable {s₀ s : State}

theorem Keeps.pairShut (h : Keeps .any s₀ s) {a : Nat} {x : Strike} {b : Nat} {y : Strike} :
    Keeps .any s₀ (s.pairShut a x b y) := by
  unfold State.pairShut
  dsimp only
  split
  · exact h.dropStrike.discardStrike.cper.handInst
  · exact h.dropStrike.discardStrike.cper.wrongSeq

theorem Keeps.execPairCompare (h : Keeps .any s₀ s) {row stall no row2 stall2 no2 : Nat} :
    Answers .any s₀ (execPairCompare row stall no row2 stall2 no2 s) := by
  unfold Machine.execPairCompare
  split
  · exact .next h
  · dsimp only
    split
    · exact .ite (.ite (.next h.dropStrike.discardStrike) (.ite (.next h.bump.chkFlag.pairShut)
      (.next h.bump.chkFlag.setStrike.setStrike.queueJob))) (.next h)
    · exact .next h

theorem Keeps.setJob (h : Keeps .any s₀ s) {j : Job} : Keeps .any s₀ (s.setJob j) := by
  unfold State.setJob; exact h.parts

theorem Keeps.execInspectorJobStart (h : Keeps .any s₀ s) {ue : Option LedgerUE} :
    Answers .any s₀ (execInspectorJobStart ue s) := by
  unfold Machine.execInspectorJobStart
  split
  · split
    · split
      · exact .next h.squareRuns.ledgerUE
      · exact .next h.squareRuns.setJob.admitJobs
    · exact .next h
  · exact .next h

theorem Keeps.missDeadline (h : Keeps .any s₀ s) {j : Job} : Keeps .any s₀ (s.missDeadline j) := by
  unfold State.missDeadline; exact h.bump.chkFlag.cper.giveUpInst.wrongSeq

theorem Keeps.execDisputeDeadline (h : Keeps .any s₀ s) {job : Nat} : Answers .any s₀ (execDisputeDeadline job s) := by
  unfold Machine.execDisputeDeadline
  split
  · exact .ite (.next h.setJob.missDeadline) (.next h)
  · exact .next h

theorem Keeps.checkerWrong (h : Keeps .any s₀ s) {sid : Nat} : Keeps .any s₀ (s.checkerWrong sid) := by
  unfold State.checkerWrong
  exact .ite h.bump.chkFlag.modStall.laneOut.wr.chkFlag.faultLog.cper h.bump.chkFlag.modStall.laneOut

theorem Keeps.resultWrong (h : Keeps .any s₀ s) {sid g : Nat} : Keeps .any s₀ (s.resultWrong sid g) := by
  unfold State.resultWrong; exact .ite h.bump.chkFlag.withdraw h.bump.chkFlag.queueCal

theorem Keeps.redoFor (h : Keeps .any s₀ s) {sid : Nat} {d : Desc} : Keeps .any s₀ (s.redoFor sid d) := by
  unfold State.redoFor
  split
  · exact h.redoAdapter
  · exact h

theorem Keeps.disputeVerdict (h : Keeps .any s₀ s) {j : Job} {no : Nat} : Keeps .any s₀ (s.disputeVerdict j no) := by
  unfold State.disputeVerdict
  split
  · exact h
  · extract_lets r s1 s2 s2'
    have h1 : Keeps .any s₀ s1 := .ite h.checkerWrong h.resultWrong.markInspected
    have h2 : Keeps .any s₀ s2 := h1.cper.redoFor
    have h2' : Keeps .any s₀ s2' := .ite h2.wrongSeq h2
    exact .ite h2'.discardStrike (.ite h2'.setStrike h2'.setStrike)

theorem Keeps.copyStands (h : Keeps .any s₀ s) {a : Nat} {x : Strike} {b : Nat} {y : Strike} {seq : Nat} :
    Keeps .any s₀ (s.copyStands a x b y seq) := by
  unfold State.copyStands
  split
  · exact .ite h.wrongSeq h.setInst
  · exact h.wrongSeq

theorem Keeps.pairVerdict (h : Keeps .any s₀ s) {j : Job} {no b no2 : Nat} : Keeps .any s₀ (s.pairVerdict j no b no2) := by
  unfold State.pairVerdict
  split
  · exact .ite h.dropStrike.discardStrike.cper (.ite h.dropStrike.discardStrike.resultWrong.cper
    (.ite (.cper (.resultWrong (.discardStrike (.dropStrike (.ite h h.copyStands)))))
      (.ite h.dropStrike.discardStrike.withdraw.withdraw.cper.cper h.dropStrike.discardStrike.withdraw.withdraw.cper.cper.wrongSeq)))
  · exact h

theorem Keeps.strikeVerdict (h : Keeps .any s₀ s) {j : Job} {d : Desc} : Keeps .any s₀ (s.strikeVerdict j d) := by
  unfold State.strikeVerdict
  extract_lets st held s1 s2
  have h1 : Keeps .any s₀ s1 := by
    unfold s1
    clear_value held
    split
    · exact .ite h.discardStrike h.dropStrike
    · exact h
  have h2 : Keeps .any s₀ s2 := .ite h1.markInspected h1
  split
  · exact h2
  · split
    · exact h2.redoAdapter.deliverExact
    · exact h2

theorem Keeps.verdict (h : Keeps .any s₀ s) {j : Job} : Offers s₀ (·) (s.verdict j) := by
  unfold State.verdict
  split
  · exact .some h.disputeVerdict
  · exact .some h.pairVerdict
  · exact .some h.strikeVerdict
  · exact .some h
  · split
    · exact h.reform
    · exact .some h

theorem Keeps.dropHeld (h : Keeps .any s₀ s) {j : Job} : Keeps .any s₀ (s.dropHeld j) := by
  unfold State.dropHeld
  extract_lets +onlyGivenNames sid
  split
  · exact h
  · exact h
  · extract_lets s1
    have h1 : Keeps .any s₀ s1 := by
      unfold s1
      split
      · exact h.dropStrike
      · exact h
    split
    · exact h1.discardStrike
    · exact h1
  · exact .giveUp (h.foldl fun _ _ h => h.discardStrike)

theorem Keeps.execInspectorVerdict (h : Keeps .any s₀ s) {job : Nat} {passed : Bool} :
    Answers .any s₀ (execInspectorVerdict job passed s) := by
  unfold Machine.execInspectorVerdict
  split
  · exact .next h
  · split
    · exact .next h
    · split
      · split
        next s1 e =>
          exact .next ((h.verdict.of e).bump.dropJob.raise)
        · exact .next h
      · exact .ite (.next h.calAbandon.raise) (.ite (.next h.parts)
        (.next (.ite h.dropJob.dropHeld.raise h.dropJob.dropHeld.raise.missDeadline)))

theorem Keeps.execChecksumReloadDone (h : Keeps .any s₀ s) {row stall : Nat} :
    Answers .any s₀ (execChecksumReloadDone row stall s) := by
  unfold Machine.execChecksumReloadDone; exact .ite (.next h.reloadSram.modStall) (.next h)

end Sys2Proof.Machine
end

section
/-! PROOF. Machine/Clerks, the event controller and the clerks: every operation keeps the queue and a canonical register file. -/

namespace Sys2Proof.Machine

set_option Elab.async false

variable {s₀ s : State}

theorem Keeps.showClerk (h : Keeps .any s₀ s) {k st : Nat} : Keeps .any s₀ (s.showClerk k st) := by
  unfold State.showClerk; exact h.wr.wr.wr.wr

theorem Keeps.beginHandler (h : Keeps .any s₀ s) {k n : Nat} : Keeps .any s₀ (s.beginHandler k n) := by
  unfold State.beginHandler; exact h.setClerk.wr.wr.bump.wr.parts.wr.showClerk

theorem Keeps.pushFrame (h : Keeps .any s₀ s) {k n : Nat} : Keeps .any s₀ (s.pushFrame k n) := by
  unfold State.pushFrame; exact h.setClerk.showClerk

theorem Keeps.finishEntry (h : Keeps .any s₀ s) {k : Nat} : Keeps .any s₀ (s.finishEntry k) := by
  unfold State.finishEntry
  dsimp only
  split
  · exact .ite h.bump.beginHandler h.beginHandler
  · exact h.beginHandler

theorem Keeps.tailChain (h : Keeps .any s₀ s) {k n : Nat} : Keeps .any s₀ (s.tailChain k n) := by
  unfold State.tailChain; exact h.bump.beginHandler

theorem Keeps.execHandlerEntry (h : Keeps .any s₀ s) : Answers .any s₀ (execHandlerEntry s) := by
  unfold Machine.execHandlerEntry
  split
  · exact .next h.finishEntry
  · extract_lets +onlyGivenNames s1
    have h1 : Keeps .any s₀ s1 := by
      unfold s1
      split
      · exact h.flagAt
      · exact h
    split
    · exact .next h1
    · exact .ite (.next (.ite h1.parts.showClerk h1.parts)) (.next (.ite h1.tailChain h1.pushFrame))

theorem Keeps.execHandlerExit (h : Keeps .any s₀ s) {k : Nat} : Answers .any s₀ (execHandlerExit k s) := by
  unfold Machine.execHandlerExit
  split
  · exact .next h
  · split
    · dsimp only
      split
      · exact .next h.showClerk.tailChain
      · exact .next h.showClerk
    · split
      · split
        · exact .next h.tailChain
        · dsimp only
          split
          · exact .next h.showClerk
          · exact .next h.setClerk.wr.showClerk
      · exact .next h

theorem Keeps.execClerkWfi (h : Keeps .any s₀ s) {k : Nat} : Answers .any s₀ (execClerkWfi k s) := by
  unfold Machine.execClerkWfi; exact .ite (.next h.setClerk) (.next h)

theorem Keeps.execClerkClockGate (h : Keeps .any s₀ s) {k : Nat} : Answers .any s₀ (execClerkClockGate k s) := by
  unfold Machine.execClerkClockGate
  split
  · exact .ite (.next h.showClerk) (.next h)
  · exact .next h

theorem Keeps.execSquarePllStop (h : Keeps .any s₀ s) : Answers .any s₀ (execSquarePllStop s) := by
  unfold Machine.execSquarePllStop; exact .ite (.next h.parts) (.next h)

theorem Keeps.execSquarePllRestart (h : Keeps .any s₀ s) : Answers .any s₀ (execSquarePllRestart s) := by
  unfold Machine.execSquarePllRestart; exact .next h.squareRuns

theorem Keeps.evcWrite (h : Keeps .any s₀ s) {who : Who} {off : Nat} {f : State → State}
    (hf : ∀ t, Keeps .any s₀ t → Keeps .any s₀ (f t)) :
    Keeps .any s₀ (s.evcWrite who off f) := by
  unfold State.evcWrite; exact .ite (hf _ h.accessed) (.ite h.accessed.accessError h)

theorem Keeps.execSoftwareEventSet (h : Keeps .any s₀ s) {who : Who} {source : Nat} :
    Answers .any s₀ (execSoftwareEventSet who source s) := by
  unfold Machine.execSoftwareEventSet; exact .next (h.evcWrite (fun _ h => .ite h.raise h))

theorem Keeps.execClerkTimerExpiry (h : Keeps .any s₀ s) {k : Nat} : Answers .any s₀ (execClerkTimerExpiry k s) := by
  unfold Machine.execClerkTimerExpiry; exact .ite (.next h.setClerk.raise) (.next h)

theorem Keeps.execEventNorouteTimeout (h : Keeps .any s₀ s) {source : Nat} :
    Answers .any s₀ (execEventNorouteTimeout source s) := by
  unfold Machine.execEventNorouteTimeout; exact .ite (.next h.parts.flagAt) (.next h)

end Sys2Proof.Machine
end

section
/-! PROOF. Machine/FuncOps, function-level reset as one operation: every operation keeps the queue and a canonical register file. -/

namespace Sys2Proof.Machine

set_option Elab.async false

variable {s₀ s : State}

theorem Keeps.abandon (h : Keeps .any s₀ s) {f : Nat} : Keeps .any s₀ (s.abandon f) := by
  unfold State.abandon
  extract_lets s0 s1 s2
  have h0 : Keeps .any s₀ s0 := h.parts
  have h1 : Keeps .any s₀ s1 := h0.foldl fun _ _ h => h.freeSeq
  have h2 : Keeps .any s₀ s2 := .ite h1.setTune.sweepAdapter h1
  exact h2.foldl fun _ _ h => .ite h.endPace h

theorem Keeps.flr (h : Keeps .any s₀ s) {f : Nat} : Keeps .any s₀ (s.flr f) := by
  unfold State.flr; exact h.abandon.resetRegs.wr.setFunc.raise.parts.takeBad

theorem Keeps.flrAll (h : Keeps .any s₀ s) : Keeps .any s₀ s.flrAll := by
  unfold State.flrAll; exact .flr (.parts (h.foldl fun _ _ h => h.flr))

end Sys2Proof.Machine
end

section
/-! PROOF. Machine/Narrow, narrow arithmetic: every operation keeps the queue and a canonical register file. -/

namespace Sys2Proof.Machine

set_option Elab.async false

variable {s₀ s : State}

theorem Keeps.answerStats (h : Keeps .any s₀ s) {row : Nat} {v : VecIn} : Keeps .any s₀ (s.answerStats row v) := by
  unfold State.answerStats
  dsimp only
  split
  · exact h.countAcc.send
  · exact h.countAcc
  · exact h

theorem Keeps.nanVector (h : Keeps .any s₀ s) {row : Nat} {v : VecIn} : Keeps .any s₀ (s.nanVector row v) := by
  unfold State.nanVector
  dsimp only
  refine h.bump.nqFlag.foldl fun _ _ h => ?_
  split
  · exact h.putAttn
  · split
    · exact h
    · split
      · exact h.release
      · exact h

theorem Keeps.takeVector (h : Keeps .any s₀ s) {row buf : Nat} {v : VecIn} : Keeps .any s₀ (s.takeVector row buf v) := by
  unfold State.takeVector
  dsimp only
  split
  · exact h.answerStats.nanVector.adapterPart
  · exact h.answerStats.modRow.adapterPart

theorem Keeps.wokenVectors (h : Keeps .any s₀ s) {row : Nat} : Keeps .any s₀ (s.wokenVectors row) := by
  unfold State.wokenVectors; exact .ite (h.modRow.foldl fun _ _ h => h.takeVector) h

theorem Keeps.execVectorArrival (h : Keeps .any s₀ s) {row buf : Nat} {v : VecIn} :
    Answers .any s₀ (execVectorArrival row buf v s) := by
  unfold Machine.execVectorArrival
  exact .ite (.next h.wokenVectors) (.ite (.next h.wokenVectors.takeVector) (.next h.wokenVectors.modRow))

theorem Keeps.execQuantiseVector (h : Keeps .any s₀ s) {row buf : Nat} : Answers .any s₀ (execQuantiseVector row buf s) := by
  unfold Machine.execQuantiseVector
  extract_lets +onlyGivenNames s'
  have h' : Keeps .any s₀ s' := h.wokenVectors
  split
  · exact .next h'
  · extract_lets +onlyGivenNames v sid st
    split
    · exact .next h'
    · extract_lets +onlyGivenNames fresh stock c desig ct wOf size grps wide probs d q
      split
      · exact .next h'
      · extract_lets n both s1 s2 s3 s4 s5
        have h1 : Keeps .any s₀ s1 := h'.bump.bump.bump.bump.bump
        have h2 : Keeps .any s₀ s2 := h1.bump.bump.bump
        have h3 : Keeps .any s₀ s3 := h2.foldl fun _ _ h => h.wr
        have h4 : Keeps .any s₀ s4 := .ite (h3.foldl fun _ _ h => h.widen) h3
        have h5 : Keeps .any s₀ s5 := h4.modStall
        exact .next h5.modRow

theorem Keeps.tileCmd (h : Keeps .any s₀ s) {who : Who} {row stall group op : Nat} :
    Keeps .any s₀ (s.tileCmd who row stall group op) := by
  unfold State.tileCmd; exact h.talWrite (fun _ h => .ite h.modRow h)

theorem Keeps.execTileForceWide (h : Keeps .any s₀ s) {who : Who} {row stall group : Nat} :
    Answers .any s₀ (execTileForceWide who row stall group s) := by
  unfold Machine.execTileForceWide; exact .next h.tileCmd

theorem Keeps.execTileReleaseForce (h : Keeps .any s₀ s) {who : Who} {row stall group : Nat} :
    Answers .any s₀ (execTileReleaseForce who row stall group s) := by
  unfold Machine.execTileReleaseForce; exact .next h.tileCmd

theorem Keeps.execTileSetHold (h : Keeps .any s₀ s) {who : Who} {row stall group : Nat} :
    Answers .any s₀ (execTileSetHold who row stall group s) := by
  unfold Machine.execTileSetHold; exact .next h.tileCmd

theorem Keeps.actCmd (h : Keeps .any s₀ s) {row : Nat} {c : Nat × Nat × Nat} : Keeps .any s₀ (s.actCmd row c) := by
  unfold State.actCmd
  dsimp only
  split
  · exact h.widen.wr
  · exact h.wr
  · exact .ite h.wr h

theorem Keeps.markTile (h : Keeps .any s₀ s) {gid : Nat} : Keeps .any s₀ (s.markTile gid) := by
  unfold State.markTile; exact .setGroup (.ite h.wr h)

theorem Keeps.execStepMarker (h : Keeps .any s₀ s) {row : Nat} : Answers .any s₀ (execStepMarker row s) := by
  unfold Machine.execStepMarker
  exact .ite (.next h) (.next (.modRow (.foldl (h.bump.foldl fun _ _ h => h.markTile) fun _ _ h => h.actCmd)))

theorem Keeps.execHoldExpiry (h : Keeps .any s₀ s) {row stall group : Nat} :
    Answers .any s₀ (execHoldExpiry row stall group s) := by
  unfold Machine.execHoldExpiry; exact .ite (.ite (.next h.wr) (.next h)) (.next h)

theorem Keeps.storm (h : Keeps .any s₀ s) {sid : Nat} : Keeps .any s₀ (s.storm sid) := by
  unfold State.storm; exact .queueCal (.ite h.bump.nqFlag.raise h.bump.nqFlag)

theorem Keeps.execWideStormEvaluation (h : Keeps .any s₀ s) {row : Nat} : Answers .any s₀ (execWideStormEvaluation row s) := by
  unfold Machine.execWideStormEvaluation
  exact .ite (.next h) (.ite (.next (.modRow (.foldl (h.wr.wr.foldl fun _ _ h => h.storm) fun _ _ h => h.modStall))) (.next h))

end Sys2Proof.Machine
end

section
/-! PROOF. Machine/Serve, the scheduler: every operation keeps the queue and a canonical register file. -/

namespace Sys2Proof.Machine

set_option Elab.async false

variable {s₀ s : State}

theorem Keeps.execSequenceActivate (h : Keeps .any s₀ s) {q : Nat} : Answers .any s₀ (execSequenceActivate q s) := by
  unfold Machine.execSequenceActivate; exact .ite (.next h.setSeq) (.next h)

theorem Keeps.mark (h : Keeps .any s₀ s) : Keeps .any s₀ s.mark := by
  unfold State.mark
  exact .parts (.markHomes (.foldl (h.bump.send.foldl fun _ _ h => h.markSlot) fun _ _ h => h.markAdapter))

theorem Keeps.execStepStart (h : Keeps .any s₀ s) : Answers .any s₀ (execStepStart s) := by
  unfold Machine.execStepStart; exact .ite (.next h) (.ite (.next h) (.next h.mark.parts.bump))

theorem Keeps.execEmptyStep (h : Keeps .any s₀ s) : Answers .any s₀ (execEmptyStep s) := by
  unfold Machine.execEmptyStep; exact .ite (.next h) (.ite (.next h.mark.parts.bump) (.next h))

theorem Keeps.execStepEnd (h : Keeps .any s₀ s) : Answers .any s₀ (execStepEnd s) := by
  unfold Machine.execStepEnd; exact .ite (.next h) (.next (.parts (.ite h.wr.wr.wr.bump (.ite h.wr.wr.wr h.wr.wr))))

theorem Keeps.execStormCeilingLower (h : Keeps .any s₀ s) {row : Nat} : Answers .any s₀ (execStormCeilingLower row s) := by
  unfold Machine.execStormCeilingLower; exact .ite (.next h) (.next (.modRow (.parts (h.foldl fun _ _ h => h.wr.bump.srvFlag))))

theorem Keeps.execStormCeilingRestore (h : Keeps .any s₀ s) {slot : Nat} : Answers .any s₀ (execStormCeilingRestore slot s) := by
  unfold Machine.execStormCeilingRestore; exact .ite (.next h) (.next (.parts (h.foldl fun _ _ h => h.wr)))

theorem Keeps.growTo (h : Keeps .any s₀ s) {q a n : Nat} : Offers s₀ (·) (s.growTo q a n) := by
  induction n with
  | zero => exact .some h
  | succ n ih =>
    unfold State.growTo
    split
    · exact .none
    next s1 e =>
      have h1 : Keeps .any s₀ s1 := ih.of e
      dsimp only
      split
      · split
        · exact .none
        · split
          · exact .none
          next e2 => exact .some (h1.newLayers.of e2).setSeq
      · exact .some h1

theorem Keeps.copyOnWrite (h : Keeps .any s₀ s) {q p : Nat} : Offers s₀ (·) (s.copyOnWrite q p) := by
  unfold State.copyOnWrite
  refine .ite (.some h) (Offers.foldl (.some h) fun a l ha => ?_)
  dsimp only
  split
  · exact .none
  · have h1 := ha.of rfl
    split
    · exact ha
    · split
      · exact .none
      next e => exact .some (h1.copyPage.of e).modSeq.refDown

theorem Keeps.bindRound (h : Keeps .any s₀ s) {q : Nat} : Offers s₀ (·) (s.bindRound q) := by
  unfold State.bindRound
  split
  · exact .some h
  · dsimp only
    split
    · exact .some h.modSeq
    · exact .map fun _ _ => h.setTune.modSeq

theorem Keeps.saveChunk (h : Keeps .any s₀ s) {q : Nat} {logits : List Word32} {saved : List SaveIn} :
    Keeps .any s₀ (s.saveChunk q logits saved) := by
  unfold State.saveChunk
  dsimp only
  split
  · exact h
  · exact h.modSeq

theorem Keeps.execPositionStart (h : Keeps .any s₀ s) {q : Nat} {toks : List Nat} {vocab save : Nat}
    {routes : List (Nat × Nat × List Word32)} : Answers .any s₀ (execPositionStart q toks vocab save routes s) := by
  unfold Machine.execPositionStart
  extract_lets +onlyGivenNames x pre
  refine .ite (.next h.rechoose) (.ite (.next h) (.ite (.next h.wakeUnit) ?_))
  extract_lets +onlyGivenNames chunk again l width s0
  have h0 : Keeps .any s₀ s0 := .ite h.send h
  clear_value s0
  refine .ite (.next h0.faultSeq) ?_
  split
  · exact .next h0.pageUE
  · extract_lets +onlyGivenNames s1
    have h1 : Keeps .any s₀ s1 := h0.modSeq
    clear_value s1
    split
    · exact .next h
    next hb =>
      have h2 := h1.bindRound.of hb
      split
      next hg => exact .next ((h2.copyOnWrite.bind fun _ h => h.growTo).of hg).modSeq.rechoose
      · exact .next h0.modSeq.pressure

theorem Keeps.endPosition (h : Keeps .any s₀ s) {q : Nat} {toks : List (Nat × Bool × List Word32)} {kv : List KvTok} :
    Keeps .any s₀ (s.endPosition q toks kv) := by
  unfold State.endPosition; exact h.setSeq

theorem Keeps.tickHouse (h : Keeps .any s₀ s) {house n : Nat} : Keeps .any s₀ (s.tickHouse house n) := by
  unfold State.tickHouse; exact .ite h h.parts

theorem Keeps.whFlag (h : Keeps .any s₀ s) {f : RField} {wh q : Nat} : Keeps .any s₀ (s.whFlag f wh q) := by
  unfold State.whFlag; exact h.flagAt

theorem Keeps.houseFlag (h : Keeps .any s₀ s) {q house flag : Nat} : Keeps .any s₀ (s.houseFlag q house flag) := by
  unfold State.houseFlag; exact .ite h.whFlag.cper.houseFault h.whFlag.cper.parts

theorem Keeps.railFlags (h : Keeps .any s₀ s) {q n : Nat} : Keeps .any s₀ (s.railFlags q n) := by
  unfold State.railFlags; exact h.foldl fun _ _ h => h.houseFlag

theorem Keeps.execPositionEnd (h : Keeps .any s₀ s) {q : Nat} {logits : List Word32} {kv : List (Nat × Nat × List Word32 × List Word32)}
  {e : EndIn} :
    Answers .any s₀ (execPositionEnd q logits kv e s) := by
  unfold Machine.execPositionEnd
  extract_lets +onlyGivenNames x
  split
  · exact .next h
  · extract_lets +onlyGivenNames s0 s1 last
    have h0 : Keeps .any s₀ s0 := h.tickHouse.railFlags
    have h1 : Keeps .any s₀ s1 := .ite h0.bump h0
    exact .ite (.next h1.srvFlag.faultSeq) (.ite (.next h1.saveChunk.endPosition.sweepGen)
      (.ite (.next h1.srvFlag.faultSeq) (.next h1.endPosition.sweepGen)))

theorem Keeps.dropDrafts (h : Keeps .any s₀ s) {q : Nat} : Keeps .any s₀ (s.dropDrafts q) := by
  unfold State.dropDrafts; exact h.modSeq

theorem Keeps.badInPass (h : Keeps .any s₀ s) {q : Nat} {out : List (Nat × Bool × List Word32)} :
    Keeps .any s₀ (s.badInPass q out) := by
  unfold State.badInPass; exact .ite h.srvFlag.faultSeq h.srvFlag.endPosition.modSeq.sweepGen

theorem Keeps.execVerifyPass (h : Keeps .any s₀ s) {q : Nat} {crier : List (List Word32)} {main : PassIn} :
    Answers .any s₀ (execVerifyPass q crier main s) := by
  unfold Machine.execVerifyPass
  extract_lets +onlyGivenNames x l ready
  split
  · exact .next h
  · extract_lets +onlyGivenNames out good bad s0
    have h0 : Keeps .any s₀ s0 := h.tickHouse.railFlags
    split
    · exact .next (.ite h0.dropDrafts.badInPass h0.dropDrafts.endPosition.sweepGen)
    · extract_lets +onlyGivenNames j s0'
      have h0' : Keeps .any s₀ s0' := h0.bump.bump
      split
      · exact .next h0'.badInPass
      · extract_lets d s2 s3 s4
        have h2 : Keeps .any s₀ s2 := .ite h0'.bump h0'
        have h3 : Keeps .any s₀ s3 := .ite h2.bump h2
        have h4 : Keeps .any s₀ s4 := h3.modSeq
        exact .next h4.endPosition.sweepGen

theorem Keeps.execSpecPauseEnd (h : Keeps .any s₀ s) {q : Nat} : Answers .any s₀ (execSpecPauseEnd q s) := by
  unfold Machine.execSpecPauseEnd; exact .ite (.next h.setSeq) (.next h)

theorem Keeps.writePos (h : Keeps .any s₀ s) {q layer p : Nat} : Keeps .any s₀ (s.writePos q layer p) := by
  unfold State.writePos; exact .ite h h.setPage.bump

theorem Keeps.execPositionCommit (h : Keeps .any s₀ s) {q : Nat} {iso : List Nat} :
    Answers .any s₀ (execPositionCommit q iso s) := by
  unfold Machine.execPositionCommit
  extract_lets +onlyGivenNames x
  split
  · exact .next h
  · split
    · exact .next h.isolate.faultSeq
    · extract_lets layers s1 key recs s2 s3
      have h1 : Keeps .any s₀ s1 := h.foldl fun _ _ h => h.writePos
      have h2 : Keeps .any s₀ s2 := h1.setSeq
      have h3 : Keeps .any s₀ s3 := h2.foldl fun _ _ h => h.rollPut
      exact .ite (.next h3.freeSeq) (.next h3.boundary)

theorem Keeps.execMsiModerationTimeout (h : Keeps .any s₀ s) {f ticket : Nat} :
    Answers .any s₀ (execMsiModerationTimeout f ticket s) := by
  unfold Machine.execMsiModerationTimeout; exact .ite (.next h.rollMsg) (.next h)

theorem Keeps.rollRead (h : Keeps .any s₀ s) {key ridx : Nat} : Keeps .any s₀ (s.rollRead key ridx) := by
  unfold State.rollRead
  exact .ite h.setRoll.rollFlush.setRoll (.send (.setRoll (.ite h.setRoll.rollFlush h.setRoll.rollFlush.bump)))

theorem Keeps.execRollRidxPoll (h : Keeps .any s₀ s) {f ticket ridx : Nat} :
    Answers .any s₀ (execRollRidxPoll f ticket ridx s) := by
  unfold Machine.execRollRidxPoll; exact .ite (.next h.rollRead) (.next h)

theorem Keeps.execFuncCeilWrite (h : Keeps .any s₀ s) {who : Who} {val : Nat} :
    Answers .any s₀ (execFuncCeilWrite who val s) := by
  unfold Machine.execFuncCeilWrite
  exact .next (h.adminWrite (fun _ h => by
    extract_lets f base most s1
    have h1 : Keeps .any s₀ s1 := .ite h.wr.wr h
    exact .ite h1.wr h1))

end Sys2Proof.Machine
end

section
/-! PROOF. Machine/Kv, attention and the key-value cache as commands: every operation keeps the queue and a canonical register file. -/

namespace Sys2Proof.Machine

set_option Elab.async false

variable {s₀ s : State}

theorem Keeps.countReads (h : Keeps .any s₀ s) {x : Seq} {pos hq : Nat} {held pages : List Page} {u : PageUse} {narrow : Nat → Bool} :
    Keeps .any s₀ (s.countReads x pos hq held pages u narrow) := by
  unfold State.countReads; exact h.bump.bump.bump.bump.bump

theorem Keeps.attnStop (h : Keeps .any s₀ s) {q : Nat} {ids : List Nat} {u : PageUse} {narrow : Nat → Bool} {ue : Option Nat} :
    Offers s₀ (·) (s.attnStop q ids u narrow ue) := by
  unfold State.attnStop
  dsimp only
  split
  · exact .some h.pageUE
  · exact .ite (.some h.kvFlag) (.ite (.some h.whFlag.faultSeq) (.ite (.some h.kvFlag.faultSeq) (.none)))

theorem Keeps.pinReads (h : Keeps .any s₀ s) {ids : List Nat} {u : PageUse} : Keeps .any s₀ (s.pinReads ids u) := by
  unfold State.pinReads; exact .foldl (h.foldl fun _ _ h => h.pinUp) fun _ _ h => h.pinDown

theorem Keeps.attend (h : Keeps .any s₀ s) {q layer pos : Nat} {query key value : List Word32} {err : MemErr} :
    Keeps .any s₀ (s.attend q layer pos query key value err) := by
  unfold State.attend
  extract_lets +onlyGivenNames x qfmt hk hq ids held own pages u narrow s'
  have h' : Keeps .any s₀ s' := h.pageErrs
  split
  next t e =>
    exact (h'.attnStop.of e)
  · extract_lets wh row states bad out saved _ s1 s2 s3 s4
    have h1 : Keeps .any s₀ s1 := h'.setSeq.pinReads
    have h2 : Keeps .any s₀ s2 := h1.countReads
    have h3 : Keeps .any s₀ s3 := .ite h2.bump h2
    have h4 : Keeps .any s₀ s4 := .ite h3.whFlag h3
    exact h4.send

theorem Keeps.attendBack (h : Keeps .any s₀ s) {q layer pos : Nat} {query dO : List Word32} {err : MemErr} :
    Keeps .any s₀ (s.attendBack q layer pos query dO err) := by
  unfold State.attendBack
  dsimp only
  split
  next t e =>
    exact (h.pageErrs.attnStop.of e)
  · exact h.pageErrs.pinReads.bump.bump.send

theorem Keeps.execDecodeAttention (h : Keeps .any s₀ s) {q layer pos : Nat} {query key value : List Word32} {a : AttnIn} :
    Answers .any s₀ (execDecodeAttention q layer pos query key value a s) := by
  unfold Machine.execDecodeAttention
  extract_lets x s' x'
  have h' : Keeps .any s₀ s' := .ite (h.foldl fun _ _ h => h.houseFlag) h
  split
  · exact .next h'
  · split
    · exact .next h'.wakeUnit
    · split
      · exact .ite (.next h') (.ite (.next h'.isolate.faultSeq) (.next h'.attendBack))
      · exact .ite (.next h') (.ite (.next h'.isolate.faultSeq) (.next h'.attend))

theorem Keeps.execFreshBlockMerge (h : Keeps .any s₀ s) {q layer pos head kv block row : Nat} {k : Nat × Nat} {v : (Nat × Nat) × Nat × Nat}
  :
    Answers .any s₀ (execFreshBlockMerge q layer pos head kv block row k v s) := by
  unfold Machine.execFreshBlockMerge
  dsimp only
  split
  · exact .next h
  · split
    · split
      · exact .next h.pageUE
      · exact .ite (.next h.wakeUnit) (.ite (.next h.kvFlag) (.next
        (.ite h.modRow.pinReads.setSeq.bump.whFlag h.modRow.pinReads.setSeq.bump)))
    · exact .next h

theorem Keeps.setList (h : Keeps .any s₀ s) {q layer : Nat} {l : List Nat} : Keeps .any s₀ (s.setList q layer l) := by
  unfold State.setList; exact h.modSeq

theorem Keeps.execPageManagerChange (h : Keeps .any s₀ s) {page : Nat} {change : PageChange} :
    Answers .any s₀ (execPageManagerChange page change s) := by
  unfold Machine.execPageManagerChange
  dsimp only
  split
  · exact .next h
  · split
    · split
      · exact .next h
      · split
        next id s1 e =>
          exact .next ((h.sharePage.of e).setList)
        · exact .next h.kvFlag
    · split
      · exact .next h
      · exact .ite (.next h.setList.refDown) (.next h)
    · exact .next (.pinUp (.ite h h.kvFlag))
    · exact .next h.pinDown

theorem Keeps.execParkSequence (h : Keeps .any s₀ s) {q : Nat} : Answers .any s₀ (execParkSequence q s) := by
  unfold Machine.execParkSequence; exact .ite (.next h.park) (.next h)

theorem Keeps.restorePages (h : Keeps .any s₀ s) {q : Nat} {img : List (List Page)} :
    Offers s₀ Prod.snd (s.restorePages q img) := by
  unfold State.restorePages
  refine Offers.foldl (.some h) fun a l ha => ?_
  split
  · exact .none
  next ls s1 =>
    have h1 : Keeps .any s₀ s1 := ha.of rfl
    split
    · exact .none
    next ids s2 e =>
      refine .some ((Offers.foldl (.some h1) fun a p ha => ?_ : Offers s₀ Prod.snd _) (ids, s2) e)
      split
      · exact .none
      · split
        · exact .none
        next e => exact .some ((ha.of rfl).newPage.of e).setPage

theorem Keeps.execResumeSequence (h : Keeps .any s₀ s) {q : Nat} {readOk digestOk : Bool} :
    Answers .any s₀ (execResumeSequence q readOk digestOk s) := by
  unfold Machine.execResumeSequence
  dsimp only
  split
  · exact .next h
  · split
    · exact .next h
    · split
      · exact .ite (.next h.dmaFail.setSeq) (.next h.dmaFail.endSeq)
      · split
        · exact .next h.tenFault.endSeq.assayDone
        · split
          · exact .next h
          next ls s1 e =>
            exact .next ((h.restorePages.of e).wr.modSeq.bump.send.assayDone)

theorem Keeps.execKvSlotCfgWrite (h : Keeps .any s₀ s) {who : Who} {val : Nat} :
    Answers .any s₀ (execKvSlotCfgWrite who val s) := by
  unfold Machine.execKvSlotCfgWrite; exact .next (h.adminWrite (fun _ h => .ite h (.ite h h.setReg)))

end Sys2Proof.Machine
end

section
/-! PROOF. Machine/Porter, the porter: every operation keeps the queue and a canonical register file. -/

namespace Sys2Proof.Machine

set_option Elab.async false

variable {s₀ s : State}

theorem Keeps.refuseLoad (h : Keeps .any s₀ s) {slot : Nat} {f : RField} : Keeps .any s₀ (s.refuseLoad slot f) := by
  unfold State.refuseLoad; exact h.prtFlag.wr.wr

theorem Keeps.loadTile (h : Keeps .any s₀ s) {gen : Gen} {p : Pitch} : Keeps .any s₀ (s.loadTile gen p) := by
  unfold State.loadTile; exact .modStall (.ite h.wr.wr.endTile.wr.modGroup.widen.wr h.wr.wr.endTile.wr.modGroup)

theorem Keeps.loadUnits (h : Keeps .any s₀ s) {slot : Nat} {g : Gen} : Keeps .any s₀ (s.loadUnits slot g) := by
  unfold State.loadUnits; exact h.foldl fun _ _ h => .ite h h.loadTile

theorem Keeps.queueUncal (h : Keeps .any s₀ s) {g : Gen} : Keeps .any s₀ (s.queueUncal g) := by
  unfold State.queueUncal; exact h.foldl fun _ _ h => .ite h.queueCal h

theorem Keeps.loadDone (h : Keeps .any s₀ s) {slot : Nat} : Keeps .any s₀ (s.loadDone slot) := by
  unfold State.loadDone
  split
  · exact .ite (.ite h.loadUnits.wr.raise.setSlState h.loadUnits.wr.raise) h
  · exact h

theorem Keeps.startLoad (h : Keeps .any s₀ s) {slot : Nat} {m : Manifest} : Keeps .any s₀ (s.startLoad slot m) := by
  unfold State.startLoad
  exact .ite h.wr.wr.refuseLoad (.loadDone (.foldl (.wr (.wr (.wr (.ite h.modSlot.setSlState h.modSlot)))) fun _ _ h => h.askShard))

theorem Keeps.execModelLoad (h : Keeps .any s₀ s) {who : Who} {slot : Nat} {hdr sects body : List Byte} :
    Answers .any s₀ (execModelLoad who slot hdr sects body s) := by
  unfold Machine.execModelLoad
  exact .next (h.adminWrite (fun _ h => .ite h (.ite h.prtFlag (.ite h.send.refuseLoad (.assayDone (by
    split
    · exact h.send.refuseLoad
    · split
      · exact h.send.refuseLoad
      · split
        · exact h.send.startLoad
        · split
          · exact .ite (.ite h.send.refuseLoad (.ite h.send.refuseLoad h.send.startLoad)) h.send.refuseLoad
          · exact h.send.refuseLoad))))))

theorem Keeps.execShardArrival (h : Keeps .any s₀ s) {slot gen shard : Nat} {addr : Option Nat} {data : List Byte} {readable ats : Bool} :
    Answers .any s₀ (execShardArrival slot gen shard addr data readable ats s) := by
  unfold Machine.execShardArrival
  split
  · exact .next h
  · split
    · exact .next h
    · split
      · exact .next h
      · extract_lets read s1
        have h1 : Keeps .any s₀ s1 := h.squareRuns.elim fun _ => h.squareRuns.send
        split
        · exact .next h1.modShard.showLeft.touchGrans.unfence.queueUncal.loadDone.assayDone
        · exact .next (.loadDone (.shardFailed (.ite h1.assayDone h1.dmaFail)))

theorem Keeps.execSlotReady (h : Keeps .any s₀ s) {slot : Nat} : Answers .any s₀ (execSlotReady slot s) := by
  unfold Machine.execSlotReady
  split
  · exact .next h
  · exact .ite (.ite (.next h.modSlot.setSlState) (.ite (.next h.modSlot) (.next h))) (.next h)

theorem Keeps.execModelUnload (h : Keeps .any s₀ s) {who : Who} {slot : Nat} : Answers .any s₀ (execModelUnload who slot s) := by
  unfold Machine.execModelUnload
  exact .next (h.adminWrite (fun _ h => by
    split
    · exact h
    · extract_lets s1 s2 s3 s4 s5
      have h1 : Keeps .any s₀ s1 := h.setSlState.modSlot.foldl fun _ _ h => h.endTiles
      have h2 : Keeps .any s₀ s2 := .ite h1.wr h1
      have h3 : Keeps .any s₀ s3 := h2.foldl fun _ _ h => h.cancelSeq
      have h4 : Keeps .any s₀ s4 := h3.foldl fun _ _ h => h.setTune.tuneBoundary
      have h5 : Keeps .any s₀ s5 := h4.foldl fun _ _ h => .ite h.cancelPace h
      exact h5.foldl fun _ _ h => h.unloadAdapter.sweepAdapter))

theorem Keeps.execSlotRetired (h : Keeps .any s₀ s) {slot : Nat} : Answers .any s₀ (execSlotRetired slot s) := by
  unfold Machine.execSlotRetired; exact .ite (.next (h.setSlot.setSlState.foldl fun _ _ h => h.endTiles)) (.next h)

theorem Keeps.execShardRefetch (h : Keeps .any s₀ s) {who : Who} {slot shard : Nat} :
    Answers .any s₀ (execShardRefetch who slot shard s) := by
  unfold Machine.execShardRefetch
  exact .next (h.adminWrite (fun _ h => h.foldl fun _ _ h => h.modSlot.modShard.showLeft.bump.askShard))

theorem Keeps.execReleaseHeld (h : Keeps .any s₀ s) {who : Who} {slot : Nat} : Answers .any s₀ (execReleaseHeld who slot s) := by
  unfold Machine.execReleaseHeld
  exact .next (h.adminWrite (fun _ h => by
    split
    · exact h
    · split
      · exact h.prtFlag
      · split
        · exact h.setSlState
        · exact h.setSlState
        · exact h.setSlState))

theorem Keeps.execShardScrubDue (h : Keeps .any s₀ s) {slot gen shard : Nat} {read : List Byte} {err : MemErr} :
    Answers .any s₀ (execShardScrubDue slot gen shard read err s) := by
  unfold Machine.execShardScrubDue
  split
  · exact .next h
  · dsimp only
    split
    · exact .next h
    · split
      · split
        · exact .next h.squareRuns.shardRead.ledgerUE
        · exact .ite (.next h.squareRuns.shardRead.bump.modShard.assayDone) (.next h.squareRuns.shardRead.bump.shardFailed.assayDone)
      · exact .next h

theorem Keeps.execPlaneLoadRequest (h : Keeps .any s₀ s) {row stall : Nat} {owner : PlaneOwner} {idx which : Nat} :
    Answers .any s₀ (execPlaneLoadRequest row stall owner idx which s) := by
  unfold Machine.execPlaneLoadRequest; exact .ite (.next h.modStall) (.next h)

theorem Keeps.startPlane (h : Keeps .any s₀ s) {sid p tag : Nat} {e : Option PlaneSrc} {r : PlaneRam} :
    Keeps .any s₀ (s.startPlane sid p tag e r) := by
  unfold State.startPlane; exact h.setPlane.modStall

theorem Keeps.loadEntry (h : Keeps .any s₀ s) {sid p tag slot gen idx : Nat} {err : MemErr} {next : State → State}
    (hnext : ∀ t, Keeps .any s₀ t → Keeps .any s₀ (next t)) :
    Keeps .any s₀ (s.loadEntry sid p tag slot gen idx err next) := by
  unfold State.loadEntry
  split
  · exact (hnext _ h)
  · split
    · exact h
    · dsimp only
      split
      · exact h.shardRead.ledgerUE
      · split
        · exact (hnext _ h.shardRead).startPlane
        · exact h.shardRead.shardFailed

theorem Keeps.loadBlock (h : Keeps .any s₀ s) {sid p tag q layer block which : Nat} {err : MemErr} {next : State → State}
    (hnext : ∀ t, Keeps .any s₀ t → Keeps .any s₀ (next t)) :
    Keeps .any s₀ (s.loadBlock sid p tag q layer block which err next) := by
  unfold State.loadBlock
  split
  · exact (hnext _ h)
  · dsimp only
    split
    · exact (hnext _ h.pageErrs).pageUE
    · exact (hnext _ h.pageErrs).startPlane

theorem Keeps.loadSource (h : Keeps .any s₀ s) {sid p tag : Nat} {k : PlaneSrc} {err : MemErr} {next : State → State}
    (hnext : ∀ t, Keeps .any s₀ t → Keeps .any s₀ (next t)) :
    Keeps .any s₀ (s.loadSource sid p tag k err next) := by
  unfold State.loadSource
  split
  · exact h.loadEntry (fun _ h => (hnext _ h))
  · exact h.loadBlock (fun _ h => (hnext _ h))

theorem Keeps.loadPlane (h : Keeps .any s₀ s) {sid p : Nat} {err : MemErr} : Keeps .any s₀ (s.loadPlane sid p err) := by
  unfold State.loadPlane
  dsimp only
  split
  · split
    · exact h.modStall.startPlane
    · exact h.loadSource (fun _ h => h.modStall)
  · exact .ite h.modStall (h.loadSource (fun _ h => h.modStall))
  · exact h

theorem Keeps.execPlaneLoadStart (h : Keeps .any s₀ s) {row stall : Nat} {err : MemErr} :
    Answers .any s₀ (execPlaneLoadStart row stall err s) := by
  unfold Machine.execPlaneLoadStart
  split
  · exact .next h
  · dsimp only
    split
    · exact .next h
    · split
      · exact .next h.loadPlane
      · exact .next (.ite h.flag h)

theorem Keeps.execPlaneLoadDone (h : Keeps .any s₀ s) {row stall plane : Nat} :
    Answers .any s₀ (execPlaneLoadDone row stall plane s) := by
  unfold Machine.execPlaneLoadDone; exact .ite (.next h.setPlane.bump) (.next h)

end Sys2Proof.Machine
end

section
/-! PROOF. Machine/Host, host attachment and tenants as commands: every operation keeps the queue and a canonical register file. -/

namespace Sys2Proof.Machine

set_option Elab.async false

variable {s₀ s : State}

theorem Keeps.execLinkTrainingDone (h : Keeps .any s₀ s) {gens widths : List Nat} :
    Answers .any s₀ (execLinkTrainingDone gens widths s) := by
  unfold Machine.execLinkTrainingDone; exact .ite (.next h) (.next (.raise (.ite h.wr.wr.bump h.wr.wr.parts)))

theorem Keeps.execLinkReset (h : Keeps .any s₀ s) {dlDown : Bool} : Answers .any s₀ (execLinkReset dlDown s) := by
  unfold Machine.execLinkReset; exact .ite (.next h) (.ite (.next h.flrAll.wr.wr.raise) (.next h.flrAll))

theorem Keeps.execNumvfsWrite (h : Keeps .any s₀ s) {vfEnable ari : Bool} {num : Nat} :
    Answers .any s₀ (execNumvfsWrite vfEnable ari num s) := by
  unfold Machine.execNumvfsWrite; exact .ite (.next h) (.next (.parts (h.foldl fun _ _ h => h.flr)))

theorem Keeps.execFunctionLevelReset (h : Keeps .any s₀ s) {f : Nat} : Answers .any s₀ (execFunctionLevelReset f s) := by
  unfold Machine.execFunctionLevelReset; exact .ite (.next h.flr) (.next h)

theorem Keeps.execPfFunctionLevelReset (h : Keeps .any s₀ s) : Answers .any s₀ (execPfFunctionLevelReset s) := by
  unfold Machine.execPfFunctionLevelReset; exact .ite (.next h.flrAll) (.next h)

theorem Keeps.execFlrComplete (h : Keeps .any s₀ s) {f : Nat} : Answers .any s₀ (execFlrComplete f s) := by
  unfold Machine.execFlrComplete
  split
  · exact .ite (.next h.modFunc) (.next h)
  · exact .next h

theorem Keeps.sendPending (h : Keeps .any s₀ s) {f : Nat} : Keeps .any s₀ (s.sendPending f) := by
  unfold State.sendPending; exact .ite (h.setFunc.foldl fun _ _ h => h.send) h

theorem Keeps.execPowerStateWrite (h : Keeps .any s₀ s) {f : Nat} {d3 : Bool} : Answers .any s₀ (execPowerStateWrite f d3 s) := by
  unfold Machine.execPowerStateWrite; exact .ite (.next h.wr.sendPending) (.next h)

theorem Keeps.execMsixUnmask (h : Keeps .any s₀ s) {f vector : Nat} : Answers .any s₀ (execMsixUnmask f vector s) := by
  unfold Machine.execMsixUnmask; exact .ite (.next h.squareRuns.dropHalves.modFunc.sendPending) (.next h)

theorem Keeps.execInvalidationRequest (h : Keeps .any s₀ s) {f page tag : Nat} {late : Bool} :
    Answers .any s₀ (execInvalidationRequest f page tag late s) := by
  unfold Machine.execInvalidationRequest; exact .ite (.next h) (.next (.ite h.modFunc.send.flagAt h.modFunc.send))

theorem Keeps.readFailed (h : Keeps .any s₀ s) {k : ReadKind} : Keeps .any s₀ (s.readFailed k) := by
  unfold State.readFailed
  split
  · exact .ite h (.ite h.setSeq.send h.faultSeq)
  · dsimp only
    split
    · exact h
    · exact .ite h.setPace.send h.setPace.wr.wr.paceDone
  · exact .ite h (.send (.setRoll (.ite h h.bump)))
  · exact .ite h (.ite h.setSeq h.endSeq)
  · exact h.refuseLoad
  · split
    · exact .ite h h.shardFailed.loadDone
    · exact h
  · exact .ite h.bump h
  · exact h.wr
  · exact h.adpFlag

theorem Keeps.execHostReadFailure (h : Keeps .any s₀ s) {kind : ReadKind} {ats : Bool} :
    Answers .any s₀ (execHostReadFailure kind ats s) := by
  unfold Machine.execHostReadFailure; exact .ite (.next h.dmaFail.readFailed) (.next h)

theorem Keeps.execQuotaWrite (h : Keeps .any s₀ s) {who : Who} {val : Nat} : Answers .any s₀ (execQuotaWrite who val s) := by
  unfold Machine.execQuotaWrite; exact .next (h.adminWrite (fun _ h => h.wr.fnEvent))

theorem Keeps.execStoreRegister (h : Keeps .any s₀ s) {f : Nat} : Answers .any s₀ (execStoreRegister f s) := by
  unfold Machine.execStoreRegister; exact .ite (.next (.fnEvent (.wr (.ite h.accessed.modFunc h.accessed)))) (.next h)

theorem Keeps.execStoreWithdraw (h : Keeps .any s₀ s) {f : Nat} : Answers .any s₀ (execStoreWithdraw f s) := by
  unfold Machine.execStoreWithdraw; exact .ite (.next (.fnEvent (.wr (.ite h.accessed.modFunc h.accessed)))) (.next h)

theorem Keeps.doeGo (h : Keeps .any s₀ s) {f : Nat} {act : State → State}
    (hact : ∀ t, Keeps .any s₀ t → Keeps .any s₀ (act t)) :
    Keeps .any s₀ (s.doeGo f act) := by
  unfold State.doeGo; exact .ite (hact _ h.raise) h

theorem Keeps.execDoeDiscovery (h : Keeps .any s₀ s) {f index : Nat} : Answers .any s₀ (execDoeDiscovery f index s) := by
  unfold Machine.execDoeDiscovery; exact .next (h.doeGo (fun _ h => h.send))

theorem Keeps.execDoeAbort (h : Keeps .any s₀ s) {f : Nat} : Answers .any s₀ (execDoeAbort f s) := by
  unfold Machine.execDoeAbort; exact .ite (.next h.modFunc) (.next h)

theorem Keeps.execDoeObjectError (h : Keeps .any s₀ s) {f vendor typ len : Nat} :
    Answers .any s₀ (execDoeObjectError f vendor typ len s) := by
  unfold Machine.execDoeObjectError; exact .next (h.doeGo (fun _ h => .ite h.modFunc h))

theorem Keeps.execMctpControlMessage (h : Keeps .any s₀ s) {command : Nat} :
    Answers .any s₀ (execMctpControlMessage command s) := by
  unfold Machine.execMctpControlMessage; exact .ite (.next h.takeFree.send) (.next h)

end Sys2Proof.Machine
end

section
/-! PROOF. Machine/Memory, the memory tiers as commands: every operation keeps the queue and a canonical register file. -/

namespace Sys2Proof.Machine

set_option Elab.async false

variable {s₀ s : State}

theorem Keeps.contentUE (h : Keeps .any s₀ s) {gran : Nat} {c : Content} : Keeps .any s₀ (s.contentUE gran c) := by
  unfold State.contentUE
  split
  · exact h.ledgerUE
  · exact h.markPage
  · exact h.memUE.faultSeq
  · exact h.memUE.endTune
  · dsimp only
    split
    · exact h.memUE.endCurrency.foldl fun _ _ h => h.cancelSeq
    · exact h.memUE
  · exact h.memUE.deviceFault
  · exact h.memUE
  · exact h.memUE

theorem Keeps.copyGran (h : Keeps .any s₀ s) {gran : Nat} : Keeps .any s₀ (s.copyGran gran) := by
  unfold State.copyGran
  dsimp only
  split
  · split
    · split
      · exact h.moveGran
      · exact h
    · exact h
  · split
    · split
      · exact h.moveGran
      · exact h
    · split
      · exact h.moveGran
      · exact h
  · split
    · exact h.moveGran
    · exact h
  · exact h

theorem Keeps.execGranuleRetire (h : Keeps .any s₀ s) {gran : Nat} : Answers .any s₀ (execGranuleRetire gran s) := by
  unfold Machine.execGranuleRetire
  exact .ite (.ite (.next h.copyGran.parts) (.ite (.next h.copyGran.parts.bump.bump) (.next h.copyGran.parts.bump.memFlag))) (.next h)

theorem Keeps.execPatrolScrub (h : Keeps .any s₀ s) {u : Nat} {corrected ue : Bool} {c : Content} :
    Answers .any s₀ (execPatrolScrub u corrected ue c s) := by
  unfold Machine.execPatrolScrub
  exact .ite (.ite (.next h.touchGrans.parts.contentUE) (.ite (.next h.touchGrans.parts.memCE.bump) (.next h.touchGrans.parts))) (.next h)

theorem Keeps.execScrubPeriodEnd (h : Keeps .any s₀ s) {unit : Nat} : Answers .any s₀ (execScrubPeriodEnd unit s) := by
  unfold Machine.execScrubPeriodEnd; exact .ite (.ite (.next h.parts.memFlag) (.next h.parts)) (.next h)

theorem Keeps.execT2SelfRefreshEntry (h : Keeps .any s₀ s) {chan : Nat} : Answers .any s₀ (execT2SelfRefreshEntry chan s) := by
  unfold Machine.execT2SelfRefreshEntry; exact .ite (.next h.setMemUnit) (.next h)

theorem Keeps.execPeriodicRetrain (h : Keeps .any s₀ s) {unit : Nat} : Answers .any s₀ (execPeriodicRetrain unit s) := by
  unfold Machine.execPeriodicRetrain; exact .ite (.next h.parts.bump) (.next h)

end Sys2Proof.Machine
end

section
/-! PROOF. Machine/Modes, barriers and mode changes as commands: every operation keeps the queue and a canonical register file. -/

namespace Sys2Proof.Machine

set_option Elab.async false

variable {s₀ s : State}

theorem Keeps.execBarrier (h : Keeps .any s₀ s) {who : Who} : Answers .any s₀ (execBarrier who s) := by
  unfold Machine.execBarrier; exact .next (h.adminWrite (fun _ h => .ite h h.parts.wr))

theorem Keeps.execBarrierComplete (h : Keeps .any s₀ s) : Answers .any s₀ (execBarrierComplete s) := by
  unfold Machine.execBarrierComplete; exact .ite (.next h.parts.wr.bump.raise) (.next h)

theorem Keeps.execModeChange (h : Keeps .any s₀ s) {who : Who} {scope : Nat} {rec : List Byte} :
    Answers .any s₀ (execModeChange who scope rec s) := by
  unfold Machine.execModeChange
  exact .next (h.adminWrite (fun _ h => by
    extract_lets +onlyGivenNames ph
    split
    · exact h
    · split
      · exact h.modeFlag
      · extract_lets +onlyGivenNames at' s0
        have h0 : Keeps .any s₀ s0 := h.wr
        split
        · exact h0.memFlag.modeFlag.modePhase
        · extract_lets +onlyGivenNames s0'
          have h0' : Keeps .any s₀ s0' := h0.touchSpan
          split
          · exact h0'.modeFlag.modePhase
          · extract_lets _ s1 s2
            have h1 : Keeps .any s₀ s1 := h0'.parts
            have h2 : Keeps .any s₀ s2 := by
              unfold s2
              refine h1.foldl fun _ _ h => ?_
              split
              · exact h
              · split
                · exact h.drainReq
                · exact h
                · exact .ite h.wr h
            exact h2.modePhase))

theorem Keeps.execModeCloseComplete (h : Keeps .any s₀ s) : Answers .any s₀ (execModeCloseComplete s) := by
  unfold Machine.execModeCloseComplete; exact .ite (.next h.wr.parts.modePhase) (.next h)

theorem Keeps.execModeOpen (h : Keeps .any s₀ s) {late : List (Nat × Nat)} : Answers .any s₀ (execModeOpen late s) := by
  unfold Machine.execModeOpen
  split
  · exact .next h
  · split
    · exact .next h.modeFlag.modeAbort
    · exact .next (.modePhase (.bump (.modeReopen (.parts (.foldl (h.wr.wr.foldl fun _ _ h => h.noteImage) fun _ _ h => h.applyStaged)))))

theorem Keeps.showLagging (h : Keeps .any s₀ s) : Keeps .any s₀ s.showLagging := by
  unfold State.showLagging; exact .ite h.wr.modePhase h.wr

theorem Keeps.openDone (h : Keeps .any s₀ s) {u : Nat × Nat} : Keeps .any s₀ (s.openDone u) := by
  unfold State.openDone; exact h.parts

theorem Keeps.execModeOpenResend (h : Keeps .any s₀ s) {cls idx : Nat} {acked : Bool} :
    Answers .any s₀ (execModeOpenResend cls idx acked s) := by
  unfold Machine.execModeOpenResend
  exact .ite (.next h) (.ite (.next h.applyStaged.openDone.showLagging) (.ite (.next h) (.ite (.next (.showLagging (by
    split
    · exact h.openDone.modeFlag.stallFault
    · exact h.openDone.modeFlag.rowFault
    · exact h.openDone.modeFlag.houseFault))) (.next h.parts.showLagging))))

theorem Keeps.execModeAbort (h : Keeps .any s₀ s) {who : Who} : Answers .any s₀ (execModeAbort who s) := by
  unfold Machine.execModeAbort; exact .next (h.adminWrite (fun _ h => h.modeAbort))

theorem Keeps.execModeCloseTimeout (h : Keeps .any s₀ s) : Answers .any s₀ (execModeCloseTimeout s) := by
  unfold Machine.execModeCloseTimeout
  split
  · split
    · exact .next h.modeFlag.modeAbort
    · exact .next h
  · exact .next h

theorem Keeps.execModeStageTimeout (h : Keeps .any s₀ s) {cls idx : Nat} : Answers .any s₀ (execModeStageTimeout cls idx s) := by
  unfold Machine.execModeStageTimeout; exact .ite (.next h.modeFlag.modeAbort) (.next h)

theorem Keeps.execUnitCatchup (h : Keeps .any s₀ s) {cls idx : Nat} : Answers .any s₀ (execUnitCatchup cls idx s) := by
  unfold Machine.execUnitCatchup; exact .ite (.next h.catchUp) (.next h)

end Sys2Proof.Machine
end

section
/-! PROOF. Machine/Sleep, sleep and wake of stalls, rows and quarters: every operation keeps the queue and a canonical register file. -/

namespace Sys2Proof.Machine

set_option Elab.async false

variable {s₀ s : State}

theorem Keeps.execWakeComplete (h : Keeps .any s₀ s) {u : SleepUnit} : Answers .any s₀ (execWakeComplete u s) := by
  unfold Machine.execWakeComplete
  dsimp only
  split
  · split
    · exact .next (.refill (.ite h.stallRuns h.stallRuns.catchUp))
    · exact .next h.unitRuns.catchUp.wokenVectors
    · exact .next (h.unitRuns.foldl fun _ _ h => h.catchUp)
  · exact .next h

theorem Keeps.execWakeRequest (h : Keeps .any s₀ s) {u : SleepUnit} : Answers .any s₀ (execWakeRequest u s) := by
  unfold Machine.execWakeRequest
  split
  · split
    · exact .next h.abortEntry
    · split
      · exact .next h.wakeStallReq
      · exact .next h.wakeRowReq
      · exact .next h.wakeUnit
  · exact .next h

theorem Keeps.execClockGatedEntry (h : Keeps .any s₀ s) {u : SleepUnit} : Answers .any s₀ (execClockGatedEntry u s) := by
  unfold Machine.execClockGatedEntry
  split
  · exact .next h
  · split
    · exact .ite (.next h.setStState.parts) (.next h)
    · exact .ite (.next h.parts) (.next h)
    · exact .ite (.next h.setHouses.parts) (.next h)

theorem Keeps.execBiasOffEntry (h : Keeps .any s₀ s) {u : SleepUnit} : Answers .any s₀ (execBiasOffEntry u s) := by
  unfold Machine.execBiasOffEntry
  split
  · exact .next h
  · split
    · exact .ite (.next h.stallBiasOff) (.next h)
    · exact .ite (.next h.rowBiasOff) (.next h)
    · exact .ite (.next h.quarterBiasOff) (.next h)

theorem Keeps.wakeAll (h : Keeps .any s₀ s) : Keeps .any s₀ s.wakeAll := by
  unfold State.wakeAll; exact h.foldl fun _ _ h => .foldl (.ite h.wakeRowReq h) fun _ _ h => .ite h.wakeStallReq h

end Sys2Proof.Machine
end

section
/-! PROOF. Machine/WardenOps, what the warden does with what it reads: every operation keeps the queue and a canonical register file. -/

namespace Sys2Proof.Machine

set_option Elab.async false

variable {s₀ s : State}

theorem Keeps.recordTemps (h : Keeps .any s₀ s) {temps : List (Int × Bool)} : Keeps .any s₀ (s.recordTemps temps) := by
  unfold State.recordTemps
  extract_lets s1 hot
  have h1 : Keeps .any s₀ s1 := by
    unfold s1
    refine h.foldl fun _ _ h => ?_
    split
    · exact h.wr.wr
    · exact h.wr
  clear_value hot
  split
  · exact h1.wr.wr
  · exact h1

theorem Keeps.sensorFailed (h : Keeps .any s₀ s) {k : Nat} : Keeps .any s₀ (s.sensorFailed k) := by
  unfold State.sensorFailed
  extract_lets +onlyGivenNames s1
  have h1 : Keeps .any s₀ s1 := h.wr.wr.wr.wdnMark.raise
  exact .ite (.ite h1.faultLog (.withWarden (h1.faultLog.foldl fun _ _ h => h.drainReq))) h1.faultLog

theorem Keeps.judgeSensors (h : Keeps .any s₀ s) {temps : List (Int × Bool)} : Keeps .any s₀ (s.judgeSensors temps) := by
  unfold State.judgeSensors; exact h.foldl fun _ _ h => .ite h.parts.sensorFailed h.parts

theorem Keeps.judgeChains (h : Keeps .any s₀ s) {temps : List (Int × Bool)} : Keeps .any s₀ (s.judgeChains temps) := by
  unfold State.judgeChains; exact h.foldl fun _ _ h => .ite h.parts.wr.wdnFlag h.parts

theorem Keeps.judgeRows (h : Keeps .any s₀ s) {temps : List (Int × Bool)} : Keeps .any s₀ (s.judgeRows temps) := by
  unfold State.judgeRows; exact h.foldl fun _ _ h => .ite (h.parts.wr.wr.foldl fun _ _ h => h.drainRel) h.parts

theorem Keeps.judgeHeat (h : Keeps .any s₀ s) {key : Nat} {t : Option Int} : Keeps .any s₀ (s.judgeHeat key t) := by
  unfold State.judgeHeat
  split
  · exact h
  · extract_lets old new n s1 s2
    have h1 : Keeps .any s₀ s1 := h.parts
    have h2 : Keeps .any s₀ s2 := .ite h1.parts h1.wr
    exact .ite h2.raise h2

theorem Keeps.showTherm (h : Keeps .any s₀ s) : Keeps .any s₀ s.showTherm := by
  unfold State.showTherm; exact .ite h h.wr

theorem Keeps.judgeLevels (h : Keeps .any s₀ s) {temps : List (Int × Bool)} : Keeps .any s₀ (s.judgeLevels temps) := by
  unfold State.judgeLevels; exact .showTherm (.judgeHeat (h.foldl fun _ _ h => h.judgeHeat))

theorem Keeps.judgeRestart (h : Keeps .any s₀ s) {temps : List (Int × Bool)} : Keeps .any s₀ (s.judgeRestart temps) := by
  unfold State.judgeRestart; exact .ite h.wr h

theorem Keeps.judgeCal (h : Keeps .any s₀ s) {row : Nat} : Keeps .any s₀ (s.judgeCal row) := by
  unfold State.judgeCal; exact .foldl (.ite h.reestimate h) fun _ _ h => .ite h.queueCal h

theorem Keeps.memTemps (h : Keeps .any s₀ s) {stackTemps : List Int} {hot : List Nat} :
    Keeps .any s₀ (s.memTemps stackTemps hot) := by
  unfold State.memTemps; exact .foldl (h.foldl fun _ _ h => .ite h.wr.memFlag h.wr) fun _ _ h => .ite h.memFlag h

theorem Keeps.transact (h : Keeps .any s₀ s) {v : Nat} {ok : Bool} : Keeps .any s₀ (s.transact v ok) := by
  unfold State.transact; exact .ite h.parts (.ite h.parts.bump.wr.wdnFlag.railFault h.parts.bump.wr.wdnFlag)

theorem Keeps.poll (h : Keeps .any s₀ s) {p : Poll} : Keeps .any s₀ (s.poll p) := by
  unfold State.poll
  split
  · exact h
  · extract_lets +onlyGivenNames s1 s2 s3 s4 s5
    have h1 : Keeps .any s₀ s1 := h.transact
    have h2 : Keeps .any s₀ s2 := .ite h1.wr h1
    have h3 : Keeps .any s₀ s3 := h2.transact
    have h4 : Keeps .any s₀ s4 := .ite h3.wr h3
    have h5 : Keeps .any s₀ s5 := h4.transact
    exact .ite (.ite h5.wr.railFault h5.wr) h5

theorem Keeps.judgePower (h : Keeps .any s₀ s) : Keeps .any s₀ s.judgePower := by
  unfold State.judgePower; exact h.wr.wr

theorem Keeps.sendVset (h : Keeps .any s₀ s) : Keeps .any s₀ s.sendVset := by
  unfold State.sendVset; exact .parts (h.foldl fun _ _ h => h.pmbus)

theorem Keeps.startPass (h : Keeps .any s₀ s) : Keeps .any s₀ s.startPass := by
  unfold State.startPass; exact .ite h (.ite h.wr.parts (.ite h.wr.wdnFlag.parts (.parts (.ite h.wr.wdnFlag h.wr))))

theorem Keeps.nextRail (h : Keeps .any s₀ s) : Keeps .any s₀ s.nextRail := by
  unfold State.nextRail
  dsimp only
  split
  · exact h.parts.pmbus
  · exact h.parts

end Sys2Proof.Machine
end

section
/-! PROOF. Machine/Warden, the warden's commands: every operation keeps the queue and a canonical register file. -/

namespace Sys2Proof.Machine

set_option Elab.async false

variable {s₀ s : State}

theorem Keeps.execWardenRound (h : Keeps .any s₀ s) {r : RoundIn} : Answers .any s₀ (execWardenRound r s) := by
  unfold Machine.execWardenRound
  split
  · exact .next h
  · extract_lets s1 s2 s3 s4 s5 s6 s7 _ s8
    have h1 : Keeps .any s₀ s1 := h.recordTemps.judgeSensors.judgeChains
    have h2 : Keeps .any s₀ s2 := h1.judgeRows.judgeLevels.judgeStock
    have h3 : Keeps .any s₀ s3 := .ite h2.thermTrip (.ite h2.orderlyStop h2)
    have h4 : Keeps .any s₀ s4 := h3.judgeRestart.memTemps
    have h5 : Keeps .any s₀ s5 := .ite h4 (h4.foldl fun _ _ h => h.judgeCal)
    have h6 : Keeps .any s₀ s6 := .sendVset (.judgePower (h5.foldl fun _ _ h => h.poll))
    have h7 : Keeps .any s₀ s7 := .ite h6.startPass h6
    have h8 : Keeps .any s₀ s8 := h7.parts
    exact .next h8.bump.raise

theorem Keeps.execStoppingChainRead (h : Keeps .any s₀ s) {temps : List (Int × Bool)} :
    Answers .any s₀ (execStoppingChainRead temps s) := by
  unfold Machine.execStoppingChainRead; exact .ite (.next (.ite h.parts.recordTemps.thermTrip h.parts.recordTemps)) (.next h)

theorem Keeps.execTripCounterExpiry (h : Keeps .any s₀ s) : Answers .any s₀ (execTripCounterExpiry s) := by
  unfold Machine.execTripCounterExpiry; exact .ite (.next h.thermTrip) (.next h)

theorem Keeps.execOrderlyStopComplete (h : Keeps .any s₀ s) {acked : Bool} :
    Answers .any s₀ (execOrderlyStopComplete acked s) := by
  unfold Machine.execOrderlyStopComplete
  split
  · exact .next h
  · split
    · exact .next h
    · extract_lets +onlyGivenNames s1 s2 s3
      have h1 : Keeps .any s₀ s1 := h.foldl fun _ _ h => h.quarterDown
      have h2 : Keeps .any s₀ s2 := h1.foldl fun _ _ h => .ite h.setMemUnit h
      have h3 : Keeps .any s₀ s3 := h2.foldl fun _ _ h => h.pmbus
      exact .ite (.next h3.withWarden.wr) (.next h3.thermTrip)

theorem Keeps.execClkAoLoss (h : Keeps .any s₀ s) : Answers .any s₀ (execClkAoLoss s) := by
  unfold Machine.execClkAoLoss; exact .ite (.next h.parts.wr) (.next h)

theorem Keeps.execClkAoReturn (h : Keeps .any s₀ s) : Answers .any s₀ (execClkAoReturn s) := by
  unfold Machine.execClkAoReturn; exact .ite (.next (h.parts.faultLog.foldl fun _ _ h => h.pmbus)) (.next h)

theorem Keeps.execVsetWrite (h : Keeps .any s₀ s) {who : Who} {val : Nat} : Answers .any s₀ (execVsetWrite who val s) := by
  unfold Machine.execVsetWrite; exact .next (h.adminWrite (fun _ h => .ite (.ite h.wr.parts h.wr) h.wr.wdnFlag))

theorem Keeps.execRestartRailTimeout (h : Keeps .any s₀ s) : Answers .any s₀ (execRestartRailTimeout s) := by
  unfold Machine.execRestartRailTimeout
  split
  · exact .ite (.next h.railFault.nextRail) (.next h)
  · exact .next h

theorem Keeps.execMonitorPassStart (h : Keeps .any s₀ s) {who : Who} : Answers .any s₀ (execMonitorPassStart who s) := by
  unfold Machine.execMonitorPassStart; exact .next (h.adminWrite (fun _ h => .ite h.startPass h))

theorem Keeps.monResult (h : Keeps .any s₀ s) {ch code : Nat} : Keeps .any s₀ (s.monResult ch code) := by
  unfold State.monResult; exact h.wr.wr

theorem Keeps.execMonitorResult (h : Keeps .any s₀ s) {code code2 : Nat} {inTol : Bool × Bool} :
    Answers .any s₀ (execMonitorResult code code2 inTol s) := by
  unfold Machine.execMonitorResult
  split
  · exact .next h
  · extract_lets _ s1 s2 _ s2' s3 ch2 s4 s5 s6 read stk _ s6' s7
    have h1 : Keeps .any s₀ s1 := h.parts.monResult
    have h2 : Keeps .any s₀ s2 := by
      unfold s2
      split
      · exact h1.monResult
      · exact h1
    have h2' : Keeps .any s₀ s2' := .ite h2 h2.parts
    have h3 : Keeps .any s₀ s3 := .ite h2'.bump.wdnFlag h2'
    have h4 : Keeps .any s₀ s4 := h3.wr.wr.wr.wr
    have h5 : Keeps .any s₀ s5 := h4.wr.wr.wr
    have h6 : Keeps .any s₀ s6 := h5.wr
    have h6' : Keeps .any s₀ s6' := h6.parts
    have h7 : Keeps .any s₀ s7 := by
      unfold s7
      split
      · exact .ite h6'.nextRail h6'
      · exact .ite h6'.stockRail h6'
    exact .next (.ite h7.startPass h7)

theorem Keeps.execWdnMonDataRead (h : Keeps .any s₀ s) {who : Who} : Answers .any s₀ (execWdnMonDataRead who s) := by
  unfold Machine.execWdnMonDataRead
  split
  · exact .next h
  · split
    · exact .ite (.next h.accessed.readClear) (.next h.accessed.accessError)
    · exact .next h.accessed.readClear

theorem Keeps.writeDog (h : Keeps .any s₀ s) {who : Who} {val : Nat} : Keeps .any s₀ (s.writeDog who val) := by
  unfold State.writeDog
  extract_lets +onlyGivenNames p s1
  have h1 : Keeps .any s₀ s1 := .ite h.wr h
  exact .ite h1.parts h1

theorem Keeps.resetWrite (h : Keeps .any s₀ s) {who : Who} {r : Reg} {f : State → State}
    (hf : ∀ t, Keeps .any s₀ t → Keeps .any s₀ (f t)) :
    Keeps .any s₀ (s.resetWrite who r f) := by
  unfold State.resetWrite
  split
  · exact h
  · split
    · exact .ite (hf _ h.accessed) h.accessed.accessError
    · exact (hf _ h.accessed)

theorem Keeps.execWatchdogKick (h : Keeps .any s₀ s) {who : Who} {val : Nat} : Answers .any s₀ (execWatchdogKick who val s) := by
  unfold Machine.execWatchdogKick; exact .next (h.resetWrite (fun _ h => h.writeDog))

theorem Keeps.execWatchdogExpiry (h : Keeps .any s₀ s) : Answers .any s₀ (execWatchdogExpiry s) := by
  unfold Machine.execWatchdogExpiry; exact .ite (.next h.deviceFault) (.next h)

theorem Keeps.execBridgeFlitFailure (h : Keeps .any s₀ s) {resends : Nat} :
    Answers .any s₀ (execBridgeFlitFailure resends s) := by
  unfold Machine.execBridgeFlitFailure; exact .ite (.next h.deviceFault) (.next h)

end Sys2Proof.Machine
end

section
/-! PROOF. Machine/Reset, resets of every scope: every operation keeps the queue and a canonical register file. -/

namespace Sys2Proof.Machine

set_option Elab.async false

variable {s₀ s : State}

theorem Keeps.nonVolatile (h : Keeps .any s₀ s) : Keeps .any s₀ s.nonVolatile := by
  unfold State.nonVolatile
  refine Keeps.setReg (h.rebuilt ?_ fun _ => ?_)
  · exact rfl
  · exact FMap.wf_nil _

theorem Keeps.deviceReset (h : Keeps .any s₀ s) {cause : Nat} : Keeps .any s₀ (s.deviceReset cause) := by
  unfold State.deviceReset
  extract_lets s0 _ _ s1 s2
  have h0 : Keeps .any s s0 := (Keeps.refl _ s).nonVolatile
  have h1 : Keeps .any s₀ s1 := h.rebuilt (h0.part .pending rfl) fun hw => FMap.wf_puts (FMap.ne_of_wf hw _) (h0.wf hw)
  have h2 : Keeps .any s₀ s2 := h1.foldl fun _ _ h => h.wr
  exact h2.wr.wr.bump

theorem Keeps.powerLost (h : Keeps .any s₀ s) : Keeps .any s₀ s.powerLost := by
  unfold State.powerLost
  extract_lets s0
  have h0 : Keeps .any s s0 := (Keeps.refl _ s).nonVolatile
  exact h.rebuilt (h0.part .pending rfl) fun hw => FMap.wf_puts (FMap.ne_of_wf hw _) (h0.wf hw)

theorem Keeps.execVddAoLoss (h : Keeps .any s₀ s) : Answers .any s₀ (execVddAoLoss s) := by
  unfold Machine.execVddAoLoss; exact .ite (.next h.powerLost) (.next h)

theorem Keeps.execColdPowerOn (h : Keeps .any s₀ s) : Answers .any s₀ (execColdPowerOn s) := by
  unfold Machine.execColdPowerOn; exact .ite (.next h) (.next h.powerLost.parts.bumpSat)

theorem Keeps.execPerstNFall (h : Keeps .any s₀ s) : Answers .any s₀ (execPerstNFall s) := by
  unfold Machine.execPerstNFall; exact .ite (.next h.deviceReset) (.next h)

theorem Keeps.execPwrOkFall (h : Keeps .any s₀ s) : Answers .any s₀ (execPwrOkFall s) := by
  unfold Machine.execPwrOkFall; exact .ite (.next h.deviceReset) (.next h)

theorem Keeps.resetCmd (h : Keeps .any s₀ s) {who : Who} {f : State → State}
    (hf : ∀ t, Keeps .any s₀ t → Keeps .any s₀ (f t)) :
    Keeps .any s₀ (s.resetCmd who f) := by
  unfold State.resetCmd; exact h.resetWrite (fun _ h => .ite h (hf _ h))

theorem Keeps.execDeviceReset (h : Keeps .any s₀ s) {who : Who} : Answers .any s₀ (execDeviceReset who s) := by
  unfold Machine.execDeviceReset; exact .next (h.resetCmd (fun _ h => h.deviceReset))

theorem Keeps.handOpen (h : Keeps .any s₀ s) {row sid : Nat} {p : Inst → Bool} : Keeps .any s₀ (s.handOpen row sid p) := by
  unfold State.handOpen; exact h.foldl fun _ _ h => h.handInst

theorem Keeps.calDiscard (h : Keeps .any s₀ s) {sid : Nat} : Keeps .any s₀ (s.calDiscard sid) := by
  unfold State.calDiscard; exact .ite h.calLeave.queueCal h

theorem Keeps.testDiscard (h : Keeps .any s₀ s) {u : UnitReset} : Keeps .any s₀ (s.testDiscard u) := by
  unfold State.testDiscard
  split
  · exact .ite (h.parts.wr.foldl fun _ _ h => h.modStall) h
  · exact h

theorem Keeps.resetStall (h : Keeps .any s₀ s) {sid : Nat} {whole : Bool} : Keeps .any s₀ (s.resetStall sid whole) := by
  unfold State.resetStall
  exact .parts (.setBusy (.wr (.wr (.resetRegs (.modStall (.loseSram (.ite h h.loseStrikes)))))))

theorem Keeps.resetRow (h : Keeps .any s₀ s) {row : Nat} : Keeps .any s₀ (s.resetRow row) := by
  unfold State.resetRow; exact h.modRow.resetRegs

theorem Keeps.wakeReset (h : Keeps .any s₀ s) {u : UnitReset} {t : Nat} : Keeps .any s₀ (s.wakeReset u t) := by
  unfold State.wakeReset
  exact .foldl (h.foldl fun _ _ h => .ite h.setStState (.ite h.setStState h.parts.setStState.bump)) fun _ _ h => h.parts.bump

theorem Keeps.finishReset (h : Keeps .any s₀ s) {u : UnitReset} : Keeps .any s₀ (s.finishReset u) := by
  unfold State.finishReset
  extract_lets _ s0 q s1 s2 _ s3 s4 s5 s6
  have h0 : Keeps .any s₀ s0 := h.parts
  have h1 : Keeps .any s₀ s1 := .ite h0.modeAbort h0
  have h2 : Keeps .any s₀ s2 := .testDiscard (h1.foldl fun _ _ h => h.calDiscard)
  have h3 : Keeps .any s₀ s3 := .ite h2.handOpen (h2.foldl fun _ _ h => h.handOpen)
  have h4 : Keeps .any s₀ s4 := .foldl (h3.foldl fun _ _ h => h.resetStall) fun _ _ h => h.resetRow
  have h5 : Keeps .any s₀ s5 := h4.foldl fun _ _ h => h.resetRegs.wr
  have h6 : Keeps .any s₀ s6 := .ite (h5.foldl fun _ _ h => .ite h.setMemUnit.bump h) h5
  exact h6.wakeReset.nextTest

theorem Keeps.tryReset (h : Keeps .any s₀ s) : Keeps .any s₀ s.tryReset := by
  unfold State.tryReset
  split
  · exact .ite h.finishReset h
  · exact h

theorem Keeps.beginReset (h : Keeps .any s₀ s) {u : UnitReset} : Keeps .any s₀ (s.beginReset u) := by
  unfold State.beginReset; exact h.parts.resetDrains.tryReset

theorem Keeps.execQuarterReset (h : Keeps .any s₀ s) {who : Who} {q : Nat} : Answers .any s₀ (execQuarterReset who q s) := by
  unfold Machine.execQuarterReset; exact .next (h.resetCmd (fun _ h => .ite h.beginReset h))

theorem Keeps.execRowReset (h : Keeps .any s₀ s) {who : Who} {row : Nat} : Answers .any s₀ (execRowReset who row s) := by
  unfold Machine.execRowReset; exact .next (h.resetCmd (fun _ h => .ite h.beginReset h))

theorem Keeps.execStallReset (h : Keeps .any s₀ s) {who : Who} {row stall : Nat} :
    Answers .any s₀ (execStallReset who row stall s) := by
  unfold Machine.execStallReset; exact .next (h.resetCmd (fun _ h => .ite h.beginReset h))

theorem Keeps.execDrainComplete (h : Keeps .any s₀ s) {row stall : Nat} : Answers .any s₀ (execDrainComplete row stall s) := by
  unfold Machine.execDrainComplete; exact .ite (.next (.tryReset (.ite h.drainDone h))) (.next h)

/-- The list of rails is closed before its cases are told apart, and `restart` is unfolded as a function: the kernel would compute the rails
of the state after the reset. -/
theorem Keeps.restart (h : Keeps .any s₀ s) : Keeps .any s₀ s.restart := by
  have hf (f : State → State) (hf : f = State.restart) : Keeps .any s₀ (f s) := by
    delta State.restart at hf
    subst hf
    beta_reduce
    extract_lets +onlyGivenNames s1 rails
    have h1 : Keeps .any s₀ s1 := h.deviceReset.wr.wr
    clear_value rails s1
    cases rails
    · exact h1.withWarden
    · exact h1.withWarden.pmbus
  exact hf _ rfl

theorem Keeps.execRestart (h : Keeps .any s₀ s) {who : Who} : Answers .any s₀ (execRestart who s) := by
  unfold Machine.execRestart
  dsimp only
  split
  · exact .next (.ite h.accessed.restart h.accessed.wdnFlag)
  · exact .next h
  · exact .ite (.next h) (.ite (.next (.ite h.accessed.restart h.accessed.wdnFlag)) (.next h.accessed.accessError))

end Sys2Proof.Machine
end

section
/-! PROOF. Machine/Secure, the security block as commands: every operation keeps the queue and a canonical register file. -/

namespace Sys2Proof.Machine

set_option Elab.async false

variable {s₀ s : State}

theorem Keeps.secFlag (h : Keeps .any s₀ s) {f : RField} {fn : Nat} : Keeps .any s₀ (s.secFlag f fn) := by
  unfold State.secFlag; exact h.flagAt

theorem Keeps.setStatBit (h : Keeps .any s₀ s) {f : RField} {k : Nat} {b : Bool} : Keeps .any s₀ (s.setStatBit f k b) := by
  unfold State.setStatBit; exact h.wr

theorem Keeps.execSvnCommit (h : Keeps .any s₀ s) {who : Who} : Answers .any s₀ (execSvnCommit who s) := by
  unfold Machine.execSvnCommit; exact .next (h.adminWrite (fun _ h => .ite h.wr.wr h.secFlag))

theorem Keeps.execKeyDataWrite (h : Keeps .any s₀ s) {who : Who} {idx val : Nat} :
    Answers .any s₀ (execKeyDataWrite who idx val s) := by
  unfold Machine.execKeyDataWrite; exact .ite (.next h) (.next (h.adminWrite (fun _ h => .ite h.parts h.secFlag)))

theorem Keeps.clearKeyData (h : Keeps .any s₀ s) : Keeps .any s₀ s.clearKeyData := by
  unfold State.clearKeyData; exact h.parts

theorem Keeps.setTenantKey (h : Keeps .any s₀ s) {f key : Nat} : Keeps .any s₀ (s.setTenantKey f key) := by
  unfold State.setTenantKey; exact h.closeSession.setStatBit.parts

theorem Keeps.setModelKey (h : Keeps .any s₀ s) {slot key : Nat} : Keeps .any s₀ (s.setModelKey slot key).1 := by
  unfold State.setModelKey
  split
  · exact h.setStatBit.parts
  · exact h.secFlag

theorem Keeps.execTenantKeyInstall (h : Keeps .any s₀ s) {who : Who} {f : Nat} :
    Answers .any s₀ (execTenantKeyInstall who f s) := by
  unfold Machine.execTenantKeyInstall
  exact .ite (.next h) (.next (h.adminWrite (fun _ h => .ite h.setTenantKey.clearKeyData h.secFlag)))

theorem Keeps.execModelKeyInstall (h : Keeps .any s₀ s) {who : Who} {slot : Nat} :
    Answers .any s₀ (execModelKeyInstall who slot s) := by
  unfold Machine.execModelKeyInstall
  exact .ite (.next h) (.next (h.adminWrite (fun _ h => .ite (.ite h.setModelKey.clearKeyData h.setModelKey) h.secFlag)))

theorem Keeps.execTenantKeyClear (h : Keeps .any s₀ s) {who : Who} {f : Nat} : Answers .any s₀ (execTenantKeyClear who f s) := by
  unfold Machine.execTenantKeyClear; exact .ite (.next h) (.next (h.adminWrite (fun _ h => h.closeSession.setStatBit.parts)))

theorem Keeps.execModelKeyClear (h : Keeps .any s₀ s) {who : Who} {slot : Nat} :
    Answers .any s₀ (execModelKeyClear who slot s) := by
  unfold Machine.execModelKeyClear; exact .ite (.next h) (.next (h.adminWrite (fun _ h => .ite h.setStatBit.parts h.secFlag)))

theorem Keeps.spdmGo (h : Keeps .any s₀ s) {port : Nat} {act : State → State}
    (hact : ∀ t, Keeps .any s₀ t → Keeps .any s₀ (act t)) :
    Keeps .any s₀ (s.spdmGo port act) := by
  unfold State.spdmGo; exact .ite h (.ite (h.doeGo (fun _ h => (hact _ h))) (.ite (hact _ h) h))

theorem Keeps.spdmError (h : Keeps .any s₀ s) {code : Nat} : Keeps .any s₀ (s.spdmError code) := by
  unfold State.spdmError; exact h.secFlag.send

theorem Keeps.setStage (h : Keeps .any s₀ s) {port n : Nat} : Keeps .any s₀ (s.setStage port n) := by
  unfold State.setStage; exact h.parts

theorem Keeps.spdmReady (h : Keeps .any s₀ s) {port : Nat} {act : State → State}
    (hact : ∀ t, Keeps .any s₀ t → Keeps .any s₀ (act t)) :
    Keeps .any s₀ (s.spdmReady port act) := by
  unfold State.spdmReady; exact h.spdmGo (fun _ h => .ite (hact _ h) h.spdmError)

theorem Keeps.spdmInside (h : Keeps .any s₀ s) {port id : Nat} {act : State → State}
    (hact : ∀ t, Keeps .any s₀ t → Keeps .any s₀ (act t)) :
    Keeps .any s₀ (s.spdmInside port id act) := by
  unfold State.spdmInside; exact h.spdmReady (fun _ h => .ite (hact _ h) h.spdmError)

theorem Keeps.execGetVersion (h : Keeps .any s₀ s) {port : Nat} : Answers .any s₀ (execGetVersion port s) := by
  unfold Machine.execGetVersion; exact .next (h.spdmGo (fun _ h => h.setStage.send))

theorem Keeps.execGetCapabilities (h : Keeps .any s₀ s) {port : Nat} : Answers .any s₀ (execGetCapabilities port s) := by
  unfold Machine.execGetCapabilities; exact .next (h.spdmGo (fun _ h => .ite h.setStage.send h.spdmError))

theorem Keeps.execNegotiateAlgorithms (h : Keeps .any s₀ s) {port : Nat} {p521 hash512 dhe521 gcm256 : Bool} :
    Answers .any s₀ (execNegotiateAlgorithms port p521 hash512 dhe521 gcm256 s) := by
  unfold Machine.execNegotiateAlgorithms; exact .next (h.spdmGo (fun _ h => .ite h.spdmError (.ite h.setStage.send h.spdmError)))

theorem Keeps.execGetDigests (h : Keeps .any s₀ s) {port : Nat} : Answers .any s₀ (execGetDigests port s) := by
  unfold Machine.execGetDigests; exact .next (h.spdmReady (fun _ h => h.send))

theorem Keeps.execGetCertificate (h : Keeps .any s₀ s) {port slot off len : Nat} :
    Answers .any s₀ (execGetCertificate port slot off len s) := by
  unfold Machine.execGetCertificate; exact .next (h.spdmReady (fun _ h => .ite h.spdmError h.send))

theorem Keeps.execChallenge (h : Keeps .any s₀ s) {port slot : Nat} : Answers .any s₀ (execChallenge port slot s) := by
  unfold Machine.execChallenge; exact .next (h.spdmReady (fun _ h => .ite h.spdmError h.takeFree.takeFree.send))

theorem Keeps.execGetMeasurements (h : Keeps .any s₀ s) {port index : Nat} {signed : Bool} :
    Answers .any s₀ (execGetMeasurements port index signed s) := by
  unfold Machine.execGetMeasurements; exact .next (h.spdmReady (fun _ h => .ite h.spdmError (.ite h.takeFree.send h.send)))

theorem Keeps.execKeyExchange (h : Keeps .any s₀ s) {port slot : Nat} : Answers .any s₀ (execKeyExchange port slot s) := by
  unfold Machine.execKeyExchange
  exact .next (h.spdmReady (fun _ h => .ite h.spdmError (.ite h.spdmError h.parts.send)))

theorem Keeps.execFinish (h : Keeps .any s₀ s) {port id : Nat} {verified : Bool} :
    Answers .any s₀ (execFinish port id verified s) := by
  unfold Machine.execFinish; exact .next (h.spdmReady (fun _ h => .ite (.ite h.parts.bump.send h.parts.spdmError) h.spdmError))

theorem Keeps.execHeartbeat (h : Keeps .any s₀ s) {port id : Nat} : Answers .any s₀ (execHeartbeat port id s) := by
  unfold Machine.execHeartbeat; exact .next (h.spdmInside (fun _ h => h.send))

theorem Keeps.execKeyUpdate (h : Keeps .any s₀ s) {port id op : Nat} : Answers .any s₀ (execKeyUpdate port id op s) := by
  unfold Machine.execKeyUpdate; exact .next (h.spdmInside (fun _ h => .ite h.spdmError h.parts.send))

theorem Keeps.execEndSession (h : Keeps .any s₀ s) {port id : Nat} : Answers .any s₀ (execEndSession port id s) := by
  unfold Machine.execEndSession; exact .next (h.spdmInside (fun _ h => h.parts.send))

theorem Keeps.execGetCsr (h : Keeps .any s₀ s) {port : Nat} : Answers .any s₀ (execGetCsr port s) := by
  unfold Machine.execGetCsr; exact .next (h.spdmReady (fun _ h => h.takeFree.send))

theorem Keeps.execSetCertificate (h : Keeps .any s₀ s) {port slot : Nat} {chain : List Byte} :
    Answers .any s₀ (execSetCertificate port slot chain s) := by
  unfold Machine.execSetCertificate; exact .next (h.spdmReady (fun _ h => .ite h.spdmError h.parts.send))

theorem Keeps.execSetTenantKey (h : Keeps .any s₀ s) {port id f key : Nat} :
    Answers .any s₀ (execSetTenantKey port id f key s) := by
  unfold Machine.execSetTenantKey; exact .next (h.spdmInside (fun _ h => .ite h.setTenantKey.send h.spdmError))

theorem Keeps.execSetModelKey (h : Keeps .any s₀ s) {port id slot key : Nat} :
    Answers .any s₀ (execSetModelKey port id slot key s) := by
  unfold Machine.execSetModelKey
  exact .next (h.spdmInside (fun _ h => .ite h.spdmError (.ite h.setModelKey.send h.setModelKey.spdmError)))

theorem Keeps.execGetNonce (h : Keeps .any s₀ s) {f : Nat} : Answers .any s₀ (execGetNonce f s) := by
  unfold Machine.execGetNonce; exact .next (h.doeGo (fun _ h => .ite h.send (.ite h.send h.parts.send)))

theorem Keeps.openNew (h : Keeps .any s₀ s) {f : Nat} : Keeps .any s₀ (s.openNew f) := by
  unfold State.openNew; exact h.closeSession.wr.wr.fnEvent.bump

theorem Keeps.execOpenSession (h : Keeps .any s₀ s) {f : Nat} {nonceT mac : List Byte} :
    Answers .any s₀ (execOpenSession f nonceT mac s) := by
  unfold Machine.execOpenSession
  exact .next (h.doeGo (fun _ h => .ite h.parts.parts.openNew.send h.parts.parts.bump.secFlag.send))

theorem Keeps.execCloseSession (h : Keeps .any s₀ s) {f : Nat} : Answers .any s₀ (execCloseSession f s) := by
  unfold Machine.execCloseSession; exact .next (h.doeGo (fun _ h => h.closeSession.send))

end Sys2Proof.Machine
end

section
/-! PROOF. Machine/Regs, register accesses by address: every operation keeps the queue and a canonical register file. -/

namespace Sys2Proof.Machine

set_option Elab.async false

variable {s₀ s : State}

theorem Keeps.writeWork (h : Keeps .any s₀ s) {who : Who} {r : Reg} {v : Nat} : Offers s₀ (·) (s.writeWork who r v) := by
  unfold State.writeWork
  exact .ite (.some h.writeReg.wr) (.ite (.some (h.nextOr h.execQuotaWrite))
    (.ite (.some (h.nextOr h.execFuncCeilWrite)) (.ite (.some (.ite (h.nextOr h.execAdapterUnload) h))
      (.ite (.some (h.nextOr h.execKvSlotCfgWrite)) (.ite (.some
      (.ite (h.nextOr h.execModelUnload) (.ite (h.nextOr h.execShardRefetch) (.ite (h.nextOr h.execReleaseHeld) h))))
      (.ite (.some (.ite (h.nextOr h.execTouchupRestock) (.ite (h.nextOr h.execStockingAbort) (.ite (h.nextOr h.execScrubCrateNow) h))))
      (.ite (.some (h.nextOr h.execPortEnable)) (.ite (.some (.ite (h.nextOr h.execHomeTableClear) h)) (.none)))))))))

theorem Keeps.writeCal (h : Keeps .any s₀ s) {who : Who} {r : Reg} {v : Nat} : Offers s₀ (·) (s.writeCal who r v) := by
  unfold State.writeCal
  exact .ite (.some (.ite (h.nextOr h.execCalibrationQueue) (.ite (h.nextOr h.execReferenceReestimate)
    (.ite (h.nextOr h.execSpareStallSubstitute) (.ite (h.nextOr h.execCalibrationWithdraw) h)))))
      (.ite (.some (h.nextOr h.execRepairAssign)) (.ite (.some h.writeReg.parts)
      (.ite (.some (.ite (h.nextOr h.execSelfTestWithdraw) (.ite (h.nextOr h.execSelfTestAll) (.ite h.bstCmd h))))
      (.ite (.some (.ite (h.nextOr h.execFuseBurn) h)) (.none)))))

theorem Keeps.writeEvc (h : Keeps .any s₀ s) {who : Who} {r : Reg} {i v : Nat} : Offers s₀ (·) (s.writeEvc who r i v) := by
  unfold State.writeEvc
  exact .ite (.some (h.nextOr h.execSoftwareEventSet)) (.ite (.some h.writeReg.setClerk)
    (.ite (.some (.ite h.writeReg.parts h.writeReg)) (.ite (.some h.writeReg.showClerk)
      (.ite (.some (.ite (h.nextOr h.execModeAbort) (.ite (h.nextOr h.execBarrier) h))) (.none)))))

theorem Keeps.writeWdn (h : Keeps .any s₀ s) {who : Who} {r : Reg} {v : Nat} : Offers s₀ (·) (s.writeWdn who r v) := by
  unfold State.writeWdn
  exact .ite (.some (.ite (h.nextOr h.execRestart) h)) (.ite (.some (.ite h.writeReg h.writeReg.wakeAll))
    (.ite (.some (.ite h.writeReg.startPass h.writeReg)) (.ite (.some (.ite (h.nextOr h.execMonitorPassStart) h))
      (.ite (.some (h.nextOr h.execVsetWrite)) (.ite (.some (.ite (h.nextOr h.execDeviceReset)
      (.ite (h.nextOr h.execQuarterReset) (.ite (h.nextOr h.execRowReset) (.ite (h.nextOr h.execStallReset) h)))))
      (.ite (.some h.writeDog) (.ite (.some h.writeReg) (.none))))))))

theorem Keeps.writeSec (h : Keeps .any s₀ s) {who : Who} {r : Reg} {v : Nat} : Offers s₀ (·) (s.writeSec who r v) := by
  unfold State.writeSec
  exact .ite (.some (.ite (h.nextOr h.execSvnCommit) (.ite (h.nextOr h.execTenantKeyInstall)
    (.ite (h.nextOr h.execModelKeyInstall) (.ite (h.nextOr h.execTenantKeyClear) (.ite (h.nextOr h.execModelKeyClear) h))))))
      (.ite (.some (h.nextOr h.execKeyDataWrite)) (.ite (.some (h.nextOr h.execKeyDataWrite))
      (.ite (.some (h.nextOr h.execKeyDataWrite)) (.ite (.some (h.nextOr h.execKeyDataWrite)) (.none)))))

theorem Keeps.writeUnit (h : Keeps .any s₀ s) {who : Who} {r : Reg} {i u v : Nat} : Offers s₀ (·) (s.writeUnit who r i u v) := by
  unfold State.writeUnit
  exact .ite (.some (.ite h.tileCmd h)) (.ite (.some (h.nextOr (.ite h.execDrainRelease h.execDrainRequest)))
    (.ite (.some (h.nextOr h.execTrimDataWrite)) (.ite (.some (h.nextOr h.execStlCtlWrite))
      (.ite (.some (h.nextOr h.execStlSliceMapWrite)) (.none)))))

theorem Keeps.writeFn (h : Keeps .any s₀ s) {r : Reg} {f v : Nat} : Offers s₀ (·) (s.writeFn r f v) := by
  unfold State.writeFn
  exact .ite (.some (.ite (h.nextOr h.execStoreRegister) (.ite (h.nextOr h.execStoreWithdraw) h))) (.none)

theorem Keeps.writeEffect (h : Keeps .any s₀ s) {who : Who} {r : Reg} {i u v : Nat} : Keeps .any s₀ (s.writeEffect who r i u v) := by
  unfold State.writeEffect
  refine Offers.getD ?_ h.writeReg
  split
  · exact h.writeFn
  · exact h.writeFn
  · exact h.writeWork
  · exact h.writeWork
  · exact h.writeWork
  · exact h.writeWork
  · exact h.writeWork
  · exact h.writeWork
  · exact h.writeWork
  · exact h.writeWork
  · exact h.writeEvc
  · exact h.writeEvc
  · exact h.writeCal
  · exact h.writeCal
  · exact h.writeWdn
  · exact h.writeSec
  · exact h.writeUnit
  · exact h.writeUnit
  · exact h.writeUnit

theorem Keeps.writeWhole (h : Keeps .any s₀ s) {who : Who} {ri : RegInfo} {i u bar off v : Nat} :
    Keeps .any s₀ (s.writeWhole who ri i u bar off v) := by
  unfold State.writeWhole; exact .ite h.secFlag.bump.accessError h.writeEffect

theorem Keeps.writeAt (h : Keeps .any s₀ s) {who : Who} {ri : RegInfo} {i u bar off size v : Nat} :
    Keeps .any s₀ (s.writeAt who ri i u bar off size v) := by
  unfold State.writeAt
  dsimp only
  split
  · exact h.keepHalves.writeWhole
  · split
    · exact .ite h.keepHalves.writeWhole h.keepHalves.accessError
    · split
      · exact h.keepHalves.keepHalf
      · split
        · exact h.keepHalves.dropHalf.writeWhole
        · exact .ite h.keepHalves.writeWhole h.keepHalves

theorem Keeps.writeTable (h : Keeps .any s₀ s) {f off size v : Nat} : Keeps .any s₀ (s.writeTable f off size v) := by
  unfold State.writeTable; exact .sendPending (.dropHalves (.ite h.modFunc.modFunc h.modFunc))

theorem Keeps.writeWindow (h : Keeps .any s₀ s) {f off size v : Nat} : Keeps .any s₀ (s.writeWindow f off size v) := by
  unfold State.writeWindow
  dsimp only
  split
  · split
    · exact h.writeAt
    · exact h.dropHalves.accessError
  · split
    · split
      · exact h.writeAt
      · exact h.dropHalves.accessError
    · exact .ite h.writeTable (.ite h.dropHalves h.dropHalves.accessError)

theorem Keeps.writeDevice (h : Keeps .any s₀ s) {who : Who} {off size v : Nat} :
    Keeps .any s₀ (s.writeDevice who off size v) := by
  unfold State.writeDevice
  split
  · exact h.dropHalves.accessError
  · split
    · exact h.dropHalves.accessError
    · exact .ite h.dropHalves.accessError (.ite h.dropHalves h.wakeBlock.writeAt)

theorem Keeps.writeSlip (h : Keeps .any s₀ s) {f off size v : Nat} : Keeps .any s₀ (s.writeSlip f off size v) := by
  unfold State.writeSlip
  dsimp only
  split
  · exact h
  · split
    · exact h.dropHalves.accessError
    · split
      · exact h.setOslot
      · split
        · exact h.keepHalves.seal
        · split
          · exact h.keepHalves.keepHalf
          · split
            · split
              · exact h.keepHalves.dropHalf.seal
              · exact h.keepHalves.seal
            · exact h.dropHalves.accessError

theorem Keeps.writeConfig (h : Keeps .any s₀ s) {f off v : Nat} : Keeps .any s₀ (s.writeConfig f off v) := by
  unfold State.writeConfig; exact .ite h (.ite h.wr.modFunc.sendPending (.ite (.ite h.wr h.wr.modFunc) h))

theorem Keeps.execRegisterWrite (h : Keeps .any s₀ s) {who : Who} {bar off size val : Nat} :
    Answers .any s₀ (execRegisterWrite who bar off size val s) := by
  unfold Machine.execRegisterWrite
  dsimp only
  split
  · exact .next h
  · split
    · exact .ite (.next h) (.ite (.next h.writeConfig) (.ite (.next h.squareRuns.writeSlip)
      (.ite (.next (.ite h.squareRuns.dropHalves.accessError h.squareRuns))
        (.ite (.next h.squareRuns) (.ite (.next h.squareRuns.dropHalves.accessError)
        (.ite (.next h.squareRuns.writeWindow) (.next h.squareRuns.writeDevice)))))))
    · exact .ite (.next h) (.next h.squareRuns.writeDevice)
    · exact .ite (.next h.squareRuns.writeDevice) (.next h)

theorem Keeps.answer (h : Keeps .any s₀ s) {who : Who} {v : Nat} : Keeps .any s₀ (s.answer who v) := by
  unfold State.answer; exact h.send

theorem Keeps.readAt (h : Keeps .any s₀ s) {who : Who} {ri : RegInfo} {i u bar off size : Nat} :
    Keeps .any s₀ (s.readAt who ri i u bar off size) := by
  unfold State.readAt
  dsimp only
  split
  · exact h.keepHalves.clearSample.answer
  · split
    · exact .answer (.ite h.keepHalves.clearSample.keepHalf h.keepHalves.clearSample)
    · split
      · exact h.keepHalves.dropHalf.answer
      · exact h.keepHalves.clearSample.answer

theorem Keeps.readWord (h : Keeps .any s₀ s) {who : Who} {bar off size w : Nat} :
    Keeps .any s₀ (s.readWord who bar off size w) := by
  unfold State.readWord
  dsimp only
  split
  · exact h.keepHalves.answer
  · split
    · exact h.keepHalves.keepHalf.answer
    · split
      · exact h.keepHalves.dropHalf.answer
      · exact h.keepHalves.answer

theorem Keeps.readWindow (h : Keeps .any s₀ s) {f off size : Nat} : Keeps .any s₀ (s.readWindow f off size) := by
  unfold State.readWindow
  dsimp only
  split
  · split
    · exact h.readAt
    · exact h.dropHalves.answer
  · split
    · split
      · exact h.readAt
      · exact h.dropHalves.answer
    · exact h.dropHalves.answer

theorem Keeps.readDevice (h : Keeps .any s₀ s) {who : Who} {off size : Nat} : Keeps .any s₀ (s.readDevice who off size) := by
  unfold State.readDevice
  split
  · exact h.dropHalves.answer
  · split
    · exact h.dropHalves.answer
    · dsimp only
      split
      · exact h.wakeBlock.dropHalves.answer
      · exact h.wakeBlock.readAt

theorem Keeps.readDebug (h : Keeps .any s₀ s) {who : Who} {off size : Nat} : Keeps .any s₀ (s.readDebug who off size) := by
  unfold State.readDebug; exact .ite h.dropHalves.takeFree.answer (.ite h.dropHalves.answer h.readWord)

theorem Keeps.execLowHalfRead (h : Keeps .any s₀ s) {who : Who} {bar off size : Nat} :
    Answers .any s₀ (execLowHalfRead who bar off size s) := by
  unfold Machine.execLowHalfRead
  dsimp only
  split
  · exact .next h
  · split
    · exact .ite (.next h) (.ite (.next h.squareRuns.dropHalves.accessError.answer)
      (.ite (.next h.squareRuns.readWord) (.ite (.next h.squareRuns.readDebug)
        (.ite (.next h.squareRuns.readWindow) (.ite (.next h.squareRuns.dropHalves.accessError) (.next h.squareRuns.readDevice))))))
    · exact .ite (.next h) (.ite (.next h.squareRuns.dropHalves.answer) (.next h.squareRuns.readDevice))
    · exact .next h

end Sys2Proof.Machine
end

section
/-! PROOF. Machine/StartUp, start-up and charter recovery: every operation keeps the queue and a canonical register file. -/

namespace Sys2Proof.Machine

set_option Elab.async false

variable {s₀ s : State}

theorem Keeps.applyParam (h : Keeps .any s₀ s) {id v : Nat} : Keeps .any s₀ (s.applyParam id v) := by
  unfold State.applyParam
  split
  · exact h.wr
  · exact h.wr.wr
  · exact h.wr
  · exact h.wr
  · exact h.wr
  · exact h.setReg
  · exact h.parts
  · exact h.wr.wr.wr
  · exact h.parts
  · exact h.parts
  · exact h.parts
  · exact h

theorem Keeps.enterReady (h : Keeps .any s₀ s) {copy : Nat} {b : List Byte} : Keeps .any s₀ (s.enterReady copy b) := by
  unfold State.enterReady
  extract_lets +onlyGivenNames s1 s2 s3 s4 s5
  have h1 : Keeps .any s₀ s1 := h.parts.foldl fun _ _ h => h.applyParam
  have h3 : Keeps .any s₀ s3 := h1.wr.wr.foldl fun _ _ h => h.showClerk
  have h4 : Keeps .any s₀ s4 := h3.foldl fun _ _ h => h.catchUp
  exact h4.wr.fnEvent.withWarden

theorem Keeps.applyRepair (h : Keeps .any s₀ s) {r : Repair} : Keeps .any s₀ (s.applyRepair r) := by
  unfold State.applyRepair
  split
  · exact h.parts
  · exact h.wr.modStall
  · exact h.modRow.setStState

theorem Keeps.execStartUp (h : Keeps .any s₀ s) {a b c : Nat} {fitted : List Nat} :
    Answers .any s₀ (execStartUp a b c fitted s) := by
  unfold Machine.execStartUp
  split
  · exact .next h
  · extract_lets +onlyGivenNames sel _ s1 s2 s3 _ s4
    have h1 : Keeps .any s₀ s1 := h.parts
    have h2 : Keeps .any s₀ s2 := h1.wr.wr
    have h3 : Keeps .any s₀ s3 := h2.foldl fun _ _ h => h.applyRepair
    have h4 : Keeps .any s₀ s4 := h3.parts
    exact .ite (.next h4) (.ite (.next h4.wr) (.next (h4.wr.foldl fun _ _ h => h.setMemUnit)))

theorem Keeps.trainUnit (h : Keeps .any s₀ s) {t : TrainIn} {u : Nat} : Keeps .any s₀ (s.trainUnit t u) := by
  unfold State.trainUnit
  dsimp only
  split
  · exact h.setMemUnit
  · exact .ite h.bump.setMemUnit.memFlag (.ite h.bump.wr.setMemUnit.memFlag h.bump.wr.setMemUnit.parts)

theorem Keeps.trainMemory (h : Keeps .any s₀ s) {t : TrainIn} : Keeps .any s₀ (s.trainMemory t) := by
  unfold State.trainMemory
  exact .foldl (.foldl (.wr (h.foldl fun _ _ h => h.trainUnit)) fun _ _ h => h.wr) fun _ _ h => h.bump

theorem Keeps.rebuildJournal (h : Keeps .any s₀ s) {bad : List Nat} : Keeps .any s₀ (s.rebuildJournal bad) := by
  unfold State.rebuildJournal; exact .stockStart (h.foldl fun _ _ h => h.setJrn.faultLog)

theorem Keeps.execStartUpReady (h : Keeps .any s₀ s) {t : TrainIn} {bad : List Nat} {copyA copyB : List Byte} :
    Answers .any s₀ (execStartUpReady t bad copyA copyB s) := by
  unfold Machine.execStartUpReady
  exact .ite (.next h) (.ite (.next h.trainMemory.rebuildJournal)
    (.ite (.next h.trainMemory.rebuildJournal.enterReady) (.ite (.next h.trainMemory.rebuildJournal.enterReady)
      (.next h.trainMemory.rebuildJournal.wr.wr.faultLog))))

theorem Keeps.recoveryGo (h : Keeps .any s₀ s) {act : State → State}
    (hact : ∀ t, Keeps .any s₀ t → Keeps .any s₀ (act t)) :
    Keeps .any s₀ (s.recoveryGo act) := by
  unfold State.recoveryGo; exact .ite (h.doeGo (fun _ h => (hact _ h))) h

theorem Keeps.recoveryAnswer (h : Keeps .any s₀ s) {msg st : Nat} : Keeps .any s₀ (s.recoveryAnswer msg st) := by
  unfold State.recoveryAnswer; exact h.send

theorem Keeps.execRecoveryBegin (h : Keeps .any s₀ s) {size : Nat} : Answers .any s₀ (execRecoveryBegin size s) := by
  unfold Machine.execRecoveryBegin; exact .next (h.recoveryGo (fun _ h => .ite h.parts.recoveryAnswer h.recoveryAnswer))

theorem Keeps.execRecoveryData (h : Keeps .any s₀ s) {offset : Nat} {data : List Byte} :
    Answers .any s₀ (execRecoveryData offset data s) := by
  unfold Machine.execRecoveryData
  exact .next (h.recoveryGo (fun _ h => by
    split
    · exact h.recoveryAnswer
    · exact .ite h.recoveryAnswer (.ite h.recoveryAnswer h.parts.recoveryAnswer)))

theorem Keeps.execRecoveryEnd (h : Keeps .any s₀ s) {copyErr fwErr : MemErr} :
    Answers .any s₀ (execRecoveryEnd copyErr fwErr s) := by
  unfold Machine.execRecoveryEnd
  exact .next (h.recoveryGo (fun _ h => by
    split
    · exact h.recoveryAnswer
    · dsimp only
      split
      · exact h.parts.corrected.corrected.memUE.deviceFault
      · exact .ite h.parts.corrected.corrected.recoveryAnswer.wr.bump.stockStart.enterReady h.parts.corrected.corrected.recoveryAnswer))

end Sys2Proof.Machine
end

section
/-! PROOF. Every command answers a next state that keeps the queue and a canonical register file (O58), and so does every step (O59). -/

namespace Sys2Proof

open Machine

namespace Machine

set_option Elab.async false

variable {s₀ s : State}

/-- A command answers, and changes nothing that no command may change. -/
theorem Keeps.exec (h : Keeps .any s₀ s) (c : Instr) : Answers .any s₀ (exec c s) :=
  match c with
  | .registerWrite .. => h.execRegisterWrite
  | .lowHalfRead .. => h.execLowHalfRead
  | .stlClipCntRead .. => h.execStlClipCntRead
  | .stlRefusedCntRead .. => h.execStlRefusedCntRead
  | .wdnMonDataRead .. => h.execWdnMonDataRead
  | .wakeRequest .. => h.execWakeRequest
  | .wakeComplete .. => h.execWakeComplete
  | .clockGatedEntry .. => h.execClockGatedEntry
  | .biasOffEntry .. => h.execBiasOffEntry
  | .descriptorArrival .. => h.execDescriptorArrival
  | .stlCtlWrite .. => h.execStlCtlWrite
  | .strikeIssue .. => h.execStrikeIssue
  | .widenedPairIssue .. => h.execWidenedPairIssue
  | .transposeStrikeIssue .. => h.execTransposeStrikeIssue
  | .stagingBankWrite .. => h.execStagingBankWrite
  | .strikeCodesReceived .. => h.execStrikeCodesReceived
  | .sliceSubstitution .. => h.execSliceSubstitution
  | .stlSliceMapWrite .. => h.execStlSliceMapWrite
  | .planeSwap .. => h.execPlaneSwap
  | .trimDataWrite .. => h.execTrimDataWrite
  | .trimStep .. => h.execTrimStep
  | .overflowPassEnd .. => h.execOverflowPassEnd
  | .ledgerRowRetry .. => h.execLedgerRowRetry
  | .strikeRelease .. => h.execStrikeRelease
  | .vectorArrival .. => h.execVectorArrival
  | .quantiseVector .. => h.execQuantiseVector
  | .clipReplay .. => h.execClipReplay
  | .clipSplit .. => h.execClipSplit
  | .tileForceWide .. => h.execTileForceWide
  | .tileReleaseForce .. => h.execTileReleaseForce
  | .tileSetHold .. => h.execTileSetHold
  | .stepMarker .. => h.execStepMarker
  | .holdExpiry .. => h.execHoldExpiry
  | .wideStormEvaluation .. => h.execWideStormEvaluation
  | .refusalMarker .. => h.execRefusalMarker
  | .reductionOutput .. => h.execReductionOutput
  | .drainRequest .. => h.execDrainRequest
  | .drainRelease .. => h.execDrainRelease
  | .drainComplete .. => h.execDrainComplete
  | .stockingJobStart .. => h.execStockingJobStart
  | .touchupRestock .. => h.execTouchupRestock
  | .stockingAbort .. => h.execStockingAbort
  | .scrubCrateNow .. => h.execScrubCrateNow
  | .crateProgramStart .. => h.execCrateProgramStart
  | .crateProgramEnd .. => h.execCrateProgramEnd
  | .settlePauseEnd .. => h.execSettlePauseEnd
  | .touchupPassStart .. => h.execTouchupPassStart
  | .touchupPassEnd .. => h.execTouchupPassEnd
  | .scrubDue .. => h.execScrubDue
  | .scrubCrateDone .. => h.execScrubCrateDone
  | .modelLoad .. => h.execModelLoad
  | .modelUnload .. => h.execModelUnload
  | .shardRefetch .. => h.execShardRefetch
  | .releaseHeld .. => h.execReleaseHeld
  | .shardArrival .. => h.execShardArrival
  | .slotReady .. => h.execSlotReady
  | .slotRetired .. => h.execSlotRetired
  | .shardScrubDue .. => h.execShardScrubDue
  | .planeLoadRequest .. => h.execPlaneLoadRequest
  | .planeLoadStart .. => h.execPlaneLoadStart
  | .planeLoadDone .. => h.execPlaneLoadDone
  | .decodeAttention .. => h.execDecodeAttention
  | .freshBlockMerge .. => h.execFreshBlockMerge
  | .pageManagerChange .. => h.execPageManagerChange
  | .parkSequence .. => h.execParkSequence
  | .resumeSequence .. => h.execResumeSequence
  | .kvSlotCfgWrite .. => h.execKvSlotCfgWrite
  | .slipSeal .. => h.execSlipSeal
  | .generate .. => h.execGenerate
  | .cancel .. => h.execCancel
  | .streamOpen .. => h.execStreamOpen
  | .frame .. => h.execFrame
  | .streamClose .. => h.execStreamClose
  | .tune .. => h.execTune
  | .sequenceActivate .. => h.execSequenceActivate
  | .stepStart .. => h.execStepStart
  | .stepEnd .. => h.execStepEnd
  | .emptyStep .. => h.execEmptyStep
  | .stormCeilingLower .. => h.execStormCeilingLower
  | .stormCeilingRestore .. => h.execStormCeilingRestore
  | .positionStart .. => h.execPositionStart
  | .positionEnd .. => h.execPositionEnd
  | .positionCommit .. => h.execPositionCommit
  | .msiModerationTimeout .. => h.execMsiModerationTimeout
  | .rollRidxPoll .. => h.execRollRidxPoll
  | .verifyPass .. => h.execVerifyPass
  | .specPauseEnd .. => h.execSpecPauseEnd
  | .frameInEdge .. => h.execFrameInEdge
  | .framePeriodTick .. => h.execFramePeriodTick
  | .frameComplete .. => h.execFrameComplete
  | .funcCeilWrite .. => h.execFuncCeilWrite
  | .adapterLoad .. => h.execAdapterLoad
  | .adapterUnload .. => h.execAdapterUnload
  | .roundEnd .. => h.execRoundEnd
  | .portEnable .. => h.execPortEnable
  | .portRetrain .. => h.execPortRetrain
  | .trainingTrialFail .. => h.execTrainingTrialFail
  | .hello .. => h.execHello
  | .helloTimer .. => h.execHelloTimer
  | .idleFrame .. => h.execIdleFrame
  | .reach .. => h.execReach
  | .reachTimer .. => h.execReachTimer
  | .nak .. => h.execNak
  | .down .. => h.execDown
  | .dataFrame .. => h.execDataFrame
  | .uncorrectableCodeword .. => h.execUncorrectableCodeword
  | .ackTimeout .. => h.execAckTimeout
  | .cartSend .. => h.execCartSend
  | .dispatch .. => h.execDispatch
  | .returnCart .. => h.execReturnCart
  | .part .. => h.execPart
  | .receipt .. => h.execReceipt
  | .retract .. => h.execRetract
  | .fence .. => h.execFence
  | .unfence .. => h.execUnfence
  | .homeTableLoad .. => h.execHomeTableLoad
  | .homeTableClear .. => h.execHomeTableClear
  | .homeWaitTimeout .. => h.execHomeWaitTimeout
  | .receiptSend .. => h.execReceiptSend
  | .pendingTimeout .. => h.execPendingTimeout
  | .probeStrike .. => h.execProbeStrike
  | .pairCompare .. => h.execPairCompare
  | .inspectorJobStart .. => h.execInspectorJobStart
  | .inspectorVerdict .. => h.execInspectorVerdict
  | .disputeDeadline .. => h.execDisputeDeadline
  | .checksumReloadDone .. => h.execChecksumReloadDone
  | .granuleRetire .. => h.execGranuleRetire
  | .patrolScrub .. => h.execPatrolScrub
  | .scrubPeriodEnd .. => h.execScrubPeriodEnd
  | .t2SelfRefreshEntry .. => h.execT2SelfRefreshEntry
  | .periodicRetrain .. => h.execPeriodicRetrain
  | .linkTrainingDone .. => h.execLinkTrainingDone
  | .powerStateWrite .. => h.execPowerStateWrite
  | .msixUnmask .. => h.execMsixUnmask
  | .invalidationRequest .. => h.execInvalidationRequest
  | .hostReadFailure .. => h.execHostReadFailure
  | .quotaWrite .. => h.execQuotaWrite
  | .storeRegister .. => h.execStoreRegister
  | .storeWithdraw .. => h.execStoreWithdraw
  | .functionLevelReset .. => h.execFunctionLevelReset
  | .pfFunctionLevelReset .. => h.execPfFunctionLevelReset
  | .flrComplete .. => h.execFlrComplete
  | .numvfsWrite .. => h.execNumvfsWrite
  | .linkReset .. => h.execLinkReset
  | .doeDiscovery .. => h.execDoeDiscovery
  | .doeAbort .. => h.execDoeAbort
  | .handlerEntry .. => h.execHandlerEntry
  | .handlerExit .. => h.execHandlerExit
  | .clerkWfi .. => h.execClerkWfi
  | .clerkClockGate .. => h.execClerkClockGate
  | .squarePllStop .. => h.execSquarePllStop
  | .squarePllRestart .. => h.execSquarePllRestart
  | .softwareEventSet .. => h.execSoftwareEventSet
  | .clerkTimerExpiry .. => h.execClerkTimerExpiry
  | .eventNorouteTimeout .. => h.execEventNorouteTimeout
  | .modeChange .. => h.execModeChange
  | .modeAbort .. => h.execModeAbort
  | .barrier .. => h.execBarrier
  | .barrierComplete .. => h.execBarrierComplete
  | .modeCloseComplete .. => h.execModeCloseComplete
  | .modeOpen .. => h.execModeOpen
  | .modeCloseTimeout .. => h.execModeCloseTimeout
  | .modeStageTimeout .. => h.execModeStageTimeout
  | .modeOpenResend .. => h.execModeOpenResend
  | .unitCatchup .. => h.execUnitCatchup
  | .calibrationQueue .. => h.execCalibrationQueue
  | .referenceReestimate .. => h.execReferenceReestimate
  | .spareStallSubstitute .. => h.execSpareStallSubstitute
  | .calibrationWithdraw .. => h.execCalibrationWithdraw
  | .calibrationRunStart .. => h.execCalibrationRunStart
  | .blockModeSwitch .. => h.execBlockModeSwitch
  | .calibrationFit .. => h.execCalibrationFit
  | .periodicCalibration .. => h.execPeriodicCalibration
  | .repairAssign .. => h.execRepairAssign
  | .selfTestLogic .. => h.execSelfTestLogic
  | .selfTestMemory .. => h.execSelfTestMemory
  | .selfTestConverter .. => h.execSelfTestConverter
  | .crateLineTest .. => h.execCrateLineTest
  | .selfTestAll .. => h.execSelfTestAll
  | .selfTestWithdraw .. => h.execSelfTestWithdraw
  | .selfTestDeferredStart .. => h.execSelfTestDeferredStart
  | .selfTestDone .. => h.execSelfTestDone
  | .fuseBurn .. => h.execFuseBurn
  | .shutWaitTimeout .. => h.execShutWaitTimeout
  | .wardenRound .. => h.execWardenRound
  | .orderlyStopComplete .. => h.execOrderlyStopComplete
  | .restart .. => h.execRestart
  | .restartRailTimeout .. => h.execRestartRailTimeout
  | .vsetWrite .. => h.execVsetWrite
  | .monitorPassStart .. => h.execMonitorPassStart
  | .monitorResult .. => h.execMonitorResult
  | .tripCounterExpiry .. => h.execTripCounterExpiry
  | .clkAoLoss .. => h.execClkAoLoss
  | .svnCommit .. => h.execSvnCommit
  | .keyDataWrite .. => h.execKeyDataWrite
  | .tenantKeyInstall .. => h.execTenantKeyInstall
  | .modelKeyInstall .. => h.execModelKeyInstall
  | .tenantKeyClear .. => h.execTenantKeyClear
  | .modelKeyClear .. => h.execModelKeyClear
  | .getVersion .. => h.execGetVersion
  | .getCapabilities .. => h.execGetCapabilities
  | .negotiateAlgorithms .. => h.execNegotiateAlgorithms
  | .getDigests .. => h.execGetDigests
  | .getCertificate .. => h.execGetCertificate
  | .challenge .. => h.execChallenge
  | .getMeasurements .. => h.execGetMeasurements
  | .keyExchange .. => h.execKeyExchange
  | .finish .. => h.execFinish
  | .heartbeat .. => h.execHeartbeat
  | .keyUpdate .. => h.execKeyUpdate
  | .endSession .. => h.execEndSession
  | .getCsr .. => h.execGetCsr
  | .setCertificate .. => h.execSetCertificate
  | .setTenantKey .. => h.execSetTenantKey
  | .setModelKey .. => h.execSetModelKey
  | .getNonce .. => h.execGetNonce
  | .openSession .. => h.execOpenSession
  | .closeSession .. => h.execCloseSession
  | .coldPowerOn .. => h.execColdPowerOn
  | .perstNFall .. => h.execPerstNFall
  | .pwrOkFall .. => h.execPwrOkFall
  | .deviceReset .. => h.execDeviceReset
  | .quarterReset .. => h.execQuarterReset
  | .rowReset .. => h.execRowReset
  | .stallReset .. => h.execStallReset
  | .startUp .. => h.execStartUp
  | .startUpReady .. => h.execStartUpReady
  | .recoveryBegin .. => h.execRecoveryBegin
  | .recoveryData .. => h.execRecoveryData
  | .recoveryEnd .. => h.execRecoveryEnd
  | .watchdogKick .. => h.execWatchdogKick
  | .watchdogExpiry .. => h.execWatchdogExpiry
  | .bridgeFlitFailure .. => h.execBridgeFlitFailure
  | .trainingTrialPass .. => h.execTrainingTrialPass
  | .stoppingChainRead .. => h.execStoppingChainRead
  | .clkAoReturn .. => h.execClkAoReturn
  | .vddAoLoss .. => h.execVddAoLoss
  | .doeObjectError .. => h.execDoeObjectError
  | .mctpControlMessage .. => h.execMctpControlMessage

theorem Keeps.tick (h : Keeps .any s₀ s) : Keeps .any s₀ s.tick := by
  unfold State.tick; exact .ite h.parts.bump h

end Machine

/-- Settles O58: the rules of every command's meaning, from the state itself. -/
theorem everyCommandAnswers : Obligations.EveryCommandAnswers := by
  intro c s
  obtain ⟨t, ht, hk⟩ := (Keeps.refl .any s).exec c
  exact ⟨t, ht, hk.part .pending rfl⟩

/-- A step keeps the canonical form and takes at most the front command off the queue. -/
theorem step_keeps {s t : State} (h : step s = .next t) : (s.regsWf → t.regsWf) ∧ t.pending = s.pending.tail := by
  unfold step at h
  cases hq : s.pending with
  | nil =>
    simp only [hq] at h
    obtain ⟨hwf, hpart, -⟩ := (Keeps.refl .any s).tick
    cases h
    exact ⟨hwf, (hpart .pending rfl).trans hq⟩
  | cons c rest =>
    simp only [hq] at h
    obtain ⟨hwf, hpart, -⟩ := ((Keeps.refl .any { s with pending := rest }).exec c).keeps h
    exact ⟨hwf, hpart .pending rfl⟩

/-- Settles O59: a command keeps the canonical form of the register file, and the queue only gets shorter. -/
theorem stepKeepsTheInvariant : Obligations.StepKeepsTheInvariant := by
  rintro s t ⟨hwf, hq⟩ h
  obtain ⟨hkeep, hpending⟩ := step_keeps h
  refine ⟨hkeep hwf, fun c hc => hq c ?_⟩
  rw [hpending] at hc
  exact List.mem_of_mem_tail hc

end Sys2Proof
end

section
/-! PROOF. What an access changes before it acts, and what an access error leaves behind (R10, R11, R414, R436). -/

namespace Sys2Proof.Machine

set_option Elab.async false

variable (s : State)

/-! ### A stopped Square PLL runs again (R436) -/

/-- What the restart of the Square PLL may change. -/
def Footprint.pll : Footprint := ⟨(· == .warden), (· == EVC_CLK_STAT)⟩

theorem Keeps.pllRuns : Keeps .pll s s.squareRuns := (Keeps.refl .pll s).squareRuns

theorem State.getReg_squareRuns {r : Reg} (hr : r.off < 8192) (h : r ≠ EVC_CLK_STAT) (i : Nat) : s.squareRuns.getReg r i = s.getReg r i :=
  (Keeps.pllRuns s).reg r i hr (beq_false_of_ne h)

theorem State.rd_squareRuns {F : RField} (hr : F.reg.off < 8192) (h : F.reg ≠ EVC_CLK_STAT) (i : Nat) : s.squareRuns.rd F i = s.rd F i := by
  rw [State.rd, s.getReg_squareRuns hr h, ← State.rd]

@[simp] theorem State.squareRuns_outbox : s.squareRuns.outbox = s.outbox := (Keeps.pllRuns s).part .outbox rfl

@[simp] theorem State.squareRuns_now : s.squareRuns.now = s.now := (Keeps.pllRuns s).part .now rfl

@[simp] theorem State.clerksWake_warden : s.clerksWake.warden = s.warden :=
  ((Keeps.refl ⟨fun _ => false, (· == EVC_CLK_STAT)⟩ s).clerksWake).part .warden rfl

@[simp] theorem State.squareRuns_pllOff : s.squareRuns.warden.pllOff = false := by
  unfold State.squareRuns
  split
  · rw [State.clerksWake_warden]
  next h => exact eq_false_of_ne_true h

@[simp] theorem State.squareRuns_monAt : s.squareRuns.warden.monAt = s.warden.monAt := by
  unfold State.squareRuns
  split
  · rw [State.clerksWake_warden]
  · rfl

@[simp] theorem State.squareRuns_monPrev : s.squareRuns.warden.monPrev = s.warden.monPrev := by
  unfold State.squareRuns
  split
  · rw [State.clerksWake_warden]
  · rfl

/-! ### Reading after a write, and answers -/

theorem State.rd_setReg_same {F : RField} {r : Reg} (h : F.reg = r) (i : Nat) (v : Word64) : (s.setReg r i v).rd F i = F.of v := by
  rw [State.rd, h, State.getReg_setReg_same]

theorem State.send_readData_outbox (k v : Nat) : (s.send (.readData k v)).outbox = s.outbox ++ [.readData k v] := rfl

/-! ### Access errors (R10) -/

/-- What an access error may change. -/
def Footprint.accessError : Footprint := ⟨sendParts.contains, accessRegs.contains⟩

variable {s : State} {bar off f : Nat} {w : Bool}

theorem State.getReg_accessError_of_not_mem (who : Who) {r : Reg} (hr : r.off < 8192) (h : r ∉ accessRegs) (i : Nat) :
    (s.accessError who bar off w).getReg r i = s.getReg r i :=
  (Keeps.refl Footprint.accessError s).accessError.reg r i hr (by simpa [Footprint.accessError] using h)

theorem State.rd_count_accessError :
    (s.accessError (.func f) bar off w).rd TEN_ACCESS_ERR_CNT.V f = (s.rd TEN_ACCESS_ERR_CNT.V f + 1) % 2 ^ 64 := by
  dsimp only [State.accessError, State.tenFault]
  rw [State.rd_flag_free _ (by decide), State.rd_wr_free _ (by decide), State.rd_wr_free _ (by decide), State.rd_wr_free _ (by decide),
    State.rd_bump_val _ (by decide)]
  rfl

theorem State.on_fault_accessError : (s.accessError (.func f) bar off w).on TEN_FAULT.ACCESS f = true := by
  dsimp only [State.accessError, State.tenFault]
  exact State.on_flag_val _ (by decide) f

theorem State.rd_offset_accessError : (s.accessError (.func f) bar off w).rd TEN_FAULT_INFO.OFFSET f = off % 2 ^ 26 := by
  dsimp only [State.accessError, State.tenFault]
  rw [State.rd_flag_free _ (by decide), State.rd_wr_free _ (by decide), State.rd_wr_free _ (by decide), State.rd_wr_val _ (by decide)]
  rfl

theorem State.on_write_accessError : (s.accessError (.func f) bar off w).on TEN_FAULT_INFO.WRITE f = w := by
  dsimp only [State.accessError, State.tenFault]
  rw [State.on_flag_free _ (by decide), State.on, State.rd_wr_val _ (by decide)]
  cases w <;> rfl

end Sys2Proof.Machine
end

section
/-! PROOF. Accesses of whole registers in the function window, and the answer to an access that R10 does not accept. -/

namespace Sys2Proof.Machine

set_option Elab.async false

variable {s : State} {f off size val i : Nat}

/-! ### Accesses that R10 does not accept -/

/-- An access that R10 does not accept: of another size, or not aligned to its size. -/
def oddAccess (off size : Nat) : Prop := (size ≠ 4 ∧ size ≠ 8) ∨ off % size ≠ 0

theorem exec_registerWrite_of_odd (hf : f < 64) (hopen : s.memOpen (.func f) = true) (ho : off < 0x4000000) (hodd : oddAccess off size) :
    exec (.registerWrite (.func f) 0 off size val) s = .next ((s.squareRuns.dropHalves (.func f)).accessError (.func f) 0 off true) := by
  rw [oddAccess] at hodd
  change execRegisterWrite _ _ _ _ _ s = _
  dsimp only [execRegisterWrite]
  rw [if_neg (by simp [hopen]), if_neg (by omega), if_neg (by omega), if_neg (by omega), if_neg (by omega), if_neg (by omega), if_pos hodd]

theorem exec_lowHalfRead_of_odd (hf : f < 64) (hopen : s.memOpen (.func f) = true) (ho : off < 0x4000000) (hodd : oddAccess off size) :
    exec (.lowHalfRead (.func f) 0 off size) s =
      .next (((s.squareRuns.dropHalves (.func f)).accessError (.func f) 0 off false).answer (.func f) (allOnes size)) := by
  rw [oddAccess] at hodd
  change execLowHalfRead _ _ _ _ s = _
  dsimp only [execLowHalfRead]
  rw [if_neg (by simp [hopen]), if_neg (by omega), if_pos hodd]

/-! ### Registers of the function window -/

/-- A register that the device does not change in the cycle of the access is cleared in the register file. -/
theorem State.clearSample_of_apart {r : Reg} (h : s.sameCycle r = false) (i : Nat) (k : Word64 → Word64) :
    s.clearSample r i k = s.setReg r i (k (s.getReg r i)) := by
  rw [State.clearSample, h, if_neg Bool.false_ne_true]

theorem State.regAt_evtEn (s : State) (f : Nat) : s.regAt .fnHost HOST_FN_EVT_EN.off f = some (HOST_FN_EVT_EN.info, f) := rfl

theorem State.regAt_evt (s : State) (f : Nat) : s.regAt .fnHost HOST_FN_EVT.off f = some (HOST_FN_EVT.info, f) := rfl

theorem State.regAt_accessErrCnt (s : State) (f : Nat) :
    s.regAt .fnTen TEN_ACCESS_ERR_CNT.off f = some (TEN_ACCESS_ERR_CNT.info, f) := rfl

/-- A register of the function's host block that a write fills field by field: it has no halves, no command and no lock. -/
structure RegInfo.plain (ri : RegInfo) : Prop where
  blk    : ri.reg.blk = .fnHost
  off    : ri.reg.off < 0x1000
  align  : ri.reg.off % 8 = 0
  narrow : ri.wide = false
  open'  : ri.fields.any (fun f => f.acc == .rl) = false
  known  : ri.reg.info = some ri

theorem plain_evtEn : HOST_FN_EVT_EN.info.plain := ⟨rfl, by decide, by decide, rfl, by decide, rfl⟩

theorem plain_evt : HOST_FN_EVT.info.plain := ⟨rfl, by decide, by decide, rfl, by decide, rfl⟩

theorem RegInfo.plain.ne {ri : RegInfo} (h : ri.plain) {q : Reg} (hq : q.blk ≠ .fnHost) : ri.reg ≠ q :=
  fun e => hq (e ▸ h.blk)

theorem RegInfo.plain.not_odd {ri : RegInfo} (h : ri.plain) (hs : size = 4 ∨ size = 8) : ¬oddAccess ri.reg.off size := by
  have := h.align
  rw [oddAccess]
  obtain rfl | rfl := hs <;> omega

theorem RegInfo.plain.word {ri : RegInfo} (h : ri.plain) : ri.reg.off % 0x1000 / 8 * 8 = ri.reg.off := by
  have := h.off
  have := h.align
  omega

theorem State.writeEffect_of_plain {ri : RegInfo} (h : ri.plain) (s : State) (who : Who) (i u v : Nat) :
    s.writeEffect who ri.reg i u v = s.setReg ri.reg i (ri.write (s.on SEC_STAT.LOCK) v (s.getReg ri.reg i)) := by
  dsimp only [State.writeEffect]
  rw [h.blk]
  dsimp only [State.writeFn]
  rw [if_neg (h.ne (by decide)), Option.getD_none, State.writeReg, h.known]

theorem State.writeAt_of_plain {ri : RegInfo} (h : ri.plain) (s : State) (who : Who) (i u bar v : Nat) (hs : size = 4 ∨ size = 8) :
    s.writeAt who ri i u bar ri.reg.off size v =
      (s.keepHalves who (halfName bar ri.reg.off)).setReg ri.reg i (ri.write (s.on SEC_STAT.LOCK) v (s.getReg ri.reg i)) := by
  have hwhole : ∀ t : State, t.writeWhole who ri i u bar ri.reg.off v = t.writeEffect who ri.reg i u v := fun t => by
    dsimp only [State.writeWhole]
    rw [h.open', Bool.and_false, if_neg Bool.false_ne_true]
  dsimp only [State.writeAt]
  rw [h.narrow, hwhole, State.writeEffect_of_plain h, State.on_keepHalves, State.getReg_keepHalves]
  obtain rfl | rfl := hs
  · rw [if_neg (by decide), if_pos Bool.not_false, if_pos h.align]
  · rw [if_pos rfl]

theorem exec_registerWrite_of_plain {ri : RegInfo} (h : ri.plain) (hreg : ∀ t : State, t.regAt .fnHost ri.reg.off f = some (ri, f)) (hf : f < 64)
    (hopen : s.memOpen (.func f) = true) (hs : size = 4 ∨ size = 8) :
    exec (.registerWrite (.func f) 0 ri.reg.off size val) s =
      .next ((s.squareRuns.keepHalves (.func f) (halfName 0 ri.reg.off)).setReg ri.reg f
        (ri.write (s.squareRuns.on SEC_STAT.LOCK) (val % 2 ^ (8 * size)) (s.squareRuns.getReg ri.reg f))) := by
  have hoff := h.off
  have halign := h.not_odd hs
  rw [oddAccess] at halign
  change execRegisterWrite _ _ _ _ _ s = _
  dsimp only [execRegisterWrite]
  rw [if_neg (by simp [hopen]), if_neg (by omega), if_neg (by omega), if_neg (by omega), if_neg (by omega), if_neg (by omega),
    if_neg halign, if_pos (by omega), State.writeWindow]
  dsimp only
  rw [if_pos hoff, h.word, hreg]
  dsimp only
  rw [State.writeAt_of_plain h _ _ _ _ _ _ hs]

theorem State.sameCycle_of_plain {ri : RegInfo} (h : ri.plain) (s : State) : s.sameCycle ri.reg = false := by
  rw [State.sameCycle, beq_false_of_ne (h.ne (by decide)), Bool.false_and]

theorem State.view_of_plain {ri : RegInfo} (h : ri.plain) (hid : ri.reg ≠ HOST_FN_ID) (s : State) (i u : Nat) :
    s.view ri.reg i u = s.getReg ri.reg i := by
  dsimp only [State.view]
  rw [h.blk]
  dsimp only [State.viewFn]
  rw [if_neg hid, if_neg (h.ne (by decide)), if_neg (h.ne (by decide)), if_neg (h.ne (by decide))]

/-- What a read of such a register does: it answers the word and clears what the access codes say. -/
theorem State.readAt_of_plain {ri : RegInfo} (h : ri.plain) (hid : ri.reg ≠ HOST_FN_ID) (s : State) (who : Who) (i u bar : Nat)
    (hs : size = 4 ∨ size = 8) :
    s.readAt who ri i u bar ri.reg.off size =
      ((s.keepHalves who (halfName bar ri.reg.off)).setReg ri.reg i (ri.clearRead false (s.getReg ri.reg i))).answer who
        ((ri.readValue (s.getReg ri.reg i)).toNat % 2 ^ (8 * size)) := by
  dsimp only [State.readAt]
  rw [State.clearSample_of_apart (State.sameCycle_of_plain h _), State.sameCycle_of_plain h, State.view_of_plain h hid,
    State.getReg_keepHalves, h.narrow]
  obtain rfl | rfl := hs
  · rw [if_neg (by decide), if_pos h.align]
    rfl
  · rw [if_pos rfl, Nat.mod_eq_of_lt (BitVec.isLt _)]
    rfl

theorem exec_lowHalfRead_of_plain {ri : RegInfo} (h : ri.plain) (hid : ri.reg ≠ HOST_FN_ID)
    (hreg : ∀ t : State, t.regAt .fnHost ri.reg.off f = some (ri, f)) (hf : f < 64) (hopen : s.memOpen (.func f) = true)
    (hs : size = 4 ∨ size = 8) :
    exec (.lowHalfRead (.func f) 0 ri.reg.off size) s =
      .next (((s.squareRuns.keepHalves (.func f) (halfName 0 ri.reg.off)).setReg ri.reg f
        (ri.clearRead false (s.squareRuns.getReg ri.reg f))).answer (.func f)
        ((ri.readValue (s.squareRuns.getReg ri.reg f)).toNat % 2 ^ (8 * size))) := by
  have hoff := h.off
  have halign := h.not_odd hs
  rw [oddAccess] at halign
  change execLowHalfRead _ _ _ _ s = _
  dsimp only [execLowHalfRead]
  rw [if_neg (by simp [hopen]), if_neg (by omega), if_neg halign, if_neg (by omega), if_neg (by omega), if_pos (by omega),
    State.readWindow]
  dsimp only
  rw [if_pos hoff, h.word, hreg]
  dsimp only
  rw [State.readAt_of_plain h hid _ _ _ _ _ hs]

end Sys2Proof.Machine
end

section
/-! PROOF. Accesses that R10 does not accept are dropped and counted; aligned ones act (O38). -/

namespace Sys2Proof

open Machine

set_option Elab.async false

/-- A field at the foot of its register, put into an empty word, is the word. -/
theorem Machine.RField.put_zero_toNat {F : RField} (hlo : F.lo = 0) (hwd : F.wd ≤ 64) (v : Nat) : (F.put 0 v).toNat = v % 2 ^ F.wd := by
  have hlt : v % 2 ^ F.wd < 2 ^ 64 := (Nat.mod_lt _ (by positivity)).trans_le (Nat.pow_le_pow_right (by norm_num) hwd)
  rw [RField.put, BitVec.toNat_ofNat, hlo]
  simpa using Nat.mod_eq_of_lt hlt

variable {s : State} {f size val : Nat}

theorem Machine.of_write_evtEn (locked : Bool) (v : Nat) (w : Word64) : HOST_FN_EVT_EN.EN.of (HOST_FN_EVT_EN.info.write locked v w) = v % 64 := by
  change HOST_FN_EVT_EN.EN.of (HOST_FN_EVT_EN.EN.put w (bitsOf v 0 6)) = _
  rw [RField.of_put HOST_FN_EVT_EN.EN (show 0 + 6 ≤ 64 by decide), bitsOf]
  change v / 2 ^ 0 % 2 ^ 6 % 2 ^ 6 = v % 64
  omega

theorem Machine.readValue_evtEn (w : Word64) : (HOST_FN_EVT_EN.info.readValue w).toNat = HOST_FN_EVT_EN.EN.of w := by
  change (HOST_FN_EVT_EN.EN.put 0 (HOST_FN_EVT_EN.EN.of w)).toNat = _
  rw [RField.put_zero_toNat rfl (by decide), Nat.mod_eq_of_lt (RField.of_lt _ _)]

/-- A dropped write changes nothing but the fault record. -/
theorem dropped_write_counts {off size : Nat} (hf : f < 64) (hopen : s.memOpen (.func f) = true) (ho : off < 0x4000000) (hodd : oddAccess off size) :
    ∃ t, exec (.registerWrite (.func f) 0 off size val) s = .next t ∧ t.rd TEN_ACCESS_ERR_CNT.V f = (s.rd TEN_ACCESS_ERR_CNT.V f + 1) % 2 ^ 64 ∧
      t.on TEN_FAULT.ACCESS f = true ∧ t.rd TEN_FAULT_INFO.OFFSET f = off ∧ t.on TEN_FAULT_INFO.WRITE f = true ∧
      ∀ (r : Reg) (i : Nat), r.off < 8192 → r ∉ accessRegs → t.getReg r i = s.squareRuns.getReg r i := by
  refine ⟨_, exec_registerWrite_of_odd hf hopen ho hodd, ?_, State.on_fault_accessError, ?_, State.on_write_accessError, fun r i hr h => ?_⟩
  · rw [State.rd_count_accessError, State.rd_dropHalves, State.rd_squareRuns _ (by decide) (by decide)]
  · rw [State.rd_offset_accessError, Nat.mod_eq_of_lt (by omega)]
  · rw [State.getReg_accessError_of_not_mem _ hr h, State.getReg_dropHalves]

theorem odd_read_counts {off size : Nat} (hf : f < 64) (hopen : s.memOpen (.func f) = true) (ho : off < 0x4000000) (hodd : oddAccess off size) :
    ∃ t, exec (.lowHalfRead (.func f) 0 off size) s = .next t ∧ t.rd TEN_ACCESS_ERR_CNT.V f = (s.rd TEN_ACCESS_ERR_CNT.V f + 1) % 2 ^ 64 ∧
      t.on TEN_FAULT.ACCESS f = true ∧ t.rd TEN_FAULT_INFO.OFFSET f = off ∧ t.on TEN_FAULT_INFO.WRITE f = false ∧
      t.outbox.getLast? = some (.readData f (2 ^ (8 * size) - 1)) := by
  refine ⟨_, exec_lowHalfRead_of_odd hf hopen ho hodd, ?_, ?_, ?_, ?_, List.getLast?_concat⟩
  · rw [State.answer, State.rd_send, State.rd_count_accessError, State.rd_dropHalves, State.rd_squareRuns _ (by decide) (by decide)]
  · rw [State.answer, State.on_send, State.on_fault_accessError]
  · rw [State.answer, State.rd_send, State.rd_offset_accessError, Nat.mod_eq_of_lt (by omega)]
  · rw [State.answer, State.on_send, State.on_write_accessError]

theorem aligned_write_acts (hf : f < 64) (hopen : s.memOpen (.func f) = true) (hs : size = 4 ∨ size = 8) :
    ∃ t, exec (.registerWrite (.func f) 0 HOST_FN_EVT_EN.off size val) s = .next t ∧ t.rd HOST_FN_EVT_EN.EN f = val % 64 ∧
      t.rd TEN_ACCESS_ERR_CNT.V f = s.rd TEN_ACCESS_ERR_CNT.V f := by
  refine ⟨_, exec_registerWrite_of_plain plain_evtEn (State.regAt_evtEn · f) hf hopen hs, ?_, ?_⟩
  · rw [State.rd_setReg_same _ (show HOST_FN_EVT_EN.EN.reg = HOST_FN_EVT_EN.info.reg from rfl), of_write_evtEn]
    obtain rfl | rfl := hs <;> exact Nat.mod_mod_of_dvd _ (by decide)
  · rw [State.rd_setReg_other _ (by decide), State.rd_keepHalves, State.rd_squareRuns _ (by decide) (by decide)]

theorem aligned_read_answers (hf : f < 64) (hopen : s.memOpen (.func f) = true) (hs : size = 4 ∨ size = 8) :
    ∃ t, exec (.lowHalfRead (.func f) 0 HOST_FN_EVT_EN.off size) s = .next t ∧ t.outbox = s.outbox ++ [.readData f (s.rd HOST_FN_EVT_EN.EN f)] ∧
      t.rd TEN_ACCESS_ERR_CNT.V f = s.rd TEN_ACCESS_ERR_CNT.V f := by
  refine ⟨_, exec_lowHalfRead_of_plain plain_evtEn (by decide) (State.regAt_evtEn · f) hf hopen hs, ?_, ?_⟩
  · rw [State.answer, State.send_readData_outbox, State.setReg_outbox, State.keepHalves_outbox, State.squareRuns_outbox, readValue_evtEn,
      Nat.mod_eq_of_lt, State.getReg_squareRuns _ (by decide) (by decide)]
    · rfl
    · exact (RField.of_lt _ _).trans_le (by obtain rfl | rfl := hs <;> decide)
  · rw [State.answer, State.rd_send, State.rd_setReg_other _ (by decide), State.rd_keepHalves, State.rd_squareRuns _ (by decide) (by decide)]

/-- Settles O38: an access that R10 does not accept is an access error and nothing else; the aligned ones are witnessed on HOST_FN_EVT_EN. -/
theorem onlyAlignedWordsAreAccepted : Obligations.OnlyAlignedWordsAreAccepted := fun _ _ hf hopen =>
  ⟨fun _ _ _ ho hodd => ⟨dropped_write_counts hf hopen ho hodd, odd_read_counts hf hopen ho hodd⟩,
    fun _ _ hs => ⟨aligned_write_acts hf hopen hs, aligned_read_answers hf hopen hs⟩⟩

end Sys2Proof
end

section
/-! PROOF. A field that the device changes in the cycle of an access (R8, R46, R50): bit by bit. -/

namespace Sys2Proof.Machine

set_option Elab.async false

theorem bitAt_eq_testBit (v n : Nat) : bitAt v n = v.testBit n := by
  rw [bitAt, bitsOf, Nat.testBit_eq_decide_div_mod_eq]
  simp [beq_eq_decide]

theorem testBit_bitsOf (v lo wd k : Nat) : (bitsOf v lo wd).testBit k = (decide (k < wd) && v.testBit (lo + k)) := by
  rw [bitsOf, Nat.testBit_mod_two_pow, Nat.testBit_div_two_pow, Nat.add_comm]

/-- Taking away the bits that another number has clears them. -/
theorem testBit_sub_and (a b k : Nat) : (a - (a &&& b)).testBit k = (a.testBit k && !b.testBit k) := by
  have hle : a &&& b ≤ a := Nat.and_le_left
  have hlow := Nat.testBit_and a b 0
  simp only [Nat.testBit_zero, ← Bool.decide_and, decide_eq_decide] at hlow
  induction k generalizing a b with
  | zero =>
    rw [Bool.eq_iff_iff]
    simp only [Nat.testBit_zero, Bool.and_eq_true, Bool.not_eq_true', decide_eq_true_eq, decide_eq_false_iff_not]
    omega
  | succ k ih =>
    have hhalf : (a - (a &&& b)) / 2 = a / 2 - (a / 2 &&& b / 2) := by
      rw [← Nat.and_div_two]
      omega
    simp only [Nat.testBit_succ, hhalf]
    refine ih _ _ Nat.and_le_left ?_
    have hlow := Nat.testBit_and (a / 2) (b / 2) 0
    simpa only [Nat.testBit_zero, ← Bool.decide_and, decide_eq_decide] using hlow

variable {F : RField} {locked : Bool} {v m : Nat} {w : Word64}

theorem RField.sameCycle_w1c (hfit : F.fits) (hacc : F.acc = .w1c) {k : Nat} (hk : k < F.wd) :
    bitAt (RField.sameCycle locked v (fun x => F.put x (Nat.lor (F.of x) m)) w F) k =
      (bitAt m k || (bitAt (F.of w) k && !bitAt (bitsOf v F.lo F.wd) k)) := by
  have hwrite : F.of (RField.write locked v w F) = F.of w - Nat.land (F.of w) (bitsOf v F.lo F.wd) := by
    simp only [RField.write, hacc]
    rw [RField.of_put F hfit, Nat.mod_eq_of_lt ((Nat.sub_le _ _).trans_lt (RField.of_lt F w))]
  simp only [RField.sameCycle, hacc, bitAt_eq_testBit]
  rw [RField.of_put F hfit, hwrite, Nat.testBit_mod_two_pow, decide_eq_true hk, Bool.true_and]
  change (F.of w - (F.of w &&& bitsOf v F.lo F.wd) ||| m).testBit k = _
  rw [Nat.testBit_or, testBit_sub_and, Bool.or_comm]

theorem RField.sameCycle_w1s (hfit : F.fits) (hacc : F.acc = .w1s) {k : Nat} (hk : k < F.wd) :
    bitAt (RField.sameCycle locked v (fun x => F.put x (F.of x - Nat.land (F.of x) m)) w F) k =
      (bitAt (bitsOf v F.lo F.wd) k || (bitAt (F.of w) k && !bitAt m k)) := by
  have hdev : F.of (F.put w (F.of w - Nat.land (F.of w) m)) = F.of w - Nat.land (F.of w) m := by
    rw [RField.of_put F hfit, Nat.mod_eq_of_lt ((Nat.sub_le _ _).trans_lt (RField.of_lt F w))]
  simp only [RField.sameCycle, RField.write, hacc, bitAt_eq_testBit]
  rw [RField.of_put F hfit, hdev, Nat.testBit_mod_two_pow, decide_eq_true hk, Bool.true_and]
  change (F.of w - (F.of w &&& m) ||| bitsOf v F.lo F.wd).testBit k = _
  rw [Nat.testBit_or, testBit_sub_and, Bool.or_comm]

theorem RField.sameCycle_rw (hfit : F.fits) (hacc : F.acc = .rw) (hflt : F.flt = .any) :
    RField.sameCycle locked v (fun x => F.put x m) w F = bitsOf v F.lo F.wd := by
  simp only [RField.sameCycle, RField.write, hacc, hflt, WriteFilter.apply]
  rw [RField.of_put F hfit]
  exact Nat.mod_mod _ _

theorem RField.sameCycle_rc (hfit : F.fits) (hacc : F.acc = .rc) (hrst : F.rst = 0) :
    RField.sameCycle locked v (fun x => F.put x (F.of x + m)) w F = m % 2 ^ F.wd := by
  simp only [RField.sameCycle, hacc, hrst]
  rw [RField.of_put F hfit, RField.of_put F hfit, Nat.zero_mod, Nat.zero_add]

end Sys2Proof.Machine
end

section
/-! PROOF. Register writes and reads complete with the effect of their access codes (O1). -/

namespace Sys2Proof

open Machine

set_option Elab.async false

namespace Machine

variable {s : State} {who : Who}

/-! ### Fields of a register written whole (R8) -/

theorem RField.of_write_apart {F G : RField} (hfit : G.fits) (h : F.apart G) (locked : Bool) (v : Nat) (w : Word64) :
    F.of (RField.write locked v w G) = F.of w := by
  unfold RField.write
  dsimp only
  split
  · rfl
  · rfl
  · rfl
  · exact RField.of_put_apart G F hfit h _ _
  · split
    · rfl
    · exact RField.of_put_apart G F hfit h _ _
  · exact RField.of_put_apart G F hfit h _ _
  · exact RField.of_put_apart G F hfit h _ _

theorem RField.of_writes_apart {F : RField} {l : List RField} (h : ∀ G ∈ l, G.fits ∧ F.apart G) (locked : Bool) (v : Nat) (w : Word64) :
    F.of (l.foldl (RField.write locked v) w) = F.of w := by
  induction l generalizing w with
  | nil => rfl
  | cons G l ih =>
    obtain ⟨hfit, hG⟩ := h G List.mem_cons_self
    exact (ih (fun X hX => h X (List.mem_cons_of_mem G hX)) _).trans (of_write_apart hfit hG locked v w)

/-- An event bit of HOST_FN_EVT. -/
def evtBit (k : Nat) : RField := ⟨HOST_FN_EVT, k, 1, .w1c, 0, .any⟩

theorem evtBit_fits {k : Nat} (h : k < 64) : (evtBit k).fits := h

theorem evtBit_apart {j k : Nat} (h : j ≠ k) : (evtBit j).apart (evtBit k) := by
  change j + 1 ≤ k ∨ k + 1 ≤ j
  omega

theorem testBit_of_evtBit (k : Nat) (w : Word64) : ((evtBit k).of w).testBit 0 = w.toNat.testBit k := testBit_bitsOf _ _ _ _

/-- A write of event bits clears those written as 1. -/
theorem testBit_write_evtBits {ks : List Nat} (hks : ∀ k ∈ ks, k < 64) (hnd : ks.Nodup) {k : Nat} (hk : k ∈ ks) (locked : Bool) (v : Nat)
    (w : Word64) : ((ks.map evtBit).foldl (RField.write locked v) w).toNat.testBit k = (w.toNat.testBit k && !v.testBit k) := by
  simp only [← testBit_of_evtBit]
  induction ks generalizing w with
  | nil => cases hk
  | cons j ks ih =>
    obtain ⟨hj, hnd⟩ := List.nodup_cons.1 hnd
    have hapart : ∀ G ∈ ks.map evtBit, G.fits ∧ (evtBit j).apart G := by
      simp only [List.mem_map, forall_exists_index, and_imp]
      rintro _ i hi rfl
      exact ⟨evtBit_fits (hks i (List.mem_cons_of_mem j hi)), evtBit_apart fun e => hj (e ▸ hi)⟩
    rw [List.map_cons, List.foldl_cons]
    obtain rfl | hk := List.mem_cons.1 hk
    · rw [RField.of_writes_apart hapart]
      change ((evtBit k).of ((evtBit k).put w ((evtBit k).of w - ((evtBit k).of w &&& bitsOf v k 1)))).testBit 0 = _
      rw [RField.of_put _ (evtBit_fits (hks k List.mem_cons_self)), Nat.testBit_mod_two_pow, testBit_sub_and, testBit_bitsOf]
      simp [evtBit]
    · rw [ih (fun i hi => hks i (List.mem_cons_of_mem j hi)) hnd hk,
        RField.of_write_apart (evtBit_fits (hks j List.mem_cons_self)) (evtBit_apart fun e => hj (e ▸ hk))]

theorem testBit_write_evt (locked : Bool) (v : Nat) (w : Word64) {k : Nat} (hk : k < 6) :
    (HOST_FN_EVT.info.write locked v w).toNat.testBit k = (w.toNat.testBit k && !v.testBit k) :=
  testBit_write_evtBits (ks := List.range 6) (fun i hi => (List.mem_range.1 hi).trans (by decide)) List.nodup_range (List.mem_range.2 hk) locked v w

/-! ### Counters that a read clears (R46, R50) -/

/-- What an access by the stall's unit may change before it acts: the halves, the PLL and the sleep of the unit. -/
def Footprint.reach : Footprint := ⟨(Part.warden :: .halves :: wakeParts).contains, (EVC_CLK_STAT :: wakeRegs).contains⟩

theorem Keeps.reached (s : State) (who : Who) (off sid : Nat) : Keeps .reach s ((s.accessed who off).wakeStall sid) :=
  (Keeps.refl .reach s).accessed.wakeStall

/-- A counter: a register that is one whole field, which a read clears. -/
structure RField.counter (F : RField) : Prop where
  info : F.reg.info = some ⟨F.reg, true, [F]⟩
  lo   : F.lo = 0
  wd   : F.wd = 64
  acc  : F.acc = .rc
  rst  : F.rst = 0

theorem State.readClear_counter {F : RField} (h : F.counter) (hne : F.reg ≠ WDN_MON_DATA) (s : State) (who : Who) (i : Nat) :
    s.readClear who F.reg i = (s.setReg F.reg i (F.put (s.getReg F.reg i) 0)).send (.readData (whoCode who) (s.rd F i)) := by
  have hsame : s.sameCycle F.reg = false := by rw [State.sameCycle, beq_false_of_ne hne, Bool.false_and]
  have hread : (RegInfo.readValue ⟨F.reg, true, [F]⟩ (s.getReg F.reg i)).toNat = s.rd F i := by
    simp only [RegInfo.readValue, List.foldl_cons, List.foldl_nil, h.acc]
    rw [if_neg (by decide), RField.put_zero_toNat h.lo h.wd.le]
    exact Nat.mod_eq_of_lt (RField.of_lt _ _)
  have hclear : RegInfo.afterRead ⟨F.reg, true, [F]⟩ (s.getReg F.reg i) = F.put (s.getReg F.reg i) 0 := by
    simp only [RegInfo.afterRead, List.foldl_cons, List.foldl_nil, h.acc, h.rst, if_true]
  dsimp only [State.readClear]
  rw [h.info]
  dsimp only
  rw [State.clearSample_of_apart hsame, State.sample, hsame, if_neg Bool.false_ne_true, hread, hclear]

/-- The read of a stall's counter: it lets the PLL run, answers the count and clears it. -/
theorem counter_read {F : RField} (h : F.counter) (hreg : F.reg.off < 8192) (hkeep : Footprint.reach.regs F.reg = false)
    (hne : F.reg ≠ WDN_MON_DATA) (off sid : Nat) :
    let t := ((s.accessed who off).wakeStall sid).readClear who F.reg sid
    t.warden.pllOff = false ∧ t.rd F sid = 0 ∧ t.outbox = s.outbox ++ [.readData (whoCode who) (s.rd F sid)] := by
  have hk := Keeps.reached s who off sid
  have hfit : F.fits := by rw [RField.fits, h.lo, h.wd]
  dsimp only
  rw [State.readClear_counter h hne]
  refine ⟨?_, ?_, ?_⟩
  · rw [State.send_warden, State.setReg_warden, State.wakeStall_warden, State.accessed, State.keepHalves_warden, State.squareRuns_pllOff]
  · rw [State.rd_send, State.rd_setReg_same _ rfl, RField.of_put F hfit, Nat.zero_mod]
  · rw [State.send_readData_outbox, State.setReg_outbox, hk.part .outbox rfl, State.rd, hk.reg F.reg sid hreg hkeep, ← State.rd]

theorem stlAccess_counter_read {F : RField} (h : F.counter) (hreg : F.reg.off < 8192) (hkeep : Footprint.reach.regs F.reg = false)
    (hne : F.reg ≠ WDN_MON_DATA) {sid : Nat} (hopen : s.memOpen who = true) (hadmin : whoAdmin who = true)
    (hheld : s.boot.inReset.contains sid = false) (off : Nat) :
    let t := s.stlAccess who sid off false fun s => s.readClear who F.reg sid
    t.warden.pllOff = false ∧ t.rd F sid = 0 ∧ t.outbox = s.outbox ++ [.readData (whoCode who) (s.rd F sid)] := by
  dsimp only
  rw [State.stlAccess_open hopen hadmin hheld]
  exact counter_read h hreg hkeep hne _ _

theorem counter_clip : STL_CLIP_CNT.V.counter := ⟨rfl, rfl, rfl, rfl, rfl⟩

theorem counter_refused : STL_REFUSED_CNT.V.counter := ⟨rfl, rfl, rfl, rfl, rfl⟩

/-! ### The monitor's result (R506) -/

theorem State.withWarden_regs (s : State) (w : Warden) : { s with warden := w }.regs = s.regs := rfl

theorem State.withWarden_outbox (s : State) (w : Warden) : { s with warden := w }.outbox = s.outbox := rfl

theorem State.readClear_monData (s : State) (who : Who) :
    (s.warden.monAt ≠ s.now + 1 → (s.readClear who WDN_MON_DATA 0).rd WDN_MON_DATA.VALID = 0 ∧
      (s.readClear who WDN_MON_DATA 0).outbox =
        s.outbox ++ [.readData (whoCode who) (WDN_MON_DATA.info.readValue (s.getReg WDN_MON_DATA 0)).toNat]) ∧
    (s.warden.monAt = s.now + 1 → (s.readClear who WDN_MON_DATA 0).getReg WDN_MON_DATA 0 = s.getReg WDN_MON_DATA 0 ∧
      (s.readClear who WDN_MON_DATA 0).outbox =
        s.outbox ++ [.readData (whoCode who) (WDN_MON_DATA.info.readValue s.warden.monPrev).toNat]) := by
  have hsame : s.sameCycle WDN_MON_DATA = (s.warden.monAt == s.now + 1) := by
    rw [State.sameCycle, beq_self_eq_true, Bool.true_and]
  have hread : s.readClear who WDN_MON_DATA 0 = (s.clearSample WDN_MON_DATA 0 WDN_MON_DATA.info.afterRead).send
      (.readData (whoCode who) (WDN_MON_DATA.info.readValue (s.sample WDN_MON_DATA 0)).toNat) := rfl
  rw [hread, State.clearSample, State.sample, hsame]
  refine ⟨fun h => ?_, fun h => ?_⟩
  · rw [beq_false_of_ne h, if_neg Bool.false_ne_true, if_neg Bool.false_ne_true]
    refine ⟨?_, ?_⟩
    · rw [State.rd_send, State.rd_setReg_same _ (show WDN_MON_DATA.VALID.reg = WDN_MON_DATA from rfl)]
      exact RField.of_put WDN_MON_DATA.VALID (show 63 + 1 ≤ 64 by decide) _ _
    · rw [State.send_readData_outbox, State.setReg_outbox]
  · rw [beq_iff_eq.2 h, if_pos rfl, if_pos rfl]
    refine ⟨?_, ?_⟩
    · rw [State.getReg_send, State.getReg_of_regs (State.withWarden_regs s _)]
    · rw [State.send_readData_outbox, State.withWarden_outbox]

theorem exec_wdnMonDataRead (hopen : s.memOpen who = true) (hadmin : whoAdmin who = true) :
    exec (.wdnMonDataRead who) s = .next ((s.accessed who (Block.wdn.base + WDN_MON_DATA.off)).readClear who WDN_MON_DATA 0) := by
  change execWdnMonDataRead who s = _
  unfold execWdnMonDataRead
  rw [if_neg (by simp [hopen])]
  cases who with
  | func f => exact if_pos (beq_iff_eq.1 hadmin)
  | clerk k => rfl
  | i3c => cases hadmin

theorem State.readClear_pllOff (s : State) (who : Who) (r : Reg) (i : Nat) : (s.readClear who r i).warden.pllOff = s.warden.pllOff := by
  unfold State.readClear State.clearSample
  split
  · rw [State.send_warden]
    split
    · rfl
    · rw [State.setReg_warden]
  · rfl

/-! ### Halves (R11) -/

theorem State.readValue_accessErrCnt (s : State) (f : Nat) :
    (TEN_ACCESS_ERR_CNT.info.readValue (s.getReg TEN_ACCESS_ERR_CNT f)).toNat = s.rd TEN_ACCESS_ERR_CNT.V f := by
  change (TEN_ACCESS_ERR_CNT.V.put 0 (TEN_ACCESS_ERR_CNT.V.of _)).toNat = _
  rw [RField.put_zero_toNat rfl (by decide), Nat.mod_eq_of_lt (RField.of_lt _ _)]
  rfl

/-- The low half of the count of access errors answers, and its high half of the same moment is latched. -/
theorem State.readAt_accessErrCnt_low (s : State) (who : Who) (f u bar : Nat) {off : Nat} (ho : off % 8 = 0) :
    s.readAt who TEN_ACCESS_ERR_CNT.info f u bar off 4 =
      (((s.keepHalves who (halfName bar off)).setReg TEN_ACCESS_ERR_CNT f (s.getReg TEN_ACCESS_ERR_CNT f)).keepHalf who (halfName bar off) false
        (s.rd TEN_ACCESS_ERR_CNT.V f / 2 ^ 32)).answer who (s.rd TEN_ACCESS_ERR_CNT.V f % 2 ^ 32) := by
  have hsame (t : State) : t.sameCycle TEN_ACCESS_ERR_CNT.info.reg = false := rfl
  have hview (t : State) : t.view TEN_ACCESS_ERR_CNT.info.reg f u = t.getReg TEN_ACCESS_ERR_CNT f := rfl
  dsimp only [State.readAt]
  rw [hsame, if_neg Bool.false_ne_true, hview, State.getReg_keepHalves, State.readValue_accessErrCnt, if_neg (by decide), if_pos ho,
    if_pos (show TEN_ACCESS_ERR_CNT.info.wide = true from rfl), State.clearSample_of_apart (hsame _), State.getReg_keepHalves]
  rfl

theorem exec_lowHalfRead_accessErrCnt {f : Nat} (hf : f < 64) (hopen : s.memOpen (.func f) = true) :
    exec (.lowHalfRead (.func f) 0 (0x1000 + TEN_ACCESS_ERR_CNT.off) 4) s =
      .next (s.squareRuns.readAt (.func f) TEN_ACCESS_ERR_CNT.info f f 0 (0x1000 + TEN_ACCESS_ERR_CNT.off) 4) := by
  have hoff : 0x1000 + TEN_ACCESS_ERR_CNT.off = 0x1048 := rfl
  have hword : 0x1048 % 0x1000 / 8 * 8 = TEN_ACCESS_ERR_CNT.off := rfl
  rw [hoff]
  change execLowHalfRead _ _ _ _ s = _
  dsimp only [execLowHalfRead]
  rw [if_neg (by simp [hopen]), if_neg (by omega), if_neg (by decide), if_neg (by decide), if_neg (by decide), if_pos (by decide),
    State.readWindow]
  dsimp only
  rw [if_neg (by decide), if_pos (by decide), hword, State.regAt_accessErrCnt]

theorem Keeps.halfKept (s : State) (who : Who) (n : Nat) (b : Bool) (v : Nat) :
    Keeps ⟨(· == .halves), fun _ => false⟩ s (s.keepHalf who n b v) := (Keeps.refl _ s).keepHalf

theorem State.keepHalf_warden (s : State) (who : Who) (n : Nat) (b : Bool) (v : Nat) : (s.keepHalf who n b v).warden = s.warden :=
  (Keeps.halfKept s who n b v).part .warden rfl

theorem State.keepHalf_outbox (s : State) (who : Who) (n : Nat) (b : Bool) (v : Nat) : (s.keepHalf who n b v).outbox = s.outbox :=
  (Keeps.halfKept s who n b v).part .outbox rfl

theorem State.latched_keepHalf (s : State) (who : Who) (n v : Nat) : (s.keepHalf who n false v).latched who n = some (v % 2 ^ 32) := by
  dsimp only [State.latched, State.keepHalf]
  rw [show ofBool (!false) = 1 from rfl, FMap.get_set_same, if_pos rfl]

theorem State.latched_send (s : State) (who : Who) (n : Nat) (o : Out) : (s.send o).latched who n = s.latched who n := by
  rw [State.latched, State.latched, State.send_halves]

end Machine

variable {s : State} {f val row stall : Nat} {who : Who}

theorem evtEn_write_completes (hf : f < 64) (hopen : s.memOpen (.func f) = true) :
    ∃ t, exec (.registerWrite (.func f) 0 HOST_FN_EVT_EN.off 8 val) s = .next t ∧ t.rd HOST_FN_EVT_EN.EN f = val % 64 ∧ t.warden.pllOff = false := by
  refine ⟨_, exec_registerWrite_of_plain plain_evtEn (State.regAt_evtEn · f) hf hopen (.inr rfl), ?_, ?_⟩
  · rw [State.rd_setReg_same _ (show HOST_FN_EVT_EN.EN.reg = HOST_FN_EVT_EN.info.reg from rfl), of_write_evtEn]
    exact Nat.mod_mod_of_dvd _ (by decide)
  · rw [State.setReg_warden, State.keepHalves_warden, State.squareRuns_pllOff]

theorem evt_write_completes (hf : f < 64) (hopen : s.memOpen (.func f) = true) :
    ∃ t, exec (.registerWrite (.func f) 0 HOST_FN_EVT.off 8 val) s = .next t ∧ t.warden.pllOff = false ∧
      ∀ k, k < 6 → bitAt (t.getReg HOST_FN_EVT f).toNat k = (bitAt (s.getReg HOST_FN_EVT f).toNat k && !bitAt val k) := by
  refine ⟨_, exec_registerWrite_of_plain plain_evt (State.regAt_evt · f) hf hopen (.inr rfl), ?_, fun k hk => ?_⟩
  · rw [State.setReg_warden, State.keepHalves_warden, State.squareRuns_pllOff]
  · have hk64 : k < 8 * 8 := by omega
    simp only [bitAt_eq_testBit]
    change ((State.setReg _ HOST_FN_EVT f _).getReg HOST_FN_EVT f).toNat.testBit k = _
    rw [State.getReg_setReg_same, testBit_write_evt _ _ _ hk, Nat.testBit_mod_two_pow, decide_eq_true hk64, Bool.true_and,
      State.getReg_squareRuns _ (by decide) (by decide)]
    rfl

theorem accessErrCnt_low_read_completes (hf : f < 64) (hopen : s.memOpen (.func f) = true) :
    ∃ t, exec (.lowHalfRead (.func f) 0 (0x1000 + TEN_ACCESS_ERR_CNT.off) 4) s = .next t ∧ t.warden.pllOff = false ∧
      t.outbox = s.outbox ++ [.readData f (s.rd TEN_ACCESS_ERR_CNT.V f % 2 ^ 32)] ∧
      t.latched (.func f) (halfName 0 (0x1000 + TEN_ACCESS_ERR_CNT.off)) = some (s.rd TEN_ACCESS_ERR_CNT.V f / 2 ^ 32) := by
  have hrd : s.squareRuns.rd TEN_ACCESS_ERR_CNT.V f = s.rd TEN_ACCESS_ERR_CNT.V f := State.rd_squareRuns _ (by decide) (by decide) _
  have hhigh : s.rd TEN_ACCESS_ERR_CNT.V f / 2 ^ 32 < 2 ^ 32 :=
    Nat.div_lt_of_lt_mul ((RField.of_lt TEN_ACCESS_ERR_CNT.V _).trans_le (by decide))
  refine ⟨_, exec_lowHalfRead_accessErrCnt hf hopen, ?_, ?_, ?_⟩ <;> rw [State.readAt_accessErrCnt_low _ _ _ _ _ rfl, State.answer, hrd]
  · rw [State.send_warden, State.keepHalf_warden, State.setReg_warden, State.keepHalves_warden, State.squareRuns_pllOff]
  · rw [State.send_readData_outbox, State.keepHalf_outbox, State.setReg_outbox, State.keepHalves_outbox, State.squareRuns_outbox]
    rfl
  · rw [State.latched_send, State.latched_keepHalf, Nat.mod_eq_of_lt hhigh]

theorem monData_read_completes (hopen : s.memOpen who = true) (hadmin : whoAdmin who = true) :
    ∃ t, exec (.wdnMonDataRead who) s = .next t ∧ t.warden.pllOff = false ∧
      (s.warden.monAt ≠ s.now + 1 → t.rd WDN_MON_DATA.VALID = 0 ∧
        t.outbox = s.outbox ++ [.readData (whoCode who) (WDN_MON_DATA.info.readValue (s.getReg WDN_MON_DATA 0)).toNat]) ∧
      (s.warden.monAt = s.now + 1 → t.getReg WDN_MON_DATA 0 = s.getReg WDN_MON_DATA 0 ∧
        t.outbox = s.outbox ++ [.readData (whoCode who) (WDN_MON_DATA.info.readValue s.warden.monPrev).toNat]) := by
  have hread := State.readClear_monData (s.accessed who (Block.wdn.base + WDN_MON_DATA.off)) who
  rw [State.accessed, State.keepHalves_warden, State.keepHalves_now, State.keepHalves_outbox, State.getReg_keepHalves,
    State.squareRuns_monAt, State.squareRuns_monPrev, State.squareRuns_now, State.squareRuns_outbox,
    State.getReg_squareRuns _ (by decide) (by decide)] at hread
  refine ⟨_, exec_wdnMonDataRead hopen hadmin, ?_, hread⟩
  rw [State.readClear_pllOff, State.accessed, State.keepHalves_warden, State.squareRuns_pllOff]

/-- Settles O1: one lemma for each access, and one for each access code of a field that the device changes in the same cycle. -/
theorem registerAccessesComplete : Obligations.RegisterAccessesComplete := fun _ =>
  ⟨fun _ _ hf hopen => evtEn_write_completes hf hopen, fun _ _ hf hopen => evt_write_completes hf hopen,
    fun _ hf hopen => accessErrCnt_low_read_completes hf hopen,
    fun _ _ _ hok hopen hadmin hheld =>
      ⟨_, if_pos hok, stlAccess_counter_read counter_clip (by decide) (by decide) (by decide) hopen hadmin hheld _⟩,
    fun _ _ _ hok hopen hadmin hheld =>
      ⟨_, if_pos hok, stlAccess_counter_read counter_refused (by decide) (by decide) (by decide) hopen hadmin hheld _⟩,
    fun _ hopen hadmin => monData_read_completes hopen hadmin,
    fun _ _ _ _ _ hfit => ⟨fun h _ hk => RField.sameCycle_w1c hfit h hk, fun h _ hk => RField.sameCycle_w1s hfit h hk,
      fun h g => RField.sameCycle_rw hfit h g, fun h g => RField.sameCycle_rc hfit h g⟩⟩

end Sys2Proof
end

section
namespace Sys2Proof.Machine

/-- A device out of reset whose stall 0 of row 0 has counted one clip code. -/
def clippedOnce : State := State.reset.setReg STL_CLIP_CNT 0 1

/-- A clerk's read, by address, of the STL_CLIP_CNT of stall 0 of row 0 (R68, R573). -/
def clipRead : Instr := .lowHalfRead (.clerk 0) 0 (0x1101000 + STL_CLIP_CNT.off) 8

/-- The read by address clears the count, as R8 has it of an RC field. -/
theorem clipRead_clears : ∃ t, exec clipRead clippedOnce = .next t ∧ t.getReg STL_CLIP_CNT 0 = 0 := by
  have h : (match exec clipRead clippedOnce with
    | .next t => t.getReg STL_CLIP_CNT 0 == 0
    | _ => false) = true := by decide +kernel
  split at h
  · exact ⟨_, ‹_›, by simpa using h⟩
  · cases h

/-- The frame of reads by address leaves the RC counters of the stalls out. -/
theorem clipRead_mayWrite : clipRead.mayWrite STL_CLIP_CNT = false := by decide

end Sys2Proof.Machine

open Sys2Proof Sys2Proof.Machine in
/-- Refutes O39: a clerk's LOW_HALF_READ of STL_CLIP_CNT, an RC register (R68), clears it, and the frame of the command does not list it. -/
theorem not_heldAccessAndSleepCommandsKeepTheRest : ¬ Obligations.HeldAccessAndSleepCommandsKeepTheRest := by
  unfold Obligations.HeldAccessAndSleepCommandsKeepTheRest
  intro h
  obtain ⟨t, ht, hclear⟩ := clipRead_clears
  have hkept := (h clipRead clippedOnce t rfl ht).1 STL_CLIP_CNT 0 (by decide) clipRead_mayWrite
  rw [hclear, clippedOnce, State.getReg_setReg_same] at hkept
  exact absurd hkept (by decide)

open Sys2Proof Sys2Proof.Machine in
/-- Settles O54: the front of the queue is the command that a step runs. -/
theorem stepRunsTheFrontCommand : Obligations.StepRunsTheFrontCommand := by
  unfold Obligations.StepRunsTheFrontCommand
  intro s c rest h
  rw [step, h]
end

section
/-! PROOF. What the taking of a vector leaves alone: the source buffers of the rows, and the sleep of the units with their wake times. -/

namespace Sys2Proof.Machine

set_option Elab.async false

/-- Every row keeps its source buffers, and no row or quarter changes its sleep or its wake time. -/
structure BufsKept (s t : State) : Prop where
  sleep  : t.sleep = s.sleep
  wakeAt : t.wakeAt = s.wakeAt
  bufs   : ∀ r, (t.row r).bufs = (s.row r).bufs

variable {s₀ s t : State}

theorem BufsKept.refl (s : State) : BufsKept s s := ⟨rfl, rfl, fun _ => rfl⟩

theorem BufsKept.only (h : BufsKept s₀ s) (hs : t.sleep = s.sleep := by simp) (hw : t.wakeAt = s.wakeAt := by simp) (hr : t.rows = s.rows := by simp) :
    BufsKept s₀ t :=
  ⟨hs.trans h.sleep, hw.trans h.wakeAt, fun r => (congrArg (fun m => (FMap.get Row.init m r).bufs) hr).trans (h.bufs r)⟩

theorem BufsKept.ite {c : Prop} {_ : Decidable c} {a b : State} (ha : BufsKept s₀ a) (hb : BufsKept s₀ b) : BufsKept s₀ (if c then a else b) := by
  split <;> assumption

theorem BufsKept.foldl {α : Type} {l : List α} {f : State → α → State} (h : BufsKept s₀ s) (hf : ∀ t x, BufsKept s₀ t → BufsKept s₀ (f t x)) :
    BufsKept s₀ (l.foldl f s) := by
  induction l generalizing s with
  | nil => exact h
  | cons x l ih => exact ih (hf s x h)

theorem BufsKept.modRow (h : BufsKept s₀ s) {r : Nat} {f : Row → Row} (hf : ∀ x, (f x).bufs = x.bufs) : BufsKept s₀ (s.modRow r f) where
  sleep := by simpa using h.sleep
  wakeAt := by simpa using h.wakeAt
  bufs q := by
    by_cases e : q = r
    · subst e
      rw [State.row_modRow_same, hf]
      exact h.bufs q
    · rw [State.row_modRow_ne _ e]
      exact h.bufs q

theorem BufsKept.wr (h : BufsKept s₀ s) {f : RField} {i v : Nat} : BufsKept s₀ (s.wr f i v) := h.only

theorem BufsKept.bump (h : BufsKept s₀ s) {f : RField} {i n : Nat} : BufsKept s₀ (s.bump f i n) := h.wr

theorem BufsKept.send (h : BufsKept s₀ s) {o : Out} : BufsKept s₀ (s.send o) := h.only

/-! ### Accumulation -/

theorem BufsKept.accFlag (h : BufsKept s₀ s) {f : RField} {row p : Nat} : BufsKept s₀ (s.accFlag f row p) := by
  unfold State.accFlag
  exact h.only

theorem BufsKept.nqFlag (h : BufsKept s₀ s) {f : RField} {row p g : Nat} : BufsKept s₀ (s.nqFlag f row p g) := by
  unfold State.nqFlag
  exact h.only

theorem BufsKept.countAcc (h : BufsKept s₀ s) {row p : Nat} {n : AccCnt} : BufsKept s₀ (s.countAcc row p n) := by
  unfold State.countAcc
  extract_lets s1 s2 s3
  have h2 : BufsKept s₀ s2 := h.bump.bump.bump.bump
  have h3 : BufsKept s₀ s3 := .ite h2 h2.accFlag
  exact .ite h3 h3.accFlag

theorem BufsKept.freeEntries (h : BufsKept s₀ s) {row k : Nat} : BufsKept s₀ (s.freeEntries row k) := by
  unfold State.freeEntries
  exact h.wr

theorem BufsKept.closeInst (h : BufsKept s₀ s) {row red tag : Nat} : BufsKept s₀ (s.closeInst row red tag) := h.modRow fun _ => rfl

theorem BufsKept.setInst (h : BufsKept s₀ s) {row : Nat} {i : Inst} : BufsKept s₀ (s.setInst row i) := h.modRow fun _ => rfl

theorem BufsKept.putAttn (h : BufsKept s₀ s) {row : Nat} {r : AttnRes} : BufsKept s₀ (s.putAttn row r) := h.modRow fun _ => rfl

theorem BufsKept.queueJob (h : BufsKept s₀ s) {c sid g tag red q : Nat} {k : JobKind} : BufsKept s₀ (s.queueJob c k sid g tag red q) :=
  h.only rfl rfl rfl

theorem BufsKept.cper (h : BufsKept s₀ s) {c : Cper} : BufsKept s₀ (s.cper c) := by
  unfold State.cper
  exact .ite (.ite h.only h.only) h

theorem BufsKept.handInst (h : BufsKept s₀ s) {row sid : Nat} {i : Inst} : BufsKept s₀ (s.handInst row sid i) := by
  unfold State.handInst
  refine .ite h ?_
  extract_lets all s1 s2
  have h1 : BufsKept s₀ s1 := h.foldl fun _ _ h => h.closeInst.freeEntries
  have h2 : BufsKept s₀ s2 := by
    unfold s2
    split
    · exact h1.setInst
    · exact h1.setInst
  exact h2.queueJob.cper

theorem BufsKept.release (h : BufsKept s₀ s) {row sid : Nat} {i : Inst} {r : RedRec} {w : Release} : BufsKept s₀ (s.release row sid i r w) := by
  unfold State.release
  exact .ite h.setInst.freeEntries (.ite h.accFlag.freeEntries.handInst h.setInst.countAcc.freeEntries)

/-! ### Adapters -/

theorem BufsKept.saveInput (h : BufsKept s₀ s) {q first tag : Nat} {xb : List Nat} : BufsKept s₀ (s.saveInput q first tag xb) := by
  unfold State.saveInput
  exact .ite h (h.only rfl rfl rfl)

theorem BufsKept.adapterFeed (h : BufsKept s₀ s) {tag q : Nat} {xs : List Word32} {f : Feed} : BufsKept s₀ (s.adapterFeed tag q xs f) := by
  unfold State.adapterFeed
  split
  · exact h
  split
  · exact h
  split
  · exact h
  refine .ite h ?_
  extract_lets row i give
  refine .ite h ?_
  split
  · exact h.release
  · exact .ite h.saveInput.release h.setInst

theorem BufsKept.adapterPart (h : BufsKept s₀ s) {v : VecIn} {xs : List Word32} : BufsKept s₀ (s.adapterPart v xs) := by
  unfold State.adapterPart
  exact .ite h (.ite h.only (h.foldl fun _ _ h => h.adapterFeed))

/-! ### Vectors -/

theorem BufsKept.answerStats (h : BufsKept s₀ s) {row : Nat} {v : VecIn} : BufsKept s₀ (s.answerStats row v) := by
  unfold State.answerStats
  extract_lets zero count
  split
  · exact h.countAcc.send
  · exact h.countAcc
  · exact h

theorem BufsKept.nanVector (h : BufsKept s₀ s) {row : Nat} {v : VecIn} : BufsKept s₀ (s.nanVector row v) := by
  unfold State.nanVector
  refine .foldl (h.bump.nqFlag) fun t f ht => .ite ht.putAttn ?_
  split
  · exact ht
  · split
    · exact ht.release
    · exact ht

end Sys2Proof.Machine
end

section
/-! PROOF. Sleep and wake commands complete (O2): what a wake request, its end and an entry into sleep leave of the states of stalls, rows and quarters. -/

namespace Sys2Proof

open Machine

set_option Elab.async false

namespace Machine

variable (s : State)

/-! ### Stalls and rows that exist -/

theorem lt_of_stallOk {r p : Nat} (h : stallOk r p = true) : r < 192 ∧ p < 33 := by
  simpa [stallOk] using h

theorem lt_of_rowOk {r : Nat} (h : rowOk r = true) : r < 192 := by
  simpa [rowOk] using h

theorem posOf_stallId {r p : Nat} (h : p < 64) : posOf (stallId r p) = p := by
  simp only [posOf, stallId]; omega

/-- The keys of stalls lie below those of rows and quarters. -/
theorem stallId_lt {r p : Nat} (h : stallOk r p = true) : stallId r p < 12288 := by
  have := lt_of_stallOk h
  simp only [stallId]; omega

/-! ### A wake request of a row or quarter (R488) -/

theorem State.stState_wakeUnit (u sid : Nat) : (s.wakeUnit u).stState sid = s.stState sid := by
  unfold State.wakeUnit
  dsimp only
  split
  · exact (State.rd_bump_free _ (by decide) _ _ _).trans (State.rd_of_regs rfl _ _)
  · rfl

variable {s}

theorem State.sleep_wakeUnit_same {u : Nat} (h : FMap.get 0 s.sleep u < 2) : FMap.get 0 (s.wakeUnit u).sleep u = 2 := by
  simp [State.wakeUnit, h]

theorem State.wakeAt_wakeUnit_same {u : Nat} (h : FMap.get 0 s.sleep u < 2) :
    FMap.get 0 (s.wakeUnit u).wakeAt (12288 + u) = s.now + (if FMap.get 0 s.sleep u = 0 then 1000 else 50) := by
  simp [State.wakeUnit, h, wakeTime]

variable (s)

theorem State.sleep_wakeUnit_ne {u k : Nat} (h : k ≠ u) : FMap.get 0 (s.wakeUnit u).sleep k = FMap.get 0 s.sleep k := by
  unfold State.wakeUnit
  dsimp only
  split
  · rw [State.bump_sleep]
    show FMap.get 0 (FMap.set 0 s.sleep u 2) k = FMap.get 0 s.sleep k
    exact FMap.get_set_ne h 2
  · rfl

theorem State.wakeAt_wakeUnit_ne {u k : Nat} (h : k ≠ 12288 + u) : FMap.get 0 (s.wakeUnit u).wakeAt k = FMap.get 0 s.wakeAt k := by
  unfold State.wakeUnit
  dsimp only
  split
  · rw [State.bump_wakeAt]; exact FMap.get_set_ne h _
  · rfl

theorem State.stState_wakeRowReq (r sid : Nat) : (s.wakeRowReq r).stState sid = s.stState sid := by
  rw [State.wakeRowReq, State.stState_wakeUnit, State.stState_wakeUnit]

theorem State.wakeAt_wakeRowReq_of_lt {r k : Nat} (h : k < 12288) : FMap.get 0 (s.wakeRowReq r).wakeAt k = FMap.get 0 s.wakeAt k := by
  rw [State.wakeRowReq, State.wakeAt_wakeUnit_ne _ (by omega), State.wakeAt_wakeUnit_ne _ (by omega)]

/-! ### A wake request of a stall (R24, R488) -/

variable {s} {r p q sid : Nat}

theorem State.stState_wakeStallReq (h : s.stState sid < 2) : (s.wakeStallReq sid).stState sid = 2 := by
  simp only [State.wakeStallReq, stWaking, h, if_true]
  rw [State.stState_wakeRowReq, State.stState, State.rd_bump_free _ (by decide), State.setStState, State.rd_wr_val _ (by decide)]
  rfl

theorem State.wakeAt_wakeStallReq (h : s.stState sid < 2) (hk : sid < 12288) :
    FMap.get 0 (s.wakeStallReq sid).wakeAt sid = s.now + wakeTime (s.stState sid == stBiasOff) (!(FMap.get 0 s.sleep (rowOf sid) == 3)) := by
  simp only [State.wakeStallReq, stWaking, h, if_true]
  rw [State.wakeAt_wakeRowReq_of_lt _ hk, State.bump_wakeAt, State.setStState, State.wr_wakeAt]
  exact FMap.get_set_same _ _ _

/-- A stall that sleeps is not on its way into sleep. -/
theorem State.entering_stall_of_asleep (h : s.stState (stallId r p) < 2) : s.entering (.stall r p) = false := by
  have h3 : s.stState (stallId r p) ≠ stRun := by simp only [stRun]; omega
  have h6 : s.stState (stallId r p) ≠ stSpareIdle := by simp only [stSpareIdle]; omega
  simp [State.entering, State.stallIdle, h3, h6]

theorem State.entering_row_of_asleep (h : FMap.get 0 s.sleep r < 2) : s.entering (.row r) = false := by
  have h3 : FMap.get 0 s.sleep r ≠ 3 := by omega
  simp [State.entering, h3]

theorem State.entering_quarter_of_asleep (h : FMap.get 0 s.sleep (192 + q) < 2) : s.entering (.quarter q) = false := by
  have h3 : FMap.get 0 s.sleep (192 + q) ≠ 3 := by omega
  simp [State.entering, h3]

theorem exec_wakeRequest (u : SleepUnit) : exec (.wakeRequest u) s = execWakeRequest u s := rfl

theorem exec_wakeComplete (u : SleepUnit) : exec (.wakeComplete u) s = execWakeComplete u s := rfl

theorem exec_clockGatedEntry (u : SleepUnit) : exec (.clockGatedEntry u) s = execClockGatedEntry u s := rfl

theorem exec_biasOffEntry (u : SleepUnit) : exec (.biasOffEntry u) s = execBiasOffEntry u s := rfl

theorem unitOk_of_wakeOk {u : SleepUnit} (h : s.wakeOk u = true) : unitOk u = true := by
  simp only [State.wakeOk, Bool.and_eq_true] at h
  exact h.1

theorem stall_wakes (hok : s.wakeOk (.stall r p) = true) (hst : s.stState (stallId r p) < 2) :
    ∃ t, exec (.wakeRequest (.stall r p)) s = .next t ∧ t.stState (stallId r p) = 2 ∧
      s.now < FMap.get 0 t.wakeAt (stallId r p) ∧
      FMap.get 0 t.wakeAt (stallId r p) ≤ s.now + (if s.stState (stallId r p) = 0 then 1000 else 50) := by
  have hk := stallId_lt (unitOk_of_wakeOk hok)
  refine ⟨s.wakeStallReq (stallId r p), ?_, State.stState_wakeStallReq hst, ?_⟩
  · simp [exec_wakeRequest, execWakeRequest, hok, State.entering_stall_of_asleep hst]
  · rw [State.wakeAt_wakeStallReq hst hk]
    simp only [wakeTime, stBiasOff, beq_iff_eq]
    split
    · omega
    · split <;> omega

theorem row_wakes (hok : s.wakeOk (.row r) = true) (hst : FMap.get 0 s.sleep r < 2) :
    ∃ t, exec (.wakeRequest (.row r)) s = .next t ∧ FMap.get 0 t.sleep r = 2 ∧
      FMap.get 0 t.wakeAt (12288 + r) = s.now + (if FMap.get 0 s.sleep r = 0 then 1000 else 50) := by
  have hr := lt_of_rowOk (unitOk_of_wakeOk hok)
  refine ⟨s.wakeRowReq r, ?_, ?_, ?_⟩
  · simp [exec_wakeRequest, execWakeRequest, hok, State.entering_row_of_asleep hst]
  · rw [State.wakeRowReq, State.sleep_wakeUnit_ne _ (by omega), State.sleep_wakeUnit_same hst]
  · rw [State.wakeRowReq, State.wakeAt_wakeUnit_ne _ (by omega), State.wakeAt_wakeUnit_same hst]

theorem quarter_wakes (hok : s.wakeOk (.quarter q) = true) (hst : FMap.get 0 s.sleep (192 + q) < 2) :
    ∃ t, exec (.wakeRequest (.quarter q)) s = .next t ∧ FMap.get 0 t.sleep (192 + q) = 2 ∧
      FMap.get 0 t.wakeAt (12480 + q) = s.now + (if FMap.get 0 s.sleep (192 + q) = 0 then 1000 else 50) := by
  refine ⟨s.wakeUnit (192 + q), ?_, State.sleep_wakeUnit_same hst, ?_⟩
  · simp [exec_wakeRequest, execWakeRequest, hok, State.entering_quarter_of_asleep hst]
  · rw [← State.wakeAt_wakeUnit_same hst, show 12480 + q = 12288 + (192 + q) by omega]

/-! ### A unit is brought level (R453) -/

/-- What every step of a fold keeps, the fold keeps. -/
theorem foldl_keeps {α β : Type} {f : State → α} {g : State → β → State} (h : ∀ s x, f (g s x) = f s) (l : List β) (s : State) :
    f (l.foldl g s) = f s := by
  induction l generalizing s with
  | nil => rfl
  | cons x l ih => rw [List.foldl_cons, ih, h]

variable (s)

theorem State.rows_setUnitGen (u : Nat × Nat) (g : Nat) : (s.setUnitGen u g).rows = s.rows := by
  unfold State.setUnitGen
  split <;> simp only [State.wr_rows]

theorem BufsKept.applyBits {s₀ s : State} (h : BufsKept s₀ s) {u : Nat × Nat} {off m v : Nat} : BufsKept s₀ (s.applyBits u off m v) := by
  unfold State.applyBits State.refill
  dsimp only
  exact .ite h.only h.only

theorem BufsKept.setUnitGen {s₀ s : State} (h : BufsKept s₀ s) {u : Nat × Nat} {g : Nat} : BufsKept s₀ (s.setUnitGen u g) := by
  unfold State.setUnitGen
  split
  · exact h.wr
  · exact h.wr
  · exact h.wr

theorem BufsKept.catchUp {s₀ s : State} (h : BufsKept s₀ s) {u : Nat × Nat} : BufsKept s₀ (s.catchUp u) := by
  unfold State.catchUp
  dsimp only
  exact .ite h ((BufsKept.foldl h fun _ _ h => h.applyBits).setUnitGen.bump)

variable {s}

theorem State.catchUp_of_level {u : Nat × Nat} (h : s.unitGen u = s.rd MODE_GEN.CUR) : s.catchUp u = s := if_pos h

theorem State.physStall_of_rows {t : State} (h : t.rows = s.rows) (l : Nat) : t.physStall l = s.physStall l := by
  simp only [State.physStall, State.physOf, State.row_congr h]

theorem State.logicalAt_of_rows {t : State} (h : t.rows = s.rows) (sid : Nat) : t.logicalAt sid = s.logicalAt sid := by
  simp only [State.logicalAt, State.row_congr h]

theorem State.logicalNo_of_rows {t : State} (h : t.rows = s.rows) (sid : Nat) : t.logicalNo sid = s.logicalNo sid := by
  simp only [State.logicalNo, State.logicalAt_of_rows h]

theorem State.unitGen_setUnitGen (l g : Nat) : (s.setUnitGen (1, l) g).unitGen (1, l) = g % 2 ^ 16 := by
  have hp : (s.setUnitGen (1, l) g).physStall l = s.physStall l := State.physStall_of_rows (s.rows_setUnitGen _ _) l
  show (s.wr STL_STAT.MODE_GEN (s.physStall l) g).rd STL_STAT.MODE_GEN ((s.setUnitGen (1, l) g).physStall l) = _
  rw [hp, State.rd_wr_val _ (by decide)]
  rfl

/-- A write of another field leaves a stall's MODE_GEN as it stands. -/
theorem State.unitGen_wr_free {f : RField} (h : STL_STAT.MODE_GEN.free f = true) (i v l : Nat) :
    (s.wr f i v).unitGen (1, l) = s.unitGen (1, l) := by
  show (s.wr f i v).rd STL_STAT.MODE_GEN ((s.wr f i v).physStall l) = s.rd STL_STAT.MODE_GEN (s.physStall l)
  rw [State.physStall_of_rows (s.wr_rows _ _ _), State.rd_wr_free _ h]

theorem State.unitGen_catchUp (l : Nat) : (s.catchUp (1, l)).unitGen (1, l) = (s.catchUp (1, l)).rd MODE_GEN.CUR := by
  by_cases h : s.unitGen (1, l) = s.rd MODE_GEN.CUR
  · rw [State.catchUp_of_level h, h]
  · unfold State.catchUp
    dsimp only
    rw [if_neg h, State.bump, State.unitGen_wr_free (by decide), State.unitGen_setUnitGen, State.rd_wr_free _ (by decide)]
    refine (Nat.mod_eq_of_lt (RField.of_lt MODE_GEN.CUR _)).trans ?_
    exact (State.rd_wr_free _ (by decide) _ _ _).symm

/-! ### A waking stall or row reaches RUN (R453, R488) -/

theorem State.stState_stallRuns (h : s.stState sid = 2) : (s.stallRuns sid).stState sid = s.serveState sid := by
  rw [State.stallRuns, if_pos (show s.stState sid = stWaking from h)]
  refine (State.rd_of_regs (s := s.setStState sid (s.serveState sid)) rfl _ _).trans ((State.rd_wr_val _ (by decide) _ _).trans (Nat.mod_eq_of_lt ?_))
  simp only [State.serveState, stSpareIdle, stRun, stDraining]
  split
  · decide
  · split <;> decide

theorem State.wakeAt_stallRuns (h : s.stState sid = 2) : FMap.get 0 (s.stallRuns sid).wakeAt sid = 0 := by
  simp only [State.stallRuns, stWaking, h, if_true]
  exact FMap.get_set_same _ _ _

theorem State.rows_stallRuns (sid : Nat) : (s.stallRuns sid).rows = s.rows := by
  unfold State.stallRuns
  split
  · exact s.wr_rows STL_STAT.STATE sid (s.serveState sid)
  · rfl

theorem State.rd_stallRuns {F : RField} (h : F.free STL_STAT.STATE = true) (sid i : Nat) : (s.stallRuns sid).rd F i = s.rd F i := by
  unfold State.stallRuns
  split
  · exact (State.rd_of_regs (s := s.setStState sid (s.serveState sid)) rfl _ _).trans (State.rd_wr_free _ h _ _ _)
  · rfl

theorem State.unitGen_stallRuns (sid l : Nat) : (s.stallRuns sid).unitGen (1, l) = s.unitGen (1, l) := by
  show (s.stallRuns sid).rd STL_STAT.MODE_GEN ((s.stallRuns sid).physStall l) = s.rd STL_STAT.MODE_GEN (s.physStall l)
  rw [State.physStall_of_rows (State.rows_stallRuns sid), State.rd_stallRuns (by decide)]

theorem State.stState_refill (sid k : Nat) : (s.refill sid).stState k = s.stState k := s.rd_modStall _ _ _ _

theorem State.unitGen_refill (sid l : Nat) : (s.refill sid).unitGen (1, l) = s.unitGen (1, l) := by
  show (s.refill sid).rd STL_STAT.MODE_GEN ((s.refill sid).physStall l) = s.rd STL_STAT.MODE_GEN (s.physStall l)
  rw [State.refill, State.physStall_of_rows (s.modStall_rows _ _), State.rd_modStall]

/-- The waking stall runs, and one that serves is brought level. -/
def State.stallUp (s : State) (sid : Nat) : State :=
  if (s.stallRuns sid).logicalAt sid = 63 then s.stallRuns sid else (s.stallRuns sid).catchUp (1, (s.stallRuns sid).logicalNo sid)

theorem exec_wakeComplete_stall (hok : stallOk r p = true) (h0 : FMap.get 0 s.wakeAt (stallId r p) ≠ 0) (hle : FMap.get 0 s.wakeAt (stallId r p) ≤ s.now) :
    exec (.wakeComplete (.stall r p)) s = .next ((s.stallUp (stallId r p)).refill (stallId r p)) := by
  rw [exec_wakeComplete, execWakeComplete]
  exact if_pos ⟨hok, h0, hle⟩

theorem State.wakeAt_stallUp (h : s.stState sid = 2) : FMap.get 0 (s.stallUp sid).wakeAt sid = 0 := by
  unfold State.stallUp
  split
  · exact State.wakeAt_stallRuns h
  · rw [(BufsKept.refl _).catchUp.wakeAt]
    exact State.wakeAt_stallRuns h

theorem State.stState_stallUp (h : s.stState sid = 2) (hl : s.logicalAt sid = 63 ∨ s.unitGen (1, s.logicalNo sid) = s.rd MODE_GEN.CUR) :
    (s.stallUp sid).stState sid = s.serveState sid := by
  have hrows := State.rows_stallRuns (s := s) sid
  have hup : s.stallUp sid = s.stallRuns sid := by
    unfold State.stallUp
    split
    · rfl
    next h63 =>
      rw [State.logicalAt_of_rows hrows] at h63
      refine State.catchUp_of_level ?_
      rw [State.logicalNo_of_rows hrows, State.unitGen_stallRuns, State.rd_stallRuns (by decide)]
      exact hl.resolve_left h63
  rw [hup, State.stState_stallRuns h]

theorem State.unitGen_stallUp (h63 : s.logicalAt sid ≠ 63) : (s.stallUp sid).unitGen (1, s.logicalNo sid) = (s.stallUp sid).rd MODE_GEN.CUR := by
  have hrows := State.rows_stallRuns (s := s) sid
  rw [State.stallUp, State.logicalAt_of_rows hrows, if_neg h63, State.logicalNo_of_rows hrows, State.unitGen_catchUp]

theorem stall_wake_completes (hok : stallOk r p = true) (hst : s.stState (stallId r p) = 2) (h0 : FMap.get 0 s.wakeAt (stallId r p) ≠ 0)
    (hle : FMap.get 0 s.wakeAt (stallId r p) ≤ s.now) :
    ∃ t, exec (.wakeComplete (.stall r p)) s = .next t ∧ FMap.get 0 t.wakeAt (stallId r p) = 0 ∧
      (s.logicalAt (stallId r p) = 63 ∨ s.unitGen (1, s.logicalNo (stallId r p)) = s.rd MODE_GEN.CUR →
        t.stState (stallId r p) = s.serveState (stallId r p)) ∧
      (s.logicalAt (stallId r p) ≠ 63 → t.unitGen (1, s.logicalNo (stallId r p)) = t.rd MODE_GEN.CUR) := by
  refine ⟨_, exec_wakeComplete_stall hok h0 hle, ?_, fun hl => ?_, fun h63 => ?_⟩
  · rw [State.refill, State.modStall_wakeAt]
    exact State.wakeAt_stallUp hst
  · rw [State.stState_refill, State.stState_stallUp hst hl]
  · rw [State.unitGen_refill, State.unitGen_stallUp h63, State.refill, State.rd_modStall]

theorem State.sleep_unitRuns (h : FMap.get 0 s.sleep r = 2) (hr : r < 192) : FMap.get 0 (s.unitRuns r).sleep r = 3 := by
  have : ¬192 ≤ r := by omega
  simp [State.unitRuns, h, this]

theorem State.wakeAt_unitRuns (h : FMap.get 0 s.sleep r = 2) (hr : r < 192) : FMap.get 0 (s.unitRuns r).wakeAt (12288 + r) = 0 := by
  have : ¬192 ≤ r := by omega
  simp [State.unitRuns, h, this]

/-- What the taking of a vector leaves of sleep and wake times. -/
theorem State.sleep_takeVector (s : State) (row buf : Nat) (v : VecIn) :
    (s.takeVector row buf v).sleep = s.sleep ∧ (s.takeVector row buf v).wakeAt = s.wakeAt := by
  have hs : BufsKept s (s.answerStats row v) := (BufsKept.refl s).answerStats
  unfold State.takeVector
  dsimp only
  split
  · exact ⟨hs.nanVector.adapterPart.sleep, hs.nanVector.adapterPart.wakeAt⟩
  · refine ⟨(BufsKept.refl _).adapterPart.sleep.trans ?_, (BufsKept.refl _).adapterPart.wakeAt.trans ?_⟩
    · rw [State.modRow_sleep, hs.sleep]
    · rw [State.modRow_wakeAt, hs.wakeAt]

theorem State.sleep_wokenVectors (s : State) (row : Nat) :
    (s.wokenVectors row).sleep = s.sleep ∧ (s.wokenVectors row).wakeAt = s.wakeAt := by
  unfold State.wokenVectors
  split
  · rw [foldl_keeps (f := State.sleep) fun t (w : Nat × VecIn) => (t.sleep_takeVector row w.1 w.2).1,
      foldl_keeps (f := State.wakeAt) fun t (w : Nat × VecIn) => (t.sleep_takeVector row w.1 w.2).2]
    exact ⟨s.modRow_sleep _ _, s.modRow_wakeAt _ _⟩
  · exact ⟨rfl, rfl⟩

theorem row_wake_completes (hok : rowOk r = true) (hst : FMap.get 0 s.sleep r = 2) (h0 : FMap.get 0 s.wakeAt (12288 + r) ≠ 0)
    (hle : FMap.get 0 s.wakeAt (12288 + r) ≤ s.now) :
    ∃ t, exec (.wakeComplete (.row r)) s = .next t ∧ FMap.get 0 t.sleep r = 3 ∧ FMap.get 0 t.wakeAt (12288 + r) = 0 := by
  have hr := lt_of_rowOk hok
  have hup : BufsKept (s.unitRuns r) ((s.unitRuns r).catchUp (2, r)) := (BufsKept.refl _).catchUp
  refine ⟨((s.unitRuns r).catchUp (2, r)).wokenVectors r, ?_, ?_, ?_⟩
  · rw [exec_wakeComplete, execWakeComplete]
    exact if_pos ⟨hok, h0, hle⟩
  · rw [(State.sleep_wokenVectors _ r).1, hup.sleep, State.sleep_unitRuns hst hr]
  · rw [(State.sleep_wokenVectors _ r).2, hup.wakeAt, State.wakeAt_unitRuns hst hr]

/-! ### Entries into sleep (R25, R487) -/

theorem stall_gates (hok : stallOk r p = true) (hen : s.on WDN_CTL.SLEEP_EN = true) (hi : s.stallIdle (stallId r p) = true) :
    ∃ t, exec (.clockGatedEntry (.stall r p)) s = .next t ∧ t.stState (stallId r p) = 1 ∧ FMap.get 0 t.gatedAt (stallId r p) = s.now + 1 := by
  refine ⟨{ s.setStState (stallId r p) stGated with gatedAt := FMap.set 0 s.gatedAt (stallId r p) (s.now + 1) }, ?_, ?_, ?_⟩
  · simp [exec_clockGatedEntry, execClockGatedEntry, unitOk, hok, hen, hi]
  · exact (State.rd_of_regs (s := s.setStState (stallId r p) stGated) rfl _ _).trans (State.rd_wr_val _ (by decide) _ _)
  · simp

theorem row_gates (hok : rowOk r = true) (hen : s.on WDN_CTL.SLEEP_EN = true) (hrun : FMap.get 0 s.sleep r = 3) (hi : s.rowIdle r = true) :
    ∃ t, exec (.clockGatedEntry (.row r)) s = .next t ∧ FMap.get 0 t.sleep r = 1 ∧ FMap.get 0 t.gatedAt (12288 + r) = s.now + 1 := by
  refine ⟨{ s with sleep := FMap.set 0 s.sleep r 1, gatedAt := FMap.set 0 s.gatedAt (12288 + r) (s.now + 1) }, ?_, by simp, by simp⟩
  simp [exec_clockGatedEntry, execClockGatedEntry, unitOk, hok, hen, hrun, hi]

theorem State.planeState_zero (s : State) (sid : Nat) : s.planeState sid 0 = s.rd STL_PLANE.P0_STATE sid := rfl

theorem State.planeState_one (s : State) (sid : Nat) : s.planeState sid 1 = s.rd STL_PLANE.P1_STATE sid := rfl

theorem State.setPlane_zero (st tag : Nat) : s.setPlane sid 0 st tag = (s.wr STL_PLANE.P0_STATE sid st).wr STL_PLANE.P0_TAG sid tag := rfl

theorem State.setPlane_one (st tag : Nat) : s.setPlane sid 1 st tag = (s.wr STL_PLANE.P1_STATE sid st).wr STL_PLANE.P1_TAG sid tag := rfl

theorem State.planeState_setPlane_zero (tag : Nat) : (s.setPlane sid 0 0 tag).planeState sid 0 = 0 := by
  rw [State.planeState_zero, State.setPlane_zero, State.rd_wr_free _ (by decide), State.rd_wr_val _ (by decide), Nat.zero_mod]

theorem State.planeState_setPlane_one (tag : Nat) : (s.setPlane sid 1 0 tag).planeState sid 1 = 0 := by
  rw [State.planeState_one, State.setPlane_one, State.rd_wr_free _ (by decide), State.rd_wr_val _ (by decide), Nat.zero_mod]

theorem State.planeState_setPlane_other (st tag : Nat) : (s.setPlane sid 1 st tag).planeState sid 0 = s.planeState sid 0 := by
  rw [State.planeState_zero, State.setPlane_one, State.rd_wr_free _ (by decide), State.rd_wr_free _ (by decide), State.planeState_zero]

theorem State.planeState_loseSram : (s.loseSram sid).planeState sid 0 = 0 ∧ (s.loseSram sid).planeState sid 1 = 0 := by
  unfold State.loseSram
  dsimp only
  rw [State.planeState_setPlane_one, State.planeState_setPlane_other, State.planeState_setPlane_zero]
  exact ⟨rfl, rfl⟩

theorem State.stall_setPlane (q st tag k : Nat) : (s.setPlane sid q st tag).stall k = s.stall k := by
  unfold State.setPlane
  split <;> simp only [State.stall_wr]

theorem State.stall_loseSram : ((s.loseSram sid).stall sid).plane0 = none ∧ ((s.loseSram sid).stall sid).plane1 = none := by
  simp [State.loseSram, State.stall_setPlane, Stall.cleared]

theorem State.planeState_of_regs {t : State} (h : t.regs = s.regs) (q : Nat) : t.planeState sid q = s.planeState sid q := by
  simp only [State.planeState, State.rd_of_regs h]

theorem State.planeState_setStState (st q : Nat) : (s.setStState sid st).planeState sid q = s.planeState sid q := by
  simp only [State.planeState, State.setStState, State.rd_wr_free _ (show STL_PLANE.P0_STATE.free STL_STAT.STATE = true by decide),
    State.rd_wr_free _ (show STL_PLANE.P1_STATE.free STL_STAT.STATE = true by decide)]

theorem State.stState_setPlane (q st tag : Nat) : (s.setPlane sid q st tag).stState sid = s.stState sid := by
  simp only [State.stState]
  unfold State.setPlane
  split
  · rw [State.rd_wr_free _ (by decide), State.rd_wr_free _ (by decide)]
  · rw [State.rd_wr_free _ (by decide), State.rd_wr_free _ (by decide)]

theorem State.stState_loseSram : (s.loseSram sid).stState sid = s.stState sid := by
  unfold State.loseSram
  dsimp only
  rw [State.stState_setPlane, State.stState_setPlane]
  exact s.rd_modStall _ _ _ _

theorem State.stall_stallBiasOff (k : Nat) : (s.stallBiasOff sid).stall k = (s.loseSram sid).stall k := by
  refine State.stall_congr ?_ k
  unfold State.stallBiasOff
  extract_lets s2 s3
  have h3 : s3.stalls = s2.stalls := rfl
  split
  · exact h3
  · rw [State.setStState, State.wr_stalls, h3]

theorem State.stState_setStState_off : (s.setStState sid stBiasOff).stState sid = 0 := by
  rw [State.setStState, State.stState, State.rd_wr_val _ (by decide), stBiasOff, Nat.zero_mod]

/-- A clock-gated stall enters bias-off with its SRAM lost. -/
theorem State.stallBiasOff_of_gated (h : s.stState sid = 1) :
    s.stallBiasOff sid = { s.loseSram sid with
      gatedAt := FMap.set 0 (s.loseSram sid).gatedAt sid 0, wakeAt := FMap.set 0 (s.loseSram sid).wakeAt sid 0 }.setStState sid stBiasOff := by
  have h2 : (s.loseSram sid).stState sid = 1 := State.stState_loseSram.trans h
  unfold State.stallBiasOff
  refine if_neg ?_
  show ¬((s.loseSram sid).stState sid = stShuttered ∨ (s.loseSram sid).stState sid = stFault)
  rw [h2]
  decide

theorem stall_turns_off (hok : stallOk r p = true) (hst : s.stState (stallId r p) = 1) (hl : s.longGated (.stall r p) = true)
    (he : s.stallEmpty (stallId r p) = true) :
    ∃ t, exec (.biasOffEntry (.stall r p)) s = .next t ∧ t.stState (stallId r p) = 0 ∧
      t.planeState (stallId r p) 0 = 0 ∧ t.planeState (stallId r p) 1 = 0 ∧ (t.stall (stallId r p)).plane0 = none ∧ (t.stall (stallId r p)).plane1 = none := by
  refine ⟨s.stallBiasOff (stallId r p), ?_, ?_⟩
  · simp [exec_biasOffEntry, execBiasOffEntry, unitOk, hok, hst, hl, he, stGated]
  · rw [State.stall_stallBiasOff, State.stallBiasOff_of_gated hst]
    refine ⟨State.stState_setStState_off, ?_, ?_, State.stall_loseSram⟩
    · exact (State.planeState_setStState _ _).trans ((State.planeState_of_regs (s := s.loseSram (stallId r p)) rfl 0).trans State.planeState_loseSram.1)
    · exact (State.planeState_setStState _ _).trans ((State.planeState_of_regs (s := s.loseSram (stallId r p)) rfl 1).trans State.planeState_loseSram.2)

theorem row_turns_off (hok : rowOk r = true) (hst : FMap.get 0 s.sleep r = 1) (hl : s.longGated (.row r) = true)
    (hp : ∀ p, p < 33 → s.stState (stallId r p) = 0) :
    ∃ t, exec (.biasOffEntry (.row r)) s = .next t ∧ FMap.get 0 t.sleep r = 0 := by
  have hall : (List.range 33).all (fun p => s.stState (stallId r p) == stBiasOff) = true := by
    simpa [stBiasOff] using hp
  refine ⟨s.rowBiasOff r, ?_, by simp [State.rowBiasOff]⟩
  simp only [exec_biasOffEntry, execBiasOffEntry, unitOk, hok, hst, hl, hall]
  rfl

end Machine

/-- Settles O2: a request wakes a sleeping unit by its time, the unit then runs, level with CUR, and an idle one gates and turns off. -/
theorem sleepAndWakeComplete : Obligations.SleepAndWakeComplete := fun _ =>
  ⟨fun _ _ => stall_wakes, fun _ => row_wakes, fun _ => quarter_wakes, fun _ _ => stall_wake_completes, fun _ => row_wake_completes,
    fun _ _ => stall_gates, fun _ => row_gates, fun _ _ => stall_turns_off, fun _ => row_turns_off⟩

end Sys2Proof
end

section
/-! PROOF. Vectors, quantisation, tile commands, step markers and storms (O6): what each command leaves. -/

namespace Sys2Proof

open Machine

set_option Elab.async false

namespace Machine

theorem exec_vectorArrival (row buf : Nat) (v : VecIn) (s : State) : exec (.vectorArrival row buf v) s = execVectorArrival row buf v s := rfl

theorem exec_quantiseVector (row buf : Nat) (s : State) : exec (.quantiseVector row buf) s = execQuantiseVector row buf s := rfl

theorem exec_tileForceWide (who : Who) (row p g : Nat) (s : State) : exec (.tileForceWide who row p g) s = .next (s.tileCmd who row p g 1) := rfl

theorem exec_tileReleaseForce (who : Who) (row p g : Nat) (s : State) :
    exec (.tileReleaseForce who row p g) s = .next (s.tileCmd who row p g 2) := rfl

theorem exec_tileSetHold (who : Who) (row p g : Nat) (s : State) : exec (.tileSetHold who row p g) s = .next (s.tileCmd who row p g 3) := rfl

theorem exec_stepMarker (row : Nat) (s : State) : exec (.stepMarker row) s = execStepMarker row s := rfl

theorem exec_holdExpiry (row p g : Nat) (s : State) : exec (.holdExpiry row p g) s = execHoldExpiry row p g s := rfl

theorem exec_wideStormEvaluation (row : Nat) (s : State) : exec (.wideStormEvaluation row) s = execWideStormEvaluation row s := rfl

variable {s : State} {row : Nat}

/-! ### Vectors (R26, R110, R114) -/

/-- No vector waits for the row. -/
def State.unqueued (s : State) (row : Nat) : State := s.modRow row fun r => { r with vecWait := [] }

theorem State.wokenVectors_of_none (ha : s.rowAwake row = true) (hw : (s.row row).vecWait = []) : s.wokenVectors row = s.unqueued row := by
  simp [State.wokenVectors, State.unqueued, ha, hw]

theorem State.wokenVectors_of_asleep (ha : s.rowAwake row = false) : s.wokenVectors row = s := by
  simp [State.wokenVectors, ha]

theorem State.row_unqueued (hw : (s.row row).vecWait = []) (r : Nat) : (s.unqueued row).row r = s.row r := by
  by_cases h : r = row
  · subst h
    rw [State.unqueued, State.row_modRow_same]
    conv_rhs => rw [show s.row r = { s.row r with vecWait := (s.row r).vecWait } from rfl, hw]
  · rw [State.unqueued, State.row_modRow_ne _ h]

theorem State.vecValues_unqueued (hw : (s.row row).vecWait = []) (v : VecIn) : (s.unqueued row).vecValues row v = s.vecValues row v := by
  have hprep : (s.unqueued row).prepared v = s.prepared v := rfl
  have hattn : (s.unqueued row).attnRes row = s.attnRes row := by
    funext k
    rw [State.attnRes, State.row_unqueued hw, State.attnRes]
  simp only [State.vecValues, hprep, hattn]

theorem State.bufs_takeVector {buf : Nat} {v : VecIn} {xs : List Word32} (h : s.vecValues row v = some xs) :
    FMap.get Vec.none ((s.takeVector row buf v).row row).bufs buf = ⟨v.tag, v.stall, v.trans, permuted (s.permOf (stallId row v.stall) v) xs, false,
      v.feeds.map (·.1), feedsOf v, v.seq, probPrep v.prep, if v.residue && !v.trans then xs else []⟩ := by
  simp only [State.takeVector, h]
  rw [(BufsKept.refl _).adapterPart.bufs, State.row_modRow_same]
  exact FMap.get_set_same _ _ _

theorem vector_taken {buf : Nat} {v : VecIn} {xs : List Word32} (hok : stallOk row v.stall = true) (hbuf : buf < 8) (ha : s.rowAwake row = true)
    (hw : (s.row row).vecWait = []) (hfree : (s.row row).bufTaken buf = false) (hxs : s.vecValues row v = some xs) :
    ∃ t, exec (.vectorArrival row buf v) s = .next t ∧
      FMap.get Vec.none (t.row row).bufs buf = ⟨v.tag, v.stall, v.trans, permuted (s.permOf (stallId row v.stall) v) xs, false,
        v.feeds.map (·.1), feedsOf v, v.seq, probPrep v.prep, if v.residue && !v.trans then xs else []⟩ := by
  have hawake : (s.unqueued row).rowAwake row = true := ha
  refine ⟨(s.unqueued row).takeVector row buf v, ?_, State.bufs_takeVector ((State.vecValues_unqueued hw v).trans hxs)⟩
  simp [exec_vectorArrival, execVectorArrival, State.wokenVectors_of_none ha hw, State.row_unqueued hw, hok, hbuf, hfree, hawake]

theorem vector_waits {buf : Nat} {v : VecIn} (hok : stallOk row v.stall = true) (hbuf : buf < 8) (ha : s.rowAwake row = false)
    (hfree : (s.row row).bufTaken buf = false) :
    ∃ t, exec (.vectorArrival row buf v) s = .next t ∧ (t.row row).vecWait = (s.row row).vecWait ++ [(buf, v)] ∧
      (t.row row).bufs = (s.row row).bufs := by
  refine ⟨s.modRow row fun r => { r with vecWait := r.vecWait ++ [(buf, v)] }, ?_, by simp, by simp⟩
  simp [exec_vectorArrival, execVectorArrival, State.wokenVectors_of_asleep ha, hok, hbuf, hfree, ha]

/-! ### Quantisation (R26, R115, R126) -/

theorem State.rd_widen {F : RField} (h1 : F.free TAL_WIDE_START_CNT.V = true) (h2 : F.free TAL_TILE_STAT.WIDE = true)
    (h3 : F.free TAL_TILE_STAT.HOLD_LEFT = true) (gid i : Nat) : (s.widen gid).rd F i = s.rd F i := by
  unfold State.widen
  dsimp only
  rw [State.rd_modGroup, State.rd_wr_free _ h3, State.rd_wr_free _ h2]
  split
  · rfl
  · rw [State.rd_bump_free _ h1]

theorem State.stalls_widen (gid : Nat) : (s.widen gid).stalls = s.stalls := by
  unfold State.widen
  dsimp only
  rw [State.modGroup_stalls, State.wr_stalls, State.wr_stalls]
  split
  · rfl
  · rw [State.bump_stalls]

/-- A fresh vector stays in A4. -/
theorem NqCfg.a8_decide'_fresh (c : NqCfg) (widenEn : Bool) (etaMax : Nat) (grps : List (List (Option Dy))) :
    (c.decide' false false false widenEn etaMax grps).q.a8 = false := by
  have hq : (c.quantise false grps).2.a8 = false := rfl
  unfold NqCfg.decide'
  generalize c.quantise false grps = first at hq ⊢
  obtain ⟨ks, q⟩ := first
  simp only [Bool.or_false, Bool.and_false, Bool.false_eq_true, if_false]
  rw [apply_ite Decision.q, ite_self, apply_ite Quant.a8, hq]
  exact ite_self false

theorem vector_quantised {buf : Nat} {v : Vec} {st : Stall} (hrow : rowOk row = true) (hbuf : buf < 8) (ha : s.rowAwake row = true)
    (hw : (s.row row).vecWait = []) (hv : FMap.get Vec.none (s.row row).bufs buf = v) (hst : s.stall (stallId row v.stall) = st)
    (hdone : v.done = false) (hfeeds : v.feeds ≠ []) (hroom : st.narrow.length < 2)
    (hpair : st.pairFree (s.row row).edge = true ∨ v.trans = true ∨ (v.feeds.all fun f => decide (4 ≤ f.group)) = true) :
    ∃ t, exec (.quantiseVector row buf) s = .next t ∧ t.rd TAL_NQ_VEC_CNT.V row = (s.rd TAL_NQ_VEC_CNT.V row + 1) % 2 ^ 64 ∧
      (FMap.get Vec.none (t.row row).bufs buf).done = true ∧
      ∃ n, n.tag = v.tag ∧ n.feeds = v.feeds ∧ (t.stall (stallId row v.stall)).narrow = st.narrow ++ [n] ∧
        (t.stall (stallId row v.stall)).waiting = st.waiting ++ [n] := by
  have hawake : (s.unqueued row).rowAwake row = true := ha
  have hv' : FMap.get Vec.none ((s.unqueued row).row row).bufs buf = v := by rw [State.row_unqueued hw, hv]
  have hst' : (s.unqueued row).stall (stallId row v.stall) = st := hst
  have hcnt' : (s.unqueued row).rd TAL_NQ_VEC_CNT.V row = s.rd TAL_NQ_VEC_CNT.V row := s.rd_modRow _ _ _ _
  have hedge : ((s.unqueued row).row row).edge = (s.row row).edge := by rw [State.row_unqueued hw]
  rw [exec_quantiseVector]
  generalize hr : execQuantiseVector row buf s = r
  unfold execQuantiseVector at hr
  rw [State.wokenVectors_of_none ha hw] at hr
  generalize s.unqueued row = u at hr hawake hv' hst' hcnt' hedge
  extract_lets _ v' sid st' fresh stock c desig ct wOf size grps wide probs d q n both s1 s2 s3 s4 s5 at hr
  have hvv : v' = v := hv'
  have hsid : sid = stallId row v.stall := congrArg (fun x : Vec => stallId row x.stall) hvv
  have hstt : st' = st := (congrArg u.stall hsid).trans hst'
  have ha8 : (q.a8 && !v'.trans && !st'.pairFree (u.row row).edge) = false := by
    rw [hvv, hstt, hedge]
    rcases hpair with hp | ht | hf
    · simp [hp]
    · simp [ht]
    · have hfresh : fresh = true := (congrArg (fun x : Vec => x.feeds.all fun f => decide (4 ≤ f.group)) hvv).trans hf
      by_cases ht : v'.trans = true
      · simp [← hvv, ht]
      · have hq : q.a8 = false := by
          have hstock : stock = false := congrArg (! ·) hfresh
          have hwide : wide = false := congrArg (· && _) hstock
          unfold q d
          split
          · rfl
          · rw [hwide, hstock, Bool.eq_false_iff.2 ht]
            exact NqCfg.a8_decide'_fresh _ _ _ _
        simp [hq]
  have hcond : ¬(v'.done || v'.feeds.isEmpty || decide (2 ≤ st'.narrow.length)) = true := by
    have hnil : v.feeds.isEmpty = false := by simpa using hfeeds
    have hlen : ¬2 ≤ st.narrow.length := by omega
    simp [hvv, hstt, hdone, hnil, hlen]
  have hgate : ¬(!(rowOk row && decide (buf < 8) && u.rowAwake row)) = true := by simp [hrow, hbuf, hawake]
  rw [if_neg hgate, if_neg hcond, ha8, if_neg Bool.false_ne_true] at hr
  have hs1 : s1.rd TAL_NQ_VEC_CNT.V row = (s.rd TAL_NQ_VEC_CNT.V row + 1) % 2 ^ 64 := by
    unfold s1
    rw [State.rd_bump_free _ (by decide), State.rd_bump_free _ (by decide), State.rd_bump_free _ (by decide), State.rd_bump_free _ (by decide),
      State.rd_bump_val _ (by decide), ← hcnt']
    rfl
  have hs4 : s4.rd TAL_NQ_VEC_CNT.V row = s1.rd TAL_NQ_VEC_CNT.V row ∧ s4.stalls = u.stalls := by
    have h2 : s2.rd TAL_NQ_VEC_CNT.V row = s1.rd TAL_NQ_VEC_CNT.V row ∧ s2.stalls = u.stalls := by
      refine ⟨?_, by unfold s2 s1; simp only [State.bump_stalls]; rfl⟩
      unfold s2
      rw [State.rd_bump_free _ (by decide), State.rd_bump_free _ (by decide), State.rd_bump_free _ (by decide)]
    have h3 : s3.rd TAL_NQ_VEC_CNT.V row = s1.rd TAL_NQ_VEC_CNT.V row ∧ s3.stalls = u.stalls := by
      rw [← h2.1, ← h2.2]
      exact ⟨foldl_keeps (f := fun t => t.rd TAL_NQ_VEC_CNT.V row) (fun t g => t.rd_wr_free (by decide) _ _ _) _ _,
        foldl_keeps (f := State.stalls) (fun t g => t.wr_stalls _ _ _) _ _⟩
    rw [← h3.1, ← h3.2]
    unfold s4
    split
    · exact ⟨foldl_keeps (f := fun t => t.rd TAL_NQ_VEC_CNT.V row) (fun t g => State.rd_widen (by decide) (by decide) (by decide) _ _) _ _,
        foldl_keeps (f := State.stalls) (fun t g => State.stalls_widen _) _ _⟩
    · exact ⟨rfl, rfl⟩
  subst hr
  refine ⟨_, rfl, ?_, ?_, n, congrArg Vec.tag hvv, congrArg Vec.feeds hvv, ?_⟩
  · rw [State.rd_modRow, State.rd_modStall, hs4.1, hs1]
  · rw [State.row_modRow_same]
    exact congrArg Vec.done (FMap.get_set_same _ _ _)
  · rw [State.stall_modRow, ← hsid, State.stall_modStall_same, State.stall_congr hs4.2, hsid, hst']
    exact ⟨rfl, rfl⟩


/-! ### Tile commands (R139) -/

theorem State.rows_squareRuns (s : State) : s.squareRuns.rows = s.rows := by
  have h : Keeps ⟨[.warden].contains, fun _ => true⟩ s s.squareRuns := (Keeps.refl _ s).squareRuns
  exact h.part .rows rfl

theorem State.rows_accessed (s : State) (who : Who) (off : Nat) : (s.accessed who off).rows = s.rows := by
  rw [State.accessed, State.keepHalves_rows, State.rows_squareRuns]

/-- A clerk's write of a tally engine register acts on the woken row. -/
theorem State.talWrite_clerk {k off : Nat} {f : State → State} (hrow : row < 192) (hr : s.boot.inReset.contains (12288 + row) = false) :
    s.talWrite (.clerk k) row off f = f ((s.accessed (.clerk k) (0x1100000 + 0x4000 * row + off)).wakeRow row) := by
  unfold State.talWrite
  rw [if_pos ⟨hrow, rfl⟩]
  dsimp only
  rw [if_pos (show whoClerk (.clerk k) = true from rfl), if_neg (by rw [hr]; decide)]

theorem State.cmds_tileCmd {k p g op : Nat} (hrow : rowOk row = true) (hp : p < 33) (hg : g < 4) (hr : s.boot.inReset.contains (12288 + row) = false) :
    ((s.tileCmd (.clerk k) row p g op).row row).cmds = (s.row row).cmds ++ [(p, g, op)] := by
  rw [State.tileCmd, State.talWrite_clerk (lt_of_rowOk hrow) hr, if_pos ⟨hp, hg⟩, State.row_modRow_same, State.row_wakeRow,
    State.row_congr (State.rows_accessed _ _ _)]

theorem tile_commands_wait {k p g : Nat} (hrow : rowOk row = true) (hp : p < 33) (hg : g < 4) (hr : s.boot.inReset.contains (12288 + row) = false) :
    (∃ t, exec (.tileForceWide (.clerk k) row p g) s = .next t ∧ (t.row row).cmds = (s.row row).cmds ++ [(p, g, 1)]) ∧
    (∃ t, exec (.tileReleaseForce (.clerk k) row p g) s = .next t ∧ (t.row row).cmds = (s.row row).cmds ++ [(p, g, 2)]) ∧
    (∃ t, exec (.tileSetHold (.clerk k) row p g) s = .next t ∧ (t.row row).cmds = (s.row row).cmds ++ [(p, g, 3)]) :=
  ⟨⟨_, exec_tileForceWide _ _ _ _ _, State.cmds_tileCmd hrow hp hg hr⟩, ⟨_, exec_tileReleaseForce _ _ _ _ _, State.cmds_tileCmd hrow hp hg hr⟩,
    ⟨_, exec_tileSetHold _ _ _ _ _, State.cmds_tileCmd hrow hp hg hr⟩⟩

/-! ### Step markers (R127, R139, R148) -/

theorem State.rd_markTile {F : RField} (h : F.free TAL_TILE_STAT.HOLD_LEFT = true) (gid i : Nat) : (s.markTile gid).rd F i = s.rd F i := by
  unfold State.markTile
  dsimp only
  rw [State.rd_setGroup]
  split
  · exact State.rd_wr_free _ h _ _ _
  · rfl

theorem State.rows_markTile (s : State) (gid : Nat) : (s.markTile gid).rows = s.rows := by
  unfold State.markTile
  dsimp only
  rw [State.setGroup_rows]
  split
  · exact State.wr_rows _ _ _ _
  · rfl

/-- A tile command leaves every register but TAL_TILE_STAT and the count of entries as it stands. -/
theorem State.rd_actCmd {F : RField} (h1 : F.free TAL_WIDE_START_CNT.V = true) (h2 : F.free TAL_TILE_STAT.WIDE = true)
    (h3 : F.free TAL_TILE_STAT.HOLD_LEFT = true) (h4 : F.free TAL_TILE_STAT.FORCED = true) (c : Nat × Nat × Nat) (i : Nat) :
    (s.actCmd row c).rd F i = s.rd F i := by
  unfold State.actCmd
  dsimp only
  split
  · rw [State.rd_wr_free _ h4, State.rd_widen h1 h2 h3]
  · rw [State.rd_wr_free _ h4]
  · split
    · rw [State.rd_wr_free _ h3]
    · rfl

/-- The hold of a tile lowers at a step marker: the tile is wide, was struck and fired no trigger (R127). -/
def State.holdFalls (s : State) (gid : Nat) : Bool := s.on TAL_TILE_STAT.WIDE gid && (s.group gid).struck && !(s.group gid).fired

/-- The hold that a step marker leaves a tile. -/
def State.markedHold (s : State) (gid : Nat) : Nat := s.rd TAL_TILE_STAT.HOLD_LEFT gid - ofBool (s.holdFalls gid)

theorem State.markTile_eq (s : State) (gid : Nat) : s.markTile gid =
    (if s.holdFalls gid then s.wr TAL_TILE_STAT.HOLD_LEFT gid (s.rd TAL_TILE_STAT.HOLD_LEFT gid - 1) else s).setGroup gid
      { s.group gid with struck := false, fired := false } := rfl

theorem State.hold_markTile_same (gid : Nat) : (s.markTile gid).rd TAL_TILE_STAT.HOLD_LEFT gid = s.markedHold gid := by
  have hlt : s.rd TAL_TILE_STAT.HOLD_LEFT gid < 2 ^ 8 := RField.of_lt TAL_TILE_STAT.HOLD_LEFT _
  rw [State.markTile_eq, State.rd_setGroup, State.markedHold]
  cases s.holdFalls gid with
  | true =>
    rw [if_pos rfl, State.rd_wr_val _ (by decide)]
    exact Nat.mod_eq_of_lt ((Nat.sub_le _ _).trans_lt hlt)
  | false => rfl

theorem State.rd_markTile_ne {gid k : Nat} (F : RField) (hg : gid < 65536) (hk : k < 65536) (h : k ≠ gid) : (s.markTile gid).rd F k = s.rd F k := by
  unfold State.markTile
  dsimp only
  rw [State.rd_setGroup]
  split
  · exact State.rd_wr_inst _ hg hk h _
  · rfl

theorem State.group_markTile_ne {gid k : Nat} (h : k ≠ gid) : (s.markTile gid).group k = s.group k := by
  unfold State.markTile
  dsimp only
  rw [State.group_setGroup_ne _ h]
  split
  · exact State.group_wr _ _ _ _ _
  · rfl

theorem State.markedHold_markTile_ne {gid k : Nat} (hg : gid < 65536) (hk : k < 65536) (h : k ≠ gid) : (s.markTile gid).markedHold k = s.markedHold k := by
  have hf : (s.markTile gid).holdFalls k = s.holdFalls k := by
    simp only [State.holdFalls, State.on, State.rd_markTile_ne _ hg hk h, State.group_markTile_ne h]
  rw [State.markedHold, hf, State.rd_markTile_ne _ hg hk h, State.markedHold]

/-- A fold over distinct keys whose step changes what its own key reads as: each key of the list takes one step's value, every other one stays. -/
theorem foldl_each {g : State → Nat → State} {rd val : State → Nat → Nat} {N : Nat} (hsame : ∀ u x, x < N → rd (g u x) x = val u x)
    (hrd : ∀ u x k, x < N → k < N → k ≠ x → rd (g u x) k = rd u k) (hval : ∀ u x k, x < N → k < N → k ≠ x → val (g u x) k = val u k)
    {l : List Nat} (hl : ∀ x ∈ l, x < N) (hnd : l.Nodup) {k : Nat} (hk : k < N) (s : State) :
    rd (l.foldl g s) k = if k ∈ l then val s k else rd s k := by
  induction l generalizing s with
  | nil => rfl
  | cons x l ih =>
    obtain ⟨hx, hnd⟩ := List.nodup_cons.1 hnd
    have hxN := hl x List.mem_cons_self
    rw [List.foldl_cons, ih (fun y hy => hl y (List.mem_cons_of_mem x hy)) hnd]
    by_cases hkx : k = x
    · subst hkx
      rw [if_neg hx, if_pos List.mem_cons_self, hsame s k hk]
    · simp only [List.mem_cons, hkx, false_or, hrd s x k hxN hk hkx, hval s x k hxN hk hkx]

/-- The markers of a list of tiles leave each the hold of one marker. -/
theorem State.hold_markTiles {l : List Nat} (hl : ∀ x ∈ l, x < 65536) (hnd : l.Nodup) {k : Nat} (hk : k ∈ l) (s : State) :
    (l.foldl State.markTile s).rd TAL_TILE_STAT.HOLD_LEFT k = s.markedHold k :=
  (foldl_each (rd := fun u k => u.rd TAL_TILE_STAT.HOLD_LEFT k) (val := State.markedHold) (fun _ _ _ => State.hold_markTile_same _)
    (fun _ _ _ hx hk h => State.rd_markTile_ne _ hx hk h) (fun _ _ _ hx hk h => State.markedHold_markTile_ne hx hk h) hl hnd (hl k hk) s).trans
    (if_pos hk)

/-- The output groups of a row. -/
def rowGroups (row : Nat) : List Nat := (List.range 132).map fun k => 256 * row + k

theorem groupId_mem_rowGroups {p g : Nat} (hp : p < 33) (hg : g < 4) : groupId (stallId row p) g ∈ rowGroups row :=
  List.mem_map.2 ⟨4 * p + g, List.mem_range.2 (by omega), by simp only [groupId, stallId]; omega⟩

theorem rowGroups_lt (hrow : row < 192) : ∀ x ∈ rowGroups row, x < 65536 := by
  simp only [rowGroups, List.mem_map, List.mem_range]
  rintro x ⟨k, hk, rfl⟩
  omega

theorem rowGroups_nodup : (rowGroups row).Nodup := List.nodup_range.map fun a b h => by simpa using h

/-- The row's tiles after a step marker, before the commands that wait act. -/
def State.stepMarked (s : State) (row : Nat) : State := (rowGroups row).foldl State.markTile (s.bump TAL_STEP_CNT.V row)

/-- The tiles after a step marker. -/
def State.stepActed (s : State) (row : Nat) : State := ((s.stepMarked row).row row).cmds.foldl (fun s c => s.actCmd row c) (s.stepMarked row)

theorem exec_stepMarker_of_ok (hrow : rowOk row = true) : exec (.stepMarker row) s =
    .next ((s.stepActed row).modRow row fun r => { r with cmds := [], seed := (s.stepActed row).rd TAL_ACC_SEED.V row, steps := r.steps + 1 }) := by
  rw [exec_stepMarker, execStepMarker]
  exact if_neg (by simp [hrow])

theorem State.rd_stepActed {F : RField} (h1 : F.free TAL_WIDE_START_CNT.V = true) (h2 : F.free TAL_TILE_STAT.WIDE = true)
    (h3 : F.free TAL_TILE_STAT.HOLD_LEFT = true) (h4 : F.free TAL_TILE_STAT.FORCED = true) (i : Nat) :
    (s.stepActed row).rd F i = (s.bump TAL_STEP_CNT.V row).rd F i := by
  rw [State.stepActed, foldl_keeps (f := fun t => t.rd F i) fun t c => State.rd_actCmd h1 h2 h3 h4 c i, State.stepMarked,
    foldl_keeps (f := fun t => t.rd F i) fun t g => State.rd_markTile h3 g i]

theorem State.cmds_stepMarked : ((s.stepMarked row).row row).cmds = (s.row row).cmds := by
  rw [State.stepMarked, State.row_congr (foldl_keeps (f := State.rows) (fun t g => State.rows_markTile t g) _ _), State.row_bump]

theorem State.hold_stepActed {p g : Nat} (hrow : rowOk row = true) (hc : (s.row row).cmds = []) (hp : p < 33) (hg : g < 4) :
    (s.stepActed row).rd TAL_TILE_STAT.HOLD_LEFT (groupId (stallId row p) g) = s.markedHold (groupId (stallId row p) g) := by
  rw [State.stepActed, State.cmds_stepMarked, hc, List.foldl_nil, State.stepMarked,
    State.hold_markTiles (rowGroups_lt (lt_of_rowOk hrow)) rowGroups_nodup (groupId_mem_rowGroups hp hg)]
  have hf (gid : Nat) : (s.bump TAL_STEP_CNT.V row).holdFalls gid = s.holdFalls gid := by
    rw [State.holdFalls, State.group_bump, State.on_bump_free _ (by decide), State.holdFalls]
  rw [State.markedHold, hf, State.rd_bump_free _ (by decide), State.markedHold]

theorem step_marked (hrow : rowOk row = true) :
    ∃ t, exec (.stepMarker row) s = .next t ∧ t.rd TAL_STEP_CNT.V row = (s.rd TAL_STEP_CNT.V row + 1) % 2 ^ 64 ∧
      (t.row row).cmds = [] ∧ (t.row row).seed = s.rd TAL_ACC_SEED.V row ∧
      ((s.row row).cmds = [] → ∀ p g, p < 33 → g < 4 → t.rd TAL_TILE_STAT.HOLD_LEFT (groupId (stallId row p) g) =
        s.rd TAL_TILE_STAT.HOLD_LEFT (groupId (stallId row p) g) -
          (if s.on TAL_TILE_STAT.WIDE (groupId (stallId row p) g) && (s.group (groupId (stallId row p) g)).struck
              && !(s.group (groupId (stallId row p) g)).fired then 1 else 0)) := by
  refine ⟨_, exec_stepMarker_of_ok hrow, ?_, ?_, ?_, fun hc p g hp hg => ?_⟩
  · rw [State.rd_modRow, State.rd_stepActed (by decide) (by decide) (by decide) (by decide), State.rd_bump_val _ (by decide)]
    rfl
  · rw [State.row_modRow_same]
  · rw [State.row_modRow_same, State.rd_stepActed (by decide) (by decide) (by decide) (by decide), State.rd_bump_free _ (by decide)]
  · rw [State.rd_modRow, State.hold_stepActed hrow hc hp hg]
    rfl

theorem hold_expires {p g : Nat} (hrow : rowOk row = true) (hp : p < 33) (hg : g < 4)
    (hw : s.on TAL_TILE_STAT.WIDE (groupId (stallId row p) g) = true) (ht : s.tileWide (groupId (stallId row p) g) = false) :
    ∃ t, exec (.holdExpiry row p g) s = .next t ∧ t.on TAL_TILE_STAT.WIDE (groupId (stallId row p) g) = false := by
  refine ⟨s.wr TAL_TILE_STAT.WIDE (groupId (stallId row p) g) 0, ?_, ?_⟩
  · have hok : stallOk row p = true := by simp [stallOk, lt_of_rowOk hrow, hp]
    simp [exec_holdExpiry, execHoldExpiry, hok, hg, hw, ht]
  · rw [State.on, State.rd_wr_val _ (by decide)]
    rfl

/-! ### Storms (R130, R140) -/

/-- The map of the numbers below n that meet a condition. -/
def mapOf (P : Nat → Bool) (n : Nat) : Nat := (((List.range n).filter P).map fun k => 2 ^ k).sum

theorem mapOf_succ (P : Nat → Bool) (n : Nat) : mapOf P (n + 1) = (if P n then 2 ^ n else 0) + mapOf P n := by
  unfold mapOf
  rw [List.range_succ, List.filter_append, List.map_append, List.sum_append, Nat.add_comm]
  by_cases h : P n <;> simp [h]

theorem mapOf_lt (P : Nat → Bool) (n : Nat) : mapOf P n < 2 ^ n := by
  induction n with
  | zero => simp [mapOf]
  | succ n ih =>
    rw [mapOf_succ, Nat.pow_succ]
    split <;> omega

theorem testBit_mapOf (P : Nat → Bool) {n k : Nat} (hk : k < n) : (mapOf P n).testBit k = P k := by
  induction n with
  | zero => omega
  | succ n ih =>
    rw [mapOf_succ]
    by_cases hP : P n = true
    · rw [if_pos hP]
      rcases Nat.lt_succ_iff_lt_or_eq.1 hk with h | rfl
      · rw [Nat.testBit_two_pow_add_gt h, ih h]
      · rw [Nat.testBit_two_pow_add_eq, Nat.testBit_lt_two_pow (mapOf_lt P k), hP]
        rfl
    · rw [if_neg hP, Nat.zero_add]
      rcases Nat.lt_succ_iff_lt_or_eq.1 hk with h | rfl
      · exact ih h
      · rw [Nat.testBit_lt_two_pow (mapOf_lt P k), Bool.eq_false_iff.2 hP]

/-- The storm map names the stalls of a row that have a storm, by their positions. -/
theorem stormMap_eq (P : Nat → Bool) (row : Nat) :
    ((((List.range 33).map (stallId row)).filter P).map fun sid => 2 ^ posOf sid).sum = mapOf (fun k => P (stallId row k)) 33 := by
  rw [List.filter_map, List.map_map, mapOf]
  refine congrArg List.sum (List.map_congr_left fun k hk => ?_)
  have hk33 : k < 33 := List.mem_range.1 (List.mem_filter.1 hk).1
  exact congrArg (2 ^ ·) (posOf_stallId (by omega))

theorem State.rd_setCal (s : State) (c : CalState) (F : RField) (i : Nat) : State.rd { s with cal := c } F i = s.rd F i := rfl

theorem State.rd_ite {c : Prop} {_ : Decidable c} {a b : State} {F : RField} {i x : Nat} (ha : a.rd F i = x) (hb : b.rd F i = x) :
    (if c then a else b).rd F i = x := by split <;> assumption

theorem State.rd_queueCal {F : RField} (h1 : F.free CAL_STAT.QUEUED = true) (h2 : F.free CAL_STALL_STAT.RUN = true) (sid i : Nat) :
    (s.queueCal sid).rd F i = s.rd F i := by
  unfold State.queueCal
  have hs1 (c : CalState) : State.rd { s.bump CAL_STAT.QUEUED with cal := c } F i = s.rd F i := by
    rw [State.rd_setCal, State.rd_bump_free _ h1]
  refine State.rd_ite rfl (State.rd_ite ?_ ?_)
  · rw [State.rd_wr_free _ h2]
    exact hs1 _
  · exact hs1 _

theorem State.rd_storm {F : RField} (hcal : F.free CAL_STAT.QUEUED = true ∧ F.free CAL_STALL_STAT.RUN = true)
    (hflag : (F.reg.blk.calm && F.free TAL_NQ_ERR.WIDE_STORM && (F.free TAL_NQ_ERR.STALL && F.free TAL_NQ_ERR.GROUP)) = true)
    (hcnt : F.free TAL_WIDE_STORM_CNT.V = true) (hev : (F.reg.blk != .evc) = true) (sid i : Nat) : (s.storm sid).rd F i = s.rd F i := by
  have hf : ((s.bump TAL_WIDE_STORM_CNT.V (rowOf sid)).nqFlag TAL_NQ_ERR.WIDE_STORM (rowOf sid) (posOf sid) 0).rd F i = s.rd F i :=
    (State.rd_flagAt_free _ (by simpa using hflag) _ _).trans (State.rd_bump_free _ hcnt _ _ _)
  unfold State.storm
  rw [State.rd_queueCal hcal.1 hcal.2]
  split
  · exact (State.rd_raise _ hev _ _).trans hf
  · exact hf

theorem storm_evaluated (hrow : rowOk row = true) (h0 : s.rd TAL_STEP_CNT.V row ≠ 0) (hdue : s.rd TAL_STEP_CNT.V row % s.rd TAL_NQ_STORM.WINDOW row = 0)
    (hnew : (s.row row).stormStep ≠ s.rd TAL_STEP_CNT.V row) :
    ∃ t, exec (.wideStormEvaluation row) s = .next t ∧
      (∀ p, p < 33 → bitAt (t.rd TAL_STORM_MAP.STALLS row) p = s.stormy (stallId row p)) ∧
      t.rd TAL_STORM_MAP.WINDOW_NO row = s.rd TAL_STEP_CNT.V row / s.rd TAL_NQ_STORM.WINDOW row % 2 ^ 16 := by
  rw [exec_wideStormEvaluation]
  generalize hr : execWideStormEvaluation row s = r
  unfold execWideStormEvaluation at hr
  rw [if_neg (by simp [hrow])] at hr
  extract_lets n w sids hit s1 s2 s3 at hr
  rw [if_pos ⟨hdue, h0, hnew⟩] at hr
  subst hr
  have hs3 (F : RField) (h1 : F.free CAL_STAT.QUEUED = true ∧ F.free CAL_STALL_STAT.RUN = true)
      (h2 : (F.reg.blk.calm && F.free TAL_NQ_ERR.WIDE_STORM && (F.free TAL_NQ_ERR.STALL && F.free TAL_NQ_ERR.GROUP)) = true)
      (h3 : F.free TAL_WIDE_STORM_CNT.V = true) (h4 : (F.reg.blk != .evc) = true) : s3.rd F row = s1.rd F row :=
    (foldl_keeps (f := fun t => t.rd F row) (fun t sid => t.rd_modStall _ _ _ _) _ _).trans
      (foldl_keeps (f := fun t => t.rd F row) (fun t sid => State.rd_storm h1 h2 h3 h4 sid row) _ _)
  refine ⟨_, rfl, fun p hp => ?_, ?_⟩
  · rw [State.rd_modRow, hs3 _ (by decide) (by decide) (by decide) (by decide)]
    unfold s1
    rw [State.rd_wr_free _ (by decide), State.rd_wr_val _ (by decide), bitAt_eq_testBit, stormMap_eq,
      Nat.mod_eq_of_lt (b := 2 ^ TAL_STORM_MAP.STALLS.wd) (mapOf_lt _ 33), testBit_mapOf _ hp]
  · rw [State.rd_modRow, hs3 _ (by decide) (by decide) (by decide) (by decide)]
    unfold s1
    rw [State.rd_wr_val _ (by decide)]
    rfl

end Machine

/-- Settles O6: arrival, quantisation, tile commands, step markers, hold expiry and storms, a lemma for each. -/
theorem narrowCommandsComplete : Obligations.NarrowCommandsComplete := fun _ _ hrow =>
  ⟨fun _ _ _ => vector_taken, fun _ _ => vector_waits, fun _ _ _ => vector_quantised hrow, fun _ _ _ hp hg hr => tile_commands_wait hrow hp hg hr,
    step_marked hrow, fun _ _ => hold_expires hrow, storm_evaluated hrow⟩

end Sys2Proof
end

section
/-! PROOF. Descriptors, staging, slices, planes and the stall registers (O3): what each command leaves. -/

namespace Sys2Proof

open Machine

set_option Elab.async false

namespace Machine

theorem exec_descriptorArrival (row p : Nat) (new : List (Nat × Nat)) (s : State) :
    exec (.descriptorArrival row p new) s = execDescriptorArrival row p new s := rfl

theorem exec_stlCtlWrite (who : Who) (row p val : Nat) (s : State) : exec (.stlCtlWrite who row p val) s = execStlCtlWrite who row p val s := rfl

theorem exec_stagingBankWrite (row p tag bank : Nat) (s : State) :
    exec (.stagingBankWrite row p tag bank) s = execStagingBankWrite row p tag bank s := rfl

theorem exec_sliceSubstitution (row p chan slice : Nat) (diffs : List Int) (s : State) :
    exec (.sliceSubstitution row p chan slice diffs) s = execSliceSubstitution row p chan slice diffs s := rfl

theorem exec_stlSliceMapWrite (who : Who) (row p val : Nat) (s : State) :
    exec (.stlSliceMapWrite who row p val) s = execStlSliceMapWrite who row p val s := rfl

theorem exec_planeSwap (row p : Nat) (s : State) : exec (.planeSwap row p) s = execPlaneSwap row p s := rfl

variable {s : State} {row p sid : Nat}

/-! ### Descriptors (R43, R70, R121, R126, R283) -/

section
variable {f : Row → Row} (hf : ∀ x, (f x).subst = x.subst)
include hf

theorem State.subst_modRow (k : Nat) : ((s.modRow row f).row k).subst = (s.row k).subst := by
  by_cases h : k = row
  · subst h
    rw [State.row_modRow_same, hf]
  · rw [State.row_modRow_ne _ h]

theorem State.logicalAt_modRow : (s.modRow row f).logicalAt sid = s.logicalAt sid := by
  rw [State.logicalAt, State.subst_modRow hf, State.logicalAt]

theorem State.logicalNo_modRow : (s.modRow row f).logicalNo sid = s.logicalNo sid := by
  rw [State.logicalNo, State.logicalAt_modRow hf, State.logicalNo]

theorem State.physOf_modRow (k l : Nat) : (s.modRow row f).physOf k l = s.physOf k l := by
  rw [State.physOf, State.subst_modRow hf, State.physOf]

theorem State.tileAt_modRow (g : Nat) : (s.modRow row f).tileAt sid g = s.tileAt sid g := by
  rw [State.tileAt, State.logicalNo_modRow hf, State.logicalAt_modRow hf, State.modRow_slots, State.tileAt]

theorem State.spareUnready_modRow : (s.modRow row f).spareUnready sid = s.spareUnready sid := by
  simp only [State.spareUnready, State.subst_modRow hf, State.tileAt_modRow hf, State.verified, State.getReg_modRow]

theorem State.partner_modRow (g : Nat) : (s.modRow row f).partner sid g = s.partner sid g := by
  rw [State.partner, State.tileAt_modRow hf, State.partner]

theorem State.partnerOut_modRow (g : Nat) : (s.modRow row f).partnerOut sid g = s.partnerOut sid g := by
  rw [State.partnerOut, State.partner_modRow hf, State.partnerOut]
  simp only [State.physOf_modRow hf, State.verified, State.pairedGrp, State.getReg_modRow]

theorem State.freshShut_modRow : (s.modRow row f).freshShut sid = s.freshShut sid := by
  rw [State.freshShut, State.spareUnready_modRow hf, State.freshShut]
  rfl

theorem State.servedShut_modRow (g : Nat) : (s.modRow row f).servedShut sid g = s.servedShut sid g := by
  rw [State.servedShut, State.spareUnready_modRow hf, State.partnerOut_modRow hf, State.servedShut]
  rfl

theorem State.mayReceive_modRow : (s.modRow row f).mayReceive sid = s.mayReceive sid := by
  rw [State.mayReceive, State.logicalNo_modRow hf, State.stall_modRow, State.mayReceive]
  rfl

end

/-- A descriptor none of whose tiles is served as for a shuttered stall arrives whole. -/
theorem State.arrive_of_served {d : Desc} (hs : d.stock = true → s.servedShut sid d.group = false) (hf : d.fresh = true → s.freshShut sid = false) :
    s.arrive sid d = s.pushDesc sid d := by
  have hstock : (d.stock && s.servedShut sid d.group) = false := by
    cases h : d.stock with
    | false => rfl
    | true => rw [hs h]; rfl
  have hfresh : (d.fresh && s.freshShut sid) = false := by
    cases h : d.fresh with
    | false => rfl
    | true => rw [hf h]; rfl
  have hstock' : (d.stock && !s.servedShut sid d.group) = d.stock := by
    cases h : d.stock with
    | false => rfl
    | true => rw [hs h]; rfl
  have hfresh' : (d.fresh && !s.freshShut sid) = d.fresh := by
    cases h : d.fresh with
    | false => rfl
    | true => rw [hf h]; rfl
  have hparts : s.shutParts sid d = (s, some d) := by
    unfold State.shutParts
    dsimp only
    rw [hstock, hfresh, hstock', hfresh', Bool.and_not_self]
    rfl
  rw [State.arrive, hparts]

/-- The row switch holds a descriptor: the queue is full, or the stall takes none (R70, R162). -/
def State.holds (s : State) (sid : Nat) (d : Desc) : Bool :=
  let st := s.stall sid
  decide (16 ≤ st.queue.length) || (!d.replay && (!s.on STL_CTL.EN sid || !st.drains.isEmpty || st.calBlock || !st.held.isEmpty))

theorem State.pushDesc_of_held {d : Desc} (h : s.holds sid d = true) :
    s.pushDesc sid d = s.setStall sid { s.stall sid with held := (s.stall sid).held ++ [d] } := congrArg (s.setStall sid) (if_pos h)

theorem State.pushDesc_of_taken {d : Desc} (h : s.holds sid d = false) :
    s.pushDesc sid d = s.setStall sid { s.stall sid with queue := (s.stall sid).queue ++ [d], lastUsed := s.now } :=
  congrArg (s.setStall sid) (if_neg (by rw [State.holds] at h; rw [h]; decide))

theorem State.rows_pushDesc (d : Desc) : (s.pushDesc sid d).rows = s.rows := s.setStall_rows _ _

/-- A stall takes a descriptor: there is room, and nothing of the stall holds a first strike back. -/
theorem State.holds_eq_false_iff {d : Desc} : s.holds sid d = false ↔ (s.stall sid).queue.length < 16 ∧ (d.replay = true ∨
    (s.on STL_CTL.EN sid = true ∧ (s.stall sid).drains = [] ∧ (s.stall sid).calBlock = false ∧ (s.stall sid).held = [])) := by
  simp only [State.holds, Bool.or_eq_false_iff, Bool.and_eq_false_iff, decide_eq_false_iff_not, Bool.not_eq_false',
    List.isEmpty_iff, not_le, and_assoc]

theorem State.pushDesc_queues (d : Desc) :
    if (s.stall sid).queue.length < 16 ∧ (d.replay = true ∨
      (s.on STL_CTL.EN sid = true ∧ (s.stall sid).drains = [] ∧ (s.stall sid).calBlock = false ∧ (s.stall sid).held = []))
    then ((s.pushDesc sid d).stall sid).queue = (s.stall sid).queue ++ [d] ∧ ((s.pushDesc sid d).stall sid).held = (s.stall sid).held
    else ((s.pushDesc sid d).stall sid).held = (s.stall sid).held ++ [d] ∧ ((s.pushDesc sid d).stall sid).queue = (s.stall sid).queue := by
  split
  next h =>
    rw [State.pushDesc_of_taken (State.holds_eq_false_iff.2 h), State.stall_setStall_same]
    exact ⟨rfl, rfl⟩
  next h =>
    rw [State.pushDesc_of_held (Bool.eq_true_of_not_eq_false (mt State.holds_eq_false_iff.1 h)), State.stall_setStall_same]
    exact ⟨rfl, rfl⟩

/-- A stock strike of a vector is written with the pair that the vector needs and its tile's RANGE (R121, R126). -/
theorem State.writeDesc_spec {d0 d : Desc} (hd : s.writeDesc sid d0 = d) {n : Narrow} (hn : (s.stall sid).record d.tag = some n)
    (hrep : d.replay = false) (hstock : d.stock = true) (htrans : d.trans = false) :
    d.wide = (n.a8 && !n.trans) ∧ ((s.group (groupId sid d.group)).hasMsq = true → d.range = s.rd TAL_TILE_STAT.RANGE (groupId sid d.group)) := by
  unfold State.writeDesc at hd
  dsimp only at hd
  split at hd
  next m hm =>
    split at hd
    next hkeep =>
      rw [hd, hrep, hstock] at hkeep
      cases hkeep
    next hkeep =>
      subst hd
      have hnm : some m = some n := hm.symm.trans hn
      cases hnm
      refine ⟨rfl, fun hmsq => ?_⟩
      dsimp only at hmsq htrans ⊢
      rw [hmsq, htrans]
      rfl
  next hm =>
    rw [hd] at hm
    rw [hm] at hn
    cases hn

/-- The row once descriptors have come and one of them has been sent. -/
def State.sent (s : State) (row p : Nat) (new : List (Nat × Nat)) (e : RowDesc) : State :=
  (s.receive row p new).modRow row fun r => { r with waiting := r.waiting.erase e }

theorem State.stall_sent (new : List (Nat × Nat)) (e : RowDesc) (k : Nat) : (s.sent row p new e).stall k = s.stall k := by
  rw [State.sent, State.receive, State.stall_modRow, State.stall_modRow]

theorem State.on_sent (new : List (Nat × Nat)) (e : RowDesc) (F : RField) (i : Nat) : (s.sent row p new e).on F i = s.on F i := by
  rw [State.sent, State.receive, State.on_modRow, State.on_modRow]

theorem State.servedShut_sent (new : List (Nat × Nat)) (e : RowDesc) (g : Nat) : (s.sent row p new e).servedShut sid g = s.servedShut sid g := by
  rw [State.sent, State.receive]
  refine (State.servedShut_modRow ?_ g).trans (State.servedShut_modRow ?_ g) <;> exact fun _ => rfl

theorem State.freshShut_sent (new : List (Nat × Nat)) (e : RowDesc) : (s.sent row p new e).freshShut sid = s.freshShut sid := by
  rw [State.sent, State.receive]
  refine (State.freshShut_modRow ?_).trans (State.freshShut_modRow ?_) <;> exact fun _ => rfl

theorem exec_descriptorArrival_of_pick {new : List (Nat × Nat)} {e : RowDesc} (hok : stallOk row p = true)
    (hpick : (s.receive row p new).pickDesc (stallId row p) = some e) (hmay : s.mayReceive (stallId row p) = true) :
    exec (.descriptorArrival row p new) s =
      .next ((s.sent row p new e).arrive (stallId row p) (s.writeDesc (stallId row p) (Desc.ofNat e.desc))) := by
  have hmay' : (s.receive row p new).mayReceive (stallId row p) = true := by
    rw [State.receive]
    refine (State.mayReceive_modRow ?_).trans hmay
    exact fun _ => rfl
  rw [exec_descriptorArrival, execDescriptorArrival, if_pos hok]
  dsimp only
  rw [if_pos hmay', hpick]
  rfl

theorem descriptor_arrives {new : List (Nat × Nat)} {e : RowDesc} {d : Desc} (hok : stallOk row p = true)
    (hpick : (s.receive row p new).pickDesc (stallId row p) = some e) (hd : s.writeDesc (stallId row p) (Desc.ofNat e.desc) = d)
    (hmay : s.mayReceive (stallId row p) = true) (hs : d.stock = true → s.servedShut (stallId row p) d.group = false)
    (hf : d.fresh = true → s.freshShut (stallId row p) = false) :
    ∃ t, exec (.descriptorArrival row p new) s = .next t ∧ (t.row row).waiting = ((s.receive row p new).row row).waiting.erase e ∧
      (∀ n, (s.stall (stallId row p)).record d.tag = some n → d.replay = false → d.stock = true → d.trans = false →
        d.wide = (n.a8 && !n.trans) ∧
        ((s.group (groupId (stallId row p) d.group)).hasMsq = true → d.range = s.rd TAL_TILE_STAT.RANGE (groupId (stallId row p) d.group))) ∧
      (if (s.stall (stallId row p)).queue.length < 16 ∧ (d.replay = true ∨ (s.on STL_CTL.EN (stallId row p) = true ∧
            (s.stall (stallId row p)).drains = [] ∧ (s.stall (stallId row p)).calBlock = false ∧ (s.stall (stallId row p)).held = []))
       then (t.stall (stallId row p)).queue = (s.stall (stallId row p)).queue ++ [d] ∧ (t.stall (stallId row p)).held = (s.stall (stallId row p)).held
       else (t.stall (stallId row p)).held = (s.stall (stallId row p)).held ++ [d] ∧
        (t.stall (stallId row p)).queue = (s.stall (stallId row p)).queue) := by
  refine ⟨(s.sent row p new e).pushDesc (stallId row p) d, ?_, ?_, fun n hn hrep hstock htrans => State.writeDesc_spec hd hn hrep hstock htrans, ?_⟩
  · rw [exec_descriptorArrival_of_pick hok hpick hmay, hd, State.arrive_of_served]
    · intro h
      rw [State.servedShut_sent, hs h]
    · intro h
      rw [State.freshShut_sent, hf h]
  · rw [State.row_congr (State.rows_pushDesc d), State.sent, State.row_modRow_same]
  · have hpush := (s.sent row p new e).pushDesc_queues (sid := stallId row p) d
    simpa only [State.stall_sent, State.on_sent] using hpush

/-! ### Registers written whole (R8, R70, R75) -/

/-- The fields of a register lie within its word and share no bit. -/
def RegInfo.laid (ri : RegInfo) : Bool :=
  (ri.fields.all fun F => decide (F.lo + F.wd ≤ 64)) && decide (ri.fields.Pairwise fun F G => F.lo + F.wd ≤ G.lo ∨ G.lo + G.wd ≤ F.lo)

theorem RField.of_writes_rw {F : RField} {l : List RField} (hfit : ∀ G ∈ l, G.fits) (hap : l.Pairwise RField.apart) (hF : F ∈ l) (hacc : F.acc = .rw)
    (locked : Bool) (v : Nat) (w : Word64) : F.of (l.foldl (RField.write locked v) w) = F.flt.apply (F.of w) (bitsOf v F.lo F.wd) % 2 ^ F.wd := by
  induction l generalizing w with
  | nil => cases hF
  | cons G l ih =>
    obtain ⟨hG, hap⟩ := List.pairwise_cons.1 hap
    have hfit' : ∀ X ∈ l, X.fits := fun X hX => hfit X (List.mem_cons_of_mem G hX)
    have hGfit := hfit G List.mem_cons_self
    rw [List.foldl_cons]
    rcases List.mem_cons.1 hF with rfl | hF
    · rw [RField.of_writes_apart fun X hX => ⟨hfit' X hX, hG X hX⟩]
      simp only [RField.write, hacc]
      exact RField.of_put F hGfit _ _
    · rw [ih hfit' hap hF, RField.of_write_apart hGfit (hG F hF).symm]

/-- An RW field takes what is written to its register, under its filter. -/
theorem State.rd_writeReg_rw {F : RField} {ri : RegInfo} (hi : F.reg.info = some ri) (hl : ri.laid = true) (hF : F ∈ ri.fields)
    (hacc : F.acc = .rw) (i v : Nat) :
    (s.writeReg F.reg i v).rd F i = F.flt.apply (s.rd F i) (bitsOf v F.lo F.wd) % 2 ^ F.wd := by
  simp only [RegInfo.laid, Bool.and_eq_true, List.all_eq_true, decide_eq_true_eq] at hl
  obtain ⟨hfit, hap⟩ := hl
  rw [State.writeReg, hi]
  dsimp only
  rw [State.rd, State.getReg_setReg_same]
  exact RField.of_writes_rw hfit hap hF hacc _ _ _

theorem State.stalls_accessed (s : State) (who : Who) (off : Nat) : (s.accessed who off).stalls = s.stalls :=
  (Keeps.accessed (F := ⟨[.warden, .halves].contains, fun _ => true⟩) (Keeps.refl _ s)).part .stalls rfl

theorem State.stall_reached (s : State) (who : Who) (off sid k : Nat) : ((s.accessed who off).wakeStall sid).stall k = s.stall k := by
  rw [State.stall_wakeStall, State.stall_congr (s.stalls_accessed who off)]

theorem State.rd_stlCtl {F : RField} (hF : F ∈ STL_CTL.info.fields) (hacc : F.acc = .rw ∧ F.reg = STL_CTL ∧ F.flt = .any) (i v : Nat) :
    (s.writeReg STL_CTL i v).rd F i = bitsOf v F.lo F.wd := by
  obtain ⟨hrw, hreg, hflt⟩ := hacc
  have h := s.rd_writeReg_rw (F := F) (ri := STL_CTL.info) (hreg ▸ rfl) (by decide) hF hrw i v
  rw [hreg, hflt] at h
  rw [h]
  exact Nat.mod_mod _ _

theorem exec_stlCtlWrite_of_open {who : Who} {val : Nat} (hok : stallOk row p = true) (h1 : s.memOpen who = true) (h2 : whoAdmin who = true)
    (h3 : s.boot.inReset.contains (stallId row p) = false) :
    ∃ u : State, (∀ k, u.stall k = s.stall k) ∧
      exec (.stlCtlWrite who row p val) s = .next ((u.writeReg STL_CTL (stallId row p) val).refill (stallId row p)) := by
  refine ⟨(s.accessed who (0x1100000 + 0x4000 * rowOf (stallId row p) + 0x1000 + 0x100 * posOf (stallId row p) + 0x008)).wakeStall (stallId row p),
    s.stall_reached who _ _, ?_⟩
  rw [exec_stlCtlWrite, execStlCtlWrite, if_neg (by simp [hok])]
  exact congrArg Host.Outcome.next (State.stlAccess_open h1 h2 h3 _ _ _)

theorem stlCtl_written {who : Who} {val : Nat} (hok : stallOk row p = true) (h1 : s.memOpen who = true) (h2 : whoAdmin who = true)
    (h3 : s.boot.inReset.contains (stallId row p) = false) :
    ∃ t, exec (.stlCtlWrite who row p val) s = .next t ∧ t.rd STL_CTL.EN (stallId row p) = val % 2 ∧
      t.rd STL_CTL.FRESH_EN (stallId row p) = val / 2 % 2 ∧ t.rd STL_CTL.TRANS_EN (stallId row p) = val / 4 % 2 ∧
      t.rd STL_CTL.AUTO_SPARE (stallId row p) = val / 8 % 2 ∧ t.rd STL_CTL.SHADOW_EN (stallId row p) = val / 16 % 2 ∧
      t.stall (stallId row p) = Stall.refill (val % 2 == 1) (s.stall (stallId row p)) := by
  obtain ⟨u, hu, hexec⟩ := exec_stlCtlWrite_of_open (val := val) hok h1 h2 h3
  have hen : (u.writeReg STL_CTL (stallId row p) val).rd STL_CTL.EN (stallId row p) = val % 2 := by
    rw [State.rd_stlCtl (by decide) ⟨rfl, rfl, rfl⟩, bitsOf]
    exact congrArg (· % 2) (Nat.div_one val)
  refine ⟨_, hexec, ?_, ?_, ?_, ?_, ?_, ?_⟩
  · rw [State.refill, State.rd_modStall, hen]
  · rw [State.refill, State.rd_modStall, State.rd_stlCtl (by decide) ⟨rfl, rfl, rfl⟩]
    rfl
  · rw [State.refill, State.rd_modStall, State.rd_stlCtl (by decide) ⟨rfl, rfl, rfl⟩]
    rfl
  · rw [State.refill, State.rd_modStall, State.rd_stlCtl (by decide) ⟨rfl, rfl, rfl⟩]
    rfl
  · rw [State.refill, State.rd_modStall, State.rd_stlCtl (by decide) ⟨rfl, rfl, rfl⟩]
    rfl
  · rw [State.refill, State.stall_modStall_same, State.stall_writeReg, hu, State.on, hen]

/-! ### Staging (R26, R40) -/

theorem Stall.narrow_stage (st : Stall) (n : Narrow) (part : Option Nat) (b : Nat) :
    (st.stage n part b).narrow = st.narrow ∧ (st.stage n part b).waiting = st.waiting ∧ (st.stage n part b).queue = st.queue := by
  unfold Stall.stage
  split
  · exact ⟨rfl, rfl, rfl⟩
  · split <;> exact ⟨rfl, rfl, rfl⟩

theorem bank_staged {tag bank : Nat} {n : Narrow} {part : Option Nat} (hok : stallOk row p = true)
    (hn : (s.stall (stallId row p)).waiting.find? (fun n => n.tag == tag) = some n) (hpart : n.toStage = some part)
    (hbank : n.bankOk part bank = true) (hfree : s.bankFree (stallId row p) n part bank = true) (hrun : stRun ≤ s.stState (stallId row p)) :
    ∃ t, exec (.stagingBankWrite row p tag bank) s = .next t ∧
      (t.stall (stallId row p)).banks = ((s.stall (stallId row p)).stage n part bank).banks ∧
      (t.stall (stallId row p)).narrow = (s.stall (stallId row p)).narrow.map (fun x => if x.tag = tag then x.staged part bank else x) ∧
      (∀ y ∈ (t.stall (stallId row p)).waiting, y.tag = tag → y.toStage.isSome = true) ∧
      (t.stall (stallId row p)).queue = (s.stall (stallId row p)).queue := by
  have htag : n.tag = tag := by simpa using List.find?_some hn
  obtain ⟨hnarrow, hwaiting, hqueue⟩ := (s.stall (stallId row p)).narrow_stage n part bank
  refine ⟨s.setStall (stallId row p) { ((s.stall (stallId row p)).stage n part bank).markStaged n part bank with lastUsed := s.now }, ?_, ?_⟩
  · simp [exec_stagingBankWrite, execStagingBankWrite, hok, hn, hpart, hbank, hfree, hrun]
  · rw [State.stall_setStall_same]
    simp only [Stall.markStaged, hnarrow, hqueue, htag]
    refine ⟨trivial, trivial, fun y hy hyt => ?_, trivial⟩
    have := (List.mem_filter.1 hy).2
    simpa [hyt] using this

/-! ### Slices (R53, R55, R56, R75) -/

theorem KeepsBlock.ite {b : Block} {c : Prop} {_ : Decidable c} {u v : State} (hu : KeepsBlock b s u) (hv : KeepsBlock b s v) :
    KeepsBlock b s (if c then u else v) := by split <;> assumption

theorem KeepsBlock.wrs {b : Block} {l : List (RField × Nat)} (h : ∀ f ∈ l, f.1.reg.blk ≠ b) (i : Nat) (s : State) :
    KeepsBlock b s (l.foldl (fun s f => s.wr f.1 i f.2) s) := by
  induction l generalizing s with
  | nil => exact .refl b s
  | cons f l ih => exact (KeepsBlock.wr s _ _ _ (h f List.mem_cons_self)).trans (ih (fun g hg => h g (List.mem_cons_of_mem f hg)) _)

/-- An entry of the repair log leaves the stalls' registers as they stand. -/
theorem KeepsBlock.logRepair (s : State) (k : Nat) (r : Repair) : KeepsBlock .stl s (s.logRepair k r) := by
  unfold State.logRepair
  refine .ite (.refl _ s) (.ite (.of_regs rfl) ?_)
  unfold State.calFlag State.flagAt
  exact (KeepsBlock.wrs (l := [(CAL_ERR.ROW, rowOf k), (CAL_ERR.STALL, posOf k)]) (by simp [CAL_ERR.ROW, CAL_ERR.STALL, CAL_ERR]) 0 s).trans (.flag _ _ _ (by decide) (by decide) (by decide))

/-- So does an entry of the fault log. -/
theorem KeepsBlock.faultLog (s : State) (code unit quarter r k : Nat) : KeepsBlock .stl s (s.faultLog code unit quarter r k) := by
  have h (t : State) (f : RField) (i v : Nat) (hf : f.reg.blk ≠ .stl) (ht : KeepsBlock .stl s t) : KeepsBlock .stl s (t.wr f i v) :=
    ht.trans (.wr t f i v hf)
  unfold State.faultLog
  dsimp only
  refine h _ _ _ _ (by decide) (h _ _ _ _ (by decide) ?_)
  refine h _ _ _ _ (by decide) (h _ _ _ _ (by decide) (h _ _ _ _ (by decide) ?_))
  exact h _ _ _ _ (by decide) (h _ _ _ _ (by decide) (h _ _ _ _ (by decide) (.refl _ s)))

theorem State.getReg_stallFault {q : Reg} (hq : q.blk = .stl) (h : q.other STL_STAT = true) (i : Nat) : (s.stallFault sid).getReg q i = s.getReg q i := by
  unfold State.stallFault
  split
  · rfl
  · rw [KeepsBlock.faultLog _ _ _ _ _ _ q i hq]
    exact s.getReg_wr_other h _ _ _

theorem State.stState_stallFault : (s.stallFault sid).stState sid = 7 := by
  unfold State.stallFault
  split
  · assumption
  · rw [State.stState, State.rd, KeepsBlock.faultLog _ _ _ _ _ _ _ _ rfl]
    exact State.rd_wr_val _ (by decide) _ _

/-- A slice found out of limit is flagged, and its codes are suspect (R55). -/
def State.sliceFlagged (s : State) (sid chan slice : Nat) : State :=
  (((s.setReg STL_SLICE_HEALTH sid (BitVec.ofNat 64 (Nat.lor (s.getReg STL_SLICE_HEALTH sid).toNat (2 ^ (5 * chan + slice))))).flag
    STL_ERR.SLICE sid).flag STL_ERR.SUSPECT sid).modStall sid fun st => st.suspectSlice chan slice

theorem State.sliceBad_eq (s : State) (sid chan slice : Nat) : s.sliceBad sid chan slice =
    if s.on STL_CTL.AUTO_SPARE sid then
      if s.rd (subField chan) sid = 4 then ((s.sliceFlagged sid chan slice).wr (subField chan) sid slice).logRepair sid (.slice sid chan slice)
      else ((s.sliceFlagged sid chan slice).flag STL_ERR.SPARE_EXHAUSTED sid).stallFault sid
    else s.sliceFlagged sid chan slice := rfl

theorem State.on_slice_sliceFlagged (chan slice : Nat) : (s.sliceFlagged sid chan slice).on STL_ERR.SLICE sid = true := by
  rw [State.sliceFlagged, State.on_modStall, State.on_flag_free _ (by decide), State.on_flag_val _ (by decide)]

theorem State.health_sliceFlagged {chan slice : Nat} (hk : 5 * chan + slice < 64) :
    bitAt ((s.sliceFlagged sid chan slice).getReg STL_SLICE_HEALTH sid).toNat (5 * chan + slice) = true := by
  rw [State.sliceFlagged, State.getReg_modStall, State.getReg_flag _ (by decide), State.getReg_flag _ (by decide), State.getReg_setReg_same,
    BitVec.toNat_ofNat, bitAt_eq_testBit, Nat.testBit_mod_two_pow, decide_eq_true hk]
  exact (Nat.testBit_or _ _ _).trans (by rw [Nat.testBit_two_pow_self, Bool.or_true])

theorem slice_out {chan slice : Nat} {diffs : List Int} (hok : stallOk row p = true) (hc : chan < 8) (hs : slice < 4)
    (hsh : s.shadowed (stallId row p) chan slice = true) (hout : outOfLimit diffs = true) :
    ∃ t, exec (.sliceSubstitution row p chan slice diffs) s = .next t ∧ t.on STL_ERR.SLICE (stallId row p) = true ∧
      bitAt (t.getReg STL_SLICE_HEALTH (stallId row p)).toNat (5 * chan + slice) = true ∧
      (s.on STL_CTL.AUTO_SPARE (stallId row p) = true → s.rd (subField chan) (stallId row p) = 4 → t.rd (subField chan) (stallId row p) = slice) ∧
      (s.on STL_CTL.AUTO_SPARE (stallId row p) = true → s.rd (subField chan) (stallId row p) ≠ 4 →
        t.stState (stallId row p) = 7 ∧ t.on STL_ERR.SPARE_EXHAUSTED (stallId row p) = true) := by
  have hflag := State.on_slice_sliceFlagged (s := s) (sid := stallId row p) chan slice
  have hhealth := State.health_sliceFlagged (s := s) (sid := stallId row p) (chan := chan) (slice := slice) (by omega)
  refine ⟨s.sliceBad (stallId row p) chan slice, by simp [exec_sliceSubstitution, execSliceSubstitution, hok, hc, hs, hsh, hout], ?_⟩
  rw [State.sliceBad_eq]
  by_cases hauto : s.on STL_CTL.AUTO_SPARE (stallId row p) = true
  · rw [if_pos hauto]
    by_cases hspare : s.rd (subField chan) (stallId row p) = 4
    · rw [if_pos hspare]
      have hlog := KeepsBlock.logRepair ((s.sliceFlagged (stallId row p) chan slice).wr (subField chan) (stallId row p) slice) (stallId row p)
        (.slice (stallId row p) chan slice)
      refine ⟨?_, ?_, fun _ _ => ?_, fun _ h => absurd hspare h⟩
      · rw [State.on, State.rd, hlog _ _ rfl, State.getReg_wr_other _ (by rfl)]
        exact hflag
      · rw [hlog _ _ rfl, State.getReg_wr_other _ (by rfl)]
        exact hhealth
      · rw [State.rd, hlog _ _ rfl]
        refine (State.rd_wr_val _ (f := subField chan) ?_ _ _).trans (Nat.mod_eq_of_lt (show slice < 2 ^ 3 by omega))
        exact decide_eq_true (show 3 * chan + 3 ≤ 64 by omega)
    · rw [if_neg hspare]
      refine ⟨?_, ?_, fun _ h => absurd h hspare, fun _ _ => ⟨State.stState_stallFault, ?_⟩⟩
      · rw [State.on, State.rd, State.getReg_stallFault rfl (by decide)]
        exact (State.on_flag_free _ (by decide) _ _).trans hflag
      · rw [State.getReg_stallFault rfl (by decide), State.getReg_flag _ (by decide)]
        exact hhealth
      · rw [State.on, State.rd, State.getReg_stallFault rfl (by decide)]
        exact State.on_flag_val _ (by decide) _
  · rw [if_neg hauto]
    exact ⟨hflag, hhealth, fun h => absurd h hauto, fun h => absurd h hauto⟩

theorem slice_in {chan slice : Nat} {diffs : List Int} (hok : stallOk row p = true) (hc : chan < 8) (hs : slice < 4)
    (hsh : s.shadowed (stallId row p) chan slice = true) (hin : outOfLimit diffs = false) :
    ∃ t, exec (.sliceSubstitution row p chan slice diffs) s = .next t ∧
      (t.stall (stallId row p)).offLimit = (s.stall (stallId row p)).offLimit.erase (4 * chan + slice) ∧
      (t.stall (stallId row p)).sliceTrim = (s.stall (stallId row p)).sliceTrim := by
  refine ⟨_, by simp [exec_sliceSubstitution, execSliceSubstitution, hok, hc, hs, hsh, hin]; rfl, ?_⟩
  have hfree : ∀ (u : State) k, u.takeFree.2.stall k = u.stall k := fun _ _ => rfl
  rw [State.retrimSlice]
  dsimp only
  rw [State.stall_modStall_same, hfree, State.stall_modStall_same]
  exact ⟨rfl, rfl⟩

theorem KeepsBlock.logSlices (s : State) (k map : Nat) : KeepsBlock .stl s (s.logSlices k map) := by
  unfold State.logSlices
  have hstep : ∀ (l : List Nat) (f : State → Nat → State), (∀ u x, KeepsBlock .stl u (f u x)) → ∀ u, KeepsBlock .stl u (l.foldl f u) := by
    intro l f hf
    induction l with
    | nil => exact fun u => .refl _ u
    | cons x l ih => exact fun u => (hf u x).trans (ih _)
  refine hstep _ _ (fun u x => .ite ?_ ?_) s
  · exact .of_regs rfl
  · exact (KeepsBlock.of_regs rfl).trans (.logRepair _ _ _)

theorem State.stalls_logRepair (s : State) (k : Nat) (r : Repair) : (s.logRepair k r).stalls = s.stalls := by
  unfold State.logRepair
  split
  · rfl
  · split
    · rfl
    · rw [State.calFlag, State.flagAt_stalls]

theorem State.stalls_logSlices (s : State) (k map : Nat) : (s.logSlices k map).stalls = s.stalls := by
  unfold State.logSlices
  refine foldl_keeps (f := State.stalls) (fun u x => ?_) _ s
  dsimp only
  split
  · rfl
  · rw [State.stalls_logRepair]

theorem subField_mem {k : Nat} (hk : k < 8) : subField k ∈ STL_SLICE_MAP.info.fields := by
  have : ∀ k < 8, subField k ∈ STL_SLICE_MAP.info.fields := by decide
  exact this k hk

theorem sliceMap_written {who : Who} {val : Nat} (hok : stallOk row p = true) (h1 : s.memOpen who = true) (h2 : whoAdmin who = true)
    (h3 : s.boot.inReset.contains (stallId row p) = false) :
    ∃ t, exec (.stlSliceMapWrite who row p val) s = .next t ∧
      (∀ k, k < 8 → t.rd (subField k) (stallId row p) =
        (if bitsOf val (3 * k) 3 ≤ 4 then bitsOf val (3 * k) 3 else s.rd (subField k) (stallId row p))) ∧
      (t.stall (stallId row p)).mapEff = (s.stall (stallId row p)).mapEff := by
  let u := (s.accessed who (0x1100000 + 0x4000 * rowOf (stallId row p) + 0x1000 + 0x100 * posOf (stallId row p) + 0x030)).wakeStall (stallId row p)
  have hu : ∀ k, u.rd (subField k) (stallId row p) = s.rd (subField k) (stallId row p) := fun k =>
    congrArg (subField k).of ((Keeps.reached s who _ (stallId row p)).reg STL_SLICE_MAP _ (by decide) (by decide))
  refine ⟨(u.writeReg STL_SLICE_MAP (stallId row p) val).logSlices (stallId row p)
    ((u.writeReg STL_SLICE_MAP (stallId row p) val).getReg STL_SLICE_MAP (stallId row p)).toNat, ?_, fun k hk => ?_, ?_⟩
  · rw [exec_stlSliceMapWrite, execStlSliceMapWrite, if_neg (by simp [hok])]
    exact congrArg Host.Outcome.next (State.stlAccess_open h1 h2 h3 _ _ _)
  · have hw := u.rd_writeReg_rw (F := subField k) (ri := STL_SLICE_MAP.info) rfl (by decide) (subField_mem hk) rfl (stallId row p) val
    rw [State.rd, KeepsBlock.logSlices _ _ _ _ _ rfl]
    refine hw.trans ?_
    rw [hu]
    have hb : bitsOf val (3 * k) 3 < 2 ^ 3 := Nat.mod_lt _ (by decide)
    have hr : s.rd (subField k) (stallId row p) < 2 ^ 3 := RField.of_lt (subField k) _
    show (if 0 ≤ bitsOf val (3 * k) 3 ∧ bitsOf val (3 * k) 3 ≤ 4 then bitsOf val (3 * k) 3 else s.rd (subField k) (stallId row p)) % 2 ^ 3 = _
    by_cases h4 : bitsOf val (3 * k) 3 ≤ 4
    · rw [if_pos ⟨Nat.zero_le _, h4⟩, if_pos h4, Nat.mod_eq_of_lt hb]
    · rw [if_neg fun h => h4 h.2, if_neg h4, Nat.mod_eq_of_lt hr]
  · rw [State.stall_congr (State.stalls_logSlices _ _ _), State.stall_writeReg, State.stall_reached]

/-! ### Planes (R64) -/

theorem State.planeState_modStall (k : Nat) (g : Stall → Stall) (q : Nat) : (s.modStall k g).planeState sid q = s.planeState sid q :=
  State.planeState_of_regs (s.modStall_regs k g) q

theorem State.planeTag_zero (s : State) (sid : Nat) : s.planeTag sid 0 = s.rd STL_PLANE.P0_TAG sid := rfl

theorem State.planeTag_one (s : State) (sid : Nat) : s.planeTag sid 1 = s.rd STL_PLANE.P1_TAG sid := rfl

theorem State.planeState_endPlane {q : Nat} (hq : q = 0 ∨ q = 1) :
    (s.endPlane sid q).planeState sid q = if s.planeState sid q = 3 then 0 else s.planeState sid q := by
  unfold State.endPlane
  split
  · rw [State.planeState_modStall]
    rcases hq with rfl | rfl
    · exact State.planeState_setPlane_zero _
    · exact State.planeState_setPlane_one _
  · rfl

/-- Plane p computes. -/
def State.swapped (s : State) (sid p : Nat) : State := ((s.endPlane sid (1 - p)).setPlane sid p 3 (s.planeTag sid p)).wr STL_PLANE.COMP sid p

theorem State.planeState_swapped_zero : (s.swapped sid 0).planeState sid 0 = 3 ∧ (s.swapped sid 0).planeTag sid 0 = s.planeTag sid 0 ∧
    (s.swapped sid 0).planeState sid 1 = (s.endPlane sid 1).planeState sid 1 := by
  refine ⟨?_, ?_, ?_⟩
  · rw [State.swapped, State.planeState_zero, State.setPlane_zero, State.rd_wr_free _ (by decide), State.rd_wr_free _ (by decide),
      State.rd_wr_val _ (by decide)]
    rfl
  · rw [State.swapped, State.planeTag_zero, State.setPlane_zero, State.rd_wr_free _ (by decide), State.rd_wr_val _ (by decide), State.planeTag_zero]
    exact Nat.mod_eq_of_lt (RField.of_lt STL_PLANE.P0_TAG _)
  · rw [State.swapped, State.planeState_one, State.setPlane_zero, State.rd_wr_free _ (by decide), State.rd_wr_free _ (by decide),
      State.rd_wr_free _ (by decide), State.planeState_one]

theorem State.planeState_swapped_one : (s.swapped sid 1).planeState sid 1 = 3 ∧ (s.swapped sid 1).planeTag sid 1 = s.planeTag sid 1 ∧
    (s.swapped sid 1).planeState sid 0 = (s.endPlane sid 0).planeState sid 0 := by
  refine ⟨?_, ?_, ?_⟩
  · rw [State.swapped, State.planeState_one, State.setPlane_one, State.rd_wr_free _ (by decide), State.rd_wr_free _ (by decide),
      State.rd_wr_val _ (by decide)]
    rfl
  · rw [State.swapped, State.planeTag_one, State.setPlane_one, State.rd_wr_free _ (by decide), State.rd_wr_val _ (by decide), State.planeTag_one]
    exact Nat.mod_eq_of_lt (RField.of_lt STL_PLANE.P1_TAG _)
  · rw [State.swapped, State.planeState_zero, State.setPlane_one, State.rd_wr_free _ (by decide), State.rd_wr_free _ (by decide),
      State.rd_wr_free _ (by decide), State.planeState_zero]

theorem planes_swapped {q : Nat} (hok : stallOk row p = true) (hq : ([0, 1].find? fun q => s.maySwap (stallId row p) q) = some q) :
    ∃ t, exec (.planeSwap row p) s = .next t ∧ t.rd STL_PLANE.COMP (stallId row p) = q ∧
      t.planeState (stallId row p) q = 3 ∧ t.planeTag (stallId row p) q = s.planeTag (stallId row p) q ∧
      t.planeState (stallId row p) (1 - q) =
        (if s.planeState (stallId row p) (1 - q) = 3 then 0 else s.planeState (stallId row p) (1 - q)) := by
  have hmem : q = 0 ∨ q = 1 := by simpa using List.mem_of_find?_eq_some hq
  refine ⟨s.swapped (stallId row p) q, ?_, ?_, ?_⟩
  · rw [exec_planeSwap, execPlaneSwap, if_neg (by simp [hok]), hq]
    rfl
  · rw [State.swapped, State.rd_wr_val _ (by decide)]
    rcases hmem with rfl | rfl <;> rfl
  · rcases hmem with rfl | rfl
    · obtain ⟨hstate, htag, hother⟩ := State.planeState_swapped_zero (s := s) (sid := stallId row p)
      exact ⟨hstate, htag, hother.trans (State.planeState_endPlane (.inr rfl))⟩
    · obtain ⟨hstate, htag, hother⟩ := State.planeState_swapped_one (s := s) (sid := stallId row p)
      exact ⟨hstate, htag, hother.trans (State.planeState_endPlane (.inl rfl))⟩

end Machine

/-- Settles O3: descriptors, STL_CTL, staging, slices, the slice map and the plane swap, a lemma for each. -/
theorem stallCommandsComplete : Obligations.StallCommandsComplete := fun _ _ _ hok =>
  ⟨fun _ _ _ => descriptor_arrives hok, fun _ _ => stlCtl_written hok, fun _ _ _ _ => bank_staged hok, fun _ _ _ => slice_out hok,
    fun _ _ _ => slice_in hok, fun _ _ => sliceMap_written hok, fun _ => planes_swapped hok⟩

end Sys2Proof
end

section
/-! PROOF. Steps, ceilings and positions (O13): sequences as they are read after a change, and the commands on single registers and sequences. -/

namespace Sys2Proof

open Machine

set_option Elab.async false

namespace Machine

theorem exec_sequenceActivate (q : Nat) (s : State) : exec (.sequenceActivate q) s = execSequenceActivate q s := rfl

theorem exec_stepEnd (s : State) : exec .stepEnd s = execStepEnd s := rfl

theorem exec_specPauseEnd (q : Nat) (s : State) : exec (.specPauseEnd q) s = execSpecPauseEnd q s := rfl

theorem exec_funcCeilWrite (who : Who) (val : Nat) (s : State) : exec (.funcCeilWrite who val) s = execFuncCeilWrite who val s := rfl

theorem exec_stormCeilingLower (row : Nat) (s : State) : exec (.stormCeilingLower row) s = execStormCeilingLower row s := rfl

theorem exec_stormCeilingRestore (slot : Nat) (s : State) : exec (.stormCeilingRestore slot) s = execStormCeilingRestore slot s := rfl

variable {s : State} {q : Nat}

/-! ### Sequences -/

@[simp] theorem State.seq_setSeq_same (s : State) (q : Nat) (x : Seq) : (s.setSeq q x).seq q = x := FMap.get_set_same s.seqs q x

@[simp] theorem State.seq_modSeq_same (s : State) (q : Nat) (f : Seq → Seq) : (s.modSeq q f).seq q = f (s.seq q) := State.seq_setSeq_same s q _

theorem State.seq_congr {s t : State} (h : t.seqs = s.seqs) (q : Nat) : t.seq q = s.seq q := congrArg (FMap.get Seq.init · q) h

theorem sequence_activates (hlive : (s.seq q).live = true) (hactive : (s.seq q).active = false) (hwaking : (s.seq q).waking = false)
    (himage : (s.seq q).image = none) (hold : s.oldestParked (s.seq q) = true) (hmay : s.mayActivate (s.seq q).func 1 = true)
    (hfits : s.needFits (s.seq q).func (s.seq q).slot (s.needPages (s.seq q).slot (s.seq q).promptLen) = true) :
    ∃ t, exec (.sequenceActivate q) s = .next t ∧ t.seq q = { s.seq q with active := true } := by
  refine ⟨s.setSeq q { s.seq q with active := true }, ?_, State.seq_setSeq_same _ _ _⟩
  simp [exec_sequenceActivate, execSequenceActivate, hlive, hactive, hwaking, himage, hold, hmay, hfits]

theorem spec_pause_ends (hlive : (s.seq q).live = true) (hp : (s.seq q).pauseTo ≠ 0) (hto : (s.seq q).pauseTo < s.rd SRV_STEP_CNT.V) :
    ∃ t, exec (.specPauseEnd q) s = .next t ∧ t.seq q = { s.seq q with pauseTo := 0, draft := 1 } := by
  refine ⟨s.setSeq q { s.seq q with pauseTo := 0, draft := 1 }, ?_, State.seq_setSeq_same _ _ _⟩
  simp [exec_specPauseEnd, execSpecPauseEnd, hlive, hp, hto]

/-! ### The end of a step (R280, R284) -/

/-- D after a step that took `dur` for a target (R280). -/
def State.nextD (s : State) (dur target : Nat) : Nat :=
  if target < dur then max (s.rd SRV_STEP_TARGET.MIN_CEIL) (s.ceilD - (s.ceilD + 15) / 16)
  else if dur * 10 < target * 9 ∧ (s.seqs.any fun e => e.2.live && !e.2.active && !e.2.waking) = true then min 512 (s.ceilD + 1) else s.ceilD

theorem State.nextD_lt (dur target : Nat) : s.nextD dur target < 2 ^ 10 := by
  have hmin : s.rd SRV_STEP_TARGET.MIN_CEIL < 2 ^ 10 := RField.of_lt SRV_STEP_TARGET.MIN_CEIL _
  have hd : s.ceilD < 2 ^ 10 := RField.of_lt SRV_STAT.CEIL _
  unfold State.nextD
  split
  · omega
  · split <;> omega

theorem step_ends {dur target : Nat} (hrun : s.sched.running = true) (hnone : s.countSeqs (fun x => x.inStep) = 0) (hdur : s.now - s.sched.startAt = dur)
    (htarget : 25 * s.rd SRV_STEP_TARGET.TARGET_US = target) :
    ∃ t, exec .stepEnd s = .next t ∧ t.sched.running = false ∧ t.rd SRV_STEP_LAST.V = dur % 2 ^ 64 ∧
      t.ceilD = (if target < dur then max (s.rd SRV_STEP_TARGET.MIN_CEIL) (s.ceilD - (s.ceilD + 15) / 16)
        else if dur * 10 < target * 9 ∧ (∃ e ∈ s.seqs, e.2.live = true ∧ e.2.active = false ∧ e.2.waking = false) then min 512 (s.ceilD + 1) else s.ceilD) ∧
      t.rd SRV_STAT.CUR_CHUNK = (if target < dur then (if s.sched.prefill then max 64 (s.rd SRV_STAT.CUR_CHUNK / 2) else s.rd SRV_STAT.CUR_CHUNK)
        else if s.sched.good = 15 then min (s.rd SRV_CTL.CHUNK) (2 * s.rd SRV_STAT.CUR_CHUNK) else s.rd SRV_STAT.CUR_CHUNK) := by
  have hwaits : (s.seqs.any fun e => e.2.live && !e.2.active && !e.2.waking) = true ↔
      ∃ e ∈ s.seqs, e.2.live = true ∧ e.2.active = false ∧ e.2.waking = false := by
    simp only [List.any_eq_true, Bool.and_eq_true, Bool.not_eq_true', and_assoc]
  have hD : s.nextD dur target = (if target < dur then max (s.rd SRV_STEP_TARGET.MIN_CEIL) (s.ceilD - (s.ceilD + 15) / 16)
      else if dur * 10 < target * 9 ∧ (∃ e ∈ s.seqs, e.2.live = true ∧ e.2.active = false ∧ e.2.waking = false) then min 512 (s.ceilD + 1) else s.ceilD) := by
    simp only [State.nextD, hwaits]
  have hc : s.rd SRV_STAT.CUR_CHUNK < 2 ^ 10 := RField.of_lt SRV_STAT.CUR_CHUNK _
  have hk : s.rd SRV_CTL.CHUNK < 2 ^ 10 := RField.of_lt SRV_CTL.CHUNK _
  rw [← hD, exec_stepEnd]
  subst hdur htarget
  generalize hr : execStepEnd s = r
  unfold execStepEnd at hr
  rw [if_neg (by simp [hrun, hnone])] at hr
  extract_lets dur' target' d waits d' c long good s1 s2 at hr
  have hlast : s1.rd SRV_STEP_LAST.V = dur' % 2 ^ 64 := (State.rd_wr_free _ (by decide) _ _ _).trans (State.rd_wr_val _ (by decide) _ _)
  have hceil : s1.rd SRV_STAT.CEIL = d' := (State.rd_wr_val _ (by decide) _ _).trans (Nat.mod_eq_of_lt (s.nextD_lt _ _))
  have hchunk : s1.rd SRV_STAT.CUR_CHUNK = c := (State.rd_wr_free _ (by decide) _ _ _).trans (State.rd_wr_free _ (by decide) _ _ _)
  have hs2 : s2.rd SRV_STEP_LAST.V = dur' % 2 ^ 64 ∧ s2.rd SRV_STAT.CEIL = d' ∧
      s2.rd SRV_STAT.CUR_CHUNK = (if target' < dur' then (if s.sched.prefill then max 64 (c / 2) else c)
        else if s.sched.good = 15 then min (s.rd SRV_CTL.CHUNK) (2 * c) else c) := by
    unfold s2
    by_cases hlong : target' < dur'
    · have hgood : good ≠ 16 := by simp [good, long, hlong]
      rw [if_pos hlong, if_neg hgood]
      by_cases hp : s.sched.prefill = true
      · rw [if_pos (by simp [long, hlong, hp]), if_pos hp]
        refine ⟨?_, ?_, ?_⟩
        · rw [State.rd_bump_free _ (by decide), State.rd_wr_free _ (by decide), hlast]
        · rw [State.rd_bump_free _ (by decide), State.rd_wr_free _ (by decide), hceil]
        · rw [State.rd_bump_free _ (by decide), State.rd_wr_val _ (by decide)]
          exact Nat.mod_eq_of_lt (show max 64 (c / 2) < 2 ^ 10 by omega)
      · rw [if_neg (by simp [hp]), if_neg hp]
        exact ⟨hlast, hceil, hchunk⟩
    · have hgood : good = 16 ↔ s.sched.good = 15 := by simp [good, long, hlong]
      rw [if_neg (by simp [long, hlong]), if_neg hlong]
      by_cases hg : s.sched.good = 15
      · rw [if_pos (hgood.2 hg), if_pos hg]
        refine ⟨?_, ?_, ?_⟩
        · rw [State.rd_wr_free _ (by decide), hlast]
        · rw [State.rd_wr_free _ (by decide), hceil]
        · rw [State.rd_wr_val _ (by decide)]
          exact Nat.mod_eq_of_lt (show min (s.rd SRV_CTL.CHUNK) (2 * c) < 2 ^ 10 by omega)
      · rw [if_neg (mt hgood.1 hg), if_neg hg]
        exact ⟨hlast, hceil, hchunk⟩
  subst hr
  exact ⟨_, rfl, rfl, hs2.1, hs2.2.1, hs2.2.2⟩

/-! ### SRV_FUNC_CEIL (R309) -/

theorem State.rd_accessed {F : RField} (hF : F.reg.off < 8192) (h : F.reg ≠ EVC_CLK_STAT) (who : Who) (off i : Nat) :
    (s.accessed who off).rd F i = s.rd F i := by
  have hk : Keeps ⟨[.warden, .halves].contains, [EVC_CLK_STAT].contains⟩ s (s.accessed who off) := (Keeps.refl _ s).accessed
  exact congrArg F.of (hk.reg F.reg i hF (by simpa using h))

/-- BASE of a function is written under its range, and CUR with it. -/
def State.setBase (s : State) (f base : Nat) : State :=
  if 1 ≤ base ∧ base ≤ 512 then (s.wr SRV_FUNC_CEIL.BASE f base).wr SRV_FUNC_CEIL.CUR f base else s

/-- ADMIT of a function is written under its range. -/
def State.setAdmit (s : State) (f most : Nat) : State := if 1 ≤ most ∧ most ≤ 4096 then s.wr SRV_FUNC_CEIL.ADMIT f most else s

theorem State.rd_setBase (f base : Nat) :
    if 1 ≤ base ∧ base ≤ 512 then (s.setBase f base).rd SRV_FUNC_CEIL.BASE f = base ∧ (s.setBase f base).cur f = base
    else (s.setBase f base).rd SRV_FUNC_CEIL.BASE f = s.rd SRV_FUNC_CEIL.BASE f ∧ (s.setBase f base).cur f = s.cur f := by
  unfold State.setBase
  split
  next h =>
    have hlt : base < 2 ^ 10 := by omega
    refine ⟨?_, ?_⟩
    · rw [State.rd_wr_free _ (by decide), State.rd_wr_val _ (by decide)]
      exact Nat.mod_eq_of_lt hlt
    · rw [State.cur, State.rd_wr_val _ (by decide)]
      exact Nat.mod_eq_of_lt hlt
  next => exact ⟨rfl, rfl⟩

theorem State.admit_setBase (f base : Nat) : (s.setBase f base).rd SRV_FUNC_CEIL.ADMIT f = s.rd SRV_FUNC_CEIL.ADMIT f := by
  unfold State.setBase
  split
  · rw [State.rd_wr_free _ (by decide), State.rd_wr_free _ (by decide)]
  · rfl

theorem State.rd_setAdmit_free {F : RField} (h : F.free SRV_FUNC_CEIL.ADMIT = true) (f most i : Nat) : (s.setAdmit f most).rd F i = s.rd F i := by
  unfold State.setAdmit
  split
  · rw [State.rd_wr_free _ h]
  · rfl

theorem State.admit_setAdmit (f most : Nat) :
    (s.setAdmit f most).rd SRV_FUNC_CEIL.ADMIT f = if 1 ≤ most ∧ most ≤ 4096 then most else s.rd SRV_FUNC_CEIL.ADMIT f := by
  unfold State.setAdmit
  split
  next h =>
    rw [State.rd_wr_val _ (by decide)]
    exact Nat.mod_eq_of_lt (show most < 2 ^ 13 by omega)
  next => rfl

theorem ceil_written {who : Who} {val f : Nat} (h1 : s.memOpen who = true) (h2 : whoAdmin who = true) (hf : s.rd SRV_FUNC_SEL.FUNC = f) :
    ∃ t, exec (.funcCeilWrite who val) s = .next t ∧
      (if 1 ≤ bitsOf val 0 10 ∧ bitsOf val 0 10 ≤ 512 then t.rd SRV_FUNC_CEIL.BASE f = bitsOf val 0 10 ∧ t.cur f = bitsOf val 0 10
       else t.rd SRV_FUNC_CEIL.BASE f = s.rd SRV_FUNC_CEIL.BASE f ∧ t.cur f = s.cur f) ∧
      t.rd SRV_FUNC_CEIL.ADMIT f = (if 1 ≤ bitsOf val 16 13 ∧ bitsOf val 16 13 ≤ 4096 then bitsOf val 16 13 else s.rd SRV_FUNC_CEIL.ADMIT f) := by
  let u := s.accessed who (SRV_FUNC_CEIL.blk.base + SRV_FUNC_CEIL.off)
  have hu (F : RField) (hF : F.reg.off < 8192) (h : F.reg ≠ EVC_CLK_STAT) (i : Nat) : u.rd F i = s.rd F i := State.rd_accessed hF h who _ i
  refine ⟨(u.setBase f (bitsOf val 0 10)).setAdmit f (bitsOf val 16 13), ?_, ?_, ?_⟩
  · rw [exec_funcCeilWrite, execFuncCeilWrite, State.adminWrite_open h1 h2]
    have hsel : u.rd SRV_FUNC_SEL.FUNC = f := (hu SRV_FUNC_SEL.FUNC (by decide) (by decide) 0).trans hf
    subst hsel
    rfl
  · rw [State.cur, State.rd_setAdmit_free (by decide), State.rd_setAdmit_free (by decide), ← hu SRV_FUNC_CEIL.BASE (by decide) (by decide) f,
      State.cur, ← hu SRV_FUNC_CEIL.CUR (by decide) (by decide) f]
    exact u.rd_setBase f (bitsOf val 0 10)
  · rw [State.admit_setAdmit, State.admit_setBase, hu SRV_FUNC_CEIL.ADMIT (by decide) (by decide) f]

/-! ### Storm ceilings (R281) -/

theorem State.countSeqs_ne_zero (p : Seq → Bool) : s.countSeqs p ≠ 0 ↔ ∃ e ∈ s.seqs, e.2.live = true ∧ p e.2 = true := by
  rw [State.countSeqs, FMap.countWhere, Ne, List.length_eq_zero_iff, List.filter_eq_nil_iff]
  simp only [not_forall, not_not, Bool.and_eq_true, exists_prop]

/-- The logical stalls of a row that its storm map names. -/
def State.stormStalls (s : State) (row : Nat) : List Nat :=
  ((((List.range 33).filter fun p => bitAt (s.rd TAL_STORM_MAP.STALLS row) p).map fun p => s.logicalAt (stallId row p)).filterMap fun l =>
    if l = 63 then none else some (row * 32 + l))

theorem State.mem_stormStalls {row x : Nat} : x ∈ s.stormStalls row ↔ ∃ k, k < 33 ∧ bitAt (s.rd TAL_STORM_MAP.STALLS row) k = true ∧
    s.logicalAt (stallId row k) ≠ 63 ∧ x = row * 32 + s.logicalAt (stallId row k) := by
  simp only [State.stormStalls, List.mem_filterMap, List.mem_map, List.mem_filter, List.mem_range]
  constructor
  · rintro ⟨_, ⟨k, ⟨hk, hbit⟩, rfl⟩, hx⟩
    split at hx
    · cases hx
    next h63 => exact ⟨k, hk, hbit, h63, (Option.some.inj hx).symm⟩
  · rintro ⟨k, hk, hbit, h63, rfl⟩
    exact ⟨_, ⟨k, ⟨hk, hbit⟩, rfl⟩, if_neg h63⟩

/-- The slots that a storm of a row bears on. -/
def State.stormSlots (s : State) (row : Nat) : List Nat :=
  (s.slots.filter fun e => ([e.2.cur, e.2.prev].filterMap id).any fun g => g.man.pitch.any fun p => (s.stormStalls row).contains p.stall).map (·.1)

theorem State.mem_stormSlots {row slot : Nat} : slot ∈ s.stormSlots row ↔ stormHits s row slot := by
  simp only [State.stormSlots, List.mem_map, List.mem_filter, List.any_eq_true, List.contains_iff_mem, State.mem_stormStalls, stormHits]
  constructor
  · rintro ⟨e, ⟨he, g, hg, p, hp, hk⟩, hslot⟩
    exact ⟨e, he, hslot, g, hg, p, hp, hk⟩
  · rintro ⟨e, he, hslot, g, hg, p, hp, hk⟩
    exact ⟨e, ⟨he, g, hg, p, hp, hk⟩, hslot⟩

/-- The functions that a storm of a row lowers. -/
def State.stormFuncs (s : State) (row : Nat) : List Nat :=
  (List.range 64).filter fun f => s.countSeqs (fun x => x.active && x.func == f && (s.stormSlots row).contains x.slot) != 0

theorem State.mem_stormFuncs {row f : Nat} (hf : f < 64) : f ∈ s.stormFuncs row ↔ stormLowers s row f := by
  simp only [State.stormFuncs, List.mem_filter, List.mem_range, hf, true_and, bne_iff_ne, State.countSeqs_ne_zero, Bool.and_eq_true, beq_iff_eq,
    List.contains_iff_mem, State.mem_stormSlots, stormLowers, and_assoc]

/-- A storm lowers CUR of a function. -/
def State.lowerCeil (s : State) (f : Nat) : State :=
  ((s.wr SRV_FUNC_CEIL.CUR f (max 1 (s.cur f / 2))).bump SRV_STORM_CEIL_CNT.V).srvFlag SRV_ERR.STORM_CEIL f

theorem State.rd_lowerCeil {F : RField} (h1 : (F.reg.blk.calm && F.free SRV_ERR.STORM_CEIL && F.free SRV_ERR.FUNC) = true)
    (h2 : F.free SRV_STORM_CEIL_CNT.V = true) (f i : Nat) : (s.lowerCeil f).rd F i = (s.wr SRV_FUNC_CEIL.CUR f (max 1 (s.cur f / 2))).rd F i := by
  rw [State.lowerCeil, State.srvFlag, State.rd_flagAt_free _ (by simpa using h1), State.rd_bump_free _ h2]

theorem State.cur_lowerCeil_same (f : Nat) : (s.lowerCeil f).cur f = max 1 (s.cur f / 2) := by
  have hcur : s.cur f < 2 ^ 10 := RField.of_lt SRV_FUNC_CEIL.CUR _
  rw [State.cur, State.rd_lowerCeil (by decide) (by decide), State.rd_wr_val _ (by decide)]
  exact Nat.mod_eq_of_lt (show max 1 (s.cur f / 2) < 2 ^ 10 by omega)

theorem State.cur_lowerCeil_ne {f k : Nat} (hf : f < 64) (hk : k < 64) (h : k ≠ f) : (s.lowerCeil f).cur k = s.cur k := by
  rw [State.cur, State.rd_lowerCeil (by decide) (by decide), State.rd_wr_inst _ (by omega) (by omega) h, State.cur]

theorem State.cur_lowerCeils {row f : Nat} (hf : f < 64) :
    ((s.stormFuncs row).foldl State.lowerCeil s).cur f = if f ∈ s.stormFuncs row then max 1 (s.cur f / 2) else s.cur f :=
  foldl_each (rd := State.cur) (val := fun u f => max 1 (u.cur f / 2)) (fun _ _ _ => State.cur_lowerCeil_same _)
    (fun _ _ _ hx hk h => State.cur_lowerCeil_ne hx hk h) (fun _ _ _ hx hk h => by rw [State.cur_lowerCeil_ne hx hk h])
    (fun _ hx => List.mem_range.1 (List.mem_filter.1 hx).1) (List.nodup_range.filter _) hf s

theorem storm_lowers {row : Nat} (hrow : rowOk row = true) (hnew : (s.row row).stormNew = true) :
    ∃ t, exec (.stormCeilingLower row) s = .next t ∧ (t.row row).stormNew = false ∧
      ∀ f, f < 64 → (stormLowers s row f → t.cur f = max 1 (s.cur f / 2)) ∧ (¬ stormLowers s row f → t.cur f = s.cur f) := by
  rw [exec_stormCeilingLower]
  generalize hr : execStormCeilingLower row s = r
  unfold execStormCeilingLower at hr
  rw [if_neg (by simp [hrow, hnew])] at hr
  extract_lets map named logical hit fs step s1 pairs sc at hr
  subst hr
  have hcur (f : Nat) (hf : f < 64) : s1.cur f = if f ∈ s.stormFuncs row then max 1 (s.cur f / 2) else s.cur f := State.cur_lowerCeils hf
  refine ⟨_, rfl, by rw [State.row_modRow_same], fun f hf => ?_⟩
  rw [← State.mem_stormFuncs hf]
  refine ⟨fun h => ?_, fun h => ?_⟩
  · rw [State.cur, State.rd_modRow]
    exact (hcur f hf).trans (if_pos h)
  · rw [State.cur, State.rd_modRow]
    exact (hcur f hf).trans (if_neg h)

/-- CUR of a function doubles, up to its BASE. -/
def State.raiseCeil (s : State) (f : Nat) : State := s.wr SRV_FUNC_CEIL.CUR f (min (s.rd SRV_FUNC_CEIL.BASE f) (2 * s.cur f))

theorem State.cur_raiseCeil_same (f : Nat) : (s.raiseCeil f).cur f = min (s.rd SRV_FUNC_CEIL.BASE f) (2 * s.cur f) := by
  have hbase : s.rd SRV_FUNC_CEIL.BASE f < 2 ^ 10 := RField.of_lt SRV_FUNC_CEIL.BASE _
  rw [State.cur, State.raiseCeil, State.rd_wr_val _ (by decide)]
  exact Nat.mod_eq_of_lt (show min (s.rd SRV_FUNC_CEIL.BASE f) (2 * s.cur f) < 2 ^ 10 by omega)

theorem State.rd_raiseCeil_ne {F : RField} {f k : Nat} (hf : f < 64) (hk : k < 64) (h : k ≠ f) : (s.raiseCeil f).rd F k = s.rd F k :=
  State.rd_wr_inst _ (by omega) (by omega) h _

theorem storm_restores {slot : Nat} (hnd : s.sched.lowered.Nodup) (hlt : ∀ p ∈ s.sched.lowered, p.1 < 64)
    (hquiet : FMap.get 0 s.sched.slotStorm slot + 1024 ≤ s.rd SRV_STEP_CNT.V + 1) (hsome : ∃ f, (f, slot) ∈ s.sched.lowered) :
    ∃ t, exec (.stormCeilingRestore slot) s = .next t ∧
      ∀ f, f < 64 → t.cur f = (if (f, slot) ∈ s.sched.lowered then min (s.rd SRV_FUNC_CEIL.BASE f) (2 * s.cur f) else s.cur f) := by
  rw [exec_stormCeilingRestore]
  generalize hr : execStormCeilingRestore slot s = r
  unfold execStormCeilingRestore at hr
  extract_lets sc since step fs s1 at hr
  have hmem (f : Nat) : f ∈ fs ↔ (f, slot) ∈ s.sched.lowered := by
    simp only [fs, sc, List.mem_map, List.mem_filter, beq_iff_eq]
    constructor
    · rintro ⟨⟨a, b⟩, ⟨hp, rfl⟩, rfl⟩
      exact hp
    · exact fun h => ⟨_, ⟨h, rfl⟩, rfl⟩
  have hfs : fs.isEmpty = false := by
    obtain ⟨f, hf⟩ := hsome
    exact List.isEmpty_eq_false_iff.2 (List.ne_nil_of_mem ((hmem f).2 hf))
  have hnd' : fs.Nodup := by
    refine List.Nodup.map_on ?_ (hnd.filter _)
    rintro ⟨a, b⟩ hx ⟨c, d⟩ hy hac
    have hb : b = slot := by simpa using (List.mem_filter.1 hx).2
    have hd : d = slot := by simpa using (List.mem_filter.1 hy).2
    rw [hb, hd]
    exact congrArg (·, slot) hac
  have hcond : ¬(fs.isEmpty || decide (step + 1 < since + 1024)) = true := by
    rw [hfs, Bool.false_or, decide_eq_true_eq]
    exact Nat.not_lt.2 hquiet
  rw [if_neg hcond] at hr
  subst hr
  refine ⟨_, rfl, fun f hf => ?_⟩
  simp only [← hmem]
  exact foldl_each (rd := State.cur) (val := fun u f => min (u.rd SRV_FUNC_CEIL.BASE f) (2 * u.cur f)) (g := State.raiseCeil)
    (fun _ _ _ => State.cur_raiseCeil_same _) (fun _ _ _ hx hk h => State.rd_raiseCeil_ne hx hk h)
    (fun u x k hx hk h => by rw [State.rd_raiseCeil_ne hx hk h, State.cur, State.rd_raiseCeil_ne hx hk h, State.cur])
    (fun x hx => hlt _ ((hmem x).1 hx)) hnd' hf s

end Machine
end Sys2Proof
end

section
/-! PROOF. What the serving of sequences leaves alone (O13): slots, carts and adapters swept, rolls written, positions put into pages. -/

namespace Sys2Proof.Machine

set_option Elab.async false

/-- What sweeps, carts and till records may change, apart from pages and sequences. -/
def asideParts : List Part := [.outbox, .funcs, .slots, .groups, .cart, .adapters, .rolls]
/-- The registers that they may change. -/
def asideRegs : List Reg := [TAL_TILE_STAT, CW_DISCARD_CNT, SRV_ADP_RETIRE_CNT, CW_HOME_STAT, SRV_TOKEN_CNT, SRV_MSI_CNT]

/-- Sweeps, carts and till records. -/
def Footprint.aside : Footprint := ⟨asideParts.contains, asideRegs.contains⟩

/-- The same with the sequences, as a step marker leaves them. -/
def Footprint.marked : Footprint := ⟨(.seqs :: asideParts).contains, asideRegs.contains⟩

section
variable {F : Footprint} {s₀ s : State} (hF : F.Covers asideParts asideRegs)
include hF

/-! ### Generations (R125, R217, R224) -/

theorem Keeps.of_endTile (h : Keeps F s₀ s) {gid : Nat} : Keeps F s₀ (s.endTile gid) := by
  unfold State.endTile State.modGroup State.setGroup
  have hreg : F.Covers [] [TAL_TILE_STAT] := hF.sub
  exact (((h.wr hreg).wr hreg).wr hreg).only [.groups] hF.sub

theorem Keeps.of_endTiles (h : Keeps F s₀ s) {g : Gen} : Keeps F s₀ (s.endTiles g) := h.foldl fun _ _ h => h.of_endTile hF

theorem Keeps.of_setSlot (h : Keeps F s₀ s) {k : Nat} {m : ModelSlot} : Keeps F s₀ (s.setSlot k m) := by
  unfold State.setSlot
  exact h.only [.slots] hF.sub

theorem Keeps.of_unfence (h : Keeps F s₀ s) {slot expert : Nat} : Keeps F s₀ (s.unfence slot expert) := by
  unfold State.unfence
  exact .ite (h.of_setSlot hF) h

theorem Keeps.of_sweepGen (h : Keeps F s₀ s) {slot : Nat} : Keeps F s₀ (s.sweepGen slot) := by
  unfold State.sweepGen
  dsimp only
  split
  · exact .ite (((h.of_setSlot hF).of_endTiles hF).foldl fun _ _ h => h.of_unfence hF) h
  · exact h

/-! ### Carts and adapters (R312, R346, R354) -/

theorem Keeps.of_modCart (h : Keeps F s₀ s) {f : Cartway → Cartway} : Keeps F s₀ (s.modCart f) := by
  unfold State.modCart
  exact h.only [.cart] hF.sub

theorem Keeps.of_queueCart (h : Keeps F s₀ s) {c : TxCart} : Keeps F s₀ (s.queueCart c) := by
  unfold State.queueCart State.cartLost
  split
  · exact h.bump hF.sub
  · exact h.of_modCart hF

theorem Keeps.of_tellFence (h : Keeps F s₀ s) {typ slot expert : Nat} : Keeps F s₀ (s.tellFence typ slot expert) := by
  unfold State.tellFence State.tellPartners State.queueNote
  exact h.foldl fun _ _ h => h.of_queueCart hF

theorem Keeps.of_markSlot (h : Keeps F s₀ s) {slot : Nat} : Keeps F s₀ (s.markSlot slot) := by
  unfold State.markSlot
  exact ((h.of_setSlot hF).of_sweepGen hF).foldl fun _ _ h => h.of_tellFence hF

theorem Keeps.of_setAdapter (h : Keeps F s₀ s) {a : Nat} {x : Adapter} : Keeps F s₀ (s.setAdapter a x) := by
  unfold State.setAdapter
  exact h.only [.adapters] hF.sub

theorem Keeps.of_sweepAdapter (h : Keeps F s₀ s) {a : Nat} : Keeps F s₀ (s.sweepAdapter a) := by
  unfold State.sweepAdapter
  exact (h.of_setAdapter hF).bump hF.sub

theorem Keeps.of_markAdapter (h : Keeps F s₀ s) {a : Nat} : Keeps F s₀ (s.markAdapter a) := by
  unfold State.markAdapter
  exact (h.of_setAdapter hF).of_sweepAdapter hF

/-! ### Till rolls (R301 to R303) -/

theorem Keeps.of_setRoll (h : Keeps F s₀ s) {key : Nat} {r : Roll} : Keeps F s₀ (s.setRoll key r) := by
  unfold State.setRoll
  exact h.only [.rolls] hF.sub

theorem Keeps.of_rollMsg (h : Keeps F s₀ s) {key : Nat} : Keeps F s₀ (s.rollMsg key) := by
  unfold State.rollMsg
  exact .ite (((h.of_setRoll hF).bump hF.sub).msi hF.sub) h

theorem Keeps.of_rollWrite (h : Keeps F s₀ s) {key : Nat} {t : TillRec} : Keeps F s₀ (s.rollWrite key t) := by
  unfold State.rollWrite
  extract_lets r s1 s2 s3 s4 s5
  have h3 : Keeps F s₀ s3 := ((h.send hF.sub).send hF.sub).of_setRoll hF
  have h4 : Keeps F s₀ s4 := .ite (h3.bump hF.sub) h3
  have h5 : Keeps F s₀ s5 := .ite (h4.of_rollMsg hF) h4
  exact .ite (h5.of_setRoll hF) h5

theorem Keeps.of_rollPut (h : Keeps F s₀ s) {key : Nat} {t : TillRec} : Keeps F s₀ (s.rollPut key t) := by
  unfold State.rollPut
  exact .ite h (.ite (h.of_rollWrite hF) (.ite ((h.of_setRoll hF).send hF.sub) (h.of_setRoll hF)))

end

/-! ### Sequences of which an expert is masked (R216, R351, R353) -/

section
variable {F : Footprint} {s₀ s : State} (hF : F.Covers (.seqs :: asideParts) asideRegs)
include hF

theorem Keeps.of_maskFor (h : Keeps F s₀ s) {q layer expert : Nat} : Keeps F s₀ (s.maskFor q layer expert) := by
  unfold State.maskFor
  exact (h.only [.seqs] hF.sub).of_modCart hF.sub

theorem Keeps.of_sendDispatch (h : Keeps F s₀ s) {d : Disp} {dst : Nat} : Keeps F s₀ (s.sendDispatch d dst) := by
  unfold State.sendDispatch
  exact (h.of_modCart hF.sub).of_queueCart hF.sub

theorem Keeps.of_route (h : Keeps F s₀ s) {d : Disp} : Keeps F s₀ (s.route d) := by
  unfold State.route
  have hs (k : Nat) : Keeps F s₀ (s.sendDispatch d k) := h.of_sendDispatch hF
  exact .ite h (.ite (hs _) (.ite h (.ite (hs _) (.ite (h.of_maskFor hF) (h.of_modCart hF.sub)))))

theorem Keeps.of_markHomes (h : Keeps F s₀ s) : Keeps F s₀ s.markHomes := by
  unfold State.markHomes State.rerouteWaits
  refine .ite h ?_
  extract_lets homes s1
  have h1 : Keeps F s₀ s1 := h.of_modCart hF.sub
  have h2 : Keeps F s₀ (if s1.rd CW_HOME_STAT.STATE = 2 then s1.wr CW_HOME_STAT.STATE 0 3 else s1) := .ite (h1.wr hF.sub) h1
  exact (h2.of_modCart hF.sub).foldl fun _ _ h => h.of_route hF

end

end Sys2Proof.Machine
end

section
/-! PROOF. Steps (O13): what a step marker leaves, the start of a step and the empty step. -/

namespace Sys2Proof

open Machine

set_option Elab.async false

namespace Machine

theorem exec_stepStart (s : State) : exec .stepStart s = execStepStart s := rfl

theorem exec_emptyStep (s : State) : exec .emptyStep s = execEmptyStep s := rfl

variable {s : State}

/-- A field of a register outside the footprint reads as before. -/
theorem Keeps.rd_eq {F : Footprint} {t : State} (h : Keeps F s t) {f : RField} (hoff : f.reg.off < 8192) (hf : F.regs f.reg = false) (i : Nat) :
    t.rd f i = s.rd f i := congrArg f.of (h.reg f.reg i hoff hf)

/-! ### Step markers (R127, R282) -/

theorem State.keeps_mark (s : State) : Keeps .marked (s.bump SRV_STEP_CNT.V) s.mark := by
  have hM : Footprint.marked.Covers (.seqs :: asideParts) asideRegs := rfl
  unfold State.mark
  extract_lets s1 s2 s3 s4 s5
  have h2 : Keeps .marked s1 s2 := (Keeps.refl _ s1).send hM.sub
  have h3 : Keeps .marked s1 s3 := h2.foldl fun _ _ h => h.of_markSlot hM.sub
  have h4 : Keeps .marked s1 s4 := h3.foldl fun _ _ h => h.of_markAdapter hM.sub
  have h5 : Keeps .marked s1 s5 := h4.of_markHomes hM
  exact h5.only [.seqs] hM.sub

theorem State.mark_sched (s : State) : s.mark.sched = s.sched := (s.keeps_mark.part .sched (by decide)).trans (State.bump_sched _ _ _ _)

theorem State.mark_now (s : State) : s.mark.now = s.now := (s.keeps_mark.part .now (by decide)).trans (State.bump_now _ _ _ _)

theorem State.mark_steps (s : State) : s.mark.rd SRV_STEP_CNT.V = (s.rd SRV_STEP_CNT.V + 1) % 2 ^ 64 :=
  (s.keeps_mark.rd_eq (by decide) (by decide) 0).trans (State.rd_bump_val _ (by decide) 0 1)

/-! ### The start of a step (R282, R285) -/

theorem step_starts (hidle : s.sched.running = false) (hwork : s.takesWork = true) (hsome : (s.mark.seqs.any fun e => s.mark.canRun e.2) = true) :
    ∃ t, exec .stepStart s = .next t ∧ t.sched.running = true ∧ t.sched.startAt = s.now ∧ t.rd SRV_STEP_CNT.V = (s.rd SRV_STEP_CNT.V + 1) % 2 ^ 64 ∧
      t.seqs = s.mark.seqs.map fun e => if s.mark.canRun e.2 then (e.1, { e.2 with inStep := true }) else e := by
  rw [exec_stepStart]
  generalize hr : execStepStart s = r
  unfold execStepStart at hr
  rw [if_neg (by simp [hidle, hwork])] at hr
  extract_lets s1 sit run sc s2 at hr
  have hrun : ¬run.isEmpty = true := by
    simpa only [run, List.isEmpty_iff, List.filter_eq_nil_iff, List.any_eq_true, not_forall, not_not, exists_prop] using hsome
  rw [if_neg hrun] at hr
  subst hr
  refine ⟨_, rfl, ?_, ?_, ?_, ?_⟩
  · rw [State.bump_sched]
  · rw [State.bump_sched]
    exact s.mark_now
  · rw [State.rd_bump_free _ (by decide)]
    exact s.mark_steps
  · rw [State.bump_seqs]

theorem empty_step_advances (hidle : s.sched.running = false) (hwork : s.takesWork = true) (hnone : (s.seqs.any fun e => s.canRun e.2) = false)
    (hdue : s.sched.startAt + 25 * s.rd SRV_STEP_TARGET.TARGET_US ≤ s.now) :
    ∃ t, exec .emptyStep s = .next t ∧ t.sched.running = false ∧ t.sched.startAt = s.now ∧ t.rd SRV_STEP_CNT.V = (s.rd SRV_STEP_CNT.V + 1) % 2 ^ 64 := by
  rw [exec_emptyStep]
  generalize hr : execEmptyStep s = r
  unfold execEmptyStep at hr
  rw [if_neg (by simp [hidle, hwork, hnone]), if_pos hdue] at hr
  subst hr
  refine ⟨_, rfl, ?_, ?_, ?_⟩
  · rw [State.bump_sched]
    exact (congrArg Sched.running s.mark_sched).trans hidle
  · rw [State.bump_sched]
    exact s.mark_now
  · rw [State.rd_bump_free _ (by decide)]
    exact s.mark_steps

end Machine
end Sys2Proof
end

section
/-! PROOF. The ends of positions and verify passes, and the commit (O13). -/

namespace Sys2Proof

open Machine

set_option Elab.async false

namespace Machine

theorem exec_positionEnd (q : Nat) (logits : List Word32) (kv : List (Nat × Nat × List Word32 × List Word32)) (e : EndIn) (s : State) :
    exec (.positionEnd q logits kv e) s = execPositionEnd q logits kv e s := rfl

theorem exec_verifyPass (q : Nat) (crier : List (List Word32)) (main : PassIn) (s : State) :
    exec (.verifyPass q crier main) s = execVerifyPass q crier main s := rfl

theorem exec_positionCommit (q : Nat) (iso : List Nat) (s : State) : exec (.positionCommit q iso) s = execPositionCommit q iso s := rfl

variable {s u : State} {q : Nat}

theorem Footprint.aside_covers : Footprint.aside.Covers asideParts asideRegs := rfl

theorem State.keeps_sweepGen (s : State) (slot : Nat) : Keeps .aside s (s.sweepGen slot) := (Keeps.refl _ s).of_sweepGen Footprint.aside_covers

theorem State.seq_sweepGen (s : State) (slot q : Nat) : (s.sweepGen slot).seq q = s.seq q :=
  State.seq_congr ((s.keeps_sweepGen slot).part .seqs (by decide)) q

/-! ### The end of a position (R224, R287) -/

theorem tokenRecs_congr {x y : Seq} (hstops : y.stops = x.stops) (hmax : y.maxNew = x.maxNew) (gen p made : Nat) (ts : List (Nat × Bool × List Word32)) :
    tokenRecs y gen p made ts = tokenRecs x gen p made ts := by
  induction ts generalizing p made with
  | nil => rfl
  | cons t ts ih =>
    obtain ⟨tok, draft, ls⟩ := t
    simp only [tokenRecs, hstops, hmax, ih]

/-- What a sequence is after the end of a position or pass, and the sweep of its slot. -/
structure Ended (x : Seq) (toks : List (Nat × Bool × List Word32)) (kv : List KvTok) (y : Seq) : Prop where
  phase  : y.phase = .ended
  inStep : y.inStep = false
  staged : y.staged = x.staged ++ kv
  recs   : y.recs = tokenRecs x x.gen (x.first + (if x.prefill then x.width else 1)) x.generated toks
  draft  : y.draft = x.draft

theorem State.ended_endPosition (u : State) (q : Nat) (toks : List (Nat × Bool × List Word32)) (kv : List KvTok) (slot : Nat) :
    Ended (u.seq q) toks kv (((u.endPosition q toks kv).sweepGen slot).seq q) := by
  rw [State.seq_sweepGen]
  unfold State.endPosition
  rw [State.seq_setSeq_same]
  refine ⟨rfl, rfl, rfl, ?_, rfl⟩
  exact congrArg (tokenRecs (u.seq q) (u.seq q).gen · (u.seq q).generated toks) (by split <;> rfl)

theorem State.rd_endPosition {F : RField} (hoff : F.reg.off < 8192) (hF : Footprint.aside.regs F.reg = false) (u : State) (q : Nat)
    (toks : List (Nat × Bool × List Word32)) (kv : List KvTok) (slot i : Nat) : ((u.endPosition q toks kv).sweepGen slot).rd F i = u.rd F i := by
  rw [(State.keeps_sweepGen _ slot).rd_eq hoff hF, State.endPosition, State.rd_setSeq]

theorem State.seqs_tickHouse (s : State) (h n : Nat) : (s.tickHouse h n).seqs = s.seqs := by
  unfold State.tickHouse
  split <;> rfl

theorem State.rd_tickHouse (s : State) (h n : Nat) (F : RField) (i : Nat) : (s.tickHouse h n).rd F i = s.rd F i :=
  State.rd_of_regs (by unfold State.tickHouse; split <;> rfl) F i

theorem State.staged_saveChunk (s : State) (q : Nat) (logits : List Word32) (saved : List SaveIn) :
    ((s.saveChunk q logits saved).seq q).staged = (s.seq q).staged := by
  unfold State.saveChunk
  dsimp only
  split
  · rfl
  · rw [State.seq_modSeq_same]

/-- The last chunk of a prompt, or a decode position: its token is chosen from its logits. -/
theorem position_ends {logits : List Word32} {kv : List (Nat × Nat × List Word32 × List Word32)} {e : EndIn} (hlive : (s.seq q).live = true)
    (hrun : (s.seq q).phase = .running) (hdrafts : (s.seq q).drafts = 0) (hredo : (s.seq q).redoFrom = none) (hdone : s.dispatchesDone q = true)
    (hnorms : e.norms = 0)
    (hok : (s.seq q).job.isSome = true ∧ (s.seq q).lossPositions = [] ∨
      (s.seq q).job = none ∧ (s.seq q).prefill = true ∧ (s.seq q).first + (s.seq q).width < (s.seq q).promptLen ∨ logitsBad logits = false) :
    ∃ t, exec (.positionEnd q logits kv e) s = .next t ∧ (t.seq q).phase = .ended ∧ (t.seq q).inStep = false ∧
      (t.seq q).staged = (s.seq q).staged ++ kvToks kv ∧
      (t.seq q).recs = (if (s.seq q).job.isSome = true ∨ ((s.seq q).prefill = true ∧ (s.seq q).first + (s.seq q).width < (s.seq q).promptLen) then []
        else tokenRecs (s.seq q) (s.seq q).gen ((s.seq q).first + (if (s.seq q).prefill then (s.seq q).width else 1)) (s.seq q).generated
          [(chooseToken ⟨(s.seq q).temp, (s.seq q).topP, (s.seq q).topK, (s.seq q).seed⟩ ((s.seq q).first + (if (s.seq q).prefill then (s.seq q).width else 1)) 0 logits,
            false, logits)]) := by
  rw [exec_positionEnd]
  generalize hr : execPositionEnd q logits kv e s = r
  unfold execPositionEnd at hr
  extract_lets x s0 s1 last pos tok at hr
  rw [if_neg (by simp [x, hlive, hrun, hdrafts, hredo, hdone])] at hr
  have hs0 : s0.seqs = s.seqs := by
    have h : s0 = s.tickHouse x.wh x.width := congrArg (State.railFlags _ q) hnorms
    rw [h, State.seqs_tickHouse]
  have hs1 : s1.seq q = s.seq q := by
    unfold s1
    split
    · exact State.seq_congr ((State.bump_seqs _ _ _ _).trans hs0) q
    · exact State.seq_congr hs0 q
  have hshort : (x.job.isSome || !last) = true ↔ x.job.isSome = true ∨ (x.prefill = true ∧ x.first + x.width < x.promptLen) := by
    simp [last]
  have hgood : x.job.isSome = true ∧ x.lossPositions = [] ∨ (x.job.isSome || !last) = true ∧ x.job.isSome = false ∨ logitsBad logits = false := by
    rw [hshort]
    obtain h | ⟨hj, hp⟩ | h := hok
    · exact .inl h
    · exact .inr (.inl ⟨.inr hp, by simp [x, hj]⟩)
    · exact .inr (.inr h)
  rw [if_neg] at hr
  swap
  · obtain ⟨_, h⟩ | ⟨_, h⟩ | h := hgood <;> simp [h]
  by_cases hno : (x.job.isSome || !last) = true
  · rw [if_pos hno] at hr
    subst hr
    have ht := (s1.saveChunk q logits e.saved).ended_endPosition q [] (kvToks kv) x.slot
    refine ⟨_, rfl, ht.phase, ht.inStep, ?_, ?_⟩
    · rw [ht.staged, State.staged_saveChunk, hs1]
    · rw [ht.recs, if_pos (hshort.1 hno)]
      rfl
  · have hfine : ¬logitsBad logits = true := by
      obtain ⟨h, _⟩ | ⟨h, _⟩ | h := hgood
      · exact absurd (by simp [h]) hno
      · exact absurd h hno
      · simp [h]
    rw [if_neg hno, if_neg hfine] at hr
    subst hr
    have hpos : pos = x.first + (if x.prefill then x.width else 1) := by
      unfold pos
      split <;> rfl
    have ht := s1.ended_endPosition q [(tok, false, logits)] (kvToks kv) x.slot
    rw [hs1] at ht
    refine ⟨_, rfl, ht.phase, ht.inStep, ht.staged, ?_⟩
    rw [ht.recs, if_neg (mt hshort.2 hno)]
    unfold tok
    rw [hpos]

/-! ### Verify passes (R288 to R292) -/

theorem pass_verified {crier : List (List Word32)} {main : PassIn} {out : List (Nat × Bool × List Word32)} {j : Nat} (hlive : (s.seq q).live = true)
    (hrun : (s.seq q).phase = .running) (hdrafts : (s.seq q).drafts ≠ 0) (hredo : (s.seq q).redoFrom = none) (hready : s.slState (s.seq q).crier = 3)
    (hcrier : crier.length = (s.seq q).drafts) (hmain : main.main.length = (s.seq q).drafts + 1) (hnorms : main.norms = 0)
    (hdone : s.dispatchesDone q = true) (hfine : (out.any fun t => logitsBad t.2.2) = false)
    (hout : verifyFrom ⟨(s.seq q).temp, (s.seq q).topP, (s.seq q).topK, (s.seq q).seed⟩ (s.seq q).reject (s.seq q).first 1 crier main.main = out)
    (hj : (out.filter fun t => t.2.1).length = j) :
    ∃ t, exec (.verifyPass q crier main) s = .next t ∧ (t.seq q).phase = .ended ∧
      (t.seq q).recs = tokenRecs (s.seq q) (s.seq q).gen ((s.seq q).first + (if (s.seq q).prefill then (s.seq q).width else 1)) (s.seq q).generated out ∧
      (t.seq q).draft = (if j = (s.seq q).drafts then min (s.seq q).maxDraft (2 * (s.seq q).draft) else if j = 0 then (s.seq q).draft / 2 else (s.seq q).draft) ∧
      t.rd SRV_DRAFT_CNT.V = (s.rd SRV_DRAFT_CNT.V + (s.seq q).drafts) % 2 ^ 64 ∧ t.rd SRV_ACCEPT_CNT.V = (s.rd SRV_ACCEPT_CNT.V + j) % 2 ^ 64 := by
  have hrdy : (s.slState (s.seq q).crier == slReady) = true := beq_iff_eq.2 hready
  have htake : out.takeWhile (fun t => !logitsBad t.2.2) = out :=
    List.takeWhile_eq_self_iff.2 fun t ht => by simpa using List.any_eq_false.1 hfine t ht
  rw [exec_verifyPass]
  generalize hr : execVerifyPass q crier main s = r
  unfold execVerifyPass at hr
  extract_lets x l ready out' good bad s0 j' s0' d s2 s3 s4 at hr
  have hready' : ready = true := hrdy
  have hgood : good = out := by
    unfold good out'
    rw [if_pos hready']
    exact (congrArg (List.takeWhile _) hout).trans htake
  have hbad : bad = false := by
    have hlen : good.length = out'.length := by
      unfold out'
      rw [hgood, if_pos hready']
      exact congrArg List.length hout.symm
    simp only [bad, hlen, lt_irrefl, decide_false, Bool.false_and]
  have hj' : j' = j := (congrArg (fun g => (g.filter fun t => t.2.1).length) hgood).trans hj
  rw [if_neg (by simp [x, l, ready, hlive, hrun, hdrafts, hredo, hrdy, hcrier, hmain, hdone]), if_neg (by simp [hready']), if_neg (by simp [hbad])] at hr
  have hs0 : s0 = s.tickHouse x.wh x.width := by
    unfold s0
    rw [hnorms, if_pos hready']
    rfl
  have hs4seq : s4.seq q = { s.seq q with draft := d, pauseTo := if d = 0 then s.rd SRV_STEP_CNT.V + s.rd SRV_CTL.SPEC_PAUSE else 0 } := by
    have hs3 : s3.seqs = s.seqs := by
      have h : s0'.seqs = s.seqs := by rw [State.bump_seqs, State.bump_seqs, hs0, State.seqs_tickHouse]
      have h2 : s2.seqs = s.seqs := by
        unfold s2
        split
        · rw [State.bump_seqs, h]
        · exact h
      unfold s3
      split
      · rw [State.bump_seqs, h2]
      · exact h2
    unfold s4
    rw [State.seq_modSeq_same, State.seq_congr hs3]
  have hs4rd (F : RField) (h1 : F.free SRV_TOTAL_REJ_CNT.V = true) (h2 : F.free SRV_SPEC_PAUSE_CNT.V = true) : s4.rd F = s0'.rd F := by
    have h : s2.rd F = s0'.rd F := by
      unfold s2
      split
      · rw [State.rd_bump_free _ h1]
      · rfl
    unfold s4
    rw [State.modSeq, State.rd_setSeq]
    unfold s3
    split
    · rw [State.rd_bump_free _ h2, h]
    · exact h
  subst hr
  have ht := s4.ended_endPosition q good [] x.slot
  refine ⟨_, rfl, ht.phase, ?_, ?_, ?_, ?_⟩
  · rw [ht.recs, hs4seq, hgood]
    refine tokenRecs_congr (x := s.seq q) ?_ ?_ _ _ _ _ <;> rfl
  · rw [ht.draft, hs4seq]
    unfold d
    rw [hj']
  · rw [State.rd_endPosition (by decide) (by decide), hs4rd _ (by decide) (by decide)]
    unfold s0'
    rw [State.rd_bump_free _ (by decide), State.rd_bump_val _ (by decide), hs0, State.rd_tickHouse]
    rfl
  · rw [State.rd_endPosition (by decide) (by decide), hs4rd _ (by decide) (by decide)]
    unfold s0'
    rw [State.rd_bump_val _ (by decide), State.rd_bump_free _ (by decide), hs0, State.rd_tickHouse, hj']
    rfl

end Machine
end Sys2Proof
end

section
/-! PROOF. The commit of a position (O13): what it writes and what it leaves of its sequence (R22, R285, R305). -/

namespace Sys2Proof

open Machine

set_option Elab.async false

namespace Machine

variable {s : State} {q : Nat}

theorem State.seqs_sweepAdapter (s : State) (a : Nat) : (s.sweepAdapter a).seqs = s.seqs :=
  ((Keeps.refl _ s).of_sweepAdapter Footprint.aside_covers).part .seqs (by decide)

theorem State.seq_freeSeq (s : State) (q : Nat) : (s.freeSeq q).seq q = Seq.init := by
  unfold State.freeSeq
  extract_lets x s1 s2
  have h1 : s1.seq q = Seq.init := State.seq_setSeq_same _ _ _
  have h2 : s2.seqs = s1.seqs := by
    unfold s2
    split
    · exact State.seqs_sweepAdapter _ _
    · rfl
  rw [State.seq_sweepGen, State.seq_congr h2, h1]

/-- At a boundary where nothing waits, nothing happens. -/
theorem State.boundary_quiet (hjob : (s.seq q).job = none) (hend : (s.seq q).endAs = none) (hpark : (s.seq q).parkDue = false) : s.boundary q = s := by
  unfold State.boundary
  simp [hjob, hend, hpark]

theorem State.keeps_rollPuts (s : State) (key : Nat) (ts : List TillRec) : Keeps .aside s (ts.foldl (fun s r => s.rollPut key r) s) :=
  (Keeps.refl _ s).foldl fun _ _ h => h.of_rollPut Footprint.aside_covers

/-- Records that are given flags end the request where they did. -/
theorem any_last_map {g : TillRec × Nat → TillRec} (hg : ∀ p, (g p).last = p.1.last) (ts : List TillRec) :
    ((ts.zipIdx).map g).any (fun r => r.last) = ts.any fun r => r.last :=
  calc ((ts.zipIdx).map g).any (fun r => r.last)
      = (ts.zipIdx).any fun p => p.1.last := by rw [List.any_map]; exact congrArg _ (funext hg)
    _ = ((ts.zipIdx).map Prod.fst).any fun r => r.last := List.any_map.symm
    _ = ts.any fun r => r.last := by rw [List.zipIdx_map_fst]

theorem position_commits (hlive : (s.seq q).live = true) (hended : (s.seq q).phase = .ended) (hchecked : s.checked q = true) (hwork : s.takesWork = true) :
    ∃ t, exec (.positionCommit q []) s = .next t ∧
      (((s.seq q).recs.any fun r => r.last) = true → t.seq q = Seq.init) ∧
      (((s.seq q).recs.any fun r => r.last) = false → (s.seq q).endAs = none → (s.seq q).parkDue = false → (s.seq q).job = none →
        (t.seq q).phase = .idle ∧ (t.seq q).pos = (s.seq q).first + (s.seq q).keep ∧ (t.seq q).generated = (s.seq q).generated + (s.seq q).recs.length ∧
        (t.seq q).recs = [] ∧ (t.seq q).staged = [] ∧
        t.pages = ((List.range ((s.seq q).keep * s.kvLayers (s.seq q).slot)).foldl (fun u i =>
          u.writePos q (i % s.kvLayers (s.seq q).slot) ((s.seq q).first + i / s.kvLayers (s.seq q).slot)) s).pages) := by
  rw [exec_positionCommit]
  generalize hr : execPositionCommit q [] s = r
  unfold execPositionCommit at hr
  extract_lets x layers s1 key recs s2 s3 at hr
  rw [if_neg (by simp [x, hlive, hended, hchecked, hwork]), if_neg (by simp)] at hr
  have hlast : recs.any (fun r => r.last) = (s.seq q).recs.any fun r => r.last := by
    refine any_last_map ?_ _
    exact fun _ => rfl
  have hlen : recs.length = (s.seq q).recs.length := (List.length_map _).trans List.length_zipIdx
  have hk : Keeps .aside s2 s3 := s2.keeps_rollPuts key recs
  have hseq : s3.seq q = s2.seq q := State.seq_congr (hk.part .seqs (by decide)) q
  have hx2 := (State.seq_setSeq_same s1 q _ : s2.seq q = _)
  by_cases h : recs.any (fun r => r.last) = true
  · rw [if_pos h] at hr
    subst hr
    refine ⟨_, rfl, fun _ => s3.seq_freeSeq q, fun hno => ?_⟩
    rw [← hlast, h] at hno
    cases hno
  · rw [if_neg h] at hr
    subst hr
    refine ⟨_, rfl, fun hyes => absurd (hlast.trans hyes) h, fun _ hend hpark hjob => ?_⟩
    have hquiet : s3.boundary q = s3 := by
      refine State.boundary_quiet ?_ ?_ ?_
      · rw [hseq, hx2]
        exact hjob
      · rw [hseq, hx2]
        exact hend
      · rw [hseq, hx2]
        exact hpark
    rw [hquiet, hseq, hx2]
    refine ⟨rfl, rfl, congrArg ((s.seq q).generated + ·) hlen, rfl, rfl, ?_⟩
    exact (hk.part .pages (by decide)).trans (State.setSeq_pages _ _ _)

end Machine
end Sys2Proof
end

section
/-! PROOF. The start of a position (O13): the pages it takes and the routes of its experts leave its slot and its generation; what the routes leave of it (R26, R216, R284, R351). -/

namespace Sys2Proof

open Machine

set_option Elab.async false

namespace Machine

theorem exec_positionStart (q : Nat) (toks : List Nat) (vocab save : Nat) (routes : List (Nat × Nat × List Word32)) (s : State) :
    exec (.positionStart q toks vocab save routes) s = execPositionStart q toks vocab save routes s := rfl

variable {s t u : State} {q : Nat}

/-! ### Pages taken (R229, R238, R240) -/

/-- Slots and sequences stay. -/
structure SeqsKept (s t : State) : Prop where
  slots : t.slots = s.slots
  seqs  : t.seqs = s.seqs

theorem SeqsKept.refl (s : State) : SeqsKept s s := ⟨rfl, rfl⟩

theorem SeqsKept.trans (h : SeqsKept s t) (k : SeqsKept t u) : SeqsKept s u := ⟨k.slots.trans h.slots, k.seqs.trans h.seqs⟩

theorem State.seqsKept_newPage {func slot layer home id : Nat} (h : s.newPage func slot layer home = some (id, t)) : SeqsKept s t := by
  unfold State.newPage at h
  split at h
  · cases h
  · dsimp only at h
    obtain ⟨-, rfl⟩ := Prod.mk.inj (Option.some.inj h)
    split
    · exact ⟨rfl, rfl⟩
    · exact ⟨State.bump_slots _ _ _ _, State.bump_seqs _ _ _ _⟩

theorem State.seqsKept_newLayers {func slot home : Nat} {ids : List Nat} (h : s.newLayers func slot home = some (ids, t)) : SeqsKept s t := by
  suffices hall : ∀ r, s.newLayers func slot home = some r → SeqsKept s r.2 from hall _ h
  unfold State.newLayers
  refine List.foldlRecOn (motive := fun o : Option (List Nat × State) => ∀ r, o = some r → SeqsKept s r.2) _ _ ?_ fun o ho l _ r hr => ?_
  · rintro _ ⟨⟩
    exact .refl s
  · split at hr
    · cases hr
    · split at hr
      · cases hr
      next hn =>
        cases hr
        exact (ho _ rfl).trans (State.seqsKept_newPage hn)

theorem State.seqsKept_copyPage {id func home n : Nat} (h : s.copyPage id func home = some (n, t)) : SeqsKept s t := by
  unfold State.copyPage at h
  dsimp only at h
  split at h
  · cases h
  next hn =>
    obtain ⟨-, rfl⟩ := Prod.mk.inj (Option.some.inj h)
    refine (State.seqsKept_newPage hn).trans ⟨?_, ?_⟩
    · rw [State.bump_slots, State.setPage_slots]
    · rw [State.bump_seqs, State.setPage_seqs]

theorem State.seqsKept_sweepPage (s : State) (id : Nat) : SeqsKept s (s.sweepPage id) := by
  unfold State.sweepPage
  dsimp only
  split
  · refine SeqsKept.trans (t := (s.setPage id Page.init).bump KV_RELEASE_CNT.V) ⟨?_, ?_⟩ ⟨rfl, rfl⟩
    · rw [State.bump_slots, State.setPage_slots]
    · rw [State.bump_seqs, State.setPage_seqs]
  · exact .refl s

theorem State.seqsKept_refDown (s : State) (id : Nat) : SeqsKept s (s.refDown id) := by
  unfold State.refDown State.pageChange
  have h : SeqsKept s ((s.pageArrival id).setPage id ((fun p => { p with ref := p.ref - 1 }) (s.page id))) := ⟨rfl, rfl⟩
  exact h.trans (State.seqsKept_sweepPage _ id)

/-- The slots stay, and a sequence stays bound to its slot and generation. -/
structure BindingKept (q : Nat) (s t : State) : Prop where
  slots : t.slots = s.slots
  slot  : (t.seq q).slot = (s.seq q).slot
  gen   : (t.seq q).gen = (s.seq q).gen

theorem BindingKept.refl (q : Nat) (s : State) : BindingKept q s s := ⟨rfl, rfl, rfl⟩

theorem BindingKept.kept (h : BindingKept q s t) (k : SeqsKept t u) : BindingKept q s u :=
  ⟨k.slots.trans h.slots, (congrArg Seq.slot (State.seq_congr k.seqs q)).trans h.slot, (congrArg Seq.gen (State.seq_congr k.seqs q)).trans h.gen⟩

theorem BindingKept.setSeq (h : BindingKept q s t) {x : Seq} (hslot : x.slot = (s.seq q).slot) (hgen : x.gen = (s.seq q).gen) :
    BindingKept q s (t.setSeq q x) :=
  ⟨(State.setSeq_slots _ _ _).trans h.slots, (congrArg Seq.slot (State.seq_setSeq_same _ _ _)).trans hslot,
    (congrArg Seq.gen (State.seq_setSeq_same _ _ _)).trans hgen⟩

theorem BindingKept.modSeq (h : BindingKept q s t) {f : Seq → Seq} (hslot : ∀ x, (f x).slot = x.slot) (hgen : ∀ x, (f x).gen = x.gen) :
    BindingKept q s (t.modSeq q f) := h.setSeq ((hslot _).trans h.slot) ((hgen _).trans h.gen)

theorem BindingKept.setTune (h : BindingKept q s t) {f : Nat} {j : TuneJob} : BindingKept q s (t.setTune f j) := h.kept ⟨rfl, rfl⟩

theorem BindingKept.bindRound (h : BindingKept q s t) (hu : t.bindRound q = some u) : BindingKept q s u := by
  unfold State.bindRound at hu
  split at hu
  · cases hu
    exact h
  · dsimp only at hu
    split at hu
    · cases hu
      refine h.modSeq ?_ ?_ <;> exact fun _ => rfl
    · obtain ⟨v, -, rfl⟩ := Option.map_eq_some_iff.1 hu
      refine h.setTune.modSeq ?_ ?_ <;> exact fun _ => rfl

theorem BindingKept.copyOnWrite (h : BindingKept q s t) {p : Nat} (hu : t.copyOnWrite q p = some u) : BindingKept q s u := by
  revert u
  unfold State.copyOnWrite
  dsimp only
  split
  · rintro _ ⟨⟩
    exact h
  · refine List.foldlRecOn (motive := fun o : Option State => ∀ {u}, o = some u → BindingKept q s u) _ _ ?_ fun o ho l _ u hu => ?_
    · rintro _ ⟨⟩
      exact h
    · split at hu
      · cases hu
      · split at hu
        · cases hu
          exact ho rfl
        · split at hu
          · cases hu
          next hc =>
            cases hu
            refine (((ho rfl).kept (State.seqsKept_copyPage hc)).modSeq ?_ ?_).kept (State.seqsKept_refDown _ _) <;> exact fun _ => rfl

theorem BindingKept.growTo (h : BindingKept q s t) {a n : Nat} (hu : t.growTo q a n = some u) : BindingKept q s u := by
  induction n generalizing u with
  | zero =>
    cases hu
    exact h
  | succ n ih =>
    unfold State.growTo at hu
    split at hu
    · cases hu
    next s1 h1 =>
      have hs1 := ih h1
      dsimp only at hu
      split at hu
      · split at hu
        · cases hu
        · split at hu
          · cases hu
          next hn =>
            cases hu
            exact (hs1.kept (State.seqsKept_newLayers hn)).setSeq hs1.slot hs1.gen
      · cases hu
        exact hs1

/-! ### Routes (R216, R351, R353) -/

theorem State.seqsKept_queueCart (s : State) (c : TxCart) : SeqsKept s (s.queueCart c) := by
  unfold State.queueCart State.cartLost
  split
  · exact ⟨State.bump_slots _ _ _ _, State.bump_seqs _ _ _ _⟩
  · exact ⟨rfl, rfl⟩

theorem State.seqsKept_sendDispatch (s : State) (d : Disp) (dst : Nat) : SeqsKept s (s.sendDispatch d dst) := by
  unfold State.sendDispatch
  extract_lets m modelId tag s1
  have h1 : SeqsKept s s1 := ⟨rfl, rfl⟩
  exact h1.trans (State.seqsKept_queueCart _ _)

/-- What a route can do: nothing, a dispatch, a mask when the generation fences, or a wait. -/
theorem State.route_cases (s : State) (d : Disp) : SeqsKept s (s.route d) ∨
    (((s.slot d.slot).gen d.gen).any fun g => g.man.fence) = true ∧ s.route d = s.maskFor d.seq d.layer d.expert := by
  have hsend (k : Nat) : SeqsKept s (s.sendDispatch d k) := s.seqsKept_sendDispatch d k
  unfold State.route
  dsimp only
  split
  · exact .inl (.refl s)
  · split
    · exact .inl (hsend _)
    · split
      · exact .inl (.refl s)
      · split
        · exact .inl (hsend _)
        · split
          next h => exact .inr ⟨h, rfl⟩
          next => exact .inl ⟨rfl, rfl⟩

/-- A position has started, and nothing of it is formed yet. -/
structure Begun (first width : Nat) (pre : Bool) (l : Nat) (lists : List (List Nat)) (y : Seq) : Prop where
  phase   : y.phase = .running
  first   : y.first = first
  width   : y.width = width
  prefill : y.prefill = pre
  drafts  : y.drafts = l
  lists   : y.lists = lists
  recs    : y.recs = []
  staged  : y.staged = []

theorem State.begun_maskFor {first width l layer expert : Nat} {pre : Bool} {lists : List (List Nat)} (h : Begun first width pre l lists (s.seq q)) :
    Begun first width pre l lists ((s.maskFor q layer expert).seq q) := by
  unfold State.maskFor
  dsimp only [State.modCart, State.seq, FMap.modify]
  rw [FMap.get_set_same]
  have hstay : ¬(s.seq q).phase = .ended := by simp [h.phase]
  refine ⟨(if_neg hstay).trans h.phase, h.first, h.width, h.prefill, h.drafts, h.lists, rfl, ?_⟩
  exact (congrArg (List.filter _) h.staged).trans List.filter_nil

theorem State.begun_route {first width l : Nat} {pre : Bool} {lists : List (List Nat)} (h : Begun first width pre l lists (s.seq q)) {d : Disp}
    (hd : d.seq = q) : Begun first width pre l lists ((s.route d).seq q) := by
  obtain hk | ⟨-, hm⟩ := s.route_cases d
  · rw [State.seq_congr hk.seqs]
    exact h
  · rw [hm, hd]
    exact State.begun_maskFor h

/-- The experts of a choice that the slot and the position leave free, in ascending number. -/
def State.unmasked (s : State) (q : Nat) (routes : List (Nat × Nat × List Word32)) : List (Nat × Nat × List Word32) :=
  sortBy (fun a b => decide (a.1 * 65536 + a.2.1 ≤ b.1 * 65536 + b.2.1))
    (routes.filter fun r => !s.expertMasked (s.seq q).slot r.1 r.2.1 && !(s.seq q).masks.contains (r.1, r.2.1) && !(s.seq q).chose.contains (r.1, r.2.1))

/-- A choice is noted in its sequence, then its experts are routed. -/
theorem State.routeAll_eq (s : State) (q : Nat) (routes : List (Nat × Nat × List Word32)) :
    ∃ v, v.slots = s.slots ∧ v.seq q = { s.seq q with chose := (s.seq q).chose ++ (s.unmasked q routes).map fun r => (r.1, r.2.1) } ∧
      s.routeAll q routes = (s.unmasked q routes).foldl (fun u r =>
        u.route ⟨q, (s.seq q).slot, (s.seq q).gen, r.1, r.2.1, 0, 0, vectorPayload r.2.2, [], u.now⟩) v :=
  ⟨{ s with seqs := FMap.modify Seq.init s.seqs q fun y => { y with chose := y.chose ++ (s.unmasked q routes).map fun r => (r.1, r.2.1) } }, rfl,
    FMap.get_set_same _ _ _, rfl⟩

theorem State.begun_routeAll {first width l : Nat} {pre : Bool} {lists : List (List Nat)} (h : Begun first width pre l lists (s.seq q))
    (routes : List (Nat × Nat × List Word32)) : Begun first width pre l lists ((s.routeAll q routes).seq q) := by
  obtain ⟨v, -, hseq, hr⟩ := s.routeAll_eq q routes
  rw [hr]
  refine List.foldlRecOn (motive := fun u : State => Begun first width pre l lists (u.seq q)) _ _ ?_ fun u hu r _ => State.begun_route hu rfl
  rw [hseq]
  exact { h with }

/-- With a generation that fences no expert, a choice stands as it was made. -/
theorem State.chose_routeAll (routes : List (Nat × Nat × List Word32))
    (hfence : ∀ g, ((s.slot (s.seq q).slot).gen (s.seq q).gen) = some g → g.man.fence = false) :
    ((s.routeAll q routes).seq q).chose = (s.seq q).chose ++ (s.unmasked q routes).map fun r => (r.1, r.2.1) := by
  obtain ⟨v, hslots, hseq, hr⟩ := s.routeAll_eq q routes
  have hv : SeqsKept v (s.routeAll q routes) := by
    rw [hr]
    refine List.foldlRecOn (motive := SeqsKept v) _ _ (.refl v) fun u hu r _ => ?_
    obtain hk | ⟨hany, -⟩ := u.route_cases _
    · exact hu.trans hk
    · obtain ⟨g, hg, hgf⟩ := (Option.any_eq_true _ _).1 hany
      have hs : u.slot (s.seq q).slot = s.slot (s.seq q).slot := congrArg (FMap.get ModelSlot.init · _) (hu.slots.trans hslots)
      rw [hfence g (hs ▸ hg)] at hgf
      cases hgf
  rw [State.seq_congr hv.seqs, hseq]

/-- A choice made again is routed once no part of the position is to be formed again. -/
theorem State.rechoose_eq (s : State) (q : Nat) (routes : List (Nat × Nat × List Word32)) :
    ∃ w : State, w.slots = s.slots ∧ w.seq q = { s.seq q with redoFrom := none } ∧ s.rechoose q routes = w.routeAll q routes :=
  ⟨{ s with seqs := FMap.modify Seq.init s.seqs q fun x => { x with redoFrom := none } }, rfl, FMap.get_set_same _ _ _, rfl⟩

/-! ### The start of a position (R284, R285) -/

theorem State.badPage_congr (h : t.pages = s.pages) (ids : List Nat) : t.badPage ids = s.badPage ids := by
  unfold State.badPage State.page
  rw [h]

theorem State.copied_congr (h : t.pages = s.pages) (hq : t.seqs = s.seqs) (q : Nat) : t.copied q = s.copied q := by
  unfold State.copied State.page
  rw [h, State.seq_congr hq]

/-- A sequence that starts a position, with what the model's start sets of it. -/
def Seq.begin (y : Seq) (first width : Nat) (pre : Bool) (l crierTo : Nat) : Seq :=
  { y with
    staged := [], merges := [], chose := [], masks := [], pairAt := [], fenced := false, narrow := false, inspected := false, phase := .running,
    first := first, width := width, prefill := pre, drafts := l, keep := width, promptFails := 0, recs := [], crierTo := crierTo }

/-- How far the crier of a sequence will have come after a position from `p` on. -/
def State.crierReach (s : State) (p width : Nat) (pre : Bool) (l : Nat) (y : Seq) : Nat :=
  if y.spec && s.slState y.crier == slReady then (if pre then p + width else if l = 0 then y.crierTo else p + l) else y.crierTo

theorem State.unmasked_begun (hmasks : (s.seq q).masks = []) (hchose : (s.seq q).chose = []) (routes : List (Nat × Nat × List Word32)) :
    s.unmasked q routes = sortBy (fun a b => decide (a.1 * 65536 + a.2.1 ≤ b.1 * 65536 + b.2.1))
      (routes.filter fun r => !s.expertMasked (s.seq q).slot r.1 r.2.1) := by
  simp only [State.unmasked, hmasks, hchose, List.contains_nil, Bool.not_false, Bool.and_true]

/-- A sequence begun in a state that keeps its binding, once its routers have chosen. -/
theorem State.begin_routes (h : BindingKept q s t) (routes : List (Nat × Nat × List Word32)) (first width : Nat) (pre : Bool) (l : Nat) (reach : Seq → Nat) :
    Begun first width pre l (t.seq q).lists (((t.modSeq q fun y => y.begin first width pre l (reach y)).rechoose q routes).seq q) ∧
      ((∀ g, ((s.slot (s.seq q).slot).gen (s.seq q).gen) = some g → g.man.fence = false) →
        (((t.modSeq q fun y => y.begin first width pre l (reach y)).rechoose q routes).seq q).chose =
          (sortBy (fun a b => decide (a.1 * 65536 + a.2.1 ≤ b.1 * 65536 + b.2.1))
            (routes.filter fun r => !s.expertMasked (s.seq q).slot r.1 r.2.1)).map fun r => (r.1, r.2.1)) := by
  obtain ⟨w, hslots, hseq, hr⟩ := (t.modSeq q fun y => y.begin first width pre l (reach y)).rechoose_eq q routes
  rw [State.seq_modSeq_same] at hseq
  have hw : w.slots = s.slots := hslots.trans ((State.setSeq_slots _ _ _).trans h.slots)
  have hslot : (w.seq q).slot = (s.seq q).slot := (congrArg Seq.slot hseq).trans h.slot
  have hgen : (w.seq q).gen = (s.seq q).gen := (congrArg Seq.gen hseq).trans h.gen
  rw [hr]
  constructor
  · refine State.begun_routeAll ?_ routes
    rw [hseq]
    exact ⟨rfl, rfl, rfl, rfl, rfl, rfl, rfl, rfl⟩
  · intro hfence
    rw [State.chose_routeAll routes, State.unmasked_begun, hslot]
    · rw [hseq]
      unfold State.expertMasked
      rw [hw]
      rfl
    · rw [hseq]
      rfl
    · rw [hseq]
      rfl
    · rw [hslot, hgen, State.slot, hw]
      exact hfence

theorem position_starts {toks : List Nat} {vocab save width l : Nat} {routes : List (Nat × Nat × List Word32)} {pre : Bool} {s1 s2 : State}
    (hlive : (s.seq q).live = true) (hin : (s.seq q).inStep = true) (hphase : (s.seq q).phase = .idle) (hwork : s.takesWork = true)
    (hredo : (s.seq q).redoFrom = none) (hplace : s.placeOpen (s.seq q) = true) (hturn : pre = true → s.chunkTurn (s.seq q) = true)
    (hawake : s.houseAsleep (s.seq q).wh = false) (hbad : s.badPage (s.copied q) = none) (hpre : decide ((s.seq q).pos < (s.seq q).promptLen) = pre)
    (hl : (if pre then 0 else s.fitDraft q (s.seq q).pos (s.specNow (s.seq q))) = l)
    (hwidth : (if pre then min (s.rd SRV_STAT.CUR_CHUNK) ((s.seq q).promptLen - (s.seq q).pos) else l + 1) = width)
    (htoks : pre = true → ∀ t ∈ toks, t < vocab)
    (hbind : ((if pre then s.send (.hostRead (s.seq q).func ((s.seq q).promptAddr + 4 * (s.seq q).pos)
        (4 * (if (s.seq q).job.isSome then min (width + 1) ((s.seq q).promptLen - (s.seq q).pos) else width))) else s).modSeq q fun y =>
      { y with save := save, promptFails := 0, tune := if y.job.isSome then { y.tune with toks := y.tune.toks.take y.pos ++ toks } else y.tune }).bindRound q = some s1)
    (hpages : (s1.copyOnWrite q (s.seq q).pos).bind (fun u => u.growTo q (s.seq q).pos width) = some s2) :
    ∃ t, exec (.positionStart q toks vocab save routes) s = .next t ∧ (t.seq q).phase = .running ∧ (t.seq q).first = (s.seq q).pos ∧
      (t.seq q).width = width ∧ (t.seq q).prefill = pre ∧ (t.seq q).drafts = l ∧ (t.seq q).lists = (s2.seq q).lists ∧ (t.seq q).recs = [] ∧ (t.seq q).staged = [] ∧
      ((∀ g, ((s.slot (s.seq q).slot).gen (s.seq q).gen) = some g → g.man.fence = false) →
        (t.seq q).chose = (sortBy (fun a b => decide (a.1 * 65536 + a.2.1 ≤ b.1 * 65536 + b.2.1))
          (routes.filter fun r => !s.expertMasked (s.seq q).slot r.1 r.2.1)).map fun r => (r.1, r.2.1)) := by
  rw [exec_positionStart]
  generalize hr : execPositionStart q toks vocab save routes s = r
  unfold execPositionStart at hr
  extract_lets x pre' chunk again l' width' s0 u1 at hr
  have hturn' : (pre' && !s.chunkTurn x) = false := by
    cases hp : pre'
    · rfl
    · simp [x, hturn (hpre.symm.trans hp)]
  have htoks' : (pre' && toks.any fun t => decide (vocab ≤ t)) = false := by
    cases hp : pre'
    · rfl
    · simpa using htoks (hpre.symm.trans hp)
  have hagain : again = false := congrArg Option.isSome hredo
  have hl' : l' = l := by
    unfold l'
    rw [hagain, if_neg Bool.false_ne_true]
    subst hpre
    exact hl
  have hwidth' : width' = width := by
    unfold width'
    rw [hagain, if_neg Bool.false_ne_true, hl']
    subst hpre
    exact hwidth
  have hs0 : SeqsKept s s0 ∧ s0.pages = s.pages := by
    unfold s0
    split
    · exact ⟨⟨State.send_slots _ _, State.send_seqs _ _⟩, State.send_pages _ _⟩
    · exact ⟨.refl s, rfl⟩
  have hbad' : s0.badPage (s0.copied q) = none := by
    rw [State.copied_congr hs0.2 hs0.1.seqs, State.badPage_congr hs0.2]
    exact hbad
  have hbind' : u1.bindRound q = some s1 := by
    unfold u1 s0
    rw [hwidth']
    subst hpre
    exact hbind
  have hkept : BindingKept q s s2 := by
    have h0 : BindingKept q s u1 := by
      refine ((BindingKept.refl q s).kept hs0.1).modSeq ?_ ?_ <;> exact fun _ => rfl
    obtain ⟨v, hv, hg⟩ := Option.bind_eq_some_iff.1 hpages
    exact ((h0.bindRound hbind').copyOnWrite hv).growTo hg
  rw [if_neg (by simp [x, hredo]), if_neg (by simp [x, hlive, hin, hphase, hwork, hplace, hturn']), if_neg (by simp [x, hawake]), if_neg (by simp [htoks']), hbad'] at hr
  dsimp only at hr
  rw [hbind', hwidth', hl', hagain] at hr
  dsimp only at hr
  rw [show pre' = pre from hpre, show x.pos = (s.seq q).pos from rfl, hpages] at hr
  subst hr
  obtain ⟨hb, hchose⟩ := State.begin_routes hkept routes (s.seq q).pos width pre l (s.crierReach (s.seq q).pos width pre l)
  exact ⟨_, rfl, hb.phase, hb.first, hb.width, hb.prefill, hb.drafts, hb.lists, hb.recs, hb.staged, hchose⟩

end Machine

/-- Settles O13, clause by clause: each command of the scheduler is followed through its branches, and what markers, sweeps, carts and till records leave alone comes from their footprints. -/
theorem schedulerCommandsComplete : Obligations.SchedulerCommandsComplete := fun _ =>
  ⟨fun _ => sequence_activates, step_starts, empty_step_advances, fun _ _ => step_ends, fun _ => storm_lowers, fun _ => storm_restores,
    fun _ _ _ _ _ _ _ _ _ _ => position_starts, fun _ _ _ _ => position_ends, fun _ _ _ _ _ => pass_verified, fun _ => spec_pause_ends,
    fun _ => position_commits, fun _ _ _ => ceil_written⟩

end Sys2Proof
end

section
/-! PROOF. What the operations of the stalls and of the correction path may change (O40, and the clauses of O4, O5, O7 and O10 that
say what stays): one rule for each operation, under every footprint that takes in what it names. -/

namespace Sys2Proof.Machine

set_option Elab.async false

variable {F : Footprint} {s₀ s : State}

/-- What stays from one state to a second, and from there to a third. -/
theorem Keeps.trans {u : State} (h : Keeps F s₀ s) (k : Keeps F s u) : Keeps F s₀ u :=
  ⟨k.wf ∘ h.wf, fun p hp => Part.same_trans (h.part p hp) (k.part p hp), fun r i hr hf => (k.reg r i hr hf).trans (h.reg r i hr hf)⟩

/-! ### The maps of the state -/

theorem Keeps.under_setGroup (h : Keeps F s₀ s) {gid : Nat} {v : Group} (hF : F.Covers [.groups] [] := by exact rfl) :
    Keeps F s₀ (s.setGroup gid v) := by
  unfold State.setGroup
  exact h.only [.groups] hF

theorem Keeps.under_modGroup (h : Keeps F s₀ s) {gid : Nat} {f : Group → Group} (hF : F.Covers [.groups] [] := by exact rfl) :
    Keeps F s₀ (s.modGroup gid f) := h.under_setGroup hF

theorem Keeps.under_modRow (h : Keeps F s₀ s) {r : Nat} {f : Row → Row} (hF : F.Covers [.rows] [] := by exact rfl) :
    Keeps F s₀ (s.modRow r f) := by
  unfold State.modRow State.setRow
  exact h.only [.rows] hF

theorem Keeps.under_setInst (h : Keeps F s₀ s) {row : Nat} {i : Inst} (hF : F.Covers [.rows] [] := by exact rfl) :
    Keeps F s₀ (s.setInst row i) := h.under_modRow hF

theorem Keeps.under_takeFree (h : Keeps F s₀ s) (hF : F.Covers [.free] [] := by exact rfl) : Keeps F s₀ s.takeFree.2 := by
  unfold State.takeFree
  exact h.only [.free] hF

/-! ### Flags -/

/-- A flag with its fault info, all in one register. -/
theorem Keeps.under_flagAt (h : Keeps F s₀ s) {f : RField} {i : Nat} {l : List (RField × Nat)} {r : Reg}
    (hF : F.Covers flagParts (r :: flagRegs)) (hf : f.reg = r) (hl : (l.map fun p => p.1.reg) = l.map fun _ => r) :
    Keeps F s₀ (s.flagAt f i l) := by
  have hr : F.Covers [] [r] := by
    refine hF.sub ?_
    simp
  refine h.flagAt (fun p hp => ?_) (hf ▸ hr) (hF.sub ?_)
  · exact List.map_inj_left.1 hl p hp ▸ hr
  · simp [flagParts, flagRegs]

theorem Keeps.under_corFlag (h : Keeps F s₀ s) {f : RField} {row stall group : Nat}
    (hF : F.Covers flagParts (TAL_COR_ERR :: flagRegs) := by exact rfl) (hf : f.reg = TAL_COR_ERR := by exact rfl) :
    Keeps F s₀ (s.corFlag f row stall group) := h.under_flagAt hF hf rfl

theorem Keeps.under_nqFlag (h : Keeps F s₀ s) {f : RField} {row stall group : Nat}
    (hF : F.Covers flagParts (TAL_NQ_ERR :: flagRegs) := by exact rfl) (hf : f.reg = TAL_NQ_ERR := by exact rfl) :
    Keeps F s₀ (s.nqFlag f row stall group) := h.under_flagAt hF hf rfl

/-- A flag of an accumulation raises the source of its row alone (R166, R438): nothing is sent. -/
theorem Keeps.under_accFlag (h : Keeps F s₀ s) {f : RField} {row stall : Nat}
    (hF : F.Covers [.pendAt] (TAL_ACC_ERR :: raiseRegs) := by exact rfl) (hf : f.reg = TAL_ACC_ERR := by exact rfl) :
    Keeps F s₀ (s.accFlag f row stall) := by
  have hr : F.Covers [] [TAL_ACC_ERR] := hF.sub
  have hb : f.reg.blk = .tal := hf ▸ rfl
  have h1 : Keeps F s₀ (s.wr TAL_ACC_ERR.STALL row stall) := h.wr hr
  unfold State.accFlag State.flagAt State.flag State.flagEvent
  simp only [hb]
  have h2 : Keeps F s₀ ((s.wr TAL_ACC_ERR.STALL row stall).wr f row 1) := h1.wr (hf ▸ hr)
  exact .ite h1 (.ite h2 (h2.raise hF.sub))

theorem Keeps.under_chkFlag (h : Keeps F s₀ s) {f : RField} {sid : Nat}
    (hF : F.Covers flagParts (CHK_ERR :: flagRegs) := by exact rfl) (hf : f.reg = CHK_ERR := by exact rfl) :
    Keeps F s₀ (s.chkFlag f sid) := h.under_flagAt hF hf rfl

theorem Keeps.under_calFlag (h : Keeps F s₀ s) {f : RField} {sid : Nat}
    (hF : F.Covers flagParts (CAL_ERR :: flagRegs) := by exact rfl) (hf : f.reg = CAL_ERR := by exact rfl) :
    Keeps F s₀ (s.calFlag f sid) := h.under_flagAt hF hf rfl

theorem Keeps.under_stkFlag (h : Keeps F s₀ s) {f : RField} {i : Nat}
    (hF : F.Covers flagParts (STK_ERR :: flagRegs) := by exact rfl) (hf : f.reg = STK_ERR := by exact rfl) :
    Keeps F s₀ (s.stkFlag f i) := h.under_flagAt hF hf rfl

theorem Keeps.under_memFlag (h : Keeps F s₀ s) {f : RField} {unit : Nat}
    (hF : F.Covers flagParts (MEM_ERR :: flagRegs) := by exact rfl) (hf : f.reg = MEM_ERR := by exact rfl) :
    Keeps F s₀ (s.memFlag f unit) := h.under_flagAt hF hf rfl

theorem Keeps.under_prtFlag (h : Keeps F s₀ s) {f : RField} {slot shard : Nat}
    (hF : F.Covers flagParts (PRT_ERR :: flagRegs) := by exact rfl) (hf : f.reg = PRT_ERR := by exact rfl) :
    Keeps F s₀ (s.prtFlag f slot shard) := h.under_flagAt hF hf rfl

/-- The registers of the fault log. -/
def flogRegs : List Reg := [WDN_FLOG_DATA, WDN_FLOG_HEAD]

theorem Keeps.under_faultLog (h : Keeps F s₀ s) {code unit quarter row stall : Nat} (hF : F.Covers [] flogRegs := by exact rfl) :
    Keeps F s₀ (s.faultLog code unit quarter row stall) := by
  have hd : F.Covers [] [WDN_FLOG_DATA] := hF.sub
  have hh : F.Covers [] [WDN_FLOG_HEAD] := hF.sub
  unfold State.faultLog
  exact (((((((h.wr hd).wr hd).wr hd).wr hd).wr hd).wr hd).wr hh).bumpSat hh

theorem Keeps.under_stallFault (h : Keeps F s₀ s) {sid : Nat} (hF : F.Covers [] (STL_STAT :: flogRegs) := by exact rfl) :
    Keeps F s₀ (s.stallFault sid) := by
  unfold State.stallFault
  exact .ite h ((h.setStState hF.sub).under_faultLog hF.sub)

/-! ### Strikes, queues and instances -/

theorem Keeps.under_refill (h : Keeps F s₀ s) {sid : Nat} (hF : F.Covers [.stalls] [] := by exact rfl) : Keeps F s₀ (s.refill sid) := by
  unfold State.refill
  exact h.modStall hF

theorem Keeps.under_pushDesc (h : Keeps F s₀ s) {sid : Nat} {d : Desc} (hF : F.Covers [.stalls] [] := by exact rfl) :
    Keeps F s₀ (s.pushDesc sid d) := by
  unfold State.pushDesc
  exact h.setStall hF

theorem Keeps.under_unshut (h : Keeps F s₀ s) {sid : Nat} (hF : F.Covers [.stalls, .rows] [] := by exact rfl) : Keeps F s₀ (s.unshut sid) := by
  unfold State.unshut
  exact .ite h ((h.under_modRow hF.sub).foldl fun _ _ h => h.under_pushDesc hF.sub)

theorem Keeps.under_dropStrike (h : Keeps F s₀ s) {sid : Nat} {x : Strike} (hF : F.Covers [.stalls] [] := by exact rfl) :
    Keeps F s₀ (s.dropStrike sid x) := h.modStall hF

theorem Keeps.under_setStrike (h : Keeps F s₀ s) {sid : Nat} {old new : Strike} (hF : F.Covers [.stalls] [] := by exact rfl) :
    Keeps F s₀ (s.setStrike sid old new) := h.modStall hF

theorem Keeps.under_takeWhole (h : Keeps F s₀ s) {sid : Nat} {x : Strike} (hF : F.Covers [.stalls] [] := by exact rfl) :
    Keeps F s₀ (s.takeWhole sid x) := h.modStall hF

theorem Keeps.under_giveUp (h : Keeps F s₀ s) {sid tag g : Nat} (hF : F.Covers [.stalls] [] := by exact rfl) :
    Keeps F s₀ (s.giveUp sid tag g) := h.modStall hF

theorem Keeps.under_freeEntries (h : Keeps F s₀ s) {row k : Nat} (hF : F.Covers [] [TAL_ACC_STAT] := by exact rfl) :
    Keeps F s₀ (s.freeEntries row k) := h.wr hF

theorem Keeps.under_closeInst (h : Keeps F s₀ s) {row red tag : Nat} (hF : F.Covers [.rows] [] := by exact rfl) :
    Keeps F s₀ (s.closeInst row red tag) := h.under_modRow hF

theorem Keeps.under_closeRow (h : Keeps F s₀ s) {row red tag : Nat} (hF : F.Covers [.rows] [TAL_ACC_STAT] := by exact rfl) :
    Keeps F s₀ (s.closeRow row red tag) := (h.under_closeInst hF.sub).under_freeEntries hF.sub

theorem Keeps.under_discardStrike (h : Keeps F s₀ s) {sid : Nat} {x : Strike} (hF : F.Covers [.stalls] [TAL_ACC_STAT] := by exact rfl) :
    Keeps F s₀ (s.discardStrike sid x) := ((h.under_dropStrike hF.sub).under_freeEntries hF.sub).under_giveUp hF.sub

theorem Keeps.under_dropWhole (h : Keeps F s₀ s) {sid : Nat} {d : Desc} (hF : F.Covers [.stalls] [TAL_ACC_STAT] := by exact rfl) :
    Keeps F s₀ (s.dropWhole sid d) := by
  unfold State.dropWhole
  split
  · exact (h.under_dropStrike hF.sub).under_freeEntries hF.sub
  · exact h

theorem Keeps.under_voidInst (h : Keeps F s₀ s) {red tag : Nat} (hF : F.Covers [.stalls] [] := by exact rfl) :
    Keeps F s₀ (s.voidInst red tag) := h.foldl fun _ _ h => .ite (h.modStall hF) h

/-- What taking a pass out may change. -/
def voidParts : List Part := [.stalls, .rows]

theorem Keeps.under_giveUpInst (h : Keeps F s₀ s) {red tag : Nat} (hF : F.Covers voidParts [TAL_ACC_STAT] := by exact rfl) :
    Keeps F s₀ (s.giveUpInst red tag) :=
  .under_voidInst (h.foldl fun _ _ h => .ite (h.under_closeRow hF.sub) h) hF.sub

theorem Keeps.under_dropPass (h : Keeps F s₀ s) {sid tag g : Nat} {f : Feed} (hF : F.Covers voidParts [TAL_ACC_STAT] := by exact rfl) :
    Keeps F s₀ (s.dropPass sid tag g f) :=
  .under_giveUp (((h.modStall hF.sub).under_giveUpInst hF).foldl fun _ _ h => h.under_discardStrike hF.sub) hF.sub

theorem Keeps.under_dropPasses (h : Keeps F s₀ s) {slot : Nat} (hF : F.Covers voidParts [TAL_ACC_STAT] := by exact rfl) :
    Keeps F s₀ (s.dropPasses slot) := h.foldl fun _ _ h => h.foldl fun _ _ h => h.under_dropPass hF

/-! ### Jobs and records -/

theorem Keeps.under_queueJob (h : Keeps F s₀ s) {cls : Nat} {kind : JobKind} {sid g tag red seq : Nat}
    (hF : F.Covers [.jobs, .nextJob] [] := by exact rfl) : Keeps F s₀ (s.queueJob cls kind sid g tag red seq) := by
  unfold State.queueJob
  exact h.only [.jobs, .nextJob] hF

/-- What a strike that finds its group shut may change. -/
def shutMayChange : List Part := [.rows, .jobs, .nextJob]

theorem Keeps.under_shutStrike (h : Keeps F s₀ s) {sid : Nat} {d : Desc} {red seq : Nat}
    (hF : F.Covers shutMayChange [CAL_SHUT_JOB_CNT] := by exact rfl) : Keeps F s₀ (s.shutStrike sid d red seq) := by
  unfold State.shutStrike
  exact .ite ((h.under_queueJob hF.sub).bump hF.sub) (h.under_modRow hF.sub)

/-- What a CPER record may change (R383). -/
def cperParts : List Part := [.outbox, .funcs, .pendAt, .cperLost]
/-- The registers that it may change. -/
def cperRegs : List Reg := [CHK_ERR, CHK_CPER_WIDX, CHK_CPER_DROP_CNT, EVC_SRC, EVC_ERR, HOST_FN_EVT]

theorem Keeps.under_cper (h : Keeps F s₀ s) {c : Cper} (hF : F.Covers cperParts cperRegs := by exact rfl) : Keeps F s₀ (s.cper c) := by
  have hd : F.Covers [] [CHK_CPER_DROP_CNT] := hF.sub
  have hw : F.Covers [] [CHK_CPER_WIDX] := hF.sub
  have hl : F.Covers [] [CHK_ERR] := hF.sub
  unfold State.cper
  refine .ite (.ite (((h.bump hd).flag hl hF.sub).only [.cperLost] hF.sub) ?_) h
  exact ((((h.send hF.sub).bump hw).send hF.sub).fnEvent hF.sub).only [.cperLost] hF.sub

/-- What the handing over of an instance may change. -/
def handParts : List Part := [.outbox, .funcs, .pendAt, .cperLost, .rows, .jobs, .nextJob]
/-- The registers that it may change. -/
def handRegs : List Reg := [TAL_ACC_STAT, CHK_ERR, CHK_CPER_WIDX, CHK_CPER_DROP_CNT, EVC_SRC, EVC_ERR, HOST_FN_EVT]

theorem Keeps.under_handInst (h : Keeps F s₀ s) {row sid : Nat} {i : Inst} (hF : F.Covers handParts handRegs := by exact rfl) :
    Keeps F s₀ (s.handInst row sid i) := by
  unfold State.handInst
  split
  · exact h
  · extract_lets +onlyGivenNames all s1 s2
    have h1 : Keeps F s₀ s1 := h.foldl fun _ _ h => (h.under_closeInst hF.sub).under_freeEntries hF.sub
    have h2 : Keeps F s₀ s2 := by
      unfold s2
      split
      · exact h1.under_setInst hF.sub
      · exact h1.under_setInst hF.sub
    exact (h2.under_queueJob hF.sub).under_cper hF.sub

theorem Keeps.under_residueEvent (h : Keeps F s₀ s) {sid : Nat} {x : Strike} {bad : Bool} (hF : F.Covers cperParts cperRegs := by exact rfl) :
    Keeps F s₀ (s.residueEvent sid x bad) := by
  unfold State.residueEvent
  exact .ite ((h.under_chkFlag hF.sub).under_cper hF) h

/-- What a strike whose values are taken or given up may change. -/
def workParts : List Part := .stalls :: handParts
/-- The registers that a strike whose check fails may change. -/
def failRegs : List Reg := CHK_FAIL_CNT :: CAL_SHUT_JOB_CNT :: handRegs

theorem Keeps.under_failStrike (h : Keeps F s₀ s) {sid : Nat} {old x : Strike} (hF : F.Covers workParts failRegs := by exact rfl) :
    Keeps F s₀ (s.failStrike sid old x) := by
  unfold State.failStrike
  split
  extract_lets +onlyGivenNames s0 attn out s1
  have h0 : Keeps F s₀ s0 := (h.bump hF.sub).under_chkFlag hF.sub
  have h1 : Keeps F s₀ s1 := .ite (h0.under_cper hF.sub) h0
  have h2 : Keeps F s₀ ((s1.setStrike sid old x).takeWhole sid x) := (h1.under_setStrike hF.sub).under_takeWhole hF.sub
  exact .ite (h1.under_discardStrike hF.sub) (.ite (.ite (h1.under_discardStrike hF.sub)
    (.ite (h2.under_shutStrike hF.sub) ((h2.under_dropWhole hF.sub).under_shutStrike hF.sub)))
    ((h1.under_setStrike hF.sub).under_queueJob hF.sub))

/-! ### Calibration and repairs -/

theorem Keeps.under_queueCal (h : Keeps F s₀ s) {sid : Nat} (hF : F.Covers [.cal] [CAL_STAT, CAL_STALL_STAT] := by exact rfl) :
    Keeps F s₀ (s.queueCal sid) := by
  have hq : F.Covers [] [CAL_STAT] := hF.sub
  have hr : F.Covers [] [CAL_STALL_STAT] := hF.sub
  unfold State.queueCal
  have h1 (c : CalState) : Keeps F s₀ { s.bump CAL_STAT.QUEUED with cal := c } := (h.bump hq).only [.cal] hF.sub
  exact .ite h (.ite ((h1 _).wr hr) (h1 _))

/-- What the repair log may change (R464). -/
def logParts : List Part := [.cal, .outbox, .funcs, .pendAt]
/-- The registers that it may change. -/
def logRegs : List Reg := [CAL_ERR, EVC_SRC, EVC_ERR, HOST_FN_EVT]

theorem Keeps.under_logRepair (h : Keeps F s₀ s) {sid : Nat} {r : Repair} (hF : F.Covers logParts logRegs := by exact rfl) :
    Keeps F s₀ (s.logRepair sid r) := by
  unfold State.logRepair
  exact .ite h (.ite (h.only [.cal] hF.sub) (h.under_calFlag hF.sub))

theorem Keeps.under_logSlices (h : Keeps F s₀ s) {sid map : Nat} (hF : F.Covers logParts logRegs := by exact rfl) :
    Keeps F s₀ (s.logSlices sid map) := by
  unfold State.logSlices
  refine h.foldl fun t _ h => ?_
  have h1 (c : CalState) : Keeps F s₀ { t with cal := c } := h.only [.cal] hF.sub
  exact .ite (h1 _) ((h1 _).under_logRepair hF)

/-! ### Accesses -/

/-- What an access to a unit that sleeps and wakes may change. -/
def wakingParts : List Part := [.halves, .outbox, .funcs, .warden, .sleep, .gatedAt, .wakeAt, .boot]
/-- The registers that it may change. -/
def wakingRegs : List Reg :=
  [HOST_FN_EVT, TEN_FAULT, TEN_FAULT_INFO, TEN_ACCESS_ERR_CNT, MEM_STAT, MEM_UNIT_STAT, EVC_CLK_STAT, WDN_WAKE_CNT, WH_STAT, STL_STAT]

theorem Keeps.under_stlAccess (h : Keeps F s₀ s) {who : Who} {sid off : Nat} {write : Bool} {f : State → State}
    (hf : ∀ t, Keeps F s₀ t → Keeps F s₀ (f t)) (hF : F.Covers wakingParts wakingRegs := by exact rfl) :
    Keeps F s₀ (s.stlAccess who sid off write f) := by
  have ha (n : Nat) : Keeps F s₀ (s.accessed who n) := h.accessed hF.sub
  unfold State.stlAccess
  exact .ite h (.ite ((ha _).accessError hF.sub) (.ite (ha _) (hf _ ((ha _).wakeStall hF.sub))))

theorem Keeps.under_talWrite (h : Keeps F s₀ s) {who : Who} {row off : Nat} {f : State → State}
    (hf : ∀ t, Keeps F s₀ t → Keeps F s₀ (f t)) (hF : F.Covers wakingParts wakingRegs := by exact rfl) :
    Keeps F s₀ (s.talWrite who row off f) := by
  have ha (n : Nat) : Keeps F s₀ (s.accessed who n) := h.accessed hF.sub
  unfold State.talWrite
  exact .ite (.ite (.ite (ha _) (hf _ ((ha _).wakeRow hF.sub))) ((ha _).accessError hF.sub)) h

theorem Keeps.under_writeReg (h : Keeps F s₀ s) {r : Reg} {i v : Nat} (hF : F.Covers [] [r] := by exact rfl) :
    Keeps F s₀ (s.writeReg r i v) := by
  unfold State.writeReg
  split
  · exact h.setReg hF
  · exact h

end Sys2Proof.Machine
end

section
/-! PROOF. What a strike edge may change (R44 to R61), under every footprint that takes it in. -/

namespace Sys2Proof.Machine

set_option Elab.async false

variable {F : Footprint} {s₀ s : State}

/-! ### Edges that pass -/

/-- What an edge that passes may change beside the strike that issues. -/
def edgeParts : List Part := [.outbox, .stalls, .rows, .scrub, .funcs, .pendAt, .cal]
/-- The registers that it may change. -/
def edgeRegs : List Reg :=
  [HOST_FN_EVT, PRT_FRESH_WAIT_CNT, EVC_ERR, EVC_SRC, CAL_STALL_STAT, WDN_PAUSE_CNT, WDN_FLOG_DATA, WDN_FLOG_HEAD, TAL_OUT_WAIT_CNT,
    TAL_NQ_STORE_WAIT_CNT, TAL_ACC_REORDER_WAIT_CNT, STL_STAT, STL_ERR]

theorem Keeps.under_drainRel (h : Keeps F s₀ s) {sid : Nat} {who : Requester} (hF : F.Covers [.stalls] [STL_STAT] := by exact rfl) :
    Keeps F s₀ (s.drainRel sid who) := by
  have hs (t : State) (h : Keeps F s₀ t) (v : Stall) : Keeps F s₀ (t.setStall sid v) := h.setStall hF.sub
  unfold State.drainRel
  exact .ite h (.ite (.ite (.under_refill (.ite ((hs _ h _).setStState hF.sub) (hs _ h _)) hF.sub) (hs _ h _)) (hs _ h _))

theorem Keeps.under_calBlockOff (h : Keeps F s₀ s) {sid : Nat} (hF : F.Covers [.stalls] [STL_STAT] := by exact rfl) :
    Keeps F s₀ (s.calBlockOff sid) := ((h.modStall hF.sub).under_drainRel hF).under_refill hF.sub

section
variable (hF : F.Covers edgeParts edgeRegs := by exact rfl)
include hF

theorem Keeps.under_calSlot (h : Keeps F s₀ s) {sid e : Nat} : Keeps F s₀ (s.calSlot sid e) := by
  have hr : F.Covers [] [CAL_STALL_STAT] := hF.sub
  have h1 (c : CalState) : Keeps F s₀ { s with cal := c } := h.only [.cal] hF.sub
  unfold State.calSlot
  exact .ite (.ite (((h1 _).wr hr).under_calBlockOff hF.sub) (h1 _)) h

theorem Keeps.under_scrubSlot (h : Keeps F s₀ s) {sid e : Nat} : Keeps F s₀ (s.scrubSlot sid e) := by
  unfold State.scrubSlot
  split
  · exact .ite (h.only [.scrub] hF.sub) h
  · exact h

theorem Keeps.under_closeEdge (h : Keeps F s₀ s) {sid e : Nat} : Keeps F s₀ (s.closeEdge sid e) := by
  unfold State.closeEdge
  extract_lets +onlyGivenNames s' st row s0
  have h' : Keeps F s₀ s' := (h.under_calSlot hF).under_scrubSlot hF
  have h0 : Keeps F s₀ s0 := .ite (h'.bump hF.sub) h'
  split
  · exact h0
  · extract_lets s1 idle s2
    have h1 : Keeps F s₀ s1 := .ite (h0.bump hF.sub) h0
    have h2 : Keeps F s₀ s2 := .ite (h1.bump hF.sub) h1
    exact .ite (h2.bump hF.sub) h2

theorem Keeps.under_closeEdges (h : Keeps F s₀ s) {row e : Nat} : Keeps F s₀ (s.closeEdges row e) :=
  h.foldl fun _ _ h => h.under_closeEdge hF

theorem Keeps.under_applyMap (h : Keeps F s₀ s) {sid k : Nat} : Keeps F s₀ (s.applyMap sid k) := by
  unfold State.applyMap
  extract_lets +onlyGivenNames m
  split
  · exact h
  · extract_lets lines s1
    have h1 : Keeps F s₀ s1 := .ite h (h.modStall hF.sub)
    exact .ite ((h1.flag hF.sub hF.sub).under_stallFault hF.sub) h1

theorem Keeps.under_passEdges (h : Keeps F s₀ s) {row k : Nat} : Keeps F s₀ (s.passEdges row k) :=
  (h.under_modRow hF.sub).bump hF.sub

theorem Keeps.under_edgesPass (h : Keeps F s₀ s) {row k : Nat} : Keeps F s₀ (s.edgesPass row k) := by
  unfold State.edgesPass
  dsimp only
  split
  · exact h
  · exact .under_passEdges hF (.foldl ((h.under_closeEdges hF).foldl fun _ _ h => h.under_applyMap hF) fun _ _ h => h.under_closeEdges hF)

end

/-! ### Strikes that issue -/

/-- What the refusal of a descriptor may change. -/
def refuseParts : List Part := [.outbox, .stalls, .funcs, .pendAt]
/-- The registers that it may change. -/
def refuseRegs : List Reg := [HOST_FN_EVT, EVC_ERR, EVC_SRC, STL_ERR, STL_REFUSED_CNT]

theorem Keeps.under_refuse (h : Keeps F s₀ s) {sid i : Nat} {d : Desc} (hF : F.Covers refuseParts refuseRegs := by exact rfl) :
    Keeps F s₀ (s.refuse sid i d) :=
  (((h.modStall hF.sub).bump hF.sub).flag hF.sub hF.sub).under_refill hF.sub

theorem Keeps.under_refuseAll (h : Keeps F s₀ s) {sid n : Nat} (hF : F.Covers refuseParts refuseRegs := by exact rfl) :
    Keeps F s₀ (s.refuseAll sid n) := by
  induction n generalizing s with
  | zero => exact h
  | succ n ih =>
    unfold State.refuseAll
    split
    · exact ih (h.under_refuse hF)
    · exact h

/-- What a step of trims may change. -/
def trimParts : List Part := [.outbox, .stalls, .funcs, .pendAt]
/-- The registers that it may change. -/
def trimRegs : List Reg := [HOST_FN_EVT, STK_ERR, EVC_ERR, EVC_SRC, CAL_STALL_STAT]

theorem Keeps.under_touchupDue (h : Keeps F s₀ s) {i : Nat} (hF : F.Covers flagParts (STK_ERR :: flagRegs) := by exact rfl) :
    Keeps F s₀ (s.touchupDue i) := by
  have h1 : Keeps F s₀ (s.stkFlag STK_ERR.TOUCHUP_DUE i) := h.under_stkFlag hF
  unfold State.touchupDue
  exact .ite (h1.raise hF.sub) h1

theorem Keeps.under_trimStep (h : Keeps F s₀ s) {sid g : Nat} (hF : F.Covers trimParts trimRegs := by exact rfl) :
    Keeps F s₀ (s.trimStep sid g) := by
  unfold State.trimStep
  extract_lets st
  split
  · exact h
  · extract_lets st1 s0 s1
    have h0 : Keeps F s₀ s0 := (h.setStall hF.sub).wr hF.sub
    have h1 : Keeps F s₀ s1 := .ite (h0.under_touchupDue hF.sub) h0
    exact .ite (h1.wr hF.sub) h1

theorem Keeps.under_countEdges (h : Keeps F s₀ s) {sid g k : Nat} (hF : F.Covers [.groups, .stalls] [] := by exact rfl) :
    Keeps F s₀ (s.countEdges sid g k) := by
  unfold State.countEdges
  exact (h.under_modGroup hF.sub).modStall hF.sub

theorem Keeps.under_reloadSram (h : Keeps F s₀ s) {sid : Nat} (hF : F.Covers [.stalls] [] := by exact rfl) :
    Keeps F s₀ (s.reloadSram sid) := by
  refine (h.modStall hF).foldl fun _ _ h => ?_
  split
  · exact h.modStall hF
  · exact h

/-- What a strike that issues may change. -/
def issueParts : List Part := [.outbox, .stalls, .groups, .rows, .funcs, .pendAt]
/-- The registers that it may change. -/
def issueRegs : List Reg :=
  [HOST_FN_EVT, STK_ERR, EVC_ERR, EVC_SRC, CAL_STALL_STAT, TAL_ACC_STAT, STL_STAT, STL_STRIKES, STL_FRESH_STRIKES, STL_WIDE_PAIRS, STL_TRANS_STRIKES]

theorem Keeps.under_issue (h : Keeps F s₀ s) {sid i : Nat} {d : Desc} (hF : F.Covers issueParts issueRegs := by exact rfl) :
    Keeps F s₀ (s.issue sid i d) := by
  unfold State.issue
  extract_lets s' s'' s''' row e k s2 s3 hold s4 s5 x xs s6 s7 s7' s8
  have h' : Keeps F s₀ s' := .ite (h.under_trimStep hF.sub) h
  have h'' : Keeps F s₀ s'' := .ite (h'.under_trimStep hF.sub) h'
  have h''' : Keeps F s₀ s''' := .ite (h''.under_reloadSram hF.sub) h''
  have h3 : Keeps F s₀ s3 := (((h'''.bump hF.sub).bump hF.sub).bump hF.sub).bump hF.sub
  have h4 : Keeps F s₀ s4 := h3.wr hF.sub
  have h6 : Keeps F s₀ s6 := (Keeps.ite (h4.wr hF.sub) h4).wr hF.sub
  have h7 : Keeps F s₀ s7' := (h6.modStall hF.sub).under_modRow hF.sub
  have h8 : Keeps F s₀ s8 := .ite (h7.under_countEdges hF.sub) h7
  exact .under_refill (.ite (h8.modStall hF.sub) h8) hF.sub

theorem Keeps.under_issueProbe (h : Keeps F s₀ s) {sid g : Nat} {idle : Bool}
    (hF : F.Covers [.stalls, .groups] [STL_STRIKES, STL_STAT] := by exact rfl) : Keeps F s₀ (s.issueProbe sid g idle) := by
  have hn : F.Covers [] [STL_STRIKES] := hF.sub
  have hs : F.Covers [] [STL_STAT] := hF.sub
  unfold State.issueProbe
  exact ((((h.bump hn).wr hs).wr hs).modStall hF.sub).under_modGroup hF.sub

/-- What a strike edge may change. -/
def strikeParts : List Part := .groups :: edgeParts
/-- The registers that it may change. -/
def strikeRegs : List Reg :=
  [STK_ERR, TAL_ACC_STAT, STL_STRIKES, STL_FRESH_STRIKES, STL_WIDE_PAIRS, STL_TRANS_STRIKES, STL_REFUSED_CNT] ++ edgeRegs

theorem Keeps.under_strikeEdge (h : Keeps F s₀ s) {sid : Nat} {kind : Desc → Bool} (hF : F.Covers strikeParts strikeRegs := by exact rfl) :
    Keeps F s₀ (s.strikeEdge sid kind) := by
  have hu : Keeps F s₀ (s.unshut sid) := h.under_unshut hF.sub
  have hr : Keeps F s₀ ((s.unshut sid).refuseAll sid 17) := hu.under_refuseAll hF.sub
  unfold State.strikeEdge
  dsimp only
  split
  · split
    · exact .ite (hr.under_issue hF.sub) hr
    · exact hr
  · exact .ite hr hu

end Sys2Proof.Machine
end

section
/-! PROOF. What the correction path may change (R89 to R123), under every footprint that takes it in. -/

namespace Sys2Proof.Machine

set_option Elab.async false

variable {F : Footprint} {s₀ s : State}

/-! ### Descriptors that arrive -/

theorem Keeps.under_shutParts (h : Keeps F s₀ s) {sid : Nat} {d : Desc} (hF : F.Covers shutMayChange [CAL_SHUT_JOB_CNT] := by exact rfl) :
    Keeps F s₀ (s.shutParts sid d).1 := by
  unfold State.shutParts
  extract_lets st red shut seq s1 s2 d2
  have h1 : Keeps F s₀ s1 := .ite (h.under_shutStrike hF) h
  have h2 : Keeps F s₀ s2 := .ite (h1.under_shutStrike hF) h1
  exact h2

theorem Keeps.under_arrive (h : Keeps F s₀ s) {sid : Nat} {d : Desc}
    (hF : F.Covers (.stalls :: shutMayChange) [CAL_SHUT_JOB_CNT] := by exact rfl) : Keeps F s₀ (s.arrive sid d) := by
  have hs : Keeps F s₀ (s.shutParts sid d).1 := h.under_shutParts hF.sub
  unfold State.arrive
  split
  next s1 d e => exact (hs.of_eq (congrArg Prod.fst e)).under_pushDesc hF.sub
  next s1 e => exact hs.of_eq (congrArg Prod.fst e)

/-! ### Codes -/

/-- What the references of a strike may change. -/
def refParts : List Part := [.outbox, .funcs, .pendAt, .groups, .cal]
/-- The registers that they may change. -/
def refRegs : List Reg := [TAL_COR_ERR, TAL_DRIFT_VAL, TAL_REF_CLIP_CNT, CAL_STAT, CAL_STALL_STAT, EVC_SRC, EVC_ERR, HOST_FN_EVT]

theorem Keeps.under_refZ (h : Keeps F s₀ s) {sid g code : Nat} (hF : F.Covers refParts refRegs := by exact rfl) :
    Keeps F s₀ (s.refZ sid g code) := by
  have hg (t : State) (h : Keeps F s₀ t) (v : Group) : Keeps F s₀ (t.setGroup (groupId sid g) v) := h.under_setGroup hF.sub
  unfold State.refZ
  exact .ite (((hg _ h _).under_corFlag hF.sub).under_queueCal hF.sub) (hg _ h _)

theorem Keeps.under_showDrift (h : Keeps F s₀ s) {gid : Nat} (hF : F.Covers [] [TAL_DRIFT_VAL] := by exact rfl) :
    Keeps F s₀ (s.showDrift gid) := (h.wr hF).wr hF

theorem Keeps.under_driftUpdate (h : Keeps F s₀ s) {sid g r lo hi : Nat} {S : Dy} (hF : F.Covers refParts refRegs := by exact rfl) :
    Keeps F s₀ (s.driftUpdate sid g r lo hi S) := by
  have hq : F.Covers [] [TAL_DRIFT_VAL] := hF.sub
  have hd (v : Group) : Keeps F s₀ (((s.setGroup (groupId sid g) v).showDrift (groupId sid g)).bumpSat TAL_DRIFT_VAL.QUAL (groupId sid g)) :=
    ((h.under_setGroup hF.sub).under_showDrift hq).bumpSat hq
  unfold State.driftUpdate
  exact .ite (.ite ((((hd _).under_modGroup hF.sub).under_corFlag hF.sub).under_queueCal hF.sub) (hd _)) h

theorem Keeps.under_references (h : Keeps F s₀ s) {sid g r : Nat} {refs : List Nat} {S : Dy} (hF : F.Covers refParts refRegs := by exact rfl) :
    Keeps F s₀ (s.references sid g r refs S) := ((h.bump hF.sub).under_refZ hF).under_driftUpdate hF

theorem Keeps.under_showRefs (h : Keeps F s₀ s) {sid g no : Nat} {refs : List Nat} (hF : F.Covers [] [STL_REF_CODES] := by exact rfl) :
    Keeps F s₀ (s.showRefs sid g no refs) := (((((h.wr hF).wr hF).wr hF).wr hF).wr hF).wr hF

/-- What the codes of a strike may change (R91). -/
def codesParts : List Part := .groups :: .cal :: workParts
/-- The registers that they may change, apart from those of a probe and the clips counted. -/
def codesRegs : List Reg :=
  [CHK_STRIKE_CNT, CHK_CSUM_CORR_CNT, TAL_NQ_ERR, TAL_NQ_CLIP_FAIL_CNT, STL_REF_CODES,
    TAL_COR_ERR, TAL_DRIFT_VAL, TAL_REF_CLIP_CNT, CAL_STAT, CAL_STALL_STAT] ++ failRegs

section
variable (hF : F.Covers codesParts codesRegs := by exact rfl)
include hF

theorem Keeps.under_handStrike (h : Keeps F s₀ s) {sid : Nat} {x : Strike} : Keeps F s₀ (s.handStrike sid x) := by
  have h1 {cls : Nat} {kind : JobKind} {sd g tag red seq : Nat} {c : Cper} :
      Keeps F s₀ (((s.takeWhole sid x).queueJob cls kind sd g tag red seq).cper c) :=
    ((h.under_takeWhole hF.sub).under_queueJob hF.sub).under_cper hF.sub
  have hb : F.Covers [] [TAL_NQ_CLIP_FAIL_CNT] := hF.sub
  unfold State.handStrike
  exact .ite h1 ((h1.bump hb).under_nqFlag hF.sub)

theorem Keeps.under_clipStrike (h : Keeps F s₀ s) {sid : Nat} {x : Strike} : Keeps F s₀ (s.clipStrike sid x) := by
  have hd : Keeps F s₀ (s.discardStrike sid x) := h.under_discardStrike hF.sub
  have hb : F.Covers [] [TAL_NQ_CLIP_FAIL_CNT] := hF.sub
  unfold State.clipStrike
  split
  · exact hd
  · split
    · exact .ite ((hd.bump hb).under_nqFlag hF.sub) (h.under_handStrike hF)
    · exact h.under_setStrike hF.sub

theorem Keeps.under_laneEvents (h : Keeps F s₀ s) {sid : Nat} {x : Strike} {c : Codes} : Keeps F s₀ (s.laneEvents sid x c) := by
  unfold State.laneEvents
  extract_lets s1 s2
  have h1 : Keeps F s₀ s1 := h.bump hF.sub
  have h2 : Keeps F s₀ s2 := .ite ((h1.under_chkFlag hF.sub).under_cper hF.sub) h1
  exact .ite h2 ((h2.under_corFlag hF.sub).modStall hF.sub)

theorem Keeps.under_stockCodes (h : Keeps F s₀ s) {sid : Nat} {x : Strike} {c : Codes} : Keeps F s₀ (s.stockCodes sid x c) := by
  have hb : F.Covers [] [CHK_STRIKE_CNT] := hF.sub
  unfold State.stockCodes
  extract_lets +onlyGivenNames d row xs1 pat1 s1 xs2 pat2 s2 s3 s4
  have h1 : Keeps F s₀ s1 := .ite h (h.under_references hF.sub)
  have h2 : Keeps F s₀ s2 := .ite (h1.under_references hF.sub) h1
  have h3 : Keeps F s₀ s3 := .ite h2 (h2.under_showRefs hF.sub)
  have h4 : Keeps F s₀ s4 := .under_laneEvents hF (.ite (h3.under_corFlag hF.sub) h3)
  exact .ite (h4.under_clipStrike hF) (.ite (((h4.bump hb).under_residueEvent hF.sub).under_failStrike hF.sub)
    (((h4.bump hb).under_residueEvent hF.sub).under_setStrike hF.sub))

theorem Keeps.under_freshCodes (h : Keeps F s₀ s) {sid : Nat} {x : Strike} {c : Codes} : Keeps F s₀ (s.freshCodes sid x c) := by
  have hb : F.Covers [] [CHK_STRIKE_CNT] := hF.sub
  unfold State.freshCodes
  exact .ite (h.under_clipStrike hF) (.ite (((h.bump hb).under_residueEvent hF.sub).under_failStrike hF.sub)
    (((h.bump hb).under_residueEvent hF.sub).under_setStrike hF.sub))

end

theorem Keeps.under_withdraw (h : Keeps F s₀ s) {sid g : Nat} (hF : F.Covers refParts refRegs := by exact rfl) :
    Keeps F s₀ (s.withdraw sid g) := (h.under_modGroup hF.sub).under_queueCal hF.sub

theorem Keeps.under_laneOut (h : Keeps F s₀ s) {sid : Nat} (hF : F.Covers [.stalls] [CHK_STALL_STAT] := by exact rfl) :
    Keeps F s₀ (s.laneOut sid) := by
  unfold State.laneOut
  exact .ite (h.modStall hF.sub) ((h.modStall hF.sub).wr hF.sub)

theorem Keeps.under_laneProbe (h : Keeps F s₀ s) {sid : Nat} {passed canary : Bool} (hF : F.Covers [.stalls] [CHK_STALL_STAT] := by exact rfl) :
    Keeps F s₀ (s.laneProbe sid passed canary) := by
  have hs (v : Stall) : Keeps F s₀ (s.setStall sid v) := h.setStall hF.sub
  unfold State.laneProbe
  exact .ite h (.ite (hs _) (.ite ((hs _).wr hF.sub) (hs _)))

/-- The registers that the codes of a probe may change, those of other codes beside them, apart from the count of probes. -/
def probeRegs : List Reg := CHK_PROBE_FAIL_CNT :: CHK_STALL_STAT :: codesRegs

/-- The codes of a probe as it counts them, and the state that they leave beside the count. -/
theorem Keeps.under_probeCodes (h : Keeps F s₀ s) {sid : Nat} {x : Strike} {c : Codes}
    (hF : F.Covers codesParts (CHK_PROBE_CNT :: probeRegs) := by exact rfl) : Keeps F s₀ (s.probeCodes sid x c) := by
  unfold State.probeCodes
  extract_lets d gid S L xs pat s0 s1 sc tol es failed s2 k T y z lane evaluated passed s3 _ s4
  have h0 : Keeps F s₀ s0 := .ite (h.under_corFlag hF.sub) h
  have h1 : Keeps F s₀ s1 := (((h0.under_references hF.sub).under_showRefs hF.sub).bump hF.sub).bump hF.sub
  have h2 : Keeps F s₀ s2 := .ite ((((h1.bump hF.sub).under_chkFlag hF.sub).under_withdraw hF.sub).under_cper hF.sub) h1
  have h3 : Keeps F s₀ s3 := .ite h2 (h2.modStall hF.sub)
  have h4 : Keeps F s₀ s4 := .ite (((h3.under_laneOut hF.sub).under_chkFlag hF.sub).under_cper hF.sub) h3
  exact .under_dropStrike (.ite (h4.under_laneProbe hF.sub) h4) hF.sub

/-! ### Release -/

/-- The registers that the statistics and flags of an accumulation may change (R166, R168). -/
def accRegs : List Reg :=
  [TAL_ACC_ERR, TAL_ACC_RUN_CNT, TAL_ACC_OVERSIZE_CNT, TAL_ACC_INF_CNT, TAL_ACC_NAN_CNT, EVC_SRC, EVC_ERR]

theorem Keeps.under_countAcc (h : Keeps F s₀ s) {row stall : Nat} {n : AccCnt} (hF : F.Covers [.pendAt] accRegs := by exact rfl) :
    Keeps F s₀ (s.countAcc row stall n) := by
  unfold State.countAcc
  extract_lets s1 s2 s3
  have h1 : Keeps F s₀ s1 := (h.bump hF.sub).bump hF.sub
  have h2 : Keeps F s₀ s2 := (h1.bump hF.sub).bump hF.sub
  have h3 : Keeps F s₀ s3 := .ite h2 (h2.under_accFlag hF.sub)
  exact .ite h3 (h3.under_accFlag hF.sub)

/-- The registers that an accumulation may change. -/
def takeRegs : List Reg := [TAL_ACC_ERR, TAL_ACC_RUN_CNT, TAL_ACC_OVERSIZE_CNT, TAL_ACC_INF_CNT, TAL_ACC_NAN_CNT] ++ handRegs

theorem Keeps.under_release (h : Keeps F s₀ s) {row sid : Nat} {i : Inst} {r : RedRec} {w : Release}
    (hF : F.Covers handParts takeRegs := by exact rfl) : Keeps F s₀ (s.release row sid i r w) := by
  unfold State.release
  exact .ite ((h.under_setInst hF.sub).under_freeEntries hF.sub)
    (.ite (((h.under_accFlag hF.sub).under_freeEntries hF.sub).under_handInst hF.sub)
      (((h.under_setInst hF.sub).under_countAcc hF.sub).under_freeEntries hF.sub))

theorem Keeps.under_deliver (h : Keeps F s₀ s) {sid : Nat} {n : Narrow} {f : Feed} {parts : List PVec} {entry : Bool}
    (hF : F.Covers workParts takeRegs := by exact rfl) : Keeps F s₀ (s.deliver sid n f parts entry) := by
  unfold State.deliver
  extract_lets own row s1
  have hf (r k : Nat) : Keeps F s₀ (s.freeEntries r k) := h.under_freeEntries hF.sub
  have ha (r p k : Nat) (u : Nat) : Keeps F s₀ ((s.accFlag TAL_ACC_ERR.PLAN r p).freeEntries u k) :=
    (h.under_accFlag hF.sub).under_freeEntries hF.sub
  have h1 : Keeps F s₀ s1 := by
    unfold s1
    split
    · exact hf _ _
    · split
      · exact hf _ _
      · split
        · exact .ite (h.under_release hF.sub) ((hf _ _).under_release hF.sub)
        · exact (ha _ _ _ _).under_handInst hF.sub
        · exact ha _ _ _ _
  exact h1.modStall hF.sub

theorem Keeps.under_keepAttn (h : Keeps F s₀ s) {sid : Nat} {n : Narrow} {x : Strike} (hF : F.Covers voidParts [TAL_ACC_STAT] := by exact rfl) :
    Keeps F s₀ (s.keepAttn sid n x) := by
  unfold State.keepAttn State.putAttn
  exact (((h.under_dropStrike hF.sub).under_freeEntries hF.sub).under_modRow hF.sub).modStall hF.sub

/-- The registers that a measured range may change (R128). -/
def rangeRegs : List Reg := [TAL_TILE_STAT, TAL_NQ_RANGE_CHG_CNT, TAL_NQ_ERR, EVC_SRC, EVC_ERR, HOST_FN_EVT]

theorem Keeps.under_rangeStep (h : Keeps F s₀ s) {sid : Nat} {d : Desc} {xs : List Dy}
    (hF : F.Covers (.groups :: flagParts) rangeRegs := by exact rfl) : Keeps F s₀ (s.rangeStep sid d xs) := by
  unfold State.rangeStep
  extract_lets +onlyGivenNames row gid
  split
  · extract_lets sh x m r want r' s1 s2 s3
    have h1 : Keeps F s₀ s1 := h.under_setGroup hF.sub
    have h2 : Keeps F s₀ s2 := .ite h1 ((h1.wr hF.sub).wr hF.sub)
    have h3 : Keeps F s₀ s3 := .ite h2 (h2.bump hF.sub)
    exact .ite (h3.under_nqFlag hF.sub) h3
  · exact h

theorem Keeps.under_rangeOf (h : Keeps F s₀ s) {sid : Nat} {x : Strike}
    (hF : F.Covers (.groups :: flagParts) rangeRegs := by exact rfl) : Keeps F s₀ (s.rangeOf sid x) := by
  unfold State.rangeOf
  exact .ite h (.ite ((h.under_rangeStep hF).under_rangeStep hF) (h.under_rangeStep hF))

/-- What the release of strikes may change. -/
def releaseParts : List Part := .groups :: workParts
/-- The registers that it may change. -/
def releaseRegs : List Reg := [TAL_TILE_STAT, TAL_NQ_RANGE_CHG_CNT, TAL_NQ_ERR] ++ takeRegs

theorem Keeps.under_releaseStrikes (h : Keeps F s₀ s) {sid : Nat} {n : Narrow} {f : Feed} {xs : List Strike} {entry : Bool}
    (hF : F.Covers releaseParts releaseRegs := by exact rfl) : Keeps F s₀ (s.releaseStrikes sid n f xs entry) := by
  unfold State.releaseStrikes
  exact .foldl (.under_deliver (h.foldl fun _ _ h => h.under_rangeOf hF.sub) hF.sub) fun _ _ h =>
    .ite (h.under_setStrike hF.sub) (h.under_dropStrike hF.sub)

/-! ### Clipped strikes, trims and passes -/

theorem Keeps.under_restrike (h : Keeps F s₀ s) {sid : Nat} {x : Strike} {ds : List Desc} (hF : F.Covers [.stalls] [] := by exact rfl) :
    Keeps F s₀ (s.restrike sid x ds) := by
  unfold State.restrike
  extract_lets st b part s1
  have h1 : Keeps F s₀ s1 := by
    unfold s1
    split
    · exact h.setStall hF
    · exact h
  exact (h1.under_setStrike hF).foldl fun _ _ h => h.under_pushDesc hF

theorem Keeps.under_passResidue (h : Keeps F s₀ s) {sid : Nat} {p : Pass} {lane : List (Nat × Word32)}
    (hF : F.Covers workParts failRegs := by exact rfl) : Keeps F s₀ (s.passResidue sid p lane) := by
  unfold State.passResidue
  split
  · exact h
  · exact .ite h ((h.modStall hF.sub).foldl fun _ _ h => (h.under_residueEvent hF.sub).under_failStrike hF.sub)

end Sys2Proof.Machine
end

section
/-! PROOF. What the end of a sequence and a shard that fails may change (R215 to R217, R301), under every footprint that takes it in. -/

namespace Sys2Proof.Machine

set_option Elab.async false

variable {F : Footprint} {s₀ s : State}

/-! ### Memory that is read (R392, R396) -/

theorem Keeps.under_touchGrans (h : Keeps F s₀ s) {gs : List Nat} (hF : F.Covers [.mem] [MEM_STAT, MEM_UNIT_STAT] := by exact rfl) :
    Keeps F s₀ (s.touchGrans gs) := by
  refine h.foldl fun t c h => ?_
  unfold State.touchChan
  exact (Keeps.ite (h.setMemUnit hF.sub) h).only [.mem] hF.sub

theorem Keeps.under_dueGran (h : Keeps F s₀ s) {g : Nat} (hF : F.Covers [.mem] [] := by exact rfl) : Keeps F s₀ (s.dueGran g) := by
  unfold State.dueGran
  exact h.only [.mem] hF

theorem Keeps.under_memCE (h : Keeps F s₀ s) {gran : Nat} (hF : F.Covers [.mem] [MEM_CE_CNT] := by exact rfl) : Keeps F s₀ (s.memCE gran) := by
  have hb : F.Covers [] [MEM_CE_CNT] := hF.sub
  have h1 (m : MemState) : Keeps F s₀ (({ s with mem := m } : State).bump MEM_CE_CNT.V) := (h.only [.mem] hF.sub).bump hb
  unfold State.memCE
  exact .ite ((h1 _).under_dueGran hF.sub) (h1 _)

/-- The registers that a read of a shard may change. -/
def readRegs : List Reg := [MEM_STAT, MEM_UNIT_STAT, MEM_CE_CNT]

theorem Keeps.under_shardRead (h : Keeps F s₀ s) {slot gen shard : Nat} {err : MemErr} (hF : F.Covers [.mem] readRegs := by exact rfl) :
    Keeps F s₀ (s.shardRead slot gen shard err) := by
  unfold State.shardRead
  split
  · exact (h.under_touchGrans hF.sub).foldl fun _ _ h => h.under_memCE hF.sub
  · exact h

/-- What an uncorrectable error may change. -/
def ueParts : List Part := .mem :: flagParts
/-- The registers that it may change. -/
def ueRegs : List Reg := [MEM_UE_CNT, MEM_TRAIN_CNT, MEM_ERR, EVC_SRC, EVC_ERR, HOST_FN_EVT]

theorem Keeps.under_memUE (h : Keeps F s₀ s) {g : Nat} (hF : F.Covers ueParts ueRegs := by exact rfl) : Keeps F s₀ (s.memUE g) := by
  have hb : F.Covers [] [MEM_UE_CNT] := hF.sub
  have ht : F.Covers [] [MEM_TRAIN_CNT] := hF.sub
  exact (((h.bump hb).under_memFlag hF.sub).bump ht).under_dueGran hF.sub

/-! ### Sequences that end (R301) -/

/-- What the end of a sequence may change beside the slots and their tiles. -/
def leaveParts : List Part := [.free, .outbox, .funcs, .seqs, .pages, .sched, .rolls, .adapters, .tunes, .cart, .mem]
/-- What the end of a sequence may change. -/
def endParts : List Part := .groups :: .slots :: leaveParts
/-- The registers that it may change. -/
def endRegs : List Reg := [TEN_STORE_STAT, SRV_TOKEN_CNT, SRV_MSI_CNT, SRV_ADP_RETIRE_CNT, KV_RELEASE_CNT, TAL_TILE_STAT]

theorem Keeps.under_setSlot (h : Keeps F s₀ s) {k : Nat} {m : ModelSlot} (hF : F.Covers [.slots] [] := by exact rfl) :
    Keeps F s₀ (s.setSlot k m) := by
  unfold State.setSlot
  exact h.only [.slots] hF

theorem Keeps.under_modSlot (h : Keeps F s₀ s) {k : Nat} {f : ModelSlot → ModelSlot} (hF : F.Covers [.slots] [] := by exact rfl) :
    Keeps F s₀ (s.modSlot k f) := h.under_setSlot hF

theorem Keeps.under_modShard (h : Keeps F s₀ s) {slot gen i : Nat} {f : Shard → Shard} (hF : F.Covers [.slots] [] := by exact rfl) :
    Keeps F s₀ (s.modShard slot gen i f) := h.under_modSlot hF

theorem Keeps.under_setSeq (h : Keeps F s₀ s) {q : Nat} {x : Seq} (hF : F.Covers [.seqs] [] := by exact rfl) : Keeps F s₀ (s.setSeq q x) := by
  unfold State.setSeq
  exact h.only [.seqs] hF

theorem Keeps.under_modSeq (h : Keeps F s₀ s) {q : Nat} {f : Seq → Seq} (hF : F.Covers [.seqs] [] := by exact rfl) :
    Keeps F s₀ (s.modSeq q f) := h.under_setSeq hF

theorem Keeps.under_modCart (h : Keeps F s₀ s) {f : Cartway → Cartway} (hF : F.Covers [.cart] [] := by exact rfl) : Keeps F s₀ (s.modCart f) := by
  unfold State.modCart
  exact h.only [.cart] hF

theorem Keeps.under_queueCart (h : Keeps F s₀ s) {c : TxCart} (hF : F.Covers [.cart] [CW_DISCARD_CNT] := by exact rfl) :
    Keeps F s₀ (s.queueCart c) := by
  unfold State.queueCart State.cartLost
  split
  · exact h.bump hF.sub
  · exact h.under_modCart hF.sub

theorem Keeps.under_tellFence (h : Keeps F s₀ s) {typ slot expert : Nat} (hF : F.Covers [.cart] [CW_DISCARD_CNT] := by exact rfl) :
    Keeps F s₀ (s.tellFence typ slot expert) := h.foldl fun _ _ h => h.under_queueCart hF

theorem Keeps.under_endTile (h : Keeps F s₀ s) {gid : Nat} (hF : F.Covers [.groups] [TAL_TILE_STAT] := by exact rfl) : Keeps F s₀ (s.endTile gid) := by
  have hr : F.Covers [] [TAL_TILE_STAT] := hF.sub
  unfold State.endTile
  exact (((h.wr hr).wr hr).wr hr).under_modGroup hF.sub

theorem Keeps.under_endTiles (h : Keeps F s₀ s) {g : Gen} (hF : F.Covers [.groups] [TAL_TILE_STAT] := by exact rfl) :
    Keeps F s₀ (s.endTiles g) := h.foldl fun _ _ h => h.under_endTile hF

theorem Keeps.under_sweepAdapter (h : Keeps F s₀ s) {a : Nat} (hF : F.Covers [.adapters] [SRV_ADP_RETIRE_CNT] := by exact rfl) :
    Keeps F s₀ (s.sweepAdapter a) := by
  have hb : F.Covers [] [SRV_ADP_RETIRE_CNT] := hF.sub
  unfold State.sweepAdapter State.setAdapter
  exact (h.only [.adapters] hF.sub).bump hb

section
variable (hF : F.Covers leaveParts endRegs := by exact rfl)
include hF

theorem Keeps.under_setRoll (h : Keeps F s₀ s) {key : Nat} {r : Roll} : Keeps F s₀ (s.setRoll key r) := by
  unfold State.setRoll
  exact h.only [.rolls] hF.sub

theorem Keeps.under_rollMsg (h : Keeps F s₀ s) {key : Nat} : Keeps F s₀ (s.rollMsg key) := by
  unfold State.rollMsg
  exact .ite (((h.under_setRoll hF).bump hF.sub).msi hF.sub) h

theorem Keeps.under_rollWrite (h : Keeps F s₀ s) {key : Nat} {t : TillRec} : Keeps F s₀ (s.rollWrite key t) := by
  unfold State.rollWrite
  extract_lets r s1 s2 s3 s4 s5
  have h3 : Keeps F s₀ s3 := ((h.send hF.sub).send hF.sub).under_setRoll hF
  have h4 : Keeps F s₀ s4 := .ite (h3.bump hF.sub) h3
  have h5 : Keeps F s₀ s5 := .ite (h4.under_rollMsg hF) h4
  exact .ite (h5.under_setRoll hF) h5

theorem Keeps.under_rollPut (h : Keeps F s₀ s) {key : Nat} {t : TillRec} : Keeps F s₀ (s.rollPut key t) := by
  unfold State.rollPut
  exact .ite h (.ite (h.under_rollWrite hF) (.ite ((h.under_setRoll hF).send hF.sub) (h.under_setRoll hF)))

theorem Keeps.under_putEnd (h : Keeps F s₀ s) {key status gen flags : Nat} : Keeps F s₀ (s.putEnd key status gen flags) := by
  unfold State.putEnd
  exact (h.under_takeFree hF.sub).under_rollPut hF

theorem Keeps.under_setPage (h : Keeps F s₀ s) {id : Nat} {p : Page} : Keeps F s₀ (s.setPage id p) := by
  unfold State.setPage
  exact h.only [.pages] hF.sub

theorem Keeps.under_sweepPage (h : Keeps F s₀ s) {id : Nat} : Keeps F s₀ (s.sweepPage id) := by
  have hb : F.Covers [] [KV_RELEASE_CNT] := hF.sub
  unfold State.sweepPage
  exact .ite (((h.under_setPage hF).bump hb).only [.mem] hF.sub) h

theorem Keeps.under_refDown (h : Keeps F s₀ s) {id : Nat} : Keeps F s₀ (s.refDown id) := by
  have ha : Keeps F s₀ (s.pageArrival id) := by
    unfold State.pageArrival
    exact h.only [.sched] hF.sub
  exact (ha.under_setPage hF).under_sweepPage hF

theorem Keeps.under_dropPages (h : Keeps F s₀ s) {q : Nat} : Keeps F s₀ (s.dropPages q) := by
  unfold State.dropPages
  extract_lets x s1
  have h1 : Keeps F s₀ s1 := by
    unfold s1
    split
    · exact h.wr hF.sub
    · exact h
  exact (h1.under_setSeq hF.sub).foldl fun _ _ h => h.under_refDown hF

end

section
variable (hF : F.Covers endParts endRegs := by exact rfl)
include hF

theorem Keeps.under_unfence (h : Keeps F s₀ s) {slot expert : Nat} : Keeps F s₀ (s.unfence slot expert) := by
  unfold State.unfence
  exact .ite (h.under_modSlot hF.sub) h

theorem Keeps.under_sweepGen (h : Keeps F s₀ s) {slot : Nat} : Keeps F s₀ (s.sweepGen slot) := by
  unfold State.sweepGen
  dsimp only
  split
  · exact .ite (((h.under_setSlot hF.sub).under_endTiles hF.sub).foldl fun _ _ h => h.under_unfence hF) h
  · exact h

theorem Keeps.under_freeSeq (h : Keeps F s₀ s) {q : Nat} : Keeps F s₀ (s.freeSeq q) := by
  unfold State.freeSeq State.dropDispatches
  extract_lets x s1 s2
  have h1 : Keeps F s₀ s1 := ((h.under_dropPages hF.sub).under_modCart hF.sub).under_setSeq hF.sub
  have h2 : Keeps F s₀ s2 := by
    unfold s2
    split
    · exact h1.under_sweepAdapter hF.sub
    · exact h1
  exact h2.under_sweepGen hF

theorem Keeps.under_endTune (h : Keeps F s₀ s) {f status : Nat} : Keeps F s₀ (s.endTune f status) := by
  have ht (t : State) (m : FMap TuneJob) (ht : Keeps F s₀ t) : Keeps F s₀ { t with tunes := m } := ht.only [.tunes] hF.sub
  unfold State.endTune
  exact .ite h (.under_sweepAdapter (.under_putEnd hF.sub (ht _ _ (h.foldl fun _ _ h => h.under_freeSeq hF))) hF.sub)

theorem Keeps.under_endSeq (h : Keeps F s₀ s) {q status : Nat} : Keeps F s₀ (s.endSeq q status) := by
  unfold State.endSeq
  dsimp only
  split
  · exact h
  · split
    · exact h.under_endTune hF
    · exact (h.under_putEnd hF.sub).under_freeSeq hF

theorem Keeps.under_faultSeq (h : Keeps F s₀ s) {q status : Nat} : Keeps F s₀ (s.faultSeq q status) := by
  unfold State.faultSeq
  exact .ite ((h.under_modSeq hF.sub).under_endSeq hF) h

theorem Keeps.under_faultSlot (h : Keeps F s₀ s) {slot status : Nat} : Keeps F s₀ (s.faultSlot slot status) :=
  .foldl (h.foldl fun _ _ h => h.under_faultSeq hF) fun _ _ h => h.under_endTune hF

end

/-! ### Shards that fail (R215, R216) -/

/-- What a slot that is held may change. -/
def heldParts : List Part := .stalls :: .rows :: endParts
/-- The registers that it may change. -/
def heldRegs : List Reg := PRT_MODEL_STAT :: TAL_ACC_STAT :: endRegs

theorem Keeps.under_holdSlot (h : Keeps F s₀ s) {slot : Nat} (hF : F.Covers heldParts heldRegs := by exact rfl) : Keeps F s₀ (s.holdSlot slot) :=
  ((h.wr (f := PRT_MODEL_STAT.STATE) hF.sub).under_faultSlot hF.sub).under_dropPasses hF.sub

theorem Keeps.under_showLeft (h : Keeps F s₀ s) {slot : Nat} (hF : F.Covers [] [PRT_STAT] := by exact rfl) : Keeps F s₀ (s.showLeft slot) := by
  unfold State.showLeft
  dsimp only
  split
  · exact .ite (h.wr hF) h
  · exact h

/-- What the fencing of an expert may change. -/
def fenceParts : List Part := [.slots, .seqs, .cart]
/-- The registers that it may change. -/
def fenceRegs : List Reg := [PRT_STAT, PRT_FENCE_CNT, CW_DISCARD_CNT]

theorem Keeps.under_maskFor (h : Keeps F s₀ s) {q layer expert : Nat} (hF : F.Covers [.seqs, .cart] [] := by exact rfl) :
    Keeps F s₀ (s.maskFor q layer expert) := by
  unfold State.maskFor
  exact (h.only [.seqs] hF.sub).under_modCart hF.sub

theorem Keeps.under_fenceExpert (h : Keeps F s₀ s) {slot expert : Nat} (hF : F.Covers fenceParts fenceRegs := by exact rfl) :
    Keeps F s₀ (s.fenceExpert slot expert) := by
  have hb : F.Covers [] [PRT_FENCE_CNT] := hF.sub
  have h1 (m : ModelSlot) : Keeps F s₀ (((s.setSlot slot m).showLeft slot).bump PRT_FENCE_CNT.V) :=
    ((h.under_setSlot hF.sub).under_showLeft hF.sub).bump hb
  have h2 (t : State) (m : FMap Seq) (ht : Keeps F s₀ t) : Keeps F s₀ { t with seqs := m } := ht.only [.seqs] hF.sub
  unfold State.fenceExpert
  exact .under_tellFence ((h2 _ _ (h1 _)).foldl fun _ _ h => h.under_maskFor hF.sub) hF.sub

/-- What a shard that fails may change. -/
def failedParts : List Part := .pendAt :: heldParts
/-- The registers that it may change. -/
def failedRegs : List Reg :=
  [PRT_ERR, PRT_REFETCH_CNT, PRT_STAT, PRT_FENCE_CNT, CW_DISCARD_CNT, EVC_SRC, EVC_ERR, HOST_FN_EVT] ++ heldRegs

theorem Keeps.under_shardFailed (h : Keeps F s₀ s) {slot : Nat} {g : Gen} {i : Nat} (hF : F.Covers failedParts failedRegs := by exact rfl) :
    Keeps F s₀ (s.shardFailed slot g i) := by
  have hb : F.Covers [] [PRT_REFETCH_CNT] := hF.sub
  have h1 (f : Shard → Shard) : Keeps F s₀ ((s.modShard slot g.man.generation i f).showLeft slot) :=
    (h.under_modShard hF.sub).under_showLeft hF.sub
  have h2 (f : Shard → Shard) :
      Keeps F s₀ (((s.modShard slot g.man.generation i f).showLeft slot).prtFlag PRT_ERR.DIGEST slot i) := (h1 f).under_prtFlag hF.sub
  unfold State.shardFailed State.askShard
  exact .ite ((((h1 _).under_modShard hF.sub).bump hb).send hF.sub)
    (.ite ((h2 _).under_fenceExpert hF.sub) ((h2 _).under_holdSlot hF.sub))

theorem Keeps.under_reopen (h : Keeps F s₀ s) {slot gen i : Nat} (hF : F.Covers failedParts failedRegs := by exact rfl) :
    Keeps F s₀ (s.reopen slot gen i) := by
  unfold State.reopen
  split
  · exact .ite h (h.under_shardFailed hF)
  · exact h

theorem Keeps.under_ledgerUE (h : Keeps F s₀ s) {slot gen shard gran : Nat}
    (hF : F.Covers failedParts ([MEM_UE_CNT, MEM_TRAIN_CNT, MEM_ERR] ++ failedRegs) := by exact rfl) :
    Keeps F s₀ (s.ledgerUE slot gen shard gran) := by
  have hm : Keeps F s₀ (s.memUE gran) := h.under_memUE hF.sub
  unfold State.ledgerUE
  dsimp only
  split
  · exact .ite (hm.under_shardFailed hF.sub) hm
  · exact hm

end Sys2Proof.Machine
end

section
/-! PROOF. O40: the frame of the stall and correction commands, each from the rules of the operations that it is made of. -/

namespace Sys2Proof.Machine

set_option Elab.async false

/-- What a command may change by the frame lists. -/
def Instr.footprint (c : Instr) : Footprint := ⟨c.mayChange.contains, c.mayWrite⟩

/-- A state that keeps all outside the footprint of a command is framed by it. -/
theorem Keeps.framed {c : Instr} {s t : State} (h : Keeps (Instr.footprint c) s t) : framed c s t :=
  ⟨h.reg, fun p hp => h.part p (by simpa [Instr.footprint] using hp)⟩

variable {F : Footprint} {s₀ s : State}

theorem Keeps.under_sliceBad (h : Keeps F s₀ s) {sid chan slice : Nat}
    (hF : F.Covers (.stalls :: logParts) ([STL_SLICE_HEALTH, STL_SLICE_MAP, STL_ERR, STL_STAT] ++ flogRegs ++ logRegs) := by exact rfl) :
    Keeps F s₀ (s.sliceBad sid chan slice) := by
  have hm : F.Covers [] [STL_SLICE_MAP] := hF.sub
  have he : F.Covers [] [STL_ERR] := hF.sub
  unfold State.sliceBad
  extract_lets b s1 s2 s3
  have h1 : Keeps F s₀ s1 := h.setReg hF.sub
  have h3 : Keeps F s₀ s3 := ((h1.flag he hF.sub).flag he hF.sub).modStall hF.sub
  exact .ite (.ite ((h3.wr hm).under_logRepair hF.sub) ((h3.flag he hF.sub).under_stallFault hF.sub)) h3

theorem Keeps.under_execClipReplay (h : Keeps F s₀ s) {row stall no : Nat} {fresh : Bool}
    (hF : F.Covers [.stalls] [TAL_NQ_CLIP_REPLAY_CNT, SRV_TUNE_TCLIP_CNT] := by exact rfl) :
    Answers F s₀ (Machine.execClipReplay row stall no fresh s) := by
  have hb : Keeps F s₀ (s.bump TAL_NQ_CLIP_REPLAY_CNT.V row) := h.bump hF.sub
  have ht : Keeps F s₀ (s.bump SRV_TUNE_TCLIP_CNT.V) := h.bump hF.sub
  unfold Machine.execClipReplay
  split
  · exact .next h
  · dsimp only
    split
    · exact .next h
    · split
      · exact .next (.under_restrike (.ite ht hb) hF.sub)
      · exact .next h

theorem Keeps.under_execClipSplit (h : Keeps F s₀ s) {row stall no : Nat} {fresh : Bool}
    (hF : F.Covers [.stalls] [TAL_NQ_SPLIT_CNT] := by exact rfl) : Answers F s₀ (Machine.execClipSplit row stall no fresh s) := by
  unfold Machine.execClipSplit
  split
  · exact .next h
  · dsimp only
    split
    · exact .next h
    · split
      · exact .next ((h.bump hF.sub).under_restrike hF.sub)
      · exact .next h

theorem Keeps.under_execDescriptorArrival (h : Keeps F s₀ s) {row stall : Nat} {new : List (Nat × Nat)}
    (hF : F.Covers (.stalls :: shutMayChange) [CAL_SHUT_JOB_CNT] := by exact rfl) : Answers F s₀ (Machine.execDescriptorArrival row stall new s) := by
  have hr : Keeps F s₀ (s.receive row stall new) := h.under_modRow hF.sub
  unfold Machine.execDescriptorArrival
  split
  · dsimp only
    split
    · exact .next ((hr.under_modRow hF.sub).under_arrive hF)
    · exact .next hr
  · exact .next h

theorem Keeps.under_execStagingBankWrite (h : Keeps F s₀ s) {row stall tag bank : Nat} (hF : F.Covers [.stalls] [] := by exact rfl) :
    Answers F s₀ (Machine.execStagingBankWrite row stall tag bank s) := by
  unfold Machine.execStagingBankWrite
  split
  · exact .next h
  · dsimp only
    split
    · exact .ite (.next (h.setStall hF)) (.next h)
    · exact .next h

theorem Keeps.under_execLedgerRowRetry (h : Keeps F s₀ s) {row stall : Nat} (hF : F.Covers [.stalls] [] := by exact rfl) :
    Answers F s₀ (Machine.execLedgerRowRetry row stall s) := by
  unfold Machine.execLedgerRowRetry
  split
  · exact .next h
  · dsimp only
    split
    · exact .ite (.next (h.setStall hF)) (.next h)
    · exact .next h

theorem Keeps.under_endPlane (h : Keeps F s₀ s) {sid p : Nat} (hF : F.Covers [.stalls] [STL_PLANE] := by exact rfl) :
    Keeps F s₀ (s.endPlane sid p) := by
  unfold State.endPlane
  exact .ite ((h.setPlane hF.sub).modStall hF.sub) h

theorem Keeps.under_execPlaneSwap (h : Keeps F s₀ s) {row stall : Nat} (hF : F.Covers [.stalls] [STL_PLANE] := by exact rfl) :
    Answers F s₀ (Machine.execPlaneSwap row stall s) := by
  unfold Machine.execPlaneSwap
  dsimp only
  split
  · exact .next h
  · split
    · exact .next (((h.under_endPlane hF).setPlane hF.sub).wr hF.sub)
    · exact .next h

theorem Keeps.under_execSliceSubstitution (h : Keeps F s₀ s) {row stall chan slice : Nat} {diffs : List Int}
    (hF : F.Covers (.free :: .stalls :: logParts) ([STL_SLICE_HEALTH, STL_SLICE_MAP, STL_ERR, STL_STAT] ++ flogRegs ++ logRegs) := by exact rfl) :
    Answers F s₀ (Machine.execSliceSubstitution row stall chan slice diffs s) := by
  unfold Machine.execSliceSubstitution State.retrimSlice
  exact .ite (.next (.ite (h.under_sliceBad hF.sub) (((h.modStall hF.sub).under_takeFree hF.sub).modStall hF.sub))) (.next h)

theorem Keeps.under_execProbeStrike (h : Keeps F s₀ s) {row stall edges : Nat}
    (hF : F.Covers (.groups :: edgeParts) (STL_STRIKES :: edgeRegs) := by exact rfl) : Answers F s₀ (Machine.execProbeStrike row stall edges s) := by
  have he : Keeps F s₀ (s.edgesPass row edges) := h.under_edgesPass hF.sub
  unfold Machine.execProbeStrike
  split
  · exact .next h
  · dsimp only
    split
    · split
      · exact .next (he.under_issueProbe hF.sub)
      · exact .next (he.under_issueProbe hF.sub)
      · exact .next he
    · exact .next he

theorem Keeps.under_execStrikeCodesReceived (h : Keeps F s₀ s) {row stall : Nat} {c : Codes}
    (hF : F.Covers codesParts ([STL_CLIP_CNT, STL_ERR, CHK_PROBE_CNT] ++ probeRegs) := by exact rfl) :
    Answers F s₀ (Machine.execStrikeCodesReceived row stall c s) := by
  unfold Machine.execStrikeCodesReceived
  split
  · exact .next h
  · extract_lets sid
    split
    · exact .next h
    · extract_lets +onlyGivenNames sc s0
      have hc : Keeps F s₀ sc := h.bump hF.sub
      have h0 : Keeps F s₀ s0 := .ite (hc.flag hF.sub hF.sub) hc
      split
      · exact .next (h0.under_probeCodes hF.sub)
      · split
        · dsimp only
          split
          · exact .next ((h0.under_stockCodes hF.sub).under_freshCodes hF.sub)
          · exact .next (h0.under_stockCodes hF.sub)
        · exact .next (h0.under_freshCodes hF.sub)

theorem Keeps.under_execStrikeRelease (h : Keeps F s₀ s) {row stall no : Nat} {fresh : Bool}
    (hF : F.Covers releaseParts releaseRegs := by exact rfl) : Answers F s₀ (Machine.execStrikeRelease row stall no fresh s) := by
  have hd {x : Strike} : Answers F s₀ (.next (s.discardStrike (stallId row stall) x)) := .next (h.under_discardStrike hF.sub)
  have hr {n : Narrow} {f : Feed} {xs : List Strike} {e : Bool} :
      Answers F s₀ (.next (s.releaseStrikes (stallId row stall) n f xs e)) := .next (h.under_releaseStrikes hF)
  unfold Machine.execStrikeRelease
  split
  · exact .next h
  · dsimp only
    split
    · exact .next h
    · refine .ite hd (.ite (.next h) (.ite (.ite (.next h) hd) (.ite (.next h) ?_)))
      split
      · exact .next (((h.under_accFlag hF.sub).under_freeEntries hF.sub).under_dropStrike hF.sub)
      · refine .ite hd (.ite (.next (h.under_keepAttn hF.sub)) (.ite hr ?_))
        split
        · exact hr
        · exact .next h

/-- The registers that the end of an overflow pass may change. -/
def passRegs : List Reg :=
  [TAL_OUT_PASS_CNT, TAL_OUT_WIDE_OVF_CNT, TAL_OUT_FETCH_CNT, TAL_COR_ERR, MEM_UE_CNT, MEM_TRAIN_CNT, MEM_ERR] ++ readRegs ++ failedRegs ++ failRegs

theorem Keeps.under_execOverflowPassEnd (h : Keeps F s₀ s) {row stall : Nat} {ended : PassEnd}
    (hF : F.Covers (failedParts ++ workParts) passRegs := by exact rfl) : Answers F s₀ (Machine.execOverflowPassEnd row stall ended s) := by
  have hp : F.Covers [] [TAL_OUT_PASS_CNT] := hF.sub
  have ho : F.Covers [] [TAL_OUT_WIDE_OVF_CNT] := hF.sub
  have hfin (t : State) (ht : Keeps F s₀ t) (v : Stall) (w : Nat) (p : Pass) :
      Keeps F s₀ ((((t.setStall (stallId row stall) v).bump TAL_OUT_PASS_CNT.V row).bump TAL_OUT_WIDE_OVF_CNT.V row w).passResidue
        (stallId row stall) p ended.lane) :=
    (((ht.setStall hF.sub).bump hp).bump ho).under_passResidue hF.sub
  unfold Machine.execOverflowPassEnd
  dsimp only
  split
  · exact .next h
  · split
    · exact .next h
    · have hread {c : Prop} {_ : Decidable c} {slot gen i : Nat} {e : MemErr} :
          Keeps F s₀ (if c then s.shardRead slot gen i e else s) := .ite (h.under_shardRead hF.sub) h
      refine .ite (.next h) (.ite (.next (hfin _ h _ _ _)) (.ite (.next ((hfin _ hread _ _ _).bump hF.sub))
        (.next (.under_corFlag (.modStall ?_ hF.sub) hF.sub))))
      split
      · exact hread.under_ledgerUE hF.sub
      · exact .ite (hread.under_reopen hF.sub) hread

/-- Each command of the family answers a state that keeps all that its lists leave out. -/
theorem strike_family_keeps {c : Instr} (hc : c.family = .strike) (s : State) : Answers (Instr.footprint c) s (exec c s) := by
  have h (F : Footprint) : Keeps F s s := .refl F s
  cases c with
  | descriptorArrival => exact (h _).under_execDescriptorArrival
  | stlCtlWrite row stall val =>
    exact .ite (.next (h _)) (.next ((h _).under_stlAccess fun _ ht => (ht.under_writeReg).under_refill))
  | strikeIssue => exact .ite (.next ((h _).under_edgesPass.under_strikeEdge)) (.next (h _))
  | widenedPairIssue => exact .ite (.next ((h _).under_edgesPass.under_strikeEdge)) (.next (h _))
  | transposeStrikeIssue => exact .ite (.next ((h _).under_edgesPass.under_strikeEdge)) (.next (h _))
  | stagingBankWrite => exact (h _).under_execStagingBankWrite
  | strikeCodesReceived => exact (h _).under_execStrikeCodesReceived
  | sliceSubstitution => exact (h _).under_execSliceSubstitution
  | stlSliceMapWrite =>
    exact .ite (.next (h _)) (.next ((h _).under_stlAccess fun _ ht => (ht.under_writeReg).under_logSlices))
  | planeSwap => exact (h _).under_execPlaneSwap
  | trimDataWrite => exact .next ((h _).under_talWrite fun _ ht => ht.modStall)
  | trimStep => exact .next (.ite ((h _).under_trimStep) (h _))
  | overflowPassEnd => exact (h _).under_execOverflowPassEnd
  | ledgerRowRetry => exact (h _).under_execLedgerRowRetry
  | strikeRelease => exact (h _).under_execStrikeRelease
  | clipReplay => exact (h _).under_execClipReplay
  | clipSplit => exact (h _).under_execClipSplit
  | probeStrike => exact (h _).under_execProbeStrike
  | _ => cases hc

end Sys2Proof.Machine

namespace Sys2Proof

/-- Settles O40: each command of the family keeps all that its two lists leave out, operation by operation. -/
theorem stallCommandsKeepTheRest : Obligations.StallCommandsKeepTheRest := fun _ s _ hc he =>
  ((Machine.strike_family_keeps hc s).keeps he).framed

end Sys2Proof
end

section
/-! PROOF. O56: the reset values, read in the register tables. -/

namespace Sys2Proof

set_option Elab.async false

/-- Settles O56: no register is written at the reset, so that each read evaluates to the reset value of its table. -/
theorem resetValuesOfTheSpec : Obligations.ResetValuesOfTheSpec := by
  unfold Obligations.ResetValuesOfTheSpec
  decide

end Sys2Proof
end

section
/-! PROOF. O53: a command that names one stall leaves every other stall as it is. -/

namespace Sys2Proof.Machine

set_option Elab.async false

/-- What the operations of the device beside its stalls may change: no stall, no group and no register of a stall. -/
def Footprint.offStalls : Footprint := ⟨fun p => p != .stalls && p != .groups, fun r => r.blk != .stl⟩

/-- From one state to another every stall but one is the same, as are its registers and the groups of all stalls. -/
structure OthersKept (sid : Nat) (s t : State) : Prop where
  groups : t.groups = s.groups
  stall  : ∀ k, k ≠ sid → t.stall k = s.stall k
  reg    : ∀ k, k < 12288 → k ≠ sid → ∀ r : Reg, r.blk = .stl → r.off < 8192 → t.getReg r k = s.getReg r k

variable {sid : Nat} {s₀ s t : State}

theorem OthersKept.refl (sid : Nat) (s : State) : OthersKept sid s s := ⟨rfl, fun _ _ => rfl, fun _ _ _ _ _ _ => rfl⟩

theorem OthersKept.ite {c : Prop} {_ : Decidable c} {a b : State} (ha : OthersKept sid s₀ a) (hb : OthersKept sid s₀ b) :
    OthersKept sid s₀ (if c then a else b) := by split <;> assumption

/-- What changes beside the stalls keeps them. -/
theorem OthersKept.beside (h : OthersKept sid s₀ s) (hk : Keeps .offStalls s t) : OthersKept sid s₀ t where
  groups := (hk.part .groups rfl).trans h.groups
  stall k hne := (State.stall_congr (hk.part .stalls rfl) k).trans (h.stall k hne)
  reg k hk' hne r hb ho := (hk.reg r k ho (by simp [Footprint.offStalls, hb])).trans (h.reg k hk' hne r hb ho)

theorem OthersKept.setStall (h : OthersKept sid s₀ s) {v : Stall} : OthersKept sid s₀ (s.setStall sid v) where
  groups := h.groups
  stall k hne := (State.stall_setStall_ne s hne v).trans (h.stall k hne)
  reg := h.reg

theorem OthersKept.modStall (h : OthersKept sid s₀ s) {f : Stall → Stall} : OthersKept sid s₀ (s.modStall sid f) := h.setStall

theorem OthersKept.refill (h : OthersKept sid s₀ s) : OthersKept sid s₀ (s.refill sid) := h.modStall

theorem OthersKept.setBusy (h : OthersKept sid s₀ s) {b : Bool} : OthersKept sid s₀ (s.setBusy sid b) :=
  h.beside (Keeps.refl _ _).wr

theorem OthersKept.pushDesc (h : OthersKept sid s₀ s) {d : Desc} : OthersKept sid s₀ (s.pushDesc sid d) := h.setStall

/-! ### Registers of the stall that is named -/

section
variable (hs : sid < 12288)
include hs

theorem OthersKept.setReg (h : OthersKept sid s₀ s) {r : Reg} {v : Word64} : OthersKept sid s₀ (s.setReg r sid v) where
  groups := h.groups
  stall := h.stall
  reg k hk hne q hb ho := by
    rw [← h.reg k hk hne q hb ho]
    refine s.getReg_setReg_ne v fun e => hne ?_
    simp only [Reg.key] at e
    omega

theorem OthersKept.wr (h : OthersKept sid s₀ s) {f : RField} {v : Nat} : OthersKept sid s₀ (s.wr f sid v) := h.setReg hs

theorem OthersKept.setStState (h : OthersKept sid s₀ s) {v : Nat} : OthersKept sid s₀ (s.setStState sid v) := h.wr hs

theorem OthersKept.flag (h : OthersKept sid s₀ s) {f : RField} : OthersKept sid s₀ (s.flag f sid) := by
  unfold State.flag
  exact .ite h ((h.wr hs).beside (Keeps.refl _ _).flagEvent)

theorem OthersKept.stallFault (h : OthersKept sid s₀ s) : OthersKept sid s₀ (s.stallFault sid) := by
  unfold State.stallFault
  exact .ite h ((h.setStState hs).beside (Keeps.refl _ _).under_faultLog)

theorem OthersKept.writeReg (h : OthersKept sid s₀ s) {r : Reg} {v : Nat} : OthersKept sid s₀ (s.writeReg r sid v) := by
  unfold State.writeReg
  split
  · exact h.setReg hs
  · exact h

theorem OthersKept.readClear (h : OthersKept sid s₀ s) {who : Who} {r : Reg} : OthersKept sid s₀ (s.readClear who r sid) := by
  unfold State.readClear State.clearSample
  split
  · exact (OthersKept.ite (h.beside ((Keeps.refl _ _).only [.warden])) (h.setReg hs)).beside (Keeps.refl _ _).send
  · exact h

theorem OthersKept.setPlane (h : OthersKept sid s₀ s) {p st tag : Nat} : OthersKept sid s₀ (s.setPlane sid p st tag) := by
  unfold State.setPlane
  exact .ite ((h.wr hs).wr hs) ((h.wr hs).wr hs)

theorem OthersKept.endPlane (h : OthersKept sid s₀ s) {p : Nat} : OthersKept sid s₀ (s.endPlane sid p) := by
  unfold State.endPlane
  exact .ite (h.setPlane hs).modStall h

theorem OthersKept.sliceBad (h : OthersKept sid s₀ s) {chan slice : Nat} : OthersKept sid s₀ (s.sliceBad sid chan slice) := by
  unfold State.sliceBad
  extract_lets b s1 s2 s3
  have h3 : OthersKept sid s₀ s3 := (((h.setReg hs).flag hs).flag hs).modStall
  exact .ite (.ite ((h3.wr hs).beside (Keeps.refl _ _).under_logRepair) ((h3.flag hs).stallFault hs)) h3

end

/-! ### Wakes and accesses -/

/-- A unit of a row or quarter that runs again writes no register of a stall. -/
theorem Keeps.off_unitRuns (h : Keeps .offStalls s₀ s) {u : Nat} : Keeps .offStalls s₀ (s.unitRuns u) := by
  unfold State.unitRuns
  extract_lets s1
  have h1 : Keeps .offStalls s₀ s1 := .ite h.stacksUp.setHouses h
  exact .ite (h1.only [.sleep, .wakeAt, .boot]) h

theorem Keeps.off_wakeRow (h : Keeps .offStalls s₀ s) {row : Nat} : Keeps .offStalls s₀ (s.wakeRow row) := by
  unfold State.wakeRow
  exact .ite h h.wakeRowReq.off_unitRuns.off_unitRuns

section
variable (hs : sid < 12288)
include hs

theorem OthersKept.wakeStall (h : OthersKept sid s₀ s) : OthersKept sid s₀ (s.wakeStall sid) := by
  have hreq (u : State) (h : OthersKept sid s₀ u) : OthersKept sid s₀ (u.wakeRowReq (rowOf sid)) := h.beside (Keeps.refl _ _).wakeRowReq
  have h1 : OthersKept sid s₀ (s.wakeStallReq sid) := by
    unfold State.wakeStallReq
    exact .ite (hreq _ (((h.beside ((Keeps.refl _ s).only [.gatedAt, .wakeAt])).setStState hs).beside (Keeps.refl _ _).bump)) (hreq _ h)
  have h2 : OthersKept sid s₀ ((s.wakeStallReq sid).stallRuns sid) := by
    unfold State.stallRuns
    exact .ite ((h1.setStState hs).beside ((Keeps.refl _ _).only [.wakeAt, .boot])) h1
  unfold State.wakeStall
  exact .ite (h2.beside (Keeps.refl _ _).off_unitRuns.off_unitRuns) h

/-- An access to the stall keeps the others where what it does keeps them. -/
theorem OthersKept.stlAccess (h : OthersKept sid s₀ s) {who : Who} {off : Nat} {write : Bool} {f : State → State}
    (hf : ∀ t, OthersKept sid s₀ t → OthersKept sid s₀ (f t)) : OthersKept sid s₀ (s.stlAccess who sid off write f) := by
  have ha (n : Nat) : OthersKept sid s₀ (s.accessed who n) := h.beside (Keeps.refl _ _).accessed
  unfold State.stlAccess
  exact .ite h (.ite ((ha _).beside (Keeps.refl _ _).accessError) (.ite (ha _) (hf _ ((ha _).wakeStall hs))))

theorem OthersKept.drainReq (h : OthersKept sid s₀ s) {who : Requester} : OthersKept sid s₀ (s.drainReq sid who) := by
  unfold State.drainReq
  exact .ite ((h.modStall.setBusy).setStState hs) (h.modStall.setBusy)

theorem OthersKept.drainRel (h : OthersKept sid s₀ s) {who : Requester} : OthersKept sid s₀ (s.drainRel sid who) := by
  unfold State.drainRel
  exact .ite h (.ite (.ite (.refill (.ite (h.setStall.setStState hs) h.setStall)) h.setStall) h.setStall)

end

/-- A write to the tally engine of the row keeps the other stalls where what it does keeps them; the clerks alone reach the row. -/
theorem OthersKept.talWrite (h : OthersKept sid s₀ s) {who : Who} {row off : Nat} {f : State → State}
    (hf : row < 192 → ∀ t, OthersKept sid s₀ t → OthersKept sid s₀ (f t)) : OthersKept sid s₀ (s.talWrite who row off f) := by
  have ha (n : Nat) : OthersKept sid s₀ (s.accessed who n) := h.beside (Keeps.refl _ _).accessed
  unfold State.talWrite
  split
  next hc =>
    exact .ite (.ite (ha _) (hf hc.1 _ ((ha _).beside (Keeps.refl _ _).off_wakeRow))) ((ha _).beside (Keeps.refl _ _).accessError)
  · exact h

/-! ### The commands -/

/-- A meaning keeps every stall but one. -/
def Spares (sid : Nat) (s : State) (r : Result) : Prop := ∀ t, r = .next t → OthersKept sid s t

theorem Spares.next (h : OthersKept sid s t) : Spares sid s (.next t) := by
  rintro _ ⟨⟩
  exact h

theorem Spares.ite {c : Prop} {_ : Decidable c} {a b : Result} (ha : c → Spares sid s a) (hb : Spares sid s b) :
    Spares sid s (if c then a else b) := by
  split
  next hc => exact ha hc
  · exact hb

/-- A command checks its stall first. -/
theorem Spares.ite_not {row p : Nat} {a b : Result} (ha : Spares sid s a) (hb : stallOk row p = true → Spares sid s b) :
    Spares sid s (if (!stallOk row p) = true then a else b) := by
  cases hok : stallOk row p with
  | false => exact ha
  | true => exact hb hok

variable {row p a b : Nat} {who : Who}

theorem spares_descriptorArrival {new : List (Nat × Nat)} : Spares (stallId row p) s (exec (.descriptorArrival row p new) s) := by
  rw [exec_descriptorArrival]
  have hr : OthersKept (stallId row p) s (s.receive row p new) := (OthersKept.refl _ s).beside (Keeps.refl _ _).under_modRow
  have ha (d : Desc) (u : State) (hu : OthersKept (stallId row p) s u) : OthersKept (stallId row p) s (u.arrive (stallId row p) d) := by
    have hs : OthersKept (stallId row p) s (u.shutParts (stallId row p) d).1 := hu.beside (Keeps.refl _ _).under_shutParts
    unfold State.arrive
    split
    next e => rw [e] at hs; exact hs.pushDesc
    next e => rw [e] at hs; exact hs
  unfold execDescriptorArrival
  refine .ite (fun _ => ?_) (.next (.refl _ s))
  dsimp only
  split
  · exact .next (ha _ _ (hr.beside (Keeps.refl _ _).under_modRow))
  · exact .next hr

theorem spares_stagingBankWrite : Spares (stallId row p) s (exec (.stagingBankWrite row p a b) s) := by
  rw [exec_stagingBankWrite]
  unfold execStagingBankWrite
  refine .ite_not (.next (.refl _ s)) fun _ => ?_
  dsimp only
  split
  · exact .ite (fun _ => .next (OthersKept.refl _ s).setStall) (.next (.refl _ s))
  · exact .next (.refl _ s)

theorem spares_sliceSubstitution {ds : List Int} : Spares (stallId row p) s (exec (.sliceSubstitution row p a b ds) s) := by
  rw [exec_sliceSubstitution]
  unfold execSliceSubstitution State.retrimSlice
  refine .ite (fun hc => ?_) (.next (.refl _ s))
  have hok : stallOk row p = true := by simp only [Bool.and_eq_true] at hc; exact hc.1.1.1
  exact .next (.ite ((OthersKept.refl _ s).sliceBad (stallId_lt hok))
    ((OthersKept.refl _ s).modStall.beside (Keeps.refl _ _).under_takeFree).modStall)

theorem spares_planeSwap : Spares (stallId row p) s (exec (.planeSwap row p) s) := by
  rw [exec_planeSwap]
  unfold execPlaneSwap
  refine .ite_not (.next (.refl _ s)) fun hok => ?_
  have hs := stallId_lt hok
  split
  · exact .next ((((OthersKept.refl _ s).endPlane hs).setPlane hs).wr hs)
  · exact .next (.refl _ s)

theorem spares_stlCtlWrite : Spares (stallId row p) s (exec (.stlCtlWrite who row p a) s) := by
  rw [exec_stlCtlWrite]
  unfold execStlCtlWrite
  refine .ite_not (.next (.refl _ s)) fun hok => ?_
  have hs := stallId_lt hok
  exact .next ((OthersKept.refl _ s).stlAccess hs fun _ h => (h.writeReg hs).refill)

theorem spares_stlSliceMapWrite : Spares (stallId row p) s (exec (.stlSliceMapWrite who row p a) s) := by
  rw [exec_stlSliceMapWrite]
  unfold execStlSliceMapWrite
  refine .ite_not (.next (.refl _ s)) fun hok => ?_
  have hs := stallId_lt hok
  exact .next ((OthersKept.refl _ s).stlAccess hs fun _ h => (h.writeReg hs).beside (Keeps.refl _ _).under_logSlices)

theorem spares_stlClipCntRead : Spares (stallId row p) s (exec (.stlClipCntRead who row p) s) := by
  refine .ite (fun hok => ?_) (.next (.refl _ s))
  have hs := stallId_lt hok
  exact .next ((OthersKept.refl _ s).stlAccess hs fun _ h => h.readClear hs)

theorem spares_stlRefusedCntRead : Spares (stallId row p) s (exec (.stlRefusedCntRead who row p) s) := by
  refine .ite (fun hok => ?_) (.next (.refl _ s))
  have hs := stallId_lt hok
  exact .next ((OthersKept.refl _ s).stlAccess hs fun _ h => h.readClear hs)

/-- One stall of a row is drained, not all of them (63). -/
theorem drainTargets_of_lt (hp : p < 33) : drainTargets row p = [stallId row p] := by
  rw [drainTargets, if_neg (by omega), if_pos hp]

theorem spares_drainRequest (hp : p < 33) : Spares (stallId row p) s (exec (.drainRequest who row p) s) := by
  refine .next ((OthersKept.refl _ s).talWrite fun hrow u hu => ?_)
  rw [drainTargets_of_lt hp]
  exact hu.drainReq (stallId_lt (by simp [stallOk, hrow, hp]))

theorem spares_drainRelease (hp : p < 33) : Spares (stallId row p) s (exec (.drainRelease who row p) s) := by
  refine .next ((OthersKept.refl _ s).talWrite fun hrow u hu => ?_)
  rw [drainTargets_of_lt hp]
  exact hu.drainRel (stallId_lt (by simp [stallOk, hrow, hp]))

end Sys2Proof.Machine

namespace Sys2Proof

open Machine

/-- Settles O53: each of the commands writes one stall, and beside the stalls what no other stall has. -/
theorem stallCommandsLeaveOtherStallsAlone : Obligations.StallCommandsLeaveOtherStallsAlone := by
  intro s t c who row stall a b ds ws hc he
  have hk : OthersKept (stallId row stall) s t := by
    simp only [List.mem_cons, List.not_mem_nil, or_false] at hc
    rcases hc with (rfl | rfl | rfl | rfl | rfl | rfl | rfl | rfl) | ⟨rfl | rfl, hlt⟩
    · exact spares_stlClipCntRead t he
    · exact spares_stlRefusedCntRead t he
    · exact spares_descriptorArrival t he
    · exact spares_stlCtlWrite t he
    · exact spares_stagingBankWrite t he
    · exact spares_sliceSubstitution t he
    · exact spares_stlSliceMapWrite t he
    · exact spares_planeSwap t he
    · exact spares_drainRequest hlt t he
    · exact spares_drainRelease hlt t he
  exact ⟨hk.groups, fun k hlt hne => ⟨hk.stall k hne, hk.reg k hlt hne⟩⟩

end Sys2Proof
end

section
/-! PROOF. O4: what a strike that issues counts, and that it is in flight. -/

namespace Sys2Proof.Machine

set_option Elab.async false

variable {s t : State} {sid : Nat}

/-- A field of a register outside the footprint reads as before. -/
theorem Keeps.rd {F : Footprint} (h : Keeps F s t) {f : RField} {i : Nat} (hf : F.regs f.reg = false := by exact rfl)
    (ho : decide (f.reg.off < 8192) = true := by exact rfl) : t.rd f i = s.rd f i := by
  simp only [State.rd, h.reg f.reg i (of_decide_eq_true ho) hf]

theorem Keeps.on {F : Footprint} (h : Keeps F s t) {f : RField} {i : Nat} (hf : F.regs f.reg = false := by exact rfl)
    (ho : decide (f.reg.off < 8192) = true := by exact rfl) : t.on f i = s.on f i := by
  simp only [State.on, h.rd hf ho]

/-! ### Counters -/

/-- Everything but some registers may change. -/
def Footprint.without (rs : List Reg) : Footprint := ⟨fun _ => true, fun r => !rs.contains r⟩

/-- All that an edge may change beside the counters of strikes. -/
def Footprint.uncounted : Footprint := .without [STL_STRIKES, STL_FRESH_STRIKES, STL_TRANS_STRIKES, STL_WIDE_PAIRS]

/-- The counters of a strike that issues advance by its kind (R57, R59, R61, R72). -/
def State.countStrike (s : State) (sid : Nat) (d : Desc) : State :=
  (((s.bump STL_STRIKES.V sid (if d.stock then (if d.wide then 2 else 1) else 0)).bump STL_FRESH_STRIKES.V sid (ofBool d.fresh)).bump
    STL_TRANS_STRIKES.V sid (ofBool d.trans)).bump STL_WIDE_PAIRS.V sid (ofBool (d.wide && !d.replay))

/-- An issue counts its strike, and before and after leaves the counters alone. -/
theorem State.issue_counts (s : State) (sid i : Nat) (d : Desc) :
    ∃ u, Keeps .uncounted s u ∧ Keeps .uncounted (u.countStrike sid d) (s.issue sid i d) := by
  unfold State.issue
  extract_lets s' s'' s''' row e k s2 s3 hold s4 s5 x xs s6 s7 s7' s8
  have h' : Keeps .uncounted s s' := .ite (Keeps.refl _ s).under_trimStep (.refl _ s)
  have h'' : Keeps .uncounted s s'' := .ite h'.under_trimStep h'
  refine ⟨s''', .ite h''.under_reloadSram h'', ?_⟩
  have h4 : Keeps .uncounted s3 s4 := (Keeps.refl _ s3).wr
  have h6 : Keeps .uncounted s3 s6 := (Keeps.ite h4.wr h4).wr
  have h7 : Keeps .uncounted s3 s7' := h6.modStall.under_modRow
  have h8 : Keeps .uncounted s3 s8 := .ite h7.under_countEdges h7
  exact (Keeps.ite h8.modStall h8).under_refill

/-- What the counters of strikes read once a descriptor has issued. -/
structure Counted (sid : Nat) (d : Desc) (s t : State) : Prop where
  strikes : t.rd STL_STRIKES.V sid = (s.rd STL_STRIKES.V sid + (if d.stock then (if d.wide then 2 else 1) else 0)) % 2 ^ 64
  fresh   : t.rd STL_FRESH_STRIKES.V sid = (s.rd STL_FRESH_STRIKES.V sid + ofBool d.fresh) % 2 ^ 64
  trans   : t.rd STL_TRANS_STRIKES.V sid = (s.rd STL_TRANS_STRIKES.V sid + ofBool d.trans) % 2 ^ 64
  wide    : t.rd STL_WIDE_PAIRS.V sid = (s.rd STL_WIDE_PAIRS.V sid + ofBool (d.wide && !d.replay)) % 2 ^ 64

theorem counted_countStrike (s : State) (sid : Nat) (d : Desc) : Counted sid d s (s.countStrike sid d) := by
  unfold State.countStrike
  constructor
  · rw [State.rd_bump_free _ rfl, State.rd_bump_free _ rfl, State.rd_bump_free _ rfl, State.rd_bump_val _ rfl]; rfl
  · rw [State.rd_bump_free _ rfl, State.rd_bump_free _ rfl, State.rd_bump_val _ rfl, State.rd_bump_free _ rfl]; rfl
  · rw [State.rd_bump_free _ rfl, State.rd_bump_val _ rfl, State.rd_bump_free _ rfl, State.rd_bump_free _ rfl]; rfl
  · rw [State.rd_bump_val _ rfl, State.rd_bump_free _ rfl, State.rd_bump_free _ rfl, State.rd_bump_free _ rfl]; rfl

theorem Counted.congr {d : Desc} {s' t' : State} (hs : Keeps .uncounted s s') (h : Counted sid d s' t) (ht : Keeps .uncounted t t') :
    Counted sid d s t' where
  strikes := by rw [ht.rd, h.strikes, hs.rd]
  fresh := by rw [ht.rd, h.fresh, hs.rd]
  trans := by rw [ht.rd, h.trans, hs.rd]
  wide := by rw [ht.rd, h.wide, hs.rd]

theorem State.issue_counted (s : State) (sid i : Nat) (d : Desc) : Counted sid d s (s.issue sid i d) := by
  obtain ⟨u, hu, ht⟩ := s.issue_counts sid i d
  exact .congr hu (counted_countStrike u sid d) ht

/-! ### Strikes in flight -/

/-- A strike of the descriptor is in flight, its codes to come. -/
def flies (d : Desc) (l : List Strike) : Prop := ∃ x ∈ l, x.desc = d ∧ x.stage = .issued

/-- A strike that enters the list is there, issued, with its descriptor. -/
theorem Stall.flies_fly (st : Stall) {x : Strike} (hx : x.stage = .issued) : flies x.desc (st.fly x).inflight := by
  unfold Stall.fly
  split
  next y _ => exact ⟨y.takeOver x, List.mem_append_right _ (List.mem_singleton.2 rfl), rfl, hx⟩
  · refine ⟨_, List.mem_append_right _ (List.mem_singleton.2 rfl), ?_⟩
    split <;> exact ⟨rfl, hx⟩

/-- A strike that is there stays when another enters: what the other takes over was waiting to be struck again. -/
theorem Stall.flies_fly_of {st : Stall} {d : Desc} (h : flies d st.inflight) (x : Strike) : flies d (st.fly x).inflight := by
  obtain ⟨z, hz, hd, hi⟩ := h
  unfold Stall.fly
  split
  next y hy =>
    have hne : z ≠ y := by
      rintro rfl
      unfold Stall.replayed at hy
      split at hy
      · have := List.find?_some hy
        simp [hi] at this
      · cases hy
    refine ⟨z, List.mem_append_left _ ?_, hd, hi⟩
    split
    · exact List.mem_map.2 ⟨z, hz, if_neg hne⟩
    · exact (List.mem_erase_of_ne hne).2 hz
  · exact ⟨z, List.mem_append_left _ hz, hd, hi⟩

theorem State.inflight_refill (s : State) (sid : Nat) : ((s.refill sid).stall sid).inflight = (s.stall sid).inflight := by
  simp [State.refill, Stall.refill]

theorem State.inflight_countEdges (s : State) (sid g k : Nat) : ((s.countEdges sid g k).stall sid).inflight = (s.stall sid).inflight := by
  simp only [State.countEdges, State.stall_modStall_same, State.stall_modGroup]
  split <;> rfl

/-- A strike of the stock part is in flight once it has issued. -/
theorem State.issue_flies (s : State) (sid i : Nat) {d : Desc} (hd : d.stock = true) :
    flies { d with fresh := false } ((s.issue sid i d).stall sid).inflight := by
  unfold State.issue
  extract_lets s' s'' s''' row e k s2 s3 hold s4 s5 x xs s6 s7 s7' s8
  have h8 : (s8.stall sid).inflight = (s7.stall sid).inflight := by
    unfold s8
    rw [if_pos hd, State.inflight_countEdges, State.stall_modRow]
  have h7 : flies { d with fresh := false } (s7.stall sid).inflight := by
    unfold s7 xs
    rw [if_pos hd, State.stall_modStall_same]
    cases d.fresh with
    | false => exact Stall.flies_fly _ rfl
    | true => exact Stall.flies_fly_of (Stall.flies_fly _ rfl) _
  rw [State.inflight_refill]
  split
  · rw [State.stall_modStall_same]
    dsimp only
    split <;> exact h8 ▸ h7
  · exact h8 ▸ h7

/-! ### The three clauses -/

variable {row p edges : Nat}

/-- What an edge and its refusals leave of the counters. -/
theorem counted_of_pick {i : Nat} {d : Desc} :
    Counted (stallId row p) d s ((((s.edgesPass row edges).unshut (stallId row p)).refuseAll (stallId row p) 17).issue (stallId row p) i d) :=
  .congr ((Keeps.refl _ s).under_edgesPass.under_unshut.under_refuseAll) (State.issue_counted _ _ _ _) (.refl _ _)

/-- A probe that strikes counts, is in flight and no longer due. -/
theorem State.issueProbe_counts (s : State) (sid g : Nat) (idle : Bool) :
    (s.issueProbe sid g idle).rd STL_STRIKES.V sid = (s.rd STL_STRIKES.V sid + 1) % 2 ^ 64 := by
  unfold State.issueProbe
  rw [(Keeps.refl .uncounted (s.bump STL_STRIKES.V sid) |>.wr.wr.modStall.under_modGroup).rd]
  exact State.rd_bump_val _ rfl _ _

theorem State.issueProbe_flies (s : State) (sid g : Nat) (idle : Bool) :
    ∃ x ∈ ((s.issueProbe sid g idle).stall sid).inflight, x.kind = .probe ∧ x.desc.group = g ∧ x.idle = idle := by
  unfold State.issueProbe
  simp only [State.stall_modGroup, State.stall_modStall_same]
  exact ⟨_, List.mem_append_right _ (List.mem_singleton.2 rfl), rfl, rfl, rfl⟩

section
variable (hok : stallOk row p = true)
include hok

/-- A descriptor that the sequencer picks issues at the last edge, whatever its kind. -/
theorem exec_strike_of_pick {i : Nat} {d : Desc} (hmay : ((s.edgesPass row edges).unshut (stallId row p)).mayIssue (stallId row p) = true)
    (hno : ((s.edgesPass row edges).unshut (stallId row p)).probeGroup (stallId row p) = none)
    (hpick : (((s.edgesPass row edges).unshut (stallId row p)).refuseAll (stallId row p) 17).pick (stallId row p) = .issue i d)
    (hdir : (((s.edgesPass row edges).unshut (stallId row p)).refuseAll (stallId row p) 17).directionOk (stallId row p) d.trans = true) :
    exec (if d.wide then .widenedPairIssue row p edges else if d.trans then .transposeStrikeIssue row p edges else .strikeIssue row p edges) s =
      .next ((((s.edgesPass row edges).unshut (stallId row p)).refuseAll (stallId row p) 17).issue (stallId row p) i d) := by
  have hedge (kind : Desc → Bool) (hk : kind d = true) : (s.edgesPass row edges).strikeEdge (stallId row p) kind =
      (((s.edgesPass row edges).unshut (stallId row p)).refuseAll (stallId row p) 17).issue (stallId row p) i d := by
    unfold State.strikeEdge
    simp only [hmay, hno, hpick, hk, hdir, Option.isNone_none, Bool.and_self, if_true]
  cases hw : d.wide with
  | true =>
    show execWidenedPairIssue row p edges s = _
    rw [execWidenedPairIssue, if_pos hok, hedge _ hw]
  | false =>
    cases ht : d.trans with
    | true =>
      show execTransposeStrikeIssue row p edges s = _
      rw [execTransposeStrikeIssue, if_pos hok, hedge _ ht]
    | false =>
      show execStrikeIssue row p edges s = _
      rw [execStrikeIssue, if_pos hok, hedge _ (by simp [hw, ht])]

theorem exec_probeStrike_of_may {g : Nat} (idle : Bool) (hmay : (s.edgesPass row edges).mayIssue (stallId row p) = true)
    (hdir : (s.edgesPass row edges).directionOk (stallId row p) false = true)
    (hg : (s.edgesPass row edges).probeGroup (stallId row p) = (if idle then none else some g))
    (hl : idle = true → (s.edgesPass row edges).laneGroup (stallId row p) = some g) :
    exec (.probeStrike row p edges) s = .next ((s.edgesPass row edges).issueProbe (stallId row p) g idle) := by
  show execProbeStrike row p edges s = _
  unfold execProbeStrike
  rw [if_neg (by simp [hok])]
  dsimp only
  rw [if_pos (by simp [hmay, hdir])]
  cases idle with
  | false => rw [hg]; rfl
  | true => rw [hg, hl rfl]; rfl

end

end Sys2Proof.Machine

namespace Sys2Proof

open Machine

/-- Settles O4: what passes before the strike leaves the counters alone, the issue counts it and appends it to the flight list, and a probe does both. -/
theorem strikesAdvanceTheStrikeCounters : Obligations.StrikesAdvanceTheStrikeCounters := by
  intro s row p edges hok
  have hprobe (g : Nat) (idle : Bool) : ((s.edgesPass row edges).issueProbe (stallId row p) g idle).rd STL_STRIKES.V (stallId row p) =
      (s.rd STL_STRIKES.V (stallId row p) + 1) % 2 ^ 64 := by
    rw [State.issueProbe_counts, ((Keeps.refl .uncounted s).under_edgesPass).rd]
  refine ⟨?_, ?_, ?_⟩
  · rintro _ i d rfl hmay hno hpick hdir
    have hc := counted_of_pick (s := s) (row := row) (p := p) (edges := edges) (i := i) (d := d)
    exact ⟨_, exec_strike_of_pick hok hmay hno hpick hdir, hc.strikes, hc.fresh, hc.trans, hc.wide, State.issue_flies _ _ _⟩
  · rintro _ g rfl hmay hdir hg
    refine ⟨_, exec_probeStrike_of_may hok false hmay hdir hg nofun, hprobe g false, ?_, State.issueProbe_flies _ _ _ _⟩
    simp [State.issueProbe]
  · rintro _ g rfl hmay hdir hno hg
    refine ⟨_, exec_probeStrike_of_may hok true hmay hdir hno fun _ => hg, hprobe g true, ?_, State.issueProbe_flies _ _ _ _⟩
    simp [State.issueProbe]

end Sys2Proof
end

section
/-! PROOF. What the correction commands leave of strikes in flight, of passes and of the places of tiles: projections of the stalls
and rows that their operations keep (O5, O7). -/

namespace Sys2Proof.Machine

set_option Elab.async false

variable {s₀ s t : State} {sid : Nat}

/-! ### A projection of every stall -/

/-- Everything but the stalls may change. -/
def Footprint.noStalls : Footprint := ⟨fun p => p != .stalls, fun _ => true⟩

/-- A projection of every stall is the same in two states. -/
def StallsKeep {α : Type} (π : Stall → α) (s t : State) : Prop := ∀ k, π (t.stall k) = π (s.stall k)

variable {α : Type} {π : Stall → α}

theorem StallsKeep.refl (π : Stall → α) (s : State) : StallsKeep π s s := fun _ => rfl

theorem StallsKeep.ite {c : Prop} {_ : Decidable c} {a b : State} (ha : StallsKeep π s₀ a) (hb : StallsKeep π s₀ b) :
    StallsKeep π s₀ (if c then a else b) := by split <;> assumption

theorem StallsKeep.foldl {β : Type} {l : List β} {f : State → β → State} (h : StallsKeep π s₀ s)
    (hf : ∀ t x, StallsKeep π s₀ t → StallsKeep π s₀ (f t x)) : StallsKeep π s₀ (l.foldl f s) := by
  induction l generalizing s with
  | nil => exact h
  | cons x l ih => exact ih (hf s x h)

theorem StallsKeep.beside (h : StallsKeep π s₀ s) (hk : Keeps .noStalls s t) : StallsKeep π s₀ t := fun k =>
  (congrArg π (State.stall_congr (hk.part .stalls rfl) k)).trans (h k)

theorem StallsKeep.modStall (h : StallsKeep π s₀ s) {f : Stall → Stall} (hf : ∀ st, π (f st) = π st) : StallsKeep π s₀ (s.modStall sid f) := by
  intro k
  by_cases hk : k = sid
  · subst hk
    rw [State.stall_modStall_same, hf, h k]
  · rw [State.stall_modStall_ne s hk, h k]

theorem StallsKeep.giveUp (h : StallsKeep π s₀ s) {tag g : Nat} (hf : ∀ st : Stall, π (st.giveUp tag g) = π st) :
    StallsKeep π s₀ (s.giveUp sid tag g) := by
  refine h.modStall fun st => ?_
  split
  · rfl
  · exact hf st

/-- The failure of a strike's check leaves the overflow passes of every stall as they are. -/
theorem StallsKeep.passes_failStrike (h : StallsKeep Stall.passes s₀ s) {old x : Strike} : StallsKeep Stall.passes s₀ (s.failStrike sid old x) := by
  have hset (u : State) (hu : StallsKeep Stall.passes s₀ u) (y z : Strike) : StallsKeep Stall.passes s₀ (u.setStrike sid y z) :=
    hu.modStall fun _ => rfl
  have hdrop (u : State) (hu : StallsKeep Stall.passes s₀ u) (y : Strike) : StallsKeep Stall.passes s₀ (u.dropStrike sid y) :=
    hu.modStall fun _ => rfl
  have hdisc (u : State) (hu : StallsKeep Stall.passes s₀ u) : StallsKeep Stall.passes s₀ (u.discardStrike sid old) :=
    ((hdrop _ hu old).beside (Keeps.refl _ _).under_freeEntries).giveUp fun _ => rfl
  have htake (u : State) (hu : StallsKeep Stall.passes s₀ u) : StallsKeep Stall.passes s₀ (u.takeWhole sid x) := hu.modStall fun _ => rfl
  have hwhole (u : State) (hu : StallsKeep Stall.passes s₀ u) (d : Desc) : StallsKeep Stall.passes s₀ (u.dropWhole sid d) := by
    unfold State.dropWhole
    split
    · exact (hdrop _ hu _).beside (Keeps.refl _ _).under_freeEntries
    · exact hu
  unfold State.failStrike
  split
  extract_lets +onlyGivenNames s0 attn out s1
  have h0 : StallsKeep Stall.passes s₀ s0 := h.beside (Keeps.refl _ _).bump.under_chkFlag
  have h1 : StallsKeep Stall.passes s₀ s1 := .ite (h0.beside (Keeps.refl _ _).under_cper) h0
  exact .ite (hdisc _ h1) (.ite (.ite (hdisc _ h1)
    (.ite ((htake _ (hset _ h1 _ _)).beside (Keeps.refl _ _).under_shutStrike)
      ((hwhole _ (htake _ (hset _ h1 _ _)) _).beside (Keeps.refl _ _).under_shutStrike)))
    ((hset _ h1 _ _).beside (Keeps.refl _ _).under_queueJob))

theorem StallsKeep.passes_passResidue (h : StallsKeep Stall.passes s₀ s) {p : Pass} {lane : List (Nat × Word32)} :
    StallsKeep Stall.passes s₀ (s.passResidue sid p lane) := by
  unfold State.passResidue
  split
  · exact h
  · refine .ite h (.foldl ?_ fun _ _ h => (h.beside (Keeps.refl _ _).under_residueEvent).passes_failStrike)
    exact h.modStall fun _ => rfl

/-! ### Where tiles lie and which of them are paired -/

/-- What may change where tiles keep their places. -/
def Footprint.unplaced : Footprint := ⟨fun p => p != .slots && p != .rows, fun r => r != STL_GRP_CFG && r != CHK_CTL⟩

/-- Slots, substitutions and pairs are the same in two states. -/
structure Placed (s t : State) : Prop where
  slots : t.slots = s.slots
  subst : ∀ r, (t.row r).subst = (s.row r).subst
  pairs : ∀ i, t.getReg STL_GRP_CFG i = s.getReg STL_GRP_CFG i
  check : t.on CHK_CTL.PAIR_EN = s.on CHK_CTL.PAIR_EN

theorem Placed.refl (s : State) : Placed s s := ⟨rfl, fun _ => rfl, fun _ => rfl, rfl⟩

theorem Placed.ite {c : Prop} {_ : Decidable c} {a b : State} (ha : Placed s₀ a) (hb : Placed s₀ b) :
    Placed s₀ (if c then a else b) := by split <;> assumption

theorem Placed.foldl {β : Type} {l : List β} {f : State → β → State} (h : Placed s₀ s)
    (hf : ∀ t x, Placed s₀ t → Placed s₀ (f t x)) : Placed s₀ (l.foldl f s) := by
  induction l generalizing s with
  | nil => exact h
  | cons x l ih => exact ih (hf s x h)

theorem Placed.beside (h : Placed s₀ s) (hk : Keeps .unplaced s t) : Placed s₀ t where
  slots := (hk.part .slots rfl).trans h.slots
  subst r := (congrArg Row.subst (State.row_congr (hk.part .rows rfl) r)).trans (h.subst r)
  pairs i := (hk.reg _ i (by decide) rfl).trans (h.pairs i)
  check := hk.on.trans h.check

theorem Placed.modRow (h : Placed s₀ s) {row : Nat} {f : Row → Row} (hf : ∀ r, (f r).subst = r.subst) : Placed s₀ (s.modRow row f) where
  slots := h.slots
  subst r := (State.subst_modRow hf r).trans (h.subst r)
  pairs := h.pairs
  check := h.check

theorem Placed.logicalAt (h : Placed s t) : t.logicalAt sid = s.logicalAt sid := by
  rw [State.logicalAt, h.subst, State.logicalAt]

theorem Placed.logicalNo (h : Placed s t) : t.logicalNo sid = s.logicalNo sid := by
  rw [State.logicalNo, h.logicalAt, State.logicalNo]

theorem Placed.tileAt (h : Placed s t) (g : Nat) : t.tileAt sid g = s.tileAt sid g := by
  rw [State.tileAt, h.logicalNo, h.logicalAt, h.slots, State.tileAt]

theorem Placed.partner (h : Placed s t) (g : Nat) : t.partner sid g = s.partner sid g := by
  rw [State.partner, h.tileAt, State.partner]

theorem Placed.isPrimary (h : Placed s t) (g : Nat) : t.isPrimary sid g = s.isPrimary sid g := by
  rw [State.isPrimary, h.partner, h.logicalNo, State.pairedGrp, h.pairs, State.isPrimary]
  rfl

theorem Placed.feedRed (h : Placed s t) (f : Feed) : t.feedRed f = s.feedRed f := by
  have hg (k g : Nat) : t.genOf k g = s.genOf k g := by rw [State.genOf, State.slot_congr h.slots, State.genOf]
  have ht : t.tileOf f = s.tileOf f := by rw [State.tileOf, hg, State.tileOf]
  have hs : t.streamOf f = s.streamOf f := by rw [State.streamOf, hg, State.streamOf]
  rw [State.feedRed, hg, ht, hs, State.feedRed]

theorem Placed.setInst (h : Placed s₀ s) {row : Nat} {i : Inst} : Placed s₀ (s.setInst row i) := h.modRow fun _ => rfl

theorem Placed.handInst (h : Placed s₀ s) {row : Nat} {i : Inst} : Placed s₀ (s.handInst row sid i) := by
  unfold State.handInst
  split
  · exact h
  · extract_lets +onlyGivenNames all s1 s2
    have h1 : Placed s₀ s1 := h.foldl fun u _ hu =>
      Placed.beside (s := u.closeInst _ _ _) (hu.modRow fun _ => rfl) (Keeps.refl _ _).under_freeEntries
    have h2 : Placed s₀ s2 := by
      unfold s2
      split
      · exact h1.setInst
      · exact h1.setInst
    exact h2.beside (Keeps.refl _ _).under_queueJob.under_cper

theorem Placed.release (h : Placed s₀ s) {row : Nat} {i : Inst} {r : RedRec} {w : Release} : Placed s₀ (s.release row sid i r w) := by
  unfold State.release
  exact .ite (h.setInst.beside (Keeps.refl _ _).under_freeEntries)
    (.ite ((h.beside (Keeps.refl _ _).under_accFlag.under_freeEntries).handInst)
      (h.setInst.beside (Keeps.refl _ _).under_countAcc.under_freeEntries))

theorem Placed.deliver (h : Placed s₀ s) {n : Narrow} {f : Feed} {parts : List PVec} {entry : Bool} :
    Placed s₀ (s.deliver sid n f parts entry) := by
  unfold State.deliver
  extract_lets own row s1
  have hf (r k : Nat) : Placed s₀ (s.freeEntries r k) := h.beside (Keeps.refl _ _).under_freeEntries
  have ha (r p u k : Nat) : Placed s₀ ((s.accFlag TAL_ACC_ERR.PLAN r p).freeEntries u k) :=
    h.beside (Keeps.refl _ _).under_accFlag.under_freeEntries
  have h1 : Placed s₀ s1 := by
    unfold s1
    split
    · exact hf _ _
    · split
      · exact hf _ _
      · split
        · exact .ite h.release (hf _ _).release
        · exact (ha _ _ _ _).handInst
        · exact ha _ _ _ _
  exact h1.beside (Keeps.refl _ _).modStall

/-- What is delivered to an accumulation leaves the strikes in flight. -/
theorem StallsKeep.inflight_deliver (h : StallsKeep Stall.inflight s₀ s) {n : Narrow} {f : Feed} {parts : List PVec} {entry : Bool} :
    StallsKeep Stall.inflight s₀ (s.deliver sid n f parts entry) := by
  unfold State.deliver
  extract_lets own row s1
  have h1 : StallsKeep Stall.inflight s₀ s1 := by
    refine h.beside ?_
    have hf (r k : Nat) : Keeps .noStalls s (s.freeEntries r k) := (Keeps.refl _ s).under_freeEntries
    have ha (r p u k : Nat) : Keeps .noStalls s ((s.accFlag TAL_ACC_ERR.PLAN r p).freeEntries u k) :=
      (Keeps.refl _ s).under_accFlag.under_freeEntries
    unfold s1
    split
    · exact hf _ _
    · split
      · exact hf _ _
      · split
        · exact .ite ((Keeps.refl _ s).under_release) (hf _ _).under_release
        · exact (ha _ _ _ _).under_handInst
        · exact ha _ _ _ _
  exact h1.modStall fun _ => rfl

end Sys2Proof.Machine
end

section
/-! PROOF. O5: what each correction command leaves, clause by clause. -/

namespace Sys2Proof.Machine

set_option Elab.async false

variable {s t : State} {row p : Nat}

/-! ### Codes (R91, R103, R371) -/

/-- The codes of a probe count it once. -/
theorem State.probeCodes_counts (s : State) (sid : Nat) (x : Strike) (c : Codes) :
    ∃ u, Keeps (.without [STL_CLIP_CNT, CHK_PROBE_CNT]) s u ∧
      Keeps (.without [STL_CLIP_CNT, CHK_PROBE_CNT]) (u.bump CHK_PROBE_CNT.V) (s.probeCodes sid x c) := by
  unfold State.probeCodes
  extract_lets d gid S L xs pat s0 s1 sc tol es failed s2 k T y z lane evaluated passed s3 _ s4
  have h0 : Keeps (.without [STL_CLIP_CNT, CHK_PROBE_CNT]) s s0 := .ite (Keeps.refl _ s).under_corFlag (.refl _ s)
  have hrest {w : State} (h1 : Keeps (.without [STL_CLIP_CNT, CHK_PROBE_CNT]) w s1) : Keeps (.without [STL_CLIP_CNT, CHK_PROBE_CNT]) w
      ((if x.idle = true then s4.laneProbe sid (!failed && !passed) (evaluated && !passed) else s4).dropStrike sid x) := by
    have h2 : Keeps (.without [STL_CLIP_CNT, CHK_PROBE_CNT]) w s2 := .ite h1.bump.under_chkFlag.under_withdraw.under_cper h1
    have h3 : Keeps (.without [STL_CLIP_CNT, CHK_PROBE_CNT]) w s3 := .ite h2 h2.modStall
    have h4 : Keeps (.without [STL_CLIP_CNT, CHK_PROBE_CNT]) w s4 := .ite h3.under_laneOut.under_chkFlag.under_cper h3
    exact .under_dropStrike (.ite h4.under_laneProbe h4)
  exact ⟨(s0.references sid d.group d.range c.refs S).showRefs sid d.group x.no c.refs, h0.under_references.under_showRefs,
    hrest (Keeps.refl _ _).bump⟩

/-- Codes count their clips, a probe's codes the probe. -/
theorem strikeCodes_counted (hok : stallOk row p = true) {c : Codes} {x : Strike}
    (hx : (s.stall (stallId row p)).inflight.find? (fun x => x.stage == .issued) = some x) :
    ∃ t, exec (.strikeCodesReceived row p c) s = .next t ∧
      t.rd STL_CLIP_CNT.V (stallId row p) = (s.rd STL_CLIP_CNT.V (stallId row p) + codesClips c x.desc) % 2 ^ 64 ∧
      (x.kind = .probe → t.rd CHK_PROBE_CNT.V = (s.rd CHK_PROBE_CNT.V + 1) % 2 ^ 64) := by
  show ∃ t, execStrikeCodesReceived row p c s = .next t ∧ _
  unfold execStrikeCodesReceived
  rw [if_neg (by simp [hok])]
  dsimp only
  rw [hx]
  dsimp only
  generalize hs0 : (if x.flagged c = true then _ else _ : State) = s0
  have hclip (t : State) (ht : Keeps (.without [STL_CLIP_CNT]) s0 t) :
      t.rd STL_CLIP_CNT.V (stallId row p) = (s.rd STL_CLIP_CNT.V (stallId row p) + codesClips c x.desc) % 2 ^ 64 := by
    have h0 : Keeps (.without [STL_CLIP_CNT]) (s.bump STL_CLIP_CNT.V (stallId row p) (codesClips c x.desc)) s0 :=
      hs0 ▸ .ite (Keeps.refl _ _).flag (.refl _ _)
    rw [ht.rd, h0.rd, State.rd_bump_val _ rfl]
    rfl
  cases hk : x.kind with
  | probe =>
    rw [if_pos (by rfl)]
    obtain ⟨u, hu, ht⟩ := s0.probeCodes_counts (stallId row p) x c
    have hp0 : Keeps (.without [CHK_PROBE_CNT]) s s0 := hs0 ▸ .ite (Keeps.refl _ s).bump.flag (Keeps.refl _ s).bump
    refine ⟨_, rfl, ?_, fun _ => ?_⟩
    · rw [ht.rd, State.rd_bump_free _ rfl, hu.rd]
      exact hclip s0 (.refl _ _)
    · rw [ht.rd, State.rd_bump_val _ rfl, hu.rd, hp0.rd]
      rfl
  | work =>
    have hs : Keeps (.without [STL_CLIP_CNT]) s0 (s0.stockCodes (stallId row p) x c) := (Keeps.refl _ _).under_stockCodes
    rw [if_neg (by decide)]
    split
    · split
      · exact ⟨_, rfl, hclip _ hs.under_freshCodes, nofun⟩
      · exact ⟨_, rfl, hclip _ hs, nofun⟩
    · exact ⟨_, rfl, hclip _ (Keeps.refl _ _).under_freshCodes, nofun⟩

/-! ### Release (R104, R122, R374) -/

section
variable {no : Nat} {fresh : Bool} {x : Strike} {n : Narrow} {f : Feed}

theorem State.inflight_keepAttn (s : State) (sid : Nat) (n : Narrow) (x : Strike) :
    ((s.keepAttn sid n x).stall sid).inflight = (s.stall sid).inflight.erase x := by
  unfold State.keepAttn State.dropStrike State.putAttn
  simp [Stall.giveUp, State.freeEntries]

theorem State.inflight_discardStrike (s : State) (sid : Nat) (x : Strike) :
    ((s.discardStrike sid x).stall sid).inflight = (s.stall sid).inflight.erase x := by
  unfold State.discardStrike
  rw [(StallsKeep.refl Stall.inflight _).giveUp (fun _ => rfl) sid]
  simp [State.freeEntries, State.dropStrike]

/-- The release of one strike takes it out of the flight list, or leaves it there as the open primary of a pair. -/
theorem State.inflight_releaseStrikes (s : State) (sid : Nat) (n : Narrow) (f : Feed) (x : Strike) (entry : Bool) :
    ((s.releaseStrikes sid n f [x] entry).stall sid).inflight =
      if s.isPrimary sid x.desc.group && x.desc.stock && s.on CHK_CTL.PAIR_EN then
        (s.stall sid).inflight.map fun y => if y = x then { x with stage := .released, pairOpen := true, red := s.feedRed f, seq := n.seq } else y
      else (s.stall sid).inflight.erase x := by
  unfold State.releaseStrikes
  extract_lets s1 s2
  have h1 : Placed s s1 := (Placed.refl s).beside (Keeps.refl _ _).under_rangeOf
  have h2 : Placed s s2 := h1.deliver
  have hfly : (s2.stall sid).inflight = (s.stall sid).inflight :=
    ((StallsKeep.refl _ s).beside (Keeps.refl _ _).under_rangeOf).inflight_deliver sid
  show ((if s2.isPrimary sid x.desc.group && x.desc.stock && s2.on CHK_CTL.PAIR_EN then _ else _ : State).stall sid).inflight = _
  rw [h2.isPrimary, h2.check, h2.feedRed]
  split
  · simp only [State.setStrike, State.stall_modStall_same, hfly]
  · simp only [State.dropStrike, State.stall_modStall_same, hfly]

/-- A whole strike that is corrected leaves the flight list, or stays as the open primary of a pair. -/
theorem strike_released (hok : stallOk row p = true)
    (hx : (s.stall (stallId row p)).inflight.find? (fun x => x.stage == .corrected && x.no == no && x.desc.fresh == fresh) = some x)
    (hcopy : (x.desc.stock && s.isCopy (stallId row p) x.desc.group) = false)
    (hdone : (s.stall (stallId row p)).passesDone x.desc.tag (outOf x.desc) = true)
    (hrec : (s.stall (stallId row p)).record x.desc.tag = some n) (hfeed : n.feed (outOf x.desc) = some f) (hhalf : x.half = 0)
    (hopen : x.desc.stock = true → s.isPrimary (stallId row p) x.desc.group = true → s.on CHK_CTL.PAIR_EN = true → s.openCount n.seq < 64) :
    ∃ t, exec (.strikeRelease row p no fresh) s = .next t ∧ (t.stall (stallId row p)).inflight =
      (if !n.void.contains (outOf x.desc) && !f.attn && s.isPrimary (stallId row p) x.desc.group && x.desc.stock && s.on CHK_CTL.PAIR_EN then
        (s.stall (stallId row p)).inflight.map fun y => if y = x then { x with stage := .released, pairOpen := true, red := s.feedRed f, seq := n.seq } else y
       else (s.stall (stallId row p)).inflight.erase x) := by
  have hroom : ¬(x.desc.stock && x.half != 2 && s.isPrimary (stallId row p) x.desc.group && s.on CHK_CTL.PAIR_EN &&
      decide (64 ≤ s.openCount ((((s.stall (stallId row p)).record x.desc.tag).map (·.seq)).getD 0xFFFF))) = true := by
    simp only [hrec, Option.map_some, Option.getD_some, Bool.and_eq_true, decide_eq_true_eq, not_and, not_le]
    exact fun ⟨⟨⟨hs, _⟩, hp⟩, ho⟩ => hopen hs hp ho
  have hbind : (((s.stall (stallId row p)).record x.desc.tag).bind fun n => (n.feed (outOf x.desc)).map fun f => (n, f)) = some (n, f) := by
    rw [hrec, Option.bind_some, hfeed, Option.map_some]
  show ∃ t, execStrikeRelease row p no fresh s = .next t ∧ _
  unfold execStrikeRelease
  rw [if_neg (by simp [hok])]
  dsimp only
  rw [hx]
  dsimp only
  rw [if_neg (by omega), if_neg hroom, if_neg (by simp [hcopy]), if_neg (by simp [hdone]), hbind]
  dsimp only
  cases hv : n.void.contains (outOf x.desc) with
  | true => exact ⟨_, rfl, s.inflight_discardStrike _ x⟩
  | false =>
    cases ha : f.attn with
    | true => exact ⟨_, rfl, s.inflight_keepAttn _ n x⟩
    | false =>
      rw [if_neg (by decide), if_neg (by decide), if_pos hhalf]
      exact ⟨_, rfl, s.inflight_releaseStrikes _ n f x _⟩

end

/-! ### Trims (R93, R467) -/

theorem trimData_written {k val : Nat} (hrow : row < 192) (hr : s.boot.inReset.contains (12288 + row) = false) :
    ∃ t, exec (.trimDataWrite (.clerk k) row val) s = .next t ∧
      FMap.get 0 (t.stall (stallId row (s.rd TAL_TRIM_SEL.STALL row))).trimsTo (s.rd TAL_TRIM_SEL.COLUMN row) = val % 2 ^ 30 ∧
      FMap.get (0, 0) (t.stall (stallId row (s.rd TAL_TRIM_SEL.STALL row))).trimStep (s.rd TAL_TRIM_SEL.COLUMN row / 1024) = (1, 0) := by
  refine ⟨_, rfl, ?_⟩
  rw [State.talWrite_clerk hrow hr]
  have hk (off : Nat) : Keeps (.without [TAL_TRIM_SEL]) s ((s.accessed (.clerk k) off).wakeRow row) := (Keeps.refl _ s).accessed.wakeRow
  rw [(hk _).rd (f := TAL_TRIM_SEL.STALL), (hk _).rd (f := TAL_TRIM_SEL.COLUMN)]
  unfold State.setTrim
  simp only [State.stall_modStall_same]
  exact ⟨FMap.get_set_same .., FMap.get_set_same ..⟩

theorem trim_stepped (hok : stallOk row p = true) {group n k : Nat} (hg : group < 5)
    (hstep : FMap.get (0, 0) (s.stall (stallId row p)).trimStep group = (n, k)) (hn : n ≠ 0) (hk : (if n = 1 then 0 else 16) ≤ k) :
    ∃ t, exec (.trimStep row p group) s = .next t ∧
      FMap.get (0, 0) (t.stall (stallId row p)).trimStep group = (if n = 16 then (0, 0) else (n + 1, 0)) ∧
      t.rd CAL_STALL_STAT.STEP (stallId row p) = n % 32 := by
  have hdue : (s.stall (stallId row p)).trimDue group = some n := by
    unfold Stall.trimDue
    rw [hstep]
    exact if_pos ⟨hn, hk⟩
  refine ⟨_, rfl, ?_⟩
  rw [if_pos (by simp [hok, hg])]
  unfold State.trimStep
  extract_lets st
  split
  next h => rw [show st.trimDue group = some n from hdue] at h; cases h
  next m h =>
  obtain rfl : m = n := Option.some.inj (h.symm.trans hdue)
  extract_lets st1 s0 s1
  have h1 : Keeps ⟨fun q => q != .stalls, fun r => r != CAL_STALL_STAT⟩ s0 s1 := .ite (Keeps.refl _ s0).under_touchupDue (.refl _ s0)
  have hst : (s1.stall (stallId row p)) = st1 := by
    rw [State.stall_congr (h1.part .stalls rfl), State.stall_wr, State.stall_setStall_same]
  have hrd : s1.rd CAL_STALL_STAT.STEP (stallId row p) = m % 32 := by
    rw [h1.rd, State.rd_wr_val _ rfl]
    rfl
  have hto : FMap.get (0, 0) st1.trimStep group = (if m = 16 then (0, 0) else (m + 1, 0)) := FMap.get_set_same ..
  split
  · rw [State.stall_wr, State.rd_wr_free _ rfl, hst]
    exact ⟨hto, hrd⟩
  · rw [hst]
    exact ⟨hto, hrd⟩

/-! ### Overflow passes (R98, R99) -/

theorem State.passRow_congr (h : t.slots = s.slots) (f : Feed) : t.passRow f = s.passRow f := by
  rw [State.passRow, State.genOf, State.slot_congr h, State.passRow]
  rfl

/-- The end of a pass at any state whose count is that of `s`. -/
theorem State.passEnd_counts {u : State} {sid : Nat} {st : Stall} {q : Pass} {w : Nat} {lane : List (Nat × Word32)} (f : State → State)
    (hu : Keeps (.without [TAL_OUT_PASS_CNT]) s u) (hf : ∀ v, Keeps (.without [TAL_OUT_PASS_CNT]) v (f v) ∧ Keeps .noStalls v (f v)) :
    ((f ((((u.setStall sid st).bump TAL_OUT_PASS_CNT.V row).bump TAL_OUT_WIDE_OVF_CNT.V row w).passResidue sid q lane)).stall sid).passes = st.passes ∧
      (f ((((u.setStall sid st).bump TAL_OUT_PASS_CNT.V row).bump TAL_OUT_WIDE_OVF_CNT.V row w).passResidue sid q lane)).rd TAL_OUT_PASS_CNT.V row =
        (s.rd TAL_OUT_PASS_CNT.V row + 1) % 2 ^ 64 := by
  constructor
  · rw [State.stall_congr ((hf _).2.part .stalls rfl), (StallsKeep.refl Stall.passes _).passes_passResidue sid]
    simp
  · rw [(hf _).1.rd, ((Keeps.refl (.without [TAL_OUT_PASS_CNT]) _).under_passResidue).rd, State.rd_bump_free _ rfl, State.rd_bump_val _ rfl]
    rw [hu.setStall.rd]
    rfl

theorem pass_ends (hok : stallOk row p = true) {ended : PassEnd} {q : Pass} {ps : List Pass} (hps : (s.stall (stallId row p)).passes = q :: ps)
    (hfail : q.failed = false)
    (hrow : (s.stall (stallId row p)).cache.contains (s.rowKey q.feed q.chan) = true ∨
      (s.passRow q.feed = true ∧ s.ueIn q.feed.slot q.feed.gen (s.feedShard q.feed) ended.err.ue = none ∧
        ((s.genOf q.feed.slot q.feed.gen).bind fun g => s.readShard q.feed.slot g (s.feedShard q.feed)).isSome = true)) :
    ∃ t, exec (.overflowPassEnd row p ended) s = .next t ∧ (t.stall (stallId row p)).passes = ps ∧
      t.rd TAL_OUT_PASS_CNT.V row = (s.rd TAL_OUT_PASS_CNT.V row + 1) % 2 ^ 64 := by
  show ∃ t, execOverflowPassEnd row p ended s = .next t ∧ _
  unfold execOverflowPassEnd
  rw [if_neg (by simp [hok])]
  dsimp only
  rw [hps]
  dsimp only
  rw [if_neg (by simp [hfail])]
  by_cases hc : (s.stall (stallId row p)).cache.contains (s.rowKey q.feed q.chan) = true
  · rw [if_pos hc]
    exact ⟨_, rfl, State.passEnd_counts id (.refl _ s) fun v => ⟨.refl _ v, .refl _ v⟩⟩
  · obtain ⟨hpass, hue, hopens⟩ := hrow.resolve_left hc
    have hread : Keeps ⟨fun x => x != .slots, fun _ => true⟩ s (s.shardRead q.feed.slot q.feed.gen (s.feedShard q.feed) ended.err) :=
      (Keeps.refl _ s).under_shardRead
    rw [if_neg hc, if_pos hpass, if_pos]
    · exact ⟨_, rfl, State.passEnd_counts (State.bump · TAL_OUT_FETCH_CNT.V row) (Keeps.refl _ s).under_shardRead
        fun v => ⟨(Keeps.refl _ v).bump, (Keeps.refl _ v).bump⟩⟩
    · rw [hue, hopens, State.passRow_congr (hread.part .slots rfl), hpass]
      rfl

theorem ledgerRow_retried (hok : stallOk row p = true) {q : Pass} {ps : List Pass} (hps : (s.stall (stallId row p)).passes = q :: ps)
    (hfail : q.failed = true) (hrow : s.passRow q.feed = true) :
    ∃ t, exec (.ledgerRowRetry row p) s = .next t ∧ (t.stall (stallId row p)).passes = { q with failed := false } :: ps := by
  show ∃ t, execLedgerRowRetry row p s = .next t ∧ _
  unfold execLedgerRowRetry
  rw [if_neg (by simp [hok])]
  dsimp only
  rw [hps]
  dsimp only
  rw [if_pos (by simp [hfail, hrow])]
  exact ⟨_, rfl, by rw [State.stall_setStall_same]⟩

/-! ### Clipped strikes (R122) -/

/-- A descriptor waits in the queue of a stall or before it. -/
def Stall.waits (st : Stall) (d : Desc) : Prop := d ∈ st.queue ++ st.held

theorem State.waits_pushDesc (s : State) (sid : Nat) (d : Desc) : ((s.pushDesc sid d).stall sid).waits d := by
  cases h : s.holds sid d with
  | true => rw [State.pushDesc_of_held h, State.stall_setStall_same]; simp [Stall.waits]
  | false => rw [State.pushDesc_of_taken h, State.stall_setStall_same]; simp [Stall.waits]

theorem State.waits_pushDesc_of {sid : Nat} {d : Desc} (hd : (s.stall sid).waits d) (e : Desc) : ((s.pushDesc sid e).stall sid).waits d := by
  have hd' : d ∈ (s.stall sid).queue ∨ d ∈ (s.stall sid).held := List.mem_append.1 hd
  cases h : s.holds sid e with
  | true => rw [State.pushDesc_of_held h, State.stall_setStall_same]; simpa [Stall.waits, or_assoc] using hd'.imp_right .inl
  | false => rw [State.pushDesc_of_taken h, State.stall_setStall_same]; simpa [Stall.waits, or_assoc] using hd'.imp_right .inr

/-- Descriptors that are pushed one after the other all wait. -/
theorem State.waits_pushAll {sid : Nat} {d : Desc} {ds : List Desc} (hd : d ∈ ds ∨ (s.stall sid).waits d) :
    ((ds.foldl (fun s d => s.pushDesc sid d) s).stall sid).waits d := by
  induction ds generalizing s with
  | nil => exact hd.resolve_left List.not_mem_nil
  | cons e ds ih =>
    refine ih ?_
    rcases hd with hd | hd
    · rcases List.mem_cons.1 hd with rfl | hd
      · exact .inr (s.waits_pushDesc sid d)
      · exact .inl hd
    · exact .inr (State.waits_pushDesc_of hd e)

theorem State.waits_restrike (s : State) (sid : Nat) (x : Strike) {d : Desc} {ds : List Desc} (hd : d ∈ ds) :
    ((s.restrike sid x ds).stall sid).waits d := State.waits_pushAll (.inl hd)

theorem clip_replayed (hok : stallOk row p = true) {no r : Nat} {fresh : Bool} {x : Strike}
    (hx : s.clippedOf (stallId row p) no fresh = some x) (hr : clipNext x = .replay r) :
    ∃ t, exec (.clipReplay row p no fresh) s = .next t ∧
      (if x.desc.stock then { x.desc with replay := true, range := r } else { x.desc with replay := true, frange := r }) ∈
        (t.stall (stallId row p)).queue ++ (t.stall (stallId row p)).held ∧
      (x.desc.trans = false → t.rd TAL_NQ_CLIP_REPLAY_CNT.V row = (s.rd TAL_NQ_CLIP_REPLAY_CNT.V row + 1) % 2 ^ 64) := by
  show ∃ t, execClipReplay row p no fresh s = .next t ∧ _
  unfold execClipReplay
  rw [if_neg (by simp [hok])]
  dsimp only
  rw [hx]
  dsimp only
  rw [hr]
  refine ⟨_, rfl, State.waits_restrike _ _ _ (List.mem_singleton.2 rfl), fun ht => ?_⟩
  rw [if_neg (by simp [ht]), ((Keeps.refl (.without [TAL_NQ_CLIP_REPLAY_CNT]) _).under_restrike).rd, State.rd_bump_val _ rfl]
  rfl

theorem clip_split (hok : stallOk row p = true) {no : Nat} {fresh : Bool} {x : Strike}
    (hx : s.clippedOf (stallId row p) no fresh = some x) (hr : clipNext x = .split) :
    ∃ t, exec (.clipSplit row p no fresh) s = .next t ∧
      (∀ m, m = lowHalf x.origMask ∨ m = x.origMask - lowHalf x.origMask →
        { x.desc with replay := true, range := min (x.origRange + 2) 15, mask := m } ∈ (t.stall (stallId row p)).queue ++ (t.stall (stallId row p)).held) ∧
      t.rd TAL_NQ_SPLIT_CNT.V row = (s.rd TAL_NQ_SPLIT_CNT.V row + 1) % 2 ^ 64 := by
  show ∃ t, execClipSplit row p no fresh s = .next t ∧ _
  unfold execClipSplit
  rw [if_neg (by simp [hok])]
  dsimp only
  rw [hx]
  dsimp only
  rw [hr]
  refine ⟨_, rfl, ?_, ?_⟩
  · rintro m (rfl | rfl)
    · exact State.waits_restrike _ _ _ List.mem_cons_self
    · exact State.waits_restrike _ _ _ (List.mem_cons_of_mem _ List.mem_cons_self)
  · rw [((Keeps.refl (.without [TAL_NQ_SPLIT_CNT]) _).under_restrike).rd, State.rd_bump_val _ rfl]
    rfl

/-! ### The ideal transfer (R47, R50, R60) -/

theorem Dy.rne_of_exp_zero (m : Int) : Dy.rne ⟨m, 0⟩ = m := by
  simp only [Dy.rne, ge_iff_le, le_refl, if_true, Int.toNat_zero, pow_zero, mul_one]
  split <;> simp only [Int.ofNat_eq_natCast] <;> omega

/-- The ideal transfer gives a code back from its value, or the end of the span. -/
theorem idealAt_value (k : Int) (mid top code : Nat) : idealAt k mid top ⟨Int.ofNat code - Int.ofNat mid, k⟩ = min code top := by
  have hexp : (Dy.mul ⟨Int.ofNat code - Int.ofNat mid, k⟩ ⟨1, -k⟩) = ⟨Int.ofNat code - Int.ofNat mid, 0⟩ := by
    simp only [Dy.mul, mul_one, add_neg_cancel]
  rw [idealAt, hexp, Dy.rne_of_exp_zero]
  simp only [Int.ofNat_eq_natCast]
  omega

theorem idealCode_stockValue (d : Desc) (code : Nat) : idealCode d (stockValue d code) = min code (topCode d) := by
  unfold idealCode stockValue topCode
  split
  · exact idealAt_value _ 32 63 code
  · split
    · exact idealAt_value _ 2048 4095 code
    · exact idealAt_value _ 128 255 code

theorem idealFresh_freshValue (d : Desc) (code : Nat) : idealFresh d (freshValue d code) = min code 255 := idealAt_value _ 128 255 code

end Sys2Proof.Machine

namespace Sys2Proof

open Machine

/-- Settles O5, clause by clause: each command is followed through its branches, and what its later operations leave alone comes from their footprints. -/
theorem correctionCommandsComplete : Obligations.CorrectionCommandsComplete := fun _ _ _ hok =>
  ⟨fun _ _ => strikeCodes_counted hok, fun _ _ _ _ _ => strike_released hok, fun _ _ => trimData_written (lt_of_stallOk hok).1,
    fun _ _ _ => trim_stepped hok, fun _ _ _ => pass_ends hok, fun _ _ => ledgerRow_retried hok, fun _ _ _ _ => clip_replayed hok,
    fun _ _ _ => clip_split hok, fun d code => ⟨fun h => (idealCode_stockValue d code).trans (min_eq_left h),
      fun h => (idealCode_stockValue d code).trans (min_eq_right h), fun h => (idealFresh_freshValue d code).trans (min_eq_left h),
      fun h => (idealFresh_freshValue d code).trans (min_eq_right h)⟩⟩

end Sys2Proof
end

section
/-! PROOF. O7: markers, reduction outputs and drains. -/

namespace Sys2Proof.Machine

set_option Elab.async false

variable {s t u : State} {row p sid : Nat}

theorem rowOf_stallId_of_lt (h : p < 64) : rowOf (stallId row p) = row := by
  simp only [rowOf, stallId]
  omega

/-! ### Refusal markers (R46, R157) -/

theorem Keeps.under_dropRefused {F : Footprint} {s₀ : State} (h : Keeps F s₀ s) {tag g : Nat}
    (hF : F.Covers [.stalls] [TAL_ACC_STAT] := by exact rfl) : Keeps F s₀ (s.dropRefused sid tag g) :=
  .under_giveUp ((h.modStall hF.sub).foldl fun _ _ h => h.under_discardStrike hF) hF.sub

theorem StallsKeep.markers_discardStrike {s₀ : State} (h : StallsKeep Stall.markers s₀ s) {x : Strike} :
    StallsKeep Stall.markers s₀ (s.discardStrike sid x) := by
  have hdrop : StallsKeep Stall.markers s₀ (s.dropStrike sid x) := h.modStall fun _ => rfl
  exact (hdrop.beside (Keeps.refl _ _).under_freeEntries).giveUp fun _ => rfl

theorem StallsKeep.markers_dropRefused {s₀ : State} (h : StallsKeep Stall.markers s₀ s) {tag g : Nat} :
    StallsKeep Stall.markers s₀ (s.dropRefused sid tag g) := by
  have hvoid : StallsKeep Stall.markers s₀ (s.modStall sid fun st => st.markVoid tag fun f => f.group == g) := h.modStall fun _ => rfl
  exact (hvoid.foldl fun _ _ hu => hu.markers_discardStrike).giveUp fun _ => rfl

/-- A part that is handed over leaves the markers of every stall. -/
theorem StallsKeep.markers_handPart {s₀ : State} (h : StallsKeep Stall.markers s₀ s) {tag g : Nat} {marker : Bool} :
    StallsKeep Stall.markers s₀ (s.handPart sid tag g marker) := by
  unfold State.handPart
  split
  · split
    · extract_lets row s1 i i1
      have h1 : StallsKeep Stall.markers s₀ s1 := .ite (h.beside (Keeps.refl _ _).bump.under_accFlag) h
      exact .markers_dropRefused (.ite h1 (.ite (h1.beside (Keeps.refl _ _).under_setInst) (h1.beside (Keeps.refl _ _).under_handInst)))
    · exact h.markers_dropRefused
  · exact h.markers_dropRefused

/-- The part of a marker is flagged and counted at its row. -/
theorem State.handPart_counts {tag g : Nat} {n : Narrow} {f : Feed} {gen : Gen} (hrec : (s.stall sid).record tag = some n)
    (hfeed : n.feed g = some f) (hgen : s.genOf f.slot f.gen = some gen) :
    (s.handPart sid tag g true).on TAL_ACC_ERR.REFUSED (rowOf sid) = true ∧
      (s.handPart sid tag g true).rd TAL_ACC_REFUSED_CNT.V (rowOf sid) = (s.rd TAL_ACC_REFUSED_CNT.V (rowOf sid) + 1) % 2 ^ 64 := by
  have hbind : (((s.stall sid).record tag).bind fun n => (n.feed g).map fun f => (n, f)) = some (n, f) := by
    rw [hrec, Option.bind_some, hfeed, Option.map_some]
  unfold State.handPart
  rw [hbind]
  dsimp only
  rw [hgen]
  dsimp only
  rw [if_pos rfl]
  generalize hs1 : (s.bump TAL_ACC_REFUSED_CNT.V (rowOf sid)).accFlag TAL_ACC_ERR.REFUSED (rowOf sid) (posOf sid) = s1
  have hrest (v : State) (hv : Keeps (.without [TAL_ACC_ERR, TAL_ACC_REFUSED_CNT]) s1 v) :
      (v.dropRefused sid tag g).on TAL_ACC_ERR.REFUSED (rowOf sid) = true ∧
        (v.dropRefused sid tag g).rd TAL_ACC_REFUSED_CNT.V (rowOf sid) = (s.rd TAL_ACC_REFUSED_CNT.V (rowOf sid) + 1) % 2 ^ 64 := by
    have hd : Keeps (.without [TAL_ACC_ERR, TAL_ACC_REFUSED_CNT]) s1 (v.dropRefused sid tag g) := hv.under_dropRefused
    rw [hd.on, hd.rd, ← hs1]
    refine ⟨State.on_flagAt_val _ rfl _ _, ?_⟩
    rw [((Keeps.refl (.without [TAL_ACC_REFUSED_CNT]) _).under_accFlag).rd, State.rd_bump_val _ rfl]
    rfl
  split
  · exact hrest _ (.refl _ _)
  · split
    · exact hrest _ (Keeps.refl _ _).under_setInst
    · exact hrest _ (Keeps.refl _ _).under_handInst

theorem marker_refused (hok : stallOk row p = true) {d : Desc} {ds : List Desc} (hm : (s.stall (stallId row p)).markers = d :: ds) :
    ∃ t, exec (.refusalMarker row p) s = .next t ∧ (t.stall (stallId row p)).markers = ds ∧
      (∀ n f g, d.stock = true → d.fresh = false → (s.stall (stallId row p)).record d.tag = some n → n.feed d.group = some f →
        s.genOf f.slot f.gen = some g →
        t.on TAL_ACC_ERR.REFUSED row = true ∧ t.rd TAL_ACC_REFUSED_CNT.V row = (s.rd TAL_ACC_REFUSED_CNT.V row + 1) % 2 ^ 64) := by
  show ∃ t, execRefusalMarker row p s = .next t ∧ _
  unfold execRefusalMarker
  rw [if_neg (by simp [hok])]
  dsimp only
  rw [hm]
  dsimp only
  generalize hs1 : s.modStall (stallId row p) (fun st => { st with markers := ds }) = s1
  have hst : s1.stall (stallId row p) = { s.stall (stallId row p) with markers := ds } := by rw [← hs1, State.stall_modStall_same]
  have h1 : StallsKeep Stall.markers s1 s1 := .refl _ _
  have h2 : StallsKeep Stall.markers s1 (if d.stock = true then s1.handPart (stallId row p) d.tag d.group true else s1) :=
    .ite h1.markers_handPart h1
  refine ⟨_, rfl, ?_, ?_⟩
  · rw [(StallsKeep.ite h2.markers_handPart h2 : StallsKeep Stall.markers s1 (if d.fresh = true then _ else _)) (stallId row p), hst]
  · intro n f g hstock hfresh hrec hfeed hgen
    have hc := State.handPart_counts (s := s1) (sid := stallId row p) (tag := d.tag) (by rw [hst]; exact hrec) hfeed (by rw [← hs1]; exact hgen)
    rw [rowOf_stallId_of_lt (by have := (lt_of_stallOk hok).2; omega)] at hc
    rw [if_neg (by simp [hfresh]), if_pos hstock]
    exact ⟨hc.1, by rw [hc.2, ← hs1]; rfl⟩

/-! ### Reduction outputs (R149, R155, R168) -/

theorem State.instOf_congr (h : t.row row = s.row row) (red tag : Nat) : t.instOf row red tag = s.instOf row red tag := by
  rw [State.instOf, h, State.instOf]

/-- A closed instance is gone. -/
theorem State.instOf_closeInst (s : State) (row red tag : Nat) : (s.closeInst row red tag).instOf row red tag = none := by
  unfold State.instOf State.closeInst
  rw [State.row_modRow_same, List.find?_eq_none]
  intro x hx
  simpa only [Bool.not_eq_true', Bool.not_eq_true] using (List.mem_filter.1 hx).2

theorem State.row_joinPart_ne {r red slot gen tag seq : Nat} {g : Gen} {sp : Nat × Nat} {vals : List Word32} (h : row ≠ r) :
    (s.joinPart r red slot gen tag seq g sp vals).row row = s.row row := by
  unfold State.joinPart State.setInst
  exact State.row_modRow_ne s h _

theorem State.row_keepSeen_ne {r : Nat} {i : Inst} (h : row ≠ r) : (s.keepSeen r i).row row = s.row row := by
  unfold State.keepSeen
  split
  · exact State.row_modRow_ne s h _
  · rfl

section
variable {red tag : Nat} {i : Inst} {g : Gen} {r : RedRec} (hi : s.instOf row red tag = some i) (hg : s.genOf i.slot i.gen = some g)
  (hr : g.red red = some r) (hdone : i.localDone r row = true)
include hi hg hr hdone

/-- The row that forms the tree sends its output and closes the instance. -/
theorem output_sent (hdev : r.outDev = 0xFF) (hrow : r.outRow = row) (hrem : i.remoteDone r row = true) :
    ∃ t, exec (.reductionOutput row red tag) s = .next t ∧ t.instOf row red tag = none ∧
      t.outbox = s.outbox ++ [.vector row red tag ((List.range (((List.range 8).map fun e => (i.cols e).length).foldl max 0)).map fun c =>
        canonNan (tree fun e => ((i.cols e).getD c Col.init).acc).1)] := by
  show ∃ t, execReductionOutput row red tag s = .next t ∧ _
  unfold execReductionOutput
  rw [hi]
  dsimp only
  rw [hg]
  dsimp only
  rw [hr]
  dsimp only
  rw [if_neg (by simp [hdone]), if_pos (by simp [hdev, hrow]), if_pos hrem]
  refine ⟨_, rfl, State.instOf_closeInst _ _ _ _, ?_⟩
  generalize hs2 : (if _ = 0 then _ else _ : State) = s2
  have h2 : Keeps ⟨fun q => q != .outbox, fun _ => true⟩ s s2 := by
    rw [← hs2]
    exact .ite (Keeps.refl _ s).under_countAcc.bump (Keeps.refl _ s).under_countAcc.bump.under_accFlag
  show s2.outbox ++ [_] = _
  rw [show s2.outbox = s.outbox from h2.part .outbox rfl, List.map_map]
  rfl

/-- The row that forms parts for another row or device closes the instance as well. -/
theorem parts_sent (hout : r.outDev ≠ 0xFF ∨ r.outRow ≠ row) :
    ∃ t, exec (.reductionOutput row red tag) s = .next t ∧ t.instOf row red tag = none := by
  show ∃ t, execReductionOutput row red tag s = .next t ∧ _
  unfold execReductionOutput
  rw [hi]
  dsimp only
  rw [hg]
  dsimp only
  rw [hr]
  dsimp only
  rw [if_neg (by simp [hdone]), if_neg (by simpa [imp_iff_not_or] using hout)]
  by_cases hdev : r.outDev = 0xFF
  · have hne : row ≠ r.outRow := fun h => hout.elim (· hdev) (· h.symm)
    rw [if_pos hdev]
    refine ⟨_, rfl, ?_⟩
    rw [State.instOf_congr (State.row_keepSeen_ne hne),
      State.instOf_congr (foldl_keeps (f := fun u => State.row u row) (fun _ _ => State.row_joinPart_ne hne) _ _)]
    exact State.instOf_closeInst _ _ _ _
  · rw [if_neg hdev]
    refine ⟨_, rfl, ?_⟩
    rw [State.instOf_congr (foldl_keeps (f := fun u => State.row u row)
      (fun u _ => State.row_congr (((Keeps.refl ⟨fun q => q != .rows, fun _ => true⟩ u).under_queueCart).part .rows rfl) row) _ _)]
    exact State.instOf_closeInst _ _ _ _

end

/-! ### The busy bits of a row (R162) -/

/-- A word without one of its bits. -/
theorem testBit_without (w p k : Nat) : (w - (if w.testBit p then 2 ^ p else 0)).testBit k = (w.testBit k && decide (k ≠ p)) := by
  have hand : (if w.testBit p then 2 ^ p else 0) = w &&& 2 ^ p := by
    rw [Nat.and_two_pow]
    cases w.testBit p <;> simp
  rw [hand, testBit_sub_and, Nat.testBit_two_pow]
  simp [eq_comm]

/-- A word with a bit added that it did not have. -/
theorem testBit_with {v p : Nat} (h : v.testBit p = false) (k : Nat) : (v + 2 ^ p).testBit k = (v.testBit k || decide (k = p)) := by
  have hp : (v + 2 ^ p).testBit p = true := by rw [Nat.add_comm, Nat.testBit_two_pow_add_eq, h]; rfl
  by_cases hk : k = p
  · subst hk
    simp [hp]
  · have hv := testBit_without (v + 2 ^ p) p k
    rw [if_pos hp, Nat.add_sub_cancel] at hv
    simp [hv, hk]

/-- The busy bit of a stall is written, the other bits of its row stand. -/
theorem State.bitAt_setBusy (s : State) (sid : Nat) (b : Bool) {k : Nat} (hk : k < 33) :
    bitAt ((s.setBusy sid b).rd TAL_ACC_STAT.DRAIN_BUSY (rowOf sid)) k =
      if k = posOf sid then b else bitAt (s.rd TAL_ACC_STAT.DRAIN_BUSY (rowOf sid)) k := by
  unfold State.setBusy
  rw [State.rd_wr_val _ rfl]
  simp only [bitAt_eq_testBit]
  show Nat.testBit (_ % 2 ^ 33) k = _
  rw [Nat.testBit_mod_two_pow, decide_eq_true hk, Bool.true_and]
  have hoff := testBit_without (s.rd TAL_ACC_STAT.DRAIN_BUSY (rowOf sid)) (posOf sid)
  cases b with
  | true =>
    rw [if_pos rfl, testBit_with (by simp [hoff]), hoff]
    by_cases h : k = posOf sid <;> simp [h]
  | false =>
    rw [if_neg (by decide), hoff]
    by_cases h : k = posOf sid <;> simp [h]

/-! ### Drains of one stall among those of its row (R162) -/

/-- Of the stall at a position, what a drain command of another stall of the row leaves: the stall, its state and its busy bit. -/
structure PosKept (row p : Nat) (s t : State) : Prop where
  stall : t.stall (stallId row p) = s.stall (stallId row p)
  state : t.stState (stallId row p) = s.stState (stallId row p)
  busy  : bitAt (t.rd TAL_ACC_STAT.DRAIN_BUSY row) p = bitAt (s.rd TAL_ACC_STAT.DRAIN_BUSY row) p

theorem PosKept.refl (row p : Nat) (s : State) : PosKept row p s s := ⟨rfl, rfl, rfl⟩

theorem PosKept.trans (h : PosKept row p s t) (k : PosKept row p t u) : PosKept row p s u :=
  ⟨k.stall.trans h.stall, k.state.trans h.state, k.busy.trans h.busy⟩

/-- Where every other stall is kept and the busy bits as well, the stall is. -/
theorem PosKept.of_others {q : Nat} (hok : stallOk row p = true) (hne : stallId row p ≠ stallId row q)
    (h : OthersKept (stallId row q) s t) (hb : bitAt (t.rd TAL_ACC_STAT.DRAIN_BUSY row) p = bitAt (s.rd TAL_ACC_STAT.DRAIN_BUSY row) p) :
    PosKept row p s t where
  stall := h.stall _ hne
  state := by
    simp only [State.stState, State.rd, h.reg _ (stallId_lt hok) hne STL_STAT.STATE.reg rfl (by decide)]
  busy := hb

theorem stallId_ne_of_pos {q : Nat} (hpq : p ≠ q) : stallId row p ≠ stallId row q := by
  simp only [stallId]
  omega

section
variable {q : Nat} (hp : stallOk row p = true) (hq : stallOk row q = true) (hpq : p ≠ q)
include hp hq hpq

theorem PosKept.drainReq (s : State) (who : Requester) : PosKept row p s (s.drainReq (stallId row q) who) := by
  refine .of_others hp (stallId_ne_of_pos hpq) ((OthersKept.refl _ s).drainReq (stallId_lt hq)) ?_
  have hlt := (lt_of_stallOk hq).2
  have hbusy : bitAt (((s.modStall (stallId row q) fun st => { st with
        drains := if st.drains.contains who then st.drains else st.drains ++ [who], drained := false, early := st.early.erase who }).setBusy
        (stallId row q) true).rd TAL_ACC_STAT.DRAIN_BUSY row) p = bitAt (s.rd TAL_ACC_STAT.DRAIN_BUSY row) p := by
    have h := State.bitAt_setBusy (s.modStall (stallId row q) fun st => { st with
        drains := if st.drains.contains who then st.drains else st.drains ++ [who], drained := false, early := st.early.erase who })
        (stallId row q) true (lt_of_stallOk hp).2
    rw [rowOf_stallId_of_lt (by omega), posOf_stallId (by omega), if_neg hpq] at h
    exact h
  unfold State.drainReq
  dsimp only
  split
  · rw [State.setStState, State.rd_wr_free _ rfl]
    exact hbusy
  · exact hbusy

theorem PosKept.drainRel (s : State) (who : Requester) : PosKept row p s (s.drainRel (stallId row q) who) := by
  refine .of_others hp (stallId_ne_of_pos hpq) ((OthersKept.refl _ s).drainRel (stallId_lt hq)) ?_
  rw [((Keeps.refl (.without [TAL_ACC_STAT]) s).under_drainRel).rd]

end

/-- In a list without repetition one element is worked on once, and what the others keep of it stands before and after. -/
theorem foldl_once {α β : Type} {P : α → α → Prop} {f : α → β → α} {x : β} (hrefl : ∀ u, P u u) (htrans : ∀ u v w, P u v → P v w → P u w)
    {l : List β} (hf : ∀ u, ∀ y ∈ l, y ≠ x → P u (f u y)) (hnd : l.Nodup) (hx : x ∈ l) (s : α) :
    ∃ u, P s u ∧ P (f u x) (l.foldl f s) := by
  have hkeep (m : List β) (hm : ∀ y ∈ m, y ∈ l) (hxm : x ∉ m) (u : α) : P u (m.foldl f u) := by
    induction m generalizing u with
    | nil => exact hrefl u
    | cons y m ih =>
      exact htrans _ _ _ (hf u y (hm y List.mem_cons_self) fun e => hxm (e ▸ List.mem_cons_self))
        (ih (fun z hz => hm z (List.mem_cons_of_mem y hz)) (fun h => hxm (List.mem_cons_of_mem y h)) _)
  obtain ⟨a, b, rfl⟩ := List.append_of_mem hx
  obtain ⟨-, hb, hab⟩ := List.nodup_append.1 hnd
  refine ⟨a.foldl f s, hkeep a (fun y hy => List.mem_append_left _ hy) (fun h => hab x h x List.mem_cons_self rfl) s, ?_⟩
  rw [List.foldl_append, List.foldl_cons]
  exact hkeep b (fun y hy => List.mem_append_right _ (List.mem_cons_of_mem x hy)) (List.nodup_cons.1 hb).1 _

theorem nodup_drainTargets (row target : Nat) : (drainTargets row target).Nodup := by
  unfold drainTargets
  split
  · exact List.Nodup.map (fun a b h => by simp only [stallId] at h; omega) List.nodup_range
  · split
    · exact List.nodup_singleton _
    · exact List.nodup_nil

theorem mem_drainTargets {target : Nat} (hp : p < 33) (ht : target = p ∨ target = 63) : stallId row p ∈ drainTargets row target := by
  unfold drainTargets
  rcases ht with rfl | rfl
  · rw [if_neg (by omega), if_pos hp]
    exact List.mem_singleton.2 rfl
  · rw [if_pos rfl]
    exact List.mem_map.2 ⟨p, List.mem_range.2 hp, rfl⟩

theorem of_mem_drainTargets {target x : Nat} (h : x ∈ drainTargets row target) : ∃ q < 33, x = stallId row q := by
  unfold drainTargets at h
  split at h
  · obtain ⟨q, hq, rfl⟩ := List.mem_map.1 h
    exact ⟨q, List.mem_range.1 hq, rfl⟩
  · split at h
    next hlt => exact ⟨target, hlt, List.mem_singleton.1 h⟩
    · cases h

/-- A drain command of a clerk works on the stall once, from a state that keeps it, and its other stalls leave it. -/
theorem drain_once {k target off : Nat} {f : State → Nat → State} (hrow : row < 192) (hp : p < 33) (ht : target = p ∨ target = 63)
    (hr : s.boot.inReset.contains (12288 + row) = false)
    (hf : ∀ u q, q < 33 → q ≠ p → PosKept row p u (f u (stallId row q))) :
    ∃ u, PosKept row p s u ∧ PosKept row p (f u (stallId row p))
      (s.talWrite (.clerk k) row off fun s => (drainTargets row target).foldl f s) := by
  rw [State.talWrite_clerk hrow hr]
  have hok : stallOk row p = true := by simp [stallOk, hrow, hp]
  generalize hs1 : (s.accessed (.clerk k) (0x1100000 + 0x4000 * row + off)).wakeRow row = s1
  have hk : Keeps .offStalls s s1 := hs1 ▸ (Keeps.refl _ s).accessed.off_wakeRow
  have hb : Keeps (.without [TAL_ACC_STAT]) s s1 := hs1 ▸ (Keeps.refl _ s).accessed.wakeRow
  have h1 : PosKept row p s s1 :=
    ⟨State.stall_congr (hk.part .stalls rfl) _, hk.rd (f := STL_STAT.STATE), by rw [hb.rd]⟩
  obtain ⟨u, hu, ht⟩ := foldl_once (P := PosKept row p) (f := f) (x := stallId row p) (PosKept.refl row p) (fun _ _ _ => PosKept.trans)
    (l := drainTargets row target) (fun u y hy hne => by
      obtain ⟨q, hq, rfl⟩ := of_mem_drainTargets hy
      exact hf u q hq fun e => hne (e ▸ rfl)) (nodup_drainTargets row target) (mem_drainTargets hp ht) s1
  exact ⟨u, h1.trans hu, ht⟩

/-- A stall that is asked to drain holds the request, is busy and draining. -/
theorem State.drainReq_own (s : State) (who : Requester) (hp : stallOk row p = true) :
    ((s.drainReq (stallId row p) who).stall (stallId row p)).drains.contains who = true ∧
      ((s.drainReq (stallId row p) who).stall (stallId row p)).drained = false ∧
      bitAt ((s.drainReq (stallId row p) who).rd TAL_ACC_STAT.DRAIN_BUSY row) p = true ∧
      (s.stState (stallId row p) = 3 → (s.drainReq (stallId row p) who).stState (stallId row p) = 4) := by
  have hlt := (lt_of_stallOk hp).2
  unfold State.drainReq
  extract_lets s1 s2
  have hst : s2.stall (stallId row p) = s1.stall (stallId row p) := State.stall_wr _ _ _ _ _
  have hdr : (s1.stall (stallId row p)).drains.contains who = true ∧ (s1.stall (stallId row p)).drained = false := by
    unfold s1
    rw [State.stall_modStall_same]
    refine ⟨?_, rfl⟩
    dsimp only
    split
    · assumption
    · simp
  have hb : bitAt (s2.rd TAL_ACC_STAT.DRAIN_BUSY row) p = true := by
    have h := s1.bitAt_setBusy (stallId row p) true hlt
    rwa [rowOf_stallId_of_lt (by omega), posOf_stallId (by omega), if_pos rfl] at h
  have hs : s2.stState (stallId row p) = s.stState (stallId row p) := State.rd_wr_free _ rfl _ _ _
  split
  · rw [State.setStState, State.stall_wr, State.rd_wr_free _ rfl, hst]
    exact ⟨hdr.1, hdr.2, hb, fun _ => State.rd_wr_val _ rfl _ _⟩
  next hne =>
    rw [hst]
    exact ⟨hdr.1, hdr.2, hb, fun h => absurd (hs.trans h) hne⟩

/-- A drain that its last requester releases lets the stall run, or is marked where it has not completed. -/
theorem State.drainRel_own {s : State} {sid : Nat} {who : Requester} (hd : (s.stall sid).drains = [who]) :
    ((s.stall sid).drained = true → ((s.drainRel sid who).stall sid).drains = [] ∧
      (s.stState sid = 4 → (s.drainRel sid who).stState sid = 3)) ∧
    ((s.stall sid).drained = false → ((s.drainRel sid who).stall sid).early.contains who = true) := by
  unfold State.drainRel
  extract_lets st s1
  rw [if_neg (by simp [st, hd])]
  constructor
  · intro hdone
    rw [if_pos hdone, if_pos (by simp [st, hd])]
    have hst : s1.stState sid = s.stState sid := rfl
    constructor
    · have : ∀ u : State, (u.stall sid).drains = [] → ((u.refill sid).stall sid).drains = [] := fun u h => by
        rw [State.refill, State.stall_modStall_same]
        exact h
      refine this _ ?_
      have h1 : (s1.stall sid).drains = [] := by simp [s1, st, hd]
      split
      · rw [State.setStState, State.stall_wr]
        exact h1
      · exact h1
    · intro h4
      rw [if_pos (show s1.stState sid = stDraining from hst.trans h4), State.stState_refill]
      exact State.rd_wr_val _ rfl _ _
  · intro hnot
    rw [if_neg (by simp [st, hnot]), State.stall_setStall_same]
    dsimp only
    split
    · assumption
    · simp

section
variable {k target : Nat} (hrow : row < 192) (hr : s.boot.inReset.contains (12288 + row) = false) (hp : p < 33) (ht : target = p ∨ target = 63)
include hrow hr hp ht

theorem drain_requested : ∃ t, exec (.drainRequest (.clerk k) row target) s = .next t ∧ (t.stall (stallId row p)).drains.contains .cmd = true ∧
    (t.stall (stallId row p)).drained = false ∧ bitAt (t.rd TAL_ACC_STAT.DRAIN_BUSY row) p = true ∧
    (s.stState (stallId row p) = 3 → t.stState (stallId row p) = 4) := by
  have hok (q : Nat) (hq : q < 33) : stallOk row q = true := by simp [stallOk, hrow, hq]
  obtain ⟨u, hu, h⟩ := drain_once (k := k) (off := 0x420) (f := fun s sid => s.drainReq sid .cmd) hrow hp ht hr
    fun u q hq hne => PosKept.drainReq (hok p hp) (hok q hq) hne.symm u .cmd
  refine ⟨_, rfl, ?_⟩
  rw [h.stall, h.busy, h.state, ← hu.state]
  exact u.drainReq_own .cmd (hok p hp)

theorem drain_released (hd : (s.stall (stallId row p)).drains = [.cmd]) : ∃ t, exec (.drainRelease (.clerk k) row target) s = .next t ∧
    ((s.stall (stallId row p)).drained = true → (t.stall (stallId row p)).drains = [] ∧
      (s.stState (stallId row p) = 4 → t.stState (stallId row p) = 3)) ∧
    ((s.stall (stallId row p)).drained = false → (t.stall (stallId row p)).early.contains .cmd = true) := by
  have hok (q : Nat) (hq : q < 33) : stallOk row q = true := by simp [stallOk, hrow, hq]
  obtain ⟨u, hu, h⟩ := drain_once (k := k) (off := 0x420) (f := fun s sid => s.drainRel sid .cmd) hrow hp ht hr
    fun u q hq hne => PosKept.drainRel (hok p hp) (hok q hq) hne.symm u .cmd
  refine ⟨_, rfl, ?_⟩
  rw [h.stall, h.state, ← hu.state, ← hu.stall]
  exact State.drainRel_own (hu.stall ▸ hd)

end

/-! ### Drains that complete (R162) -/

theorem State.tryReset_of_none (h : s.boot.reset = none) : s.tryReset = s := by
  unfold State.tryReset
  rw [h]

theorem Keeps.under_testDrained {F : Footprint} {s₀ : State} (h : Keeps F s₀ s) (hF : F.Covers [] [BST_STAT] := by exact rfl) :
    Keeps F s₀ s.testDrained := by
  unfold State.testDrained
  split
  · exact .ite (h.wr hF) h
  · exact h

/-- A drain that is due completes: the stall is drained, its busy bit clear and the drain counted. -/
theorem drain_completed (hok : stallOk row p = true) (hdue : s.drainDue (stallId row p) = true) (hearly : (s.stall (stallId row p)).early = [])
    (hreset : s.boot.reset = none) :
    ∃ t, exec (.drainComplete row p) s = .next t ∧ (t.stall (stallId row p)).drained = true ∧
      bitAt (t.rd TAL_ACC_STAT.DRAIN_BUSY row) p = false ∧
      t.rd TAL_ACC_DRAIN_CNT.V row = (s.rd TAL_ACC_DRAIN_CNT.V row + 1) % 2 ^ 64 := by
  have hlt := (lt_of_stallOk hok).2
  show ∃ t, execDrainComplete row p s = .next t ∧ _
  unfold execDrainComplete State.drainDone
  rw [if_pos hok, if_pos hdue, rowOf_stallId_of_lt (by omega)]
  extract_lets s1 early s2 s3
  have h1 : Keeps ⟨fun q => q != .stalls && q != .boot, fun _ => true⟩ s s1 := (Keeps.refl _ s).wr.bump.raise
  have hst : s1.stall (stallId row p) = s.stall (stallId row p) := State.stall_congr (h1.part .stalls rfl) _
  have hnil : early = [] := (congrArg Stall.early hst).trans hearly
  have h3 : Keeps ⟨fun q => q != .stalls, fun r => r != TAL_ACC_STAT && r != TAL_ACC_DRAIN_CNT⟩ s2 s3 :=
    .ite (Keeps.refl _ s2).setStState.under_testDrained (.refl _ s2)
  have hb3 : Keeps ⟨fun q => q != .boot, fun _ => true⟩ s2 s3 := .ite (Keeps.refl _ s2).setStState.under_testDrained (.refl _ s2)
  have hboot : s3.boot.reset = none := by
    rw [show s3.boot = s2.boot from hb3.part .boot rfl]
    exact (congrArg Boot.reset (h1.part .boot rfl)).trans hreset
  have hcount : Keeps (.without [TAL_ACC_STAT, TAL_ACC_DRAIN_CNT]) ((s.setBusy (stallId row p) false).bump TAL_ACC_DRAIN_CNT.V row) s1 :=
    (Keeps.refl _ _).raise
  refine ⟨_, rfl, ?_⟩
  rw [hnil, List.foldl_nil, State.tryReset_of_none hboot, h3.rd, h3.rd]
  refine ⟨?_, ?_, ?_⟩
  · rw [State.stall_congr (h3.part .stalls rfl)]
    exact congrArg Stall.drained (State.stall_modStall_same _ _ _)
  · show bitAt (s1.rd _ _) p = false
    rw [hcount.rd, State.rd_bump_free _ rfl]
    have h := s.bitAt_setBusy (stallId row p) false hlt
    rwa [rowOf_stallId_of_lt (by omega), posOf_stallId (by omega), if_pos rfl] at h
  · show s1.rd _ _ = _
    rw [hcount.rd, State.rd_bump_val _ rfl, show (s.setBusy (stallId row p) false).rd TAL_ACC_DRAIN_CNT.V row = _ from State.rd_wr_free _ rfl _ _ _]
    rfl

end Sys2Proof.Machine

namespace Sys2Proof

open Machine

/-- Settles O7, clause by clause: what a marker hands over leaves the markers, an output closes its instance, and a drain command works on each stall of its row once. -/
theorem accumulationCommandsComplete : Obligations.AccumulationCommandsComplete := fun _ _ hrow =>
  have hlt := lt_of_rowOk hrow
  ⟨fun _ _ _ hok => marker_refused hok, fun _ _ _ _ _ hi hg hr hdone => output_sent hi hg hr hdone,
    fun _ _ _ _ _ hi hg hr hdone => parts_sent hi hg hr hdone, fun _ _ _ hr hp ht => drain_requested hlt hr hp ht,
    fun _ _ _ hr hp ht => drain_released hlt hr hp ht, fun _ hok => drain_completed hok⟩

end Sys2Proof
end

section
/-! PROOF. O10, the slots: what an access leaves, and what a slot's own commands do. -/

namespace Sys2Proof.Machine

set_option Elab.async false

variable {s t u : State} {slot : Nat}

/-! ### What an access and a message leave -/

/-- What an access, and a message that is sent, may change. -/
def Footprint.door : Footprint := ⟨(Part.warden :: .halves :: sendParts).contains, [EVC_CLK_STAT].contains⟩

/-- A slot is as it was where no slot may change. -/
theorem Keeps.slot_eq {F : Footprint} (h : Keeps F s t) (hF : F.parts .slots = false := by exact rfl) (k : Nat) : t.slot k = s.slot k :=
  State.slot_congr (h.part .slots hF) k

theorem Keeps.stocked (h : Keeps .door s t) (m : Manifest) : t.stocked m = s.stocked m := by
  have hcfg (k : Nat) : t.getReg STL_GRP_CFG k = s.getReg STL_GRP_CFG k := h.reg _ k (by decide) rfl
  have hrows : t.rows = s.rows := h.part .rows rfl
  have himages : t.images = s.images := h.part .images rfl
  have hjournal : t.journal = s.journal := h.part .journal rfl
  simp only [State.stocked, State.verified, State.physOf, State.row, State.jrn, hcfg, hrows, himages, hjournal]

theorem Keeps.loadedState (h : Keeps .door s t) (m : Manifest) : t.loadedState m = s.loadedState m := by
  simp only [State.loadedState, h.stocked]

theorem State.loadedState_cases (s : State) (m : Manifest) : s.loadedState m = 1 ∨ s.loadedState m = 2 := by
  unfold State.loadedState
  split
  · exact .inr rfl
  · exact .inl rfl

theorem State.slState_setSlState (s : State) {v : Nat} (hv : v < 8) : (s.setSlState slot v).slState slot = v :=
  (State.rd_wr_val s rfl slot v).trans (Nat.mod_eq_of_lt hv)

/-! ### SLOT_READY, SLOT_RETIRED and RELEASE_HELD (R208 to R210, R217) -/

theorem slotReady_completes {g : Gen} (hnext : (s.slot slot).next = some g) (hmiss : g.missing = 0) (hstock : s.stocked g.man = true)
    (hload : s.rd PRT_STAT.LOAD = 4 ∨ s.rd PRT_STAT.SLOT ≠ slot) (hlo : 1 ≤ s.slState slot) (hhi : s.slState slot ≤ 3) :
    ∃ t, exec (.slotReady slot) s = .next t ∧ t.slState slot = 3 ∧
      (if s.slState slot = 3 then (t.slot slot).next = some g ∧ (t.slot slot).ready = true ∧ (t.slot slot).cur = (s.slot slot).cur
       else (t.slot slot).cur = some g ∧ (t.slot slot).next = none ∧ (t.slot slot).started = false) := by
  show ∃ t, execSlotReady slot s = .next t ∧ _
  unfold execSlotReady
  rw [hnext]
  dsimp only
  rw [if_pos ⟨hmiss, hstock, hload⟩]
  by_cases h3 : s.slState slot = 3
  · rw [if_neg (by simp [h3, slLoading, slWait]), if_pos (show s.slState slot = slReady from h3)]
    refine ⟨_, rfl, h3, ?_⟩
    rw [if_pos h3, State.slot_modSlot_same]
    exact ⟨hnext, rfl, rfl⟩
  · rw [if_pos (by simp only [slLoading, slWait]; omega)]
    refine ⟨_, rfl, State.slState_setSlState _ (by decide), ?_⟩
    rw [if_neg h3, State.setSlState, State.slot_wr, State.slot_modSlot_same]
    exact ⟨rfl, rfl, rfl⟩

theorem slotRetired_completes (h5 : s.slState slot = 5) (hseq : s.countSeqs (fun x => x.slot == slot) = 0)
    (htune : FMap.countWhere s.tunes (fun _ j => j.live && j.slot == slot) = 0)
    (hpace : ∀ k, k < 16 → s.rd SRV_PACE_STAT.STATE k = 0 ∨ s.rd SRV_PACE_STAT.SLOT k ≠ slot) :
    ∃ t, exec (.slotRetired slot) s = .next t ∧ t.slState slot = 0 ∧ t.slot slot = ModelSlot.init := by
  show ∃ t, execSlotRetired slot s = .next t ∧ _
  unfold execSlotRetired
  rw [if_pos ⟨h5, hseq, htune, List.all_eq_true.2 fun k hk => by simpa using hpace k (List.mem_range.1 hk)⟩]
  have hk : Keeps ⟨[.groups].contains, [TAL_TILE_STAT].contains⟩ ((s.setSlot slot ModelSlot.init).setSlState slot slEmpty)
      (([(s.slot slot).cur, (s.slot slot).prev].filterMap id).foldl State.endTiles ((s.setSlot slot ModelSlot.init).setSlState slot slEmpty)) :=
    (Keeps.refl _ _).foldl fun _ _ h => h.under_endTiles
  refine ⟨_, rfl, ?_, ?_⟩
  · exact hk.rd.trans (State.slState_setSlState _ (by decide))
  · rw [hk.slot_eq, State.setSlState, State.slot_wr, State.slot_setSlot_same]

theorem releaseHeld_completes {who : Who} (hopen : s.memOpen who = true) (hadm : whoAdmin who = true) (h4 : s.slState slot = 4)
    (hval : s.shardsValid slot = true) :
    ∃ t, exec (.releaseHeld who slot) s = .next t ∧ t.slState slot = (match (s.slot slot).cur, (s.slot slot).next with
      | some _, _ => 3
      | none, some g => if s.rd PRT_STAT.LOAD = 3 ∧ s.rd PRT_STAT.SLOT = slot then 1 else s.loadedState g.man
      | none, none => 1) := by
  show ∃ t, execReleaseHeld who slot s = .next t ∧ _
  unfold execReleaseHeld
  rw [State.adminWrite_open hopen hadm]
  generalize hs1 : s.accessed who _ = s1
  have h1 : Keeps .door s s1 := hs1 ▸ (Keeps.refl .door s).accessed
  have hst : s1.slState slot = 4 := h1.rd.trans h4
  have hval1 : s1.shardsValid slot = true := by rw [State.shardsValid, h1.slot_eq]; exact hval
  refine ⟨_, rfl, ?_⟩
  rw [if_neg (by simp [hst, slHeld]), if_neg (by simp [hval1]), h1.slot_eq]
  cases (s.slot slot).cur with
  | some _ => exact s1.slState_setSlState (v := 3) (by decide)
  | none =>
    cases (s.slot slot).next with
    | some g =>
      dsimp only
      rw [h1.rd, h1.rd, h1.loadedState]
      refine s1.slState_setSlState ?_
      have := s.loadedState_cases g.man
      simp only [slLoading]
      split <;> omega
    | none => exact s1.slState_setSlState (v := 1) (by decide)

end Sys2Proof.Machine
end

section
/-! PROOF. O10, MODEL_LOAD (R208, R221, R222). -/

namespace Sys2Proof.Machine

set_option Elab.async false

variable {s t u : State} {slot : Nat}

/-- A load that is refused raises its flag, shows 5 and leaves the slot (R208). -/
theorem State.refuseLoad_shows (s : State) (slot : Nat) :
    let t := (s.refuseLoad slot PRT_ERR.SIG).assayDone
    t.on PRT_ERR.SIG = true ∧ t.rd PRT_STAT.LOAD = 5 ∧ t.slot slot = s.slot slot ∧ t.slState slot = s.slState slot := by
  unfold State.refuseLoad State.assayDone
  refine ⟨?_, ?_, ?_, ?_⟩
  · rw [State.on_raise _ rfl, State.on_wr_free _ rfl, State.on_wr_free _ rfl]
    exact State.on_flagAt_val _ rfl _ _
  · rw [State.rd_raise _ rfl, State.rd_wr_free _ rfl, State.rd_wr_val _ rfl]
    rfl
  · simp [State.prtFlag]
  · exact (((((Keeps.refl (.without [PRT_MODEL_STAT]) s).under_prtFlag).wr).wr).raise).rd

theorem Keeps.loadBusy (h : Keeps .door s t) : t.loadBusy = s.loadBusy := by
  have hload : t.rd PRT_STAT.LOAD = s.rd PRT_STAT.LOAD := h.rd
  rw [State.loadBusy, hload, State.loadBusy]

theorem Keeps.signed (h : Keeps .door s t) (k : Nat) (b : List Byte) (x y : Nat) : t.signed k b x y = s.signed k b x y := by
  have hch : t.charter = s.charter := h.part .charter rfl
  rw [State.signed, hch, State.signed]

theorem Keeps.manifestOk (h : Keeps .door s t) (n : Nat) (m : Manifest) : t.manifestOk slot n m = s.manifestOk slot n m := by
  have hfmt : t.kvFmt slot = s.kvFmt slot := h.rd (f := KV_SLOT_CFG.KVFMT)
  have hq : t.rd KV_SLOT_CFG.QFMT slot = s.rd KV_SLOT_CFG.QFMT slot := h.rd
  have hkey : t.getReg SEC_MKEY_STAT 0 = s.getReg SEC_MKEY_STAT 0 := h.reg _ _ (by decide) rfl
  simp only [State.manifestOk, hfmt, hq, hkey]

/-- A load may begin beside CURRENT: a later generation of the same model that shares no group badly (R221, R222). -/
def State.mayFollow (s : State) (slot : Nat) (m : Manifest) : Prop :=
  s.slState slot = 3 ∧ (s.slot slot).next = none ∧ (s.slot slot).prev = none ∧ ∃ g, (s.slot slot).cur = some g ∧ g.man.modelId = m.modelId ∧
    g.man.generation < m.generation ∧ sharesBadly g.man m = false

section
variable {who : Who} {hdr sects body man : List Byte} {m : Manifest} (hman : hdr ++ (sects ++ body) = man) (hm : Manifest.ofBytes man = m)
  (hopen : s.memOpen who = true) (hadm : whoAdmin who = true) (hslot : slot < 16) (hbusy : s.loadBusy = false)
  (hrst : s.rd WDN_RST_CAUSE.STATE < 2)
include hman hm hopen hadm hslot hbusy hrst

/-- What the manifest's checks decide, once it has been read (R207, R208). -/
theorem modelLoad_judged : ∃ u, Keeps .door s u ∧
    ((s.signed m.keyIndex man m.sigR m.sigS = false ∨ leAt (sha512 (man.drop 0x140)) 0 64 ≠ m.digest) →
      exec (.modelLoad who slot hdr sects body) s = .next (u.refuseLoad slot PRT_ERR.SIG).assayDone) ∧
    (leAt (sha512 (man.drop 0x140)) 0 64 = m.digest → s.signed m.keyIndex man m.sigR m.sigS = true → s.manifestOk slot man.length m = true →
      s.slState slot = 0 ∨ s.mayFollow slot m → exec (.modelLoad who slot hdr sects body) s = .next (u.startLoad slot m).assayDone) := by
  have hex : exec (.modelLoad who slot hdr sects body) s = execModelLoad who slot hdr sects body s := rfl
  rw [hex]
  unfold execModelLoad
  rw [State.adminWrite_open hopen hadm]
  dsimp only
  rw [hman, hm]
  generalize hs1 : s.accessed who _ = s1
  have h1 : Keeps .door s s1 := hs1 ▸ (Keeps.refl .door s).accessed
  rw [if_neg (by omega), if_neg (by simp [h1.loadBusy, hbusy])]
  generalize hu : s1.send _ = u
  have h : Keeps .door s u := hu ▸ h1.send
  have hcause : u.rd WDN_RST_CAUSE.STATE = s.rd WDN_RST_CAUSE.STATE := h.rd
  have hst : u.slState slot = s.slState slot := h.rd (f := PRT_MODEL_STAT.STATE)
  rw [if_neg (by omega), h.signed, h.manifestOk, h.slot_eq, hst]
  refine ⟨u, h, fun hbad => ?_, fun hdig hsig hok hmay => ?_⟩
  · rw [if_pos (by rcases hbad with hb | hb <;> simp [hb])]
  · rw [if_neg (by simp [hdig, hsig]), if_neg (by simp [hok])]
    rcases hmay with h0 | ⟨h3, hnext, hprev, g, hcur, hid, hgen, hsh⟩
    · rw [if_pos (show s.slState slot = slEmpty from h0)]
    · rw [if_neg (by simp [h3, slEmpty]), hcur]
      dsimp only
      rw [if_pos ⟨h3, hid⟩, hnext, hprev, if_neg (by simp), if_neg (by simp [hsh, hgen])]

/-- Where the signature or the digest of a manifest fails (R207). -/
theorem modelLoad_unsigned (hbad : s.signed m.keyIndex man m.sigR m.sigS = false ∨ leAt (sha512 (man.drop 0x140)) 0 64 ≠ m.digest) :
    ∃ t, exec (.modelLoad who slot hdr sects body) s = .next t ∧ t.on PRT_ERR.SIG = true ∧ t.rd PRT_STAT.LOAD = 5 ∧ t.slot slot = s.slot slot ∧
      t.slState slot = s.slState slot := by
  obtain ⟨u, hu, hsig, -⟩ := modelLoad_judged hman hm hopen hadm hslot hbusy hrst
  obtain ⟨hon, hload, hslots, hst⟩ := u.refuseLoad_shows slot
  exact ⟨_, hsig hbad, hon, hload, hslots.trans (hu.slot_eq ..), hst.trans hu.rd⟩

end

/-! ### Placement and the fetch (R208, R211) -/

theorem Keeps.tier2Up (h : Keeps .door s t) : t.tier2Up = s.tier2Up := by
  have hst (i : Nat) : t.rd MEM_UNIT_STAT.STATE i = s.rd MEM_UNIT_STAT.STATE i := h.rd
  simp only [State.tier2Up, hst]

theorem Keeps.held (h : Keeps .door s t) (tier : Nat) : t.held tier = s.held tier := by
  have hslots : t.slots = s.slots := h.part .slots rfl
  simp only [State.held, hslots]

theorem Keeps.free1 (h : Keeps .door s t) : t.free1 = s.free1 := by
  have hst (i : Nat) : t.rd MEM_UNIT_STAT.STATE i = s.rd MEM_UNIT_STAT.STATE i := h.rd
  have hpool : t.rd SRV_ADP_POOL.GRANULES = s.rd SRV_ADP_POOL.GRANULES := h.rd
  have hmem : t.mem = s.mem := h.part .mem rfl
  have hch : t.charter = s.charter := h.part .charter rfl
  simp only [State.free1, State.tier1Size, h.held, hst, hpool, hmem, hch]

theorem Keeps.free2 (h : Keeps .door s t) : t.free2 = s.free2 := by
  have hmem : t.mem = s.mem := h.part .mem rfl
  simp only [State.free2, State.tier2Size, State.tier2Span, h.held, h.tier2Up, hmem]

/-- A shard that has not arrived and whose load has not given it up. -/
def Shard.awaited (x : Shard) : Prop := x.valid = false ∧ x.dropped = false

/-- A table of shards that are all awaited stays one as awaited ones are added. -/
theorem awaited_foldl {l : List (Nat × Nat)} {f : Nat × Nat → Shard} (hf : ∀ p, (f p).awaited) {m : FMap Shard}
    (hm : ∀ i, (FMap.get Shard.init m i).awaited) (i : Nat) :
    (FMap.get Shard.init (l.foldl (fun m p => FMap.set Shard.init m p.2 (f p)) m) i).awaited := by
  induction l generalizing m with
  | nil => exact hm i
  | cons p l ih =>
    refine ih fun j => ?_
    by_cases hj : j = p.2
    · rw [hj, FMap.get_set_same]
      exact hf p
    · rw [FMap.get_set_ne hj]
      exact hm j

/-- Where every shard is awaited, as many are missing as the manifest names. -/
theorem Gen.missing_of_awaited {g : Gen} (h : ∀ i, (g.shard i).awaited) : g.missing = g.man.shards.length := by
  have hall : (List.range g.man.shards.length).filter (fun i => !(g.shard i).valid && !(g.shard i).dropped) = List.range g.man.shards.length :=
    List.filter_eq_self.2 fun i _ => by simp [(h i).1, (h i).2]
  rw [Gen.missing, hall, List.length_range]

theorem State.loadDone_missing {g : Gen} (hnext : (s.slot slot).next = some g) (hmiss : g.missing ≠ 0) : s.loadDone slot = s := by
  unfold State.loadDone
  rw [hnext]
  exact if_neg fun h => hmiss h.1

section
variable {F : Footprint} {s₀ : State}

theorem Keeps.under_widen (h : Keeps F s₀ s) {gid : Nat} (hF : F.Covers [.groups] [TAL_TILE_STAT, TAL_WIDE_START_CNT] := by exact rfl) :
    Keeps F s₀ (s.widen gid) := by
  have hr : F.Covers [] [TAL_TILE_STAT] := hF.sub
  have hb : F.Covers [] [TAL_WIDE_START_CNT] := hF.sub
  unfold State.widen
  exact (((Keeps.ite h (h.bump hb)).wr hr).wr hr).under_modGroup hF.sub

/-- What the tables of a tile may change. -/
def tileParts : List Part := [.stalls, .groups]
/-- The registers that they may change. -/
def tileRegs : List Reg := [TAL_TILE_STAT, TAL_WIDE_START_CNT]

theorem Keeps.under_loadTile (h : Keeps F s₀ s) {g : Gen} {p : Pitch} (hF : F.Covers tileParts tileRegs := by exact rfl) :
    Keeps F s₀ (s.loadTile g p) := by
  have hr : F.Covers [] [TAL_TILE_STAT] := hF.sub
  unfold State.loadTile
  extract_lets sid gid m s1 s2 s3 s4
  have h3 : Keeps F s₀ s3 := ((((h.wr hr).wr hr).under_endTile hF.sub).wr hr).under_modGroup hF.sub
  exact (Keeps.ite ((h3.under_widen hF.sub).wr hr) h3 : Keeps F s₀ s4).modStall hF.sub

theorem Keeps.under_loadUnits (h : Keeps F s₀ s) {k : Nat} {g : Gen} (hF : F.Covers tileParts tileRegs := by exact rfl) :
    Keeps F s₀ (s.loadUnits k g) := h.foldl fun _ _ h => .ite h (h.under_loadTile hF)

/-- What a load that is complete may change. -/
def doneParts : List Part := .pendAt :: tileParts
/-- The registers that it may change. -/
def doneRegs : List Reg := PRT_STAT :: PRT_MODEL_STAT :: raiseRegs ++ tileRegs

theorem Keeps.under_loadDone (h : Keeps F s₀ s) {k : Nat} (hF : F.Covers doneParts doneRegs := by exact rfl) : Keeps F s₀ (s.loadDone k) := by
  have hl : F.Covers [] [PRT_STAT] := hF.sub
  have hst : F.Covers [] [PRT_MODEL_STAT] := hF.sub
  unfold State.loadDone
  split
  · next g _ =>
    have h1 : Keeps F s₀ (((s.loadUnits k g).wr PRT_STAT.LOAD 0 4).raise 208) := ((h.under_loadUnits hF.sub).wr hl).raise hF.sub
    exact .ite (.ite (h1.wr hst) h1) h
  · exact h

end

/-- A load that is complete shows so, and a slot that was loading waits for its image or its groups (R208 step 4, R183). -/
theorem State.loadDone_complete {g : Gen} (hnext : (s.slot slot).next = some g) (hmiss : g.missing = 0) (hload : s.rd PRT_STAT.LOAD = 3)
    (hshow : s.rd PRT_STAT.SLOT = slot) :
    (s.loadDone slot).rd PRT_STAT.LOAD = 4 ∧ (s.loadDone slot).rd PRT_STAT.SLOT = slot ∧
      (s.loadDone slot).rd PRT_STAT.LEFT = s.rd PRT_STAT.LEFT ∧
      (if s.slState slot = 1 then (s.loadDone slot).slState slot = 1 ∨ (s.loadDone slot).slState slot = 2
       else (s.loadDone slot).slState slot = s.slState slot) := by
  unfold State.loadDone
  rw [hnext]
  dsimp only
  rw [if_pos ⟨hmiss, hload, hshow⟩]
  have hk : Keeps (.without [PRT_STAT]) s (s.loadUnits slot g) := (Keeps.refl _ s).under_loadUnits
  generalize hs1 : ((s.loadUnits slot g).wr PRT_STAT.LOAD 0 4).raise 208 = s1
  have hl : s1.rd PRT_STAT.LOAD = 4 := by
    rw [← hs1, State.rd_raise _ rfl, State.rd_wr_val _ rfl]
    rfl
  have hs : s1.rd PRT_STAT.SLOT = slot := by rw [← hs1, State.rd_raise _ rfl, State.rd_wr_free _ rfl, hk.rd, hshow]
  have hleft : s1.rd PRT_STAT.LEFT = s.rd PRT_STAT.LEFT := by rw [← hs1, State.rd_raise _ rfl, State.rd_wr_free _ rfl, hk.rd]
  have hst : s1.slState slot = s.slState slot := by
    rw [← hs1]
    exact (((Keeps.refl (.without [PRT_MODEL_STAT]) s).under_loadUnits.wr).raise).rd
  by_cases h1 : s.slState slot = 1
  · rw [if_pos (show s.slState slot = slLoading from h1), if_pos h1]
    have hc := s1.loadedState_cases g.man
    have hv : (s1.setSlState slot (s1.loadedState g.man)).slState slot = s1.loadedState g.man := s1.slState_setSlState (by omega)
    rw [State.setSlState, State.rd_wr_free _ rfl, State.rd_wr_free _ rfl, State.rd_wr_free _ rfl, ← State.setSlState, hv]
    exact ⟨hl, hs, hleft, hc⟩
  · rw [if_neg (show ¬ s.slState slot = slLoading from h1), if_neg h1]
    exact ⟨hl, hs, hleft, hst⟩

/-- The generation that the placement of a manifest gives (R211). -/
def State.placedGen (s : State) (m : Manifest) (p : Placement) : Gen :=
  let gs := s.placeShards m p.tiers s.takenGrans
  { man := m, kvPages := p.kv, srcAddr := s.rd PRT_SRC_ADDR.V, pool := s.placePool p.kv (s.takenGrans ++ gs.flatten),
    shards := p.tiers.zipIdx.foldl (fun t x => FMap.set Shard.init t x.2 { Shard.init with tier := x.1, grans := gs.getD x.2 [] }) [] }

/-- A generation that a slot begins to fetch: it waits beside CURRENT, and its source table is read (R201, R208). -/
def State.fetching (s : State) (slot : Nat) (g : Gen) : State :=
  let s1 := s.modSlot slot fun x => { x with next := some g, ready := false }
  let s2 := if s.slState slot = 0 then s1.setSlState slot 1 else s1
  let s3 := ((s2.wr PRT_STAT.LOAD 0 3).wr PRT_STAT.SLOT 0 slot).wr PRT_STAT.LEFT 0 g.man.shards.length
  (List.range g.man.shards.length).foldl (fun s i => s.askShard g i) s3

theorem State.startLoad_of_fits {m : Manifest} {p : Placement} (hp : placeModel m s.free1 s.free2 s.charter.kvMin = p) (h1 : p.n1 ≤ s.free1)
    (h2 : p.n2 ≤ s.free2) : s.startLoad slot m = (s.fetching slot (s.placedGen m p)).loadDone slot := by
  unfold State.startLoad
  dsimp only
  rw [hp, if_neg (by omega)]
  rfl

theorem State.missing_placedGen (s : State) (m : Manifest) (p : Placement) : (s.placedGen m p).missing = m.shards.length :=
  Gen.missing_of_awaited (awaited_foldl (fun _ => ⟨rfl, rfl⟩) fun _ => ⟨rfl, rfl⟩)

/-- What a slot that fetches a generation shows. -/
theorem State.fetching_shows (s : State) (g : Gen) (hslot : slot < 16) :
    (s.fetching slot g).slot slot = { s.slot slot with next := some g, ready := false } ∧ (s.fetching slot g).rd PRT_STAT.LOAD = 3 ∧
      (s.fetching slot g).rd PRT_STAT.SLOT = slot ∧ (s.fetching slot g).rd PRT_STAT.LEFT = g.man.shards.length % 2 ^ 32 ∧
      (s.fetching slot g).slState slot = (if s.slState slot = 0 then 1 else s.slState slot) := by
  unfold State.fetching
  extract_lets s1 s2 s3
  have hk : Keeps .door s3 ((List.range g.man.shards.length).foldl (fun s i => s.askShard g i) s3) :=
    (Keeps.refl .door s3).foldl fun _ _ h => h.send
  have hs2 : s2.slot slot = { s.slot slot with next := some g, ready := false } := by
    have h1 : s1.slot slot = { s.slot slot with next := some g, ready := false } := s.slot_modSlot_same slot _
    unfold s2
    split
    · rw [State.setSlState, State.slot_wr, h1]
    · exact h1
  have hst : s2.slState slot = (if s.slState slot = 0 then 1 else s.slState slot) := by
    unfold s2
    split
    · exact s1.slState_setSlState (by decide)
    · rfl
  refine ⟨?_, ?_, ?_, ?_, ?_⟩
  · rw [hk.slot_eq, State.slot_wr, State.slot_wr, State.slot_wr, hs2]
  · rw [hk.rd, State.rd_wr_free _ rfl, State.rd_wr_free _ rfl, State.rd_wr_val _ rfl]
    rfl
  · rw [hk.rd, State.rd_wr_free _ rfl, State.rd_wr_val _ rfl]
    exact Nat.mod_eq_of_lt hslot
  · rw [hk.rd, State.rd_wr_val _ rfl]
    rfl
  · rw [State.slState, hk.rd, State.rd_wr_free _ rfl, State.rd_wr_free _ rfl, State.rd_wr_free _ rfl, ← State.slState, hst]

/-- What a load whose placement fits leaves (R208, R211). -/
theorem State.startLoad_shows {m : Manifest} {p : Placement} (hp : placeModel m s.free1 s.free2 s.charter.kvMin = p) (h1 : p.n1 ≤ s.free1)
    (h2 : p.n2 ≤ s.free2) (hslot : slot < 16) (hst : s.slState slot = 0 ∨ s.slState slot = 3) :
    let t := (s.startLoad slot m).assayDone
    (if s.slState slot = 0 then (if m.shards = [] then t.slState slot = 1 ∨ t.slState slot = 2 else t.slState slot = 1) else t.slState slot = 3) ∧
      ((t.slot slot).next.map fun g => (g.man, g.kvPages)) = some (m, p.kv) ∧ (t.slot slot).cur = (s.slot slot).cur ∧
      t.rd PRT_STAT.LOAD = (if m.shards = [] then 4 else 3) ∧ t.rd PRT_STAT.SLOT = slot ∧ t.rd PRT_STAT.LEFT = m.shards.length % 2 ^ 32 := by
  rw [State.startLoad_of_fits hp h1 h2]
  have hmiss := s.missing_placedGen m p
  obtain ⟨hs, hload, hshow, hleft, hstate⟩ := s.fetching_shows (s.placedGen m p) hslot
  generalize hv : s.fetching slot (s.placedGen m p) = v at *
  have hnext : (v.slot slot).next = some (s.placedGen m p) := by rw [hs]
  have hslots : ((v.loadDone slot).assayDone).slot slot = v.slot slot :=
    ((Keeps.refl ⟨doneParts.contains, doneRegs.contains⟩ v).under_loadDone.raise).slot_eq ..
  have hrd {f : RField} (hf : (f.reg.blk != .evc) = true) (i : Nat) : ((v.loadDone slot).assayDone).rd f i = (v.loadDone slot).rd f i :=
    State.rd_raise _ hf ..
  have hslst : ((v.loadDone slot).assayDone).slState slot = (v.loadDone slot).slState slot := hrd rfl slot
  dsimp only
  rw [hslots, hs, hslst, hrd rfl, hrd rfl, hrd rfl]
  by_cases hm : m.shards = []
  · obtain ⟨hl, hsl, hle, hstd⟩ := v.loadDone_complete hnext (by rw [hmiss, hm]; rfl) hload hshow
    refine ⟨?_, rfl, rfl, by rw [if_pos hm]; exact hl, hsl, hle.trans hleft⟩
    rw [hstate] at hstd
    rcases hst with h0 | h3
    · rw [if_pos h0, if_pos hm]
      rwa [if_pos h0, if_pos rfl] at hstd
    · have hne : ¬s.slState slot = 0 := by omega
      rw [if_neg hne]
      rwa [if_neg hne, h3, if_neg (by decide)] at hstd
  · rw [v.loadDone_missing hnext (by simpa [hmiss] using hm), hstate, if_neg hm, if_neg hm]
    refine ⟨?_, rfl, rfl, hload, hshow, hleft⟩
    rcases hst with h0 | h3
    · rw [if_pos h0, if_pos h0]
    · rw [if_neg (by omega), if_neg (by omega), h3]

/-- A load whose signature, digest, key and manifest pass and whose placement fits (R208, R211, R221, R222). -/
theorem modelLoad_completes {who : Who} {hdr sects body man : List Byte} {m : Manifest} {p : Placement} (hman : hdr ++ (sects ++ body) = man)
    (hopen : s.memOpen who = true) (hadm : whoAdmin who = true) (hslot : slot < 16) (hbusy : s.loadBusy = false)
    (hrst : s.rd WDN_RST_CAUSE.STATE < 2) (hm : Manifest.ofBytes man = m) (hdig : leAt (sha512 (man.drop 0x140)) 0 64 = m.digest)
    (hsig : s.signed m.keyIndex man m.sigR m.sigS = true) (hok : s.manifestOk slot man.length m = true)
    (hmay : s.slState slot = 0 ∨ s.mayFollow slot m) (hp : placeModel m s.free1 s.free2 s.charter.kvMin = p) (h1 : p.n1 ≤ s.free1)
    (h2 : p.n2 ≤ s.free2) :
    ∃ t, exec (.modelLoad who slot hdr sects body) s = .next t ∧
      (if s.slState slot = 0 then (if m.shards = [] then t.slState slot = 1 ∨ t.slState slot = 2 else t.slState slot = 1) else t.slState slot = 3) ∧
      ((t.slot slot).next.map fun g => (g.man, g.kvPages)) = some (m, p.kv) ∧ (t.slot slot).cur = (s.slot slot).cur ∧
      t.rd PRT_STAT.LOAD = (if m.shards = [] then 4 else 3) ∧ t.rd PRT_STAT.SLOT = slot ∧ t.rd PRT_STAT.LEFT = m.shards.length % 2 ^ 32 := by
  obtain ⟨u, hu, -, hpass⟩ := modelLoad_judged hman hm hopen hadm hslot hbusy hrst
  have hch : u.charter = s.charter := hu.part .charter rfl
  have hst : u.slState slot = s.slState slot := hu.rd (f := PRT_MODEL_STAT.STATE)
  have hshow := u.startLoad_shows (m := m) (p := p) (by rw [hu.free1, hu.free2, hch, hp]) (by rwa [hu.free1]) (by rwa [hu.free2]) hslot
    (by rw [hst]; exact hmay.imp_right And.left)
  rw [hst, hu.slot_eq] at hshow
  exact ⟨_, hpass hdig hsig hok hmay, hshow⟩

end Sys2Proof.Machine
end

section
/-! PROOF. O10, the shards: what an arrival, a refetch and a check leave (R201, R213 to R217). -/

namespace Sys2Proof.Machine

set_option Elab.async false

variable {F : Footprint} {s t u : State} {slot gen shard : Nat}

/-! ### The generations of a slot -/

/-- A generation of a number, if an entry of the slot is one. -/
def genIf (n : Nat) (o : Option Gen) : Option Gen := o.bind fun g => if g.man.generation = n then some g else none

theorem ModelSlot.gen_eq (m : ModelSlot) (n : Nat) : m.gen n = ((genIf n m.cur).or ((genIf n m.prev).or (genIf n m.next))) := by
  show List.findSome? (genIf n) [m.cur, m.prev, m.next] = _
  simp only [List.findSome?]
  cases genIf n m.cur with
  | some _ => rfl
  | none =>
    cases genIf n m.prev with
    | some _ => rfl
    | none => cases genIf n m.next <;> rfl

/-- What a change of a numbered generation leaves of an entry. -/
theorem genIf_map {f : Gen → Gen} (hf : ∀ g, (f g).man = g.man) (n k : Nat) (o : Option Gen) :
    genIf k (o.map fun g => if g.man.generation = n then f g else g) = if k = n then (genIf k o).map f else genIf k o := by
  cases o with
  | none => simp [genIf]
  | some g =>
    by_cases hg : g.man.generation = n
    · by_cases hk : k = n
      · simp [genIf, hg, hk, hf]
      · simp [genIf, hg, hk, hf, Ne.symm hk]
    · by_cases hk : k = n
      · simp [genIf, hg, hk]
      · simp [genIf, hg, hk]

theorem ModelSlot.gen_modGen (m : ModelSlot) {f : Gen → Gen} (hf : ∀ g, (f g).man = g.man) (n k : Nat) :
    (m.modGen n f).gen k = if k = n then (m.gen k).map f else m.gen k := by
  rw [ModelSlot.gen_eq, ModelSlot.gen_eq, ModelSlot.modGen]
  simp only [genIf_map hf]
  split
  · simp only [Option.map_or]
  · rfl

theorem ModelSlot.gen_of_mem {m : ModelSlot} {g : Gen} (h : g ∈ m.gens) : (m.gen g.man.generation).isSome := by
  have hg : genIf g.man.generation (some g) = some g := if_pos rfl
  obtain ⟨o, ho, hog⟩ := List.mem_filterMap.1 h
  obtain rfl : o = some g := hog
  rw [ModelSlot.gen_eq, Option.isSome_or, Option.isSome_or]
  simp only [List.mem_cons, List.not_mem_nil, or_false] at ho
  rcases ho with ho | ho | ho <;> simp [← ho, hg]

/-- A generation with one of its shards changed. -/
def Gen.modShard (g : Gen) (i : Nat) (f : Shard → Shard) : Gen := { g with shards := FMap.modify Shard.init g.shards i f }

theorem Gen.shard_modShard (g : Gen) (i : Nat) (f : Shard → Shard) : (g.modShard i f).shard i = f (g.shard i) := FMap.get_set_same ..

theorem State.slot_modShard (s : State) (f : Shard → Shard) :
    (s.modShard slot gen shard f).slot slot = (s.slot slot).modGen gen fun g => g.modShard shard f := s.slot_modSlot_same slot _

/-- The shard that is changed, in the generation that is named. -/
theorem State.shard_modShard {g : Gen} (hgen : s.genOf slot gen = some g) (f : Shard → Shard) :
    ((s.modShard slot gen shard f).genOf slot gen).map (fun x => x.shard shard) = some (f (g.shard shard)) := by
  rw [State.genOf, State.slot_modShard, ModelSlot.gen_modGen _ (f := fun g => g.modShard shard f) (fun _ => rfl), if_pos rfl, ← State.genOf, hgen]
  exact congrArg some (g.shard_modShard shard f)

/-- What no fence changes of a slot: its generations. -/
def ModelSlot.trio (m : ModelSlot) : Option Gen × Option Gen × Option Gen := (m.cur, m.prev, m.next)

theorem ModelSlot.gen_of_trio {m m' : ModelSlot} (h : m'.trio = m.trio) (n : Nat) : m'.gen n = m.gen n := by
  obtain ⟨hcur, hprev, hnext⟩ : m'.cur = m.cur ∧ m'.prev = m.prev ∧ m'.next = m.next := by simpa [ModelSlot.trio] using h
  rw [ModelSlot.gen, hcur, hprev, hnext, ModelSlot.gen]

theorem State.trio_unfence (s : State) (k expert j : Nat) : ((s.unfence k expert).slot j).trio = (s.slot j).trio := by
  unfold State.unfence
  split
  · by_cases hj : j = k
    · rw [hj, State.slot_modSlot_same]
      rfl
    · exact congrArg _ (s.slot_modSlot_ne hj _)
  · rfl

theorem State.outbox_send (s : State) (o : Out) : (s.send o).outbox = s.outbox ++ [o] := by
  have htr (f a : Nat) : (s.translate f a).outbox = s.outbox := by
    unfold State.translate
    dsimp only
    split <;> rfl
  cases o with
  | hostWrite f a _ => exact congrArg (· ++ _) (htr f a)
  | hostRead f a _ => exact congrArg (· ++ _) (htr f a)
  | _ => rfl

/-! ### Rules for what a shard's arrival goes through -/

section
variable {s₀ : State}

theorem Keeps.under_queueUncal (h : Keeps F s₀ s) {g : Gen} (hF : F.Covers [.cal] [CAL_STAT, CAL_STALL_STAT] := by exact rfl) :
    Keeps F s₀ (s.queueUncal g) := h.foldl fun _ _ h => .ite (h.under_queueCal hF) h

end

theorem Keeps.goodShard (h : Keeps F s t) (hF : F.parts .sec = false := by exact rfl) (k : Nat) (g : Gen) (i : Nat) (e : ShardEntry) (sealed : Bool)
    (b : List Byte) : t.goodShard k g i e sealed b = s.goodShard k g i e sealed b := by
  have hsec : t.sec = s.sec := h.part .sec hF
  simp only [State.goodShard, State.openShard, hsec]

theorem State.outbox_unfence (s : State) (k expert : Nat) : (s.unfence k expert).outbox = s.outbox := by
  unfold State.unfence
  split <;> rfl

/-- What an arrival may change beside the slots. -/
def Footprint.arrival : Footprint := ⟨(.mem :: .cal :: doneParts).contains, fun _ => true⟩

/-- What follows an arrival sends nothing, and leaves every generation of the slot (R201, R215, R536). -/
theorem State.arrived_keeps (s : State) (slot expert : Nat) (gs : List Nat) (g : Gen) :
    ((((((s.showLeft slot).touchGrans gs).unfence slot expert).queueUncal g).loadDone slot).assayDone).outbox = s.outbox ∧
      (((((((s.showLeft slot).touchGrans gs).unfence slot expert).queueUncal g).loadDone slot).assayDone).slot slot).trio = (s.slot slot).trio := by
  have h1 : Keeps .arrival s ((s.showLeft slot).touchGrans gs) := (Keeps.refl _ s).under_showLeft.under_touchGrans
  generalize (s.showLeft slot).touchGrans gs = s1 at *
  have h2 : Keeps .arrival (s1.unfence slot expert) ((((s1.unfence slot expert).queueUncal g).loadDone slot).assayDone) :=
    (Keeps.refl _ _).under_queueUncal.under_loadDone.raise
  have ho1 : s1.outbox = s.outbox := h1.part .outbox rfl
  have ho2 : _ = (s1.unfence slot expert).outbox := h2.part .outbox rfl
  exact ⟨by rw [ho2, State.outbox_unfence, ho1], by rw [h2.slot_eq, State.trio_unfence, h1.slot_eq]⟩

/-- A shard whose tag, digest and format hold becomes valid (R201, R208, R213, R215). -/
theorem shardArrival_completes {addr : Nat} {ats : Bool} {data plain : List Byte} {g : Gen} {e : ShardEntry} (hgen : s.genOf slot gen = some g)
    (he : g.man.shards[shard]? = some e) (hinv : (g.shard shard).valid = false) (hgood : s.goodShard slot g shard e e.enc data = some plain) :
    ∃ t, exec (.shardArrival slot gen shard (some addr) data true ats) s = .next t ∧ .hostRead 0 addr e.size ∈ t.outbox ∧
      ((t.genOf slot gen).map fun x => x.shard shard) = some { g.shard shard with
        valid := true, dropped := false, tries := 0, data := plain, cipher := if e.enc && (g.shard shard).tier == 1 then data else [],
        scrubAt := s.rd WDN_ROUND.V + 29297 * s.rd PRT_SCRUB_CTL.PERIOD } := by
  show ∃ t, execShardArrival slot gen shard (some addr) data true ats s = .next t ∧ _
  unfold execShardArrival
  rw [hgen]
  dsimp only
  rw [he]
  dsimp only
  rw [if_neg (by simp [hinv])]
  dsimp only [Option.elim_some, Option.isSome_some]
  generalize hs1 : s.squareRuns.send (.hostRead 0 addr e.size) = s1
  have h1 : Keeps .door s s1 := hs1 ▸ (Keeps.refl .door s).squareRuns.send
  have hout : s1.outbox = s.outbox ++ [.hostRead 0 addr e.size] := by rw [← hs1, State.outbox_send, State.squareRuns_outbox]
  rw [h1.goodShard, h1.rd, h1.rd, hgood]
  refine ⟨_, rfl, ?_, ?_⟩
  · rw [(State.arrived_keeps ..).1, State.modShard, State.modSlot_outbox, hout]
    simp
  · rw [State.genOf, ModelSlot.gen_of_trio (State.arrived_keeps ..).2, ← State.genOf]
    refine State.shard_modShard ?_ _
    rw [State.genOf, h1.slot_eq, ← State.genOf, hgen]

/-- A due check of a valid shard that passes (R201, R213). -/
theorem shardScrubDue_passes {read : List Byte} {g : Gen} {e : ShardEntry} (hgen : s.genOf slot gen = some g)
    (he : g.man.shards[shard]? = some e) (hen : s.on PRT_CTL.SCRUB_EN = true) (hval : (g.shard shard).valid = true)
    (hdue : (g.shard shard).scrubAt ≤ s.rd WDN_ROUND.V)
    (hgood : (s.goodShard slot g shard e (e.enc && (g.shard shard).tier == 1) read).isSome = true) :
    ∃ t, exec (.shardScrubDue slot gen shard read MemErr.none) s = .next t ∧
      t.rd PRT_SCRUB_BYTES.V = (s.rd PRT_SCRUB_BYTES.V + e.size) % 2 ^ 64 ∧
      ((t.genOf slot gen).map fun x => x.shard shard) =
        some { g.shard shard with scrubAt := s.rd WDN_ROUND.V + 29297 * s.rd PRT_SCRUB_CTL.PERIOD } := by
  show ∃ t, execShardScrubDue slot gen shard read MemErr.none s = .next t ∧ _
  unfold execShardScrubDue
  rw [hgen]
  dsimp only
  rw [he]
  dsimp only
  rw [if_pos ⟨hen, hval, hdue⟩]
  have h1 : Keeps ⟨[.warden, .mem].contains, (EVC_CLK_STAT :: readRegs).contains⟩ s (s.squareRuns.shardRead slot gen shard MemErr.none) :=
    (Keeps.refl _ s).squareRuns.under_shardRead
  generalize s.squareRuns.shardRead slot gen shard MemErr.none = s1 at *
  have hgen1 : s1.genOf slot gen = some g := by rw [State.genOf, h1.slot_eq, ← State.genOf, hgen]
  have hue : s1.ueIn slot gen shard MemErr.none.ue = none := by
    rw [State.ueIn, hgen1]
    rfl
  rw [hue, h1.goodShard]
  dsimp only
  rw [if_pos hgood]
  refine ⟨_, rfl, ?_, ?_⟩
  · rw [State.assayDone, State.rd_raise _ rfl, State.modShard, State.rd_modSlot, State.rd_bump_val _ rfl, h1.rd]
    rfl
  · rw [State.assayDone, State.genOf, State.slot_raise, ← State.genOf, h1.rd, h1.rd]
    refine State.shard_modShard ?_ _
    rw [State.genOf, State.slot_bump, ← State.genOf, hgen1]

/-! ### Refetch (R217) -/

/-- The source address of a generation, set again. -/
def Gen.sourced (g : Gen) (a : Nat) : Gen := { g with srcAddr := a }

/-- One generation in which a shard is fetched again (R217). -/
def State.refetchIn (s : State) (slot shard : Nat) (g : Gen) : State :=
  let s1 := s.modSlot slot fun m => m.modGen g.man.generation fun g => g.sourced (s.rd PRT_SRC_ADDR.V)
  let s2 := (s1.modShard slot g.man.generation shard fun x => { x with valid := false, dropped := false, tries := 1 }).showLeft slot
  (s2.bump PRT_REFETCH_CNT.V).askShard (g.sourced (s.rd PRT_SRC_ADDR.V)) shard

/-- The shard of a generation of a number is to be fetched again: invalid, at its first try. -/
def State.asked (s : State) (slot shard n : Nat) : Prop :=
  (((s.slot slot).gen n).map fun x => ((x.shard shard).valid, (x.shard shard).dropped, (x.shard shard).tries)) = some (false, false, 1)

theorem State.slot_showLeft (s : State) (k j : Nat) : (s.showLeft k).slot j = s.slot j :=
  ((Keeps.refl ⟨[].contains, [PRT_STAT].contains⟩ s).under_showLeft).slot_eq ..

section
variable (s : State) (slot shard : Nat) (g : Gen)

theorem State.gen_refetchIn (n : Nat) :
    ((s.refetchIn slot shard g).slot slot).gen n = if n = g.man.generation then ((s.slot slot).gen n).map fun x =>
      (x.sourced (s.rd PRT_SRC_ADDR.V)).modShard shard fun x => { x with valid := false, dropped := false, tries := 1 } else (s.slot slot).gen n := by
  unfold State.refetchIn
  dsimp only
  rw [State.askShard, State.slot_send, State.slot_bump, State.slot_showLeft, State.slot_modShard, State.slot_modSlot_same,
    ModelSlot.gen_modGen _ (f := fun g => g.modShard shard _) (fun _ => rfl), ModelSlot.gen_modGen _ (f := fun g => g.sourced (s.rd PRT_SRC_ADDR.V)) (fun _ => rfl)]
  split
  · rw [Option.map_map]
    rfl
  · rfl

theorem State.rd_refetchIn_count : (s.refetchIn slot shard g).rd PRT_REFETCH_CNT.V = (s.rd PRT_REFETCH_CNT.V + 1) % 2 ^ 64 := by
  unfold State.refetchIn
  extract_lets s1 s2
  have hk : Keeps (.without [PRT_REFETCH_CNT]) s s2 := (Keeps.refl _ s).under_modSlot.under_modShard.under_showLeft
  rw [State.askShard, State.rd_send, State.rd_bump_val _ rfl, hk.rd]
  rfl

theorem State.rd_refetchIn_source : (s.refetchIn slot shard g).rd PRT_SRC_ADDR.V = s.rd PRT_SRC_ADDR.V :=
  ((Keeps.refl (.without [PRT_SRC_ADDR]) s).under_modSlot.under_modShard.under_showLeft.bump.send).rd

theorem State.outbox_refetchIn : (s.refetchIn slot shard g).outbox = s.outbox ++ [.hostRead 0 (s.rd PRT_SRC_ADDR.V + 8 * shard) 8] := by
  unfold State.refetchIn
  extract_lets s1 s2
  have hk : Keeps ⟨[.slots].contains, fun _ => true⟩ s s2 := (Keeps.refl _ s).under_modSlot.under_modShard.under_showLeft
  have ho : s2.outbox = s.outbox := hk.part .outbox rfl
  rw [State.askShard, State.outbox_send, State.bump_outbox, ho]
  rfl

/-- A generation in which the shard is fetched again has it asked for; in the others what was asked for stays so. -/
theorem State.asked_refetchIn (n : Nat) (h : s.asked slot shard n ∨ n = g.man.generation ∧ ((s.slot slot).gen n).isSome) :
    (s.refetchIn slot shard g).asked slot shard n := by
  unfold State.asked
  rw [State.gen_refetchIn]
  by_cases hn : n = g.man.generation
  · have hsome : ((s.slot slot).gen n).isSome := by
      rcases h with h | h
      · rw [← Option.isSome_map, show Option.map _ ((s.slot slot).gen n) = _ from h]
        rfl
      · exact h.2
    obtain ⟨x, hx⟩ := Option.isSome_iff_exists.1 hsome
    rw [if_pos hn, hx]
    simp only [Option.map_some, Gen.shard_modShard]
  · rw [if_neg hn]
    exact h.resolve_right fun hg => hn hg.1

theorem State.isSome_gen_refetchIn (n : Nat) : (((s.refetchIn slot shard g).slot slot).gen n).isSome = ((s.slot slot).gen n).isSome := by
  rw [State.gen_refetchIn]
  split
  · exact Option.isSome_map
  · rfl

/-- What the fetch of a shard in some generations leaves (R217). -/
theorem State.foldl_refetchIn (gs : List Gen) :
    let t := gs.foldl (fun s g => s.refetchIn slot shard g) s
    t.rd PRT_REFETCH_CNT.V = (s.rd PRT_REFETCH_CNT.V + gs.length) % 2 ^ 64 ∧
      (∀ n, (s.asked slot shard n ∨ ∃ g ∈ gs, n = g.man.generation ∧ ((s.slot slot).gen n).isSome) → t.asked slot shard n) ∧
      t.outbox = s.outbox ++ gs.map fun _ => .hostRead 0 (s.rd PRT_SRC_ADDR.V + 8 * shard) 8 := by
  induction gs generalizing s with
  | nil =>
    refine ⟨(Nat.mod_eq_of_lt (PRT_REFETCH_CNT.V.of_lt (s.getReg PRT_REFETCH_CNT 0))).symm, fun n h => ?_, (List.append_nil _).symm⟩
    exact h.resolve_right (by simp)
  | cons g gs ih =>
    obtain ⟨hcnt, hask, hout⟩ := ih (s.refetchIn slot shard g)
    refine ⟨?_, fun n h => hask n ?_, ?_⟩
    · rw [List.foldl_cons, hcnt, State.rd_refetchIn_count, List.length_cons]
      omega
    · simp only [State.isSome_gen_refetchIn]
      rcases h with h | ⟨x, hx, hn, hsome⟩
      · exact .inl (s.asked_refetchIn slot shard g n (.inl h))
      · rcases List.mem_cons.1 hx with rfl | hx
        · exact .inl (s.asked_refetchIn slot shard x n (.inr ⟨hn, hsome⟩))
        · exact .inr ⟨x, hx, hn, hsome⟩
    · rw [List.foldl_cons, hout, State.outbox_refetchIn, State.rd_refetchIn_source, List.map_cons, List.append_assoc]
      rfl

end

theorem ModelSlot.mem_gens_of_refetch {m : ModelSlot} {g : Gen} (h : g ∈ m.refetchGens shard) : g ∈ m.gens := by
  unfold ModelSlot.refetchGens at h
  dsimp only at h
  split at h
  · exact List.mem_of_mem_filter (List.mem_of_mem_take h)
  · exact List.mem_of_mem_filter (List.mem_of_mem_filter h)

theorem shardRefetch_completes {who : Who} {gs : List Gen} (hopen : s.memOpen who = true) (hadm : whoAdmin who = true)
    (hgs : (s.slot slot).refetchGens shard = gs) :
    ∃ t, exec (.shardRefetch who slot shard) s = .next t ∧ t.rd PRT_REFETCH_CNT.V = (s.rd PRT_REFETCH_CNT.V + gs.length) % 2 ^ 64 ∧
      (∀ g ∈ gs, t.asked slot shard g.man.generation) ∧ t.outbox = s.outbox ++ gs.map fun _ => .hostRead 0 (s.rd PRT_SRC_ADDR.V + 8 * shard) 8 := by
  show ∃ t, execShardRefetch who slot shard s = .next t ∧ _
  unfold execShardRefetch
  rw [State.adminWrite_open hopen hadm]
  generalize hs1 : s.accessed who _ = s1
  have h1 : Keeps .reach s s1 := hs1 ▸ (Keeps.refl .reach s).accessed
  have hout1 : s1.outbox = s.outbox := h1.part .outbox rfl
  obtain ⟨hcnt, hask, hout⟩ := s1.foldl_refetchIn slot shard gs
  rw [h1.slot_eq, hgs]
  rw [h1.rd] at hcnt
  rw [h1.rd, hout1] at hout
  refine ⟨_, rfl, hcnt, fun g hg => hask _ (.inr ⟨g, hg, rfl, ?_⟩), hout⟩
  rw [h1.slot_eq]
  exact ModelSlot.gen_of_mem (ModelSlot.mem_gens_of_refetch (hgs ▸ hg))

end Sys2Proof.Machine
end

section
/-! PROOF. O10, MODEL_UNLOAD (R210, R225): nothing that ends with a slot begins a load of it again. -/

namespace Sys2Proof.Machine

set_option Elab.async false

variable {s₀ s t : State} {slot : Nat}

/-- What stands of the slots while a slot's sequences, jobs and streams end: their states, the load that is shown, and that none begins. -/
structure SlotsStand (s t : State) : Prop where
  state : ∀ k, t.slState k = s.slState k
  load  : t.rd PRT_STAT.LOAD = s.rd PRT_STAT.LOAD
  next  : ∀ k, (t.slot k).next = (s.slot k).next

/-- Everything but the slots and their registers may change. -/
def Footprint.offSlots : Footprint := ⟨fun p => p != .slots, fun r => r != PRT_MODEL_STAT && r != PRT_STAT⟩

theorem SlotsStand.refl (s : State) : SlotsStand s s := ⟨fun _ => rfl, rfl, fun _ => rfl⟩

theorem SlotsStand.ite {c : Prop} {_ : Decidable c} {a b : State} (ha : SlotsStand s₀ a) (hb : SlotsStand s₀ b) :
    SlotsStand s₀ (if c then a else b) := by split <;> assumption

theorem SlotsStand.foldl {β : Type} {l : List β} {f : State → β → State} (h : SlotsStand s₀ s)
    (hf : ∀ t x, SlotsStand s₀ t → SlotsStand s₀ (f t x)) : SlotsStand s₀ (l.foldl f s) := by
  induction l generalizing s with
  | nil => exact h
  | cons x l ih => exact ih (hf s x h)

theorem SlotsStand.beside (h : SlotsStand s₀ s) (hk : Keeps .offSlots s t) : SlotsStand s₀ t where
  state k := (hk.rd (f := PRT_MODEL_STAT.STATE)).trans (h.state k)
  load := hk.rd.trans h.load
  next k := (congrArg _ (hk.slot_eq rfl k)).trans (h.next k)

theorem SlotsStand.modSlot (h : SlotsStand s₀ s) {k : Nat} {f : ModelSlot → ModelSlot} (hf : ∀ m, (f m).next = m.next) :
    SlotsStand s₀ (s.modSlot k f) where
  state j := (s.rd_modSlot k f PRT_MODEL_STAT.STATE j).trans (h.state j)
  load := (s.rd_modSlot k f PRT_STAT.LOAD 0).trans h.load
  next j := by
    by_cases hj : j = k
    · rw [hj, State.slot_modSlot_same, hf, h.next]
    · rw [s.slot_modSlot_ne hj, h.next]

/-! ### Sequences, tuning jobs and streams that end -/

theorem SlotsStand.endTiles (h : SlotsStand s₀ s) {g : Gen} : SlotsStand s₀ (s.endTiles g) := h.beside (Keeps.refl _ s).under_endTiles

theorem SlotsStand.unfence (h : SlotsStand s₀ s) {k expert : Nat} : SlotsStand s₀ (s.unfence k expert) := by
  unfold State.unfence
  exact .ite (h.modSlot fun _ => rfl) h

theorem SlotsStand.sweepGen (h : SlotsStand s₀ s) {k : Nat} : SlotsStand s₀ (s.sweepGen k) := by
  have hset : SlotsStand s₀ (s.setSlot k { s.slot k with prev := none }) := h.modSlot (k := k) (f := fun m => { m with prev := none }) fun _ => rfl
  unfold State.sweepGen
  dsimp only
  split
  · exact .ite (hset.endTiles.foldl fun _ _ h => h.unfence) h
  · exact h

theorem SlotsStand.sweepAdapter (h : SlotsStand s₀ s) {a : Nat} : SlotsStand s₀ (s.sweepAdapter a) := h.beside (Keeps.refl _ s).under_sweepAdapter

theorem SlotsStand.freeSeq (h : SlotsStand s₀ s) {q : Nat} : SlotsStand s₀ (s.freeSeq q) := by
  unfold State.freeSeq State.dropDispatches
  extract_lets x s1 s2
  have h1 : SlotsStand s₀ s1 := h.beside ((Keeps.refl _ s).under_dropPages.under_modCart.under_setSeq)
  have h2 : SlotsStand s₀ s2 := by
    unfold s2
    split
    · exact h1.sweepAdapter
    · exact h1
  exact h2.sweepGen

theorem SlotsStand.putEnd (h : SlotsStand s₀ s) {key status gen flags : Nat} : SlotsStand s₀ (s.putEnd key status gen flags) :=
  h.beside (Keeps.refl _ s).under_putEnd

theorem SlotsStand.setTunes (h : SlotsStand s₀ s) (m : FMap TuneJob) : SlotsStand s₀ { s with tunes := m } :=
  h.beside ((Keeps.refl _ s).only [.tunes])

theorem SlotsStand.endTune (h : SlotsStand s₀ s) {f status : Nat} : SlotsStand s₀ (s.endTune f status) := by
  unfold State.endTune
  exact .ite h ((h.foldl fun _ _ h => h.freeSeq).setTunes _).putEnd.sweepAdapter

theorem SlotsStand.endSeq (h : SlotsStand s₀ s) {q status : Nat} : SlotsStand s₀ (s.endSeq q status) := by
  unfold State.endSeq
  dsimp only
  split
  · exact h
  · split
    · exact h.endTune
    · exact h.putEnd.freeSeq

theorem SlotsStand.cancelSeq (h : SlotsStand s₀ s) {q status : Nat} : SlotsStand s₀ (s.cancelSeq q status) := by
  unfold State.cancelSeq
  exact .ite h (.ite h.endSeq (h.beside (Keeps.refl _ s).under_setSeq))

theorem SlotsStand.tuneBoundary (h : SlotsStand s₀ s) {f : Nat} : SlotsStand s₀ (s.tuneBoundary f) := by
  unfold State.tuneBoundary
  split
  · exact .ite h.endTune h
  · exact h

theorem SlotsStand.setPace (h : SlotsStand s₀ s) {k : Nat} {p : Pace} : SlotsStand s₀ (s.setPace k p) := by
  unfold State.setPace
  exact h.beside ((Keeps.refl _ s).only [.paces])

theorem SlotsStand.endPace (h : SlotsStand s₀ s) {k status : Nat} {record : Bool} : SlotsStand s₀ (s.endPace k status record) := by
  unfold State.endPace
  have h1 (c : Prop) [Decidable c] (a b d e : Nat) : SlotsStand s₀ (if c then s.putEnd a b d e else s) := .ite h.putEnd h
  exact .ite h ((h1 ..).beside (Keeps.refl _ _).setReg).setPace

theorem SlotsStand.cancelPace (h : SlotsStand s₀ s) {k status : Nat} : SlotsStand s₀ (s.cancelPace k status) := by
  unfold State.cancelPace
  dsimp only
  split
  · exact h.endPace
  · exact h.setPace.beside (Keeps.refl _ _).wr.wr

theorem SlotsStand.unloadAdapter (h : SlotsStand s₀ s) {a k : Nat} : SlotsStand s₀ (s.unloadAdapter a k) := by
  unfold State.unloadAdapter State.setAdapter
  exact h.beside ((Keeps.refl _ s).only [.adapters])

theorem modelUnload_completes {who : Who} (hopen : s.memOpen who = true) (hadm : whoAdmin who = true) (hslot : slot < 16)
    (h0 : s.slState slot ≠ 0) (h5 : s.slState slot ≠ 5) :
    ∃ t, exec (.modelUnload who slot) s = .next t ∧ t.slState slot = 5 ∧ (t.slot slot).next = none ∧
      (s.loadBusy = true → s.rd PRT_STAT.SLOT = slot → t.rd PRT_STAT.LOAD = 0) := by
  show ∃ t, execModelUnload who slot s = .next t ∧ _
  unfold execModelUnload
  rw [State.adminWrite_open hopen hadm]
  generalize hs : s.accessed who _ = s'
  have h' : Keeps .door s s' := hs ▸ (Keeps.refl .door s).accessed
  have hst : s'.slState slot = s.slState slot := h'.rd (f := PRT_MODEL_STAT.STATE)
  rw [if_neg (by simp only [slEmpty, slRetiring]; omega)]
  extract_lets s1 s2 s3 s4 s5
  have h1 : SlotsStand ((s'.setSlState slot slRetiring).modSlot slot fun m => { m with next := none, ready := false }) s1 :=
    (SlotsStand.refl _).foldl fun _ _ h => h.endTiles
  have hst1 : s1.slState slot = 5 := by
    rw [h1.state, State.slState, State.rd_modSlot]
    exact s'.slState_setSlState (by decide)
  have hnext1 : (s1.slot slot).next = none := by rw [h1.next, State.slot_modSlot_same]
  have hst2 : s2.slState slot = 5 := by
    unfold s2
    split
    · rw [State.slState, State.rd_wr_free _ rfl]
      exact hst1
    · exact hst1
  have hnext2 : (s2.slot slot).next = none := by
    unfold s2
    split
    · rw [State.slot_wr, hnext1]
    · exact hnext1
  have h3 : SlotsStand s2 s3 := (SlotsStand.refl s2).foldl fun _ _ h => h.cancelSeq
  have h4 : SlotsStand s2 s4 := h3.foldl fun _ _ h => (h.setTunes _).tuneBoundary
  have h5 : SlotsStand s2 s5 := h4.foldl fun _ _ h => .ite h.cancelPace h
  have h6 : SlotsStand s2 ((FMap.keysWhere s5.adapters fun _ a => a.live.any fun v => v.slot == slot).foldl
      (fun s a => (s.unloadAdapter a slot).sweepAdapter a) s5) := h5.foldl fun _ _ h => h.unloadAdapter.sweepAdapter
  refine ⟨_, rfl, (h6.state slot).trans hst2, (h6.next slot).trans hnext2, fun hbusy hshow => h6.load.trans ?_⟩
  unfold s2
  rw [if_pos ⟨h'.loadBusy.trans hbusy, h'.rd.trans hshow⟩, State.rd_wr_val _ rfl]
  rfl

end Sys2Proof.Machine
end

section
/-! PROOF. O10, the planes (R63, R218, R219, R254), and the obligation. -/

namespace Sys2Proof.Machine

set_option Elab.async false

variable {s t : State} {row stall sid p : Nat}

/-! ### The state and the tag of a plane -/

theorem State.planeState_setPlane_same (s : State) (sid p : Nat) {st : Nat} (hst : st < 4) (tag : Nat) :
    (s.setPlane sid p st tag).planeState sid p = st := by
  unfold State.setPlane State.planeState
  split
  · rw [State.rd_wr_free _ rfl, State.rd_wr_val _ rfl]
    exact Nat.mod_eq_of_lt hst
  · rw [State.rd_wr_free _ rfl, State.rd_wr_val _ rfl]
    exact Nat.mod_eq_of_lt hst

theorem State.planeTag_setPlane_same (s : State) (sid p st tag : Nat) : (s.setPlane sid p st tag).planeTag sid p = tag % 2 ^ 16 := by
  unfold State.setPlane State.planeTag
  split
  · exact State.rd_wr_val _ rfl ..
  · exact State.rd_wr_val _ rfl ..

/-- The tag that a plane is to carry. -/
def Stall.heldTag (st : Stall) (p : Nat) : Nat := if p = 0 then st.tag0 else st.tag1
/-- What a plane is loaded with. -/
def Stall.planeSrc (st : Stall) (p : Nat) : Option PlaneSrc := if p = 0 then st.plane0 else st.plane1
/-- What a plane holds. -/
def Stall.ram (st : Stall) (p : Nat) : PlaneRam := if p = 0 then st.ram0 else st.ram1

/-- A plane of a stall begins to load (R218, R219). -/
structure PlaneBegun (sid p tag : Nat) (src : PlaneSrc) (ram : PlaneRam) (rest : List PlaneSrc) (t : State) : Prop where
  state : t.planeState sid p = 1
  tag   : (t.stall sid).heldTag p = tag
  src   : (t.stall sid).planeSrc p = some src
  ram   : (t.stall sid).ram p = ram
  req   : (t.stall sid).planeReq = rest

theorem State.startPlane_begun (s : State) (sid p tag : Nat) (src : PlaneSrc) (ram : PlaneRam) :
    PlaneBegun sid p tag src ram (s.stall sid).planeReq (s.startPlane sid p tag (some src) ram) := by
  have hst : ((s.startPlane sid p tag (some src) ram).stall sid) = _ := State.stall_modStall_same ..
  rw [State.stall_setPlane] at hst
  constructor
  · exact (State.planeState_modStall ..).trans (s.planeState_setPlane_same sid p (by decide) _)
  all_goals
    rw [hst]
    simp only [Stall.heldTag, Stall.planeSrc, Stall.ram, Stall.setRam]
    split <;> rfl

/-! ### Requests (R218, R254) -/

theorem planeLoadRequest_queues {owner : PlaneOwner} {idx which : Nat} {src : PlaneSrc} (hsrc : owner.src idx which = src)
    (hok : stallOk row stall = true) (hex : s.planeExists src = true) (hroom : (s.stall (stallId row stall)).planeReq.length < 4) :
    ∃ t, exec (.planeLoadRequest row stall owner idx which) s = .next t ∧
      (t.stall (stallId row stall)).planeReq = (s.stall (stallId row stall)).planeReq ++ [src] := by
  show ∃ t, execPlaneLoadRequest row stall owner idx which s = .next t ∧ _
  unfold execPlaneLoadRequest
  dsimp only
  rw [hsrc, if_pos (by simp [hok, hex])]
  refine ⟨_, rfl, ?_⟩
  rw [State.stall_modStall_same, if_pos hroom]

/-! ### Loads that begin (R63, R218) -/

/-- An awake stall of whose planes one is EMPTY loads it. -/
theorem exec_planeLoadStart_empty (err : MemErr) (hok : stallOk row stall = true) (hrun : 3 ≤ s.stState (stallId row stall))
    (hreq : (s.stall (stallId row stall)).planeReq ≠ []) (hp : s.emptyPlane (stallId row stall) = some p) :
    exec (.planeLoadStart row stall err) s = .next (s.loadPlane (stallId row stall) p err) := by
  show execPlaneLoadStart row stall err s = _
  unfold execPlaneLoadStart
  dsimp only
  rw [if_neg (by simp [hok]), if_neg (by simp [stRun, hrun, hreq]), hp]

/-- A valid shard is read, and the plane begins with its entry (R218). -/
theorem State.loadEntry_begins {slot gen idx : Nat} {g : Gen} {e : Stream} {b : List Byte} (hent : s.planeEntry slot gen idx = some (g, e))
    (hval : (g.shard e.shard).valid = true) (hread : s.readShard slot g e.shard = some b) (tag : Nat) (next : State → State) :
    ∃ u : State, s.loadSource sid p tag (.stream slot gen idx) MemErr.none next =
      (next u).startPlane sid p tag (some (.stream slot gen idx)) (.stream e b) := by
  have h1 : Keeps ⟨[.mem].contains, readRegs.contains⟩ s (s.shardRead slot gen e.shard MemErr.none) := (Keeps.refl _ s).under_shardRead
  have hue (u : State) : u.ueIn slot gen e.shard MemErr.none.ue = none := by
    unfold State.ueIn
    split <;> rfl
  have hread1 : (s.shardRead slot gen e.shard MemErr.none).readShard slot g e.shard = some b := by
    have hsec : (s.shardRead slot gen e.shard MemErr.none).sec = s.sec := h1.part .sec rfl
    simpa only [State.readShard, State.openShard, hsec] using hread
  show ∃ u : State, s.loadEntry sid p tag slot gen idx MemErr.none next = _
  unfold State.loadEntry
  rw [hent]
  dsimp only
  rw [if_neg (by simp [hval]), hue, hread1]
  exact ⟨_, rfl⟩

/-- The sound pages of a block are read, and the plane begins with them (R254, R255). -/
theorem State.loadBlock_begins {q layer block which : Nat} (hlive : (s.seq q).live = true) (hbad : s.badPage (s.blockIds q layer block) = none)
    (tag : Nat) (next : State → State) :
    ∃ u : State, s.loadSource sid p tag (.attn q layer block which) MemErr.none next =
      (next u).startPlane sid p tag (some (.attn q layer block which)) (.attention (s.blockPages q layer block) which) := by
  have hsound : s.pageErrs (s.blockIds q layer block) MemErr.none = s := rfl
  show ∃ u : State, s.loadBlock sid p tag q layer block which MemErr.none next = _
  unfold State.loadBlock
  rw [if_neg (by simp [hlive])]
  dsimp only
  rw [hsound, hbad]
  exact ⟨_, rfl⟩

/-- The oldest request is taken, and the loads are counted (R218, R219). -/
def State.takeReq (s : State) (sid cnt : Nat) (rest : List PlaneSrc) : State :=
  s.modStall sid fun st => { st with planeReq := rest, planeCnt := cnt }

/-- An EMPTY plane of an awake stall begins with what the oldest request names, where nothing was lost in bias-off (R218, R219). -/
theorem planeLoadStart_begins {k : PlaneSrc} {rest : List PlaneSrc} {ram : PlaneRam} (hok : stallOk row stall = true)
    (hrun : 3 ≤ s.stState (stallId row stall)) (hrel : (s.stall (stallId row stall)).reloads = [])
    (hreq : (s.stall (stallId row stall)).planeReq = k :: rest) (hp : s.emptyPlane (stallId row stall) = some p) (hhere : s.planeGone k = false)
    (hload : ∀ (tag : Nat) (next : State → State), ∃ u : State,
      s.loadSource (stallId row stall) p tag k MemErr.none next = (next u).startPlane (stallId row stall) p tag (some k) ram) :
    ∃ t, exec (.planeLoadStart row stall MemErr.none) s = .next t ∧
      PlaneBegun (stallId row stall) p (nextTag (s.stall (stallId row stall)).planeCnt).2 k ram rest t := by
  refine ⟨_, exec_planeLoadStart_empty _ hok hrun (by simp [hreq]) hp, ?_⟩
  unfold State.loadPlane
  dsimp only
  rw [hrel, hreq]
  dsimp only
  rw [if_neg (by simp [hhere])]
  generalize htag : nextTag (s.stall (stallId row stall)).planeCnt = ct
  obtain ⟨u, hu⟩ := hload ct.2 fun u => u.takeReq (stallId row stall) ct.1 rest
  have hbegun := (u.takeReq (stallId row stall) ct.1 rest).startPlane_begun (stallId row stall) p ct.2 k ram
  rw [← hu, State.takeReq, State.stall_modStall_same] at hbegun
  exact hbegun

/-- Where only a plane that computes could take the write, it is refused (R63). -/
theorem planeLoadStart_taken (err : MemErr) (hok : stallOk row stall = true) (hrun : 3 ≤ s.stState (stallId row stall))
    (hreq : (s.stall (stallId row stall)).reloads ≠ [] ∨ (s.stall (stallId row stall)).planeReq ≠ [])
    (hp : s.emptyPlane (stallId row stall) = none) (htaken : s.planesTaken (stallId row stall) = true) :
    ∃ t, exec (.planeLoadStart row stall err) s = .next t ∧ t.on STL_ERR.PORTER_WR (stallId row stall) = true ∧
      t.stall (stallId row stall) = s.stall (stallId row stall) := by
  show ∃ t, execPlaneLoadStart row stall err s = .next t ∧ _
  unfold execPlaneLoadStart
  dsimp only
  rw [if_neg (by simp [hok]), if_neg (by rcases hreq with h | h <;> simp [stRun, hrun, h]), hp]
  dsimp only
  rw [if_pos htaken]
  exact ⟨_, rfl, State.on_flag_val _ rfl _, State.stall_flag ..⟩

/-- The last byte is written: the plane carries its tag (R218, R219). -/
theorem planeLoadDone_ready (hok : stallOk row stall = true) (hp : p < 2) (hload : s.planeState (stallId row stall) p = 1) :
    ∃ t, exec (.planeLoadDone row stall p) s = .next t ∧ t.planeState (stallId row stall) p = 2 ∧
      t.planeTag (stallId row stall) p = (s.stall (stallId row stall)).heldTag p % 2 ^ 16 ∧
      t.rd PRT_PLANE_LOAD_CNT.V = (s.rd PRT_PLANE_LOAD_CNT.V + 1) % 2 ^ 64 := by
  show ∃ t, execPlaneLoadDone row stall p s = .next t ∧ _
  unfold execPlaneLoadDone
  dsimp only
  rw [if_pos (by simp [hok, hp, hload])]
  generalize hu : s.setPlane (stallId row stall) p 2 _ = u
  have hk : Keeps (.without [STL_PLANE]) u (u.bump PRT_PLANE_LOAD_CNT.V) := (Keeps.refl _ u).bump
  refine ⟨_, rfl, ?_, ?_, ?_⟩
  · rw [State.planeState, hk.rd, hk.rd, ← State.planeState, ← hu]
    exact s.planeState_setPlane_same _ p (by decide) _
  · rw [State.planeTag, hk.rd, hk.rd, ← State.planeTag, ← hu, State.planeTag_setPlane_same]
    rfl
  · have hcnt : u.rd PRT_PLANE_LOAD_CNT.V = s.rd PRT_PLANE_LOAD_CNT.V :=
      hu ▸ ((Keeps.refl (.without [PRT_PLANE_LOAD_CNT]) s).setPlane).rd
    rw [State.rd_bump_val _ rfl, hcnt]
    rfl

end Sys2Proof.Machine

namespace Sys2Proof

open Machine

/-- Settles O10: each command of the porter (R201, R208 to R219, R254), from the lemmas of its slots, its shards and its planes. -/
theorem porterCommandsComplete : Obligations.PorterCommandsComplete := fun _ =>
  ⟨fun _ _ _ _ _ _ _ _ hman hopen hadm hslot hbusy hrst hm hdig hsig hok hmay hp h1 h2 =>
      modelLoad_completes hman hopen hadm hslot hbusy hrst hm hdig hsig hok hmay hp h1 h2,
    fun _ _ _ _ _ _ _ hman hm hopen hadm hslot hbusy hrst hbad => modelLoad_unsigned hman hm hopen hadm hslot hbusy hrst hbad,
    fun _ _ _ _ _ _ _ _ _ hgen he hinv hgood => shardArrival_completes hgen he hinv hgood,
    fun _ _ hnext hmiss hstock hload hlo hhi => slotReady_completes hnext hmiss hstock hload hlo hhi,
    fun _ _ hopen hadm hslot h0 h5 => modelUnload_completes hopen hadm hslot h0 h5,
    fun _ h5 hseq htune hpace => slotRetired_completes h5 hseq htune hpace,
    fun _ _ _ _ hopen hadm hgs => shardRefetch_completes hopen hadm hgs,
    fun _ _ hopen hadm h4 hval => releaseHeld_completes hopen hadm h4 hval,
    fun _ _ _ _ _ _ hgen he hen hval hdue hgood => shardScrubDue_passes hgen he hen hval hdue hgood,
    fun _ _ _ _ _ _ hsrc hok hex hroom => planeLoadRequest_queues hsrc hok hex hroom,
    fun _ _ _ _ _ _ _ _ _ _ hok hrun hrel hreq hp hent hval hread =>
      have ⟨t, ht, hb⟩ := planeLoadStart_begins hok hrun hrel hreq hp (by simp [State.planeGone, hent]) (State.loadEntry_begins hent hval hread)
      ⟨t, ht, hb.state, hb.tag, hb.req, hb.src, hb.ram⟩,
    fun _ _ _ _ _ _ _ _ hok hrun hrel hreq hp hlive hbad =>
      have ⟨t, ht, hb⟩ := planeLoadStart_begins hok hrun hrel hreq hp (by simp [State.planeGone, hlive]) (State.loadBlock_begins hlive hbad)
      ⟨t, ht, hb.state, hb.req, hb.ram⟩,
    fun _ _ err hok hrun hreq hp htaken => planeLoadStart_taken err hok hrun hreq hp htaken,
    fun _ _ _ hok hp hload => planeLoadDone_ready hok hp hload⟩

end Sys2Proof
end

section
/-! PROOF. What the operations of narrow arithmetic and of accumulation may change (R110 to R168, R316), under every footprint that takes
them in. -/

namespace Sys2Proof.Machine

set_option Elab.async false

variable {F : Footprint} {s₀ s : State}

/-! ### Vectors that reach a source buffer (R110 to R114, R158, R316) -/

theorem Keeps.under_putAttn (h : Keeps F s₀ s) {row : Nat} {r : AttnRes} (hF : F.Covers [.rows] [] := by exact rfl) :
    Keeps F s₀ (s.putAttn row r) := h.under_modRow hF

theorem Keeps.under_saveInput (h : Keeps F s₀ s) {q first tag : Nat} {xb : List Nat} (hF : F.Covers [.seqs] [] := by exact rfl) :
    Keeps F s₀ (s.saveInput q first tag xb) := by
  unfold State.saveInput
  exact .ite h (h.under_modSeq hF)

/-- What a vector that is taken may change. -/
def vectorParts : List Part := .seqs :: handParts
/-- The registers that it may change. -/
def vectorRegs : List Reg := [SRV_ADP_ERR, TAL_NQ_ERR, TAL_NQ_NONFINITE_CNT] ++ takeRegs

section
variable (hF : F.Covers vectorParts vectorRegs := by exact rfl)
include hF

theorem Keeps.under_adapterFeed (h : Keeps F s₀ s) {tag seq : Nat} {xs : List Word32} {f : Feed} :
    Keeps F s₀ (s.adapterFeed tag seq xs f) := by
  unfold State.adapterFeed
  split
  · exact h
  · split
    · exact h
    · split
      · exact h
      · split
        · exact h
        · dsimp only
          split
          · exact h
          · split
            · exact h.under_release hF.sub
            · exact .ite ((h.under_saveInput hF.sub).under_release hF.sub) (h.under_setInst hF.sub)

theorem Keeps.under_adapterPart (h : Keeps F s₀ s) {v : VecIn} {xs : List Word32} : Keeps F s₀ (s.adapterPart v xs) := by
  unfold State.adapterPart
  exact .ite h (.ite (h.under_flagAt hF.sub rfl rfl) (h.foldl fun _ _ h => h.under_adapterFeed hF))

theorem Keeps.under_answerStats (h : Keeps F s₀ s) {row : Nat} {v : VecIn} : Keeps F s₀ (s.answerStats row v) := by
  have hc (n : AccCnt) : Keeps F s₀ (s.countAcc row v.stall n) := h.under_countAcc hF.sub
  unfold State.answerStats
  dsimp only
  split
  · exact (hc _).send hF.sub
  · exact hc _
  · exact h

theorem Keeps.under_nanVector (h : Keeps F s₀ s) {row : Nat} {v : VecIn} : Keeps F s₀ (s.nanVector row v) := by
  unfold State.nanVector
  dsimp only
  refine ((h.bump hF.sub).under_nqFlag hF.sub).foldl fun _ _ h => ?_
  split
  · exact h.under_putAttn hF.sub
  · split
    · exact h
    · split
      · exact h.under_release hF.sub
      · exact h

theorem Keeps.under_takeVector (h : Keeps F s₀ s) {row buf : Nat} {v : VecIn} : Keeps F s₀ (s.takeVector row buf v) := by
  have ha : Keeps F s₀ (s.answerStats row v) := h.under_answerStats hF
  unfold State.takeVector
  dsimp only
  split
  · exact (ha.under_nanVector hF).under_adapterPart hF
  · exact (ha.under_modRow hF.sub).under_adapterPart hF

theorem Keeps.under_wokenVectors (h : Keeps F s₀ s) {row : Nat} : Keeps F s₀ (s.wokenVectors row) := by
  unfold State.wokenVectors
  exact .ite ((h.under_modRow hF.sub).foldl fun _ _ h => h.under_takeVector hF) h

theorem Keeps.under_execVectorArrival (h : Keeps F s₀ s) {row buf : Nat} {v : VecIn} :
    Answers F s₀ (Machine.execVectorArrival row buf v s) := by
  have hw : Keeps F s₀ (s.wokenVectors row) := h.under_wokenVectors hF
  unfold Machine.execVectorArrival
  exact .ite (.next hw) (.ite (.next (hw.under_takeVector hF)) (.next (hw.under_modRow hF.sub)))

end

/-- What the quantisation of a vector may change, the vectors that its row wakes to among it. -/
def quantParts : List Part := [.stalls, .groups] ++ vectorParts
/-- The registers that it may change. -/
def quantRegs : List Reg :=
  [TAL_OUT_DYN_CNT, TAL_OUT_REQUANT_CNT, TAL_OUT_WIDEN_CNT, TAL_TILE_STAT, TAL_NQ_VEC_CNT, TAL_NQ_LIFT_CNT, TAL_NQ_OFF_CNT,
    TAL_NQ_CARRY_SAT_CNT, TAL_NQ_ETA_CNT, TAL_WIDE_START_CNT] ++ vectorRegs

theorem Keeps.under_execQuantiseVector (h : Keeps F s₀ s) {row buf : Nat} (hF : F.Covers quantParts quantRegs := by exact rfl) :
    Answers F s₀ (Machine.execQuantiseVector row buf s) := by
  unfold Machine.execQuantiseVector
  extract_lets +onlyGivenNames s'
  have h' : Keeps F s₀ s' := h.under_wokenVectors hF.sub
  split
  · exact .next h'
  · extract_lets +onlyGivenNames v sid st
    split
    · exact .next h'
    · extract_lets +onlyGivenNames fresh stock c desig ct wOf size grps wide probs d q
      split
      · exact .next h'
      · extract_lets n both s1 s2 s3 s4 s5
        have h1 : Keeps F s₀ s1 := ((((h'.bump hF.sub).bump hF.sub).bump hF.sub).bump hF.sub).bump hF.sub
        have h2 : Keeps F s₀ s2 := ((h1.bump hF.sub).bump hF.sub).bump hF.sub
        have h3 : Keeps F s₀ s3 := h2.foldl fun _ _ h => h.wr hF.sub
        have h4 : Keeps F s₀ s4 := .ite (h3.foldl fun _ _ h => h.under_widen hF.sub) h3
        have h5 : Keeps F s₀ s5 := h4.modStall hF.sub
        exact .next (h5.under_modRow hF.sub)

/-! ### Tile commands and step markers (R127, R139, R148) -/

theorem Keeps.under_tileCmd (h : Keeps F s₀ s) {who : Who} {row stall group op : Nat}
    (hF : F.Covers (.rows :: wakingParts) wakingRegs := by exact rfl) : Keeps F s₀ (s.tileCmd who row stall group op) :=
  h.under_talWrite (fun _ h => .ite (h.under_modRow hF.sub) h) hF.sub

theorem Keeps.under_actCmd (h : Keeps F s₀ s) {row : Nat} {c : Nat × Nat × Nat}
    (hF : F.Covers [.groups] [TAL_TILE_STAT, TAL_WIDE_START_CNT] := by exact rfl) : Keeps F s₀ (s.actCmd row c) := by
  have ht : F.Covers [] [TAL_TILE_STAT] := hF.sub
  unfold State.actCmd
  dsimp only
  split
  · exact (h.under_widen hF).wr ht
  · exact h.wr ht
  · exact .ite (h.wr ht) h

theorem Keeps.under_markTile (h : Keeps F s₀ s) {gid : Nat} (hF : F.Covers [.groups] [TAL_TILE_STAT] := by exact rfl) :
    Keeps F s₀ (s.markTile gid) := by
  unfold State.markTile
  exact .under_setGroup (.ite (h.wr hF.sub) h) hF.sub

theorem Keeps.under_execStepMarker (h : Keeps F s₀ s) {row : Nat}
    (hF : F.Covers [.groups, .rows] [TAL_STEP_CNT, TAL_TILE_STAT, TAL_WIDE_START_CNT] := by exact rfl) :
    Answers F s₀ (Machine.execStepMarker row s) := by
  unfold Machine.execStepMarker
  exact .ite (.next h) (.next (.under_modRow
    (.foldl ((h.bump hF.sub).foldl fun _ _ h => h.under_markTile hF.sub) fun _ _ h => h.under_actCmd hF.sub) hF.sub))

theorem Keeps.under_execHoldExpiry (h : Keeps F s₀ s) {row stall group : Nat} (hF : F.Covers [] [TAL_TILE_STAT] := by exact rfl) :
    Answers F s₀ (Machine.execHoldExpiry row stall group s) := by
  unfold Machine.execHoldExpiry
  exact .ite (.ite (.next (h.wr hF)) (.next h)) (.next h)

/-! ### WIDE_STORM (R130, R140) -/

/-- What a storm of a stall may change. -/
def stormParts : List Part := .cal :: flagParts
/-- The registers that it may change. -/
def stormRegs : List Reg := [TAL_WIDE_STORM_CNT, TAL_NQ_ERR, CAL_STAT, CAL_STALL_STAT] ++ flagRegs

theorem Keeps.under_storm (h : Keeps F s₀ s) {sid : Nat} (hF : F.Covers stormParts stormRegs := by exact rfl) : Keeps F s₀ (s.storm sid) := by
  unfold State.storm
  extract_lets row s1
  have h1 : Keeps F s₀ s1 := (h.bump hF.sub).under_nqFlag hF.sub
  exact .under_queueCal (.ite (h1.raise hF.sub) h1) hF.sub

theorem Keeps.under_execWideStormEvaluation (h : Keeps F s₀ s) {row : Nat}
    (hF : F.Covers ([.stalls, .rows] ++ stormParts) (TAL_STORM_MAP :: stormRegs) := by exact rfl) :
    Answers F s₀ (Machine.execWideStormEvaluation row s) := by
  have hm : F.Covers [] [TAL_STORM_MAP] := hF.sub
  unfold Machine.execWideStormEvaluation
  exact .ite (.next h) (.ite (.next (.under_modRow
    (.foldl (((h.wr hm).wr hm).foldl fun _ _ h => h.under_storm hF.sub) fun _ _ h => h.modStall hF.sub) hF.sub)) (.next h))

/-! ### Refusal markers (R46, R157) -/

/-- The registers that a part that is handed over may change, its refusal counted (R157). -/
def partRegs : List Reg := [TAL_ACC_REFUSED_CNT, TAL_ACC_ERR] ++ handRegs

theorem Keeps.under_handPart (h : Keeps F s₀ s) {sid tag g : Nat} {marker : Bool} (hF : F.Covers workParts partRegs := by exact rfl) :
    Keeps F s₀ (s.handPart sid tag g marker) := by
  unfold State.handPart
  split
  · split
    · extract_lets row s1 i i1
      have h1 : Keeps F s₀ s1 := .ite ((h.bump hF.sub).under_accFlag hF.sub) h
      exact .under_dropRefused (.ite h1 (.ite (h1.under_setInst hF.sub) (h1.under_handInst hF.sub))) hF.sub
    · exact h.under_dropRefused hF.sub
  · exact h.under_dropRefused hF.sub

theorem Keeps.under_execRefusalMarker (h : Keeps F s₀ s) {row stall : Nat} (hF : F.Covers workParts partRegs := by exact rfl) :
    Answers F s₀ (Machine.execRefusalMarker row stall s) := by
  unfold Machine.execRefusalMarker
  split
  · exact .next h
  · extract_lets sid
    split
    · exact .next h
    · extract_lets s1 s2
      have h1 : Keeps F s₀ s1 := h.modStall hF.sub
      have h2 : Keeps F s₀ s2 := .ite (h1.under_handPart hF) h1
      exact .next (.ite (h2.under_handPart hF) h2)

/-! ### Outputs of reductions (R149, R151) -/

theorem Keeps.under_joinPart (h : Keeps F s₀ s) {row red slot gen tag seq : Nat} {g : Gen} {sp : Nat × Nat} {vals : List Word32}
    (hF : F.Covers [.rows] [] := by exact rfl) : Keeps F s₀ (s.joinPart row red slot gen tag seq g sp vals) := h.under_setInst hF

theorem Keeps.under_keepSeen (h : Keeps F s₀ s) {row : Nat} {i : Inst} (hF : F.Covers [.rows] [] := by exact rfl) :
    Keeps F s₀ (s.keepSeen row i) := by
  unfold State.keepSeen
  split
  · exact h.under_setInst hF
  · exact h

theorem Keeps.under_execReductionOutput (h : Keeps F s₀ s) {row red tag : Nat}
    (hF : F.Covers [.outbox, .rows, .cart, .funcs, .pendAt] ([TAL_ACC_NONFIN_OUT_CNT, CW_DISCARD_CNT] ++ accRegs) := by exact rfl) :
    Answers F s₀ (Machine.execReductionOutput row red tag s) := by
  have hc (p : Nat) (n : AccCnt) : Keeps F s₀ (s.countAcc row p n) := h.under_countAcc hF.sub
  have hb (p : Nat) (n : AccCnt) (k : Nat) : Keeps F s₀ ((s.countAcc row p n).bump TAL_ACC_NONFIN_OUT_CNT.V row k) := (hc p n).bump hF.sub
  have hclosed (p : Nat) (n : AccCnt) : Keeps F s₀ ((s.countAcc row p n).closeInst row red tag) := (hc p n).under_closeInst hF.sub
  unfold Machine.execReductionOutput
  split
  · exact .next h
  · split
    · exact .next h
    · split
      · exact .next h
      · exact .ite (.next h) (.ite
          (.ite (.next (.under_closeInst (.send (.ite (hb _ _ _) ((hb _ _ _).under_accFlag hF.sub)) hF.sub) hF.sub)) (.next h))
          (.ite (.next (.under_keepSeen ((hclosed _ _).foldl fun _ _ h => h.under_joinPart hF.sub) hF.sub))
            (.next ((hclosed _ _).foldl fun _ _ h => h.under_queueCart hF.sub))))

/-! ### Drains (R162, R168) -/

theorem Keeps.under_setBusy (h : Keeps F s₀ s) {sid : Nat} {b : Bool} (hF : F.Covers [] [TAL_ACC_STAT] := by exact rfl) :
    Keeps F s₀ (s.setBusy sid b) := h.wr hF

theorem Keeps.under_drainReq (h : Keeps F s₀ s) {sid : Nat} {who : Requester}
    (hF : F.Covers [.stalls] [TAL_ACC_STAT, STL_STAT] := by exact rfl) : Keeps F s₀ (s.drainReq sid who) := by
  unfold State.drainReq
  extract_lets s1 s2
  have h2 : Keeps F s₀ s2 := (h.modStall hF.sub).under_setBusy hF.sub
  exact .ite (h2.setStState hF.sub) h2

/-- The registers that a drain that completes may change (R162). -/
def drainedRegs : List Reg := [TAL_ACC_STAT, TAL_ACC_DRAIN_CNT, STL_STAT, BST_STAT] ++ raiseRegs

theorem Keeps.under_drainDone (h : Keeps F s₀ s) {sid : Nat} (hF : F.Covers [.stalls, .pendAt] drainedRegs := by exact rfl) :
    Keeps F s₀ (s.drainDone sid) := by
  unfold State.drainDone
  extract_lets s1 early s2 s3
  have h1 : Keeps F s₀ s1 := ((h.under_setBusy hF.sub).bump hF.sub).raise hF.sub
  have h2 : Keeps F s₀ s2 := h1.modStall hF.sub
  have h3 : Keeps F s₀ s3 := .ite ((h2.setStState hF.sub).under_testDrained hF.sub) h2
  exact h3.foldl fun _ _ h => h.under_drainRel hF.sub

end Sys2Proof.Machine
end

section
/-! PROOF. What a reset that has waited for a drain may change (R531, R540), under every footprint that takes it in. -/

namespace Sys2Proof.Machine

set_option Elab.async false

variable {F : Footprint} {s₀ s : State}

theorem Keeps.under_resetRegs (h : Keeps F s₀ s) {rs : List Reg} {i : Nat} (hF : F.Covers [] rs := by exact rfl) :
    Keeps F s₀ (s.resetRegs rs i) := by
  have hone (r : Reg) (hr : r ∈ rs) : F.Covers [] [r] := by simpa [Footprint.Covers] using hF.reg hr
  clear hF
  induction rs generalizing s with
  | nil => exact h
  | cons r rs ih => exact ih (h.setReg (hone r List.mem_cons_self)) fun q hq => hone q (List.mem_cons_of_mem r hq)

/-! ### A change of modes that ends (R451) -/

/-- The registers that show the drains of a scope. -/
def scopeRegs : List Reg := [TAL_ACC_STAT, STL_STAT, WH_STAT]

theorem Keeps.under_resetDrains (h : Keeps F s₀ s) (hF : F.Covers [.stalls] scopeRegs := by exact rfl) : Keeps F s₀ s.resetDrains := by
  unfold State.resetDrains
  split
  · exact .ite h (.foldl (h.foldl fun _ _ h => .ite h (h.under_drainReq hF.sub)) fun _ _ h => .ite (h.wr hF.sub) h)
  · exact h

/-- The registers that a phase of a mode change may change. -/
def phaseRegs : List Reg := MODE_STAT :: raiseRegs ++ scopeRegs

theorem Keeps.under_modePhase (h : Keeps F s₀ s) {p : Nat} (hF : F.Covers [.stalls, .pendAt] phaseRegs := by exact rfl) :
    Keeps F s₀ (s.modePhase p) := by
  have h1 : Keeps F s₀ ((s.wr MODE_STAT.PHASE 0 p).raise 221) := (h.wr hF.sub).raise hF.sub
  unfold State.modePhase
  exact .ite (h1.under_resetDrains hF.sub) h1

theorem Keeps.under_modeReopen (h : Keeps F s₀ s) (hF : F.Covers [.stalls] [STL_STAT, WH_STAT] := by exact rfl) : Keeps F s₀ s.modeReopen := by
  unfold State.modeReopen
  refine h.foldl fun _ _ h => ?_
  split
  · exact h.under_drainRel hF.sub
  · exact h
  · exact .ite (h.wr hF.sub) h

/-- The registers that the abort of a change may change. -/
def abortRegs : List Reg := MODE_GEN :: MODE_ABORT_CNT :: phaseRegs

theorem Keeps.under_modeAbort (h : Keeps F s₀ s) (hF : F.Covers [.stalls, .pendAt, .modeCtl] abortRegs := by exact rfl) :
    Keeps F s₀ s.modeAbort := by
  have h1 (c : ModeCtl) : Keeps F s₀ ({ s with modeCtl := c } : State).modeReopen := .under_modeReopen (h.only [.modeCtl] hF.sub) hF.sub
  unfold State.modeAbort
  exact .ite ((((h1 _).wr hF.sub).bump hF.sub).under_modePhase hF.sub) h

/-! ### Tests and calibration runs (R475, R476, R480, R540) -/

/-- What the shuttering of a unit under test may change. -/
def shutteringParts : List Part := .stalls :: wakeParts
/-- The registers that it may change. -/
def shutteringRegs : List Reg := [TAL_ACC_STAT, BST_STAT] ++ wakeRegs

theorem Keeps.under_testShut (h : Keeps F s₀ s) (hF : F.Covers shutteringParts shutteringRegs := by exact rfl) : Keeps F s₀ s.testShut := by
  unfold State.testShut
  split
  · exact .ite (.under_testDrained (h.foldl fun _ _ h => (h.wakeStall hF.sub).under_drainReq hF.sub) hF.sub) h
  · exact h

theorem Keeps.under_emptyHouse (h : Keeps F s₀ s) {house : Nat} (hF : F.Covers [.seqs] [WH_STAT] := by exact rfl) :
    Keeps F s₀ (s.emptyHouse house) := by
  unfold State.emptyHouse
  exact (h.wr hF.sub).foldl fun _ _ h => h.under_modSeq hF.sub

theorem Keeps.under_nextTest (h : Keeps F s₀ s) (hF : F.Covers ([.cal, .seqs] ++ shutteringParts) shutteringRegs := by exact rfl) :
    Keeps F s₀ s.nextTest := by
  have hb : F.Covers [] [BST_STAT] := hF.sub
  have h1 (c : CalState) : Keeps F s₀ ({ s with cal := c } : State).showQueued := (h.only [.cal] hF.sub).wr hb
  unfold State.nextTest
  split
  · exact .ite h (.ite ((h1 _).wr hb) (.ite (((h1 _).under_emptyHouse hF.sub).wr hb) (((h1 _).wr hb).under_testShut hF.sub)))
  · exact h

/-- What the discarding of a calibration run may change. -/
def runParts : List Part := [.cal, .jobs] ++ shutteringParts
/-- The registers that it may change. -/
def runRegs : List Reg := [CAL_STAT, CAL_STALL_STAT] ++ shutteringRegs

theorem Keeps.under_calLeave (h : Keeps F s₀ s) {sid run : Nat} (hF : F.Covers runParts runRegs := by exact rfl) :
    Keeps F s₀ (s.calLeave sid run) := by
  have h1 (c : CalState) (js : List Job) : Keeps F s₀ { s with cal := c, jobs := js } := h.only [.cal, .jobs] hF.sub
  unfold State.calLeave
  exact ((((h1 _ _).wr hF.sub).wr hF.sub).under_calBlockOff hF.sub).under_testShut hF.sub

theorem Keeps.under_calDiscard (h : Keeps F s₀ s) {sid : Nat} (hF : F.Covers runParts runRegs := by exact rfl) :
    Keeps F s₀ (s.calDiscard sid) := by
  unfold State.calDiscard
  exact .ite ((h.under_calLeave hF).under_queueCal hF.sub) h

theorem Keeps.under_testDiscard (h : Keeps F s₀ s) {u : UnitReset} (hF : F.Covers [.cal, .stalls] [BST_STAT] := by exact rfl) :
    Keeps F s₀ (s.testDiscard u) := by
  have h1 (c : CalState) : Keeps F s₀ (({ s with cal := c } : State).wr BST_STAT.STATE 0 0) := (h.only [.cal] hF.sub).wr hF.sub
  unfold State.testDiscard
  split
  · exact .ite ((h1 _).foldl fun _ _ h => h.modStall hF.sub) h
  · exact h

/-! ### The units of the scope (R531) -/

theorem Keeps.under_handOpen (h : Keeps F s₀ s) {row sid : Nat} {p : Inst → Bool} (hF : F.Covers handParts handRegs := by exact rfl) :
    Keeps F s₀ (s.handOpen row sid p) := h.foldl fun _ _ h => h.under_handInst hF

theorem Keeps.under_loseStrikes (h : Keeps F s₀ s) {sid : Nat} (hF : F.Covers workParts partRegs := by exact rfl) :
    Keeps F s₀ (s.loseStrikes sid) :=
  .foldl ((h.setStall hF.sub).foldl fun _ _ h => h.under_handPart hF) fun _ _ h =>
    .ite (h.under_discardStrike hF.sub) (h.under_dropStrike hF.sub)

/-- The registers that the reset of a stall may change. -/
def stallResetRegs : List Reg := [STL_PLANE, STL_STAT] ++ STL_ERR :: stlCounters ++ partRegs

theorem Keeps.under_resetStall (h : Keeps F s₀ s) {sid : Nat} {whole : Bool}
    (hF : F.Covers (.cal :: workParts) stallResetRegs := by exact rfl) : Keeps F s₀ (s.resetStall sid whole) := by
  have hst : F.Covers [] [STL_STAT] := hF.sub
  unfold State.resetStall
  extract_lets s0 _ s1 s2 s3
  have h0 : Keeps F s₀ s0 := .loseSram (.ite h (h.under_loseStrikes hF.sub)) hF.sub
  have h1 : Keeps F s₀ s1 := h0.modStall hF.sub
  have h2 : Keeps F s₀ s2 := ((h1.under_resetRegs hF.sub).wr hst).wr hst
  have h3 : Keeps F s₀ s3 := h2.under_setBusy hF.sub
  exact h3.only [.jobs, .cal] hF.sub

/-- The registers that the reset of a row's tally engine and row switch may change. -/
def rowResetRegs : List Reg := [TAL_COR_ERR, TAL_NQ_ERR, TAL_ACC_ERR, TAL_STORM_MAP, TAL_ACC_STAT] ++ talCounters

theorem Keeps.under_resetRow (h : Keeps F s₀ s) {row : Nat} (hF : F.Covers [.rows] rowResetRegs := by exact rfl) :
    Keeps F s₀ (s.resetRow row) := (h.under_modRow hF.sub).under_resetRegs hF.sub

theorem Keeps.under_wakeReset (h : Keeps F s₀ s) {u : UnitReset} {t : Nat} (hF : F.Covers wakeParts [STL_STAT, WDN_WAKE_CNT] := by exact rfl) :
    Keeps F s₀ (s.wakeReset u t) := by
  have hs : F.Covers [] [STL_STAT] := hF.sub
  have hw : F.Covers [] [WDN_WAKE_CNT] := hF.sub
  unfold State.wakeReset
  exact .foldl (h.foldl fun _ _ h => .ite (h.setStState hs) (.ite (h.setStState hs)
      (((h.only [.gatedAt, .wakeAt, .boot] hF.sub).setStState hs).bump hw)))
    fun _ _ h => (h.only [.sleep, .gatedAt, .wakeAt, .boot] hF.sub).bump hw

/-- What a reset whose scope has closed may change. -/
def resetMayChange : List Part := [.cal, .seqs, .modeCtl] ++ wakeParts ++ workParts
/-- The registers that it may change. -/
def resetMayWrite : List Reg := MEM_TRAIN_CNT :: abortRegs ++ runRegs ++ stallResetRegs ++ rowResetRegs ++ WH_ERR :: whCounters

theorem Keeps.under_finishReset (h : Keeps F s₀ s) {u : UnitReset} (hF : F.Covers resetMayChange resetMayWrite := by exact rfl) :
    Keeps F s₀ (s.finishReset u) := by
  unfold State.finishReset
  extract_lets _ s0 q s1 s2 _ s3 s4 s5 s6
  have h0 : Keeps F s₀ s0 := h.only [.boot] hF.sub
  have h1 : Keeps F s₀ s1 := .ite (h0.under_modeAbort hF.sub) h0
  have h2 : Keeps F s₀ s2 := .under_testDiscard (h1.foldl fun _ _ h => h.under_calDiscard hF.sub) hF.sub
  have h3 : Keeps F s₀ s3 := .ite (h2.under_handOpen hF.sub) (h2.foldl fun _ _ h => h.under_handOpen hF.sub)
  have h4 : Keeps F s₀ s4 := .foldl (h3.foldl fun _ _ h => h.under_resetStall hF.sub) fun _ _ h => h.under_resetRow hF.sub
  have h5 : Keeps F s₀ s5 := h4.foldl fun _ _ h => (h.under_resetRegs hF.sub).wr hF.sub
  have h6 : Keeps F s₀ s6 := .ite (h5.foldl fun _ _ h => .ite ((h.setMemUnit hF.sub).bump hF.sub) h) h5
  exact (h6.under_wakeReset hF.sub).under_nextTest hF.sub

theorem Keeps.under_tryReset (h : Keeps F s₀ s) (hF : F.Covers resetMayChange resetMayWrite := by exact rfl) : Keeps F s₀ s.tryReset := by
  unfold State.tryReset
  split
  · exact .ite (h.under_finishReset hF) h
  · exact h

end Sys2Proof.Machine
end

section
/-! PROOF. O41: the frame of the narrow arithmetic and accumulation commands, each from the rules of the operations that it is made of. -/

namespace Sys2Proof.Machine

set_option Elab.async false

/-- Each command of the family answers a state that keeps all that its lists leave out. -/
theorem row_family_keeps {c : Instr} (hc : c.family = .row) (s : State) : Answers (Instr.footprint c) s (exec c s) := by
  have h (F : Footprint) : Keeps F s s := .refl F s
  cases c with
  | vectorArrival => exact (h _).under_execVectorArrival
  | quantiseVector => exact (h _).under_execQuantiseVector
  | tileForceWide => exact .next (h _).under_tileCmd
  | tileReleaseForce => exact .next (h _).under_tileCmd
  | tileSetHold => exact .next (h _).under_tileCmd
  | stepMarker => exact (h _).under_execStepMarker
  | holdExpiry => exact (h _).under_execHoldExpiry
  | wideStormEvaluation => exact (h _).under_execWideStormEvaluation
  | refusalMarker => exact (h _).under_execRefusalMarker
  | reductionOutput => exact (h _).under_execReductionOutput
  | drainRequest => exact .next ((h _).under_talWrite fun _ ht => ht.foldl fun _ _ hu => hu.under_drainReq)
  | drainRelease => exact .next ((h _).under_talWrite fun _ ht => ht.foldl fun _ _ hu => hu.under_drainRel)
  | drainComplete => exact .ite (.next (.under_tryReset (.ite (h _).under_drainDone (h _)))) (.next (h _))
  | _ => cases hc

end Sys2Proof.Machine

namespace Sys2Proof

/-- Settles O41: each command of the family keeps all that its two lists leave out, operation by operation. -/
theorem rowCommandsKeepTheRest : Obligations.RowCommandsKeepTheRest := fun _ s _ hc he =>
  ((Machine.row_family_keeps hc s).keeps he).framed

end Sys2Proof
end

section
/-! PROOF. O17: HOME_WAIT_TIMEOUT (R353) leaves a sequence live that names a tuning job which is not live. -/

namespace Sys2Proof.Machine

set_option Elab.async false

variable {s : State} {q f status : Nat}

/-- A tuning job that is not live has no end: nothing is freed (R325). -/
theorem State.endTune_of_not_live (hf : (FMap.get TuneJob.init s.tunes f).live = false) : s.endTune f status = s := by
  simp [State.endTune, hf]

/-- A sequence of a tuning job ends with its job (R325); one whose job is not live stays. -/
theorem State.endSeq_of_job_not_live (hj : (s.seq q).job = some f) (hf : (FMap.get TuneJob.init s.tunes f).live = false) :
    s.endSeq q status = s := by
  simp only [State.endSeq, hj, State.endTune_of_not_live hf, ite_self]

/-- What a fault discards of such a sequence is its uncommitted results alone. -/
theorem State.faultSeq_live_of_job_not_live (hq : (s.seq q).live = true) (hj : (s.seq q).job = some f)
    (hf : (FMap.get TuneJob.init s.tunes f).live = false) : ((s.faultSeq q status).seq q).live = true := by
  rw [State.faultSeq, if_pos hq, State.endSeq_of_job_not_live (f := f)]
  · rwa [State.seq_modSeq_same]
  · rwa [State.seq_modSeq_same]
  · exact hf

/-- A wait that is over sets HOME and is to end its sequence with FAULT_MODEL (R353). -/
theorem exec_homeWaitTimeout_of_due {d : Disp} (hd : s.cart.waits.find? (fun d => d.seq == q) = some d)
    (hdue : d.since + 25000 * s.rd CW_CTL.HOME_WAIT ≤ s.now) :
    exec (.homeWaitTimeout q) s = .next ((s.cwFlag CW_ERR.HOME 0 (s.homeEntry d.slot d.layer d.expert % 128)).faultSeq q 7) := by
  change execHomeWaitTimeout q s = _
  simp only [execHomeWaitTimeout, hd, if_pos hdue]

/-- A dispatch of sequence 0 that waits for a home since time 0. -/
def waitingDisp : Disp := ⟨0, 0, 0, 0, 0, 0, 0, [], [], 0⟩

/-- The reset state 20 ms on, with a live sequence 0 of tuning job 0, which is not live, and its waiting dispatch. -/
def orphanWaits : State :=
  { State.reset with
    now := 500000, seqs := [(0, { Seq.init with live := true, job := some 0 })], cart := { Cartway.init with waits := [waitingDisp] } }

/-- HOME_WAIT is 20 ms from reset (R362): the wait is over. -/
theorem orphanWaits_due : waitingDisp.since + 25000 * orphanWaits.rd CW_CTL.HOME_WAIT ≤ orphanWaits.now := by decide +kernel

/-- HOME_WAIT_TIMEOUT leaves the sequence live. -/
theorem orphanWaits_keeps_seq {t : State} (ht : exec (.homeWaitTimeout 0) orphanWaits = .next t) : (t.seq 0).live = true := by
  rw [exec_homeWaitTimeout_of_due (d := waitingDisp) rfl orphanWaits_due] at ht
  cases ht
  have hseq (dev : Nat) : (orphanWaits.cwFlag CW_ERR.HOME 0 dev).seq 0 = orphanWaits.seq 0 :=
    State.seq_congr (State.flagAt_seqs _ _ _ _) 0
  have htunes (dev : Nat) : (orphanWaits.cwFlag CW_ERR.HOME 0 dev).tunes = orphanWaits.tunes := State.flagAt_tunes _ _ _ _
  refine State.faultSeq_live_of_job_not_live (f := 0) ?_ ?_ ?_
  · rw [hseq]; rfl
  · rw [hseq]; rfl
  · rw [htunes]; rfl

end Sys2Proof.Machine

namespace Sys2Proof
open Machine

/-- Refutes O17 by its clause of HOME_WAIT_TIMEOUT (R353): the statement is over every state, also one whose waiting sequence names a tuning job that is not live; such a sequence outlives its timeout. -/
theorem not_cartCommandsComplete : ¬ Obligations.CartCommandsComplete := by
  unfold Obligations.CartCommandsComplete
  intro h
  obtain ⟨-, -, -, -, -, -, -, -, -, -, -, -, hwait⟩ := h orphanWaits
  obtain ⟨t, ht, -, hgone⟩ := hwait 0 waitingDisp rfl orphanWaits_due rfl
  exact absurd (orphanWaits_keeps_seq ht) (by simp [hgone])

end Sys2Proof
end

section
/-! PROOF. What the operations of the stocking engine may change (R173 to R196), under every footprint that takes them in. -/

namespace Sys2Proof.Machine

set_option Elab.async false

variable {F : Footprint} {s₀ s : State}

/-! ### Accesses, and memory that is read -/

/-- What an access to a register of a Square block may change beside what the write itself does (R11, R436). -/
def adminParts : List Part := [.warden, .halves, .outbox, .funcs]
/-- The registers that it may change. -/
def adminRegs : List Reg := EVC_CLK_STAT :: accessRegs

theorem Keeps.under_adminWrite (h : Keeps F s₀ s) {who : Who} {r : Reg} {f : State → State} (hf : ∀ t, Keeps F s₀ t → Keeps F s₀ (f t))
    (hF : F.Covers adminParts adminRegs := by exact rfl) : Keeps F s₀ (s.adminWrite who r f) := by
  have ha : Keeps F s₀ (s.accessed who (r.blk.base + r.off)) := h.accessed hF.sub
  unfold State.adminWrite
  exact .ite h (.ite (hf _ ha) (ha.accessError hF.sub))

theorem Keeps.under_readMem (h : Keeps F s₀ s) {e : MemErr} (hF : F.Covers ueParts (MEM_CE_CNT :: ueRegs) := by exact rfl) :
    Keeps F s₀ (s.readMem e) := by
  have hc : Keeps F s₀ (s.corrected e) := h.foldl fun _ _ h => h.under_memCE hF.sub
  exact hc.elim fun _ => hc.under_memUE hF.sub

theorem Keeps.under_touchSpan (h : Keeps F s₀ s) {a n : Nat} (hF : F.Covers [.mem] [MEM_STAT, MEM_UNIT_STAT] := by exact rfl) :
    Keeps F s₀ (s.touchSpan a n) := h.under_touchGrans hF

/-! ### Journal entries, groups and flags -/

theorem Keeps.under_regroup (h : Keeps F s₀ s) {sid g : Nat} (hF : F.Covers [.groups] [STL_GRP_CFG] := by exact rfl) :
    Keeps F s₀ (s.regroup sid g) := by
  have hr : F.Covers [] [STL_GRP_CFG] := hF.sub
  unfold State.regroup
  exact .ite ((((h.wr hr).wr hr).wr hr).under_modGroup hF.sub) (((h.wr hr).wr hr).wr hr)

theorem Keeps.under_journalWrite (h : Keeps F s₀ s) {i : Nat} {e : JEntry} (hF : F.Covers [.journal, .groups] [STL_GRP_CFG] := by exact rfl) :
    Keeps F s₀ (s.journalWrite i e) := by
  unfold State.journalWrite State.setJrn
  exact (h.only [.journal] hF.sub).under_regroup hF.sub

theorem Keeps.under_settleRepairs (h : Keeps F s₀ s) (hF : F.Covers [.cal] [] := by exact rfl) : Keeps F s₀ s.settleRepairs :=
  h.foldl fun _ _ h => .ite (h.only [.cal] hF) h

theorem Keeps.under_stkFlagFree (h : Keeps F s₀ s) {f : RField} (hF : F.Covers (.free :: flagParts) (STK_ERR :: flagRegs) := by exact rfl)
    (hf : f.reg = STK_ERR := by exact rfl) : Keeps F s₀ (s.stkFlagFree f) := (h.under_takeFree hF.sub).under_stkFlag hF.sub hf

theorem Keeps.under_stkFlagOf (h : Keeps F s₀ s) {f : RField} {is : List Nat}
    (hF : F.Covers (.free :: flagParts) (STK_ERR :: flagRegs) := by exact rfl) (hf : f.reg = STK_ERR := by exact rfl) :
    Keeps F s₀ (s.stkFlagOf f is) := by
  unfold State.stkFlagOf
  split
  · exact h.under_stkFlag hF.sub hf
  · exact h.under_stkFlagFree hF hf

/-! ### Jobs -/

/-- What the end of a job may change beside the registers. -/
def jobParts : List Part := [.stock, .groups, .pendAt]
/-- The registers that it may change, and that a restock that ends well may change. -/
def jobRegs : List Reg := [STK_STAT, STL_GRP_CFG, TAL_DRIFT_VAL] ++ raiseRegs

theorem Keeps.under_fastMode (h : Keeps F s₀ s) {gid : Nat} (hF : F.Covers [.groups] [TAL_DRIFT_VAL] := by exact rfl) :
    Keeps F s₀ (s.fastMode gid) := by
  unfold State.fastMode
  exact (h.under_modGroup hF.sub).wr hF.sub

theorem Keeps.under_showJob (h : Keeps F s₀ s) (hF : F.Covers [] [STK_STAT] := by exact rfl) : Keeps F s₀ s.showJob := by
  unfold State.showJob
  exact (h.wr hF).wr hF

theorem Keeps.under_endJob (h : Keeps F s₀ s) {st : Nat} (hF : F.Covers jobParts jobRegs := by exact rfl) : Keeps F s₀ (s.endJob st) := by
  have hr : F.Covers [] [STK_STAT] := hF.sub
  have h1 : Keeps F s₀ (s.jobGroups.foldl (fun s g => s.regroup g.1 g.2) { s with stock := none }) :=
    (h.only [.stock] hF.sub).foldl fun _ _ h => h.under_regroup hF.sub
  unfold State.endJob
  exact (((h1.wr hr).wr hr).wr hr).raise hF.sub

theorem Keeps.under_jobNext (h : Keeps F s₀ s) (hF : F.Covers jobParts jobRegs := by exact rfl) : Keeps F s₀ s.jobNext := by
  have hr : F.Covers [] [STK_STAT] := hF.sub
  unfold State.jobNext
  split
  · exact h.under_showJob hr
  · next j _ =>
    have hsettle (v w : Nat) : Keeps F s₀ ((({ s with stock := some { j with settleAt := v } } : State).wr STK_STAT.JOB 0 jobSettling).wr
        STK_STAT.SETTLE_LEFT 0 w) := ((h.only [.stock] hF.sub).wr hr).wr hr
    refine .ite (h.under_showJob hr) (.ite ((h.under_showJob hr).under_endJob hF) (.ite ((h.under_showJob hr).under_endJob hF)
      (.ite ((hsettle _ _).under_showJob hr) (.ite (.under_endJob (.under_showJob (.ite ?_ h) hr) hF) (h.under_showJob hr)))))
    split
    · exact h.under_fastMode hF.sub
    · exact h

theorem Keeps.under_refuseJob (h : Keeps F s₀ s) {f : RField} {is : List Nat}
    (hF : F.Covers (.free :: flagParts) (STK_STAT :: STK_ERR :: flagRegs) := by exact rfl) (hf : f.reg = STK_ERR := by exact rfl) :
    Keeps F s₀ (s.refuseJob f is) := ((h.under_stkFlagOf hF.sub hf).wr hF.sub).raise hF.sub

theorem Keeps.under_failJob (h : Keeps F s₀ s) (hF : F.Covers jobParts jobRegs := by exact rfl) : Keeps F s₀ s.failJob := by
  unfold State.failJob
  split
  · exact (h.only [.stock] hF.sub).under_jobNext hF
  · exact h

theorem Keeps.under_dropScrub (h : Keeps F s₀ s) {is : List Nat} (hF : F.Covers [.scrub] [] := by exact rfl) : Keeps F s₀ (s.dropScrub is) := by
  unfold State.dropScrub
  exact .ite (h.only [.scrub] hF) h

theorem Keeps.under_startScrub (h : Keeps F s₀ s) {i : Nat} (hF : F.Covers (.scrub :: wakeParts) wakeRegs := by exact rfl) :
    Keeps F s₀ (s.startScrub i) := (h.only [.scrub] hF.sub).wakeStall hF.sub

theorem Keeps.under_hotRows (h : Keeps F s₀ s) {is : List Nat}
    (hF : F.Covers (.free :: .rows :: flagParts) (STK_ERR :: flagRegs) := by exact rfl) : Keeps F s₀ (s.hotRows is) := by
  refine h.foldl fun t r h => ?_
  have hm (v : Bool) : Keeps F s₀ (t.modRow r fun x => { x with stkHot := v }) := h.under_modRow hF.sub
  exact .ite (.ite (hm true) ((hm true).under_stkFlagOf hF.sub)) (.ite (hm false) h)

theorem Keeps.under_wear (h : Keeps F s₀ s) {i n : Nat} (hF : F.Covers flagParts (STK_ERR :: flagRegs) := by exact rfl) :
    Keeps F s₀ (s.wear i n) := .ite (h.under_stkFlag hF) h

theorem Keeps.under_workDone (h : Keeps F s₀ s) {i : Nat} (hF : F.Covers [.working] [] := by exact rfl) : Keeps F s₀ (s.workDone i) := by
  unfold State.workDone
  exact h.only [.working] hF

/-! ### Commands -/

/-- What the end of a job may change where a stocking flag may be raised. -/
def stockingParts : List Part := jobParts ++ flagParts
/-- The registers that it may change. -/
def stockingRegs : List Reg := STK_ERR :: HOST_FN_EVT :: jobRegs

/-- What the start of a job may change. -/
def startParts : List Part := [.free, .images, .scrub, .mem] ++ adminParts ++ stockingParts
/-- The registers that it may change. -/
def startRegs : List Reg := readRegs ++ ueRegs ++ adminRegs ++ stockingRegs

theorem Keeps.under_execStockingJobStart (h : Keeps F s₀ s) {who : Who} {hdr table : List Byte} {hdrErr tableErr : MemErr}
    (hF : F.Covers startParts startRegs := by exact rfl) : Answers F s₀ (Machine.execStockingJobStart who hdr table hdrErr tableErr s) := by
  unfold Machine.execStockingJobStart
  refine .next (h.under_adminWrite (fun t h => ?_) hF.sub)
  have hrefuse {u : State} {f : RField} {is : List Nat} (hu : Keeps F s₀ u) (hf : f.reg = STK_ERR) : Keeps F s₀ (u.refuseJob f is) :=
    hu.under_refuseJob hF.sub hf
  have hr (a b c d : Nat) : Keeps F s₀ ((((t.touchSpan a b).touchSpan c d).readMem hdrErr).readMem tableErr) :=
    (((h.under_touchSpan hF.sub).under_touchSpan hF.sub).under_readMem hF.sub).under_readMem hF.sub
  refine .ite (h.under_stkFlagFree hF.sub) (.ite (hrefuse h rfl) (.ite (hrefuse (h.under_memFlag hF.sub) rfl) (.raise ?_ hF.sub)))
  refine .ite (hrefuse (hr ..) rfl) ?_
  dsimp only
  split
  · exact hrefuse (hr ..) rfl
  · split
    · exact hrefuse (hr ..) rfl
    · split
      · exact hrefuse (hr ..) rfl
      · exact ((((hr ..).under_dropScrub hF.sub).only [.images, .stock] hF.sub).wr hF.sub).under_jobNext hF.sub

theorem Keeps.under_execTouchupRestock (h : Keeps F s₀ s) {who : Who} {index : Nat}
    (hF : F.Covers (.stock :: .pendAt :: adminParts) ([STK_STAT, STK_ERR] ++ raiseRegs ++ adminRegs) := by exact rfl) :
    Answers F s₀ (Machine.execTouchupRestock who index s) := by
  unfold Machine.execTouchupRestock
  exact .next (h.under_adminWrite (fun _ h => .ite (h.under_stkFlag hF.sub) (.ite (h.under_stkFlag hF.sub)
    (.ite (((h.only [.stock] hF.sub).wr hF.sub).under_showJob hF.sub) h))) hF.sub)

theorem Keeps.under_execStockingAbort (h : Keeps F s₀ s) {who : Who}
    (hF : F.Covers (jobParts ++ adminParts) (jobRegs ++ adminRegs) := by exact rfl) : Answers F s₀ (Machine.execStockingAbort who s) := by
  unfold Machine.execStockingAbort
  refine .next (h.under_adminWrite (fun _ h => ?_) hF.sub)
  split
  · exact (h.only [.stock] hF.sub).under_jobNext hF.sub
  · exact h

theorem Keeps.under_execScrubCrateNow (h : Keeps F s₀ s) {who : Who} {index : Nat}
    (hF : F.Covers (.scrub :: wakeParts ++ adminParts) (wakeRegs ++ adminRegs) := by exact rfl) :
    Answers F s₀ (Machine.execScrubCrateNow who index s) := by
  unfold Machine.execScrubCrateNow
  exact .next (h.under_adminWrite (fun _ h => .ite (h.under_startScrub hF.sub) h) hF.sub)

/-- What a crate that is taken may change (R175, R177, R185). -/
def takeParts : List Part := [.free, .rows, .journal, .working, .scrub] ++ stockingParts

/-- What the start of a program may change. -/
def programParts : List Part := [.digests, .mem] ++ takeParts
/-- The registers that it may change. -/
def programRegs : List Reg := STK_REFETCH_CNT :: readRegs ++ ueRegs ++ stockingRegs

theorem Keeps.under_execCrateProgramStart (h : Keeps F s₀ s) {fetched : List Fetch} (hF : F.Covers programParts programRegs := by exact rfl) :
    Answers F s₀ (Machine.execCrateProgramStart fetched s) := by
  have hc : F.Covers [] [STK_REFETCH_CNT] := hF.sub
  unfold Machine.execCrateProgramStart
  split
  · exact .next h
  · refine .ite (.next h) ?_
    extract_lets s0
    have h0 : Keeps F s₀ s0 := h.under_hotRows hF.sub
    have hfail {u : State} {f : RField} {i : Nat} (hu : Keeps F s₀ u) (hf : f.reg = STK_ERR) : Keeps F s₀ ((u.stkFlag f i).failJob) :=
      (hu.under_stkFlag hF.sub hf).under_failJob hF.sub
    split
    · exact .next h0
    · refine .ite (.next (hfail h0 rfl)) (.ite (.next (hfail ((h0.under_memFlag hF.sub).bump hc) rfl)) ?_)
      have h1 (a n : Nat) (l : List Fetch) : Keeps F s₀ (l.foldl (fun s f => s.readMem f.err) (s0.touchSpan a n)) :=
        (h0.under_touchSpan hF.sub).foldl fun _ _ h => h.under_readMem hF.sub
      dsimp only
      split
      · exact .next (.ite (hfail ((h1 ..).bump hc) rfl) (h1 ..))
      · next n _ =>
        have h2 (a b : Nat) (l : List Fetch) {k i v : Nat} :
            Keeps F s₀ (((l.foldl (fun s f => s.readMem f.err) (s0.touchSpan a b)).bump STK_REFETCH_CNT.V 0 n).wr (grpField k 2 1) i v) :=
          ((h1 ..).bump hc).wr hF.sub
        refine .ite (.next (h2 ..)) (.next (.under_showJob ?_ hF.sub))
        exact ((((h2 ..).under_dropScrub hF.sub).under_wear hF.sub).under_journalWrite hF.sub).only [.working, .stock, .digests] hF.sub

theorem Keeps.under_execCrateProgramEnd (h : Keeps F s₀ s) {index : Nat} {cellsOk : Bool}
    (hF : F.Covers (.journal :: .working :: stockingParts) (STK_PROG_CNT :: STK_FAIL_CNT :: stockingRegs) := by exact rfl) :
    Answers F s₀ (Machine.execCrateProgramEnd index cellsOk s) := by
  have hw : Keeps F s₀ (s.workDone index) := h.under_workDone hF.sub
  have hb : Keeps F s₀ ((s.workDone index).bump STK_PROG_CNT.V) := hw.bump hF.sub
  have hb' : Keeps F s₀ (((s.workDone index).bump STK_PROG_CNT.V).bump STK_FAIL_CNT.V) := hb.bump hF.sub
  unfold Machine.execCrateProgramEnd
  split
  · exact .ite (.next h) (.ite (.next (hw.under_jobNext hF.sub)) (.ite (.next ((hb.under_journalWrite hF.sub).under_jobNext hF.sub))
      (.next (((hb'.under_stkFlag hF.sub).under_journalWrite hF.sub).under_jobNext hF.sub))))
  · exact .next h

theorem Keeps.under_execSettlePauseEnd (h : Keeps F s₀ s) (hF : F.Covers jobParts jobRegs := by exact rfl) :
    Answers F s₀ (Machine.execSettlePauseEnd s) := by
  have hr : F.Covers [] [STK_STAT] := hF.sub
  unfold Machine.execSettlePauseEnd
  split
  · exact .ite (.next ((((h.only [.stock] hF.sub).wr hr).wr hr).under_jobNext hF)) (.next h)
  · exact .next h

theorem Keeps.under_execTouchupPassStart (h : Keeps F s₀ s) (hF : F.Covers takeParts stockingRegs := by exact rfl) :
    Answers F s₀ (Machine.execTouchupPassStart s) := by
  unfold Machine.execTouchupPassStart
  split
  · exact .next h
  · refine .ite (.next h) ?_
    extract_lets s0
    have h0 : Keeps F s₀ s0 := h.under_hotRows hF.sub
    split
    · exact .next h0
    · refine .ite (.next ((h0.under_stkFlag hF.sub).under_failJob hF.sub)) (.next (.under_showJob ?_ hF.sub))
      exact (((Keeps.ite (h0.under_wear hF.sub) h0).under_dropScrub hF.sub).under_journalWrite hF.sub).only [.working, .stock] hF.sub

/-- What the end of a touch-up pass may change (R185, R478). -/
def touchedParts : List Part := [.journal, .restocked, .working, .cal] ++ stockingParts
/-- The registers that it may change. -/
def touchedRegs : List Reg := STK_TOUCH_CNT :: STK_FAIL_CNT :: stockingRegs

theorem Keeps.under_touched (h : Keeps F s₀ s) {index : Nat} {cellsOk : Bool} (hF : F.Covers touchedParts touchedRegs := by exact rfl) :
    Keeps F s₀ (s.touched index cellsOk) := by
  have hb : Keeps F s₀ ((s.workDone index).bump STK_TOUCH_CNT.V) := (h.under_workDone hF.sub).bump hF.sub
  have hb' : Keeps F s₀ (((s.workDone index).bump STK_TOUCH_CNT.V).bump STK_FAIL_CNT.V) := hb.bump hF.sub
  have hs (e : JEntry) : Keeps F s₀ ((((s.workDone index).bump STK_TOUCH_CNT.V).journalWrite index e).settleRepairs) :=
    (hb.under_journalWrite hF.sub).under_settleRepairs hF.sub
  unfold State.touched
  exact .ite (.under_jobNext (.ite ((hs _).only [.restocked] hF.sub) (hs _)) hF.sub)
    (((hb'.under_stkFlag hF.sub).under_journalWrite hF.sub).under_jobNext hF.sub)

theorem Keeps.under_execTouchupPassEnd (h : Keeps F s₀ s) {index : Nat} {cellsOk : Bool}
    (hF : F.Covers (.free :: touchedParts) touchedRegs := by exact rfl) : Answers F s₀ (Machine.execTouchupPassEnd index cellsOk s) := by
  have hf : Keeps F s₀ s.takeFree.2 := h.under_takeFree hF.sub
  unfold Machine.execTouchupPassEnd
  split
  · exact .ite (.next (h.under_touched hF.sub)) (.next (.ite ((hf.under_workDone hF.sub).under_jobNext hF.sub) (hf.under_touched hF.sub)))
  · exact .next h

theorem Keeps.under_execScrubDue (h : Keeps F s₀ s) (hF : F.Covers (.scrub :: wakeParts) (STK_SCRUB_STAT :: wakeRegs) := by exact rfl) :
    Answers F s₀ (Machine.execScrubDue s) := by
  have hw (c : Scrub) (v : Nat) : Keeps F s₀ (({ s with scrub := c } : State).wr STK_SCRUB_STAT.NEXT 0 v) :=
    (h.only [.scrub] hF.sub).wr hF.sub
  unfold Machine.execScrubDue
  refine .ite ?_ (.next h)
  split
  · exact .ite (.next h) (.next ((hw _ _).under_startScrub hF.sub))
  · exact .ite (.next (hw _ _)) (.next h)

/-- The record of restocks, whatever it becomes: the new value is left open, so that nothing evaluates it. -/
theorem Keeps.under_noteRestocked (h : Keeps F s₀ s) {m : FMap Nat} (hF : F.Covers [.restocked] [] := by exact rfl) :
    Keeps F s₀ { s with restocked := m } := h.only [.restocked] hF

/-- What the end of a crate's scrub may change (R191, R192). -/
def scrubbedParts : List Part := [.journal, .groups, .restocked, .scrub] ++ flagParts
/-- The registers that it may change. -/
def scrubbedRegs : List Reg := [STK_SCRUB_STAT, STK_SCRUB_CNT, STK_MISMATCH_CNT, STK_ERR, STL_GRP_CFG] ++ flagRegs

theorem Keeps.under_execScrubCrateDone (h : Keeps F s₀ s) {codes : List Byte} {marginal : Nat}
    (hF : F.Covers scrubbedParts scrubbedRegs := by exact rfl) : Answers F s₀ (Machine.execScrubCrateDone codes marginal s) := by
  have hr : F.Covers [] [STK_SCRUB_STAT] := hF.sub
  unfold Machine.execScrubCrateDone
  split
  · exact .next h
  · refine .ite (.next h) ?_
    extract_lets ok _ s1 s2 at' again s3 _ s4
    have h1 : Keeps F s₀ s1 := (((h.only [.scrub] hF.sub).bump hF.sub).wr hr).wr hr
    have h2 : Keeps F s₀ s2 := .ite (h1.under_touchupDue hF.sub) h1
    have h4 : Keeps F s₀ s4 := ((h2.bump hF.sub).under_stkFlag hF.sub).under_journalWrite hF.sub
    exact .ite (.next (h2.raise hF.sub)) (.next (((h4.under_noteRestocked hF.sub).under_modGroup hF.sub).raise hF.sub))

end Sys2Proof.Machine
end

section
/-! PROOF. O42: the frame of the stocking commands, each from the rules of the operations that it is made of. -/

namespace Sys2Proof.Machine

set_option Elab.async false

/-- Each command of the family answers a state that keeps all that its lists leave out. -/
theorem stocking_family_keeps {c : Instr} (hc : c.family = .stocking) (s : State) : Answers (Instr.footprint c) s (exec c s) := by
  have h (F : Footprint) : Keeps F s s := .refl F s
  cases c with
  | stockingJobStart => exact (h _).under_execStockingJobStart
  | touchupRestock => exact (h _).under_execTouchupRestock
  | stockingAbort => exact (h _).under_execStockingAbort
  | scrubCrateNow => exact (h _).under_execScrubCrateNow
  | crateProgramStart => exact (h _).under_execCrateProgramStart
  | crateProgramEnd => exact (h _).under_execCrateProgramEnd
  | settlePauseEnd => exact (h _).under_execSettlePauseEnd
  | touchupPassStart => exact (h _).under_execTouchupPassStart
  | touchupPassEnd => exact (h _).under_execTouchupPassEnd
  | scrubDue => exact (h _).under_execScrubDue
  | scrubCrateDone => exact (h _).under_execScrubCrateDone
  | _ => cases hc

end Sys2Proof.Machine

namespace Sys2Proof

/-- Settles O42: each command of the family keeps all that its two lists leave out, operation by operation. -/
theorem stockingCommandsKeepTheRest : Obligations.StockingCommandsKeepTheRest := fun _ s _ hc he =>
  ((Machine.stocking_family_keeps hc s).keeps he).framed

end Sys2Proof
end

section
/-! PROOF. What the operations of the stocking engine leave of jobs, crates and journal entries (R181 to R188). -/

namespace Sys2Proof.Machine

set_option Elab.async false

variable {s t u : State} {j : StockJob} {i : Nat}

/-! ### Journal entries -/

/-- What a journal write may change beside its entry. -/
def Footprint.journal : Footprint := ⟨[.journal, .groups].contains, [STL_GRP_CFG].contains⟩

theorem State.journalWrite_keeps (s : State) (i : Nat) (e : JEntry) : Keeps .journal s (s.journalWrite i e) :=
  (Keeps.refl _ s).under_journalWrite

/-- A crate's entry is as it was where no entry may change. -/
theorem Keeps.jrn {F : Footprint} (h : Keeps F s t) (hF : F.parts .journal = false := by exact rfl) (i : Nat) : t.jrn i = s.jrn i := by
  have hj : t.journal = s.journal := h.part .journal hF
  rw [State.jrn, hj, State.jrn]

theorem State.jrn_journalWrite (s : State) (i : Nat) (e : JEntry) : (s.journalWrite i e).jrn i = e := by
  have hk : Keeps ⟨[.groups].contains, [STL_GRP_CFG].contains⟩ (s.setJrn i e) (s.journalWrite i e) := (Keeps.refl _ _).under_regroup
  rw [hk.jrn]
  exact FMap.get_set_same _ i e

/-! ### What STK_STAT shows, and the end of a job -/

theorem State.showJob_keeps (s : State) : Keeps ⟨fun _ => false, [STK_STAT].contains⟩ s s.showJob := (Keeps.refl _ s).under_showJob

@[simp] theorem State.stock_showJob (s : State) : s.showJob.stock = s.stock := s.showJob_keeps.part .stock rfl

@[simp] theorem State.working_showJob (s : State) : s.showJob.working = s.working := s.showJob_keeps.part .working rfl

/-- STK_STAT shows the crates in progress and those left; the job's state stays. -/
@[simp] theorem State.job_showJob (s : State) : s.showJob.rd STK_STAT.JOB = s.rd STK_STAT.JOB := by
  unfold State.showJob
  rw [State.rd_wr_free _ rfl, State.rd_wr_free _ rfl]

/-- A job that ends is gone, and STK_STAT shows how it ended. -/
theorem State.endJob_ends (s : State) {st : Nat} (hst : st < 8) : (s.endJob st).stock = none ∧ (s.endJob st).rd STK_STAT.JOB = st := by
  have hk : Keeps ⟨[.groups].contains, [STL_GRP_CFG].contains⟩ { s with stock := none }
      (s.jobGroups.foldl (fun s g => s.regroup g.1 g.2) { s with stock := none }) :=
    (Keeps.refl _ _).foldl fun _ _ h => h.under_regroup
  unfold State.endJob
  constructor
  · rw [State.raise_stock, State.wr_stock, State.wr_stock, State.wr_stock]
    exact hk.part .stock rfl
  · rw [State.rd_raise _ rfl, State.rd_wr_free _ rfl, State.rd_wr_free _ rfl, State.rd_wr_val _ rfl]
    exact Nat.mod_eq_of_lt hst

/-! ### What follows when a crate leaves the engine -/

/-- What may follow when a crate leaves the engine. -/
def Footprint.job : Footprint := ⟨jobParts.contains, jobRegs.contains⟩

theorem State.jobNext_keeps (s : State) : Keeps .job s s.jobNext := (Keeps.refl _ s).under_jobNext

@[simp] theorem State.working_jobNext (s : State) : s.jobNext.working = s.working := s.jobNext_keeps.part .working rfl

theorem State.jobNext_of_working (hw : s.working ≠ []) : s.jobNext = s.showJob := by
  unfold State.jobNext
  split
  · rfl
  · exact if_pos (by simpa using hw)

/-- An aborted job with no crate in progress ends in ABORTED; else it stays (R186). -/
theorem State.jobNext_of_aborted (hj : s.stock = some j) (ha : j.abort = true) :
    (s.working = [] → s.jobNext.rd STK_STAT.JOB = 7 ∧ s.jobNext.stock = none) ∧
    (s.working ≠ [] → s.jobNext.stock = some j ∧ s.jobNext.rd STK_STAT.JOB = s.rd STK_STAT.JOB) := by
  refine ⟨fun hw => ?_, fun hw => ?_⟩
  · have hn : s.jobNext = s.showJob.endJob 7 := by
      unfold State.jobNext
      rw [hj]
      simp [hw, ha]
    rw [hn]
    exact (s.showJob.endJob_ends (by decide)).symm
  · rw [State.jobNext_of_working hw]
    exact ⟨s.stock_showJob.trans hj, s.job_showJob⟩

/-- A job in TOUCHING with passes to come goes on (R184 step 4). -/
theorem State.jobNext_of_touching (hj : s.stock = some j) (ha : j.abort = false) (hf : j.failing = false)
    (hp : s.rd STK_STAT.JOB = jobTouching) (ht : j.touch ≠ []) : s.jobNext = s.showJob := by
  unfold State.jobNext
  rw [hj]
  simp [ha, hf, hp, ht, jobProgramming, jobTouching]

/-- A job in PROGRAMMING with nothing in progress goes on, or settles when no crate is left to program (R184 step 3). -/
theorem State.jobNext_of_programming (hj : s.stock = some j) (ha : j.abort = false) (hf : j.failing = false) (hw : s.working = [])
    (hp : s.rd STK_STAT.JOB = jobProgramming) :
    s.jobNext.rd STK_STAT.JOB = (if j.todo = [] then 3 else 2) ∧ ∃ v, s.jobNext.stock = some { j with settleAt := v } := by
  by_cases ht : j.todo = []
  · have hn : s.jobNext = ((({ s with stock := some { j with settleAt := s.rd WDN_ROUND.V + 58594 } } : State).wr STK_STAT.JOB 0 jobSettling).wr
        STK_STAT.SETTLE_LEFT 0 58594).showJob := by
      unfold State.jobNext
      rw [hj]
      simp [ha, hf, hw, hp, ht]
    rw [hn, State.job_showJob, State.stock_showJob, State.rd_wr_free _ rfl, State.rd_wr_val _ rfl, if_pos ht, State.wr_stock, State.wr_stock]
    exact ⟨rfl, _, rfl⟩
  · have hn : s.jobNext = s.showJob := by
      unfold State.jobNext
      rw [hj]
      simp [ha, hf, hw, hp, ht, jobProgramming, jobTouching]
    rw [hn, State.job_showJob, State.stock_showJob, hp, if_neg ht, hj]
    exact ⟨rfl, j.settleAt, rfl⟩

/-! ### The end of a program and of a touch-up pass -/

/-- A crate's step is done: it leaves the engine, its counter advances, and its entry is settled (R175, R176, R185). -/
def State.settled (s : State) (cnt : RField) (i : Nat) (ok : Bool) (good : JState) : State :=
  let s1 := (s.workDone i).bump cnt
  (if ok then s1 else (s1.bump STK_FAIL_CNT.V).stkFlag STK_ERR.FAIL i).journalWrite i { s.jrn i with state := if ok then good else .failed }

/-- What settling a crate may change once it is counted. -/
def Footprint.settle : Footprint := ⟨(.journal :: .groups :: flagParts).contains, ([STK_ERR, STL_GRP_CFG] ++ flagRegs).contains⟩

theorem State.rd_workDone (s : State) (i : Nat) (f : RField) (k : Nat) : (s.workDone i).rd f k = s.rd f k :=
  State.rd_of_regs (by unfold State.workDone; rfl) f k

theorem State.jrn_settled (s : State) (cnt : RField) (i : Nat) (ok : Bool) (good : JState) :
    (s.settled cnt i ok good).jrn i = { s.jrn i with state := if ok then good else .failed } := State.jrn_journalWrite ..

/-- A crate that is settled leaves the engine and is counted; the job is as it was. -/
theorem State.settled_leaves (s : State) {cnt : RField} (hc : cnt = STK_PROG_CNT.V ∨ cnt = STK_TOUCH_CNT.V) (i : Nat) (ok : Bool)
    (good : JState) :
    let t := s.settled cnt i ok good
    t.working = s.working.filter (fun w => w.index != i) ∧ t.stock = s.stock ∧ t.rd cnt = (s.rd cnt + 1) % 2 ^ 64 ∧
      t.rd STK_FAIL_CNT.V = (s.rd STK_FAIL_CNT.V + ofBool (!ok)) % 2 ^ 64 := by
  intro t
  have hfit : decide (cnt.lo + cnt.wd ≤ 64) = true := by rcases hc with rfl | rfl <;> rfl
  have hwd : cnt.wd = 64 := by rcases hc with rfl | rfl <;> rfl
  have hoff : Footprint.settle.regs cnt.reg = false ∧ decide (cnt.reg.off < 8192) = true := by rcases hc with rfl | rfl <;> exact ⟨rfl, rfl⟩
  have hfail : cnt.free STK_FAIL_CNT.V = true ∧ STK_FAIL_CNT.V.free cnt = true := by rcases hc with rfl | rfl <;> exact ⟨rfl, rfl⟩
  have hk : Keeps .settle (if ok then (s.workDone i).bump cnt else ((s.workDone i).bump cnt).bump STK_FAIL_CNT.V) t := by
    unfold t State.settled
    cases ok with
    | true =>
      simp only [↓reduceIte]
      exact (Keeps.refl _ _).under_journalWrite
    | false =>
      simp only [Bool.false_eq_true, ↓reduceIte]
      exact (Keeps.refl _ _).under_stkFlag.under_journalWrite
  refine ⟨(hk.part .working rfl).trans ?_, (hk.part .stock rfl).trans ?_, (hk.rd hoff.1 hoff.2).trans ?_, hk.rd.trans ?_⟩
  · simp only [apply_ite State.working, State.bump_working, ite_self]
    rfl
  · simp only [apply_ite State.stock, State.bump_stock, ite_self]
    rfl
  · rw [apply_ite (State.rd · cnt), State.rd_bump_free _ hfail.1, State.rd_bump_val _ hfit, hwd, State.rd_workDone, ite_self]
  · cases ok with
    | true =>
      have hlt : s.rd STK_FAIL_CNT.V < 2 ^ 64 := STK_FAIL_CNT.V.of_lt _
      simp only [↓reduceIte, ofBool, Bool.not_true, Bool.false_eq_true, Nat.add_zero]
      rw [State.rd_bump_free _ hfail.2, State.rd_workDone, Nat.mod_eq_of_lt hlt]
    | false =>
      simp only [↓reduceIte, ofBool, Bool.not_false, Bool.false_eq_true]
      rw [State.rd_bump_val _ rfl, State.rd_bump_free _ hfail.2, State.rd_workDone]
      rfl

/-- The end of a touch-up pass settles its crate, then its repairs and its restock (R185, R191, R478). -/
theorem State.touched_settles (s : State) (i : Nat) (ok : Bool) :
    ∃ u, s.touched i ok = u.jobNext ∧ Keeps ⟨[.cal, .restocked].contains, fun _ => false⟩ (s.settled STK_TOUCH_CNT.V i ok .verified) u := by
  unfold State.touched State.settled
  cases ok with
  | true =>
    simp only [↓reduceIte]
    exact ⟨_, rfl, .ite (Keeps.refl _ _).under_settleRepairs.under_noteRestocked (Keeps.refl _ _).under_settleRepairs⟩
  | false =>
    simp only [Bool.false_eq_true, ↓reduceIte]
    exact ⟨_, rfl, .refl _ _⟩

end Sys2Proof.Machine
end

section
/-! PROOF. O9: an abort (R186). -/

namespace Sys2Proof.Machine

set_option Elab.async false

variable {s : State} {j : StockJob}

/-- The job once it has been aborted: the first abort counts. -/
def StockJob.aborted (j : StockJob) (now : Nat) : StockJob := { j with abort := true, abortAt := if j.abort then j.abortAt else now }

theorem stockingAbort_ends {who : Who} (hj : s.stock = some j) (hopen : s.memOpen who = true) (hadm : whoAdmin who = true) :
    ∃ t, exec (.stockingAbort who) s = .next t ∧ t.working = s.working ∧
      (if s.working = [] then t.rd STK_STAT.JOB = 7 ∧ t.stock = none
       else t.stock = some (j.aborted s.now) ∧ t.rd STK_STAT.JOB = s.rd STK_STAT.JOB) := by
  show ∃ t, execStockingAbort who s = .next t ∧ _
  unfold execStockingAbort
  rw [State.adminWrite_open hopen hadm]
  generalize hs1 : s.accessed who _ = s1
  have h1 : Keeps .door s s1 := hs1 ▸ (Keeps.refl .door s).accessed
  have hj1 : s1.stock = some j := (h1.part .stock rfl).trans hj
  have hw1 : s1.working = s.working := h1.part .working rfl
  have hnow : s1.now = s.now := h1.part .now rfl
  have habort : ({ j with abort := true, abortAt := if j.abort then j.abortAt else s1.now } : StockJob) = j.aborted s.now := by
    rw [StockJob.aborted, hnow]
  rw [hj1]
  dsimp only
  rw [habort]
  have hjob : ({ s1 with stock := some (j.aborted s.now) } : State).rd STK_STAT.JOB = s.rd STK_STAT.JOB := h1.rd
  generalize hv : ({ s1 with stock := some (j.aborted s.now) } : State) = v at hjob
  have hstock : v.stock = some (j.aborted s.now) := by rw [← hv]
  have hwork : v.working = s.working := by rw [← hv]; exact hw1
  obtain ⟨hend, hgo⟩ := State.jobNext_of_aborted hstock rfl
  refine ⟨_, rfl, v.working_jobNext.trans hwork, ?_⟩
  split
  · next hw => exact hend (hwork.trans hw)
  · next hw =>
    obtain ⟨hst, hshow⟩ := hgo fun h => hw (hwork.symm.trans h)
    exact ⟨hst, hshow.trans hjob⟩

theorem crateProgramStart_of_aborted (hj : s.stock = some j) (ha : j.abort = true) (fetched : List Fetch) :
    exec (.crateProgramStart fetched) s = .next s := by
  show execCrateProgramStart fetched s = _
  unfold execCrateProgramStart
  rw [hj]
  exact if_pos (.inr (.inl ha))

theorem touchupPassStart_of_aborted (hj : s.stock = some j) (ha : j.abort = true) : exec .touchupPassStart s = .next s := by
  show execTouchupPassStart s = _
  unfold execTouchupPassStart
  rw [hj]
  exact if_pos (.inr (.inl ha))

/-! ### The ends of steps -/

theorem StockJob.lastStep_of_aborted {w : CrateWork} {e : Nat} (ha : j.abort = true)
    (he : programSteps.find? (fun e => decide (j.abortAt < w.since + e)) = some e) : j.lastStep w = e := by
  rw [StockJob.lastStep, if_pos ha, he, Option.getD_some]

theorem le_of_mem_programSteps {e : Nat} (h : e ∈ programSteps) : e ≤ 1375000 := by
  simp only [programSteps, List.mem_cons, List.not_mem_nil, or_false] at h
  omega

/-- A program that has not come to the end of its last step goes on (R175). -/
theorem crateProgramEnd_early {index : Nat} {ok : Bool} {w : CrateWork} (hw : s.workOn index false = some w) (hj : s.stock = some j)
    (hnow : s.now < w.since + j.lastStep w) : exec (.crateProgramEnd index ok) s = .next s := by
  show execCrateProgramEnd index ok s = _
  unfold execCrateProgramEnd
  rw [hw, hj]
  exact if_pos hnow

/-- A program that an abort has cut short leaves the engine, its entry as it was (R186). -/
theorem crateProgramEnd_short {index : Nat} {ok : Bool} {w : CrateWork} (hw : s.workOn index false = some w) (hj : s.stock = some j)
    (hlast : j.lastStep w < 1375000) (hnow : w.since + j.lastStep w ≤ s.now) :
    exec (.crateProgramEnd index ok) s = .next (s.workDone index).jobNext := by
  show execCrateProgramEnd index ok s = _
  unfold execCrateProgramEnd
  rw [hw, hj]
  dsimp only
  rw [if_neg (by omega), if_pos hlast]

/-- A whole program settles its crate (R175 step 5, R176). -/
theorem crateProgramEnd_whole {index : Nat} {ok : Bool} {w : CrateWork} (hw : s.workOn index false = some w) (hj : s.stock = some j)
    (hlast : j.lastStep w = 1375000) (hnow : w.since + 1375000 ≤ s.now) :
    exec (.crateProgramEnd index ok) s = .next (s.settled STK_PROG_CNT.V index ok .programmed).jobNext := by
  show execCrateProgramEnd index ok s = _
  unfold execCrateProgramEnd
  rw [hw, hj]
  dsimp only
  rw [hlast, if_neg (by omega), if_neg (Nat.lt_irrefl _)]
  unfold State.settled
  cases ok with
  | true => simp only [↓reduceIte]
  | false => simp only [Bool.false_eq_true, ↓reduceIte]

/-- Where an aborted job loses a crate, it ends with the last of them (R186). -/
theorem State.jobNext_ends_aborted (hj : s.stock = some j) (ha : j.abort = true) (hw : s.jobNext.working = []) :
    s.jobNext.rd STK_STAT.JOB = 7 ∧ s.jobNext.stock = none :=
  (State.jobNext_of_aborted hj ha).1 (s.working_jobNext.symm.trans hw)

theorem crateProgramEnd_of_aborted {index e : Nat} {ok : Bool} {w : CrateWork} (hj : s.stock = some j) (ha : j.abort = true)
    (hw : s.workOn index false = some w) (he : programSteps.find? (fun e => decide (j.abortAt < w.since + e)) = some e)
    (hnow : w.since + e ≤ s.now) :
    ∃ t, exec (.crateProgramEnd index ok) s = .next t ∧
      t.jrn index = (if e = 1375000 then { s.jrn index with state := if ok then .programmed else .failed } else s.jrn index) ∧
      t.working = s.working.filter (fun w => w.index != index) ∧ (t.working = [] → t.rd STK_STAT.JOB = 7 ∧ t.stock = none) := by
  have hlast := StockJob.lastStep_of_aborted ha he
  by_cases h5 : e = 1375000
  · obtain ⟨hwork, hstock, -⟩ := s.settled_leaves (.inl rfl) index ok .programmed
    rw [if_pos h5]
    refine ⟨_, crateProgramEnd_whole hw hj (hlast.trans h5) (h5 ▸ hnow), ?_, (State.working_jobNext _).trans hwork,
      State.jobNext_ends_aborted (hstock.trans hj) ha⟩
    exact ((State.jobNext_keeps _).jrn rfl index).trans (State.jrn_settled ..)
  · have hle := le_of_mem_programSteps (List.mem_of_find?_eq_some he)
    rw [if_neg h5]
    exact ⟨_, crateProgramEnd_short hw hj (by omega) (by omega), (State.jobNext_keeps _).jrn rfl index, State.working_jobNext _,
      State.jobNext_ends_aborted (s := s.workDone index) hj ha⟩

/-- A pass that an abort finds ends with its step: before its last, which a free value says, its entry stays (R185, R186). -/
theorem touchupPassEnd_of_aborted {index : Nat} {ok : Bool} {w : CrateWork} (hj : s.stock = some j) (ha : j.abort = true)
    (hw : s.workOn index true = some w) :
    ∃ t, exec (.touchupPassEnd index ok) s = .next t ∧
      (t.jrn index = s.jrn index ∨ t.jrn index = { s.jrn index with state := if ok then .verified else .failed }) ∧
      t.working = s.working.filter (fun w => w.index != index) ∧ (t.working = [] → t.rd STK_STAT.JOB = 7 ∧ t.stock = none) := by
  have hex : exec (.touchupPassEnd index ok) s =
      .next (if s.takeFree.1 % 2 = 0 then (s.takeFree.2.workDone index).jobNext else s.takeFree.2.touched index ok) := by
    show execTouchupPassEnd index ok s = _
    unfold execTouchupPassEnd
    rw [hw, hj]
    exact if_neg (by simp [ha])
  refine ⟨_, hex, ?_⟩
  split
  · exact ⟨.inl ((State.jobNext_keeps _).jrn rfl index), State.working_jobNext _, State.jobNext_ends_aborted (s := s.takeFree.2.workDone index) hj ha⟩
  · obtain ⟨u, hu, hk⟩ := s.takeFree.2.touched_settles index ok
    obtain ⟨hwork, hstock, -⟩ := s.takeFree.2.settled_leaves (.inr rfl) index ok .verified
    rw [hu]
    refine ⟨.inr ?_, ?_, State.jobNext_ends_aborted (((hk.part .stock rfl).trans hstock).trans hj) ha⟩
    · exact (((State.jobNext_keeps u).jrn rfl index).trans (hk.jrn rfl index)).trans (State.jrn_settled ..)
    · exact (u.working_jobNext.trans (hk.part .working rfl)).trans hwork

end Sys2Proof.Machine

namespace Sys2Proof
open Machine

/-- Settles O9, clause by clause: the abort, the crates that no longer start, and the ends of the steps that it found. -/
theorem stockingAbortEndsTheJob : Obligations.StockingAbortEndsTheJob := fun _ _ hj =>
  ⟨fun _ hopen hadm => stockingAbort_ends hj hopen hadm,
   fun ha => ⟨crateProgramStart_of_aborted hj ha, touchupPassStart_of_aborted hj ha⟩,
   fun _ _ _ _ ha hw he =>
    ⟨fun hnow => crateProgramEnd_early hw hj (by rwa [StockJob.lastStep_of_aborted ha he]), crateProgramEnd_of_aborted hj ha hw he⟩,
   fun _ _ _ ha hw => touchupPassEnd_of_aborted hj ha hw⟩

end Sys2Proof
end

section
/-! PROOF. O8, jobs and restocks, and the starts of scrubs and of programs (R173 to R178, R184, R188, R196). -/

namespace Sys2Proof.Machine

set_option Elab.async false

variable {s t : State} {j : StockJob} {i : Nat}

/-! ### What an access, and the rows' temperatures, leave -/

theorem Keeps.spanOk {F : Footprint} (h : Keeps F s t) (hp : F.parts .mem = false := by exact rfl)
    (hr : F.regs MEM_UNIT_STAT = false := by exact rfl) {a n : Nat} : t.spanOk a n = s.spanOk a n := by
  have hst (i : Nat) : t.rd MEM_UNIT_STAT.STATE i = s.rd MEM_UNIT_STAT.STATE i := h.rd hr
  have hm : t.mem = s.mem := h.part .mem hp
  have hspan : t.tier2Span = s.tier2Span := by simp only [State.tier2Span, State.tier2Up, hst, hm]
  simp only [State.spanOk, State.addressOk, hspan]

/-- A restart of the Square leaves what the warden says of VDD_STK (R179, R436). -/
theorem State.stkOut_accessed (s : State) (who : Who) (off : Nat) : (s.accessed who off).warden.stkOut = s.warden.stkOut := by
  have hk (w : Warden) : ({ s with warden := w } : State).clerksWake.warden = w :=
    Keeps.part (F := ⟨fun _ => false, [EVC_CLK_STAT].contains⟩) (Keeps.refl _ _).clerksWake .warden rfl
  unfold State.accessed State.squareRuns
  rw [State.keepHalves_warden]
  split
  · rw [hk]
  · rfl

theorem State.stkRailOff_accessed (s : State) (who : Who) (off : Nat) : (s.accessed who off).stkRailOff = s.stkRailOff := by
  have h : Keeps .door s (s.accessed who off) := (Keeps.refl _ s).accessed
  have htherm : (s.accessed who off).rd WDN_STAT.THERM = s.rd WDN_STAT.THERM := h.rd
  have hrail (v : Nat) : (s.accessed who off).rd WDN_VR_CFG.RAIL v = s.rd WDN_VR_CFG.RAIL v := h.rd
  have hen (v : Nat) : (s.accessed who off).on WDN_VR_CFG.EN v = s.on WDN_VR_CFG.EN v := h.on
  have hfault (v : Nat) : (s.accessed who off).on WDN_VR_STAT.FAULT v = s.on WDN_VR_STAT.FAULT v := h.on
  simp only [State.stkRailOff, State.stkOut_accessed, htherm, hrail, hen, hfault]

/-! ### STOCKING_JOB_START (R173, R184) -/

/-- What reading an image may change beside the access. -/
def Footprint.imageRead : Footprint :=
  ⟨(.warden :: .halves :: ueParts).contains, (EVC_CLK_STAT :: readRegs ++ ueRegs).contains⟩

theorem Keeps.imageOk (h : Keeps .imageRead s t) (hdr : List Byte) (m : ImageHdr) (recs : List CrateRec) (table : List Byte) :
    t.imageOk hdr m recs table = s.imageOk hdr m recs table := by
  have hc : t.charter = s.charter := h.part .charter rfl
  simp only [State.imageOk, State.signed, hc]

theorem Keeps.physCrate (h : Keeps .imageRead s t) (index : Nat) : t.physCrate index = s.physCrate index := by
  have hr : t.rows = s.rows := h.part .rows rfl
  simp only [State.physCrate, State.physOf, State.row, hr]

theorem Keeps.fmtOk (h : Keeps .imageRead s t) (recs : List (Nat × CrateRec)) (r : Nat × CrateRec) : t.fmtOk recs r = s.fmtOk recs r := by
  simp only [State.fmtOk, h.jrn]

theorem Keeps.imageSlot (h : Keeps .imageRead s t) (id digest : Nat) : t.imageSlot id digest = s.imageSlot id digest := by
  have hi : t.images = s.images := h.part .images rfl
  have hj : t.journal = s.journal := h.part .journal rfl
  simp only [State.imageSlot, hi, hj]

theorem Keeps.keptCrate (h : Keeps .imageRead s t) (k : Nat) (r : Nat × CrateRec) : t.keptCrate k r = s.keptCrate k r := by
  simp only [State.keptCrate, h.jrn]

/-- The job that an image starts (R184). -/
def State.imageJob (s : State) (k : Nat) (rs : List (Nat × CrateRec)) (addr : Nat) : StockJob :=
  { slot := k, recs := rs, todo := (rs.filter fun r => !s.keptCrate k r).map (·.1), touch := [], restock := false, abort := false,
    failing := false, settleAt := 0, abortAt := 0, addr := addr }

/-- The job that an image starts, begun (R184 steps 1 and 2). -/
def State.beginJob (s : State) (k : Nat) (rs : List (Nat × CrateRec)) (addr : Nat) (h : ImageHdr) : State :=
  let s1 := s.dropScrub (rs.map (·.1))
  ({ s1 with images := FMap.set (0, 0) s1.images k (h.imageId, h.digest), stock := some (s.imageJob k rs addr) }.wr STK_STAT.JOB 0
    jobProgramming).jobNext

/-- No crate is left to program when the job keeps them all. -/
theorem State.imageJob_todo (s : State) (k : Nat) (rs : List (Nat × CrateRec)) (addr : Nat) :
    (s.imageJob k rs addr).todo = [] ↔
      ∀ r ∈ rs, ((s.jrn r.1).state = .verified ∨ (s.jrn r.1).state = .programmed) ∧ (s.jrn r.1).image = k ∧ (s.jrn r.1).fmt = r.2.fmt := by
  simp [State.imageJob, State.keptCrate, or_iff_not_imp_left]

/-- What a job that has begun shows. -/
theorem State.beginJob_shows (s : State) {k : Nat} {rs : List (Nat × CrateRec)} {addr : Nat} {h : ImageHdr} (hw : s.working = []) :
    let t := (s.beginJob k rs addr h).assayDone
    (t.stock.map fun j => (j.slot, j.recs)) = some (k, rs) ∧ FMap.get (0, 0) t.images k = (h.imageId, h.digest) ∧
      t.rd STK_STAT.JOB = (if (s.imageJob k rs addr).todo = [] then 3 else 2) := by
  have hw1 : (s.dropScrub (rs.map (·.1))).working = s.working :=
    Keeps.part (F := ⟨[.scrub].contains, fun _ => false⟩) (Keeps.refl _ s).under_dropScrub .working rfl
  unfold State.beginJob State.assayDone
  dsimp only
  generalize hu : State.wr _ STK_STAT.JOB 0 jobProgramming = u
  have hstock : u.stock = some (s.imageJob k rs addr) := by rw [← hu, State.wr_stock]
  have himages : FMap.get (0, 0) u.images k = (h.imageId, h.digest) := by rw [← hu, State.wr_images, FMap.get_set_same]
  have hwork : u.working = [] := by rw [← hu, State.wr_working]; exact hw1.trans hw
  have hjob : u.rd STK_STAT.JOB = jobProgramming := by rw [← hu, State.rd_wr_val _ rfl]; rfl
  obtain ⟨hshow, v, hst⟩ := State.jobNext_of_programming hstock rfl rfl hwork hjob
  have hkept : u.jobNext.images = u.images := u.jobNext_keeps.part .images rfl
  rw [State.raise_stock, State.raise_images, State.rd_raise _ rfl, hst, hkept, hshow]
  exact ⟨rfl, himages, rfl⟩

/-- What a refused job shows (R173). -/
theorem State.refuseJob_shows (s : State) (is : List Nat) :
    let t := (s.refuseJob STK_ERR.SIG is).assayDone
    t.stock = s.stock ∧ t.rd STK_STAT.JOB = 6 ∧ t.on STK_ERR.SIG = true := by
  unfold State.refuseJob State.assayDone
  have hk : Keeps ⟨(.free :: flagParts).contains, (STK_ERR :: flagRegs).contains⟩ s (s.stkFlagOf STK_ERR.SIG is) := (Keeps.refl _ s).under_stkFlagOf
  refine ⟨?_, ?_, ?_⟩
  · rw [State.raise_stock, State.raise_stock, State.wr_stock]
    exact hk.part .stock rfl
  · rw [State.rd_raise _ rfl, State.rd_raise _ rfl, State.rd_wr_val _ rfl]
    rfl
  · rw [State.on_raise _ rfl, State.on_raise _ rfl, State.on_wr_free _ rfl]
    unfold State.stkFlagOf
    split
    · exact State.on_flagAt_val _ rfl _ _
    · exact State.on_flagAt_val _ rfl _ _

section
variable {who : Who} {hdr table : List Byte} {hdrErr tableErr : MemErr} {h : ImageHdr} {recs : List CrateRec} {rs : List (Nat × CrateRec)}
  (hopen : s.memOpen who = true) (hadm : whoAdmin who = true) (hstock : s.stock = none) (hrail : s.stkRailOff = false)
  (hh : ImageHdr.ofBytes hdr = h) (hspan : s.spanOk (s.rd STK_IMG_ADDR.V) 320 = true)
  (hspan' : s.spanOk (s.rd STK_IMG_ADDR.V + h.recOffset) (96 * h.count) = true) (hrecs : (entriesOf 96 h.count 0 table).map CrateRec.ofBytes = recs)
include hopen hadm hstock hrail hh hspan hspan' hrecs

/-- What the checks of an image decide, once it has been read (R173, R184). -/
theorem stockingJob_judged (hrs : sortBy (fun a b => decide (a.1 ≤ b.1)) (recs.map fun r => (s.physCrate r.index, r)) = rs) :
    ∃ u, Keeps .imageRead s u ∧
      (s.imageOk hdr h recs table = false →
        exec (.stockingJobStart who hdr table hdrErr tableErr) s = .next (u.refuseJob STK_ERR.SIG []).assayDone) ∧
      ∀ k, s.imageOk hdr h recs table = true → rs.all (s.fmtOk rs) = true → rs.all (pairOk rs) = true → s.imageSlot h.imageId h.digest = some k →
        exec (.stockingJobStart who hdr table hdrErr tableErr) s = .next (u.beginJob k rs (s.rd STK_IMG_ADDR.V) h).assayDone := by
  have hex : exec (.stockingJobStart who hdr table hdrErr tableErr) s = execStockingJobStart who hdr table hdrErr tableErr s := rfl
  rw [hex]
  unfold execStockingJobStart
  rw [State.adminWrite_open hopen hadm]
  dsimp only
  generalize hs1 : s.accessed who _ = s1
  have h1 : Keeps .door s s1 := hs1 ▸ (Keeps.refl .door s).accessed
  have hread : Keeps .imageRead s s1 := hs1 ▸ (Keeps.refl .imageRead s).accessed
  have hrail1 : s1.stkRailOff = false := hs1 ▸ (s.stkRailOff_accessed who _).trans hrail
  have hst1 : s1.stock = none := (h1.part .stock rfl).trans hstock
  have haddr : s1.rd STK_IMG_ADDR.V = s.rd STK_IMG_ADDR.V := h1.rd
  rw [if_neg (by simp [State.jobRunning, hst1]), if_neg (by simp [hrail1]), haddr, hh, if_neg (by simp [h1.spanOk, hspan, hspan']), hrecs]
  generalize hu : State.readMem _ tableErr = u
  have hk : Keeps .imageRead s u := hu ▸ hread.under_touchSpan.under_touchSpan.under_readMem.under_readMem
  simp only [hk.imageOk, hk.physCrate, hrs, hk.fmtOk, hk.imageSlot]
  refine ⟨u, hk, fun hbad => ?_, fun k hok hfmt hpair hslot => ?_⟩
  · rw [if_pos (by simp [hbad])]
  · have hf : rs.find? (fun r => !s.fmtOk rs r) = none := by simpa using hfmt
    have hp : rs.find? (fun r => !pairOk rs r) = none := by simpa using hpair
    rw [if_neg (by simp [hok]), hf]
    dsimp only
    rw [hp]
    dsimp only
    rw [hslot]
    rfl

/-- An image that passes starts its job (R173, R184). -/
theorem stockingJob_starts (hrs : sortBy (fun a b => decide (a.1 ≤ b.1)) (recs.map fun r => (s.physCrate r.index, r)) = rs) {k : Nat}
    (hwork : s.working = []) (hok : s.imageOk hdr h recs table = true) (hfmt : rs.all (s.fmtOk rs) = true) (hpair : rs.all (pairOk rs) = true)
    (hslot : s.imageSlot h.imageId h.digest = some k) :
    ∃ t, exec (.stockingJobStart who hdr table hdrErr tableErr) s = .next t ∧ (t.stock.map fun j => (j.slot, j.recs)) = some (k, rs) ∧
      FMap.get (0, 0) t.images k = (h.imageId, h.digest) ∧ (t.rd STK_STAT.JOB = 2 ∨ t.rd STK_STAT.JOB = 3) ∧
      (t.rd STK_STAT.JOB = 3 ↔ ∀ r ∈ rs, ((s.jrn r.1).state = .verified ∨ (s.jrn r.1).state = .programmed) ∧ (s.jrn r.1).image = k ∧
        (s.jrn r.1).fmt = r.2.fmt) := by
  obtain ⟨u, hk, -, hstart⟩ := stockingJob_judged hopen hadm hstock hrail hh hspan hspan' hrecs hrs (hdrErr := hdrErr) (tableErr := tableErr)
  have hw : u.working = [] := (hk.part .working rfl).trans hwork
  obtain ⟨hj, hi, hjob⟩ := u.beginJob_shows (k := k) (rs := rs) (addr := s.rd STK_IMG_ADDR.V) (h := h) hw
  refine ⟨_, hstart k hok hfmt hpair hslot, hj, hi, ?_, ?_⟩
  · rw [hjob]
    split
    · exact .inr rfl
    · exact .inl rfl
  · have htodo := u.imageJob_todo k rs (s.rd STK_IMG_ADDR.V)
    simp only [hk.jrn] at htodo
    rw [hjob, ← htodo]
    split
    · next h0 => exact iff_of_true rfl h0
    · next h0 => exact iff_of_false (by decide) h0

/-- An image that fails is refused with SIG (R173). -/
theorem stockingJob_refused (hrs : sortBy (fun a b => decide (a.1 ≤ b.1)) (recs.map fun r => (s.physCrate r.index, r)) = rs)
    (hbad : s.imageOk hdr h recs table = false) :
    ∃ t, exec (.stockingJobStart who hdr table hdrErr tableErr) s = .next t ∧ t.stock = none ∧ t.rd STK_STAT.JOB = 6 ∧ t.on STK_ERR.SIG = true := by
  obtain ⟨u, hk, hrefuse, -⟩ := stockingJob_judged hopen hadm hstock hrail hh hspan hspan' hrecs hrs (hdrErr := hdrErr) (tableErr := tableErr)
  obtain ⟨hst, hjob, hsig⟩ := u.refuseJob_shows []
  exact ⟨_, hrefuse hbad, hst.trans ((hk.part .stock rfl).trans hstock), hjob, hsig⟩

end

/-! ### TOUCHUP_RESTOCK and SCRUB_CRATE_NOW (R188, R196) -/

theorem touchupRestock_starts {who : Who} {index : Nat} (hopen : s.memOpen who = true) (hadm : whoAdmin who = true) (hstock : s.stock = none)
    (hrail : s.stkRailOff = false) (hidx : index < jrnCount)
    (hver : ∀ i ∈ groupCrates (jrnStall index) (jrnGroup index), (s.jrn i).state = .verified) :
    ∃ t, exec (.touchupRestock who index) s = .next t ∧ t.rd STK_STAT.JOB = 4 ∧
      (t.stock.map fun j => (j.touch, j.restock)) = some (groupCrates (jrnStall index) (jrnGroup index), true) := by
  show ∃ t, execTouchupRestock who index s = .next t ∧ _
  unfold execTouchupRestock
  rw [State.adminWrite_open hopen hadm]
  generalize hs1 : s.accessed who _ = s1
  have h1 : Keeps .door s s1 := hs1 ▸ (Keeps.refl .door s).accessed
  have hrail1 : s1.stkRailOff = false := hs1 ▸ (s.stkRailOff_accessed who _).trans hrail
  have hst1 : s1.stock = none := (h1.part .stock rfl).trans hstock
  have hall : ((groupCrates (jrnStall index) (jrnGroup index)).all fun i => (s1.jrn i).state == .verified) = true :=
    List.all_eq_true.2 fun i hi => by rw [h1.jrn, hver i hi]; rfl
  rw [if_neg (by simp [State.jobRunning, hst1]), if_neg (by simp [hrail1])]
  dsimp only
  rw [if_pos ⟨hidx, hall⟩]
  refine ⟨_, rfl, ?_, ?_⟩
  · rw [State.job_showJob, State.rd_wr_val _ rfl]
    rfl
  · rw [State.stock_showJob, State.wr_stock]
    rfl

/-- A crate's scrub begins with its 65 slots (R191). -/
theorem State.startScrub_takes (s : State) (i : Nat) : (s.startScrub i).scrub.busy = some i ∧ (s.startScrub i).scrub.left = 65 := by
  rw [State.startScrub, State.wakeStall_scrub]
  exact ⟨rfl, rfl⟩

theorem scrubCrateNow_starts {who : Who} {index : Nat} (hopen : s.memOpen who = true) (hadm : whoAdmin who = true) (hidx : index < jrnCount)
    (hver : (s.jrn index).state = .verified) (hbusy : s.scrub.busy = none) :
    ∃ t, exec (.scrubCrateNow who index) s = .next t ∧ t.scrub.busy = some index ∧ t.scrub.left = 65 := by
  show ∃ t, execScrubCrateNow who index s = .next t ∧ _
  unfold execScrubCrateNow
  rw [State.adminWrite_open hopen hadm]
  generalize hs1 : s.accessed who _ = s1
  have h1 : Keeps .door s s1 := hs1 ▸ (Keeps.refl .door s).accessed
  have hscrub : s1.scrub = s.scrub := h1.part .scrub rfl
  rw [if_pos ⟨hidx, by rw [h1.jrn]; exact hver, by rw [hscrub]; exact hbusy⟩]
  exact ⟨_, rfl, s1.startScrub_takes index⟩

/-! ### CRATE_PROGRAM_START (R174 to R178) -/

/-- What the rows' temperatures may change (R180). -/
def Footprint.hot : Footprint := ⟨(.free :: .rows :: flagParts).contains, (STK_ERR :: flagRegs).contains⟩

theorem State.hotRows_keeps (s : State) (is : List Nat) : Keeps .hot s (s.hotRows is) := (Keeps.refl _ s).under_hotRows

/-- What level data that is fetched may change before it is counted (R174, R180, R397). -/
def fetchParts : List Part := .free :: .rows :: ueParts
/-- The registers that it may change. -/
def fetchRegs : List Reg := STK_ERR :: readRegs ++ ueRegs

/-- The program of a crate begins (R175, R177, R181): its entry, its level data, and its place among the crates in progress. -/
def State.beginCrate (s : State) (j : StockJob) (i : Nat) (r : CrateRec) (count : Nat) (data : List Byte) (now : Nat) : State :=
  let s2 := ((s.dropScrub [i]).wear i (count + 1)).journalWrite i ⟨.programming, count + 1, j.slot, r.fmt, r.paired⟩
  ({ s2 with working := s2.working ++ [(⟨i, false, now⟩ : CrateWork)], stock := some { j with todo := j.todo.erase i },
             digests := FMap.set CrateData.init s2.digests i ⟨r.digest, data⟩ } : State).showJob

theorem State.beginCrate_shows (s : State) (j : StockJob) (i : Nat) (r : CrateRec) (count : Nat) (data : List Byte) (now : Nat) :
    let t := s.beginCrate j i r count data now
    t.jrn i = ⟨.programming, count + 1, j.slot, r.fmt, r.paired⟩ ∧ FMap.get CrateData.init t.digests i = ⟨r.digest, data⟩ ∧
      t.working = s.working ++ [⟨i, false, now⟩] ∧ (t.stock.map fun x => x.todo) = some (j.todo.erase i) ∧
      t.rd STK_REFETCH_CNT.V = s.rd STK_REFETCH_CNT.V := by
  unfold State.beginCrate
  dsimp only
  generalize hv : State.journalWrite _ i _ = v
  have hk : Keeps ⟨(.scrub :: .journal :: .groups :: flagParts).contains, (STK_ERR :: STL_GRP_CFG :: flagRegs).contains⟩ s v :=
    hv ▸ (Keeps.refl _ s).under_dropScrub.under_wear.under_journalWrite
  have hjrn : v.jrn i = ⟨.programming, count + 1, j.slot, r.fmt, r.paired⟩ := by rw [← hv, State.jrn_journalWrite]
  have hwork : v.working = s.working := hk.part .working rfl
  have hcnt : v.rd STK_REFETCH_CNT.V = s.rd STK_REFETCH_CNT.V := hk.rd
  rw [State.working_showJob, State.stock_showJob, (State.showJob_keeps _).jrn, (State.showJob_keeps _).rd,
    (State.showJob_keeps _).part .digests rfl, ← hwork, ← hcnt]
  exact ⟨hjrn, FMap.get_set_same .., rfl, rfl, State.rd_of_regs rfl ..⟩

section
variable {fetched : List Fetch} {n : Nat} {r : CrateRec} (hj : s.stock = some j) (hjob : s.rd STK_STAT.JOB = 2) (ha : j.abort = false)
  (hf : j.failing = false) (hnext : (s.hotRows j.todo).nextCrate j.todo = some i) (hcount : (s.jrn i).count < 10000) (hr : j.recOf i = r)
  (hspan : s.spanOk (j.addr + r.offset) 524288 = true) (hn : refetches r fetched = some n)
include hj hjob ha hf hnext hcount hr hspan hn

/-- Level data that passes its checks: the crate's group leaves service, and the crate is taken once no strike of it is in hand (R174, R177). -/
theorem crateProgram_fetched : ∃ u, (∀ F : Footprint, F.Covers fetchParts fetchRegs → Keeps F s u) ∧
    ∀ s1, (u.bump STK_REFETCH_CNT.V 0 n).wr (grpField (jrnGroup i) 2 1) (jrnStall i) 0 = s1 →
      exec (.crateProgramStart fetched) s =
        .next (if s1.groupQuiet i then s1.beginCrate j i r (s.jrn i).count (fetched.getD n ⟨[], .none⟩).data s.now else s1) := by
  have h0 : Keeps .hot s (s.hotRows j.todo) := s.hotRows_keeps _
  have hspan0 : (s.hotRows j.todo).spanOk (j.addr + r.offset) 524288 = true := h0.spanOk.trans hspan
  have hex : exec (.crateProgramStart fetched) s = execCrateProgramStart fetched s := rfl
  rw [hex]
  unfold execCrateProgramStart
  rw [hj]
  dsimp only
  rw [if_neg (by simp [hjob, ha, hf, jobProgramming]), hnext]
  dsimp only
  rw [h0.jrn, hr, if_neg (by omega), if_neg (by simp [hspan0]), hn]
  dsimp only
  generalize hu : List.foldl _ _ _ = u
  refine ⟨u, fun F hF => hu ▸ ?_, ?_⟩
  · exact (((Keeps.refl F s).under_hotRows hF.sub).under_touchSpan hF.sub).foldl fun _ _ h => h.under_readMem hF.sub
  · rintro s1 rfl
    split
    · next hq => rw [if_neg (by simpa using hq)]
    · next hq => rw [if_pos (by simpa using hq), State.beginCrate]

theorem crateProgram_starts :
    ∃ t, exec (.crateProgramStart fetched) s = .next t ∧ t.rd STK_REFETCH_CNT.V = (s.rd STK_REFETCH_CNT.V + n) % 2 ^ 64 ∧
      (s.groupQuiet i = true → t.jrn i = ⟨.programming, (s.jrn i).count + 1, j.slot, r.fmt, r.paired⟩ ∧
        FMap.get CrateData.init t.digests i = ⟨r.digest, (fetched.getD n ⟨[], .none⟩).data⟩ ∧
        t.working = s.working ++ [⟨i, false, s.now⟩] ∧ (t.stock.map fun x => x.todo) = some (j.todo.erase i)) ∧
      (s.groupQuiet i = false → t.working = s.working ∧ t.jrn i = s.jrn i ∧ t.rd (grpField (jrnGroup i) 2 1) (jrnStall i) = 0) := by
  obtain ⟨u, hu, hexec⟩ := crateProgram_fetched hj hjob ha hf hnext hcount hr hspan hn
  generalize hs1 : (u.bump STK_REFETCH_CNT.V 0 n).wr (grpField (jrnGroup i) 2 1) (jrnStall i) 0 = s1 at hexec
  have h1 : Keeps ⟨fetchParts.contains, (STK_REFETCH_CNT :: STL_GRP_CFG :: fetchRegs).contains⟩ s s1 :=
    hs1 ▸ (hu ⟨fetchParts.contains, (STK_REFETCH_CNT :: STL_GRP_CFG :: fetchRegs).contains⟩ rfl).bump.wr
  have hcnt0 : u.rd STK_REFETCH_CNT.V = s.rd STK_REFETCH_CNT.V := (hu ⟨fetchParts.contains, fetchRegs.contains⟩ rfl).rd
  have hcnt : s1.rd STK_REFETCH_CNT.V = (s.rd STK_REFETCH_CNT.V + n) % 2 ^ 64 := by
    rw [← hs1, State.rd_wr_free _ rfl, State.rd_bump_val _ rfl, hcnt0]
    rfl
  have hserv : s1.rd (grpField (jrnGroup i) 2 1) (jrnStall i) = 0 := by
    have hg : jrnGroup i < 4 := by unfold jrnGroup; omega
    have hfit : decide (8 * jrnGroup i + 2 + 1 ≤ 64) = true := by simp only [decide_eq_true_eq]; omega
    rw [← hs1, State.rd_wr_val (f := grpField (jrnGroup i) 2 1) _ hfit, Nat.zero_mod]
  have hquiet : s1.groupQuiet i = s.groupQuiet i := by
    have hst : s1.stalls = s.stalls := h1.part .stalls rfl
    simp only [State.groupQuiet, State.stall, hst]
  refine ⟨_, hexec s1 rfl, ?_⟩
  rw [hquiet]
  cases s.groupQuiet i with
  | true =>
    obtain ⟨hjrn, hdig, hwork, htodo, hkept⟩ := s1.beginCrate_shows j i r (s.jrn i).count (fetched.getD n ⟨[], .none⟩).data s.now
    rw [if_pos rfl]
    exact ⟨hkept.trans hcnt, fun _ => ⟨hjrn, hdig, hwork.trans (congrArg (· ++ _) (h1.part .working rfl)), htodo⟩, nofun⟩
  | false =>
    rw [if_neg (by decide)]
    exact ⟨hcnt, nofun, fun _ => ⟨h1.part .working rfl, h1.jrn rfl i, hserv⟩⟩

end

end Sys2Proof.Machine
end

section
/-! PROOF. O8, the ends of programs and passes, the pause between them, and the scrub; the obligation (R176, R184, R185, R191, R192). -/

namespace Sys2Proof.Machine

set_option Elab.async false

variable {s t : State} {j : StockJob} {i index : Nat} {ok : Bool} {w : CrateWork}

theorem crateProgramEnd_completes (hw : s.workOn index false = some w) (hj : s.stock = some j) (hlast : j.lastStep w = 1375000)
    (hnow : w.since + 1375000 ≤ s.now) :
    ∃ t, exec (.crateProgramEnd index ok) s = .next t ∧ t.jrn index = { s.jrn index with state := if ok then .programmed else .failed } ∧
      t.working = s.working.filter (fun w => w.index != index) ∧ t.rd STK_PROG_CNT.V = (s.rd STK_PROG_CNT.V + 1) % 2 ^ 64 ∧
      t.rd STK_FAIL_CNT.V = (s.rd STK_FAIL_CNT.V + ofBool (!ok)) % 2 ^ 64 := by
  obtain ⟨hwork, -, hcnt, hfail⟩ := s.settled_leaves (.inl rfl) index ok .programmed
  have hk := (s.settled STK_PROG_CNT.V index ok .programmed).jobNext_keeps
  exact ⟨_, crateProgramEnd_whole hw hj hlast hnow, (hk.jrn rfl index).trans (State.jrn_settled ..), (State.working_jobNext _).trans hwork,
    hk.rd.trans hcnt, hk.rd.trans hfail⟩

theorem touchupPassEnd_completes (hw : s.workOn index true = some w) (hj : s.stock = some j) (ha : j.abort = false) :
    ∃ t, exec (.touchupPassEnd index ok) s = .next t ∧ t.jrn index = { s.jrn index with state := if ok then .verified else .failed } ∧
      t.working = s.working.filter (fun w => w.index != index) ∧ t.rd STK_TOUCH_CNT.V = (s.rd STK_TOUCH_CNT.V + 1) % 2 ^ 64 := by
  have hex : exec (.touchupPassEnd index ok) s = .next (s.touched index ok) := by
    show execTouchupPassEnd index ok s = _
    unfold execTouchupPassEnd
    rw [hw, hj]
    exact if_pos (by simp [ha])
  obtain ⟨u, hu, hk⟩ := s.touched_settles index ok
  obtain ⟨hwork, -, hcnt, -⟩ := s.settled_leaves (.inr rfl) index ok .verified
  refine ⟨_, hex, ?_⟩
  rw [hu]
  exact ⟨((u.jobNext_keeps.jrn rfl index).trans (hk.jrn rfl index)).trans (State.jrn_settled ..),
    (u.working_jobNext.trans (hk.part .working rfl)).trans hwork, (u.jobNext_keeps.rd.trans hk.rd).trans hcnt⟩

theorem settlePauseEnd_completes (hj : s.stock = some j) (hjob : s.rd STK_STAT.JOB = 3) (hdue : j.settleAt ≤ s.rd WDN_ROUND.V)
    (ha : j.abort = false) (hf : j.failing = false) (hp : (j.recs.filter fun r => (s.jrn r.1).state == .programmed) ≠ []) :
    ∃ t, exec .settlePauseEnd s = .next t ∧ t.rd STK_STAT.JOB = 4 ∧
      (t.stock.map fun x => x.touch) = some ((j.recs.filter fun r => (s.jrn r.1).state == .programmed).map (·.1)) := by
  show ∃ t, execSettlePauseEnd s = .next t ∧ _
  unfold execSettlePauseEnd
  rw [hj]
  dsimp only
  rw [if_pos ⟨hjob, hdue⟩]
  generalize htouch : (j.recs.filter fun r => (s.jrn r.1).state == .programmed).map (·.1) = touch
  have hne : touch ≠ [] := by rw [← htouch]; simpa using hp
  generalize hu : (({ s with stock := some { j with touch := touch } } : State).wr STK_STAT.JOB 0 jobTouching).wr STK_STAT.SETTLE_LEFT 0 0 = u
  have hstock : u.stock = some { j with touch := touch } := by rw [← hu, State.wr_stock, State.wr_stock]
  have hshow : u.rd STK_STAT.JOB = jobTouching := by rw [← hu, State.rd_wr_free _ rfl, State.rd_wr_val _ rfl]; rfl
  refine ⟨_, rfl, ?_⟩
  rw [State.jobNext_of_touching hstock ha hf hshow hne, State.job_showJob, State.stock_showJob, hshow, hstock]
  exact ⟨rfl, rfl⟩

theorem touchupPassStart_completes (hj : s.stock = some j) (hjob : s.rd STK_STAT.JOB = 4) (ha : j.abort = false) (hf : j.failing = false)
    (hnext : (s.hotRows j.touch).nextCrate j.touch = some i) (hcount : j.restock = true → (s.jrn i).count < 10000) :
    ∃ t, exec .touchupPassStart s = .next t ∧
      t.jrn i = { s.jrn i with state := .touching, count := (s.jrn i).count + ofBool j.restock } ∧ t.working = s.working ++ [⟨i, true, s.now⟩] := by
  show ∃ t, execTouchupPassStart s = .next t ∧ _
  have h0 : Keeps .hot s (s.hotRows j.touch) := s.hotRows_keeps _
  unfold execTouchupPassStart
  rw [hj]
  dsimp only
  rw [if_neg (by simp [hjob, ha, hf, jobTouching]), hnext]
  dsimp only
  rw [h0.jrn, if_neg (by rintro ⟨hr, hc⟩; have := hcount hr; omega)]
  generalize hu : (State.dropScrub _ [i]) = u
  have hk : Keeps ⟨(.free :: .rows :: .scrub :: flagParts).contains, (STK_ERR :: flagRegs).contains⟩ s u :=
    hu ▸ (Keeps.ite (Keeps.refl _ s).under_hotRows.under_wear (Keeps.refl _ s).under_hotRows).under_dropScrub
  generalize hv : u.journalWrite i _ = v
  refine ⟨_, rfl, ?_, ?_⟩
  · refine ((State.showJob_keeps _).jrn rfl i).trans ?_
    show v.jrn i = _
    rw [← hv, State.jrn_journalWrite]
    cases j.restock <;> rfl
  · refine (State.working_showJob _).trans ?_
    have hvw : v.working = s.working := by rw [← hv]; exact ((u.journalWrite_keeps i _).part .working rfl).trans (hk.part .working rfl)
    show v.working ++ _ = _
    rw [hvw]

/-! ### SCRUB_DUE and SCRUB_CRATE_DONE (R191, R192) -/

theorem scrubDue_takes {e : JEntry} (hen : s.on STK_CTL.SCRUB_EN = true) (hbusy : s.scrub.busy = none)
    (hfind : s.journal.find? (fun e => e.2.state == .verified && decide (s.scrub.next ≤ e.1) && s.stState (jrnStall e.1) != stFault) = some (i, e))
    (hopen : s.closingStall (jrnStall i) = false) :
    ∃ t, exec .scrubDue s = .next t ∧ t.scrub.busy = some i ∧ t.scrub.left = 65 ∧ t.rd STK_SCRUB_STAT.NEXT = (i + 1) % jrnCount := by
  show ∃ t, execScrubDue s = .next t ∧ _
  unfold execScrubDue
  rw [if_pos (by simp [hen, hbusy]), hfind]
  dsimp only
  rw [if_neg (by simp [hopen])]
  generalize hu : State.wr _ STK_SCRUB_STAT.NEXT 0 _ = u
  obtain ⟨hb, hl⟩ := u.startScrub_takes i
  refine ⟨_, rfl, hb, hl, ?_⟩
  have hk : Keeps ⟨(.scrub :: wakeParts).contains, wakeRegs.contains⟩ u (u.startScrub i) := (Keeps.refl _ u).under_startScrub
  rw [hk.rd, ← hu, State.rd_wr_val _ rfl]
  exact Nat.mod_eq_of_lt ((Nat.mod_lt _ (by decide)).trans (by decide))

/-- What follows the count of a scrubbed crate (R191, R192). -/
def Footprint.scrubbed : Footprint :=
  ⟨(.journal :: .groups :: .restocked :: flagParts).contains, ([STK_MISMATCH_CNT, STK_ERR, STL_GRP_CFG] ++ flagRegs).contains⟩

/-- A crate's scrub is counted, with its marginal count and whether its codes match (R191). -/
def State.scrubCounted (s : State) (marginal : Nat) (ok : Bool) : State :=
  (({ s with scrub := { s.scrub with busy := none } }.bump STK_SCRUB_CNT.V).wr STK_SCRUB_STAT.MARGINAL 0 marginal).wr
    STK_SCRUB_STAT.MATCH 0 (ofBool ok)

theorem State.scrubCounted_shows (s : State) (marginal : Nat) (ok : Bool) :
    let t := s.scrubCounted marginal ok
    t.scrub.busy = none ∧ t.rd STK_SCRUB_CNT.V = (s.rd STK_SCRUB_CNT.V + 1) % 2 ^ 64 ∧ t.rd STK_SCRUB_STAT.MARGINAL = marginal % 2 ^ 32 ∧
      t.rd STK_SCRUB_STAT.MATCH = ofBool ok := by
  unfold State.scrubCounted
  refine ⟨?_, ?_, ?_, ?_⟩
  · rw [State.wr_scrub, State.wr_scrub, State.bump_scrub]
  · rw [State.rd_wr_free _ rfl, State.rd_wr_free _ rfl, State.rd_bump_val _ rfl]
    rfl
  · rw [State.rd_wr_free _ rfl, State.rd_wr_val _ rfl]
    rfl
  · rw [State.rd_wr_val _ rfl]
    cases ok <;> rfl

/-- A mismatch is counted and flagged: the crate is no longer VERIFIED, and its group is marked (R192). -/
def State.mismatched (s : State) (i : Nat) (st : JState) (rounds : Nat) : State :=
  let s3 := (s.bump STK_MISMATCH_CNT.V).stkFlag STK_ERR.MISMATCH i
  let s4 := s3.journalWrite i { s3.jrn i with state := st }
  ({ s4 with restocked := FMap.set 0 s4.restocked i rounds }.modGroup (groupId (jrnStall i) (jrnGroup i)) fun x => { x with scrubBad := true }).assayDone

theorem State.mismatched_keeps (s : State) (i : Nat) (st : JState) (rounds : Nat) : Keeps .scrubbed s (s.mismatched i st rounds) := by
  unfold State.mismatched State.assayDone
  exact (Keeps.refl _ s).bump.under_stkFlag.under_journalWrite.under_noteRestocked.under_modGroup.raise

theorem State.mismatched_shows (s : State) (i : Nat) (st : JState) (rounds : Nat) :
    let t := s.mismatched i st rounds
    (t.jrn i).state = st ∧ t.on STK_ERR.MISMATCH = true ∧ (t.group (groupId (jrnStall i) (jrnGroup i))).scrubBad = true := by
  unfold State.mismatched State.assayDone
  dsimp only
  generalize hu : (s.bump STK_MISMATCH_CNT.V).stkFlag STK_ERR.MISMATCH i = u
  generalize hv : u.journalWrite i { u.jrn i with state := st } = v
  have hflag : u.on STK_ERR.MISMATCH = true := by rw [← hu]; exact State.on_flagAt_val _ rfl _ _
  have hjrn : v.jrn i = { u.jrn i with state := st } := by rw [← hv, State.jrn_journalWrite]
  have hon : v.on STK_ERR.MISMATCH = u.on STK_ERR.MISMATCH := by rw [← hv]; exact (u.journalWrite_keeps i _).on
  generalize hx : ({ v with restocked := FMap.set 0 v.restocked i rounds } : State) = x
  have hxv : Keeps ⟨[.restocked].contains, fun _ => false⟩ v x := hx ▸ (Keeps.refl _ v).under_noteRestocked
  have hgroup (g : Nat) (f : Group → Group) : Keeps ⟨(.groups :: [.pendAt]).contains, raiseRegs.contains⟩ x ((x.modGroup g f).raise 217) :=
    (Keeps.refl _ x).under_modGroup.raise
  refine ⟨?_, ?_, ?_⟩
  · rw [(hgroup _ _).jrn, hxv.jrn, hjrn]
  · rw [(hgroup _ _).on, hxv.on, hon, hflag]
  · rw [State.group_raise, State.group_modGroup_same]

/-- What becomes of a crate that does not match: FAILED within a period of its restock, else UNSETTLED (R192). -/
def State.mismatchState (s : State) (i : Nat) : JState :=
  if decide (2 ≤ FMap.get 0 s.restocked i) && decide (s.rd WDN_ROUND.V ≤ FMap.get 0 s.restocked i - 2 + s.scrubPeriod) then .failed else .unsettled

theorem State.mismatchState_cases (s : State) (i : Nat) : s.mismatchState i = .unsettled ∨ s.mismatchState i = .failed := by
  unfold State.mismatchState
  split
  · exact .inr rfl
  · exact .inl rfl

/-- A marginal count beyond its limit makes its crate due for a touch-up (R191). -/
def State.marginJudged (s : State) (i marginal : Nat) (ok : Bool) : State :=
  if s.rd STK_SCRUB_CTL.MARG_MAX < marginal then (s.scrubCounted marginal ok).touchupDue i else s.scrubCounted marginal ok

theorem exec_scrubCrateDone {codes : List Byte} {marginal : Nat} {ok : Bool} (hbusy : s.scrub.busy = some i) (hleft : s.scrub.left = 0)
    (hok : (leAt (sha512 codes) 0 64 == (FMap.get CrateData.init s.digests i).digest) = ok) :
    exec (.scrubCrateDone codes marginal) s =
      .next (if ok then (s.marginJudged i marginal ok).assayDone else (s.marginJudged i marginal ok).mismatched i (s.mismatchState i) 1) := by
  have hex : exec (.scrubCrateDone codes marginal) s = execScrubCrateDone codes marginal s := rfl
  rw [hex]
  unfold execScrubCrateDone
  rw [hbusy]
  dsimp only
  rw [if_neg (by simp [hleft]), hok, ← State.scrubCounted, ← State.marginJudged, ← State.mismatchState]
  unfold State.mismatched
  cases ok with
  | true => rw [if_pos rfl, if_pos rfl]
  | false => rw [if_neg (by decide), if_neg (by decide)]

theorem scrubCrateDone_completes {codes : List Byte} {marginal digest : Nat} (hbusy : s.scrub.busy = some i) (hleft : s.scrub.left = 0)
    (hd : leAt (sha512 codes) 0 64 = digest) :
    ∃ t, exec (.scrubCrateDone codes marginal) s = .next t ∧ t.scrub.busy = none ∧ t.rd STK_SCRUB_CNT.V = (s.rd STK_SCRUB_CNT.V + 1) % 2 ^ 64 ∧
      t.rd STK_SCRUB_STAT.MARGINAL = marginal % 2 ^ 32 ∧ t.rd STK_SCRUB_STAT.MATCH = ofBool (digest == (FMap.get CrateData.init s.digests i).digest) ∧
      (digest ≠ (FMap.get CrateData.init s.digests i).digest → ((t.jrn i).state = .unsettled ∨ (t.jrn i).state = .failed) ∧ t.on STK_ERR.MISMATCH = true ∧
        (t.group (groupId (jrnStall i) (jrnGroup i))).scrubBad = true) := by
  generalize hok : (digest == (FMap.get CrateData.init s.digests i).digest) = ok
  have hex := exec_scrubCrateDone (marginal := marginal) hbusy hleft (hd ▸ hok)
  have hu : Keeps .scrubbed (s.scrubCounted marginal ok) (s.marginJudged i marginal ok) := .ite (Keeps.refl _ _).under_touchupDue (Keeps.refl _ _)
  generalize s.marginJudged i marginal ok = u at hex hu
  have hst := s.mismatchState_cases i
  generalize s.mismatchState i = st at hex hst
  obtain ⟨hb, hcnt, hmarg, hmatch⟩ := s.scrubCounted_shows marginal ok
  have hk : Keeps .scrubbed (s.scrubCounted marginal ok) (if ok then u.assayDone else u.mismatched i st 1) :=
    .ite hu.raise (hu.trans (u.mismatched_keeps i st 1))
  refine ⟨_, hex, ?_, hk.rd.trans hcnt, hk.rd.trans hmarg, hk.rd.trans hmatch, fun hne => ?_⟩
  · rw [show State.scrub _ = _ from hk.part .scrub rfl, hb]
  · have hf : ok = false := by rw [← hok]; simpa using hne
    obtain ⟨hj, hon, hg⟩ := u.mismatched_shows i st 1
    rw [if_neg (by simp [hf]), hj]
    exact ⟨hst, hon, hg⟩

end Sys2Proof.Machine

namespace Sys2Proof
open Machine

/-- Settles O8, clause by clause: jobs, restocks, programs, passes and scrubs. -/
theorem stockingCommandsComplete : Obligations.StockingCommandsComplete := fun _ =>
  ⟨fun _ _ _ _ _ _ _ _ _ hopen hadm hstock hwork hrail hh hspan hspan' hrecs hrs =>
    ⟨stockingJob_starts hopen hadm hstock hrail hh hspan hspan' hrecs hrs hwork,
     stockingJob_refused hopen hadm hstock hrail hh hspan hspan' hrecs hrs⟩,
   fun _ _ hopen hadm hstock hrail hidx hver => touchupRestock_starts hopen hadm hstock hrail hidx hver,
   fun _ _ hopen hadm hidx hver hbusy => scrubCrateNow_starts hopen hadm hidx hver hbusy,
   fun _ _ _ _ _ hj hjob ha hf hnext hcount hr hspan hn => crateProgram_starts hj hjob ha hf hnext hcount hr hspan hn,
   fun _ _ _ _ hw hj hlast hnow => crateProgramEnd_completes hw hj hlast hnow,
   fun _ hj hjob hdue ha hf hp => settlePauseEnd_completes hj hjob hdue ha hf hp,
   fun _ _ hj hjob ha hf hnext hcount => touchupPassStart_completes hj hjob ha hf hnext hcount,
   fun _ _ _ _ hw hj ha => touchupPassEnd_completes hw hj ha,
   fun _ _ hen hbusy hfind hopen => scrubDue_takes hen hbusy hfind hopen,
   fun _ _ _ _ hbusy hleft hd => scrubCrateDone_completes hbusy hleft hd⟩

end Sys2Proof
end

section
/-! PROOF. What the page managers, the errors of memory and the ends of a function's work may change (R229 to R253, R397, R418), under
every footprint that takes them in. -/

namespace Sys2Proof.Machine

set_option Elab.async false

variable {F : Footprint} {s₀ s : State}

/-! ### Answers that may be none -/

/-- Where an operation offers a value, the state in it keeps all that the footprint leaves out: `Offers` for every footprint. -/
def Footprint.Offers {α : Type} (F : Footprint) (s₀ : State) (f : α → State) (o : Option α) : Prop := ∀ x, o = some x → Keeps F s₀ (f x)

section
variable {α β : Type} {f : α → State} {o : Option α}

theorem Footprint.Offers.some {x : α} (h : Keeps F s₀ (f x)) : F.Offers s₀ f (some x) := by
  rintro y ⟨⟩
  exact h

theorem Footprint.Offers.none : F.Offers s₀ f none := nofun

theorem Footprint.Offers.of {x : α} (h : F.Offers s₀ f o) (e : o = Option.some x) : Keeps F s₀ (f x) := h x e

theorem Footprint.Offers.ite {c : Prop} {_ : Decidable c} {a b : Option α} (ha : F.Offers s₀ f a) (hb : F.Offers s₀ f b) :
    F.Offers s₀ f (if c then a else b) := by split <;> assumption

theorem Footprint.Offers.foldl {l : List β} {k : Option α → β → Option α} (h : F.Offers s₀ f o)
    (hk : ∀ a x, F.Offers s₀ f a → F.Offers s₀ f (k a x)) : F.Offers s₀ f (l.foldl k o) := by
  induction l generalizing o with
  | nil => exact h
  | cons x l ih => exact ih (hk o x h)

end

/-! ### Pages (R229, R238 to R243) -/

theorem Keeps.under_kvFlag (h : Keeps F s₀ s) {f : RField} {seq slot : Nat}
    (hF : F.Covers flagParts (KV_ERR :: flagRegs) := by exact rfl) (hf : f.reg = KV_ERR := by exact rfl) :
    Keeps F s₀ (s.kvFlag f seq slot) := h.under_flagAt hF hf rfl

/-- A page alone, where `Keeps.under_setPage` takes all that the end of a sequence may change. -/
theorem Keeps.under_putPage (h : Keeps F s₀ s) {id : Nat} {p : Page} (hF : F.Covers [.pages] [] := by exact rfl) :
    Keeps F s₀ (s.setPage id p) := by
  unfold State.setPage
  exact h.only [.pages] hF

/-- What a change at a page's manager may change (R239). -/
def managerParts : List Part := [.pages, .sched, .mem]

/-- A change of REF or PIN reaches the page's manager, and a page that nothing holds is let go. -/
theorem Keeps.under_pageChange (h : Keeps F s₀ s) {id : Nat} {f : Page → Page} (hF : F.Covers managerParts [KV_RELEASE_CNT] := by exact rfl) :
    Keeps F s₀ (s.pageChange id f) := by
  have hb : F.Covers [] [KV_RELEASE_CNT] := hF.sub
  have ha : Keeps F s₀ (s.pageArrival id) := by
    unfold State.pageArrival
    exact h.only [.sched] hF.sub
  unfold State.pageChange State.sweepPage
  have hp (p : Page) : Keeps F s₀ ((s.pageArrival id).setPage id p) := ha.under_putPage hF.sub
  exact .ite ((((hp _).under_putPage hF.sub).bump hb).only [.mem] hF.sub) (hp _)

theorem Keeps.under_refUp (h : Keeps F s₀ s) {id : Nat} (hF : F.Covers managerParts [KV_RELEASE_CNT] := by exact rfl) : Keeps F s₀ (s.refUp id) :=
  h.under_pageChange hF

theorem Keeps.under_pinReads (h : Keeps F s₀ s) {ids : List Nat} {u : PageUse} (hF : F.Covers managerParts [KV_RELEASE_CNT] := by exact rfl) :
    Keeps F s₀ (s.pinReads ids u) :=
  .foldl (h.foldl fun _ _ h => h.under_pageChange hF) fun _ _ h => h.under_pageChange hF

theorem Keeps.under_newPage (h : Keeps F s₀ s) {func slot layer home : Nat}
    (hF : F.Covers [.pages, .nextPage] [KV_REMOTE_ALLOC_CNT] := by exact rfl) : F.Offers s₀ Prod.snd (s.newPage func slot layer home) := by
  have hb : F.Covers [] [KV_REMOTE_ALLOC_CNT] := hF.sub
  have hn (n : Nat) (id : Nat) (p : Page) : Keeps F s₀ (({ s with nextPage := n } : State).setPage id p) :=
    (h.only [.nextPage] hF.sub).under_putPage hF.sub
  unfold State.newPage
  split
  · exact .none
  · exact .some (.ite (hn ..) ((hn ..).bump hb))

/-- The registers that a page copied for one sequence may change (R240, R242). -/
def copyRegs : List Reg := [KV_REMOTE_ALLOC_CNT, KV_COW_CNT]

theorem Keeps.under_copyPage (h : Keeps F s₀ s) {id func home : Nat} (hF : F.Covers [.pages, .nextPage] copyRegs := by exact rfl) :
    F.Offers s₀ Prod.snd (s.copyPage id func home) := by
  have hb : F.Covers [] [KV_COW_CNT] := hF.sub
  unfold State.copyPage
  dsimp only
  split
  · exact .none
  · next e => exact .some ((((h.under_newPage hF.sub).of e).under_putPage hF.sub).bump hb)

/-- What the sharing of a page may change. -/
def shareParts : List Part := .nextPage :: managerParts ++ flagParts
/-- The registers that it may change. -/
def shareRegs : List Reg := KV_RELEASE_CNT :: KV_ERR :: copyRegs ++ flagRegs

theorem Keeps.under_sharePage (h : Keeps F s₀ s) {q id : Nat} (hF : F.Covers shareParts shareRegs := by exact rfl) :
    F.Offers s₀ Prod.snd (s.sharePage q id) := by
  unfold State.sharePage
  exact .ite (.some (h.under_refUp hF.sub)) ((h.under_kvFlag hF.sub).under_copyPage hF.sub)

/-! ### Memory errors (R396, R397) -/

theorem Keeps.under_pageErrs (h : Keeps F s₀ s) {ids : List Nat} {err : MemErr} (hF : F.Covers [.mem] [MEM_CE_CNT] := by exact rfl) :
    Keeps F s₀ (s.pageErrs ids err) := h.foldl fun _ _ h => h.under_memCE hF

/-- What a page that meets an uncorrectable error may change: its sequence ends. -/
def pageUEParts : List Part := .pendAt :: endParts
/-- The registers that it may change. -/
def pageUERegs : List Reg := ueRegs ++ endRegs

theorem Keeps.under_pageUE (h : Keeps F s₀ s) {q id gran : Nat} (hF : F.Covers pageUEParts pageUERegs := by exact rfl) :
    Keeps F s₀ (s.pageUE q id gran) := by
  have hb : F.Covers [] [MEM_UE_CNT] := hF.sub
  have ht : F.Covers [] [MEM_TRAIN_CNT] := hF.sub
  have hc : Keeps F s₀ (s.countUE gran) := ((h.bump hb).under_memFlag hF.sub).bump ht
  unfold State.pageUE State.markPage
  exact (hc.under_putPage hF.sub).under_faultSeq hF.sub

/-! ### Work that ends (R210, R301, R418) -/

theorem Keeps.under_cancelSeq (h : Keeps F s₀ s) {q status : Nat} (hF : F.Covers endParts endRegs := by exact rfl) :
    Keeps F s₀ (s.cancelSeq q status) := by
  unfold State.cancelSeq
  exact .ite h (.ite (h.under_endSeq hF) (h.under_setSeq hF.sub))

theorem Keeps.under_tuneBoundary (h : Keeps F s₀ s) {f : Nat} (hF : F.Covers endParts endRegs := by exact rfl) :
    Keeps F s₀ (s.tuneBoundary f) := by
  unfold State.tuneBoundary
  split
  · exact .ite (h.under_endTune hF) h
  · exact h

/-- A tuning job that is told to end ends at once where it stands at a boundary. -/
theorem Keeps.under_setTune_tuneBoundary (h : Keeps F s₀ s) {f : Nat} {j : TuneJob} (hF : F.Covers endParts endRegs := by exact rfl) :
    Keeps F s₀ ((s.setTune f j).tuneBoundary f) := by
  have ht : Keeps F s₀ (s.setTune f j) := by
    unfold State.setTune
    exact h.only [.tunes] hF.sub
  exact ht.under_tuneBoundary hF

/-- What the end of a stream may change (R294 to R298). -/
def paceParts : List Part := .paces :: leaveParts
/-- The registers that it may change. -/
def paceRegs : List Reg := SRV_PACE_STAT :: endRegs

theorem Keeps.under_setPace (h : Keeps F s₀ s) {k : Nat} {p : Pace} (hF : F.Covers [.paces] [] := by exact rfl) : Keeps F s₀ (s.setPace k p) := by
  unfold State.setPace
  exact h.only [.paces] hF

theorem Keeps.under_cancelPace (h : Keeps F s₀ s) {k status : Nat} (hF : F.Covers paceParts paceRegs := by exact rfl) :
    Keeps F s₀ (s.cancelPace k status) := by
  have hr : F.Covers [] [SRV_PACE_STAT] := hF.sub
  unfold State.cancelPace State.endPace
  dsimp only
  split
  · exact .ite h (((Keeps.ite (h.under_putEnd hF.sub) h).setReg hr).under_setPace hF.sub)
  · exact ((h.under_setPace hF.sub).wr hr).wr hr

/-- What the end of a function's work may change. -/
def functionParts : List Part := .paces :: endParts

theorem Keeps.under_endFunction (h : Keeps F s₀ s) {f status : Nat} (hF : F.Covers functionParts paceRegs := by exact rfl) :
    Keeps F s₀ (s.endFunction f status) := by
  unfold State.endFunction
  extract_lets qs s1 _ s2
  have h1 : Keeps F s₀ s1 := h.foldl fun _ _ h => h.under_cancelSeq hF.sub
  have h2 : Keeps F s₀ s2 := .ite (h1.under_setTune_tuneBoundary hF.sub) h1
  exact h2.foldl fun _ _ h => .ite (h.under_cancelPace hF.sub) h

/-- What the isolation of functions may change (R418). -/
def isolateParts : List Part := .pendAt :: functionParts
/-- The registers that it may change. -/
def isolateRegs : List Reg := [HOST_FN_STAT, TEN_FAULT, HOST_ERR] ++ flagRegs ++ flogRegs ++ paceRegs

theorem Keeps.under_isolate (h : Keeps F s₀ s) {fs : List Nat} (hF : F.Covers isolateParts isolateRegs := by exact rfl) :
    Keeps F s₀ (s.isolate fs) := by
  have hs : F.Covers [] [HOST_FN_STAT] := hF.sub
  have ht : F.Covers [] [TEN_FAULT] := hF.sub
  have hfold : Keeps F s₀ (fs.eraseDups.foldl (fun s f => (((((s.wr HOST_FN_STAT.FENCED f 1).tenFault TEN_FAULT.ISO f).flagAt HOST_ERR.ISO 0
      [(HOST_ERR.FUNC, f)]).faultLog 8 5 0 0 f).endFunction f 6)) s) := h.foldl fun _ _ h =>
    (((((h.wr hs).tenFault ht hF.sub).under_flagAt hF.sub rfl rfl).under_faultLog hF.sub).under_endFunction hF.sub)
  unfold State.isolate
  exact .ite hfold (hfold.send hF.sub)

/-- What a host read that fails may change (R419). -/
def dmaRegs : List Reg := TEN_DMA_FAIL_CNT :: TEN_FAULT :: HOST_ERR :: flagRegs

theorem Keeps.under_dmaFail (h : Keeps F s₀ s) {f : Nat} {ats : Bool} (hF : F.Covers flagParts dmaRegs := by exact rfl) :
    Keeps F s₀ (s.dmaFail f ats) := by
  have hb : F.Covers [] [TEN_DMA_FAIL_CNT] := hF.sub
  have ht : F.Covers [] [TEN_FAULT] := hF.sub
  have h1 : Keeps F s₀ ((s.bump TEN_DMA_FAIL_CNT.V f).tenFault TEN_FAULT.DMA f) := (h.bump hb).tenFault ht hF.sub
  unfold State.dmaFail
  exact (Keeps.ite (h1.tenFault ht hF.sub) h1).under_flagAt hF.sub rfl rfl

/-! ### Weigh houses (R229, R379) -/

theorem Keeps.under_whFlag (h : Keeps F s₀ s) {f : RField} {house q : Nat}
    (hF : F.Covers flagParts (WH_ERR :: flagRegs) := by exact rfl) (hf : f.reg = WH_ERR := by exact rfl) :
    Keeps F s₀ (s.whFlag f house q) := h.under_flagAt hF hf rfl

theorem Keeps.under_houseFault (h : Keeps F s₀ s) {house : Nat} (hF : F.Covers [.seqs] (WH_STAT :: flogRegs) := by exact rfl) :
    Keeps F s₀ (s.houseFault house) := by
  have hw : F.Covers [] [WH_STAT] := hF.sub
  unfold State.houseFault
  exact .ite h (((h.wr hw).under_faultLog hF.sub).foldl fun _ _ h => h.under_modSeq hF.sub)

/-- What a flag of a weigh house may change. -/
def houseParts : List Part := .seqs :: .sched :: cperParts
/-- The registers that it may change. -/
def houseRegs : List Reg := WH_STAT :: WH_ERR :: flogRegs ++ cperRegs

theorem Keeps.under_houseFlag (h : Keeps F s₀ s) {q house flag : Nat} (hF : F.Covers houseParts houseRegs := by exact rfl) :
    Keeps F s₀ (s.houseFlag q house flag) := by
  have hf : (if flag = 1 then WH_ERR.PARITY else WH_ERR.NORM).reg = WH_ERR := by split <;> rfl
  have hc (c : Cper) : Keeps F s₀ ((s.whFlag (if flag = 1 then WH_ERR.PARITY else WH_ERR.NORM) house q).cper c) :=
    (h.under_whFlag hF.sub hf).under_cper hF.sub
  unfold State.houseFlag
  exact .ite ((hc _).under_houseFault hF.sub) ((hc _).only [.sched] hF.sub)

end Sys2Proof.Machine
end

section
/-! PROOF. What the key-value commands may change (R229 to R266), under every footprint that takes them in. -/

namespace Sys2Proof.Machine

set_option Elab.async false

variable {F : Footprint} {s₀ s : State}

/-! ### DECODE_ATTENTION (R230, R244 to R248) -/

/-- The counters of a weigh house's reads. -/
def countRegs : List Reg := [WH_DEC_CNT, WH_PAGE_READ_CNT, KV_NARROW_READ_CNT, WH_BOUND_CNT, KV_INDEX_SEL_CNT]

theorem Keeps.under_countReads (h : Keeps F s₀ s) {x : Seq} {pos hq : Nat} {held pages : List Page} {u : PageUse} {narrow : Nat → Bool}
    (hF : F.Covers [] countRegs := by exact rfl) : Keeps F s₀ (s.countReads x pos hq held pages u narrow) := by
  unfold State.countReads
  exact ((((h.bump hF.sub).bump hF.sub).bump hF.sub).bump hF.sub).bump hF.sub

/-- The registers that attention that stops before its first read may change. -/
def stopRegs : List Reg := KV_ERR :: WH_ERR :: pageUERegs

theorem Keeps.under_attnStop (h : Keeps F s₀ s) {q : Nat} {ids : List Nat} {u : PageUse} {narrow : Nat → Bool} {ue : Option Nat}
    (hF : F.Covers pageUEParts stopRegs := by exact rfl) : F.Offers s₀ (·) (s.attnStop q ids u narrow ue) := by
  unfold State.attnStop
  dsimp only
  split
  · exact .some (h.under_pageUE hF.sub)
  · exact .ite (.some (h.under_kvFlag hF.sub)) (.ite (.some ((h.under_whFlag hF.sub).under_faultSeq hF.sub))
      (.ite (.some ((h.under_kvFlag hF.sub).under_faultSeq hF.sub)) .none))

/-- The registers that attention may change. -/
def attendRegs : List Reg := MEM_CE_CNT :: WH_STATS_SAVE_CNT :: countRegs ++ stopRegs

theorem Keeps.under_attend (h : Keeps F s₀ s) {q layer pos : Nat} {query key value : List Word32} {err : MemErr}
    (hF : F.Covers pageUEParts attendRegs := by exact rfl) : Keeps F s₀ (s.attend q layer pos query key value err) := by
  have hb : F.Covers [] [WH_STATS_SAVE_CNT] := hF.sub
  unfold State.attend
  extract_lets +onlyGivenNames x qfmt hk hq ids held own pages u narrow s'
  have h' : Keeps F s₀ s' := h.under_pageErrs hF.sub
  split
  · next e => exact (h'.under_attnStop hF.sub).of e
  · extract_lets wh row states bad out saved _ s1 s2 s3 s4
    have h1 : Keeps F s₀ s1 := (h'.under_setSeq hF.sub).under_pinReads hF.sub
    have h2 : Keeps F s₀ s2 := h1.under_countReads hF.sub
    have h3 : Keeps F s₀ s3 := .ite (h2.bump hb) h2
    have h4 : Keeps F s₀ s4 := .ite (h3.under_whFlag hF.sub) h3
    exact h4.send hF.sub

theorem Keeps.under_attendBack (h : Keeps F s₀ s) {q layer pos : Nat} {query dO : List Word32} {err : MemErr}
    (hF : F.Covers pageUEParts attendRegs := by exact rfl) : Keeps F s₀ (s.attendBack q layer pos query dO err) := by
  have hp : F.Covers [] [WH_PAGE_READ_CNT] := hF.sub
  have hn : F.Covers [] [KV_NARROW_READ_CNT] := hF.sub
  unfold State.attendBack
  extract_lets +onlyGivenNames x qfmt hk hq ids held pages u narrow s'
  have h' : Keeps F s₀ s' := h.under_pageErrs hF.sub
  split
  · next e => exact (h'.under_attnStop hF.sub).of e
  · exact (((h'.under_pinReads hF.sub).bump hp).bump hn).send hF.sub

/-- What a request to wake a quarter may change. -/
def askWakeParts : List Part := [.sleep, .gatedAt, .wakeAt]

/-- What DECODE_ATTENTION may change. -/
def decodeParts : List Part := .cperLost :: askWakeParts ++ isolateParts
/-- The registers that it may change. -/
def decodeRegs : List Reg := WDN_WAKE_CNT :: houseRegs ++ isolateRegs ++ attendRegs

theorem Keeps.under_execDecodeAttention (h : Keeps F s₀ s) {q layer pos : Nat} {query key value : List Word32} {a : AttnIn}
    (hF : F.Covers decodeParts decodeRegs := by exact rfl) : Answers F s₀ (Machine.execDecodeAttention q layer pos query key value a s) := by
  unfold Machine.execDecodeAttention
  extract_lets x s' x'
  have h' : Keeps F s₀ s' := .ite (h.foldl fun _ _ h => h.under_houseFlag hF.sub) h
  have hi : Keeps F s₀ ((s'.isolate a.iso).faultSeq q 6) := (h'.under_isolate hF.sub).under_faultSeq hF.sub
  refine .ite (.next h') (.ite (.next (h'.wakeUnit hF.sub)) ?_)
  split
  · exact .ite (.next h') (.ite (.next hi) (.next (h'.under_attendBack hF.sub)))
  · exact .ite (.next h') (.ite (.next hi) (.next (h'.under_attend hF.sub)))

/-! ### FRESH_BLOCK_MERGE (R258, R259) -/

/-- What FRESH_BLOCK_MERGE may change. -/
def mergeParts : List Part := .rows :: askWakeParts ++ pageUEParts
/-- The registers that it may change. -/
def mergeRegs : List Reg := WDN_WAKE_CNT :: WH_MERGE_CNT :: stopRegs

theorem Keeps.under_execFreshBlockMerge (h : Keeps F s₀ s) {q layer pos head kv block row : Nat} {k : Nat × Nat}
    {v : (Nat × Nat) × Nat × Nat} (hF : F.Covers mergeParts mergeRegs := by exact rfl) :
    Answers F s₀ (Machine.execFreshBlockMerge q layer pos head kv block row k v s) := by
  have hb : F.Covers [] [WH_MERGE_CNT] := hF.sub
  unfold Machine.execFreshBlockMerge
  dsimp only
  refine .ite (.next h) ?_
  split
  · split
    · exact .next (h.under_pageUE hF.sub)
    · have hm (f : Row → Row) (ids : List Nat) (u : PageUse) (x : Seq) (wh : Nat) :
          Keeps F s₀ ((((s.modRow row f).pinReads ids u).setSeq q x).bump WH_MERGE_CNT.V wh) :=
        (((h.under_modRow hF.sub).under_pinReads hF.sub).under_setSeq hF.sub).bump hb
      exact .ite (.next (h.wakeUnit hF.sub)) (.ite (.next (h.under_kvFlag hF.sub))
        (.next (.ite ((hm ..).under_whFlag hF.sub) (hm ..))))
  · exact .next h

/-! ### Page managers (R239, R241, R242) -/

theorem Keeps.under_execPageManagerChange (h : Keeps F s₀ s) {page : Nat} {change : PageChange}
    (hF : F.Covers (.seqs :: shareParts) shareRegs := by exact rfl) : Answers F s₀ (Machine.execPageManagerChange page change s) := by
  have hl {t : State} {q layer : Nat} {l : List Nat} (ht : Keeps F s₀ t) : Keeps F s₀ (t.setList q layer l) := ht.under_modSeq hF.sub
  have hc {t : State} {f : Page → Page} (ht : Keeps F s₀ t) : Keeps F s₀ (t.pageChange page f) := ht.under_pageChange hF.sub
  unfold Machine.execPageManagerChange
  refine .ite (.next h) ?_
  cases change with
  | refUp q =>
    dsimp only
    split
    · exact .next h
    · split
      · next e => exact .next (hl ((h.under_sharePage hF.sub).of e))
      · exact .next (h.under_kvFlag hF.sub)
  | refDown q =>
    dsimp only
    split
    · exact .next h
    · exact .ite (.next (hc (hl h))) (.next h)
  | pinUp => exact .next (hc (.ite h (h.under_kvFlag hF.sub)))
  | pinDown => exact .next (hc h)

/-! ### Parking and resumption (R251 to R253) -/

/-- The registers that parking may change. -/
def parkRegs : List Reg := KV_PARK_CNT :: KV_KV4_SAT_CNT :: KV_ERR :: pageUERegs

theorem Keeps.under_park (h : Keeps F s₀ s) {q : Nat} (hF : F.Covers pageUEParts parkRegs := by exact rfl) : Keeps F s₀ (s.park q) := by
  have hb : F.Covers [] [KV_PARK_CNT] := hF.sub
  have hs : F.Covers [] [KV_KV4_SAT_CNT] := hF.sub
  have hu : F.Covers [] [TEN_STORE_STAT] := hF.sub
  unfold State.park
  dsimp only
  split
  · exact h.under_pageUE hF.sub
  · split
    · have hd (n : Nat) (l : List Nat) : Keeps F s₀ (l.foldl State.refDown ((s.bump KV_PARK_CNT.V).bump KV_KV4_SAT_CNT.V 0 n)) :=
        ((h.bump hb).bump hs).foldl fun _ _ h => h.under_refDown hF.sub
      exact (((hd ..).wr hu).under_setSeq hF.sub).send hF.sub
    · exact (h.under_kvFlag hF.sub).under_endSeq hF.sub

theorem Keeps.under_execParkSequence (h : Keeps F s₀ s) {q : Nat} (hF : F.Covers pageUEParts parkRegs := by exact rfl) :
    Answers F s₀ (Machine.execParkSequence q s) := by
  unfold Machine.execParkSequence
  exact .ite (.next (h.under_park hF)) (.next h)

theorem Keeps.under_restorePages (h : Keeps F s₀ s) {q : Nat} {img : List (List Page)}
    (hF : F.Covers [.pages, .nextPage] [KV_REMOTE_ALLOC_CNT] := by exact rfl) : F.Offers s₀ Prod.snd (s.restorePages q img) := by
  unfold State.restorePages
  refine Footprint.Offers.foldl (.some h) fun a l ha => ?_
  split
  · exact .none
  next ls s1 =>
    have h1 : Keeps F s₀ s1 := ha.of rfl
    split
    · exact .none
    next ids s2 e =>
      refine .some ((Footprint.Offers.foldl (.some h1) fun a p ha => ?_ : F.Offers s₀ Prod.snd _) (ids, s2) e)
      split
      · exact .none
      · split
        · exact .none
        next e => exact .some ((((ha.of rfl).under_newPage hF).of e).under_putPage hF.sub)

/-- What RESUME_SEQUENCE may change. -/
def resumeParts : List Part := .nextPage :: .pendAt :: endParts
/-- The registers that it may change. -/
def resumeRegs : List Reg := KV_REMOTE_ALLOC_CNT :: KV_RESUME_CNT :: dmaRegs ++ endRegs

theorem Keeps.under_execResumeSequence (h : Keeps F s₀ s) {q : Nat} {readOk digestOk : Bool}
    (hF : F.Covers resumeParts resumeRegs := by exact rfl) : Answers F s₀ (Machine.execResumeSequence q readOk digestOk s) := by
  have ht : F.Covers [] [TEN_FAULT] := hF.sub
  have hu : F.Covers [] [TEN_STORE_STAT] := hF.sub
  have hb : F.Covers [] [KV_RESUME_CNT] := hF.sub
  unfold Machine.execResumeSequence
  dsimp only
  split
  · exact .next h
  next img g _ =>
    have hd (f : Nat) : Keeps F s₀ (s.dmaFail f false) := h.under_dmaFail hF.sub
    refine .ite (.next h) (.ite (.ite (.next ((hd _).under_setSeq hF.sub)) (.next ((hd _).under_endSeq hF.sub))) (.ite ?_ ?_))
    · exact .next (((h.tenFault ht hF.sub).under_endSeq hF.sub).raise hF.sub)
    · split
      · exact .next h
      next e =>
        have h1 := (h.under_restorePages hF.sub).of e
        exact .next (((((h1.wr hu).under_modSeq hF.sub).bump hb).send hF.sub).raise hF.sub)

/-! ### KV_SLOT_CFG (R245, R254, R264) -/

theorem Keeps.under_execKvSlotCfgWrite (h : Keeps F s₀ s) {who : Who} {val : Nat}
    (hF : F.Covers adminParts (KV_SLOT_CFG :: adminRegs) := by exact rfl) : Answers F s₀ (Machine.execKvSlotCfgWrite who val s) := by
  unfold Machine.execKvSlotCfgWrite
  exact .next (h.under_adminWrite (fun _ h => .ite h (.ite h (h.setReg hF.sub))) hF.sub)

end Sys2Proof.Machine
end

section
/-! PROOF. What the porter's commands may change (R208 to R225), under every footprint that takes them in. -/

namespace Sys2Proof.Machine

set_option Elab.async false

variable {F : Footprint} {s₀ s : State}

/-! ### MODEL_LOAD (R208, R211, R221) -/

theorem Keeps.under_setSlState (h : Keeps F s₀ s) {slot st : Nat} (hF : F.Covers [] [PRT_MODEL_STAT] := by exact rfl) :
    Keeps F s₀ (s.setSlState slot st) := h.wr hF

/-- The registers that a refused load may change. -/
def refusedRegs : List Reg := PRT_STAT :: PRT_ERR :: flagRegs

theorem Keeps.under_refuseLoad (h : Keeps F s₀ s) {slot : Nat} {f : RField} (hF : F.Covers flagParts refusedRegs := by exact rfl)
    (hf : f.reg = PRT_ERR := by exact rfl) : Keeps F s₀ (s.refuseLoad slot f) := by
  have hr : F.Covers [] [PRT_STAT] := hF.sub
  unfold State.refuseLoad
  exact ((h.under_prtFlag hF.sub hf).wr hr).wr hr

/-- What a load that starts may change. -/
def loadParts : List Part := .slots :: flagParts ++ doneParts
/-- The registers that it may change. -/
def loadRegs : List Reg := PRT_SHORT1 :: PRT_SHORT2 :: refusedRegs ++ doneRegs

theorem Keeps.under_startLoad (h : Keeps F s₀ s) {slot : Nat} {m : Manifest} (hF : F.Covers loadParts loadRegs := by exact rfl) :
    Keeps F s₀ (s.startLoad slot m) := by
  have hr : F.Covers [] [PRT_STAT] := hF.sub
  have h1 : F.Covers [] [PRT_SHORT1] := hF.sub
  have h2 : F.Covers [] [PRT_SHORT2] := hF.sub
  unfold State.startLoad
  dsimp only
  refine .ite (((h.wr h1).wr h2).under_refuseLoad hF.sub) ?_
  have hm (f : ModelSlot → ModelSlot) : Keeps F s₀ (s.modSlot slot f) := h.under_modSlot hF.sub
  refine Keeps.under_loadDone (.foldl (.wr (.wr (.wr (.ite ((hm _).under_setSlState hF.sub) (hm _)) hr) hr) hr) fun _ _ h => ?_) hF.sub
  exact h.send hF.sub

/-- What MODEL_LOAD may change. -/
def modelLoadParts : List Part := adminParts ++ loadParts
/-- The registers that it may change. -/
def modelLoadRegs : List Reg := adminRegs ++ loadRegs

theorem Keeps.under_execModelLoad (h : Keeps F s₀ s) {who : Who} {slot : Nat} {hdr sects body : List Byte}
    (hF : F.Covers modelLoadParts modelLoadRegs := by exact rfl) : Answers F s₀ (Machine.execModelLoad who slot hdr sects body s) := by
  unfold Machine.execModelLoad
  refine .next (h.under_adminWrite (fun t h => .ite h (.ite (h.under_prtFlag hF.sub) ?_)) hF.sub)
  have hs (o : Out) : Keeps F s₀ (t.send o) := h.send hF.sub
  have hrefuse (o : Out) {f : RField} (hf : f.reg = PRT_ERR) : Keeps F s₀ ((t.send o).refuseLoad slot f) := (hs o).under_refuseLoad hF.sub hf
  have hstart (o : Out) (m : Manifest) : Keeps F s₀ ((t.send o).startLoad slot m) := (hs o).under_startLoad hF.sub
  refine .ite (hrefuse _ rfl) (Keeps.raise (.ite (hrefuse _ rfl) (.ite (hrefuse _ rfl) (.ite (hstart ..) ?_))) hF.sub)
  split
  · exact .ite (.ite (hrefuse _ rfl) (.ite (hrefuse _ rfl) (hstart ..))) (hrefuse _ rfl)
  · exact hrefuse _ rfl

/-! ### SHARD_ARRIVAL (R201, R214, R215) -/

/-- What an arrival may change. -/
def arrivalParts : List Part := .warden :: .cal :: failedParts
/-- The registers that it may change. -/
def arrivalRegs : List Reg := [EVC_CLK_STAT, CAL_STAT, CAL_STALL_STAT, MEM_STAT, MEM_UNIT_STAT] ++ dmaRegs ++ failedRegs ++ doneRegs

theorem Keeps.under_execShardArrival (h : Keeps F s₀ s) {slot gen shard : Nat} {addr : Option Nat} {data : List Byte} {readable ats : Bool}
    (hF : F.Covers arrivalParts arrivalRegs := by exact rfl) :
    Answers F s₀ (Machine.execShardArrival slot gen shard addr data readable ats s) := by
  unfold Machine.execShardArrival
  split
  · exact .next h
  · split
    · exact .next h
    · refine .ite (.next h) ?_
      extract_lets read s1
      have hsq : Keeps F s₀ s.squareRuns := h.squareRuns hF.sub
      have h1 : Keeps F s₀ s1 := hsq.elim fun _ => hsq.send hF.sub
      split
      · refine .next (.raise (.under_loadDone (.under_queueUncal (.under_unfence hF.sub ?_) hF.sub) hF.sub) hF.sub)
        exact ((h1.under_modShard hF.sub).under_showLeft hF.sub).under_touchGrans hF.sub
      · exact .next (.under_loadDone (.under_shardFailed (.ite (h1.raise hF.sub) (h1.under_dmaFail hF.sub)) hF.sub) hF.sub)

/-! ### Slot states (R208 to R210, R217) -/

theorem Keeps.under_execSlotReady (h : Keeps F s₀ s) {slot : Nat} (hF : F.Covers [.slots] [PRT_MODEL_STAT] := by exact rfl) :
    Answers F s₀ (Machine.execSlotReady slot s) := by
  unfold Machine.execSlotReady
  have hm (f : ModelSlot → ModelSlot) : Keeps F s₀ (s.modSlot slot f) := h.under_modSlot hF.sub
  split
  · exact .next h
  · exact .ite (.ite (.next ((hm _).under_setSlState hF.sub)) (.ite (.next (hm _)) (.next h))) (.next h)

theorem Keeps.under_unloadAdapter (h : Keeps F s₀ s) {a slot : Nat} (hF : F.Covers [.adapters] [] := by exact rfl) :
    Keeps F s₀ (s.unloadAdapter a slot) := by
  unfold State.unloadAdapter State.setAdapter
  exact h.only [.adapters] hF

/-- What MODEL_UNLOAD may change. -/
def unloadParts : List Part := adminParts ++ functionParts
/-- The registers that it may change. -/
def unloadRegs : List Reg := PRT_STAT :: PRT_MODEL_STAT :: adminRegs ++ paceRegs

theorem Keeps.under_execModelUnload (h : Keeps F s₀ s) {who : Who} {slot : Nat} (hF : F.Covers unloadParts unloadRegs := by exact rfl) :
    Answers F s₀ (Machine.execModelUnload who slot s) := by
  have hr : F.Covers [] [PRT_STAT] := hF.sub
  unfold Machine.execModelUnload
  refine .next (h.under_adminWrite (fun _ h => .ite h ?_) hF.sub)
  extract_lets s1 s2 s3 s4 s5
  have h1 : Keeps F s₀ s1 := ((h.under_setSlState hF.sub).under_modSlot hF.sub).foldl fun _ _ h => h.under_endTiles hF.sub
  have h2 : Keeps F s₀ s2 := .ite (h1.wr hr) h1
  have h3 : Keeps F s₀ s3 := h2.foldl fun _ _ h => h.under_cancelSeq hF.sub
  have h4 : Keeps F s₀ s4 := h3.foldl fun _ _ h => h.under_setTune_tuneBoundary hF.sub
  have h5 : Keeps F s₀ s5 := h4.foldl fun _ _ h => .ite (h.under_cancelPace hF.sub) h
  exact h5.foldl fun _ _ h => (h.under_unloadAdapter hF.sub).under_sweepAdapter hF.sub

theorem Keeps.under_execSlotRetired (h : Keeps F s₀ s) {slot : Nat}
    (hF : F.Covers [.groups, .slots] [PRT_MODEL_STAT, TAL_TILE_STAT] := by exact rfl) : Answers F s₀ (Machine.execSlotRetired slot s) := by
  unfold Machine.execSlotRetired
  exact .ite (.next (((h.under_setSlot hF.sub).under_setSlState hF.sub).foldl fun _ _ h => h.under_endTiles hF.sub)) (.next h)

theorem Keeps.under_execShardRefetch (h : Keeps F s₀ s) {who : Who} {slot shard : Nat}
    (hF : F.Covers (.slots :: adminParts) (PRT_STAT :: PRT_REFETCH_CNT :: adminRegs) := by exact rfl) :
    Answers F s₀ (Machine.execShardRefetch who slot shard s) := by
  have hb : F.Covers [] [PRT_REFETCH_CNT] := hF.sub
  unfold Machine.execShardRefetch
  refine .next (h.under_adminWrite (fun _ h => h.foldl fun _ _ h => ?_) hF.sub)
  exact ((((h.under_modSlot hF.sub).under_modShard hF.sub).under_showLeft hF.sub).bump hb).send hF.sub

theorem Keeps.under_execReleaseHeld (h : Keeps F s₀ s) {who : Who} {slot : Nat}
    (hF : F.Covers (.pendAt :: adminParts) (PRT_ERR :: PRT_MODEL_STAT :: raiseRegs ++ adminRegs) := by exact rfl) :
    Answers F s₀ (Machine.execReleaseHeld who slot s) := by
  unfold Machine.execReleaseHeld
  refine .next (h.under_adminWrite (fun t h => .ite h (.ite (h.under_prtFlag hF.sub) ?_)) hF.sub)
  have hs (n : Nat) : Keeps F s₀ (t.setSlState slot n) := h.under_setSlState hF.sub
  split
  · exact hs _
  · exact hs _
  · exact hs _

/-- What the check of a shard may change (R201, R213). -/
def shardCheckParts : List Part := .warden :: failedParts
/-- The registers that it may change. -/
def shardCheckRegs : List Reg := [EVC_CLK_STAT, PRT_SCRUB_BYTES, MEM_UE_CNT, MEM_TRAIN_CNT, MEM_ERR] ++ readRegs ++ failedRegs

theorem Keeps.under_execShardScrubDue (h : Keeps F s₀ s) {slot gen shard : Nat} {read : List Byte} {err : MemErr}
    (hF : F.Covers shardCheckParts shardCheckRegs := by exact rfl) : Answers F s₀ (Machine.execShardScrubDue slot gen shard read err s) := by
  have hb : F.Covers [] [PRT_SCRUB_BYTES] := hF.sub
  have hread : Keeps F s₀ (s.squareRuns.shardRead slot gen shard err) := (h.squareRuns hF.sub).under_shardRead hF.sub
  unfold Machine.execShardScrubDue
  split
  · exact .next h
  · dsimp only
    split
    · exact .next h
    · refine .ite ?_ (.next h)
      split
      · exact .next (hread.under_ledgerUE hF.sub)
      · exact .ite (.next (((hread.bump hb).under_modShard hF.sub).raise hF.sub))
          (.next (((hread.bump hb).under_shardFailed hF.sub).raise hF.sub))

/-! ### Fresh planes (R218, R219) -/

theorem Keeps.under_execPlaneLoadRequest (h : Keeps F s₀ s) {row stall : Nat} {owner : PlaneOwner} {idx which : Nat}
    (hF : F.Covers [.stalls] [] := by exact rfl) : Answers F s₀ (Machine.execPlaneLoadRequest row stall owner idx which s) := by
  unfold Machine.execPlaneLoadRequest
  exact .ite (.next (h.modStall hF)) (.next h)

theorem Keeps.under_startPlane (h : Keeps F s₀ s) {sid p tag : Nat} {e : Option PlaneSrc} {r : PlaneRam}
    (hF : F.Covers [.stalls] [STL_PLANE] := by exact rfl) : Keeps F s₀ (s.startPlane sid p tag e r) := (h.setPlane hF.sub).modStall hF.sub

/-- The registers that a plane load that begins may change: a shard or a page that it reads may fail (R214, R397). -/
def planeRegs : List Reg := STL_PLANE :: MEM_UE_CNT :: MEM_TRAIN_CNT :: MEM_ERR :: readRegs ++ failedRegs

section
variable (hF : F.Covers failedParts planeRegs) {next : State → State} (hnext : ∀ t, Keeps F s₀ t → Keeps F s₀ (next t))
include hF hnext

theorem Keeps.under_loadEntry (h : Keeps F s₀ s) {sid p tag slot gen idx : Nat} {err : MemErr} :
    Keeps F s₀ (s.loadEntry sid p tag slot gen idx err next) := by
  have hread (n : Nat) : Keeps F s₀ (s.shardRead slot gen n err) := h.under_shardRead hF.sub
  unfold State.loadEntry
  split
  · exact hnext _ h
  · refine .ite h ?_
    dsimp only
    split
    · exact (hread _).under_ledgerUE hF.sub
    · split
      · exact (hnext _ (hread _)).under_startPlane hF.sub
      · exact (hread _).under_shardFailed hF.sub

theorem Keeps.under_loadBlock (h : Keeps F s₀ s) {sid p tag q layer block which : Nat} {err : MemErr} :
    Keeps F s₀ (s.loadBlock sid p tag q layer block which err next) := by
  unfold State.loadBlock
  refine .ite (hnext _ h) ?_
  dsimp only
  have he : Keeps F s₀ (next (s.pageErrs (s.blockIds q layer block) err)) := hnext _ (h.under_pageErrs hF.sub)
  split
  · exact he.under_pageUE hF.sub
  · exact he.under_startPlane hF.sub

theorem Keeps.under_loadSource (h : Keeps F s₀ s) {sid p tag : Nat} {k : PlaneSrc} {err : MemErr} :
    Keeps F s₀ (s.loadSource sid p tag k err next) := by
  cases k with
  | stream => exact h.under_loadEntry hF hnext
  | attn => exact h.under_loadBlock hF hnext

end

theorem Keeps.under_loadPlane (h : Keeps F s₀ s) {sid p : Nat} {err : MemErr} (hF : F.Covers failedParts planeRegs := by exact rfl) :
    Keeps F s₀ (s.loadPlane sid p err) := by
  have hm {t : State} {f : Stall → Stall} (ht : Keeps F s₀ t) : Keeps F s₀ (t.modStall sid f) := ht.modStall hF.sub
  unfold State.loadPlane
  dsimp only
  split
  · split
    · exact (hm h).under_startPlane hF.sub
    · exact h.under_loadSource hF fun _ => hm
  · exact .ite (hm h) (h.under_loadSource hF fun _ => hm)
  · exact h

theorem Keeps.under_execPlaneLoadStart (h : Keeps F s₀ s) {row stall : Nat} {err : MemErr}
    (hF : F.Covers failedParts (STL_ERR :: planeRegs) := by exact rfl) : Answers F s₀ (Machine.execPlaneLoadStart row stall err s) := by
  have he : F.Covers [] [STL_ERR] := hF.sub
  unfold Machine.execPlaneLoadStart
  refine .ite (.next h) (.ite (.next h) ?_)
  split
  · exact .next (h.under_loadPlane hF.sub)
  · exact .next (.ite (h.flag he hF.sub) h)

theorem Keeps.under_execPlaneLoadDone (h : Keeps F s₀ s) {row stall plane : Nat}
    (hF : F.Covers [] [PRT_PLANE_LOAD_CNT, STL_PLANE] := by exact rfl) : Answers F s₀ (Machine.execPlaneLoadDone row stall plane s) := by
  unfold Machine.execPlaneLoadDone
  exact .ite (.next ((h.setPlane hF.sub).bump hF.sub)) (.next h)

end Sys2Proof.Machine
end

section
/-! PROOF. O43: the frame of the porter and key-value commands, each from the rules of the operations that it is made of. -/

namespace Sys2Proof.Machine

set_option Elab.async false

/-- Each command of the family answers a state that keeps all that its lists leave out. -/
theorem model_family_keeps {c : Instr} (hc : c.family = .model) (s : State) : Answers (Instr.footprint c) s (exec c s) := by
  have h (F : Footprint) : Keeps F s s := .refl F s
  cases c with
  | modelLoad => exact (h _).under_execModelLoad
  | modelUnload => exact (h _).under_execModelUnload
  | shardRefetch => exact (h _).under_execShardRefetch
  | releaseHeld => exact (h _).under_execReleaseHeld
  | shardArrival => exact (h _).under_execShardArrival
  | slotReady => exact (h _).under_execSlotReady
  | slotRetired => exact (h _).under_execSlotRetired
  | shardScrubDue => exact (h _).under_execShardScrubDue
  | planeLoadRequest => exact (h _).under_execPlaneLoadRequest
  | planeLoadStart => exact (h _).under_execPlaneLoadStart
  | planeLoadDone => exact (h _).under_execPlaneLoadDone
  | decodeAttention => exact (h _).under_execDecodeAttention
  | freshBlockMerge => exact (h _).under_execFreshBlockMerge
  | pageManagerChange => exact (h _).under_execPageManagerChange
  | parkSequence => exact (h _).under_execParkSequence
  | resumeSequence => exact (h _).under_execResumeSequence
  | kvSlotCfgWrite => exact (h _).under_execKvSlotCfgWrite
  | _ => cases hc

end Sys2Proof.Machine

namespace Sys2Proof

/-- Settles O43: each command of the family keeps all that its two lists leave out, operation by operation. -/
theorem modelCommandsKeepTheRest : Obligations.ModelCommandsKeepTheRest := fun _ s _ hc he =>
  ((Machine.model_family_keeps hc s).keeps he).framed

end Sys2Proof
end

section
/-! PROOF. O11, the page managers (R239 to R242): what a page and the lists that name it read as after a reference or a pin changes. -/

namespace Sys2Proof.Machine

set_option Elab.async false

variable {s t : State} {id j q : Nat}

/-! ### Pages -/

theorem State.page_congr (h : t.pages = s.pages) (id : Nat) : t.page id = s.page id := congrArg (FMap.get Page.init · id) h

theorem State.page_setPage_same (s : State) (id : Nat) (p : Page) : (s.setPage id p).page id = p := FMap.get_set_same s.pages id p

theorem State.page_setPage_ne (h : j ≠ id) (p : Page) : (s.setPage id p).page j = s.page j := FMap.get_set_ne h p

/-- A live page that neither a reference nor a pin holds (R241). -/
def Page.loose (p : Page) : Bool := p.live && p.ref == 0 && p.pin == 0

theorem Page.loose_iff (p : Page) : p.loose = true ↔ p.live = true ∧ p.ref = 0 ∧ p.pin = 0 := by
  simp only [Page.loose, Bool.and_eq_true, beq_iff_eq, and_assoc]

theorem Page.loose_iff_of_live {p : Page} (h : p.live = true) : p.loose = true ↔ p.ref = 0 ∧ p.pin = 0 := by
  simp only [p.loose_iff, h, true_and]

theorem State.sweepPage_held (h : (s.page id).loose = false) : s.sweepPage id = s :=
  if_neg (by simpa [Page.loose] using h)

theorem State.page_withMem (s : State) (m : MemState) (id : Nat) : ({ s with mem := m } : State).page id = s.page id := rfl

theorem State.sched_withMem (s : State) (m : MemState) : ({ s with mem := m } : State).sched = s.sched := rfl

theorem State.rd_withMem (s : State) (m : MemState) (F : RField) (i : Nat) : ({ s with mem := m } : State).rd F i = s.rd F i := rfl

/-- A page that nothing holds is let go, and counted (R241). -/
theorem State.sweepPage_loose (h : (s.page id).loose = true) :
    (s.sweepPage id).page id = Page.init ∧ (s.sweepPage id).rd KV_RELEASE_CNT.V = (s.rd KV_RELEASE_CNT.V + 1) % 2 ^ 64 := by
  unfold State.sweepPage
  rw [if_pos (by simpa [Page.loose] using h)]
  constructor
  · rw [State.page_withMem, State.page_congr (State.bump_pages _ _ _ _), State.page_setPage_same]
  · rw [State.rd_withMem, State.rd_bump_val _ rfl, State.rd_setPage]
    rfl

theorem State.page_sweepPage_ne (h : j ≠ id) : (s.sweepPage id).page j = s.page j := by
  unfold State.sweepPage
  dsimp only
  split
  · rw [State.page_withMem, State.page_congr (State.bump_pages _ _ _ _), State.page_setPage_ne h]
  · rfl

/-! ### A change at a page's manager -/

/-- The page as its manager holds it after a change: what the change makes of it, or, when nothing holds it then, no page. -/
theorem State.page_pageChange (s : State) (id : Nat) (f : Page → Page) :
    if (f (s.page id)).loose then
      (s.pageChange id f).page id = Page.init ∧ (s.pageChange id f).rd KV_RELEASE_CNT.V = (s.rd KV_RELEASE_CNT.V + 1) % 2 ^ 64
    else (s.pageChange id f).page id = f (s.page id) ∧ (s.pageChange id f).rd KV_RELEASE_CNT.V = s.rd KV_RELEASE_CNT.V := by
  have hset : ((s.pageArrival id).setPage id (f (s.page id))).page id = f (s.page id) := State.page_setPage_same ..
  have hrd : ((s.pageArrival id).setPage id (f (s.page id))).rd KV_RELEASE_CNT.V = s.rd KV_RELEASE_CNT.V := State.rd_of_regs rfl ..
  unfold State.pageChange
  split
  next h =>
    rw [← hrd]
    exact State.sweepPage_loose (by rwa [hset])
  next h =>
    rw [State.sweepPage_held (by rw [hset]; exact eq_false_of_ne_true h)]
    exact ⟨hset, hrd⟩

theorem State.page_pageChange_held {f : Page → Page} (h : (f (s.page id)).loose = false) : (s.pageChange id f).page id = f (s.page id) := by
  have := s.page_pageChange id f
  rw [if_neg (by simp [h])] at this
  exact this.1

theorem State.page_pageChange_ne (h : j ≠ id) (f : Page → Page) : (s.pageChange id f).page j = s.page j :=
  (State.page_sweepPage_ne h).trans (State.page_setPage_ne h _)

theorem State.sched_sweepPage (s : State) (id : Nat) : (s.sweepPage id).sched = s.sched := by
  unfold State.sweepPage
  dsimp only
  split
  · rw [State.sched_withMem, State.bump_sched, State.setPage_sched]
  · rfl

/-- The manager of the page's home quarter counts the change (R239). -/
theorem State.arrivals_pageChange (s : State) (id : Nat) (f : Page → Page) :
    FMap.get 0 (s.pageChange id f).sched.arrivals (s.page id).home = FMap.get 0 s.sched.arrivals (s.page id).home + 1 := by
  rw [State.pageChange, State.sched_sweepPage]
  exact FMap.get_set_same (d := 0) s.sched.arrivals (s.page id).home (FMap.get 0 s.sched.arrivals (s.page id).home + 1)

/-- What a page manager may change. -/
def Footprint.manager : Footprint := ⟨managerParts.contains, [KV_RELEASE_CNT].contains⟩

theorem State.keeps_pageChange (s : State) (id : Nat) (f : Page → Page) : Keeps .manager s (s.pageChange id f) := (Keeps.refl _ s).under_pageChange

/-! ### Lists that name a page -/

theorem State.page_setList (s : State) (q layer : Nat) (l : List Nat) (id : Nat) : (s.setList q layer l).page id = s.page id :=
  State.page_congr (State.setSeq_pages ..) id

theorem State.on_setList (s : State) (q layer : Nat) (l : List Nat) (F : RField) (i : Nat) : (s.setList q layer l).on F i = s.on F i :=
  State.on_setSeq s q _ F i

theorem State.rd_setList (s : State) (q layer : Nat) (l : List Nat) (F : RField) (i : Nat) : (s.setList q layer l).rd F i = s.rd F i :=
  State.rd_setSeq s q _ F i

theorem length_padTo {α : Type} (n : Nat) (d : α) (xs : List α) : (padTo n d xs).length = n := by
  simp only [padTo, List.length_take, List.length_append, List.length_replicate]
  omega

theorem State.lists_setList {layer : Nat} {l : List Nat} (h : layer < s.kvLayers (s.seq q).slot) :
    ((s.setList q layer l).seq q).lists.getD layer [] = l := by
  rw [State.setList, State.seq_modSeq_same]
  simp [List.getD, length_padTo, h]

theorem State.listOf_some {p : Page} {l : List Nat} (h : s.listOf q p = some l) : p.layer < s.kvLayers (s.seq q).slot ∧ l = (s.seq q).lists.getD p.layer [] := by
  unfold State.listOf at h
  dsimp only at h
  split at h
  next hc =>
    simp only [Bool.and_eq_true, decide_eq_true_eq] at hc
    exact ⟨hc.2, (Option.some.inj h).symm⟩
  · cases h

/-- A list is set where the sequence and its slot's shape are as they were. -/
theorem Keeps.lists_setList {F : Footprint} {p : Page} {l l' : List Nat} (h : Keeps F s t) (hl : s.listOf q p = some l)
    (hseqs : F.parts .seqs = false := by exact rfl) (hcfg : F.regs KV_SLOT_CFG = false := by exact rfl) :
    ((t.setList q p.layer l').seq q).lists.getD p.layer [] = l' := by
  refine State.lists_setList ?_
  rw [State.seq_congr (h.part .seqs hseqs), State.kvLayers, h.rd hcfg]
  exact (State.listOf_some hl).1

/-! ### References (R239, R241, R242) -/

/-- A reference falls. -/
def Page.refDown (p : Page) : Page := { p with ref := p.ref - 1 }

theorem State.refDown_eq (s : State) (id : Nat) : s.refDown id = s.pageChange id Page.refDown := rfl

theorem refUp_counts {l : List Nat} (hlive : (s.page id).live = true) (hl : s.listOf q (s.page id) = some l) (href : (s.page id).ref < 65535) :
    ∃ t, exec (.pageManagerChange id (.refUp q)) s = .next t ∧ t.page id = { s.page id with ref := (s.page id).ref + 1 } ∧
      (t.seq q).lists.getD (s.page id).layer [] = l ++ [id] ∧
      FMap.get 0 t.sched.arrivals (s.page id).home = FMap.get 0 s.sched.arrivals (s.page id).home + 1 := by
  have hshare : s.sharePage q id = some (id, s.refUp id) := if_pos href
  show ∃ t, execPageManagerChange id (.refUp q) s = .next t ∧ _
  unfold execPageManagerChange
  rw [if_neg (by simp [hlive])]
  dsimp only
  rw [hl, hshare]
  refine ⟨_, rfl, ?_, (s.keeps_pageChange id _).lists_setList hl, s.arrivals_pageChange id _⟩
  rw [State.page_setList]
  exact State.page_pageChange_held (by simp [Page.loose])

theorem refUp_saturates {l : List Nat} (hlive : (s.page id).live = true) (hl : s.listOf q (s.page id) = some l) (href : 65535 ≤ (s.page id).ref) :
    ∃ t, exec (.pageManagerChange id (.refUp q)) s = .next t ∧ t.on KV_ERR.REF_SAT = true ∧
      ∀ n s1, s.sharePage q id = some (n, s1) → (t.seq q).lists.getD (s.page id).layer [] = l ++ [n] := by
  have hshare : s.sharePage q id = (s.kvFlag KV_ERR.REF_SAT q (s.seq q).slot).copyPage id (s.seq q).func (s.seq q).home := if_neg (by omega)
  have hflag (slot : Nat) : (s.kvFlag KV_ERR.REF_SAT q slot).on KV_ERR.REF_SAT = true := State.on_flagAt_val _ rfl _ _
  show ∃ t, execPageManagerChange id (.refUp q) s = .next t ∧ _
  unfold execPageManagerChange
  rw [if_neg (by simp [hlive])]
  dsimp only
  rw [hl]
  dsimp only
  cases hs : s.sharePage q id with
  | none =>
    refine ⟨_, rfl, ?_, fun _ _ h => absurd h.symm (Option.some_ne_none _)⟩
    exact hflag _
  | some r =>
    obtain ⟨n, s1⟩ := r
    have h1 : Keeps ⟨shareParts.contains, shareRegs.contains⟩ s s1 := (Keeps.refl _ s).under_sharePage.of hs
    have hcopy : Keeps ⟨[.pages, .nextPage].contains, copyRegs.contains⟩ (s.kvFlag KV_ERR.REF_SAT q (s.seq q).slot) s1 :=
      (Keeps.refl _ _).under_copyPage.of (hshare.symm.trans hs)
    refine ⟨_, rfl, ?_, ?_⟩
    · rw [State.on_setList, hcopy.on]
      exact hflag _
    · rintro _ _ ⟨⟩
      exact h1.lists_setList hl

theorem refDown_falls {l : List Nat} (hlive : (s.page id).live = true) (hl : s.listOf q (s.page id) = some l) (hmem : l.contains id = true) :
    ∃ t, exec (.pageManagerChange id (.refDown q)) s = .next t ∧ (t.seq q).lists.getD (s.page id).layer [] = l.erase id ∧
      (if (s.page id).ref ≤ 1 ∧ (s.page id).pin = 0 then t.page id = Page.init ∧ t.rd KV_RELEASE_CNT.V = (s.rd KV_RELEASE_CNT.V + 1) % 2 ^ 64
       else t.page id = { s.page id with ref := (s.page id).ref - 1 } ∧ t.rd KV_RELEASE_CNT.V = s.rd KV_RELEASE_CNT.V) := by
  show ∃ t, execPageManagerChange id (.refDown q) s = .next t ∧ _
  unfold execPageManagerChange
  rw [if_neg (by simp [hlive])]
  dsimp only
  rw [hl]
  dsimp only
  rw [if_pos hmem]
  generalize hs1 : s.setList q (s.page id).layer (l.erase id) = s1
  have hpage : s1.page id = s.page id := hs1 ▸ s.page_setList ..
  have hcnt : s1.rd KV_RELEASE_CNT.V = s.rd KV_RELEASE_CNT.V := hs1 ▸ State.rd_setList ..
  refine ⟨_, rfl, ?_, ?_⟩
  · rw [State.refDown_eq, State.seq_congr ((s1.keeps_pageChange id _).part .seqs rfl), ← hs1]
    exact (Keeps.refl ⟨fun _ => false, fun _ => false⟩ s).lists_setList hl
  · have hloose : (s.page id).refDown.loose = true ↔ (s.page id).ref ≤ 1 ∧ (s.page id).pin = 0 :=
      (Page.loose_iff_of_live (p := (s.page id).refDown) hlive).trans (and_congr_left' Nat.sub_eq_zero_iff_le)
    have h := s1.page_pageChange id Page.refDown
    rw [hpage, hcnt] at h
    simp only [hloose] at h
    exact h

/-! ### Pins (R242) -/

/-- A pin is taken, or waits past the limit. -/
def Page.pinUp (p : Page) : Page := if p.pin < 65535 then { p with pin := p.pin + 1 } else { p with pinWait := p.pinWait + 1 }

/-- A pin drops, or one that waited takes its place. -/
def Page.pinDown (p : Page) : Page := if p.pinWait = 0 then { p with pin := p.pin - 1 } else { p with pinWait := p.pinWait - 1 }

theorem State.pinUp_eq (s : State) (id : Nat) : s.pinUp id = s.pageChange id Page.pinUp := rfl

theorem State.pinDown_eq (s : State) (id : Nat) : s.pinDown id = s.pageChange id Page.pinDown := rfl

/-- A page just pinned is held. -/
theorem Page.loose_pinUp (p : Page) : p.pinUp.loose = false := by
  rw [← Bool.not_eq_true, Page.loose_iff]
  unfold Page.pinUp
  split
  · simp
  · simp only
    omega

/-- A page that is referenced is held. -/
theorem Page.loose_of_ref {p : Page} (h : 1 ≤ p.ref) : p.loose = false := by
  rw [← Bool.not_eq_true, Page.loose_iff]
  omega

theorem pinUp_counts (hlive : (s.page id).live = true) (hpin : (s.page id).pin < 65535) :
    ∃ t, exec (.pageManagerChange id .pinUp) s = .next t ∧ t.page id = { s.page id with pin := (s.page id).pin + 1 } := by
  show ∃ t, execPageManagerChange id .pinUp s = .next t ∧ _
  unfold execPageManagerChange
  rw [if_neg (by simp [hlive])]
  dsimp only
  rw [if_pos hpin]
  exact ⟨_, rfl, (State.page_pageChange_held (Page.loose_pinUp _)).trans (if_pos hpin)⟩

theorem pinUp_waits (hlive : (s.page id).live = true) (hpin : 65535 ≤ (s.page id).pin) :
    ∃ t, exec (.pageManagerChange id .pinUp) s = .next t ∧ t.on KV_ERR.PIN_SAT = true ∧
      t.page id = { s.page id with pinWait := (s.page id).pinWait + 1 } := by
  show ∃ t, execPageManagerChange id .pinUp s = .next t ∧ _
  unfold execPageManagerChange
  rw [if_neg (by simp [hlive])]
  dsimp only
  rw [if_neg (by omega)]
  generalize hs1 : s.kvFlag KV_ERR.PIN_SAT 0 (s.page id).slot = s1
  have hpage : s1.page id = s.page id := hs1 ▸ State.page_congr (State.flagAt_pages ..) id
  have hsat : s1.on KV_ERR.PIN_SAT = true := hs1 ▸ State.on_flagAt_val _ rfl _ _
  refine ⟨_, rfl, (s1.keeps_pageChange id _).on.trans hsat, ?_⟩
  rw [State.pinUp_eq, State.page_pageChange_held (Page.loose_pinUp _), hpage, Page.pinUp, if_neg (by omega)]

theorem exec_pinDown (hlive : (s.page id).live = true) : exec (.pageManagerChange id .pinDown) s = .next (s.pinDown id) := by
  show execPageManagerChange id .pinDown s = _
  unfold execPageManagerChange
  rw [if_neg (by simp [hlive])]

theorem pinDown_admits (hlive : (s.page id).live = true) (hwait : (s.page id).pinWait ≠ 0) (hpin : 0 < (s.page id).pin) :
    ∃ t, exec (.pageManagerChange id .pinDown) s = .next t ∧ t.page id = { s.page id with pinWait := (s.page id).pinWait - 1 } := by
  have hdown : (s.page id).pinDown = { s.page id with pinWait := (s.page id).pinWait - 1 } := if_neg hwait
  have hheld : (s.page id).pinDown.loose = false := by
    rw [← Bool.not_eq_true, Page.loose_iff, hdown]
    simp only
    omega
  exact ⟨_, exec_pinDown hlive, (State.page_pageChange_held hheld).trans hdown⟩

theorem pinDown_falls (hlive : (s.page id).live = true) (hwait : (s.page id).pinWait = 0) :
    ∃ t, exec (.pageManagerChange id .pinDown) s = .next t ∧
      (if (s.page id).ref = 0 ∧ (s.page id).pin ≤ 1 then t.page id = Page.init ∧ t.rd KV_RELEASE_CNT.V = (s.rd KV_RELEASE_CNT.V + 1) % 2 ^ 64
       else t.page id = { s.page id with pin := (s.page id).pin - 1 } ∧ t.rd KV_RELEASE_CNT.V = s.rd KV_RELEASE_CNT.V) := by
  have hdown : (s.page id).pinDown = { s.page id with pin := (s.page id).pin - 1 } := if_pos hwait
  have hloose : (s.page id).pinDown.loose = true ↔ (s.page id).ref = 0 ∧ (s.page id).pin ≤ 1 := by
    rw [hdown, Page.loose_iff_of_live]
    · exact and_congr_right' Nat.sub_eq_zero_iff_le
    · exact hlive
  have h := s.page_pageChange id Page.pinDown
  simp only [hloose] at h
  rw [hdown] at h
  exact ⟨_, exec_pinDown hlive, h⟩

end Sys2Proof.Machine
end

section
/-! PROOF. O11, attention (R230, R239, R258): a read pins its pages and lets them go as they were, and a flag of a weigh house sends nothing. -/

namespace Sys2Proof.Machine

set_option Elab.async false

variable {F : Footprint} {s₀ s t : State} {q layer pos : Nat}

/-! ### Pages that are pinned and let go (R239, R242) -/

/-- No pin waits while one could be taken (R242). -/
def Page.pinsOk (p : Page) : Prop := p.pin < 65535 → p.pinWait = 0

theorem Page.pinsOk_pinUp {p : Page} (h : p.pinsOk) : p.pinUp.pinsOk := by
  unfold Page.pinUp
  split
  next hp => exact fun _ => h hp
  next hp => exact fun hlt => absurd hlt hp

/-- A pin that drops undoes one that was taken. -/
theorem Page.pinDown_pinUp {p : Page} (h : p.pinsOk) : p.pinUp.pinDown = p := by
  unfold Page.pinUp
  split
  next hp => exact if_pos (h hp)
  next => exact if_neg (Nat.succ_ne_zero _)

theorem Page.ref_pinUp (p : Page) : p.pinUp.ref = p.ref := by
  unfold Page.pinUp
  split <;> rfl

theorem Page.ref_pinDown (p : Page) : p.pinDown.ref = p.ref := by
  unfold Page.pinDown
  split <;> rfl

theorem Page.ref_iterate_pinUp (n : Nat) (p : Page) : (Page.pinUp^[n] p).ref = p.ref := by
  induction n with
  | zero => rfl
  | succ n ih => rw [Function.iterate_succ_apply', Page.ref_pinUp, ih]

theorem Page.iterate_pinDown_pinUp {p : Page} (h : p.pinsOk) (n : Nat) : Page.pinDown^[n] (Page.pinUp^[n] p) = p := by
  have hok (k : Nat) : (Page.pinUp^[k] p).pinsOk := by
    induction k with
    | zero => exact h
    | succ k ih => exact Function.iterate_succ_apply' Page.pinUp k p ▸ Page.pinsOk_pinUp ih
  induction n with
  | zero => rfl
  | succ n ih => rw [Function.iterate_succ_apply, Function.iterate_succ_apply', Page.pinDown_pinUp (hok n), ih]

/-- Pins over a list: each page takes as many as it is named. -/
theorem State.page_pinUps (l : List Nat) (s : State) (id : Nat) : (l.foldl State.pinUp s).page id = Page.pinUp^[l.count id] (s.page id) := by
  induction l generalizing s with
  | nil => rfl
  | cons a l ih =>
    rw [List.foldl_cons, ih, State.pinUp_eq]
    by_cases h : id = a
    · subst h
      rw [State.page_pageChange_held (Page.loose_pinUp _), List.count_cons_self, Function.iterate_succ_apply]
    · rw [State.page_pageChange_ne h, List.count_cons_of_ne (Ne.symm h)]

/-- The same of pins that drop, where every page named is referenced. -/
theorem State.page_pinDowns (l : List Nat) (s : State) (href : ∀ id ∈ l, 1 ≤ (s.page id).ref) (id : Nat) :
    (l.foldl State.pinDown s).page id = Page.pinDown^[l.count id] (s.page id) := by
  induction l generalizing s with
  | nil => rfl
  | cons a l ih =>
    have ha : (s.pinDown a).page a = (s.page a).pinDown :=
      State.page_pageChange_held (Page.loose_of_ref ((Page.ref_pinDown _).symm ▸ href a List.mem_cons_self))
    have hne {j : Nat} (h : j ≠ a) : (s.pinDown a).page j = s.page j := State.page_pageChange_ne h _
    have href' (j : Nat) (hj : j ∈ l) : 1 ≤ ((s.pinDown a).page j).ref := by
      by_cases h : j = a
      · rw [h, ha, Page.ref_pinDown]
        exact href a List.mem_cons_self
      · rw [hne h]
        exact href j (List.mem_cons_of_mem a hj)
    rw [List.foldl_cons, ih _ href']
    by_cases h : id = a
    · subst h
      rw [ha, List.count_cons_self, Function.iterate_succ_apply]
    · rw [hne h, List.count_cons_of_ne (Ne.symm h)]

/-- The pages that a read names in a list. -/
def PageUse.named (u : PageUse) (ids : List Nat) : List Nat := u.all.filterMap fun i => ids[i]?

theorem PageUse.mem_of_named {u : PageUse} {ids : List Nat} {id : Nat} (h : id ∈ u.named ids) : id ∈ ids := by
  obtain ⟨i, -, hi⟩ := List.mem_filterMap.1 h
  exact List.mem_of_getElem? hi

/-- A page that attention may read: sound, referenced, not pinned to the limit, and of a format that stands (R242, R266, R397). -/
def Page.readable (p : Page) : Prop := p.bad = [] ∧ 1 ≤ p.ref ∧ p.pin < 65535 ∧ p.pinWait = 0 ∧ pageCodeOk p.format = true

/-- Reads leave every page as it was (R239). -/
theorem State.page_pinReads {ids : List Nat} (h : ∀ id ∈ ids, (s.page id).readable) (u : PageUse) (id : Nat) : (s.pinReads ids u).page id = s.page id := by
  have hnamed {j : Nat} (hj : j ∈ u.named ids) : (s.page j).readable := h j (PageUse.mem_of_named hj)
  have href (j : Nat) (hj : j ∈ u.named ids) : 1 ≤ (((u.named ids).foldl State.pinUp s).page j).ref := by
    obtain ⟨-, href, -⟩ := hnamed hj
    rwa [State.page_pinUps, Page.ref_iterate_pinUp]
  show ((u.named ids).foldl State.pinDown ((u.named ids).foldl State.pinUp s)).page id = _
  rw [State.page_pinDowns _ _ href, State.page_pinUps]
  by_cases hj : id ∈ u.named ids
  · obtain ⟨-, -, -, hwait, -⟩ := hnamed hj
    exact Page.iterate_pinDown_pinUp (fun _ => hwait) _
  · rw [List.count_eq_zero_of_not_mem hj]
    rfl

/-! ### Flags that send nothing (R379, R437) -/

/-- A flag of a weigh house or of the key-value block raises the source of its block alone: nothing is sent. -/
theorem Keeps.quietFlagAt (h : Keeps F s₀ s) {f : RField} {i : Nat} {l : List (RField × Nat)} (hb : f.reg.blk = .wh ∨ f.reg.blk = .kv)
    (hl : (l.map fun p => p.1.reg) = l.map fun _ => f.reg) (hF : F.Covers [.pendAt] (f.reg :: raiseRegs)) : Keeps F s₀ (s.flagAt f i l) := by
  have hr : F.Covers [] [f.reg] := hF.sub (by simp)
  have hraise : F.Covers [.pendAt] raiseRegs := hF.sub (by simp [raiseRegs])
  have hw : Keeps F s₀ (l.foldl (fun s p => s.wr p.1 i p.2) s) := by
    have hl' (p : RField × Nat) (hp : p ∈ l) : p.1.reg = f.reg := List.map_inj_left.1 hl p hp
    clear hl
    induction l generalizing s with
    | nil => exact h
    | cons p l ih =>
      refine ih (h.wr ?_) fun r hm => hl' r (List.mem_cons_of_mem p hm)
      rw [hl' p List.mem_cons_self]
      exact hr
  unfold State.flagAt State.flag State.flagEvent
  refine .ite hw ?_
  rcases hb with hb | hb <;> simp only [hb] <;> exact (hw.wr hr).raise hraise

theorem Keeps.quietWhFlag (h : Keeps F s₀ s) {f : RField} {house : Nat} (hF : F.Covers [.pendAt] (WH_ERR :: raiseRegs) := by exact rfl)
    (hf : f.reg = WH_ERR := by exact rfl) : Keeps F s₀ (s.whFlag f house q) := h.quietFlagAt (.inl (hf ▸ rfl)) (by simp [hf]; rfl) (hf ▸ hF)

/-! ### Attention that nothing stops (R245, R266, R397) -/

theorem State.badPage_none {ids : List Nat} (h : ∀ id ∈ ids, (s.page id).bad = []) : s.badPage ids = none := by
  simp only [State.badPage, List.findSome?_eq_none_iff]
  intro id hid
  rw [h id hid]
  rfl

theorem State.attnStop_none {ids : List Nat} {u : PageUse} {narrow : Nat → Bool} (h : ∀ id ∈ ids, (s.page id).readable)
    (hstrict : s.strictSeq (s.seq q) = false ∨ u.reads narrow = 0) : s.attnStop q ids u narrow none = none := by
  have hnamed {j : Nat} (hj : j ∈ u.named ids) : (s.page j).readable := h j (PageUse.mem_of_named hj)
  have hbad : s.badPage (u.named ids) = none := State.badPage_none fun j hj => (hnamed hj).1
  have hpin : ((u.named ids).any fun id => decide (65535 ≤ (s.page id).pin)) = false := by
    refine List.any_eq_false.2 fun j hj => ?_
    obtain ⟨-, -, hpin, -⟩ := hnamed hj
    simpa using hpin
  have hformat : ((u.named ids).any fun id => !pageCodeOk (s.page id).format) = false := by
    refine List.any_eq_false.2 fun j hj => ?_
    obtain ⟨-, -, -, -, hcode⟩ := hnamed hj
    simp [hcode]
  have hnarrow : (s.strictSeq (s.seq q) && decide (0 < u.reads narrow)) = false := by
    rcases hstrict with h | h <;> simp [h]
  unfold State.attnStop
  simp only [PageUse.named] at hbad hpin hformat
  simp [hbad, hpin, hformat, hnarrow]

theorem PageUse.reads_none (u : PageUse) {p : Nat → Bool} (h : ∀ i, p i = false) : u.reads p = 0 := by
  simp [PageUse.reads, h]

/-- No page of a list is narrow where each is as wide as the query (R245). -/
theorem State.narrowPage_false {x : Seq} {ids : List Nat}
    (h : ∀ id ∈ ids, queryBits (s.rd KV_SLOT_CFG.QFMT x.slot) ≤ pageBits (s.page id).format) (i : Nat) : s.narrowPage x (ids.map s.page) i = false := by
  unfold State.narrowPage
  by_cases hi : i < ids.length
  · have hwide := h _ (List.getElem_mem hi)
    simp [List.getD, hi, hwide]
  · simp [List.getD, hi, Page.init]

/-! ### DECODE_ATTENTION (R230, R261) -/

/-- What a weigh house may change once it has counted its reads. -/
def Footprint.house : Footprint := ⟨[.pendAt].contains, (WH_ERR :: WH_STATS_SAVE_CNT :: raiseRegs).contains⟩

/-- The counters of reads alone. -/
def Footprint.counts : Footprint := ⟨fun _ => false, countRegs.contains⟩

theorem State.keeps_pinReads (s : State) (ids : List Nat) (u : PageUse) : Keeps .manager s (s.pinReads ids u) := (Keeps.refl _ s).under_pinReads

theorem State.keeps_countReads (s : State) (x : Seq) (pos hq : Nat) (held pages : List Page) (u : PageUse) (narrow : Nat → Bool) :
    Keeps .counts s (s.countReads x pos hq held pages u narrow) := (Keeps.refl _ s).under_countReads

theorem State.rd_countReads (s : State) (x : Seq) (pos hq : Nat) (held pages : List Page) (u : PageUse) (narrow : Nat → Bool) :
    (s.countReads x pos hq held pages u narrow).rd WH_DEC_CNT.V (s.attnHouse x) =
      (s.rd WH_DEC_CNT.V (s.attnHouse x) + ofBool (!x.prefill)) % 2 ^ 64 := by
  unfold State.countReads
  dsimp only
  rw [State.rd_bump_free _ rfl, State.rd_bump_free _ rfl, State.rd_bump_free _ rfl, State.rd_bump_free _ rfl, State.rd_bump_val _ rfl]
  rfl

theorem Keeps.attnHouse (h : Keeps F s t) (x : Seq) (hF : F.regs WH_CTL = false := by exact rfl) : t.attnHouse x = s.attnHouse x := by
  simp only [State.attnHouse, State.preHouse, h.on (f := WH_CTL.DEC_ONLY) hF]

theorem State.attend_completes {query key value : List Word32} (hread : ∀ id ∈ ((s.seq q).lists.getD layer []).take (pos / 64 + 1), (s.page id).readable)
    (hstrict : s.strictSeq (s.seq q) = false ∨ ∀ id ∈ ((s.seq q).lists.getD layer []).take (pos / 64 + 1),
      queryBits (s.rd KV_SLOT_CFG.QFMT (s.seq q).slot) ≤ pageBits (s.page id).format) :
    ∃ t out, s.attend q layer pos query key value MemErr.none = t ∧
      (t.seq q).staged = ((s.seq q).staged.filter fun x => !(x.layer == layer && x.pos == pos)) ++ [⟨layer, pos, key, value⟩] ∧
      t.outbox = s.outbox ++ [.attention (s.attnHouse (s.seq q)) q layer pos out] ∧ (∀ id, t.page id = s.page id) ∧
      t.rd WH_DEC_CNT.V (s.attnHouse (s.seq q)) = (s.rd WH_DEC_CNT.V (s.attnHouse (s.seq q)) + ofBool (!(s.seq q).prefill)) % 2 ^ 64 := by
  generalize ht : s.attend q layer pos query key value MemErr.none = t
  unfold State.attend at ht
  extract_lets +onlyGivenNames x qfmt hk hq ids held own pages u narrow s' at ht
  have hstop : s'.attnStop q ids u narrow MemErr.none.ue = none :=
    State.attnStop_none (s := s) hread (hstrict.imp_right fun h => u.reads_none (State.narrowPage_false h))
  rw [hstop] at ht
  dsimp -zeta only at ht
  extract_lets wh row states bad out saved _ s1 s2 s3 s4 at ht
  subst ht
  obtain ⟨y, hstaged, hs1⟩ : ∃ y : Seq, y.staged = (x.staged.filter fun t => !(t.layer == layer && t.pos == pos)) ++ [own] ∧
      s1 = (s.setSeq q y).pinReads ids u := ⟨_, rfl, rfl⟩
  have h1 : Keeps .manager (s.setSeq q y) s1 := hs1 ▸ State.keeps_pinReads ..
  have h2 : Keeps .counts s1 s2 := State.keeps_countReads ..
  have h3 : Keeps .house s2 s3 := .ite (Keeps.refl _ s2).bump (Keeps.refl _ s2)
  have h4 : Keeps .house s2 s4 := .ite h3.quietWhFlag h3
  have hwh : s1.attnHouse x = wh := h1.attnHouse x
  refine ⟨_, out, rfl, ?_, ?_, fun id => ?_, ?_⟩
  · have hseqs : (s4.send (.attention wh q layer pos out)).seqs = (s.setSeq q y).seqs :=
      (State.send_seqs ..).trans ((h4.part .seqs rfl).trans ((h2.part .seqs rfl).trans (h1.part .seqs rfl)))
    rw [State.seq_congr hseqs, State.seq_setSeq_same, hstaged]
  · have hout : s4.outbox = s.outbox := (h4.part .outbox rfl).trans ((h2.part .outbox rfl).trans (h1.part .outbox rfl))
    rw [State.outbox_send, hout]
    rfl
  · have hpages : (s4.send (.attention wh q layer pos out)).pages = s1.pages :=
      (State.send_pages ..).trans ((h4.part .pages rfl).trans (h2.part .pages rfl))
    rw [State.page_congr hpages, hs1]
    exact State.page_pinReads (s := s.setSeq q y) hread u id
  · have hdec : s2.rd WH_DEC_CNT.V wh = (s1.rd WH_DEC_CNT.V wh + ofBool (!x.prefill)) % 2 ^ 64 := hwh ▸ s1.rd_countReads ..
    rw [State.rd_send, h4.rd]
    refine hdec.trans ?_
    rw [h1.rd, State.rd_setSeq]
    rfl

end Sys2Proof.Machine
end

section
/-! PROOF. O11, the three attention commands (R230, R239, R258). -/

namespace Sys2Proof.Machine

set_option Elab.async false

variable {F : Footprint} {s₀ s t : State} {q layer pos : Nat}

/-- The gradients of attention are answered, and pages and sequences are as they were. -/
theorem State.attendBack_completes {query dO : List Word32}
    (hread : ∀ id ∈ ((s.seq q).lists.getD layer []).take (pos / 64 + 1), (s.page id).readable) (hstrict : s.strictSeq (s.seq q) = false) :
    ∃ t dq dkv, s.attendBack q layer pos query dO MemErr.none = t ∧
      t.outbox = s.outbox ++ [.attnGrad (s.attnHouse (s.seq q)) q layer pos dq dkv] ∧ t.seq q = s.seq q ∧ (∀ id, t.page id = s.page id) := by
  generalize ht : s.attendBack q layer pos query dO MemErr.none = t
  unfold State.attendBack at ht
  extract_lets +onlyGivenNames x qfmt hk hq ids held pages u narrow s' at ht
  have hstop : s'.attnStop q ids u narrow MemErr.none.ue = none := State.attnStop_none (s := s) hread (.inl hstrict)
  rw [hstop] at ht
  dsimp -zeta only at ht
  extract_lets toks heads wh s1 at ht
  obtain ⟨dq, dkv, rfl⟩ : ∃ dq dkv, t = (s1.bump KV_NARROW_READ_CNT.V 0 (u.reads narrow)).send (.attnGrad wh q layer pos dq dkv) := ⟨_, _, ht.symm⟩
  have hpin : Keeps .manager s (s.pinReads ids u) := s.keeps_pinReads ids u
  have hbump : Keeps .counts (s.pinReads ids u) (s1.bump KV_NARROW_READ_CNT.V 0 (u.reads narrow)) := (Keeps.refl _ _).bump.bump
  refine ⟨_, dq, dkv, rfl, ?_, ?_, fun id => ?_⟩
  · rw [State.outbox_send, hbump.part .outbox rfl, hpin.part .outbox rfl]
    rfl
  · exact State.seq_congr ((State.send_seqs ..).trans ((hbump.part .seqs rfl).trans (hpin.part .seqs rfl))) q
  · rw [State.page_congr ((State.send_pages ..).trans (hbump.part .pages rfl))]
    exact State.page_pinReads hread u id

/-- With nothing met on the way, DECODE_ATTENTION is its attention (R26, R228). -/
theorem exec_decodeAttention {query key value : List Word32} (hlive : (s.seq q).live = true) (hlayer : layer < s.kvLayers (s.seq q).slot)
    (hhouse : s.rd WH_STAT.STATE (s.attnHouse (s.seq q)) ≠ 3) (hawake : s.houseAsleep (s.seq q).wh = false) (back : Option (List Word32)) :
    exec (.decodeAttention q layer pos query key value ⟨MemErr.none, [], [], back⟩) s = match back with
      | some dO => if !((s.seq q).job.isSome && decide (pos < max (s.seq q).pos ((s.seq q).first + (s.seq q).width))) then .next s
          else .next (s.attendBack q layer pos query dO MemErr.none)
      | none => if !((s.seq q).phase == .running && decide ((s.seq q).first ≤ pos) && decide (pos < (s.seq q).first + (s.seq q).width)) then .next s
          else .next (s.attend q layer pos query key value MemErr.none) := by
  show execDecodeAttention q layer pos query key value ⟨MemErr.none, [], [], back⟩ s = _
  unfold execDecodeAttention
  simp only [List.foldl_nil, ite_self]
  rw [if_neg (by simp [hlive, hlayer, hhouse]), if_neg (by simp [hawake])]
  cases back <;> simp

theorem decodeAttention_stages {query key value : List Word32} (hlive : (s.seq q).live = true) (hphase : (s.seq q).phase = .running)
    (hfirst : (s.seq q).first ≤ pos) (hpos : pos < (s.seq q).first + (s.seq q).width) (hlayer : layer < s.kvLayers (s.seq q).slot)
    (hhouse : s.rd WH_STAT.STATE (s.attnHouse (s.seq q)) ≠ 3) (hawake : s.houseAsleep (s.seq q).wh = false)
    (hread : ∀ id ∈ ((s.seq q).lists.getD layer []).take (pos / 64 + 1), (s.page id).readable)
    (hwide : (∀ g, s.genOf (s.seq q).slot (s.seq q).gen = some g → g.man.kvStrict = false) ∨
      ∀ id ∈ ((s.seq q).lists.getD layer []).take (pos / 64 + 1), queryBits (s.rd KV_SLOT_CFG.QFMT (s.seq q).slot) ≤ pageBits (s.page id).format) :
    ∃ t out, exec (.decodeAttention q layer pos query key value ⟨MemErr.none, [], [], none⟩) s = .next t ∧
      (t.seq q).staged = ((s.seq q).staged.filter fun x => !(x.layer == layer && x.pos == pos)) ++ [⟨layer, pos, key, value⟩] ∧
      t.outbox = s.outbox ++ [.attention (s.attnHouse (s.seq q)) q layer pos out] ∧ (∀ id, t.page id = s.page id) ∧
      t.rd WH_DEC_CNT.V (s.attnHouse (s.seq q)) = (s.rd WH_DEC_CNT.V (s.attnHouse (s.seq q)) + ofBool (!(s.seq q).prefill)) % 2 ^ 64 := by
  have hstrict (h : ∀ g, s.genOf (s.seq q).slot (s.seq q).gen = some g → g.man.kvStrict = false) : s.strictSeq (s.seq q) = false := by
    unfold State.strictSeq
    cases hg : s.genOf (s.seq q).slot (s.seq q).gen with
    | none => rfl
    | some g => exact h g hg
  obtain ⟨t, out, ht, hdone⟩ := State.attend_completes (query := query) (key := key) (value := value) hread (hwide.imp_left hstrict)
  refine ⟨t, out, ?_, hdone⟩
  rw [exec_decodeAttention hlive hlayer hhouse hawake, ← ht]
  exact if_neg (by simp [hphase, hfirst, hpos])

theorem decodeAttention_gradients {query key value dO : List Word32} (hlive : (s.seq q).live = true) (hjob : (s.seq q).job.isSome = true)
    (hpos : pos < max (s.seq q).pos ((s.seq q).first + (s.seq q).width)) (hlayer : layer < s.kvLayers (s.seq q).slot)
    (hhouse : s.rd WH_STAT.STATE (s.attnHouse (s.seq q)) ≠ 3) (hawake : s.houseAsleep (s.seq q).wh = false)
    (hread : ∀ id ∈ ((s.seq q).lists.getD layer []).take (pos / 64 + 1), (s.page id).readable) (hstrict : s.strictSeq (s.seq q) = false) :
    ∃ t dq dkv, exec (.decodeAttention q layer pos query key value ⟨MemErr.none, [], [], some dO⟩) s = .next t ∧
      t.outbox = s.outbox ++ [.attnGrad (s.attnHouse (s.seq q)) q layer pos dq dkv] ∧ t.seq q = s.seq q ∧ (∀ id, t.page id = s.page id) := by
  obtain ⟨t, dq, dkv, ht, hdone⟩ := State.attendBack_completes (query := query) (dO := dO) hread hstrict
  refine ⟨t, dq, dkv, ?_, hdone⟩
  rw [exec_decodeAttention hlive hlayer hhouse hawake, ← ht]
  exact if_neg (by simp only [hjob, hpos]; simp)

/-! ### FRESH_BLOCK_MERGE (R258) -/

theorem freshBlock_joins {head kv block row : Nat} {k v0 v1 : Nat × Nat} {ks xs ys : List Word32} (hlive : (s.seq q).live = true)
    (hphase : (s.seq q).phase = .running) (hpre : (s.seq q).prefill = true) (hfresh : s.freshAttn (s.seq q) = true)
    (hblock : 1024 * (block + 1) ≤ (s.seq q).first) (hk : s.attnRes row k = some ks) (hv0 : s.attnRes row v0 = some xs) (hv1 : s.attnRes row v1 = some ys)
    (hawake : s.houseAsleep (s.seq q).wh = false) (hread : ∀ id ∈ s.blockIds q layer block, (s.page id).bad = [] ∧ (s.page id).pin < 65535) :
    ∃ t, exec (.freshBlockMerge q layer pos head kv block row k (v0, v1)) s = .next t ∧
      (t.seq q).merges = (s.seq q).merges ++ [(layer, pos, head, block,
        blockState probLoop (s.blockPages q layer block) kv ks ((xs.drop (128 * kv)).take 128) ((ys.drop (128 * kv)).take 128))] ∧
      t.rd WH_MERGE_CNT.V (s.attnHouse (s.seq q)) = (s.rd WH_MERGE_CNT.V (s.attnHouse (s.seq q)) + 1) % 2 ^ 64 := by
  have hpins : ¬((s.blockIds q layer block).any fun id => decide (65535 ≤ (s.page id).pin)) = true := by
    simpa using fun id hid => (hread id hid).2
  show ∃ t, execFreshBlockMerge q layer pos head kv block row k (v0, v1) s = .next t ∧ _
  unfold execFreshBlockMerge
  dsimp only
  rw [if_neg (by simp [hlive, hphase, hpre, hfresh, hblock]), hk, hv0, hv1]
  dsimp only
  rw [State.badPage_none fun id hid => (hread id hid).1]
  dsimp only
  rw [if_neg (by simp [hawake]), if_neg hpins]
  generalize hb : blockState probLoop ((s.blockIds q layer block).map s.page) kv ks _ _ = b
  generalize hs0 : (s.modRow row _).pinReads (s.blockIds q layer block) _ = s0
  generalize hs1 : s0.setSeq q _ = s1
  have h0 : Keeps ⟨(.rows :: managerParts).contains, [KV_RELEASE_CNT].contains⟩ s s0 := hs0 ▸ (Keeps.refl _ s).under_modRow.under_pinReads
  have hcnt : s1.rd WH_MERGE_CNT.V (s.attnHouse (s.seq q)) = s.rd WH_MERGE_CNT.V (s.attnHouse (s.seq q)) := by
    rw [← hs1, State.rd_setSeq, h0.rd]
  have htold (u : State) : Keeps .house u (if b.bad then u.whFlag WH_ERR.NONFIN (s.attnHouse (s.seq q)) q else u) :=
    .ite (Keeps.refl _ u).quietWhFlag (Keeps.refl _ u)
  refine ⟨_, rfl, ?_, ?_⟩
  · rw [State.seq_congr (((htold _).part .seqs rfl).trans (State.bump_seqs ..)), ← hs1, State.seq_setSeq_same]
    exact congrArg (fun b => (s.seq q).merges ++ [(layer, pos, head, block, b)]) hb.symm
  · rw [(htold _).rd, State.rd_bump_val _ rfl, hcnt]
    rfl

end Sys2Proof.Machine
end

section
/-! PROOF. O11, parking, resumption and the configuration of a slot (R251 to R254, R264, R422), and the obligation. -/

namespace Sys2Proof.Machine

set_option Elab.async false

variable {s t : State} {q : Nat}

/-! ### PARK_SEQUENCE (R251, R252, R422) -/

theorem exec_parkSequence (hlive : (s.seq q).live = true) (hactive : (s.seq q).active = true) (hdue : (s.seq q).parkDue = true)
    (hphase : (s.seq q).phase = .idle) (hrecs : (s.seq q).recs = []) (hin : (s.seq q).inStep = false) :
    exec (.parkSequence q) s = .next (s.park q) := by
  show execParkSequence q s = _
  exact if_pos (by simp [hlive, hactive, hdue, hphase, hrecs, hin])

/-- The pages of a sequence as its image holds them (R251). -/
def State.parkedPages (s : State) (q : Nat) : List (List Page) :=
  (s.seq q).lists.map fun l => l.map fun id => if s.on KV_CTL.PARK_NARROW then ((s.page id).toKv4 (s.rd KV_CTL.KV4_HEAD)).1 else s.page id

/-- How a sequence whose pages are sound parks: into the room that fits, or not at all (R251, R252). -/
theorem State.park_eq (hbad : s.badPage (s.seq q).lists.flatten = none) {pages : List (List Page)} {need : Nat} (hpages : s.parkedPages q = pages)
    (hneed : parkGranules (s.kvHeads (s.seq q).slot) pages.flatten = need) :
    ∃ sat, s.park q = match s.roomFit (s.seq q).func need with
      | some gs =>
        let s2 := (s.seq q).lists.flatten.foldl State.refDown ((s.bump KV_PARK_CNT.V).bump KV_KV4_SAT_CNT.V 0 sat)
        ((s2.wr TEN_STORE_STAT.USED (s.seq q).func (s2.rd TEN_STORE_STAT.USED (s.seq q).func + need)).setSeq q
          { s.seq q with active := false, lists := [], image := some (pages, need), imageAt := gs, parkDue := false, inStep := false }).send
          (.storeRoom (s.seq q).func q (s.roomAddrs (s.seq q).func gs) true)
      | none => (s.kvFlag KV_ERR.PARK_FAIL q (s.seq q).slot).endSeq q 3 := by
  have himage : ((s.seq q).lists.map fun l => l.map fun id => if s.on KV_CTL.PARK_NARROW then (s.page id).toKv4 (s.rd KV_CTL.KV4_HEAD) else (s.page id, 0)).map
      (fun l => l.map (·.1)) = pages := by
    rw [← hpages, State.parkedPages, List.map_map]
    refine List.map_congr_left fun l _ => ?_
    rw [Function.comp_apply, List.map_map]
    exact List.map_congr_left fun id _ => apply_ite Prod.fst _ _ _
  unfold State.park
  dsimp only
  rw [hbad]
  dsimp only
  rw [himage, hneed]
  exact ⟨_, rfl⟩

theorem park_without_room {need : Nat} {pages : List (List Page)} (hbad : s.badPage (s.seq q).lists.flatten = none) (hlive : (s.seq q).live = true)
    (hpages : s.parkedPages q = pages) (hneed : parkGranules (s.kvHeads (s.seq q).slot) pages.flatten = need)
    (hfit : s.roomFit (s.seq q).func need = none) :
    (s.park q).on KV_ERR.PARK_FAIL = true ∧ ((s.seq q).job = none → ((s.park q).seq q).live = false) := by
  obtain ⟨_, hpark⟩ := State.park_eq hbad hpages hneed
  rw [hpark, hfit]
  dsimp only
  generalize hs1 : s.kvFlag KV_ERR.PARK_FAIL q (s.seq q).slot = s1
  have hflag : s1.on KV_ERR.PARK_FAIL = true := hs1 ▸ State.on_flagAt_val _ rfl _ _
  have hseq : s1.seq q = s.seq q := hs1 ▸ State.seq_congr (State.flagAt_seqs ..) q
  have hend : Keeps ⟨endParts.contains, endRegs.contains⟩ s1 (s1.endSeq q 3) := (Keeps.refl _ s1).under_endSeq
  refine ⟨hend.on.trans hflag, fun hjob => ?_⟩
  unfold State.endSeq
  rw [if_neg (by simp [hseq, hlive]), hseq, hjob]
  dsimp only
  rw [State.seq_freeSeq]
  rfl

/-- The granules that an image takes lie in the room (R422). -/
theorem State.roomFit_inside {f need b n a : Nat} {gs : List Nat} (hfit : s.roomFit f need = some gs) (hroom : (s.func f).room = some (b, n))
    (ha : a ∈ s.roomAddrs f gs) : b ≤ a ∧ a + 65536 ≤ b + 65536 * n := by
  obtain ⟨g, hg, rfl⟩ := List.mem_map.1 ha
  unfold State.roomFit at hfit
  rw [hroom] at hfit ⊢
  dsimp only at hfit
  split at hfit
  next h =>
    cases hfit
    have hlt : g < n := by simpa using List.all_eq_true.1 h.2 g hg
    simp only [Option.map_some, Option.getD_some]
    omega
  · cases hfit

theorem park_into_room {need : Nat} {pages : List (List Page)} {gs : List Nat} (hbad : s.badPage (s.seq q).lists.flatten = none)
    (hpages : s.parkedPages q = pages) (hneed : parkGranules (s.kvHeads (s.seq q).slot) pages.flatten = need)
    (hfit : s.roomFit (s.seq q).func need = some gs) :
    ((s.park q).seq q).active = false ∧ ((s.park q).seq q).parkDue = false ∧ ((s.park q).seq q).lists = [] ∧
      ((s.park q).seq q).image = some (pages, need) ∧ ((s.park q).seq q).imageAt = gs ∧
      (s.park q).rd TEN_STORE_STAT.USED (s.seq q).func = (s.rd TEN_STORE_STAT.USED (s.seq q).func + need) % 2 ^ 32 ∧
      (s.park q).rd KV_PARK_CNT.V = (s.rd KV_PARK_CNT.V + 1) % 2 ^ 64 ∧
      (s.park q).outbox = s.outbox ++ [.storeRoom (s.seq q).func q (s.roomAddrs (s.seq q).func gs) true] := by
  obtain ⟨sat, hpark⟩ := State.park_eq hbad hpages hneed
  rw [hpark, hfit]
  dsimp only
  generalize hs2 : (s.seq q).lists.flatten.foldl State.refDown _ = s2
  generalize hs3 : s2.wr TEN_STORE_STAT.USED (s.seq q).func _ = s3
  have h2 : Keeps .manager ((s.bump KV_PARK_CNT.V).bump KV_KV4_SAT_CNT.V 0 sat) s2 :=
    hs2 ▸ (Keeps.refl _ _).foldl fun _ _ h => h.under_pageChange
  have hused : s3.rd TEN_STORE_STAT.USED (s.seq q).func = (s.rd TEN_STORE_STAT.USED (s.seq q).func + need) % 2 ^ 32 := by
    rw [← hs3, State.rd_wr_val _ rfl, h2.rd, State.rd_bump_free _ rfl, State.rd_bump_free _ rfl]
    rfl
  have hcnt : s3.rd KV_PARK_CNT.V = (s.rd KV_PARK_CNT.V + 1) % 2 ^ 64 := by
    rw [← hs3, State.rd_wr_free _ rfl, h2.rd, State.rd_bump_free _ rfl, State.rd_bump_val _ rfl]
    rfl
  have hout : s3.outbox = s.outbox := by
    rw [← hs3, State.wr_outbox, h2.part .outbox rfl, State.bump_outbox, State.bump_outbox]
  rw [State.seq_congr (State.send_seqs ..), State.seq_setSeq_same]
  refine ⟨rfl, rfl, rfl, rfl, rfl, ?_, ?_, ?_⟩
  · rw [State.rd_send, State.rd_setSeq, hused]
  · rw [State.rd_send, State.rd_setSeq, hcnt]
  · rw [State.outbox_send, State.setSeq_outbox, hout]

/-! ### RESUME_SEQUENCE (R253) -/

theorem resumeSequence_completes {img ls} {g : Nat} {s1 : State} (hlive : (s.seq q).live = true) (himage : (s.seq q).image = some (img, g))
    (hwaking : (s.seq q).waking = false) (hold : s.oldestParked (s.seq q) = true) (hmay : s.mayActivate (s.seq q).func 1 = true)
    (hfits : s.needFits (s.seq q).func (s.seq q).slot (s.resumeNeed (s.seq q)) = true) (hrestore : s.restorePages q img = some (ls, s1)) :
    ∃ t, exec (.resumeSequence q true true) s = .next t ∧ (t.seq q).lists = ls ∧ (t.seq q).image = none ∧ (t.seq q).waking = true ∧
      (t.seq q).resumed = true ∧ t.pages = s1.pages ∧ t.rd TEN_STORE_STAT.USED (s.seq q).func = s.rd TEN_STORE_STAT.USED (s.seq q).func - g ∧
      t.rd KV_RESUME_CNT.V = (s.rd KV_RESUME_CNT.V + 1) % 2 ^ 64 := by
  have h1 : Keeps ⟨[.pages, .nextPage].contains, [KV_REMOTE_ALLOC_CNT].contains⟩ s s1 := (Keeps.refl _ s).under_restorePages.of hrestore
  show ∃ t, execResumeSequence q true true s = .next t ∧ _
  unfold execResumeSequence
  dsimp only
  rw [himage]
  dsimp only
  rw [if_neg (by simp [hlive, hwaking, hold, hmay, hfits]), if_neg (by simp), if_neg (by simp), hrestore]
  dsimp only
  generalize hs2 : s1.wr TEN_STORE_STAT.USED (s.seq q).func _ = s2
  generalize hs3 : s2.modSeq q _ = s3
  have hused : s2.rd TEN_STORE_STAT.USED (s.seq q).func = s.rd TEN_STORE_STAT.USED (s.seq q).func - g := by
    have hlt : s.rd TEN_STORE_STAT.USED (s.seq q).func < 2 ^ 32 := RField.of_lt TEN_STORE_STAT.USED _
    rw [← hs2, State.rd_wr_val _ rfl, h1.rd]
    exact Nat.mod_eq_of_lt (show s.rd TEN_STORE_STAT.USED (s.seq q).func - g < 2 ^ 32 by omega)
  have hcnt : s2.rd KV_RESUME_CNT.V = s.rd KV_RESUME_CNT.V := by rw [← hs2, State.rd_wr_free _ rfl, h1.rd]
  have hrd (F : RField) (i : Nat) : s3.rd F i = s2.rd F i := hs3 ▸ State.rd_setSeq ..
  have hpages : s3.pages = s1.pages := by
    rw [← hs3, State.modSeq, State.setSeq_pages, ← hs2, State.wr_pages]
  have hseqs (o : Out) : (((s3.bump KV_RESUME_CNT.V).send o).assayDone).seqs = s3.seqs :=
    (State.raise_seqs ..).trans ((State.send_seqs ..).trans (State.bump_seqs ..))
  refine ⟨_, rfl, ?_⟩
  rw [State.seq_congr (hseqs _), ← hs3, State.seq_modSeq_same, hs3]
  refine ⟨rfl, rfl, rfl, rfl, ?_, ?_, ?_⟩
  · exact (State.raise_pages ..).trans ((State.send_pages ..).trans ((State.bump_pages ..).trans hpages))
  · rw [State.assayDone, State.rd_raise _ rfl, State.rd_send, State.rd_bump_free _ rfl, hrd, hused]
  · rw [State.assayDone, State.rd_raise _ rfl, State.rd_send, State.rd_bump_val _ rfl, hrd, hcnt]
    rfl

/-! ### KV_SLOT_CFG (R245, R254, R264) -/

theorem bitsOf_mod {v lo wd n : Nat} (h : lo + wd ≤ n) : bitsOf (v % 2 ^ n) lo wd = bitsOf v lo wd := by
  refine Nat.eq_of_testBit_eq fun k => ?_
  rw [testBit_bitsOf, testBit_bitsOf, Nat.testBit_mod_two_pow]
  by_cases hk : k < wd
  · simp [hk, show lo + k < n by omega]
  · simp [hk]

theorem bitAt_mod {v k n : Nat} (h : k < n) : bitAt (v % 2 ^ n) k = bitAt v k := by
  rw [bitAt, bitsOf_mod h, bitAt]

theorem bitsOf_lt (v lo wd : Nat) : bitsOf v lo wd < 2 ^ wd := Nat.mod_lt _ (Nat.two_pow_pos wd)

/-- The fields of a word that is put together as KV_SLOT_CFG is. -/
theorem cfgWord_fields {qf kf fa ix h ly : Nat} (hqf : qf < 8) (hkf : kf < 8) (hfa : fa < 2) (hix : ix < 2) (hh : h < 16) (hly : ly < 256) :
    let w := BitVec.ofNat 64 (qf + 16 * kf + 256 * fa + 512 * ix + 2 ^ 16 * h + 2 ^ 24 * ly)
    KV_SLOT_CFG.QFMT.of w = qf ∧ KV_SLOT_CFG.KVFMT.of w = kf ∧ KV_SLOT_CFG.FRESH_ATTN.of w = fa ∧ KV_SLOT_CFG.INDEX.of w = ix ∧
      KV_SLOT_CFG.KVH_M1.of w = h ∧ KV_SLOT_CFG.LAYERS.of w = ly := by
  simp only [RField.of, bitsOf, BitVec.toNat_ofNat, KV_SLOT_CFG.QFMT, KV_SLOT_CFG.KVFMT, KV_SLOT_CFG.FRESH_ATTN, KV_SLOT_CFG.INDEX, KV_SLOT_CFG.KVH_M1,
    KV_SLOT_CFG.LAYERS]
  omega

theorem ofBool_eq_one (b : Bool) : (ofBool b == 1) = b := by cases b <;> rfl

theorem ofBool_lt (b : Bool) : ofBool b < 2 := by cases b <;> decide

/-- The fields of a KV_SLOT_CFG value under its own rules (R245, R254). -/
theorem cfgWrite_fields (old val : Nat) :
    let w := BitVec.ofNat 64 (cfgWrite old (val % 2 ^ 32))
    KV_SLOT_CFG.QFMT.of w = (if bitsOf val 0 3 ≤ 2 then bitsOf val 0 3 else bitsOf old 0 3) ∧ KV_SLOT_CFG.KVFMT.of w = bitsOf val 4 3 ∧
      KV_SLOT_CFG.FRESH_ATTN.of w = ofBool (bitAt val 8 && bitsOf val 4 3 == 5 && decide (bitsOf val 16 4 ≤ 7)) ∧
      KV_SLOT_CFG.INDEX.of w = bitsOf val 9 1 ∧ KV_SLOT_CFG.KVH_M1.of w = bitsOf val 16 4 ∧ KV_SLOT_CFG.LAYERS.of w = bitsOf val 24 8 := by
  unfold cfgWrite
  simp only [bitsOf_mod (show 0 + 3 ≤ 32 by decide), bitsOf_mod (show 4 + 3 ≤ 32 by decide), bitsOf_mod (show 16 + 4 ≤ 32 by decide),
    bitsOf_mod (show 9 + 1 ≤ 32 by decide), bitsOf_mod (show 24 + 8 ≤ 32 by decide), bitAt_mod (show 8 < 32 by decide)]
  refine cfgWord_fields ?_ (bitsOf_lt _ _ _) (ofBool_lt _) (bitsOf_lt _ _ _) (bitsOf_lt _ _ _) (bitsOf_lt _ _ _)
  split <;> exact bitsOf_lt _ _ 3

theorem kvSlotCfg_written {who : Who} {val m : Nat} (hopen : s.memOpen who = true) (hadm : whoAdmin who = true) (hsel : s.rd KV_SLOT_SEL.SLOT = m)
    (hstate : s.slState m ≤ 2) (hstrict : ∀ g, (s.slot m).next = some g → g.man.kvStrict = false) :
    ∃ t, exec (.kvSlotCfgWrite who val) s = .next t ∧ t.rd KV_SLOT_CFG.KVFMT m = bitsOf val 4 3 ∧ t.rd KV_SLOT_CFG.KVH_M1 m = bitsOf val 16 4 ∧
      t.rd KV_SLOT_CFG.LAYERS m = bitsOf val 24 8 ∧ t.on KV_SLOT_CFG.INDEX m = bitAt val 9 ∧
      t.rd KV_SLOT_CFG.QFMT m = (if bitsOf val 0 3 ≤ 2 then bitsOf val 0 3 else s.rd KV_SLOT_CFG.QFMT m) ∧
      t.on KV_SLOT_CFG.FRESH_ATTN m = (bitAt val 8 && bitsOf val 4 3 == 5 && decide (bitsOf val 16 4 ≤ 7)) := by
  show ∃ t, execKvSlotCfgWrite who val s = .next t ∧ _
  unfold execKvSlotCfgWrite
  rw [State.adminWrite_open hopen hadm]
  generalize hs1 : s.accessed who _ = s1
  have h1 : Keeps .door s s1 := hs1 ▸ (Keeps.refl .door s).accessed
  have hsel1 : s1.rd KV_SLOT_SEL.SLOT = m := h1.rd.trans hsel
  have hstate1 : s1.slState m = s.slState m := h1.rd
  dsimp only
  rw [hsel1, hstate1, h1.slot_eq, if_neg (by simpa [slWait] using hstate)]
  rw [if_neg (by cases hg : (s.slot m).next with
    | none => simp
    | some g => simp [hstrict g hg])]
  have hold : bitsOf (s1.getReg KV_SLOT_CFG m).toNat 0 3 = s.rd KV_SLOT_CFG.QFMT m := h1.rd (f := KV_SLOT_CFG.QFMT) (i := m)
  obtain ⟨hq, hk, hf, hi, hh, hl⟩ := cfgWrite_fields (s1.getReg KV_SLOT_CFG m).toNat val
  have hrd {F : RField} (hF : F.reg = KV_SLOT_CFG) (w : Word64) : (s1.setReg KV_SLOT_CFG m w).rd F m = F.of w := State.rd_setReg_same s1 hF m w
  refine ⟨_, rfl, (hrd rfl _).trans hk, (hrd rfl _).trans hh, (hrd rfl _).trans hl, ?_, ?_, ?_⟩
  · rw [State.on, hrd rfl, hi]
    rfl
  · rw [hrd rfl, hq, hold]
  · rw [State.on, hrd rfl, hf, ofBool_eq_one]

end Sys2Proof.Machine

namespace Sys2Proof

open Machine

/-- Settles O11: each command of attention and of the key-value cache (R230 to R264), from the lemmas of its reads, its page managers, its images and its
slot's configuration. -/
theorem keyValueCommandsComplete : Obligations.KeyValueCommandsComplete := fun _ =>
  ⟨fun _ _ _ _ _ _ hlive hphase hfirst hpos hlayer hhouse hawake hread hwide =>
      decodeAttention_stages hlive hphase hfirst hpos hlayer hhouse hawake hread hwide,
    fun _ _ _ _ _ _ _ hlive hjob hpos hlayer hhouse hawake hread hstrict =>
      decodeAttention_gradients hlive hjob hpos hlayer hhouse hawake hread hstrict,
    fun _ _ _ _ _ _ _ _ _ _ _ _ _ hlive hphase hpre hfresh hblock hk hv0 hv1 hawake hread =>
      freshBlock_joins hlive hphase hpre hfresh hblock hk hv0 hv1 hawake hread,
    fun _ _ _ hlive hl => ⟨refUp_counts hlive hl, refUp_saturates hlive hl, refDown_falls hlive hl⟩,
    fun _ hlive => ⟨pinUp_waits hlive, pinUp_counts hlive, pinDown_admits hlive, pinDown_falls hlive⟩,
    fun _ _ _ hlive hactive hdue hphase hrecs hin hbad hpages hneed =>
      have hexec := exec_parkSequence hlive hactive hdue hphase hrecs hin
      ⟨fun hfit => ⟨_, hexec, park_without_room hbad hlive hpages hneed hfit⟩,
        fun _ hfit => ⟨fun _ _ hroom _ ha => State.roomFit_inside hfit hroom ha, _, hexec, park_into_room hbad hpages hneed hfit⟩⟩,
    fun _ _ _ _ _ hlive himage hwaking hold hmay hfits hrestore => resumeSequence_completes hlive himage hwaking hold hmay hfits hrestore,
    fun _ _ _ hopen hadm hsel hstate hstrict => kvSlotCfg_written hopen hadm hsel hstate hstrict⟩

end Sys2Proof
end

section
/-! PROOF. O12, a map of slots that lists a slot twice: the seal of a slip without an operation is refused though the first slip in order has one (R268, R270). -/

namespace Sys2Proof.Machine

set_option Elab.async false

/-- A free slot whose body names an operation. -/
def freeSlip : OSlot := { OSlot.init with body := [(0, 1)] }

/-- A slip that was the sixth to be sealed. -/
def sixthSlip : OSlot := { OSlot.init with state := 1, order := 5 }

/-- A device at work that has counted one seal, where function 0 lists its slot 0 twice: free, as reads have it, and then TAKEN. -/
def slotListedTwice : State :=
  { State.reset.wr WDN_RST_CAUSE.STATE 0 1 with
    sched := { Sched.init with seals := 1 }
    funcs := [(0, { Func.init with slots := [(0, freeSlip), (0, sixthSlip)] })] }

/-- The seal word of ticket 7. -/
def sealSeven : Nat := 0xA5 * 2 ^ 56 + 7

theorem slotListedTwice_inService : slotListedTwice.memOpen (.func 0) = true ∧ slotListedTwice.takesWork = true ∧
    slotListedTwice.on HOST_FN_STAT.FENCED 0 = false ∧ slotListedTwice.on HOST_FN_STAT.D3 0 = false := by decide +kernel

/-- The slip that is next in order is slot 0, by its second entry. -/
theorem slotListedTwice_firstTaken : slotListedTwice.firstTaken = some (0, 0) := by decide +kernel

/-- What slot 0 reads as is its first entry: its operation is defined, and its order is before the next seal's. -/
theorem slotListedTwice_slot : (slotListedTwice.oslot 0 0).opKnown = true ∧ (slotListedTwice.oslot 0 0).order < slotListedTwice.sched.seals := by
  decide +kernel

/-- The slip that is sealed names no operation. -/
theorem slotListedTwice_sealed : (slotListedTwice.oslot 0 1).state = 0 ∧ leAt (slotListedTwice.oslot 0 1).bytes 0 1 = 0 := by decide +kernel

/-- The seal of slot 1 comes before the sixth, so its slip is the next in order and is refused. -/
theorem slotListedTwice_refuses {t : State} (ht : exec (.slipSeal 0 1 sealSeven) slotListedTwice = .next t) : (t.oslot 0 1).state = 3 := by
  have h : (match exec (.slipSeal 0 1 sealSeven) slotListedTwice with
    | .next t => (t.oslot 0 1).state == 3
    | _ => false) = true := by decide +kernel
  rw [ht] at h
  simpa using h

end Sys2Proof.Machine

namespace Sys2Proof

open Machine

/-- Refutes O12 by its clause of the seal (R268, R270): the statement is over every state, also one whose map of slots lists a slot twice. There the order of
arrival of a TAKEN slip is not the one that its slot reads as, and a slip that names no operation is refused at once where the clause has it wait. -/
theorem not_slipCommandsComplete : ¬ Obligations.SlipCommandsComplete := by
  unfold Obligations.SlipCommandsComplete
  intro h
  obtain ⟨hseal, -⟩ := h slotListedTwice 0 1
  obtain ⟨hopen, hwork, hfenced, hd3⟩ := slotListedTwice_inService
  obtain ⟨hfree, hop⟩ := slotListedTwice_sealed
  obtain ⟨hknown, hbefore⟩ := slotListedTwice_slot
  obtain ⟨t, ht, -, -, -, -, -, -, hrest⟩ := hseal sealSeven (by decide) (by decide) (by decide) hopen (by simp [hfree]) (by decide) hwork hfenced hd3
  rw [if_neg (by simp [hop])] at hrest
  obtain ⟨-, hwaits⟩ := hrest
  have htaken := hwaits (0, 0) slotListedTwice_firstTaken hknown hbefore
  exact absurd (slotListedTwice_refuses ht) (by simp [htaken])

end Sys2Proof
end
